-- ==== Sys2Proof/Word.lean ====
section
/-!
DEFINITION. The word types: a register word of 32 bits (R49) and a byte.
-/
namespace Sys2Proof

/-- A 32-bit register word (R49). -/
abbrev Word := BitVec 32

/-- A byte of memory. -/
abbrev Byte := BitVec 8

end Sys2Proof
end

