-- ==== Sys2Proof/Syntax.lean ====
section
/-!
DEFINITION. The commands.
-/
namespace Sys2Proof

/-- A fast-read form of the serial flash, named command-address-data lanes (R493). -/
inductive ReadForm where
  | f112
  | f122
  | f114
  | f144
  | f118
  | f188
  deriving DecidableEq, Repr

/-- What the SFDP read found in the flash's table (R493, R494): no signature; a table with no supported fast-read form; or the form chosen, with its opcode, dummy clocks and mode byte. A table also gives the address width, log2 of the page size and the polling it describes. -/
inductive SfdpResult where
  | absent
  | noForm (addr4 : Bool) (page : Nat) (poll : Word)
  | form (f : ReadForm) (op : Byte) (dummy : BitVec 5) (modeByte : Bool) (addr4 : Bool) (page : Nat) (poll : Word)
  deriving DecidableEq, Repr

/-- A reply as the decoder gives it: its bits from the first data bit to the last, whether they kept the coding rules, the reply power at the outputs of sets A and B in 2^-64 mW (R175), the measured subcarrier period in ps (R98), and the samples a berth keeps (R110). -/
structure Reply where
  bits : List Bool
  coded : Bool
  powerA : BitVec 64
  powerB : BitVec 64
  tpri : BitVec 32
  samples : List Word
  deriving DecidableEq, Repr

/-- One measurement of the mask analysis: the carrier and mask point it concerns and the ratio of the point's power to the carrier's, signed, in 0.01 dBc (R211). -/
structure MaskMeas where
  car : Fin 4
  point : Fin 8
  ratio : BitVec 32
  deriving DecidableEq, Repr

/-- An image word of a calibration result, with the path it concerns where it concerns one (R285, R287). -/
structure CalWord where
  path : Option Nat
  index : Nat
  value : Word
  deriving DecidableEq, Repr

/-- What a calibration compares between its two passes (R268): a gain or level in 0.01 dB, a phase in 0.01°, a frequency in 0.001 ppm. -/
inductive CalKind where
  | gain
  | phase
  | freq
  deriving DecidableEq, Repr

/-- The difference of one quantity between the passes, signed, with the path and grid point it concerns (0xFF: none). -/
structure CalDiff where
  kind : CalKind
  path : Nat
  point : Nat
  diff : BitVec 32
  deriving DecidableEq, Repr

/-- What the passes of a calibration procedure have measured (R268 … R283): the differences, a correction out of range, whether the tone at CAL_RF_IN was missing, the DPD drive peaks below full scale in 0.01 dB by path, the results as image words, and the offsets of ACLK and CAL_RF_IN in 0.001 ppm. -/
structure CalMeas where
  diffs : List CalDiff
  range : Option (Nat × Nat)
  noRef : Bool
  drive : List (Nat × Nat)
  words : List CalWord
  aclk : BitVec 32
  ref : Option (BitVec 32)
  deriving DecidableEq, Repr

/-- What a visit of the dredger finds in a row (R303): nothing, a corrected word, or an uncorrectable 64-bit word by its place in the row; `proc` is the procedure whose results a word of BANK_12–13 holds. -/
inductive RowFind where
  | clean
  | corrected
  | uncorrectable (word : Fin 16) (proc : Fin 7)
  deriving DecidableEq, Repr

/-- What the check bits of a word show as it is read (R301, R302). -/
inductive WordFind where
  | clean
  | corrected
  | uncorrectable
  deriving DecidableEq, Repr

/-- What the check bits of a descriptor's four 64-bit words show as it is taken (R302): the words corrected and the words lost. -/
structure DescFind where
  corrected : BitVec 4
  lost : BitVec 4
  deriving DecidableEq, Repr

/-- A defect of a path's redundant elements: an ADC slice, a DAC cell or a driver cell. -/
inductive ElemFault where
  | slice (k : Fin 17)
  | dac (k : Fin 67)
  | driver (k : Fin 24)
  deriving DecidableEq, Repr

/-- What one step of the self-test finds (R308): failing pilots, rows by bank and row, and elements by path. -/
structure SelfTestFinds where
  pilots : BitVec 20
  rows : List (Fin 14 × Fin 8192)
  elems : List (Fin 64 × ElemFault)
  deriving DecidableEq, Repr

/-- What every sequenced frame brings with it (R327): the port it arrives on, SEQ, LEN and SRC of its header, and ACK and CREDIT of its trailer. -/
structure KlHead where
  port : Fin 5
  seq : BitVec 8
  len : Fin 66
  src : BitVec 16
  ack : BitVec 8
  creditClass : BitVec 2
  credits : BitVec 6
  deriving DecidableEq, Repr

/-- Whom a frame that runs downward is for: this device, a device below down-port KL_(2 + k), or, broadcast, this device and every device below. A route's length is not in the header (R327, assumption 20). -/
inductive KlTo where
  | here
  | down (k : Fin 3)
  | all
  deriving DecidableEq, Repr

/-- Why a port fails (R334): signal lost, invalid headers, no TICK, a frame resent 4 times; or, while it trains, a step that does not complete. -/
inductive KlCause where
  | signal
  | headers
  | noTick
  | resends
  deriving DecidableEq, Repr

/-- The payload of a TRAIN frame (R333). -/
structure KlTrain where
  role : Fin 4
  port : Fin 5
  link : Byte
  calFmt : Byte
  msgFmt : Byte
  number : BitVec 16
  identity : BitVec 64
  deriving DecidableEq, Repr

/-- What a GROUP frame tells a member (R351 … R355): a schedule, an accepted result as correction in 0.01° and slope in 1/256 tick, a rejection with its reason, that a member's failover or drift makes GROUP_CAL due, or whether the member's CAL_FMT equals the leader's. -/
inductive KlGroupMsg where
  | schedule
  | accepted (corr slope : BitVec 16)
  | rejected (reason : Byte)
  | due
  | version (same : Bool)
  deriving DecidableEq, Repr

/-- What the harbourmaster learns of a group's members before a GROUP_CAL (R351 step 1), by rank. -/
structure KlGroupFinds where
  notIdle : List (Fin 64)
  noProfile : List (Fin 64)
  noPaths : List (Fin 64)
  deriving DecidableEq, Repr

/-- What a GROUP_CAL has measured: the phase difference between its two passes by rank, in 0.01°, a member whose die moved by more than 2 °C, a member whose carrier left OFF or whose paths were lost, and the correction and slope for this device where it is a member (R268, R351, R352). -/
structure KlGroupMeas where
  diffs : List (Fin 64 × BitVec 16)
  temp : Option (Fin 64)
  busy : Option (Fin 64)
  lost : Option (Fin 64)
  corr : BitVec 16
  slope : BitVec 16
  deriving DecidableEq, Repr

/-- Why a lane fails (R366): signal lost, invalid headers, an ALIGN block missing or wrong; while it trains, a step that does not complete. -/
inductive PlCause where
  | signal
  | headers
  | align
  deriving DecidableEq, Repr

/-- What is wrong with a discarded packet (R371): its CRC, or TYPE, VC or direction. -/
inductive PlDefect where
  | crc
  | other
  deriving DecidableEq, Repr

/-- An entry of a REG_REQ packet (R375): OP, word address and data. -/
structure RegEntry where
  op : BitVec 2
  word : BitVec 24
  data : Word
  deriving DecidableEq, Repr

/-- The stream a packet is formed for (R379): the samples of 32 instants of the path stream or of SESSION_n's snapshot, path by path for each instant; or the beam values of 64 instants, I and Q of 24 bits each: at each instant the sessions in ascending order, set A before set B. -/
inductive StreamData where
  | path (samples : List Word)
  | beam (values : List (BitVec 24 × BitVec 24))
  | snap (n : Fin 16) (samples : List Word) (last : Bool)
  deriving DecidableEq, Repr

/-- A wake source as it reaches the always-on logic (R421): the level at WAKE_IN_k changes, HCS_N falls, the SSP_S select is asserted, a signal appears on a PL lane or a Kloit up-port. -/
inductive WakeEvent where
  | pin (k : Fin 4) (high : Bool)
  | hostSelect
  | sspsSelect
  | laneSignal
  | portSignal
  deriving DecidableEq, Repr

/-- What is released (R393): an island, numbered 0 host, 1 pilot, 2 converter, 3 DSP, with the ACLK cycles slept where a sleep ends (R457), or the block of a page. -/
inductive ReleaseTo where
  | island (i : Fin 4) (cycles : Nat)
  | block (p : Fin 256)
  deriving DecidableEq, Repr

/-- A register write as it comes from outside: the value and the byte enables (R29). -/
structure RegWrite where
  value : Word
  be : BitVec 4
  deriving DecidableEq, Repr

/-- What a completing shutdown belongs to (R64). -/
inductive ShutdownOf where
  | path (p : Fin 64)
  | session (n : Fin 16)
  | pilot (p : Fin 20)
  | carrier (c : Fin 4)
  | lane (l : Fin 5)
  | port (k : Fin 5)
  deriving DecidableEq, Repr

/-- The groups of test-port instructions (R529): those that leave the RF alone, EXTEST with EXTEST_PULSE and EXTEST_TRAIN, and Selnum's own. -/
inductive JtagGroup where
  | basic
  | extest
  | selnum
  deriving DecidableEq, Repr

/-- A configuration word of the interrupt controller (R514). -/
inductive IntcWord where
  | enLo
  | enHi
  | outCfg
  | route (i : Fin 8)
  deriving DecidableEq, Repr

/-- A configuration word of a ring (R127). -/
inductive RingWord where
  | cfg
  | cbase
  | mbase
  deriving DecidableEq, Repr

/-- Why a pilot faults (R297): a stall, a parity error, or an uncorrectable error in its area. -/
inductive PilotCause where
  | stall
  | parity
  | ecc
  deriving DecidableEq, Repr

/-- A command: one row of the opcode table, with what the outside brings along with it. A row that names an event whose time has not come, or that its block does not wait for, leaves the device as it is. -/
inductive Instr where
  /-- REGISTER_WRITE (R44). -/
  | registerWrite (page : Fin 256) (off : Fin 1024) (w : RegWrite)
  /-- OFF_PAGE_READ (R58). -/
  | offPageRead (page : Fin 256) (off : Fin 1024)
  /-- MEMORY_WINDOW_READ (R38). -/
  | memoryWindowRead (word : BitVec 24) (find : WordFind)
  /-- MEMORY_WINDOW_WRITE (R37). -/
  | memoryWindowWrite (word : BitVec 24) (w : RegWrite)
  /-- WAIT_LIMIT_EXPIRY (R39). -/
  | waitLimitExpiry (link : Bool)
  /-- POSTED_WRITE_APPLIED (R46). -/
  | postedWriteApplied (isl : Fin 5) (finds : KlGroupFinds)
  /-- WRITE_ACK_RECEIVED (R46). -/
  | writeAckReceived (page : Fin 256)
  /-- MIRROR_UPDATE (R41). -/
  | mirrorUpdate (page : Fin 256) (offs : List (Fin 1024)) (noise : Word)
  /-- IRQ_SET_WRITE (R55). -/
  | irqSetWrite (page : Fin 256) (w : RegWrite)
  /-- IRQ_STAT_CLEAR (R48). -/
  | irqStatClear (page : Fin 256) (w : RegWrite)
  /-- IRQ_EN_WRITE (R55). -/
  | irqEnWrite (page : Fin 256) (w : RegWrite)
  /-- PAGE_ENABLE (R64). -/
  | pageEnable (page : Fin 256) (w : RegWrite)
  /-- PAGE_DISABLE (R65). -/
  | pageDisable (page : Fin 256) (w : RegWrite)
  /-- SHUTDOWN_COMPLETE (R66). -/
  | shutdownComplete (x : ShutdownOf)
  /-- BLOCK_RESET_ASSERT (R391). -/
  | blockResetAssert (page : Fin 256) (w : RegWrite)
  /-- BLOCK_RESET_RELEASE (R393). -/
  | blockResetRelease (page : Fin 256) (w : RegWrite)
  /-- CLOCK_STOP_REQUEST (R54). -/
  | clockStopRequest (page : Fin 256) (run : Bool) (w : RegWrite)
  /-- POWER_REMOVE_REQUEST (R54). -/
  | powerRemoveRequest (page : Fin 256) (power : Bool) (w : RegWrite)
  /-- IGN_COUNT_CLEAR_PAGE (R69). -/
  | ignCountClearPage (w : RegWrite)
  /-- SESSION_ENABLE (R80). -/
  | sessionEnable (n : Fin 16) (w : RegWrite)
  /-- SESSION_ENABLE_COMPLETE (R79). -/
  | sessionEnableComplete (n : Fin 16)
  /-- SESSION_DISABLE (R81). -/
  | sessionDisable (n : Fin 16) (w : RegWrite)
  /-- SESSION_SHUTDOWN_COMPLETE (R81). -/
  | sessionShutdownComplete (n : Fin 16)
  /-- COMMAND_COMMIT (R82). -/
  | commandCommit (n : Fin 16)
  /-- COMMAND_START (R98). -/
  | commandStart (n : Fin 16) (noiseA : BitVec 16) (noiseB : BitVec 16)
  /-- COMMAND_END (R98). -/
  | commandEnd (n : Fin 16)
  /-- REPLY_WINDOW_OPEN (R99). -/
  | replyWindowOpen (n : Fin 16)
  /-- REPLY_WINDOW_CLOSE (R99). -/
  | replyWindowClose (n : Fin 16)
  /-- PREAMBLE_DETECT (R103). -/
  | preambleDetect (n : Fin 16) (a : BitVec 16) (b : BitVec 16) (early : Bool)
  /-- REPLY_DECISION (R100). -/
  | replyDecision (n : Fin 16) (r : Reply)
  /-- EMPTY_SLOT_DECISION (R102). -/
  | emptySlotDecision (n : Fin 16)
  /-- RECEPTION_FAILED (R107). -/
  | receptionFailed (n : Fin 16) (tpri : BitVec 32)
  /-- ROUND_START (R88). -/
  | roundStart (n : Fin 16)
  /-- ROUND_END (R91). -/
  | roundEnd (n : Fin 16)
  /-- ACCESS_SEQUENCE_START (R94). -/
  | accessSequenceStart (n : Fin 16)
  /-- ACCESS_REPLY_DECISION (R95). -/
  | accessReplyDecision (n : Fin 16) (r : Reply)
  /-- DELAYED_REPLY_TIMEOUT (R96). -/
  | delayedReplyTimeout (n : Fin 16)
  /-- HOLD_ENTER (R84). -/
  | holdEnter (n : Fin 16)
  /-- HOLD_RELEASE (R79). -/
  | holdRelease (n : Fin 16)
  /-- TRIG_IN_EDGE (R118). -/
  | trigInEdge (k : Fin 4) (high : Bool)
  /-- TRIG_DISABLE_WRITE (R79). -/
  | trigDisableWrite (n : Fin 16) (w : RegWrite)
  /-- BERTH_FREEZE_WRITE (R112). -/
  | berthFreezeWrite (n : Fin 16) (w : RegWrite)
  /-- BERTH_RELEASE_WRITE (R112). -/
  | berthReleaseWrite (n : Fin 16) (w : RegWrite)
  /-- SESSION_CLEAR_ROUNDS (R76). -/
  | sessionClearRounds (n : Fin 16) (w : RegWrite)
  /-- SESSION_CLEAR_SINGS (R76). -/
  | sessionClearSings (n : Fin 16) (w : RegWrite)
  /-- SESSION_CLEAR_ERRORS (R76). -/
  | sessionClearErrors (n : Fin 16) (w : RegWrite)
  /-- SESSION_CLEAR_SETS (R76). -/
  | sessionClearSets (n : Fin 16) (w : RegWrite)
  /-- SESSION_CLEAR_TRIG_OVF (R76). -/
  | sessionClearTrigOvf (n : Fin 16) (w : RegWrite)
  /-- CTAIL_WRITE (R124). -/
  | ctailWrite (n : Fin 16) (w : RegWrite)
  /-- MHEAD_WRITE (R123). -/
  | mheadWrite (n : Fin 16) (w : RegWrite)
  /-- RING_CONFIG_WRITE (R127). -/
  | ringConfigWrite (n : Fin 16) (which : RingWord) (w : RegWrite)
  /-- MESSAGE_WRITE (R125). -/
  | messageWrite (n : Fin 16)
  /-- WAITING_MESSAGE_RELEASE (R147). -/
  | waitingMessageRelease (n : Fin 16)
  /-- DESCRIPTOR_TAKE (R135). -/
  | descriptorTake (n : Fin 16) (find : DescFind)
  /-- DESCRIPTOR_START (R137). -/
  | descriptorStart (n : Fin 16)
  /-- INVENTORY (R88). -/
  | inventory (n : Fin 16)
  /-- ACCESS (R132). -/
  | access (n : Fin 16)
  /-- TEMPLATE (R115). -/
  | template (n : Fin 16)
  /-- BEAM (R133). -/
  | beam (n : Fin 16)
  /-- SURVEY (R187). -/
  | survey (n : Fin 16)
  /-- SNAPSHOT (R134). -/
  | snapshot (n : Fin 16)
  /-- SNAPSHOT_CAPTURE_START (R134). -/
  | snapshotCaptureStart (n : Fin 16)
  /-- NOISE (R134). -/
  | noise (n : Fin 16)
  /-- NOISE_MEASURE_END (R134). -/
  | noiseMeasureEnd (n : Fin 16) (a : BitVec 16) (b : BitVec 16) (levels : List (BitVec 16))
  /-- STOP (R138). -/
  | stop (n : Fin 16) (find : DescFind)
  /-- FENCE (R138). -/
  | fence (n : Fin 16) (find : DescFind)
  /-- FENCE_COMPLETE (R138). -/
  | fenceComplete (n : Fin 16)
  /-- SELECT_SET (R138). -/
  | selectSet (n : Fin 16) (find : DescFind)
  /-- TURN_END (R139). -/
  | turnEnd (n : Fin 16)
  /-- MANIFEST_AGE_OUT (R154). -/
  | manifestAgeOut (entry : Fin 65536)
  /-- MAN_PIN (R158). -/
  | manPin (w : RegWrite)
  /-- MAN_UNPIN (R158). -/
  | manUnpin (w : RegWrite)
  /-- MAN_REMOVE (R158). -/
  | manRemove (w : RegWrite)
  /-- MAN_THRESH_WRITE (R159). -/
  | manThreshWrite (w : RegWrite)
  /-- WEIGHTS_TAKE_EFFECT (R133). -/
  | weightsTakeEffect (n : Fin 16)
  /-- DIRECTION_ESTIMATE (R182). -/
  | directionEstimate (z : List (BitVec 32 × BitVec 32)) (noise : BitVec 64)
  /-- SURVEY_SECTOR (R187). -/
  | surveySector (n : Fin 16)
  /-- CARRIER_ENABLE (R198). -/
  | carrierEnable (c : Fin 4) (w : RegWrite)
  /-- SYNTH_WAIT_TIMEOUT (R199). -/
  | synthWaitTimeout (c : Fin 4)
  /-- LISTEN_END (R226). -/
  | listenEnd (c : Fin 4) (power : BitVec 16)
  /-- LBT_RETRY_EXPIRY (R226). -/
  | lbtRetryExpiry (c : Fin 4)
  /-- RAMP_UP_END (R198). -/
  | rampUpEnd (c : Fin 4)
  /-- SETTLE_END (R198). -/
  | settleEnd (c : Fin 4)
  /-- CARRIER_DISABLE (R204). -/
  | carrierDisable (c : Fin 4) (w : RegWrite)
  /-- HOP (R202). -/
  | hop (c : Fin 4) (w : RegWrite)
  /-- AUTO_HOP (R225). -/
  | autoHop (c : Fin 4)
  /-- DRAIN_QUIET (R203). -/
  | drainQuiet (c : Fin 4)
  /-- DRAIN_CUT (R203). -/
  | drainCut (c : Fin 4)
  /-- RAMP_DOWN_END (R204). -/
  | rampDownEnd (c : Fin 4)
  /-- RETUNE_END (R202). -/
  | retuneEnd (c : Fin 4)
  /-- DWELL_LIMIT_DRAIN (R224). -/
  | dwellLimitDrain (c : Fin 4)
  /-- OCCUPANCY_LIMIT_DRAIN (R224). -/
  | occupancyLimitDrain (c : Fin 4)
  /-- BARRED_RELEASE (R224). -/
  | barredRelease (c : Fin 4)
  /-- BREAKWATER_DWELL_END (R211). -/
  | breakwaterDwellEnd (meas : List MaskMeas)
  /-- PATH_ENABLE (R251). -/
  | pathEnable (p : Fin 64) (w : RegWrite)
  /-- POWERING_END (R253). -/
  | poweringEnd (p : Fin 64)
  /-- RESTORING_END (R253). -/
  | restoringEnd (p : Fin 64)
  /-- CHECKING_END (R251). -/
  | checkingEnd (p : Fin 64) (nf : BitVec 16) (ok : Bool)
  /-- JOIN_RAMP_END (R251). -/
  | joinRampEnd (p : Fin 64)
  /-- PATH_DISABLE (R252). -/
  | pathDisable (p : Fin 64) (w : RegWrite)
  /-- PATH_RAMP_DOWN_END (R252). -/
  | pathRampDownEnd (p : Fin 64)
  /-- POWER_DOWN_END (R252). -/
  | powerDownEnd (p : Fin 64)
  /-- PATH_FAULT (R254). -/
  | pathFault (p : Fin 64) (causes : BitVec 7)
  /-- TXPWR_WRITE (R238). -/
  | txpwrWrite (p : Fin 64) (w : RegWrite)
  /-- AGC_DOWN_STEP (R244). -/
  | agcDownStep (p : Fin 64) (peak : BitVec 8)
  /-- CANC_TRACK (R240). -/
  | cancTrack (p : Fin 64) (c : Fin 4) (null : Word) (resid : BitVec 16) (depth : BitVec 16)
  /-- SLICE_FAULT (R294). -/
  | sliceFault (p : Fin 64) (slice : Fin 17)
  /-- DAC_CELL_FAULT (R293). -/
  | dacCellFault (p : Fin 64) (cell : Fin 67)
  /-- DRIVER_CELL_FAULT (R294). -/
  | driverCellFault (p : Fin 64) (cell : Fin 24)
  /-- PATH_CLEAR_COUNTS (R259). -/
  | pathClearCounts (p : Fin 64) (w : RegWrite)
  /-- PATH_CLEAR_FAULTS (R259). -/
  | pathClearFaults (p : Fin 64) (w : RegWrite)
  /-- CAL_DPD (R283). -/
  | calDpd (path : Byte)
  /-- CAL_PROC_COMPLETE (R269). -/
  | calProcComplete (m : CalMeas)
  /-- BOUNDARY_APPLY (R272). -/
  | boundaryApply (gaps : BitVec 4)
  /-- TBL_DATA_WRITE (R287). -/
  | tblDataWrite (w : RegWrite)
  /-- PILOT_FAULT (R297). -/
  | pilotFault (p : Fin 20) (cause : PilotCause)
  /-- FAILOVER_RESUME (R297). -/
  | failoverResume (n : Fin 16)
  /-- PILOT_TEST_END (R299). -/
  | pilotTestEnd (p : Fin 20) (pass : Bool)
  /-- PILOT_MOVE_TO (R300). -/
  | pilotMoveTo (p : Fin 20) (w : RegWrite)
  /-- MOVE_AT_QUIET_POINT (R300). -/
  | moveAtQuietPoint (n : Fin 16)
  /-- MOVE_COMPLETE (R300). -/
  | moveComplete (n : Fin 16)
  /-- DREDGER_ROW_VISIT (R303). -/
  | dredgerRowVisit (bank : Fin 14) (row : Fin 8192) (find : RowFind)
  /-- SELFTEST_STEP_END (R308). -/
  | selftestStepEnd (x : SelfTestFinds)
  /-- MARK_DEAD (R305). -/
  | markDead (w : RegWrite)
  /-- REVIVE (R307). -/
  | revive (w : RegWrite)
  /-- PILOT_ENABLE (R318). -/
  | pilotEnable (p : Fin 20) (w : RegWrite)
  /-- PILOT_DISABLE (R318). -/
  | pilotDisable (p : Fin 20) (w : RegWrite)
  /-- PILOT_COPY_FROM (R318). -/
  | pilotCopyFrom (p : Fin 20) (w : RegWrite)
  /-- PILOT_VERIFY (R314). -/
  | pilotVerify (p : Fin 20) (w : RegWrite)
  /-- PILOT_SELFTEST (R318). -/
  | pilotSelftest (p : Fin 20) (w : RegWrite)
  /-- PILOT_IMG_DATA_WRITE (R318). -/
  | pilotImgDataWrite (p : Fin 20) (w : RegWrite)
  /-- PILOT_IMG_DATA_READ (R316). -/
  | pilotImgDataRead (p : Fin 20)
  /-- IMAGE_LOAD_IDLE (R318). -/
  | imageLoadIdle (p : Fin 20)
  /-- IMAGE_COPY_DONE (R318). -/
  | imageCopyDone (p : Fin 20)
  /-- IMAGE_CHECK_END (R314). -/
  | imageCheckEnd (p : Fin 20)
  /-- PILOT_CLEAR_COUNTS (R316). -/
  | pilotClearCounts (p : Fin 20) (w : RegWrite)
  /-- PILOT_CLEAR_CKPTS (R316). -/
  | pilotClearCkpts (p : Fin 20) (w : RegWrite)
  /-- KL_PORT_ENABLE (R333). -/
  | klPortEnable (k : Fin 5) (w : RegWrite)
  /-- KL_SIGNAL_DETECT (R333). -/
  | klSignalDetect (k : Fin 5)
  /-- KL_BLOCK_LOCK (R333). -/
  | klBlockLock (k : Fin 5)
  /-- KL_MEASURE_END (R333). -/
  | klMeasureEnd (k : Fin 5)
  /-- KL_PORT_DISABLE (R333). -/
  | klPortDisable (k : Fin 5) (w : RegWrite)
  /-- KL_DRAIN_END (R333). -/
  | klDrainEnd (k : Fin 5)
  /-- KL_PORT_FAULT (R334). -/
  | klPortFault (k : Fin 5) (cause : KlCause)
  /-- KL_RETRAIN_TIMER (R334). -/
  | klRetrainTimer (k : Fin 5)
  /-- KL_TICK (R325). -/
  | klTick (k : Fin 5) (tide : BitVec 48)
  /-- KL_TRIG_BLOCK (R343). -/
  | klTrigBlock (k : Fin 5) (ch : Fin 4) (low : BitVec 48)
  /-- KL_DLY (R340). -/
  | klDly (k : Fin 5)
  /-- KL_NAK (R328). -/
  | klNak (k : Fin 5)
  /-- KL_REPLAY_TIMEOUT (R328). -/
  | klReplayTimeout (k : Fin 5)
  /-- KL_BAD_FRAME (R328). -/
  | klBadFrame (k : Fin 5)
  /-- KL_NULL_FRAME (R330). -/
  | klNullFrame (h : KlHead)
  /-- KL_TRAIN_FRAME (R333). -/
  | klTrainFrame (k : Fin 5) (t : KlTrain)
  /-- CENSUS_REQ (R336). -/
  | censusReq (h : KlHead) (gen : Byte) (depth : BitVec 4) (route : BitVec 16)
  /-- CENSUS_REC (R336). -/
  | censusRec (h : KlHead) (r : List Byte)
  /-- ASSIGN (R337). -/
  | assign (h : KlHead) (way : KlTo) (number : Option (Fin 2048)) (gen : Byte) (cp : Byte) (hostFormat : Byte) (altOk : Bool)
  /-- VERSION_FRAME (R355). -/
  | versionFrame (h : KlHead) (cp : Byte)
  /-- RESET_FRAME (R344). -/
  | resetFrame (h : KlHead) (way : KlTo) (subtree : Bool)
  /-- EVENT_FRAME (R347). -/
  | eventFrame (h : KlHead) (msg : List Byte)
  /-- ACK_E2E (R347). -/
  | ackE2e (h : KlHead) (way : KlTo) (next : BitVec 32)
  /-- PAGE_REQ (R344). -/
  | pageReq (h : KlHead) (way : KlTo) (op : BitVec 2) (word : BitVec 24) (data : Word)
  /-- PAGE_RSP (R344). -/
  | pageRsp (h : KlHead) (data : Word) (hops : Byte)
  /-- MESSAGE_FRAME (R347). -/
  | messageFrame (h : KlHead) (origin : BitVec 16) (oseq : BitVec 32) (count : Byte) (msgs : List Byte)
  /-- DELAY_FRAME (R340). -/
  | delayFrame (h : KlHead) (t1 : BitVec 72) (t2 : BitVec 72) (t3 : BitVec 72)
  /-- GROUP_FRAME (R351). -/
  | groupFrame (h : KlHead) (way : KlTo) (m : KlGroupMsg)
  /-- UNKNOWN_FRAME (R331). -/
  | unknownFrame (h : KlHead)
  /-- DELAY_EXCHANGE_START (R340). -/
  | delayExchangeStart (k : Fin 5)
  /-- TRIG_FIRE_CMD (R343). -/
  | trigFireCmd (w : RegWrite)
  /-- RA_TIMEOUT (R344). -/
  | raTimeout (link : Bool)
  /-- MESSAGE_FRAME_SEND (R345). -/
  | messageFrameSend (n : Fin 16)
  /-- GROUP_CAL (R351). -/
  | groupCal (w : RegWrite) (finds : KlGroupFinds)
  /-- GROUP_CAL_END (R352). -/
  | groupCalEnd (m : KlGroupMeas)
  /-- PL_LANE_ENABLE (R364). -/
  | plLaneEnable (l : Fin 5) (w : RegWrite)
  /-- PL_SIGNAL_DETECT (R364). -/
  | plSignalDetect (l : Fin 5)
  /-- PL_BLOCK_LOCK (R364). -/
  | plBlockLock (l : Fin 5)
  /-- PL_LANE_ALIGNED (R365). -/
  | plLaneAligned (l : Fin 5)
  /-- PL_LANE_DISABLE (R364). -/
  | plLaneDisable (l : Fin 5) (w : RegWrite)
  /-- PL_DRAIN_END (R364). -/
  | plDrainEnd (l : Fin 5)
  /-- PL_LANE_FAULT (R366). -/
  | plLaneFault (l : Fin 5) (cause : PlCause)
  /-- PL_LANE_RETRY (R367). -/
  | plLaneRetry (l : Fin 5)
  /-- PL_ALIGN_BLOCK (R362). -/
  | plAlignBlock (l : Fin 5) (position : Fin 5) (skew : BitVec 16)
  /-- PL_ACK (R372). -/
  | plAck (seq : BitVec 16)
  /-- PL_CREDIT (R374). -/
  | plCredit (counts : Vector (BitVec 12) 4)
  /-- PL_REMAP_BLOCK (R368). -/
  | plRemapBlock (position : Fin 4) (l : Fin 5)
  /-- PL_REMAP_REQ (R366). -/
  | plRemapReq (l : Fin 5)
  /-- PL_CREDIT_STALL (R374). -/
  | plCreditStall (vc : Fin 4)
  /-- PL_BAD_PACKET (R371). -/
  | plBadPacket (vc : Fin 4) (len : BitVec 16) (why : PlDefect)
  /-- REG_REQ (R376). -/
  | regReq (seq : BitVec 16) (tag : BitVec 16) (device : BitVec 16) (entries : List RegEntry)
  /-- MSG_PACKET_SEND (R377). -/
  | msgPacketSend (src : Option (Fin 16))
  /-- STREAM_CTRL_WRITE (R380). -/
  | streamCtrlWrite (w : RegWrite)
  /-- STREAM_PACKET (R379). -/
  | streamPacket (x : StreamData) (tide : BitVec 64) (full : Bool)
  /-- BROWN_OUT (R385). -/
  | brownOut (rails : BitVec 9)
  /-- STRAP_SAMPLE_DONE (R398). -/
  | strapSampleDone (codes : Vector (Fin 16) 8) (unstable : BitVec 8)
  /-- ISLAND_RELEASE (R393). -/
  | islandRelease (x : ReleaseTo)
  /-- CLOCK_GOOD_CHANGE (R394). -/
  | clockGoodChange (isl : Fin 5) (good : Bool)
  /-- BOOT_IMAGE_DONE (R408). -/
  | bootImageDone (a : List Byte) (b : List Byte) (sfdp : SfdpResult)
  /-- OPT_PROGRAM_DONE (R403). -/
  | optProgramDone (ok : Bool)
  /-- OPT_APPLY_DONE (R404). -/
  | optApplyDone (fail : Option Nat)
  /-- OPT_IMG_DATA_ACCESS (R413). -/
  | optImgDataAccess (w : Option RegWrite)
  /-- WAKE_INPUT_EVENT (R421). -/
  | wakeInputEvent (e : WakeEvent)
  /-- WAKE_RECOGNISED (R423). -/
  | wakeRecognised (cycles : Nat)
  /-- WATCH_LOOK_DECISION (R426). -/
  | watchLookDecision (r : Word)
  /-- RTC_TIME_WRITE (R434). -/
  | rtcTimeWrite (w : RegWrite)
  /-- RTC_DATE_WRITE (R434). -/
  | rtcDateWrite (w : RegWrite)
  /-- RTC_WAKE_WRITE (R436). -/
  | rtcWakeWrite (w : RegWrite)
  /-- RTC_TEMP_MEASURE (R437). -/
  | rtcTempMeasure (t : BitVec 16)
  /-- VBAK_CHECK (R443). -/
  | vbakCheck (mv : BitVec 16)
  /-- CHARGER_THRESHOLD (R449). -/
  | chargerThreshold (mv : BitVec 16)
  /-- TIMER_ENABLE (R461). -/
  | timerEnable (k : Fin 16) (w : RegWrite)
  /-- TIMER_DISABLE (R461). -/
  | timerDisable (k : Fin 16) (w : RegWrite)
  /-- TMC_START (R473). -/
  | tmcStart (page : Fin 2) (w : RegWrite)
  /-- TMC_STOP (R473). -/
  | tmcStop (page : Fin 2) (w : RegWrite)
  /-- TIMER_SOURCE_EVENT (R462). -/
  | timerSourceEvent (k : Fin 16)
  /-- TIMER_ZERO (R467). -/
  | timerZero (k : Fin 16)
  /-- TIMER_TOP (R465). -/
  | timerTop (k : Fin 16)
  /-- TIMER_COMPARE_MATCH (R468). -/
  | timerCompareMatch (k : Fin 16)
  /-- TIMER_CAPTURE (R470). -/
  | timerCapture (k : Fin 16) (high : Bool)
  /-- TIMER_GATE_EDGE (R463). -/
  | timerGateEdge (k : Fin 16) (high : Bool)
  /-- TIMER_TOP_WRITE (R466). -/
  | timerTopWrite (k : Fin 16) (w : RegWrite)
  /-- TIMER_CMP_WRITE (R468). -/
  | timerCmpWrite (k : Fin 16) (w : RegWrite)
  /-- TIMER_CAP_READ (R471). -/
  | timerCapRead (k : Fin 16)
  /-- HK_ENTRY_DONE (R478). -/
  | hkEntryDone (raws : List (BitVec 12))
  /-- HK_SUPERVISOR_CONVERSION (R481). -/
  | hkSupervisorConversion (raw : BitVec 12)
  /-- URGENT_GO (R481). -/
  | urgentGo (w : RegWrite)
  /-- URGENT_DONE (R481). -/
  | urgentDone (raw : BitVec 12)
  /-- SYSCAL_STEP_DONE (R483). -/
  | syscalStepDone (sum1 : BitVec 32) (sum2 : BitVec 32)
  /-- SSPM_TRANSFER_END (R492). -/
  | sspmTransferEnd (rx : List Byte) (r : SfdpResult)
  /-- SSPM_POLL (R491). -/
  | sspmPoll (status : Byte)
  /-- XIP_READ (R496). -/
  | xipRead (word : BitVec 23)
  /-- XIP_LINE_FETCH_END (R496). -/
  | xipLineFetchEnd (data : BitVec 256)
  /-- XIP_WRITE (R497). -/
  | xipWrite (word : BitVec 23) (w : RegWrite)
  /-- SSPS_SELECT_RELEASE (R503). -/
  | sspsSelectRelease (mosi : List Bool)
  /-- SSPS_RX_RD_WRITE (R505). -/
  | sspsRxRdWrite (w : RegWrite)
  /-- SSPS_TX_WR_WRITE (R505). -/
  | sspsTxWrWrite (w : RegWrite)
  /-- SSPS_ATTN_WRITE (R506). -/
  | sspsAttnWrite (w : RegWrite)
  /-- SUPPLY_WARN (R509). -/
  | supplyWarn (r : Fin 9) (low : Bool)
  /-- INTC_CONFIG_WRITE (R513). -/
  | intcConfigWrite (which : IntcWord) (w : RegWrite)
  /-- IRQ_PULSE_END (R512). -/
  | irqPulseEnd (b : Fin 4)
  /-- SEC_OPEN_REQ (R518). -/
  | secOpenReq (w : RegWrite)
  /-- KEY_WRITE_DONE (R524). -/
  | keyWriteDone (ok : Bool)
  /-- TAMPER_EVENT (R531). -/
  | tamperEvent (cause : Fin 4)
  /-- JTAG_INSTRUCTION (R529). -/
  | jtagInstruction (g : JtagGroup)
  /-- TRIG_SW (R547). -/
  | trigSw (k : Fin 4) (w : RegWrite)
  /-- TRIG_OUT_PULSE_END (R547). -/
  | trigOutPulseEnd (k : Fin 4)
  /-- SNAPSHOT_CAPTURE_END (R134). -/
  | snapshotCaptureEnd (n : Fin 16) (samples : List Word)
  /-- UNMAPPED_WRITE (R36). -/
  | unmappedWrite
  /-- POST_QUEUE_ENTRY_FREED (R43). -/
  | postQueueEntryFreed
  /-- IGN_COUNT_CLEAR_ALL (R69). -/
  | ignCountClearAll
  /-- OFF_COUNT_CLEAR (R69). -/
  | offCountClear
  /-- UNMAPPED_COUNT_CLEAR (R69). -/
  | unmappedCountClear
  /-- TIMEOUT_COUNT_CLEAR (R69). -/
  | timeoutCountClear
  /-- SLACK_WATER_BEGIN (R85). -/
  | slackWaterBegin
  /-- SLACK_WATER_END (R85). -/
  | slackWaterEnd
  /-- DESCRIPTOR_URGENT (R136). -/
  | descriptorUrgent
  /-- MANIFEST_SIGHTING (R153). -/
  | manifestSighting
  /-- MANIFEST_WRITE_DISCARD (R155). -/
  | manifestWriteDiscard
  /-- MAN_CLEAR_UNPINNED (R157). -/
  | manClearUnpinned
  /-- MAN_CLEAR_ALL (R157). -/
  | manClearAll
  /-- MAN_CLEAR_DONE (R157). -/
  | manClearDone
  /-- GROUP_RECOMPUTE (R178). -/
  | groupRecompute
  /-- WT_FETCH (R166). -/
  | wtFetch
  /-- WT_COMMIT (R167). -/
  | wtCommit
  /-- WT_ERASE (R166). -/
  | wtErase
  /-- WT_FETCH_LIVE (R166). -/
  | wtFetchLive
  /-- WT_ACTION_DONE (R166). -/
  | wtActionDone
  /-- BF_CLEAR_DIR_COUNT (R191). -/
  | bfClearDirCount
  /-- SYNTH_S_LOCK_ACQUIRE (R199). -/
  | synthSLockAcquire
  /-- SYNTH_S_LOCK_LOSS (R201). -/
  | synthSLockLoss
  /-- COEX_GRANT_ASSERT (R218). -/
  | coexGrantAssert
  /-- COEX_GRANT_WITHDRAW (R217). -/
  | coexGrantWithdraw
  /-- BAND_CAL_DUE (R199). -/
  | bandCalDue
  /-- BAND_CAL_START (R200). -/
  | bandCalStart
  /-- BAND_CAL_FORCE (R200). -/
  | bandCalForce
  /-- BAND_CAL_COMPLETE (R406). -/
  | bandCalComplete
  /-- SYNTH_RECAL (R412). -/
  | synthRecal
  /-- BW_RELEASE (R213). -/
  | bwRelease
  /-- BW_CLEAR_COUNT (R214). -/
  | bwClearCount
  /-- REGL_RELOAD (R223). -/
  | reglReload
  /-- REGL_CLEAR (R232). -/
  | reglClear
  /-- PATH_QUEUE_LEAVE (R251). -/
  | pathQueueLeave
  /-- CAL_FREQ (R277). -/
  | calFreq
  /-- CAL_POWER (R278). -/
  | calPower
  /-- CAL_ARRAY_RX (R279). -/
  | calArrayRx
  /-- CAL_ARRAY_TX (R280). -/
  | calArrayTx
  /-- CAL_CONV (R281). -/
  | calConv
  /-- CAL_CANC (R282). -/
  | calCanc
  /-- CAL_ABORT (R270). -/
  | calAbort
  /-- SLACK_WATER_CALL (R274). -/
  | slackWaterCall
  /-- CAL_DUE (R284). -/
  | calDue
  /-- TBL_DATA_READ (R287). -/
  | tblDataRead
  /-- TBL_COMMIT (R287). -/
  | tblCommit
  /-- TBL_INVALIDATE (R287). -/
  | tblInvalidate
  /-- CAL_CLEAR_REJECTS (R288). -/
  | calClearRejects
  /-- CAL_CLEAR_SLACKS (R288). -/
  | calClearSlacks
  /-- REPAIR_SELFTEST (R308). -/
  | repairSelftest
  /-- REPAIR_ABORT (R308). -/
  | repairAbort
  /-- REPAIR_COMPACT (R312). -/
  | repairCompact
  /-- REPAIR_RECORD_WRITE (R311). -/
  | repairRecordWrite
  /-- COMPACTION_END (R312). -/
  | compactionEnd
  /-- REPAIR_CLEAR_ECC (R319). -/
  | repairClearEcc
  /-- KL_CENSUS_CMD (R336). -/
  | klCensusCmd
  /-- CENSUS_COMPLETE (R336). -/
  | censusComplete
  /-- HOLDOVER_LOST (R342). -/
  | holdoverLost
  /-- KL_FAILBACK (R342). -/
  | klFailback
  /-- CASCADE_TRIGGER_FIRE (R343). -/
  | cascadeTriggerFire
  /-- RA_READ (R344). -/
  | raRead
  /-- RA_WRITE (R344). -/
  | raWrite
  /-- KL_RESET_DEV (R344). -/
  | klResetDev
  /-- KL_RESET_SUBTREE (R344). -/
  | klResetSubtree
  /-- E2E_RESEND_TIMEOUT (R347). -/
  | e2eResendTimeout
  /-- ACK_E2E_SEND (R347). -/
  | ackE2eSend
  /-- GROUP_SUSPEND (R354). -/
  | groupSuspend
  /-- KL_ABORT (R358). -/
  | klAbort
  /-- CEN_DATA_READ (R357). -/
  | cenDataRead
  /-- KL_CLEAR_COUNTS (R357). -/
  | klClearCounts
  /-- KL_CLEAR_PERR (R357). -/
  | klClearPerr
  /-- PL_RETRAIN_END (R369). -/
  | plRetrainEnd
  /-- PL_NAK (R372). -/
  | plNak
  /-- PL_REPLAY_TIMEOUT (R372). -/
  | plReplayTimeout
  /-- PL_ACK_SEND (R372). -/
  | plAckSend
  /-- PL_CREDIT_SEND (R374). -/
  | plCreditSend
  /-- REG_REQ_WAIT_END (R376). -/
  | regReqWaitEnd
  /-- INTERRUPT_PACKET (R381). -/
  | interruptPacket
  /-- PL_CLEAR_DROPS (R382). -/
  | plClearDrops
  /-- PL_CLEAR_REPLAYS (R382). -/
  | plClearReplays
  /-- PL_CLEAR_LERR (R382). -/
  | plClearLerr
  /-- AON_POWER_ON (R385). -/
  | aonPowerOn
  /-- POWER_ON_RESET (R385). -/
  | powerOnReset
  /-- RST_PIN (R385). -/
  | rstPin
  /-- THERMAL_SHUTDOWN (R385). -/
  | thermalShutdown
  /-- WATCHDOG_EXPIRY (R395). -/
  | watchdogExpiry
  /-- CHIP_RST (R410). -/
  | chipRst
  /-- RESET_SOURCES_RELEASE (R386). -/
  | resetSourcesRelease
  /-- SYNTH_P_LOCK (R405). -/
  | synthPLock
  /-- SYNTH_P_LOCK_LOSS (R407). -/
  | synthPLockLoss
  /-- OPTION_LOAD_COMPLETE (R400). -/
  | optionLoadComplete
  /-- WATCHDOG_KICK (R395). -/
  | watchdogKick
  /-- WATCHDOG_WARN (R395). -/
  | watchdogWarn
  /-- OPT_PROGRAM (R403). -/
  | optProgram
  /-- OPT_APPLY (R404). -/
  | optApply
  /-- OPT_DATA_READ (R413). -/
  | optDataRead
  /-- PWR_MOOR (R419). -/
  | pwrMoor
  /-- PWR_LAY_UP (R420). -/
  | pwrLayUp
  /-- PREPARE_DONE (R419). -/
  | prepareDone
  /-- ENTRY_WINDOW_OPEN (R419). -/
  | entryWindowOpen
  /-- ENTRY_WINDOW_CLOSE (R422). -/
  | entryWindowClose
  /-- SLEEP_TIMER_EXPIRY (R421). -/
  | sleepTimerExpiry
  /-- PWR_CLEAR_COUNTS (R424). -/
  | pwrClearCounts
  /-- WATCH_ENABLE (R427). -/
  | watchEnable
  /-- WATCH_DISABLE (R426). -/
  | watchDisable
  /-- WATCH_LOOK_START (R425). -/
  | watchLookStart
  /-- WATCH_CLEAR_COUNTS (R428). -/
  | watchClearCounts
  /-- RTC_SECOND (R441). -/
  | rtcSecond
  /-- RTC_HALT (R435). -/
  | rtcHalt
  /-- RTC_RUN (R435). -/
  | rtcRun
  /-- RTC_TIME_READ (R432). -/
  | rtcTimeRead
  /-- VAON_LOSS (R445). -/
  | vaonLoss
  /-- BACKUP_SWITCH_TO_VBAK (R442). -/
  | backupSwitchToVbak
  /-- BACKUP_SWITCH_TO_AON (R442). -/
  | backupSwitchToAon
  /-- CHARGER_START (R444). -/
  | chargerStart
  /-- LOCKOUT_END (R447). -/
  | lockoutEnd
  /-- TIDE_CLEAR_STEPS (R460). -/
  | tideClearSteps
  /-- HK_START (R479). -/
  | hkStart
  /-- HK_STOP (R480). -/
  | hkStop
  /-- HK_SYSCAL_ZERO (R483). -/
  | hkSyscalZero
  /-- HK_SYSCAL_FULL (R483). -/
  | hkSyscalFull
  /-- HK_CLEAR_TRIG_OVF (R485). -/
  | hkClearTrigOvf
  /-- SSPM_GO (R489). -/
  | sspmGo
  /-- SSPM_SFDP (R493). -/
  | sspmSfdp
  /-- SSPM_POLL_TIMEOUT (R491). -/
  | sspmPollTimeout
  /-- XIP_PROGRAM_START (R497). -/
  | xipProgramStart
  /-- SSPS_SELECT_ASSERT (R501). -/
  | sspsSelectAssert
  /-- SEC_VERIFY (R519). -/
  | secVerify
  /-- SEC_CLOSE (R520). -/
  | secClose
  /-- CHALLENGE_EXPIRY (R520). -/
  | challengeExpiry
  /-- IDLE_TIMEOUT (R522). -/
  | idleTimeout
  /-- BACKOFF_EXPIRY (R523). -/
  | backoffExpiry
  /-- KEY_WRITE_OP (R524). -/
  | keyWriteOp
  /-- KEY_WRITE_PROV (R524). -/
  | keyWriteProv
  /-- SEAL_ARM (R527). -/
  | sealArm
  /-- SEAL_ARM_EXPIRY (R527). -/
  | sealArmExpiry
  /-- SEAL (R527). -/
  | seal
  /-- SEAL_DONE (R527). -/
  | sealDone
  /-- TEST_LOGIC_RESET (R529). -/
  | testLogicReset
  /-- RSTOUT_N_HIGH (R388). -/
  | rstoutNHigh
  /-- RTC_OUT_FALL (R450). -/
  | rtcOutFall
  /-- VAON_LOSS_RELEASE (R445). -/
  | vaonLossRelease
  deriving DecidableEq, Repr

end Sys2Proof
end

