-- ==== Sys2Proof/Decode.lean ====
section
/-!
DEFINITION. Commands have no bits: no row of the opcode table gives any.
-/
namespace Sys2Proof

/-- The command a word spells by the table's bits: none, for the table gives no row any bits. -/
def decodeTableWord (_nbits _w : Nat) : Option Instr := none

end Sys2Proof
end

