-- ==== Sys2Proof/Machine/Regs.lean ====
section
/-!
DEFINITION. The names of the register words and of their fields, page by page, as the register tables of spec/ give them (R5, R35, R52 and each block's register rule). A word's number is its byte address divided by 4. Where a register has several instances the last argument is the instance number; on PATH, PILOT, SESSION and timer pages the first argument is the page's instance.
-/
namespace Sys2Proof.Machine

/-- A field of a register word: the word's number and the field's bits [hi:lo]. -/
structure Fld where
  reg : Nat
  hi : Nat
  lo : Nat
  deriving DecidableEq, Repr

/-- The whole of a word as one field. -/
def fWord (a : Nat) : Fld := ⟨a, 31, 0⟩

/-- The low sixteen bits of a word as one field. -/
def fHalf (a : Nat) : Fld := ⟨a, 15, 0⟩

/-- The number of word `off` of page `page`. -/
def wordAt (page off : Nat) : Nat := page * 1024 + off

/-- The page a word lies in. -/
def pageOfWord (a : Nat) : Nat := a / 1024

/-- The word's place in its page. -/
def offOfWord (a : Nat) : Nat := a % 1024

/-! ### The common page header (R52) -/
def pageId (p : Nat) : Nat := wordAt p 0
def pageCaps (p : Nat) : Nat := wordAt p 1
def pageCtrl (p : Nat) : Nat := wordAt p 2
def pageStat (p : Nat) : Nat := wordAt p 3
def irqRaw (p : Nat) : Nat := wordAt p 4
def irqEn (p : Nat) : Nat := wordAt p 5
def irqStat (p : Nat) : Nat := wordAt p 6
def irqSet (p : Nat) : Nat := wordAt p 7
def ignCount (p : Nat) : Nat := wordAt p 8
def accessWord (p : Nat) : Nat := wordAt p 9
def fPcEn (p : Nat) : Fld := ⟨pageCtrl p, 0, 0⟩
def fPcBlkRst (p : Nat) : Fld := ⟨pageCtrl p, 1, 1⟩
def fPcClkReq (p : Nat) : Fld := ⟨pageCtrl p, 2, 2⟩
def fPcPwrReq (p : Nat) : Fld := ⟨pageCtrl p, 3, 3⟩
def fPsPowered (p : Nat) : Fld := ⟨pageStat p, 0, 0⟩
def fPsClkGood (p : Nat) : Fld := ⟨pageStat p, 1, 1⟩
def fPsInReset (p : Nat) : Fld := ⟨pageStat p, 2, 2⟩
def fPsReleasePending (p : Nat) : Fld := ⟨pageStat p, 3, 3⟩
def fPsBusy (p : Nat) : Fld := ⟨pageStat p, 4, 4⟩
def fPsEnq (p : Nat) : Fld := ⟨pageStat p, 5, 5⟩
def fPsShuttingDown (p : Nat) : Fld := ⟨pageStat p, 6, 6⟩
def fPsWpend (p : Nat) : Fld := ⟨pageStat p, 7, 7⟩
def fPsState (p : Nat) : Fld := ⟨pageStat p, 15, 8⟩
def fIgnCountCount (p : Nat) : Fld := ⟨ignCount p, 15, 0⟩
def fIgnCountLastOffset (p : Nat) : Fld := ⟨ignCount p, 31, 16⟩

/-! ### HBUS page -/
def hbusCtrl : Nat := 0x05 * 1024 + 0x10
def fHbusCtrlRlat : Fld := ⟨hbusCtrl, 1, 0⟩
def fHbusCtrlWaitLim : Fld := ⟨hbusCtrl, 31, 16⟩
def hbusStat : Nat := 0x05 * 1024 + 0x11
def fHbusStatQlevel : Fld := ⟨hbusStat, 5, 0⟩
def fHbusStatQpeak : Fld := ⟨hbusStat, 13, 8⟩
def fHbusStatClkSrc : Fld := ⟨hbusStat, 16, 16⟩
def hbusOffCount : Nat := 0x05 * 1024 + 0x12
def fHbusOffCountCount : Fld := ⟨hbusOffCount, 15, 0⟩
def fHbusOffCountLastPage : Fld := ⟨hbusOffCount, 23, 16⟩
def hbusOffReads : Nat := 0x05 * 1024 + 0x13
def hbusUnmappedCount : Nat := 0x05 * 1024 + 0x14
def hbusLastIgn : Nat := 0x05 * 1024 + 0x15
def fHbusLastIgnPage : Fld := ⟨hbusLastIgn, 7, 0⟩
def fHbusLastIgnOffset : Fld := ⟨hbusLastIgn, 17, 8⟩
def hbusTimeoutCount : Nat := 0x05 * 1024 + 0x16
def hbusCountClr : Nat := 0x05 * 1024 + 0x17
def fHbusCountClrPage : Fld := ⟨hbusCountClr, 7, 0⟩
def fHbusCountClrPageIgn : Fld := ⟨hbusCountClr, 8, 8⟩
def fHbusCountClrAllIgn : Fld := ⟨hbusCountClr, 9, 9⟩
def fHbusCountClrOff : Fld := ⟨hbusCountClr, 10, 10⟩
def fHbusCountClrUnmapped : Fld := ⟨hbusCountClr, 11, 11⟩
def fHbusCountClrTimeout : Fld := ⟨hbusCountClr, 12, 12⟩

/-! ### SESSION page -/
def sesLink (n : Nat) : Nat := (0x80 + n) * 1024 + 0x10
def fSesLinkTari (n : Nat) : Fld := ⟨(sesLink n), 1, 0⟩
def fSesLinkRtcal (n : Nat) : Fld := ⟨(sesLink n), 3, 2⟩
def fSesLinkDr (n : Nat) : Fld := ⟨(sesLink n), 4, 4⟩
def fSesLinkM (n : Nat) : Fld := ⟨(sesLink n), 6, 5⟩
def fSesLinkTrext (n : Nat) : Fld := ⟨(sesLink n), 7, 7⟩
def fSesLinkBlf (n : Nat) : Fld := ⟨(sesLink n), 17, 8⟩
def fSesLinkMod (n : Nat) : Fld := ⟨(sesLink n), 19, 18⟩
def fSesLinkDepth (n : Nat) : Fld := ⟨(sesLink n), 26, 20⟩
def sesInv (n : Nat) : Nat := (0x80 + n) * 1024 + 0x11
def fSesInvSession (n : Nat) : Fld := ⟨(sesInv n), 1, 0⟩
def fSesInvTarget (n : Nat) : Fld := ⟨(sesInv n), 2, 2⟩
def fSesInvSel (n : Nat) : Fld := ⟨(sesInv n), 4, 3⟩
def fSesInvQInit (n : Nat) : Fld := ⟨(sesInv n), 8, 5⟩
def fSesInvQFixed (n : Nat) : Fld := ⟨(sesInv n), 9, 9⟩
def fSesInvTargetFlip (n : Nat) : Fld := ⟨(sesInv n), 10, 10⟩
def sesQctrl (n : Nat) : Nat := (0x80 + n) * 1024 + 0x12
def fSesQctrlCEmpty (n : Nat) : Fld := ⟨(sesQctrl n), 3, 0⟩
def fSesQctrlCColl (n : Nat) : Fld := ⟨(sesQctrl n), 7, 4⟩
def fSesQctrlQMin (n : Nat) : Fld := ⟨(sesQctrl n), 11, 8⟩
def fSesQctrlQMax (n : Nat) : Fld := ⟨(sesQctrl n), 15, 12⟩
def fSesQctrlYield (n : Nat) : Fld := ⟨(sesQctrl n), 19, 16⟩
def sesRxcfg (n : Nat) : Nat := (0x80 + n) * 1024 + 0x13
def fSesRxcfgCarrier (n : Nat) : Fld := ⟨(sesRxcfg n), 1, 0⟩
def fSesRxcfgSetsel (n : Nat) : Fld := ⟨(sesRxcfg n), 3, 2⟩
def fSesRxcfgRetry (n : Nat) : Fld := ⟨(sesRxcfg n), 5, 4⟩
def fSesRxcfgDetThr (n : Nat) : Fld := ⟨(sesRxcfg n), 15, 8⟩
def sesTrig (n : Nat) : Nat := (0x80 + n) * 1024 + 0x14
def fSesTrigEn (n : Nat) : Fld := ⟨(sesTrig n), 0, 0⟩
def fSesTrigSrc (n : Nat) : Fld := ⟨(sesTrig n), 3, 1⟩
def fSesTrigEdge (n : Nat) : Fld := ⟨(sesTrig n), 5, 4⟩
def fSesTrigPending (n : Nat) : Fld := ⟨(sesTrig n), 8, 8⟩
def fSesTrigOvf (n : Nat) : Fld := ⟨(sesTrig n), 31, 16⟩
def sesBerth (n : Nat) : Nat := (0x80 + n) * 1024 + 0x15
def fSesBerthFreeze (n : Nat) : Fld := ⟨(sesBerth n), 0, 0⟩
def fSesBerthFrozen (n : Nat) : Fld := ⟨(sesBerth n), 1, 1⟩
def fSesBerthSet (n : Nat) : Fld := ⟨(sesBerth n), 2, 2⟩
def fSesBerthLen (n : Nat) : Fld := ⟨(sesBerth n), 20, 4⟩
def sesStat (n : Nat) : Nat := (0x80 + n) * 1024 + 0x16
def fSesStatPilot (n : Nat) : Fld := ⟨(sesStat n), 4, 0⟩
def fSesStatQ (n : Nat) : Fld := ⟨(sesStat n), 11, 8⟩
def fSesStatLastSet (n : Nat) : Fld := ⟨(sesStat n), 12, 12⟩
def fSesStatInflight (n : Nat) : Fld := ⟨(sesStat n), 19, 16⟩
def fSesStatHoldWhy (n : Nat) : Fld := ⟨(sesStat n), 22, 20⟩
def fSesStatLastCmd (n : Nat) : Fld := ⟨(sesStat n), 28, 24⟩
def sesTcalc (n : Nat) : Nat := (0x80 + n) * 1024 + 0x17
def fSesTcalcT1Nom (n : Nat) : Fld := ⟨(sesTcalc n), 15, 0⟩
def fSesTcalcGap (n : Nat) : Fld := ⟨(sesTcalc n), 31, 16⟩
def sesRounds (n : Nat) : Nat := (0x80 + n) * 1024 + 0x18
def sesSings (n : Nat) : Nat := (0x80 + n) * 1024 + 0x19
def sesCrcFail (n : Nat) : Nat := (0x80 + n) * 1024 + 0x1A
def sesEmpty (n : Nat) : Nat := (0x80 + n) * 1024 + 0x1B
def sesCollided (n : Nat) : Nat := (0x80 + n) * 1024 + 0x1C
def sesRestarts (n : Nat) : Nat := (0x80 + n) * 1024 + 0x1D
def sesSetWins (n : Nat) : Nat := (0x80 + n) * 1024 + 0x1E
def fSesSetWinsA (n : Nat) : Fld := ⟨(sesSetWins n), 15, 0⟩
def fSesSetWinsB (n : Nat) : Fld := ⟨(sesSetWins n), 31, 16⟩
def sesLostSlots (n : Nat) : Nat := (0x80 + n) * 1024 + 0x1F
def sesCntClr (n : Nat) : Nat := (0x80 + n) * 1024 + 0x20
def fSesCntClrRounds (n : Nat) : Fld := ⟨(sesCntClr n), 0, 0⟩
def fSesCntClrSings (n : Nat) : Fld := ⟨(sesCntClr n), 1, 1⟩
def fSesCntClrErrors (n : Nat) : Fld := ⟨(sesCntClr n), 2, 2⟩
def fSesCntClrSets (n : Nat) : Fld := ⟨(sesCntClr n), 3, 3⟩
def fSesCntClrTrig (n : Nat) : Fld := ⟨(sesCntClr n), 4, 4⟩
def sesTpl (n : Nat) (i : Nat) : Nat := (0x80 + n) * 1024 + 0x100 + i

/-! ### RXF page -/
def rxfCfg : Nat := 0x17 * 1024 + 0x10
def fRxfCfgNoiseTau : Fld := ⟨rxfCfg, 3, 0⟩
def fRxfCfgNoiseHold : Fld := ⟨rxfCfg, 4, 4⟩
def rxfNoise (i : Nat) : Nat := 0x17 * 1024 + 0x20 + i
def fRxfNoiseA (i : Nat) : Fld := ⟨(rxfNoise i), 15, 0⟩
def fRxfNoiseB (i : Nat) : Fld := ⟨(rxfNoise i), 31, 16⟩
def rxfDet (i : Nat) : Nat := 0x17 * 1024 + 0x30 + i
def fRxfDetDA (i : Nat) : Fld := ⟨(rxfDet i), 7, 0⟩
def fRxfDetDB (i : Nat) : Fld := ⟨(rxfDet i), 15, 8⟩
def fRxfDetSet (i : Nat) : Fld := ⟨(rxfDet i), 16, 16⟩
def fRxfDetRestarted (i : Nat) : Fld := ⟨(rxfDet i), 17, 17⟩
def rxfTpri (i : Nat) : Nat := 0x17 * 1024 + 0x40 + i
def fRxfTpriTpri (i : Nat) : Fld := ⟨(rxfTpri i), 15, 0⟩
def fRxfTpriErr (i : Nat) : Fld := ⟨(rxfTpri i), 31, 16⟩

/-! ### RING page -/
def ringCtrl : Nat := 0x19 * 1024 + 0x10
def fRingCtrlFormat : Fld := ⟨ringCtrl, 7, 0⟩
def ringInflight : Nat := 0x19 * 1024 + 0x11
def fRingInflightCount : Fld := ⟨ringInflight, 7, 0⟩
def fRingInflightPeak : Fld := ⟨ringInflight, 15, 8⟩
def ringCfg (i : Nat) : Nat := 0x19 * 1024 + 0x40 + 8 * i
def fRingCfgCdepth (i : Nat) : Fld := ⟨(ringCfg i), 3, 0⟩
def fRingCfgMdepth (i : Nat) : Fld := ⟨(ringCfg i), 7, 4⟩
def fRingCfgInflightMax (i : Nat) : Fld := ⟨(ringCfg i), 11, 8⟩
def fRingCfgMthr (i : Nat) : Fld := ⟨(ringCfg i), 28, 16⟩
def ringCbase (i : Nat) : Nat := 0x19 * 1024 + 0x41 + 8 * i
def ringMbase (i : Nat) : Nat := 0x19 * 1024 + 0x42 + 8 * i
def ringCtail (i : Nat) : Nat := 0x19 * 1024 + 0x43 + 8 * i
def ringChead (i : Nat) : Nat := 0x19 * 1024 + 0x44 + 8 * i
def ringMtail (i : Nat) : Nat := 0x19 * 1024 + 0x45 + 8 * i
def ringMhead (i : Nat) : Nat := 0x19 * 1024 + 0x46 + 8 * i
def ringHolds (i : Nat) : Nat := 0x19 * 1024 + 0x47 + 8 * i
def fRingHoldsAck (i : Nat) : Fld := ⟨(ringHolds i), 15, 0⟩
def fRingHoldsUnreported (i : Nat) : Fld := ⟨(ringHolds i), 31, 16⟩

/-! ### SCHED page -/
def schedCtrl : Nat := 0x18 * 1024 + 0x10
def fSchedCtrlIsoMin : Fld := ⟨schedCtrl, 7, 0⟩
def fSchedCtrlAgeStep : Fld := ⟨schedCtrl, 17, 8⟩
def fSchedCtrlTurnSlots : Fld := ⟨schedCtrl, 23, 20⟩
def schedGroupLo : Nat := 0x18 * 1024 + 0x11
def schedGroupHi : Nat := 0x18 * 1024 + 0x12
def schedTurn : Nat := 0x18 * 1024 + 0x13
def schedUrgent : Nat := 0x18 * 1024 + 0x14

/-! ### MAN page -/
def manCtrl : Nat := 0x1A * 1024 + 0x10
def fManCtrlEvict : Fld := ⟨manCtrl, 0, 0⟩
def fManCtrlProbeMax : Fld := ⟨manCtrl, 15, 8⟩
def fManCtrlAgeOut : Fld := ⟨manCtrl, 31, 16⟩
def manThresh : Nat := 0x1A * 1024 + 0x11
def manCount : Nat := 0x1A * 1024 + 0x12
def manNewCount : Nat := 0x1A * 1024 + 0x13
def manMisses : Nat := 0x1A * 1024 + 0x14
def manEvictions : Nat := 0x1A * 1024 + 0x15
def manCmd : Nat := 0x1A * 1024 + 0x16
def fManCmdIndex : Fld := ⟨manCmd, 15, 0⟩
def fManCmdAction : Fld := ⟨manCmd, 18, 16⟩
def manCmdStat : Nat := 0x1A * 1024 + 0x17
def fManCmdStatBusy : Fld := ⟨manCmdStat, 0, 0⟩
def manWriteDiscard : Nat := 0x1A * 1024 + 0x18

/-! ### BF page -/
def bfCtrl : Nat := 0x16 * 1024 + 0x10
def fBfCtrlTxRenorm : Fld := ⟨bfCtrl, 0, 0⟩
def fBfCtrlNullWide : Fld := ⟨bfCtrl, 1, 1⟩
def fBfCtrlPairMode : Fld := ⟨bfCtrl, 2, 2⟩
def fBfCtrlSquint : Fld := ⟨bfCtrl, 11, 4⟩
def fBfCtrlZoneHalf : Fld := ⟨bfCtrl, 15, 12⟩
def bfDirCfg : Nat := 0x16 * 1024 + 0x11
def fBfDirCfgDirLimit : Fld := ⟨bfDirCfg, 7, 0⟩
def fBfDirCfgErrMax : Fld := ⟨bfDirCfg, 15, 8⟩
def fBfDirCfgAmbig : Fld := ⟨bfDirCfg, 23, 16⟩
def fBfDirCfgMinPaths : Fld := ⟨bfDirCfg, 30, 24⟩
def bfStat : Nat := 0x16 * 1024 + 0x12
def fBfStatActivePaths : Fld := ⟨bfStat, 6, 0⟩
def fBfStatRenormPending : Fld := ⟨bfStat, 8, 8⟩
def fBfStatEstQueue : Fld := ⟨bfStat, 20, 16⟩
def bfWtSel : Nat := 0x16 * 1024 + 0x13
def fBfWtSelIndex : Fld := ⟨bfWtSel, 8, 0⟩
def fBfWtSelSession : Fld := ⟨bfWtSel, 19, 16⟩
def fBfWtSelWhich : Fld := ⟨bfWtSel, 21, 20⟩
def bfWtCmd : Nat := 0x16 * 1024 + 0x14
def fBfWtCmdAction : Fld := ⟨bfWtCmd, 2, 0⟩
def bfWtStat : Nat := 0x16 * 1024 + 0x15
def fBfWtStatBusy : Fld := ⟨bfWtStat, 0, 0⟩
def fBfWtStatMalformed : Fld := ⟨bfWtStat, 1, 1⟩
def fBfWtStatEntries : Fld := ⟨bfWtStat, 25, 16⟩
def bfMutedLo : Nat := 0x16 * 1024 + 0x16
def bfMutedHi : Nat := 0x16 * 1024 + 0x17
def bfPolLo : Nat := 0x16 * 1024 + 0x18
def bfPolHi : Nat := 0x16 * 1024 + 0x19
def bfDirCount : Nat := 0x16 * 1024 + 0x1A
def fBfDirCountValid : Fld := ⟨bfDirCount, 15, 0⟩
def fBfDirCountInvalid : Fld := ⟨bfDirCount, 31, 16⟩
def bfCntClr : Nat := 0x16 * 1024 + 0x1B
def fBfCntClrDir : Fld := ⟨bfCntClr, 0, 0⟩
def bfStream (i : Nat) : Nat := 0x16 * 1024 + 0x20 + i
def fBfStreamAmp (i : Nat) : Fld := ⟨(bfStream i), 15, 0⟩
def fBfStreamSrc (i : Nat) : Fld := ⟨(bfStream i), 16, 16⟩
def fBfStreamNulled (i : Nat) : Fld := ⟨(bfStream i), 17, 17⟩
def bfIso (i : Nat) : Nat := 0x16 * 1024 + 0x30 + i
def fBfIsoIso (i : Nat) : Fld := ⟨(bfIso i), 7, 0⟩
def fBfIsoWorst (i : Nat) : Fld := ⟨(bfIso i), 11, 8⟩
def fBfIsoAlone (i : Nat) : Fld := ⟨(bfIso i), 12, 12⟩
def bfPos (i : Nat) : Nat := 0x16 * 1024 + 0x40 + i
def fBfPosX (i : Nat) : Fld := ⟨(bfPos i), 15, 0⟩
def fBfPosY (i : Nat) : Fld := ⟨(bfPos i), 31, 16⟩
def bfWtStage (i : Nat) : Nat := 0x16 * 1024 + 0x100 + i

/-! ### CAR page -/
def carCfg : Nat := 0x14 * 1024 + 0x10
def fCarCfgYield : Fld := ⟨carCfg, 15, 0⟩
def carCtrl (i : Nat) : Nat := 0x14 * 1024 + 0x40 + 8 * i
def fCarCtrlEn (i : Nat) : Fld := ⟨(carCtrl i), 0, 0⟩
def fCarCtrlHopAuto (i : Nat) : Fld := ⟨(carCtrl i), 1, 1⟩
def fCarCtrlRamp (i : Nat) : Fld := ⟨(carCtrl i), 15, 8⟩
def fCarCtrlSettle (i : Nat) : Fld := ⟨(carCtrl i), 31, 16⟩
def carFreq (i : Nat) : Nat := 0x14 * 1024 + 0x41 + 8 * i
def fCarFreqCh (i : Nat) : Fld := ⟨(carFreq i), 9, 0⟩
def fCarFreqFine (i : Nat) : Fld := ⟨(carFreq i), 29, 12⟩
def carNext (i : Nat) : Nat := 0x14 * 1024 + 0x42 + 8 * i
def fCarNextCh (i : Nat) : Fld := ⟨(carNext i), 9, 0⟩
def fCarNextFine (i : Nat) : Fld := ⟨(carNext i), 29, 12⟩
def carCmd (i : Nat) : Nat := 0x14 * 1024 + 0x43 + 8 * i
def fCarCmdHop (i : Nat) : Fld := ⟨(carCmd i), 0, 0⟩
def carStat (i : Nat) : Nat := 0x14 * 1024 + 0x44 + 8 * i
def fCarStatState (i : Nat) : Fld := ⟨(carStat i), 3, 0⟩
def fCarStatBusy (i : Nat) : Fld := ⟨(carStat i), 4, 4⟩
def fCarStatEnq (i : Nat) : Fld := ⟨(carStat i), 5, 5⟩
def fCarStatShuttingDown (i : Nat) : Fld := ⟨(carStat i), 6, 6⟩
def fCarStatErr (i : Nat) : Fld := ⟨(carStat i), 15, 8⟩
def fCarStatReason (i : Nat) : Fld := ⟨(carStat i), 23, 16⟩
def fCarStatStreams (i : Nat) : Fld := ⟨(carStat i), 26, 24⟩
def carFreqNow (i : Nat) : Nat := 0x14 * 1024 + 0x45 + 8 * i
def carHops (i : Nat) : Nat := 0x14 * 1024 + 0x46 + 8 * i
def carVisit (i : Nat) : Nat := 0x14 * 1024 + 0x47 + 8 * i
def fCarVisitOn (i : Nat) : Fld := ⟨(carVisit i), 23, 0⟩

/-! ### TXS page -/
def txsBwCfg : Nat := 0x15 * 1024 + 0x10
def fTxsBwCfgDwell : Fld := ⟨txsBwCfg, 7, 0⟩
def fTxsBwCfgStep : Fld := ⟨txsBwCfg, 15, 8⟩
def fTxsBwCfgMax : Fld := ⟨txsBwCfg, 23, 16⟩
def txsBwStat : Nat := 0x15 * 1024 + 0x11
def fTxsBwStatPath : Fld := ⟨txsBwStat, 5, 0⟩
def fTxsBwStatWorst : Fld := ⟨txsBwStat, 23, 8⟩
def txsBwViol : Nat := 0x15 * 1024 + 0x12
def txsBwClr : Nat := 0x15 * 1024 + 0x13
def fTxsBwClrRelease : Fld := ⟨txsBwClr, 0, 0⟩
def fTxsBwClrCount : Fld := ⟨txsBwClr, 1, 1⟩
def txsShape (i : Nat) : Nat := 0x15 * 1024 + 0x20 + i
def fTxsShapePwPct (i : Nat) : Fld := ⟨(txsShape i), 5, 0⟩
def fTxsShapeTrPct (i : Nat) : Fld := ⟨(txsShape i), 13, 8⟩
def fTxsShapeSsbLsb (i : Nat) : Fld := ⟨(txsShape i), 16, 16⟩
def txsBwBackoff (i : Nat) : Nat := 0x15 * 1024 + 0x40 + i

/-! ### COEX page -/
def coexCtrl : Nat := 0x13 * 1024 + 0x10
def fCoexCtrlEn : Fld := ⟨coexCtrl, 0, 0⟩
def fCoexCtrlPriForce : Fld := ⟨coexCtrl, 1, 1⟩
def fCoexCtrlCarMask : Fld := ⟨coexCtrl, 7, 4⟩
def fCoexCtrlPol : Fld := ⟨coexCtrl, 8, 8⟩
def coexCfg : Nat := 0x13 * 1024 + 0x11
def fCoexCfgGntYield : Fld := ⟨coexCfg, 15, 0⟩
def fCoexCfgActLead : Fld := ⟨coexCfg, 23, 16⟩
def coexStat : Nat := 0x13 * 1024 + 0x12
def fCoexStatReq : Fld := ⟨coexStat, 0, 0⟩
def fCoexStatPri : Fld := ⟨coexStat, 1, 1⟩
def fCoexStatGnt : Fld := ⟨coexStat, 2, 2⟩
def fCoexStatAct : Fld := ⟨coexStat, 3, 3⟩
def coexLost : Nat := 0x13 * 1024 + 0x13

/-! ### REGL page -/
def reglCtrl : Nat := 0x12 * 1024 + 0x10
def fReglCtrlClipFloor : Fld := ⟨reglCtrl, 7, 0⟩
def reglStat : Nat := 0x12 * 1024 + 0x11
def fReglStatState : Fld := ⟨reglStat, 1, 0⟩
def fReglStatBase : Fld := ⟨reglStat, 7, 4⟩
def fReglStatChannels : Fld := ⟨reglStat, 14, 8⟩
def fReglStatMaxCarriers : Fld := ⟨reglStat, 18, 16⟩
def fReglStatFlags : Fld := ⟨reglStat, 23, 19⟩
def reglLimit : Nat := 0x12 * 1024 + 0x12
def fReglLimitEirpLimit : Fld := ⟨reglLimit, 15, 0⟩
def fReglLimitGain : Fld := ⟨reglLimit, 31, 16⟩
def reglCmd : Nat := 0x12 * 1024 + 0x13
def fReglCmdReload : Fld := ⟨reglCmd, 0, 0⟩
def fReglCmdClr : Fld := ⟨reglCmd, 1, 1⟩
def reglLast : Nat := 0x12 * 1024 + 0x14
def fReglLastReason : Fld := ⟨reglLast, 7, 0⟩
def fReglLastStream : Fld := ⟨reglLast, 11, 8⟩
def fReglLastCarrier : Fld := ⟨reglLast, 13, 12⟩
def fReglLastClipped : Fld := ⟨reglLast, 14, 14⟩
def fReglLastNoStream : Fld := ⟨reglLast, 15, 15⟩
def fReglLastFactor : Fld := ⟨reglLast, 31, 16⟩
def reglCounts : Nat := 0x12 * 1024 + 0x15
def reglLbtBusy : Nat := 0x12 * 1024 + 0x16
def reglCarFig (i : Nat) : Nat := 0x12 * 1024 + 0x20 + i
def reglStreamFig (i : Nat) : Nat := 0x12 * 1024 + 0x28 + i
def reglOcc (i : Nat) : Nat := 0x12 * 1024 + 0x40 + i

/-! ### PATH page -/
def pathCfg (p : Nat) : Nat := (0x40 + p) * 1024 + 0x10
def fPathCfgAgc (p : Nat) : Fld := ⟨(pathCfg p), 0, 0⟩
def fPathCfgDpdEn (p : Nat) : Fld := ⟨(pathCfg p), 1, 1⟩
def fPathCfgCancEn (p : Nat) : Fld := ⟨(pathCfg p), 2, 2⟩
def fPathCfgStreamInc (p : Nat) : Fld := ⟨(pathCfg p), 3, 3⟩
def fPathCfgGainFixed (p : Nat) : Fld := ⟨(pathCfg p), 11, 8⟩
def fPathCfgGainMin (p : Nat) : Fld := ⟨(pathCfg p), 15, 12⟩
def fPathCfgGainMax (p : Nat) : Fld := ⟨(pathCfg p), 19, 16⟩
def pathTxpwr (p : Nat) : Nat := (0x40 + p) * 1024 + 0x11
def fPathTxpwrLevel (p : Nat) : Fld := ⟨(pathTxpwr p), 7, 0⟩
def pathTxpwrNow (p : Nat) : Nat := (0x40 + p) * 1024 + 0x12
def fPathTxpwrNowLevel (p : Nat) : Fld := ⟨(pathTxpwrNow p), 7, 0⟩
def fPathTxpwrNowPending (p : Nat) : Fld := ⟨(pathTxpwrNow p), 8, 8⟩
def fPathTxpwrNowZero (p : Nat) : Fld := ⟨(pathTxpwrNow p), 9, 9⟩
def fPathTxpwrNowCells (p : Nat) : Fld := ⟨(pathTxpwrNow p), 20, 16⟩
def pathGain (p : Nat) : Nat := (0x40 + p) * 1024 + 0x13
def fPathGainStep (p : Nat) : Fld := ⟨(pathGain p), 3, 0⟩
def fPathGainUpPending (p : Nat) : Fld := ⟨(pathGain p), 4, 4⟩
def fPathGainPeak (p : Nat) : Fld := ⟨(pathGain p), 15, 8⟩
def pathAgc (p : Nat) : Nat := (0x40 + p) * 1024 + 0x14
def fPathAgcHiThr (p : Nat) : Fld := ⟨(pathAgc p), 7, 0⟩
def fPathAgcWindow (p : Nat) : Fld := ⟨(pathAgc p), 15, 8⟩
def pathCancCfg (p : Nat) : Nat := (0x40 + p) * 1024 + 0x15
def fPathCancCfgTrack (p : Nat) : Fld := ⟨(pathCancCfg p), 7, 0⟩
def fPathCancCfgMu (p : Nat) : Fld := ⟨(pathCancCfg p), 11, 8⟩
def pathFault (p : Nat) : Nat := (0x40 + p) * 1024 + 0x16
def fPathFaultCause (p : Nat) : Fld := ⟨(pathFault p), 6, 0⟩
def fPathFaultCount (p : Nat) : Fld := ⟨(pathFault p), 15, 8⟩
def pathSpares (p : Nat) : Nat := (0x40 + p) * 1024 + 0x17
def fPathSparesFailedSlice (p : Nat) : Fld := ⟨(pathSpares p), 4, 0⟩
def fPathSparesSpareFree (p : Nat) : Fld := ⟨(pathSpares p), 8, 8⟩
def fPathSparesDacSpares (p : Nat) : Fld := ⟨(pathSpares p), 18, 16⟩
def fPathSparesDrvSpares (p : Nat) : Fld := ⟨(pathSpares p), 22, 20⟩
def pathNfCfg (p : Nat) : Nat := (0x40 + p) * 1024 + 0x18
def fPathNfCfgTau (p : Nat) : Fld := ⟨(pathNfCfg p), 3, 0⟩
def pathCounts (p : Nat) : Nat := (0x40 + p) * 1024 + 0x19
def fPathCountsFast (p : Nat) : Fld := ⟨(pathCounts p), 15, 0⟩
def fPathCountsUp (p : Nat) : Fld := ⟨(pathCounts p), 31, 16⟩
def pathCntClr (p : Nat) : Nat := (0x40 + p) * 1024 + 0x1A
def fPathCntClrCounts (p : Nat) : Fld := ⟨(pathCntClr p), 0, 0⟩
def fPathCntClrFaults (p : Nat) : Fld := ⟨(pathCntClr p), 1, 1⟩
def pathDpdStat (p : Nat) : Nat := (0x40 + p) * 1024 + 0x1B
def fPathDpdStatActive (p : Nat) : Fld := ⟨(pathDpdStat p), 0, 0⟩
def fPathDpdStatPending (p : Nat) : Fld := ⟨(pathDpdStat p), 1, 1⟩
def fPathDpdStatTemp (p : Nat) : Fld := ⟨(pathDpdStat p), 15, 8⟩
def fPathDpdStatGen (p : Nat) : Fld := ⟨(pathDpdStat p), 31, 16⟩
def pathIdleNf (p : Nat) : Nat := (0x40 + p) * 1024 + 0x1C
def pathCanc (p : Nat) (i : Nat) : Nat := (0x40 + p) * 1024 + 0x20 + i
def fPathCancResid (p : Nat) (i : Nat) : Fld := ⟨(pathCanc p i), 15, 0⟩
def fPathCancDepth (p : Nat) (i : Nat) : Fld := ⟨(pathCanc p i), 31, 16⟩
def pathNoise (p : Nat) (i : Nat) : Nat := (0x40 + p) * 1024 + 0x24 + i
def fPathNoiseLevel (p : Nat) (i : Nat) : Fld := ⟨(pathNoise p i), 15, 0⟩
def fPathNoiseAge (p : Nat) (i : Nat) : Fld := ⟨(pathNoise p i), 31, 16⟩

/-! ### CAL page -/
def calCtrl : Nat := 0x10 * 1024 + 0x10
def fCalCtrlMaxWait : Fld := ⟨calCtrl, 15, 0⟩
def fCalCtrlDrift : Fld := ⟨calCtrl, 23, 16⟩
def calLh : Nat := 0x10 * 1024 + 0x11
def fCalLhLevel : Fld := ⟨calLh, 7, 0⟩
def calRef : Nat := 0x10 * 1024 + 0x12
def fCalRefLevel : Fld := ⟨calRef, 15, 0⟩
def fCalRefCh : Fld := ⟨calRef, 25, 16⟩
def calNet : Nat := 0x10 * 1024 + 0x13
def fCalNetRxLoss : Fld := ⟨calNet, 15, 0⟩
def fCalNetTxLoss : Fld := ⟨calNet, 31, 16⟩
def calCmd : Nat := 0x10 * 1024 + 0x14
def fCalCmdProc : Fld := ⟨calCmd, 3, 0⟩
def fCalCmdPath : Fld := ⟨calCmd, 15, 8⟩
def fCalCmdAbort : Fld := ⟨calCmd, 16, 16⟩
def calStat : Nat := 0x10 * 1024 + 0x15
def fCalStatProc : Fld := ⟨calStat, 3, 0⟩
def fCalStatBusy : Fld := ⟨calStat, 4, 4⟩
def fCalStatPending : Fld := ⟨calStat, 5, 5⟩
def fCalStatSlack : Fld := ⟨calStat, 6, 6⟩
def fCalStatValid : Fld := ⟨calStat, 14, 8⟩
def fCalStatDue : Fld := ⟨calStat, 22, 16⟩
def calResult : Nat := 0x10 * 1024 + 0x16
def fCalResultProc : Fld := ⟨calResult, 3, 0⟩
def fCalResultAccepted : Fld := ⟨calResult, 4, 4⟩
def fCalResultReason : Fld := ⟨calResult, 15, 8⟩
def fCalResultPath : Fld := ⟨calResult, 23, 16⟩
def fCalResultPoint : Fld := ⟨calResult, 31, 24⟩
def calWaited : Nat := 0x10 * 1024 + 0x17
def fCalWaitedAge : Fld := ⟨calWaited, 15, 0⟩
def fCalWaitedSlacks : Fld := ⟨calWaited, 31, 16⟩
def calRejects : Nat := 0x10 * 1024 + 0x18
def calAclkRate : Nat := 0x10 * 1024 + 0x19
def calRefFreq : Nat := 0x10 * 1024 + 0x1A
def calTemp : Nat := 0x10 * 1024 + 0x1B
def calCntClr : Nat := 0x10 * 1024 + 0x1C
def fCalCntClrRejects : Fld := ⟨calCntClr, 0, 0⟩
def fCalCntClrSlacks : Fld := ⟨calCntClr, 1, 1⟩
def calTblAddr : Nat := 0x10 * 1024 + 0x1D
def calTblData : Nat := 0x10 * 1024 + 0x1E
def calTblCmd : Nat := 0x10 * 1024 + 0x1F
def fCalTblCmdCommit : Fld := ⟨calTblCmd, 0, 0⟩
def fCalTblCmdInvalidate : Fld := ⟨calTblCmd, 1, 1⟩
def calRefFine : Nat := 0x10 * 1024 + 0x20
def fCalRefFineFine : Fld := ⟨calRefFine, 17, 0⟩
def calTempB : Nat := 0x10 * 1024 + 0x21
def calNetP (i : Nat) : Nat := 0x10 * 1024 + 0x40 + i
def fCalNetPGain (i : Nat) : Fld := ⟨(calNetP i), 15, 0⟩
def fCalNetPPhase (i : Nat) : Fld := ⟨(calNetP i), 31, 16⟩

/-! ### PILOT page -/
def pilCmd (p : Nat) : Nat := (0x20 + p) * 1024 + 0x10
def fPilCmdAction (p : Nat) : Fld := ⟨(pilCmd p), 2, 0⟩
def fPilCmdTarget (p : Nat) : Fld := ⟨(pilCmd p), 12, 8⟩
def pilStat (p : Nat) : Nat := (0x20 + p) * 1024 + 0x11
def fPilStatSession (p : Nat) : Fld := ⟨(pilStat p), 4, 0⟩
def fPilStatResult (p : Nat) : Fld := ⟨(pilStat p), 15, 8⟩
def fPilStatSlot (p : Nat) : Fld := ⟨(pilStat p), 17, 16⟩
def fPilStatCause (p : Nat) : Fld := ⟨(pilStat p), 23, 20⟩
def pilImgAddr (p : Nat) : Nat := (0x20 + p) * 1024 + 0x12
def pilImgData (p : Nat) : Nat := (0x20 + p) * 1024 + 0x13
def pilImgVer (p : Nat) : Nat := (0x20 + p) * 1024 + 0x14
def pilImgFmt (p : Nat) : Nat := (0x20 + p) * 1024 + 0x15
def fPilImgFmtCkptFormat (p : Nat) : Fld := ⟨(pilImgFmt p), 15, 0⟩
def pilCounts (p : Nat) : Nat := (0x20 + p) * 1024 + 0x16
def fPilCountsFaults (p : Nat) : Fld := ⟨(pilCounts p), 7, 0⟩
def fPilCountsTakeovers (p : Nat) : Fld := ⟨(pilCounts p), 15, 8⟩
def pilCkpts (p : Nat) : Nat := (0x20 + p) * 1024 + 0x17
def pilCntClr (p : Nat) : Nat := (0x20 + p) * 1024 + 0x18
def fPilCntClrCounts (p : Nat) : Fld := ⟨(pilCntClr p), 0, 0⟩
def fPilCntClrCkpts (p : Nat) : Fld := ⟨(pilCntClr p), 1, 1⟩

/-! ### REPAIR page -/
def repCtrl : Nat := 0x11 * 1024 + 0x10
def fRepCtrlDredge : Fld := ⟨repCtrl, 7, 0⟩
def fRepCtrlPilotLimit : Fld := ⟨repCtrl, 19, 16⟩
def repPools : Nat := 0x11 * 1024 + 0x11
def fRepPoolsPilotSpares : Fld := ⟨repPools, 2, 0⟩
def fRepPoolsPlSpareFree : Fld := ⟨repPools, 3, 3⟩
def fRepPoolsKlAltFree : Fld := ⟨repPools, 4, 4⟩
def fRepPoolsDeadPaths : Fld := ⟨repPools, 14, 8⟩
def fRepPoolsRowsMin : Fld := ⟨repPools, 20, 16⟩
def repCmd : Nat := 0x11 * 1024 + 0x12
def fRepCmdAction : Fld := ⟨repCmd, 3, 0⟩
def fRepCmdUnit : Fld := ⟨repCmd, 13, 8⟩
def repMap : Nat := 0x11 * 1024 + 0x13
def fRepMapRecords : Fld := ⟨repMap, 7, 0⟩
def fRepMapHalf : Fld := ⟨repMap, 8, 8⟩
def fRepMapDropped : Fld := ⟨repMap, 15, 9⟩
def fRepMapCompactions : Fld := ⟨repMap, 31, 16⟩
def repEccCount : Nat := 0x11 * 1024 + 0x14
def fRepEccCountCorrected : Fld := ⟨repEccCount, 15, 0⟩
def fRepEccCountUncorrected : Fld := ⟨repEccCount, 31, 16⟩
def repEccAddr : Nat := 0x11 * 1024 + 0x15
def fRepEccAddrOffset : Fld := ⟨repEccAddr, 19, 0⟩
def fRepEccAddrBank : Fld := ⟨repEccAddr, 23, 20⟩
def fRepEccAddrValid : Fld := ⟨repEccAddr, 24, 24⟩
def repLastLo : Nat := 0x11 * 1024 + 0x16
def repLastHi : Nat := 0x11 * 1024 + 0x17
def repTest : Nat := 0x11 * 1024 + 0x18
def fRepTestStep : Fld := ⟨repTest, 3, 0⟩
def fRepTestResult : Fld := ⟨repTest, 7, 4⟩
def fRepTestFound : Fld := ⟨repTest, 15, 8⟩
def repDeadLo : Nat := 0x11 * 1024 + 0x19
def repDeadHi : Nat := 0x11 * 1024 + 0x1A
def repCntClr : Nat := 0x11 * 1024 + 0x1B
def fRepCntClrEcc : Fld := ⟨repCntClr, 0, 0⟩
def repRows (i : Nat) : Nat := 0x11 * 1024 + 0x20 + i
def fRepRowsFree (i : Nat) : Fld := ⟨(repRows i), 4, 0⟩
def fRepRowsCorrected (i : Nat) : Fld := ⟨(repRows i), 31, 16⟩

/-! ### KLOIT page -/
def klCtrl : Nat := 0x1C * 1024 + 0x10
def fKlCtrlCensusAuto : Fld := ⟨klCtrl, 0, 0⟩
def fKlCtrlHostFormat : Fld := ⟨klCtrl, 15, 8⟩
def fKlCtrlFwdMask : Fld := ⟨klCtrl, 31, 16⟩
def klStat : Nat := 0x1C * 1024 + 0x11
def fKlStatNumber : Fld := ⟨klStat, 10, 0⟩
def fKlStatNumbered : Fld := ⟨klStat, 11, 11⟩
def fKlStatRole : Fld := ⟨klStat, 13, 12⟩
def fKlStatDepth : Fld := ⟨klStat, 17, 14⟩
def fKlStatUpAlt : Fld := ⟨klStat, 18, 18⟩
def fKlStatSync : Fld := ⟨klStat, 21, 19⟩
def fKlStatDownPorts : Fld := ⟨klStat, 25, 24⟩
def klVer : Nat := 0x1C * 1024 + 0x12
def fKlVerLink : Fld := ⟨klVer, 7, 0⟩
def fKlVerCalFmt : Fld := ⟨klVer, 15, 8⟩
def fKlVerCp : Fld := ⟨klVer, 23, 16⟩
def fKlVerMixed : Fld := ⟨klVer, 24, 24⟩
def klCmd : Nat := 0x1C * 1024 + 0x13
def fKlCmdAction : Fld := ⟨klCmd, 2, 0⟩
def fKlCmdGroup : Fld := ⟨klCmd, 13, 8⟩
def klCensus : Nat := 0x1C * 1024 + 0x14
def fKlCensusMembers : Fld := ⟨klCensus, 11, 0⟩
def fKlCensusConflicts : Fld := ⟨klCensus, 19, 12⟩
def fKlCensusGen : Fld := ⟨klCensus, 31, 24⟩
def klCenAddr : Nat := 0x1C * 1024 + 0x15
def klCenData : Nat := 0x1C * 1024 + 0x16
def klRaDev : Nat := 0x1C * 1024 + 0x17
def fKlRaDevDevice : Fld := ⟨klRaDev, 10, 0⟩
def fKlRaDevBcast : Fld := ⟨klRaDev, 11, 11⟩
def klRaAddr : Nat := 0x1C * 1024 + 0x18
def klRaData : Nat := 0x1C * 1024 + 0x19
def klRaCmd : Nat := 0x1C * 1024 + 0x1A
def fKlRaCmdRead : Fld := ⟨klRaCmd, 0, 0⟩
def fKlRaCmdWrite : Fld := ⟨klRaCmd, 1, 1⟩
def klRaStat : Nat := 0x1C * 1024 + 0x1B
def fKlRaStatBusy : Fld := ⟨klRaStat, 0, 0⟩
def fKlRaStatResult : Fld := ⟨klRaStat, 3, 1⟩
def fKlRaStatHops : Fld := ⟨klRaStat, 15, 8⟩
def klTrigCfg : Nat := 0x1C * 1024 + 0x1C
def fKlTrigCfgFwdIn : Fld := ⟨klTrigCfg, 3, 0⟩
def fKlTrigCfgLead : Fld := ⟨klTrigCfg, 15, 4⟩
def klTrigTideLo : Nat := 0x1C * 1024 + 0x1D
def klTrigTideHi : Nat := 0x1C * 1024 + 0x1E
def klTrigCmd : Nat := 0x1C * 1024 + 0x1F
def fKlTrigCmdChannel : Fld := ⟨klTrigCmd, 1, 0⟩
def fKlTrigCmdFire : Fld := ⟨klTrigCmd, 2, 2⟩
def klGroup : Nat := 0x1C * 1024 + 0x20
def fKlGroupId : Fld := ⟨klGroup, 5, 0⟩
def fKlGroupSize : Fld := ⟨klGroup, 14, 8⟩
def klGroupStat : Nat := 0x1C * 1024 + 0x21
def fKlGroupStatState : Fld := ⟨klGroupStat, 1, 0⟩
def fKlGroupStatDue : Fld := ⟨klGroupStat, 2, 2⟩
def fKlGroupStatReason : Fld := ⟨klGroupStat, 15, 8⟩
def fKlGroupStatCorr : Fld := ⟨klGroupStat, 31, 16⟩
def klDelay : Nat := 0x1C * 1024 + 0x22
def klCounts : Nat := 0x1C * 1024 + 0x23
def fKlCountsFailovers : Fld := ⟨klCounts, 7, 0⟩
def fKlCountsHoldovers : Fld := ⟨klCounts, 15, 8⟩
def fKlCountsTrigLate : Fld := ⟨klCounts, 23, 16⟩
def fKlCountsDiscards : Fld := ⟨klCounts, 31, 24⟩
def klCntClr : Nat := 0x1C * 1024 + 0x24
def fKlCntClrCounts : Fld := ⟨klCntClr, 0, 0⟩
def fKlCntClrPerr : Fld := ⟨klCntClr, 1, 1⟩
def klPctrl (i : Nat) : Nat := 0x1C * 1024 + 0x40 + 4 * i
def fKlPctrlEn (i : Nat) : Fld := ⟨(klPctrl i), 0, 0⟩
def klPstat (i : Nat) : Nat := 0x1C * 1024 + 0x41 + 4 * i
def fKlPstatState (i : Nat) : Fld := ⟨(klPstat i), 3, 0⟩
def fKlPstatBusy (i : Nat) : Fld := ⟨(klPstat i), 4, 4⟩
def fKlPstatEnq (i : Nat) : Fld := ⟨(klPstat i), 5, 5⟩
def fKlPstatShuttingDown (i : Nat) : Fld := ⟨(klPstat i), 6, 6⟩
def fKlPstatPartner (i : Nat) : Fld := ⟨(klPstat i), 18, 8⟩
def fKlPstatPartnerNumbered (i : Nat) : Fld := ⟨(klPstat i), 19, 19⟩
def fKlPstatPartnerPort (i : Nat) : Fld := ⟨(klPstat i), 22, 20⟩
def fKlPstatPartnerLink (i : Nat) : Fld := ⟨(klPstat i), 31, 24⟩
def klPerr (i : Nat) : Nat := 0x1C * 1024 + 0x42 + 4 * i
def fKlPerrCrc (i : Nat) : Fld := ⟨(klPerr i), 15, 0⟩
def fKlPerrReplays (i : Nat) : Fld := ⟨(klPerr i), 31, 16⟩
def klPcred (i : Nat) : Nat := 0x1C * 1024 + 0x43 + 4 * i
def fKlPcredC2 (i : Nat) : Fld := ⟨(klPcred i), 9, 0⟩
def fKlPcredReplay (i : Nat) : Fld := ⟨(klPcred i), 22, 16⟩

/-! ### PL page -/
def plCtrl : Nat := 0x1B * 1024 + 0x10
def fPlCtrlAdmitPct : Fld := ⟨plCtrl, 7, 0⟩
def fPlCtrlSpareEn : Fld := ⟨plCtrl, 8, 8⟩
def fPlCtrlAgeStep : Fld := ⟨plCtrl, 25, 16⟩
def plMap : Nat := 0x1B * 1024 + 0x11
def fPlMapPos0 : Fld := ⟨plMap, 2, 0⟩
def fPlMapPos1 : Fld := ⟨plMap, 5, 3⟩
def fPlMapPos2 : Fld := ⟨plMap, 8, 6⟩
def fPlMapPos3 : Fld := ⟨plMap, 11, 9⟩
def fPlMapSpare : Fld := ⟨plMap, 14, 12⟩
def plCap : Nat := 0x1B * 1024 + 0x12
def fPlCapCap : Fld := ⟨plCap, 16, 0⟩
def plAdmitted : Nat := 0x1B * 1024 + 0x13
def plVcCfg : Nat := 0x1B * 1024 + 0x14
def plVcStat : Nat := 0x1B * 1024 + 0x15
def fPlVcStatUrgent : Fld := ⟨plVcStat, 3, 0⟩
def fPlVcStatNoCredit : Fld := ⟨plVcStat, 7, 4⟩
def plTxcredLo : Nat := 0x1B * 1024 + 0x16
def fPlTxcredLoVc0 : Fld := ⟨plTxcredLo, 15, 0⟩
def fPlTxcredLoVc1 : Fld := ⟨plTxcredLo, 31, 16⟩
def plTxcredHi : Nat := 0x1B * 1024 + 0x17
def fPlTxcredHiVc2 : Fld := ⟨plTxcredHi, 15, 0⟩
def fPlTxcredHiVc3 : Fld := ⟨plTxcredHi, 31, 16⟩
def plMsgCfg : Nat := 0x1B * 1024 + 0x18
def fPlMsgCfgPush : Fld := ⟨plMsgCfg, 15, 0⟩
def fPlMsgCfgLatency : Fld := ⟨plMsgCfg, 23, 16⟩
def plStreamCtrl : Nat := 0x1B * 1024 + 0x19
def fPlStreamCtrlPathEn : Fld := ⟨plStreamCtrl, 0, 0⟩
def fPlStreamCtrlPathCar : Fld := ⟨plStreamCtrl, 2, 1⟩
def fPlStreamCtrlBeamEn : Fld := ⟨plStreamCtrl, 4, 4⟩
def fPlStreamCtrlBeamShift : Fld := ⟨plStreamCtrl, 11, 8⟩
def fPlStreamCtrlBeamMask : Fld := ⟨plStreamCtrl, 31, 16⟩
def plStreamStat : Nat := 0x1B * 1024 + 0x1A
def fPlStreamStatPathOn : Fld := ⟨plStreamStat, 0, 0⟩
def fPlStreamStatBeamOn : Fld := ⟨plStreamStat, 1, 1⟩
def fPlStreamStatSnapOn : Fld := ⟨plStreamStat, 2, 2⟩
def fPlStreamStatReason : Fld := ⟨plStreamStat, 15, 8⟩
def plDrops : Nat := 0x1B * 1024 + 0x1B
def fPlDropsStream : Fld := ⟨plDrops, 15, 0⟩
def fPlDropsRx : Fld := ⟨plDrops, 31, 16⟩
def plReplays : Nat := 0x1B * 1024 + 0x1C
def plIntCfg : Nat := 0x1B * 1024 + 0x1D
def fPlIntCfgHoldoff : Fld := ⟨plIntCfg, 15, 0⟩
def plCntClr : Nat := 0x1B * 1024 + 0x1E
def fPlCntClrDrops : Fld := ⟨plCntClr, 0, 0⟩
def fPlCntClrReplays : Fld := ⟨plCntClr, 1, 1⟩
def fPlCntClrLerr : Fld := ⟨plCntClr, 2, 2⟩
def plLctrl (i : Nat) : Nat := 0x1B * 1024 + 0x40 + 4 * i
def fPlLctrlEn (i : Nat) : Fld := ⟨(plLctrl i), 0, 0⟩
def fPlLctrlTxInv (i : Nat) : Fld := ⟨(plLctrl i), 1, 1⟩
def fPlLctrlRxInv (i : Nat) : Fld := ⟨(plLctrl i), 2, 2⟩
def plLstat (i : Nat) : Nat := 0x1B * 1024 + 0x41 + 4 * i
def fPlLstatState (i : Nat) : Fld := ⟨(plLstat i), 3, 0⟩
def fPlLstatBusy (i : Nat) : Fld := ⟨(plLstat i), 4, 4⟩
def fPlLstatEnq (i : Nat) : Fld := ⟨(plLstat i), 5, 5⟩
def fPlLstatShuttingDown (i : Nat) : Fld := ⟨(plLstat i), 6, 6⟩
def fPlLstatPos (i : Nat) : Fld := ⟨(plLstat i), 10, 8⟩
def fPlLstatSkew (i : Nat) : Fld := ⟨(plLstat i), 22, 16⟩
def plLerr (i : Nat) : Nat := 0x1B * 1024 + 0x42 + 4 * i
def fPlLerrSync (i : Nat) : Fld := ⟨(plLerr i), 15, 0⟩
def fPlLerrFaults (i : Nat) : Fld := ⟨(plLerr i), 31, 16⟩

/-! ### RST page -/
def rstCause : Nat := 0x01 * 1024 + 0x10
def fRstCauseSource : Fld := ⟨rstCause, 7, 0⟩
def fRstCauseRail : Fld := ⟨rstCause, 16, 8⟩
def rstStat : Nat := 0x01 * 1024 + 0x11
def fRstStatLastReach : Fld := ⟨rstStat, 1, 0⟩
def fRstStatResets : Fld := ⟨rstStat, 31, 16⟩
def rstStraps : Nat := 0x01 * 1024 + 0x12
def rstStrapFlags : Nat := 0x01 * 1024 + 0x13
def fRstStrapFlagsUnstable : Fld := ⟨rstStrapFlags, 7, 0⟩
def fRstStrapFlagsReserved : Fld := ⟨rstStrapFlags, 15, 8⟩
def rstWdogCfg : Nat := 0x01 * 1024 + 0x14
def fRstWdogCfgPeriod : Fld := ⟨rstWdogCfg, 15, 0⟩
def fRstWdogCfgEn : Fld := ⟨rstWdogCfg, 16, 16⟩
def fRstWdogCfgLock : Fld := ⟨rstWdogCfg, 17, 17⟩
def rstWdogKick : Nat := 0x01 * 1024 + 0x15
def fRstWdogKickKey : Fld := ⟨rstWdogKick, 7, 0⟩
def rstWdogLeft : Nat := 0x01 * 1024 + 0x16

/-! ### SYS page -/
def sysCtrl : Nat := 0x00 * 1024 + 0x10
def fSysCtrlChipRst : Fld := ⟨sysCtrl, 0, 0⟩
def sysStat : Nat := 0x00 * 1024 + 0x11
def fSysStatBoot : Fld := ⟨sysStat, 1, 0⟩
def fSysStatSource : Fld := ⟨sysStat, 4, 2⟩
def fSysStatSlot : Fld := ⟨sysStat, 5, 5⟩
def sysIdentLo : Nat := 0x00 * 1024 + 0x12
def sysIdentHi : Nat := 0x00 * 1024 + 0x13

/-! ### CLK page -/
def clkGood : Nat := 0x02 * 1024 + 0x10
def fClkGoodHost : Fld := ⟨clkGood, 0, 0⟩
def fClkGoodPilot : Fld := ⟨clkGood, 1, 1⟩
def fClkGoodConv : Fld := ⟨clkGood, 2, 2⟩
def fClkGoodDsp : Fld := ⟨clkGood, 3, 3⟩
def fClkGoodAonXtal : Fld := ⟨clkGood, 4, 4⟩
def fClkGoodPl0 : Fld := ⟨clkGood, 9, 5⟩
def fClkGoodKl0 : Fld := ⟨clkGood, 14, 10⟩
def clkRef : Nat := 0x02 * 1024 + 0x11
def fClkRefRefSel : Fld := ⟨clkRef, 1, 0⟩
def fClkRefRefPresent : Fld := ⟨clkRef, 2, 2⟩
def fClkRefXtalOk : Fld := ⟨clkRef, 3, 3⟩

/-! ### SYNTH page -/
def synStat : Nat := 0x1D * 1024 + 0x10
def fSynStatPLock : Fld := ⟨synStat, 0, 0⟩
def fSynStatSLock : Fld := ⟨synStat, 1, 1⟩
def fSynStatSCal : Fld := ⟨synStat, 2, 2⟩
def fSynStatSCalRun : Fld := ⟨synStat, 3, 3⟩
def fSynStatSRef : Fld := ⟨synStat, 4, 4⟩
def fSynStatSCore : Fld := ⟨synStat, 5, 5⟩
def fSynStatSHold : Fld := ⟨synStat, 6, 6⟩
def fSynStatLosses : Fld := ⟨synStat, 15, 8⟩
def fSynStatCalTemp : Fld := ⟨synStat, 31, 24⟩
def synCmd : Nat := 0x1D * 1024 + 0x11
def fSynCmdRecal : Fld := ⟨synCmd, 0, 0⟩
def synRatio : Nat := 0x1D * 1024 + 0x12

/-! ### OPT page -/
def optStat : Nat := 0x07 * 1024 + 0x10
def fOptStatBusy : Fld := ⟨optStat, 0, 0⟩
def fOptStatBcValid : Fld := ⟨optStat, 1, 1⟩
def fOptStatProfileValid : Fld := ⟨optStat, 2, 2⟩
def fOptStatCurveValid : Fld := ⟨optStat, 3, 3⟩
def fOptStatSealed : Fld := ⟨optStat, 4, 4⟩
def fOptStatResult : Fld := ⟨optStat, 15, 8⟩
def optAddr : Nat := 0x07 * 1024 + 0x11
def optData : Nat := 0x07 * 1024 + 0x12
def optSector : Nat := 0x07 * 1024 + 0x13
def optCmd : Nat := 0x07 * 1024 + 0x14
def fOptCmdAction : Fld := ⟨optCmd, 1, 0⟩
def optImgAddr : Nat := 0x07 * 1024 + 0x15
def optImgData : Nat := 0x07 * 1024 + 0x16
def optSectBuf (i : Nat) : Nat := 0x07 * 1024 + 0x20 + i

/-! ### PWR page -/
def pwrCmd : Nat := 0x03 * 1024 + 0x10
def fPwrCmdAction : Fld := ⟨pwrCmd, 1, 0⟩
def pwrStat : Nat := 0x03 * 1024 + 0x11
def fPwrStatState : Fld := ⟨pwrStat, 1, 0⟩
def fPwrStatLast : Fld := ⟨pwrStat, 9, 8⟩
def pwrRetain : Nat := 0x03 * 1024 + 0x12
def pwrWakeEn : Nat := 0x03 * 1024 + 0x13
def pwrWakeCfg : Nat := 0x03 * 1024 + 0x14
def pwrWakeSrc : Nat := 0x03 * 1024 + 0x15
def fPwrWakeSrcSource : Fld := ⟨pwrWakeSrc, 10, 0⟩
def fPwrWakeSrcAtEntry : Fld := ⟨pwrWakeSrc, 16, 16⟩
def pwrSleepTimer : Nat := 0x03 * 1024 + 0x16
def pwrCounts : Nat := 0x03 * 1024 + 0x17
def fPwrCountsMoorings : Fld := ⟨pwrCounts, 15, 0⟩
def fPwrCountsLostEdges : Fld := ⟨pwrCounts, 31, 16⟩
def pwrLastSleep : Nat := 0x03 * 1024 + 0x18
def pwrCntClr : Nat := 0x03 * 1024 + 0x19
def fPwrCntClrCounts : Fld := ⟨pwrCntClr, 0, 0⟩

/-! ### WATCH page -/
def watchCtrl : Nat := 0x1E * 1024 + 0x10
def fWatchCtrlEn : Fld := ⟨watchCtrl, 0, 0⟩
def fWatchCtrlCh : Fld := ⟨watchCtrl, 17, 8⟩
def watchCfg : Nat := 0x1E * 1024 + 0x11
def fWatchCfgPeriod : Fld := ⟨watchCfg, 7, 0⟩
def fWatchCfgLevel : Fld := ⟨watchCfg, 15, 8⟩
def fWatchCfgPulse : Fld := ⟨watchCfg, 23, 16⟩
def fWatchCfgSettle : Fld := ⟨watchCfg, 31, 24⟩
def watchDet : Nat := 0x1E * 1024 + 0x12
def fWatchDetThr : Fld := ⟨watchDet, 7, 0⟩
def fWatchDetConfirm : Fld := ⟨watchDet, 11, 8⟩
def fWatchDetQuiet : Fld := ⟨watchDet, 15, 12⟩
def fWatchDetBaseTau : Fld := ⟨watchDet, 19, 16⟩
def fWatchDetLearn : Fld := ⟨watchDet, 27, 20⟩
def watchStat : Nat := 0x1E * 1024 + 0x13
def fWatchStatState : Fld := ⟨watchStat, 2, 0⟩
def fWatchStatChange : Fld := ⟨watchStat, 15, 8⟩
def fWatchStatRun : Fld := ⟨watchStat, 19, 16⟩
def watchBase : Nat := 0x1E * 1024 + 0x14
def fWatchBaseI : Fld := ⟨watchBase, 15, 0⟩
def fWatchBaseQ : Fld := ⟨watchBase, 31, 16⟩
def watchCounts : Nat := 0x1E * 1024 + 0x15
def fWatchCountsDetections : Fld := ⟨watchCounts, 15, 0⟩
def fWatchCountsAbandoned : Fld := ⟨watchCounts, 31, 16⟩
def watchCntClr : Nat := 0x1E * 1024 + 0x16
def fWatchCntClrCounts : Fld := ⟨watchCntClr, 0, 0⟩
def watchFine : Nat := 0x1E * 1024 + 0x17
def fWatchFineFine : Fld := ⟨watchFine, 17, 0⟩

/-! ### RTC page -/
def rtcCtrl : Nat := 0x08 * 1024 + 0x10
def fRtcCtrlHalt : Fld := ⟨rtcCtrl, 0, 0⟩
def fRtcCtrlOutSel : Fld := ⟨rtcCtrl, 2, 1⟩
def fRtcCtrlVbakThr : Fld := ⟨rtcCtrl, 5, 4⟩
def fRtcCtrlChgEn : Fld := ⟨rtcCtrl, 8, 8⟩
def fRtcCtrlChgV : Fld := ⟨rtcCtrl, 10, 9⟩
def fRtcCtrlChgR : Fld := ⟨rtcCtrl, 13, 12⟩
def rtcStat : Nat := 0x08 * 1024 + 0x11
def fRtcStatRoll : Fld := ⟨rtcStat, 0, 0⟩
def fRtcStatLost : Fld := ⟨rtcStat, 1, 1⟩
def fRtcStatOnBackup : Fld := ⟨rtcStat, 2, 2⟩
def fRtcStatVbakLow : Fld := ⟨rtcStat, 3, 3⟩
def fRtcStatLockout : Fld := ⟨rtcStat, 4, 4⟩
def fRtcStatCharging : Fld := ⟨rtcStat, 5, 5⟩
def fRtcStatMode : Fld := ⟨rtcStat, 6, 6⟩
def fRtcStatCurve : Fld := ⟨rtcStat, 7, 7⟩
def rtcTime : Nat := 0x08 * 1024 + 0x12
def fRtcTimeSeconds : Fld := ⟨rtcTime, 6, 0⟩
def fRtcTimeMinutes : Fld := ⟨rtcTime, 14, 8⟩
def fRtcTimeHours : Fld := ⟨rtcTime, 21, 16⟩
def fRtcTimeWeekday : Fld := ⟨rtcTime, 26, 24⟩
def rtcDate : Nat := 0x08 * 1024 + 0x13
def fRtcDateDay : Fld := ⟨rtcDate, 5, 0⟩
def fRtcDateMonth : Fld := ⟨rtcDate, 12, 8⟩
def fRtcDateYear : Fld := ⟨rtcDate, 23, 16⟩
def fRtcDateCentury : Fld := ⟨rtcDate, 31, 24⟩
def rtcSubsec : Nat := 0x08 * 1024 + 0x14
def fRtcSubsecCount : Fld := ⟨rtcSubsec, 14, 0⟩
def rtcWake : Nat := 0x08 * 1024 + 0x15
def fRtcWakePeriod : Fld := ⟨rtcWake, 19, 0⟩
def rtcWakeLeft : Nat := 0x08 * 1024 + 0x16
def fRtcWakeLeftLeft : Fld := ⟨rtcWakeLeft, 19, 0⟩
def rtcTrim : Nat := 0x08 * 1024 + 0x17
def fRtcTrimTrim : Fld := ⟨rtcTrim, 15, 0⟩
def rtcRate : Nat := 0x08 * 1024 + 0x18
def fRtcRateE : Fld := ⟨rtcRate, 15, 0⟩
def fRtcRateT : Fld := ⟨rtcRate, 23, 16⟩

/-! ### TIDE page -/
def tideCountLo : Nat := 0x09 * 1024 + 0x10
def tideCountHi : Nat := 0x09 * 1024 + 0x11
def tideFrac : Nat := 0x09 * 1024 + 0x12
def tideStat : Nat := 0x09 * 1024 + 0x13
def fTideStatBridged : Fld := ⟨tideStat, 0, 0⟩
def fTideStatBridgeValid : Fld := ⟨tideStat, 1, 1⟩
def fTideStatStepped : Fld := ⟨tideStat, 2, 2⟩
def tideBridgeLo : Nat := 0x09 * 1024 + 0x14
def tideBridgeHi : Nat := 0x09 * 1024 + 0x15
def tideRateUsed : Nat := 0x09 * 1024 + 0x16
def tideStep : Nat := 0x09 * 1024 + 0x17
def tideSteps : Nat := 0x09 * 1024 + 0x18
def tideCntClr : Nat := 0x09 * 1024 + 0x19
def fTideCntClrSteps : Fld := ⟨tideCntClr, 0, 0⟩

/-! ### TMC page -/
def tmStart (p : Nat) : Nat := (0x0A + p) * 1024 + 0x10
def tmStop (p : Nat) : Nat := (0x0A + p) * 1024 + 0x11
def tmCtrl (p : Nat) (i : Nat) : Nat := (0x0A + p) * 1024 + 0x40 + 8 * i
def fTmCtrlEn (p : Nat) (i : Nat) : Fld := ⟨(tmCtrl p i), 0, 0⟩
def fTmCtrlSrc (p : Nat) (i : Nat) : Fld := ⟨(tmCtrl p i), 3, 1⟩
def fTmCtrlPre (p : Nat) (i : Nat) : Fld := ⟨(tmCtrl p i), 7, 4⟩
def fTmCtrlIoMode (p : Nat) (i : Nat) : Fld := ⟨(tmCtrl p i), 9, 8⟩
def fTmCtrlPol (p : Nat) (i : Nat) : Fld := ⟨(tmCtrl p i), 10, 10⟩
def fTmCtrlCapEdge (p : Nat) (i : Nat) : Fld := ⟨(tmCtrl p i), 12, 11⟩
def fTmCtrlOutMode (p : Nat) (i : Nat) : Fld := ⟨(tmCtrl p i), 14, 13⟩
def fTmCtrlTopNow (p : Nat) (i : Nat) : Fld := ⟨(tmCtrl p i), 15, 15⟩
def fTmCtrlOneShot (p : Nat) (i : Nat) : Fld := ⟨(tmCtrl p i), 16, 16⟩
def tmCount (p : Nat) (i : Nat) : Nat := (0x0A + p) * 1024 + 0x41 + 8 * i
def tmTop (p : Nat) (i : Nat) : Nat := (0x0A + p) * 1024 + 0x42 + 8 * i
def tmCmp (p : Nat) (i : Nat) : Nat := (0x0A + p) * 1024 + 0x43 + 8 * i
def tmCap (p : Nat) (i : Nat) : Nat := (0x0A + p) * 1024 + 0x44 + 8 * i
def tmStat (p : Nat) (i : Nat) : Nat := (0x0A + p) * 1024 + 0x45 + 8 * i
def fTmStatDir (p : Nat) (i : Nat) : Fld := ⟨(tmStat p i), 0, 0⟩
def fTmStatCapNew (p : Nat) (i : Nat) : Fld := ⟨(tmStat p i), 1, 1⟩
def fTmStatCapOvr (p : Nat) (i : Nat) : Fld := ⟨(tmStat p i), 2, 2⟩
def fTmStatPeriodClip (p : Nat) (i : Nat) : Fld := ⟨(tmStat p i), 3, 3⟩
def fTmStatOut (p : Nat) (i : Nat) : Fld := ⟨(tmStat p i), 4, 4⟩
def fTmStatGated (p : Nat) (i : Nat) : Fld := ⟨(tmStat p i), 5, 5⟩
def fTmStatCmpLate (p : Nat) (i : Nat) : Fld := ⟨(tmStat p i), 6, 6⟩
def tmPeriod (p : Nat) (i : Nat) : Nat := (0x0A + p) * 1024 + 0x46 + 8 * i

/-! ### HKADC page -/
def hkCtrl : Nat := 0x0C * 1024 + 0x10
def fHkCtrlCont : Fld := ⟨hkCtrl, 0, 0⟩
def fHkCtrlTrigSrc : Fld := ⟨hkCtrl, 5, 1⟩
def fHkCtrlSeqLen : Fld := ⟨hkCtrl, 11, 8⟩
def hkCmd : Nat := 0x0C * 1024 + 0x11
def fHkCmdStart : Fld := ⟨hkCmd, 0, 0⟩
def fHkCmdStop : Fld := ⟨hkCmd, 1, 1⟩
def fHkCmdSyscalZero : Fld := ⟨hkCmd, 2, 2⟩
def fHkCmdSyscalFull : Fld := ⟨hkCmd, 3, 3⟩
def hkStat : Nat := 0x0C * 1024 + 0x12
def fHkStatBusy : Fld := ⟨hkStat, 0, 0⟩
def fHkStatPending : Fld := ⟨hkStat, 1, 1⟩
def fHkStatEntry : Fld := ⟨hkStat, 5, 2⟩
def fHkStatUrgBusy : Fld := ⟨hkStat, 6, 6⟩
def fHkStatSyscalBusy : Fld := ⟨hkStat, 7, 7⟩
def fHkStatSeqCount : Fld := ⟨hkStat, 31, 16⟩
def hkTrigOvf : Nat := 0x0C * 1024 + 0x13
def hkUrgCmd : Nat := 0x0C * 1024 + 0x14
def fHkUrgCmdInput : Fld := ⟨hkUrgCmd, 5, 0⟩
def fHkUrgCmdPath : Fld := ⟨hkUrgCmd, 13, 8⟩
def fHkUrgCmdGo : Fld := ⟨hkUrgCmd, 16, 16⟩
def hkUrgRes : Nat := 0x0C * 1024 + 0x15
def hkSyscal : Nat := 0x0C * 1024 + 0x16
def fHkSyscalInput : Fld := ⟨hkSyscal, 5, 0⟩
def fHkSyscalFsMv : Fld := ⟨hkSyscal, 31, 16⟩
def hkSyscalCoef : Nat := 0x0C * 1024 + 0x17
def fHkSyscalCoefOffset : Fld := ⟨hkSyscalCoef, 15, 0⟩
def fHkSyscalCoefGain : Fld := ⟨hkSyscalCoef, 31, 16⟩
def hkSyscalStat : Nat := 0x0C * 1024 + 0x18
def fHkSyscalStatResult : Fld := ⟨hkSyscalStat, 1, 0⟩
def fHkSyscalStatStep : Fld := ⟨hkSyscalStat, 2, 2⟩
def hkTherm : Nat := 0x0C * 1024 + 0x19
def fHkThermWarn : Fld := ⟨hkTherm, 7, 0⟩
def fHkThermCrit : Fld := ⟨hkTherm, 15, 8⟩
def hkTempMax : Nat := 0x0C * 1024 + 0x1A
def fHkTempMaxT : Fld := ⟨hkTempMax, 15, 0⟩
def fHkTempMaxSensor : Fld := ⟨hkTempMax, 20, 16⟩
def hkLimStat : Nat := 0x0C * 1024 + 0x1B
def hkCntClr : Nat := 0x0C * 1024 + 0x1C
def fHkCntClrTrigOvf : Fld := ⟨hkCntClr, 0, 0⟩
def hkEntry (i : Nat) : Nat := 0x0C * 1024 + 0x20 + i
def fHkEntryInput (i : Nat) : Fld := ⟨(hkEntry i), 5, 0⟩
def fHkEntryAvg (i : Nat) : Fld := ⟨(hkEntry i), 7, 6⟩
def fHkEntryAcq (i : Nat) : Fld := ⟨(hkEntry i), 10, 8⟩
def fHkEntryLimEn (i : Nat) : Fld := ⟨(hkEntry i), 11, 11⟩
def fHkEntryLimSel (i : Nat) : Fld := ⟨(hkEntry i), 14, 12⟩
def fHkEntryPath (i : Nat) : Fld := ⟨(hkEntry i), 21, 16⟩
def hkRes (i : Nat) : Nat := 0x0C * 1024 + 0x30 + i
def fHkResCode (i : Nat) : Fld := ⟨(hkRes i), 11, 0⟩
def fHkResInput (i : Nat) : Fld := ⟨(hkRes i), 17, 12⟩
def fHkResLimit (i : Nat) : Fld := ⟨(hkRes i), 18, 18⟩
def fHkResValid (i : Nat) : Fld := ⟨(hkRes i), 19, 19⟩
def fHkResGen (i : Nat) : Fld := ⟨(hkRes i), 27, 24⟩
def hkLim (i : Nat) : Nat := 0x0C * 1024 + 0x40 + i
def fHkLimLo (i : Nat) : Fld := ⟨(hkLim i), 11, 0⟩
def fHkLimHi (i : Nat) : Fld := ⟨(hkLim i), 27, 16⟩
def fHkLimInside (i : Nat) : Fld := ⟨(hkLim i), 31, 31⟩

/-! ### SSPM page -/
def sspmClk : Nat := 0x0D * 1024 + 0x10
def fSspmClkN : Fld := ⟨sspmClk, 6, 0⟩
def fSspmClkMode3 : Fld := ⟨sspmClk, 8, 8⟩
def fSspmClkSample : Fld := ⟨sspmClk, 11, 9⟩
def fSspmClkCsIdle : Fld := ⟨sspmClk, 19, 16⟩
def sspmXfer : Nat := 0x0D * 1024 + 0x11
def fSspmXferCmdLen : Fld := ⟨sspmXfer, 1, 0⟩
def fSspmXferCmdW : Fld := ⟨sspmXfer, 3, 2⟩
def fSspmXferAddrLen : Fld := ⟨sspmXfer, 5, 4⟩
def fSspmXferAddrW : Fld := ⟨sspmXfer, 7, 6⟩
def fSspmXferAlt : Fld := ⟨sspmXfer, 8, 8⟩
def fSspmXferAltW : Fld := ⟨sspmXfer, 10, 9⟩
def fSspmXferDummy : Fld := ⟨sspmXfer, 15, 11⟩
def fSspmXferDataW : Fld := ⟨sspmXfer, 17, 16⟩
def fSspmXferWrite : Fld := ⟨sspmXfer, 18, 18⟩
def fSspmXferCs : Fld := ⟨sspmXfer, 20, 19⟩
def fSspmXferPoll : Fld := ⟨sspmXfer, 21, 21⟩
def sspmLen : Nat := 0x0D * 1024 + 0x12
def sspmOpcode : Nat := 0x0D * 1024 + 0x13
def sspmAddr : Nat := 0x0D * 1024 + 0x14
def sspmCmd : Nat := 0x0D * 1024 + 0x15
def fSspmCmdGo : Fld := ⟨sspmCmd, 0, 0⟩
def fSspmCmdSfdp : Fld := ⟨sspmCmd, 1, 1⟩
def sspmStat : Nat := 0x0D * 1024 + 0x16
def fSspmStatBusy : Fld := ⟨sspmStat, 0, 0⟩
def fSspmStatSfdpOk : Fld := ⟨sspmStat, 1, 1⟩
def fSspmStatErr : Fld := ⟨sspmStat, 10, 8⟩
def sspmPoll : Nat := 0x0D * 1024 + 0x17
def fSspmPollOp : Fld := ⟨sspmPoll, 7, 0⟩
def fSspmPollMask : Fld := ⟨sspmPoll, 15, 8⟩
def fSspmPollMatch : Fld := ⟨sspmPoll, 23, 16⟩
def fSspmPollInt : Fld := ⟨sspmPoll, 31, 24⟩
def sspmPollLim : Nat := 0x0D * 1024 + 0x18
def sspmXipCtrl : Nat := 0x0D * 1024 + 0x19
def fSspmXipCtrlEn : Fld := ⟨sspmXipCtrl, 0, 0⟩
def fSspmXipCtrlCs : Fld := ⟨sspmXipCtrl, 2, 1⟩
def fSspmXipCtrlWrEn : Fld := ⟨sspmXipCtrl, 3, 3⟩
def fSspmXipCtrlWrHold : Fld := ⟨sspmXipCtrl, 15, 8⟩
def sspmXipRd : Nat := 0x0D * 1024 + 0x1A
def fSspmXipRdOp : Fld := ⟨sspmXipRd, 7, 0⟩
def fSspmXipRdCmdW : Fld := ⟨sspmXipRd, 9, 8⟩
def fSspmXipRdAddrW : Fld := ⟨sspmXipRd, 11, 10⟩
def fSspmXipRdDataW : Fld := ⟨sspmXipRd, 13, 12⟩
def fSspmXipRdDummy : Fld := ⟨sspmXipRd, 18, 14⟩
def fSspmXipRdAddr4 : Fld := ⟨sspmXipRd, 19, 19⟩
def fSspmXipRdModeByte : Fld := ⟨sspmXipRd, 20, 20⟩
def sspmXipWr : Nat := 0x0D * 1024 + 0x1B
def fSspmXipWrProgOp : Fld := ⟨sspmXipWr, 7, 0⟩
def fSspmXipWrAddrW : Fld := ⟨sspmXipWr, 9, 8⟩
def fSspmXipWrDataW : Fld := ⟨sspmXipWr, 11, 10⟩
def fSspmXipWrPage : Fld := ⟨sspmXipWr, 15, 12⟩
def fSspmXipWrWrenOp : Fld := ⟨sspmXipWr, 23, 16⟩
def sspmXipStat : Nat := 0x0D * 1024 + 0x1C
def fSspmXipStatProg : Fld := ⟨sspmXipStat, 0, 0⟩
def fSspmXipStatDiscards : Fld := ⟨sspmXipStat, 31, 16⟩
def sspmBuf (i : Nat) : Nat := 0x0D * 1024 + 0x80 + i

/-! ### SSPS page -/
def sspsCfg : Nat := 0x0E * 1024 + 0x10
def fSspsCfgWord : Fld := ⟨sspsCfg, 1, 0⟩
def fSspsCfgFrameWords : Fld := ⟨sspsCfg, 8, 2⟩
def fSspsCfgMode3 : Fld := ⟨sspsCfg, 9, 9⟩
def fSspsCfgAttnLow : Fld := ⟨sspsCfg, 10, 10⟩
def sspsThr : Nat := 0x0E * 1024 + 0x11
def fSspsThrRx : Fld := ⟨sspsThr, 6, 0⟩
def fSspsThrTx : Fld := ⟨sspsThr, 14, 8⟩
def fSspsThrAttnTx : Fld := ⟨sspsThr, 22, 16⟩
def sspsStat : Nat := 0x0E * 1024 + 0x12
def fSspsStatRxLevel : Fld := ⟨sspsStat, 6, 0⟩
def fSspsStatTxLevel : Fld := ⟨sspsStat, 14, 8⟩
def fSspsStatRxPartial : Fld := ⟨sspsStat, 16, 16⟩
def fSspsStatOverclock : Fld := ⟨sspsStat, 17, 17⟩
def fSspsStatRxOvf : Fld := ⟨sspsStat, 18, 18⟩
def fSspsStatTxUnder : Fld := ⟨sspsStat, 19, 19⟩
def sspsRxWr : Nat := 0x0E * 1024 + 0x13
def sspsRxRd : Nat := 0x0E * 1024 + 0x14
def sspsTxWr : Nat := 0x0E * 1024 + 0x15
def sspsTxRd : Nat := 0x0E * 1024 + 0x16
def sspsAttn : Nat := 0x0E * 1024 + 0x17
def fSspsAttnSet : Fld := ⟨sspsAttn, 0, 0⟩
def sspsFrames : Nat := 0x0E * 1024 + 0x18
def sspsRxWin (i : Nat) : Nat := 0x0E * 1024 + 0x40 + i
def sspsTxWin (i : Nat) : Nat := 0x0E * 1024 + 0x80 + i

/-! ### INTC page -/
def intcPendLo : Nat := 0x04 * 1024 + 0x10
def intcPendHi : Nat := 0x04 * 1024 + 0x11
def intcEnLo : Nat := 0x04 * 1024 + 0x12
def intcEnHi : Nat := 0x04 * 1024 + 0x13
def intcOutCfg : Nat := 0x04 * 1024 + 0x14
def fIntcOutCfgPulseW : Fld := ⟨intcOutCfg, 23, 16⟩
def intcOutStat : Nat := 0x04 * 1024 + 0x15
def intcSupplyStat : Nat := 0x04 * 1024 + 0x16
def intcPathsLo : Nat := 0x04 * 1024 + 0x17
def intcPathsHi : Nat := 0x04 * 1024 + 0x18
def intcPilotFo : Nat := 0x04 * 1024 + 0x19
def intcPilotImg : Nat := 0x04 * 1024 + 0x1A
def intcRoute (i : Nat) : Nat := 0x04 * 1024 + 0x20 + i

/-! ### SEC page -/
def secCmd : Nat := 0x06 * 1024 + 0x10
def fSecCmdAction : Fld := ⟨secCmd, 1, 0⟩
def fSecCmdLevel : Fld := ⟨secCmd, 5, 4⟩
def secStat : Nat := 0x06 * 1024 + 0x11
def fSecStatLevel : Fld := ⟨secStat, 1, 0⟩
def fSecStatChalValid : Fld := ⟨secStat, 2, 2⟩
def fSecStatBackoff : Fld := ⟨secStat, 3, 3⟩
def fSecStatLockdown : Fld := ⟨secStat, 4, 4⟩
def fSecStatSealed : Fld := ⟨secStat, 5, 5⟩
def fSecStatKOpSet : Fld := ⟨secStat, 6, 6⟩
def fSecStatKProvSet : Fld := ⟨secStat, 7, 7⟩
def fSecStatFails : Fld := ⟨secStat, 15, 8⟩
def fSecStatResult : Fld := ⟨secStat, 18, 16⟩
def secCfg : Nat := 0x06 * 1024 + 0x12
def fSecCfgIdleTo : Fld := ⟨secCfg, 11, 0⟩
def fSecCfgTamperLimit : Fld := ⟨secCfg, 23, 16⟩
def secSeq : Nat := 0x06 * 1024 + 0x13
def secIdleLeft : Nat := 0x06 * 1024 + 0x14
def secBackoffLeft : Nat := 0x06 * 1024 + 0x15
def secTamper : Nat := 0x06 * 1024 + 0x16
def fSecTamperCount : Fld := ⟨secTamper, 15, 0⟩
def fSecTamperCause : Fld := ⟨secTamper, 20, 16⟩
def secKeyCmd : Nat := 0x06 * 1024 + 0x17
def fSecKeyCmdAction : Fld := ⟨secKeyCmd, 2, 0⟩
def secKcvOp : Nat := 0x06 * 1024 + 0x18
def secKcvProv : Nat := 0x06 * 1024 + 0x19
def secChal (i : Nat) : Nat := 0x06 * 1024 + 0x20 + i
def secResp (i : Nat) : Nat := 0x06 * 1024 + 0x28 + i
def secKeyBuf (i : Nat) : Nat := 0x06 * 1024 + 0x30 + i

/-! ### PINS page -/
def pinsBanks : Nat := 0x0F * 1024 + 0x10
def fPinsBanksA33 : Fld := ⟨pinsBanks, 0, 0⟩
def fPinsBanksB33 : Fld := ⟨pinsBanks, 1, 1⟩
def fPinsBanksAGood : Fld := ⟨pinsBanks, 2, 2⟩
def fPinsBanksBGood : Fld := ⟨pinsBanks, 3, 3⟩
def pinsDrive : Nat := 0x0F * 1024 + 0x11
def pinsTrigOutCfg : Nat := 0x0F * 1024 + 0x12
def pinsTrigSw : Nat := 0x0F * 1024 + 0x13
def pinsLevels : Nat := 0x0F * 1024 + 0x14
def fPinsLevelsTrigIn0 : Fld := ⟨pinsLevels, 3, 0⟩
def fPinsLevelsTrigOut0 : Fld := ⟨pinsLevels, 7, 4⟩
def fPinsLevelsWakeIn0 : Fld := ⟨pinsLevels, 11, 8⟩
def pinsMapStat : Nat := 0x0F * 1024 + 0x15

end Sys2Proof.Machine
end

