-- ==== Sys2Proof/Machine/RegTable.lean ====
section
/-!
DEFINITION. What the register tables of spec/ say of every block register: where it lies, which of its bits are RW, RWL, W1C or WO (R7), and its Reset column (R9). A Reset column the spec leaves to an event (per strap, per map, a dash) stands here as 0 and is written by that event; see the assumption log.
-/
namespace Sys2Proof.Machine

/-- One row of a register table: the first word's place in the page, the distance between instances and their number, the bits under each access code, and the Reset column. -/
structure RegInfo where
  off : Nat
  stride : Nat
  count : Nat
  rw : Nat
  rwl : Nat
  w1c : Nat
  wo : Nat
  reset : Nat
  deriving DecidableEq, Repr

def hbusRegs : List RegInfo := [
  ⟨0x10, 1, 1, 0xFFFF0003, 0x0, 0x0, 0x0, 0x4000002⟩,  -- CTRL
  ⟨0x11, 1, 1, 0x0, 0x0, 0x0, 0x0, 0x0⟩,  -- STAT
  ⟨0x12, 1, 1, 0x0, 0x0, 0x0, 0x0, 0x0⟩,  -- OFF_COUNT
  ⟨0x13, 1, 1, 0x0, 0x0, 0x0, 0x0, 0x0⟩,  -- OFF_READS
  ⟨0x14, 1, 1, 0x0, 0x0, 0x0, 0x0, 0x0⟩,  -- UNMAPPED_COUNT
  ⟨0x15, 1, 1, 0x0, 0x0, 0x0, 0x0, 0x0⟩,  -- LAST_IGN
  ⟨0x16, 1, 1, 0x0, 0x0, 0x0, 0x0, 0x0⟩,  -- TIMEOUT_COUNT
  ⟨0x17, 1, 1, 0x0, 0x0, 0x0, 0x1FFF, 0x0⟩   -- COUNT_CLR
  ]

def sesRegs : List RegInfo := [
  ⟨0x10, 1, 1, 0x0, 0x7FFFFFF, 0x0, 0x0, 0x5A94051⟩,  -- LINK
  ⟨0x11, 1, 1, 0x7FF, 0x0, 0x0, 0x0, 0x81⟩,  -- INV
  ⟨0x12, 1, 1, 0xFFFFF, 0x0, 0x0, 0x0, 0x4F044⟩,  -- QCTRL
  ⟨0x13, 1, 1, 0x0, 0xFF3F, 0x0, 0x0, 0x2810⟩,  -- RXCFG
  ⟨0x14, 1, 1, 0x3F, 0x0, 0x0, 0x0, 0x0⟩,  -- TRIG
  ⟨0x15, 1, 1, 0x1, 0x0, 0x0, 0x0, 0x0⟩,  -- BERTH
  ⟨0x16, 1, 1, 0x0, 0x0, 0x0, 0x0, 0x0⟩,  -- STAT  reset: 0x0000_000n
  ⟨0x17, 1, 1, 0x0, 0x0, 0x0, 0x0, 0x3AA0C35⟩,  -- TCALC
  ⟨0x18, 1, 1, 0x0, 0x0, 0x0, 0x0, 0x0⟩,  -- ROUNDS
  ⟨0x19, 1, 1, 0x0, 0x0, 0x0, 0x0, 0x0⟩,  -- SINGS
  ⟨0x1A, 1, 1, 0x0, 0x0, 0x0, 0x0, 0x0⟩,  -- CRC_FAIL
  ⟨0x1B, 1, 1, 0x0, 0x0, 0x0, 0x0, 0x0⟩,  -- EMPTY
  ⟨0x1C, 1, 1, 0x0, 0x0, 0x0, 0x0, 0x0⟩,  -- COLLIDED
  ⟨0x1D, 1, 1, 0x0, 0x0, 0x0, 0x0, 0x0⟩,  -- RESTARTS
  ⟨0x1E, 1, 1, 0x0, 0x0, 0x0, 0x0, 0x0⟩,  -- SET_WINS
  ⟨0x1F, 1, 1, 0x0, 0x0, 0x0, 0x0, 0x0⟩,  -- LOST_SLOTS
  ⟨0x20, 1, 1, 0x0, 0x0, 0x0, 0x1F, 0x0⟩,  -- CNT_CLR
  ⟨0x100, 1, 256, 0xFFFFFFFF, 0x0, 0x0, 0x0, 0x0⟩   -- TPL
  ]

def rxfRegs : List RegInfo := [
  ⟨0x10, 1, 1, 0x0, 0x1F, 0x0, 0x0, 0x6⟩,  -- CFG
  ⟨0x20, 1, 16, 0x0, 0x0, 0x0, 0x0, 0x80008000⟩,  -- NOISE_n
  ⟨0x30, 1, 16, 0x0, 0x0, 0x0, 0x0, 0x0⟩,  -- DET_n
  ⟨0x40, 1, 16, 0x0, 0x0, 0x0, 0x0, 0x0⟩   -- TPRI_n
  ]

def ringRegs : List RegInfo := [
  ⟨0x10, 1, 1, 0xFF, 0x0, 0x0, 0x0, 0x3⟩,  -- CTRL
  ⟨0x11, 1, 1, 0x0, 0x0, 0x0, 0x0, 0x0⟩,  -- INFLIGHT
  ⟨0x40, 8, 16, 0x1FFF0FFF, 0x0, 0x0, 0x0, 0x10CAA⟩,  -- CFG_n
  ⟨0x41, 8, 16, 0x1FFFFF, 0x0, 0x0, 0x0, 0x0⟩,  -- CBASE_n  reset: n × 0x2_0000
  ⟨0x42, 8, 16, 0x1FFFFF, 0x0, 0x0, 0x0, 0x0⟩,  -- MBASE_n  reset: n × 0x2_0000 + 0x1_0000
  ⟨0x43, 8, 16, 0xFFFF, 0x0, 0x0, 0x0, 0x0⟩,  -- CTAIL_n
  ⟨0x44, 8, 16, 0x0, 0x0, 0x0, 0x0, 0x0⟩,  -- CHEAD_n
  ⟨0x45, 8, 16, 0x0, 0x0, 0x0, 0x0, 0x0⟩,  -- MTAIL_n
  ⟨0x46, 8, 16, 0xFFFF, 0x0, 0x0, 0x0, 0x0⟩,  -- MHEAD_n
  ⟨0x47, 8, 16, 0x0, 0x0, 0x0, 0x0, 0x0⟩   -- HOLDS_n
  ]

def schedRegs : List RegInfo := [
  ⟨0x10, 1, 1, 0x0, 0xF3FFFF, 0x0, 0x0, 0x101064⟩,  -- CTRL
  ⟨0x11, 1, 1, 0x0, 0x0, 0x0, 0x0, 0x76543210⟩,  -- GROUP_LO
  ⟨0x12, 1, 1, 0x0, 0x0, 0x0, 0x0, 0xFEDCBA98⟩,  -- GROUP_HI
  ⟨0x13, 1, 1, 0x0, 0x0, 0x0, 0x0, 0xFFFF⟩,  -- TURN
  ⟨0x14, 1, 1, 0x0, 0x0, 0x0, 0x0, 0x0⟩   -- URGENT
  ]

def manRegs : List RegInfo := [
  ⟨0x10, 1, 1, 0x0, 0xFFFFFF01, 0x0, 0x0, 0x2000⟩,  -- CTRL
  ⟨0x11, 1, 1, 0x0, 0x1FFFF, 0x0, 0x0, 0xF000⟩,  -- THRESH
  ⟨0x12, 1, 1, 0x0, 0x0, 0x0, 0x0, 0x0⟩,  -- COUNT
  ⟨0x13, 1, 1, 0x0, 0x0, 0x0, 0x0, 0x0⟩,  -- NEW_COUNT
  ⟨0x14, 1, 1, 0x0, 0x0, 0x0, 0x0, 0x0⟩,  -- MISSES
  ⟨0x15, 1, 1, 0x0, 0x0, 0x0, 0x0, 0x0⟩,  -- EVICTIONS
  ⟨0x16, 1, 1, 0x0, 0x0, 0x0, 0x7FFFF, 0x0⟩,  -- CMD
  ⟨0x17, 1, 1, 0x0, 0x0, 0x0, 0x0, 0x0⟩,  -- CMD_STAT
  ⟨0x18, 1, 1, 0x0, 0x0, 0x0, 0x0, 0x0⟩   -- WRITE_DISCARD
  ]

def bfRegs : List RegInfo := [
  ⟨0x10, 1, 1, 0x0, 0xFFF7, 0x0, 0x0, 0x3140⟩,  -- CTRL
  ⟨0x11, 1, 1, 0x0, 0x7FFFFFFF, 0x0, 0x0, 0x100C3246⟩,  -- DIR_CFG
  ⟨0x12, 1, 1, 0x0, 0x0, 0x0, 0x0, 0x40⟩,  -- STAT
  ⟨0x13, 1, 1, 0x3F01FF, 0x0, 0x0, 0x0, 0x0⟩,  -- WT_SEL
  ⟨0x14, 1, 1, 0x0, 0x0, 0x0, 0x7, 0x0⟩,  -- WT_CMD
  ⟨0x15, 1, 1, 0x0, 0x0, 0x0, 0x0, 0x0⟩,  -- WT_STAT
  ⟨0x16, 1, 1, 0x0, 0x0, 0x0, 0x0, 0x0⟩,  -- MUTED_LO
  ⟨0x17, 1, 1, 0x0, 0x0, 0x0, 0x0, 0x0⟩,  -- MUTED_HI
  ⟨0x18, 1, 1, 0x0, 0xFFFFFFFF, 0x0, 0x0, 0x0⟩,  -- POL_LO
  ⟨0x19, 1, 1, 0x0, 0xFFFFFFFF, 0x0, 0x0, 0x0⟩,  -- POL_HI
  ⟨0x1A, 1, 1, 0x0, 0x0, 0x0, 0x0, 0x0⟩,  -- DIR_COUNT
  ⟨0x1B, 1, 1, 0x0, 0x0, 0x0, 0x1, 0x0⟩,  -- CNT_CLR
  ⟨0x20, 1, 16, 0x0, 0xFFFF, 0x0, 0x0, 0x10800⟩,  -- STREAM_n
  ⟨0x30, 1, 16, 0x0, 0x0, 0x0, 0x0, 0x10FF⟩,  -- ISO_n
  ⟨0x40, 1, 64, 0x0, 0xFFFFFFFF, 0x0, 0x0, 0x0⟩,  -- POS_pp
  ⟨0x100, 1, 68, 0xFFFFFFFF, 0x0, 0x0, 0x0, 0x0⟩   -- WT_STAGE
  ]

def carRegs : List RegInfo := [
  ⟨0x10, 1, 1, 0x0, 0xFFFF, 0x0, 0x0, 0x9C4⟩,  -- CFG
  ⟨0x40, 8, 4, 0x0, 0xFFFFFF03, 0x0, 0x0, 0x5DC1400⟩,  -- CTRL_c
  ⟨0x41, 8, 4, 0x0, 0x3FFFF3FF, 0x0, 0x0, 0x1F4⟩,  -- FREQ_c
  ⟨0x42, 8, 4, 0x0, 0x3FFFF3FF, 0x0, 0x0, 0x1F4⟩,  -- NEXT_c
  ⟨0x43, 8, 4, 0x0, 0x0, 0x0, 0x1, 0x0⟩,  -- CMD_c
  ⟨0x44, 8, 4, 0x0, 0x0, 0x0, 0x0, 0x0⟩,  -- STAT_c
  ⟨0x45, 8, 4, 0x0, 0x0, 0x0, 0x0, 0x0⟩,  -- FREQ_NOW_c
  ⟨0x46, 8, 4, 0x0, 0x0, 0x0, 0x0, 0x0⟩,  -- HOPS_c
  ⟨0x47, 8, 4, 0x0, 0x0, 0x0, 0x0, 0x0⟩   -- VISIT_c
  ]

def txsRegs : List RegInfo := [
  ⟨0x10, 1, 1, 0x0, 0xFFFFFF, 0x0, 0x0, 0x180464⟩,  -- BW_CFG
  ⟨0x11, 1, 1, 0x0, 0x0, 0x0, 0x0, 0x0⟩,  -- BW_STAT
  ⟨0x12, 1, 1, 0x0, 0x0, 0x0, 0x0, 0x0⟩,  -- BW_VIOL
  ⟨0x13, 1, 1, 0x0, 0x0, 0x0, 0x3, 0x0⟩,  -- BW_CLR
  ⟨0x20, 1, 16, 0x0, 0x13F3F, 0x0, 0x0, 0x1432⟩,  -- SHAPE_n
  ⟨0x40, 1, 16, 0x0, 0x0, 0x0, 0x0, 0x0⟩   -- BW_BACKOFF_w
  ]

def coexRegs : List RegInfo := [
  ⟨0x10, 1, 1, 0x0, 0x1F3, 0x0, 0x0, 0xF0⟩,  -- CTRL
  ⟨0x11, 1, 1, 0x0, 0xFFFFFF, 0x0, 0x0, 0x20028⟩,  -- CFG
  ⟨0x12, 1, 1, 0x0, 0x0, 0x0, 0x0, 0x0⟩,  -- STAT
  ⟨0x13, 1, 1, 0x0, 0x0, 0x0, 0x0, 0x0⟩   -- LOST
  ]

def reglRegs : List RegInfo := [
  ⟨0x10, 1, 1, 0x0, 0xFF, 0x0, 0x0, 0x18⟩,  -- CTRL
  ⟨0x11, 1, 1, 0x0, 0x0, 0x0, 0x0, 0x0⟩,  -- STAT  reset: per profile
  ⟨0x12, 1, 1, 0x0, 0x0, 0x0, 0x0, 0x0⟩,  -- LIMIT  reset: per profile
  ⟨0x13, 1, 1, 0x0, 0x0, 0x0, 0x3, 0x0⟩,  -- CMD
  ⟨0x14, 1, 1, 0x0, 0x0, 0x0, 0x0, 0x0⟩,  -- LAST
  ⟨0x15, 1, 1, 0x0, 0x0, 0x0, 0x0, 0x0⟩,  -- COUNTS
  ⟨0x16, 1, 1, 0x0, 0x0, 0x0, 0x0, 0x0⟩,  -- LBT_BUSY
  ⟨0x20, 1, 4, 0x0, 0x0, 0x0, 0x0, 0x0⟩,  -- CAR_FIG_c
  ⟨0x28, 1, 16, 0x0, 0x0, 0x0, 0x0, 0x8000⟩,  -- STREAM_FIG_n
  ⟨0x40, 1, 64, 0x0, 0x0, 0x0, 0x0, 0x0⟩   -- OCC_h
  ]

def pathRegs : List RegInfo := [
  ⟨0x10, 1, 1, 0x0, 0xFFF0F, 0x0, 0x0, 0xF090F⟩,  -- CFG
  ⟨0x11, 1, 1, 0x0, 0xFF, 0x0, 0x0, 0xE0⟩,  -- TXPWR
  ⟨0x12, 1, 1, 0x0, 0x0, 0x0, 0x0, 0x80⟩,  -- TXPWR_NOW
  ⟨0x13, 1, 1, 0x0, 0x0, 0x0, 0x0, 0xFF09⟩,  -- GAIN
  ⟨0x14, 1, 1, 0x0, 0xFFFF, 0x0, 0x0, 0xA18⟩,  -- AGC
  ⟨0x15, 1, 1, 0x0, 0xFFF, 0x0, 0x0, 0x30A⟩,  -- CANC_CFG
  ⟨0x16, 1, 1, 0x0, 0x0, 0x0, 0x0, 0x0⟩,  -- FAULT
  ⟨0x17, 1, 1, 0x0, 0x0, 0x0, 0x0, 0x44011F⟩,  -- SPARES  reset: per repair map
  ⟨0x18, 1, 1, 0x0, 0xF, 0x0, 0x0, 0x6⟩,  -- NF_CFG
  ⟨0x19, 1, 1, 0x0, 0x0, 0x0, 0x0, 0x0⟩,  -- COUNTS
  ⟨0x1A, 1, 1, 0x0, 0x0, 0x0, 0x3, 0x0⟩,  -- CNT_CLR
  ⟨0x1B, 1, 1, 0x0, 0x0, 0x0, 0x0, 0x8000⟩,  -- DPD_STAT
  ⟨0x1C, 1, 1, 0x0, 0x0, 0x0, 0x0, 0x8000⟩,  -- IDLE_NF
  ⟨0x20, 1, 4, 0x0, 0x0, 0x0, 0x0, 0x8000⟩,  -- CANC_c
  ⟨0x24, 1, 4, 0x0, 0x0, 0x0, 0x0, 0x8000⟩   -- NOISE_c
  ]

def calRegs : List RegInfo := [
  ⟨0x10, 1, 1, 0x0, 0xFFFFFF, 0x0, 0x0, 0xA0032⟩,  -- CTRL
  ⟨0x11, 1, 1, 0x0, 0xFF, 0x0, 0x0, 0xB0⟩,  -- LH
  ⟨0x12, 1, 1, 0x0, 0x3FFFFFF, 0x0, 0x0, 0x1F4F830⟩,  -- REF
  ⟨0x13, 1, 1, 0x0, 0xFFFFFFFF, 0x0, 0x0, 0xBB80BB8⟩,  -- NET
  ⟨0x14, 1, 1, 0x0, 0x0, 0x0, 0x1FF0F, 0x0⟩,  -- CMD
  ⟨0x15, 1, 1, 0x0, 0x0, 0x0, 0x0, 0x0⟩,  -- STAT
  ⟨0x16, 1, 1, 0x0, 0x0, 0x0, 0x0, 0x0⟩,  -- RESULT
  ⟨0x17, 1, 1, 0x0, 0x0, 0x0, 0x0, 0x0⟩,  -- WAITED
  ⟨0x18, 1, 1, 0x0, 0x0, 0x0, 0x0, 0x0⟩,  -- REJECTS
  ⟨0x19, 1, 1, 0x0, 0x0, 0x0, 0x0, 0x80000000⟩,  -- ACLK_RATE
  ⟨0x1A, 1, 1, 0x0, 0x0, 0x0, 0x0, 0x80000000⟩,  -- REF_FREQ
  ⟨0x1B, 1, 1, 0x0, 0x0, 0x0, 0x0, 0x80808080⟩,  -- TEMP
  ⟨0x1C, 1, 1, 0x0, 0x0, 0x0, 0x3, 0x0⟩,  -- CNT_CLR
  ⟨0x1D, 1, 1, 0x3FFF, 0x0, 0x0, 0x0, 0x0⟩,  -- TBL_ADDR
  ⟨0x1E, 1, 1, 0xFFFFFFFF, 0x0, 0x0, 0x0, 0x0⟩,  -- TBL_DATA  reset: —
  ⟨0x1F, 1, 1, 0x0, 0x0, 0x0, 0x3, 0x0⟩,  -- TBL_CMD
  ⟨0x20, 1, 1, 0x0, 0x3FFFF, 0x0, 0x0, 0x0⟩,  -- REF_FINE
  ⟨0x21, 1, 1, 0x0, 0x0, 0x0, 0x0, 0x8080⟩,  -- TEMP_B
  ⟨0x40, 1, 64, 0x0, 0xFFFFFFFF, 0x0, 0x0, 0x0⟩   -- NET_pp
  ]

def pilRegs : List RegInfo := [
  ⟨0x10, 1, 1, 0x0, 0x0, 0x0, 0x1F07, 0x0⟩,  -- CMD
  ⟨0x11, 1, 1, 0x0, 0x0, 0x0, 0x0, 0x0⟩,  -- STAT  reset: per page
  ⟨0x12, 1, 1, 0x3FFF, 0x0, 0x0, 0x0, 0x0⟩,  -- IMG_ADDR
  ⟨0x13, 1, 1, 0xFFFFFFFF, 0x0, 0x0, 0x0, 0x0⟩,  -- IMG_DATA  reset: —
  ⟨0x14, 1, 1, 0x0, 0x0, 0x0, 0x0, 0x0⟩,  -- IMG_VER  reset: per image
  ⟨0x15, 1, 1, 0x0, 0x0, 0x0, 0x0, 0x0⟩,  -- IMG_FMT  reset: per image
  ⟨0x16, 1, 1, 0x0, 0x0, 0x0, 0x0, 0x0⟩,  -- COUNTS
  ⟨0x17, 1, 1, 0x0, 0x0, 0x0, 0x0, 0x0⟩,  -- CKPTS
  ⟨0x18, 1, 1, 0x0, 0x0, 0x0, 0x3, 0x0⟩   -- CNT_CLR
  ]

def repRegs : List RegInfo := [
  ⟨0x10, 1, 1, 0x0, 0xF00FF, 0x0, 0x0, 0x40008⟩,  -- CTRL
  ⟨0x11, 1, 1, 0x0, 0x0, 0x0, 0x0, 0x0⟩,  -- POOLS  reset: per repair map
  ⟨0x12, 1, 1, 0x0, 0x0, 0x0, 0x3F0F, 0x0⟩,  -- CMD
  ⟨0x13, 1, 1, 0x0, 0x0, 0x0, 0x0, 0x0⟩,  -- MAP  reset: per repair map
  ⟨0x14, 1, 1, 0x0, 0x0, 0x0, 0x0, 0x0⟩,  -- ECC_COUNT
  ⟨0x15, 1, 1, 0x0, 0x0, 0x0, 0x0, 0x0⟩,  -- ECC_ADDR
  ⟨0x16, 1, 1, 0x0, 0x0, 0x0, 0x0, 0xFFFFFFFF⟩,  -- LAST_LO
  ⟨0x17, 1, 1, 0x0, 0x0, 0x0, 0x0, 0xFFFFFFFF⟩,  -- LAST_HI
  ⟨0x18, 1, 1, 0x0, 0x0, 0x0, 0x0, 0x0⟩,  -- TEST
  ⟨0x19, 1, 1, 0x0, 0x0, 0x0, 0x0, 0x0⟩,  -- DEAD_LO  reset: per repair map
  ⟨0x1A, 1, 1, 0x0, 0x0, 0x0, 0x0, 0x0⟩,  -- DEAD_HI  reset: per repair map
  ⟨0x1B, 1, 1, 0x0, 0x0, 0x0, 0x1, 0x0⟩,  -- CNT_CLR
  ⟨0x20, 1, 14, 0x0, 0x0, 0x0, 0x0, 0x0⟩   -- ROWS_b  reset: per repair map
  ]

def klRegs : List RegInfo := [
  ⟨0x10, 1, 1, 0x0, 0xFFFFFF01, 0x0, 0x0, 0x0⟩,  -- CTRL  reset: per role
  ⟨0x11, 1, 1, 0x0, 0x0, 0x0, 0x0, 0x0⟩,  -- STAT  reset: per strap
  ⟨0x12, 1, 1, 0x0, 0x0, 0x0, 0x0, 0x10101⟩,  -- VER
  ⟨0x13, 1, 1, 0x0, 0x0, 0x0, 0x3F07, 0x0⟩,  -- CMD
  ⟨0x14, 1, 1, 0x0, 0x0, 0x0, 0x0, 0x0⟩,  -- CENSUS
  ⟨0x15, 1, 1, 0x3FFF, 0x0, 0x0, 0x0, 0x0⟩,  -- CEN_ADDR
  ⟨0x16, 1, 1, 0x0, 0x0, 0x0, 0x0, 0x0⟩,  -- CEN_DATA  reset: —
  ⟨0x17, 1, 1, 0xFFF, 0x0, 0x0, 0x0, 0x0⟩,  -- RA_DEV
  ⟨0x18, 1, 1, 0xFFFFC, 0x0, 0x0, 0x0, 0x0⟩,  -- RA_ADDR
  ⟨0x19, 1, 1, 0xFFFFFFFF, 0x0, 0x0, 0x0, 0x0⟩,  -- RA_DATA
  ⟨0x1A, 1, 1, 0x0, 0x0, 0x0, 0x3, 0x0⟩,  -- RA_CMD
  ⟨0x1B, 1, 1, 0x0, 0x0, 0x0, 0x0, 0x0⟩,  -- RA_STAT
  ⟨0x1C, 1, 1, 0x0, 0xFFFF, 0x0, 0x0, 0x320⟩,  -- TRIG_CFG
  ⟨0x1D, 1, 1, 0xFFFFFFFF, 0x0, 0x0, 0x0, 0x0⟩,  -- TRIG_TIDE_LO
  ⟨0x1E, 1, 1, 0xFFFFFFFF, 0x0, 0x0, 0x0, 0x0⟩,  -- TRIG_TIDE_HI
  ⟨0x1F, 1, 1, 0x0, 0x0, 0x0, 0x7, 0x0⟩,  -- TRIG_CMD
  ⟨0x20, 1, 1, 0x0, 0x7F3F, 0x0, 0x0, 0x100⟩,  -- GROUP
  ⟨0x21, 1, 1, 0x0, 0x0, 0x0, 0x0, 0x0⟩,  -- GROUP_STAT
  ⟨0x22, 1, 1, 0x0, 0x0, 0x0, 0x0, 0x0⟩,  -- DELAY
  ⟨0x23, 1, 1, 0x0, 0x0, 0x0, 0x0, 0x0⟩,  -- COUNTS
  ⟨0x24, 1, 1, 0x0, 0x0, 0x0, 0x3, 0x0⟩,  -- CNT_CLR
  ⟨0x40, 4, 5, 0x1, 0x0, 0x0, 0x0, 0x0⟩,  -- PCTRL_k  reset: per role
  ⟨0x41, 4, 5, 0x0, 0x0, 0x0, 0x0, 0x0⟩,  -- PSTAT_k
  ⟨0x42, 4, 5, 0x0, 0x0, 0x0, 0x0, 0x0⟩,  -- PERR_k
  ⟨0x43, 4, 5, 0x0, 0x0, 0x0, 0x0, 0x0⟩   -- PCRED_k
  ]

def plRegs : List RegInfo := [
  ⟨0x10, 1, 1, 0x0, 0x3FF01FF, 0x0, 0x0, 0x100161⟩,  -- CTRL
  ⟨0x11, 1, 1, 0x0, 0x0, 0x0, 0x0, 0x4688⟩,  -- MAP
  ⟨0x12, 1, 1, 0x0, 0x0, 0x0, 0x0, 0x0⟩,  -- CAP
  ⟨0x13, 1, 1, 0x0, 0x0, 0x0, 0x0, 0x0⟩,  -- ADMITTED
  ⟨0x14, 1, 1, 0x0, 0x7777, 0x0, 0x0, 0x7465⟩,  -- VC_CFG
  ⟨0x15, 1, 1, 0x0, 0x0, 0x0, 0x0, 0x0⟩,  -- VC_STAT
  ⟨0x16, 1, 1, 0x0, 0x0, 0x0, 0x0, 0x0⟩,  -- TXCRED_LO
  ⟨0x17, 1, 1, 0x0, 0x0, 0x0, 0x0, 0x0⟩,  -- TXCRED_HI
  ⟨0x18, 1, 1, 0x0, 0xFFFFFF, 0x0, 0x0, 0x20000⟩,  -- MSG_CFG
  ⟨0x19, 1, 1, 0x0, 0xFFFF0F17, 0x0, 0x0, 0x800⟩,  -- STREAM_CTRL
  ⟨0x1A, 1, 1, 0x0, 0x0, 0x0, 0x0, 0x0⟩,  -- STREAM_STAT
  ⟨0x1B, 1, 1, 0x0, 0x0, 0x0, 0x0, 0x0⟩,  -- DROPS
  ⟨0x1C, 1, 1, 0x0, 0x0, 0x0, 0x0, 0x0⟩,  -- REPLAYS
  ⟨0x1D, 1, 1, 0x0, 0xFFFF, 0x0, 0x0, 0x5⟩,  -- INT_CFG
  ⟨0x1E, 1, 1, 0x0, 0x0, 0x0, 0x7, 0x0⟩,  -- CNT_CLR
  ⟨0x40, 4, 5, 0x7, 0x0, 0x0, 0x0, 0x0⟩,  -- LCTRL_l  reset: per strap
  ⟨0x41, 4, 5, 0x0, 0x0, 0x0, 0x0, 0x700⟩,  -- LSTAT_l
  ⟨0x42, 4, 5, 0x0, 0x0, 0x0, 0x0, 0x0⟩   -- LERR_l
  ]

def rstRegs : List RegInfo := [
  ⟨0x10, 1, 1, 0x0, 0x0, 0x1FFFF, 0x0, 0x3⟩,  -- CAUSE
  ⟨0x11, 1, 1, 0x0, 0x0, 0x0, 0x0, 0x1⟩,  -- STAT
  ⟨0x12, 1, 1, 0x0, 0x0, 0x0, 0x0, 0x0⟩,  -- STRAPS  reset: per strap
  ⟨0x13, 1, 1, 0x0, 0x0, 0x0, 0x0, 0x0⟩,  -- STRAP_FLAGS  reset: per strap
  ⟨0x14, 1, 1, 0x0, 0x3FFFF, 0x0, 0x0, 0x400⟩,  -- WDOG_CFG
  ⟨0x15, 1, 1, 0x0, 0x0, 0x0, 0xFF, 0x0⟩,  -- WDOG_KICK
  ⟨0x16, 1, 1, 0x0, 0x0, 0x0, 0x0, 0x0⟩   -- WDOG_LEFT
  ]

def sysRegs : List RegInfo := [
  ⟨0x10, 1, 1, 0x0, 0x1, 0x0, 0x0, 0x0⟩,  -- CTRL
  ⟨0x11, 1, 1, 0x0, 0x0, 0x0, 0x0, 0x0⟩,  -- STAT
  ⟨0x12, 1, 1, 0x0, 0x0, 0x0, 0x0, 0x0⟩,  -- IDENT_LO  reset: per device
  ⟨0x13, 1, 1, 0x0, 0x0, 0x0, 0x0, 0x0⟩   -- IDENT_HI  reset: per device
  ]

def clkRegs : List RegInfo := [
  ⟨0x10, 1, 1, 0x0, 0x0, 0x0, 0x0, 0x0⟩,  -- GOOD  reset: —
  ⟨0x11, 1, 1, 0x0, 0x0, 0x0, 0x0, 0x0⟩   -- REF  reset: per strap
  ]

def synRegs : List RegInfo := [
  ⟨0x10, 1, 1, 0x0, 0x0, 0x0, 0x0, 0x80000000⟩,  -- STAT
  ⟨0x11, 1, 1, 0x0, 0x0, 0x0, 0x1, 0x0⟩,  -- CMD
  ⟨0x12, 1, 1, 0x0, 0x0, 0x0, 0x0, 0x0⟩   -- RATIO  reset: per strap
  ]

def optRegs : List RegInfo := [
  ⟨0x10, 1, 1, 0x0, 0x0, 0x0, 0x0, 0x0⟩,  -- STAT  reset: per option load
  ⟨0x11, 1, 1, 0xFFF, 0x0, 0x0, 0x0, 0x0⟩,  -- ADDR
  ⟨0x12, 1, 1, 0x0, 0x0, 0x0, 0x0, 0x0⟩,  -- DATA  reset: —
  ⟨0x13, 1, 1, 0x0, 0xFF, 0x0, 0x0, 0x0⟩,  -- SECTOR
  ⟨0x14, 1, 1, 0x0, 0x0, 0x0, 0x3, 0x0⟩,  -- CMD
  ⟨0x15, 1, 1, 0x7FF, 0x0, 0x0, 0x0, 0x0⟩,  -- IMG_ADDR
  ⟨0x16, 1, 1, 0xFFFFFFFF, 0x0, 0x0, 0x0, 0x0⟩,  -- IMG_DATA  reset: —
  ⟨0x20, 1, 16, 0x0, 0xFFFFFFFF, 0x0, 0x0, 0x0⟩   -- SECT_BUF  reset: —
  ]

def pwrRegs : List RegInfo := [
  ⟨0x10, 1, 1, 0x0, 0x0, 0x0, 0x3, 0x0⟩,  -- CMD
  ⟨0x11, 1, 1, 0x0, 0x0, 0x0, 0x0, 0x1⟩,  -- STAT
  ⟨0x12, 1, 1, 0x0, 0x3FFF, 0x0, 0x0, 0x3C3F⟩,  -- RETAIN
  ⟨0x13, 1, 1, 0x0, 0x7FF, 0x0, 0x0, 0x0⟩,  -- WAKE_EN
  ⟨0x14, 1, 1, 0x0, 0xFF, 0x0, 0x0, 0x0⟩,  -- WAKE_CFG
  ⟨0x15, 1, 1, 0x0, 0x0, 0x107FF, 0x0, 0x0⟩,  -- WAKE_SRC
  ⟨0x16, 1, 1, 0x0, 0xFFFFFF, 0x0, 0x0, 0x0⟩,  -- SLEEP_TIMER
  ⟨0x17, 1, 1, 0x0, 0x0, 0x0, 0x0, 0x0⟩,  -- COUNTS
  ⟨0x18, 1, 1, 0x0, 0x0, 0x0, 0x0, 0x0⟩,  -- LAST_SLEEP
  ⟨0x19, 1, 1, 0x0, 0x0, 0x0, 0x1, 0x0⟩   -- CNT_CLR
  ]

def watchRegs : List RegInfo := [
  ⟨0x10, 1, 1, 0x0, 0x3FF01, 0x0, 0x0, 0x1F400⟩,  -- CTRL
  ⟨0x11, 1, 1, 0x0, 0xFFFFFFFF, 0x0, 0x0, 0x6464D80A⟩,  -- CFG
  ⟨0x12, 1, 1, 0x0, 0xFFFFFFF, 0x0, 0x0, 0x86A278⟩,  -- DET
  ⟨0x13, 1, 1, 0x0, 0x0, 0x0, 0x0, 0xFF00⟩,  -- STAT
  ⟨0x14, 1, 1, 0x0, 0x0, 0x0, 0x0, 0x0⟩,  -- BASE
  ⟨0x15, 1, 1, 0x0, 0x0, 0x0, 0x0, 0x0⟩,  -- COUNTS
  ⟨0x16, 1, 1, 0x0, 0x0, 0x0, 0x1, 0x0⟩,  -- CNT_CLR
  ⟨0x17, 1, 1, 0x0, 0x3FFFF, 0x0, 0x0, 0x0⟩   -- FINE
  ]

def rtcRegs : List RegInfo := [
  ⟨0x10, 1, 1, 0x0, 0x3737, 0x0, 0x0, 0x2010⟩,  -- CTRL
  ⟨0x11, 1, 1, 0x0, 0x0, 0x2, 0x0, 0x2⟩,  -- STAT
  ⟨0x12, 1, 1, 0x73F7F7F, 0x0, 0x0, 0x0, 0x0⟩,  -- TIME
  ⟨0x13, 1, 1, 0xFFFF1F3F, 0x0, 0x0, 0x0, 0x20000101⟩,  -- DATE
  ⟨0x14, 1, 1, 0x0, 0x0, 0x0, 0x0, 0x0⟩,  -- SUBSEC
  ⟨0x15, 1, 1, 0x0, 0xFFFFF, 0x0, 0x0, 0x0⟩,  -- WAKE
  ⟨0x16, 1, 1, 0x0, 0x0, 0x0, 0x0, 0x0⟩,  -- WAKE_LEFT
  ⟨0x17, 1, 1, 0x0, 0xFFFF, 0x0, 0x0, 0x0⟩,  -- TRIM  reset: per option load
  ⟨0x18, 1, 1, 0x0, 0x0, 0x0, 0x0, 0x800000⟩   -- RATE
  ]

def tideRegs : List RegInfo := [
  ⟨0x10, 1, 1, 0x0, 0x0, 0x0, 0x0, 0x0⟩,  -- COUNT_LO
  ⟨0x11, 1, 1, 0x0, 0x0, 0x0, 0x0, 0x0⟩,  -- COUNT_HI
  ⟨0x12, 1, 1, 0x0, 0x0, 0x0, 0x0, 0x0⟩,  -- FRAC
  ⟨0x13, 1, 1, 0x0, 0x0, 0x0, 0x0, 0x0⟩,  -- STAT
  ⟨0x14, 1, 1, 0x0, 0x0, 0x0, 0x0, 0x0⟩,  -- BRIDGE_LO
  ⟨0x15, 1, 1, 0x0, 0x0, 0x0, 0x0, 0x0⟩,  -- BRIDGE_HI
  ⟨0x16, 1, 1, 0x0, 0x0, 0x0, 0x0, 0x0⟩,  -- RATE_USED
  ⟨0x17, 1, 1, 0x0, 0x0, 0x0, 0x0, 0x0⟩,  -- STEP
  ⟨0x18, 1, 1, 0x0, 0x0, 0x0, 0x0, 0x0⟩,  -- STEPS
  ⟨0x19, 1, 1, 0x0, 0x0, 0x0, 0x1, 0x0⟩   -- CNT_CLR
  ]

def tmcRegs : List RegInfo := [
  ⟨0x10, 1, 1, 0x0, 0x0, 0x0, 0xFFFF, 0x0⟩,  -- START
  ⟨0x11, 1, 1, 0x0, 0x0, 0x0, 0xFFFF, 0x0⟩,  -- STOP
  ⟨0x40, 8, 8, 0x0, 0xFFFF, 0x0, 0x0, 0x0⟩,  -- CTRL_i
  ⟨0x41, 8, 8, 0xFFFFFFFF, 0x0, 0x0, 0x0, 0x0⟩,  -- COUNT_i
  ⟨0x42, 8, 8, 0x0, 0xFFFFFFFF, 0x0, 0x0, 0xFFFFFFFF⟩,  -- TOP_i
  ⟨0x43, 8, 8, 0x0, 0xFFFFFFFF, 0x0, 0x0, 0xFFFFFFFF⟩,  -- CMP_i
  ⟨0x44, 8, 8, 0x0, 0x0, 0x0, 0x0, 0x0⟩,  -- CAP_i
  ⟨0x45, 8, 8, 0x0, 0x0, 0x4C, 0x0, 0x0⟩,  -- STAT_i
  ⟨0x46, 8, 8, 0x0, 0x0, 0x0, 0x0, 0xFFFFFFFF⟩   -- PERIOD_i
  ]

def tmrRegs : List RegInfo := [
  ⟨0x10, 1, 1, 0x0, 0x0, 0x0, 0x0, 0x0⟩,  -- START
  ⟨0x11, 1, 1, 0x0, 0x0, 0x0, 0x0, 0x0⟩,  -- STOP
  ⟨0x40, 8, 8, 0x0, 0x17FFF, 0x0, 0x0, 0x0⟩,  -- CTRL_i
  ⟨0x41, 8, 8, 0xFFFFFFFF, 0x0, 0x0, 0x0, 0x0⟩,  -- COUNT_i
  ⟨0x42, 8, 8, 0x0, 0xFFFFFFFF, 0x0, 0x0, 0xFFFFFFFF⟩,  -- TOP_i
  ⟨0x43, 8, 8, 0x0, 0xFFFFFFFF, 0x0, 0x0, 0xFFFFFFFF⟩,  -- CMP_i
  ⟨0x44, 8, 8, 0x0, 0x0, 0x0, 0x0, 0x0⟩,  -- CAP_i
  ⟨0x45, 8, 8, 0x0, 0x0, 0x4C, 0x0, 0x1⟩,  -- STAT_i
  ⟨0x46, 8, 8, 0x0, 0x0, 0x0, 0x0, 0xFFFFFFFF⟩   -- PERIOD_i
  ]

def hkRegs : List RegInfo := [
  ⟨0x10, 1, 1, 0x0, 0xF3F, 0x0, 0x0, 0x0⟩,  -- CTRL
  ⟨0x11, 1, 1, 0x0, 0x0, 0x0, 0xF, 0x0⟩,  -- CMD
  ⟨0x12, 1, 1, 0x0, 0x0, 0x0, 0x0, 0x0⟩,  -- STAT
  ⟨0x13, 1, 1, 0x0, 0x0, 0x0, 0x0, 0x0⟩,  -- TRIG_OVF
  ⟨0x14, 1, 1, 0x0, 0x0, 0x0, 0x13F3F, 0x0⟩,  -- URG_CMD
  ⟨0x15, 1, 1, 0x0, 0x0, 0x0, 0x0, 0x0⟩,  -- URG_RES
  ⟨0x16, 1, 1, 0x0, 0xFFFF003F, 0x0, 0x0, 0x7080000⟩,  -- SYSCAL
  ⟨0x17, 1, 1, 0x0, 0x0, 0x0, 0x0, 0x40000000⟩,  -- SYSCAL_COEF
  ⟨0x18, 1, 1, 0x0, 0x0, 0x0, 0x0, 0x0⟩,  -- SYSCAL_STAT
  ⟨0x19, 1, 1, 0x0, 0xFFFF, 0x0, 0x0, 0x7364⟩,  -- THERM
  ⟨0x1A, 1, 1, 0x0, 0x0, 0x0, 0x0, 0x8000⟩,  -- TEMP_MAX
  ⟨0x1B, 1, 1, 0x0, 0x0, 0xFF, 0x0, 0x0⟩,  -- LIM_STAT
  ⟨0x1C, 1, 1, 0x0, 0x0, 0x0, 0x1, 0x0⟩,  -- CNT_CLR
  ⟨0x20, 1, 16, 0x0, 0x3F7FFF, 0x0, 0x0, 0x0⟩,  -- ENTRY_n
  ⟨0x30, 1, 16, 0x0, 0x0, 0x0, 0x0, 0x0⟩,  -- RES_n
  ⟨0x40, 1, 8, 0x0, 0x8FFF0FFF, 0x0, 0x0, 0xFFF0000⟩   -- LIM_w
  ]

def sspmRegs : List RegInfo := [
  ⟨0x10, 1, 1, 0x0, 0xF0F7F, 0x0, 0x0, 0x10020⟩,  -- CLK
  ⟨0x11, 1, 1, 0x0, 0x3FFFFF, 0x0, 0x0, 0x0⟩,  -- XFER
  ⟨0x12, 1, 1, 0x0, 0x1FFF, 0x0, 0x0, 0x0⟩,  -- LEN
  ⟨0x13, 1, 1, 0x0, 0xFFFFFF, 0x0, 0x0, 0x0⟩,  -- OPCODE
  ⟨0x14, 1, 1, 0x0, 0xFFFFFFFF, 0x0, 0x0, 0x0⟩,  -- ADDR
  ⟨0x15, 1, 1, 0x0, 0x0, 0x0, 0x3, 0x0⟩,  -- CMD
  ⟨0x16, 1, 1, 0x0, 0x0, 0x0, 0x0, 0x0⟩,  -- STAT
  ⟨0x17, 1, 1, 0x0, 0xFFFFFFFF, 0x0, 0x0, 0x4000105⟩,  -- POLL
  ⟨0x18, 1, 1, 0x0, 0xFFFF, 0x0, 0x0, 0xBB8⟩,  -- POLL_LIM
  ⟨0x19, 1, 1, 0x0, 0xFF0F, 0x0, 0x0, 0x4000⟩,  -- XIP_CTRL
  ⟨0x1A, 1, 1, 0x0, 0x1FFFFF, 0x0, 0x0, 0x3⟩,  -- XIP_RD
  ⟨0x1B, 1, 1, 0x0, 0xFFFFFF, 0x0, 0x0, 0x60802⟩,  -- XIP_WR
  ⟨0x1C, 1, 1, 0x0, 0x0, 0x0, 0x0, 0x0⟩,  -- XIP_STAT
  ⟨0x80, 1, 128, 0xFFFFFFFF, 0x0, 0x0, 0x0, 0x0⟩   -- BUF
  ]

def sspsRegs : List RegInfo := [
  ⟨0x10, 1, 1, 0x0, 0x7FF, 0x0, 0x0, 0x12⟩,  -- CFG
  ⟨0x11, 1, 1, 0x0, 0x7F7F7F, 0x0, 0x0, 0x101⟩,  -- THR
  ⟨0x12, 1, 1, 0x0, 0x0, 0xF0000, 0x0, 0x0⟩,  -- STAT
  ⟨0x13, 1, 1, 0x0, 0x0, 0x0, 0x0, 0x0⟩,  -- RX_WR
  ⟨0x14, 1, 1, 0x7F, 0x0, 0x0, 0x0, 0x0⟩,  -- RX_RD
  ⟨0x15, 1, 1, 0x7F, 0x0, 0x0, 0x0, 0x0⟩,  -- TX_WR
  ⟨0x16, 1, 1, 0x0, 0x0, 0x0, 0x0, 0x0⟩,  -- TX_RD
  ⟨0x17, 1, 1, 0x1, 0x0, 0x0, 0x0, 0x0⟩,  -- ATTN
  ⟨0x18, 1, 1, 0x0, 0x0, 0x0, 0x0, 0x0⟩,  -- FRAMES
  ⟨0x40, 1, 64, 0x0, 0x0, 0x0, 0x0, 0x0⟩,  -- RX_WIN
  ⟨0x80, 1, 64, 0xFFFFFFFF, 0x0, 0x0, 0x0, 0x0⟩   -- TX_WIN
  ]

def intcRegs : List RegInfo := [
  ⟨0x10, 1, 1, 0x0, 0x0, 0x0, 0x0, 0x0⟩,  -- PEND_LO
  ⟨0x11, 1, 1, 0x0, 0x0, 0x0, 0x0, 0x0⟩,  -- PEND_HI
  ⟨0x12, 1, 1, 0xFFFFFFFF, 0x0, 0x0, 0x0, 0x0⟩,  -- EN_LO
  ⟨0x13, 1, 1, 0xFFFFFFFF, 0x0, 0x0, 0x0, 0x0⟩,  -- EN_HI
  ⟨0x14, 1, 1, 0x0, 0xFF3333, 0x0, 0x0, 0xA0000⟩,  -- OUT_CFG
  ⟨0x15, 1, 1, 0x0, 0x0, 0x0, 0x0, 0x0⟩,  -- OUT_STAT
  ⟨0x16, 1, 1, 0x0, 0x0, 0x0, 0x0, 0x0⟩,  -- SUPPLY_STAT
  ⟨0x17, 1, 1, 0x0, 0x0, 0x0, 0x0, 0x0⟩,  -- PATHS_LO
  ⟨0x18, 1, 1, 0x0, 0x0, 0x0, 0x0, 0x0⟩,  -- PATHS_HI
  ⟨0x19, 1, 1, 0x0, 0x0, 0x0, 0x0, 0x0⟩,  -- PILOT_FO
  ⟨0x1A, 1, 1, 0x0, 0x0, 0x0, 0x0, 0x0⟩,  -- PILOT_IMG
  ⟨0x20, 1, 8, 0x0, 0xFFFFFFFF, 0x0, 0x0, 0x44444444⟩   -- ROUTE_w
  ]

def secRegs : List RegInfo := [
  ⟨0x10, 1, 1, 0x0, 0x0, 0x0, 0x33, 0x0⟩,  -- CMD
  ⟨0x11, 1, 1, 0x0, 0x0, 0x0, 0x0, 0x0⟩,  -- STAT  reset: per key block
  ⟨0x12, 1, 1, 0x0, 0xFF0FFF, 0x0, 0x0, 0x10012C⟩,  -- CFG
  ⟨0x13, 1, 1, 0x0, 0x0, 0x0, 0x0, 0x0⟩,  -- SEQ
  ⟨0x14, 1, 1, 0x0, 0x0, 0x0, 0x0, 0x0⟩,  -- IDLE_LEFT
  ⟨0x15, 1, 1, 0x0, 0x0, 0x0, 0x0, 0x0⟩,  -- BACKOFF_LEFT
  ⟨0x16, 1, 1, 0x0, 0x0, 0x0, 0x0, 0x0⟩,  -- TAMPER
  ⟨0x17, 1, 1, 0x0, 0x0, 0x0, 0x7, 0x0⟩,  -- KEY_CMD
  ⟨0x18, 1, 1, 0x0, 0x0, 0x0, 0x0, 0x0⟩,  -- KCV_OP
  ⟨0x19, 1, 1, 0x0, 0x0, 0x0, 0x0, 0x0⟩,  -- KCV_PROV
  ⟨0x20, 1, 4, 0x0, 0x0, 0x0, 0x0, 0x0⟩,  -- CHAL_k
  ⟨0x28, 1, 8, 0x0, 0x0, 0x0, 0xFFFFFFFF, 0x0⟩,  -- RESP_k
  ⟨0x30, 1, 8, 0x0, 0x0, 0x0, 0xFFFFFFFF, 0x0⟩   -- KEY_BUF_k
  ]

def pinsRegs : List RegInfo := [
  ⟨0x10, 1, 1, 0x0, 0x0, 0x0, 0x0, 0x0⟩,  -- BANKS  reset: per strap
  ⟨0x11, 1, 1, 0x0, 0xF, 0x0, 0x0, 0x5⟩,  -- DRIVE
  ⟨0x12, 1, 1, 0x0, 0xFFFFFFFF, 0x0, 0x0, 0x10101010⟩,  -- TRIG_OUT_CFG
  ⟨0x13, 1, 1, 0x0, 0x0, 0x0, 0xF, 0x0⟩,  -- TRIG_SW
  ⟨0x14, 1, 1, 0x0, 0x0, 0x0, 0x0, 0x0⟩,  -- LEVELS
  ⟨0x15, 1, 1, 0x0, 0x0, 0x0, 0x0, 0x0⟩   -- MAP_STAT  reset: per option load
  ]

/-- The first page of the kind page `p` belongs to (R35); `none` for a reserved page. -/
def pageKind (p : Nat) : Option Nat :=
  if p < 0x1F then some p
  else if 0x20 ≤ p ∧ p < 0x34 then some 0x20
  else if 0x40 ≤ p ∧ p < 0x80 then some 0x40
  else if 0x80 ≤ p ∧ p < 0x90 then some 0x80
  else none

/-- The register table of a kind of page. -/
def pageRegs (kind : Nat) : List RegInfo :=
  match kind with
  | 0x00 => sysRegs
  | 0x01 => rstRegs
  | 0x02 => clkRegs
  | 0x03 => pwrRegs
  | 0x04 => intcRegs
  | 0x05 => hbusRegs
  | 0x06 => secRegs
  | 0x07 => optRegs
  | 0x08 => rtcRegs
  | 0x09 => tideRegs
  | 0x0A => tmcRegs
  | 0x0B => tmrRegs
  | 0x0C => hkRegs
  | 0x0D => sspmRegs
  | 0x0E => sspsRegs
  | 0x0F => pinsRegs
  | 0x10 => calRegs
  | 0x11 => repRegs
  | 0x12 => reglRegs
  | 0x13 => coexRegs
  | 0x14 => carRegs
  | 0x15 => txsRegs
  | 0x16 => bfRegs
  | 0x17 => rxfRegs
  | 0x18 => schedRegs
  | 0x19 => ringRegs
  | 0x1A => manRegs
  | 0x1B => plRegs
  | 0x1C => klRegs
  | 0x1D => synRegs
  | 0x1E => watchRegs
  | 0x20 => pilRegs
  | 0x40 => pathRegs
  | 0x80 => sesRegs
  | _ => []

/-- Is `off` one of the row's words? -/
def RegInfo.covers (r : RegInfo) (off : Nat) : Bool :=
  decide (r.off ≤ off) && decide ((off - r.off) % r.stride = 0) && decide ((off - r.off) / r.stride < r.count)

/-- The row of a page's table that holds word `off`, if the page has one there. -/
def regInfo (page off : Nat) : Option RegInfo :=
  match pageKind page with
  | none => none
  | some k => (pageRegs k).find? (fun r => r.covers off)

end Sys2Proof.Machine
end

