-- ==== Sys2Proof/Config.lean ====
section
/-!
DEFINITION. What one implementation fixes and the spec leaves open: constants with no body, so that no proof can see a value of them. A value that changes from one happening to the next is applied to the counter `Device.free`, which the model advances each time it takes one.
-/
namespace Sys2Proof

/-- A value the spec leaves open, fresh for each value of the counter it is applied to (assumption 2). -/
opaque Config.free : Nat → BitVec 64

/-- The block revision PAGE_ID.REV of a page, which R52 gives as `per page` and no table states (assumption 3). -/
opaque Config.pageRev : Nat → BitVec 8

/-- Which way a tie of `rounded to the nearest` goes, as a function of the value rounded; the spec leaves ties open (assumption 8). -/
opaque Config.tie : Int → Bool

/-- A word of the calibration image that encodes the nominal values with no procedure accepted; the encoding of words 3 … 16,382 is Selnum's own (R287, assumption 18). -/
opaque Config.calNominal : Nat → Word

/-- The procedures 1 … 6 a restored calibration image records as accepted (R287, assumption 18). -/
opaque Config.calRecord : List (Nat × Option Word) → BitVec 6

/-- The paths whose DPD sets a restored calibration image records as accepted (R287, assumption 18). -/
opaque Config.calDpd : List (Nat × Option Word) → BitVec 64

/-- The procedure, 1 … 7, whose results a word of the calibration image belongs to (R287, R302, assumption 18). -/
opaque Config.calOwner : Nat → Nat

/-- The SHA-256 hash of Selnum's factory image key, a ROM default (R402, assumption 19). -/
opaque Config.factoryKeyHash : Nat → Byte

/-- A member's message in another message format: the layouts of formats other than 3 are not in the spec (R356, assumption 21). -/
opaque Config.klConvert : Nat → List Byte → List Byte

end Sys2Proof
end

