-- ==== Sys2Proof/Machine/State.lean ====
section
/-!
DEFINITION. The state of the block as plain data: every software-visible register word in one sparse store, every memory, and what the spec gives each block beside its registers. `State.reset` is the instant at which the last reset source of an AON power-on releases (R389 step 1).
-/
namespace Sys2Proof.Machine

/-- Why a step can stop with a fault. No command of this block does: the spec gives each an effect or none. -/
inductive Fault where
  /-- Raised by nothing; the type is closed so that a claim can list every fault. Safe. -/
  | none
  deriving DecidableEq, Repr

/-- Why a step can be refused. -/
inductive Refusal where
  /-- A command that has no meaning yet. Safe: a claim about it cannot be proved. -/
  | notModelled (mnemonic : String)
  deriving DecidableEq, Repr

/-- A write waiting in the post queue (R43), with the session level checked when it entered (R517). -/
structure Posted where
  addr : Nat
  value : Word
  be : BitVec 4
  level : Nat
  deriving DecidableEq, Repr

/-- A clock island's reset state: held in reset, and a release waiting for clock-good (R391, R393). -/
structure IslandSt where
  held : Bool := true
  pending : Bool := false
  deriving DecidableEq, Repr, Inhabited

/-- One IRQ_N ball in pulse mode (R512): idle, driving its pulse, or keeping the separation. -/
inductive PulsePhase where
  | idle
  | low
  | gap
  deriving DecidableEq, Repr

/-- The outputs of the interrupt controller for one ball (R512): the sources that assert it now, the pulse phase, and whether a further pulse has fallen due. -/
structure BallSt where
  sources : BitVec 64 := 0
  phase : PulsePhase := .idle
  due : Bool := false
  deriving DecidableEq, Repr

/-- What a timer holds beside its registers (R461 … R470): source events counted since the last count, whether the match of the present phase has occurred, whether the turn or zero of the present count has been taken, the start value of the phase, and whether the mirror holds the latest capture. -/
structure TimerSt where
  pre : Nat := 0
  matched : Bool := false
  turned : Bool := false
  phaseStart : Nat := 0
  capSent : Bool := true
  deriving DecidableEq, Repr

/-- What the housekeeping converter holds beside its registers: whether a supervisor conversion is running, the rotation's next sensor and its maximum so far, the latest code of each sensor, and whether the two thermal events are armed (R481, R482). -/
structure HkSt where
  supNext : Nat := 0
  rotMax : Int := -32768
  rotSensor : Nat := 0
  sensors : Vector Nat 16 := Vector.replicate 16 0
  warnArmed : Bool := true
  critArmed : Bool := true
  genStart : Nat := 0
  urgInput : Nat := 0
  urgPath : Nat := 0
  deriving DecidableEq, Repr

/-- What the RTC holds beside its registers: the curve of the option record, the compensation accumulator in 2^-24 cycles, the periodic-wake count, the length of the present second, and RTC_OUT (R436 … R450). -/
structure RtcSt where
  curve : List Int := []
  tFirst : Int := 0
  tStep : Int := 1
  acc : Int := 0
  wakeCount : Nat := 0
  wakeRestart : Bool := false
  secLen : Nat := 32768
  outSel : Nat := 0
  outHigh : Bool := false
  railLow : Bool := false
  chgReady : Bool := false
  vbakFull : Bool := false
  /-- C(T) at the last measured temperature, and the TRIM in effect since the last second's end. -/
  cNow : Int := 0
  trimNow : Int := 0
  deriving DecidableEq, Repr

/-- Where the device stands on the way into and out of sleep (R419, R423). -/
inductive SleepPhase where
  | awake
  | prepare
  | prepared
  | window
  | moored
  | laidUp
  | exiting
  deriving DecidableEq, Repr

/-- What power control holds beside its registers: the phase, whether LAY_UP was requested, edges latched in PREPARE, edges captured while moored, and the bridge's record: the tide at A0, the ACLK cycles slept, the sum and count of E computed in the sleep, and whether the time was lost in it (R457, R459). -/
structure PwrSt where
  phase : SleepPhase := .awake
  layUp : Bool := false
  latched : BitVec 11 := 0
  edges : BitVec 11 := 0
  t0 : Nat := 0
  eStart : Int := 0
  eSum : Int := 0
  eCount : Nat := 0
  lostInSleep : Bool := false
  /-- The tide is stopped and is to be bridged at the converter island's release. -/
  bridging : Bool := false
  deriving DecidableEq, Repr

/-- What harbour watch holds beside its registers: whether a look is in progress, whether OFF waits for its end, and the looks summed for the baseline (R426). -/
structure WatchSt where
  looking : Bool := false
  stopDue : Bool := false
  sumI : Int := 0
  sumQ : Int := 0
  looks : Nat := 0
  deriving DecidableEq, Repr

/-- The reset sources of R385 other than BLK_RST. -/
inductive ResetSource where
  | aonPor
  | por
  | brownOut
  | rstPin
  | thermal
  | watchdog
  | cascade
  | chipRst
  deriving DecidableEq, Repr

/-- Where the release sequence of R389 or R390 stands. -/
inductive BootStep where
  | inReset
  | straps
  | synthP
  | pilotRelease
  | optionLoad
  | done
  deriving DecidableEq, Repr

/-- The reset controller (R385 … R391): sources asserted now, whether a FULL source has been seen in the present interval, the step of the release sequence, RSTOUT_N, whether its 100 µs are over, and whether SYNTH_S has locked since the last FULL reset (R394). -/
structure ResetSt where
  asserted : List ResetSource := []
  full : Bool := true
  step : BootStep := .straps
  rstoutHigh : Bool := false
  past100 : Bool := true
  sLockedOnce : Bool := false
  deriving DecidableEq, Repr

/-- An HBUS access that has not ended yet: HRDY_N is high (R37, R43). -/
inductive BusAccess where
  | posted (p : Posted)
  | memRead (addr : Nat)
  | xipRead (addr : Nat)
  | xipWrite (addr : Nat) (value : Word) (be : BitVec 4)
  deriving DecidableEq, Repr

/-- The page buffer of the direct-execute window (R497): the flash page it holds, its bytes in order of place, and the first and last place written. -/
structure PageBuf where
  page : Nat
  bytes : List (Nat × Byte)
  first : Nat
  last : Nat
  deriving DecidableEq, Repr

/-- Work of SSP_M in the order it runs (R489 … R498): a programmed transfer, the SFDP read, a line fetch, and the program of a closed page buffer. -/
inductive SspmJob where
  | transfer
  | sfdp
  | fetch (line : Nat)
  | program (buf : PageBuf)
  deriving DecidableEq, Repr

/-- What SSP_M holds beside its registers: its work, whether the job at the front is polling, the line buffers as (line, bytes), the open page buffer, and a BLOCK reset that waits for a transfer's end (R490). -/
structure SspmSt where
  jobs : List SspmJob := []
  polling : Bool := false
  lines : Vector (Option (Nat × List Byte)) 4 := Vector.replicate 4 none
  page : Option PageBuf := none
  resetDue : Bool := false
  deriving DecidableEq, Repr

/-- What SSP_S holds beside its registers: the frame in progress, with the status byte captured at its start (R501). -/
structure SspsSt where
  frame : Bool := false
  status : Byte := 0
  deriving DecidableEq, Repr

/-- What the security block holds beside its registers (R518 … R531): the key cells and seal bits, the staging words, the level a challenge was issued for, the always-on failure count and back-off in ms, the operation in progress, and the tamper events since the last FULL reset. -/
structure SecSt where
  kOp : Option (List Byte) := none
  kProv : Option (List Byte) := none
  sealed : Bool := false
  resp : Vector Word 8 := Vector.replicate 8 0
  keyBuf : Vector Word 8 := Vector.replicate 8 0
  reqLevel : Nat := 0
  fails : Nat := 0
  backoff : Nat := 1000
  armed : Bool := false
  sealing : Bool := false
  keyRun : Option (Bool × List Byte) := none
  tampers : Nat := 0
  deriving DecidableEq, Repr

/-- A stored Select entry; `whole` is false while a mask of more than 128 bits lacks its CONT part (R138). -/
structure SelEntry where
  target : Nat
  action : Nat
  bank : Nat
  pointer : Nat
  length : Nat
  mask : List Byte
  whole : Bool
  deriving DecidableEq, Repr

/-- A descriptor as taken (R126): its bytes, its command-ring index, the tide of the taking, whether it has become urgent, the effective priority it started with, and how far it has run. -/
structure Desc where
  bytes : List Byte
  index : Nat
  taken : Nat
  urgent : Bool := false
  prio : Nat := 0
  started : Bool := false
  startTide : Nat := 0
  rounds : Nat := 0
  sector : Nat := 0
  deriving DecidableEq, Repr

/-- An air command with what it carries; data is as sent, after any cover-coding (R94). -/
inductive AirCmd where
  | none
  | select (e : SelEntry)
  | query (sel : Nat) (session : Nat) (target : Nat) (q : Nat) (dr : Nat) (m : Nat) (trext : Nat)
  | queryAdjust (updn : Nat)
  | queryRep
  | ack (rn : Nat)
  | nak
  | reqRn (rn : Nat)
  | access (half : Nat) (data : Nat)
  | read (bank wordPtr count : Nat)
  | write (bank wordPtr : Nat) (data : Nat)
  | blockWrite (bank wordPtr count : Nat) (data : List Byte)
  | blockErase (bank wordPtr count : Nat)
  | lock (payload : Nat)
  | blockPermalock (lock : Bool) (bank wordPtr range : Nat) (mask : List Byte)
  | kill (half : Nat) (data : Nat) (recom : Nat)
  | template (preamble : Bool) (bits : List Bool)
  deriving DecidableEq, Repr

/-- Where the session's air exchange stands (R82, R83, R99 … R107). `decided` follows a reply: a quiet point needs T2 max to elapse. -/
inductive AirPhase where
  | quiet
  | committed
  | sending
  | waiting
  | window
  | receiving
  | closed
  | decided
  deriving DecidableEq, Repr

/-- The reception in progress or the last one: the chosen set, both metrics in 0.01 dB, the tide of the detection, whether it restarted (R103 … R106), and the levels of the two sets (R175). -/
structure RxSt where
  setB : Bool := false
  dA : Int := 0
  dB : Int := 0
  tide : Nat := 0
  restarted : Bool := false
  rssiA : Nat := 0x8000
  rssiB : Nat := 0x8000
  deriving DecidableEq, Repr

/-- The counts of the round in progress (R144); its start; whether a trigger started it; and whether a round has completed in HOLD and the next is due. -/
structure RoundSt where
  active : Bool := false
  opened : Nat := 0
  singles : Nat := 0
  empties : Nat := 0
  collisions : Nat := 0
  startTide : Nat := 0
  triggered : Bool := false
  begun : Bool := false
  waits : Bool := false
  deriving DecidableEq, Repr

/-- One step of an access sequence (R94, R115). -/
inductive AccStep where
  | handle
  | cover
  | password (half : Nat)
  | op
  | killStep (half : Nat)
  | exchange
  deriving DecidableEq, Repr

/-- The search for a target and the access sequence in progress (R94, R132): whether the sequence runs, whether it ends with the command being sent, the steps left, the handle, the RN16 that covers the next data, the repeats made of the present step, the manifest entry of the tag, the rounds spent on finding it, and whether the target has just been singulated. -/
structure AccSt where
  running : Bool := false
  ending : Bool := false
  steps : List AccStep := []
  handle : Option Nat := none
  cover : Nat := 0
  tries : Nat := 0
  manIndex : Option Nat := none
  rounds : Nat := 0
  ready : Bool := false
  deriving DecidableEq, Repr

/-- How a weight set was formed: loaded from the table, the reset weights of R193, or steered to a direction in 0.01° (R169, R172). -/
inductive Steer where
  | table
  | boresight
  | toward (az el : Int)
  deriving DecidableEq, Repr

/-- Transmit weights that wait to take effect (R133, R171): the 64 words, how they were formed, whether nulls were applied, and the zone. -/
structure PendTx where
  w : List Word
  form : Steer
  nulled : Bool
  az : Int
  el : Int
  /-- The magnitude that mutes take from these weights while they wait (R189). -/
  lost : Int := 0
  /-- Were the weights still in effect admitted too, so that they count while these wait (R181)? -/
  old : Bool := true
  deriving DecidableEq, Repr

/-- A checkpoint copy in BANK_10–11: what a spare pilot resumes from (R296, R298). -/
structure Ckpt where
  seq : Nat := 0
  state : Nat := 2
  run : Option Desc := none
  waiting : List Desc := []
  q : Nat := 0
  qfp : Nat := 0
  slots : Nat := 0
  round : RoundSt := {}
  acc : AccSt := {}
  chain : List Desc := []
  single : Bool := false
  plan : List AirCmd := []
  bad : Bool := false
  deriving DecidableEq, Repr

/-- What a session holds beside its page. -/
structure SesSt where
  phase : AirPhase := .quiet
  /-- The command committed, in the air or sent last, and those planned after it. -/
  cmd : AirCmd := .none
  plan : List AirCmd := []
  /-- Hold reasons standing, earliest first, and the state before HOLD or FAILOVER (R84). -/
  holds : List Nat := []
  prev : Nat := 2
  opens : Nat := 0
  /-- Messages that wait for ring space, oldest first, each with the free slots it asks for (R147, R149). -/
  waiting : List (List Byte) := []
  need : Nat := 8
  descs : List Desc := []
  run : Option Desc := none
  /-- CHAIN descriptors that started together with the running one (R137). -/
  chain : List Desc := []
  /-- A STOP asks for the running descriptor's end (R138); `some true`: with SCOPE 1. -/
  stop : Option Bool := none
  /-- The FENCE in flight with the MTAIL it waits for (R138). -/
  fence : Option (Desc × Nat) := none
  selects : Vector (Option SelEntry) 8 := Vector.replicate 8 none
  /-- LINK, INV and QCTRL as of the last Query, and RXCFG as of the last reply window (R75). -/
  link : Word := 0x05A94051
  inv : Word := 0x81
  qctrl : Word := 0x4F044
  rxcfg : Word := 0x2810
  /-- Q's fraction in 1/16 and the slots opened since the last Query or QueryAdjust (R90, R91). -/
  qfp : Nat := 0
  slots : Nat := 0
  rn16 : Nat := 0
  retry : Nat := 0
  /-- The slot just decided singulated a tag, so its flag is still to be inverted (R91). -/
  single : Bool := false
  round : RoundSt := {}
  rx : RxSt := {}
  acc : AccSt := {}
  /-- The readmission of its transmit weights was refused (R230). -/
  refused : Bool := false
  /-- Tide of the end of its last turn, and slots opened in the present one (R139, R140). -/
  turnEnd : Nat := 0
  turnSlots : Nat := 0
  /-- The last direction estimate: azimuth, elevation and error (R184). -/
  dir : Option (Int × Int × Nat) := none
  /-- The weights in effect before a SURVEY (R188), and whether they have been asked for again. -/
  prior : Option PendTx := none
  sectorsOver : Bool := false
  /-- The pilot that is taking the session over (R297, R300), and whether the fault cut an exchange (R87). -/
  spare : Option Nat := none
  cut : Bool := false
  /-- The two checkpoint copies (R296). -/
  ckA : Ckpt := { bad := true }
  ckB : Ckpt := { bad := true }
  deriving DecidableEq, Repr

/-- A sighting on its way into the manifest, with the TAG_SEEN message that follows it (R145, R153, R157). -/
structure Sighting where
  session : Nat
  setB : Bool
  pc : Nat
  xpc1 : Nat
  xpc2 : Nat
  epc : List Byte
  rssi : Nat
  rssiA : Nat
  rssiB : Nat
  dir : Option (Int × Int × Nat)
  restarted : Bool
  tide : Nat
  cookie : Nat
  carrier : Nat
  freqKhz : Nat
  deriving DecidableEq, Repr

/-- What the manifest engine holds beside its memory: the clear in progress (`some true`: pinned entries too) and the work that waits for its end, in event order: sightings and whole messages of the sessions that have one waiting. -/
structure ManSt where
  clear : Option Bool := none
  queue : List (Sum Sighting (Nat × List Byte)) := []
  deriving DecidableEq, Repr

/-- What the beamformer holds of one session beside its registers: the zone, whether STREAM_n is assigned to its carrier and admitted on it, waiting transmit and receive weights, the form of the three sets, whether its transmit weights took effect after the last group recomputation, the AMP its steered weights were formed with, and the magnitudes that mutes have taken from them since the last renormalisation (R190), in 2^-64 codes. -/
structure StreamSt where
  az : Int := 0
  el : Int := 0
  assigned : Bool := false
  admitted : Bool := false
  pend : Option PendTx := none
  tx : Steer := .boresight
  setA : Steer := .boresight
  setB : Steer := .boresight
  pendA : Option (Steer × List Word) := none
  pendB : Option (Steer × List Word) := none
  fresh : Bool := false
  ampUsed : Nat := 2048
  lostTx : Int := 0
  lostA : Int := 0
  lostB : Int := 0
  deriving DecidableEq, Repr

/-- A direction estimate waiting its turn (R185): the session whose EPC reply was detected. -/
structure EstReq where
  session : Nat
  deriving DecidableEq, Repr

/-- What the beamformer holds beside its registers: the weight table by byte (R165), the live weights by set × 64 + path (sets 0–15 transmit, 16–31 A, 32–47 B), the streams, the weight-table action in progress, the estimate queue and whether the groups are to be recomputed. -/
structure BfSt where
  table : List (Nat × Byte) := []
  live : List (Nat × Word) := []
  streams : Vector StreamSt 16 := Vector.replicate 16 {}
  action : Nat := 0
  est : List EstReq := []
  groupsDue : Bool := false
  deriving DecidableEq, Repr

/-- A channel of the regulatory profile: frequency in Hz and EIRP limit in 0.01 dBm (R220). -/
structure Channel where
  hz : Nat
  limit : Int
  deriving DecidableEq, Repr

/-- A mask point: offset in kHz, limit in dB below the carrier, RBW code (R220). -/
structure MaskPoint where
  offset : Nat
  limit : Nat
  rbw : Nat
  deriving DecidableEq, Repr

/-- The regulatory profile in effect (R220 … R222). -/
structure Profile where
  base : Nat
  eirp : Int
  gain : Int
  pathLimit : Int
  flags : Nat
  maxCarriers : Nat
  dwellMax : Nat
  occWindow : Nat
  occLimit : Nat
  lbtTime : Nat
  lbtThr : Int
  lbtRetry : Nat
  stream : Option Int
  mask : List MaskPoint
  channels : List Channel
  deriving DecidableEq, Repr

/-- Where a carrier goes on after SYNTH_WAIT (R199, R201): with the coexistence step, with LISTEN, with RAMP_UP, or where its drain was heading. -/
inductive Resume where
  | grant
  | listen
  | ramp
  | heading
  deriving DecidableEq, Repr

/-- What a carrier holds beside its registers: the channel checked for it (R565), the target of a commanded hop, whether a hop has passed RETUNE, the causes of a drain (a hop, a stop, a recalibration, an occupancy limit, a withdrawn grant), where SYNTH_WAIT leads, whether LISTEN waits for its retry, the rest of the channel permutation and the channels found busy in it, whether RETUNE has chosen its channel, and the tides at which its output began and its visit began, with the ON time of the visit before the present output (R202 … R226). -/
structure CarSt where
  hz : Nat := 0
  target : Nat := 0
  hopDue : Bool := false
  hopping : Bool := false
  stopDue : Bool := false
  bandCal : Bool := false
  toBarred : Bool := false
  grantLost : Bool := false
  resume : Resume := .grant
  lbtWait : Bool := false
  perm : List Nat := []
  busy : List Nat := []
  picked : Bool := false
  onSince : Option Nat := none
  visitStart : Option Nat := none
  visitOn : Nat := 0
  deriving DecidableEq, Repr

/-- A band calibration of R200: none, due and waiting, or running. -/
inductive BandCal where
  | none
  | due
  | running
  deriving DecidableEq, Repr

/-- What a path holds beside its page: a level that waits for a boundary (R238), in 0.25 dBm with −81 for a drive held at zero (R229), the driver cells in reach of use (R237, R294), whether it has passed its join boundary, the gain step that waits, CANC_EN and DPD_EN in effect, the injector coefficients applied and the loop's candidates for the four carriers (R239, R240), and the DPD set kept for it, with its temperature and generation (R284). -/
structure PathSt where
  pend : Option Int := none
  cells : Nat := 20
  joined : Bool := false
  gainPend : Option Nat := none
  cancEn : Bool := true
  dpdEn : Bool := true
  canc : Vector Word 4 := Vector.replicate 4 0
  cand : Vector Word 4 := Vector.replicate 4 0
  dpdKept : Bool := false
  dpdTemp : Nat := 0x80
  dpdGen : Nat := 0
  deriving DecidableEq, Repr

/-- A change that waits for a boundary (R273). -/
inductive Change where
  /-- Receive part of an accepted procedure (ARRAY_RX, POWER, CONV, CANC). -/
  | rxCal (proc : Nat) (ws : List CalWord)
  /-- Transmit part of an accepted procedure (ARRAY_TX, POWER). -/
  | txCal (proc : Nat) (ws : List CalWord)
  /-- An accepted DPD set of a path, with the die temperature of its acceptance. -/
  | dpdSet (p temp : Nat) (ws : List CalWord)
  /-- A restored image; `dpd` names the paths whose DPD sets it records as accepted. -/
  | table (img : List (Nat × Option Word)) (dpd : BitVec 64)
  | invalidate
  | renorm
  | join (p : Nat)
  | drain (p : Nat)
  | level (p : Nat)
  | dpdEn (p : Nat)
  | backoff (p : Option Nat)
  | canc (p c : Nat) (coef : Word) (big : Bool)
  | gain (p : Nat)
  | cancEn (p : Nat)
  /-- The results of a procedure lost to an uncorrectable word (R302). -/
  | lost (proc : Nat)
  /-- An accepted group correction and its slope (R352). -/
  | group (corr slope : Int)
  /-- This member leaves its group for its CAL_FMT (R355). -/
  | groupOut
  deriving DecidableEq, Repr

/-- A waiting change with the tide from which its wait counts (R272). -/
structure Waiting where
  change : Change
  since : Nat
  deriving DecidableEq, Repr

/-- Whether slack water is called or runs (R85, R274). -/
inductive Slack where
  | none
  | called
  | running
  deriving DecidableEq, Repr

/-- What the calibration sequencer holds beside its registers: changes that wait, oldest first; slack water; the paths of the procedure in progress, with the temperature it began at; the image of accepted results and the image in effect, as the words that differ from the nominal encoding; the staging copy of a restore; the procedures whose results are in effect, and the grid points ARRAY_RX has measured. -/
structure CalSt where
  waits : List Waiting := []
  slack : Slack := .none
  startTemp : Int := 0
  paths : List Nat := []
  accepted : List (Nat × Option Word) := []
  effect : List (Nat × Option Word) := []
  stage : List (Nat × Word) := []
  validEff : BitVec 7 := 0
  rxGrid : BitVec 11 := 0
  deriving DecidableEq, Repr

/-- The redundant elements of a path (R264, R292): the slice the spare has replaced, and the failed and the unused DAC and driver cells. -/
structure ElemSt where
  slice : Option Nat := none
  dacBad : List Nat := []
  dacFree : List Nat := [63, 64, 65, 66]
  drvBad : List Nat := []
  drvFree : List Nat := [20, 21, 22, 23]
  deriving DecidableEq, Repr

/-- What the repair sequencer holds beside its registers: records waiting to be written, oldest first (R311); the elements of each path; row repairs as (bank, row, spare row); rows the dredger corrected at its last visit; a self-test's abort, the step it has repaired in and whether a pool ran out (R308). -/
structure RepSt where
  queue : List (List Byte) := []
  elems : Vector ElemSt 64 := Vector.replicate 64 {}
  rows : List (Nat × Nat × Nat) := []
  marks : List (Nat × Nat) := []
  /-- SRAM addresses of the 32-bit halves of the 64-bit words of ring memory that read as uncorrectable: a word does so until both halves are written whole (R302). -/
  bad : List Nat := []
  abort : Bool := false
  repaired : Bool := false
  ranOut : Bool := false
  deriving DecidableEq, Repr
/-- What a pilot holds beside its page: the pilot its image is being copied from; the target of a planned move, and whether EN = 0 asked for it; the session it is taking over, and whether by a planned move; a fault that came meanwhile; and, while its built-in test follows a failover, the pilot whose image it copies (R297 … R300, R318). -/
structure PilSt where
  copyFrom : Option Nat := none
  moveTo : Option Nat := none
  moveOff : Bool := false
  takes : Option Nat := none
  planned : Bool := false
  refault : Option Nat := none
  faulted : Option Nat := none
  deriving DecidableEq, Repr

/-- The boot configuration in effect (R402); `keyHash` is absent while Selnum's factory key stands. -/
structure BootCfg where
  source : Option Nat := none
  slotA : Nat := 0
  slotB : Nat := 0x10000
  minSec : Nat := 0
  keyHash : Option (List Byte) := none
  deriving DecidableEq, Repr

/-- What a Kloit frame says (R330). -/
inductive KlBody where
  | censusReq (gen depth route : Nat)
  | censusRec (r : List Byte)
  | assign (number : Option Nat) (gen cp hostFormat : Nat) (altOk : Bool)
  | version (cp : Nat)
  | reset (subtree : Bool)
  | event (msg : List Byte)
  | ackE2e (next : Nat)
  | pageReq (op addr : Nat) (data : Word)
  | pageRsp (data : Word) (hops : Nat)
  | message (origin seq count : Nat) (msgs : List Byte)
  | delay (t1 t2 t3 : Nat)
  | group (m : KlGroupMsg)
  deriving DecidableEq, Repr

/-- A frame (R327): its class, whether it is broadcast or routed, DEST, SRC, LEN in words, and SEQ once it is sent. -/
structure KlFrame where
  body : KlBody
  cls : Nat
  bcast : Bool := false
  routed : Bool := false
  dest : Nat := 0
  src : Nat := 0xFFFF
  words : Nat := 4
  seq : Nat := 0
  deriving DecidableEq, Repr

/-- A control block on a lane (R325). -/
inductive KlCtl where
  | trig (channel tide : Nat)
  | dly
  | nak (seq : Nat)
  deriving DecidableEq, Repr

/-- What a port holds beside its registers: credits for sending and receive-buffer credits in use, by class; the next SEQ sent and expected; the replay buffer and how often its first frame has been resent; frames waiting for a down-port; valid TRAIN frames; delay exchanges made in MEASURE, with the sum of their offsets in 1/256 tick; the stamps of the exchange in progress; the delay; the last TICK, with the tide of its receipt; the control block sent last; and a retraining in progress (R326 … R340). -/
structure KlPortSt where
  credits : Vector Nat 4 := Vector.replicate 4 0
  used : Vector Nat 4 := Vector.replicate 4 0
  txSeq : Nat := 0
  rxSeq : Option Nat := none
  replay : List KlFrame := []
  resends : Nat := 0
  queue : List (Nat × KlFrame) := []
  trains : Nat := 0
  measures : Nat := 0
  offsets : Int := 0
  t1 : Nat := 0
  t4 : Option Nat := none
  delay : Nat := 0
  tick : Option (Nat × Nat) := none
  ctl : Option KlCtl := none
  retry : Bool := false
  deriving DecidableEq, Repr

/-- Where a remote access came from (R344, R376): the RA registers, or a REG_REQ packet. -/
inductive RaSource where
  | ra
  | link
  deriving DecidableEq, Repr

/-- A remote access in progress: its source, operation (0 read, 1 write, 2 wait), register-window address and data, and the members that have not answered yet. -/
structure RaSt where
  source : RaSource
  op : Nat
  addr : Nat
  data : Word
  left : List Nat
  deriving DecidableEq, Repr

/-- A page request at a member that waits to be served (R344): who asked, operation, address and data. -/
structure KlReq where
  port : Nat
  op : Nat
  addr : Nat
  data : Word
  src : Nat
  words : Nat
  deriving DecidableEq, Repr

/-- What the cascade holds beside its page (R321 … R356): ports; frames waiting for the up-port, each with its source (5: this device), and the source each class served last; this device's route; a census in progress as member or harbourmaster: whether records are being collected, the down-ports that have delivered LAST, the records, and whether another census follows; numbers held by identity, and the census table; whether KL_1 is usable; the forwarder's next ORIGIN_SEQ and unacknowledged frames as (sequence, ring, slots, frame); the sequence expected of each origin and the origins owed an ACK_E2E; messages accepted for the packet link as (origin, bytes, port, credits); triggers armed and the last firing tide of each channel; the tide at which HOLDOVER began; remote accesses; and the group: the running GROUP_CAL's group, the correction and slope in effect, and the die temperature of the accepted GROUP_CAL. -/
structure KlSt where
  ports : Vector KlPortSt 5 := Vector.replicate 5 {}
  up : List (Nat × KlFrame) := []
  served : Vector Nat 4 := Vector.replicate 4 5
  route : Nat := 0
  collecting : Bool := false
  lasts : List Nat := []
  recs : List (List Byte) := []
  again : Bool := false
  held : List (Nat × Nat) := []
  table : List (Nat × Byte) := []
  altOk : Bool := false
  hostFormat : Nat := 3
  oseq : Nat := 0
  unacked : List (Nat × Nat × Nat × KlFrame) := []
  expect : List (Nat × Nat) := []
  acks : List Nat := []
  accepted : List (Nat × List Byte × Nat × Nat) := []
  armed : List (Nat × Nat) := []
  fired : Vector (Option Nat) 4 := Vector.replicate 4 none
  holdSince : Nat := 0
  ra : List RaSt := []
  reqs : List KlReq := []
  group : Nat := 0
  corr : Int := 0
  slope : Int := 0
  groupTemp : Int := 0
  deriving DecidableEq, Repr

/-- A packet of the packet link (R370): its type, virtual channel, TAG, TIDE and payload, SEQ once sent, the tide since which it has been ready, LAST and CARRIER; and for a MSG packet the ring and slots it carries, or the frames of members it carries as (origin, bytes, port, credits) (R377, R378). -/
structure PlPacket where
  type : Nat
  vc : Nat
  tag : Nat := 0
  tide : Nat := 0
  payload : List Byte := []
  seq : Nat := 0
  since : Nat := 0
  last : Bool := false
  carrier : Nat := 0
  ring : Option (Nat × Nat) := none
  relay : List (Nat × List Byte × Nat × Nat) := []
  deriving DecidableEq, Repr

/-- An entry of a REG_REQ packet (R375): OP, address and data. -/
structure PlEntry where
  op : Nat
  addr : Nat
  data : Word
  deriving DecidableEq, Repr

/-- What the entry at the front of a REG_REQ waits for (R376). -/
inductive PlWait where
  | none
  | wpend
  | remote
  deriving DecidableEq, Repr

/-- A REG_REQ in service: TAG, DEVICE, the entries left, the response entries (address, status, data), and what it waits for. -/
structure PlReq where
  tag : Nat
  device : Nat
  entries : List PlEntry
  done : List (Nat × Nat × Word) := []
  wait : PlWait := .none
  credits : Nat := 0
  deriving DecidableEq, Repr

/-- An admitted stream (R380), in the order of admission: the path stream, the beam stream, and the SNAPSHOT of a session. -/
inductive PlStream where
  | path
  | beam
  | snap (n : Nat)
  deriving DecidableEq, Repr

/-- A control block of the packet link (R361). -/
inductive PlCtl where
  | ack (seq : Nat)
  | nak (seq : Nat)
  | credit (counts : Vector Nat 4)
  | remap (position lane : Nat)
  | remapReq (lane : Nat)
  deriving DecidableEq, Repr

/-- What the packet link holds beside its page: packets ready and not sent, the replay buffer, the next SEQ sent and expected, the last cumulative credit counts received and given, whether an ACK or CREDIT is owed, the control block sent last, lanes whose retraining runs and lanes that are recorded as failed, whether the link retrains with fewer positions, REG_REQ packets in service, the tide of the last INTERRUPT packet, the packet counts of the streams, and the admitted streams (R360 … R381). -/
structure PlSt where
  queue : List PlPacket := []
  replay : List PlPacket := []
  txSeq : Nat := 0
  rxSeq : Nat := 0
  peer : Vector Nat 4 := Vector.replicate 4 0
  given : Vector Nat 4 := Vector.replicate 4 0
  ackDue : Bool := false
  creditDue : Bool := false
  ctl : Option PlCtl := none
  retry : BitVec 5 := 0
  recorded : BitVec 5 := 0
  retrain : Bool := false
  reqs : List PlReq := []
  lastInt : Option Nat := none
  pathTag : Nat := 0
  beamTag : Nat := 0
  adm : List PlStream := []
  deriving DecidableEq, Repr

/-- The device: everything the spec gives the block but the queue of waiting commands. -/
structure Device where
  /-- Register words as their owning islands hold them (R20), by word number. -/
  regs : List (Nat × Word) := []
  /-- The mirror's copy of every readable word (R40). -/
  mirror : List (Nat × Word) := []
  /-- The post queue, first in, first out (R43). -/
  post : List Posted := []
  /-- How many free values have been taken; the model's own (assumption 2). -/
  free : Nat := 0
  /-- The clock islands: host, pilot, converter, DSP, always-on (R20). -/
  isl : Vector IslandSt 5 := ⟨#[{}, {}, {}, {}, { held := false }], rfl⟩
  rst : ResetSt := {}
  pwr : PwrSt := {}
  rtc : RtcSt := {}
  watch : WatchSt := {}
  hk : HkSt := {}
  /-- TM_0 … TM_15. -/
  timers : Vector TimerSt 16 := Vector.replicate 16 {}
  /-- Levels at the TM_IO balls (R463, R470). -/
  tmIo : BitVec 16 := 0
  /-- IRQ_N_0 … IRQ_N_3 (R512). -/
  balls : Vector BallSt 4 := Vector.replicate 4 {}
  /-- Link-routed sources pending at the last look, and those that became pending since the last INTERRUPT packet (R381). -/
  linkSeen : BitVec 64 := 0
  linkNew : BitVec 64 := 0
  /-- A TRIG_OUT pulse in progress on ball k, with the level its end returns to (R547). -/
  trigOut : Vector (Option Bool) 4 := Vector.replicate 4 none
  rep : RepSt := {}
  pilots : Vector PilSt 20 := Vector.replicate 20 {}
  bootCfg : BootCfg := {}
  /-- The SRAM banks: bank b lies at 0x0200000 + b × 0x100000, which for banks 0 to 9 is its host address (R24, R34). -/
  sram : List (Nat × Byte) := []
  /-- The HBUS access that waits on HRDY_N, and the data HD last carried. -/
  bus : Option BusAccess := none
  hd : Word := 0
  sspm : SspmSt := {}
  ssps : SspsSt := {}
  sec : SecSt := {}
  man : ManSt := {}
  bf : BfSt := {}
  profile : Option Profile := none
  cars : Vector CarSt 4 := Vector.replicate 4 {}
  bandCal : BandCal := .none
  /-- The breakwater has begun a rotation, so WORST restarts (R211, R214). -/
  bwFresh : Bool := true
  /-- Occupancy log by channel frequency in Hz: intervals of tide values, oldest first (R224). -/
  occ : List (Nat × List (Nat × Nat)) := []
  ses : Vector SesSt 16 := Vector.replicate 16 {}
  paths : Vector PathSt 64 := Vector.replicate 64 {}
  /-- Paths in QUEUED, in the order their EN writes were applied (R251). -/
  pathQueue : List Nat := []
  cal : CalSt := {}
  /-- The level at COEX_GNT (R215). -/
  coexGnt : Bool := false
  /-- Option memory; an unlisted byte is erased (R403). -/
  opt : List (Nat × Byte) := []
  /-- RF-off interlock holds: the EXTEST group of the test port (R529). -/
  extest : Bool := false
  kl : KlSt := {}
  pl : PlSt := {}
  /-- Slots of each message ring handed to MSG packets or MESSAGE frames and not yet acknowledged (R345, R378). -/
  ringSent : Vector Nat 16 := Vector.replicate 16 0
  /-- Ball states the pin map set at the option load (R406), as (ball, STATE). -/
  pinMap : List (Nat × Nat) := []
  /-- An operation on option memory: 1 a PROGRAM, 2 an APPLY (R408). -/
  optRun : Nat := 0
  /-- OPT's staging buffer of 8 KiB (R408). -/
  optStage : List (Nat × Byte) := []
  deriving DecidableEq, Repr

/-- The state of the block: the device and the queue of commands waiting to be taken, first in, first out. -/
structure State where
  dev : Device
  pending : List Instr
  deriving DecidableEq, Repr

/-- The words of RST and SEC that an AON power-on loads with something else than their Reset column: the watchdog counts from PERIOD (R395), and the back-off of 1 s runs (R523). -/
def resetLoaded : List (Nat × Word) := [(rstWdogLeft, 1024#32), (secStat, 8#32), (secBackoffLeft, 1000#32)]

/-- The block as the last reset source of an AON power-on releases (R385, R389 step 1): every register at its Reset column or as `resetLoaded` says, every island but the always-on one held, RSTOUT_N low. -/
def State.reset : State := { dev := { regs := resetLoaded, mirror := resetLoaded }, pending := [] }

end Sys2Proof.Machine
end

