-- ==== Sys2Proof/Machine/Store.lean ====
section
/-!
DEFINITION. Sparse stores: a list of (address, value) pairs in one canonical form, addresses strictly rising and no entry equal to what an unlisted address reads as. Register words, mirror words and every memory of the device are held this way.
-/
namespace Sys2Proof.Machine

/-- What address `k` reads as; an unlisted address reads as `dflt k`. -/
def storeGet {α : Type} (dflt : Nat → α) : List (Nat × α) → Nat → α
  | [], k => dflt k
  | (a, v) :: t, k => if k = a then v else storeGet dflt t k

/-- List `v` at address `k`, in its place among rising addresses. -/
def storeInsert {α : Type} : List (Nat × α) → Nat → α → List (Nat × α)
  | [], k, v => [(k, v)]
  | (a, w) :: t, k, v =>
    if k < a then (k, v) :: (a, w) :: t
    else if k = a then (k, v) :: t
    else (a, w) :: storeInsert t k v

/-- Write `v` at address `k`; writing what an unlisted address reads as removes the entry. -/
def storePut {α : Type} [DecidableEq α] (dflt : Nat → α) (l : List (Nat × α)) (k : Nat) (v : α) : List (Nat × α) :=
  if v = dflt k then l.filter (fun e => e.1 != k) else storeInsert l k v

/-- The canonical form above `lo`: addresses strictly rising, no entry equal to its default. -/
def storeWfFrom {α : Type} [DecidableEq α] (dflt : Nat → α) : Nat → List (Nat × α) → Bool
  | _, [] => true
  | lo, (a, v) :: t => decide (lo ≤ a) && decide (v ≠ dflt a) && storeWfFrom dflt (a + 1) t

/-- The canonical form. -/
def storeWf {α : Type} [DecidableEq α] (dflt : Nat → α) (l : List (Nat × α)) : Bool :=
  storeWfFrom dflt 0 l

/-- Drop every entry whose address satisfies `p`: those addresses read as their default again. -/
def storeClear {α : Type} (p : Nat → Bool) (l : List (Nat × α)) : List (Nat × α) :=
  l.filter (fun e => !p e.1)

/-- A memory byte nothing has written reads as 0 (the SRAM zero of R392). -/
def zeroByte (_ : Nat) : Byte := 0

/-- An erased byte of option memory reads as all ones (R403). -/
def onesByte (_ : Nat) : Byte := 0xFF

/-- Bytes `a, a+1, …, a+n-1`. -/
def readBytes (dflt : Nat → Byte) (m : List (Nat × Byte)) (a : Nat) : Nat → List Byte
  | 0 => []
  | n + 1 => storeGet dflt m a :: readBytes dflt m (a + 1) n

/-- Store the bytes `bs` from address `a` upwards. -/
def writeBytes (dflt : Nat → Byte) (m : List (Nat × Byte)) (a : Nat) : List Byte → List (Nat × Byte)
  | [] => m
  | b :: t => writeBytes dflt (storePut dflt m a b) (a + 1) t

/-- The number a little-endian byte list holds (R6). -/
def leNat : List Byte → Nat
  | [] => 0
  | b :: t => b.toNat + 256 * leNat t

/-- `n` bytes of `v`, least significant first (R6). -/
def leBytes : Nat → Nat → List Byte
  | 0, _ => []
  | n + 1, v => BitVec.ofNat 8 v :: leBytes n (v / 256)

/-- A little-endian number of `n` bytes at address `a`. -/
def readLe (dflt : Nat → Byte) (m : List (Nat × Byte)) (a n : Nat) : Nat :=
  leNat (readBytes dflt m a n)

/-- Store under byte enables: byte k of the word is written where bit k of `be` is 1 (R29). -/
def writeWordBe (dflt : Nat → Byte) (m : List (Nat × Byte)) (a : Nat) (v : Word) (be : BitVec 4) :
    List (Nat × Byte) :=
  let put (k : Nat) (m : List (Nat × Byte)) : List (Nat × Byte) :=
    if be.getLsbD k then storePut dflt m (a + k) (v.extractLsb' (8 * k) 8) else m
  put 3 (put 2 (put 1 (put 0 m)))

end Sys2Proof.Machine
end

