-- ==== Sys2Proof/Machine/Ops.lean ====
section
/-!
DEFINITION. The named operations over register words: fields, counters, interrupt events, and the values words have after reset.
-/
namespace Sys2Proof.Machine

/-- Bits [hi:lo] of a word as a number. -/
def bitsOf (w : Word) (hi lo : Nat) : Nat := (w.toNat >>> lo) % 2 ^ (hi + 1 - lo)

/-- Replace bits [hi:lo] of a word. -/
def setBits (w : Word) (hi lo n : Nat) : Word :=
  let m : Word := BitVec.ofNat 32 ((2 ^ (hi + 1 - lo) - 1) <<< lo)
  (w &&& ~~~m) ||| (BitVec.ofNat 32 ((n % 2 ^ (hi + 1 - lo)) <<< lo))

/-- A number of `k` bits read as two's complement. -/
def signedOf (k n : Nat) : Int := if n < 2 ^ (k - 1) then (n : Int) else (n : Int) - (2 ^ k : Nat)

/-- An integer written as two's complement in `k` bits. -/
def twosOf (k : Nat) (i : Int) : Nat := (i % (2 ^ k : Nat)).toNat

/-- Limit an integer to lo … hi. -/
def clampInt (lo hi i : Int) : Int := if i < lo then lo else if hi < i then hi else i

/-- A field of a written value. -/
def Fld.of (f : Fld) (v : Word) : Nat := bitsOf v f.hi f.lo

/-- A one-bit field of a written value. -/
def Fld.on (f : Fld) (v : Word) : Bool := Fld.of f v != 0

/-- A signed field of a written value. -/
def Fld.sOf (f : Fld) (v : Word) : Int := signedOf (f.hi + 1 - f.lo) (Fld.of f v)

/-- The value a word has after a reset that reaches it (R9): the Reset columns of the register tables; a running page's PAGE_CTRL asks for clock and power (R52). -/
def resetWord (a : Nat) : Word :=
  let p := pageOfWord a
  let o := offOfWord a
  if o < 16 then (if o = 2 ∧ (pageKind p).isSome then 0xC else 0)
  else if p = 0x19 ∧ o = 0x41 + 8 * ((o - 0x41) / 8) ∧ 0x41 ≤ o ∧ o < 0xC1 then
    BitVec.ofNat 32 ((o - 0x41) / 8 * 0x20000)
  else if p = 0x19 ∧ o = 0x42 + 8 * ((o - 0x42) / 8) ∧ 0x42 ≤ o ∧ o < 0xC2 then
    BitVec.ofNat 32 ((o - 0x42) / 8 * 0x20000 + 0x10000)
  else if 0x80 ≤ p ∧ p < 0x90 ∧ o = 0x16 then BitVec.ofNat 32 (p - 0x80)
  else if 0x20 ≤ p ∧ p < 0x34 ∧ o = 0x11 then BitVec.ofNat 32 ((if p < 0x30 then p - 0x20 else 31) + 0x30000)
  else match regInfo p o with
    | some r => BitVec.ofNat 32 r.reset
    | none => 0

/-- The stored content of a register word in its owning island. -/
def Device.rd (d : Device) (a : Nat) : Word := storeGet resetWord d.regs a

/-- Set a register word in its owning island. -/
def Device.wr (d : Device) (a : Nat) (v : Word) : Device :=
  { d with regs := storePut resetWord d.regs a v }

/-- A field as a number. -/
def Device.get (d : Device) (f : Fld) : Nat := bitsOf (d.rd f.reg) f.hi f.lo

/-- A one-bit field. -/
def Device.on (d : Device) (f : Fld) : Bool := d.get f != 0

/-- A signed field. -/
def Device.getS (d : Device) (f : Fld) : Int := signedOf (f.hi + 1 - f.lo) (d.get f)

/-- Set a field. -/
def Device.put (d : Device) (f : Fld) (n : Nat) : Device :=
  d.wr f.reg (setBits (d.rd f.reg) f.hi f.lo n)

/-- Set a one-bit field. -/
def Device.putB (d : Device) (f : Fld) (b : Bool) : Device := d.put f b.toNat

/-- Set a signed field. -/
def Device.putS (d : Device) (f : Fld) (i : Int) : Device := d.put f (twosOf (f.hi + 1 - f.lo) i)

/-- Add `n` to a counter that wraps. -/
def Device.addWrap (d : Device) (f : Fld) (n : Nat) : Device := d.put f (d.get f + n)

/-- Add `n` to a counter that holds at its largest value. -/
def Device.addSat (d : Device) (f : Fld) (n : Nat) : Device :=
  d.put f (min (d.get f + n) (2 ^ (f.hi + 1 - f.lo) - 1))

/-- Count one in a counter that holds at its largest value. -/
def Device.count (d : Device) (f : Fld) : Device := d.addSat f 1

/-- Set a signed field, limited to what it can hold. -/
def Device.putSat (d : Device) (f : Fld) (i : Int) : Device :=
  let k := f.hi + 1 - f.lo
  d.putS f (clampInt (-(2 ^ (k - 1) : Nat)) ((2 ^ (k - 1) : Nat) - 1) i)

/-- Apply `f` when `c` holds. -/
def Device.when (d : Device) (c : Bool) (f : Device → Device) : Device := if c then f d else d

/-- Apply `f` for every number of a list, first to last. -/
def Device.forAll {α : Type} (d : Device) (l : List α) (f : Device → α → Device) : Device := l.foldl f d

/-- The island a page's block registers lie in, numbered as CLK.GOOD numbers islands: 0 host, 1 pilot, 2 converter, 3 DSP, 4 always-on (R20). -/
def islandOf (p : Nat) : Nat :=
  if p = 0x00 ∨ p = 0x05 then 0
  else if p = 0x01 ∨ p = 0x02 ∨ p = 0x03 ∨ p = 0x08 ∨ p = 0x1E then 4
  else if p = 0x09 then 2
  else if (0x14 ≤ p ∧ p ≤ 0x17) ∨ (0x40 ≤ p ∧ p < 0x80) then 3
  else 1

/-- PAGE_CAPS.IRQ_PRESENT of each page, as its chapter states it; the HBUS page has the sources of R70. -/
def pageHasIrq (p : Nat) : Bool :=
  [0x01, 0x03, 0x04, 0x05, 0x06, 0x08, 0x0A, 0x0B, 0x0C, 0x0D, 0x0E, 0x10, 0x11, 0x12, 0x13, 0x14, 0x15, 0x19, 0x1A, 0x1B, 0x1C, 0x1D, 0x1E].contains p
    || (decide (0x20 ≤ p) && decide (p < 0x34)) || (decide (0x40 ≤ p) && decide (p < 0x80))

/-- PAGE_CAPS.RESETTABLE of each page, as its chapter states it. -/
def pageResettable (p : Nat) : Bool :=
  [0x04, 0x0A, 0x0B, 0x0C, 0x0D, 0x0E, 0x0F, 0x10, 0x13, 0x14, 0x15, 0x16, 0x17, 0x18, 0x19, 0x1A, 0x1B, 0x1E].contains p
    || (decide (0x40 ≤ p) && decide (p < 0x90))

/-- PAGE_CAPS.CLOCK_GATED and POWER_GATED: the PATH pages alone have them (R259). -/
def pageGated (p : Nat) : Bool := decide (0x40 ≤ p) && decide (p < 0x80)

/-- ACCESS.WRITE_LEVEL of a page (R56): RING and HBUS are OPEN, OPT is PROVISIONER, every other page OPERATOR. -/
def pageWriteLevel (p : Nat) : Nat := if p = 0x19 ∨ p = 0x05 then 0 else if p = 0x07 then 2 else 1

/-- The reset state of island `i`. -/
def Device.island (d : Device) (i : Nat) : IslandSt := d.isl.getD i {}

/-- Set the reset state of island `i`. -/
def Device.setIsland (d : Device) (i : Nat) (s : IslandSt) : Device :=
  { d with isl := d.isl.setIfInBounds i s }

/-- CLK.GOOD of an island (R394). -/
def Device.clockGood (d : Device) (i : Nat) : Bool := d.on ⟨clkGood, i, i⟩

/-- PAGE_STAT.POWERED. -/
def Device.pagePowered (d : Device) (p : Nat) : Bool := !(pageGated p && !d.on (fPcPwrReq p))

/-- PAGE_STAT.CLK_GOOD; the always-on island always has a clock (R394), and the SYS and HBUS pages are never off (R70, R410). -/
def Device.pageClock (d : Device) (p : Nat) : Bool :=
  islandOf p = 4 || islandOf p = 0 || (d.clockGood (islandOf p) && !(pageGated p && !d.on (fPcClkReq p)))

/-- Are the tide, the timers and the watchdog stopped for sleep: from the end of PREPARE to the exit (R419 step 2, R472)? -/
def Device.frozen (d : Device) : Bool := !(d.pwr.phase = .awake || d.pwr.phase = .prepare)

/-- Is the page off for an access (R57)? -/
def Device.pageOff (d : Device) (p : Nat) : Bool := !(d.pagePowered p && d.pageClock p)

/-- PAGE_STAT.IN_RESET (R391). -/
def Device.pageInReset (d : Device) (p : Nat) : Bool :=
  (d.island (islandOf p)).held || (pageResettable p && (d.on (fPcBlkRst p) || d.on (fPsReleasePending p)))

/-- A page that is neither off nor in reset: only such a page records events (R510). -/
def Device.pageLive (d : Device) (p : Nat) : Bool := !d.pageOff p && !d.pageInReset p

/-- Record an event on IRQ_RAW bit `b` of a page: IRQ_STAT latches it while IRQ_EN is 1 (R55). A page that is off or in reset holds its IRQ_STAT at 0 (R510). -/
def Device.irq (d : Device) (p b : Nat) : Device :=
  if d.on ⟨irqEn p, b, b⟩ && d.pageLive p then d.put ⟨irqStat p, b, b⟩ 1 else d

/-- Make a level bit of IRQ_RAW follow its condition; each rise records an event (R55). -/
def Device.irqLevel (d : Device) (p b : Nat) (c : Bool) : Device :=
  if c && !d.on ⟨irqRaw p, b, b⟩ then (d.put ⟨irqRaw p, b, b⟩ 1).irq p b
  else d.putB ⟨irqRaw p, b, b⟩ c

/-- Take one value the spec leaves open. -/
def Device.takeFree (d : Device) : BitVec 64 × Device :=
  (Config.free d.free, { d with free := d.free + 1 })

/-- The quotient of two integers where the spec states no rounding: exact when it divides, else one of the two integers next to it, chosen by a free value. -/
def Device.divOpen (d : Device) (num : Int) (den : Nat) : Int × Device :=
  if num % (den : Int) = 0 then (num / (den : Int), d)
  else
    let (v, d) := d.takeFree
    (num / (den : Int) + (if v.getLsbD 0 then 1 else 0), d)

/-- The quotient rounded to the nearest integer; a tie, which the spec leaves open, goes either way by a free value. -/
def Device.divNearest (d : Device) (num : Int) (den : Nat) : Int × Device :=
  let r := (2 * num) % (2 * (den : Int))
  if r < den then (num / (den : Int), d)
  else if (den : Int) < r then (num / (den : Int) + 1, d)
  else
    let (v, d) := d.takeFree
    (num / (den : Int) + (if v.getLsbD 0 then 1 else 0), d)

/-- Set a signed field to a value the spec computes; a value the field cannot hold is left open by the spec and is a free value. -/
def Device.putFit (d : Device) (f : Fld) (i : Int) : Device :=
  let k := f.hi + 1 - f.lo
  if -(2 ^ (k - 1) : Nat) ≤ i ∧ i < (2 ^ (k - 1) : Nat) then d.putS f i
  else
    let (v, d) := d.takeFree
    d.put f v.toNat

/-- Store a written value: RW and RWL fields take it, W1C bits written with 1 clear, everything else keeps its content (R7). -/
def Device.store (d : Device) (a : Nat) (v : Word) : Device :=
  match regInfo (pageOfWord a) (offOfWord a) with
  | none => d
  | some r =>
    let m : Word := BitVec.ofNat 32 (r.rw ||| r.rwl)
    let c : Word := BitVec.ofNat 32 r.w1c
    let old := d.rd a
    d.wr a (((old &&& ~~~m) ||| (v &&& m)) &&& ~~~(v &&& c))

/-- Put every block register of a page back to its reset value: the page's words from offset 0x040 up (R9). -/
def Device.resetBlockWords (d : Device) (p : Nat) : Device :=
  { d with regs := storeClear (fun a => decide (pageOfWord a = p) && decide (16 ≤ offOfWord a)) d.regs }

/-- Put the interrupt words of a page's header back to their reset value. -/
def Device.resetIrqWords (d : Device) (p : Nat) : Device :=
  { d with regs := storeClear (fun a => decide (pageOfWord a = p) && decide (4 ≤ offOfWord a) && decide (offOfWord a < 8)) d.regs }

end Sys2Proof.Machine
end

