-- ==== Sys2Proof/Machine/Messages.lean ====
section
/-!
DEFINITION. Ring memory, message layout and message-ring space (R121 … R129, R142 … R150).
-/
namespace Sys2Proof.Machine

/-- What session `n` holds beside its page. -/
def Device.sess (d : Device) (n : Nat) : SesSt := d.ses.getD n {}

/-- Change what session `n` holds beside its page. -/
def Device.modSes (d : Device) (n : Nat) (f : SesSt → SesSt) : Device :=
  { d with ses := d.ses.setIfInBounds n (f (d.sess n)) }

/-- PAGE_STAT.STATE of SESSION_n (R78). -/
def Device.sesState (d : Device) (n : Nat) : Nat := d.get (fPsState (0x80 + n))

/-- The tide as a message stamp (R142). -/
def Device.stamp (d : Device) : Nat := (d.rd tideCountHi).toNat * 2 ^ 32 + (d.rd tideCountLo).toNat

/-- Message-ring depth in slots. -/
def Device.mDepth (d : Device) (n : Nat) : Nat := 2 ^ d.get (fRingCfgMdepth n)

/-- Command-ring depth in descriptors. -/
def Device.cDepth (d : Device) (n : Nat) : Nat := 2 ^ d.get (fRingCfgCdepth n)

/-- A free-running 16-bit index register. -/
def Device.index (d : Device) (a : Nat) : Nat := (d.rd a).toNat % 65536

/-- Entries a ring holds between two free-running indices (R122). -/
def ringUsed (tail head : Nat) : Nat := (tail + 65536 - head) % 65536

/-- Message slots in use. -/
def Device.mUsed (d : Device) (n : Nat) : Nat := ringUsed (d.index (ringMtail n)) (d.index (ringMhead n))

/-- Free message slots (R147). -/
def Device.mFree (d : Device) (n : Nat) : Nat := d.mDepth n - d.mUsed n

/-- SRAM address of message slot with index `i` of ring `n` (R122). -/
def Device.mSlotAddr (d : Device) (n i : Nat) : Nat :=
  0x0200000 + (d.rd (ringMbase n)).toNat % 2 ^ 21 + 64 * (i % d.mDepth n)

/-- SRAM address of descriptor index `i` of ring `n` (R122). -/
def Device.cSlotAddr (d : Device) (n i : Nat) : Nat :=
  0x0200000 + (d.rd (ringCbase n)).toNat % 2 ^ 21 + 32 * (i % d.cDepth n)

/-- A single-bit error of a bank is corrected and counted (R302). -/
def Device.eccCorrected (d : Device) (bank : Nat) : Device :=
  ((d.count fRepEccCountCorrected).count (fRepRowsCorrected bank)).irq 0x11 2

/-- An uncorrectable word is counted and its bank and byte offset recorded (R302). -/
def Device.eccUncorrected (d : Device) (bank off : Nat) : Device :=
  ((d.count fRepEccCountUncorrected).wr repEccAddr (BitVec.ofNat 32 (off + bank * 2 ^ 20 + 2 ^ 24))).irq 0x11 3

/-- A 64-bit word of ring memory keeps a check pattern that reads as uncorrectable until it is written whole (R302). -/
def Device.markBad (d : Device) (addr : Nat) : Device :=
  { d with rep := { d.rep with bad := addr :: (addr + 4) :: d.rep.bad } }

/-- Does a 64-bit word of ring memory hold that pattern in either half? -/
def Device.badAt (d : Device) (addr : Nat) : Bool := d.rep.bad.contains addr || d.rep.bad.contains (addr + 4)

/-- A word of ring memory is read and found uncorrectable. -/
def Device.ringWordLost (d : Device) (addr : Nat) : Device :=
  (d.eccUncorrected ((addr - 0x0200000) / 2 ^ 20) ((addr - 0x0200000) % 2 ^ 20)).markBad addr

/-- Write message bytes slot by slot from index `i` (R125). -/
def Device.putSlots (d : Device) (n i : Nat) : Nat → List Byte → Device
  | 0, _ => d
  | k + 1, bs =>
    let a := d.mSlotAddr n i
    ({ d with sram := writeBytes zeroByte d.sram a (bs.take 64), rep := { d.rep with bad := d.rep.bad.filter (fun b => b < a || a + 64 ≤ b) } }).putSlots n (i + 1) k (bs.drop 64)

/-- RING IRQ_RAW bit n follows MTAIL − MHEAD ≥ MTHR (R129). -/
def Device.ringLevel (d : Device) (n : Nat) : Device :=
  d.irqLevel 0x19 n (decide (d.get (fRingCfgMthr n) ≤ d.mUsed n))

/-- A message whose slots are free enters the ring: MTAIL advances past it, and a message written while the threshold holds is an event (R125, R129). -/
def Device.writeMsg (d : Device) (n : Nat) (msg : List Byte) : Device :=
  let slots := msg.length / 64
  let tail := d.index (ringMtail n)
  let d := (d.putSlots n tail slots msg).wr (ringMtail n) (BitVec.ofNat 32 ((tail + slots) % 65536))
  let was := d.on ⟨irqRaw 0x19, n, n⟩
  let d := d.ringLevel n
  d.when (was && d.on ⟨irqRaw 0x19, n, n⟩) (fun d => d.irq 0x19 n)

/-- Ask for a hold of session `n`; the reasons stand in the order they came (R84). -/
def Device.holdAsk (d : Device) (n why : Nat) : Device :=
  if (d.sess n).holds.contains why then d
  else d.modSes n (fun s => { s with holds := s.holds ++ [why], opens := if s.holds.isEmpty then 0 else s.opens })

/-- STAT.HOLD_WHY: the earliest reason standing while the session is in HOLD, else 0 (R78). -/
def Device.showHold (d : Device) (n : Nat) : Device :=
  d.put (fSesStatHoldWhy n) (if d.sesState n = 8 then (d.sess n).holds.headD 0 else 0)

/-- A hold reason ends (R79). -/
def Device.holdEnd (d : Device) (n why : Nat) : Device :=
  (d.modSes n (fun s => { s with holds := s.holds.filter (· != why) })).showHold n

/-- A message whose slots must all be free goes into the ring, behind every message that waits; one that does not fit waits in the pilot and asks for the ring-space hold (R144, R147). -/
def Device.emit (d : Device) (n : Nat) (msg : List Byte) : Device :=
  if (d.sess n).waiting.isEmpty && decide (msg.length / 64 ≤ d.mFree n) then d.writeMsg n msg
  else (d.modSes n (fun s => { s with waiting := s.waiting ++ [msg] })).holdAsk n 3

/-- Post a message of session `n` in event order: behind a sighting of the same session that a manifest clear holds up (R144, R157). -/
def Device.postMsg (d : Device) (n : Nat) (msg : List Byte) : Device :=
  let mine (e : Sum Sighting (Nat × List Byte)) : Bool := match e with
    | .inl s => s.session = n
    | .inr m => m.1 = n
  if d.man.queue.any mine then { d with man := { d.man with queue := d.man.queue ++ [.inr (n, msg)] } }
  else d.emit n msg

/-- The ring-space hold ends when no message waits and the free slots asked for are there (R147, R148, R149). -/
def Device.spaceCheck (d : Device) (n : Nat) : Device :=
  if (d.sess n).waiting.isEmpty && decide ((d.sess n).need ≤ d.mFree n) then
    (d.holdEnd n 3).modSes n (fun s => { s with need := 8 })
  else d

/-- Write waiting messages in event order as long as they fit; `fuel` bounds their number. -/
def Device.release (d : Device) (n : Nat) : Nat → Device
  | 0 => d
  | fuel + 1 =>
    match (d.sess n).waiting with
    | [] => d
    | m :: t =>
      if m.length / 64 ≤ d.mFree n then
        ((d.modSes n (fun s => { s with waiting := t })).writeMsg n m).release n fuel
      else d

/-- Ring space has freed: waiting messages are written and the hold may end (R147). -/
def Device.ringFreed (d : Device) (n : Nat) : Device :=
  ((d.release n (d.sess n).waiting.length).spaceCheck n)

/-- WAITING_MESSAGE_RELEASE. -/
def waitingRelease (n : Nat) (d : Device) : Device := d.ringFreed n

/-- A message at a shutdown: discarded and counted when it does not fit (R150). -/
def Device.emitLast (d : Device) (n : Nat) (msg : List Byte) : Device :=
  if msg.length / 64 ≤ d.mFree n then d.writeMsg n msg else d.count (fRingHoldsUnreported n)

/-- Little-endian bytes of a number. -/
def le16 (n : Nat) : List Byte := leBytes 2 n

/-- Little-endian bytes of a signed 16-bit value. -/
def leS16 (i : Int) : List Byte := leBytes 2 (twosOf 16 i)

/-- Bytes extended with zeros to length `n`. -/
def padTo (n : Nat) (bs : List Byte) : List Byte := bs ++ List.replicate (n - bs.length) 0

/-- The device's number in a message header: its cascade number, 0 for a standalone device (R142). -/
def Device.deviceNumber (d : Device) : Nat := if d.on fKlStatNumbered then d.get fKlStatNumber else 0

/-- A whole message: header and body, extended with zeros to its slots (R142). -/
def Device.message (d : Device) (type n cookie tide : Nat) (body : List Byte) : List Byte :=
  let slots := (16 + body.length + 63) / 64
  padTo (64 * slots) ([BitVec.ofNat 8 type, 3, BitVec.ofNat 8 n, BitVec.ofNat 8 slots]
    ++ le16 d.deviceNumber ++ le16 cookie ++ leBytes 8 tide ++ body)

/-- Change PAGE_STAT.STATE of SESSION_n and send SESSION_STATE with an error code (R77). -/
def Device.sesStateMsg (d : Device) (n old code : Nat) : List Byte :=
  d.message 0x07 n 0 d.stamp ([BitVec.ofNat 8 (d.sesState n), BitVec.ofNat 8 old, BitVec.ofNat 8 (d.get (fSesStatHoldWhy n)),
    BitVec.ofNat 8 code] ++ le16 (d.get (fSesTrigOvf n)) ++ [BitVec.ofNat 8 (d.get (fSesStatPilot n))])

/-- Move SESSION_n to another state (R77, R79). -/
def Device.sesGo (d : Device) (n state code : Nat) : Device :=
  let old := d.sesState n
  if old = state then d
  else
    let d := (d.put (fPsState (0x80 + n)) state).showHold n
    d.postMsg n (d.sesStateMsg n old code)

/-- SUM of the in-flight descriptors over all sessions, with its peak (R128). -/
def Device.showInflight (d : Device) : Device :=
  let sum := (List.range 16).foldl (fun a n => a + d.get (fSesStatInflight n)) 0
  (d.put fRingInflightCount sum).put fRingInflightPeak (max sum (d.get fRingInflightPeak))

/-- STAT.INFLIGHT of session `n`: descriptors taken and not retired (R135). -/
def Device.showFlight (d : Device) (n : Nat) : Device :=
  let s := d.sess n
  (d.put (fSesStatInflight n) (s.descs.length + s.run.isSome.toNat + s.chain.length + s.fence.isSome.toNat)).showInflight

/-- Byte `k` of a descriptor as a number. -/
def Desc.byte (x : Desc) (k : Nat) : Nat := (x.bytes.getD k 0).toNat

/-- A little-endian field of a descriptor. -/
def Desc.le (x : Desc) (k n : Nat) : Nat := leNat ((x.bytes.drop k).take n)

/-- A signed 16-bit field of a descriptor. -/
def Desc.s16 (x : Desc) (k : Nat) : Int := signedOf 16 (x.le k 2)

/-- The descriptor's cookie. -/
def Desc.cookie (x : Desc) : Nat := x.le 2 2

/-- COMMAND_ERROR for a descriptor (R144, R146). -/
def Device.cmdErrorMsg (d : Device) (n : Nat) (x : Desc) (code detail : Nat) : List Byte :=
  d.message 0x06 n x.cookie d.stamp ([BitVec.ofNat 8 (x.byte 0), BitVec.ofNat 8 code] ++ le16 detail ++ le16 x.index
    ++ List.replicate 10 0 ++ x.bytes)

/-- Retire a descriptor with a COMMAND_ERROR. -/
def Device.retire (d : Device) (n : Nat) (x : Desc) (code detail : Nat) : Device :=
  (d.postMsg n (d.cmdErrorMsg n x code detail)).showFlight n

/-- The completion notice of a descriptor that writes no message of its own (R130, R131). -/
def Device.notice (d : Device) (n : Nat) (x : Desc) : Device :=
  (if 128 ≤ x.byte 1 then d.postMsg n (d.cmdErrorMsg n x 0 0) else d).showFlight n

/-- The ring indices a RING write has reset (R127). -/
def Device.ringIndexReset (d : Device) (n : Nat) (c m : Bool) : Device :=
  let d := d.when c (fun d => (d.wr (ringChead n) 0).wr (ringCtail n) 0)
  (d.when m (fun d => (d.wr (ringMhead n) 0).wr (ringMtail n) 0)).ringLevel n

/-- Is ring `n` consumed by the packet link or the forwarder, so that the host does not write its MHEAD (R345, R378)? -/
def Device.ringTaken (d : Device) (n : Nat) : Bool :=
  d.on ⟨plMsgCfg, n, n⟩ || (d.on ⟨klCtrl, 16 + n, 16 + n⟩ && 2 ≤ d.get fKlStatRole)

/-- Which ring pair and which word a RING page offset names. -/
def ringOfOff (off : Nat) : Nat × Nat := ((off - 0x40) / 8, (off - 0x40) % 8)

/-- Do a pair's areas fit: bases multiples of their sizes and rings inside ring memory (R121, R127)? -/
def ringFits (size base : Nat) : Bool := base % size = 0 && decide (base + size ≤ 0x200000)

/-- Which writes of the RING page are applied (R123, R127, R128). -/
def ringWriteOk (d : Device) (off : Nat) (v : Word) : Bool :=
  if off = 0x10 then bitsOf v 7 0 = 3
  else if off < 0x40 then true
  else
    let (n, w) := ringOfOff off
    let isOff := d.sesState n = 0
    let cb := (d.rd (ringCbase n)).toNat % 2 ^ 21
    let mb := (d.rd (ringMbase n)).toNat % 2 ^ 21
    match w with
    | 0 =>
      let c := bitsOf v 3 0
      let m := bitsOf v 7 4
      let f := bitsOf v 11 8
      let t := bitsOf v 28 16
      isOff && decide (4 ≤ c) && decide (c ≤ 12) && decide (4 ≤ m) && decide (m ≤ 12) && decide (1 ≤ f) && decide (f ≤ 12)
        && decide (1 ≤ t) && decide (t ≤ 2 ^ m) && ringFits (32 * 2 ^ c) cb && ringFits (64 * 2 ^ m) mb
    | 1 => isOff && ringFits (32 * d.cDepth n) (bitsOf v 20 0)
    | 2 => isOff && ringFits (64 * d.mDepth n) (bitsOf v 20 0)
    | 3 => decide (ringUsed (bitsOf v 15 0) (d.index (ringChead n)) ≤ d.cDepth n)
    | 6 => !d.ringTaken n && decide (ringUsed (bitsOf v 15 0) (d.index (ringMhead n)) ≤ d.mUsed n)
    | _ => true

/-- A drained FENCE completes when MHEAD reaches the MTAIL it recorded (R138). -/
def Device.fenceCheck (d : Device) (n : Nat) : Device :=
  match (d.sess n).fence with
  | none => d
  | some (x, t) =>
    if ringUsed (d.index (ringMtail n)) (d.index (ringMhead n)) ≤ ringUsed (d.index (ringMtail n)) t then
      (d.modSes n (fun s => { s with fence := none })).notice n x
    else d

/-- FENCE_COMPLETE. -/
def fenceComplete (n : Nat) (d : Device) : Device := d.fenceCheck n

/-- MHEAD of ring `n` has moved: space, threshold and waiting messages follow (R129, R147). -/
def Device.headMoved (d : Device) (n : Nat) : Device := (d.ringLevel n).ringFreed n

/-- The effect of an applied RING write (R127, R129). -/
def ringWritten (off : Nat) (d : Device) : Device :=
  if off < 0x40 then d
  else
    let (n, w) := ringOfOff off
    match w with
    | 0 => d.ringIndexReset n true true
    | 1 => d.ringIndexReset n true false
    | 2 => d.ringIndexReset n false true
    | 6 => d.headMoved n
    | _ => d

end Sys2Proof.Machine
end

