-- ==== Sys2Proof/Machine/Manifest.lean ====
section
/-!
DEFINITION. The manifest and its engine (R151 … R159), and the TAG_SEEN message (R144, R145).
-/
namespace Sys2Proof.Machine

/-- SRAM address of manifest entry `i` (R151). -/
def manAddr (i : Nat) : Nat := 0x0400000 + 64 * i

/-- The 64 bytes of an entry. -/
def Device.entry (d : Device) (i : Nat) : List Byte := readBytes zeroByte d.sram (manAddr i) 64

/-- Store the 64 bytes of an entry, GEN one above its previous value (R156). -/
def Device.putEntry (d : Device) (i : Nat) (bs : List Byte) : Device :=
  let gen := storeGet zeroByte d.sram (manAddr i + 2) + 1
  { d with sram := writeBytes zeroByte d.sram (manAddr i) (bs.set 2 gen) }

/-- Byte `k` of an entry as a number. -/
def entryByte (e : List Byte) (k : Nat) : Nat := (e.getD k 0).toNat

/-- A little-endian field of an entry. -/
def entryLe (e : List Byte) (k n : Nat) : Nat := leNat ((e.drop k).take n)

/-- FLAGS.VALID. -/
def entryValid (e : List Byte) : Bool := entryByte e 0 % 2 = 1

/-- FLAGS.PINNED. -/
def entryPinned (e : List Byte) : Bool := entryByte e 0 / 2 % 2 = 1

/-- The stored EPC bytes of a key: the first 32 (R151). -/
def storedEpc (epc : List Byte) : List Byte := epc.take 32

/-- The home position of a key (R152). -/
def manHome (epc : List Byte) : Nat := crc32 (BitVec.ofNat 8 epc.length :: storedEpc epc) % 65536

/-- Does a valid entry hold the key of this EPC (R152)? -/
def entryMatches (e : List Byte) (epc : List Byte) : Bool :=
  entryValid e && decide (entryByte e 1 = epc.length) && decide ((e.drop 32).take (storedEpc epc).length = storedEpc epc)

/-- The positions a lookup examines (R152). -/
def Device.manWindow (d : Device) (epc : List Byte) : List Nat :=
  (List.range (d.get fManCtrlProbeMax)).map (fun k => (manHome epc + k) % 65536)

/-- MAN bit 0 follows COUNT ≥ THRESH (R159). -/
def Device.manLevel (d : Device) : Device :=
  d.irqLevel 0x1A 0 (decide ((d.rd manThresh).toNat % 2 ^ 17 ≤ (d.rd manCount).toNat))

/-- Change MAN.COUNT. -/
def Device.manCountTo (d : Device) (n : Nat) : Device := (d.wr manCount (BitVec.ofNat 32 n)).manLevel

/-- The direction fields of an entry or message: azimuth and elevation, 0x8000 where there is none (R144). -/
def dirFields (dir : Option (Int × Int × Nat)) : Int × Int := match dir with
  | some (az, el, _) => (az, el)
  | none => (-32768, -32768)

/-- The bytes of a created entry (R151, R153); GEN is set as it is stored. -/
def newEntry (s : Sighting) : List Byte :=
  let flags := 1 + (if s.dir.isSome then 4 else 0) + (if 32 < s.epc.length then 8 else 0) + (if s.setB then 16 else 0)
  let (az, el) := dirFields s.dir
  padTo 64 ([BitVec.ofNat 8 flags, BitVec.ofNat 8 s.epc.length, 0, BitVec.ofNat 8 s.session]
    ++ le16 s.pc ++ le16 s.xpc1 ++ leBytes 8 s.tide ++ leBytes 8 s.tide ++ le16 1 ++ le16 s.rssi
    ++ leS16 az ++ leS16 el ++ storedEpc s.epc)

/-- The bytes of an entry sighted again (R153): the direction changes only when it is valid. -/
def seenEntry (e : List Byte) (s : Sighting) : List Byte :=
  let f := entryByte e 0
  let keep := f % 2 + f / 2 % 2 * 2 + f / 8 % 2 * 8
  let flags := keep + (if s.dir.isSome then 4 else f / 4 % 2 * 4) + (if s.setB then 16 else 0)
  let (az, el) := dirFields s.dir
  let angles := if s.dir.isSome then leS16 az ++ leS16 el else (e.drop 28).take 4
  [BitVec.ofNat 8 flags, e.getD 1 0, e.getD 2 0, BitVec.ofNat 8 s.session] ++ le16 s.pc ++ le16 s.xpc1
    ++ (e.drop 8).take 8 ++ leBytes 8 s.tide ++ le16 (min 65535 (entryLe e 24 2 + 1)) ++ le16 s.rssi ++ angles ++ e.drop 32

/-- The unpinned entry of the window with the oldest LAST, the first in probe order among equals (R153). -/
def Device.manVictim (d : Device) (w : List Nat) : Option Nat :=
  w.foldl (fun best i =>
    let e := d.entry i
    if entryPinned e then best
    else match best with
      | none => some i
      | some b => if entryLe e 16 8 < entryLe (d.entry b) 16 8 then some i else some b) none

/-- Look the tag up: update, create, evict or miss (R153). The entry's index where there is one, and whether it is new. -/
def Device.manSight (d : Device) (s : Sighting) : Option Nat × Bool × Device :=
  let w := d.manWindow s.epc
  match w.find? (fun i => entryMatches (d.entry i) s.epc) with
  | some i => (some i, false, d.putEntry i (seenEntry (d.entry i) s))
  | none =>
    match w.find? (fun i => !entryValid (d.entry i)) with
    | some i =>
      let d := ((d.putEntry i (newEntry s)).addWrap (fWord manNewCount) 1).manCountTo ((d.rd manCount).toNat + 1)
      (some i, true, d.irq 0x1A 1)
    | none =>
      match (if d.on fManCtrlEvict then d.manVictim w else none) with
      | some i =>
        let d := ((d.putEntry i (newEntry s)).addWrap (fWord manNewCount) 1).count (fHalf manEvictions)
        (some i, true, d.irq 0x1A 1)
      | none => (none, false, d.count (fHalf manMisses))

/-- TAG_SEEN (R144); `idx` is the manifest entry, none for MAN_MISS. -/
def Device.tagSeenMsg (d : Device) (s : Sighting) (idx : Option Nat) (new : Bool) : List Byte :=
  let flags := s.setB.toNat + 2 * new.toNat + 4 * s.dir.isSome.toNat + 8 * idx.isNone.toNat + 16 * s.restarted.toNat
  let (az, el) := dirFields s.dir
  let err := match s.dir with | some (_, _, e) => e | none => 255
  d.message 0x01 s.session s.cookie s.tide (le16 s.pc ++ le16 s.xpc1 ++ le16 s.xpc2
    ++ [BitVec.ofNat 8 s.epc.length, BitVec.ofNat 8 flags] ++ le16 s.rssiA ++ le16 s.rssiB ++ leS16 az ++ leS16 el
    ++ [BitVec.ofNat 8 err, BitVec.ofNat 8 s.carrier] ++ le16 (idx.getD 0xFFFF) ++ leBytes 4 s.freqKhz
    ++ List.replicate 8 0 ++ s.epc)

/-- Serve one sighting: the entry first, then its message (R145, R153). The session learns the entry of the tag it reads. -/
def Device.manServe (d : Device) (s : Sighting) : Device :=
  let (idx, new, d) := d.manSight s
  let d := d.modSes s.session (fun x => { x with acc := { x.acc with manIndex := idx } })
  d.emit s.session (d.tagSeenMsg s idx new)

/-- A singulation goes to the manifest engine, which serves sightings one at a time in the order of their decisions (R153, R157). -/
def Device.sighted (d : Device) (s : Sighting) : Device :=
  { d with man := { d.man with queue := d.man.queue ++ [.inl s] } }

/-- Put into their rings the messages at the front of the engine's queue: what they waited for has been served. -/
def Device.manFlush (d : Device) : Nat → Device
  | 0 => d
  | k + 1 => match d.man.queue with
    | .inr m :: t => ({ d with man := { d.man with queue := t } }.emit m.1 m.2).manFlush k
    | _ => d

/-- MANIFEST_SIGHTING: the engine serves the oldest sighting, unless a clear runs (R153, R157). -/
def manSighting (d : Device) : Device :=
  match d.man.clear, d.man.queue with
  | none, .inl s :: t =>
    let d := { d with man := { d.man with queue := t } }.manServe s
    d.manFlush d.man.queue.length
  | _, _ => d

/-- A singulation under NO_MANIFEST is reported only. -/
def Device.sightedOnly (d : Device) (s : Sighting) : Device :=
  (d.modSes s.session (fun x => { x with acc := { x.acc with manIndex := none } })).postMsg s.session (d.tagSeenMsg s none false)

/-- Remove an entry: cleared but for GEN, which increments (R154). -/
def Device.manRemove (d : Device) (i : Nat) : Device :=
  if entryValid (d.entry i) then
    (d.putEntry i (List.replicate 64 0)).manCountTo ((d.rd manCount).toNat - 1)
  else d

/-- MANIFEST_AGE_OUT of entry `i`: unpinned, with LAST more than AGE_OUT seconds in the past (R154). -/
def manAgeOut (i : Nat) (d : Device) : Device :=
  let e := d.entry i
  let a := d.get fManCtrlAgeOut
  if a != 0 && entryValid e && !entryPinned e && decide (entryLe e 16 8 + a * 1024000000 < d.stamp) && d.pageLive 0x1A then d.manRemove i
  else d

/-- The valid entries of the manifest, lowest index first. -/
def Device.manValid (d : Device) : List Nat :=
  (d.sram.filter (fun e => decide (0x0400000 ≤ e.1) && decide (e.1 < 0x0800000) && e.1 % 64 = 0 && e.2.getLsbD 0)).map
    (fun e => (e.1 - 0x0400000) / 64)

/-- Remove every valid entry, pinned ones only with `all` (R157). -/
def Device.manClearNow (d : Device) (all : Bool) : Device :=
  d.forAll d.manValid (fun d i => if all || !entryPinned (d.entry i) then d.manRemove i else d)

/-- MAN_CLEAR_DONE: the clear's removals are complete and what waited is served in order (R157). -/
def manClearDone (d : Device) : Device :=
  match d.man.clear with
  | none => d
  | some all =>
    let q := d.man.queue
    let d := (d.manClearNow all).put fManCmdStatBusy 0
    { d with man := {} }.forAll q (fun d e => match e with
      | .inl s => d.manServe s
      | .inr m => d.emit m.1 m.2)

/-- Set or clear an entry's PINNED bit; an entry that is not valid is left alone (R158). -/
def Device.manPin (d : Device) (i : Nat) (on : Bool) : Device :=
  let e := d.entry i
  if entryValid e && entryPinned e != on then
    d.putEntry i (e.set 0 (BitVec.ofNat 8 (if on then entryByte e 0 + 2 else entryByte e 0 - 2)))
  else d

/-- Start a clear (R157). -/
def Device.manClear (d : Device) (all : Bool) : Device :=
  { d.put fManCmdStatBusy 1 with man := { d.man with clear := some all } }

/-- Which writes of the MAN page are applied (R157, R158). -/
def manWriteOk (d : Device) (off : Nat) (v : Word) : Bool :=
  if off = 0x10 then decide (1 ≤ fManCtrlProbeMax.of v) && decide (fManCtrlProbeMax.of v ≤ 64)
  else if off = 0x11 then decide (1 ≤ bitsOf v 16 0) && decide (bitsOf v 16 0 ≤ 65536)
  else if off = 0x16 then
    d.man.clear.isNone && decide (1 ≤ fManCmdAction.of v) && decide (fManCmdAction.of v ≤ 5)
  else true

/-- The effect of an applied MAN write. -/
def manWritten (off : Nat) (v : Word) (d : Device) : Device :=
  if off = 0x11 then d.manLevel
  else if off = 0x16 then
    let i := fManCmdIndex.of v
    match fManCmdAction.of v with
    | 1 => d.manPin i true
    | 2 => d.manPin i false
    | 3 => d.manRemove i
    | 4 => d.manClear false
    | 5 => d.manClear true
    | _ => d
  else d

/-- A BLOCK reset of the MAN page clears every entry (R158); what waited for a clear is served by the reset engine. -/
def manBlockReset (d : Device) : Device :=
  let q := d.man.queue
  ({ d.manClearNow true with man := {} }.manCountTo 0).forAll q (fun d e => match e with
    | .inl s => d.sightedOnly s
    | .inr m => d.emit m.1 m.2)

end Sys2Proof.Machine
end

