-- ==== Sys2Proof/Machine/Fixed.lean ====
section
/-!
DEFINITION. Fixed-point arithmetic for the quantities the spec gives as real numbers: an integer stands for itself divided by 2^64. Results that the spec rounds are taken through `fxRound`, `fxCeil` and `fxFloor`, whose margin of 2^-30 lies far above the error of these functions (assumption 8).
-/
namespace Sys2Proof.Machine

/-- One. -/
def fxOne : Int := 2 ^ 64

/-- Half the width of the band round a rounding point in which the result is left open, or counts as on the point. -/
def fxEps : Int := 2 ^ 34

/-- A product. -/
def fxMul (a b : Int) : Int := a * b / fxOne

/-- A quotient; a zero divisor gives 0. -/
def fxDiv (a b : Int) : Int := if b = 0 then 0 else a * fxOne / b

/-- An integer. -/
def fxOf (n : Int) : Int := n * fxOne

/-- The nearest integer; a tie, which the spec leaves open, goes either way. -/
def fxRound (x : Int) : Int :=
  let q := x / fxOne
  let r := x % fxOne
  let half := fxOne / 2
  if (r - half).natAbs < fxEps.natAbs then q + (if Config.tie x then 1 else 0)
  else if half < r then q + 1 else q

/-- Rounded up; a value within the margin above an integer counts as that integer. -/
def fxCeil (x : Int) : Int := -((fxEps - x) / fxOne)

/-- Rounded down; a value within the margin below an integer counts as that integer. -/
def fxFloor (x : Int) : Int := (x + fxEps) / fxOne

/-- The square root of a natural number, rounded down, found bit by bit from bit `k - 1`. -/
def isqrtFrom (n : Nat) : Nat → Nat → Nat
  | 0, r => r
  | k + 1, r =>
    let t := r + 2 ^ k
    isqrtFrom n k (if t * t ≤ n then t else r)

/-- The square root of a natural number below 2^512, rounded down. -/
def isqrt (n : Nat) : Nat := isqrtFrom n 256 0

/-- The square root. -/
def fxSqrt (x : Int) : Int := (isqrt (x.toNat * 2 ^ 64) : Nat)

/-- 2π. -/
def fxTwoPi : Int := 115904311329233965478

/-- The sum of an alternating power series: `t` is the present term, `x2` the square of the argument, `k` the next divisor's lower factor. -/
def fxSeries : Nat → Int → Int → Nat → Int
  | 0, _, _, _ => 0
  | n + 1, t, x2, k => t + fxSeries n (-(fxMul t x2) / ((k * (k + 1) : Nat) : Int)) x2 (k + 2)

/-- cos and sin of an angle of at most an eighth of a turn, in turns. -/
def fxSmall (t : Int) : Int × Int :=
  let x := fxMul t fxTwoPi
  let x2 := fxMul x x
  (fxSeries 14 fxOne x2 1, fxSeries 14 x x2 2)

/-- cos and sin of an angle in turns. -/
def fxCis (t : Int) : Int × Int :=
  let q := (4 * t + fxOne / 2) / fxOne
  let (c, s) := fxSmall (t - q * fxOne / 4)
  match (q % 4).toNat with
  | 0 => (c, s)
  | 1 => (-s, c)
  | 2 => (-c, -s)
  | _ => (s, -c)

/-- The bits of log2 of a mantissa in 1 … 2, `n` of them. -/
def fxLogBits : Nat → Int → Int → Int
  | 0, _, _ => 0
  | n + 1, m, w =>
    let s := fxMul m m
    if 2 * fxOne ≤ s then w + fxLogBits n (s / 2) (w / 2) else fxLogBits n s (w / 2)

/-- log2 of a positive number. -/
def fxLog2 (x : Int) : Int :=
  let e := (Nat.log2 x.toNat : Int) - 64
  let m := if 0 ≤ e then x / 2 ^ e.toNat else x * 2 ^ (-e).toNat
  fxOf e + fxLogBits 56 m (fxOne / 2)

/-- 20 × log10, in units of 0.01. -/
def fxDb20 (x : Int) : Int := 100 * fxMul 111060465770467142645 (fxLog2 x)

/-- The sum of the exponential series. -/
def fxExpSeries : Nat → Int → Int → Nat → Int
  | 0, _, _, _ => 0
  | n + 1, t, x, k => t + fxExpSeries n (fxMul t x / (k : Int)) x (k + 1)

/-- 2 to the power of a number. -/
def fxExp2 (x : Int) : Int :=
  let e := x / fxOne
  let r := fxExpSeries 24 fxOne (fxMul (x % fxOne) 12786308645202655659) 1
  if 0 ≤ e then r * 2 ^ e.toNat else r / 2 ^ (-e).toNat

/-- 10 to the power of n / d. -/
def fxPow10 (n : Int) (d : Nat) : Int := fxExp2 (61278757397652712441 * n / (d : Int))

/-- A complex number. -/
structure Cx where
  re : Int
  im : Int
  deriving DecidableEq, Repr

/-- The sum. -/
def Cx.add (a b : Cx) : Cx := ⟨a.re + b.re, a.im + b.im⟩

/-- The difference. -/
def Cx.sub (a b : Cx) : Cx := ⟨a.re - b.re, a.im - b.im⟩

/-- The product. -/
def Cx.mul (a b : Cx) : Cx := ⟨fxMul a.re b.re - fxMul a.im b.im, fxMul a.re b.im + fxMul a.im b.re⟩

/-- The conjugate. -/
def Cx.conj (a : Cx) : Cx := ⟨a.re, -a.im⟩

/-- Scaled by a real number. -/
def Cx.scale (a : Cx) (r : Int) : Cx := ⟨fxMul a.re r, fxMul a.im r⟩

/-- The squared magnitude. -/
def Cx.norm2 (a : Cx) : Int := fxMul a.re a.re + fxMul a.im a.im

/-- The magnitude. -/
def Cx.abs (a : Cx) : Int := fxSqrt a.norm2

/-- exp(j · 2π · t). -/
def Cx.cis (t : Int) : Cx := let (c, s) := fxCis t; ⟨c, s⟩

/-- The sum of a list. -/
def Cx.sum (l : List Cx) : Cx := l.foldl Cx.add ⟨0, 0⟩

/-- The inner product Σ conj(a) b. -/
def cxDot (a b : List Cx) : Cx := Cx.sum (List.zipWith (fun x y => x.conj.mul y) a b)

/-- Take from `w` its component along the unit vector `e`. -/
def cxReject (w e : List Cx) : List Cx :=
  let c := cxDot e w
  List.zipWith (fun x y => x.sub (y.mul c)) w e

/-- The vector scaled to length 1; `none` where it is shorter than 2^-20 of `size`, which counts as linearly dependent. -/
def cxUnit (v : List Cx) (size : Int) : Option (List Cx) :=
  let n := fxSqrt (v.foldl (fun s x => s + x.norm2) 0)
  if n * 2 ^ 20 ≤ size then none
  else some (v.map (fun x => ⟨fxDiv x.re n, fxDiv x.im n⟩))

/-- An orthonormal basis of the span of vectors, by the Gram–Schmidt steps; a dependent vector adds nothing. -/
def cxBasis (vs : List (List Cx)) : List (List Cx) :=
  vs.foldl (fun b v =>
    let size := fxSqrt (v.foldl (fun s x => s + x.norm2) 0)
    let r := b.foldl cxReject (b.foldl cxReject v)
    match cxUnit r size with
    | some e => b ++ [e]
    | none => b) []

end Sys2Proof.Machine
end

