-- ==== Sys2Proof/Machine/Beam.lean ====
section
/-!
DEFINITION. Array geometry, weight sets, steering, nulls, isolation and overlap groups (R160 … R179).
-/
namespace Sys2Proof.Machine

/-- What the beamformer holds of stream `n`. -/
def Device.stream (d : Device) (n : Nat) : StreamSt := d.bf.streams.getD n {}

/-- Change what the beamformer holds of stream `n`. -/
def Device.modStream (d : Device) (n : Nat) (f : StreamSt → StreamSt) : Device :=
  { d with bf := { d.bf with streams := d.bf.streams.setIfInBounds n (f (d.stream n)) } }

/-- The weight a reset gives: 0.0625 on a transmit stream, 0.5 on a receive set, phase 0 (R193). -/
def resetWeight (k : Nat) : Word := if k < 1024 then 2048 else 16384

/-- The live weight of a set on a path. -/
def Device.weight (d : Device) (set p : Nat) : Word := storeGet resetWeight d.bf.live (set * 64 + p)

/-- Set the live weight of a set on a path. -/
def Device.setWeight (d : Device) (set p : Nat) (w : Word) : Device :=
  { d with bf := { d.bf with live := storePut resetWeight d.bf.live (set * 64 + p) w } }

/-- The 64 live weights of a set. -/
def Device.weights (d : Device) (set : Nat) : List Word := (List.range 64).map (d.weight set)

/-- Set the 64 live weights of a set. -/
def Device.setWeights (d : Device) (set : Nat) (ws : List Word) : Device :=
  d.forAll (List.range 64) (fun d p => d.setWeight set p (ws.getD p 0))

/-- I of a weight word (R162). -/
def wI (w : Word) : Int := (w.extractLsb' 0 16).toInt

/-- Q of a weight word (R162). -/
def wQ (w : Word) : Int := (w.extractLsb' 16 16).toInt

/-- A weight word from its parts. -/
def mkWeight (i q : Int) : Word := BitVec.ofNat 32 (twosOf 16 i + twosOf 16 q * 65536)

/-- Does a weight keep its magnitude bound (R162)? -/
def weightOk (w : Word) : Bool := decide (wI w * wI w + wQ w * wQ w ≤ 2 ^ 30)

/-- The magnitude in codes, rounded up (R180). -/
def magUp (w : Word) : Nat :=
  let n := (wI w * wI w + wQ w * wQ w).toNat
  let r := isqrt n
  if r * r = n then r else r + 1

/-- The magnitude in codes, as a fixed-point number. -/
def magFx (w : Word) : Int := fxSqrt (fxOf (wI w * wI w + wQ w * wQ w))

/-- The sum of the magnitudes of a set. -/
def magSum (ws : List Word) : Int := ws.foldl (fun s w => s + magFx w) 0

/-- Is path `p` muted for the beamformer (R189)? -/
def Device.mutedPath (d : Device) (p : Nat) : Bool :=
  if p < 32 then (d.rd bfMutedLo).getLsbD p else (d.rd bfMutedHi).getLsbD (p - 32)

/-- The paths in service for weights. -/
def Device.livePaths (d : Device) : List Nat := (List.range 64).filter (fun p => !d.mutedPath p)

/-- Is path `p` in polarisation half B (R160)? -/
def Device.halfB (d : Device) (p : Nat) : Bool :=
  if p < 32 then (d.rd bfPolLo).getLsbD p else (d.rd bfPolHi).getLsbD (p - 32)

/-- A direction's components u_x and u_y (R161); angles in 0.01°. -/
def dirXY (az el : Int) : Int × Int :=
  let (ca, sa) := fxCis (fxOne * az / 36000)
  let (ce, se) := fxCis (fxOne * el / 36000)
  let _ := ca
  (fxMul sa ce, se)

/-- The phase term of path `p` towards a direction, in turns (R161). -/
def Device.phase (d : Device) (hz p : Nat) (u : Int × Int) : Int :=
  (hz : Int) * (d.getS (fBfPosX p) * u.1 + d.getS (fBfPosY p) * u.2) / (10000 * 299792458)

/-- The response vector of the array towards a direction, 0 on muted paths. -/
def Device.array (d : Device) (hz : Nat) (u : Int × Int) : List Cx :=
  (List.range 64).map (fun p => if d.mutedPath p then ⟨0, 0⟩ else Cx.cis (d.phase hz p u))

/-- A complex number in codes, rounded to the nearest weight word (R169). -/
def roundWeight (c : Cx) : Word := mkWeight (fxRound c.re) (fxRound c.im)

/-- Steering weights towards a direction with amplitude `a` in codes (R169). -/
def Device.steerTo (d : Device) (hz : Nat) (a az el : Int) : List Word :=
  (d.array hz (dirXY az el)).map (fun v => roundWeight ⟨v.re * a, -(v.im * a)⟩)

/-- Does path `p` contribute to the regulatory figures (R238): TXPWR_NOW.LEVEL reads a level and the drive is not held at zero? -/
def Device.contributes (d : Device) (p : Nat) : Bool :=
  d.get (fPathTxpwrNowLevel p) != 0x80 && !d.on (fPathTxpwrNowZero p) && !d.mutedPath p

/-- The square root of a level in mW: levels are in 0.25 dBm. -/
def levelAmp (level : Int) : Int := fxPow10 level 80

/-- The amplitude sqrt(P_p) of a path in √mW at the level in effect; 0 where it does not contribute (R176, R180). -/
def Device.pathAmp (d : Device) (p : Nat) : Int :=
  if d.contributes p then levelAmp (d.getS (fPathTxpwrNowLevel p)) else 0

/-- The frequency FREQ_c or NEXT_c names (R194). -/
def freqWordHz (w : Word) : Nat :=
  (860000000 + 100000 * (bitsOf w 9 0 : Int) + signedOf 18 (bitsOf w 29 12)).toNat

/-- What the device holds of carrier `c` beside its registers. -/
def Device.car (d : Device) (c : Nat) : CarSt := d.cars.getD c {}

/-- Change what the device holds of carrier `c`. -/
def Device.modCar (d : Device) (c : Nat) (f : CarSt → CarSt) : Device :=
  { d with cars := d.cars.setIfInBounds c (f (d.car c)) }

/-- STAT_c.STATE (R197). -/
def Device.carState (d : Device) (c : Nat) : Nat := d.get (fCarStatState c)

/-- The frequency steering uses for a carrier (R565). -/
def Device.carHz (d : Device) (c : Nat) : Nat := if d.carState c = 0 then freqWordHz (d.rd (carFreq c)) else (d.car c).hz

/-- RXCFG.CARRIER of a session. -/
def Device.sesCar (d : Device) (n : Nat) : Nat := d.get (fSesRxcfgCarrier n)

/-- The sessions whose streams are assigned to carrier `c`. -/
def Device.onCarrier (d : Device) (c : Nat) : List Nat :=
  (List.range 16).filter (fun n => (d.stream n).assigned && d.sesCar n = c)

/-- The five zone points of a direction: the centre and the four at ± ZONE_HALF (R170, R176). -/
def Device.zonePoints (d : Device) (az el : Int) : List (Int × Int) :=
  let h : Int := 100 * (d.get fBfCtrlZoneHalf : Int)
  [(az, el), (az - h, el), (az + h, el), (az, el - h), (az, el + h)]

/-- The constraint directions for stream `n` steered to (az, el): zones of the carrier's other streams that lie far enough from its own (R170). -/
def Device.constraints (d : Device) (n : Nat) (az el : Int) : List (Int × Int) :=
  let c := d.sesCar n
  let hz := d.carHz c
  let own := d.array hz (dirXY az el)
  let live := d.livePaths.length
  ((d.onCarrier c).filter (· != n)).flatMap (fun t =>
    let s := d.stream t
    let other := d.array hz (dirXY s.az s.el)
    if (cxDot own other).abs * 2 ≤ fxOf live + fxEps then
      if d.on fBfCtrlNullWide then d.zonePoints s.az s.el else [(s.az, s.el)]
    else [])

/-- Transmit weights of stream `n` towards a zone, with nulls (R170), and whether nulls were applied. -/
def Device.txSteer (d : Device) (n : Nat) (az el : Int) : List Word × Bool :=
  let hz := d.carHz (d.sesCar n)
  let amp : Int := d.get (fBfStreamAmp n)
  let cs := d.constraints n az el
  if cs.isEmpty then (d.steerTo hz amp az el, false)
  else
    let w := (d.array hz (dirXY az el)).map Cx.conj
    let rows := cs.map (fun c => (List.range 64).zipWith
      (fun p v => (v.scale (if d.mutedPath p then 0 else d.pathAmp p)).conj) (d.array hz (dirXY c.1 c.2)))
    let r := (cxBasis rows).foldl cxReject w
    let top := r.foldl (fun m x => max m x.abs) 0
    (r.map (fun x => if top = 0 then 0 else roundWeight ⟨fxDiv (x.re * amp) top, fxDiv (x.im * amp) top⟩), true)

/-- Both angles clamped to ±90°. -/
def clampAngle (a : Int) : Int := clampInt (-9000) 9000 a

/-- Receive weights of a set (B with `b`) as its form asks (R172, R193). -/
def Device.rxSteer (d : Device) (n : Nat) (b : Bool) (form : Steer) : List Word :=
  let hz := d.carHz (d.sesCar n)
  match form with
  | .table => d.weights ((if b then 32 else 16) + n)
  | .boresight => (List.range 64).map (fun p => if d.mutedPath p then 0 else 16384)
  | .toward az el =>
    if d.on fBfCtrlPairMode then
      let s : Int := 25 * (d.get fBfCtrlSquint : Int)
      d.steerTo hz 16384 (clampAngle (if b then az + s else az - s)) el
    else
      ((List.range 64).zip (d.steerTo hz 16384 az el)).map (fun e => if d.halfB e.1 = b then e.2 else 0)

/-- Write a receive set in effect. -/
def Device.putRx (d : Device) (n : Nat) (b : Bool) (form : Steer) (ws : List Word) : Device :=
  (d.setWeights ((if b then 32 else 16) + n) ws).modStream n (fun s =>
    if b then { s with setB := form, lostB := 0 } else { s with setA := form, lostA := 0 })

/-- Steer the receive sets named by WHICH (1 A, 2 B, 3 both) (R172). -/
def Device.steerRx (d : Device) (n which : Nat) (az el : Int) : Device :=
  let f := Steer.toward az el
  let d := d.when (which != 2) (fun d => d.putRx n false f (d.rxSteer n false f))
  d.when (which != 1) (fun d => d.putRx n true f (d.rxSteer n true f))

/-- Recompute a session's steered receive sets for the present frequency and paths (R173, R251). -/
def Device.resteerRx (d : Device) (n : Nat) : Device :=
  let go (d : Device) (b : Bool) (f : Steer) : Device := if f = .table then d else d.putRx n b f (d.rxSteer n b f)
  go (go d false (d.stream n).setA) true (d.stream n).setB

/-- The response of a stream's weights towards a direction (R176). -/
def Device.response (d : Device) (hz : Nat) (ws : List Word) (u : Int × Int) : Int :=
  (Cx.sum (((List.range 64).zip ws).map (fun e =>
    let a := d.pathAmp e.1
    if a = 0 then ⟨0, 0⟩
    else (Cx.mul ⟨wI e.2 * a, wQ e.2 * a⟩ (Cx.cis (d.phase hz e.1 u))).scale (fxOne / 32768)))).abs

/-- The isolation of stream `s` from `t` at one zone point, in 0.25 dB rounded down, 0 … 255 (R176). -/
def isoPoint (fs ft : Int) : Nat :=
  if fs ≤ fxEps then 0 else if ft ≤ fxEps then 255
  else (clampInt 0 255 (fxFloor (fxDb20 (fxDiv fs ft) / 25))).toNat

/-- I(s←t) over the zone points of `s`. -/
def Device.isoFrom (d : Device) (hz : Nat) (zone : Int × Int) (ws wt : List Word) : Nat :=
  (d.zonePoints zone.1 zone.2).foldl (fun m z =>
    let u := dirXY z.1 z.2
    min m (isoPoint (d.response hz ws u) (d.response hz wt u))) 255

/-- ISO of two streams with given weights and zones (R176). -/
def Device.isoOf (d : Device) (hz : Nat) (zs : Int × Int) (ws : List Word) (zt : Int × Int) (wt : List Word) : Nat :=
  min (d.isoFrom hz zs ws wt) (d.isoFrom hz zt wt ws)

/-- ISO of two sessions from the weights in effect. -/
def Device.iso (d : Device) (s t : Nat) : Nat :=
  d.isoOf (d.carHz (d.sesCar s)) ((d.stream s).az, (d.stream s).el) (d.weights s) ((d.stream t).az, (d.stream t).el) (d.weights t)

/-- Two sessions are linked: one carrier, ISO below ISO_MIN (R177). -/
def Device.linked (d : Device) (iso : Nat → Nat → Nat) (s t : Nat) : Bool :=
  s != t && (d.stream s).assigned && (d.stream t).assigned && d.sesCar s = d.sesCar t && decide (iso s t < d.get fSchedCtrlIsoMin)

/-- Spread the lowest session number along links, `k` rounds. -/
def spread (link : Nat → Nat → Bool) : Nat → List Nat → List Nat
  | 0, g => g
  | k + 1, g =>
    spread link k ((List.range 16).map (fun s => (List.range 16).foldl (fun m t => if link s t then min m (g.getD t t) else m) (g.getD s s)))

/-- The group of each session: the lowest number joined to it by chains of links (R141, R177). -/
def groupsOf (link : Nat → Nat → Bool) : List Nat := spread link 16 (List.range 16)

/-- SCHED.GROUP of a session. -/
def Device.group (d : Device) (n : Nat) : Nat :=
  if n < 8 then d.get ⟨schedGroupLo, 4 * n + 3, 4 * n⟩ else d.get ⟨schedGroupHi, 4 * (n - 8) + 3, 4 * (n - 8)⟩

/-- Set SCHED.GROUP of a session. -/
def Device.setGroup (d : Device) (n g : Nat) : Device :=
  if n < 8 then d.put ⟨schedGroupLo, 4 * n + 3, 4 * n⟩ g else d.put ⟨schedGroupHi, 4 * (n - 8) + 3, 4 * (n - 8)⟩ g

/-- Does a session hold the turn (R141)? -/
def Device.hasTurn (d : Device) (n : Nat) : Bool := (d.rd schedTurn).getLsbD n

/-- Give or take the turn. -/
def Device.setTurn (d : Device) (n : Nat) (b : Bool) : Device := d.putB ⟨schedTurn, n, n⟩ b

/-- Is a session alone in its group? -/
def aloneIn (g : List Nat) (n : Nat) : Bool := (List.range 16).all (fun m => m = n || g.getD m m != g.getD n n)

/-- BF.ISO_n from the isolation figures (R177). -/
def Device.showIso (d : Device) (iso : Nat → Nat → Nat) (n : Nat) : Device :=
  let others := if (d.stream n).assigned then (d.onCarrier (d.sesCar n)).filter (· != n) else []
  match others with
  | [] => d.wr (bfIso n) 0x10FF
  | t :: ts =>
    let (w, i) := ts.foldl (fun b u => if iso n u < b.2 then (u, iso n u) else b) (t, iso n t)
    ((d.wr (bfIso n) 0).put (fBfIsoIso n) i).put (fBfIsoWorst n) w

/-- Does a descriptor need the air (R140): INVENTORY, ACCESS, TEMPLATE or SURVEY? -/
def Desc.air (x : Desc) : Bool := [0x10, 0x11, 0x12, 0x14].contains (x.byte 0)

/-- Has the session a running or waiting descriptor that needs the air? An INVENTORY that waits for a trigger does not (R120). -/
def Device.needsAir (d : Device) (n : Nat) : Bool :=
  let s := d.sess n
  (match s.run with
    | some x => x.air && !(d.sesState n = 3 && !d.on (fSesTrigPending n))
    | none => false) || s.descs.any Desc.air

/-- Is a session alone in its overlap group? -/
def Device.alone (d : Device) (n : Nat) : Bool := aloneIn ((List.range 16).map d.group) n

/-- The candidates for a group's turn (R140). -/
def Device.turnClaims (d : Device) (n : Nat) : List Nat :=
  (List.range 16).filter (fun m => d.group m = d.group n && d.needsAir m && decide (2 ≤ d.sesState m) && decide (d.sesState m ≤ 8))

/-- The aging of a time since a tide value (R136). -/
def Device.aging (d : Device) (since : Nat) : Nat := (d.stamp - since) / (256000 * max 1 (d.get fSchedCtrlAgeStep))

/-- A session's claim to the turn: its best PRIO aged from the end of its last turn, at most 7 (R140). -/
def Device.claim (d : Device) (m : Nat) : Nat :=
  let s := d.sess m
  let ds := (match s.run with | some x => [x] | none => []) ++ s.descs
  let best := (ds.filter Desc.air).foldl (fun b x => max b (x.byte 1 % 8)) 0
  min 7 (best + d.aging s.turnEnd)

/-- The session that gets the turn: the highest claim, the longest waiting among equals, then the lower number (R140). -/
def Device.nextTurn (d : Device) (cands : List Nat) : Option Nat :=
  cands.foldl (fun b m => match b with
    | none => some m
    | some k => if d.claim k < d.claim m || (d.claim k = d.claim m && decide ((d.sess m).turnEnd < (d.sess k).turnEnd)) then some m else some k) none

/-- The turn of session `n`'s group is free, and the best claim takes it (R140). -/
def Device.turnPass (d : Device) (n : Nat) : Device :=
  match d.nextTurn (d.turnClaims n) with
  | none => d
  | some m => ((d.setTurn m true).modSes m (fun s => { s with turnSlots := 0 })).holdEnd m 1

/-- A session that stops hands its group's turn on, and then counts as alone. -/
def Device.turnLeave (d : Device) (n : Nat) : Device :=
  (if d.hasTurn n && !d.alone n then (d.setTurn n false).turnPass n else d).setTurn n true

/-- A session that has joined a group whose other members hold a turn waits for its own; one that is alone again holds its turn at once (R178). -/
def Device.regroup (d : Device) (old new : List Nat) (n : Nat) : Device :=
  if aloneIn new n then (d.setTurn n true).holdEnd n 1
  else if !aloneIn old n then d
  else
    let others := (List.range 16).filter (fun m => m != n && new.getD m m = new.getD n n)
    if others.any (fun m => d.hasTurn m && (!aloneIn old m || decide (m < n))) then (d.setTurn n false).when (d.needsAir n) (fun d => d.holdAsk n 1) else d

/-- GROUP_RECOMPUTE: isolation and overlap groups from the weights in effect (R178); the turn of a group that a split has left without one goes to the best claim (R140). -/
def groupRecompute (d : Device) : Device :=
  let tab := (List.range 16).map (fun s => (List.range 16).map (fun t =>
    if s != t && (d.stream s).assigned && (d.stream t).assigned && d.sesCar s = d.sesCar t then d.iso s t else 255))
  let iso (s t : Nat) : Nat := (tab.getD s []).getD t 255
  let old := (List.range 16).map d.group
  let new := groupsOf (d.linked iso)
  let d := d.forAll (List.range 16) (fun d n => (d.showIso iso n).setGroup n (new.getD n n))
  let d := d.forAll (List.range 16) (fun d n => d.regroup old new n)
  let d := d.forAll (List.range 16) (fun d n => d.modStream n (fun s => { s with fresh := false }))
  let d := d.forAll (List.range 16) (fun d n =>
    let g := (List.range 16).filter (fun m => new.getD m m = n)
    if 2 ≤ g.length ∧ g.all (fun m => !d.hasTurn m) then d.turnPass n else d)
  { d with bf := { d.bf with groupsDue := false } }

/-- Something the groups depend on has changed (R178). -/
def Device.groupsStale (d : Device) : Device := { d with bf := { d.bf with groupsDue := true } }

end Sys2Proof.Machine
end

