-- ==== Sys2Proof/Machine/Regl.lean ====
section
/-!
DEFINITION. The regulatory profile, the EIRP figures, and admission, clipping and refusal of streams and path levels (R163, R180, R181, R220 … R232, R238).
-/
namespace Sys2Proof.Machine

/-! ### The profile record -/

/-- A built-in profile's part (R222): channels in Hz, EIRP limit, carriers, FLAGS, DWELL_MAX, occupancy window and limit, mask. -/
structure BuiltIn where
  hz : List Nat
  eirp : Int
  cars : Nat
  flags : Nat
  dwell : Nat
  window : Nat
  limit : Nat
  mask : List MaskPoint

/-- The built-in profiles (R222). -/
def builtIn : Nat → BuiltIn
  | 1 => ⟨[865700000, 866300000, 866900000, 867500000], 3515, 4, 1, 0, 0, 0, [⟨300, 30, 1⟩, ⟨500, 50, 1⟩, ⟨1000, 60, 2⟩]⟩
  | 2 => ⟨[916300000, 917500000, 918700000, 919900000], 3815, 4, 1, 0, 0, 0, [⟨300, 30, 1⟩, ⟨500, 50, 1⟩, ⟨1000, 60, 2⟩]⟩
  | _ => ⟨(List.range 50).map (fun k => 902750000 + 500000 * k), 3600, 1, 13, 400, 200, 400,
      [⟨125, 20, 0⟩, ⟨500, 40, 1⟩, ⟨1000, 55, 2⟩]⟩

/-- A limit field that names no limit of its own. -/
def noLimit : Nat := 0x7FFF

/-- The profile a record of 1,024 bytes gives; none where R221 finds it invalid. -/
def parseProfile (r : List Byte) : Option Profile :=
  let b (k : Nat) : Nat := (r.getD k 0).toNat
  let u (k : Nat) : Nat := b k + 256 * b (k + 1)
  let s (k : Nat) : Int := signedOf 16 (u k)
  let zero (k n : Nat) : Bool := (r.drop k).take n |>.all (· == 0)
  let base := b 3
  let points := (List.range (b 26)).map (fun i => (⟨u (32 + 4 * i), b (34 + 4 * i), b (35 + 4 * i)⟩ : MaskPoint))
  let chans := (List.range (b 11)).map (fun i => (leNat ((r.drop (64 + 8 * i)).take 4), u (68 + 8 * i), u (70 + 8 * i)))
  let pathLimit := signedOf 8 (b 8)
  let stream : Option Int := if u 24 = noLimit then none else some (s 24)
  let common := u 0 = 0x5250 && b 2 = 1 && decide (base ≤ 3) && leNat ((r.drop 1020).take 4) = crc32 (r.take 1020)
    && zero 27 5 && zero 576 444 && decide (s 4 ≤ 4000) && decide (pathLimit ≤ 48)
    && decide (1 ≤ b 10) && decide (b 10 ≤ 4) && (stream.getD 0 ≤ 4000)
  let custom := decide (b 9 < 16) && decide (1 ≤ b 11) && decide (b 11 ≤ 64) && decide (b 26 ≤ 8)
    && points.all (fun m => decide (m.rbw ≤ 3))
    && chans.all (fun c => decide (860000000 ≤ c.1) && decide (c.1 ≤ 960000000) && c.2.2 = 0
        && (c.2.1 = noLimit || decide (signedOf 16 c.2.1 ≤ 4000)))
  if !common then none
  else if base = 0 then
    if custom then
      some { base := 0, eirp := s 4, gain := s 6, pathLimit := pathLimit, flags := b 9, maxCarriers := b 10,
             dwellMax := u 12, occWindow := u 14, occLimit := u 16, lbtTime := u 18, lbtThr := s 20, lbtRetry := u 22,
             stream := stream, mask := points,
             channels := chans.map (fun c => ⟨c.1, if c.2.1 = noLimit then s 4 else signedOf 16 c.2.1⟩) }
    else none
  else
    let x := builtIn base
    let eirp := min (s 4) x.eirp
    some { base := base, eirp := eirp, gain := s 6, pathLimit := pathLimit, flags := x.flags, maxCarriers := min (b 10) x.cars,
           dwellMax := x.dwell, occWindow := x.window, occLimit := x.limit, lbtTime := 0, lbtThr := 0, lbtRetry := 0,
           stream := stream, mask := x.mask, channels := x.hz.map (fun h => ⟨h, eirp⟩) }

/-- The profile record in option memory (R220). -/
def Device.profileRecord (d : Device) : List Byte := readBytes onesByte d.opt 0x1000 1024

/-- FLAGS.COHERENT, LBT, OCCUPANCY and HOP. -/
def Profile.coherent (p : Profile) : Bool := p.flags.testBit 0
def Profile.lbt (p : Profile) : Bool := p.flags.testBit 1
def Profile.occupancy (p : Profile) : Bool := p.flags.testBit 2
def Profile.hop (p : Profile) : Bool := p.flags.testBit 3

/-- REGL.STAT and LIMIT show the profile in effect (R232). -/
def Device.showProfile (d : Device) : Device :=
  match d.profile with
  | none => (d.wr reglStat 0).wr reglLimit 0
  | some p =>
    let d := (((((d.wr reglStat 0).put fReglStatState (if d.sec.sealed then 2 else 1)).put fReglStatBase p.base).put
      fReglStatChannels p.channels.length).put fReglStatMaxCarriers p.maxCarriers).put fReglStatFlags p.flags
    (d.putS fReglLimitEirpLimit p.eirp).putS fReglLimitGain p.gain

/-! ### Figures -/

/-- What path `p` holds beside its page. -/
def Device.path (d : Device) (p : Nat) : PathSt := d.paths.getD p {}

/-- Change what path `p` holds beside its page. -/
def Device.modPath (d : Device) (p : Nat) (f : PathSt → PathSt) : Device :=
  { d with paths := d.paths.setIfInBounds p (f (d.path p)) }

/-- The level in effect in 0.25 dBm, −81 while the drive is held at zero. -/
def Device.levelNow (d : Device) (p : Nat) : Int :=
  if d.on (fPathTxpwrNowZero p) then -81 else d.getS (fPathTxpwrNowLevel p)

/-- The amplitude of a path in the figures: the higher of the level in effect and the one that waits (R238); `over` supposes another level on one path. -/
def Device.figAmp (d : Device) (instead : Option (Nat × Int)) (p : Nat) : Int :=
  let amp (l : Int) : Int := if l < -80 then 0 else levelAmp l
  let own : Int :=
    if d.get (fPathTxpwrNowLevel p) = 0x80 || d.mutedPath p then 0
    else amp (match (d.path p).pend with | some l => max (d.levelNow p) l | none => d.levelNow p)
  match instead with
  | some (q, l) => if q = p then amp l else own
  | none => own

/-- The amplitudes of the 64 paths in the figures. -/
def Device.figAmps (d : Device) (instead : Option (Nat × Int)) : List Int := (List.range 64).map (d.figAmp instead)

/-- The larger of two weights by magnitude. -/
def bigger (a b : Word) : Word := if wI a * wI a + wQ a * wQ a < wI b * wI b + wQ b * wQ b then b else a

/-- The weights of an admitted stream that the figures use: while admitted weights wait, the larger of old and new on each path, where the old ones were admitted (R181). -/
def Device.figWeights (d : Device) (n : Nat) : List Word :=
  match (d.stream n).pend with
  | none => d.weights n
  | some t => if t.old then List.zipWith bigger (d.weights n) t.w else t.w

/-- The streams admitted on carrier `c`. -/
def Device.admittedOn (d : Device) (c : Nat) : List Nat := (d.onCarrier c).filter (fun n => (d.stream n).admitted)

/-- The amplitude sum A_s in √mW (R180). -/
def ampSum (amps : List Int) (ws : List Word) : Int :=
  (List.zipWith (fun a w => a * (magUp w : Int)) amps ws).foldl (· + ·) 0 / 32768

/-- A figure in 0.01 dB from an amplitude: rounded up; none for nothing radiated. -/
def figure (a : Int) (gain : Int) : Option Int := if a ≤ 0 then none else some (fxCeil (fxDb20 a + fxOf gain))

/-- The carrier figure the profile selects, from the amplitude sums of its streams (R180). -/
def Profile.carrierFigure (p : Profile) (sums : List Int) : Option Int :=
  if p.coherent then figure (sums.foldl (· + ·) 0) p.gain
  else figure (fxSqrt (sums.foldl (fun s a => s + fxMul a a) 0)) p.gain

/-- By how much coherent-group membership lowers the limits of steps 4 and 5, in 0.01 dB (R349). -/
def Device.groupDrop (d : Device) : Int :=
  if d.get fKlGroupId = 0 ∨ d.get fKlGroupSize = 0 then 0 else fxCeil (fxDb20 (fxOf (d.get fKlGroupSize)))

/-- The channel limit of step 5 of R228 for carrier `c`: that of its channel, or the lowest while it is OFF (R565). -/
def Device.channelLimit (d : Device) (p : Profile) (c : Nat) : Int :=
  let low := p.channels.foldl (fun m x => min m x.limit) 4000
  if d.carState c = 0 then low
  else match p.channels.find? (fun x => x.hz = (d.car c).hz) with
    | some x => x.limit
    | none => low

/-- Does a figure keep a limit? -/
def within (f : Option Int) (limit : Int) : Bool := match f with
  | none => true
  | some x => decide (x ≤ limit)

/-- Steps 3 to 5 of R228 for carrier `c` with the given path amplitudes and stream weights: 0, or the reason of the first that fails (R231). -/
def Device.limitReason (d : Device) (p : Profile) (c : Nat) (amps : List Int) (ws : List (List Word)) : Nat :=
  let conducted := (List.range 64).all (fun q =>
    within (figure (amps.getD q 0 * ((ws.foldl (fun s w => s + magUp (w.getD q 0)) 0 : Nat) : Int) / 32768) 0) (25 * p.pathLimit))
  let sums := ws.map (ampSum amps)
  let drop := d.groupDrop
  if !conducted then 8
  else if !(match p.stream with
    | none => true
    | some l => sums.all (fun a => within (figure a p.gain) (l - drop))) then 9
  else if !within (p.carrierFigure sums) (d.channelLimit p c - drop) then 10
  else 0

/-! ### Records of clips and refusals -/

/-- Write REGL.LAST (R232). -/
def Device.reglRecord (d : Device) (reason n c : Nat) (clip noStream : Bool) (factor : Nat) : Device :=
  (((((d.put fReglLastReason reason).put fReglLastStream n).put fReglLastCarrier c).putB fReglLastClipped clip).putB
    fReglLastNoStream noStream).put fReglLastFactor factor

/-- A refusal: LAST, the count and REFUSE (R227, R228). -/
def Device.reglRefuse (d : Device) (reason n c : Nat) (noStream : Bool) : Device :=
  ((d.reglRecord reason n c false noStream 0).count ⟨reglCounts, 31, 16⟩).irq 0x12 1

/-- A clip: LAST, the count and CLIP (R228, R229). -/
def Device.reglClip (d : Device) (reason n c : Nat) (noStream : Bool) (factor : Nat) : Device :=
  ((d.reglRecord reason n c true noStream factor).count ⟨reglCounts, 15, 0⟩).irq 0x12 0

/-! ### Path levels (R229) -/

/-- The reach of the working driver cells in 0.25 dBm (R294). -/
def cellReach (cells : Nat) : Int :=
  if cells = 0 then -81 else fxFloor (fxOf 48 + fxDb20 (fxOf cells / 20) / 25)

/-- Why a level on path `p` breaks a limit: the reason and the carrier, the lowest-numbered first; none where it qualifies. -/
def Device.levelWhy (d : Device) (p : Nat) (l : Int) : Option (Nat × Nat) :=
  if cellReach (d.path p).cells < l then some (8, 0)
  else match d.profile with
    | none => none
    | some pr =>
      if pr.pathLimit < l then some (8, 0)
      else
        let amps := d.figAmps (some (p, l))
        (List.range 4).findSome? (fun c =>
          let on := d.admittedOn c
          if on.isEmpty then none
          else match d.limitReason pr c amps (on.map d.figWeights) with
            | 0 => none
            | r => some (r, c))

/-- The highest qualifying level at or below `l`, −81 where there is none down to −20.00 dBm, with the limit that stopped the step above it. -/
def Device.levelSearch (d : Device) (p : Nat) : Nat → Int → Option (Nat × Nat) → Int × Option (Nat × Nat)
  | 0, _, why => (-81, why)
  | k + 1, l, why =>
    if l < -80 then (-81, why)
    else match d.levelWhy p l with
      | none => (l, why)
      | some w => d.levelSearch p k (l - 1) (some w)

/-- FACTOR of a clipped level: the amplitude ratio in Q1.15, 0 for a drive held at zero. -/
def levelFactor (new want : Int) : Nat :=
  if new < -80 then 0 else (clampInt 0 65535 (fxRound (fxPow10 (new - want) 80 * 32768))).toNat

/-- The level in effect for what TXPWR.LEVEL asks (R229): a clip enters the field and is recorded. -/
def Device.levelTake (d : Device) (p : Nat) : Int × Device :=
  let want := d.getS (fPathTxpwrLevel p)
  match d.levelSearch p 130 want none with
  | (l, some (r, c)) =>
    (l, (d.putS (fPathTxpwrLevel p) (max l (-80))).reglClip r 0 c true (levelFactor l want))
  | (l, none) => (l, d)

/-- Is the change of the same kind and target (R272)? -/
def Change.same : Change → Change → Bool
  | .rxCal a _, .rxCal b _ => a = b
  | .txCal a _, .txCal b _ => a = b
  | .dpdSet a _ _, .dpdSet b _ _ => a = b
  | .table _ _, .table _ _ => true
  | .invalidate, .invalidate => true
  | .renorm, .renorm => true
  | .join a, .join b => a = b
  | .drain a, .drain b => a = b
  | .level a, .level b => a = b
  | .group _ _, .group _ _ => true
  | .groupOut, .groupOut => true
  | .dpdEn a, .dpdEn b => a = b
  | .backoff a, .backoff b => a = b
  | .canc a c _ _, .canc b e _ _ => a = b && c = e
  | .gain a, .gain b => a = b
  | .cancEn a, .cancEn b => a = b
  | .lost a, .lost b => a = b
  | _, _ => false

/-- Does the change count towards MAX_WAIT (R273)? -/
def Change.pending : Change → Bool
  | .canc _ _ _ big => big
  | .gain _ => false
  | .cancEn _ => false
  | .lost _ => false
  | _ => true

/-- CAL.STAT.PENDING. -/
def Device.showWaits (d : Device) : Device := d.putB fCalStatPending (d.cal.waits.any (fun w => w.change.pending))

/-- Queue a change for its boundary; it replaces one of its kind and target that waits and keeps that one's age (R272). -/
def Device.await (d : Device) (c : Change) : Device :=
  let ws := d.cal.waits
  let new := if ws.any (fun w => w.change.same c) then ws.map (fun w => if w.change.same c then { w with change := c } else w)
    else ws ++ [{ change := c, since := d.stamp }]
  { d with cal := { d.cal with waits := new } }.showWaits

/-- Drop the waiting changes that satisfy `f`. -/
def Device.dropWaits (d : Device) (f : Change → Bool) : Device :=
  { d with cal := { d.cal with waits := d.cal.waits.filter (fun w => !f w.change) } }.showWaits

/-- A level waits for the next boundary (R238). -/
def Device.levelAsk (d : Device) (p : Nat) (l : Int) : Device :=
  ((d.modPath p (fun s => { s with pend := some l })).put (fPathTxpwrNowPending p) 1).await (.level p)

/-- TXPWR.LEVEL of a contributing path is checked at once and waits for its boundary (R229, R238). -/
def Device.levelWritten (d : Device) (p : Nat) : Device :=
  let (l, d) := d.levelTake p
  d.levelAsk p l

/-- The level of a contributing path is computed again (R229); it waits for a boundary only where it differs. -/
def Device.levelAgain (d : Device) (p : Nat) : Device :=
  if d.get (fPathTxpwrNowLevel p) = 0x80 then d
  else
    let cur := (d.path p).pend.getD (d.levelNow p)
    let want := d.getS (fPathTxpwrLevel p)
    let (l, why) := d.levelSearch p 130 want none
    if l = cur then d
    else match why with
      | some (r, c) => ((d.putS (fPathTxpwrLevel p) (max l (-80))).reglClip r 0 c true (levelFactor l want)).levelAsk p l
      | none => d.levelAsk p l

/-! ### Figures shown -/

/-- A figure as its register shows it. The spec states none where nothing is radiated, so that the logarithm has no value: a free value. -/
def Device.figureCode (d : Device) (f : Option Int) : Nat × Device :=
  match f with
  | some f => (twosOf 16 (clampInt (-32767) 32767 f), d)
  | none => let (v, d) := d.takeFree; (v.toNat % 65536, d)

/-- Write CAR_FIG_c and STREAM_FIG_n from the figures in effect (R232); a carrier with no admitted stream shows its reset word. -/
def Device.showFigures (d : Device) : Device :=
  match d.profile with
  | none => (d.forAll (List.range 4) (fun d c => d.wr (reglCarFig c) 0)).forAll (List.range 16) (fun d n => d.wr (reglStreamFig n) 0x8000)
  | some p =>
    let amps := d.figAmps none
    let d := d.forAll (List.range 16) (fun d n =>
      if !(d.stream n).admitted then d.wr (reglStreamFig n) 0x8000
      else
        let (v, d) := d.figureCode (figure (ampSum amps (d.figWeights n)) p.gain)
        d.wr (reglStreamFig n) (BitVec.ofNat 32 v))
    d.forAll (List.range 4) (fun d c =>
      if (d.admittedOn c).isEmpty then d.wr (reglCarFig c) 0
      else
        let f := p.carrierFigure ((d.admittedOn c).map (fun n => ampSum amps (d.figWeights n)))
        let (v, d) := d.figureCode f
        let (m, d) := d.figureCode (f.map (fun f => d.channelLimit p c - d.groupDrop - f))
        d.wr (reglCarFig c) (BitVec.ofNat 32 (v + m * 65536)))

/-- An input of R181 has changed: the levels and figures are computed again. -/
def Device.reglChanged (d : Device) : Device := (d.forAll (List.range 64) Device.levelAgain).showFigures

/-! ### Stream admission (R228) -/

/-- The headroom rule for stream `n` with new weights (R163). -/
def Device.headroom (d : Device) (n : Nat) (w : List Word) : Bool :=
  let others := ((List.range 16).filter (fun m => m != n && (d.stream m).admitted)).map d.figWeights
  (List.range 64).all (fun p =>
    decide (others.foldl (fun s o => s + magFx (o.getD p 0)) (magFx (w.getD p 0)) ≤ fxOf 32768 + fxEps))

/-- One part of a weight scaled by F / 2^15, toward zero. -/
def scalePart (f : Nat) (i : Int) : Int := if 0 ≤ i then i * f / 32768 else -(-i * f / 32768)

/-- Weights scaled by F / 2^15. -/
def scaleWeights (f : Nat) (w : List Word) : List Word := w.map (fun x => mkWeight (scalePart f (wI x)) (scalePart f (wQ x)))

/-- The largest F on the Q1.15 grid for which `ok` holds, found bit by bit below 2^k; F only shrinks what `ok` examines. -/
def largestF (ok : Nat → Bool) : Nat → Nat → Nat
  | 0, f => f
  | k + 1, f => largestF ok k (if f + 2 ^ k ≤ 32768 ∧ ok (f + 2 ^ k) then f + 2 ^ k else f)

/-- Ask the enforcer to admit transmit weights of stream `n` (R228). An admission leaves them waiting to take effect; a refusal is recorded. -/
def Device.admitTx (d : Device) (n : Nat) (form : Steer) (w : List Word) (nulled : Bool) (az el : Int) : Bool × Device :=
  let c := d.sesCar n
  match d.profile with
  | none => (false, d.reglRefuse 1 n c false)
  | some p =>
    if !d.headroom n w then (false, d.reglRefuse 7 n c false)
    else
      let amps := d.figAmps none
      let others := ((d.admittedOn c).filter (· != n)).map d.figWeights
      let take (d : Device) (w : List Word) : Device :=
        (d.modStream n (fun s => { s with admitted := true, pend := some { w := w, form := form, nulled := nulled, az := az, el := el, old := s.admitted && s.pend.all (·.old) } })).reglChanged
      match d.limitReason p c amps (others ++ [w]) with
      | 0 => (true, take d w)
      | r =>
        if form = .table then (false, d.reglRefuse r n c false)
        else
          let f := largestF (fun f => d.limitReason p c amps (others ++ [scaleWeights f w]) = 0) 16 0
          if f = 0 || decide ((f : Int) * fxOne + fxEps < fxPow10 (-(d.get fReglCtrlClipFloor : Int)) 80 * 32768) then
            (false, d.reglRefuse r n c false)
          else (true, take (d.reglClip r n c false f) (scaleWeights f w))

/-! ### Transmit weights taking effect -/

/-- Admitted transmit weights of stream `n` take effect (R133, R171): SRC, NULLED and the zone follow; the groups are to be recomputed. -/
def Device.txEffect (d : Device) (n : Nat) : Device :=
  match (d.stream n).pend with
  | none => d
  | some t =>
    let d := (d.setWeights n t.w).modStream n (fun s => { s with pend := none, tx := t.form, az := t.az, el := t.el, lostTx := t.lost, fresh := true })
    ((d.putB (fBfStreamSrc n) (t.form != .table)).putB (fBfStreamNulled n) t.nulled).groupsStale.reglChanged

/-- Compute steered transmit weights of stream `n` for a zone and ask for admission (R170). -/
def Device.askSteered (d : Device) (n : Nat) (az el : Int) : Bool × Device :=
  let (w, nulled) := d.txSteer n az el
  let d := d.modStream n (fun s => { s with ampUsed := d.get (fBfStreamAmp n) })
  d.admitTx n (.toward az el) w nulled az el

/-- An admission frees a session held for a refused readmission (R230); its weights take effect, as it stands at a quiet point. -/
def Device.freeRefused (d : Device) (n : Nat) : Device :=
  if (d.sess n).refused then
    let d := (d.modSes n (fun s => { s with refused := false })).txEffect n
    d.when (d.carState (d.sesCar n) = 6) (fun d => d.holdEnd n 5)
  else d

/-- The other SOURCE = 1 streams of a carrier are computed again because its set of zones has changed (R171), lowest number first. -/
def Device.zonesChanged (d : Device) (c n : Nat) : Device :=
  d.forAll ((d.onCarrier c).filter (fun t => t != n && (d.stream t).tx != .table)) (fun d t =>
    let (ok, d) := d.askSteered t (d.stream t).az (d.stream t).el
    d.when ok (fun d => d.freeRefused t))

/-- STAT_c.STREAMS (R206). -/
def Device.showStreams (d : Device) : Device :=
  d.forAll (List.range 4) (fun d c => d.put (fCarStatStreams c) (d.onCarrier c).length)

/-- The stream of a session that goes OFF is released: assignment and admission end (R81, R171). -/
def Device.releaseStream (d : Device) (n : Nat) : Device :=
  let c := d.sesCar n
  if (d.stream n).assigned then
    ((d.modStream n (fun s => { s with assigned := false, admitted := false, pend := none })).showStreams.groupsStale.reglChanged).zonesChanged c n
  else d

/-! ### The REGL page -/

/-- Load the profile (R223). -/
def Device.loadProfile (d : Device) : Device :=
  { d with profile := parseProfile d.profileRecord }.showProfile.reglChanged

/-- Which writes of the REGL page are applied (R223, R232). -/
def reglWriteOk (d : Device) (off : Nat) (v : Word) : Bool :=
  if off = 0x10 then decide (fReglCtrlClipFloor.of v ≤ 48)
  else if off = 0x13 then !(fReglCmdReload.on v && (List.range 4).any (fun c => d.carState c != 0))
  else true

/-- The effect of an applied REGL write. -/
def reglWritten (off : Nat) (v : Word) (d : Device) : Device :=
  if off = 0x13 then
    let d := d.when (fReglCmdReload.on v) Device.loadProfile
    d.when (fReglCmdClr.on v) (fun d => (d.wr reglCounts 0).wr reglLbtBusy 0)
  else d

end Sys2Proof.Machine
end

