-- ==== Sys2Proof/Machine/Sessions.lean ====
section
/-!
DEFINITION. Session states, holds, rounds and the reports of rounds and access sequences (R73 … R97, R135 … R150).
-/
namespace Sys2Proof.Machine

/-- Is SESSION_n enabled: any state but OFF? -/
def Device.sesEnabled (d : Device) (n : Nat) : Bool := d.sesState n != 0

/-- May the session be at a quiet point (R83)? After a reply the event that uses it asserts that T2 max has elapsed. -/
def Device.sesQuiet (d : Device) (n : Nat) : Bool :=
  let s := d.sess n
  s.phase = .quiet || s.phase = .closed || (s.phase = .decided && s.plan.isEmpty)

/-- The Miller factor of a LINK word (1 for FM0). -/
def linkM (w : Word) : Nat := 2 ^ bitsOf w 6 5

/-- RTcal in 10 ns (R71). -/
def linkRtcal (w : Word) : Nat := [625, 1250, 2500, 0].getD (bitsOf w 1 0) 0 * (10 + bitsOf w 3 2) / 4

/-- T1nom and the gap G in 10 ns, rounded up (R99, R101). -/
def tcalc (w : Word) : Nat × Nat :=
  let blf := max 1 (bitsOf w 17 8)
  let up (n : Nat) : Nat := (n + blf - 1) / blf
  let rt := [625, 1250, 2500, 0].getD (bitsOf w 1 0) 0 * (10 + bitsOf w 3 2)
  (max ((rt + 3) / 4) (up 1000000), max (640 + up 25000) (up 300000))

/-- Is a written LINK in range (R74)? TRcal = DR / BLF lies within 1.1 … 3.0 RTcal. -/
def linkOk (w : Word) : Bool :=
  let blf := bitsOf w 17 8
  let rt := [625, 1250, 2500, 0].getD (bitsOf w 1 0) 0 * (10 + bitsOf w 3 2)
  let tr := if w.getLsbD 4 then 6400000 else 2400000
  bitsOf w 1 0 != 3 && bitsOf w 3 2 != 3 && bitsOf w 19 18 != 3 && decide (40 ≤ blf) && decide (blf ≤ 640)
    && decide (80 ≤ bitsOf w 26 20) && decide (bitsOf w 26 20 ≤ 100)
    && decide (11 * rt * 3 * blf ≤ 40 * tr) && decide (4 * tr ≤ 3 * rt * 3 * blf)

/-! ### Ending descriptors -/

/-- The session goes on after its descriptor: IDLE where none waits (R79). While held it stays in HOLD, and a hold for a turn ends where nothing needs the air any more (R140). -/
def Device.sesDone (d : Device) (n : Nat) : Device :=
  let d := (d.modSes n (fun s => { s with run := none, chain := [], stop := none, plan := [], round := {}, acc := {} })).holdEnd n 6
  let d := d.showFlight n
  let d := d.when (!d.needsAir n) (fun d => d.holdEnd n 1)
  if 8 ≤ d.sesState n ∨ d.sesState n = 0 then d
  else if (d.sess n).descs.isEmpty then d.sesGo n 2 0 else d

/-- An INVENTORY goes on to its next round: at once, or after a trigger where TRIG.EN is 1 (R79, R119). -/
def Device.nextRound (d : Device) (n : Nat) : Device :=
  if !d.on (fSesTrigEn n) then d
  else if d.on (fSesTrigPending n) then
    (d.put (fSesTrigPending n) 0).modSes n (fun s => { s with round := { s.round with triggered := true } })
  else d.sesGo n 3 0

/-- A session leaves HOLD or FAILOVER for the state it was in, and goes on from there (R79): to IDLE where its descriptor has completed meanwhile, to its next round where a round has. -/
def Device.sesBack (d : Device) (n st : Nat) : Device :=
  let d := d.sesGo n st 0
  let s := d.sess n
  if st < 3 then d
  else if s.run.isNone then (if s.descs.isEmpty then d.sesGo n 2 0 else d)
  else if st = 4 && s.round.waits then (d.modSes n (fun s => { s with round := { s.round with waits := false } })).nextRound n
  else d

/-- The running descriptor, with those chained to it, retires with an error (R144). -/
def Device.retireRun (d : Device) (n code detail : Nat) : Device :=
  let s := d.sess n
  match s.run with
  | none => d
  | some x =>
    let d := (d.modSes n (fun s => { s with run := none, chain := [] })).retire n x code detail
    (d.forAll s.chain (fun d y => d.retire n y (if code = 5 then 5 else 0x15) 0)).sesDone n

/-- The running descriptor completes and writes no message of its own (R130). -/
def Device.completeRun (d : Device) (n : Nat) : Device :=
  match (d.sess n).run with
  | none => d
  | some x => (((d.modSes n (fun s => { s with run := none })).notice n x)).sesDone n

/-! ### Rounds (R88 … R91, R144) -/

/-- ROUND_DONE for the round in progress (R144); ROUNDS has been incremented. -/
def Device.roundDoneMsg (d : Device) (n : Nat) (cookie : Nat) (sector : Nat) (flags : Nat) (r : RoundSt) : List Byte :=
  let t := (d.stamp - r.startTide) / 1024
  d.message 0x03 n cookie d.stamp (leBytes 4 (d.rd rtcTime).toNat ++ leBytes 4 (d.rd rtcDate).toNat ++ le16 (min 65535 r.opened)
    ++ le16 (min 65535 r.singles) ++ le16 (min 65535 r.empties) ++ le16 (min 65535 r.collisions)
    ++ [BitVec.ofNat 8 (d.get (fSesStatQ n)), BitVec.ofNat 8 flags] ++ le16 sector ++ leBytes 4 (d.rd (sesRounds n)).toNat
    ++ leBytes 4 (if r.begun then t else 0))

/-- The sector field of a round's report. -/
def Desc.sectorOf (x : Desc) : Nat := if x.byte 0 = 0x14 then x.sector else 0xFFFF

/-- A round in progress ends: ROUNDS increments and ROUND_DONE is written (R91). -/
def Device.endRound (d : Device) (n : Nat) (incomplete preempted last : Bool) : Device :=
  let s := d.sess n
  if !s.round.active then d
  else
    let d := d.addWrap (fWord (sesRounds n)) 1
    let (cookie, sector) := match s.run with
      | some x => (x.cookie, x.sectorOf)
      | none => (0, 0xFFFF)
    let msg := d.roundDoneMsg n cookie sector (incomplete.toNat + 2 * preempted.toNat + 4 * last.toNat + 8 * s.round.triggered.toNat) s.round
    (d.modSes n (fun s => { s with round := {}, plan := [], single := false })).postMsg n msg

/-- Is the present round over: 2^Q slots opened since the last Query or QueryAdjust, the last tag's flag inverted (R91)? -/
def Device.roundOver (d : Device) (n : Nat) : Bool :=
  let s := d.sess n
  s.round.active && s.plan.isEmpty && !s.single && decide (0 < s.slots) && decide (2 ^ d.get (fSesStatQ n) ≤ s.slots)

/-- The classes of a slot (R89). -/
inductive SlotClass where
  | empty
  | single
  | collided
  deriving DecidableEq, Repr

/-- A slot is decided: its counter, the round's count and Qfp (R89, R90). -/
def Device.slotDecided (d : Device) (n : Nat) (k : SlotClass) : Device :=
  let q := (d.sess n).qctrl
  let lo := 16 * bitsOf q 11 8
  let hi := 16 * bitsOf q 15 12
  match k with
  | .empty => (d.count (fHalf (sesEmpty n))).modSes n (fun s => { s with
      qfp := max lo (s.qfp - bitsOf q 3 0), round := { s.round with empties := s.round.empties + 1 } })
  | .single => (d.addWrap (fWord (sesSings n)) 1).modSes n (fun s => { s with
      single := true, round := { s.round with singles := s.round.singles + 1 } })
  | .collided => (d.count (fHalf (sesCollided n))).modSes n (fun s => { s with
      qfp := min hi (s.qfp + bitsOf q 7 4), round := { s.round with collisions := s.round.collisions + 1 } })

/-! ### Access results (R144) -/

/-- A reply bit string as bytes, padded with zeros (R6). -/
def packBits (bits : List Bool) : List Byte :=
  (List.range ((bits.length + 7) / 8)).map (fun i =>
    BitVec.ofNat 8 ((List.range 8).foldl (fun v k => 2 * v + (bits.getD (8 * i + k) false).toNat) 0))

/-- OP of an ACCESS_RESULT: 0x0F for a template. -/
def Desc.resultOp (x : Desc) : Nat := if x.byte 0 = 0x12 then 0x0F else x.byte 4

/-- The parts of a result: data in pieces of at most 480 bytes, at least one. -/
def resultParts (bits : List Bool) : List (List Bool) :=
  let n := max 1 ((bits.length + 3839) / 3840)
  (List.range n).map (fun i => (bits.drop (3840 * i)).take 3840)

/-- Report an access operation or template exchange (R144). `checks` holds HANDLE_OK and CRC_OK. -/
def Device.accessResult (d : Device) (n : Nat) (x : Desc) (code tagCode checks : Nat) (bits : List Bool) : Device :=
  let s := d.sess n
  let flags := checks + 4 * s.rx.setB.toNat + 8 * s.acc.manIndex.isSome.toNat
  let rssi := if s.rx.setB then s.rx.rssiB else s.rx.rssiA
  let parts := resultParts bits
  let d := d.forAll ((List.range parts.length).zip parts) (fun d p =>
    d.postMsg n (d.message 0x02 n x.cookie d.stamp ([BitVec.ofNat 8 x.resultOp, BitVec.ofNat 8 code, BitVec.ofNat 8 tagCode, BitVec.ofNat 8 flags]
      ++ le16 (s.acc.handle.getD 0) ++ le16 p.2.length ++ le16 (s.acc.manIndex.getD 0xFFFF) ++ le16 rssi
      ++ [BitVec.ofNat 8 p.1, BitVec.ofNat 8 parts.length, 0, 0] ++ packBits p.2)))
  d.showFlight n

/-- No reply gives a level or a chosen set: what a result would show of one is open (assumption 2). -/
def Device.noLevel (d : Device) (n : Nat) : Device :=
  let (v, d) := d.takeFree
  d.modSes n (fun s => { s with rx := { s.rx with rssiA := v.toNat % 65536, rssiB := v.toNat % 65536, setB := v.getLsbD 32 } })

/-- An access sequence is cut: the running operation and those chained to it are reported with an error (R86, R87, R201, R203). -/
def Device.accessCut (d : Device) (n code : Nat) : Device :=
  let s := d.sess n
  match s.run with
  | none => d.modSes n (fun s => { s with acc := {}, plan := [] })
  | some x =>
    let d := d.modSes n (fun s => { s with run := none, chain := [] })
    let d := (d.noLevel n).forAll (x :: s.chain) (fun d y => d.accessResult n y code 0 0 [])
    d.sesDone n

/-- Whatever exchange is open is abandoned without a further command: an access sequence ends with CARRIER_LOST, an open inventory slot counts in LOST_SLOTS (R201, R203). -/
def Device.sesAbandon (d : Device) (n : Nat) : Device :=
  let s := d.sess n
  let d :=
    if s.acc.running then d.accessCut n 7
    else if s.phase = .quiet || s.phase = .closed then d
    else if s.phase = .decided && s.plan.isEmpty then d
    else if s.round.active then d.count (fHalf (sesLostSlots n)) else d
  d.modSes n (fun s => { s with phase := .quiet, plan := if s.round.active then [] else s.plan, acc := { s.acc with ready := false } })

/-! ### Holds (R79, R84, R86) -/

/-- May the session enter HOLD now: a hold is asked, the state has a way to HOLD, no access sequence runs, and it is at a quiet point? -/
def Device.holdDue (d : Device) (n : Nat) : Bool :=
  let s := d.sess n
  !s.holds.isEmpty && decide (2 ≤ d.sesState n) && decide (d.sesState n ≤ 7) && !s.acc.running && d.sesQuiet n

/-- A STOP ends the running descriptor at the quiet point (R138). -/
def Device.stopNow (d : Device) (n : Nat) : Device :=
  match (d.sess n).stop with
  | some _ => d.retireRun n 5 0
  | none => d

/-- HOLD_ENTER: the session stands at a quiet point and enters HOLD. For a carrier event a round in progress ends incomplete (R86), once its open slot is decided; a STOP ends the descriptor. -/
def holdEnter (n : Nat) (d : Device) : Device :=
  if !d.holdDue n then d
  else
    let old := d.sesState n
    let d := (d.modSes n (fun s => { s with prev := old, acc := { s.acc with ready := false } })).sesGo n 8 0
    let d := d.when ((d.sess n).holds.contains 5 && (d.sess n).phase != .closed) (fun d => d.endRound n true false false)
    d.stopNow n

/-- HOLD_RELEASE: no hold reason stands any longer and the session returns to the state before HOLD (R79). -/
def holdRelease (n : Nat) (d : Device) : Device :=
  let s := d.sess n
  if d.sesState n = 8 && s.holds.isEmpty then d.sesBack n (if s.prev = 1 then 2 else s.prev) else d

/-! ### Enable and shutdown (R79 … R81) -/

/-- EN = 1 applied to a session in OFF (R79, R80). -/
def Device.sesStart (d : Device) (n : Nat) : Device := (d.put (fPsBusy (0x80 + n)) 1).sesGo n 1 0

/-- A refused enable: EN goes to 0, the mirror takes it, and SESSION_STATE carries the error (R80). -/
def Device.sesRefuse (d : Device) (n code : Nat) : Device :=
  let d := d.releaseStream n
  let d := ((d.put (fPcEn (0x80 + n)) 0).put (fPsBusy (0x80 + n)) 0).modSes n (fun s => { s with refused := false })
  let d := { d with mirror := storePut resetWord d.mirror (pageCtrl (0x80 + n)) (d.rd (pageCtrl (0x80 + n))) }
  d.sesGo n 0 code

/-- The mean idle floor of the unmuted paths as a noise estimate, in 0.01 dBm (R109). -/
def Device.idleMean (d : Device) : Nat :=
  let ps := d.livePaths.filter (fun p => (d.rd (pathIdleNf p)).toNat % 65536 != 0x8000)
  if ps.isEmpty then 0x8000
  else
    let sum := ps.foldl (fun s p => s + fxPow10 (signedOf 16 ((d.rd (pathIdleNf p)).toNat % 65536)) 1000) 0
    twosOf 16 (clampInt (-32767) 32767 (fxRound (fxDb20 (sum / (ps.length : Int)) / 2)))

/-- Restart the noise estimates of a session's beam (R109). -/
def Device.noiseRestart (d : Device) (n : Nat) (a b : Bool) : Device :=
  if d.on fRxfCfgNoiseHold then d
  else
    let m := d.idleMean
    let d := if a then d.put (fRxfNoiseA n) m else d
    if b then d.put (fRxfNoiseB n) m else d

/-- The largest factor on the Q1.15 grid, in 2^-15 up to `top`, that passes `ok`. -/
def largestUpTo (ok : Nat → Bool) (top : Nat) : Nat → Nat → Nat
  | 0, f => f
  | k + 1, f => largestUpTo ok top k (if f + 2 ^ k ≤ top ∧ ok (f + 2 ^ k) then f + 2 ^ k else f)

/-- A weight scaled by F / 2^15 with F possibly above 1, limited to magnitude 1; toward zero (R190). -/
def scaleUp (f : Nat) (w : Word) : Word := mkWeight (clampInt (-32767) 32767 (scalePart f (wI w))) (clampInt (-32767) 32767 (scalePart f (wQ w)))

/-- Would weights `w` for stream `n` pass R163 and the profile limits? -/
def Device.passes (d : Device) (n : Nat) (w : List Word) : Bool :=
  match d.profile with
  | none => false
  | some p =>
    let c := d.sesCar n
    w.all weightOk && d.headroom n w && d.limitReason p c (d.figAmps none) (((d.admittedOn c).filter (· != n)).map d.figWeights ++ [w]) = 0

/-- The factor S, in 2^-15, by which mutes have reduced a set's magnitude sum (R190). -/
def renormFactor (now lost : Int) : Nat := if now ≤ 0 then 32768 else ((now + lost) * 32768 / now).toNat

/-- Transmit weights of a stream with the largest factor up to its S that R163 and the profile allow, where TX_RENORM asks for it (R190). -/
def Device.renormTx (d : Device) (n : Nat) : List Word :=
  let w := d.weights n
  let lost := (d.stream n).lostTx
  if !d.on fBfCtrlTxRenorm || lost = 0 then w
  else
    let f := largestUpTo (fun f => d.passes n (w.map (scaleUp f))) (renormFactor (magSum w) lost) 20 0
    if f ≤ 32768 then w else w.map (scaleUp f)

/-- Step 2 of the enable: the present weights are admitted; steered weights whose AMP has been changed since are formed afresh, and a renormalisation deferred by OFF is applied (R80, R190). -/
def Device.admitStart (d : Device) (n : Nat) : Bool × Device :=
  let s := d.stream n
  let (ok, d) :=
    if s.tx != .table && d.get (fBfStreamAmp n) != s.ampUsed then d.askSteered n s.az s.el
    else
      let w := d.renormTx n
      d.admitTx n s.tx w (d.on (fBfStreamNulled n)) s.az s.el
  (ok, if ok then d.txEffect n else d)

/-- SESSION_ENABLE_COMPLETE: the steps of R80 in order; a session that passes goes to IDLE, or to HOLD where a hold is asked (R79). -/
def sessionEnableComplete (n : Nat) (d : Device) : Device :=
  if d.sesState n != 1 then d
  else
    let c := d.sesCar n
    if d.carState c = 0 || decide (4 ≤ (d.onCarrier c).length) then d.sesRefuse n 9
    else
      let d := ((d.modStream n (fun s => { s with assigned := true })).showStreams).noiseRestart n true true
      let (ok, d) := d.admitStart n
      if !ok then d.sesRefuse n 8
      else
        let d := (d.zonesChanged c n).groupsStale
        if d.get (fPsState (0x20 + d.get (fSesStatPilot n))) != 5 then d.sesRefuse n 0
        else
          let d := (d.put (fPsBusy (0x80 + n)) 0).modSes n (fun s => { s with link := d.rd (sesLink n), inv := d.rd (sesInv n), qctrl := d.rd (sesQctrl n), phase := .quiet })
          let d := d.when (d.carState c != 6) (fun d => d.holdAsk n 5)
          let d := d.when (d.cal.slack != .none) (fun d => d.holdAsk n 2)
          if (d.sess n).holds.isEmpty then d.sesGo n 2 0
          else (d.modSes n (fun s => { s with prev := 1 })).sesGo n 8 0

/-- EN = 0 applied: the shutdown begins (R79, R81). -/
def Device.sesStop (d : Device) (n : Nat) : Device :=
  (((d.put (fPsBusy (0x80 + n)) 0).put (fPsShuttingDown (0x80 + n)) 1).holdAsk n 6).sesGo n 10 0

/-- What a session holds after it has gone OFF: its stored Selects stay (R138); the rest is gone. -/
def SesSt.off (s : SesSt) : SesSt := { selects := s.selects, turnEnd := s.turnEnd, ckA := s.ckA, ckB := s.ckB, rx := s.rx }

/-- Release everything a session holds as it goes OFF (R81 steps 2 and 3). Waiting messages and retirements are written as far as they fit (R150). -/
def Device.sesOff (d : Device) (n : Nat) : Device :=
  let s := d.sess n
  let ds := (match s.run with | some x => [x] | none => []) ++ s.chain ++ s.descs ++ (match s.fence with | some f => [f.1] | none => [])
  let d := d.forAll s.waiting (fun d m => d.emitLast n m)
  let d := d.modSes n SesSt.off
  let d := d.forAll ds (fun d x => d.emitLast n (d.cmdErrorMsg n x 4 0))
  let d := ((d.put (fSesTrigPending n) 0).showFlight n).releaseStream n
  (((d.put (fRxfNoiseA n) 0x8000).put (fRxfNoiseB n) 0x8000).turnLeave n).groupsStale

/-- SESSION_SHUTDOWN_COMPLETE: the session stands at a quiet point, retires what it holds, releases its stream and goes OFF; a queued re-enable follows (R66, R81). -/
def sessionShutdownComplete (n : Nat) (d : Device) : Device :=
  let s := d.sess n
  if !(d.sesState n = 10) || s.acc.running || !d.sesQuiet n || d.man.queue.any (fun e => match e with | .inl x => x.session = n | .inr m => m.1 = n) then d
  else
    let d := (d.sesOff n).put (fPsShuttingDown (0x80 + n)) 0
    let d := d.sesGo n 0 0
    if d.on (fPsEnq (0x80 + n)) then (d.put (fPsEnq (0x80 + n)) 0).sesStart n else d

/-- A BLOCK reset of a SESSION page stops the session at once (R391). -/
def sesBlockReset (n : Nat) (d : Device) : Device :=
  let was := d.sesState n
  if was = 0 then d.modSes n (fun s => { s with selects := Vector.replicate 8 none })
  else
    let d := (d.sesAbandon n).modSes n (fun s => { s with waiting := [], run := none, chain := [], descs := [], fence := none, stop := none })
    let d := (((d.modSes n SesSt.off).showFlight n).releaseStream n)
    ((((d.put (fRxfNoiseA n) 0x8000).put (fRxfNoiseB n) 0x8000).turnLeave n).groupsStale).sesGo n 0 0

/-- The pilot that serves a session (R316). -/
def Device.servingPilot (d : Device) (n : Nat) : Nat :=
  ((List.range 20).find? (fun p => d.get (fPilStatSession p) = n)).getD n

/-! ### Triggers (R118 … R120) -/

/-- A trigger reaches a session whose TRIG.EN is 1: it becomes pending, or is lost (R119). -/
def Device.trigger (d : Device) (n : Nat) : Device :=
  if !d.on (fSesTrigEn n) then d
  else if d.on (fSesTrigPending n) then
    let d := d.count (fSesTrigOvf n)
    d.postMsg n (d.sesStateMsg n (d.sesState n) 0)
  else d.put (fSesTrigPending n) 1

/-- An edge of trigger source `src`, rising or falling, at every session that selects it (R118). -/
def Device.triggerEdge (d : Device) (src : Nat) (high : Bool) : Device :=
  d.forAll (List.range 16) (fun d n =>
    let e := d.get (fSesTrigEdge n)
    d.when (d.get (fSesTrigSrc n) = src && (e = 2 || (if high then e = 0 else e = 1))) (fun d => d.trigger n))

/-- A cascade trigger on channel `ch` fires in this device: sources 4 to 7 (R343). -/
def Device.cascadeTrigger (d : Device) (ch : Nat) : Device := d.triggerEdge (4 + ch) true

/-! ### Register writes (R73 … R76, R112, R113) -/

/-- Which writes of a SESSION page are applied. -/
def sesWriteOk (d : Device) (n off : Nat) (v : Word) : Bool :=
  match off with
  | 0x10 => linkOk v
  | 0x12 => bitsOf v 3 0 != 0 && bitsOf v 7 4 != 0 && decide (bitsOf v 11 8 ≤ bitsOf v 15 12)
  | 0x13 => bitsOf v 3 2 != 3 && (d.sesState n = 0 || bitsOf v 1 0 = d.sesCar n)
  | 0x14 => bitsOf v 5 4 != 3
  | _ =>
    if 0x100 ≤ off ∧ off < 0x200 then
      match (d.sess n).run with
      | some x => !(x.byte 0 = 0x12 && (d.sess n).acc.running && x.byte 4 = (off - 0x100) / 32)
      | none => true
    else true

/-- The effect of an applied SESSION write. -/
def sesWritten (n off : Nat) (v : Word) (d : Device) : Device :=
  match off with
  | 0x10 => let (t, g) := tcalc v; (d.put (fSesTcalcT1Nom n) t).put (fSesTcalcGap n) g
  | 0x14 =>
    if v.getLsbD 0 then d
    else
      let d := d.put (fSesTrigPending n) 0
      if d.sesState n = 3 then (d.sesGo n 2 0).sesGo n 4 0 else d
  | 0x15 => if v.getLsbD 0 then d else (d.put (fSesBerthFrozen n) 0).holdEnd n 4
  | 0x20 =>
    let z (a : Nat) (d : Device) : Device := d.wr a 0
    let d := d.when (v.getLsbD 0) (z (sesRounds n))
    let d := d.when (v.getLsbD 1) (z (sesSings n))
    let d := d.when (v.getLsbD 2) (fun d => z (sesLostSlots n) (z (sesRestarts n) (z (sesCollided n) (z (sesEmpty n) (z (sesCrcFail n) d)))))
    let d := d.when (v.getLsbD 3) (z (sesSetWins n))
    d.when (v.getLsbD 4) (fun d => d.put (fSesTrigOvf n) 0)
  | _ => d

end Sys2Proof.Machine
end

