-- ==== Sys2Proof/Machine/Air.lean ====
section
/-!
DEFINITION. The air exchange of a session: committing and sending commands, reply windows, receptions, the slots of a round and the steps of an access sequence (R82, R88 … R116, R296).
-/
namespace Sys2Proof.Machine

/-! ### Commands -/

/-- Does the command open a slot (R82)? -/
def AirCmd.opens : AirCmd → Bool
  | .query .. => true
  | .queryAdjust _ => true
  | .queryRep => true
  | _ => false

/-- Does a command begin a round's air time: its first Select or Query (R144)? -/
def AirCmd.beginsRound : AirCmd → Bool
  | .select _ => true
  | .query .. => true
  | _ => false

/-- STAT.LAST_CMD of a command (R73). -/
def AirCmd.code : AirCmd → Nat
  | .none => 0
  | .select _ => 1
  | .query .. => 2
  | .queryAdjust _ => 3
  | .queryRep => 4
  | .ack _ => 5
  | .nak => 6
  | .reqRn _ => 7
  | .read .. => 8
  | .write .. => 9
  | .blockWrite .. => 10
  | .blockErase .. => 11
  | .lock _ => 12
  | .blockPermalock .. => 13
  | .access .. => 14
  | .kill .. => 15
  | .template .. => 16

/-- Byte `k` of template record `t` of a session (R113, R114). -/
def Device.tplByte (d : Device) (n t k : Nat) : Nat :=
  bitsOf (d.rd (sesTpl n (32 * t + k / 4))) (8 * (k % 4) + 7) (8 * (k % 4))

/-- A two-byte field of a template record. -/
def Device.tplLe (d : Device) (n t k : Nat) : Nat := d.tplByte n t k + 256 * d.tplByte n t (k + 1)

/-- A FLAGS bit of a template record. -/
def Device.tplFlag (d : Device) (n t b : Nat) : Bool := (d.tplByte n t 0).testBit b

/-- The record a TEMPLATE descriptor names. -/
def Desc.record (x : Desc) : Nat := x.byte 4 % 8

/-- Is the descriptor a TEMPLATE? -/
def Desc.isTemplate (x : Desc) : Bool := x.byte 0 = 0x12

/-- OP of an ACCESS descriptor. -/
def Desc.op (x : Desc) : Nat := x.byte 4

/-- A template's bits in air order: CMD, then the handle and a CRC-16 over all before it where the record asks for them (R115). -/
def Device.tplBits (d : Device) (n t : Nat) (handle : Nat) : List Bool :=
  let cmd := (bytesBits ((List.range 112).map (fun k => BitVec.ofNat 8 (d.tplByte n t (16 + k))))).take (d.tplLe n t 2)
  let b := cmd ++ (if d.tplFlag n t 1 then natBits 16 handle else [])
  b ++ (if d.tplFlag n t 2 then natBits 16 (crc16 b) else [])

/-- The steps of one operation after the handle is known (R94). -/
def Desc.opSteps (x : Desc) : List AccStep :=
  if x.isTemplate then [.exchange]
  else
    let pw : List AccStep := if x.byte 5 / 64 % 2 = 1 && x.op != 6 then [.cover, .password 0, .cover, .password 1] else []
    pw ++ (if x.op = 1 then [.cover, .op] else if x.op = 6 then [.cover, .killStep 0, .cover, .killStep 1] else [.op])

/-- Half `k` of PASSWORD, most significant first (R130). -/
def Desc.half (x : Desc) (k : Nat) : Nat := beNat ((x.bytes.drop (12 + 2 * k)).take 2)

/-- Does the step carry cover-coded data (R94)? -/
def AccStep.covered (st : AccStep) (x : Desc) : Bool := match st with
  | .password _ => true
  | .killStep _ => true
  | .op => x.op = 1
  | _ => false

/-- The command of a step. -/
def Device.stepCmd (d : Device) (n : Nat) (x : Desc) (st : AccStep) : AirCmd :=
  let s := d.sess n
  let h := s.acc.handle.getD 0
  let c := s.acc.cover
  let bank := x.byte 5 % 4
  let ptr := x.le 6 4
  let cnt := x.byte 10
  let data := (x.bytes.drop 16).take 8
  match st with
  | .handle => .reqRn s.rn16
  | .cover => .reqRn h
  | .password k => .access k (x.half k ^^^ c)
  | .killStep k => .kill k (x.half k ^^^ c) (x.byte 28 % 8)
  | .exchange => .template (d.tplFlag n x.record 0) (d.tplBits n x.record h)
  | .op => match x.op with
    | 0 => .read bank ptr cnt
    | 1 => .write bank ptr (beNat (data.take 2) ^^^ c)
    | 2 => .blockWrite bank ptr cnt (data.take (2 * cnt))
    | 3 => .blockErase bank ptr cnt
    | 4 => .lock (x.le 16 3 % 2 ^ 20)
    | _ => .blockPermalock (128 ≤ x.byte 5) bank ptr cnt (if 128 ≤ x.byte 5 then data.take (2 * cnt) else [])

/-- Is a delayed reply expected to the step (R96, R115)? -/
def Device.delayed (d : Device) (n : Nat) (x : Desc) (st : AccStep) : Bool := match st with
  | .killStep 1 => true
  | .op => x.op = 1 || x.op = 2 || x.op = 3 || x.op = 4 || (x.op = 5 && decide (128 ≤ x.byte 5))
  | .exchange => d.tplFlag n x.record 3 && d.tplFlag n x.record 4
  | _ => false

/-- Does the session wait in a delayed-reply window? -/
def Device.delayedNow (d : Device) (n : Nat) : Bool :=
  let s := d.sess n
  match s.run, s.acc.steps with
  | some x, st :: _ => s.acc.running && d.delayed n x st
  | _, _ => false

/-- Is a reply expected to the command just sent? -/
def Device.expects (d : Device) (n : Nat) : Bool :=
  let s := d.sess n
  match s.cmd with
  | .none => false
  | .select _ => false
  | .nak => false
  | .template .. => match s.run with
    | some x => d.tplFlag n x.record 3
    | none => false
  | c => !(c.opens && s.acc.ending)

/-! ### Committing and sending (R82, R98) -/

/-- The slot-opening command that R90 and R91 ask for. -/
def Device.slotCmd (d : Device) (n : Nat) : AirCmd :=
  let s := d.sess n
  let q := d.get (fSesStatQ n)
  let qn := (s.qfp + 8) / 16
  if 2 ^ q ≤ s.slots || s.inv.getLsbD 9 || qn = q then .queryRep
  else if q < qn then .queryAdjust 6
  else .queryAdjust 3

/-- The command the session would send next: a planned one, or the next slot-opening command of its round. -/
def Device.nextCmd (d : Device) (n : Nat) : Option AirCmd :=
  let s := d.sess n
  match s.plan with
  | c :: _ => some c
  | [] =>
    if s.round.active && decide (0 < s.slots) && !s.acc.running && !s.acc.ready && !d.roundOver n then some (d.slotCmd n) else none

/-- May the session open slots in its present turn (R139)? -/
def Device.mayOpen (d : Device) (n : Nat) : Bool :=
  d.alone n || (d.hasTurn n && decide ((d.sess n).turnSlots < d.get fSchedCtrlTurnSlots))

/-- May the session commit command `c` now? It modulates only on a carrier in ON or DRAIN; under a hold only an exchange already open goes on (R84); an access sequence runs to its end. -/
def Device.commitOk (d : Device) (n : Nat) (c : AirCmd) : Bool :=
  let s := d.sess n
  let st := d.sesState n
  let car := d.carState (d.sesCar n)
  let open_ := s.phase = .decided && !c.opens
  (s.phase = .quiet || s.phase = .decided) && (car = 6 || car = 7) && s.spare.isNone
    && ((decide (4 ≤ st) && decide (st ≤ 7)) || (c = .nak && st = 2) || (st = 10 && (s.acc.running || open_)))
    && (s.acc.running || c = .nak || ((s.holds.isEmpty || open_) && (open_ || (d.mayOpen n && !(d.stream n).fresh && car = 6))))

/-- A Query with the settings in force at it (R75, R88); a planned `sel` above 3 takes INV.SEL. -/
def Device.fillQuery (d : Device) (n sel : Nat) : AirCmd × Device :=
  let link := d.rd (sesLink n)
  let inv := d.rd (sesInv n)
  let qc := d.rd (sesQctrl n)
  let q := min (max (bitsOf inv 8 5) (bitsOf qc 11 8)) (bitsOf qc 15 12)
  let d := (d.put (fSesStatQ n) q).modSes n (fun s => { s with link := link, inv := inv, qctrl := qc, qfp := 16 * q, slots := 0 })
  (.query (if 3 < sel then bitsOf inv 4 3 else sel) (bitsOf inv 1 0) (bitsOf inv 2 2) q (bitsOf link 4 4) (bitsOf link 6 5) (bitsOf link 7 7), d)

/-- Write the session's checkpoint, the two copies in turn (R82, R296). -/
def Device.checkpoint (d : Device) (n : Nat) : Device :=
  let s := d.sess n
  let seq := max s.ckA.seq s.ckB.seq + 1
  let k : Ckpt := { seq := seq, state := if d.sesState n = 8 then s.prev else d.sesState n, run := s.run, waiting := s.descs, chain := s.chain,
                    q := d.get (fSesStatQ n), qfp := s.qfp, slots := s.slots, round := s.round, acc := s.acc, plan := s.plan, single := s.single }
  let d := d.modSes n (fun s => if s.ckA.seq ≤ s.ckB.seq then { s with ckA := k } else { s with ckB := k })
  d.addWrap (fWord (pilCkpts (d.get (fSesStatPilot n)))) 1

/-- COMMAND_COMMIT: the pilot fixes the next command; at a slot boundary it writes the checkpoint first (R82). -/
def commandCommit (n : Nat) (d : Device) : Device :=
  match d.nextCmd n with
  | none => d
  | some c =>
    if !d.commitOk n c then d
    else
      let (c, d) := match c with
        | .query sel .. => d.fillQuery n sel
        | c => (c, d)
      let d := match c with
        | .queryAdjust 6 => d.put (fSesStatQ n) (d.get (fSesStatQ n) + 1)
        | .queryAdjust _ => d.put (fSesStatQ n) (d.get (fSesStatQ n) - 1)
        | _ => d
      let d := d.modSes n (fun s => { s with cmd := c, plan := s.plan.drop 1, phase := .committed })
      if !c.opens then d
      else
        let d := d.modSes n (fun s => { s with
          slots := (match c with | .queryRep => s.slots + 1 | _ => 1)
          opens := if s.holds.isEmpty then 0 else s.opens + 1
          turnSlots := s.turnSlots + 1
          single := false
          retry := 0
          round := if s.acc.ending then s.round else { s.round with opened := s.round.opened + 1 } })
        d.checkpoint n

/-- COMMAND_START: the delimiter starts (R98). A quiet interval ends here, and the noise estimates stand at what the interval gave (R109). -/
def commandStart (n : Nat) (noiseA noiseB : Nat) (d : Device) : Device :=
  let s := d.sess n
  if s.phase != .committed then d
  else
    let d := if d.on fRxfCfgNoiseHold then d else (d.put (fRxfNoiseA n) noiseA).put (fRxfNoiseB n) noiseB
    (d.put (fSesStatLastCmd n) s.cmd.code).modSes n (fun s => { s with
      phase := .sending
      round := if s.round.active && !s.round.begun && s.cmd.beginsRound then { s.round with begun := true, startTide := d.stamp } else s.round })

/-- After an access sequence: the ending command has gone out and the descriptor is over. -/
def Device.accessOver (d : Device) (n : Nat) : Device := (d.modSes n (fun s => { s with run := none })).sesDone n

/-! ### Access sequences (R94 … R97, R132) -/

/-- The slots of the messages that carry `bytes` data bytes (R144). -/
def resultSlots (bytes : Nat) : Nat :=
  let parts := max 1 ((bytes + 479) / 480)
  (List.range parts).foldl (fun a i => a + (32 + min 480 (bytes - 480 * i) + 63) / 64) 0

/-- Reply bits of a template with a fixed length (R116). -/
def Device.tplReply (d : Device) (n t : Nat) : Nat :=
  (d.tplFlag n t 5).toNat + d.tplLe n t 4 + 16 * (d.tplFlag n t 6).toNat + 16 * (d.tplFlag n t 7).toNat

/-- The slots of a descriptor's largest possible result (R149). -/
def Device.resultNeed (d : Device) (n : Nat) (x : Desc) : Nat :=
  let m := linkM (d.rd (sesLink n))
  if x.isTemplate then
    if !d.tplFlag n x.record 3 then 1
    else resultSlots (((if d.tplLe n x.record 4 = 0xFFFF then 16384 / m else d.tplReply n x.record) + 7) / 8)
  else if x.op = 0 then resultSlots (2 * (if x.byte 10 = 0 then (16384 / m - 33) / 16 else x.byte 10))
  else 1

/-- Is the template record malformed (R117)? -/
def Device.tplBad (d : Device) (n t : Nat) : Bool :=
  decide (d.tplLe n t 2 = 0) || decide (896 < d.tplLe n t 2) || decide (2 < d.tplByte n t 1)
    || (List.range 8).any (fun k => d.tplByte n t (8 + k) != 0)
    || (d.tplFlag n t 1 && d.tplByte n t 1 = 0) || (d.tplFlag n t 4 && d.tplLe n t 6 = 0)

/-- The check of a descriptor before anything of it is sent: 0, or its error (R111, R117, R149). -/
def Device.precheck (d : Device) (n : Nat) (x : Desc) : Nat :=
  let m := linkM (d.rd (sesLink n))
  if x.isTemplate && d.tplBad n x.record then 0x0F
  else if x.isTemplate && d.tplFlag n x.record 3 && d.tplLe n x.record 4 != 0xFFFF && decide (16384 < d.tplReply n x.record * m) then 0x0E
  else if !x.isTemplate && x.op = 0 && x.byte 10 != 0 && decide (16384 < (33 + 16 * x.byte 10) * m) then 0x0E
  else if d.mDepth n < d.resultNeed n x + 8 then 0x12
  else 0

/-- Plan the command of the present step. -/
def Device.planStep (d : Device) (n : Nat) : Device :=
  let s := d.sess n
  match s.run, s.acc.steps with
  | some x, st :: _ => d.modSes n (fun s => { s with plan := [d.stepCmd n x st] })
  | _, _ => d

/-- The sequence goes on with the next chained descriptor, or ends: with QueryRep where a tag was singulated (R94). -/
def Device.accNext (d : Device) (n : Nat) : List Desc → Device
  | [] =>
    let d := d.modSes n (fun s => { s with run := none, chain := [], acc := { s.acc with steps := [], ending := true }, plan := [.queryRep] })
    if (d.sess n).acc.handle.isNone && !(d.sess n).round.active then d.accessOver n else d.showFlight n
  | y :: rest =>
    if (d.sess n).acc.handle.isNone then
      ((d.modSes n (fun s => { s with run := none, chain := rest })).retire n y 0x15 0).accNext n rest
    else
    let d := d.modSes n (fun s => { s with run := some y, chain := rest })
    match d.precheck n y with
    | 0 => (d.modSes n (fun s => { s with acc := { s.acc with steps := y.opSteps, tries := 0 } })).planStep n
    | e => ((d.modSes n (fun s => { s with run := none })).retire n y e 0).accNext n rest

/-- The sequence ends without a valid handle for what is chained (R132). -/
def Device.accBreak (d : Device) (n : Nat) : Device :=
  let s := d.sess n
  let d := d.forAll s.chain (fun d y => d.retire n y 0x15 0)
  (d.modSes n (fun s => { s with chain := [] })).accNext n []

/-- An operation is reported and the sequence goes on (R97). -/
def Device.accReport (d : Device) (n : Nat) (x : Desc) (code tagCode checks : Nat) (bits : List Bool) : Device :=
  (d.accessResult n x code tagCode checks bits).accNext n (d.sess n).chain

/-- A reply to the present step failed: the step is repeated up to RETRY times, with a fresh RN16 where data is covered; after that NO_REPLY ends the sequence (R95). -/
def Device.accFail (d : Device) (n : Nat) : Device :=
  let s := d.sess n
  match s.run, s.acc.steps with
  | some x, st :: rest =>
    if s.acc.tries < bitsOf s.rxcfg 5 4 then
      (d.modSes n (fun s => { s with acc := { s.acc with
        tries := s.acc.tries + 1, steps := if st.covered x then .cover :: st :: rest else st :: rest } })).planStep n
    else (d.accessResult n x 0x0B 0 0 []).accBreak n
  | _, _ => d

/-- A step has succeeded. -/
def Device.accStepDone (d : Device) (n : Nat) (x : Desc) (data : List Bool) : Device :=
  match (d.sess n).acc.steps with
  | [] => d
  | st :: rest =>
    if rest.isEmpty then d.accReport n x 0 0 3 data
    else
      -- the repeats of a covered step count from its Req_RN on
      (d.modSes n (fun s => { s with acc := { s.acc with steps := rest, tries := if st = .cover then s.acc.tries else 0 } })).planStep n

/-- Do the last 16 bits hold the CRC-16 of those before them? -/
def crcHolds (bits : List Bool) : Bool :=
  decide (16 ≤ bits.length) && decide (packNat (bits.drop (bits.length - 16)) = crc16 (bits.take (bits.length - 16)))
where
  /-- Bits as a number, first bit most significant. -/
  packNat (b : List Bool) : Nat := b.foldl (fun v x => 2 * v + x.toNat) 0

/-- Bits as a number, first bit most significant. -/
def bitNat (b : List Bool) : Nat := b.foldl (fun v x => 2 * v + x.toNat) 0

/-- Count a failed CRC-16 check (R107). -/
def Device.crcFailed (d : Device) (n : Nat) : Device := d.count (fHalf (sesCrcFail n))

/-- Judge the reply to the present step (R95, R97, R111, R116). -/
def Device.accJudge (d : Device) (n : Nat) (coded : Bool) (bits : List Bool) : Device :=
  let s := d.sess n
  match s.run, s.acc.steps with
  | some x, st :: _ =>
    let len := bits.length
    let m := linkM s.link
    let h := s.acc.handle.getD 0
    if !coded then d.accFail n
    else match st with
    | .handle | .cover =>
      if len != 32 then d.accFail n
      else if !crcHolds bits then (d.crcFailed n).accFail n
      else
        let v := bitNat (bits.take 16)
        (d.modSes n (fun s => { s with acc := if st = .handle then { s.acc with handle := some v } else { s.acc with cover := v } })).accStepDone n x []
    | .exchange =>
      let t := x.record
      if d.tplFlag n t 5 && len = 41 && bits.headD false then
        if !crcHolds bits then (d.crcFailed n).accFail n
        else d.accReport n x 0x0C (bitNat ((bits.drop 1).take 8)) (2 + (decide (bitNat ((bits.drop 9).take 16) = h)).toNat) bits
      else if d.tplLe n t 4 = 0xFFFF && decide (16384 < len * m) then (d.accessResult n x 0x0E 0 0 []).accBreak n
      else if d.tplLe n t 4 != 0xFFFF && len != d.tplReply n t then d.accFail n
      else
        let crcOn := d.tplFlag n t 7
        let crc := crcOn && crcHolds bits
        let tail := if crcOn then 32 else 16
        let hnd := d.tplFlag n t 6 && decide (tail ≤ len) && decide (bitNat ((bits.drop (len - tail)).take 16) = h)
        let d := d.when (crcOn && !crc) (fun d => d.crcFailed n)
        d.accReport n x 0 0 (hnd.toNat + 2 * crc.toNat) bits
    | _ =>
      let headed := match st with | .op => true | .killStep k => k = 1 | _ => false
      let want := if !headed then 32 else if st = .op && x.op = 0 then 33 + 16 * x.byte 10
        else if st = .op && x.op = 5 && decide (x.byte 5 < 128) then 33 + 16 * x.byte 10 else 33
      let free := st = .op && x.op = 0 && x.byte 10 = 0
      if len = 41 && bits.headD false then
        if !crcHolds bits then (d.crcFailed n).accFail n
        else if bitNat ((bits.drop 9).take 16) != h then d.accFail n
        else d.accReport n x 0x0C (bitNat ((bits.drop 1).take 8)) 3 []
      else if free && decide (16384 < len * m) then (d.accessResult n x 0x0E 0 0 []).accBreak n
      else if !(if free then decide (33 ≤ len) && (len - 33) % 16 = 0 else len = want) then d.accFail n
      else if !crcHolds bits then (d.crcFailed n).accFail n
      else if bitNat ((bits.drop (len - 32)).take 16) != h || (headed && bits.headD false) then d.accFail n
      else d.accStepDone n x (if headed then (bits.drop 1).take (len - 33) else [])
  | _, _ => d

/-- COMMAND_END: the last symbol ends (R98). -/
def commandEnd (n : Nat) (d : Device) : Device :=
  let s := d.sess n
  if s.phase != .sending then d
  else if d.expects n then d.modSes n (fun s => { s with phase := .waiting })
  else
    let d := d.modSes n (fun s => { s with phase := .quiet })
    if s.acc.ending then d.accessOver n
    else match s.cmd, s.run with
      | .template .., some x => (d.noLevel n).accReport n x 0 0 0 []
      | _, _ => d

/-! ### Reply windows and receptions (R99 … R109) -/

/-- Receive weights that wait take effect at a reply window (R133). -/
def Device.rxTake (d : Device) (n : Nat) : Device :=
  let s := d.stream n
  let d := match s.pendA with
    | some (f, w) => (d.putRx n false f w).noiseRestart n true false
    | none => d
  let d := match s.pendB with
    | some (f, w) => (d.putRx n true f w).noiseRestart n false true
    | none => d
  d.modStream n (fun s => { s with pendA := none, pendB := none })

/-- REPLY_WINDOW_OPEN (R99): RXCFG and new receive weights take effect (R75, R133). -/
def replyWindowOpen (n : Nat) (d : Device) : Device :=
  if (d.sess n).phase != .waiting then d
  else ((d.modSes n (fun s => { s with phase := .window, rxcfg := d.rd (sesRxcfg n) })).rxTake n)

/-- REPLY_WINDOW_CLOSE (R99): no preamble has begun in the window. A delayed-reply window stays open (R96). -/
def replyWindowClose (n : Nat) (d : Device) : Device :=
  if (d.sess n).phase = .window && !d.delayedNow n then d.modSes n (fun s => { s with phase := .closed }) else d

/-- Ask for a direction estimate on the snapshot of an EPC reply's detection (R182, R184, R185). -/
def Device.estAsk (d : Device) (n : Nat) : Device :=
  let s := d.sess n
  let isAck := match s.cmd with | .ack _ => true | _ => false
  let noDir := match s.run with | some x => x.byte 0 = 0x10 && (x.byte 9).testBit 1 | none => false
  if !isAck || noDir then d
  else
    let q := d.bf.est.filter (fun e => e.session != n) ++ [⟨n⟩]
    { d.modSes n (fun s => { s with dir := none }) with bf := { d.bf with est := q } }.put fBfStatEstQueue (min 16 q.length)

/-- PREAMBLE_DETECT: the correlators' metrics at an alignment, in 0.01 dB (R103 … R106). `early` says that a reception in progress is within its first 12 bit periods. -/
def preambleDetect (n : Nat) (a b : Int) (early : Bool) (d : Device) : Device :=
  let s := d.sess n
  let sel := bitsOf s.rxcfg 3 2
  let thr : Int := 25 * (bitsOf s.rxcfg 15 8 : Nat)
  let onA := sel != 2 && decide (thr ≤ a)
  let onB := sel != 1 && decide (thr ≤ b)
  let setB := sel = 2 || (sel != 1 && decide (a < b))
  let best := if setB then b else a
  let take (d : Device) (again : Bool) : Device :=
    let d := d.modSes n (fun s => { s with phase := .receiving, rx := { s.rx with setB := setB, dA := a, dB := b, tide := d.stamp, restarted := again } })
    let d := (d.putB (fSesStatLastSet n) setB).count (if setB then fSesSetWinsB n else fSesSetWinsA n)
    d.estAsk n
  if !(onA || onB) then d
  else if s.phase = .window then take d false
  else if s.phase = .receiving && early && decide ((if s.rx.setB then s.rx.dB else s.rx.dA) + 300 ≤ best) then
    (take d true).count (fHalf (sesRestarts n))
  else d

/-- The measurements of a reception are written at its end (R108, R109). -/
def Device.rxShow (d : Device) (n tpri : Nat) : Device :=
  let s := d.sess n
  let (qa, d) := d.divOpen s.rx.dA 25
  let (qb, d) := d.divOpen s.rx.dB 25
  let det : Nat := (clampInt 0 255 qa).toNat + 256 * (clampInt 0 255 qb).toNat + 65536 * s.rx.setB.toNat + 131072 * s.rx.restarted.toNat
  let d := d.wr (rxfDet n) (BitVec.ofNat 32 det)
  let (t, d) := d.divNearest tpri 1000
  let (e, d) := d.divOpen ((tpri * bitsOf s.link 17 8 : Nat) - (10 ^ 9 : Nat) : Int) 100000
  (d.put (fRxfTpriTpri n) (min 65535 t.toNat)).putSat (fRxfTpriErr n) e

/-- A reply level (R175): 10 log10 of the power over the squared magnitude sum, in 0.01 dBm. -/
def replyLevel (power : BitVec 64) (ws : List Word) : Nat :=
  let m := magSum ws / 32768
  if power = 0 ∨ m ≤ 0 then 0x8000
  else twosOf 16 (clampInt (-32767) 32767 (fxRound (fxDb20 power.toNat / 2 - fxDb20 m)))

/-- A complete reply enters the berth (R110, R112); a held berth keeps its content. -/
def Device.berthFill (d : Device) (n : Nat) (r : Reply) : Device :=
  let s := d.sess n
  if d.on (fSesBerthFrozen n) then d
  else
    let len := min 65536 (4 * r.bits.length * linkM s.link)
    let d := { d with sram := writeBytes zeroByte d.sram (0x0800000 + 0x40000 * n) ((r.samples.take len).flatMap (fun (w : Word) => leBytes 4 w.toNat)) }
    let d := (d.put (fSesBerthLen n) len).putB (fSesBerthSet n) s.rx.setB
    if d.on (fSesBerthFreeze n) then (d.put (fSesBerthFrozen n) 1).holdAsk n 4 else d

/-- A reception ends with a reply (R107): its measurements, levels and berth. -/
def Device.rxEnd (d : Device) (n : Nat) (r : Reply) : Device :=
  let d := d.rxShow n r.tpri.toNat
  let a := replyLevel r.powerA (d.weights (16 + n))
  let b := replyLevel r.powerB (d.weights (32 + n))
  let d := d.modSes n (fun s => { s with phase := .decided, rx := { s.rx with rssiA := a, rssiB := b } })
  if r.coded then d.berthFill n r else d

/-! ### Slots (R89) -/

/-- A reply to ACK failed: the ACK is repeated up to RETRY times, then the slot is collided (R89). -/
def Device.ackFail (d : Device) (n : Nat) : Device :=
  let s := d.sess n
  if s.retry < bitsOf s.rxcfg 5 4 && d.sesState n != 8 then
    d.modSes n (fun s => { s with retry := s.retry + 1, plan := [.ack s.rn16] })
  else d.slotDecided n .collided

/-- Is the session's descriptor looking for a target (R132)? -/
def Device.searching (d : Device) (n : Nat) : Bool :=
  match (d.sess n).run with
  | some x => (x.byte 0 = 0x11 || x.byte 0 = 0x12) && !(d.sess n).acc.running
  | none => false

/-- TARGET of an ACCESS or TEMPLATE descriptor. -/
def Desc.target (x : Desc) : Nat := if x.isTemplate then x.byte 5 else x.byte 11

/-- Is a tag with this EPC the target (R132)? -/
def Device.isTarget (d : Device) (x : Desc) (epc : List Byte) : Bool :=
  match x.target with
  | 0 => true
  | 1 => entryMatches (d.entry (x.le 24 2)) epc
  | _ => decide (epc.take 4 = (x.bytes.drop 24).take 4)

/-- The parts of an EPC reply (R92): PC, XPC_W1, XPC_W2, EPC; none where the bits do not fill it exactly. -/
def parseEpc (bits : List Bool) : Option (Nat × Nat × Nat × List Byte) :=
  let w (i : Nat) : Nat := bitNat ((bits.drop (16 * i)).take 16)
  let pc := w 0
  let xi := pc.testBit 9
  let x1 := if xi then w 1 else 0
  let xeb := xi && x1.testBit 15
  let k := 1 + xi.toNat + xeb.toNat
  let l := pc / 2048
  if bits.length = 16 * (k + l + 1) then
    some (pc, x1, if xeb then w 2 else 0, packBits ((bits.drop (16 * k)).take (16 * l)))
  else none

/-- A tag is singulated (R89): TAG_SEEN, the manifest, and the target of an access. -/
def Device.singulated (d : Device) (n pc x1 x2 : Nat) (epc : List Byte) : Device :=
  let s := d.sess n
  let c := d.sesCar n
  let cookie := match s.run with | some x => x.cookie | none => 0
  let sight : Sighting := {
    session := n, setB := s.rx.setB, pc := pc, xpc1 := x1, xpc2 := x2, epc := epc,
    rssi := if s.rx.setB then s.rx.rssiB else s.rx.rssiA, rssiA := s.rx.rssiA, rssiB := s.rx.rssiB, dir := s.dir,
    restarted := s.rx.restarted, tide := s.rx.tide, cookie := cookie,
    carrier := c, freqKhz := (d.car c).hz / 1000 }
  let noMan := match s.run with | some x => x.byte 0 = 0x10 && (x.byte 9).testBit 0 | none => false
  let d := d.slotDecided n .single
  let d := if noMan then d.sightedOnly sight else d.sighted sight
  match s.run with
  | some x => if d.searching n && d.isTarget x epc then d.modSes n (fun s => { s with acc := { s.acc with ready := true } }) else d
  | none => d

/-- The RN16 of a slot is decided: the ACK follows, or is withheld for ring space or for a hold that has waited YIELD slots (R84, R148). -/
def Device.rn16Decided (d : Device) (n rn : Nat) : Device :=
  let s := d.sess n
  let d := d.modSes n (fun s => { s with rn16 := rn, retry := 0 })
  if d.mFree n < 8 then (((d.count (fRingHoldsAck n)).count (fHalf (sesLostSlots n))).holdAsk n 3)
  else if !s.holds.isEmpty && decide (bitsOf s.qctrl 19 16 ≤ s.opens) then d.count (fHalf (sesLostSlots n))
  else d.modSes n (fun s => { s with plan := [.ack rn] })

/-- REPLY_DECISION: the last symbol of a reply of a slot is decided (R89, R92, R100). -/
def replyDecision (n : Nat) (r : Reply) (d : Device) : Device :=
  let s := d.sess n
  if s.phase != .receiving || s.acc.running then d
  else
    let d := d.rxEnd n r
    match s.cmd with
    | .ack _ =>
      if !r.coded then d.ackFail n
      else match parseEpc r.bits with
        | none => d.ackFail n
        | some (pc, x1, x2, epc) => if crcHolds r.bits then d.singulated n pc x1 x2 epc else (d.crcFailed n).ackFail n
    | c =>
      if !c.opens then d
      else if r.coded && r.bits.length = 16 then d.rn16Decided n (bitNat r.bits)
      else d.slotDecided n .collided

/-- ACCESS_REPLY_DECISION: the reply to an access command is decided, which is a slot boundary (R82, R95). -/
def accessReplyDecision (n : Nat) (r : Reply) (d : Device) : Device :=
  let s := d.sess n
  if s.phase != .receiving || !s.acc.running then d
  else ((d.rxEnd n r).accJudge n r.coded r.bits).checkpoint n

/-- No valid reply came to the command sent last. -/
def Device.noReply (d : Device) (n : Nat) (empty : Bool) : Device :=
  let s := d.sess n
  if s.acc.running then (d.noLevel n).accFail n
  else match s.cmd with
    | .ack _ => d.ackFail n
    | c => if c.opens then d.slotDecided n (if empty then .empty else .collided) else d

/-- EMPTY_SLOT_DECISION (R102): no preamble was detected. A round held for a carrier event ends with it (R86). -/
def emptySlotDecision (n : Nat) (d : Device) : Device :=
  if (d.sess n).phase != .closed then d
  else
    let d := (d.modSes n (fun s => { s with phase := .quiet })).noReply n true
    d.when (d.sesState n = 8 && (d.sess n).holds.contains 5) (fun d => d.endRound n true false false)

/-- RECEPTION_FAILED (R107): the subcarrier is lost. -/
def receptionFailed (n tpri : Nat) (d : Device) : Device :=
  if (d.sess n).phase != .receiving then d
  else ((d.rxShow n tpri).modSes n (fun s => { s with phase := .decided })).noReply n false

/-- DELAYED_REPLY_TIMEOUT (R96, R115). -/
def delayedReplyTimeout (n : Nat) (d : Device) : Device :=
  if (d.sess n).phase = .window && d.delayedNow n then ((d.modSes n (fun s => { s with phase := .quiet })).noLevel n).accFail n else d

/-! ### Rounds -/

/-- Take the group's turn where it is free, or hold for it (R139, R140). -/
def Device.claimTurn (d : Device) (n : Nat) : Device :=
  if d.hasTurn n || d.alone n then d
  else if (List.range 16).any (fun m => m != n && d.group m = d.group n && d.hasTurn m) then d.holdAsk n 1
  else (d.setTurn n true).modSes n (fun s => { s with turnSlots := 0 })

/-- The stored Selects that a SELECTS byte names, in stored order; none where one lacks its CONT part (R88, R131). -/
def Device.selectPlan (d : Device) (n sels : Nat) : Option (List AirCmd) :=
  (List.range 8).foldl (fun acc t => match acc with
    | none => none
    | some l => if !sels.testBit t then some l else match (d.sess n).selects.getD t none with
      | none => some l
      | some e => if e.whole then some (l ++ [.select e]) else none) (some [])

/-- The one Select of a search for TARGET 1 or 2 (R132). -/
def Device.targetSelect (d : Device) (x : Desc) : AirCmd :=
  let e := d.entry (x.le 24 2)
  let len := min 32 (entryByte e 1)
  let (mask, bits) := if x.target = 1 then ((e.drop 32).take len, min 255 (8 * len)) else ((x.bytes.drop 24).take 4, 32)
  .select { target := 4, action := 0, bank := 1, pointer := 0x20, length := bits, mask := mask, whole := true }

/-- The plan of a round of the running descriptor. -/
def Device.roundPlan (d : Device) (n : Nat) (x : Desc) : Option (List AirCmd) :=
  let query (sel : Nat) : List AirCmd := [.query sel 0 0 0 0 0 0]
  match x.byte 0 with
  | 0x10 => (d.selectPlan n (x.byte 8)).map (· ++ query 4)
  | 0x14 => (d.selectPlan n (x.byte 16)).map (· ++ query 4)
  | _ =>
    if x.target = 0 then (d.selectPlan n (x.byte 30)).map (· ++ query 4)
    else some ((if (d.sess n).acc.rounds = 0 then [d.targetSelect x] else []) ++ query 3)

/-- Has the running descriptor a round to run: an INVENTORY in ROUND, a search, or a SURVEY inside a sector? -/
def Device.roundDue (d : Device) (n : Nat) (x : Desc) : Bool :=
  let s := d.sess n
  match x.byte 0 with
  | 0x10 => d.sesState n = 4 || (d.sesState n = 3 && d.on (fSesTrigEn n) && d.on (fSesTrigPending n))
  | 0x11 => d.sesState n = 5 && !s.acc.running && !s.acc.ready && !s.acc.ending
  | 0x12 => d.sesState n = 6 && !s.acc.running && !s.acc.ready && !s.acc.ending
  | 0x14 => d.sesState n = 7 && x.started && !s.sectorsOver && decide (x.rounds < x.le 14 2)
  | _ => false

/-- ROUND_START: a due round begins, its Selects and Query planned (R88, R118). A session without its group's turn asks for the hold. -/
def roundStart (n : Nat) (d : Device) : Device :=
  let s := d.sess n
  match s.run with
  | none => d
  | some x =>
    if s.round.active || !s.holds.isEmpty || !d.roundDue n x || !d.sesQuiet n || d.carState (d.sesCar n) != 6 then d
    else
      let d := d.claimTurn n
      if !(d.sess n).holds.isEmpty then d
      else match d.roundPlan n x with
        | none => d.retireRun n 0x10 0
        | some plan =>
          let armed := d.sesState n = 3
          let d := d.when armed (fun d => d.put (fSesTrigPending n) 0)
          let trig := armed || s.round.triggered
          let d := d.modSes n (fun s => { s with plan := plan, slots := 0, single := false, phase := .quiet, round := { active := true, triggered := trig } })
          if armed then d.sesGo n 4 0 else d

/-- Has the TIME_LIMIT of an INVENTORY passed? -/
def Device.timeOver (d : Device) (x : Desc) : Bool :=
  x.le 6 2 != 0 && decide (x.startTide + x.le 6 2 * 1024000 < d.stamp)

/-- A whole round of the running descriptor has ended (R91, R79, R132). -/
def Device.finishRound (d : Device) (n : Nat) (x : Desc) : Device :=
  let s := d.sess n
  let d := d.when (s.inv.getLsbD 10 && s.round.singles = 0) (fun d => d.putB (fSesInvTarget n) (!d.on (fSesInvTarget n)))
  let x' := { x with rounds := x.rounds + 1 }
  match x.byte 0 with
  | 0x10 =>
    let last := (x.le 4 2 != 0 && decide (x.le 4 2 ≤ x.rounds + 1)) || d.timeOver x
    let d := d.endRound n false false last
    if last then (d.modSes n (fun s => { s with run := none })).sesDone n
    else
      let d := d.modSes n (fun s => { s with run := some x' })
      if d.sesState n = 8 then d.modSes n (fun s => { s with round := { s.round with waits := true } }) else d.nextRound n
  | 0x14 =>
    let total := x.byte 12 * x.byte 13
    let last := decide (x.le 14 2 ≤ x.rounds + 1) && decide (total ≤ x.sector + 1)
    (d.endRound n false false last).modSes n (fun s => { s with run := some x' })
  | _ =>
    let tried := s.acc.rounds + 1
    let d := (d.endRound n false false false).modSes n (fun s => { s with acc := { s.acc with rounds := tried } })
    if x.byte 29 ≤ tried then d.retireRun n 0x0D 0 else d

/-- ROUND_END: the first quiet point after 2^Q slots (R91). -/
def roundEnd (n : Nat) (d : Device) : Device :=
  let s := d.sess n
  match s.run with
  | none => d
  | some x =>
    if d.roundOver n && d.sesQuiet n && !s.acc.running && !s.acc.ready && decide (4 ≤ d.sesState n) && decide (d.sesState n ≤ 8) then d.finishRound n x
    else d

/-- ACCESS_SEQUENCE_START: the target has just been singulated and the sequence begins with its Req_RN (R94). It starts under no hold (R84), and once the manifest engine has served the tag. -/
def accessSequenceStart (n : Nat) (d : Device) : Device :=
  let s := d.sess n
  match s.run with
  | none => d
  | some x =>
    if !s.acc.ready || !s.holds.isEmpty || d.man.queue.any (fun e => match e with | .inl t => t.session = n | .inr _ => false) then d
    else
      let d := d.modSes n (fun s => { s with acc := { s.acc with ready := false, running := true, steps := .handle :: x.opSteps, tries := 0 } })
      d.planStep n

/-- TURN_END: the holder stands at a quiet point after the last slot of its turn, and the turn passes on by claim (R139, R140). -/
def turnEnd (n : Nat) (d : Device) : Device :=
  let s := d.sess n
  if d.alone n || !d.hasTurn n || s.turnSlots < d.get fSchedCtrlTurnSlots || s.acc.running || !d.sesQuiet n then d
  else
    let d := (d.setTurn n false).modSes n (fun s => { s with turnEnd := d.stamp, turnSlots := 0, acc := { s.acc with ready := false } })
    let d := d.turnPass n
    if d.hasTurn n then d else d.when (d.needsAir n) (fun d => d.holdAsk n 1)

end Sys2Proof.Machine
end

