-- ==== Sys2Proof/Machine/Sec.lean ====
section
/-!
DEFINITION. Levels, the challenge-response session, keys, sealing and tamper events (R516 … R532).
-/
namespace Sys2Proof.Machine

/-- Make STAT show the key cells, the seal and the always-on failure record (R532). -/
def Device.secShow (d : Device) : Device :=
  let d := ((d.putB fSecStatSealed d.sec.sealed).putB fSecStatKOpSet d.sec.kOp.isSome).putB fSecStatKProvSet d.sec.kProv.isSome
  ((d.put fSecStatFails (min d.sec.fails 255)).putB fSecStatBackoff (d.sec.backoff != 0)).wr secBackoffLeft (BitVec.ofNat 32 d.sec.backoff)

/-- The present session level. -/
def Device.level (d : Device) : Nat := d.get fSecStatLevel

/-- Set the level; under LOCKDOWN it stays OPEN (R531). -/
def Device.setSessionLevel (d : Device) (n : Nat) : Device := d.put fSecStatLevel (if d.on fSecStatLockdown then 0 else n)

/-- Restart the idle timer (R522). -/
def Device.idleRestart (d : Device) : Device := d.wr secIdleLeft (BitVec.ofNat 32 (d.get fSecCfgIdleTo))

/-- The level is granted as at a matching VERIFY (R519, R521). -/
def Device.secGrant (d : Device) (n : Nat) : Device :=
  let d := { d with sec := { d.sec with fails := 0 } }.secShow
  (((d.setSessionLevel n).put fSecStatResult 1).irq 0x06 0).idleRestart

/-- The key of a level, where it is set. -/
def SecSt.key (s : SecSt) (level : Nat) : Option (List Byte) := if level = 1 then s.kOp else s.kProv

/-- OPEN_REQ: a challenge, or the level at once where its key is not set and the device not sealed (R518, R521). The nonce is a free value. -/
def Device.secOpen (d : Device) (level : Nat) : Device :=
  if (d.sec.key level).isNone && !d.sec.sealed then d.secGrant level
  else
    let (a, d) := d.takeFree
    let (b, d) := d.takeFree
    let d := (((d.wr (secChal 0) (a.extractLsb' 0 32)).wr (secChal 1) (a.extractLsb' 32 32)).wr (secChal 2) (b.extractLsb' 0 32)).wr (secChal 3) (b.extractLsb' 32 32)
    let d := (d.addWrap (fWord secSeq) 1).put fSecStatChalValid 1
    { d with sec := { d.sec with reqLevel := level } }

/-- Four bytes of a word, least significant first. -/
def wordBytes (w : Word) : List Byte :=
  [w.extractLsb' 0 8, w.extractLsb' 8 8, w.extractLsb' 16 8, w.extractLsb' 24 8]

/-- The 32-byte message M of the exchange (R518). -/
def Device.secMessage (d : Device) : List Byte :=
  [0x4A, 0x48, BitVec.ofNat 8 d.sec.reqLevel, 0] ++ wordBytes (d.rd sysIdentLo) ++ wordBytes (d.rd sysIdentHi)
    ++ wordBytes (d.rd secSeq) ++ wordBytes (d.rd (secChal 0)) ++ wordBytes (d.rd (secChal 1))
    ++ wordBytes (d.rd (secChal 2)) ++ wordBytes (d.rd (secChal 3))

/-- The back-off in ms after a failure, FAILS being its new count (R523). -/
def backoffMs (fails : Nat) : Nat := 16 * 2 ^ min (fails - 1) 12

/-- VERIFY: the MAC the device computes is compared with the response (R519). -/
def Device.secVerify (d : Device) : Device :=
  let ok := match d.sec.key d.sec.reqLevel with
    | some k => (d.sec.resp.toList.flatMap wordBytes) == hmac k d.secMessage
    | none => false
  let d := d.put fSecStatChalValid 0
  if ok then d.secGrant d.sec.reqLevel
  else
    let n := d.sec.fails + 1
    ((({ d with sec := { d.sec with fails := n, backoff := backoffMs n } }).secShow.put fSecStatResult 2).irq 0x06 0)

/-- CHALLENGE_EXPIRY, 10 s after the challenge (R520). -/
def challengeExpiry (d : Device) : Device := d.put fSecStatChalValid 0

/-- IDLE_TIMEOUT: the level falls to OPEN (R522). -/
def idleTimeout (d : Device) : Device :=
  if d.level = 0 then d else ((d.setSessionLevel 0).wr secIdleLeft 0).irq 0x06 0

/-- BACKOFF_EXPIRY (R523). -/
def backoffExpiry (d : Device) : Device := { d with sec := { d.sec with backoff := 0 } }.secShow

/-- The key check value: bytes 0–3 of HMAC-SHA-256(key, "KCV0") (R524). -/
def keyCheck (k : List Byte) : Word := BitVec.ofNat 32 (leNat ((hmac k [0x4B, 0x43, 0x56, 0x30]).take 4))

/-- WRITE_OP or WRITE_PROV takes the key from KEY_BUF (R524). -/
def Device.keyWrite (d : Device) (prov : Bool) : Device :=
  { d with sec := { d.sec with keyRun := some (prov, d.sec.keyBuf.toList.flatMap wordBytes) } }

/-- KEY_WRITE_DONE: the program and its verify end, `ok` being the verify (R524). -/
def keyWriteDone (ok : Bool) (d : Device) : Device :=
  match d.sec.keyRun with
  | none => d
  | some (prov, k) =>
    let d := { d with sec := { d.sec with keyRun := none, keyBuf := Vector.replicate 8 0 } }
    if !ok then d.put fSecStatResult 3
    else if prov then { d.wr secKcvProv (keyCheck k) with sec := { d.sec with kProv := some k } }.secShow
    else { d.wr secKcvOp (keyCheck k) with sec := { d.sec with kOp := some k } }.secShow

/-- SEAL_ARM_EXPIRY (R527). -/
def sealArmExpiry (d : Device) : Device := { d with sec := { d.sec with armed := false } }

/-- The seal holds from here on: SEALED, REGL.STAT.STATE = 2, and the level at most OPERATOR (R527). -/
def Device.sealNow (d : Device) : Device :=
  let d := ({ d with sec := { d.sec with sealed := true, sealing := false } }.secShow.put fOptStatSealed 1).put fReglStatState 2
  if d.level = 2 then d.setSessionLevel 1 else d

/-- SEAL_DONE (R527). -/
def sealDone (d : Device) : Device := if d.sec.sealing then d.sealNow else d

/-- TAMPER_EVENT of a cause (R530, R531). -/
def tamperEvent (cause : Nat) (d : Device) : Device :=
  let aborted := d.sec.keyRun.isSome || d.sec.sealing
  let d := ((d.put ⟨secTamper, 16 + cause, 16 + cause⟩ 1).count fSecTamperCount).irq 0x06 1
  let d := { d with sec := { d.sec with keyRun := none, sealing := false, armed := false, tampers := d.sec.tampers + 1 } }
  let d := d.when aborted (fun d => d.put fSecStatResult 4)
  let d := (d.put fSecStatChalValid 0).put fSecStatLevel 0
  d.when (decide (d.get fSecCfgTamperLimit ≤ d.sec.tampers)) (fun d => d.put fSecStatLockdown 1)

/-- May sealing start (R527)? -/
def Device.sealOk (d : Device) : Bool :=
  d.sec.armed && d.sec.kOp.isSome && d.on fOptStatProfileValid && d.on fOptStatBcValid && !d.on fOptStatBusy
    && d.sec.keyRun.isNone && !d.sec.sealing

/-- Which writes of the SEC page are applied; `level` is the one checked as the write entered the queue (R517, R520, R525, R527, R532). -/
def secWriteOk (d : Device) (level off : Nat) (v : Word) : Bool :=
  if off = 0x10 then
    let n := fSecCmdLevel.of v
    match fSecCmdAction.of v with
    | 1 => d.sec.backoff = 0 && !d.on fSecStatLockdown && (n = 1 || n = 2) && !(n = 2 && d.sec.sealed)
    | 2 => d.on fSecStatChalValid
    | 3 => true
    | _ => false
  else if off = 0x12 then
    decide (1 ≤ fSecCfgIdleTo.of v) && decide (fSecCfgIdleTo.of v ≤ 3600) && decide (1 ≤ fSecCfgTamperLimit.of v)
  else if off = 0x17 then
    decide (2 ≤ level) && !d.sec.sealed && d.sec.keyRun.isNone &&
      (match fSecKeyCmdAction.of v with
        | 1 => d.sec.kOp.isNone
        | 2 => d.sec.kProv.isNone
        | 3 => true
        | 4 => d.sealOk
        | _ => false)
  else true

/-- The effect of an applied SEC write. -/
def secWritten (off : Nat) (v : Word) (d : Device) : Device :=
  if off = 0x10 then
    match fSecCmdAction.of v with
    | 1 => d.secOpen (fSecCmdLevel.of v)
    | 2 => d.secVerify
    | 3 => d.setSessionLevel 0
    | _ => d
  else if off = 0x17 then
    match fSecKeyCmdAction.of v with
    | 1 => d.keyWrite false
    | 2 => d.keyWrite true
    | 3 => { d with sec := { d.sec with armed := true } }
    | 4 => { d with sec := { d.sec with sealing := true, armed := false } }
    | _ => d
  else if 0x28 ≤ off ∧ off < 0x30 then { d with sec := { d.sec with resp := d.sec.resp.setIfInBounds (off - 0x28) v } }
  else if 0x30 ≤ off ∧ off < 0x38 then { d with sec := { d.sec with keyBuf := d.sec.keyBuf.setIfInBounds (off - 0x30) v } }
  else d

end Sys2Proof.Machine
end

