-- ==== Sys2Proof/Machine/Sspm.lean ====
section
/-!
DEFINITION. The serial master port: transfers, status polling, the SFDP read and the direct-execute window (R487 … R499), with the waiting HBUS accesses that its end of work releases.
-/
namespace Sys2Proof.Machine

/-- Is a programmed transfer or the SFDP read running or waiting its turn (STAT.BUSY)? -/
def SspmJob.isTransfer : SspmJob → Bool
  | .transfer | .sfdp => true
  | _ => false

/-- Is it the program of a closed page buffer? -/
def SspmJob.isProgram : SspmJob → Bool
  | .program _ => true
  | _ => false

/-- PAGE_STAT.STATE for the job at the front (R499). -/
def SspmSt.stateNo (s : SspmSt) : Nat :=
  match s.jobs.head? with
  | none => 0
  | some .transfer => if s.polling then 4 else 1
  | some .sfdp => 5
  | some (.fetch _) => 2
  | some (.program _) => if s.polling then 4 else 3

/-- Are window writes not yet applied for R38? -/
def SspmSt.writesPending (s : SspmSt) : Bool := s.page.isSome || s.jobs.any SspmJob.isProgram

/-- Show SSP_M's work in STAT.BUSY, XIP_STAT.PROG and PAGE_STAT. -/
def Device.sspmShow (d : Device) : Device :=
  (((d.putB fSspmStatBusy (d.sspm.jobs.any SspmJob.isTransfer)).putB fSspmXipStatProg d.sspm.writesPending).putB
    (fPsBusy 0x0D) (!d.sspm.jobs.isEmpty)).put (fPsState 0x0D) d.sspm.stateNo

/-- Close the open page buffer: its program joins the work (R497). -/
def Device.sspmClose (d : Device) : Device :=
  match d.sspm.page with
  | none => d
  | some b => { d with sspm := { d.sspm with page := none, jobs := d.sspm.jobs ++ [SspmJob.program b] } }

/-- A transfer or the SFDP read joins the work, after the program of an open page buffer. -/
def Device.sspmEnqueue (d : Device) (j : SspmJob) : Device :=
  let d := d.sspmClose
  { d with sspm := { d.sspm with jobs := d.sspm.jobs ++ [j] } }.sspmShow

/-- End the waiting access with `v` on HD. -/
def Device.busEnd (d : Device) (v : Word) : Device := { d with bus := none, hd := v }

/-- The word at byte address `a` of the SRAM. -/
def Device.sramWord (d : Device) (a : Nat) : Word := BitVec.ofNat 32 (readLe zeroByte d.sram a 4)

/-- The word of a window address in a line buffer, where one holds it (R496). -/
def SspmSt.lineWord (s : SspmSt) (a : Nat) : Option Word :=
  (s.lines.toList.findSome? (fun l => match l with
    | some (n, bs) => if n = a / 32 then some bs else none
    | none => none)).map (fun bs => BitVec.ofNat 32 (leNat ((bs.drop (a % 32)).take 4)))

/-- Bytes per flash page. -/
def Device.flashPage (d : Device) : Nat := 2 ^ d.get fSspmXipWrPage

/-- Put the enabled bytes of a word into a page buffer. -/
def PageBuf.merge (b : PageBuf) (place : Nat) (v : Word) (be : BitVec 4) : PageBuf :=
  let put (b : PageBuf) (k : Nat) : PageBuf :=
    if be.getLsbD k then
      { b with bytes := storePut onesByte b.bytes (place + k) (v.extractLsb' (8 * k) 8)
               first := min b.first (place + k), last := max b.last (place + k) }
    else b
  put (put (put (put b 0) 1) 2) 3

/-- A window write is taken by the page buffer; `none` while it must wait (R497, R498). -/
def Device.xipTake (d : Device) (a : Nat) (v : Word) (be : BitVec 4) : Option Device :=
  let n := d.flashPage
  let fresh : PageBuf := { page := a / n, bytes := [], first := n, last := 0 }
  if d.sspm.jobs.any SspmJob.isTransfer then none
  else if be = 0 then some d
  else match d.sspm.page with
    | some b =>
      if b.page = a / n then some { d with sspm := { d.sspm with page := some (b.merge (a % n) v be) } }
      else if d.sspm.jobs.any SspmJob.isProgram then none
      else
        let d := d.sspmClose
        some { d with sspm := { d.sspm with page := some (fresh.merge (a % n) v be) } }
    | none => some { d with sspm := { d.sspm with page := some (fresh.merge (a % n) v be) } }

/-- Go on with the HBUS access that waits, as far as SSP_M's work allows: a memory-window read waits for earlier window writes (R38), a window read also for its line (R496), a window write for the page buffer. -/
def Device.serveBus (d : Device) : Device :=
  match d.bus with
  | some (.memRead a) => if d.sspm.writesPending then d else d.busEnd (d.sramWord a)
  | some (.xipRead a) =>
    let d := d.sspmClose
    if d.sspm.jobs.any (fun j => j.isTransfer || j.isProgram) then d.sspmShow
    else match d.sspm.lineWord a with
      | some w => (d.busEnd w).sspmShow
      | none =>
        if d.sspm.jobs.contains (SspmJob.fetch (a / 32)) then d
        else { d with sspm := { d.sspm with jobs := d.sspm.jobs ++ [SspmJob.fetch (a / 32)] } }.sspmShow
  | some (.xipWrite a v be) =>
    match d.xipTake a v be with
    | some d => { d with bus := none }.sspmShow
    | none => d
  | _ => d

/-- The job at the front is over; what waits goes on. -/
def Device.sspmNext (d : Device) : Device :=
  { d with sspm := { d.sspm with jobs := d.sspm.jobs.tail, polling := false } }.sspmShow.serveBus

/-- A BLOCK reset of the page drops its work and buffers (R490). -/
def sspmBlockReset (d : Device) : Device := { d with sspm := {} }.sspmShow.serveBus

/-- Does a BLOCK reset wait for a transfer's end (R490)? -/
def Device.sspmOnWire (d : Device) : Bool :=
  !d.sspm.polling && (match d.sspm.jobs.head? with | none => false | _ => true)

/-- A deferred BLOCK reset takes effect. -/
def Device.sspmDeferred (d : Device) : Device :=
  sspmBlockReset ((d.resetBlockWords 0x0D).resetIrqWords 0x0D)

/-- The received bytes of a transfer of `len` bits as the buffer holds them: the bits that remain in the last byte are 0 (R488). -/
def rxBytes (len : Nat) (rx : List Byte) : List Byte :=
  let n := (len + 7) / 8
  let whole := rx.take n
  if len % 8 = 0 then whole
  else whole.take (n - 1) ++ (whole.drop (n - 1)).map (fun b => b &&& ~~~(BitVec.ofNat 8 (2 ^ (8 - len % 8) - 1)))

/-- Store byte `k` of the transfer buffer (R6, R488). -/
def Device.putBuf (d : Device) (k : Nat) (b : Byte) : Device :=
  d.put ⟨sspmBuf (k / 4), 8 * (k % 4) + 7, 8 * (k % 4)⟩ b.toNat

/-- Record the end of a transfer with its result (R492). -/
def Device.sspmDone (d : Device) (err : Nat) : Device :=
  let d := ((d.put fSspmStatErr err).irq 0x0D 0).when (err != 0) (fun d => d.irq 0x0D 1)
  { d with sspm := { d.sspm with lines := Vector.replicate 4 none } }.sspmNext

/-- The bytes [b, b + n) of two ranges meet. -/
def rangesMeet (a n b m : Nat) : Bool := decide (a < b + m) && decide (b < a + n)

/-- A window program ends: line buffers that hold part of its page are given up, so that a read returns the written bytes (R38, R497). -/
def Device.sspmProgrammed (d : Device) (b : PageBuf) : Device :=
  let n := d.flashPage
  let keep (l : Option (Nat × List Byte)) : Option (Nat × List Byte) :=
    match l with
    | some (k, bs) => if rangesMeet (k * 32) 32 (b.page * n) n then none else some (k, bs)
    | none => none
  { d with sspm := { d.sspm with lines := d.sspm.lines.map keep } }.sspmNext

/-- XIP_RD for a chosen form: command on one lane, then the form's address and data lanes (R493). -/
def formLanes (f : ReadForm) : Nat × Nat :=
  match f with
  | .f112 => (0, 1)
  | .f122 => (1, 1)
  | .f114 => (0, 2)
  | .f144 => (2, 2)
  | .f118 => (0, 3)
  | .f188 => (3, 3)

/-- Set the XIP fields from what the SFDP read found; the STAT.ERR value it ends with (R493, R494). -/
def Device.sfdpSet (d : Device) (r : SfdpResult) : Device × Nat :=
  match r with
  | .absent => (((d.wr sspmXipRd 0x03).put fSspmXipWrPage 8).put fSspmStatSfdpOk 0, 2)
  | .noForm addr4 page poll =>
    (((((d.wr sspmXipRd 0x03).putB fSspmXipRdAddr4 addr4).put fSspmXipWrPage (max 4 (min page 8))).wr sspmPoll poll).put fSspmStatSfdpOk 1, 3)
  | .form f op dummy mb addr4 page poll =>
    let (aw, dw) := formLanes f
    let d := ((d.wr sspmXipRd 0).put fSspmXipRdOp op.toNat).put fSspmXipRdAddrW aw
    let d := ((d.put fSspmXipRdDataW dw).put fSspmXipRdDummy dummy.toNat).putB fSspmXipRdModeByte mb
    ((((d.putB fSspmXipRdAddr4 addr4).put fSspmXipWrPage (max 4 (min page 8))).wr sspmPoll poll).put fSspmStatSfdpOk 1, 0)

/-- SSPM_TRANSFER_END: the clocks of the transfer at the front are over. `rx` is what a read received; `r` what the SFDP read found. A transfer with POLL = 1 and a program go on to polling. -/
def sspmTransferEnd (rx : List Byte) (r : SfdpResult) (d : Device) : Device :=
  if d.sspm.polling || d.pageOff 0x0D then d
  else if d.sspm.resetDue && d.sspmOnWire then d.sspmDeferred
  else if !d.pageLive 0x0D then d
  else match d.sspm.jobs.head? with
    | some .transfer =>
      let bs := rxBytes (d.rd sspmLen).toNat rx
      let d := if d.on fSspmXferWrite then d
        else (bs.zipIdx).foldl (fun d e => d.putBuf e.2 e.1) d
      if d.on fSspmXferPoll then { d with sspm := { d.sspm with polling := true } }.sspmShow
      else d.sspmDone 0
    | some .sfdp =>
      let (d, e) := d.sfdpSet r
      d.sspmDone e
    | some (.program _) => { d with sspm := { d.sspm with polling := true } }.sspmShow
    | _ => d

/-- SSPM_POLL: a status byte was read; polling ends where (status AND MASK) = MATCH (R491). -/
def sspmPollRead (status : Byte) (d : Device) : Device :=
  if !d.sspm.polling || !d.pageLive 0x0D then d
  else if status.toNat &&& d.get fSspmPollMask = d.get fSspmPollMatch then
    match d.sspm.jobs.head? with
    | some (.program b) => d.sspmProgrammed b
    | _ => d.sspmDone 0
  else d

/-- SSPM_POLL_TIMEOUT: polling has lasted POLL_LIM ms (R491, R492). -/
def sspmPollTimeout (d : Device) : Device :=
  if !d.sspm.polling || !d.pageLive 0x0D then d
  else match d.sspm.jobs.head? with
    | some (.program b) => ((d.put fSspmStatErr 4).irq 0x0D 1).sspmProgrammed b
    | _ => d.sspmDone 1

/-- XIP_LINE_FETCH_END: 32 bytes enter a line buffer and the waiting read completes (R496). Which full buffer is replaced the spec leaves open. -/
def xipLineEnd (data : BitVec 256) (d : Device) : Device :=
  match d.sspm.jobs.head? with
  | some (.fetch n) =>
    if d.sspm.resetDue then d.sspmDeferred
    else
      let bs := (List.range 32).map (fun i => data.extractLsb' (8 * i) 8)
      let (v, d) := d.takeFree
      let i := match d.sspm.lines.toList.findIdx? Option.isNone with
        | some i => i
        | none => v.toNat % 4
      { d with sspm := { d.sspm with lines := d.sspm.lines.setIfInBounds i (some (n, bs)) } }.sspmNext
  | _ => d

/-- XIP_PROGRAM_START: WR_HOLD has passed since the last write, and the open page buffer is programmed (R497). -/
def xipHoldEnd (d : Device) : Device := if d.sspm.page.isSome then d.sspmClose.sspmShow else d

/-- Is the direct-execute window there: EN = 1 and the SSPM page on (R495)? -/
def Device.xipOn (d : Device) : Bool := d.on fSspmXipCtrlEn && !d.pageOff 0x0D

/-- A read of the window begins. -/
def Device.xipReadBegin (d : Device) (a : Nat) : Device := { d with bus := some (.xipRead a) }.serveBus

/-- A write of the window begins; with WR_EN = 0 it is discarded and counted (R497). -/
def Device.xipWriteBegin (d : Device) (a : Nat) (v : Word) (be : BitVec 4) : Device :=
  if d.on fSspmXipCtrlWrEn then { d with bus := some (.xipWrite a v be) }.serveBus
  else d.count fSspmXipStatDiscards

/-- Is a GO valid: whole data clocks, and whole address clocks (R490)? -/
def Device.sspmGoOk (d : Device) : Bool :=
  let addrBits := match d.get fSspmXferAddrLen with | 1 => 24 | 2 => 32 | _ => 0
  decide ((d.rd sspmLen).toNat % 2 ^ d.get fSspmXferDataW = 0) && decide (addrBits % 2 ^ d.get fSspmXferAddrW = 0)

/-- Which writes of the SSPM page are applied (R490, R499). -/
def sspmWriteOk (d : Device) (off : Nat) (v : Word) : Bool :=
  !d.on fSspmStatBusy &&
  (if off = 0x10 then decide (1 ≤ fSspmClkN.of v) && decide (fSspmClkN.of v ≤ 106) && fSspmClkCsIdle.of v != 0
  else if off = 0x11 then fSspmXferCmdLen.of v != 3 && fSspmXferAddrLen.of v != 3
  else if off = 0x12 then decide (bitsOf v 12 0 ≤ 4096)
  else if off = 0x15 then !(fSspmCmdGo.on v && !d.sspmGoOk)
  else if off = 0x17 then fSspmPollInt.of v != 0
  else if off = 0x18 then bitsOf v 15 0 != 0
  else if off = 0x19 then fSspmXipCtrlWrHold.of v != 0
  else if off = 0x1B then decide (4 ≤ fSspmXipWrPage.of v) && decide (fSspmXipWrPage.of v ≤ 8)
  else true)

/-- The effect of an applied SSPM write: GO, else SFDP; a new window setting gives up the line buffers. -/
def sspmWritten (off : Nat) (v : Word) (d : Device) : Device :=
  if off = 0x15 then
    if fSspmCmdGo.on v then d.sspmEnqueue .transfer
    else if fSspmCmdSfdp.on v then d.sspmEnqueue .sfdp
    else d
  else if off = 0x19 ∨ off = 0x1A then { d with sspm := { d.sspm with lines := Vector.replicate 4 none } }
  else d

end Sys2Proof.Machine
end

