-- ==== Sys2Proof/Machine/Bus.lean ====
section
/-!
DEFINITION. Accesses as they reach the host island, from HBUS, the packet link or the harbourmaster's relay (R34 … R48, R57 … R60, R68): the windows, the mirror and the post queue.
-/
namespace Sys2Proof.Machine

/-- Where an address lies (R34, R35): a word of a page, an SRAM window, the direct-execute window, or nowhere. -/
inductive Target where
  | page (a : Nat)
  | memory (a : Nat)
  | xip (a : Nat)
  | unmapped
  deriving DecidableEq, Repr

/-- The target of a byte address. -/
def targetOf (a : Nat) : Target :=
  if a < 0x0100000 then (if (pageKind (a / 4096)).isSome then .page (a / 4) else .unmapped)
  else if 0x0200000 ≤ a ∧ a < 0x0C00000 then .memory (a / 4 * 4)
  else if 0x2000000 ≤ a ∧ a < 0x4000000 then .xip (a / 4 * 4)
  else .unmapped

/-- What an access that finds nothing there reads (R58). -/
def offValue : Word := 0x0FF00FF0#32

/-! ### The mirror -/

/-- The mirror's copy of a word. -/
def Device.mirrored (d : Device) (a : Nat) : Word := storeGet resetWord d.mirror a

/-- Set the mirror's copy of a word. A change of TIME or DATE sets RTC.STAT.ROLL, which the host island keeps itself (R432). -/
def Device.setMirror (d : Device) (a : Nat) (v : Word) : Device :=
  let put (d : Device) (a : Nat) (v : Word) : Device := { d with mirror := storePut resetWord d.mirror a v }
  if a = rtcStat then put d a (setBits v 0 0 (d.mirrored a).toNat)
  else
    let moved := (a = rtcTime || a = rtcDate) && v != d.mirrored a
    let d := put d a v
    if moved then put d rtcStat (setBits (d.mirrored rtcStat) 0 0 1) else d

/-- Interrupt bits a page has: its IRQ_RAW table. -/
def irqBits (p : Nat) : Nat :=
  if 0x20 ≤ p ∧ p < 0x34 then 3
  else if 0x40 ≤ p ∧ p < 0x80 then 1
  else match p with
    | 0x19 | 0x14 => 0xFFFF
    | 0x0A | 0x0B => 0xFFFFFFFF
    | 0x0C | 0x1B => 0x1F
    | 0x11 | 0x1C | 0x05 => 0xF
    | 0x08 | 0x10 => 7
    | 0x1A | 0x12 | 0x15 | 0x0D | 0x0E | 0x06 | 0x04 => 3
    | 0x1D | 0x13 | 0x1E | 0x01 | 0x03 => 1
    | _ => 0

/-- The bits of a word that a write sets: RW and RWL. -/
def rwBits (p off : Nat) : Nat :=
  if off = 2 then 0xF else if off = 5 then irqBits p
  else if off < 16 then 0
  else match regInfo p off with
    | some r => r.rw ||| r.rwl
    | none => 0

/-- The bits of a word that a 1 clears. -/
def w1cBits (p off : Nat) : Nat :=
  if off = 6 then irqBits p
  else if off < 16 then 0
  else match regInfo p off with
    | some r => r.w1c
    | none => 0

/-- The write-only bits of a word. -/
def woBits (p off : Nat) : Nat :=
  if off = 7 then irqBits p
  else if off < 16 then 0
  else match regInfo p off with
    | some r => r.wo
    | none => 0

/-- Does a word have a writable field (R62)? -/
def writable (p off : Nat) : Bool := rwBits p off ||| w1cBits p off ||| woBits p off != 0

/-- At the ending edge of a write the mirror takes it (R44). -/
def Device.mirrorWritten (d : Device) (a : Nat) (v : Word) : Device :=
  let m : Word := BitVec.ofNat 32 (rwBits (pageOfWord a) (offOfWord a))
  let c : Word := BitVec.ofNat 32 (w1cBits (pageOfWord a) (offOfWord a))
  d.setMirror a (((d.mirrored a &&& ~~~m) ||| (v &&& m)) &&& ~~~(v &&& c))

/-- The header words the host island serves itself (R52): PAGE_ID, PAGE_CAPS, PAGE_STAT; and ACCESS. -/
def Device.pageId (p : Nat) : Word :=
  let k := (pageKind p).getD p
  BitVec.ofNat 32 (k * 2 ^ 24 + (p - k) * 2 ^ 16 + (Config.pageRev p).toNat * 2 ^ 8 + 1)

/-- PAGE_CAPS; `caps` are the page's BLOCK_CAPS, which no chapter but those it names sets. -/
def pageCapsWord (p : Nat) : Word :=
  BitVec.ofNat 32 ((pageHasIrq p).toNat * 2 ^ 31 + (pageResettable p).toNat * 2 ^ 30 + (pageGated p).toNat * (2 ^ 29 + 2 ^ 28))

/-- PAGE_STAT as it stands. -/
def Device.pageStatWord (d : Device) (p : Nat) : Word :=
  setBits (d.rd (pageStat p)) 3 0 ((d.pagePowered p).toNat + 2 * (d.pageClock p).toNat + 4 * (d.pageInReset p).toNat
    + 8 * (d.on (fPsReleasePending p) || (d.island (islandOf p)).pending).toNat)

/-- ACCESS as it stands (R55, R56). -/
def Device.accessWord (d : Device) (p : Nat) : Word := BitVec.ofNat 32 (pageWriteLevel p + 256 * d.level)

/-- A word of a page that is not off, as a read returns it: from the mirror, but for the words the host island keeps itself (R40, R52). -/
def Device.pageWord (d : Device) (a : Nat) : Word :=
  let p := pageOfWord a
  match offOfWord a with
  | 0 => Device.pageId p
  | 1 => pageCapsWord p
  | 3 => d.pageStatWord p
  | 9 => d.accessWord p
  | _ => d.mirrored a

/-! ### Accesses -/

/-- Outcome of an access at the host island, as R376 distinguishes outcomes. -/
inductive Served where
  | ok
  | unmapped
  | off
  deriving DecidableEq, Repr

/-- Show the post queue's level and peak. -/
def Device.showQueue (d : Device) : Device :=
  let d := d.put fHbusStatQlevel d.post.length
  d.put fHbusStatQpeak (max (d.get fHbusStatQpeak) d.post.length)

/-- Is there room in the post queue (R43)? -/
def Device.postRoom (d : Device) : Bool := decide (d.post.length < 32)

/-- A write ends: the mirror takes it and it enters the post queue (R43, R44, R46). -/
def Device.enqueue (d : Device) (x : Posted) : Device :=
  let d := d.mirrorWritten x.addr x.value
  { d with post := d.post ++ [x] }.showQueue.put (fPsWpend (pageOfWord x.addr)) 1

/-- A write of an off page or of an unpowered window is discarded and counted (R59, R60). -/
def Device.offWrite (d : Device) (page : Nat) : Device :=
  ((d.count fHbusOffCountCount).put fHbusOffCountLastPage page).irq 0x05 0

/-- A write that finds no window is discarded and counted (R36). -/
def Device.unmappedWrite (d : Device) : Device := (d.addSat ⟨hbusUnmappedCount, 15, 0⟩ 1).irq 0x05 3

/-- A write of a register word at the host island (R43, R59, and R419 from a sleep request on); `none` while it must wait for the post queue. -/
def Device.pageWrite (d : Device) (a : Nat) (v : Word) (be : BitVec 4) : Option (Served × Device) :=
  if d.pwr.phase != .awake || (d.pageOff (pageOfWord a) && offOfWord a != 2) then some (.off, d.offWrite (pageOfWord a))
  else if d.postRoom then some (.ok, d.enqueue { addr := a, value := v, be := be, level := d.level })
  else none

/-- A write of an SRAM window takes effect (R37); the manifest discards and counts it (R155); a half of a bad word written whole is good again (R302). -/
def Device.sramWrite (d : Device) (a : Nat) (v : Word) (be : BitVec 4) : Device :=
  if 0x0400000 ≤ a ∧ a < 0x0800000 then d.addSat ⟨manWriteDiscard, 15, 0⟩ 1 else
  let d := { d with sram := writeWordBe zeroByte d.sram a v be }
  if be = 0xF#4 then { d with rep := { d.rep with bad := d.rep.bad.filter (· != a) } } else d

end Sys2Proof.Machine
end

