-- ==== Sys2Proof/Machine/Hkadc.lean ====
section
/-!
DEFINITION. The housekeeping converter: sequences, triggers, urgent conversions, the thermal supervisor, system calibration and limit windows (R476 … R486).
-/
namespace Sys2Proof.Machine

/-- Make PAGE_STAT.STATE show what the converter does: 0 IDLE, 1 SEQUENCE, 2 URGENT, 3 SYSCAL (R485). -/
def Device.hkShow (d : Device) : Device :=
  d.put (fPsState 0x0C)
    (if d.on fHkStatUrgBusy then 2 else if d.on fHkStatSyscalBusy then 3 else if d.on fHkStatBusy then 1 else 0)

/-- Is a sequence, a pending trigger or a calibration step outstanding (R483, R486)? -/
def Device.hkBusy (d : Device) : Bool := d.on fHkStatBusy || d.on fHkStatPending || d.on fHkStatSyscalBusy

/-- Begin a sequence at its first entry (R478). -/
def Device.hkBegin (d : Device) : Device :=
  let d := ((d.put fHkStatBusy 1).put fHkStatEntry 0).put (fPsBusy 0x0C) 1
  { d with hk := { d.hk with genStart := d.get fHkStatSeqCount % 16 } }.hkShow

/-- A trigger arrives: it starts a sequence, becomes pending, or is lost and counted (R480). -/
def Device.hkTrigger (d : Device) : Device :=
  if !d.on (fPcEn 0x0C) || !d.pageLive 0x0C then d
  else if d.on fHkStatPending then (d.count (fHalf hkTrigOvf)).irq 0x0C 2
  else if d.on fHkStatBusy || d.on fHkStatSyscalBusy then d.put fHkStatPending 1
  else d.hkBegin

/-- A hardware trigger of source `src` (R479): 1–4 TRIG_IN, 8–23 a ZERO event; ignored while CONT = 1. -/
def Device.hkTriggerFrom (d : Device) (src : Nat) : Device :=
  if d.get fHkCtrlTrigSrc = src && !d.on fHkCtrlCont then d.hkTrigger else d

/-- Does input `i` carry the system calibration (R483)? -/
def hkCalibrated (i : Nat) : Bool := decide (i ≤ 7) || i = 27

/-- A code limited to 0 … 4,095. -/
def hkClip (i : Int) : Nat := (clampInt 0 4095 i).toNat

/-- A sample's code after the system calibration: (raw − OFFSET) × GAIN / 2^14, rounded and limited (R483). -/
def Device.hkCode (d : Device) (input : Nat) (raw : Nat) : Nat × Device :=
  if hkCalibrated input then
    let (r, d) := d.divNearest (((raw : Int) - d.getS fHkSyscalCoefOffset) * (d.get fHkSyscalCoefGain : Int)) (2 ^ 14)
    (hkClip r, d)
  else (raw, d)

/-- The mean of an entry's samples, rounded to the nearest code (R477). -/
def Device.hkMean (d : Device) (input : Nat) (raws : List Nat) : Nat × Device :=
  let step := fun (acc : Nat × Device) (r : Nat) =>
    let (c, d) := acc.2.hkCode input r
    (acc.1 + c, d)
  let (sum, d) := raws.foldl step (0, d)
  let (m, d) := d.divNearest (sum : Int) raws.length
  (hkClip m, d)

/-- Is the result of an input meaningful: detectors of a path that is not ON are not (R476). -/
def Device.hkValid (d : Device) (input path : Nat) : Bool :=
  !((input = 32 || input = 33) && d.get (fPsState (0x40 + path)) != 6)

/-- Does a code trip window `w` (R484)? -/
def Device.hkTrips (d : Device) (w code : Nat) : Bool :=
  let lo := d.get (fHkLimLo w)
  let hi := d.get (fHkLimHi w)
  if d.on (fHkLimInside w) then decide (lo ≤ code) && decide (code ≤ hi) else decide (code < lo) || decide (hi < code)

/-- A sequence ends: SEQ_COUNT and SEQ_DONE, then the pending trigger or CONT starts the next (R478, R479, R480). -/
def Device.hkSequenceEnd (d : Device) : Device :=
  let d := (((d.addWrap fHkStatSeqCount 1).put fHkStatBusy 0).put (fPsBusy 0x0C) 0).irq 0x0C 0
  let d := if d.on fHkStatPending then (d.put fHkStatPending 0).hkBegin
    else if d.on fHkCtrlCont && d.on (fPcEn 0x0C) then d.hkBegin else d
  d.hkShow

/-- The running entry completes with its raw samples: RES_n is written, its window checked, and the next entry or the sequence's end follows (R477, R478, R484). It is not due without a running sequence, or with another number of samples than 2^AVG. -/
def hkEntryDone (raws : List Nat) (d : Device) : Device :=
  let n := d.get fHkStatEntry
  if !d.on fHkStatBusy || raws.length != 2 ^ d.get (fHkEntryAvg n) || !d.pageLive 0x0C then d
  else
    let input := d.get (fHkEntryInput n)
    let path := d.get (fHkEntryPath n)
    let (code, d) := d.hkMean input (raws.map (· % 4096))
    let valid := d.hkValid input path
    let w := d.get (fHkEntryLimSel n)
    let trip := valid && d.on (fHkEntryLimEn n) && d.hkTrips w code
    let d := (((((d.wr (hkRes n) 0).put (fHkResCode n) code).put (fHkResInput n) input).putB (fHkResLimit n) trip).putB (fHkResValid n) valid).put (fHkResGen n) d.hk.genStart
    let d := if trip then (d.put ⟨hkLimStat, w, w⟩ 1).irq 0x0C 1 else d
    if n = d.get fHkCtrlSeqLen then d.hkSequenceEnd else d.put fHkStatEntry (n + 1)

/-- CMD.STOP abandons the sequence at once and clears PENDING; no SEQ_DONE is recorded (R480). -/
def Device.hkStop (d : Device) : Device :=
  (((d.put fHkStatBusy 0).put fHkStatPending 0).put (fPsBusy 0x0C) 0).hkShow

/-- The temperature a sensor's code stands for, in 0.0625 °C (R476). -/
def hkTemp (code : Nat) : Int := (code : Int) - 800

/-- The input of the supervisor's sensor number `i`: 8 … 15, then 40 … 47 (R481). -/
def hkSensorInput (i : Nat) : Nat := if i < 8 then 8 + i else 32 + i

/-- A threshold event: recorded when TEMP_MAX rises to the threshold, re-armed 3 °C below it (R482). -/
def hkThermal (new thr : Int) (armed : Bool) : Bool × Bool :=
  let rises := armed && decide (thr * 16 ≤ new)
  (rises, if rises then false else armed || decide (new ≤ thr * 16 - 48))

/-- The end of the supervisor's rotation: TEMP_MAX takes its highest temperature and the two thresholds are compared (R482). -/
def Device.hkRotation (d : Device) : Device :=
  let t := d.hk.rotMax
  let (warn, wArm) := hkThermal t (signedOf 8 (d.get fHkThermWarn)) d.hk.warnArmed
  let (crit, cArm) := hkThermal t (signedOf 8 (d.get fHkThermCrit)) d.hk.critArmed
  let d := (d.putS fHkTempMaxT t).put fHkTempMaxSensor (hkSensorInput d.hk.rotSensor)
  let d := { d with hk := { d.hk with warnArmed := wArm, critArmed := cArm, rotMax := -32768, rotSensor := 0 } }
  (d.when warn (fun d => d.irq 0x0C 3)).when crit (fun d => d.irq 0x0C 4)

/-- The thermal supervisor converts its next sensor, whatever PAGE_CTRL.EN holds, while the pilot island runs (R481). -/
def hkSupervisor (raw : Nat) (d : Device) : Device :=
  if !d.clockGood 1 || (d.island 1).held then d
  else
    let i := d.hk.supNext % 16
    let code := raw % 4096
    let t := hkTemp code
    let d := { d with hk := { d.hk with
      supNext := (i + 1) % 16
      sensors := d.hk.sensors.setIfInBounds i code
      rotMax := if d.hk.rotMax < t then t else d.hk.rotMax
      rotSensor := if d.hk.rotMax < t then i else d.hk.rotSensor } }
    if i = 15 then d.hkRotation else d

/-- The latest temperature of the die's centre sensor (input 15), in 0.0625 °C. -/
def Device.dieTemp (d : Device) : Int := hkTemp (d.hk.sensors.getD 7 0)

/-- The same in whole °C, rounded down, as the 8-bit signed registers hold it. -/
def Device.dieDegrees (d : Device) : Int := d.dieTemp / 16

/-- URG_CMD.GO requests a host urgent conversion (R481). -/
def Device.hkUrgent (d : Device) (v : Word) : Device :=
  if fHkUrgCmdGo.on v && d.on (fPcEn 0x0C) then
    let d := d.put fHkStatUrgBusy 1
    { d with hk := { d.hk with urgInput := fHkUrgCmdInput.of v, urgPath := fHkUrgCmdPath.of v } }.hkShow
  else d

/-- The host urgent conversion ends: URG_RES is written and URG_BUSY clears (R481). -/
def hkUrgentDone (raw : Nat) (d : Device) : Device :=
  if !d.on fHkStatUrgBusy || !d.pageLive 0x0C then d
  else
    let input := d.hk.urgInput
    let (code, d) := d.hkCode input (raw % 4096)
    let w : Nat := code + input * 2 ^ 12 + (d.hkValid input d.hk.urgPath).toNat * 2 ^ 19
    ((d.wr hkUrgRes (BitVec.ofNat 32 w)).put fHkStatUrgBusy 0).hkShow

/-- A system-calibration step starts: `full` for the full-scale step (R483). -/
def Device.hkSyscal (d : Device) (full : Bool) : Device :=
  ((d.put fHkStatSyscalBusy 1).putB fHkSyscalStatStep full).hkShow

/-- Record the result of a calibration step; its completion records SEQ_DONE (R483). A trigger that became pending meanwhile starts its sequence. -/
def Device.hkSyscalEnd (d : Device) (result : Nat) : Device :=
  let d := ((d.put fHkSyscalStatResult result).put fHkStatSyscalBusy 0).irq 0x0C 0
  (if d.on fHkStatPending then (d.put fHkStatPending 0).hkBegin else d).hkShow

/-- A calibration step ends with the sums of its two sets of 64 raw samples: the agreement rule, the range, and the new coefficient (R483). -/
def syscalStepDone (sum1 sum2 : Int) (d : Device) : Device :=
  if !d.on fHkStatSyscalBusy || !d.pageLive 0x0C then d
  else if 128 < (sum1 - sum2).natAbs then d.hkSyscalEnd 2
  else if !d.on fHkSyscalStatStep then
    if sum1 + sum2 < -128 * 128 ∨ 127 * 128 < sum1 + sum2 then d.hkSyscalEnd 3
    else
      let (m, d) := d.divOpen (sum1 + sum2) 128
      (d.putS fHkSyscalCoefOffset m).hkSyscalEnd 1
  else
    let span := (sum1 + sum2) - 128 * d.getS fHkSyscalCoefOffset
    if span ≤ 0 then d.hkSyscalEnd 3
    else
      let (g, d) := d.divNearest ((2 ^ 14 * d.get fHkSyscalFsMv * 4096 * 128 : Nat) : Int) (1800 * span.toNat)
      if g < 8192 ∨ 24576 < g then d.hkSyscalEnd 3
      else (d.put fHkSyscalCoefGain g.toNat).hkSyscalEnd 1

/-- Which writes of the HKADC page are applied (R479, R481, R483, R486). -/
def hkWriteOk (d : Device) (off : Nat) (v : Word) : Bool :=
  if off = 0x10 then !d.hkBusy && (let t := fHkCtrlTrigSrc.of v; !(5 ≤ t ∧ t ≤ 7) && decide (t ≤ 23))
  else if off = 0x11 then
    !(fHkCmdStart.on v && d.on fHkCtrlCont) && !((fHkCmdSyscalZero.on v || fHkCmdSyscalFull.on v) && d.hkBusy)
  else if off = 0x14 then !d.on fHkStatUrgBusy && decide (fHkUrgCmdInput.of v ≤ 47)
  else if off = 0x16 then
    !d.hkBusy && hkCalibrated (fHkSyscalInput.of v) && decide (100 ≤ fHkSyscalFsMv.of v) && decide (fHkSyscalFsMv.of v ≤ 1800)
  else if 0x20 ≤ off ∧ off < 0x30 then !d.hkBusy && decide (bitsOf v 5 0 ≤ 47)
  else if 0x40 ≤ off ∧ off < 0x48 then !d.hkBusy && decide (bitsOf v 11 0 ≤ bitsOf v 27 16)
  else true

/-- The effect of an applied HKADC write beyond its stored fields. -/
def hkWritten (off : Nat) (v : Word) (d : Device) : Device :=
  if off = 0x11 then
    let d := d.when (fHkCmdStop.on v) Device.hkStop
    let d := d.when (fHkCmdStart.on v) Device.hkTrigger
    let d := d.when (fHkCmdSyscalZero.on v) (fun d => d.hkSyscal false)
    d.when (fHkCmdSyscalFull.on v && !fHkCmdSyscalZero.on v) (fun d => d.hkSyscal true)
  else if off = 0x14 then d.hkUrgent v
  else if off = 0x1C then d.when (v.getLsbD 0) (fun d => d.wr hkTrigOvf 0)
  else d

/-- A BLOCK reset of the HKADC page: what it holds beside registers goes back to its reset value. -/
def hkBlockReset (d : Device) : Device := { d with hk := {} }

end Sys2Proof.Machine
end

