-- ==== Sys2Proof/Machine/Pins.lean ====
section
/-!
DEFINITION. The PINS page: trigger outputs and ball levels (R546, R547).
-/
namespace Sys2Proof.Machine

/-- TRIG_OUT_CFG.SRC of output `k`. -/
def Device.trigSrc (d : Device) (k : Nat) : Nat := d.get ⟨pinsTrigOutCfg, 8 * k + 2, 8 * k⟩

/-- TRIG_OUT_CFG.POL of output `k`. -/
def Device.trigPol (d : Device) (k : Nat) : Bool := d.on ⟨pinsTrigOutCfg, 8 * k + 3, 8 * k + 3⟩

/-- A TRIG_OUT event starts an active pulse, or restarts the width of the one in progress (R547). -/
def Device.trigOutEvent (d : Device) (k : Nat) : Device :=
  match d.trigOut.getD k none with
  | some _ => d
  | none =>
    { d.putB ⟨pinsLevels, 4 + k, 4 + k⟩ (!d.trigPol k) with
      trigOut := d.trigOut.setIfInBounds k (some (d.trigPol k)) }

/-- An event of source `src` for output `k`: it acts where the output listens to that source. -/
def Device.trigOutFrom (d : Device) (k src : Nat) : Device :=
  if d.trigSrc k = src && d.pageLive 0x0F then d.trigOutEvent k else d

/-- The WIDTH of a TRIG_OUT pulse elapses and the ball returns to inactive (R547). -/
def trigOutPulseEnd (k : Nat) (d : Device) : Device :=
  match d.trigOut.getD k none with
  | none => d
  | some pol =>
    { d.putB ⟨pinsLevels, 4 + k, 4 + k⟩ pol with trigOut := d.trigOut.setIfInBounds k none }

/-- Which writes of the PINS page are applied: no reserved SRC, no WIDTH of 0 (R546). -/
def pinsWriteOk (off : Nat) (v : Word) : Bool :=
  !(off = 0x12 && (List.range 4).any (fun k =>
    decide (4 < bitsOf v (8 * k + 2) (8 * k)) || bitsOf v (8 * k + 7) (8 * k + 4) = 0))

/-- The effect of an applied write to TRIG_SW: a pulse on each named output whose SRC is 3 (R547). -/
def pinsWritten (off : Nat) (v : Word) (d : Device) : Device :=
  if off = 0x13 then
    d.forAll (List.range 4) (fun d k => if v.getLsbD k then d.trigOutFrom k 3 else d)
  else d

/-- A BLOCK reset of the PINS page ends every trigger-output pulse. -/
def pinsBlockReset (d : Device) : Device := { d with trigOut := Vector.replicate 4 none }

end Sys2Proof.Machine
end

