-- ==== Sys2Proof/Machine/Timers.lean ====
section
/-!
DEFINITION. The tide counter's words and the sixteen timers (R453 … R475). Timer k is instance k mod 8 of page TMC (k < 8, centre class) or TMR (reload class).
-/
namespace Sys2Proof.Machine

/-- The tide: the 64-bit count of ticks (R453). -/
def Device.tide (d : Device) : Nat := (d.rd tideCountHi).toNat * 2 ^ 32 + (d.rd tideCountLo).toNat

/-- Set the tide; it wraps after 2^64 ticks. -/
def Device.setTide (d : Device) (t : Nat) : Device :=
  (d.wr tideCountLo (BitVec.ofNat 32 t)).wr tideCountHi (BitVec.ofNat 32 (t / 2 ^ 32))

/-- Does the tide count: while the converter island runs (R453, R455)? -/
def Device.tideRuns (d : Device) : Bool := d.clockGood 2 && !(d.island 2).held && !(d.island 2).pending && !d.frozen

/-- One tick of the tide. -/
def Device.tideTick (d : Device) : Device := if d.tideRuns then d.setTide (d.tide + 1) else d

/-- Record a tide step of `ticks` (R456). -/
def Device.tideStepped (d : Device) (ticks : Int) : Device :=
  (((d.put fTideStatStepped 1).wr tideStep (BitVec.ofNat 32 (twosOf 32 (clampInt (-2147483648) 2147483647 ticks)))).count (fHalf tideSteps))

/-- CNT_CLR.STEPS clears STEPS and STAT.STEPPED (R460). -/
def tideWritten (off : Nat) (v : Word) (d : Device) : Device :=
  if off = 0x19 ∧ v.getLsbD 0 then (d.wr tideSteps 0).put fTideStatStepped 0 else d

/-- The page of timer `k`: 0 for TMC, 1 for TMR. -/
def tmPage (k : Nat) : Nat := k / 8

/-- The instance of timer `k` on its page. -/
def tmInst (k : Nat) : Nat := k % 8

/-- A field of timer `k`. -/
def tmF (f : Nat → Nat → Fld) (k : Nat) : Fld := f (tmPage k) (tmInst k)

/-- A word of timer `k`. -/
def tmW (f : Nat → Nat → Nat) (k : Nat) : Nat := f (tmPage k) (tmInst k)

/-- What timer `k` holds beside its registers. -/
def Device.timer (d : Device) (k : Nat) : TimerSt := d.timers.getD k {}

/-- Change what timer `k` holds beside its registers. -/
def Device.modTimer (d : Device) (k : Nat) (f : TimerSt → TimerSt) : Device :=
  { d with timers := d.timers.setIfInBounds k (f (d.timer k)) }

/-- The count of timer `k`. -/
def Device.tmCnt (d : Device) (k : Nat) : Nat := (d.rd (tmW tmCount k)).toNat

/-- Set the count of timer `k`. -/
def Device.setTmCount (d : Device) (k n : Nat) : Device := d.wr (tmW tmCount k) (BitVec.ofNat 32 n)

/-- Record event `e` (0 ZERO, 1 TOP, 2 match, 3 CAP) of timer `k` (R475). -/
def Device.tmIrq (d : Device) (k e : Nat) : Device := d.irq (0x0A + tmPage k) (4 * tmInst k + e)

/-- Is the timer of the centre class? -/
def tmCentre (k : Nat) : Bool := decide (k < 8)

/-- Is TM_IO_k driven by the timer (IO_MODE = OUTPUT)? -/
def Device.tmDrives (d : Device) (k : Nat) : Bool := d.get (tmF fTmCtrlIoMode k) = 1

/-- Set the output of timer `k`, where it drives one (R469). -/
def Device.tmOut (d : Device) (k : Nat) (on : Bool) : Device :=
  if d.tmDrives k then d.putB (tmF fTmStatOut k) on else d

/-- A compare match: the event, the phase's match is used up, and the output acts (R468, R469). -/
def Device.tmMatch (d : Device) (k : Nat) : Device :=
  let d := (d.modTimer k (fun t => { t with matched := true })).tmIrq k 2
  match d.get (tmF fTmCtrlOutMode k) with
  | 0 => d.tmOut k (!d.on (tmF fTmStatOut k))
  | 1 => d.tmOut k (!(tmCentre k && d.on (tmF fTmStatDir k)))
  | 2 => d.tmOut k true
  | _ => d

/-- Has the count reached CMP in a phase whose match has not occurred (R468)? -/
def Device.tmMatchDue (d : Device) (k : Nat) : Bool :=
  !(d.timer k).matched && decide (d.tmCnt k = (d.rd (tmW tmCmp k)).toNat)

/-- Is the lower turn or zero of the present count still to be taken? -/
def Device.tmZeroDue (d : Device) (k : Nat) : Bool :=
  d.on (tmF fTmCtrlEn k) && !(d.timer k).turned && decide (d.tmCnt k = 0)
    && (!tmCentre k || d.on (tmF fTmStatDir k))

/-- Is the upper turn of a centre timer still to be taken? -/
def Device.tmTopDue (d : Device) (k : Nat) : Bool :=
  d.on (tmF fTmCtrlEn k) && tmCentre k && !d.on (tmF fTmStatDir k)
    && decide ((d.rd (tmW tmPeriod k)).toNat ≤ d.tmCnt k)

/-- The upper turning point: the TOP event, and the timer counts down (R465). -/
def Device.tmTurn (d : Device) (k : Nat) : Device :=
  let c := d.tmCnt k
  ((d.put (tmF fTmStatDir k) 1).modTimer k (fun t => { t with matched := false, turned := false, phaseStart := c })).tmIrq k 1

/-- TIMER_TOP: a compare match at the same count belongs to the phase that ends, and comes first. -/
def timerTop (k : Nat) (d : Device) : Device :=
  if d.tmTopDue k then (if d.tmMatchDue k then d.tmMatch k else d).tmTurn k else d

/-- TIMER_COMPARE_MATCH. -/
def timerMatch (k : Nat) (d : Device) : Device :=
  if d.on (tmF fTmCtrlEn k) && d.tmMatchDue k then d.tmMatch k else d

/-- What a ZERO event of timer `k` triggers outside the timers: the housekeeping converter (R479) and TRIG_OUT (R546). -/
def Device.zeroTriggers (d : Device) (k : Nat) : Device :=
  let d := d.hkTriggerFrom (8 + k)
  if 8 ≤ k ∧ k < 12 then d.trigOutFrom (k - 8) 4 else d

/-- The lower turning point of a centre timer, or the zero of a reload timer (R465, R466, R467): ZERO, the new PERIOD, the one-shot stop. -/
def Device.tmZero (d : Device) (k : Nat) : Device :=
  let d := (d.modTimer k (fun t => { t with turned := true })).tmIrq k 0
  let d := d.wr (tmW tmPeriod k) (d.rd (tmW tmTop k))
  let d :=
    if tmCentre k then
      (d.put (tmF fTmStatDir k) 0).modTimer k (fun t => { t with matched := false, phaseStart := 0 })
    else
      let d := if d.get (tmF fTmCtrlOutMode k) = 1 then d.tmOut k false else d
      if d.on (tmF fTmCtrlOneShot k) then d.put (tmF fTmCtrlEn k) 0 else d
  d.zeroTriggers k

/-- Take what the present count owes: the match, then the turn. -/
def Device.tmSettle (d : Device) (k : Nat) : Device :=
  let d := timerMatch k d
  if d.tmTopDue k then d.tmTurn k else if d.tmZeroDue k then d.tmZero k else d

/-- One count of timer `k`: a pulse of one count ends; a reload timer at its zero reloads PERIOD; otherwise the count moves on in its direction. -/
def Device.tmAdvance (d : Device) (k : Nat) : Device :=
  let d := if d.get (tmF fTmCtrlOutMode k) = 2 then d.tmOut k false else d
  let c := d.tmCnt k
  if tmCentre k then
    let n := if d.on (tmF fTmStatDir k) then c - 1 else c + 1
    (d.setTmCount k n).modTimer k (fun t => { t with turned := false })
  else if c = 0 then
    let p := (d.rd (tmW tmPeriod k)).toNat
    (d.setTmCount k p).modTimer k (fun t => { t with turned := false, matched := false, phaseStart := p })
  else (d.setTmCount k (c - 1)).modTimer k (fun t => { t with turned := false })

/-- One source event of timer `k`: the gate and the prescaler pass it on once per 2^PRE events; with SRC = TIDE each event is the tide crossing a multiple of 2^PRE (R462, R463). -/
def Device.tmSourceOnce (d : Device) (k : Nat) : Device :=
  if !d.on (tmF fTmCtrlEn k) || d.on (tmF fTmStatGated k) || d.frozen || !d.pageLive (0x0A + tmPage k) then d
  else
    let n := (d.timer k).pre + 1
    if d.get (tmF fTmCtrlSrc k) = 1 || 2 ^ d.get (tmF fTmCtrlPre k) ≤ n then
      ((d.modTimer k (fun t => { t with pre := 0 })).tmSettle k).tmAdvance k
    else d.modTimer k (fun t => { t with pre := n })

/-- Pass the ZERO event of timer `k` to timers chained above it on its page, at most `fuel` of them (R462 SRC 6). -/
def Device.tmChain (fuel : Nat) (d : Device) (k : Nat) : Device :=
  match fuel with
  | 0 => d
  | fuel + 1 =>
    if tmInst k < 7 ∧ d.get (tmF fTmCtrlSrc (k + 1)) = 6 then
      let d := d.tmSourceOnce (k + 1)
      let d := timerMatch (k + 1) d
      if d.tmZeroDue (k + 1) then (d.tmZero (k + 1)).tmChain fuel (k + 1) else d
    else d

/-- TIMER_ZERO, with the chained timers' source events. A compare match at the same count comes first. -/
def timerZero (k : Nat) (d : Device) : Device :=
  let d := timerMatch k d
  if d.tmZeroDue k then (d.tmZero k).tmChain 8 k else d

/-- TIMER_SOURCE_EVENT. What the present count still owes is taken before the count moves. -/
def timerSource (k : Nat) (d : Device) : Device :=
  if d.get (tmF fTmCtrlSrc k) = 6 then d
  else (timerZero k (timerTop k d)).tmSourceOnce k

/-- The level at TM_IO_k becomes `high`. -/
def Device.tmPin (d : Device) (k : Nat) (high : Bool) : Device :=
  { d with tmIo := if high then d.tmIo ||| BitVec.ofNat 16 (1 <<< k) else d.tmIo &&& ~~~(BitVec.ofNat 16 (1 <<< k)) }

/-- TIMER_GATE_EDGE: the gate is open while TM_IO_k is active (R463). -/
def timerGate (k : Nat) (high : Bool) (d : Device) : Device :=
  let d := d.tmPin k high
  if d.get (tmF fTmCtrlIoMode k) = 2 && d.pageLive (0x0A + tmPage k) then
    d.putB (tmF fTmStatGated k) (high = d.on (tmF fTmCtrlPol k))
  else d

/-- TIMER_CAPTURE: a chosen edge copies the count; an unread capture overwritten is marked (R470). -/
def timerCapture (k : Nat) (high : Bool) (d : Device) : Device :=
  let edge := d.tmIo.getLsbD k != high
  let sel := d.get (tmF fTmCtrlCapEdge k)
  let d := d.tmPin k high
  if edge && d.get (tmF fTmCtrlIoMode k) = 3 && (sel = 2 || (if high then sel = 0 else sel = 1))
      && d.pageLive (0x0A + tmPage k) then
    let d := d.when (d.on (tmF fTmStatCapNew k)) (fun d => d.put (tmF fTmStatCapOvr k) 1)
    (((d.wr (tmW tmCap k) (d.rd (tmW tmCount k))).put (tmF fTmStatCapNew k) 1).modTimer k
      (fun t => { t with capSent := false })).tmIrq k 3
  else d

/-- EN 0 → 1: PERIOD takes TOP or RELOAD, a centre timer counts up (R465, R467). A timer that starts at 0 has not just reached 0. -/
def Device.tmStart (d : Device) (k : Nat) : Device :=
  let c := d.tmCnt k
  let d := (d.put (tmF fTmCtrlEn k) 1).wr (tmW tmPeriod k) (d.rd (tmW tmTop k))
  let d := if tmCentre k then d.put (tmF fTmStatDir k) 0 else d
  let d := d.modTimer k (fun t => { t with pre := 0, matched := false, turned := decide (c = 0),
                                           phaseStart := if tmCentre k then 0 else (d.rd (tmW tmPeriod k)).toNat })
  if d.get (tmF fTmCtrlIoMode k) = 2 then
    d.putB (tmF fTmStatGated k) (d.tmIo.getLsbD k = d.on (tmF fTmCtrlPol k))
  else d.put (tmF fTmStatGated k) 0

/-- EN = 0 stops the timer at once; count and output level are held (R461). -/
def Device.tmStop (d : Device) (k : Nat) : Device := d.put (tmF fTmCtrlEn k) 0

/-- A written CMP that the present phase has already passed fires at once (R468). -/
def Device.tmLateMatch (d : Device) (k : Nat) : Device :=
  let cmp := (d.rd (tmW tmCmp k)).toNat
  let c := d.tmCnt k
  let s := (d.timer k).phaseStart
  if d.on (tmF fTmCtrlEn k) && !(d.timer k).matched
      && decide ((s ≤ cmp ∧ cmp ≤ c) ∨ (c ≤ cmp ∧ cmp ≤ s)) then
    (d.put (tmF fTmStatCmpLate k) 1).tmMatch k
  else d

/-- A written TOP with TOP_NOW = 1 is taken at once; a count already above it turns (R466). -/
def Device.tmTopNow (d : Device) (k : Nat) : Device :=
  if tmCentre k && d.on (tmF fTmCtrlTopNow k) then
    let top := d.rd (tmW tmTop k)
    let d := d.wr (tmW tmPeriod k) top
    if d.on (tmF fTmCtrlEn k) && !d.on (tmF fTmStatDir k) && decide (top.toNat < d.tmCnt k) then
      (d.put (tmF fTmStatPeriodClip k) 1).tmTurn k
    else d
  else d

/-- The timer a word of a timer page belongs to, with the word's place in it. -/
def tmOfWord (page off : Nat) : Nat × Nat := ((page - 0x0A) * 8 + (off - 0x40) / 8, (off - 0x40) % 8)

/-- Which writes of the TMC and TMR pages are applied (R474). -/
def tmWriteOk (d : Device) (page off : Nat) (v : Word) : Bool :=
  if off < 0x40 then true
  else
    let (k, w) := tmOfWord page off
    let en := d.on (tmF fTmCtrlEn k)
    match w with
    | 0 =>
      let src := bitsOf v 3 1
      let pre := bitsOf v 7 4
      let io := bitsOf v 9 8
      !(en && (bitsOf v 10 1 != bitsOf (d.rd (tmW tmCtrl k)) 10 1 || bitsOf v 14 11 != bitsOf (d.rd (tmW tmCtrl k)) 14 11))
        && src != 7 && bitsOf v 12 11 != 3 && bitsOf v 14 13 != 3
        && !(tmCentre k && v.getLsbD 16) && !(!tmCentre k && v.getLsbD 15)
        && !(src = 6 && tmInst k = 0) && !(src = 1 && decide (pre < 3))
        && !((src = 3 || src = 4 || src = 5) && io != 0)
    | 1 => !en
    | 2 => !(tmCentre k && v == 0)
    | _ => true

/-- The effect of an applied write of a timer page; `old` is the device before the write's fields were stored. -/
def tmWritten (page off : Nat) (v : Word) (old d : Device) : Device :=
  if off < 0x40 then
    if page = 0x0A ∧ off = 0x10 then
      d.forAll (List.range 16) (fun d k => if v.getLsbD k && !d.on (tmF fTmCtrlEn k) then d.tmStart k else d)
    else if page = 0x0A ∧ off = 0x11 then
      d.forAll (List.range 16) (fun d k => if v.getLsbD k then d.tmStop k else d)
    else d
  else
    let (k, w) := tmOfWord page off
    match w with
    | 0 => if d.on (tmF fTmCtrlEn k) && !old.on (tmF fTmCtrlEn k) then d.tmStart k else d
    | 1 => d.modTimer k (fun t => { t with turned := decide (v = 0) })
    | 2 => d.tmTopNow k
    | 3 => d.tmLateMatch k
    | _ => d

/-- A BLOCK reset of a timer page: what its eight timers hold beside registers goes back to reset. -/
def tmBlockReset (page : Nat) (d : Device) : Device :=
  d.forAll (List.range 8) (fun d i => d.modTimer ((page - 0x0A) * 8 + i) (fun _ => {}))

end Sys2Proof.Machine
end

