-- ==== Sys2Proof/Machine/Kloit.lean ====
section
/-!
DEFINITION. The Kloit link below its commands: ports, frames with their credits and replay, this device's census record and CASCADE_EVENT messages, SYNC and the group state (R321 … R334, R338, R339, R347, R354).
-/
namespace Sys2Proof.Machine

/-- What the cascade holds of port `k`. -/
def Device.port (d : Device) (k : Nat) : KlPortSt := d.kl.ports.getD k {}

/-- Change what the cascade holds. -/
def Device.modKl (d : Device) (f : KlSt → KlSt) : Device := { d with kl := f d.kl }

/-- Change what the cascade holds of port `k`. -/
def Device.modPort (d : Device) (k : Nat) (f : KlPortSt → KlPortSt) : Device :=
  d.modKl (fun s => { s with ports := s.ports.setIfInBounds k (f (d.port k)) })

/-- The role: 0 standalone, 1 harbourmaster, 2 relay, 3 leaf (R321). -/
def Device.klRole (d : Device) : Nat := d.get fKlStatRole

/-- Is this device the harbourmaster? -/
def Device.klMaster (d : Device) : Bool := d.klRole = 1

/-- Is it a relay or a leaf? -/
def Device.klMember (d : Device) : Bool := decide (2 ≤ d.klRole)

/-- Does the role use port `k` (R321)? -/
def portUsed (role downPorts k : Nat) : Bool :=
  if k < 2 then decide (2 ≤ role) else decide (1 ≤ role) && decide (role ≤ 2) && decide (k < 2 + downPorts)

/-- PSTAT_k.STATE (R332). -/
def Device.portState (d : Device) (k : Nat) : Nat := d.get (fKlPstatState k)

/-- Is port `k` UP? -/
def Device.portUp (d : Device) (k : Nat) : Bool := d.portState k = 5

/-- The up-port in use. -/
def Device.upPort (d : Device) : Option Nat := if !d.klMember then none else [0, 1].find? d.portUp

/-- The down-ports that are UP. -/
def Device.downPorts (d : Device) : List Nat := [2, 3, 4].filter d.portUp

/-! ### Frames (R327 … R330) -/

/-- The receive-buffer credits of a class (R329). -/
def klBuffer (c : Nat) : Nat := if c = 2 then 512 else 64

/-- What a frame with LEN words costs (R329). -/
def klCost (words : Nat) : Nat := (16 + 8 * words + 63) / 64

/-- Show the C2 credits and the replay occupancy in PCRED_k. -/
def Device.showCredits (d : Device) (k : Nat) : Device :=
  (d.put (fKlPcredC2 k) ((d.port k).credits.getD 2 0)).put (fKlPcredReplay k) (d.port k).replay.length

/-- May port `k` send the frame now: the port carries it, the class has credits and the replay buffer has room (R328, R329, R333)? -/
def Device.frameOk (d : Device) (k : Nat) (f : KlFrame) : Bool :=
  let st := d.portState k
  let timing : Bool := match f.body with
    | .delay _ _ _ => true
    | _ => false
  (st = 5 || (timing && (st = 4 || st = 6))) && decide (klCost f.words ≤ (d.port k).credits.getD f.cls 0)
    && decide ((d.port k).replay.length < 64)

/-- Put a frame on the lane: it takes the next SEQ and its credits and stays in the replay buffer (R328, R329). -/
def Device.frameSend (d : Device) (k : Nat) (f : KlFrame) : Device :=
  (d.modPort k (fun (p : KlPortSt) => { p with
    credits := p.credits.setIfInBounds f.cls (p.credits.getD f.cls 0 - klCost f.words)
    replay := p.replay ++ [{ f with seq := p.txSeq % 256 }]
    txSeq := (p.txSeq + 1) % 256 })).showCredits k

/-- Receive-buffer credits of a class come into use. -/
def Device.bufferUse (d : Device) (k c n : Nat) : Device :=
  d.modPort k (fun (p : KlPortSt) => { p with used := p.used.setIfInBounds c (p.used.getD c 0 + n) })

/-- They are returned to the partner (R329). -/
def Device.bufferFree (d : Device) (k c n : Nat) : Device :=
  d.modPort k (fun (p : KlPortSt) => { p with used := p.used.setIfInBounds c (p.used.getD c 0 - n) })

/-- The order in which an up-port serves classes: C0 and C3, then C1, then C2 (R346). -/
def classOrder : List Nat := [0, 3, 1, 2]

/-- The frame the up-port sends next: within a class the sources take turns, after the one served last (R346). -/
def Device.upNext (d : Device) (k : Nat) : Option (Nat × KlFrame) :=
  classOrder.findSome? (fun c =>
    ((List.range 6).map (fun i => (d.kl.served.getD c 5 + 1 + i) % 6)).findSome? (fun s =>
      match d.kl.up.find? (fun e => e.1 = s && e.2.cls = c) with
      | some e => if d.frameOk k e.2 then some e else none
      | none => none))

/-- Send what waits for the up-port as far as credits and replay room go; a frame that leaves frees its place in the buffer of the port it came from (R346). -/
def Device.pumpUp (d : Device) : Nat → Device
  | 0 => d
  | fuel + 1 =>
    match d.upPort with
    | none => d
    | some k =>
      match d.upNext k with
      | none => d
      | some e =>
        let d := (d.modKl (fun s => { s with up := s.up.erase e, served := s.served.setIfInBounds e.2.cls e.1 })).frameSend k e.2
        (if e.1 < 5 then d.bufferFree e.1 e.2.cls (klCost e.2.words) else d).pumpUp fuel

/-- Send what waits for down-port `k`, each class in order. -/
def Device.pumpDown (d : Device) (k : Nat) : Nat → Device
  | 0 => d
  | fuel + 1 =>
    match classOrder.findSome? (fun c => match (d.port k).queue.find? (fun e => e.2.cls = c) with
        | some e => if d.frameOk k e.2 then some e else none
        | none => none) with
    | none => d
    | some e =>
      let d := (d.modPort k (fun (p : KlPortSt) => { p with queue := p.queue.erase e })).frameSend k e.2
      (if e.1 < 5 then d.bufferFree e.1 e.2.cls (klCost e.2.words) else d).pumpDown k fuel

/-- Send what waits on every port. -/
def Device.pump (d : Device) : Device :=
  (d.pumpUp d.kl.up.length).forAll [2, 3, 4] (fun d k => d.pumpDown k (d.port k).queue.length)

/-- A frame from source `s` (5: this device) goes upward. -/
def Device.sendUp (d : Device) (s : Nat) (f : KlFrame) : Device :=
  (d.modKl (fun x => { x with up := x.up ++ [(s, f)] })).pump

/-- A frame from source `s` goes down through port `k`. -/
def Device.sendDown (d : Device) (s k : Nat) (f : KlFrame) : Device :=
  (d.modPort k (fun (p : KlPortSt) => { p with queue := p.queue ++ [(s, f)] })).pump

/-- A frame of this device to every device below. -/
def Device.broadcast (d : Device) (f : KlFrame) : Device :=
  d.forAll d.downPorts (fun d k => d.sendDown 5 k { f with bcast := true })

/-- The number this device signs frames with; 0xFFFF while it has none (R327). -/
def Device.ownNumber (d : Device) : Nat := if d.on fKlStatNumbered then d.get fKlStatNumber else 0xFFFF

/-! ### The census record and CASCADE_EVENT (R338, R347) -/

/-- The number the straps request (R337, R398); 0xFFFF: none. -/
def Device.klRequest (d : Device) : Nat :=
  let n := bitsOf (d.rd rstStraps) 15 4
  if n = 0 ∨ 2047 < n then 0xFFFF else n

/-- A census record with its CRC from its first 28 bytes. -/
def recordOf (b : List Byte) : List Byte := b.take 28 ++ leBytes 4 (crc32 (b.take 28))

/-- This device's census record (R338). -/
def Device.klRecord (d : Device) (last : Bool) : List Byte :=
  let sync := d.get fKlStatSync
  let flags := last.toNat + 4 * d.get fKlStatUpAlt + 8 * d.kl.altOk.toNat + 16 * (sync = 3 || sync = 4 : Bool).toNat
  let parent := match d.upPort with
    | some k => if d.on (fKlPstatPartnerNumbered k) then d.get (fKlPstatPartner k) else 0xFFFF
    | none => 0xFFFF
  let ports := (List.range 5).foldl (fun a k => a + (if d.portState k = 5 ∨ d.portState k = 6 then 2 ^ k else 0)) 0
  let b (n : Nat) : Byte := BitVec.ofNat 8 n
  recordOf ([b 1, b d.klRole] ++ le16 d.ownNumber ++ le16 d.klRequest ++ [b (d.get fKlStatDepth), b flags] ++ le16 parent
    ++ le16 d.kl.route ++ [b (d.get fKlVerLink), b (d.get fKlVerCalFmt), 3, b ports] ++ leBytes 4 (d.rd sysIdentLo).toNat
    ++ leBytes 4 (d.rd sysIdentHi).toNat ++ [b (d.get fKlGroupId), b (d.get fKlGroupSize), b (d.get fKlGroupStatState), 0])

/-- A CASCADE_EVENT of this device: the harbourmaster keeps it for the packet link, a member sends it up in an EVENT frame (R347). A standalone device is in no cascade. -/
def Device.klEvent (d : Device) (e port other detail : Nat) : Device :=
  let body := [BitVec.ofNat 8 e, BitVec.ofNat 8 port] ++ le16 other ++ le16 detail ++ [0, 0] ++ d.klRecord false
  let msg := d.message 0x08 0 0 d.stamp (padTo 48 body)
  if d.klMaster then d.modKl (fun s => { s with accepted := s.accepted ++ [(0, msg, 5, 0)] })
  else if d.klMember then d.sendUp 5 { body := .event msg, cls := 0, src := d.ownNumber, words := 8 }
  else d

/-! ### SYNC and the group (R339, R354) -/

/-- SYNTH.RATIO: 3.072 GHz over the reference in use, REF_IN as STRAP_4 declares it or the 156.25 MHz word clock, in Q12.20; the rounding is open (R405, R412). -/
def Device.showRatio (d : Device) : Device :=
  let khz := if d.on fSynStatSRef then 156250 else [10000, 19200, 40000, 100000].getD (d.get fClkRefRefSel) 10000
  let (q, d) := d.divOpen (3072000 * 2 ^ 20) khz
  d.wr synRatio (BitVec.ofInt 32 q)

/-- STAT.SYNC changes: KL_SYNC and a SYNC_STATE event (R339). -/
def Device.syncGo (d : Device) (s : Nat) : Device :=
  if d.get fKlStatSync = s then d
  else ((d.put fKlStatSync s).irq 0x1C 3).klEvent 10 0xFF 0xFFFF s

/-- GROUP_STAT.STATE changes: a GROUP_STATE event; only COHERENT runs with a correction (R354). -/
def Device.groupGo (d : Device) (s : Nat) : Device :=
  if d.get fKlGroupStatState = s then d
  else
    let d := d.put fKlGroupStatState s
    let d := if s = 2 then d else (d.put fKlGroupStatCorr 0).modKl (fun x => { x with corr := 0, slope := 0 })
    d.klEvent 9 0xFF 0xFFFF s

/-- An accepted group correction takes effect at its boundary and the member is COHERENT (R352). -/
def Device.groupApply (d : Device) (corr slope : Int) : Device :=
  let d := d.modKl (fun s => { s with corr := corr, slope := slope })
  (d.putS fKlGroupStatCorr corr).groupGo 2

/-- A member whose CAL_FMT differs from the leader's leaves at its boundary (R355). -/
def Device.groupLeave (d : Device) : Device := ((d.put fKlGroupStatReason 0xF0).groupGo 3).irq 0x1C 2

/-- A member of a coherent group needs GROUP_CAL again (R354). -/
def Device.groupDue (d : Device) : Device := if d.get fKlGroupId = 0 then d else d.put fKlGroupStatDue 1

end Sys2Proof.Machine
end

