-- ==== Sys2Proof/Machine/Power.lean ====
section
/-!
DEFINITION. The wake logic and the checks of a sleep request (R414, R418 … R422). Entering and leaving sleep stand in Sleep.lean.
-/
namespace Sys2Proof.Machine

/-- Set PWR.STAT.STATE; every change is recorded (R424). -/
def Device.pwrSetState (d : Device) (n : Nat) : Device :=
  if d.get fPwrStatState = n then d else (d.put fPwrStatState n).irq 0x03 0

/-- PATH_pp's PAGE_STAT.STATE is OFF. -/
def Device.pathIsOff (d : Device) (p : Nat) : Bool := d.get (fPsState (0x40 + p)) = 0

/-- Every path is OFF. -/
def Device.pathsOff (d : Device) : Bool := (List.range 64).all d.pathIsOff

/-- Every carrier is OFF. -/
def Device.carriersOff (d : Device) : Bool := (List.range 4).all (fun c => d.get (fCarStatState c) = 0)

/-- Every session is OFF. -/
def Device.sessionsOff (d : Device) : Bool := (List.range 16).all (fun n => d.get (fPsState (0x80 + n)) = 0)

/-- STAT.STATE follows the paths while awake, and reads ENTERING from a request's acceptance to the exit's end (R414, R419, R423). -/
def Device.followPower (d : Device) : Device :=
  d.pwrSetState (if d.pwr.phase = .awake then (if d.pathsOff then 1 else 0) else 2)

/-- May a MOOR (or LAY_UP) request be accepted (R418)? -/
def Device.sleepAllowed (d : Device) (layUp : Bool) : Bool :=
  d.pathsOff && d.carriersOff && d.sessionsOff && !d.on fCalStatBusy && !d.on fOptStatBusy
    && decide (d.get (fPsState 0x11) = 0) && d.rep.queue.isEmpty && !(d.rd sspmStat).getLsbD 0
    && (layUp || d.rd pwrWakeEn != 0) && d.pwr.phase = .awake

/-- A request is accepted: ENTERING, with the edge latches cleared (R419 step 1). -/
def Device.sleepBegin (d : Device) (layUp : Bool) : Device :=
  { d with pwr := { d.pwr with phase := .prepare, layUp := layUp, latched := 0, edges := 0 } }

/-- An enabled wake edge of source `s`: latched in PREPARE, lost inside the window, captured while moored (R421, R422). -/
def Device.wakeEdge (d : Device) (s : Nat) : Device :=
  let bit : BitVec 11 := BitVec.ofNat 11 (1 <<< s)
  if !(d.rd pwrWakeEn).getLsbD s then d
  else match d.pwr.phase with
    | .prepare | .prepared => { d with pwr := { d.pwr with latched := d.pwr.latched ||| bit } }
    | .window => d.count fPwrCountsLostEdges
    | .moored => { d with pwr := { d.pwr with edges := d.pwr.edges ||| bit } }
    | _ => d

/-- WAKE_CFG.MODE_k. -/
def Device.wakeMode (d : Device) (k : Nat) : Nat := d.get ⟨pwrWakeCfg, 2 * k + 1, 2 * k⟩

/-- The level at WAKE_IN_k. -/
def Device.wakePin (d : Device) (k : Nat) : Bool := d.on ⟨pinsLevels, 8 + k, 8 + k⟩

/-- The level at WAKE_IN_k becomes `high`; an edge the mode names is a wake edge (R421). -/
def Device.wakePinChange (d : Device) (k : Nat) (high : Bool) : Device :=
  let edge := d.wakePin k != high && d.wakeMode k = (if high then 2 else 3)
  (d.putB ⟨pinsLevels, 8 + k, 8 + k⟩ high).when edge (fun d => d.wakeEdge k)

/-- The level wake sources asserted now, enabled ones only: WAKE_IN in a level mode, and harbour watch in DETECTED (R421). -/
def Device.wakeLevels (d : Device) : BitVec 11 :=
  let pin (k : Nat) : BitVec 11 :=
    if (d.wakeMode k = 0 ∧ d.wakePin k) ∨ (d.wakeMode k = 1 ∧ ¬ d.wakePin k) then BitVec.ofNat 11 (1 <<< k) else 0
  let w : BitVec 11 := if d.get fWatchStatState = 3 then 64 else 0
  (pin 0 ||| pin 1 ||| pin 2 ||| pin 3 ||| w) &&& BitVec.ofNat 11 (d.rd pwrWakeEn).toNat

/-- Which writes of the PWR page are applied (R418, R424). -/
def pwrWriteOk (d : Device) (off : Nat) (v : Word) : Bool :=
  if off = 0x10 then
    (bitsOf v 1 0 = 1 && d.sleepAllowed false) || (bitsOf v 1 0 = 2 && d.sleepAllowed true)
  else if off = 0x12 ∨ off = 0x13 ∨ off = 0x14 ∨ off = 0x16 then d.pwr.phase = .awake
  else true

/-- The effect of an applied PWR write. -/
def pwrWritten (off : Nat) (v : Word) (d : Device) : Device :=
  if off = 0x10 then (d.sleepBegin (bitsOf v 1 0 = 2)).followPower
  else if off = 0x19 then d.when (v.getLsbD 0) (fun d => d.wr pwrCounts 0)
  else d

end Sys2Proof.Machine
end

