-- ==== Sys2Proof/Machine/Carriers.lean ====
section
/-!
DEFINITION. Carriers: their checks and sequences, hops, drains and cuts, channel occupancy, listen-before-talk, band calibration, the RF-off interlock and coexistence (R194 … R208, R215 … R227, R565, R566).
-/
namespace Sys2Proof.Machine

/-- One millisecond, one microsecond in tide ticks (R453). -/
def tideMs : Nat := 1024000
def tideUs : Nat := 1024

/-- CAR.CFG.YIELD and CTRL_c.RAMP in tide ticks. -/
def Device.carYield (d : Device) : Nat := d.get fCarCfgYield * 10 * tideUs
def Device.carRamp (d : Device) (c : Nat) : Nat := d.get (fCarCtrlRamp c) * tideUs

/-- Does carrier `c` run with HOP_AUTO = 1? -/
def Device.carAuto (d : Device) (c : Nat) : Bool := d.on (fCarCtrlHopAuto c)

/-- The other carriers that are not OFF. -/
def Device.otherCars (d : Device) (c : Nat) : List Nat := (List.range 4).filter (fun o => o != c && d.carState o != 0)

/-- Is the carrier's output on: RAMP_UP through RAMP_DOWN? -/
def Device.radiates (d : Device) (c : Nat) : Bool := decide (4 ≤ d.carState c) && decide (d.carState c ≤ 8)

/-! ### Occupancy (R224) -/

/-- The ON intervals logged for a channel. -/
def Device.occLog (d : Device) (hz : Nat) : List (Nat × Nat) := match d.occ.find? (fun e => e.1 = hz) with
  | some e => e.2
  | none => []

/-- Set the log of a channel. -/
def Device.setOccLog (d : Device) (hz : Nat) (l : List (Nat × Nat)) : Device :=
  let rest := d.occ.filter (fun e => e.1 != hz)
  { d with occ := if l.isEmpty then rest else rest ++ [(hz, l)] }

/-- OCC_WINDOW in ticks. -/
def Profile.window (p : Profile) : Nat := p.occWindow * 100 * tideMs

/-- Ticks of an interval that lie in the window before `t`. -/
def overlap (window t : Nat) (i : Nat × Nat) : Nat := min i.2 t - max i.1 (t - window)

/-- The occupancy of a channel at tide `t`; an output that is on counts as going on until then. -/
def Device.occAt (d : Device) (p : Profile) (hz t : Nat) : Nat :=
  let open_ := (List.range 4).foldl (fun s c => match (d.car c).onSince with
    | some b => if (d.car c).hz = hz then s + overlap p.window t (b, t) else s
    | none => s) 0
  (d.occLog hz).foldl (fun s i => s + overlap p.window t i) open_

/-- The occupancy rule for a start or hop of carrier `c` onto a channel. -/
def Device.occOk (d : Device) (p : Profile) (c hz : Nat) : Bool :=
  !p.occupancy || decide (d.occAt p hz d.stamp + d.carYield + 2 * d.carRamp c ≤ p.occLimit * tideMs)

/-- The output of carrier `c` begins: intervals that ended before the window are dropped, and the two oldest of 16 are merged. -/
def Device.carOnBegin (d : Device) (c : Nat) : Device :=
  let now := d.stamp
  let d := d.modCar c (fun s => { s with onSince := some now, visitStart := some (s.visitStart.getD now) })
  match d.profile with
  | none => d
  | some p =>
    if !p.occupancy then d
    else
      let hz := (d.car c).hz
      let l := (d.occLog hz).filter (fun i => decide (now - p.window ≤ i.2))
      d.setOccLog hz (match l with
        | a :: b :: t => if 16 ≤ l.length then (a.1, b.2) :: t else l
        | _ => l)

/-- The output of carrier `c` ends: its interval enters the log and its visit. -/
def Device.carOnEnd (d : Device) (c : Nat) : Device :=
  match (d.car c).onSince with
  | none => d
  | some b =>
    let now := d.stamp
    let d := d.modCar c (fun s => { s with onSince := none, visitOn := s.visitOn + (now - b) })
    match d.profile with
    | none => d
    | some p => if p.occupancy then d.setOccLog (d.car c).hz (d.occLog (d.car c).hz ++ [(b, now)]) else d

/-! ### Checks (R227) -/

/-- The reason that refuses carrier `c` a start or hop onto a frequency, 0 where none does (R227, R231). -/
def Device.carReason (d : Device) (c hz : Nat) : Nat :=
  match d.profile with
  | none => 1
  | some p =>
    let others := d.otherCars c
    if !p.channels.any (fun x => x.hz = hz) then 2
    else if p.maxCarriers < others.length + 1 then 3
    else if others.any (fun o => decide (((hz : Int) - (d.car o).hz).natAbs < 400000)) then 4
    else if !d.occOk p c hz then 5
    else if p.hop && !d.carAuto c then 6
    else 0

/-- Draw a permutation of a list by free values (R225). -/
def Device.permute (d : Device) : Nat → List Nat → List Nat × Device
  | 0, _ => ([], d)
  | _ + 1, [] => ([], d)
  | k + 1, a :: l =>
    let (v, d) := d.takeFree
    let i := v.toNat % (l.length + 1)
    let x := (a :: l).getD i a
    let (t, d) := d.permute k ((a :: l).eraseIdx i)
    (x :: t, d)

/-- The first channel of a permutation that is not skipped, with what follows it (R225). -/
def Device.firstFree (d : Device) (c : Nat) : List Nat → Option (Nat × List Nat)
  | [] => none
  | hz :: t => if d.carReason c hz = 0 && !(d.car c).busy.contains hz then some (hz, t) else d.firstFree c t

/-- The next channel of a HOP_AUTO carrier; a pass that is used up is followed by a new permutation. -/
def Device.pickChannel (d : Device) (c : Nat) : Option Nat × Device :=
  match d.firstFree c (d.car c).perm with
  | some (hz, t) => (some hz, d.modCar c (fun s => { s with perm := t }))
  | none =>
    let all := match d.profile with
      | some p => p.channels.map (·.hz)
      | none => []
    let (l, d) := d.permute all.length all
    match d.firstFree c l with
    | some (hz, t) => (some hz, d.modCar c (fun s => { s with perm := t }))
    | none => (none, d.modCar c (fun s => { s with perm := l }))

/-! ### States, holds and ends -/

/-- Set STAT_c.STATE; the residuals of a carrier that leaves SETTLE and ON no longer show (R259). -/
def Device.carGo (d : Device) (c st : Nat) : Device :=
  let was := d.carState c
  let d := d.when ((was = 5 || was = 6) && st != 5 && st != 6) (fun d => d.forAll (List.range 64) (fun d p => d.put (fPathCancResid p c) 0x8000))
  d.put (fCarStatState c) st

/-- Hold the sessions of a carrier for a carrier event (R86). -/
def Device.carHold (d : Device) (c : Nat) : Device := d.forAll (d.onCarrier c) (fun d n => d.holdAsk n 5)

/-- Let the sessions of a carrier in ON go on; one whose readmission was refused stays held (R230). -/
def Device.carFree (d : Device) (c : Nat) : Device :=
  d.forAll (d.onCarrier c) (fun d n => d.when (!(d.sess n).refused) (fun d => d.holdEnd n 5))

/-- Abandon the exchanges open on a carrier whose output is cut (R201, R203). -/
def Device.carAbandon (d : Device) (c : Nat) : Device := (d.carHold c).forAll (d.onCarrier c) (fun d n => d.sesAbandon n)

/-- The frequency checked for carrier `c` comes into use; another channel begins a new visit (R565). -/
def Device.carUse (d : Device) (c hz : Nat) : Device :=
  (d.modCar c (fun s => { s with hz := hz, visitStart := none, visitOn := 0 })).wr (carFreqNow c) (BitVec.ofNat 32 hz)

/-- Recompute the steered weights of a carrier's sessions for its frequency and readmit the transmit weights of every assigned stream, all released first, in order of number (R173, R230, R565). -/
def Device.carReadmit (d : Device) (c : Nat) : Device :=
  let ns := d.onCarrier c
  let d := d.forAll ns (fun d n => (d.txEffect n).resteerRx n)
  let d := d.forAll ns (fun d n => d.modStream n (fun s => { s with admitted := false }))
  let d := d.forAll ns (fun d n =>
    let s := d.stream n
    let (ok, d) := match s.tx with
      | .toward _ _ => d.askSteered n s.az s.el
      | f => d.admitTx n f (d.weights n) (d.on (fBfStreamNulled n)) s.az s.el
    if ok then (d.txEffect n).modSes n (fun s => { s with refused := false })
    else (d.modSes n (fun s => { s with refused := true })).retireRun n 8 (d.get fReglLastReason))
  d.groupsStale.reglChanged

/-- The mirror takes a CTRL_c whose EN the device has set to 0 (R198). -/
def Device.carEnOff (d : Device) (c : Nat) : Device :=
  let d := d.put (fCarCtrlEn c) 0
  { d with mirror := storePut resetWord d.mirror (carCtrl c) (d.rd (carCtrl c)) }

/-- Carrier `c` goes to OFF; its streams stay assigned and their sessions held (R204). -/
def Device.carOff (d : Device) (c : Nat) : Device :=
  let was := d.carState c
  let d := ((d.carHold c).carOnEnd c).carGo c 0
  let d := ((d.put (fCarStatBusy c) 0).put (fCarStatShuttingDown c) 0).wr (carFreqNow c) 0
  let d := (d.modCar c (fun _ => {})).reglChanged
  d.when (was != 0) (fun d => d.irq 0x14 (4 * c + 1))

/-- A start or hop of carrier `c` is refused (R198, R202). -/
def Device.carRefuse (d : Device) (c err reason : Nat) : Device :=
  let d := d.when (err = 8) (fun d => d.reglRefuse reason 0 c true)
  let d := (((d.carEnOff c).put (fCarStatErr c) err).put (fCarStatReason c) reason).irq 0x14 (4 * c + 2)
  let d := d.forAll (d.onCarrier c) (fun d n => d.retireRun n err reason)
  (d.put (fCarStatEnq c) 0).carOff c

/-! ### Steps of the sequence (R198, R199, R216, R226) -/

/-- Does no carrier stand in a step that radiates, or is about to (R200)? -/
def Device.carsCalm (d : Device) : Bool := (List.range 4).all (fun c => [0, 1, 2, 9, 10].contains (d.carState c))

/-- May a carrier pass SYNTH_WAIT: lock, band calibration, none running, and none due that only waits for this instant (R199, R200); the interlock of EXTEST holds too (R529). -/
def Device.synthReady (d : Device) (c : Nat) : Bool :=
  d.on fSynStatSLock && d.on fSynStatSCal && !d.extest
    && (match d.bandCal with
      | .none => true
      | .running => false
      | .due => !((List.range 4).all (fun o => o = c || [0, 1, 2, 3, 9, 10].contains (d.carState o))) && !(d.car c).bandCal)

/-- Does coexistence apply to carrier `c` (R216)? -/
def Device.coexOn (d : Device) (c : Nat) : Bool := d.on fCoexCtrlEn && d.on ⟨coexCtrl, 4 + c, 4 + c⟩

/-- Is the grant present at COEX_GNT (R215)? -/
def Device.granted (d : Device) : Bool := d.coexGnt != d.on fCoexCtrlPol

/-- Enter RAMP_UP, by way of SYNTH_WAIT where SYNTH_S is not ready (R202). -/
def Device.carRampUp (d : Device) (c : Nat) : Device :=
  if d.synthReady c then (d.carOnBegin c).carGo c 4
  else (d.modCar c (fun s => { s with resume := .ramp })).carGo c 1

/-- Step 4: LISTEN where the profile asks for it. -/
def Device.carListen (d : Device) (c : Nat) : Device :=
  if d.profile.any Profile.lbt then (d.modCar c (fun s => { s with lbtWait := false })).carGo c 3 else d.carRampUp c

/-- Step 3: GRANT_WAIT where coexistence applies and no grant is present. -/
def Device.carGrant (d : Device) (c : Nat) : Device :=
  if d.coexOn c && !d.granted then d.carGo c 2 else d.carListen c

/-- Step 2: SYNTH_WAIT where SYNTH_S is not locked and calibrated. -/
def Device.carSynth (d : Device) (c : Nat) : Device :=
  if d.synthReady c then d.carGrant c
  else (d.modCar c (fun s => { s with resume := .grant })).carGo c 1

/-- Where a carrier whose drain has ended goes: to OFF, a hop, BARRED, the coexistence step, or back up (R200, R202 … R204, R218, R224). -/
def Device.carHeading (d : Device) (c : Nat) : Device :=
  let s := d.car c
  let d := d.modCar c (fun s => { s with toBarred := false, grantLost := false, bandCal := false })
  if s.stopDue then d.carOff c
  else if s.hopDue then (d.modCar c (fun s => { s with picked := false })).carGo c 9
  else if s.toBarred then (d.modCar c (fun s => { s with visitStart := none, visitOn := 0 })).carGo c 10
  else if s.grantLost then d.carGrant c
  else d.carRampUp c

/-- The carriers that wait in SYNTH_WAIT go on where SYNTH_S is ready (R199, R201). -/
def Device.synthContinue (d : Device) : Device :=
  d.forAll (List.range 4) (fun d c =>
    if d.carState c != 1 || !d.synthReady c then d
    else match (d.car c).resume with
      | .grant => d.carGrant c
      | .listen => d.carListen c
      | .ramp => d.carRampUp c
      | .heading => d.carHeading c)

/-- EN = 1 of a carrier in OFF: step 1 of R198, then the readmission of R565 and the sequence. -/
def Device.carStart (d : Device) (c : Nat) : Device :=
  let d := (d.modCar c (fun _ => {})).put (fCarStatBusy c) 1
  let go (d : Device) (hz : Nat) : Device := (((d.carUse c hz).carGo c 1).carReadmit c).carSynth c
  if d.carAuto c && d.profile.isSome then
    let base := d.carReason c (match d.profile with
      | some p => (p.channels.headD ⟨0, 0⟩).hz
      | none => 0)
    if base = 3 then d.carRefuse c 8 3
    else match d.pickChannel c with
      | (some hz, d) => go d hz
      | (none, d) => ((d.carUse c ((d.car c).perm.headD 0)).carGo c 10)
  else
    let hz := freqWordHz (d.rd (carFreq c))
    match d.carReason c hz with
    | 0 => go d hz
    | r => d.carRefuse c 8 r

/-- A queued re-enable follows a completed shutdown (R66). -/
def Device.carRestart (d : Device) (c : Nat) : Device :=
  if d.carState c = 0 && d.on (fCarStatEnq c) then (d.put (fCarStatEnq c) 0).carStart c else d

/-- The carrier enters DRAIN and its sessions are held (R86, R203). -/
def Device.carDrain (d : Device) (c : Nat) (f : CarSt → CarSt) : Device := ((d.modCar c f).carGo c 7).carHold c

/-- A step in which the carrier stands at full level has ended, or begins: causes that came meanwhile take it to DRAIN (R67). -/
def Device.carDue (d : Device) (c : Nat) : Bool :=
  let s := d.car c
  s.stopDue || s.bandCal || s.grantLost || s.toBarred

/-- The carrier is ON (R198, R208). -/
def Device.carOn (d : Device) (c : Nat) : Device :=
  let d := d.when (d.car c).hopping (fun d => d.addWrap (fWord (carHops c)) 1)
  let d := (d.modCar c (fun s => { s with hopping := false, busy := [] })).put (fCarStatBusy c) 0
  ((d.carGo c 6).carFree c).irq 0x14 (4 * c)

/-! ### Events of the sequence -/

/-- SYNTH_WAIT_TIMEOUT: 400 µs counted in SYNTH_WAIT refuse the carrier (R199); no time counts while a band calibration is due or runs. -/
def synthWaitTimeout (c : Nat) (d : Device) : Device :=
  if d.carState c = 1 && d.bandCal = .none && !d.synthReady c then (d.carRefuse c 6 0).carRestart c else d

/-- LISTEN_END: the channel power, in 0.01 dBm referred to one path input, is compared with LBT_THR (R226). -/
def listenEnd (c : Nat) (power : BitVec 16) (d : Device) : Device :=
  match d.profile with
  | none => d
  | some p =>
    if d.carState c != 3 || (d.car c).lbtWait then d
    else if power.toInt ≤ p.lbtThr then d.carRampUp c
    else
      let d := d.count (fHalf reglLbtBusy)
      if d.carAuto c then
        (d.modCar c (fun s => { s with busy := s.hz :: s.busy, picked := false, hopDue := true })).carGo c 9
      else d.modCar c (fun s => { s with lbtWait := true })

/-- LBT_RETRY_EXPIRY: a fixed-frequency carrier listens again (R226). -/
def lbtRetryExpiry (c : Nat) (d : Device) : Device :=
  if d.carState c = 3 && (d.car c).lbtWait then d.modCar c (fun s => { s with lbtWait := false }) else d

/-- RAMP_UP_END (R198). -/
def rampUpEnd (c : Nat) (d : Device) : Device :=
  if d.carState c != 4 then d
  else if d.carDue c then d.carDrain c id
  else d.carGo c 5

/-- SETTLE_END (R198). -/
def settleEnd (c : Nat) (d : Device) : Device :=
  if d.carState c != 5 then d
  else if d.carDue c then d.carDrain c id
  else d.carOn c

/-- Does every session of carrier `c` stand at a quiet point, held (R203)? -/
def Device.carQuiet (d : Device) (c : Nat) : Bool :=
  (d.onCarrier c).all (fun n =>
    let st := d.sesState n
    st = 0 || st = 1 || st = 8 || ((st = 9 || st = 10) && !(d.sess n).acc.running && d.sesQuiet n))

/-- DRAIN_QUIET: RAMP_DOWN begins (R203). -/
def drainQuiet (c : Nat) (d : Device) : Device :=
  if d.carState c = 7 && d.carQuiet c then d.carGo c 8 else d

/-- DRAIN_CUT: the yield is over and the carrier proceeds to RAMP_DOWN regardless (R203, R217). -/
def drainCut (c : Nat) (d : Device) : Device :=
  if d.carState c != 7 then d
  else
    let d := ((d.carAbandon c).carGo c 8).irq 0x14 (4 * c + 3)
    d.when (d.car c).grantLost (fun d => d.count ⟨coexLost, 31, 16⟩)

/-- RAMP_DOWN_END (R204). -/
def rampDownEnd (c : Nat) (d : Device) : Device :=
  if d.carState c = 8 then ((d.carOnEnd c).carHeading c).carRestart c else d

/-- AUTO_HOP: in RETUNE a HOP_AUTO carrier takes the next channel of its permutation, or waits in BARRED where every channel is skipped (R202, R225). -/
def autoHop (c : Nat) (d : Device) : Device :=
  if d.carState c != 9 || !d.carAuto c || (d.car c).picked || (d.car c).stopDue then d
  else match d.pickChannel c with
    | (some hz, d) => (d.carUse c hz).modCar c (fun s => { s with picked := true })
    | (none, d) => (d.modCar c (fun s => { s with hopDue := false })).carGo c 10

/-- RETUNE has brought the carrier to its new channel: its weights are readmitted (R173). -/
def Device.carHopped (d : Device) (c : Nat) : Device :=
  (d.modCar c (fun s => { s with hopDue := false, hopping := true })).carReadmit c

/-- RETUNE_END: the channel is checked and the weights readmitted (R173, R202). -/
def retuneEnd (c : Nat) (d : Device) : Device :=
  let s := d.car c
  if d.carState c != 9 then d
  else if s.stopDue then (d.carOff c).carRestart c
  else if d.carAuto c then (if s.picked then (d.carHopped c).carSynth c else d)
  else match d.carReason c s.target with
    | 0 => ((d.carUse c s.target).carHopped c).carSynth c
    | r => d.carRefuse c 8 r

/-- A carrier near a limit is drained: a fixed-frequency carrier heads for BARRED, a HOP_AUTO carrier for its next channel (R224, R225). -/
def Device.limitDrain (d : Device) (c : Nat) : Device :=
  d.carDrain c (fun s => if d.carAuto c then { s with hopDue := true, picked := false } else { s with toBarred := true })

/-- DWELL_LIMIT_DRAIN: the visit comes within CFG.YIELD + RAMP of DWELL_MAX (R224). -/
def dwellLimitDrain (c : Nat) (d : Device) : Device :=
  match d.profile, (d.car c).visitStart with
  | some p, some b =>
    if (d.carState c = 5 || d.carState c = 6) && p.dwellMax != 0
        && decide (b + p.dwellMax * tideMs ≤ d.stamp + d.carYield + d.carRamp c) then
      (d.limitDrain c).when (d.carAuto c) (fun d => d.put (fCarStatBusy c) 1)
    else d
  | _, _ => d

/-- OCCUPANCY_LIMIT_DRAIN: the channel's occupancy would reach OCC_LIMIT by the end of a drain and ramp that began now (R224). -/
def occupancyLimitDrain (c : Nat) (d : Device) : Device :=
  match d.profile with
  | none => d
  | some p =>
    let t := d.stamp + d.carYield + d.carRamp c
    if (d.carState c = 5 || d.carState c = 6) && p.occupancy && decide (p.occLimit * tideMs ≤ d.occAt p (d.car c).hz t) then
      (d.limitDrain c).when (d.carAuto c) (fun d => d.put (fCarStatBusy c) 1)
    else d

/-- BARRED_RELEASE: the rule of R224 admits a BARRED carrier, or one of the channels a HOP_AUTO carrier may take (R224, R225). -/
def barredRelease (c : Nat) (d : Device) : Device :=
  if d.carState c != 10 then d
  else match d.profile with
    | none => d
    | some p =>
      if d.carAuto c then
        if p.channels.any (fun x => d.carReason c x.hz = 0) then
          ((d.modCar c (fun s => { s with busy := [], picked := false, hopDue := true })).put (fCarStatBusy c) 1).carGo c 9
        else d
      else if d.occOk p c (d.car c).hz then (d.put (fCarStatBusy c) 1).carSynth c else d

/-! ### Band calibration (R199, R200, R406) -/

/-- S_CAL_RUN (R412). -/
def Device.showBandCal (d : Device) : Device := d.putB fSynStatSCalRun (d.bandCal != .none)

/-- A band calibration falls due. -/
def Device.calFall (d : Device) : Device :=
  if d.bandCal = .none then { d with bandCal := .due }.showBandCal else d

/-- BAND_CAL_DUE: the die has drifted 30 °C since the last band calibration (R199). -/
def bandCalDue (d : Device) : Device :=
  let last := d.get fSynStatCalTemp
  if last != 0x80 && decide (480 ≤ (d.dieTemp - 16 * signedOf 8 last).natAbs) then d.calFall else d

/-- BAND_CAL_START: every carrier is out of radiation and the due band calibration runs (R200). -/
def bandCalStart (d : Device) : Device :=
  if d.bandCal = .due && d.carsCalm then { d with bandCal := .running }.showBandCal else d

/-- BAND_CAL_FORCE: 1 s has passed without such an instant; every carrier is drained and ramped down for the recalibration (R200). -/
def bandCalForce (d : Device) : Device :=
  if d.bandCal != .due || d.carsCalm then d
  else d.forAll (List.range 4) (fun d c =>
    match d.carState c with
    | 5 | 6 => d.carDrain c (fun s => { s with bandCal := true })
    | 3 | 4 | 7 => d.modCar c (fun s => { s with bandCal := true })
    | _ => d)

/-- BAND_CAL_COMPLETE: SYNTH_S hands over to the calibrated core and the carriers that waited go on (R200, R406). -/
def bandCalComplete (d : Device) : Device :=
  if d.bandCal != .running then d
  else
    let d := { d with bandCal := .none }.showBandCal
    let d := ((d.put fSynStatSCal 1).putB fSynStatSCore (!d.on fSynStatSCore)).putS fSynStatCalTemp (clampInt (-127) 127 d.dieDegrees)
    (d.forAll (List.range 4) (fun d c => d.modCar c (fun s => { s with bandCal := false }))).synthContinue

/-- Which writes of the SYNTH page are applied (R412). -/
def synWriteOk (d : Device) (off : Nat) (v : Word) : Bool := !(off = 0x11 && fSynCmdRecal.on v && d.on fSynStatSCalRun)

/-- The effect of an applied SYNTH write. -/
def synWritten (off : Nat) (v : Word) (d : Device) : Device := if off = 0x11 && fSynCmdRecal.on v then d.calFall else d

/-! ### The RF-off interlock (R201) -/

/-- Every DAC input goes to zero; carriers in GRANT_WAIT to RAMP_DOWN go to SYNTH_WAIT and what is open on them is abandoned. -/
def Device.interlock (d : Device) : Device :=
  d.forAll (List.range 4) (fun d c =>
    let st := d.carState c
    if decide (2 ≤ st) && decide (st ≤ 8) then
      let r : Resume := if st = 2 then .grant else if st = 3 then .listen else if st = 7 ∨ st = 8 then .heading else .ramp
      ((((d.carOnEnd c).modCar c (fun s => { s with resume := r })).carGo c 1).carAbandon c)
    else d)

/-- SYNTH_S_LOCK_LOSS (R201, R412). -/
def synthSLockLoss (d : Device) : Device :=
  if !d.on fSynStatSLock then d
  else (((d.put fSynStatSLock 0).count fSynStatLosses).irq 0x1D 0).interlock

/-! ### Coexistence (R215 … R219) -/

/-- A carrier drained for a lost grant alone returns to ON (R218). -/
def Device.grantBack (d : Device) (c : Nat) : Device :=
  let s := d.car c
  let d := d.modCar c (fun s => { s with grantLost := false })
  if s.stopDue || s.hopDue || s.toBarred || s.bandCal then d else d.carOn c

/-- COEX_GRANT_ASSERT (R216, R218). -/
def coexGrantAssert (d : Device) : Device :=
  if d.granted then d
  else
    let d := { d with coexGnt := !d.coexGnt }
    if !d.on fCoexCtrlEn then d
    else d.forAll (List.range 4) (fun d c =>
      if d.carState c = 2 then d.carListen c
      else if d.carState c = 7 && (d.car c).grantLost then d.grantBack c
      else d)

/-- COEX_GRANT_WITHDRAW (R217). -/
def coexGrantWithdraw (d : Device) : Device :=
  if !d.granted then d
  else
    let d := { d with coexGnt := !d.coexGnt }
    if !d.on fCoexCtrlEn then d
    else
      let d := (d.irq 0x13 0).count ⟨coexLost, 15, 0⟩
      d.forAll ((List.range 4).filter d.coexOn) (fun d c =>
        match d.carState c with
        | 5 | 6 | 7 => d.carDrain c (fun s => { s with grantLost := true })
        | 4 => ((d.modCar c (fun s => { s with grantLost := true })).carGo c 8).carHold c
        | 3 => d.carGo c 2
        | 1 => if (d.car c).resume = .heading then d else d.carGo c 2
        | _ => d)

/-- Which writes of the COEX page are applied (R219). -/
def coexWriteOk (d : Device) (off : Nat) (v : Word) : Bool :=
  if off = 0x10 then
    let old := d.rd coexCtrl
    d.carriersOff || (fCoexCtrlEn.of v = fCoexCtrlEn.of old && fCoexCtrlCarMask.of v = fCoexCtrlCarMask.of old && fCoexCtrlPol.of v = fCoexCtrlPol.of old)
  else true

/-- The coexistence outputs follow the carriers, and STAT shows the four balls (R215, R216). -/
def Device.followCoex (d : Device) : Device :=
  let en := d.on fCoexCtrlEn
  let pol := d.on fCoexCtrlPol
  let req := en && (List.range 4).any (fun c => d.coexOn c && d.carState c != 0)
  let pri := en && (d.rd schedUrgent != 0 || d.on fCoexCtrlPriForce)
  let act := en && (List.range 4).any d.radiates
  (((d.putB fCoexStatReq (req != pol)).putB fCoexStatPri (pri != pol)).putB fCoexStatGnt d.coexGnt).putB fCoexStatAct (act != pol)

/-! ### The CAR page (R206, R207, R566) -/

/-- Which carrier and which word of it a CAR offset names. -/
def carOfOff (off : Nat) : Nat × Nat := ((off - 0x40) / 8, (off - 0x40) % 8)

/-- Is a frequency word in range? -/
def freqWordOk (v : Word) : Bool := decide (bitsOf v 9 0 ≤ 1000) && decide ((signedOf 18 (bitsOf v 29 12)).natAbs ≤ 50000)

/-- Which writes of the CAR page are applied (R207). -/
def carWriteOk (d : Device) (off : Nat) (v : Word) : Bool :=
  if off < 0x40 then (if off = 0x10 then bitsOf v 15 0 != 0 else true)
  else
    let (c, w) := carOfOff off
    let isOff := d.carState c = 0
    match w with
    | 0 =>
      let old := d.rd (carCtrl c)
      let same := fCarCtrlRamp c |>.of v
      decide (5 ≤ same) && decide (same ≤ 100) && decide (200 ≤ (fCarCtrlSettle c).of v) && decide ((fCarCtrlSettle c).of v ≤ 5000)
        && (isOff || (bitsOf v 31 8 = bitsOf old 31 8 && bitsOf v 1 1 = bitsOf old 1 1))
    | 1 => isOff && freqWordOk v
    | 2 => freqWordOk v
    | 3 => !(v.getLsbD 0) || (d.carState c = 6 && !d.carAuto c)
    | _ => true

/-- EN = 1 applied (R64 … R67). -/
def Device.carEnable (d : Device) (c : Nat) : Device :=
  if d.on (fCarStatShuttingDown c) then d.put (fCarStatEnq c) 1
  else if d.carState c = 0 then d.carStart c else d

/-- EN = 0 applied (R65 … R67, R204). -/
def Device.carDisable (d : Device) (c : Nat) : Device :=
  if d.on (fCarStatEnq c) then d.put (fCarStatEnq c) 0
  else if d.on (fCarStatShuttingDown c) then d
  else match d.carState c with
    | 0 => d
    | 1 | 2 | 3 | 10 => (d.carOff c).carRestart c
    | st =>
      let d := ((d.put (fCarStatBusy c) 0).put (fCarStatShuttingDown c) 1).modCar c (fun s => { s with stopDue := true })
      d.when (st = 6) (fun d => d.carDrain c id)

/-- A commanded hop to the frequency in NEXT_c (R202). -/
def Device.carHop (d : Device) (c : Nat) : Device :=
  (d.put (fCarStatBusy c) 1).carDrain c (fun s => { s with hopDue := true, target := freqWordHz (d.rd (carNext c)) })

/-- The effect of an applied CAR write. -/
def carWritten (off : Nat) (v : Word) (d : Device) : Device :=
  if off < 0x40 then d
  else
    let (c, w) := carOfOff off
    match w with
    | 0 => if v.getLsbD 0 then d.carEnable c else d.carDisable c
    | 3 => d.when (v.getLsbD 0) (fun d => d.carHop c)
    | _ => d

/-- A BLOCK reset of the CAR page stops every carrier at once, without a ramp (R566); it runs before the page's words take their reset values. -/
def carBlockReset (d : Device) : Device :=
  d.forAll (List.range 4) (fun d c =>
    if d.carState c = 0 then d.modCar c (fun _ => {})
    else (((d.carOnEnd c).carAbandon c).carGo c 0).modCar c (fun _ => {}))

end Sys2Proof.Machine
end

