-- ==== Sys2Proof/Machine/Spares.lean ====
section
/-!
DEFINITION. Pools of spares, the records of the repair map, and dead paths (R292 … R295, R305, R309, R311).
-/
namespace Sys2Proof.Machine

/-- The redundant elements of path `p`. -/
def Device.elem (d : Device) (p : Nat) : ElemSt := d.rep.elems.getD p {}

/-- Change what repair holds. -/
def Device.modRep (d : Device) (f : RepSt → RepSt) : Device := { d with rep := f d.rep }

/-- PATH_pp.SPARES shows the path's elements (R259). -/
def Device.showSpares (d : Device) (p : Nat) : Device :=
  let e := d.elem p
  let d := (d.put (fPathSparesFailedSlice p) (e.slice.getD 31)).putB (fPathSparesSpareFree p) e.slice.isNone
  (d.put (fPathSparesDacSpares p) e.dacFree.length).put (fPathSparesDrvSpares p) e.drvFree.length

/-- Change the elements of path `p`. -/
def Device.setElem (d : Device) (p : Nat) (e : ElemSt) : Device :=
  (d.modRep (fun r => { r with elems := r.elems.setIfInBounds p e })).showSpares p

/-- A repair-map record (R309): kind, unit, element, replacement and origin, with its check. -/
def mapRecord (kind unit element spare origin : Nat) : List Byte :=
  let b := [BitVec.ofNat 8 kind, BitVec.ofNat 8 unit] ++ leBytes 2 element ++ [BitVec.ofNat 8 spare, BitVec.ofNat 8 origin]
  b ++ leBytes 2 (crc16 (bytesBits b))

/-- A record joins the queue of at most 32, or is dropped (R311). -/
def Device.queueRecord (d : Device) (r : List Byte) : Device :=
  if d.rep.queue.length < 32 then d.modRep (fun s => { s with queue := s.queue ++ [r] }) else d.count fRepMapDropped

/-- A spare has been consumed: REPAIR_APPLIED and a record (R295). -/
def Device.spareUsed (d : Device) (r : List Byte) : Device := (d.irq 0x11 0).queueRecord r

/-- A pool is empty: REPAIR_EXHAUSTED (R295). -/
def Device.poolEmpty (d : Device) : Device := (d.irq 0x11 1).modRep (fun s => { s with ranOut := true })

/-- ORIGIN of a record: 2 during a self-test, else 1. -/
def Device.origin (d : Device) : Nat := if d.get (fPsState 0x11) = 1 then 2 else 1

/-- Is path `p` dead (R305)? -/
def Device.pathDead (d : Device) (p : Nat) : Bool :=
  if p < 32 then (d.rd repDeadLo).getLsbD p else (d.rd repDeadHi).getLsbD (p - 32)

/-- Set a path's bit in DEAD_LO or DEAD_HI. -/
def Device.setDead (d : Device) (p : Nat) (b : Bool) : Device :=
  let d := if p < 32 then d.putB ⟨repDeadLo, p, p⟩ b else d.putB ⟨repDeadHi, p - 32, p - 32⟩ b
  d.put fRepPoolsDeadPaths ((List.range 64).filter d.pathDead).length

/-- Set a path's bit in BF.MUTED_LO or MUTED_HI; STAT.ACTIVE_PATHS counts the paths that are 0 there (R193). -/
def Device.setMuted (d : Device) (p : Nat) (b : Bool) : Device :=
  let d := if p < 32 then d.putB ⟨bfMutedLo, p, p⟩ b else d.putB ⟨bfMutedHi, p - 32, p - 32⟩ b
  d.put fBfStatActivePaths d.livePaths.length

end Sys2Proof.Machine
end

