-- ==== Sys2Proof/Machine/Paths.lean ====
section
/-!
DEFINITION. RF paths: the enable and shutdown sequences, faults and mutes, renormalisation, gain and cancellation loops, element swaps (R189, R190, R235 … R260, R294, R567).
-/
namespace Sys2Proof.Machine

/-- PAGE_STAT.STATE of PATH_pp (R250). -/
def Device.pathState (d : Device) (p : Nat) : Nat := d.get (fPsState (0x40 + p))

/-- Set PAGE_STAT.STATE of PATH_pp. -/
def Device.pathGo (d : Device) (p st : Nat) : Device := d.put (fPsState (0x40 + p)) st

/-- Are the path's converters and driver powered: from POWERING until POWERING_DOWN ends (R254)? -/
def Device.pathPowered (d : Device) (p : Nat) : Bool := decide (2 ≤ d.pathState p)

/-- Must a join or drain wait for a boundary: is a carrier in SETTLE or ON (R251)? -/
def Device.mustWait (d : Device) : Bool := (List.range 4).any (fun c => d.carState c = 5 || d.carState c = 6)

/-! ### Mutes and renormalisation (R189, R190) -/

/-- Take path `p` out of one set: its weight becomes 0 and its magnitude counts as lost. -/
def Device.dropWeight (d : Device) (set p : Nat) : Device :=
  let m := magFx (d.weight set p)
  let n := set % 16
  (d.setWeight set p 0).modStream n (fun s =>
    if set < 16 then { s with lostTx := s.lostTx + m, pend := s.pend.map (fun t => { t with w := t.w.set p 0, lost := t.lost + magFx (t.w.getD p 0) }) }
    else if set < 32 then { s with lostA := s.lostA + m, pendA := s.pendA.map (fun t => (t.1, t.2.set p 0)) }
    else { s with lostB := s.lostB + m, pendB := s.pendB.map (fun t => (t.1, t.2.set p 0)) })

/-- The path's weights become 0 in every stream and set and its MUTED bit is set. -/
def Device.dropPath (d : Device) (p : Nat) : Device := (d.forAll (List.range 48) (fun d set => d.dropWeight set p)).setMuted p true

/-- A receive weight scaled by S, limited to magnitude 1 (R190). -/
def scaleRx (s : Int) (w : Word) : Word :=
  let i := fxMul (fxOf (wI w)) s
  let q := fxMul (fxOf (wQ w)) s
  let m := fxSqrt (fxMul i i + fxMul q q)
  if fxOf 32768 < m then roundWeight ⟨fxDiv (i * 32768) m, fxDiv (q * 32768) m⟩ else roundWeight ⟨i, q⟩

/-- Renormalise one receive set. -/
def Device.renormRx (d : Device) (n : Nat) (b : Bool) : Device :=
  let set := (if b then 32 else 16) + n
  let lost := if b then (d.stream n).lostB else (d.stream n).lostA
  let ws := d.weights set
  let now := magSum ws
  if lost = 0 ∨ now = 0 then d
  else (d.setWeights set (ws.map (scaleRx (fxDiv (now + lost) now)))).modStream n (fun s =>
    if b then { s with lostB := 0 } else { s with lostA := 0 })

/-- Renormalise every weight set (R190); the transmit scaling of a session that is OFF waits for its start. -/
def Device.renormalise (d : Device) : Device :=
  let d := d.forAll (List.range 16) (fun d n =>
    let d := (d.renormRx n false).renormRx n true
    if !d.sesEnabled n then d
    else (d.setWeights n (d.renormTx n)).modStream n (fun s => { s with lostTx := 0 }))
  (d.put fBfStatRenormPending 0).groupsStale.reglChanged

/-- The renormalisation after a mute waits for the next boundary (R189). -/
def Device.awaitRenorm (d : Device) : Device := (d.put fBfStatRenormPending 1).await .renorm

/-- The path no longer contributes to the figures (R238). -/
def Device.endContribution (d : Device) (p : Nat) : Device :=
  let d := (((d.put (fPathTxpwrNowLevel p) 0x80).put (fPathTxpwrNowPending p) 0).put (fPathTxpwrNowZero p) 0).put (fPathTxpwrNowCells p) 0
  d.modPath p (fun s => { s with pend := none, joined := false, gainPend := none })

/-- Waiting changes of one path: a mute or shutdown discards them (R272). -/
def Change.ofPath (p : Nat) : Change → Bool
  | .join q | .drain q | .level q | .dpdEn q | .gain q | .cancEn q => q = p
  | .dpdSet q _ _ => q = p
  | .canc q _ _ _ => q = p
  | .backoff (some q) => q = p
  | _ => false

/-- Discard what waits for path `p`, also its part of accepted calibration corrections (R272). -/
def Device.dropPathWaits (d : Device) (p : Nat) : Device :=
  let d := d.dropWaits (Change.ofPath p)
  let keep (l : List CalWord) : List CalWord := l.filter (fun w => w.path != some p)
  let cut : Change → Change
    | .rxCal a ws => .rxCal a (keep ws)
    | .txCal a ws => .txCal a (keep ws)
    | c => c
  let d := { d with cal := { d.cal with waits := d.cal.waits.map (fun (w : Waiting) => ({ w with change := cut w.change } : Waiting)) } }
  (d.put (fPathDpdStatPending p) 0).put (fPathGainUpPending p) 0

/-- Path `p` stops at once, without a ramp: drive, tones and channel outputs to zero, weights to 0, renormalisation at the next boundary. -/
def Device.cutPath (d : Device) (p : Nat) : Device :=
  let had := !d.mutedPath p
  let d := ((d.dropPathWaits p).dropPath p).endContribution p
  (d.when had Device.awaitRenorm).groupsStale.reglChanged

/-! ### Joining and draining (R251, R252) -/

/-- CELLS in use for the level in effect: at most 20, and no more than the path has working. -/
def Device.showCells (d : Device) (p : Nat) : Device := d.put (fPathTxpwrNowCells p) (min 20 (d.path p).cells)

/-- The level in effect of a path, −81 for a drive held at zero (R229, R238). -/
def Device.setLevel (d : Device) (p : Nat) (l : Int) : Device :=
  let d := (d.putS (fPathTxpwrNowLevel p) (max l (-80))).putB (fPathTxpwrNowZero p) (decide (l < -80))
  ((d.put (fPathTxpwrNowPending p) 0).modPath p (fun s => { s with pend := none })).showCells p

/-- Steered sets are recomputed to include a path that joins; transmit weights of an assigned stream ask for admission (R251). -/
def Device.rejoinStream (d : Device) (p n : Nat) : Device :=
  let d := d.resteerRx n
  let s := d.stream n
  match s.tx with
  | .table => d
  | .boresight =>
    let w := (d.weights n).set p (resetWeight 0)
    if s.assigned then (d.admitTx n .boresight w false s.az s.el).2 else d.setWeights n w
  | .toward az el =>
    if s.assigned then (d.askSteered n s.az s.el).2
    else
      let (w, nulled) := d.txSteer n az el
      (d.setWeights n w).putB (fBfStreamNulled n) nulled

/-- The join of path `p`: its bit in MUTED clears, its level is computed, its settings take effect and the ramp begins. -/
def Device.joinPath (d : Device) (p : Nat) : Device :=
  let d := (d.modPath p (fun s => { s with joined := true, cancEn := d.on (fPathCfgCancEn p), dpdEn := d.on (fPathCfgDpdEn p) })).setMuted p false
  let (l, d) := d.levelTake p
  let d := d.setLevel p l
  let d := (d.putB (fPathDpdStatActive p) ((d.path p).dpdKept && (d.path p).dpdEn))
  let d := d.when (!d.on (fPathCfgAgc p)) (fun d => d.put (fPathGainStep p) (d.get (fPathCfgGainFixed p)))
  let d := d.forAll (List.range 16) (fun d n => d.rejoinStream p n)
  d.groupsStale.reglChanged

/-- JOINING begins: the join proceeds at once where no carrier is in SETTLE or ON, else it waits for a boundary. -/
def Device.pathJoin (d : Device) (p : Nat) : Device :=
  let d := d.pathGo p 5
  if d.mustWait then d.await (.join p) else d.joinPath p

/-- The drain boundary of path `p`: weights to 0, renormalised at once, and the ramp down begins. -/
def Device.drainPath (d : Device) (p : Nat) : Device :=
  (((((d.dropPathWaits p).dropPath p).endContribution p).renormalise).dropWaits (fun c => c = .renorm)).pathGo p 9

/-- DRAINING begins. -/
def Device.pathDrain (d : Device) (p : Nat) : Device :=
  let d := d.pathGo p 8
  if d.mustWait then d.await (.drain p) else d.drainPath p

/-- POWERING_DOWN begins. -/
def Device.pathPowerDown (d : Device) (p : Nat) : Device := (d.dropPathWaits p).pathGo p 10

/-! ### Enable and shutdown -/

/-- EN = 1 applied to a path in OFF: it queues for power (R251). -/
def Device.pathStart (d : Device) (p : Nat) : Device :=
  { (d.put (fPsBusy (0x40 + p)) 1).pathGo p 1 with pathQueue := d.pathQueue ++ [p] }

/-- PATH_QUEUE_LEAVE: fewer than 8 paths are POWERING and the path at the front of the queue starts (R251, R255). -/
def pathQueueLeave (d : Device) : Device :=
  match d.pathQueue with
  | [] => d
  | p :: t =>
    if ((List.range 64).filter (fun q => d.pathState q = 2)).length < 8 then
      { (d.put (fPathFaultCause p) 0).pathGo p 2 with pathQueue := t }
    else d

/-- Is the path's shutdown under way? -/
def Device.pathStopping (d : Device) (p : Nat) : Bool := d.on (fPsShuttingDown (0x40 + p))

/-- POWERING_END. -/
def poweringEnd (p : Nat) (d : Device) : Device :=
  if d.pathState p != 2 then d else if d.pathStopping p then d.pathPowerDown p else d.pathGo p 3

/-- RESTORING_END: the kept DPD set and its record are back (R251, R284). -/
def restoringEnd (p : Nat) (d : Device) : Device :=
  if d.pathState p != 3 then d
  else
    let s := d.path p
    let d := ((d.put (fPathDpdStatTemp p) s.dpdTemp).put (fPathDpdStatGen p) s.dpdGen).showSpares p
    if d.pathStopping p then d.pathPowerDown p else d.pathGo p 4

/-- Record path faults (R254). -/
def Device.faultRecord (d : Device) (p : Nat) (causes : BitVec 7) : Device :=
  ((d.put (fPathFaultCause p) ((d.get (fPathFaultCause p)) ||| causes.toNat)).count (fPathFaultCount p)).irq (0x40 + p) 0

/-- A fault in CHECKING refuses the enable (R254). -/
def Device.pathRefuse (d : Device) (p : Nat) (causes : BitVec 7) : Device :=
  let d := d.faultRecord p causes
  let d := ((d.put (fPcEn (0x40 + p)) 0).put (fPsBusy (0x40 + p)) 0).put (fPsShuttingDown (0x40 + p)) 1
  let d := { d with mirror := storePut resetWord d.mirror (pageCtrl (0x40 + p)) (d.rd (pageCtrl (0x40 + p))) }
  d.pathPowerDown p

/-- CHECKING_END: the self-test has measured the idle floor and passed or failed (R251). -/
def checkingEnd (p : Nat) (nf : BitVec 16) (ok : Bool) (d : Device) : Device :=
  if d.pathState p != 4 then d
  else
    let d := d.wr (pathIdleNf p) (nf.setWidth 32)
    if !ok then (if d.pathStopping p then (d.faultRecord p 0x40).pathPowerDown p else d.pathRefuse p 0x40)
    else if d.pathStopping p then d.pathPowerDown p
    else d.pathJoin p

/-- JOIN_RAMP_END: the path is ON. -/
def joinRampEnd (p : Nat) (d : Device) : Device :=
  if d.pathState p = 5 && (d.path p).joined then (d.put (fPsBusy (0x40 + p)) 0).pathGo p 6 else d

/-- EN = 0 applied to a path (R252). -/
def Device.pathStop (d : Device) (p : Nat) : Device :=
  let st := d.pathState p
  let d := if st = 0 then d else (d.put (fPsBusy (0x40 + p)) 0).put (fPsShuttingDown (0x40 + p)) 1
  match st with
  | 1 => { (d.pathGo p 0).put (fPsShuttingDown (0x40 + p)) 0 with pathQueue := d.pathQueue.filter (· != p) }
  | 5 => if (d.path p).joined then d.pathDrain p else d.pathPowerDown p
  | 6 => d.pathDrain p
  | 7 => d.pathPowerDown p
  | _ => d

/-- PATH_RAMP_DOWN_END. -/
def pathRampDownEnd (p : Nat) (d : Device) : Device := if d.pathState p = 9 then d.pathPowerDown p else d

/-- POWER_DOWN_END: the path is OFF; a queued re-enable follows (R66, R252). -/
def powerDownEnd (p : Nat) (d : Device) : Device :=
  if d.pathState p != 10 then d
  else
    let d := (d.put (fPsShuttingDown (0x40 + p)) 0).pathGo p 0
    if d.on (fPsEnq (0x40 + p)) then (d.put (fPsEnq (0x40 + p)) 0).pathStart p else d

/-! ### Faults (R254, R255, R305) -/

/-- The mute of a path: what R254 lists, and a dead record where its spares are used up (R305). -/
def Device.mutePath (d : Device) (p : Nat) (causes : BitVec 7) : Device :=
  let d := ((d.faultRecord p causes).put (fPsBusy (0x40 + p)) 0).cutPath p
  let d := d.pathGo p 7
  if causes &&& 0x18 != 0 && !d.pathDead p then (d.setDead p true).queueRecord (mapRecord 4 p 0 0xFF d.origin) else d

/-- A path fault detector fires (R254). -/
def Device.pathFails (d : Device) (p : Nat) (causes : BitVec 7) : Device :=
  if causes = 0 then d
  else match d.pathState p with
    | 0 | 1 => d
    | 4 => if d.pathStopping p then d.faultRecord p causes else d.pathRefuse p causes
    | 5 | 6 => d.mutePath p causes
    | 7 => d.put (fPathFaultCause p) ((d.get (fPathFaultCause p)) ||| causes.toNat)
    | _ => d.faultRecord p causes

/-- SLICE_FAULT: the spare replaces a slice in use, or SLICE_NONE (R294, R295). -/
def sliceFault (p slice : Nat) (d : Device) : Device :=
  let e := d.elem p
  let inUse := match e.slice with
    | none => decide (slice < 16)
    | some s => decide (slice ≤ 16) && slice != s
  if !inUse || !d.pathPowered p then d
  else match e.slice with
    | none => (d.setElem p { e with slice := some slice }).spareUsed (mapRecord 1 p slice 16 d.origin)
    | some _ => d.poolEmpty.pathFails p 0x08

/-- DAC_CELL_FAULT: a spare cell replaces a cell in use, or DAC_NONE. -/
def dacCellFault (p cell : Nat) (d : Device) : Device :=
  let e := d.elem p
  if 67 ≤ cell || e.dacBad.contains cell || e.dacFree.contains cell || !d.pathPowered p then d
  else match e.dacFree with
    | s :: t => (d.setElem p { e with dacBad := cell :: e.dacBad, dacFree := t }).spareUsed (mapRecord 2 p cell s d.origin)
    | [] => (d.setElem p { e with dacBad := cell :: e.dacBad }).poolEmpty.pathFails p 0x10

/-- DRIVER_CELL_FAULT: a spare cell replaces a cell in use, or the path goes on with one cell fewer and its level is computed again (R294). -/
def driverCellFault (p cell : Nat) (d : Device) : Device :=
  let e := d.elem p
  if 24 ≤ cell || e.drvBad.contains cell || e.drvFree.contains cell || !d.pathPowered p then d
  else match e.drvFree with
    | s :: t => (d.setElem p { e with drvBad := cell :: e.drvBad, drvFree := t }).spareUsed (mapRecord 3 p cell s d.origin)
    | [] =>
      let d := ((d.setElem p { e with drvBad := cell :: e.drvBad }).poolEmpty).modPath p (fun s => { s with cells := s.cells - 1 })
      (d.when (d.get (fPathTxpwrNowLevel p) != 0x80) (fun d => d.showCells p)).reglChanged

/-! ### Gain and cancellation (R239 … R246) -/

/-- AGC_DOWN_STEP: the gain decision on PEAK, given in 0.25 dB below full scale (R244): a step down at once, or an up step that waits for a boundary. -/
def agcDownStep (p : Nat) (peak : BitVec 8) (d : Device) : Device :=
  if !d.on (fPathCfgAgc p) || !(d.path p).joined then d
  else
    let d := d.put (fPathGainPeak p) peak.toNat
    let g := d.get (fPathGainStep p)
    let hi := d.get (fPathAgcHiThr p)
    if peak.toNat < hi then
      if d.get (fPathCfgGainMin p) < g then
        ((((d.put (fPathGainStep p) (g - 1)).count (fPathCountsFast p)).put (fPathGainUpPending p) 0).modPath p (fun s => { s with gainPend := none })).dropWaits (fun c => c = .gain p)
      else d
    else if hi + 16 ≤ peak.toNat && decide (g < d.get (fPathCfgGainMax p)) then
      ((d.modPath p (fun s => { s with gainPend := some (g + 1) })).put (fPathGainUpPending p) 1).await (.gain p)
    else d

/-- Does a candidate differ from the applied coefficient by more than 0.5 dB or 3° (R241)? -/
def cancFar (a b : Word) : Bool :=
  let n (w : Word) : Int := wI w * wI w + wQ w * wQ w
  let dot := wI a * wI b + wQ a * wQ b
  if n a = 0 ∨ n b = 0 then n a != n b
  else
    let db := (fxDb20 (fxOf (n a)) - fxDb20 (fxOf (n b))) / 2
    decide (fxOf 50 < db.natAbs) || decide (fxOf dot < fxMul (fxSqrt (fxOf (n a * n b))) (fxCis (fxOne / 120)).1)

/-- CANC_TRACK: over one TRACK interval the loop has found the coefficient that would null the residual of carrier `c`, the residual and the cancellation achieved, both in 0.01 dB (R240). -/
def cancTrack (p c : Nat) (null : Word) (resid depth : BitVec 16) (d : Device) : Device :=
  let st := d.carState c
  let s := d.path p
  if !(st = 5 || st = 6) || !s.joined || !s.cancEn then d
  else
    let d := (d.put (fPathCancResid p c) resid.toNat).put (fPathCancDepth p c) depth.toNat
    let old := s.cand.getD c 0
    let k := 2 ^ d.get (fPathCancCfgMu p)
    let (i, d) := d.divOpen (wI null - wI old) k
    let (q, d) := d.divOpen (wQ null - wQ old) k
    let cand := mkWeight (clampInt (-32768) 32767 (wI old + i)) (clampInt (-32768) 32767 (wQ old + q))
    let d := d.modPath p (fun s => { s with cand := s.cand.setIfInBounds c cand })
    if st = 5 then d.modPath p (fun s => { s with canc := s.canc.setIfInBounds c cand })
    else d.await (.canc p c cand (cancFar cand (s.canc.getD c 0)))

/-! ### The PATH page (R259, R260) -/

/-- Which writes of a PATH page are applied. -/
def pathWriteOk (off : Nat) (v : Word) : Bool :=
  match off with
  | 0x10 => decide (bitsOf v 15 12 ≤ bitsOf v 11 8) && decide (bitsOf v 11 8 ≤ bitsOf v 19 16) && bitsOf v 15 12 ≤ bitsOf v 19 16
  | 0x11 => decide (-80 ≤ signedOf 8 (bitsOf v 7 0)) && decide (signedOf 8 (bitsOf v 7 0) ≤ 48)
  | 0x14 => decide (8 ≤ bitsOf v 7 0) && decide (bitsOf v 7 0 ≤ 80) && bitsOf v 15 8 != 0
  | 0x15 => decide (2 ≤ bitsOf v 7 0) && decide (bitsOf v 7 0 ≤ 100) && decide (1 ≤ bitsOf v 11 8) && decide (bitsOf v 11 8 ≤ 8)
  | 0x18 => decide (bitsOf v 3 0 ≤ 10)
  | _ => true

/-- The effect of an applied PATH write; `old` is the word before it. A path that has not joined takes its settings when it joins. -/
def pathWritten (p off : Nat) (old v : Word) (d : Device) : Device :=
  match off with
  | 0x10 =>
    if !(d.path p).joined then d
    else
      let ch (i : Nat) : Bool := old.getLsbD i != v.getLsbD i
      let d := d.when (ch 1) (fun d => (d.put (fPathDpdStatPending p) 1).await (.dpdEn p))
      let d := d.when (ch 2) (fun d => d.await (.cancEn p))
      if !v.getLsbD 0 && (ch 0 || bitsOf old 11 8 != bitsOf v 11 8) then
        ((d.modPath p (fun s => { s with gainPend := some (bitsOf v 11 8) })).put (fPathGainUpPending p) 1).await (.gain p)
      else d
  | 0x11 => if (d.path p).joined then d.levelWritten p else d
  | 0x1A =>
    let d := d.when (v.getLsbD 0) (fun d => d.wr (pathCounts p) 0)
    d.when (v.getLsbD 1) (fun d => d.put (fPathFaultCount p) 0)
  | _ => d

/-- A BLOCK reset of a PATH page (R567); it runs before the page's words take their reset values. -/
def pathBlockReset (p : Nat) (d : Device) : Device :=
  let st := d.pathState p
  let keep := d.path p
  let d := { d with pathQueue := d.pathQueue.filter (· != p) }
  let d := if st = 0 ∨ st = 1 then d.pathGo p 0 else if st = 10 then d else (d.cutPath p).pathGo p 10
  d.modPath p (fun _ => { cells := keep.cells, dpdKept := keep.dpdKept, dpdTemp := keep.dpdTemp, dpdGen := keep.dpdGen, canc := keep.canc, cand := keep.cand })

end Sys2Proof.Machine
end

