-- ==== Sys2Proof/Machine/Txs.lean ====
section
/-!
DEFINITION. The breakwater and the TXS page (R211 … R214).
-/
namespace Sys2Proof.Machine

/-- The back-off of path `p` in 0.25 dB. -/
def fBackoff (p : Nat) : Fld := ⟨txsBwBackoff (p / 4), 8 * (p % 4) + 7, 8 * (p % 4)⟩

/-- The next path after `p` in rotation that is enabled and unmuted; `p` itself where there is no other (R211). -/
def Device.nextBw (d : Device) (p : Nat) : Nat :=
  (((List.range 64).map (fun i => (p + 1 + i) % 64)).find? (fun q => d.pathState q = 6 && !d.mutedPath q)).getD p

/-- A violation on path `p`: back-off, or the mute of a path whose back-off is used up (R212). -/
def Device.bwViolation (d : Device) (p : Nat) : Device :=
  let d := (d.count (fHalf txsBwViol)).irq 0x15 0
  let b := d.get (fBackoff p)
  let top := d.get fTxsBwCfgMax
  if top ≤ b then (d.pathFails p 0x20).irq 0x15 1
  else d.put (fBackoff p) (min top (b + d.get fTxsBwCfgStep))

/-- BREAKWATER_DWELL_END: the analysis of one path ends with its measurements, and the rotation moves on (R211, R212, R214). -/
def breakwaterDwellEnd (meas : List MaskMeas) (d : Device) : Device :=
  let p := d.get fTxsBwStatPath
  let up (c : Nat) : Bool := d.carState c = 5 || d.carState c = 6
  if !((List.range 4).any up) then d
  else
    let limits : List Nat := match d.profile with
      | some pr => pr.mask.map (fun (m : MaskPoint) => m.limit)
      | none => []
    let used := if d.pathState p = 6 && !d.mutedPath p then meas.filter (fun m => d.radiates m.car.val && decide (m.point.val < limits.length)) else []
    let margins := used.map (fun m => -(100 * (limits.getD m.point.val 0 : Int)) - m.ratio.toInt)
    let d := d.forAll margins (fun d m =>
      let low := if d.bwFresh then m else min m (d.getS fTxsBwStatWorst)
      { d.putSat fTxsBwStatWorst low with bwFresh := false })
    let d := d.when (margins.any (· < 0)) (fun d => d.bwViolation p)
    let next := d.nextBw p
    let d := d.put fTxsBwStatPath next
    if next ≤ p then { d with bwFresh := true } else d

/-- Which writes of the TXS page are applied (R214). -/
def txsWriteOk (d : Device) (off : Nat) (v : Word) : Bool :=
  if off = 0x10 then
    decide (20 ≤ bitsOf v 7 0) && decide (1 ≤ bitsOf v 15 8) && decide (bitsOf v 15 8 ≤ 16) && decide (1 ≤ bitsOf v 23 16) && decide (bitsOf v 23 16 ≤ 48)
  else if 0x20 ≤ off ∧ off < 0x30 then
    d.sesState (off - 0x20) = 0 && decide (27 ≤ bitsOf v 5 0) && decide (bitsOf v 5 0 ≤ 52) && decide (5 ≤ bitsOf v 13 8) && decide (bitsOf v 13 8 ≤ 33)
  else true

/-- The effect of an applied TXS write (R213). -/
def txsWritten (off : Nat) (v : Word) (d : Device) : Device :=
  if off = 0x13 then
    let d := d.when (fTxsBwClrRelease.on v) (fun d => d.await (.backoff none))
    d.when (fTxsBwClrCount.on v) (fun d => d.wr txsBwViol 0)
  else d

/-- A BLOCK reset of the TXS page restarts the rotation. -/
def txsBlockReset (d : Device) : Device := { d with bwFresh := true }

end Sys2Proof.Machine
end

