-- ==== Sys2Proof/Machine/Calib.lean ====
section
/-!
DEFINITION. Calibration: boundaries and the changes that wait for them, slack water, procedures, results and their image (R262 … R291).
-/
namespace Sys2Proof.Machine

/-! ### Boundaries (R271 … R273) -/

/-- Does an enabled session stand in IDLE, ARMED or HOLD? -/
def Device.sesIdle (d : Device) (n : Nat) : Bool := d.sesState n = 2 || d.sesState n = 3 || d.sesState n = 8

/-- The enabled sessions. -/
def Device.enabledSes (d : Device) : List Nat := (List.range 16).filter d.sesEnabled

/-- An all-idle period. -/
def Device.allIdle (d : Device) : Bool := d.enabledSes.all d.sesIdle

/-- Can an instant of carrier `c` be a gap: no session on it modulates or has a reply window open? The command that reports the gap asserts that it lasts 20 µs. -/
def Device.gapPossible (d : Device) (c : Nat) : Bool :=
  (d.onCarrier c).all (fun n => match (d.sess n).phase with
    | .sending | .window | .receiving => false
    | _ => true)

/-- Is there a boundary on carrier `c`; `gap` reports a gap in the commands of an ON or draining carrier? -/
def Device.boundaryOn (d : Device) (c : Nat) (gap : Bool) : Bool :=
  let st := d.carState c
  [0, 1, 2, 5, 9, 10].contains st || d.allIdle
    || ((st = 6 || st = 7) && ((gap && d.gapPossible c) || (d.onCarrier c).all (fun n => !d.sesEnabled n || d.sesIdle n)))

/-- Where a change stands in the order of R272. -/
def Change.rank : Change → Nat
  | .rxCal _ _ | .table _ _ | .invalidate | .gain _ | .lost _ => 1
  | .txCal _ _ | .dpdSet _ _ _ | .level _ | .dpdEn _ | .backoff _ | .group _ _ | .groupOut => 2
  | .join _ | .drain _ | .renorm => 3
  | .canc _ _ _ _ | .cancEn _ => 4

/-- Write result words into an image. -/
def calPut (l : List (Nat × Option Word)) (ws : List CalWord) : List (Nat × Option Word) :=
  ws.foldl (fun l w => if 3 ≤ w.index ∧ w.index < 16383 then storePut (fun _ => none) l w.index (some w.value) else l) l

/-- Change what calibration holds. -/
def Device.modCal (d : Device) (f : CalSt → CalSt) : Device := { d with cal := f d.cal }

/-- DPD_STAT.ACTIVE of path `p`: accepted coefficients are in effect (R259). -/
def Device.showDpd (d : Device) (p : Nat) : Device :=
  let s := d.path p
  d.putB (fPathDpdStatActive p) (s.dpdKept && s.dpdEn && s.joined)

/-- Mark procedure `proc` as in effect. -/
def Device.inEffect (d : Device) (proc : Nat) (ws : List CalWord) : Device :=
  d.modCal (fun s => { s with effect := calPut s.effect ws, validEff := s.validEff ||| BitVec.ofNat 7 (1 <<< (proc - 1)) })

/-- Remove back-offs: of one path, or of all (R213). -/
def Device.clearBackoff (d : Device) (p : Option Nat) : Device := match p with
  | some q => d.put (fBackoff q) 0
  | none => d.forAll (List.range 16) (fun d w => d.wr (txsBwBackoff w) 0)

/-- A waiting change takes effect. -/
def Device.applyChange (d : Device) (c : Change) : Device :=
  match c with
  | .rxCal proc ws | .txCal proc ws => d.inEffect proc ws
  | .dpdSet p temp ws =>
    let d := (d.modCal (fun s => { s with effect := calPut s.effect ws })).modPath p (fun s => { s with dpdKept := true, dpdTemp := temp, dpdGen := (s.dpdGen + 1) % 65536 })
    (((d.put (fPathDpdStatGen p) (d.path p).dpdGen).put (fPathDpdStatPending p) 0).clearBackoff (some p)).showDpd p
  | .table img dpd =>
    let d := d.modCal (fun s => { s with effect := img, validEff := (Config.calRecord img).setWidth 7 })
    d.forAll (List.range 64) (fun d p => (d.modPath p (fun s => { s with dpdKept := dpd.getLsbD p })).showDpd p)
  | .invalidate =>
    let d := (d.modCal (fun s => { s with effect := [], accepted := [], validEff := 0, rxGrid := 0 })).put fCalStatValid 0
    d.forAll (List.range 64) (fun d p => (d.modPath p (fun s => { s with dpdKept := false })).showDpd p)
  | .lost proc =>
    let keep (l : List (Nat × Option Word)) : List (Nat × Option Word) := storeClear (fun i => decide (Config.calOwner i = proc)) l
    let d := d.modCal (fun s => { s with effect := keep s.effect, accepted := keep s.accepted, validEff := s.validEff &&& ~~~BitVec.ofNat 7 (1 <<< (proc - 1)) })
    let d := d.when (proc = 7) (fun d => d.forAll (List.range 64) (fun d p => (d.modPath p (fun s => { s with dpdKept := false })).showDpd p))
    let d := d.put ⟨calStat, 7 + proc, 7 + proc⟩ 0
    if d.on ⟨calStat, 15 + proc, 15 + proc⟩ then d else (d.put ⟨calStat, 15 + proc, 15 + proc⟩ 1).irq 0x10 2
  | .renorm => d.renormalise
  | .join p => d.joinPath p
  | .drain p => d.drainPath p
  | .level p => match (d.path p).pend with
    | some l => (d.setLevel p l).reglChanged
    | none => d
  | .dpdEn p => ((d.modPath p (fun s => { s with dpdEn := d.on (fPathCfgDpdEn p) })).put (fPathDpdStatPending p) 0).showDpd p
  | .backoff p => d.clearBackoff p
  | .canc p c coef _ => d.modPath p (fun s => { s with canc := s.canc.setIfInBounds c coef })
  | .gain p => match (d.path p).gainPend with
    | some g =>
      let d := ((d.put (fPathGainStep p) g).put (fPathGainUpPending p) 0).modPath p (fun s => { s with gainPend := none })
      d.when (d.on (fPathCfgAgc p)) (fun d => d.count (fPathCountsUp p))
    | none => d
  | .cancEn p => d.modPath p (fun s => { s with cancEn := d.on (fPathCfgCancEn p) })
  | .group corr slope => d.groupApply corr slope
  | .groupOut => d.groupLeave

/-- The waiting changes that `f` selects take effect, in the order of R272. -/
def Device.applyWaits (d : Device) (f : Change → Bool) : Device :=
  let go := (d.cal.waits.map (·.change)).filter f
  let d := (d.dropWaits f)
  let d := d.forAll [1, 2, 3, 4] (fun d k => d.forAll (go.filter (fun c => c.rank = k)) Device.applyChange)
  d.showWaits

/-- BOUNDARY_APPLY: a boundary begins on every carrier that stands in one, with the gaps reported for ON and draining carriers, and what waits for those carriers takes effect (R272). A change that falls due during slack water waits for the next boundary (R274). -/
def boundaryApply (gaps : BitVec 4) (d : Device) : Device :=
  if d.cal.slack = .running then d
  else
    let on (c : Nat) : Bool := d.boundaryOn c (gaps.getLsbD c)
    let all := (List.range 4).all on
    d.applyWaits (fun c => match c with
      | .canc _ k _ _ => on k
      | _ => all)

/-! ### Slack water (R85, R274) -/

/-- SLACK_WATER_CALL: a pending change has waited for MAX_WAIT (the example of R275 calls it at that instant), no carrier is in DRAIN and some session is enabled. -/
def slackWaterCall (d : Device) : Device :=
  let old := d.cal.waits.any (fun w => w.change.pending && decide (d.get fCalCtrlMaxWait * tideMs ≤ d.stamp - w.since))
  if !old || d.cal.slack != .none || (List.range 4).any (fun c => d.carState c = 7) || d.enabledSes.isEmpty then d
  else ((d.modCal (fun s => { s with slack := .called })).count fCalWaitedSlacks).forAll d.enabledSes (fun d n => d.holdAsk n 2)

/-- Does an enabled session stand held at a quiet point, or has it sent nothing yet? -/
def Device.sesHeld (d : Device) (n : Nat) : Bool :=
  let st := d.sesState n
  st = 8 || st = 1 || ((st = 9 || st = 10) && !(d.sess n).acc.running && d.sesQuiet n)

/-- SLACK_WATER_BEGIN: the last enabled session is at a quiet point; every waiting change is applied (R85, R274). -/
def slackWaterBegin (d : Device) : Device :=
  if d.cal.slack != .called || !d.enabledSes.all d.sesHeld then d
  else ((d.modCal (fun s => { s with slack := .running })).put fCalStatSlack 1).applyWaits (fun _ => true)

/-- SLACK_WATER_END. -/
def slackWaterEnd (d : Device) : Device :=
  if d.cal.slack != .running then d
  else ((d.modCal (fun s => { s with slack := .none })).put fCalStatSlack 0).forAll (List.range 16) (fun d n => d.holdEnd n 2)

/-! ### Procedures (R266 … R284) -/

/-- A procedure, or a restored image, is rejected (R269). -/
def Device.calReject (d : Device) (proc reason path point : Nat) : Device :=
  let d := (d.wr calResult (BitVec.ofNat 32 (proc + reason * 256 + path * 65536 + point * 16777216))).count (fHalf calRejects)
  d.irq 0x10 1

/-- An acceptance is shown (R269). -/
def Device.calAccept (d : Device) (proc : Nat) : Device :=
  (d.wr calResult (BitVec.ofNat 32 (proc + 16 + 0xFFFF0000))).irq 0x10 0

/-- The running procedure ends. -/
def Device.calEnd (d : Device) : Device := (((d.put fCalStatBusy 0).put (fPsState 0x10) 0).modCal (fun s => { s with paths := [] }))

/-- The paths that are ON. -/
def Device.onPaths (d : Device) : List Nat := (List.range 64).filter (fun p => d.pathState p = 6)

/-- Does an admitted stream drive path `p` with a non-zero weight (R276, R283)? -/
def Device.driven (d : Device) (p : Nat) : Bool := (List.range 16).any (fun n => (d.stream n).admitted && magUp (d.weight n p) != 0)

/-- The frequency of REF.CH with REF_FINE (R289). -/
def Device.calRefHz (d : Device) : Nat :=
  (860000000 + 100000 * (d.get fCalRefCh : Int) + d.getS fCalRefFineFine).toNat

/-- The ARRAY_RX grid points that carriers in SETTLE, ON or DRAIN keep from being measured (R279). -/
def Device.gridBlocked (d : Device) : BitVec 11 :=
  (List.range 11).foldl (fun m i =>
    if (List.range 4).any (fun c => decide (5 ≤ d.carState c) && decide (d.carState c ≤ 7)
        && decide ((((d.car c).hz : Int) - ((860000000 + 10000000 * i : Nat) : Int)).natAbs ≤ 10000000)) then m ||| BitVec.ofNat 11 (1 <<< i) else m) 0

/-- What forbids procedure `proc` on paths `ps` now: reason and path, none where its preconditions hold (R267, R276). -/
def Device.calForbid (d : Device) (proc : Nat) (ps : List Nat) : Option (Nat × Nat) :=
  let lost := ps.find? (fun p => d.pathState p != 6)
  if [2, 4, 5, 6].contains proc && !d.carriersOff then some (4, 0xFF)
  else if proc = 3 && (d.gridBlocked &&& ~~~d.cal.rxGrid) != 0 then some (4, 0xFF)
  else if proc != 1 && ps.isEmpty then some (if proc = 7 && !d.onPaths.isEmpty then 10 else 7, 0xFF)
  else match lost with
    | some p => some (6, p)
    | none =>
      match d.profile with
      | none => if proc = 2 ∨ proc = 4 then some (9, 0xFF) else none
      | some pr =>
        if proc = 2 && !pr.channels.any (fun c => c.hz = d.calRefHz) then some (9, 0xFF)
        else if proc = 7 && !((List.range 4).any (fun c => d.carState c = 6)) then some (10, ps.headD 0xFF)
        else match (if proc = 7 then ps.find? (fun p => !d.driven p) else none) with
          | some p => some (10, p)
          | none => none

/-- CMD.PROC starts a procedure; its preconditions are checked (R276). -/
def Device.calStart (d : Device) (proc path : Nat) : Device :=
  let on := d.onPaths
  let ps := if proc = 1 then [] else if proc = 7 then (if path = 0xFF then on.filter d.driven else if on.isEmpty then [] else [path]) else on
  let d := d.put fCalStatProc proc
  match d.calForbid proc ps with
  | some (r, p) => d.calReject proc r p 0xFF
  | none => ((d.put fCalStatBusy 1).put (fPsState 0x10) 1).modCal (fun s => { s with paths := ps, startTemp := d.dieTemp })

/-- A running procedure whose preconditions no longer hold is rejected (R276). -/
def Device.followCal (d : Device) : Device :=
  if !d.on fCalStatBusy then d
  else
    let proc := d.get fCalStatProc
    match d.calForbid proc d.cal.paths with
    | some (r, p) => d.calEnd.calReject proc r p 0xFF
    | none => d

/-- The limit between the passes (R268). -/
def calLimit : CalKind → Nat
  | .gain => 15
  | .phase => 100
  | .freq => 20

/-- The reason a difference beyond it gives (R270). -/
def calReason : CalKind → Nat
  | .gain => 1
  | .phase => 2
  | .freq => 3

/-- Why the measurements of a procedure reject it: reason, path and point (R268 … R283). -/
def Device.calFails (d : Device) (proc : Nat) (m : CalMeas) : Option (Nat × Nat × Nat) :=
  if proc = 2 && m.noRef then some (5, 0xFF, 0xFF)
  else match (if proc = 7 then m.drive.find? (fun x => decide (1000 < x.2)) else none) with
    | some x => some (10, x.1, 0xFF)
    | none => match m.diffs.find? (fun x => decide (calLimit x.kind < x.diff.toInt.natAbs)) with
      | some x => some (calReason x.kind, x.path, x.point)
      | none => match m.range with
        | some (p, i) => some (8, p, i)
        | none => if 32 < (d.dieTemp - d.cal.startTemp).natAbs then some (12, 0xFF, 0xFF) else none

/-- The register byte that holds the temperature of a procedure's last acceptance (R288). -/
def calTempField (proc : Nat) : Fld := match proc with
  | 3 => ⟨calTemp, 7, 0⟩
  | 2 => ⟨calTemp, 15, 8⟩
  | 5 => ⟨calTemp, 23, 16⟩
  | 6 => ⟨calTemp, 31, 24⟩
  | 4 => ⟨calTempB, 7, 0⟩
  | _ => ⟨calTempB, 15, 8⟩

/-- The VALID and DUE bits of a procedure. -/
def fCalValid (proc : Nat) : Fld := ⟨calStat, 7 + proc, 7 + proc⟩
def fCalDue (proc : Nat) : Fld := ⟨calStat, 15 + proc, 15 + proc⟩

/-- The corrections of an accepted procedure wait for their boundary (R269, R273). -/
def Device.calQueue (d : Device) (proc : Nat) (m : CalMeas) : Device :=
  match proc with
  | 1 =>
    let d := d.wr calAclkRate m.aclk
    (match m.ref with
      | some r => d.wr calRefFreq r
      | none => d).inEffect 1 m.words
  | 2 => (d.await (.rxCal 2 m.words)).await (.txCal 2 m.words)
  | 4 => d.await (.txCal 4 m.words)
  | 7 => d.forAll d.cal.paths (fun d p =>
      ((d.put (fPathDpdStatPending p) 1).putS (fPathDpdStatTemp p) (clampInt (-127) 127 d.dieDegrees)).await
        (.dpdSet p (twosOf 8 (clampInt (-127) 127 d.dieDegrees)) (m.words.filter (fun w => w.path = some p))))
  | k =>
    let d := d.when (k = 3) (fun d => d.modCal (fun s => { s with rxGrid := s.rxGrid ||| ~~~d.gridBlocked }))
    d.await (.rxCal k m.words)

/-- CAL_PROC_COMPLETE: the passes have ended and the procedure is accepted or rejected (R268, R269). -/
def calProcComplete (m : CalMeas) (d : Device) : Device :=
  if !d.on fCalStatBusy then d
  else
    let proc := d.get fCalStatProc
    match d.calFails proc m with
    | some (r, p, i) => d.calEnd.calReject proc r p i
    | none =>
      let d := ((d.calQueue proc m).modCal (fun s => { s with accepted := calPut s.accepted m.words })).calEnd
      let d := d.when (proc != 7) (fun d =>
        ((d.put (fCalValid proc) 1).put (fCalDue proc) 0).putS (calTempField proc) (clampInt (-127) 127 d.dieDegrees))
      d.calAccept proc

/-- ABORT rejects the running procedure (R270). -/
def Device.calAbort (d : Device) : Device :=
  if d.on fCalStatBusy then d.calEnd.calReject (d.get fCalStatProc) 11 0xFF 0xFF else d

/-- The DPD bit of VALID: every path that is ON, and there is one, has accepted coefficients in effect (R284). -/
def Device.showDpdValid (d : Device) : Device :=
  let on := d.onPaths
  let ok := !on.isEmpty && on.all (fun p => d.on (fPathDpdStatActive p))
  let d := d.putB (fCalValid 7) ok
  d

/-- Is procedure `proc` due: its VALID bit is 0, or the die has drifted (R284)? -/
def Device.calIsDue (d : Device) (proc : Nat) : Bool :=
  let far (t : Nat) : Bool := t != 0x80 && decide (16 * d.get fCalCtrlDrift < (d.dieTemp - 16 * signedOf 8 t).natAbs)
  !d.on (fCalValid proc)
    || (if proc = 7 then d.onPaths.any (fun p => far (d.get (fPathDpdStatTemp p))) else far (d.get (calTempField proc)))

/-- CAL_DUE: each procedure that has fallen due sets its DUE bit and raises DUE (R284, R291). -/
def calDueEvent (d : Device) : Device :=
  d.forAll [1, 2, 3, 4, 5, 6, 7] (fun d proc =>
    if d.calIsDue proc && !d.on (fCalDue proc) then (d.put (fCalDue proc) 1).irq 0x10 2 else d)

/-! ### The image (R287) -/

/-- Bytes of the device identity (R287, R408): IDENT_LO and IDENT_HI. -/
def Device.calWord (d : Device) (l : List (Nat × Option Word)) (i : Nat) : Word :=
  if i = 0 then 1 else if i = 1 then d.rd sysIdentLo else if i = 2 then d.rd sysIdentHi
  else (storeGet (fun _ => none) l i).getD (Config.calNominal i)

/-- The CRC word over words 0 … 16,382. -/
def imageCrc (w : Nat → Word) : Word := BitVec.ofNat 32 (crc32 ((List.range 16383).flatMap (fun i => leBytes 4 (w i).toNat)))

/-- A word of the image of accepted results. -/
def Device.imageWord (d : Device) (i : Nat) : Word :=
  if i = 16383 then imageCrc (d.calWord d.cal.accepted) else d.calWord d.cal.accepted i

/-- TBL_ADDR moves on. -/
def Device.tblNext (d : Device) : Device := d.put ⟨calTblAddr, 13, 0⟩ (d.get ⟨calTblAddr, 13, 0⟩ + 1)

/-- A read of TBL_DATA returns the word at TBL_ADDR. -/
def Device.tblRead (d : Device) : Device :=
  { d with hd := d.imageWord (d.get ⟨calTblAddr, 13, 0⟩) }.tblNext

/-- A word of the staging copy; a word nothing has written reads as 0. -/
def Device.stageWord (d : Device) (i : Nat) : Word := storeGet (fun _ => 0) d.cal.stage i

/-- COMMIT (R287). -/
def Device.tblCommit (d : Device) : Device :=
  let w := d.stageWord
  if w 0 != 1 || w 1 != d.rd sysIdentLo || w 2 != d.rd sysIdentHi || w 16383 != imageCrc w then d.calReject 8 13 0xFF 0xFF
  else
    let img := (List.range 16380).foldl (fun l i => storePut (fun _ => none) l (i + 3) (some (w (i + 3)))) []
    let d := (d.modCal (fun s => { s with accepted := img, rxGrid := if (Config.calRecord img).getLsbD 2 then ~~~0 else 0 }))
    let d := d.put ⟨calStat, 13, 8⟩ (Config.calRecord img).toNat
    (d.await (.table img (Config.calDpd img))).calAccept 8

/-! ### The CAL page (R288 … R290) -/

/-- Which writes of the CAL page are applied. -/
def calWriteOk (d : Device) (off : Nat) (v : Word) : Bool :=
  let busy := d.on fCalStatBusy
  let s16 (n : Nat) : Int := signedOf 16 n
  match off with
  | 0x10 => bitsOf v 15 0 != 0 && decide (1 ≤ bitsOf v 23 16) && decide (bitsOf v 23 16 ≤ 60)
  | 0x11 => !busy && decide (-120 ≤ signedOf 8 (bitsOf v 7 0)) && decide (signedOf 8 (bitsOf v 7 0) ≤ 0)
  | 0x12 => !busy && decide (-4000 ≤ s16 (bitsOf v 15 0)) && decide (s16 (bitsOf v 15 0) ≤ -1000) && decide (bitsOf v 25 16 ≤ 1000)
  | 0x13 => !busy && decide (bitsOf v 15 0 ≤ 6000) && decide (bitsOf v 31 16 ≤ 6000)
  | 0x14 =>
    let p := bitsOf v 3 0
    let q := bitsOf v 15 8
    !(p != 0 && busy) && decide (p ≤ 7) && (decide (q ≤ 63) || q = 0xFF)
  | 0x1D | 0x1E | 0x1F => !busy && d.carriersOff
  | 0x20 => !busy && decide ((signedOf 18 (bitsOf v 17 0)).natAbs ≤ 50000)
  | _ => if 0x40 ≤ off ∧ off < 0x80 then !busy else true

/-- The effect of an applied CAL write. -/
def calWritten (off : Nat) (v : Word) (d : Device) : Device :=
  match off with
  | 0x14 =>
    let d := d.when (v.getLsbD 16) Device.calAbort
    if bitsOf v 3 0 = 0 then d else d.calStart (bitsOf v 3 0) (bitsOf v 15 8)
  | 0x1C =>
    let d := d.when (v.getLsbD 0) (fun d => d.wr calRejects 0)
    d.when (v.getLsbD 1) (fun d => d.put fCalWaitedSlacks 0)
  | 0x1E => (d.modCal (fun s => { s with stage := storePut (fun _ => 0) s.stage (d.get ⟨calTblAddr, 13, 0⟩) v })).tblNext
  | 0x1F =>
    let d := d.when (v.getLsbD 0) Device.tblCommit
    d.when (v.getLsbD 1) (fun d => d.await .invalidate)
  | _ => d

/-- WAITED.AGE: the age of the oldest pending change in ms (R288). -/
def Device.waitedAge (d : Device) : Nat :=
  min 65535 ((d.cal.waits.filter (fun w => w.change.pending)).foldl (fun m w => max m ((d.stamp - w.since) / tideMs)) 0)

/-- A calibration correction, as R286 names it. -/
def Change.isCal : Change → Bool
  | .rxCal _ _ | .txCal _ _ | .dpdSet _ _ _ | .table _ _ | .invalidate => true
  | _ => false

/-- A BLOCK reset of the CAL page: what remains after its words have taken their reset values (R286). Results in effect stay, with their VALID bits and temperatures. -/
def calBlockReset (old d : Device) : Device :=
  let d := (d.dropWaits Change.isCal).modCal (fun s => { s with paths := [], stage := [], accepted := s.effect })
  let d := ((d.wr calTemp (old.rd calTemp)).wr calTempB (old.rd calTempB)).wr calAclkRate (old.rd calAclkRate)
  let d := (d.put ⟨calStat, 14, 8⟩ d.cal.validEff.toNat).putB fCalStatSlack (d.cal.slack = .running)
  (d.put (fPsState 0x10) 0).showWaits

end Sys2Proof.Machine
end

