-- ==== Sys2Proof/Machine/Cascade.lean ====
section
/-!
DEFINITION. Cascade operation over the Kloit link (R321 … R359), but for remote page access: ports, the census, tide alignment, triggers, message aggregation and groups.
-/
namespace Sys2Proof.Machine

/-! ### Census start (R336) -/

/-- A census begins on the harbourmaster; a cause during one, or while GROUP_CAL runs, makes one follow (R336). -/
def Device.censusStart (d : Device) : Device :=
  if !d.klMaster then d
  else if d.get (fPsState 0x1C) != 0 then d.modKl (fun s => { s with again := true })
  else
    let d := ((d.addWrap fKlCensusGen 1).put (fPsState 0x1C) 1).modKl (fun s => { s with collecting := true, lasts := [], recs := [] })
    d.forAll d.downPorts (fun d k => d.sendDown 5 k
      { body := .censusReq (d.get fKlCensusGen) 1 (k - 2), cls := 0, bcast := true, dest := 0xFFFF, src := 0 })

/-- A topology change asks for a census where CENSUS_AUTO is 1. -/
def Device.censusAuto (d : Device) : Device := if d.on fKlCtrlCensusAuto then d.censusStart else d

/-- A relay that collects records sends its own with LAST once every UP down-port has delivered LAST or has failed; a leaf at once (R336 step 2). -/
def Device.censusCheck (d : Device) : Device :=
  if d.klMember && d.kl.collecting && d.downPorts.all (fun k => d.kl.lasts.contains k) then
    (d.modKl (fun s => { s with collecting := false })).sendUp 5 { body := .censusRec (d.klRecord true), cls := 0, src := d.ownNumber }
  else d

/-! ### Ports (R332 … R335) -/

/-- A port enters a state: PSTAT, CLK.GOOD of its lane, PORT, and where it enters or leaves UP or STANDBY a CASCADE_EVENT and a census (R332, R336, R359). -/
def Device.portGo (d : Device) (k s : Nat) : Device :=
  let live (x : Nat) : Bool := x = 5 || x = 6
  let old := d.portState k
  let d := ((d.put (fKlPstatState k) s).putB (fKlPstatBusy k) (1 ≤ s && s ≤ 4 : Bool)).putB (fKlPstatShuttingDown k) (s = 8)
  let d := d.putB ⟨clkGood, 10 + k, 10 + k⟩ (s = 3 || s = 4 || s = 5 || s = 6 || s = 8)
  let d := d.when (s = 5 || s = 6 || s = 7) (fun d => d.irq 0x1C 0)
  if live old = live s then d
  else
    let other := if d.on (fKlPstatPartnerNumbered k) then d.get (fKlPstatPartner k) else 0xFFFF
    (d.klEvent (if live s then 1 else 2) k other 0).censusAuto

/-- The port's link ends: what it holds for its partner is dropped. -/
def Device.linkClear (d : Device) (k : Nat) : Device :=
  (d.modPort k (fun (p : KlPortSt) => { ctl := p.ctl, retry := p.retry })).showCredits k

/-- Frames of the forwarder that are not acknowledged are sent again, from the oldest (R347). -/
def Device.e2eResend (d : Device) : Device :=
  let mine (e : Nat × KlFrame) : Bool := match e.2.body with
    | .message _ _ _ _ => e.1 = 5
    | _ => false
  let rest := d.kl.up.filter (fun e => !mine e)
  (d.modKl (fun s => { s with up := rest ++ s.unacked.map (fun u => (5, u.2.2.2)) })).pump

/-- KL_ALT_FREE: KL_1 is STANDBY and the census reports it usable (R319, R338). -/
def Device.showAlt (d : Device) : Device := d.putB fRepPoolsKlAltFree (d.klMember && d.portState 1 = 6 && d.kl.altOk)

/-- The up-port in use becomes `k`: STAT.UP_ALT and DELAY follow, and the forwarder resends (R342, R347). -/
def Device.useUpPort (d : Device) (k : Nat) : Device :=
  ((d.putB fKlStatUpAlt (k = 1)).wr klDelay (BitVec.ofNat 32 (d.port k).delay)).e2eResend

/-- The tide is aligned: ALIGNED, and a SUSPENDED member of a group is PENDING again (R342, R354). -/
def Device.aligned (d : Device) : Device :=
  let d := d.syncGo 2
  if d.get fKlGroupStatState = 3 && d.get fKlGroupStatReason != 0xF0 then d.groupGo 1 else d

/-- The up-port in use is lost: HOLDOVER, and KL_1 takes over where it is STANDBY and usable (R342). -/
def Device.upLost (d : Device) (k : Nat) : Device :=
  let d := d.modKl (fun s => { s with holdSince := d.tide })
  let d := d.syncGo 3
  if k = 0 && d.portState 1 = 6 && d.kl.altOk then
    let d := ((d.portGo 1 5).useUpPort 1).count fKlCountsFailovers
    ((d.klEvent 3 1 0xFFFF 0).groupDue).aligned
  else (d.count fKlCountsHoldovers).when (k = 0 || d.portState 0 != 6) (fun d => d.irq 0x11 1)

/-- A port stops: its link ends, and the device follows where it was the up-port in use or owed census records. -/
def Device.portStop (d : Device) (k s : Nat) : Device :=
  let used := d.upPort = some k
  let d := ((d.linkClear k).portGo k s)
  ((d.when used (fun d => d.upLost k)).censusCheck).showAlt

/-- The enable sequence starts (R333). -/
def Device.portStart (d : Device) (k : Nat) : Device := d.portGo k 1

/-- EN = 1 applied to PCTRL_k (R65, R66). -/
def Device.portEnable (d : Device) (k : Nat) : Device :=
  if d.portState k = 8 then d.put (fKlPstatEnq k) 1
  else if d.portState k = 0 then d.portStart k else d

/-- EN = 0 applied to PCTRL_k: DRAINING (R333, R66, R67). -/
def Device.portDisable (d : Device) (k : Nat) : Device :=
  if d.portState k = 8 then d.put (fKlPstatEnq k) 0
  else if d.portState k = 0 then d
  else
    let used := d.upPort = some k
    let d := (d.modPort k (fun (p : KlPortSt) => { p with queue := [] })).portGo k 8
    ((d.when used (fun d => d.upLost k)).censusCheck).showAlt

/-- KL_SIGNAL_DETECT: a signal is present on the port. -/
def klSignalDetect (k : Nat) (d : Device) : Device := if d.portState k = 1 then d.portGo k 2 else d

/-- KL_BLOCK_LOCK: 64 valid sync headers. TRAIN begins with fresh buffers on both sides. The SEQ a link starts with the spec leaves open. -/
def klBlockLock (k : Nat) (d : Device) : Device :=
  if d.portState k != 2 then d
  else
    let (v, d) := d.takeFree
    let d := d.modPort k (fun (p : KlPortSt) => { ctl := p.ctl, retry := p.retry, txSeq := v.toNat % 256, credits := ⟨#[64, 64, 512, 64], rfl⟩ })
    (d.showCredits k).portGo k 3

/-- Is the pairing of our port `k` with a partner valid (R322)? -/
def Device.pairingOk (d : Device) (k : Nat) (t : KlTrain) : Bool :=
  let own := (d.rd sysIdentHi) ++ (d.rd sysIdentLo)
  (if k < 2 then decide (2 ≤ t.port.val) && (t.role.val = 1 || t.role.val = 2) else decide (t.port.val < 2) && decide (2 ≤ t.role.val))
    && t.identity != own

/-- KL_TRAIN_FRAME: a valid TRAIN frame is received and the pairing checked; with three the port goes on to MEASURE (R322, R323, R333). From MEASURE on, the first up-port gives SYNTH_S its reference (R339). -/
def klTrainFrame (k : Nat) (t : KlTrain) (d : Device) : Device :=
  if d.portState k != 3 then d
  else
    let num := t.number.toNat
    let d := ((d.put (fKlPstatPartner k) num).putB (fKlPstatPartnerNumbered k) (decide (num < 2048))).put (fKlPstatPartnerPort k) t.port.val
    let d := d.put (fKlPstatPartnerLink k) t.link.toNat
    if !d.pairingOk k t then (d.portStop k 7).klEvent 12 k num 0
    else if 2 ≤ k ∧ t.port.val = 0 ∧ 8 ≤ d.get fKlStatDepth then (d.portStop k 7).klEvent 11 k num 0
    else
      let d := d.modPort k (fun (p : KlPortSt) => { p with trains := p.trains + 1 })
      if (d.port k).trains < 3 then d
      else (d.when (k < 2 && d.upPort.isNone && !d.on fSynStatSRef) (fun d => (d.put fSynStatSRef 1).showRatio)).portGo k 4

/-- The tide in 1/256 tick. -/
def Device.tideFine (d : Device) : Nat := d.tide * 256 + (d.rd tideFrac).toNat % 256

/-- Set the tide in 1/256 tick. -/
def Device.setTideFine (d : Device) (t : Int) : Device :=
  (d.setTide (twosOf 64 (t / 256))).wr tideFrac (BitVec.ofNat 32 (t % 256).toNat)

/-- The tide is stepped by an offset in 1/256 tick (R340, R456). -/
def Device.stepTide (d : Device) (off : Int) : Device :=
  let (ticks, d) := d.divOpen off 256
  (d.setTideFine ((d.tideFine : Int) + off)).tideStepped ticks

/-- KL_MEASURE_END: after 16 delay exchanges an up-port becomes UP where none is, its mean offset stepping the tide, and STANDBY otherwise; a down-port becomes UP (R333, R340). -/
def klMeasureEnd (k : Nat) (d : Device) : Device :=
  if d.portState k != 4 then d
  else if 2 ≤ k then (d.modPort k (fun (p : KlPortSt) => { p with retry := false })).portGo k 5
  else if (d.port k).measures < 16 then d
  else
    let d := d.modPort k (fun (p : KlPortSt) => { p with retry := false })
    if d.upPort.isSome then (d.portGo k 6).showAlt
    else
      let (mean, d) := d.divOpen (d.port k).offsets 16
      (((d.stepTide mean).portGo k 5).useUpPort k).aligned.showAlt

/-- KL_DRAIN_END: the replay buffer is empty, or 100 µs have passed; the port is OFF, and a queued re-enable follows (R66, R333). -/
def klDrainEnd (k : Nat) (d : Device) : Device :=
  if d.portState k != 8 then d
  else
    let d := (d.linkClear k).portGo k 0
    if d.on (fKlPstatEnq k) then (d.put (fKlPstatEnq k) 0).portStart k else d

/-- KL_PORT_FAULT (R334); a port that does not complete its retraining is recorded in the repair map (R304). -/
def klPortFault (k : Nat) (c : KlCause) (d : Device) : Device :=
  let st := d.portState k
  if st = 5 ∨ st = 6 then
    if c = .noTick ∧ 2 ≤ k then d else d.portStop k 7
  else if 2 ≤ st ∧ st ≤ 4 then
    let again := (d.port k).retry
    ((d.modPort k (fun (p : KlPortSt) => { p with retry := false })).portStop k 7).when again (fun d => d.queueRecord (mapRecord 8 k 0 0xFF 1))
  else d

/-- KL_RETRAIN_TIMER: 1 ms after FAILED the port trains again while EN is 1 (R334). -/
def klRetrainTimer (k : Nat) (d : Device) : Device :=
  if d.portState k = 7 && d.on (fKlPctrlEn k) then (d.modPort k (fun (p : KlPortSt) => { p with retry := true })).portGo k 1 else d

/-! ### Blocks and frames on a port (R325 … R331) -/

/-- Does the port receive frames? -/
def Device.portLive (d : Device) (k : Nat) : Bool := [4, 5, 6, 8].contains (d.portState k)

/-- The trailer of a received frame acknowledges frames and returns credits (R327, R329). -/
def Device.trailer (d : Device) (h : KlHead) : Device :=
  let k := h.port.val
  let c := h.creditClass.toNat
  let d := d.modPort k (fun (p : KlPortSt) =>
    let acked := p.replay.any (fun f => f.seq = h.ack.toNat)
    { p with
      replay := if acked then (p.replay.dropWhile (fun f => f.seq != h.ack.toNat)).drop 1 else p.replay
      resends := if acked then 0 else p.resends
      credits := p.credits.setIfInBounds c (min (klBuffer c) (p.credits.getD c 0 + h.credits.toNat)) })
  (d.showCredits k).pump

/-- A frame is received whole: in sequence it is acknowledged and acts; out of sequence it is discarded without a NAK (R328). `held` says that its buffer space stays in use. -/
def Device.receive (d : Device) (h : KlHead) (cls : Nat) (held : Bool) (f : Device → Device) : Device :=
  let k := h.port.val
  if !d.portLive k then d
  else
    let d := d.trailer h
    match (d.port k).rxSeq with
    | some s => if s = h.seq.toNat then go d k else d
    | none => go d k
where
  /-- The frame is next in order. -/
  go (d : Device) (k : Nat) : Device :=
    let d := d.modPort k (fun (p : KlPortSt) => { p with rxSeq := some ((h.seq.toNat + 1) % 256) })
    f (if held then d.bufferUse k cls (klCost h.len.val) else d)

/-- A frame that runs down is forwarded by a relay as it is (R327). -/
def Device.forward (d : Device) (h : KlHead) (way : KlTo) (body : KlBody) (cls : Nat) : Device :=
  let frame : KlFrame := { body := body, cls := cls, bcast := (way = .all), routed := (way != .all), src := h.src.toNat, words := h.len.val }
  match way with
  | .here => d
  | .down j => if d.portUp (2 + j.val) then d.sendDown 5 (2 + j.val) frame else d
  | .all => d.forAll d.downPorts (fun d k => d.sendDown 5 k frame)

/-- Is the frame for this device too? -/
def klMine : KlTo → Bool
  | .down _ => false
  | _ => true

/-- A frame that runs up is forwarded intact; its buffer space is returned as it leaves (R346). -/
def Device.relayUp (d : Device) (h : KlHead) (body : KlBody) (cls : Nat) : Device :=
  (d.bufferUse h.port.val cls (klCost h.len.val)).sendUp h.port.val { body := body, cls := cls, src := h.src.toNat, words := h.len.val }

/-- KL_NULL_FRAME: acknowledgement and credit only; it takes no SEQ (R330). -/
def klNullFrame (h : KlHead) (d : Device) : Device := if d.portLive h.port.val then d.trailer h else d

/-- The frames from the first unacknowledged one are sent again. -/
def Device.resend (d : Device) (k : Nat) : Device :=
  if (d.port k).replay.isEmpty then d
  else (d.modPort k (fun (p : KlPortSt) => { p with resends := p.resends + 1 })).count (fKlPerrReplays k)

/-- KL_NAK (R328). -/
def klNak (k : Nat) (d : Device) : Device := if d.portLive k then d.resend k else d

/-- KL_REPLAY_TIMEOUT: 2 µs without progress of ACK; a frame resent 4 times fails the port (R328, R334). -/
def klReplayTimeout (k : Nat) (d : Device) : Device :=
  if !d.portLive k || (d.port k).replay.isEmpty then d
  else if 4 ≤ (d.port k).resends then klPortFault k .resends d else d.resend k

/-- KL_BAD_FRAME: a frame with a bad CRC is discarded and answered with a NAK (R328). -/
def klBadFrame (k : Nat) (d : Device) : Device :=
  if !d.portLive k then d
  else (d.modPort k (fun (p : KlPortSt) => { p with ctl := some (.nak (p.rxSeq.getD 0)) })).count (fKlPerrCrc k)

/-- UNKNOWN_FRAME: acknowledged, its credits returned, otherwise ignored (R331). -/
def unknownFrame (h : KlHead) (d : Device) : Device := d.receive h 0 false (fun d => d.count fKlCountsDiscards)

/-- KL_TICK: the partner's tide at a block's start, dated on receipt (R325, R326). -/
def klTick (k tide : Nat) (d : Device) : Device :=
  if d.portLive k then d.modPort k (fun (p : KlPortSt) => { p with tick := some (tide, d.tideFine) }) else d

/-! ### Delay exchanges and the tide (R340 … R342) -/

/-- DELAY_EXCHANGE_START: the child sends DLY at its t1. -/
def delayExchangeStart (k : Nat) (d : Device) : Device :=
  if k < 2 && d.klMember && (d.portState k = 4 || d.portState k = 5 || d.portState k = 6) then
    d.modPort k (fun (p : KlPortSt) => { p with t1 := d.tideFine, t4 := none, ctl := some .dly })
  else d

/-- KL_DLY: the parent answers the child's marker with its own and a DELAY frame, the child dates the parent's. How the parent learns the child's t1 the spec leaves open. -/
def klDly (k : Nat) (d : Device) : Device :=
  if !d.portLive k then d
  else if k < 2 then d.modPort k (fun (p : KlPortSt) => { p with t4 := some d.tideFine })
  else
    let (v, d) := d.takeFree
    let t := d.tideFine
    let d := d.modPort k (fun (p : KlPortSt) => { p with ctl := some .dly })
    d.sendDown 5 k { body := .delay v.toNat t t, cls := 3, src := d.ownNumber }

/-- DELAY_FRAME: the exchange is complete; offset and delay follow (R340). In MEASURE offsets are summed; on the up-port in use an offset above 1,024 ticks steps the tide and a smaller one is slewed, by at most 1 ps per µs until the next exchange (R456). -/
def delayFrame (h : KlHead) (t1 t2 t3 : Nat) (d : Device) : Device :=
  let k := h.port.val
  d.receive h 3 false (fun d =>
    match (d.port k).t4 with
    | none => d
    | some t4 =>
      if 2 ≤ k then d
      else
        let (off, d) := d.divOpen (((t2 : Int) - t1) + ((t3 : Int) - t4)) 2
        let (delay, d) := d.divOpen (((t4 : Int) - t1) - ((t3 : Int) - t2)) 2
        let d := d.modPort k (fun (p : KlPortSt) => { p with t4 := none, delay := twosOf 32 delay })
        if d.portState k = 4 then
          (d.modPort k (fun (p : KlPortSt) => { p with measures := p.measures + 1, offsets := p.offsets + off })).when d.upPort.isNone
            (fun d => d.wr klDelay (BitVec.ofNat 32 (twosOf 32 delay)))
        else if d.upPort = some k then
          let d := d.wr klDelay (BitVec.ofNat 32 (twosOf 32 delay))
          if 1024 * 256 < off.natAbs then d.stepTide off
          else d.setTideFine ((d.tideFine : Int) + clampInt (-262) 262 off)
        else d)

/-- HOLDOVER_LOST: HOLDOVER has lasted 1 s (R342). -/
def holdoverLost (d : Device) : Device :=
  if d.get fKlStatSync = 3 && decide (d.kl.holdSince + 1024000000 ≤ d.tide) then d.syncGo 4 else d

/-- CMD.FAILBACK: KL_0, once STANDBY again, takes over (R342). -/
def Device.failback (d : Device) : Device :=
  if d.portState 0 != 6 || d.upPort != some 1 then d
  else ((((d.portGo 1 6).portGo 0 5).useUpPort 0).klEvent 4 0 0xFFFF 0).showAlt

/-! ### Triggers (R343) -/

/-- Channel `ch` fires in this device: sessions and TRIG_OUT balls (R343, R547). -/
def Device.fireChannel (d : Device) (ch t : Nat) : Device :=
  let d := d.modKl (fun s => { s with fired := s.fired.setIfInBounds ch (some t), armed := s.armed.filter (fun a => a != (ch, t)) })
  (d.cascadeTrigger ch).trigOutFrom ch 1

/-- A firing tide reaches this device; one that is not ahead fires at once and counts as late; the same again does nothing. -/
def Device.armTrigger (d : Device) (ch t : Nat) : Device :=
  if d.kl.fired.getD ch none = some t ∨ d.kl.armed.contains (ch, t) then d
  else if t ≤ d.tide then ((d.fireChannel ch t).count fKlCountsTrigLate).irq 0x1C 3
  else d.modKl (fun s => { s with armed := s.armed ++ [(ch, t)] })

/-- The firing tide a TRIG block names: bits [47:0] as given, nearest to the present tide. -/
def nearestTide (now low : Nat) : Nat :=
  let base := now / 2 ^ 48 * 2 ^ 48 + low
  if base + 2 ^ 47 < now then base + 2 ^ 48 else if now + 2 ^ 47 < base ∧ 2 ^ 48 ≤ base then base - 2 ^ 48 else base

/-- Send a TRIG block on every UP down-port. -/
def Device.sendTrig (d : Device) (ch t : Nat) : Device :=
  d.forAll d.downPorts (fun d k => d.modPort k (fun (p : KlPortSt) => { p with ctl := some (.trig ch (t % 2 ^ 48)) }))

/-- KL_TRIG_BLOCK: a TRIG block from the up-port in use is forwarded and arms its firing tide. -/
def klTrigBlock (k ch low : Nat) (d : Device) : Device :=
  if d.upPort != some k then d
  else
    let t := nearestTide d.tide low
    (d.sendTrig ch t).armTrigger ch t

/-- The harbourmaster fires a channel at tide `t`. -/
def Device.masterTrig (d : Device) (ch t : Nat) : Device := if d.klMaster then (d.sendTrig ch t).armTrigger ch t else d

/-- TRIG_CMD.FIRE at the shadowed tide. -/
def Device.trigFire (d : Device) (ch : Nat) : Device :=
  d.masterTrig ch ((d.rd klTrigTideHi).toNat * 2 ^ 32 + (d.rd klTrigTideLo).toNat)

/-- A rising edge on TRIG_IN_k that FWD_IN forwards, LEAD × 0.1 µs ahead. -/
def Device.trigInForward (d : Device) (k : Nat) : Device :=
  if !(d.rd klTrigCfg).getLsbD k then d
  else
    let (lead, d) := d.divOpen (1024 * d.get fKlTrigCfgLead) 10
    d.masterTrig k (d.tide + lead.toNat)

/-- CASCADE_TRIGGER_FIRE: an armed firing tide has arrived, the one armed first where several have. -/
def cascadeTriggerFire (d : Device) : Device :=
  match d.kl.armed.find? (fun a => decide (a.2 ≤ d.tide)) with
  | some a => d.fireChannel a.1 a.2
  | none => d

/-! ### The census (R336 … R338, R355) -/

/-- CENSUS_REQ: the device learns its depth and route, passes the request on and reports (R336). What its payload holds beside GEN is not in the spec. -/
def censusReq (h : KlHead) (gen depth route : Nat) (d : Device) : Device :=
  d.receive h 0 false (fun d =>
    if d.upPort != some h.port.val then d
    else
      let d := (d.put fKlStatDepth depth).modKl (fun s => { s with route := route, collecting := true, lasts := [], recs := [] })
      let d := d.forAll d.downPorts (fun d k => d.sendDown 5 k
        { body := .censusReq gen (depth + 1) (route + (k - 2) * 4 ^ depth), cls := 0, bcast := true, dest := 0xFFFF, src := h.src.toNat })
      d.censusCheck)

/-- A record with its LAST bit cleared. -/
def clearLast (r : List Byte) : List Byte :=
  recordOf (r.take 7 ++ [(r.getD 7 0) &&& 0xFE#8] ++ (r.drop 8).take 20)

/-- CENSUS_REC: the harbourmaster collects the record, a relay forwards it with LAST cleared (R336). -/
def censusRec (h : KlHead) (r : List Byte) (d : Device) : Device :=
  let k := h.port.val
  let r := padTo 32 (r.take 32)
  d.receive h 0 false (fun d =>
    if k < 2 then d
    else
      let d := if d.klMaster then d.modKl (fun s => { s with recs := s.recs ++ [clearLast r] })
        else d.sendUp k { body := .censusRec (clearLast r), cls := 0, src := h.src.toNat, words := h.len.val }
      let d := d.when ((r.getD 7 0).getLsbD 0) (fun d => d.modKl (fun s => { s with lasts := k :: s.lasts }))
      d.censusCheck)

/-- Fields of a census record (R338). -/
def recLe (r : List Byte) (i n : Nat) : Nat := leNat ((r.drop i).take n)
def recDepth (r : List Byte) : Nat := recLe r 6 1
def recIdent (r : List Byte) : Nat := recLe r 16 8
def recRequest (r : List Byte) : Option Nat :=
  let n := recLe r 4 2
  if n = 0 ∨ 2047 < n then none else some n

/-- Census order: by depth, then by route read from hop 1. -/
def recKey (r : List Byte) : Nat :=
  let depth := recDepth r
  let route := recLe r 10 2
  (List.range 8).foldl (fun k i => k * 4 + (if i < depth then route / 4 ^ i % 4 else 0)) depth

/-- Insert a record in census order. -/
def recInsert (r : List Byte) : List (List Byte) → List (List Byte)
  | [] => [r]
  | x :: t => if recKey r < recKey x then r :: x :: t else x :: recInsert r t

/-- What the census has settled for a device: its record, its number and whether a request was denied. -/
structure Numbered where
  record : List Byte
  number : Option Nat
  conflict : Bool

/-- Number the devices of a census in order (R337): `held` are the numbers of the previous census by identity; `fixed` those of them that stay, `wanted` every request. -/
def numberAll (held : List (Nat × Nat)) (fixed wanted : List Nat) : List (List Byte) → List Nat → List Numbered → Nat → List Numbered
  | [], _, out, _ => out.reverse
  | r :: t, taken, out, n =>
    let keep := (held.find? (fun e => e.1 = recIdent r)).map (·.2)
    let earlier := out.any (fun x => recRequest x.record = recRequest r)
    let lowest := ((List.range 2048).drop 1).find? (fun m => !fixed.contains m && !wanted.contains m && !taken.contains m)
    let x : Numbered :=
      if 2047 ≤ n then { record := r, number := none, conflict := false }
      else match keep, recRequest r with
        | some m, _ => { record := r, number := some m, conflict := false }
        | none, some m =>
          if !fixed.contains m && !taken.contains m && !earlier then { record := r, number := some m, conflict := false }
          else { record := r, number := lowest, conflict := true }
        | none, none => { record := r, number := lowest, conflict := false }
    numberAll held fixed wanted t (x.number.toList ++ taken) (x :: out) (n + 1)

/-- A record as the census table holds it. -/
def Numbered.entry (x : Numbered) : List Byte :=
  recordOf (x.record.take 2 ++ le16 (x.number.getD 0xFFFF) ++ (x.record.drop 4).take 3
    ++ [(x.record.getD 7 0) ||| (if x.conflict then 2#8 else 0#8)] ++ (x.record.drop 8).take 20)

/-- The census-table entry of device `n` (R338); an entry with no device reads 0xFF in every byte. -/
def Device.censusEntry (d : Device) (n : Nat) : List Byte := readBytes onesByte d.kl.table (32 * n) 32

/-- Does the census table hold device `n`? -/
def Device.inCensus (d : Device) (n : Nat) : Bool := decide (n < 2048) && d.censusEntry n != List.replicate 32 0xFF

/-- A frame from the harbourmaster to device `n`, by its route (R327). -/
def Device.sendTo (d : Device) (n : Nat) (body : KlBody) (cls words : Nat) : Device :=
  let route := recLe (d.censusEntry n) 10 2
  d.sendDown 5 (route % 4 + 2) { body := body, cls := cls, routed := true, dest := route, src := 0, words := words }

/-- ASSIGN to one device; what a standby link of it leads to the records do not tell, so whether it is usable stays open (R338). -/
def Device.sendAssign (d : Device) (x : Numbered) : Device :=
  let (v, d) := d.takeFree
  let alt := (x.record.getD 15 0).getLsbD 1 && v.getLsbD 0
  let route := recLe x.record 10 2
  let body := KlBody.assign x.number (d.get fKlCensusGen) (d.get fKlVerCp) (d.get fKlCtrlHostFormat) alt
  d.sendDown 5 (route % 4 + 2) { body := body, cls := 0, routed := true, dest := route, src := 0 }

/-- Show the control-plane version and whether versions differ; a change raises KL_VERSION and is broadcast (R355). -/
def Device.showVersions (d : Device) (recs : List (List Byte)) : Device :=
  let own := [d.get fKlVerLink, d.get fKlVerCalFmt, 3]
  let vers (r : List Byte) : List Nat := [recLe r 12 1, recLe r 13 1, recLe r 14 1]
  let cp := recs.foldl (fun m r => min m (recLe r 12 1)) (d.get fKlVerLink)
  let mixed := recs.any (fun r => vers r != own)
  let changed := cp != d.get fKlVerCp
  let d := if changed || mixed != d.on fKlVerMixed then ((d.put fKlVerCp cp).putB fKlVerMixed mixed).irq 0x1C 2 else d
  d.when changed (fun d => d.broadcast { body := .version cp, cls := 0, src := 0 })

/-- The highest MSG_FMT in the census. -/
def Device.highestFormat (d : Device) : Nat := d.kl.recs.foldl (fun m r => max m (recLe r 14 1)) 3

/-- The harbourmaster takes the collected records: numbers, table, ASSIGN frames, events and KL_CENSUS (R336 steps 3 to 5). -/
def Device.censusTake (d : Device) : Device :=
  let recs := d.kl.recs.foldl (fun l r => recInsert r l) []
  let held := d.kl.held
  let fixed := held.filterMap (fun e => if recs.any (fun r => recIdent r = e.1) then some e.2 else none)
  let wanted := recs.filterMap recRequest
  let all := numberAll held fixed wanted recs [0] [] 0
  let numbered := all.filter (fun x => x.number.isSome)
  let changed := all.filter (fun x => x.number != (held.find? (fun e => e.1 = recIdent x.record)).map (·.2))
  let gone := held.filter (fun e => !recs.any (fun r => recIdent r = e.1))
  let conflicts := (all.filter (fun x => x.conflict)).length
  let stale : List Nat := changed.filterMap (fun x => x.number) ++ gone.map (fun e => e.2)
  let newHeld : List (Nat × Nat) := numbered.map (fun x => (recIdent x.record, x.number.getD 0))
  let newExpect : List (Nat × Nat) := d.kl.expect.filter (fun e => !stale.contains e.1)
  let newTable : List (Nat × Byte) :=
    numbered.foldl (fun (t : List (Nat × Byte)) (x : Numbered) => writeBytes onesByte t (32 * x.number.getD 0) x.entry)
      (writeBytes onesByte [] 0 (d.klRecord false))
  let d := d.modKl (fun s => { s with held := newHeld, expect := newExpect, table := newTable, collecting := false })
  let d := (d.put fKlCensusMembers (numbered.length + 1)).put fKlCensusConflicts (min 255 conflicts)
  let d := d.showVersions (numbered.map (fun x => x.record))
  let d := d.forAll all Device.sendAssign
  let d := d.forAll (all.filter (fun x => !held.any (fun e => e.1 = recIdent x.record))) (fun d x => d.klEvent 5 0xFF (x.number.getD 0xFFFF) 0)
  let d := d.forAll gone (fun d e => d.klEvent 6 0xFF e.2 0)
  let d := d.forAll (all.filter (fun x => x.conflict)) (fun d x => d.klEvent 7 0xFF (x.number.getD 0xFFFF) 0)
  d.irq 0x1C 1

/-- The harbourmaster's page goes back to IDLE, and a census that was asked for follows (R336). -/
def Device.masterIdle (d : Device) : Device :=
  let d := d.put (fPsState 0x1C) 0
  if d.kl.again then (d.modKl (fun s => { s with again := false })).censusStart else d

/-- CENSUS_COMPLETE: every UP down-port of the harbourmaster has delivered LAST (R336). -/
def censusComplete (d : Device) : Device :=
  if d.klMaster && d.get (fPsState 0x1C) = 1 && d.downPorts.all (fun k => d.kl.lasts.contains k) then d.censusTake.masterIdle else d

/-- ASSIGN: the device takes its number; with another number its message sequence starts again (R336 step 4, R338, R345). -/
def assign (h : KlHead) (way : KlTo) (number : Option Nat) (gen cp hostFormat : Nat) (altOk : Bool) (d : Device) : Device :=
  d.receive h 0 false (fun d =>
    if !klMine way then d.forward h way (.assign number gen cp hostFormat altOk) 0
    else
      let had := if d.on fKlStatNumbered then some (d.get fKlStatNumber) else none
      let d := (d.put fKlStatNumber (number.getD 0)).putB fKlStatNumbered number.isSome
      let d := d.when (cp != d.get fKlVerCp) (fun d => (d.put fKlVerCp cp).irq 0x1C 2)
      let d := d.modKl (fun s => { s with altOk := altOk, hostFormat := hostFormat })
      let d := if had = number then d
        else { d.modKl (fun s => { s with oseq := 0, unacked := [], up := s.up.filter (fun e => e.1 != 5 || e.2.cls != 2) }) with ringSent := Vector.replicate 16 0 }
      d.showAlt)

/-- VERSION: the control-plane version of the whole cascade (R355). -/
def versionFrame (h : KlHead) (cp : Nat) (d : Device) : Device :=
  d.receive h 0 false (fun d =>
    let d := d.when (cp != d.get fKlVerCp) (fun d => (d.put fKlVerCp cp).irq 0x1C 2)
    d.forward h .all (.version cp) 0)

/-- The harbourmaster holds KL_VERSION raised while a member's MSG_FMT is above HOST_FORMAT (R356). -/
def Device.followFormat (d : Device) : Device :=
  if d.klMaster && decide (d.get fKlCtrlHostFormat < d.highestFormat) then d.irq 0x1C 2 else d

/-! ### Messages (R345 … R347, R356) -/

/-- Whole messages of ring `n` from slot index `i` within `slots` slots: at most `count`, at most `room` bytes (R142). -/
def Device.gather (d : Device) (n i slots room : Nat) : Nat → List (List Byte)
  | 0 => []
  | count + 1 =>
    let len := ((storeGet zeroByte d.sram (d.mSlotAddr n i + 3)).toNat - 1) % 8 + 1
    if len ≤ slots ∧ 64 * len ≤ room then
      ((List.range len).flatMap (fun j => readBytes zeroByte d.sram (d.mSlotAddr n (i + j)) 64))
        :: d.gather n ((i + len) % 65536) (slots - len) (room - 64 * len) count
    else []

/-- The slots of ring `n` not yet handed on. -/
def Device.ringFresh (d : Device) (n : Nat) : Nat := d.mUsed n - d.ringSent.getD n 0

/-- The messages of ring `n` to hand on next. -/
def Device.nextMsgs (d : Device) (n room count : Nat) : List (List Byte) :=
  d.gather n ((d.index (ringMhead n) + d.ringSent.getD n 0) % 65536) (d.ringFresh n) room count

/-- Slots handed on. -/
def Device.handOn (d : Device) (n slots : Nat) : Device :=
  { d with ringSent := d.ringSent.setIfInBounds n (d.ringSent.getD n 0 + slots) }

/-- Slots acknowledged: MHEAD advances past them (R345, R378). -/
def Device.handedOn (d : Device) (n slots : Nat) : Device :=
  let d := { d with ringSent := d.ringSent.setIfInBounds n (d.ringSent.getD n 0 - slots) }
  (d.wr (ringMhead n) (BitVec.ofNat 32 ((d.index (ringMhead n) + slots) % 65536))).headMoved n

/-- MESSAGE_FRAME_SEND: the forwarder sends up to 512 bytes of whole messages of ring `n` (R345). A member whose MSG_FMT is above HOST_FORMAT forwards nothing (R356). -/
def messageFrameSend (n : Nat) (d : Device) : Device :=
  let msgs := d.nextMsgs n 512 8
  if !d.klMember || !d.on ⟨klCtrl, 16 + n, 16 + n⟩ || !d.on fKlStatNumbered || decide (d.kl.hostFormat < 3) || msgs.isEmpty then d
  else
    let bytes := msgs.flatten
    let frame : KlFrame := { body := .message (d.get fKlStatNumber) d.kl.oseq msgs.length bytes, cls := 2, src := d.get fKlStatNumber, words := (8 + bytes.length) / 8 }
    let slots := bytes.length / 64
    ((d.handOn n slots).modKl (fun s => { s with oseq := (s.oseq + 1) % 2 ^ 32, unacked := s.unacked ++ [(s.oseq, n, slots, frame)] })).sendUp 5 frame

/-- ACK_E2E: frames up to the one before `next` are acknowledged end to end and their messages leave the rings (R345, R347). -/
def ackE2e (h : KlHead) (way : KlTo) (next : Nat) (d : Device) : Device :=
  d.receive h 0 false (fun d =>
    if !klMine way then d.forward h way (.ackE2e next) 0
    else
      let done (u : Nat × Nat × Nat × KlFrame) : Bool := decide ((next + 2 ^ 32 - 1 - u.1) % 2 ^ 32 < 2 ^ 31)
      let acked := d.kl.unacked.filter done
      (d.modKl (fun s => { s with unacked := s.unacked.filter (fun u => !done u) })).forAll acked (fun d u => d.handedOn u.2.1 u.2.2.1))

/-- E2E_RESEND_TIMEOUT: 200 µs without progress (R347). -/
def e2eResendTimeout (d : Device) : Device := if d.kl.unacked.isEmpty then d else d.e2eResend

/-- A member's message as the harbourmaster delivers it: converted where its format is below HOST_FORMAT (R356). -/
def Device.converted (d : Device) (msg : List Byte) : List Byte :=
  let f := d.get fKlCtrlHostFormat
  if (msg.getD 1 0).toNat < f then Config.klConvert f msg else msg

/-- Cut a frame's bytes into whole messages by their SLOTS. -/
def wholeMessages : Nat → List Byte → List (List Byte)
  | 0, _ => []
  | n + 1, b => if b.isEmpty then [] else
    let len := 64 * (((b.getD 3 0).toNat - 1) % 8 + 1)
    b.take len :: wholeMessages n (b.drop len)

/-- MESSAGE_FRAME: a relay forwards it; the harbourmaster accepts it in sequence for the packet link, whose taking returns the credits, and discards any other (R346, R347). -/
def messageFrame (h : KlHead) (origin oseq count : Nat) (msgs : List Byte) (d : Device) : Device :=
  let k := h.port.val
  d.receive h 2 false (fun d =>
    if k < 2 then d
    else if !d.klMaster then d.relayUp h (.message origin oseq count msgs) 2
    else
      let next := ((d.kl.expect.find? (fun e => e.1 = origin)).map (·.2)).getD 0
      if oseq != next then d.count fKlCountsDiscards
      else
        let bytes := ((wholeMessages 8 msgs).map d.converted).flatten
        let d := d.bufferUse k 2 (klCost h.len.val)
        d.modKl (fun s => { s with
          expect := (origin, (next + 1) % 2 ^ 32) :: s.expect.filter (fun e => e.1 != origin)
          acks := if s.acks.contains origin then s.acks else s.acks ++ [origin]
          accepted := s.accepted ++ [(origin, bytes, k, klCost h.len.val)] }))

/-- ACK_E2E_SEND: the harbourmaster acknowledges the accepted frames of every origin that is owed one (R347). -/
def ackE2eSend (d : Device) : Device :=
  let owed := d.kl.acks
  (d.modKl (fun s => { s with acks := [] })).forAll owed (fun d o =>
    d.sendTo o (.ackE2e (((d.kl.expect.find? (fun e => e.1 = o)).map (·.2)).getD 0)) 0 1)

/-- EVENT_FRAME: a relay forwards it; the harbourmaster keeps the message for the packet link, and a port event anywhere asks for a census (R336, R347). -/
def eventFrame (h : KlHead) (msg : List Byte) (d : Device) : Device :=
  let k := h.port.val
  let msg := padTo 64 (msg.take 64)
  d.receive h 0 false (fun d =>
    if k < 2 then d
    else if !d.klMaster then d.relayUp h (.event msg) 0
    else
      let d := d.modKl (fun s => { s with accepted := s.accepted ++ [(leNat ((msg.drop 4).take 2), d.converted msg, 5, 0)] })
      let e := (msg.getD 16 0).toNat
      d.when (e = 1 || e = 2) Device.censusAuto)

/-! ### Coherent groups (R348 … R354) -/

/-- A GROUP_CAL ends with a rejection (R352). -/
def Device.groupReject (d : Device) (reason rank : Nat) : Device :=
  let d := (d.calReject 9 reason rank 0xFF).when (d.get fKlGroupId = d.kl.group) (fun d => d.put fKlGroupStatReason reason)
  let members := ((List.range 2048).drop 1).filter (fun n => d.inCensus n && recLe (d.censusEntry n) 24 1 = d.kl.group)
  (d.forAll members (fun d n => d.sendTo n (.group (.rejected (BitVec.ofNat 8 reason))) 3 4)).masterIdle

/-- The members of a group in the census, by rank (R348, R352). -/
def Device.groupMembers (d : Device) (g : Nat) : List Nat :=
  (List.range 2048).filter (fun n => d.inCensus n && recLe (d.censusEntry n) 24 1 = g)

/-- GROUP_CAL: the preconditions of R351 step 1 in order; what the members report, `x` gives by rank. Then the intervals are scheduled. -/
def Device.groupStart (d : Device) (g : Nat) (x : KlGroupFinds) : Device :=
  let members := d.groupMembers g
  let d := (d.put (fPsState 0x1C) 2).modKl (fun s => { s with group := g })
  let own := d.get fKlGroupId = g
  let size := recLe (d.censusEntry (members.headD 0)) 25 1
  if size < members.length then d.groupReject 8 0xFF
  else if own && !d.carriersOff then d.groupReject 4 0
  else match x.notIdle with
    | r :: _ => d.groupReject 4 r.val
    | [] =>
      if own && d.profile.isNone then d.groupReject 9 0
      else match x.noProfile with
        | r :: _ => d.groupReject 9 r.val
        | [] =>
          if own && d.onPaths.isEmpty then d.groupReject 7 0
          else match x.noPaths with
            | r :: _ => d.groupReject 7 r.val
            | [] => d.forAll (members.filter (· != 0)) (fun d n => d.sendTo n (.group .schedule) 3 4)

/-- This member takes the outcome of a GROUP_CAL; an accepted correction waits for its boundary (R352). -/
def Device.groupResult (d : Device) (corr slope : Int) : Device :=
  let d := ((d.put fKlGroupStatReason 0).put fKlGroupStatDue 0).modKl (fun s => { s with groupTemp := d.dieTemp })
  d.await (.group corr slope)

/-- GROUP_CAL_END: acceptance by R268; the first failure decides. The harbourmaster sends every member its result (R352). -/
def groupCalEnd (m : KlGroupMeas) (d : Device) : Device :=
  if !d.klMaster || d.get (fPsState 0x1C) != 2 then d
  else match m.busy, m.lost, m.diffs.find? (fun x => decide (100 < (signedOf 16 x.2.toNat).natAbs)), m.temp with
    | some r, _, _, _ => d.groupReject 4 r.val
    | _, some r, _, _ => d.groupReject 6 r.val
    | _, _, some x, _ => d.groupReject 2 x.1.val
    | _, _, _, some r => d.groupReject 12 r.val
    | none, none, none, none =>
      let members := d.groupMembers d.kl.group
      let d := d.calAccept 9
      let d := d.when (d.get fKlGroupId = d.kl.group) (fun d => d.groupResult (signedOf 16 m.corr.toNat) (signedOf 16 m.slope.toNat))
      (d.forAll (members.filter (· != 0)) (fun d n => d.sendTo n (.group (.accepted m.corr m.slope)) 3 4)).masterIdle

/-- CMD.ABORT: a GROUP_CAL stops with ABORTED, a census runs on (R358). -/
def Device.klAbort (d : Device) : Device := if d.get (fPsState 0x1C) = 2 then d.groupReject 11 0xFF else d

/-- GROUP_FRAME at a member (R351 … R355). -/
def groupFrame (h : KlHead) (way : KlTo) (m : KlGroupMsg) (d : Device) : Device :=
  d.receive h 3 false (fun d =>
    if 2 ≤ h.port.val then (if d.klMaster then d else d.relayUp h (.group m) 3)
    else
      let d := d.forward h way (.group m) 3
      if !klMine way || d.get fKlGroupId = 0 then d
      else match m with
        | .schedule => d
        | .accepted c s => d.groupResult (signedOf 16 c.toNat) (signedOf 16 s.toNat)
        | .rejected r => d.put fKlGroupStatReason r.toNat
        | .due => d.groupDue
        | .version true => if d.get fKlGroupStatState = 3 && d.get fKlGroupStatReason = 0xF0 then d.groupGo 1 else d
        | .version false => d.await .groupOut)

/-- GROUP_SUSPEND: HOLDOVER has lasted more than 100 µs, or the member is LOST (R354). -/
def groupSuspend (d : Device) : Device :=
  let sync := d.get fKlStatSync
  let st := d.get fKlGroupStatState
  if (st = 1 || st = 2) && (sync = 4 || (sync = 3 && decide (d.kl.holdSince + 102400 < d.tide))) then
    (d.put fKlGroupStatReason 0xF1).groupGo 3
  else d

/-- A drift of the die beyond CAL.CTRL.DRIFT since the accepted GROUP_CAL makes it due (R354). -/
def Device.followGroup (d : Device) : Device :=
  if d.get fKlGroupStatState = 2 && decide (16 * d.get fCalCtrlDrift < (d.dieTemp - d.kl.groupTemp).natAbs) then d.groupDue else d

/-- GROUP has been written: with an ID the device is PENDING, without one NONE (R354); the limits change with SIZE (R349). -/
def Device.groupWritten (d : Device) (old : Device) : Device :=
  let d := if d.get fKlGroupId = old.get fKlGroupId then d
    else if d.get fKlGroupId = 0 then ((d.put fKlGroupStatDue 0).put fKlGroupStatReason 0).groupGo 0
    else d.groupGo 1
  d.reglChanged

/-! ### Registers -/

/-- The word of the census table at CEN_ADDR, on the harbourmaster; it reads 0 elsewhere (R338, R357). -/
def Device.censusWord (d : Device) : Word :=
  if d.klMaster then BitVec.ofNat 32 (readLe onesByte d.kl.table (4 * d.get ⟨klCenAddr, 13, 0⟩) 4) else 0

/-- A read of CEN_DATA returns the word at CEN_ADDR, which moves on (R357). -/
def Device.cenDataRead (d : Device) : Device :=
  let w := d.censusWord
  ({ d with hd := w }.put ⟨klCenAddr, 13, 0⟩ (d.get ⟨klCenAddr, 13, 0⟩ + 1)).wr klCenData w

/-- Every port stops for MOORED; on exit the ports with EN = 1 train again (R335). -/
def Device.portsStop (d : Device) : Device :=
  d.forAll (List.range 5) (fun d k => if d.portState k = 0 then d else ((d.linkClear k).portGo k 0))

/-- The ports with EN = 1 start (R335, R357). -/
def Device.portsStart (d : Device) : Device :=
  d.forAll (List.range 5) (fun d k => if d.on (fKlPctrlEn k) && d.portState k = 0 then d.portStart k else d)

end Sys2Proof.Machine
end

