-- ==== Sys2Proof/Machine/PacketLink.lean ====
section
/-!
DEFINITION. The packet link (R360 … R384) but for register-access packets: lanes, positions and remapping, packets with credits and replay, messages, streams and interrupt packets.
-/
namespace Sys2Proof.Machine

/-- Change what the packet link holds. -/
def Device.modPl (d : Device) (f : PlSt → PlSt) : Device := { d with pl := f d.pl }

/-- LSTAT_l.STATE (R364). -/
def Device.laneState (d : Device) (l : Nat) : Nat := d.get (fPlLstatState l)

/-- PAGE_STAT.STATE of the PL page (R365): 0 DOWN, 1 TRAINING, 2 UP, 3 DEGRADED. -/
def Device.linkState (d : Device) : Nat := d.get (fPsState 0x1B)

/-- Does the link carry packets? -/
def Device.linkUp (d : Device) : Bool := decide (2 ≤ d.linkState) && !d.pl.retrain

/-- The lane that holds position `p`; 7: none. -/
def Device.laneAt (d : Device) (p : Nat) : Nat := d.get ⟨plMap, 3 * p + 2, 3 * p⟩

/-- The positions that are held. -/
def Device.positions (d : Device) : List Nat := (List.range 4).filter (fun p => d.laneAt p != 7)

/-- The lane in STANDBY. -/
def Device.standby (d : Device) : Option Nat := (List.range 5).find? (fun l => d.laneState l = 5)

/-! ### Packets (R370 … R374) -/

/-- Blocks of a packet (R370). -/
def PlPacket.blocks (x : PlPacket) : Nat := 1 + (24 + x.payload.length) / 8

/-- Credits a packet of `blocks` blocks costs (R374). -/
def plCost (blocks : Nat) : Nat := (8 * blocks + 63) / 64

/-- Credits held for a VC. -/
def fTxCred (vc : Nat) : Fld := if vc < 2 then ⟨plTxcredLo, 16 * vc + 15, 16 * vc⟩ else ⟨plTxcredHi, 16 * vc - 17, 16 * vc - 32⟩

/-- Bytes in the replay buffer. -/
def Device.replayBytes (d : Device) : Nat := d.pl.replay.foldl (fun n x => n + 24 + x.payload.length) 0

/-- The oldest ready packet of a VC. -/
def Device.vcFront (d : Device) (vc : Nat) : Option PlPacket := d.pl.queue.find? (fun x => x.vc = vc)

/-- The effective priority of a VC for its oldest ready packet (R374). -/
def Device.vcPrio (d : Device) (x : PlPacket) : Nat :=
  min 7 (d.get ⟨plVcCfg, 4 * x.vc + 2, 4 * x.vc⟩ + (d.stamp - x.since) / (256000 * max 1 (d.get fPlCtrlAgeStep)))

/-- Does packet `x` go before packet `y`? Urgent ones first, oldest first among them; else by priority, then age (R374). -/
def Device.vcBefore (d : Device) (x y : PlPacket) : Bool :=
  let px := d.vcPrio x
  let py := d.vcPrio y
  decide (py < px) || (px = py && decide (x.since < y.since))

/-- The packet the device starts next. -/
def Device.plNext (d : Device) : Option PlPacket :=
  let ready := (List.range 4).filterMap (fun vc => match d.vcFront vc with
    | some x => if plCost x.blocks ≤ d.get (fTxCred vc) then some x else none
    | none => none)
  ready.foldl (fun b x => match b with
    | some y => if d.vcBefore x y then some x else some y
    | none => some x) none

/-- Show which VCs are urgent and which wait for credits (R382). -/
def Device.showVcs (d : Device) : Device :=
  d.forAll (List.range 4) (fun d vc =>
    let front := d.vcFront vc
    let urgent := match front with
      | some x => d.vcPrio x = 7
      | none => false
    let starved := match front with
      | some x => decide (d.get (fTxCred vc) < plCost x.blocks)
      | none => false
    (d.putB ⟨plVcStat, vc, vc⟩ urgent).putB ⟨plVcStat, 4 + vc, 4 + vc⟩ starved)

/-- Start packets while credits and the replay buffer allow (R372, R374). -/
def Device.plPump (d : Device) : Nat → Device
  | 0 => d.showVcs
  | fuel + 1 =>
    if !d.linkUp then d.showVcs
    else match d.plNext with
      | none => d.showVcs
      | some x =>
        if 262144 < d.replayBytes + 24 + x.payload.length then d.showVcs
        else
          let d := d.modPl (fun s => { s with queue := s.queue.erase x, replay := s.replay ++ [{ x with seq := s.txSeq }], txSeq := (s.txSeq + 1) % 65536 })
          (d.put (fTxCred x.vc) (d.get (fTxCred x.vc) - plCost x.blocks)).plPump fuel

/-- A packet is ready. -/
def Device.plSend (d : Device) (x : PlPacket) : Device :=
  let d := d.modPl (fun s => { s with queue := s.queue ++ [{ x with since := d.stamp }] })
  d.plPump d.pl.queue.length

/-- A packet leaves the replay buffer: its messages leave their ring, or the Kloit credits of its members' frames are granted (R377, R378). -/
def Device.plGone (d : Device) (x : PlPacket) : Device :=
  let d := match x.ring with
    | some (n, slots) => d.handedOn n slots
    | none => d
  d.forAll x.relay (fun d m => if m.2.2.1 < 5 then d.bufferFree m.2.2.1 2 m.2.2.2 else d)

/-- PL_ACK: packets up to SEQ are acknowledged (R372). -/
def plAck (seq : Nat) (d : Device) : Device :=
  if !d.linkUp || !d.pl.replay.any (fun x => x.seq = seq) then d
  else
    let before := d.pl.replay.takeWhile (fun x => x.seq != seq)
    let rest := d.pl.replay.dropWhile (fun x => x.seq != seq)
    let d := (d.modPl (fun s => { s with replay := rest.drop 1 })).forAll (before ++ rest.take 1) Device.plGone
    d.plPump d.pl.queue.length

/-- Packets are sent again from the first unacknowledged one (R372). -/
def Device.plResend (d : Device) : Device := if d.pl.replay.isEmpty then d else d.count (fHalf plReplays)

/-- PL_NAK. -/
def plNak (d : Device) : Device := if d.linkUp then (d.count ⟨plReplays, 31, 16⟩).plResend else d

/-- PL_REPLAY_TIMEOUT: 8 µs without progress of ACK. -/
def plReplayTimeout (d : Device) : Device := if d.linkUp then d.plResend else d

/-- PL_CREDIT: cumulative 12-bit counts from the far end (R374). -/
def plCredit (counts : List Nat) (d : Device) : Device :=
  if !d.linkUp then d
  else
    let d := d.forAll (List.range 4) (fun d vc =>
      let n := counts.getD vc 0 % 4096
      let more := (n + 4096 - d.pl.peer.getD vc 0) % 4096
      (d.put (fTxCred vc) (min 65535 (d.get (fTxCred vc) + more))).modPl (fun s => { s with peer := s.peer.setIfInBounds vc n }))
    d.plPump d.pl.queue.length

/-- Receive credits are returned: the cumulative count rises and a CREDIT block is owed. -/
def Device.plReturn (d : Device) (vc n : Nat) : Device :=
  d.modPl (fun s => { s with given := s.given.setIfInBounds vc ((s.given.getD vc 0 + n) % 4096), creditDue := true })

/-- PL_CREDIT_SEND. -/
def plCreditSend (d : Device) : Device :=
  if d.linkUp && d.pl.creditDue then d.modPl (fun s => { s with creditDue := false, ctl := some (.credit s.given) }) else d

/-- PL_ACK_SEND: ACK with the SEQ of the last packet received whole and in order. -/
def plAckSend (d : Device) : Device :=
  if d.linkUp && d.pl.ackDue then d.modPl (fun s => { s with ackDue := false, ctl := some (.ack ((s.rxSeq + 65535) % 65536)) }) else d

/-- PL_CREDIT_STALL: a VC has had a packet waiting without credits for 100 µs. -/
def plCreditStall (vc : Nat) (d : Device) : Device :=
  match d.vcFront vc with
  | some x => if d.linkUp && decide (d.get (fTxCred vc) < plCost x.blocks) && decide (x.since + 102400 ≤ d.stamp) then d.irq 0x1B 4 else d
  | none => d

/-- PL_BAD_PACKET: discarded and counted, its credits returned; a bad CRC draws a NAK (R371). -/
def plBadPacket (vc len : Nat) (k : PlDefect) (d : Device) : Device :=
  if !d.linkUp then d
  else
    let d := (d.count fPlDropsRx).plReturn vc (plCost (1 + (24 + len) / 8))
    match k with
    | .crc => d.modPl (fun s => { s with ctl := some (.nak s.rxSeq) })
    | .other => d.modPl (fun s => { s with rxSeq := (s.rxSeq + 1) % 65536, ackDue := true })

/-! ### Streams (R379, R380) -/

/-- CAP of `n` positions in Mb/s (R363). -/
def capOf (n : Nat) : Nat := n * 25000 * 16383 / 16384

/-- The accounted rate of a stream. -/
def Device.rateOf (mask : Word) : PlStream → Nat
  | .path => 49344
  | .beam => 96 + 1536 * ((List.range 16).filter (fun n => mask.getLsbD (16 + n))).length
  | .snap _ => 49344

/-- The rate of the admitted streams. -/
def Device.admittedRate (d : Device) : Nat := d.pl.adm.foldl (fun a s => a + Device.rateOf (d.rd plStreamCtrl) s) 0

/-- The budget. -/
def Device.plBudget (d : Device) : Nat := d.get fPlCapCap * d.get fPlCtrlAdmitPct / 100

/-- Show ADMITTED and STREAM_STAT. -/
def Device.showStreamsPl (d : Device) : Device :=
  let snap : Bool := d.pl.adm.any (fun s => match s with
    | .snap _ => true
    | _ => false)
  let d := d.put ⟨plAdmitted, 16, 0⟩ d.admittedRate
  ((d.putB fPlStreamStatPathOn (d.pl.adm.contains .path)).putB fPlStreamStatBeamOn (d.pl.adm.contains .beam)).putB fPlStreamStatSnapOn snap

/-- A refusal or a cut: REASON and ADMIT (R380). -/
def Device.plRefused (d : Device) : Device := (d.put fPlStreamStatReason 0x13).irq 0x1B 2

/-- A stream ends. -/
def Device.streamEnd (d : Device) (s : PlStream) : Device := (d.modPl (fun x => { x with adm := x.adm.filter (· != s) })).showStreamsPl

/-- A stream is cut (R380). -/
def Device.streamCut (d : Device) (s : PlStream) : Device :=
  let d := (d.streamEnd s).plRefused
  match s with
  | .path => (d.put fPlStreamCtrlPathEn 0).showStreamsPl
  | .beam => (d.put fPlStreamCtrlBeamEn 0).showStreamsPl
  | .snap n => d.retireRun n 0x13 0

/-- Streams are cut, most recently admitted first, until ADMITTED fits. -/
def Device.plFit (d : Device) : Nat → Device
  | 0 => d
  | fuel + 1 =>
    if d.admittedRate ≤ d.plBudget then d
    else match d.pl.adm.getLast? with
      | some s => (d.streamCut s).plFit fuel
      | none => d

/-- Would another `rate` fit the budget? -/
def Device.plFits (d : Device) (rate : Nat) : Bool := decide (d.admittedRate + rate ≤ d.plBudget)

/-- A SNAPSHOT with DEST = 1 asks for its stream (R134, R380); whether it is admitted. -/
def Device.snapAdmit (d : Device) (n : Nat) : Bool × Device :=
  if d.plFits 49344 then (true, (d.modPl (fun s => { s with adm := s.adm ++ [.snap n] })).showStreamsPl) else (false, d.plRefused)

/-- A STREAM_CTRL write in its own order: the path stream, then the beam stream; what does not fit keeps its previous value (R380). `v` is the word written. -/
def Device.streamCtrl (d : Device) (v : Word) : Device :=
  let old := d.rd plStreamCtrl
  let keep (d : Device) (hi lo : Nat) : Device := d.put ⟨plStreamCtrl, hi, lo⟩ (bitsOf old hi lo)
  let d := d.wr plStreamCtrl (setBits (setBits v 4 4 (bitsOf old 4 4)) 0 0 (bitsOf old 0 0))
  let d := d.wr plStreamCtrl (setBits (d.rd plStreamCtrl) 31 16 (bitsOf old 31 16))
  -- the path stream
  let d := if v.getLsbD 0 = old.getLsbD 0 then d
    else if !v.getLsbD 0 then (d.put fPlStreamCtrlPathEn 0).streamEnd .path
    else if d.plFits 49344 then
      (d.put fPlStreamCtrlPathEn 1).modPl (fun s => { s with adm := s.adm ++ [.path], pathTag := 0 })
    else (keep d 0 0).plRefused
  -- the beam stream
  let beamRate := Device.rateOf v .beam
  let on := v.getLsbD 4
  let was := old.getLsbD 4
  let d := if !on then (if was then (d.put fPlStreamCtrlBeamEn 0).streamEnd .beam else d).put fPlStreamCtrlBeamMask (bitsOf v 31 16)
    else if was && bitsOf v 31 16 = bitsOf old 31 16 then d
    else
      let without := (d.pl.adm.filter (· != .beam)).foldl (fun a s => a + Device.rateOf old s) 0
      if without + beamRate ≤ d.plBudget then
        ((d.put fPlStreamCtrlBeamEn 1).put fPlStreamCtrlBeamMask (bitsOf v 31 16)).modPl
          (fun s => { s with adm := s.adm.filter (· != .beam) ++ [.beam], beamTag := 0 })
      else d.plRefused
  d.showStreamsPl

/-- A 24-bit part shifted right and saturated to 16 bits (R379). -/
def beamPart (shift : Nat) (v : BitVec 24) : Nat := twosOf 16 (clampInt (-32768) 32767 (v.toInt / (2 ^ shift : Nat)))

/-- SNAPSHOT_READY of a session's running SNAPSHOT (R144). -/
def Device.snapshotDone (d : Device) (n : Nat) : Device :=
  match (d.sess n).run with
  | none => d
  | some x =>
    let samples := x.le 6 2
    let body := [BitVec.ofNat 8 (x.byte 4), BitVec.ofNat 8 (x.byte 5)] ++ le16 samples ++ leBytes 4 (256 * samples)
    let d := d.modSes n (fun s => { s with run := none })
    (d.postMsg n (d.message 0x05 n x.cookie x.startTide body)).sesDone n

/-- Samples of a path that is excluded or not ON are 0 (R258). -/
def Device.pathSamples (d : Device) (samples : List Word) : List Word :=
  ((List.range samples.length).zip samples).map (fun x =>
    let p := x.1 % 64
    if d.on (fPathCfgStreamInc p) && d.get (fPsState (0x40 + p)) = 6 then x.2 else 0)

/-- STREAM_PACKET: a packet is formed for a stream, or discarded whole where its source buffer is full (R379). -/
def streamPacket (x : StreamData) (tide : Nat) (full : Bool) (d : Device) : Device :=
  let words (l : List Word) : List Byte := l.flatMap (fun w => leBytes 4 w.toNat)
  let dropped (d : Device) : Device := (d.count fPlDropsStream).irq 0x1B 3
  match x with
  | .path samples =>
    if !d.linkUp || !d.pl.adm.contains .path then d
    else
      let tag := d.pl.pathTag
      let d := d.modPl (fun s => { s with pathTag := (s.pathTag + 1) % 65536 })
      if full then dropped d
      else d.plSend { type := 0x20, vc := 3, tag := tag, tide := tide, payload := words (d.pathSamples (samples.take 2048)), carrier := d.get fPlStreamCtrlPathCar }
  | .beam values =>
    if !d.linkUp || !d.pl.adm.contains .beam then d
    else
      let tag := d.pl.beamTag
      let shift := d.get fPlStreamCtrlBeamShift
      let k := ((List.range 16).filter (fun n => (d.rd plStreamCtrl).getLsbD (16 + n))).length
      let d := d.modPl (fun s => { s with beamTag := (s.beamTag + 1) % 65536 })
      if full then dropped d
      else d.plSend
        { type := 0x21, vc := 3, tag := tag, tide := tide
          payload := (values.take (128 * k)).flatMap (fun v => leBytes 2 (beamPart shift v.1) ++ leBytes 2 (beamPart shift v.2)) }
  | .snap n samples last =>
    match (d.sess n.val).run with
    | none => d
    | some r =>
      if !d.linkUp || !d.pl.adm.contains (.snap n.val) then d
      else
        let d := if full then dropped d
          else d.plSend { type := 0x22, vc := 3, tag := r.cookie, tide := tide, payload := words (d.pathSamples (samples.take 2048)), last := last, carrier := r.byte 5 }
        if last then (d.streamEnd (.snap n.val)).snapshotDone n.val else d

/-! ### Messages and interrupts (R377, R378, R381) -/

/-- The MSG payload: origin, count and whole messages (R377). -/
def msgPayload (origin count : Nat) (bytes : List Byte) : List Byte :=
  le16 origin ++ [BitVec.ofNat 8 count, 0, 0, 0, 0, 0] ++ bytes

/-- The accepted frames of one origin that fit one packet. -/
def takeOrigin (origin : Nat) : Nat → List (Nat × List Byte × Nat × Nat) → List (Nat × List Byte × Nat × Nat)
  | _, [] => []
  | room, m :: t => if m.1 = origin ∧ m.2.1.length ≤ room then m :: takeOrigin origin (room - m.2.1.length) t else []

/-- MSG_PACKET_SEND: the messages of pushed ring `n` that wait, or those accepted from members (`none`); a packet takes all that waits of its origin, so that its sending is due (R377). -/
def msgPacketSend (src : Option Nat) (d : Device) : Device :=
  if !d.linkUp then d
  else match src with
    | some n =>
      let msgs := if d.on ⟨plMsgCfg, n, n⟩ then d.nextMsgs n 8192 128 else []
      if msgs.isEmpty then d
      else
        let bytes := msgs.flatten
        (d.handOn n (bytes.length / 64)).plSend
          { type := 0x11, vc := 2, tide := d.stamp, payload := msgPayload d.deviceNumber msgs.length bytes, ring := some (n, bytes.length / 64) }
    | none =>
      match d.kl.accepted with
      | [] => d
      | m :: _ =>
        let take := takeOrigin m.1 8192 d.kl.accepted
        let bytes := (take.map (fun x => x.2.1)).flatten
        let count := (wholeMessages 128 bytes).length
        (d.modKl (fun s => { s with accepted := s.accepted.drop take.length })).plSend
          { type := 0x11, vc := 2, tide := d.stamp, payload := msgPayload m.1 count bytes, relay := take }

/-- INTERRUPT_PACKET: routed sources that have become pending are reported, no sooner than HOLDOFF after the last report (R381). -/
def interruptPacket (d : Device) : Device :=
  let early := match d.pl.lastInt with
    | some t => decide (d.stamp < t + 1024 * d.get ⟨plIntCfg, 15, 0⟩)
    | none => false
  if !d.linkUp || d.linkNew = 0 || early then d
  else
    let msg := d.message 0x09 0 0 d.stamp (leBytes 8 d.linkSeen.toNat ++ leBytes 8 d.linkNew.toNat)
    ({ d with linkNew := 0 }.modPl (fun s => { s with lastInt := some d.stamp })).plSend { type := 0x10, vc := 1, tide := d.stamp, payload := msg }

/-! ### Lanes (R364 … R369) -/

/-- Show SPARE of MAP and PL_SPARE_FREE (R304, R368). -/
def Device.showSpareLane (d : Device) : Device :=
  let s := d.standby
  (d.put fPlMapSpare (s.getD 7)).putB fRepPoolsPlSpareFree s.isSome

/-- A lane enters a state; UP, STANDBY and FAILED record LANE (R384). -/
def Device.laneGo (d : Device) (l s : Nat) : Device :=
  let d := ((d.put (fPlLstatState l) s).putB (fPlLstatBusy l) (1 ≤ s && s ≤ 3 : Bool)).putB (fPlLstatShuttingDown l) (s = 7)
  let d := d.put (fPlLstatPos l) (if s = 4 then d.get (fPlLstatPos l) else if s = 5 then 4 else 7)
  let d := d.putB ⟨clkGood, 5 + l, 5 + l⟩ (s = 3 || s = 4 || s = 5 || s = 7)
  (d.when (s = 4 || s = 5 || s = 6) (fun d => d.irq 0x1B 0)).showSpareLane

/-- Lane `l` holds position `p`. -/
def Device.place (d : Device) (l p : Nat) : Device :=
  ((d.put ⟨plMap, 3 * p + 2, 3 * p⟩ l).put (fPlLstatPos l) p).laneGo l 4

/-- No lane holds position `p`. -/
def Device.vacate (d : Device) (p : Nat) : Device := d.put ⟨plMap, 3 * p + 2, 3 * p⟩ 7

/-- Link-level state starts afresh: SEQ at 0, nothing to resend; messages go out again from MHEAD, and accepted frames of members again (R373, R378). -/
def Device.linkFresh (d : Device) : Device :=
  let lost := (d.pl.replay ++ d.pl.queue).flatMap (fun x => x.relay)
  let keep (x : PlPacket) : Bool := x.type = 0x02 || x.type = 0x10
  let d := d.forAll (List.range 16) (fun d n => if d.on ⟨plMsgCfg, n, n⟩ then { d with ringSent := d.ringSent.setIfInBounds n 0 } else d)
  let d := d.modKl (fun s => { s with accepted := lost ++ s.accepted })
  d.modPl (fun s => { s with queue := s.queue.filter keep, replay := [], txSeq := 0, rxSeq := 0, ackDue := false, creditDue := false, peer := Vector.replicate 4 0, given := Vector.replicate 4 0 })

/-- CAP and the state of the link with the positions it has. -/
def Device.showCap (d : Device) : Device := d.put fPlCapCap (capOf d.positions.length)

/-- The link falls to DOWN: every stream is cut (R380). -/
def Device.linkDown (d : Device) : Device :=
  let was := decide (2 ≤ d.linkState) || d.pl.retrain
  let training : Bool := (List.range 5).any (fun l => [1, 2, 3, 4, 5].contains (d.laneState l))
  let d := (d.put (fPsState 0x1B) (if training then 1 else 0)).modPl (fun s => { s with retrain := false })
  if !was then d
  else ((d.forAll d.pl.adm.reverse Device.streamCut).linkFresh.put fPlCapCap 0).forAll (List.range 4) (fun d vc => d.put (fTxCred vc) 0)

/-- The link leaves TRAINING when every position it can fill is held: no lane of PL_0 … PL_3 is still between block lock and ALIGN. PL_4 takes the place of a lane that has not aligned (R365). -/
def Device.linkCheck (d : Device) : Device :=
  let coming : Bool := (List.range 4).any (fun l => d.laneState l = 2 || d.laneState l = 3)
  if d.linkState != 1 || d.pl.retrain || coming then d
  else
    let missing := (List.range 4).find? (fun p => d.laneAt p = 7)
    let spare := [4].filter (fun l => d.laneState l = 5 || d.laneState l = 3)
    let d := match missing, spare with
      | some p, l :: _ => d.place l p
      | _, _ => d
    let n := d.positions.length
    if n = 0 then d
    else
      let d := (d.linkFresh.put (fPsState 0x1B) (if n = 4 then 2 else 3)).showCap
      let d := d.modPl (fun s => { s with given := ⟨#[512, 145, 145, 145], rfl⟩, creditDue := true })
      (d.forAll (List.range 4) (fun d vc => d.put (fTxCred vc) 0)).showVcs

/-- The enable sequence of a lane starts, and with it the link's training (R364, R365). -/
def Device.laneStart (d : Device) (l : Nat) : Device :=
  let d := if d.linkState = 0 then d.forAll (List.range 4) Device.vacate else d
  (d.laneGo l 1).when (d.linkState = 0) (fun d => d.put (fPsState 0x1B) 1)

/-- EN = 1 applied to LCTRL_l. -/
def Device.laneEnable (d : Device) (l : Nat) : Device :=
  if d.laneState l = 7 then d.put (fPlLstatEnq l) 1 else if d.laneState l = 0 then d.laneStart l else d

/-- PL_SIGNAL_DETECT. -/
def plSignalDetect (l : Nat) (d : Device) : Device := if d.laneState l = 1 then d.laneGo l 2 else d

/-- PL_BLOCK_LOCK. -/
def plBlockLock (l : Nat) (d : Device) : Device := if d.laneState l = 2 then d.laneGo l 3 else d

/-- PL_LANE_ALIGNED: during TRAINING a lane of PL_0 … PL_3 takes its position; otherwise, and for PL_4 with SPARE_EN = 1, the lane becomes STANDBY (R365, R367). -/
def plLaneAligned (l : Nat) (d : Device) : Device :=
  if d.laneState l != 3 then d
  else
    let d := d.modPl (fun s => { s with retry := s.retry &&& ~~~BitVec.ofNat 5 (1 <<< l) })
    let d := if d.linkState = 1 && !d.pl.retrain && decide (l < 4) && d.laneAt l = 7 then d.place l l
      else if l < 4 || d.on fPlCtrlSpareEn then d.laneGo l 5
      else d
    d.linkCheck

/-- A position loses its lane `l`: it moves to the standby lane, or the link goes on with one position fewer (R368, R369). `fault` says that the lane failed. -/
def Device.remap (d : Device) (l : Nat) (way : Option Nat) (fault : Bool) : Device :=
  match (List.range 4).find? (fun p => d.laneAt p = l) with
  | none => d.linkCheck
  | some p =>
    match way with
    | some s => (((d.place s p).modPl (fun x => { x with ctl := some (.remap p s) })).irq 0x1B 1).plResend
    | none =>
      let d := d.vacate p
      if d.positions.isEmpty then d.linkDown
      else if d.linkState = 1 && !d.pl.retrain then d.linkCheck
      else (((d.put (fPsState 0x1B) 1).modPl (fun x => { x with retrain := true })).irq 0x1B 1).when fault Device.poolEmpty

/-- A lane fails; its position is remapped to `to` (R366). -/
def Device.laneFail (d : Device) (l : Nat) (way : Option Nat) : Device :=
  let d := (d.laneGo l 6).count (fPlLerrFaults l)
  (d.remap l way true).showSpareLane

/-- PL_LANE_FAULT. A lane that does not complete its retraining is recorded in the repair map and tried again only after a FULL reset (R366, R367). -/
def plLaneFault (l : Nat) (c : PlCause) (d : Device) : Device :=
  let st := d.laneState l
  let d := if c = .headers ∧ (st = 4 ∨ st = 5) then d.addSat (fPlLerrSync l) 16 else d
  if st = 4 ∨ st = 5 then
    let d := d.modPl (fun s => { s with ctl := some (.remapReq l) })
    d.laneFail l (if st = 4 then d.standby else none)
  else if 1 ≤ st ∧ st ≤ 3 then
    if d.pl.retry.getLsbD l then
      let d := d.modPl (fun s => { s with retry := s.retry &&& ~~~BitVec.ofNat 5 (1 <<< l), recorded := s.recorded ||| BitVec.ofNat 5 (1 <<< l) })
      ((d.laneGo l 6).queueRecord (mapRecord 7 l 0 0xFF 1)).linkCheck
    else (d.laneGo l 6).linkCheck
  else d

/-- PL_REMAP_REQ: the far end names a failed lane. -/
def plRemapReq (l : Nat) (d : Device) : Device :=
  if d.laneState l = 4 then d.laneFail l d.standby else if d.laneState l = 5 then d.laneFail l none else d

/-- PL_REMAP_BLOCK: the far end moves a position to a named lane; both directions move (R366, R368). -/
def plRemapBlock (p l : Nat) (d : Device) : Device :=
  let now := d.laneAt p
  if now = l || d.laneState l != 5 || now = 7 then d else d.laneFail now (some l)

/-- PL_RETRAIN_END: the degraded retraining completes; streams are cut to the new CAP and unacknowledged packets resent (R369, R380). -/
def plRetrainEnd (d : Device) : Device :=
  if !d.pl.retrain then d
  else
    let n := d.positions.length
    let d := ((d.modPl (fun s => { s with retrain := false })).put (fPsState 0x1B) (if n = 4 then 2 else 3)).showCap
    let d := (d.plFit d.pl.adm.length).plResend
    d.plPump d.pl.queue.length

/-- PL_LANE_RETRY: 1 ms after FAILED the lane trains again, unless it is recorded; one that has not aligned by then is recorded (R367). -/
def plLaneRetry (l : Nat) (d : Device) : Device :=
  let st := d.laneState l
  if st = 6 && d.on (fPlLctrlEn l) && !d.pl.recorded.getLsbD l then
    (d.modPl (fun s => { s with retry := s.retry ||| BitVec.ofNat 5 (1 <<< l) })).laneStart l
  else if 1 ≤ st && st ≤ 3 && d.pl.retry.getLsbD l then plLaneFault l .signal d
  else d

/-- EN = 0 applied to LCTRL_l: a position first moves to the standby lane; then the lane drains (R364). -/
def Device.laneDisable (d : Device) (l : Nat) : Device :=
  let st := d.laneState l
  if st = 7 then d.put (fPlLstatEnq l) 0
  else if st = 0 then d
  else
    let way := if st = 4 then d.standby else none
    (((d.laneGo l 7).remap l way false)).showSpareLane

/-- PL_DRAIN_END. -/
def plDrainEnd (l : Nat) (d : Device) : Device :=
  if d.laneState l != 7 then d
  else
    let d := d.laneGo l 0
    let d := if (List.range 5).all (fun l => d.laneState l = 0) then d.put (fPsState 0x1B) 0 else d
    if d.on (fPlLstatEnq l) then (d.put (fPlLstatEnq l) 0).laneStart l else d

/-- PL_ALIGN_BLOCK: the receiver removes the lane's skew; a wrong position is a fault (R362, R366). -/
def plAlignBlock (l position skew : Nat) (d : Device) : Device :=
  let st := d.laneState l
  if st = 3 then d.put (fPlLstatSkew l) skew
  else if st = 4 ∨ st = 5 then
    if position = d.get (fPlLstatPos l) then d.put (fPlLstatSkew l) skew else plLaneFault l .align d
  else d

/-! ### Registers (R382, R383) -/

/-- Which writes of the PL page are applied. -/
def plWriteOk (d : Device) (off : Nat) (v : Word) : Bool :=
  match off with
  | 0x10 => decide (50 ≤ bitsOf v 7 0) && decide (bitsOf v 7 0 ≤ 97) && decide (1 ≤ bitsOf v 25 16) && decide (bitsOf v 25 16 ≤ 256)
      && (bitsOf v 8 8 = d.get fPlCtrlSpareEn || (List.range 5).all (fun l => d.laneState l = 0))
  | 0x18 =>
    decide (1 ≤ bitsOf v 23 16) && (List.range 16).all (fun n =>
      (v.getLsbD n = d.on ⟨plMsgCfg, n, n⟩ || d.sesState n = 0)
        && !(v.getLsbD n && d.on ⟨klCtrl, 16 + n, 16 + n⟩ && d.klMember))
  | 0x19 =>
    decide (bitsOf v 11 8 ≤ 8)
      && (bitsOf v 2 1 = d.get fPlStreamCtrlPathCar || !d.on fPlStreamCtrlPathEn)
      && (bitsOf v 11 8 = d.get fPlStreamCtrlBeamShift || !d.on fPlStreamCtrlBeamEn)
  | _ =>
    if 0x40 ≤ off ∧ off < 0x54 ∧ off % 4 = 0 then
      let l := (off - 0x40) / 4
      bitsOf v 2 1 = bitsOf (d.rd (plLctrl l)) 2 1 || d.laneState l = 0
    else true

/-- The effect of an applied PL write; `old` is the device before it. -/
def plWritten (off : Nat) (v : Word) (old d : Device) : Device :=
  match off with
  | 0x10 => d.plFit d.pl.adm.length
  | 0x18 => d.forAll (List.range 16) (fun d n => if d.on ⟨plMsgCfg, n, n⟩ = old.on ⟨plMsgCfg, n, n⟩ then d else { d with ringSent := d.ringSent.setIfInBounds n 0 })
  | 0x19 => (d.wr plStreamCtrl (old.rd plStreamCtrl)).streamCtrl v
  | 0x1E =>
    let d := d.when (v.getLsbD 0) (fun d => d.wr plDrops 0)
    let d := d.when (v.getLsbD 1) (fun d => d.wr plReplays 0)
    d.when (v.getLsbD 2) (fun d => d.forAll (List.range 5) (fun d l => d.wr (plLerr l) 0))
  | _ =>
    if 0x40 ≤ off ∧ off < 0x54 ∧ off % 4 = 0 then
      let l := (off - 0x40) / 4
      if v.getLsbD 0 then d.laneEnable l else d.laneDisable l
    else d.showVcs

/-- A BLOCK reset of the PL page: every lane stops at once; link-level replay does not survive it (R373, R391). Which lanes are recorded as failed stands. -/
def plBlockReset (d : Device) : Device :=
  let d := d.forAll d.pl.adm.reverse (fun d s => match s with
    | .snap n => (d.streamEnd s).retireRun n 0x13 0
    | _ => d.streamEnd s)
  let d := d.linkFresh
  let d := d.modPl (fun s => { recorded := s.recorded, queue := s.queue })
  (d.put (fPsState 0x1B) 0).forAll (List.range 5) (fun d l => d.putB ⟨clkGood, 5 + l, 5 + l⟩ false)

end Sys2Proof.Machine
end

