-- ==== Sys2Proof/Machine/Weights.lean ====
section
/-!
DEFINITION. The weight table, the direction estimate and the BF page's writes and reset (R165 … R168, R182 … R186, R190 … R193).
-/
namespace Sys2Proof.Machine

/-! ### The weight table -/

/-- The 272 bytes of weight-table entry `i` (R165). -/
def Device.wtEntry (d : Device) (i : Nat) : List Byte := readBytes zeroByte d.bf.table (272 * i) 272

/-- VALID of entry `i`. -/
def Device.wtValid (d : Device) (i : Nat) : Bool := (storeGet zeroByte d.bf.table (272 * i)).getLsbD 7

/-- WT_STAT.ENTRIES. -/
def Device.showEntries (d : Device) : Device := d.put fBfWtStatEntries ((List.range 512).countP d.wtValid)

/-- Set the bytes of entry `i`. -/
def Device.putEntryWt (d : Device) (i : Nat) (bs : List Byte) : Device :=
  { d with bf := { d.bf with table := writeBytes zeroByte d.bf.table (272 * i) bs } }.showEntries

/-- The staged entry. -/
def Device.wtStage (d : Device) : List Byte := (List.range 68).flatMap (fun k => leBytes 4 (d.rd (bfWtStage k)).toNat)

/-- Fill the stage. -/
def Device.putStage (d : Device) (bs : List Byte) : Device :=
  d.forAll (List.range 68) (fun d k => d.wr (bfWtStage k) (BitVec.ofNat 32 (leNat ((bs.drop (4 * k)).take 4))))

/-- FLAGS of an entry. -/
def entryFlags (bs : List Byte) : Nat := (bs.getD 0 0).toNat

/-- ZONE_AZ and ZONE_EL of an entry. -/
def entryZone (bs : List Byte) : Int × Int :=
  (signedOf 16 (leNat ((bs.drop 2).take 2)), signedOf 16 (leNat ((bs.drop 4).take 2)))

/-- The 64 weights of an entry. -/
def entryWeights (bs : List Byte) : List Word :=
  (List.range 64).map (fun p => BitVec.ofNat 32 (leNat ((bs.drop (16 + 4 * p)).take 4)))

/-- Is an angle in range (R161)? -/
def angleOk (a : Int) : Bool := decide (-9000 ≤ a) && decide (a ≤ 9000)

/-- Is a staged entry malformed (R167)? Its VALID bit is ignored. -/
def wtMalformed (bs : List Byte) : Bool :=
  let f := entryFlags bs
  (bs.getD 1 0).toNat != 1 || f / 4 % 32 != 0 || !((bs.drop 6).take 10).all (· == 0) || f % 4 = 0
    || !angleOk (entryZone bs).1 || !angleOk (entryZone bs).2 || !(entryWeights bs).all weightOk

/-- Set or clear VALID of an entry's bytes. -/
def withValid (bs : List Byte) (v : Bool) : List Byte :=
  BitVec.ofNat 8 (entryFlags bs % 128 + (if v then 128 else 0)) :: bs.drop 1

/-- The weights in effect of the session and set WT_SEL names, as an entry (R166). -/
def Device.wtLive (d : Device) : List Byte :=
  let n := d.get fBfWtSelSession
  let which := d.get fBfWtSelWhich
  [(if which = 0 then 0x81 else 0x82), 1] ++ leS16 (d.stream n).az ++ leS16 (d.stream n).el ++ List.replicate 10 0
    ++ (d.weights (16 * which + n)).flatMap (fun w => leBytes 4 w.toNat)

/-- A weight-table action (R166): 1 FETCH, 2 COMMIT, 3 ERASE, 4 FETCH_LIVE. It runs until WT_ACTION_DONE. -/
def Device.wtAction (d : Device) (action : Nat) : Device :=
  let i := d.get fBfWtSelIndex
  let d := { d with bf := { d.bf with action := action } }.put fBfWtStatBusy 1
  match action with
  | 1 => d.putStage (d.wtEntry i)
  | 2 =>
    if wtMalformed d.wtStage then d.put fBfWtStatMalformed 1
    else (d.putEntryWt i (withValid d.wtStage true)).put fBfWtStatMalformed 0
  | 3 => d.putEntryWt i (withValid (d.wtEntry i) false)
  | _ => d.putStage d.wtLive

/-- WT_ACTION_DONE. -/
def wtActionDone (d : Device) : Device := { d with bf := { d.bf with action := 0 } }.put fBfWtStatBusy 0

/-- The factor S of an entry's own weights for the paths now muted, in fixed point (R190). -/
def Device.entryScale (d : Device) (ws : List Word) : Int :=
  let live := magSum (d.livePaths.map (fun p => ws.getD p 0))
  if live ≤ 0 then fxOne else fxDiv (magSum ws) live

/-- Weights with 0 on the muted paths. -/
def Device.unmuted (d : Device) (ws : List Word) : List Word :=
  (List.range 64).map (fun p => if d.mutedPath p then 0 else ws.getD p 0)

/-- Receive weights loaded from an entry: 0 on muted paths and renormalised with the entry's own S (R190). -/
def Device.loadRx (d : Device) (ws : List Word) : List Word :=
  let u := d.unmuted ws
  if u = ws then ws else u.map (scaleRx (d.entryScale ws))

/-- Transmit weights loaded from an entry for stream `n`: 0 on muted paths and, with TX_RENORM = 1, scaled by the largest factor up to S that R163 and the profile allow (R190). -/
def Device.loadTx (d : Device) (n : Nat) (ws : List Word) : List Word :=
  let u := d.unmuted ws
  if u = ws || !d.on fBfCtrlTxRenorm then u
  else
    let top := (fxFloor (d.entryScale ws * 32768)).toNat
    let f := largestUpTo (fun f => d.passes n (u.map (scaleUp f))) top 20 0
    if f ≤ 32768 then u else u.map (scaleUp f)

/-! ### Direction estimate (R182 … R186) -/

/-- P(u) of R182 for the path sums `z`. -/
def Device.dirPower (d : Device) (hz : Nat) (z : List Cx) (az el : Int) : Int :=
  let v := d.array hz (dirXY az el)
  let part (b : Bool) : Cx := Cx.sum ((List.range 64).map (fun p =>
    if d.halfB p = b then ((v.getD p ⟨0, 0⟩).conj).mul (z.getD p ⟨0, 0⟩) else ⟨0, 0⟩))
  (part false).norm2 + (part true).norm2

/-- The numbers −m … m. -/
def symRange (m : Nat) : List Int := (List.range (2 * m + 1)).map (fun (k : Nat) => (k : Int) - m)

/-- The first entry with the largest value. -/
def argMax : List ((Int × Int) × Int) → Option ((Int × Int) × Int)
  | [] => none
  | e :: t => match argMax t with
    | some f => if f.2 ≤ e.2 then some e else some f
    | none => some e

/-- The parabola's vertex through three values at −1, 0 and 1, in 1/100 steps of 0.25°, that is rounded to 0.01°. -/
def vertex (lo mid hi : Int) : Int :=
  let den := 2 * (lo - 2 * mid + hi)
  if den = 0 then 0 else fxRound (fxDiv (25 * (lo - hi)) den)

/-- Have all unmuted paths one Y value (R182)? -/
def Device.linearArray (d : Device) : Bool :=
  match d.livePaths with
  | [] => true
  | p :: t => t.all (fun q => d.getS (fBfPosY q) = d.getS (fBfPosY p))

/-- The rms spread about the mean, in 0.1 mm (R183). -/
def rmsSpread (xs : List Int) : Int :=
  let n : Int := xs.length
  let s := xs.foldl (· + ·) 0
  if xs.isEmpty then 0 else fxSqrt (fxOf (n * xs.foldl (fun a x => a + x * x) 0 - s * s)) / n

/-- π². -/
def fxPiSquared : Int := fxMul fxTwoPi fxTwoPi / 4

/-- One σ of R183 in 0.1°, rounded up and limited to 254. -/
def sigmaCode (hz : Nat) (spread cos root : Int) : Nat :=
  let den := fxMul (fxMul (fxMul (spread * hz) cos) root) fxPiSquared
  if den ≤ 0 then 254
  else (clampInt 0 254 (fxCeil (fxDiv (fxOf (900 * 299792458 * 10000)) den))).toNat

/-- DIR_ERR (R183): `noise` is the noise estimate over the same samples. -/
def Device.dirErr (d : Device) (hz : Nat) (z : List Cx) (noise : Nat) (az el : Int) : Nat :=
  let p := d.livePaths
  let power := (p.map (fun q => (z.getD q ⟨0, 0⟩).norm2)).foldl (· + ·) 0
  if noise = 0 then 0
  else
    let root := fxSqrt (2 * power / (noise : Int))
    let a := sigmaCode hz (rmsSpread (p.map (fun q => d.getS (fBfPosX q)))) (fxCis (fxOne * az / 36000)).1 root
    if d.linearArray then a
    else max a (sigmaCode hz (rmsSpread (p.map (fun q => d.getS (fBfPosY q)))) (fxCis (fxOne * el / 36000)).1 root)

/-- The direction a snapshot gives: azimuth, elevation and error where R184 finds it valid. -/
def Device.dirFind (d : Device) (hz : Nat) (z : List Cx) (noise : Nat) : Option (Int × Int × Nat) :=
  let lim := d.get fBfDirCfgDirLimit
  let m := 100 * lim / 250
  let linear := d.linearArray
  let els := if linear then [0] else symRange m
  let grid := (symRange m).flatMap (fun i => els.map (fun k => ((i, k), d.dirPower hz z (250 * i) (250 * k))))
  match argMax grid with
  | none => none
  | some ((i, k), top) =>
    let at_ (a b : Int) : Int := ((grid.find? (fun e => e.1 = (a, b))).map (·.2)).getD (-1)
    let near : List (Int × Int) := (symRange 1).flatMap (fun a => (symRange 1).map (fun b => (a, b)))
    let isPeak (e : (Int × Int) × Int) : Bool := near.all (fun o => decide (at_ (e.1.1 + o.1) (e.1.2 + o.2) ≤ e.2))
    let far (e : (Int × Int) × Int) : Bool := decide (1 < (e.1.1 - i).natAbs) || decide (1 < (e.1.2 - k).natAbs)
    let ambiguous := grid.any (fun e => far e && isPeak e
      && decide (fxMul top fxOne ≤ fxMul e.2 (fxPow10 (d.get fBfDirCfgAmbig : Int) 40)))
    let fine := (symRange 10).flatMap (fun a => (if linear then [0] else symRange 10).map (fun b =>
      ((250 * i + 25 * a, 250 * k + 25 * b), d.dirPower hz z (250 * i + 25 * a) (250 * k + 25 * b))))
    match argMax fine with
    | none => none
    | some ((a, b), mid) =>
      let az := a + vertex (d.dirPower hz z (a - 25) b) mid (d.dirPower hz z (a + 25) b)
      let el := if linear then 0 else b + vertex (d.dirPower hz z a (b - 25)) mid (d.dirPower hz z a (b + 25))
      let err := d.dirErr hz z noise az el
      let inside := decide (az.natAbs ≤ 100 * lim) && decide (el.natAbs ≤ 100 * lim) && decide (i.natAbs < m) && (linear || decide (k.natAbs < m))
      if decide (d.get fBfDirCfgMinPaths ≤ d.livePaths.length) && d.cal.validEff.getLsbD 0 && inside && !ambiguous
          && decide (err ≤ d.get fBfDirCfgErrMax) then
        some (az, if linear then -32768 else el, err)
      else none

/-- DIRECTION_ESTIMATE: the estimate at the front of the queue is computed from the path sums z_p of its snapshot and the noise over the same samples (R182, R184, R185). -/
def directionEstimate (z : List (BitVec 32 × BitVec 32)) (noise : BitVec 64) (d : Device) : Device :=
  match d.bf.est with
  | [] => d
  | e :: t =>
    let d := { d with bf := { d.bf with est := t } }.put fBfStatEstQueue (min 16 t.length)
    let r := d.dirFind (d.carHz (d.sesCar e.session)) (z.map (fun v => ⟨fxOf v.1.toInt, fxOf v.2.toInt⟩)) noise.toNat
    (d.modSes e.session (fun s => { s with dir := r })).count (if r.isSome then fBfDirCountValid else fBfDirCountInvalid)

/-! ### The BF page (R191 … R193) -/

/-- Which writes of the BF page are applied (R192). -/
def bfWriteOk (d : Device) (off : Nat) (v : Word) : Bool :=
  let allOff := (List.range 16).all (fun n => !d.sesEnabled n)
  let busy := d.on fBfWtStatBusy
  if off = 0x11 then decide (10 ≤ fBfDirCfgDirLimit.of v) && decide (fBfDirCfgDirLimit.of v ≤ 90) && decide (1 ≤ fBfDirCfgErrMax.of v)
    && decide (fBfDirCfgErrMax.of v ≤ 254) && decide (4 ≤ fBfDirCfgMinPaths.of v) && decide (fBfDirCfgMinPaths.of v ≤ 64)
  else if off = 0x13 then !busy && fBfWtSelWhich.of v != 3
  else if off = 0x14 then !busy && decide (1 ≤ fBfWtCmdAction.of v) && decide (fBfWtCmdAction.of v ≤ 4)
  else if off = 0x18 || off = 0x19 || (decide (0x40 ≤ off) && decide (off < 0x80)) then allOff
  else if decide (0x20 ≤ off) && decide (off < 0x30) then
    !d.sesEnabled (off - 0x20) && bitsOf v 15 0 != 0 && decide (bitsOf v 15 0 ≤ 32767)
  else if decide (0x100 ≤ off) && decide (off < 0x144) then !busy
  else true

/-- The effect of an applied BF write. -/
def bfWritten (off : Nat) (v : Word) (d : Device) : Device :=
  if off = 0x14 then d.wtAction (fBfWtCmdAction.of v)
  else if off = 0x1B then (if fBfCntClrDir.on v then d.wr bfDirCount 0 else d)
  else d

/-- A BLOCK reset of the BF page, with all sessions OFF, or the return from MOORED (R193): the table is erased and every set takes its reset weights, 0 on the muted paths, which are kept. -/
def bfBlockReset (old : Device) (d : Device) : Device :=
  let d := ((d.wr bfMutedLo (old.rd bfMutedLo)).wr bfMutedHi (old.rd bfMutedHi)).put fBfStatActivePaths (old.get fBfStatActivePaths)
  let d := { d with bf := {} }
  let d := d.forAll ((List.range 64).filter d.mutedPath) (fun d p => d.forAll (List.range 48) (fun d set => d.setWeight set p 0))
  (d.dropWaits (fun c => c = .renorm)).groupsStale.reglChanged

/-- Which writes of the SCHED page are applied (R141). -/
def schedWriteOk (off : Nat) (v : Word) : Bool :=
  if off = 0x10 then fSchedCtrlAgeStep.of v != 0 && decide (fSchedCtrlAgeStep.of v ≤ 256) && fSchedCtrlTurnSlots.of v != 0 else true

/-- The effect of an applied SCHED write: a new ISO_MIN asks for the groups to be recomputed (R178). -/
def schedWritten (off : Nat) (d : Device) : Device := if off = 0x10 then d.groupsStale else d

end Sys2Proof.Machine
end

