-- ==== Sys2Proof/Machine/Descriptors.lean ====
section
/-!
DEFINITION. Descriptors: taking, checking, ordering and starting them, and the BEAM, SURVEY, SNAPSHOT, NOISE, STOP, FENCE and SELECT_SET descriptors (R130 … R138, R168, R174, R179, R187, R188).
-/
namespace Sys2Proof.Machine

/-! ### The checks of R131 -/

/-- CHAIN or CONT. -/
def Desc.chained (x : Desc) : Bool := (x.byte 1).testBit 3

/-- PRIO. -/
def Desc.prioField (x : Desc) : Nat := x.byte 1 % 8

/-- Is the descriptor an ACCESS or a TEMPLATE? -/
def Desc.accessLike (x : Desc) : Bool := x.byte 0 = 0x11 || x.byte 0 = 0x12

/-- The bytes of a field from `lo` to `hi`. -/
def span (k lo hi : Nat) : Bool := decide (lo ≤ k) && decide (k ≤ hi)

/-- The bits of byte `k` that TARGET_ARG uses (R130). -/
def argBits (target k : Nat) : Nat :=
  if (target = 1 ∧ span k 24 25) ∨ (target = 2 ∧ span k 24 27) then 255 else 0

/-- The DATA bytes an ACCESS uses (R130). -/
def Desc.dataUsed (x : Desc) : Nat :=
  if x.op = 1 then 2 else if x.op = 2 then 2 * x.byte 10 else if x.op = 4 then 2
  else if x.op = 5 && decide (128 ≤ x.byte 5) then 2 * x.byte 10 else 0

/-- The bits of byte `k`, from 4 on, that the opcode and its other fields use; all others are reserved (R130 … R134). -/
def Desc.usedBits (x : Desc) (k : Nat) : Nat :=
  let all (b : Bool) : Nat := if b then 255 else 0
  match x.byte 0 with
  | 0x10 => if k = 9 then 3 else all (span k 4 8)
  | 0x11 =>
    let word := x.op != 4 && x.op != 6
    if k = 5 then 0x40 + (if word then 3 else 0) + (if x.op = 5 then 0x80 else 0)
    else if span k 6 9 then all word
    else if span k 12 15 then all ((x.byte 5).testBit 6 || x.op = 6)
    else if k = 18 ∧ x.op = 4 then 15
    else if span k 16 23 then all (decide (k < 16 + x.dataUsed))
    else if span k 24 27 then argBits (x.byte 11) k
    else if k = 28 then (if x.op = 6 then 7 else 0)
    else if k = 30 then all (x.byte 11 != 1 && x.byte 11 != 2)
    else all (k = 4 || k = 10 || k = 11 || k = 29)
  | 0x12 =>
    if span k 24 27 then argBits (x.byte 5) k
    else if k = 30 then all (x.byte 5 != 1 && x.byte 5 != 2)
    else all (k = 4 || k = 5 || k = 29)
  | 0x13 =>
    if span k 6 7 then all (x.byte 5 = 0)
    else if span k 8 11 then all (x.byte 5 = 1)
    else if k = 12 then (if x.byte 4 = 0 then 1 else 0)
    else all (k = 4 || k = 5)
  | 0x14 => all (span k 4 16)
  | 0x15 => all (span k 4 15)
  | 0x16 => all (span k 4 6)
  | 0x17 => all (k = 4)
  | 0x18 => if k = 4 then 1 else 0
  | _ =>
    if x.chained then 255
    else if k = 4 then 0x87
    else if (x.byte 4).testBit 7 then 0
    else if k = 7 then 3
    else all (span k 4 13 || span k 16 31)

/-- The bits of byte `k` that are not reserved. -/
def Desc.openBits (x : Desc) (k : Nat) : Nat :=
  if k = 1 then 0x87 + (if x.accessLike || x.byte 0 = 0x19 then 8 else 0)
  else if k < 4 then 255 else x.usedBits k

/-- The range of COUNT for an ACCESS operation (R130). -/
def countRange (op : Nat) : Nat × Nat := match op with
  | 0 => (0, 255)
  | 2 => (1, 4)
  | 3 => (1, 255)
  | 5 => (1, 4)
  | _ => (0, if op ≤ 6 then 0 else 255)

/-- The fields with a range, as (byte offset, in range?) (R130 … R134, R165). -/
def Desc.ranges (x : Desc) : List (Nat × Bool) :=
  let le (k m : Nat) : Nat × Bool := (k, decide (x.byte k ≤ m))
  let ang (k : Nat) : Nat × Bool := (k, angleOk (x.s16 k))
  match x.byte 0 with
  | 0x11 =>
    let (lo, hi) := countRange x.op
    [le 4 6, (10, decide (lo ≤ x.byte 10) && decide (x.byte 10 ≤ hi)), le 11 2, (29, x.byte 29 != 0)]
  | 0x12 => [le 4 7, le 5 2, (29, x.byte 29 != 0)]
  | 0x13 => [le 4 3, le 5 1, (6, x.byte 5 != 0 || decide (x.le 6 2 ≤ 511)), (8, x.byte 5 != 1 || angleOk (x.s16 8)), (10, x.byte 5 != 1 || angleOk (x.s16 10))]
  | 0x14 => [ang 4, ang 6, ang 8, ang 10, (12, span (x.byte 12) 1 64), (13, span (x.byte 13) 1 64), (14, x.le 14 2 != 0)]
  | 0x15 => [le 4 1, le 5 3, (6, span (x.le 6 2) 1 1024)]
  | 0x16 => [(4, x.le 4 2 != 0), le 6 1]
  | 0x17 => [le 4 1]
  | 0x19 => if x.chained || (x.byte 4).testBit 7 then [] else [le 5 4, le 6 7, le 13 1]
  | _ => []

/-- The byte offset of the first failing byte under step 2 of R131. -/
def Desc.malformed (x : Desc) : Option Nat :=
  (List.range 32).find? (fun k => x.byte k &&& (255 - x.openBits k) != 0 || x.ranges.any (fun r => r.1 = k && !r.2))

/-- Does the opcode need OPERATOR (R131 step 3)? -/
def Desc.levelled (x : Desc) : Bool := [0x10, 0x11, 0x12, 0x13, 0x14, 0x19].contains (x.byte 0)

/-- The checks of R131 in order: 0, or the error and its DETAIL. -/
def Desc.check (x : Desc) (level : Nat) : Nat × Nat :=
  if x.byte 0 < 0x10 ∨ 0x19 < x.byte 0 then (1, 0)
  else match x.malformed with
    | some k => (2, k)
    | none =>
      if x.levelled ∧ level < 1 then (3, 0)
      else if x.byte 0 = 0x19 ∧ !x.chained ∧ x.byte 13 != 0 then (0x10, 13)
      else (0, 0)

/-! ### Priority and order (R136, R137) -/

/-- The effective priority of a waiting descriptor (R136). -/
def Device.effPrio (d : Device) (x : Desc) : Nat := min 7 (x.prioField + d.aging x.taken)

/-- SCHED.URGENT: the sessions with an urgent descriptor (R141). -/
def Device.showUrgent (d : Device) : Device :=
  d.forAll (List.range 16) (fun d n =>
    let s := d.sess n
    d.putB ⟨schedUrgent, n, n⟩ (s.descs.any Desc.urgent || (s.run.map Desc.urgent).getD false))

/-- DESCRIPTOR_URGENT: waiting descriptors whose aged priority has reached 7 become urgent (R136). -/
def descriptorUrgent (n : Nat) (d : Device) : Device :=
  d.modSes n (fun s => { s with descs := s.descs.map (fun (x : Desc) => ({ x with urgent := x.urgent || d.effPrio x = 7 } : Desc)) })

/-- The waiting descriptors that may start on their own: a CHAIN descriptor starts with its predecessor, the ACCESS or TEMPLATE that waits before it. -/
def candidates (seen : Bool) : List Desc → List Desc
  | [] => []
  | x :: t =>
    let rest := candidates (seen || x.accessLike) t
    if x.accessLike && x.chained && seen then rest else x :: rest

/-- The descriptor that starts next: the urgent one taken earliest, else the highest effective priority, the earliest among equals (R137). -/
def Device.chosen (d : Device) (l : List Desc) : Option Desc :=
  match l.find? (fun x => d.effPrio x = 7) with
  | some x => some x
  | none => l.foldl (fun b x => match b with
    | none => some x
    | some y => if d.effPrio y < d.effPrio x then some x else some y) none

/-- Those chained to a descriptor: the CHAIN descriptors that follow it among the waiting ACCESS and TEMPLATE descriptors. -/
def chainOf (l : List Desc) : List Desc := (l.filter Desc.accessLike).takeWhile Desc.chained

/-- Put a descriptor that yields back in the order of taking. -/
def putBack (x : Desc) : List Desc → List Desc
  | [] => [x]
  | y :: t => if ringUsed y.index x.index < 32768 ∧ y.index ≠ x.index then x :: y :: t else y :: putBack x t

/-! ### BEAM (R133, R168, R170 … R174, R179) -/

/-- The running descriptor is refused by the enforcer (R133). -/
def Device.regRefused (d : Device) (n : Nat) : Device := d.retireRun n 8 (d.get fReglLastReason)

/-- Would weights `w` with zone (az, el) put stream `n` in a group (R179)? -/
def Device.wouldLink (d : Device) (n : Nat) (w : List Word) (az el : Int) : Bool :=
  ((d.onCarrier (d.sesCar n)).filter (· != n)).any (fun t =>
    decide (d.isoOf (d.carHz (d.sesCar n)) (az, el) w ((d.stream t).az, (d.stream t).el) (d.weights t) < d.get fSchedCtrlIsoMin))

/-- A running BEAM for the transmit stream completes once its weights are in effect (R174). -/
def Device.beamDone (d : Device) (n : Nat) : Device :=
  match (d.sess n).run with
  | some x => if x.byte 0 = 0x13 && (d.stream n).pend.isNone then d.completeRun n else d
  | none => d

/-- A BEAM for the transmit stream: its weights are formed, checked for EXCL and admission, and wait for a quiet point. -/
def Device.beamTx (d : Device) (n : Nat) (x : Desc) : Device :=
  let fromTable := x.byte 5 = 0
  let e := d.wtEntry (x.le 6 2)
  if fromTable && !(entryFlags e).testBit 7 || fromTable && !(entryFlags e).testBit 0 then d.retireRun n 0x14 0
  else
    let (az, el) := if fromTable then entryZone e else (x.s16 8, x.s16 10)
    let (w, nulled) := if fromTable then (d.loadTx n (entryWeights e), false) else d.txSteer n az el
    if (x.byte 12).testBit 0 && d.wouldLink n w az el then d.retireRun n 0x0A 0
    else
      let d := if fromTable then d else d.modStream n (fun s => { s with ampUsed := d.get (fBfStreamAmp n) })
      let (ok, d) := d.admitTx n (if fromTable then .table else .toward az el) w nulled az el
      if !ok then d.regRefused n
      else (d.freeRefused n).beamDone n

/-- A BEAM for receive sets: the weights wait for the next reply window (R133). -/
def Device.beamRx (d : Device) (n : Nat) (x : Desc) : Device :=
  let which := x.byte 4
  let go (fA fB : Steer) (wA wB : List Word) : Device :=
    (d.modStream n (fun s => { s with
      pendA := if which = 2 then s.pendA else some (fA, wA)
      pendB := if which = 1 then s.pendB else some (fB, wB) })).completeRun n
  if x.byte 5 = 0 then
    let e := d.wtEntry (x.le 6 2)
    if !(entryFlags e).testBit 7 || !(entryFlags e).testBit 1 then d.retireRun n 0x14 0
    else
      let w := d.loadRx (entryWeights e)
      go .table .table w w
  else
    let f := Steer.toward (x.s16 8) (x.s16 10)
    go f f (d.rxSteer n false f) (d.rxSteer n true f)

/-- WEIGHTS_TAKE_EFFECT: the session stands at a quiet point and its admitted transmit weights take effect (R133, R171); a changed zone changes the carrier's set of zones. A BEAM, or a SURVEY that has asked for its earlier weights again, completes. -/
def weightsTakeEffect (n : Nat) (d : Device) : Device :=
  if (d.stream n).pend.isNone || !d.sesQuiet n || (d.sess n).acc.running then d
  else
    let was := ((d.stream n).az, (d.stream n).el)
    let d := d.txEffect n
    let d := d.when (((d.stream n).az, (d.stream n).el) != was) (fun d => d.zonesChanged (d.sesCar n) n)
    match (d.sess n).run with
    | some x =>
      if x.byte 0 = 0x13 then d.completeRun n
      else if x.byte 0 = 0x14 && (d.sess n).sectorsOver then (d.modSes n (fun s => { s with run := none, prior := none })).sesDone n
      else d
    | none => d

/-! ### SURVEY (R187, R188) -/

/-- One angle of a sector, rounded to 0.01°. -/
def Device.sectorAngle (d : Device) (first last : Int) (steps i : Nat) : Int × Device :=
  if steps ≤ 1 then (first, d)
  else
    let (q, d) := d.divNearest ((i : Int) * (last - first)) (steps - 1)
    (first + q, d)

/-- After the last sector the weights in effect before the SURVEY are asked for again (R188). -/
def Device.surveyEnd (d : Device) (n : Nat) : Device :=
  let d := d.modSes n (fun s => { s with sectorsOver := true })
  match (d.sess n).prior with
  | none => (d.modSes n (fun s => { s with run := none })).sesDone n
  | some t =>
    let (ok, d) := d.admitTx n t.form (d.unmuted t.w) t.nulled t.az t.el
    if ok then d else d.regRefused n

/-- Move a SURVEY to sector `m`: steer both directions and ask for admission; a refused sector is reported and skipped (R187, R188). -/
def Device.surveyGo (d : Device) (n : Nat) (x : Desc) : Nat → Nat → Device
  | 0, _ => d.surveyEnd n
  | k + 1, m =>
    let total := x.byte 12 * x.byte 13
    if total ≤ m then d.surveyEnd n
    else
      let (az, d) := d.sectorAngle (x.s16 4) (x.s16 6) (x.byte 12) (m % max 1 (x.byte 12))
      let (el, d) := d.sectorAngle (x.s16 8) (x.s16 10) (x.byte 13) (m / max 1 (x.byte 12))
      let (ok, d) := d.askSteered n az el
      if ok then
        let d := ((d.txEffect n).steerRx n 3 az el).zonesChanged (d.sesCar n) n
        (d.noiseRestart n true true).modSes n (fun s => { s with run := some { x with started := true, rounds := 0, sector := m } })
      else
        (d.postMsg n (d.roundDoneMsg n x.cookie m (1 + 4 * (decide (total ≤ m + 1)).toNat) {})).surveyGo n x k (m + 1)

/-- A SURVEY begins with its first sector. -/
def Device.surveyStart (d : Device) (n : Nat) (x : Desc) : Device :=
  let st := d.stream n
  let d := d.modSes n (fun s => { s with
    sectorsOver := false
    prior := some { w := d.weights n, form := st.tx, nulled := d.on (fBfStreamNulled n), az := st.az, el := st.el } })
  d.surveyGo n x (x.byte 12 * x.byte 13) 0

/-- SURVEY_SECTOR: the rounds of the present sector are done and the survey moves on. -/
def surveySector (n : Nat) (d : Device) : Device :=
  let s := d.sess n
  match s.run with
  | none => d
  | some x =>
    if x.byte 0 = 0x14 && d.sesState n = 7 && x.started && !s.round.active && decide (x.le 14 2 ≤ x.rounds) && !s.sectorsOver
        && s.holds.isEmpty && d.sesQuiet n then
      d.surveyGo n x (x.byte 12 * x.byte 13) (x.sector + 1)
    else d

/-! ### SNAPSHOT and NOISE (R134) -/

/-- The capture of the running SNAPSHOT begins now. -/
def Device.captureBegin (d : Device) (n : Nat) : Device :=
  d.modSes n (fun s => { s with run := s.run.map (fun (x : Desc) => ({ x with started := true, startTide := d.stamp } : Desc)) })

/-- A SNAPSHOT begins: the packet link must admit a capture for it, and a START that has passed begins at once. -/
def Device.snapStart (d : Device) (n : Nat) (x : Desc) : Device :=
  let (ok, d) := if x.byte 4 = 1 then d.snapAdmit n else (true, d)
  if !ok then d.retireRun n 0x13 0
  else if x.le 8 8 ≤ d.stamp then d.captureBegin n else d

/-- SNAPSHOT_CAPTURE_START: the tide has reached START. -/
def snapshotCaptureStart (n : Nat) (d : Device) : Device :=
  match (d.sess n).run with
  | some x => if x.byte 0 = 0x15 && d.sesState n = 7 && !x.started && decide (x.le 8 8 ≤ d.stamp) then d.captureBegin n else d
  | none => d

/-- SNAPSHOT_CAPTURE_END of a capture to the berth: sample `64 k + p` of `samples` is sample k of PATH_p (R134, R258). A capture to the packet link ends with its last packet. -/
def snapshotCaptureEnd (n : Nat) (samples : List Word) (d : Device) : Device :=
  match (d.sess n).run with
  | some x =>
    if x.byte 0 = 0x15 && x.byte 4 = 0 && x.started && d.sesState n = 7 then
      let ws := (d.pathSamples samples).take (64 * x.le 6 2)
      let base := 0x0800000 + 0x40000 * n
      let d := d.forAll ((List.range ws.length).zip ws) (fun d e =>
        { d with sram := writeBytes zeroByte d.sram (base + 4 * (1024 * (e.1 % 64) + e.1 / 64)) (leBytes 4 e.2.toNat) })
      ((((d.put (fSesBerthFreeze n) 1).put (fSesBerthFrozen n) 1).holdAsk n 4)).snapshotDone n
    else d
  | none => d

/-- NOISE_MEASURE_END: the levels of the beam's sets, or of every path, in 0.01 dBm (R134, R144). -/
def noiseMeasureEnd (n : Nat) (a b : BitVec 16) (levels : List (BitVec 16)) (d : Device) : Device :=
  match (d.sess n).run with
  | some x =>
    if x.byte 0 = 0x16 && d.sesState n = 7 then
      let kind := x.byte 6
      let head := [BitVec.ofNat 8 kind, BitVec.ofNat 8 (d.sesCar n)] ++ le16 (x.le 4 2)
      let body :=
        if kind = 0 then head ++ le16 a.toNat ++ le16 b.toNat
        else head ++ le16 0x8000 ++ le16 0x8000 ++ (List.range 64).flatMap (fun p => le16 (if d.mutedPath p then 0x8000 else (levels.getD p 0x8000).toNat))
      let d := d.modSes n (fun s => { s with run := none })
      (d.postMsg n (d.message 0x04 n x.cookie d.stamp body)).sesDone n
    else d
  | none => d

/-! ### ACCESS and TEMPLATE -/

/-- An ACCESS or TEMPLATE begins: the session goes to its state (R79), what is chained to it starts with it, its checks come first, and it waits for ring space (R111, R117, R130, R137, R149). A template for any tag is sent at once. -/
def Device.accessBegin (d : Device) (n : Nat) (x : Desc) : Device :=
  let d := d.sesGo n (if x.isTemplate then 6 else 5) 0
  if x.chained then d.retireRun n 0x15 0
  else match d.precheck n x with
    | 0 =>
      let need := 8 + (x :: (d.sess n).chain).foldl (fun m y => max m (d.resultNeed n y)) 0
      let d := if d.mFree n < need then (d.modSes n (fun s => { s with need := max s.need need })).holdAsk n 3 else d
      if x.isTemplate && d.tplByte n x.record 1 = 0 then
        (d.modSes n (fun s => { s with acc := { s.acc with running := true, steps := [.exchange], tries := 0 } })).planStep n
      else d
    | e => d.retireRun n e 0

/-! ### Starting (R79, R137) -/

/-- An INVENTORY begins: with TRIG.EN = 1 it waits in ARMED for a trigger. -/
def Device.inventoryBegin (d : Device) (n : Nat) : Device :=
  if !d.on (fSesTrigEn n) then d.sesGo n 4 0
  else if d.on (fSesTrigPending n) && d.sesState n != 2 then
    ((d.put (fSesTrigPending n) 0).modSes n (fun s => { s with round := { s.round with triggered := true } })).sesGo n 4 0
  else d.sesGo n 3 0

/-- Start descriptor `x`, that waits, at a quiet point. -/
def Device.begin_ (d : Device) (n : Nat) (x : Desc) : Device :=
  let rest := (d.sess n).descs.filter (fun y => y.index != x.index)
  let after := ((d.sess n).descs.dropWhile (fun y => y.index != x.index)).drop 1
  let chain := if x.accessLike then chainOf after else []
  let x' : Desc := { x with prio := d.effPrio x, urgent := d.effPrio x = 7, startTide := if x.started then x.startTide else d.stamp,
                            started := x.started || (x.byte 0 != 0x14 && x.byte 0 != 0x15) }
  let d := d.modSes n (fun s => { s with
    run := some x', chain := chain, descs := rest.filter (fun y => !chain.any (fun c => c.index = y.index)), acc := {}, round := {}, plan := [], slots := 0 })
  match x.byte 0 with
  | 0x10 => d.inventoryBegin n
  | 0x11 => d.accessBegin n x'
  | 0x12 => d.accessBegin n x'
  | 0x13 => if x.byte 4 = 0 then d.beamTx n x' else d.beamRx n x'
  | 0x14 =>
    let d := d.sesGo n 7 0
    if x'.started then d else d.surveyStart n x'
  | 0x15 => (d.sesGo n 7 0).snapStart n x'
  | _ => d.sesGo n 7 0

/-- Does a running descriptor yield to a waiting one now (R137): an INVENTORY or SURVEY at a slot boundary to an urgent one, at the end of its round or sector to one of higher priority? -/
def Device.yields (d : Device) (n : Nat) (x : Desc) (c : Desc) : Bool :=
  let s := d.sess n
  let e := d.effPrio c
  let atEnd := !s.round.active && (x.byte 0 = 0x10 || (x.started && !s.sectorsOver && decide (x.le 14 2 ≤ x.rounds)))
  (x.byte 0 = 0x10 || x.byte 0 = 0x14) && s.plan.isEmpty
    && ((e = 7 && decide (x.prio < 7) && (x.byte 0 = 0x10 || (x.started && !s.sectorsOver))) || (atEnd && decide (x.prio < e)))

/-- The descriptor that DESCRIPTOR_START would start now. -/
def Device.startNext (d : Device) (n : Nat) : Option Desc :=
  let s := d.sess n
  let st := d.sesState n
  if s.acc.running || s.acc.ready || s.acc.ending || !d.sesQuiet n || s.spare.isSome then none
  else if st = 8 && s.refused && s.holds = [5] && d.carState (d.sesCar n) = 6 && s.run.isNone then
    d.chosen ((candidates false s.descs).filter (fun x => x.byte 0 = 0x13))
  else if !s.holds.isEmpty || st < 2 || 7 < st then none
  else match s.run with
    | none => d.chosen (candidates false s.descs)
    | some x =>
      match d.chosen (candidates false s.descs) with
      | some c => if d.yields n x c then some c else none
      | none => none

/-- DESCRIPTOR_START: the waiting descriptor chosen by urgency, priority and age starts; a running round it interrupts ends incomplete and preempted (R137). -/
def descriptorStart (n : Nat) (d : Device) : Device :=
  match d.startNext n with
  | none => d
  | some c =>
    let d := match (d.sess n).run with
      | none => d
      | some x => (d.endRound n true true false).modSes n (fun s => { s with run := none, descs := putBack x s.descs })
    d.begin_ n c

/-- DESCRIPTOR_START of a descriptor with a given opcode: the rows INVENTORY, ACCESS, TEMPLATE, BEAM, SURVEY, SNAPSHOT and NOISE. -/
def startOp (op n : Nat) (d : Device) : Device :=
  match d.startNext n with
  | some c => if c.byte 0 = op then descriptorStart n d else d
  | none => d

/-! ### STOP, FENCE and SELECT_SET (R138) -/

/-- A STOP: the running descriptor ends at the next quiet point; with SCOPE 1 every other one taken before retires at once, in ring order. -/
def Device.stopTaken (d : Device) (n : Nat) (x : Desc) : Device :=
  let scope := x.byte 4 = 1
  let d := if scope then
      let ds := (d.sess n).descs
      (d.modSes n (fun s => { s with descs := [] })).forAll ds (fun d y => d.retire n y 5 0)
    else d
  let d := if (d.sess n).run.isSome then (d.modSes n (fun s => { s with stop := some scope })).holdAsk n 6 else d
  d.notice n x

/-- A FENCE completes when taken, or waits for MHEAD. -/
def Device.fenceTaken (d : Device) (n : Nat) (x : Desc) : Device :=
  if (x.byte 4).testBit 0 then
    ((d.modSes n (fun s => { s with fence := some (x, d.index (ringMtail n)) })).showFlight n).fenceCheck n
  else d.notice n x

/-- A SELECT_SET stores, extends or empties its entry. -/
def Device.selectTaken (d : Device) (n : Nat) (x : Desc) : Device :=
  let i := x.byte 4 % 8
  let old := (d.sess n).selects.getD i none
  let mask := (x.bytes.drop 16).take 16
  let new : Option SelEntry :=
    if x.chained then old.map (fun e => { e with mask := padTo 16 (e.mask.take 16) ++ mask, whole := true })
    else if (x.byte 4).testBit 7 then none
    else some { target := x.byte 5, action := x.byte 6, bank := x.byte 7 % 4, pointer := x.le 8 4, length := x.byte 12, mask := mask,
                whole := decide (x.byte 12 ≤ 128) }
  (d.modSes n (fun s => { s with selects := s.selects.setIfInBounds i new })).notice n x

/-! ### Taking (R126, R131, R135) -/

/-- The descriptor at CHEAD. -/
def Device.headDesc (d : Device) (n : Nat) : Desc :=
  let h := d.index (ringChead n)
  { bytes := readBytes zeroByte d.sram (d.cSlotAddr n h) 32, index := h, taken := d.stamp }

/-- The check of the descriptor's 64-bit words as it is copied: the corrected and the lost ones are counted, and the byte offset of the first lost one is answered (R302). -/
def Device.headCheck (d : Device) (n : Nat) (find : DescFind) : Option Nat × Device :=
  let a := d.cSlotAddr n (d.index (ringChead n))
  let lost := (List.range 4).filter (fun k => find.lost.getLsbD k || d.badAt (a + 8 * k))
  let fixed := (List.range 4).filter (fun k => find.corrected.getLsbD k && !lost.contains k)
  let d := d.forAll fixed (fun d k => d.eccCorrected ((a + 8 * k - 0x0200000) / 2 ^ 20))
  (lost.head?.map (8 * ·), d.forAll lost (fun d k => d.ringWordLost (a + 8 * k)))

/-- May the session take the descriptor at CHEAD now (R135, R138)? -/
def Device.takeOk (d : Device) (n : Nat) : Bool :=
  let s := d.sess n
  let st := d.sesState n
  let x := d.headDesc n
  d.index (ringChead n) != d.index (ringCtail n)
    && (st = 2 || (s.run.isSome && decide (2 ≤ st) && decide (st ≤ 8))
        || (st = 8 && s.refused && s.holds = [5] && d.carState (d.sesCar n) = 6))
    && decide (d.get (fSesStatInflight n) < d.get (fRingCfgInflightMax n)) && s.fence.isNone
    && (x.byte 0 != 0x18 || d.get (fSesStatInflight n) = 0)

/-- Does a CHAIN descriptor just taken join the access sequence that runs: its predecessor is the last of it? -/
def Device.joinsRun (d : Device) (n : Nat) (x : Desc) : Bool :=
  let s := d.sess n
  x.accessLike && x.chained && !s.descs.any Desc.accessLike && !s.acc.ending && (s.run.map Desc.accessLike).getD false

/-- DESCRIPTOR_TAKE: the descriptor at CHEAD is copied and in flight, CHEAD advances and the checks of R131 follow. -/
def descriptorTake (n : Nat) (find : DescFind) (d : Device) : Device :=
  if !d.takeOk n then d
  else
    let x := d.headDesc n
    let (bad, d) := d.headCheck n find
    let d := d.wr (ringChead n) (BitVec.ofNat 32 ((d.index (ringChead n) + 1) % 65536))
    let d := d.put fRingInflightPeak (max (d.get fRingInflightCount + 1) (d.get fRingInflightPeak))
    match bad with
    | some k => d.retire n x 2 k
    | none =>
      match x.check d.level with
      | (0, _) =>
        let d := d.when x.levelled Device.idleRestart
        let x : Desc := { x with urgent := x.prioField = 7 }
        match x.byte 0 with
        | 0x17 => d.stopTaken n x
        | 0x18 => d.fenceTaken n x
        | 0x19 => d.selectTaken n x
        | _ =>
          (if d.joinsRun n x then d.modSes n (fun s => { s with chain := s.chain ++ [x] })
           else d.modSes n (fun s => { s with descs := s.descs ++ [x] })).showFlight n
      | (e, k) => d.retire n x e k

/-- DESCRIPTOR_TAKE of a descriptor with a given opcode: the rows STOP, FENCE and SELECT_SET. -/
def takeOp (op n : Nat) (find : DescFind) (d : Device) : Device :=
  if (d.headDesc n).byte 0 = op then descriptorTake n find d else d

end Sys2Proof.Machine
end

