-- ==== Sys2Proof/Machine/Interrupts.lean ====
section
/-!
DEFINITION. The interrupt controller: which sources are pending, which reach a ball or the packet link, and the balls themselves (R508 … R513).
-/
namespace Sys2Proof.Machine

/-- Set bit `s` when `c` holds. -/
def srcBit (s : Nat) (c : Bool) : BitVec 64 := if c then BitVec.ofNat 64 (1 <<< s) else 0

/-- The sources an IRQ_STAT word of page `p` feeds (R508). -/
def sourcesOf (p : Nat) (w : Word) : BitVec 64 :=
  let b (i : Nat) : Bool := w.getLsbD i
  let any (hi lo : Nat) : Bool := bitsOf w hi lo != 0
  if p = 0x19 then BitVec.ofNat 64 (bitsOf w 15 0)
  else if 0x20 ≤ p ∧ p < 0x34 then srcBit 16 (b 0) ||| srcBit 17 (b 1)
  else if 0x40 ≤ p ∧ p < 0x80 then srcBit 31 (b 0)
  else match p with
    | 0x1A => srcBit 18 (b 0) ||| srcBit 19 (b 1)
    | 0x14 => srcBit 20 (any 3 0) ||| srcBit 21 (any 7 4) ||| srcBit 22 (any 11 8) ||| srcBit 23 (any 15 12)
    | 0x12 => srcBit 24 (any 1 0)
    | 0x15 => srcBit 25 (any 1 0)
    | 0x1D => srcBit 26 (b 0)
    | 0x10 => srcBit 27 (b 0 || b 2) ||| srcBit 28 (b 1)
    | 0x11 => srcBit 29 (b 0) ||| srcBit 30 (b 1) ||| srcBit 59 (b 2) ||| srcBit 60 (b 3)
    | 0x13 => srcBit 32 (b 0)
    | 0x1E => srcBit 33 (b 0)
    | 0x1B => srcBit 34 (any 1 0) ||| srcBit 35 (any 4 2)
    | 0x1C => srcBit 36 (b 0) ||| srcBit 37 (b 1) ||| srcBit 38 (b 2) ||| srcBit 39 (b 3)
    | 0x08 => srcBit 40 (b 0) ||| srcBit 41 (b 1) ||| srcBit 42 (b 2)
    | 0x0A => srcBit 43 (w != 0)
    | 0x0B => srcBit 44 (w != 0)
    | 0x0C => srcBit 45 (b 0) ||| srcBit 46 (b 1) ||| srcBit 47 (b 2) ||| srcBit 56 (b 3) ||| srcBit 57 (b 4)
    | 0x0D => srcBit 48 (b 0) ||| srcBit 49 (b 1)
    | 0x0E => srcBit 50 (b 0) ||| srcBit 51 (b 1)
    | 0x05 => srcBit 52 (any 1 0) ||| srcBit 53 (any 3 2)
    | 0x06 => srcBit 54 (b 0) ||| srcBit 55 (b 1)
    | 0x04 => srcBit 58 (b 0) ||| srcBit 63 (b 1)
    | 0x01 => srcBit 61 (b 0)
    | 0x03 => srcBit 62 (b 0)
    | _ => 0

/-- Every pending source, enabled or not: what PEND_HI and PEND_LO show (R508, R510, R511). -/
def Device.pendingSources (d : Device) : BitVec 64 :=
  d.regs.foldl (fun acc e =>
    if offOfWord e.1 = 6 && d.pageLive (pageOfWord e.1) then acc ||| sourcesOf (pageOfWord e.1) e.2 else acc) 0

/-- The 4-bit route of source `s`: BALL in [1:0], BALL_EN in [2], LINK in [3] (R511). -/
def Device.routeOf (d : Device) (s : Nat) : Nat := d.get ⟨intcRoute (s / 8), 4 * (s % 8) + 3, 4 * (s % 8)⟩

/-- The enables of all sources. -/
def Device.enabledSources (d : Device) : BitVec 64 := d.rd intcEnHi ++ d.rd intcEnLo

/-- The sources whose route satisfies `f`. -/
def Device.routedBy (d : Device) (f : Nat → Bool) : BitVec 64 :=
  (List.range 64).foldl (fun acc s => acc ||| srcBit s (f (d.routeOf s))) 0

/-- The pending, enabled sources that ball `b` carries (R512). -/
def Device.ballSources (d : Device) (b : Nat) : BitVec 64 :=
  let live := d.pendingSources &&& d.enabledSources
  if live = 0 then 0 else live &&& d.routedBy (fun r => decide (r % 4 = b) && decide (r / 4 % 2 = 1))

/-- The pending, enabled sources routed to the packet link (R381, R511). -/
def Device.linkSources (d : Device) : BitVec 64 :=
  let live := d.pendingSources &&& d.enabledSources
  if live = 0 then 0 else live &&& d.routedBy (fun r => decide (r / 8 = 1))

/-- Is ball `b` in pulse mode? -/
def Device.ballPulses (d : Device) (b : Nat) : Bool := d.on ⟨intcOutCfg, 4 * b, 4 * b⟩

/-- May the IRQ_N balls act: not between the start of a FULL or CORE reset and the host island's release, nor asleep (R512). -/
def Device.ballsAwake (d : Device) : Bool :=
  !(d.island 0).held && (d.pwr.phase = .awake || d.pwr.phase = .prepare || d.pwr.phase = .prepared) && d.pageLive 0x04

/-- The record of ball `b`. -/
def Device.ball (d : Device) (b : Nat) : BallSt := d.balls.getD b {}

/-- Is ball `b` asserted now (R512)? -/
def Device.ballAsserted (d : Device) (b : Nat) : Bool :=
  d.ballsAwake && (if d.ballPulses b then (d.ball b).phase = .low else (d.ball b).sources != 0)

/-- Let ball `b` follow the sources that reach it now: in pulse mode every source that newly becomes pending starts a pulse, or makes one due (R512, R513). -/
def Device.followBall (d : Device) (b : Nat) : Device :=
  let old := d.ball b
  let now := d.ballSources b
  let fresh := d.ballPulses b && (now &&& ~~~old.sources) != 0
  let phase := if !d.ballPulses b then PulsePhase.idle
    else if fresh && old.phase = .idle then .low else old.phase
  let due := d.ballPulses b && (old.due || (fresh && old.phase != .idle))
  { d with balls := d.balls.setIfInBounds b { sources := now, phase := phase, due := due } }

/-- Let the packet link's record follow the routed sources (R381). -/
def Device.followLink (d : Device) : Device :=
  let now := d.linkSources
  { d with linkSeen := now, linkNew := d.linkNew ||| (now &&& ~~~d.linkSeen) }

/-- Make OUT_STAT show the four balls. -/
def Device.showBalls (d : Device) : Device :=
  d.wr intcOutStat (BitVec.ofNat 32 ((d.ballAsserted 0).toNat + 2 * (d.ballAsserted 1).toNat
    + 4 * (d.ballAsserted 2).toNat + 8 * (d.ballAsserted 3).toNat))

/-- All outputs of the interrupt controller follow their sources at once (R513). -/
def Device.followInterrupts (d : Device) : Device :=
  ((((d.followBall 0).followBall 1).followBall 2).followBall 3).followLink.showBalls

/-- A pulse, or the separation after it, ends; a pulse that fell due follows the separation (R512). -/
def irqPulseEnd (b : Nat) (d : Device) : Device :=
  let s := d.ball b
  let next : BallSt := match s.phase with
    | .idle => s
    | .low => { s with phase := .gap }
    | .gap => if s.due then { s with phase := .low, due := false } else { s with phase := .idle }
  { d with balls := d.balls.setIfInBounds b next }

/-- Set or clear main rail `r` (0 … 8) below its warning level: SUPPLY_STAT shows it and the level bit SUPPLY follows (R509). -/
def supplyWarn (r : Nat) (low : Bool) (d : Device) : Device :=
  let d := d.putB ⟨intcSupplyStat, r, r⟩ low
  d.irqLevel 0x04 0 (d.rd intcSupplyStat != 0)

/-- Which writes of the INTC page are applied (R515). -/
def intcWriteOk (off : Nat) (v : Word) : Bool := !(off = 0x14 && bitsOf v 23 16 = 0)

end Sys2Proof.Machine
end

