-- ==== Sys2Proof/Machine/Wornaog.lean ====
section
/-!
DEFINITION. The Wornaog container and its checks, and the boot configuration (R313, R314, R402).
-/
namespace Sys2Proof.Machine

/-- A little-endian field of `k` bytes at byte `i`. -/
def fieldAt (b : List Byte) (i k : Nat) : Nat := leNat ((b.drop i).take k)

/-- PAYLOAD_LEN of a container. -/
def wornLen (b : List Byte) : Nat := fieldAt b 8 4

/-- The payload of a container. -/
def wornPayload (b : List Byte) : List Byte := (b.drop 64).take (wornLen b)

/-- The key hash in force (R402). -/
def Device.imageKeyHash (d : Device) : List Byte := match d.bootCfg.keyHash with
  | some h => h
  | none => (List.range 32).map Config.factoryKeyHash

/-- Check a container of `kind` in an area of `size` bytes: RESULT (R314). -/
def Device.wornCheck (d : Device) (b : List Byte) (kind size : Nat) : Nat :=
  let len := wornLen b
  let key := (b.drop (64 + len)).take 64
  let sig := (b.drop (128 + len)).take 64
  if b.take 4 != [0x57, 0x4E, 0x4F, 0x47] || fieldAt b 4 1 != 1 || fieldAt b 6 2 != 0 || fieldAt b 18 2 != 0
      || fieldAt b 56 4 != 0 || fieldAt b 60 4 != crc32 (b.take 60) then 2
  else if fieldAt b 5 1 != kind then 3
  else if len % 8 != 0 || len < 8 || 65344 < len || size < 192 + len then 4
  else if sha256 key != d.imageKeyHash then 5
  else if !ecdsaOk (beNat (key.take 32)) (beNat (key.drop 32)) (beNat (sha256 (b.take 64))) (beNat (sig.take 32)) (beNat (sig.drop 32)) then 6
  else if sha256 (wornPayload b) != (b.drop 24).take 32 then 7
  else if fieldAt b 20 4 < d.bootCfg.minSec then 8
  else 1

/-- Read the boot configuration record; an invalid one leaves the ROM defaults (R402). The flag is OPT.STAT.BC_VALID. -/
def bootConfig (b : List Byte) : BootCfg × Bool :=
  let flags := fieldAt b 3 1
  let source := flags / 2 % 8
  let ok := fieldAt b 0 2 = 0x4342 && fieldAt b 2 1 = 1 && fieldAt b 2044 4 = crc32 (b.take 2044)
    && flags < 16 && source ≤ 5 && ((b.drop 48).take 1996).all (· == 0)
  if ok then
    ({ source := if flags % 2 = 1 then some source else none, slotA := fieldAt b 4 4, slotB := fieldAt b 8 4, minSec := fieldAt b 12 4,
       keyHash := some ((b.drop 16).take 32) }, true)
  else ({}, false)

end Sys2Proof.Machine
end

