-- ==== Sys2Proof/Machine/Pilots.lean ====
section
/-!
DEFINITION. Pilots: faults and failover, planned moves, built-in tests and images (R87, R296 … R300, R313 … R318).
-/
namespace Sys2Proof.Machine

/-- PAGE_STAT.STATE of PILOT_p (R317). -/
def Device.pilState (d : Device) (p : Nat) : Nat := d.get (fPsState (0x20 + p))

/-- Is an activity of a pilot running in a state: LOADING, VERIFYING, TESTING, TAKING_OVER or MOVING (R52, R317)? -/
def pilRuns (st : Nat) : Bool := [1, 2, 3, 6, 7].elem st

/-- Set the state of a pilot; PAGE_STAT.BUSY follows it and POOLS shows the spares (R52, R319). -/
def Device.pilGo (d : Device) (p st : Nat) : Device :=
  let d := (d.put (fPsState (0x20 + p)) st).putB (fPsBusy (0x20 + p)) (pilRuns st)
  d.put fRepPoolsPilotSpares ((List.range 20).filter (fun q => d.pilState q = 4)).length

/-- What pilot `p` holds beside its page. -/
def Device.pil (d : Device) (p : Nat) : PilSt := d.pilots.getD p {}

/-- Change what pilot `p` holds. -/
def Device.modPil (d : Device) (p : Nat) (f : PilSt → PilSt) : Device :=
  { d with pilots := d.pilots.setIfInBounds p (f (d.pil p)) }

/-- The session a pilot serves, 31 for none. -/
def Device.pilSes (d : Device) (p : Nat) : Nat := d.get (fPilStatSession p)

/-- The checkpoint format of a pilot's image. -/
def Device.pilFmt (d : Device) (p : Nat) : Nat := d.get (fPilImgFmtCkptFormat p)

/-- The lowest-numbered spare whose image carries a checkpoint format (R297). -/
def Device.spareFor (d : Device) (fmt : Nat) : Option Nat :=
  (List.range 20).find? (fun q => d.pilState q = 4 && d.pilFmt q = fmt)

/-- Pilot `q` serves session `n` from here on. -/
def Device.serve (d : Device) (q n : Nat) : Device :=
  let d := ((d.modPil q (fun s => { s with takes := none, planned := false })).put (fPilStatSession q) n).count (fPilCountsTakeovers q)
  ((d.put (fSesStatPilot n) q).modSes n (fun s => { s with spare := none })).pilGo q 5

/-- Pilot `q` begins to take session `n` over. -/
def Device.takeOver (d : Device) (q n : Nat) (planned : Bool) : Device :=
  ((d.modPil q (fun s => { s with takes := some n, planned := planned })).modSes n (fun s => { s with spare := some q })).pilGo q 6

/-! ### Faults and failover -/

/-- The exchange of session `n` that a fault would cut: a command in the air or a reply awaited, or one whose next command is still owed. -/
def Device.exchangeOpen (d : Device) (n : Nat) : Bool :=
  let s := d.sess n
  s.acc.running || (match s.phase with
    | .sending | .waiting | .window | .receiving => true
    | .decided => !s.plan.isEmpty
    | _ => false)

/-- Output of the faulted pilot stops and the session moves to FAILOVER (R297); a session in OFF or STOPPING keeps its state (R79). -/
def Device.cutSession (d : Device) (n q : Nat) : Device :=
  let st := d.sesState n
  let open_ := d.exchangeOpen n
  let d := d.modSes n (fun s => { s with cut := open_, phase := .quiet, spare := some q, prev := if st = 8 then s.prev else st })
  if decide (1 ≤ st) && decide (st ≤ 8) then d.sesGo n 9 0 else d

/-- No spare can take the session over: it is shut down (R298). -/
def Device.noSpare (d : Device) (n : Nat) : Device :=
  let st := d.sesState n
  let d := (d.poolEmpty).modSes n (fun s => { s with phase := .quiet })
  if st = 0 ∨ st = 10 then d
  else
    let d := if (d.sess n).acc.running then d.accessCut n 0x11 else d
    let d := d.put (fPcEn (0x80 + n)) 0
    let d := { d with mirror := storePut resetWord d.mirror (pageCtrl (0x80 + n)) (d.rd (pageCtrl (0x80 + n))) }
    d.sesStop n

/-- A fault of a pilot in SERVING or MOVING (R297 … R299). -/
def Device.servingFault (d : Device) (p cause : Nat) : Device :=
  let n := d.pilSes p
  let d := (d.count (fPilCountsFaults p)).put (fPilStatCause p) cause
  let chosen := match (d.pil p).moveTo with
    | some q => if d.pilState q = 4 ∨ d.pilState q = 6 then some q else d.spareFor (d.pilFmt p)
    | none => d.spareFor (d.pilFmt p)
  match chosen with
  | none => d.noSpare n
  | some q =>
    let d := ((d.cutSession n q).takeOver q n false).irq (0x20 + p) 0
    let d := (d.put (fPilStatSession p) 31).modPil p (fun s => { s with moveTo := none, moveOff := false, faulted := some q })
    (d.put (fPsShuttingDown (0x20 + p)) 0).pilGo p 3

/-- PILOT_FAULT: a stall (1), a parity error (2) or an uncorrectable error in the pilot's area (3) (R297). -/
def pilotFault (p cause : Nat) (d : Device) : Device :=
  match d.pilState p with
  | 5 | 7 => d.servingFault p cause
  | 3 | 4 => (d.count (fPilCountsFaults p)).put (fPilStatCause p) cause
  | 6 => d.modPil p (fun s => { s with refault := some cause })
  | _ => d

/-- The newer valid checkpoint copy of a session (R297). -/
def SesSt.checkpoint (s : SesSt) : Option Ckpt :=
  let a := if s.ckA.bad then none else some s.ckA
  let b := if s.ckB.bad then none else some s.ckB
  match a, b with
  | some x, some y => if x.seq < y.seq then some y else some x
  | some x, none => some x
  | none, y => y

/-- The session goes on from its checkpoint (R87): the open slot is lost, an access sequence ends with FAILOVER_LOST, and NAK goes first. Descriptors, messages and counters are those of the fault. -/
def Device.resumeFrom (d : Device) (n : Nat) (k : Ckpt) : Device :=
  let s := d.sess n
  let d := d.when s.cut (fun d => d.count (fHalf (sesLostSlots n)))
  let nak := s.cut || s.round.active || s.acc.running
  let d :=
    if s.acc.running then d.accessCut n 0x11
    else if (s.run.map Desc.index) = (k.run.map Desc.index) && s.round.active && k.round.active then
      (d.put (fSesStatQ n) k.q).modSes n (fun s => { s with qfp := k.qfp, slots := k.slots, round := { k.round with begun := s.round.begun, startTide := s.round.startTide }, single := false, plan := [] })
    else d.modSes n (fun s => { s with single := false, plan := [] })
  let d := d.modSes n (fun s => { s with cut := false, plan := if nak then [.nak] else s.plan })
  if d.sesState n = 9 then d.sesBack n (d.sess n).prev else d

/-- FAILOVER_RESUME: the spare has read the checkpoint and resumes the session (R87, R297, R298). -/
def failoverResume (n : Nat) (d : Device) : Device :=
  match (d.sess n).spare with
  | none => d
  | some q =>
    if d.pilState q != 6 || (d.pil q).planned then d
    else
      let again := (d.pil q).refault
      let d := (d.serve q n).modPil q (fun s => { s with refault := none })
      let d := match (d.sess n).checkpoint with
        | some k => d.resumeFrom n k
        | none =>
          let d := (d.modSes n (fun s => { s with cut := false, prev := 2 })).retireRun n 0x11 0
          if d.sesState n = 9 then d.sesGo n 2 0 else d
      match again with
      | some c => d.servingFault q c
      | none => d

/-- Address of pilot area `p` (R24, R313). -/
def pilArea (p : Nat) : Nat := 0x0C00000 + 0x18000 * p

/-- The 64 KiB image of a pilot. -/
def Device.pilImage (d : Device) (p : Nat) : List Byte := readBytes zeroByte d.sram (pilArea p) 65536

/-- Pilot `p` takes the image of pilot `q`, unchecked. -/
def Device.copyImage (d : Device) (p q : Nat) : Device :=
  let d := { d with sram := writeBytes zeroByte d.sram (pilArea p) (d.pilImage q) }
  (d.wr (pilImgVer p) (d.rd (pilImgVer q))).wr (pilImgFmt p) (d.rd (pilImgFmt q))

/-- A pilot is dead, and the repair map is to say so (R299). -/
def Device.pilotDead (d : Device) (p : Nat) : Device :=
  (d.pilGo p 8).queueRecord (mapRecord 5 p 0 0xFF d.origin)

/-- The pilot that has failed holds the image of the one now serving its session (R299). -/
def Device.faultCopied (d : Device) (p : Nat) : Device := match (d.pil p).faulted with
  | some q => (((d.copyImage p q).put (fPilStatResult p) (d.get (fPilStatResult q))).put (fPilStatSlot p) (d.get (fPilStatSlot q))).modPil p (fun s => { s with faulted := none })
  | none => d

/-- PILOT_TEST_END: the built-in test has passed or failed (R299, R318). -/
def pilotTestEnd (p : Nat) (pass : Bool) (d : Device) : Device :=
  if d.pilState p != 3 then d
  else
    let was := (d.pil p).faulted.isSome
    let d := d.faultCopied p
    let dead := !pass || (was && decide (d.get fRepCtrlPilotLimit ≤ d.get (fPilCountsFaults p)))
    if dead then (d.when (!pass) (fun d => d.put (fPilStatCause p) 4)).pilotDead p
    else if d.on (fPcEn (0x20 + p)) then (d.put (fPsEnq (0x20 + p)) 0).pilGo p 4
    else if d.on (fPsEnq (0x20 + p)) then (d.put (fPsEnq (0x20 + p)) 0).pilGo p 3
    else d.pilGo p 0

/-! ### Planned moves (R300) -/

/-- A planned move of the session that pilot `p` serves begins. -/
def Device.moveStart (d : Device) (p q : Nat) (off : Bool) : Device :=
  (d.modPil p (fun s => { s with moveTo := some q, moveOff := off })).pilGo p 7

/-- MOVE_AT_QUIET_POINT: the serving pilot writes a checkpoint for the target. -/
def moveAtQuietPoint (n : Nat) (d : Device) : Device :=
  let p := d.servingPilot n
  match (d.pil p).moveTo with
  | none => d
  | some q =>
    if d.pilState p != 7 || (d.sess n).acc.running || !d.sesQuiet n then d
    else
      let q := if d.pilState q = 4 then some q else d.spareFor (d.pilFmt p)
      match q with
      | none => d
      | some q => ((d.modPil p (fun s => { s with moveTo := some q })).checkpoint n).takeOver q n true

/-- MOVE_COMPLETE: the target has resumed the session without NAK; the old pilot is SPARE, or OFF after EN = 0 (R300, R318). -/
def moveComplete (n : Nat) (d : Device) : Device :=
  match (d.sess n).spare with
  | none => d
  | some q =>
    if d.pilState q != 6 || !(d.pil q).planned then d
    else
      let p := d.servingPilot n
      let off := (d.pil p).moveOff
      let again := (d.pil q).refault
      let d := (d.put (fPilStatSession p) 31).modPil p (fun s => { s with moveTo := none, moveOff := false })
      let d := (d.serve q n).modPil q (fun s => { s with refault := none })
      let d := if !off then d.pilGo p 4
        else
          let d := (d.put (fPsShuttingDown (0x20 + p)) 0).pilGo p 0
          if d.on (fPsEnq (0x20 + p)) then (d.put (fPsEnq (0x20 + p)) 0).pilGo p 3 else d
      match again with
      | some c => d.servingFault q c
      | none => d

/-! ### Enable (R318) -/

/-- Which EN writes a pilot takes. -/
def Device.pilEnOk (d : Device) (p : Nat) (en : Bool) : Bool :=
  let st := d.pilState p
  if en then d.get (fPilStatResult p) = 1
  else !(st = 5 && d.on (fPcEn (0x20 + p)) && (d.spareFor (d.pilFmt p)).isNone) && st != 6

/-- EN = 1 applied. -/
def Device.pilEnable (d : Device) (p : Nat) : Device :=
  match d.pilState p with
  | 0 => d.pilGo p 3
  | 3 => if d.on (fPsShuttingDown (0x20 + p)) then d.put (fPsEnq (0x20 + p)) 1 else d
  | 7 => if (d.pil p).moveOff then d.put (fPsEnq (0x20 + p)) 1 else d
  | _ => d

/-- EN = 0 applied. -/
def Device.pilDisable (d : Device) (p : Nat) : Device :=
  let d := d.put (fPsEnq (0x20 + p)) 0
  match d.pilState p with
  | 4 => d.pilGo p 0
  | 5 => match d.spareFor (d.pilFmt p) with
    | some q => (d.put (fPsShuttingDown (0x20 + p)) 1).moveStart p q true
    | none => d
  | 7 => (d.put (fPsShuttingDown (0x20 + p)) 1).modPil p (fun s => { s with moveOff := true })
  | _ => d

/-! ### Images (R313 … R318) -/

/-- IMG_ADDR moves on. -/
def Device.imgNext (d : Device) (p : Nat) : Device := d.put ⟨pilImgAddr p, 13, 0⟩ (d.get ⟨pilImgAddr p, 13, 0⟩ + 1)

/-- A write of IMG_DATA (R316, R318): the image is no longer checked. -/
def Device.imgWrite (d : Device) (p : Nat) (v : Word) : Device :=
  let a := pilArea p + 4 * d.get ⟨pilImgAddr p, 13, 0⟩
  let d := { d with sram := writeBytes zeroByte d.sram a (leBytes 4 v.toNat) }
  (((d.put (fPilStatResult p) 0).put (fPilStatSlot p) 2).imgNext p).pilGo p 1

/-- A read of IMG_DATA. -/
def Device.imgRead (d : Device) (p : Nat) : Device :=
  let a := pilArea p + 4 * d.get ⟨pilImgAddr p, 13, 0⟩
  { d with hd := BitVec.ofNat 32 (readLe zeroByte d.sram a 4) }.imgNext p

/-- IMAGE_LOAD_IDLE: 1 ms without an IMG_DATA write (R318). -/
def imageLoadIdle (p : Nat) (d : Device) : Device :=
  if d.pilState p = 1 && (d.pil p).copyFrom.isNone then d.pilGo p 0 else d

/-- IMAGE_COPY_DONE: a COPY_FROM has completed (R318). -/
def imageCopyDone (p : Nat) (d : Device) : Device :=
  match (d.pil p).copyFrom with
  | none => d
  | some q =>
    if d.pilState p != 1 then d
    else ((d.copyImage p q).modPil p (fun s => { s with copyFrom := none })).pilGo p 0

/-- The result of an image check is shown (R314, R316). -/
def Device.showImage (d : Device) (p : Nat) : Device :=
  let b := d.pilImage p
  let r := d.wornCheck b 1 65536
  let d := d.put (fPilStatResult p) r
  if r = 2 then d else (d.wr (pilImgVer p) (BitVec.ofNat 32 (fieldAt b 12 4))).wr (pilImgFmt p) (BitVec.ofNat 32 (fieldAt b 16 2))

/-- IMAGE_CHECK_END: VERIFY is complete (R314, R318). -/
def imageCheckEnd (p : Nat) (d : Device) : Device :=
  if d.pilState p != 2 then d else ((d.showImage p).pilGo p 0).irq (0x20 + p) 1

/-! ### The PILOT page -/

/-- Which writes of a PILOT page's block registers are applied (R300, R318). -/
def pilWriteOk (d : Device) (p off : Nat) (v : Word) : Bool :=
  let st := d.pilState p
  let loadable := st = 0 || (st = 1 && (d.pil p).copyFrom.isNone)
  let t := bitsOf v 12 8
  if st = 8 then false
  else match off with
    | 0x10 => match bitsOf v 2 0 with
      | 1 => st = 5 && t < 20 && d.pilState t = 4 && d.pilFmt t = d.pilFmt p
      | 2 => loadable && t < 20
      | 3 => loadable
      | 4 => st = 0 || st = 4
      | _ => false
    | 0x12 | 0x13 => loadable
    | _ => true

/-- The effect of an applied PILOT write. -/
def pilWritten (p off : Nat) (v : Word) (d : Device) : Device :=
  match off with
  | 0x10 => match bitsOf v 2 0 with
    | 1 => d.moveStart p (bitsOf v 12 8) false
    | 2 => (((d.modPil p (fun s => { s with copyFrom := some (bitsOf v 12 8) })).put (fPilStatResult p) 0).put (fPilStatSlot p) 2).pilGo p 1
    | 3 => (d.put (fPilStatResult p) 0).pilGo p 2
    | 4 => d.pilGo p 3
    | _ => d
  | 0x13 => d.imgWrite p v
  | 0x18 =>
    let d := d.when (v.getLsbD 0) (fun d => d.wr (pilCounts p) 0)
    d.when (v.getLsbD 1) (fun d => d.wr (pilCkpts p) 0)
  | _ => d

end Sys2Proof.Machine
end

