-- ==== Sys2Proof/Machine/Repair.lean ====
section
/-!
DEFINITION. The dredger, dead paths, the self-test at idle and the repair map (R301 … R312, R319, R320).
-/
namespace Sys2Proof.Machine

/-- PAGE_STAT.STATE of the REPAIR page: 0 IDLE, 1 SELFTEST, 2 COMPACTING, 3 WRITING (R319). -/
def Device.repState (d : Device) : Nat := d.get (fPsState 0x11)

/-! ### SRAM (R301 … R303) -/

/-- ROWS_MIN shows the fewest free spare rows in any bank. -/
def Device.showRowsMin (d : Device) : Device :=
  d.put fRepPoolsRowsMin ((List.range 14).foldl (fun m b => min m (d.get (fRepRowsFree b))) 16)

/-- A row with a hard fault takes a free spare row of its bank (R303). -/
def Device.repairRow (d : Device) (bank row : Nat) : Device :=
  let free := d.get (fRepRowsFree bank)
  if free = 0 then d.poolEmpty
  else
    let spare := 16 - free
    let d := ((d.put (fRepRowsFree bank) (free - 1)).showRowsMin).modRep (fun r => { r with rows := r.rows ++ [(bank, row, spare)], marks := r.marks.filter (· != (bank, row)) })
    d.spareUsed (mapRecord 6 bank row spare d.origin)

/-- What an uncorrectable word does, by its bank (R302); `off` is its offset in the bank. -/
def Device.badWord (d : Device) (bank off proc : Nat) : Device :=
  if bank ≤ 1 then d.markBad (0x0200000 + 0x100000 * bank + off)
  else if bank ≤ 5 then d.manRemove (((bank - 2) * 0x100000 + off) / 64)
  else if bank ≤ 9 then
    let n := ((bank - 6) * 0x100000 + off) / 0x40000
    if (d.sess n).phase = .receiving then receptionFailed n (d.get (fRxfTpriTpri n)) d else d
  else if bank ≤ 11 then
    let o := (bank - 10) * 0x100000 + off
    if o < 0x1E0000 then pilotFault (o / 0x18000) 3 d
    else
      let n := (o - 0x1E0000) / 0x2000
      d.modSes n (fun s => if (o - 0x1E0000) % 0x2000 < 0x1000 then { s with ckA := { s.ckA with bad := true } } else { s with ckB := { s.ckB with bad := true } })
  else d.await (.lost (proc + 1))

/-- DREDGER_ROW_VISIT: the dredger has read one row of a bank (R302, R303). -/
def dredgerRowVisit (bank row : Nat) (find : RowFind) (d : Device) : Device :=
  match find with
  | .clean => d.modRep (fun r => { r with marks := r.marks.filter (· != (bank, row)) })
  | .corrected =>
    let d := d.eccCorrected bank
    if d.rep.marks.contains (bank, row) then d.repairRow bank row
    else d.modRep (fun r => { r with marks := (bank, row) :: r.marks })
  | .uncorrectable word proc =>
    let off := 128 * row + 8 * word.val
    ((d.eccUncorrected bank off).badWord bank off proc.val).repairRow bank row

/-- What the check of the word at `addr` of the SRAM windows finds when a paced read takes it (R302). A host read of a berth is not the reception that reads it, so it fails none. -/
def Device.readFound (d : Device) (addr : Nat) (find : WordFind) : Device :=
  let bank := (addr - 0x0200000) / 2 ^ 20
  let off := (addr - 0x0200000) % 2 ^ 20 / 8 * 8
  let d1 := d.eccUncorrected bank off
  if d.badAt (addr / 8 * 8) then d1
  else match find with
    | .clean => d
    | .corrected => d.eccCorrected bank
    | .uncorrectable => if bank ≤ 5 then d1.badWord bank off 0 else d1

/-! ### Dead paths (R305 … R307) -/

/-- MARK_DEAD: the path is dead and its weights are 0 for good. -/
def Device.markDead (d : Device) (p : Nat) : Device :=
  let had := !d.mutedPath p
  let d := ((d.setDead p true).dropPath p).queueRecord (mapRecord 4 p 0 0xFF 3)
  ((d.when had Device.awaitRenorm).groupsStale).reglChanged

/-- REVIVE cancels the path's dead record. -/
def Device.revive (d : Device) (p : Nat) : Device := (d.setDead p false).queueRecord (mapRecord 9 p 0 0xFF 3)

/-! ### Self-test (R308) -/

/-- SELFTEST begins with its first step. -/
def Device.selftest (d : Device) : Device :=
  (((d.put (fPsState 0x11) 1).wr repTest 1).modRep (fun r => { r with abort := false, repaired := false, ranOut := false }))

/-- The self-test ends (R308). -/
def Device.selftestEnd (d : Device) (result : Nat) : Device :=
  ((((d.put fRepTestResult result).put fRepTestStep 0).put (fPsState 0x11) 0).modRep (fun r => { r with abort := false })).irq 0x11 0

/-- Count faults found. -/
def Device.found (d : Device) (n : Nat) : Device :=
  (d.addSat ⟨repTest, 15, 8⟩ n).modRep (fun r => { r with repaired := r.repaired || n != 0 })

/-- A pilot is tested: it is dead where it fails (R308). -/
def Device.testPilot (d : Device) (p : Nat) (fail : Bool) : Device :=
  if fail then ((d.put (fPilStatCause p) 4).pilotDead p).found 1 else d

/-- Step 2: the sessions move in turn onto a tested spare, and the pilot they leave is tested. -/
def Device.testServing (d : Device) (p : Nat) (fail : Bool) : Device :=
  match d.spareFor (d.pilFmt p) with
  | none => d.poolEmpty
  | some q =>
    let n := d.pilSes p
    let d := (((d.checkpoint n).put (fPilStatSession p) 31).serve q n).pilGo p 4
    d.testPilot p fail

/-- A defect found on a path. -/
def Device.elemFault (d : Device) (p : Nat) (f : ElemFault) : Device := match f with
  | .slice k => sliceFault p k.val d
  | .dac k => dacCellFault p k.val d
  | .driver k => driverCellFault p k.val d

/-- SELFTEST_STEP_END: one step ends with its findings; the next begins, or the test is over (R308). -/
def selftestStepEnd (x : SelfTestFinds) (d : Device) : Device :=
  if d.repState != 1 then d
  else
    let step := d.get fRepTestStep
    let d := match step with
      | 1 => d.forAll ((List.range 20).filter (fun p => d.pilState p = 4)) (fun d p => d.testPilot p (x.pilots.getLsbD p))
      | 2 => d.forAll ((List.range 20).filter (fun p => d.pilState p = 5)) (fun d p => d.testServing p (x.pilots.getLsbD p))
      | 3 => d.forAll x.rows (fun d r => (d.repairRow r.1.val r.2.val).found 1)
      | _ => d.forAll (x.elems.filter (fun (e : Fin 64 × ElemFault) => d.pathState e.1.val = 6)) (fun d (e : Fin 64 × ElemFault) => (d.elemFault e.1.val e.2).found 1)
    if d.rep.abort || !d.carriersOff then d.selftestEnd 4
    else if step < 4 then d.put fRepTestStep (step + 1)
    else d.selftestEnd (if d.rep.ranOut then 3 else if d.rep.repaired then 2 else 1)

/-! ### The map (R309 … R312) -/

/-- The address of a half in option memory. -/
def halfBase (h : Nat) : Nat := 0x200 + 0x700 * h

/-- Record `i` of half `h`; record 0 is its header. -/
def Device.mapRec (d : Device) (h i : Nat) : List Byte := readBytes onesByte d.opt (halfBase h + 8 * i) 8

/-- Is a record's CHECK right? -/
def recOk (r : List Byte) : Bool := leNat (r.drop 6) = crc16 (bytesBits (r.take 6))

/-- Is a half's header valid, and with which GEN? -/
def Device.halfGen (d : Device) (h : Nat) : Option Nat :=
  let r := d.mapRec h 0
  if recOk r && fieldAt r 0 1 = 0x7F && fieldAt r 1 1 = 1 && fieldAt r 4 1 = h then some (fieldAt r 2 2) else none

/-- The active half: of two valid headers the later GEN modulo 65,536 (R310). -/
def Device.activeHalf (d : Device) : Option Nat :=
  match d.halfGen 0, d.halfGen 1 with
  | some a, some b => some (if (b + 65536 - a) % 65536 ≠ 0 ∧ (b + 65536 - a) % 65536 < 32768 then 1 else 0)
  | some _, none => some 0
  | none, some _ => some 1
  | none, none => none

/-- The records of a half up to the first empty one. -/
def Device.mapRecs (d : Device) (h : Nat) : List (List Byte) :=
  ((List.range 223).map (fun i => d.mapRec h (i + 1))).takeWhile (fun r => fieldAt r 0 1 != 0xFF)

/-- Write bytes into option memory. -/
def Device.optPut (d : Device) (a : Nat) (bs : List Byte) : Device := { d with opt := writeBytes onesByte d.opt a bs }

/-- Those records of a list that are valid: right CHECK and a kind that is not reserved. -/
def validRecs (l : List (List Byte)) : List (List Byte) :=
  l.filter (fun r => recOk r && decide (1 ≤ fieldAt r 0 1) && decide (fieldAt r 0 1 ≤ 9))

/-- The live records: those that no later REVIVE supersedes (R312). -/
def liveRecs : List (List Byte) → List (List Byte)
  | [] => []
  | r :: t =>
    let revived := t.any (fun x => fieldAt x 0 1 = 9 && fieldAt x 1 1 = fieldAt r 1 1)
    if fieldAt r 0 1 = 9 || (fieldAt r 0 1 = 4 && revived) then liveRecs t else r :: liveRecs t

/-- A compaction begins, or the map is worn out (R312). -/
def Device.compactStart (d : Device) : Device :=
  let h := d.get fRepMapHalf
  if 2500 ≤ d.get fRepMapCompactions || 223 < (liveRecs (validRecs (d.mapRecs h))).length then d.poolEmpty
  else d.put (fPsState 0x11) 2

/-- COMPACTION_END: the live records stand in the other half and its header, written last, makes it the active one (R312). -/
def compactionEnd (d : Device) : Device :=
  if d.repState != 2 then d
  else
    let h := d.get fRepMapHalf
    let live := liveRecs (validRecs (d.mapRecs h))
    let gen := ((d.halfGen h).getD 0 + 1) % 65536
    let o := 1 - h
    let d := d.optPut (halfBase o) (mapRecord 0x7F 1 gen o 0 ++ live.flatten ++ List.replicate (8 * (223 - live.length)) 0xFF)
    ((((d.put fRepMapHalf o).put fRepMapRecords live.length).addSat fRepMapCompactions 1).put (fPsState 0x11) 0)

/-- REPAIR_RECORD_WRITE: the record at the front of the queue is appended to the active half; a full half is compacted first (R311, R312). -/
def repairRecordWrite (d : Device) : Device :=
  match d.rep.queue with
  | [] => d
  | r :: t =>
    if d.repState = 2 then d
    else
      let h := d.get fRepMapHalf
      let k := d.get fRepMapRecords
      if 223 ≤ k then d.compactStart
      else
        let d := if (d.halfGen h).isNone then d.optPut (halfBase h) (mapRecord 0x7F 1 1 h 0) else d
        let d := ((d.optPut (halfBase h + 8 * (k + 1)) r).put fRepMapRecords (k + 1)).modRep (fun s => { s with queue := t })
        (d.wr repLastLo (BitVec.ofNat 32 (fieldAt r 0 4))).wr repLastHi (BitVec.ofNat 32 (fieldAt r 4 4))

/-- Apply one record of the map (R310). -/
def Device.applyRecord (d : Device) (r : List Byte) : Device :=
  let u := fieldAt r 1 1
  let e := fieldAt r 2 2
  let s := fieldAt r 4 1
  if (fieldAt r 0 1 ≤ 4 && decide (64 ≤ u)) || (fieldAt r 0 1 = 5 && decide (20 ≤ u)) then d
  else match fieldAt r 0 1 with
  | 1 => d.setElem u { d.elem u with slice := some e }
  | 2 => d.setElem u { d.elem u with dacBad := e :: (d.elem u).dacBad, dacFree := (d.elem u).dacFree.filter (· != s) }
  | 3 => d.setElem u { d.elem u with drvBad := e :: (d.elem u).drvBad, drvFree := (d.elem u).drvFree.filter (· != s) }
  | 4 => (d.setDead u true).dropPath u
  | 5 => d.pilGo u 8
  | 6 => if u < 14 then (d.put (fRepRowsFree u) (d.get (fRepRowsFree u) - 1)).modRep (fun r => { r with rows := r.rows ++ [(u, e, s)] }) else d
  | _ => d

/-- The option load applies the repair map (R310). MAP.COMPACTIONS counts from the first header, whose GEN is 1. -/
def Device.applyMap (d : Device) : Device :=
  let d := (d.forAll (List.range 14) (fun d b => d.put (fRepRowsFree b) 16)).put fRepMapHalf (d.activeHalf.getD 0)
  match d.activeHalf with
  | none => d.showRowsMin
  | some h =>
    let all := d.mapRecs h
    let d := d.put fRepMapCompactions (min 2500 ((d.halfGen h).getD 1 - 1))
    ((d.put fRepMapRecords all.length).forAll (liveRecs (validRecs all)) Device.applyRecord).showRowsMin

/-! ### The REPAIR page (R319, R320) -/

/-- Which writes of the REPAIR page are applied; `level` is the session level the write was checked at. -/
def repWriteOk (d : Device) (level off : Nat) (v : Word) : Bool :=
  match off with
  | 0x10 => bitsOf v 7 0 != 0 && bitsOf v 19 16 != 0
  | 0x12 =>
    let p := bitsOf v 13 8
    let busy := d.repState = 1 || d.repState = 2
    match bitsOf v 3 0 with
    | 1 => !busy && d.carriersOff
    | 2 => true
    | 3 => !busy && d.pathState p = 0 && !d.pathDead p
    | 4 => !busy && d.pathDead p && decide (2 ≤ level) && !d.sec.sealed
    | 5 => !busy
    | _ => false
  | _ => true

/-- The effect of an applied REPAIR write. -/
def repWritten (off : Nat) (v : Word) (d : Device) : Device :=
  match off with
  | 0x12 =>
    let p := bitsOf v 13 8
    match bitsOf v 3 0 with
    | 1 => d.selftest
    | 2 => if d.repState = 1 then d.modRep (fun r => { r with abort := true }) else d
    | 3 => d.markDead p
    | 4 => d.revive p
    | 5 => d.compactStart
    | _ => d
  | 0x1B => d.when (v.getLsbD 0) (fun d => (d.wr repEccCount 0).forAll (List.range 14) (fun d b => d.put (fRepRowsCorrected b) 0))
  | _ => d

end Sys2Proof.Machine
end

