-- ==== Sys2Proof/Machine/Reset.lean ====
section
/-!
DEFINITION. Reset sources and reaches, the release sequences, straps, the option load, the synthesisers, clock-good, the boot image, the watchdog and the OPT page (R385 … R413).
-/
namespace Sys2Proof.Machine

/-! ### What a reset keeps -/

/-- The bit of RST.CAUSE a source sets (R385). -/
def ResetSource.bit : ResetSource → Nat
  | .aonPor => 0
  | .por => 1
  | .brownOut => 2
  | .rstPin => 3
  | .thermal => 4
  | .watchdog => 5
  | .cascade => 6
  | .chipRst => 7

/-- Sources of FULL reach; the other three have CORE reach (R385). -/
def ResetSource.full : ResetSource → Bool
  | .watchdog | .cascade | .chipRst => false
  | _ => true

/-- Words of the always-on island, which only AON power-on resets (R385, R409, R424, R451). -/
def aonWord (a : Nat) : Bool := islandOf (pageOfWord a) = 4 && (decide (4 ≤ offOfWord a) || a = pageStat 0x1E)

/-- Words that a CORE reset keeps beside them: SYNTH (R390), the option shadow, the repairs in effect (R310), and the measurements of calibration (R285). -/
def coreWord (a : Nat) : Bool :=
  aonWord a || (pageOfWord a = 0x1D && decide (16 ≤ offOfWord a))
    || [sysIdentLo, sysIdentHi, pinsBanks, pinsMapStat, repMap, repLastLo, repLastHi, repDeadLo, repDeadHi, calTemp, calTempB, calAclkRate].contains a

/-- Take `n` eight-byte groups of free bytes. -/
def Device.freeBytes (d : Device) : Nat → List Byte × Device
  | 0 => ([], d)
  | n + 1 =>
    let (v, d) := d.takeFree
    let (t, d) := d.freeBytes n
    (leBytes 8 v.toNat ++ t, d)

/-- Bytes of the OPT staging buffer (R404). -/
def Device.optImage (d : Device) : List Byte := readBytes zeroByte d.optStage 0 8192

/-- The records of an option image's payload, in order: offset, reserved bytes and data (R404). -/
def optRecords : Nat → List Byte → List (Nat × List Byte × List Byte)
  | 0, _ => []
  | n + 1, b => if b.isEmpty then [] else (fieldAt b 0 2, (b.drop 2).take 6, (b.drop 8).take 64) :: optRecords n (b.drop 72)

/-- The records of the image in the staging buffer. -/
def Device.optImageRecords (d : Device) : List (Nat × List Byte × List Byte) := optRecords 1000 (wornPayload d.optImage)

/-- A reset during programming leaves the sector undefined; of an APPLY, the sectors before it are programmed (R403, R404). -/
def Device.optCut (d : Device) : Device :=
  if d.optRun = 1 then
    let (bs, d) := d.freeBytes 8
    d.optPut (64 * (d.rd optSector).toNat) bs
  else if d.optRun = 2 then
    let rs := d.optImageRecords
    let (v, d) := d.takeFree
    let k := v.toNat % (rs.length + 1)
    let d := d.forAll (rs.take k) (fun d r => d.optPut r.1 r.2.2)
    match rs[k]? with
    | none => d
    | some r =>
      let (bs, d) := d.freeBytes 8
      d.optPut r.1 bs
  else d

/-- The device with only what the reset keeps: some register words, option memory, keys, seal and failure record, the always-on blocks and the levels at inputs. -/
def Device.keeping (d : Device) (keep : Nat → Bool) : Device :=
  { regs := storeClear (fun a => !keep a) d.regs, opt := d.opt, free := d.free, rst := d.rst, extest := d.extest,
    sec := { kOp := d.sec.kOp, kProv := d.sec.kProv, sealed := d.sec.sealed, fails := d.sec.fails, backoff := d.sec.backoff },
    rtc := d.rtc, watch := d.watch, tmIo := d.tmIo, coexGnt := d.coexGnt }

/-- The SEC page shows the key block, the seal and the always-on record again (R523, R532). -/
def Device.secAgain (d : Device) (old : Device) : Device :=
  let d := (d.put fSecTamperCount (old.get fSecTamperCount)).secShow
  let show_ (d : Device) (w : Nat) (k : Option (List Byte)) : Device := match k with
    | some k => d.wr w (keyCheck k)
    | none => d
  show_ (show_ d secKcvOp d.sec.kOp) secKcvProv d.sec.kProv

/-- The levels at TRIG_IN and WAKE_IN are the board's. -/
def Device.pinsAgain (d : Device) (old : Device) : Device := d.wr pinsLevels (old.rd pinsLevels &&& 0xF0F)

/-- WDOG_LEFT reloads from PERIOD (R409). -/
def Device.wdogLoad (d : Device) : Device := d.wr rstWdogLeft (BitVec.ofNat 32 (d.get fRstWdogCfgPeriod))

/-- The mirror stands as the registers do while the host island is held. -/
def Device.mirrorAll (d : Device) : Device := { d with mirror := d.regs }

/-- A FULL reset (R385, R389, R409). SYNTH_P and SYNTH_S stop; HCLK and the crystal are the board's. -/
def Device.fullReset (d : Device) : Device :=
  let old := d.optCut
  let d := (old.keeping aonWord).wr clkGood (old.rd clkGood &&& 0x11)
  let d := { d with rst := { d.rst with sLockedOnce := false } }
  let d := (d.wr rstWdogCfg (resetWord rstWdogCfg)).wdogLoad
  ((d.secAgain old).pinsAgain old).mirrorAll

/-- An AON power-on resets the always-on island too; FAILS is cleared and a back-off of 1 s starts (R385, R523). -/
def Device.aonReset (d : Device) : Device :=
  let old := d.optCut
  let d := { old.keeping (fun _ => false) with rtc := {}, watch := {}, rst := { asserted := old.rst.asserted } }
  let d := { d with sec := { d.sec with fails := 0, backoff := 1000 } }
  let d := d.wr clkGood (old.rd clkGood &&& 0x01)
  (((d.wdogLoad).secAgain d).pinsAgain old).mirrorAll

/-- Is bank `b` kept by a CORE reset: BANK_12–13 and every bank chosen for retention (R390)? -/
def Device.bankKept (d : Device) (b : Nat) : Bool := b = 12 || b = 13 || (d.rd pwrRetain).getLsbD b

/-- Initialise the SRAM banks `keep` does not name: every byte reads 0 (R392). -/
def Device.initBanks (d : Device) (keep : Nat → Bool) : Device :=
  let gone (a : Nat) : Bool := !keep ((a - 0x0200000) / 0x100000)
  { d with sram := storeClear gone d.sram, rep := { d.rep with bad := d.rep.bad.filter (fun a => !gone a) } }

/-- What of path `p` outlives a reset that keeps calibration and repairs. -/
def PathSt.kept (s : PathSt) : PathSt :=
  { cells := s.cells, dpdKept := s.dpdKept, dpdTemp := s.dpdTemp, dpdGen := s.dpdGen }

/-- The repairs in effect, dead paths and dead pilots stand (R305, R310). -/
def Device.repairsAgain (d : Device) (old : Device) : Device :=
  let d := { d with rep := { queue := old.rep.queue, elems := old.rep.elems, rows := old.rep.rows, bad := old.rep.bad } }
  let d := d.forAll (List.range 14) (fun d b => d.put (fRepRowsFree b) (old.get (fRepRowsFree b)))
  let d := d.forAll (List.range 64) (fun d p => (d.showSpares p).when (d.pathDead p) (fun d => (d.setDead p true).dropPath p))
  let d := d.forAll ((List.range 20).filter (fun p => old.pilState p = 8)) (fun d p => d.pilGo p 8)
  d.showRowsMin

/-- The records and memories a CORE reset keeps beside the register words. -/
def Device.coreKept (d old : Device) : Device :=
  { d with bandCal := old.bandCal, profile := old.profile, pinMap := old.pinMap, bootCfg := old.bootCfg, sram := old.sram,
           kl := { held := old.kl.held }, pl := { recorded := old.pl.recorded },
           cal := { accepted := old.cal.effect, effect := old.cal.effect, validEff := old.cal.validEff, rxGrid := old.cal.rxGrid },
           paths := old.paths.map PathSt.kept,
           sec := { d.sec with tampers := old.sec.tampers } }

/-- A CORE reset keeps the synthesisers, the straps, the option shadow, calibration results, repairs, numbers and what LOCKDOWN counts (R390, R285, R310, R336, R409, R531). -/
def Device.coreReset (d : Device) : Device :=
  let old := d.optCut
  let d := old.keeping coreWord
  let d := d.coreKept old
  let d := d.put ⟨calStat, 14, 8⟩ d.cal.validEff.toNat
  let d := (d.put fSysStatSource (old.get fSysStatSource)).put ⟨optStat, 4, 1⟩ (old.get ⟨optStat, 4, 1⟩)
  let d := (d.putB fSecStatLockdown (old.on fSecStatLockdown)).put fSecTamperCause (old.get fSecTamperCause)
  let d := if old.on fRstWdogCfgLock then d.wdogLoad else (d.wr rstWdogCfg (resetWord rstWdogCfg)).wdogLoad
  (((d.repairsAgain old).showProfile.secAgain old).pinsAgain old).mirrorAll

/-! ### Sources (R385 … R388) -/

/-- LAID_UP: only the RTC and the backup switch stay powered; PWR keeps its registers, harbour watch does not (R414, R415, R420). -/
def Device.layDown (d : Device) : Device :=
  let d := (((d.resetBlockWords 0x1E).resetIrqWords 0x1E).put (fPsState 0x1E) 0).put fPwrStatLast 2
  { d with watch := {}, pwr := { phase := .laidUp } }

/-- A source asserts: the widest reach of the combined interval applies, CAUSE records the source, RSTOUT_N goes low (R386 … R388). An AON power-on leaves only AON_POR and POR set. -/
def Device.assertReset (d : Device) (src : ResetSource) : Device :=
  let first := d.rst.asserted.isEmpty
  let wasFull := d.rst.full && (!first || d.rst.step != .done)
  let laid := (src = .por || src = .brownOut) && !d.rst.asserted.contains .aonPor
  let d := if src = .aonPor then d.aonReset
    else if src.full then (if wasFull && !first then d else d.fullReset)
    else if first then (if wasFull then d.fullReset else d.coreReset) else d
  let d := { d with rst := { d.rst with asserted := src :: d.rst.asserted.filter (· != src), full := wasFull || src.full, step := .inReset, rstoutHigh := false, past100 := !first && d.rst.past100 } }
  let d := if src = .aonPor then d else d.wr rstCause (d.rd rstCause ||| BitVec.ofNat 32 (1 <<< src.bit))
  if laid then d.layDown else d

/-- AON_POWER_ON, POWER_ON_RESET, RST_PIN, THERMAL_SHUTDOWN (R385). -/
def aonPowerOn (d : Device) : Device := d.assertReset .aonPor
def powerOnReset (d : Device) : Device := d.assertReset .por
def rstPin (d : Device) : Device := d.assertReset .rstPin
def thermalShutdown (d : Device) : Device := d.assertReset .thermal

/-- BROWN_OUT; CAUSE records the rails found low (R387). -/
def brownOut (rails : BitVec 9) (d : Device) : Device :=
  let d := d.assertReset .brownOut
  d.put fRstCauseRail (d.get fRstCauseRail ||| rails.toNat)

/-- WATCHDOG_EXPIRY (R395). -/
def watchdogExpiry (d : Device) : Device :=
  if d.on fRstWdogCfgEn && !d.frozen && d.rst.asserted.isEmpty then d.assertReset .watchdog else d

/-- WATCHDOG_WARN: the count passes PERIOD / 2 (R395). -/
def watchdogWarn (d : Device) : Device :=
  if d.on fRstWdogCfgEn && !d.frozen then
    (d.wr rstWdogLeft (BitVec.ofNat 32 (d.get fRstWdogCfgPeriod / 2))).irq 0x01 0
  else d

/-- A RESET frame (R344). -/
def resetFrame (h : KlHead) (way : KlTo) (subtree : Bool) (d : Device) : Device :=
  d.receive h 0 false (fun d =>
    let d := d.forward h way (.reset subtree) 0
    if !klMine way then d
    else
      let d := d.when (subtree && way = .here) (fun d => d.forward h .all (.reset subtree) 0)
      d.assertReset .cascade)

/-- Ask for the release of an island (R393). -/
def Device.askRelease (d : Device) (i : Nat) : Device :=
  if (d.island i).held then d.setIsland i { held := true, pending := true } else d

/-- STRAP_0's role and number of down-ports (R399). -/
def strapRole (code : Nat) : Nat × Nat :=
  if code = 0 then (0, 0) else if code ≤ 4 then (1, code - 1) else if code ≤ 7 then (2, code - 4) else (3, 0)

/-- The code in effect of a strap: code 0 for a reserved code of STRAP_0, 5, 6 or 7 (R399). -/
def strapCode (k code : Nat) : Nat :=
  let top := [9, 16, 16, 16, 16, 4, 4, 6].getD k 16
  if code < top then code else 0

/-- The code of strap `k` in effect. -/
def Device.strap (d : Device) (k : Nat) : Nat := strapCode k (bitsOf (d.rd rstStraps) (4 * k + 3) (4 * k))

/-- What the straps set on the KLOIT and PL pages: role, ports, forwarding mask, and the enables of ports and lanes (R321, R339, R345, R399). -/
def Device.strapsApply (d : Device) : Device :=
  let (role, downs) := strapRole (d.strap 0)
  let d := ((d.put fKlStatRole role).put fKlStatDownPorts downs).put fKlStatSync (if 2 ≤ role then 1 else 0)
  let d := d.putB fKlStatNumbered (role = 1)
  let d := d.wr klCtrl (if 2 ≤ role then 0xFFFF0301 else 0x00000301)
  let d := d.forAll (List.range 5) (fun d k => d.putB (fKlPctrlEn k) (portUsed role downs k))
  let pl := d.strap 5 = 1 || d.strap 5 = 2
  d.forAll (List.range 5) (fun d l => d.putB (fPlLctrlEn l) pl)

/-- RESET_SOURCES_RELEASE: the last source releases and the release sequence starts (R386, R389, R390). -/
def resetSourcesRelease (d : Device) : Device :=
  if d.rst.asserted.isEmpty then d
  else
    let aon := d.rst.asserted.contains .aonPor
    let full := d.rst.full
    let d := { d with rst := { d.rst with asserted := [], step := if full then .straps else .pilotRelease } }
    let d := (d.put fRstStatLastReach (if full then 1 else 2)).when (!aon) (fun d => d.count fRstStatResets)
    let d := if d.pwr.phase = .laidUp then { d with pwr := {} }.irq 0x03 0 else d
    if full then d else (d.strapsApply.askRelease 1).mirrorAll

/-- STRAP_SAMPLE_DONE: codes, flags, the banks' voltages, the role and the reference divider (R398, R399, R405). -/
def strapSampleDone (codes : Vector (Fin 16) 8) (unstable : BitVec 8) (d : Device) : Device :=
  if d.rst.step != .straps then d
  else
    let code (k : Nat) : Nat := (codes.toList.getD k 0).val
    let word := (List.range 8).foldl (fun n k => n + code k * 16 ^ k) 0
    let reserved := (List.range 8).foldl (fun n k => n + (if k != 4 && strapCode k (code k) != code k then 2 ^ k else 0)) 0
    let d := ((d.wr rstStraps (BitVec.ofNat 32 word)).put fRstStrapFlagsUnstable unstable.toNat).put fRstStrapFlagsReserved reserved
    let d := d.put fClkRefRefSel (code 4)
    let d := (((d.putB fPinsBanksA33 (2 ≤ d.strap 6)).putB fPinsBanksB33 (d.strap 6 % 2 = 1)).put fPinsBanksAGood 1).put fPinsBanksBGood 1
    let d := { d with rst := { d.rst with step := .synthP } }
    (if code 4 < 4 then d.showRatio else d).strapsApply.mirrorAll

/-! ### Synthesisers and clock-good (R393, R394, R405 … R407) -/

/-- SYNTH_P_LOCK: REF_IN is present, pilot clock-good; at start-up the pilot island's release follows. A reserved STRAP_4 code holds the device before it (R399). -/
def synthPLock (d : Device) : Device :=
  if !d.rst.asserted.isEmpty || d.rst.step = .straps || 4 ≤ bitsOf (d.rd rstStraps) 19 16 || d.on fSynStatPLock
      || [SleepPhase.window, .moored, .laidUp].contains d.pwr.phase then d
  else
    let d := (((d.put fSynStatPLock 1).put fClkGoodPilot 1).put fClkRefRefPresent 1).irq 0x1D 0
    if d.rst.step = .synthP then ({ d with rst := { d.rst with step := .pilotRelease } }.askRelease 1) else d

/-- SYNTH_P_LOCK_LOSS (R407, R412). -/
def synthPLockLoss (d : Device) : Device :=
  if !d.on fSynStatPLock then d
  else (((d.put fSynStatPLock 0).count fSynStatLosses).irq 0x1D 0).put fClkGoodPilot 0

/-- SYNTH_S_LOCK_ACQUIRE: SYNTH_S locks. Its first lock follows its first band calibration and makes the converter and DSP clocks good; in LOCKING it reports no lock (R339, R394, R406). -/
def synthSLockAcquire (d : Device) : Device :=
  if !d.on fSynStatPLock || d.rst.step != .done || d.on fSynStatSLock then d
  else
    let d := if d.on fSynStatSCal then d
      else (d.put fSynStatSCal 1).putS fSynStatCalTemp (clampInt (-127) 127 d.dieDegrees)
    let d : Device := { (d.put fClkGoodConv 1).put fClkGoodDsp 1 with rst := { d.rst with sLockedOnce := true } }
    if decide (Device.get d fKlStatSync = 1) then d else ((d.put fSynStatSLock 1).irq 0x1D 0).synthContinue

/-- CLOCK_GOOD_CHANGE: an island's clock-good becomes `good` (R394). HOST follows the pilot's on PCLK/2; PILOT is SYNTH_P's lock; CONV and DSP need SYNTH_S's first lock; the lanes' follow block lock. -/
def clockGoodChange (i : Fin 5) (good : Bool) (d : Device) : Device :=
  match i.val with
  | 0 => if d.strap 5 = 2 || d.strap 5 = 3 then d else d.putB fClkGoodHost good
  | 1 => d
  | 4 => (d.putB fClkGoodAonXtal good).putB fClkRefXtalOk good
  | k => if d.rst.sLockedOnce || !good then d.putB ⟨clkGood, k, k⟩ good else d

/-- With the host island on PCLK/2, its clock-good is the pilot's (R21, R394). -/
def Device.followHostClock (d : Device) : Device :=
  if d.strap 5 = 2 || d.strap 5 = 3 then d.putB fClkGoodHost (d.on fClkGoodPilot) else d

/-! ### Releases -/

/-- The tide ticks of `n` ACLK cycles as a quotient: 31250 ticks for a cycle, corrected by E parts in 10^8 (R457). -/
def bridgeNum (n : Nat) : Int := (n : Int) * 31250 * 10 ^ 8
def bridgeDen (e : Int) : Nat := (10 ^ 8 + e).toNat

/-- The bridge of `b` ticks is shown and the tide restarts (R457, R460). -/
def Device.bridgeTo (d : Device) (b : Nat) (e : Int) : Device :=
  let d := (d.setTide (d.pwr.t0 + b)).putB fTideStatBridgeValid (!d.pwr.lostInSleep)
  let d := ((d.put fTideStatBridged 1).wr tideBridgeLo (BitVec.ofNat 32 b)).wr tideBridgeHi (BitVec.ofNat 32 (b / 2 ^ 32))
  d.wr tideRateUsed (BitVec.ofNat 32 (twosOf 16 e))

/-- The tide restarts at the end of a sleep from T0 + B (R457, R459); `n` is the count of ACLK cycles from A0 to A1, or of those since the count restarted. -/
def Device.bridge (d : Device) (n : Nat) : Device :=
  let e := if d.pwr.eCount = 0 then (d.pwr.eStart, d) else d.divOpen d.pwr.eSum d.pwr.eCount
  let b := e.2.divNearest (bridgeNum n) (bridgeDen e.1)
  b.2.bridgeTo b.1.toNat e.1

/-- Lanes of the packet link with EN = 1 start. -/
def Device.lanesStart (d : Device) : Device :=
  d.forAll (List.range 5) (fun d l => d.when (d.on (fPlLctrlEn l)) (fun d => d.laneEnable l))

/-- The islands run again after a sleep: what each release does on the way out (R423, R457). -/
def Device.wakeRelease (d : Device) (i n : Nat) : Device :=
  match i with
  | 0 => { d with pwr := { d.pwr with phase := .awake } }
  | 1 => d.portsStart.lanesStart
  | 2 => { d.bridge n with pwr := { d.pwr with bridging := false } }
  | _ => d

/-- ISLAND_RELEASE of island `i` (0 host, 1 pilot, 2 converter, 3 DSP): its release was asked for and its clock is good (R389, R390, R393, R423). The tide starts from 0 at the converter's release after a FULL or CORE reset (R453); RSTOUT_N goes high with the host's, once 100 µs are over (R388). -/
def Device.releaseIsland (d : Device) (i n : Nat) : Device :=
  let s := d.island i
  if !(s.held && s.pending && d.clockGood i) then d
  else
    let d := d.setIsland i { held := false, pending := false }
    if d.pwr.phase = .exiting || d.pwr.bridging then d.wakeRelease i n
    else match i with
      | 0 => { d with rst := { d.rst with rstoutHigh := d.rst.past100 } }
      | 1 => { d with rst := { d.rst with step := .optionLoad } }
      | 2 => d.setTide 0
      | _ => d

end Sys2Proof.Machine
end

