-- ==== Sys2Proof/Machine/Startup.lean ====
section
/-!
DEFINITION. The option load, the boot image, the OPT page and the watchdog's registers (R395, R400 … R404, R408, R409, R413, R438).
-/
namespace Sys2Proof.Machine

/-! ### The option load (R400) -/

/-- Is a chain position a ball of HBUS: bank A but for IRQ_N_0 … IRQ_N_3 (R535, R539)? -/
def hbusBall (b : Nat) : Bool := decide (61 ≤ b) && decide (b ≤ 128) && !(b = 105 || b = 108 || b = 111 || b = 114)

/-- One entry of the pin map: skipped, applied, or empty; without HBUS the map does not act on its balls (R401, R545). -/
def Device.pinEntry (d : Device) (k : Nat) : Device :=
  let e := readBytes onesByte d.opt (0x100 + 4 * k) 4
  let ball := fieldAt e 0 2
  let st := fieldAt e 2 1
  let ok := fieldAt e 3 1 = st ^^^ 0xFF && decide (st ≤ 4) && decide (15 ≤ ball) && decide (ball ≤ 128)
  if ball = 0xFFFF then d
  else if !ok then d.addSat ⟨pinsMapStat, 14, 8⟩ 1
  else if hbusBall ball && (d.strap 5 = 2 || d.strap 5 = 3) then d
  else { d.addSat ⟨pinsMapStat, 6, 0⟩ 1 with pinMap := d.pinMap.filter (fun x => x.1 != ball) ++ [(ball, st)] }

/-- The RTC record: mode, points, first temperature, step, trim and curve (R438); `none` where it is invalid (R439). -/
def rtcRecord (b : List Byte) : Option (Bool × Int × Int × Int × List Int) :=
  let s16 (i : Nat) : Int := signedOf 16 (fieldAt b i 2)
  let points := fieldAt b 4 1
  let first := signedOf 8 (fieldAt b 5 1)
  let step := fieldAt b 6 1
  let ok := fieldAt b 0 2 = 0x5443 && fieldAt b 2 1 = 1 && fieldAt b 1020 4 = crc32 (b.take 1020)
    && fieldAt b 3 1 < 2 && fieldAt b 7 1 = 0 && ((b.drop 10).take 6).all (· == 0) && ((b.drop 144).take 876).all (· == 0)
    && 2 ≤ points && points ≤ 64 && -40 ≤ first && first ≤ 125 && 1 ≤ step && step ≤ 20
    && first + ((points : Int) - 1) * step ≤ 125 && (s16 8).natAbs ≤ 20000
    && ((b.drop (16 + 2 * points)).take (128 - 2 * points)).all (· == 0)
  if ok then some (fieldAt b 3 1 = 1, first, step, s16 8, (List.range points).map (fun i => s16 (16 + 2 * i))) else none

/-- The option load copies the RTC record into always-on storage and writes TRIM (R438, R439). -/
def Device.rtcLoad (d : Device) : Device :=
  match rtcRecord (readBytes onesByte d.opt 0x1400 1024) with
  | some (jh, first, step, trim, curve) =>
    let d := { d with rtc := { d.rtc with curve := curve, tFirst := first, tStep := step } }
    (((d.putB fRtcStatMode jh).put fRtcStatCurve 1).putS fRtcTrimTrim trim).put fOptStatCurveValid 1
  | none =>
    let d := { d with rtc := { d.rtc with curve := [] } }
    (((d.put fRtcStatMode 1).put fRtcStatCurve 0).put fRtcTrimTrim 0).put fOptStatCurveValid 0

/-- The records of option memory are applied (R400). -/
def Device.optionRecords (d : Device) : Device :=
  let d := (d.wr sysIdentLo (BitVec.ofNat 32 (readLe onesByte d.opt 0 4))).wr sysIdentHi (BitVec.ofNat 32 (readLe onesByte d.opt 4 4))
  let d := (({ d with pinMap := [] }.forAll (List.range 64) Device.pinEntry).applyMap).loadProfile
  let d := (d.putB fOptStatProfileValid d.profile.isSome).rtcLoad
  let (cfg, ok) := bootConfig (readBytes onesByte d.opt 0x1800 2048)
  let d := { d with bootCfg := cfg }.putB fOptStatBcValid ok
  (d.put fSysStatSource (cfg.source.getD (d.strap 7))).putB fOptStatSealed d.sec.sealed

/-- Boot waits for the host where the source is the packet link or none (R408). -/
def Device.bootBegin (d : Device) : Device := d.put fSysStatBoot (if 4 ≤ d.get fSysStatSource then 3 else 0)

/-- OPTION_LOAD_COMPLETE: after a FULL reset every record is applied and every bank initialised; after a CORE reset the shadow stands and the banks not kept are initialised; the other islands' releases are asked for (R389, R390, R400). Ports and lanes start, and a harbourmaster takes its census (R336). -/
def optionLoadComplete (d : Device) : Device :=
  if d.rst.step != .optionLoad then d
  else
    let d := if d.rst.full then (d.initBanks (fun _ => false)).optionRecords
      else
        let d := d.initBanks d.bankKept
        d.when ((List.range 14).any (fun b => d.bankKept b && decide (2 ≤ b) && decide (b ≤ 5))) (fun d => d.manCountTo d.manValid.length)
    let d := { d with rst := { d.rst with step := .done } }.bootBegin
    let d := (((d.askRelease 0).askRelease 2).askRelease 3).portsStart.lanesStart
    (d.when d.klMaster Device.censusStart).mirrorAll

/-! ### The boot image (R315, R408) -/

/-- One container from the boot source is written into every pilot area that is not DEAD, and checked once. -/
def Device.bootCheck (d : Device) (b : List Byte) (slot : Nat) : Bool × Device :=
  let b := (padTo 65536 b).take 65536
  let r := d.wornCheck b 1 65536
  let d := d.forAll ((List.range 20).filter (fun p => d.pilState p != 8)) (fun d p =>
    let d := { d with sram := writeBytes zeroByte d.sram (pilArea p) b }
    let d := (d.put (fPilStatResult p) r).put (fPilStatSlot p) slot
    let d := if r = 2 then d else (d.wr (pilImgVer p) (BitVec.ofNat 32 (fieldAt b 12 4))).wr (pilImgFmt p) (BitVec.ofNat 32 (fieldAt b 16 2))
    d.irq (0x20 + p) 1)
  (r = 1, d)

/-- The pilots take their places (R19, R310, R408). -/
def Device.bootPilots (d : Device) : Device :=
  let live := (List.range 20).filter (fun p => d.pilState p != 8)
  let d := d.forAll live (fun d p =>
    let d := d.put (fPcEn (0x20 + p)) 1
    if p < 16 then (((d.put (fPilStatSession p) p).put (fSesStatPilot p) p).pilGo p 5) else (d.put (fPilStatSession p) 31).pilGo p 4)
  d.forAll ((List.range 16).filter (fun p => d.pilState p = 8)) (fun d p =>
    let d := (d.put (fPilStatSession p) 31).put (fSesStatPilot p) 31
    match (List.range 20).find? (fun q => d.pilState q = 4) with
    | some q => d.serve q p
    | none => d)

/-- BOOT_IMAGE_DONE: the boot source's slot is read and checked, and where it fails the other one; `a` and `b` are what slots A and B hold, and `sfdp` is what SSP_M found after a FULL reset (R315, R408, R493). -/
def bootImageDone (a b : List Byte) (sfdp : SfdpResult) (d : Device) : Device :=
  let src := d.get fSysStatSource
  if d.get fSysStatBoot != 0 || d.rst.step != .done || 4 ≤ src || (d.island 1).held then d
  else
    let d := if 2 ≤ src && d.rst.full && (List.range 20).all (fun p => d.get (fPilStatResult p) = 0) then (d.sfdpSet sfdp).1 else d
    let s := src % 2
    let (first, second) := if s = 0 then (a, b) else (b, a)
    let (ok, d) := d.bootCheck first s
    if ok then ((d.put fSysStatBoot 1).put fSysStatSlot s).bootPilots
    else
      let (ok, d) := d.bootCheck second (1 - s)
      if ok then ((d.put fSysStatBoot 1).put fSysStatSlot (1 - s)).bootPilots
      else d.put fSysStatBoot 2

/-! ### The OPT page (R403, R404, R413) -/

/-- May sector `n` be programmed (R403)? -/
def sectorOk (n : Nat) : Bool := (decide (4 ≤ n) && decide (n ≤ 7)) || (decide (64 ≤ n) && decide (n ≤ 127))

/-- OPT.CMD PROGRAM: the sector in SECT_BUF is being programmed. -/
def Device.optStart (d : Device) (run : Nat) : Device := { d with optRun := run }.put fOptStatBusy 1

/-- An operation on option memory ends with RESULT. -/
def Device.optEnd (d : Device) (result : Nat) : Device :=
  ({ d with optRun := 0 }.put fOptStatBusy 0).put fOptStatResult result

/-- SECT_BUF as bytes. -/
def Device.sectBuf (d : Device) : List Byte := (List.range 16).flatMap (fun k => leBytes 4 (d.rd (optSectBuf k)).toNat)

/-- OPT_PROGRAM_DONE: the sector is programmed; `ok` is its verify (R403). A failed verify leaves its content open. -/
def optProgramDone (ok : Bool) (d : Device) : Device :=
  if d.optRun != 1 then d
  else
    let a := 64 * (d.rd optSector).toNat
    if ok then (d.optPut a d.sectBuf).optEnd 1
    else
      let (bs, d) := d.freeBytes 8
      (d.optPut a bs).optEnd 10

/-- OPT.CMD APPLY: the staged image is checked, then every record of it (R404). -/
def Device.optCheck (d : Device) : Nat :=
  let b := d.optImage
  let r := d.wornCheck b 2 8192
  if r != 1 then r
  else if d.sec.sealed || wornLen b % 72 != 0
      || d.optImageRecords.any (fun (x : Nat × List Byte × List Byte) => x.1 % 64 != 0 || !sectorOk (x.1 / 64) || x.2.1.any (· != 0)) then 9
  else 1

/-- OPT_APPLY: an image that fails its checks ends at once with their RESULT. -/
def Device.optApply (d : Device) : Device :=
  let r := d.optCheck
  if r = 1 then d.optStart 2 else d.optEnd r

/-- OPT_APPLY_DONE: each record is programmed in order; `fail` is the first whose verify fails (R404). -/
def optApplyDone (fail : Option Nat) (d : Device) : Device :=
  if d.optRun != 2 then d
  else
    let rs := d.optImageRecords
    match fail with
    | none => (d.forAll rs (fun d r => d.optPut r.1 r.2.2)).optEnd 1
    | some k =>
      let d := d.forAll (rs.take k) (fun d r => d.optPut r.1 r.2.2)
      match rs[k]? with
      | none => d.optEnd 1
      | some r =>
        let (bs, d) := d.freeBytes 8
        (d.optPut r.1 bs).optEnd 10

/-- The option word at ADDR. -/
def Device.optWord (d : Device) : Word := BitVec.ofNat 32 (readLe onesByte d.opt (4 * bitsOf (d.rd optAddr) 11 0) 4)

/-- OPT_DATA_READ: a read of DATA returns the word at ADDR and advances ADDR (R413). -/
def optDataRead (d : Device) : Device :=
  if d.pageOff 0x07 then d
  else ({ d with hd := d.optWord }).wr optAddr (BitVec.ofNat 32 ((bitsOf (d.rd optAddr) 11 0 + 1) % 4096))

/-- The staging word at IMG_ADDR. -/
def Device.stagingWord (d : Device) : Word := BitVec.ofNat 32 (readLe zeroByte d.optStage (4 * bitsOf (d.rd optImgAddr) 10 0) 4)

/-- IMG_ADDR moves on. -/
def Device.stagingNext (d : Device) : Device := d.wr optImgAddr (BitVec.ofNat 32 ((bitsOf (d.rd optImgAddr) 10 0 + 1) % 2048))

/-- A read of IMG_DATA (R413). -/
def Device.optImgRead (d : Device) : Device := if d.pageOff 0x07 then d else { d with hd := d.stagingWord }.stagingNext

/-- A write of IMG_DATA is applied. -/
def Device.optImgWrite (d : Device) (v : Word) : Device :=
  { d with optStage := writeBytes zeroByte d.optStage (4 * bitsOf (d.rd optImgAddr) 10 0) (leBytes 4 v.toNat) }.stagingNext

/-- Which writes of the OPT page are applied; `level` is the session level the write was checked at (R403, R404, R413, R516). -/
def optWriteOk (d : Device) (level off : Nat) (v : Word) : Bool :=
  if d.on fOptStatBusy then false
  else if off = 0x14 then
    match bitsOf v 1 0 with
    | 1 => decide (2 ≤ level) && !d.sec.sealed && sectorOk (d.rd optSector).toNat
    | 2 => decide (2 ≤ level)
    | _ => false
  else true

/-- The effect of an applied OPT write. -/
def optWritten (off : Nat) (v : Word) (d : Device) : Device :=
  match off with
  | 0x14 => if bitsOf v 1 0 = 1 then d.optStart 1 else d.optApply
  | 0x16 => (d.wr optImgData 0).optImgWrite v
  | _ => d

/-! ### RST and SYS (R395, R409, R410) -/

/-- Which writes of the RST page are applied. -/
def rstWriteOk (d : Device) (off : Nat) (v : Word) : Bool :=
  match off with
  | 0x14 =>
    decide (2 ≤ fRstWdogCfgPeriod.of v)
      && !(d.on fRstWdogCfgLock && ((d.on fRstWdogCfgEn && !fRstWdogCfgEn.on v) || fRstWdogCfgPeriod.of v != d.get fRstWdogCfgPeriod))
  | 0x15 => fRstWdogKickKey.of v = 0xA5
  | _ => true

/-- The effect of an applied RST write: LOCK stays until a FULL reset, EN starts the count from PERIOD, and a kick reloads it. -/
def rstWritten (off : Nat) (old d : Device) : Device :=
  match off with
  | 0x14 =>
    let d := d.when (old.on fRstWdogCfgLock) (fun d => d.put fRstWdogCfgLock 1)
    d.when (d.on fRstWdogCfgEn && !old.on fRstWdogCfgEn) Device.wdogLoad
  | 0x15 => d.wdogLoad
  | _ => d

/-- The effect of an applied SYS write: CHIP_RST asks for a CORE reset and reads 0 (R410). -/
def sysWritten (v : Word) (d : Device) : Device :=
  let d := d.wr sysCtrl 0
  if fSysCtrlChipRst.on v then d.assertReset .chipRst else d

/-- RSTOUT_N_HIGH: 100 µs have passed since the reset began; RSTOUT_N goes high if the host island is released (R388). -/
def rstoutNHigh (d : Device) : Device :=
  if d.rst.past100 then d
  else { d with rst := { d.rst with past100 := true, rstoutHigh := !(d.island 0).held } }

/-- ISLAND_RELEASE of a page's block: 64 cycles after its BLOCK reset's release and clock-good (R393). -/
def Device.releaseBlock (d : Device) (p : Nat) : Device :=
  if d.on (fPsReleasePending p) && d.pageClock p && !(d.island (islandOf p)).held then d.put (fPsReleasePending p) 0 else d

end Sys2Proof.Machine
end

