-- ==== Sys2Proof/Machine/Reads.lean ====
section
/-!
DEFINITION. What a read returns and does: words as their owning islands hold them, the mirror's updates, and the reads that move something (R40 … R47, R287, R316, R357, R413, R432, R471).
-/
namespace Sys2Proof.Machine

/-- Pages whose IRQ_STAT shows bit `b`, or any bit: bit p for page `base + p`. -/
def Device.pagesPending (d : Device) (base lo n : Nat) (b : Option Nat) : Word :=
  BitVec.ofNat 32 ((List.range n).foldl (fun w k =>
    let s := d.rd (irqStat (base + lo + k))
    let on : Bool := d.pageLive (base + lo + k) && (match b with
      | some b => s.getLsbD b
      | none => s != 0)
    w + (if on then 2 ^ k else 0)) 0)

/-- ON time of a carrier on its present channel, in 10 µs (R206). -/
def Device.visit (d : Device) (c : Nat) : Nat :=
  let s := d.car c
  min (2 ^ 24 - 1) ((s.visitOn + (match s.onSince with
    | some b => d.stamp - b
    | none => 0)) / (10 * tideUs))

/-- A word as its owning island holds it: a register, or what the word shows of the device's state. The rounding of OCC_h is open. -/
def Device.shown (d : Device) (a : Nat) : Word × Device :=
  let p := pageOfWord a
  let o := offOfWord a
  if p = 0x12 ∧ 0x40 ≤ o ∧ o < 0x80 then
    match d.profile with
    | none => (0, d)
    | some pr => match pr.channels[o - 0x40]? with
      | none => (0, d)
      | some ch =>
        let (q, d) := d.divOpen (d.occAt pr ch.hz d.stamp) tideMs
        (BitVec.ofNat 32 (min 65535 q.toNat), d)
  else if p = 0x14 ∧ 0x40 ≤ o ∧ o < 0x60 ∧ o % 8 = 7 then (BitVec.ofNat 32 (d.visit ((o - 0x40) / 8)), d)
  else if a = calWaited then (setBits (d.rd a) 15 0 d.waitedAge, d)
  else if a = intcPendLo then (d.pendingSources.extractLsb' 0 32, d)
  else if a = intcPendHi then (d.pendingSources.extractLsb' 32 32, d)
  else if a = intcPathsLo then (d.pagesPending 0x40 0 32 none, d)
  else if a = intcPathsHi then (d.pagesPending 0x40 32 32 none, d)
  else if a = intcPilotFo then (d.pagesPending 0x20 0 20 (some 0), d)
  else if a = intcPilotImg then (d.pagesPending 0x20 0 20 (some 1), d)
  else if a = optData then (d.optWord, d)
  else if a = optImgData then (d.stagingWord, d)
  else if a = calTblData then (d.imageWord (d.get ⟨calTblAddr, 13, 0⟩), d)
  else if a = klCenData then (d.censusWord, d)
  else (d.rd a, d)

/-- Is a word a timer's capture (R471)? -/
def capWord (a : Nat) : Option Nat :=
  let p := pageOfWord a
  let o := offOfWord a
  if (p = 0x0A ∨ p = 0x0B) ∧ 0x44 ≤ o ∧ o < 0x80 ∧ o % 8 = 4 then some ((p - 0x0A) * 8 + (o - 0x40) / 8) else none

/-- The owning island sends a word to the mirror. While a write to it is pending only its read-only fields change there (R41, R47). -/
def Device.sync (d : Device) (a : Nat) : Device :=
  let (v, d) := d.shown a
  let m : Word := BitVec.ofNat 32 (rwBits (pageOfWord a) (offOfWord a) ||| w1cBits (pageOfWord a) (offOfWord a))
  let v := if d.post.any (fun x => x.addr = a) then (d.mirrored a &&& m) ||| (v &&& ~~~m) else v
  let d := d.setMirror a v
  match capWord a with
  | some k => d.modTimer k (fun t => { t with capSent := true })
  | none => d

/-- What a read of some words does beside returning the mirror's word: a data port gives its present word and moves on; TIME clears ROLL; CAP_i clears CAP_NEW where the mirror has the latest capture. -/
def Device.readEffect (d : Device) (a : Nat) : Word × Device :=
  let port (f : Device → Device) : Word × Device := let e := f d; (e.hd, { e with hd := d.hd })
  let p := pageOfWord a
  if d.pageInReset p then (d.pageWord a, d)
  else if a = optData then port optDataRead
  else if a = optImgData then port Device.optImgRead
  else if a = calTblData then port Device.tblRead
  else if a = klCenData then port Device.cenDataRead
  else if 0x20 ≤ p ∧ p < 0x34 ∧ offOfWord a = 0x13 then port (fun d => d.imgRead (p - 0x20))
  else if a = rtcTime then (d.pageWord a, { d with mirror := storePut resetWord d.mirror rtcStat (setBits (d.mirrored rtcStat) 0 0 0) })
  else match capWord a with
    | some k => (d.pageWord a, if (d.timer k).capSent then d.put (tmF fTmStatCapNew k) 0 else d)
    | none => (d.pageWord a, d)

/-- A register-window read (R32, R36, R58). -/
def Device.windowRead (d : Device) (a : Nat) : Word × Served × Device :=
  match targetOf a with
  | .page w =>
    if d.pageOff (pageOfWord w) then
      let d := d.addSat ⟨hbusOffReads, 15, 0⟩ 1
      if offOfWord w < 4 then (d.pageWord w, .ok, d) else (offValue, .off, d)
    else
      let (v, d) := d.readEffect w
      (v, .ok, d)
  | _ => (0, .unmapped, d)

end Sys2Proof.Machine
end

