-- ==== Sys2Proof/Machine/Remote.lean ====
section
/-!
DEFINITION. Register accesses that do not come from HBUS: remote page access over the cascade (R344) and register-access packets (R375, R376); and the writes of the KLOIT page.
-/
namespace Sys2Proof.Machine

/-! ### A member serves page requests (R344) -/

/-- Is a page's WPEND 1? -/
def Device.writesPend (d : Device) (p : Nat) : Bool := d.on (fPsWpend p)

/-- The answer to a page request at the front, or `none` while it must wait. -/
def Device.reqAnswer (d : Device) (r : KlReq) : Option (Word × Device) :=
  match r.op, targetOf r.addr with
  | 0, _ => let (w, _, d) := d.windowRead r.addr; some (w, d)
  | 1, .page a => (d.pageWrite a r.data 0xF#4).map (fun x => (0, x.2))
  | 1, _ => some (0, d.unmappedWrite)
  | _, .page a => if d.writesPend (pageOfWord a) then none else some (0, d)
  | _, _ => some (0, d)

/-- Serve page requests in the order they came, as far as the post queue allows. -/
def Device.serveReqs (d : Device) : Nat → Device
  | 0 => d
  | fuel + 1 =>
    match d.kl.reqs with
    | [] => d
    | r :: t =>
      match d.reqAnswer r with
      | none => d
      | some (w, d) =>
        let d := (d.modKl (fun s => { s with reqs := t })).bufferFree r.port 1 (klCost r.words)
        (d.sendUp 5 { body := .pageRsp w (d.get fKlStatDepth), cls := 1, src := d.ownNumber }).serveReqs fuel

/-- PAGE_REQ: a relay forwards it; the member it is for serves it as an access at its host island. -/
def pageReq (h : KlHead) (way : KlTo) (op : Nat) (addr : Nat) (data : Word) (d : Device) : Device :=
  d.receive h 1 false (fun d =>
    let d := d.forward h way (.pageReq op addr data) 1
    if !klMine way then d
    else
      let d := d.bufferUse h.port.val 1 (klCost h.len.val)
      let r : KlReq := { port := h.port.val, op := op, addr := addr, data := data, src := h.src.toNat, words := h.len.val }
      (d.modKl (fun s => { s with reqs := s.reqs ++ [r] })).serveReqs (d.kl.reqs.length + 1))

/-! ### Register-access packets (R375, R376) -/

/-- The entry at the front of the request in service is done. -/
def Device.entryDone (d : Device) (status : Nat) (data : Word) : Device :=
  d.modPl (fun s => { s with reqs := match s.reqs with
    | [] => []
    | r :: t => match r.entries with
      | [] => r :: t
      | e :: es => { r with entries := es, done := r.done ++ [(e.op * 2 ^ 30 + e.addr, status, data)], wait := .none } :: t })

/-- The entry at the front waits. -/
def Device.entryWait (d : Device) (w : PlWait) : Device :=
  d.modPl (fun s => { s with reqs := match s.reqs with
    | [] => []
    | r :: t => { r with wait := w } :: t })

/-- STATUS of an access served at this device. -/
def statusOf : Served → Nat
  | .ok => 0
  | .unmapped => 1
  | .off => 2

/-- Execute an entry for this device; `none` while it must wait. -/
def Device.entryLocal (d : Device) (e : PlEntry) : Option Device :=
  match e.op, targetOf e.addr with
  | 3, _ => some (d.entryDone 3 0)
  | _, .xip _ => some (d.entryDone 3 0)
  | 0, .memory a => if d.sspm.writesPending then none else some (d.entryDone 0 (d.sramWord a))
  | 0, _ => let (w, s, d) := d.windowRead e.addr; some (d.entryDone (statusOf s) w)
  | 1, .page a => (d.pageWrite a e.data 0xF#4).map (fun x => x.2.entryDone (statusOf x.1) 0)
  | 1, .memory a => some ((d.sramWrite a e.data 0xF#4).entryDone 0 0)
  | 1, .unmapped => some (d.unmappedWrite.entryDone 1 0)
  | _, .page a => if d.writesPend (pageOfWord a) then some (d.entryWait .wpend) else some (d.entryDone 0 0)
  | _, .memory _ => some (d.entryDone 0 0)
  | _, .unmapped => some (d.entryDone 1 0)

/-- Start a remote access to the members `to` (R344). -/
def Device.remoteStart (d : Device) (r : RaSt) : Device :=
  (d.modKl (fun s => { s with ra := s.ra ++ [r] })).forAll r.left (fun d n => d.sendTo n (.pageReq r.op r.addr r.data) 1 2)

/-- Execute an entry for a cascade member: register window only, through the harbourmaster (R375, R376). -/
def Device.entryRemote (d : Device) (device : Nat) (e : PlEntry) : Device :=
  if e.op = 3 ∨ 0x0100000 ≤ e.addr then d.entryDone 3 0
  else if !d.klMaster || !d.inCensus device then d.entryDone 4 0
  else (d.entryWait .remote).remoteStart { source := .link, op := e.op, addr := e.addr, data := e.data, left := [device] }

/-- The response to a request whose entries are all done (R376). -/
def Device.respond (d : Device) (r : PlReq) : Device :=
  let entry (x : Nat × Nat × Word) : List Byte := leBytes 4 (x.1 + x.2.1 * 2 ^ 26) ++ leBytes 4 x.2.2.toNat
  let payload := le16 r.device ++ [BitVec.ofNat 8 r.done.length, 0, 0, 0, 0, 0] ++ r.done.flatMap entry
  let d := (d.modPl (fun s => { s with reqs := s.reqs.drop 1 })).plReturn 0 r.credits
  d.plSend { type := 0x02, vc := 0, tag := r.tag, tide := d.stamp, payload := payload }

/-- Execute entries in order until one must wait. -/
def Device.plServe (d : Device) : Nat → Device
  | 0 => d
  | fuel + 1 =>
    match d.pl.reqs with
    | [] => d
    | r :: _ =>
      if r.wait != .none then d
      else match r.entries with
        | [] => (d.respond r).plServe fuel
        | e :: _ =>
          if r.device = 0 then match d.entryLocal e with
            | some d => d.plServe fuel
            | none => d
          else (d.entryRemote r.device e).plServe fuel

/-- Steps that can be left to serve. -/
def Device.plWork (d : Device) : Nat := d.pl.reqs.foldl (fun n r => n + r.entries.length + 1) 0

/-- Go on with the requests in service. -/
def Device.plGoOn (d : Device) : Device := d.plServe d.plWork

/-- Go on with everything that waits for the post queue. -/
def Device.followQueue (d : Device) : Device := (d.serveReqs d.kl.reqs.length).plGoOn

/-- REG_REQ: a request packet received whole and in order (R372, R376). -/
def regReq (seq tag device : Nat) (entries : List RegEntry) (d : Device) : Device :=
  if !d.linkUp || seq != d.pl.rxSeq then d
  else
    let es := entries.map (fun e => { op := e.op.toNat, addr := 4 * e.word.toNat, data := e.data : PlEntry })
    let r : PlReq := { tag := tag, device := device, entries := es, credits := plCost (1 + (32 + 8 * es.length) / 8) }
    (d.modPl (fun s => { s with rxSeq := (s.rxSeq + 1) % 65536, ackDue := true, reqs := s.reqs ++ [r] })).plGoOn

/-- REG_REQ_WAIT_END: a WAIT entry ends when WPEND is 0, or with TIMEOUT after 1 ms (R376). -/
def regReqWaitEnd (d : Device) : Device :=
  match d.pl.reqs with
  | [] => d
  | r :: _ => match r.wait, r.entries with
    | .wpend, e :: _ => (d.entryDone (if d.writesPend (e.addr / 4096) then 5 else 0) 0).plGoOn
    | _, _ => d

/-- A memory-window READ entry that still waits ends with TIMEOUT at the limit of R39. -/
def Device.entryLimit (d : Device) : Device :=
  match d.pl.reqs with
  | [] => d
  | r :: _ => match r.entries with
    | e :: _ =>
      let inMemory : Bool := match targetOf e.addr with
        | .memory _ => true
        | _ => false
      if r.device = 0 && r.wait = .none && e.op = 0 && inMemory then ((d.entryDone 5 offValue).count ⟨hbusTimeoutCount, 15, 0⟩).irq 0x05 1 else d
    | [] => d

/-! ### The harbourmaster's remote accesses (R344) -/

/-- A remote access ends with a result: 0 OK, 1 NO_DEVICE, 2 TIMEOUT. -/
def Device.remoteEnd (d : Device) (r : RaSt) (result hops : Nat) (data : Word) : Device :=
  match r.source with
  | .ra =>
    let d := d.wr klRaStat (BitVec.ofNat 32 (2 * result + 256 * hops))
    if r.op = 0 && result = 0 then d.wr klRaData data else d
  | .link => (d.entryDone (if result = 0 then 0 else if result = 1 then 4 else 5) (if r.op = 0 then data else 0)).plGoOn

/-- A write to RA_CMD starts an access (R344). -/
def Device.raStart (d : Device) (write : Bool) : Device :=
  let dev := d.get fKlRaDevDevice
  let all := d.on fKlRaDevBcast
  let addr := 4 * d.get ⟨klRaAddr, 19, 2⟩
  let targets := if !d.klMaster then []
    else if all then ((List.range 2048).drop 1).filter d.inCensus
    else if dev = 0 || !d.inCensus dev then [] else [dev]
  let r : RaSt := { source := .ra, op := write.toNat, addr := addr, data := d.rd klRaData, left := targets }
  if targets.isEmpty then d.remoteEnd r (if all && d.klMaster then 0 else 1) 0 0
  else (d.wr klRaStat 1).remoteStart r

/-- Take a member's answer to the oldest access that waits for it. -/
def answerRa (n : Nat) : List RaSt → Option (RaSt × List RaSt)
  | [] => none
  | r :: t =>
    if r.left.contains n then
      let r' := { r with left := r.left.erase n }
      some (r', if r'.left.isEmpty then t else r' :: t)
    else (answerRa n t).map (fun x => (x.1, r :: x.2))

/-- PAGE_RSP: a relay forwards it; at the harbourmaster it ends the access it answers. -/
def pageRsp (h : KlHead) (data : Word) (hops : Nat) (d : Device) : Device :=
  d.receive h 1 false (fun d =>
    if h.port.val < 2 then d
    else if !d.klMaster then d.relayUp h (.pageRsp data hops) 1
    else match answerRa h.src.toNat d.kl.ra with
      | none => d
      | some (r, rest) =>
        let d := d.modKl (fun s => { s with ra := rest })
        if r.left.isEmpty then d.remoteEnd r 0 hops data else d)

/-- RA_TIMEOUT: no response within 100 µs, for the RA registers or for the packet link. -/
def raTimeout (link : Bool) (d : Device) : Device :=
  let mine (r : RaSt) : Bool := r.source = (if link then RaSource.link else RaSource.ra)
  match d.kl.ra.find? mine with
  | none => d
  | some r => (d.modKl (fun s => { s with ra := s.ra.erase r })).remoteEnd r 2 0 0

/-- RESET_DEV and RESET_SUBTREE send a RESET frame to RA_DEV. -/
def Device.sendReset (d : Device) (subtree : Bool) : Device :=
  let n := d.get fKlRaDevDevice
  if n = 0 || !d.inCensus n then d else d.sendTo n (.reset subtree) 0 1

/-! ### Writes of the KLOIT page (R357, R358) -/

/-- Which writes of the KLOIT page are applied. -/
def klWriteOk (d : Device) (off : Nat) (v : Word) : Bool :=
  match off with
  | 0x10 =>
    (List.range 16).all (fun n => v.getLsbD (16 + n) = d.on ⟨klCtrl, 16 + n, 16 + n⟩ || d.sesState n = 0)
      && !(d.klMaster && decide (bitsOf v 15 8 < d.highestFormat) && bitsOf v 15 8 != d.get fKlCtrlHostFormat)
  | 0x13 =>
    let a := bitsOf v 2 0
    a != 0 && a != 7 && (a = 6 || d.get (fPsState 0x1C) = 0) && (d.klMaster || decide (5 ≤ a))
      && !(a = 4 && bitsOf v 13 8 = 0) && !(a = 5 && d.portState 0 != 6)
  | 0x17 | 0x18 | 0x19 => !d.on fKlRaStatBusy
  | 0x1A => !d.on fKlRaStatBusy && !(v.getLsbD 0 && (v.getLsbD 1 || d.on fKlRaDevBcast))
  | 0x1C => decide (10 ≤ bitsOf v 15 4)
  | 0x20 => d.carriersOff && decide (1 ≤ bitsOf v 14 8) && decide (bitsOf v 14 8 ≤ 64)
  | _ => if 0x40 ≤ off ∧ off < 0x54 ∧ off % 4 = 0 then portUsed d.klRole (d.get fKlStatDownPorts) ((off - 0x40) / 4) else true

/-- The effect of an applied KLOIT write; `old` is the device before it, `finds` what the members of a group report. -/
def klWritten (off : Nat) (v : Word) (finds : KlGroupFinds) (old d : Device) : Device :=
  match off with
  | 0x10 => d.forAll (List.range 16) (fun d n =>
      if d.on ⟨klCtrl, 16 + n, 16 + n⟩ = old.on ⟨klCtrl, 16 + n, 16 + n⟩ then d else { d with ringSent := d.ringSent.setIfInBounds n 0 })
  | 0x13 => match bitsOf v 2 0 with
    | 1 => d.censusStart
    | 2 => d.sendReset false
    | 3 => d.sendReset true
    | 4 => d.groupStart (bitsOf v 13 8) finds
    | 5 => d.failback
    | _ => d.klAbort
  | 0x1A => if v.getLsbD 0 then d.raStart false else if v.getLsbD 1 then d.raStart true else d
  | 0x1F => if v.getLsbD 2 then d.trigFire (bitsOf v 1 0) else d
  | 0x20 => d.groupWritten old
  | 0x24 =>
    let d := d.when (v.getLsbD 0) (fun d => d.wr klCounts 0)
    d.when (v.getLsbD 1) (fun d => d.forAll (List.range 5) (fun d k => d.wr (klPerr k) 0))
  | _ =>
    if 0x40 ≤ off ∧ off < 0x54 ∧ off % 4 = 0 then
      (if v.getLsbD 0 then d.portEnable ((off - 0x40) / 4) else d.portDisable ((off - 0x40) / 4))
    else d

end Sys2Proof.Machine
end

