-- ==== Sys2Proof/Machine/Rtc.lean ====
section
/-!
DEFINITION. The real-time clock and its backup supply (R429 … R452).
-/
namespace Sys2Proof.Machine

/-- Two BCD digits as a number. -/
def unBcd (b : Nat) : Nat := b / 16 * 10 + b % 16

/-- A number below 100 as two BCD digits. -/
def toBcd (n : Nat) : Nat := n / 10 % 10 * 16 + n % 10

/-- Both digits at most 9. -/
def bcdOk (b : Nat) : Bool := decide (b % 16 ≤ 9) && decide (b / 16 ≤ 9)

/-- The Gregorian leap-year rule (R429). -/
def leapYear (y : Nat) : Bool := y % 4 = 0 && (y % 100 != 0 || y % 400 = 0)

/-- The length of a month. -/
def monthDays (y m : Nat) : Nat :=
  if m = 2 then (if leapYear y then 29 else 28) else if m = 4 ∨ m = 6 ∨ m = 9 ∨ m = 11 then 30 else 31

/-- The year a DATE word names. -/
def dateYear (w : Word) : Nat := 100 * unBcd (fRtcDateCentury.of w) + unBcd (fRtcDateYear.of w)

/-- A TIME word with every field in range (R434). -/
def timeOk (w : Word) : Bool :=
  bcdOk (fRtcTimeSeconds.of w) && decide (unBcd (fRtcTimeSeconds.of w) ≤ 59)
    && bcdOk (fRtcTimeMinutes.of w) && decide (unBcd (fRtcTimeMinutes.of w) ≤ 59)
    && bcdOk (fRtcTimeHours.of w) && decide (unBcd (fRtcTimeHours.of w) ≤ 23)
    && decide (fRtcTimeWeekday.of w ≤ 6)

/-- A DATE word with every field in range (R434). -/
def dateOk (w : Word) : Bool :=
  let dd := unBcd (fRtcDateDay.of w)
  let m := unBcd (fRtcDateMonth.of w)
  bcdOk (fRtcDateDay.of w) && bcdOk (fRtcDateMonth.of w) && bcdOk (fRtcDateYear.of w) && bcdOk (fRtcDateCentury.of w)
    && decide (1 ≤ m) && decide (m ≤ 12) && decide (1 ≤ dd) && decide (dd ≤ monthDays (dateYear w) m)
    && decide (20 ≤ unBcd (fRtcDateCentury.of w)) && decide (unBcd (fRtcDateCentury.of w) ≤ 29)

/-- A DATE word from its parts. -/
def mkDate (y m dd : Nat) : Word :=
  BitVec.ofNat 32 (toBcd dd + toBcd m * 2 ^ 8 + toBcd (y % 100) * 2 ^ 16 + toBcd (y / 100) * 2 ^ 24)

/-- The day after a date; 2999-12-31 is followed by 2000-01-01 (R429). -/
def nextDate (w : Word) : Word :=
  let y := dateYear w
  let m := unBcd (fRtcDateMonth.of w)
  let dd := unBcd (fRtcDateDay.of w)
  if dd < monthDays y m then mkDate y m (dd + 1)
  else if m < 12 then mkDate y (m + 1) 1
  else if y < 2999 then mkDate (y + 1) 1 1 else mkDate 2000 1 1

/-- A TIME word from its parts. -/
def mkTime (s m h wd : Nat) : Word :=
  BitVec.ofNat 32 (toBcd s + toBcd m * 2 ^ 8 + toBcd h * 2 ^ 16 + wd * 2 ^ 24)

/-- The time one second later, and whether midnight passed; the weekday advances at midnight, 6 to 0 (R430). -/
def nextTime (w : Word) : Word × Bool :=
  let s := unBcd (fRtcTimeSeconds.of w)
  let m := unBcd (fRtcTimeMinutes.of w)
  let h := unBcd (fRtcTimeHours.of w)
  let wd := fRtcTimeWeekday.of w
  if s < 59 then (mkTime (s + 1) m h wd, false)
  else if m < 59 then (mkTime 0 (m + 1) h wd, false)
  else if h < 23 then (mkTime 0 0 (h + 1) wd, false)
  else (mkTime 0 0 0 (if wd = 6 then 0 else wd + 1), true)

/-- The calendar advances by one second. -/
def Device.calendarTick (d : Device) : Device :=
  let (t, mid) := nextTime (d.rd rtcTime)
  (d.wr rtcTime t).when mid (fun d => d.wr rtcDate (nextDate (d.rd rtcDate)))

/-- Point `i` of the curve. -/
def RtcSt.point (r : RtcSt) (i : Nat) : Int := r.curve.getD i 0

/-- C(T): the curve interpolated linearly, its end values beyond its ends; the rounding between points is open (R437). -/
def Device.rtcCurve (d : Device) (t : Int) : Int × Device :=
  let r := d.rtc
  let last := r.curve.length - 1
  if r.curve.isEmpty then (0, d)
  else if t ≤ r.tFirst then (r.point 0, d)
  else
    let i := ((t - r.tFirst) / r.tStep).toNat
    if last ≤ i then (r.point last, d)
    else
      let a := r.point i
      let (q, d) := d.divOpen ((r.point (i + 1) - a) * (t - r.tFirst - (i : Int) * r.tStep)) r.tStep.toNat
      (a + q, d)

/-- RATE.E shows E = C(T) + TRIM as now in effect; a value 16 bits cannot hold is left open (R437). -/
def Device.showRate (d : Device) : Device := d.putFit fRtcRateE (d.rtc.cNow + d.rtc.trimNow)

/-- RTC_TEMP_MEASURE: every 16 s the sensor measures T and E is recomputed; the tide bridge averages the values computed in a sleep (R437, R457). -/
def rtcTempMeasure (t : Int) (d : Device) : Device :=
  let (c, d) := d.rtcCurve t
  let d := ({ d with rtc := { d.rtc with cNow := c } }.putSat fRtcRateT t).showRate
  if d.frozen then
    { d with pwr := { d.pwr with eSum := d.pwr.eSum + d.getS fRtcRateE, eCount := d.pwr.eCount + 1 } }
  else d

/-- The compensation at a second's end: the accumulator gains E × 32,768 × 10^-8 cycles in steps of 2^-24; a whole cycle lengthens or shortens the next second (R441). -/
def Device.compensate (d : Device) : Device :=
  let (q, d) := d.divOpen (d.getS fRtcRateE * 32768 * 2 ^ 24) (10 ^ 8)
  let a := d.rtc.acc + q
  if (2 : Int) ^ 24 ≤ a then { d with rtc := { d.rtc with acc := a - 2 ^ 24, secLen := 32769 } }
  else if a ≤ -(2 : Int) ^ 24 then { d with rtc := { d.rtc with acc := a + 2 ^ 24, secLen := 32767 } }
  else { d with rtc := { d.rtc with acc := a, secLen := 32768 } }

/-- Show the seconds that remain to the periodic wake. -/
def Device.showWakeLeft (d : Device) : Device :=
  d.put fRtcWakeLeftLeft (d.get fRtcWakePeriod - d.rtc.wakeCount)

/-- The count of whole seconds: at P it records WAKE, makes a wake edge and restarts (R436). -/
def Device.wakeTick (d : Device) : Device :=
  let p := d.get fRtcWakePeriod
  if d.rtc.wakeRestart ∨ p = 0 then
    { d with rtc := { d.rtc with wakeCount := 0, wakeRestart := false } }.showWakeLeft
  else if p ≤ d.rtc.wakeCount + 1 then
    (({ d with rtc := { d.rtc with wakeCount := 0 } }.irq 0x08 0).wakeEdge 4).showWakeLeft
  else { d with rtc := { d.rtc with wakeCount := d.rtc.wakeCount + 1 } }.showWakeLeft

/-- Does the clock count: HALT = 0 and the rail above VAON_LOSS (R435, R445)? -/
def Device.rtcCounts (d : Device) : Bool := !d.on fRtcCtrlHalt && !d.rtc.railLow

/-- RTC_SECOND: a compensated second ends (R431, R436, R441, R450). A new TRIM applies now; so does a new OUT_SEL. -/
def rtcSecond (d : Device) : Device :=
  if !d.rtcCounts then d
  else
    let d := { d with rtc := { d.rtc with trimNow := signedOf 16 (d.get fRtcTrimTrim) } }.showRate
    let d := ((d.put fRtcSubsecCount 0).calendarTick).compensate.wakeTick
    let sel := d.get fRtcCtrlOutSel
    { d with rtc := { d.rtc with outSel := sel, outHigh := sel = 1 && d.pwr.phase != .laidUp } }

/-- RTC_OUT_FALL: the 1 Hz output falls 16,384 ACLK cycles after the second's start (R450). -/
def rtcOutFall (d : Device) : Device :=
  if !d.rtcCounts then d
  else
    let d := d.put fRtcSubsecCount 16384
    if d.rtc.outSel = 1 then { d with rtc := { d.rtc with outHigh := false } } else d

/-- STAT.CHARGING: native mode, CHG_EN, not on backup, 10 ms after main power's return, and VBAK not yet at CHG_V (R447, R449). -/
def Device.showCharging (d : Device) : Device :=
  d.putB fRtcStatCharging (!d.on fRtcStatMode && d.on fRtcCtrlChgEn && !d.on fRtcStatOnBackup
    && d.rtc.chgReady && !d.rtc.vbakFull)

/-- The write lockout begins (R447). -/
def Device.lockoutBegin (d : Device) : Device := d.put fRtcStatLockout 1

/-- A power-on or brown-out source asserts: in JH1604-compatible mode the lockout begins (R447). -/
def Device.lockoutOnSupply (d : Device) : Device := d.when (d.on fRtcStatMode) Device.lockoutBegin

/-- BACKUP_SWITCH_TO_VBAK: the rail is fed from VBAK; the lockout begins in both modes (R442, R447). -/
def backupToVbak (d : Device) : Device :=
  { (d.put fRtcStatOnBackup 1).lockoutBegin with rtc := { d.rtc with chgReady := false } }.showCharging

/-- BACKUP_SWITCH_TO_AON: main power returns; in native mode the lockout ends at once (R442, R447). -/
def backupToAon (d : Device) : Device :=
  if !d.on fRtcStatOnBackup then d
  else ((d.put fRtcStatOnBackup 0).when (!d.on fRtcStatMode) (fun d => d.put fRtcStatLockout 0)).showCharging

/-- LOCKOUT_END: in JH1604-compatible mode the lockout ends 10 ms after main power's return, in native mode at the return (R447). -/
def lockoutEnd (d : Device) : Device := if d.on fRtcStatOnBackup then d else d.put fRtcStatLockout 0

/-- CHARGER_START: 10 ms after main power's return the charger may run (R444, R447). -/
def chargerStart (d : Device) : Device :=
  if d.on fRtcStatOnBackup then d else { d with rtc := { d.rtc with chgReady := true } }.showCharging

/-- The voltage CHG_V names, in mV. -/
def chgMv (n : Nat) : Nat := match n with | 0 => 2500 | 1 => 3000 | _ => 3300

/-- CHARGER_THRESHOLD: VBAK, in mV, reaches CHG_V and the charger stops; 50 mV below CHG_V it restarts (R449). -/
def chargerThreshold (mv : Nat) (d : Device) : Device :=
  let v := chgMv (d.get fRtcCtrlChgV)
  let full := if v ≤ mv then true else if mv + 50 ≤ v then false else d.rtc.vbakFull
  { d with rtc := { d.rtc with vbakFull := full } }.showCharging

/-- The voltage VBAK_THR names, in mV. -/
def vbakThrMv (n : Nat) : Nat := match n with | 0 => 2000 | 1 => 2400 | 2 => 2700 | _ => 3000

/-- VBAK_CHECK: once a second VBAK, in mV, is compared with the threshold; a fall below it is an event (R443). -/
def vbakCheck (mv : Nat) (d : Device) : Device :=
  let low := decide (mv < vbakThrMv (d.get fRtcCtrlVbakThr))
  (d.putB fRtcStatVbakLow low).when (low && !d.on fRtcStatVbakLow) (fun d => d.irq 0x08 2)

/-- VAON_LOSS: the time is lost (R445); CTRL, TRIM and WAKE are kept. -/
def vaonLoss (d : Device) : Device :=
  let d := (((d.wr rtcTime 0).wr rtcDate 0x20000101).put fRtcSubsecCount 0).put fRtcStatLost 1
  let d := { d with rtc := { d.rtc with acc := 0, wakeCount := 0, railLow := true, secLen := 32768 }
                    pwr := { d.pwr with lostInSleep := d.pwr.lostInSleep || d.frozen } }
  d.showWakeLeft.irq 0x08 1

/-- VAON_LOSS_RELEASE: the rail is above 1.50 V and counting resumes (R445). -/
def vaonLossRelease (d : Device) : Device := { d with rtc := { d.rtc with railLow := false } }

/-- Which writes of the RTC page are applied (R434, R452); the lockout of R448 is checked for every word of the page. -/
def rtcWriteOk (d : Device) (off : Nat) (v : Word) : Bool :=
  if off = 0x10 then
    fRtcCtrlOutSel.of v != 3 && fRtcCtrlChgV.of v != 3 && fRtcCtrlChgR.of v != 3
      && !(fRtcCtrlChgEn.on v && d.on fRtcStatMode)
  else if off = 0x12 then d.on fRtcCtrlHalt && timeOk v
  else if off = 0x13 then d.on fRtcCtrlHalt && dateOk v
  else if off = 0x17 then
    let t := signedOf 16 (bitsOf v 15 0)
    decide (-20000 ≤ t) && decide (t ≤ 20000)
  else true

/-- The effect of an applied RTC write: HALT freezes or clears the prescaler, WAKE restarts its count at the next second, the charger follows at once (R435, R436, R452). -/
def rtcWritten (off : Nat) (v : Word) (old d : Device) : Device :=
  if off = 0x10 then
    let d := d.when (old.on fRtcCtrlHalt && !fRtcCtrlHalt.on v) (fun d =>
      { d.put fRtcSubsecCount 0 with rtc := { d.rtc with secLen := 32768 } })
    let d := d.when (fRtcCtrlHalt.on v) (fun d => { d with rtc := { d.rtc with outHigh := false } })
    d.showCharging
  else if off = 0x15 then { d with rtc := { d.rtc with wakeRestart := true } }
  else d

end Sys2Proof.Machine
end

