-- ==== Sys2Proof/Machine/Sleep.lean ====
section
/-!
DEFINITION. Entering and leaving MOORED and LAID_UP, and the wake sources (R414 … R424).
-/
namespace Sys2Proof.Machine

/-- Every lane of the packet link stops (R419). -/
def Device.lanesStop (d : Device) : Device :=
  let d := (d.forAll d.pl.adm.reverse Device.streamEnd).linkFresh
  let d := d.forAll (List.range 5) (fun d l => if d.laneState l = 0 then d else d.laneGo l 0)
  let d := (d.forAll (List.range 4) Device.vacate).forAll (List.range 4) (fun d vc => d.put (fTxCred vc) 0)
  ((d.put fPlCapCap 0).put (fPsState 0x1B) 0).modPl (fun s => { s with retrain := false, retry := 0 })

/-- PREPARE_DONE: ports and lanes have drained, the tide is latched and stops, timers and watchdog are frozen (R419 step 2, R457). -/
def prepareDone (d : Device) : Device :=
  if d.pwr.phase != .prepare then d
  else
    let d := d.portsStop.lanesStop
    { d with pwr := { d.pwr with phase := .prepared, t0 := d.tide, eStart := d.getS fRtcRateE, eSum := 0, eCount := 0, lostInSleep := false, bridging := true } }

/-- ENTRY_WINDOW_OPEN: the host island is off from the window's first cycle (R419 step 3). -/
def entryWindowOpen (d : Device) : Device :=
  if d.pwr.phase != .prepared then d
  else { d.setIsland 0 { held := true, pending := false } with pwr := { d.pwr with phase := .window }, bus := none }

/-- Is every bank of a list retained (R416)? -/
def Device.retained (d : Device) (l : List Nat) : Bool := l.all (fun b => (d.rd pwrRetain).getLsbD b)

/-- Every page of the paths takes its BLOCK reset values (R416). -/
def Device.pathsFresh (d : Device) : Device :=
  d.forAll (List.range 64) (fun d p => (((d.resetBlockWords (0x40 + p)).resetIrqWords (0x40 + p)).modPath p PathSt.kept).showSpares p)

/-- Pilot images are lost: every pilot that is not DEAD reloads from the boot source, and checkpoints with them (R416). -/
def Device.pilotsLost (d : Device) : Device :=
  let d := d.forAll ((List.range 20).filter (fun p => d.pilState p != 8)) (fun d p =>
    ((((d.put (fPilStatResult p) 0).put (fPilStatSlot p) 3).modPil p (fun _ => {})).pilGo p 0).put (fPcEn (0x20 + p)) 0)
  let d := d.forAll (List.range 16) (fun d n => d.modSes n (fun s => { s with ckA := { bad := true }, ckB := { bad := true } }))
  d.bootBegin

/-- Calibration results are lost, and the repair tables are rebuilt from the map (R285, R416). -/
def Device.calLost (d : Device) : Device :=
  let d := (d.applyChange .invalidate).modRep (fun r => { r with elems := Vector.replicate 64 {}, rows := [] })
  (((d.wr repDeadLo 0).wr repDeadHi 0).put fRepPoolsDeadPaths 0).applyMap

/-- What is lost with the domains and the banks that are not retained; at exit these take the values of R416. -/
def Device.unpowered (d : Device) : Device :=
  let old := d
  let d := ((((d.put fSynStatPLock 0).put fSynStatSLock 0).put fSynStatSCal 0).put fClkGoodPilot 0).put fClkGoodConv 0
  let d := d.put fClkGoodDsp 0
  let d := d.forAll [0, 1, 2, 3] (fun d i => d.setIsland i { held := true, pending := false })
  let d := d.initBanks (fun b => (old.rd pwrRetain).getLsbD b && !(decide (6 ≤ b) && decide (b ≤ 9)))
  let d := bfBlockReset old (((d.pathsFresh).resetBlockWords 0x16).resetIrqWords 0x16)
  let d := d.when (!old.retained [0, 1]) (fun d => { d.resetBlockWords 0x19 with ringSent := Vector.replicate 16 0 })
  let d := d.when (!old.retained [2, 3, 4, 5]) manBlockReset
  let d := d.when (!old.retained [12, 13]) Device.calLost
  d.when (!old.retained [10, 11]) Device.pilotsLost

/-- The wake is recognised: WAKE_SRC, and the exit begins (R423 steps 1 and 2); the watchdog reloads (R395). -/
def Device.exitBegin (d : Device) (src : BitVec 11) (cycles : Nat) (atEntry : Bool) : Device :=
  let d := d.put fPwrWakeSrcSource (d.get fPwrWakeSrcSource ||| src.toNat)
  let d := (d.when atEntry (fun d => d.put fPwrWakeSrcAtEntry 1)).wr pwrLastSleep (BitVec.ofNat 32 (min cycles (2 ^ 32 - 1)))
  let d := { d with pwr := { d.pwr with phase := .exiting, latched := 0, edges := 0 } }.wdogLoad
  (((d.askRelease 1).askRelease 0).askRelease 2).askRelease 3

/-- ENTRY_WINDOW_CLOSE: domains and banks are off; LAID_UP, or the wake check and MOORED or an exit at once (R419 steps 4 and 5, R420, R422). -/
def entryWindowClose (d : Device) : Device :=
  if d.pwr.phase != .window then d
  else
    let layUp := d.pwr.layUp
    let d := d.unpowered
    if layUp then d.layDown
    else
      let d := ((d.put fPwrStatLast 1).count fPwrCountsMoorings)
      let src := d.pwr.latched ||| d.wakeLevels
      if src = 0 then { d with pwr := { d.pwr with phase := .moored } } else d.exitBegin src 0 true

/-- A wake source beside the RTC, the sleep timer and harbour watch (R421). -/
def wakeInputEvent (e : WakeEvent) (d : Device) : Device :=
  match e with
  | .pin k high => d.wakePinChange k.val high
  | .hostSelect => d.wakeEdge 7
  | .sspsSelect => d.wakeEdge 8
  | .laneSignal => d.wakeEdge 9
  | .portSignal => d.wakeEdge 10

/-- SLEEP_TIMER_EXPIRY: the timer has run since the window's close (R421). -/
def sleepTimerExpiry (d : Device) : Device :=
  if d.pwr.phase = .moored && (d.rd pwrSleepTimer).toNat % 2 ^ 24 != 0 then d.wakeEdge 5 else d

/-- WAKE_RECOGNISED at an ACLK edge, `cycles` after the window's close (R421, R423). -/
def wakeRecognised (cycles : Nat) (d : Device) : Device :=
  let src := d.pwr.edges ||| d.wakeLevels
  if d.pwr.phase = .moored && src != 0 then d.exitBegin src cycles false else d

end Sys2Proof.Machine
end

