-- ==== Sys2Proof/Machine/Ssps.lean ====
section
/-!
DEFINITION. The serial slave port and its mailbox (R500 … R507).
-/
namespace Sys2Proof.Machine

/-- The distance between two free-running 7-bit indices. -/
def index7 (a b : Nat) : Nat := (a + 128 - b) % 128

/-- Entries in the RX FIFO (R505). -/
def Device.rxLevel (d : Device) : Nat := index7 ((d.rd sspsRxWr).toNat % 128) ((d.rd sspsRxRd).toNat % 128)

/-- Entries in the TX FIFO (R505). -/
def Device.txLevel (d : Device) : Nat := index7 ((d.rd sspsTxWr).toNat % 128) ((d.rd sspsTxRd).toNat % 128)

/-- Is SSPS_ATTN asserted (R506)? -/
def Device.attn (d : Device) : Bool :=
  d.on fSspsAttnSet || (d.get fSspsThrAttnTx != 0 && decide (d.get fSspsThrAttnTx ≤ d.txLevel))

/-- The level at the SSPS_ATTN ball (R506). -/
def Device.attnBall (d : Device) : Bool := d.attn != d.on fSspsCfgAttnLow

/-- Make STAT show the FIFO levels, and record MAILBOX where the RX level rose to THR.RX or the TX level fell to THR.TX; `old` is the device before the change (R506). -/
def Device.sspsLevels (d old : Device) : Device :=
  let rx := d.rxLevel
  let tx := d.txLevel
  let thr := d.get fSspsThrRx
  let low := d.get fSspsThrTx
  let rise := decide (old.rxLevel < thr) && decide (thr ≤ rx)
  let fall := decide (low < old.txLevel) && decide (tx ≤ low)
  ((d.put fSspsStatRxLevel rx).put fSspsStatTxLevel tx).when (rise || fall) (fun d => d.irq 0x0E 0)

/-- Bits per word. -/
def Device.sspsBits (d : Device) : Nat := 8 * 2 ^ d.get fSspsCfgWord

/-- A frame flag is set; each setting records FRAMING (R503). -/
def Device.sspsFlag (d : Device) (f : Fld) : Device := (d.put f 1).irq 0x0E 1

/-- The status byte (R501). -/
def Device.sspsStatus (d : Device) : Byte :=
  let fw := d.get fSspsCfgFrameWords
  let room := decide (fw + d.rxLevel ≤ 64)
  let ready := decide (fw ≤ d.txLevel)
  let err := bitsOf (d.rd sspsStat) 19 16 != 0
  BitVec.ofNat 8 (room.toNat + 2 * ready.toNat + 4 * d.attn.toNat + 8 * err.toNat + 0xA0)

/-- SSPS_SELECT_ASSERT: in MOORED it is a wake edge and the frame is not received; otherwise the status byte is captured (R501, R504). -/
def sspsSelect (d : Device) : Device :=
  if d.frozen then d.wakeEdge 8
  else if !d.pageLive 0x0E then d
  else { d with ssps := { frame := true, status := d.sspsStatus } }

/-- The number a list of bits spells, most significant first. -/
def msbNat (bits : List Bool) : Nat := bits.foldl (fun n b => 2 * n + b.toNat) 0

/-- A received word enters the RX FIFO, or finds it full (R502). -/
def Device.sspsPush (d : Device) (w : Nat) : Device :=
  if d.rxLevel < 64 then
    let i := (d.rd sspsRxWr).toNat % 128
    (d.wr (sspsRxWin (i % 64)) (BitVec.ofNat 32 w)).wr sspsRxWr (BitVec.ofNat 32 ((i + 1) % 128))
  else d.sspsFlag fSspsStatRxOvf

/-- The next TX word was sent whole and leaves the FIFO; an empty FIFO is left alone (R502). -/
def Device.sspsPop (d : Device) : Device :=
  if d.txLevel = 0 then d
  else d.wr sspsTxRd (BitVec.ofNat 32 (((d.rd sspsTxRd).toNat + 1) % 128))

/-- SSPS_SELECT_RELEASE: the frame's bits, one per edge, most significant first, settle the FIFOs and the frame flags (R502, R503). Words begun from an empty TX FIFO set TX_UNDER. -/
def sspsRelease (mosi : List Bool) (d : Device) : Device :=
  if !d.ssps.frame || !d.pageLive 0x0E then { d with ssps := { d.ssps with frame := false } }
  else
    let old := d
    let edges := mosi.length
    let wb := d.sspsBits
    let fw := d.get fSspsCfgFrameWords
    let header := msbNat (mosi.take 8)
    let push := header % 2 = 1
    let pop := header / 2 % 2 = 1
    let data := (mosi.drop 8).take (wb * fw)
    let whole := data.length / wb
    let begun := (data.length + wb - 1) / wb
    let d := if push then d.forAll (List.range whole) (fun d i => d.sspsPush (msbNat ((data.drop (i * wb)).take wb))) else d
    let d := if pop && decide (old.txLevel < begun) then d.sspsFlag fSspsStatTxUnder else d
    let d := if pop then d.forAll (List.range whole) (fun d _ => d.sspsPop) else d
    let d := if edges < 8 + wb * fw then d.sspsFlag fSspsStatRxPartial else d
    let d := if 8 + wb * fw < edges then d.sspsFlag fSspsStatOverclock else d
    ({ d with ssps := { d.ssps with frame := false } }.addWrap (fWord sspsFrames) 1).sspsLevels old

/-- Which writes of the SSPS page are applied (R505, R507). -/
def sspsWriteOk (d : Device) (off : Nat) (v : Word) : Bool :=
  if off = 0x10 then
    !d.ssps.frame && fSspsCfgWord.of v != 3 && decide (1 ≤ fSspsCfgFrameWords.of v) && decide (fSspsCfgFrameWords.of v ≤ 64)
  else if off = 0x11 then
    decide (1 ≤ fSspsThrRx.of v) && decide (fSspsThrRx.of v ≤ 64) && decide (fSspsThrTx.of v ≤ 63)
      && decide (fSspsThrAttnTx.of v ≤ 64)
  else if off = 0x14 then decide (index7 (v.toNat % 128) ((d.rd sspsRxRd).toNat % 128) ≤ d.rxLevel)
  else if off = 0x15 then
    let t := index7 (v.toNat % 128) ((d.rd sspsTxRd).toNat % 128)
    decide (d.txLevel ≤ t) && decide (t ≤ 64)
  else true

/-- The effect of an applied SSPS write: moved indices and thresholds show at once; `old` is the device before the write (R505, R506). -/
def sspsWritten (off : Nat) (old d : Device) : Device :=
  if off = 0x14 ∨ off = 0x15 then d.sspsLevels old else d

/-- A BLOCK reset empties both FIFOs, their indices being block registers, and ends the frame (R507). -/
def sspsBlockReset (d : Device) : Device := { d with ssps := {} }

end Sys2Proof.Machine
end

