-- ==== Sys2Proof/Machine/Watch.lean ====
section
/-!
DEFINITION. Harbour watch (R425 … R428).
-/
namespace Sys2Proof.Machine

/-- WATCH.STAT.STATE. -/
def Device.watchState (d : Device) : Nat := d.get fWatchStatState

/-- Move to a state; a run towards a transition starts afresh, and LEARNING forms a new mean (R426, R428). -/
def Device.watchGo (d : Device) (s : Nat) : Device :=
  let d := ((d.put fWatchStatState s).put (fPsState 0x1E) s).put fWatchStatRun 0
  if s = 1 then { d with watch := { d.watch with sumI := 0, sumQ := 0, looks := 0 } } else d

/-- Does a field keep the watch from looking: a carrier not OFF, or a CAL procedure (R426)? -/
def Device.watchBarred (d : Device) : Bool := !d.carriersOff || d.on fCalStatBusy

/-- SUSPENDED is entered and left; a look in progress is abandoned and counted (R426). -/
def Device.followWatch (d : Device) : Device :=
  let s := d.watchState
  if decide (1 ≤ s) && decide (s ≤ 3) && d.watchBarred then
    let d := d.when d.watch.looking (fun d => d.count fWatchCountsAbandoned)
    let off := d.watch.stopDue
    { d with watch := { d.watch with looking := false, stopDue := false } }.watchGo (if off then 0 else 4)
  else if s = 4 && !d.watchBarred then d.watchGo 1
  else d

/-- The CW frequency in Hz that CH and FINE name (R425). -/
def watchHz (ch : Nat) (fine : Int) : Int := 860000000 + 100000 * (ch : Int) + fine

/-- May EN = 1 be applied with channel `ch` (R427)? -/
def Device.watchOk (d : Device) (ch : Nat) : Bool :=
  let pulse := d.get fWatchCfgPulse
  let period := d.get fWatchCfgPeriod
  match d.profile with
  | none => false
  | some p =>
    p.channels.any (fun x => (x.hz : Int) = watchHz ch (d.getS fWatchFineFine))
      && decide (10 * (d.get fWatchCfgSettle + pulse) + 20 ≤ 10000 * period)
      && !(p.occupancy && decide (1000 * (p.occLimit * period) < 100 * (pulse * p.occWindow)))

/-- Which writes of the WATCH page are applied (R427, R428). -/
def watchWriteOk (d : Device) (off : Nat) (v : Word) : Bool :=
  let en := d.on fWatchCtrlEn
  match off with
  | 0x10 =>
    let ch := fWatchCtrlCh.of v
    decide (ch ≤ 1000) && (if en then ch = d.get fWatchCtrlCh else !fWatchCtrlEn.on v || d.watchOk ch)
  | 0x11 =>
    let level := fWatchCfgLevel.sOf v
    !en && decide (1 ≤ fWatchCfgPeriod.of v) && decide (-120 ≤ level) && decide (level ≤ -40)
      && decide (10 ≤ fWatchCfgPulse.of v) && decide (30 ≤ fWatchCfgSettle.of v)
  | 0x12 =>
    !en && decide (20 ≤ fWatchDetThr.of v) && decide (1 ≤ fWatchDetConfirm.of v) && decide (1 ≤ fWatchDetQuiet.of v)
      && decide (1 ≤ fWatchDetBaseTau.of v) && decide (fWatchDetBaseTau.of v ≤ 12) && decide (1 ≤ fWatchDetLearn.of v)
  | 0x17 => !en && decide ((fWatchFineFine.sOf v).natAbs ≤ 50000)
  | _ => true

/-- The effect of an applied WATCH write: EN = 1 starts LEARNING, EN = 0 goes to OFF at the end of the look in progress (R426). -/
def watchWritten (off : Nat) (d : Device) : Device :=
  match off with
  | 0x10 =>
    if d.on fWatchCtrlEn then (if d.watchState = 0 then d.watchGo 1 else d)
    else if d.watch.looking then { d with watch := { d.watch with stopDue := true } }
    else d.watchGo 0
  | 0x16 => (d.wr watchCounts 0).wr watchCntClr 0
  | _ => d

/-- A BLOCK reset stops the watch at once (R428). -/
def watchBlockReset (d : Device) : Device := { d with watch := {} }.put (fPsState 0x1E) 0

/-- WATCH_LOOK_START: the watch drives its CW (R425). -/
def watchLookStart (d : Device) : Device :=
  let s := d.watchState
  if decide (1 ≤ s) && decide (s ≤ 3) && !d.watch.looking && d.pwr.phase != .laidUp then { d with watch := { d.watch with looking := true } } else d

/-- c of a look, in 0.01 dB (R425): `dist` is |r − b|² and `base` is |b|²; `none` where the formula gives nothing. -/
def watchChange (dist base : Nat) : Option Int :=
  if base = 0 ∧ dist = 0 then none
  else if base = 0 then some 0
  else if dist = 0 then some (fxOf 25400)
  else some (-(fxDb20 (fxDiv (fxOf dist) (fxOf base)) / 2))

/-- A look in LEARNING: b is the mean of LEARN looks (R426). -/
def Device.watchLearn (d : Device) (r : Word) : Device :=
  let d := { d with watch := { d.watch with sumI := d.watch.sumI + (r.extractLsb' 0 16).toInt, sumQ := d.watch.sumQ + (r.extractLsb' 16 16).toInt, looks := d.watch.looks + 1 } }
  if d.watch.looks < d.get fWatchDetLearn then d
  else
    let (i, d) := d.divOpen d.watch.sumI d.watch.looks
    let (q, d) := d.divOpen d.watch.sumQ d.watch.looks
    ((d.putS fWatchBaseI i).putS fWatchBaseQ q).watchGo 2

/-- The baseline moves towards r (R426). -/
def Device.watchTrack (d : Device) (ri rq : Int) : Device :=
  let k := 2 ^ d.get fWatchDetBaseTau
  let (i, d) := d.divOpen (ri - d.getS fWatchBaseI) k
  let (q, d) := d.divOpen (rq - d.getS fWatchBaseQ) k
  (d.putS fWatchBaseI (d.getS fWatchBaseI + i)).putS fWatchBaseQ (d.getS fWatchBaseQ + q)

/-- One more look of a run towards the next state; the run is complete at `n`. -/
def Device.watchRun (d : Device) (n next : Nat) : Device :=
  let k := d.get fWatchStatRun + 1
  if k < n then d.put fWatchStatRun k
  else
    let d := d.watchGo next
    d.when (next = 3) (fun d => (d.count fWatchCountsDetections).irq 0x1E 0)

/-- c of a look, a free value where the formula gives nothing (R425). -/
def Device.changeOf (d : Device) (dist base : Nat) : Int × Device :=
  match watchChange dist base with
  | some c => (c, d)
  | none => (fxOf (d.takeFree.1.toNat % 25500), d.takeFree.2)

/-- The change `c` of the response (ri, rq) is shown and moves the state (R426). -/
def Device.watchJudge (d : Device) (c ri rq : Int) : Device :=
  let x := d.divOpen c (25 * 2 ^ 64)
  let d := x.2.put fWatchStatChange (clampInt 0 254 x.1).toNat
  let thr : Int := d.get fWatchDetThr
  let near := decide (c ≤ fxOf (25 * thr) + fxEps)
  let far := decide (fxOf (25 * thr + 300) - fxEps ≤ c)
  if d.watchState = 2 then
    let d := d.when far (fun d => d.watchTrack ri rq)
    if near then d.watchRun (d.get fWatchDetConfirm) 3 else d.put fWatchStatRun 0
  else if far then d.watchRun (d.get fWatchDetQuiet) 2
  else d.put fWatchStatRun 0

/-- The change between the response (ri, rq) and the baseline decides (R425). -/
def Device.watchCompare (d : Device) (ri rq : Int) : Device :=
  let bi := d.getS fWatchBaseI
  let bq := d.getS fWatchBaseQ
  let sq (x y : Int) : Nat := (x * x + y * y).toNat
  let x := d.changeOf (sq (ri - bi) (rq - bq)) (sq bi bq)
  x.2.watchJudge x.1 ri rq

/-- WATCH_LOOK_DECISION: 10 µs after the pulse c is computed from the mean response r and the state moves (R425, R426). -/
def watchLookDecision (r : Word) (d : Device) : Device :=
  if !d.watch.looking then d
  else
    let stop := d.watch.stopDue
    let d := { d with watch := { d.watch with looking := false, stopDue := false } }
    if stop then d.watchGo (if d.on fWatchCtrlEn then 1 else 0)
    else if d.watchState = 1 then d.watchLearn r
    else d.watchCompare (r.extractLsb' 0 16).toInt (r.extractLsb' 16 16).toInt

end Sys2Proof.Machine
end

