-- ==== Sys2Proof/Machine/Apply.lean ====
section
/-!
DEFINITION. Posted writes as they take effect in their islands (R45 … R48, R54, R55, R61 … R67, R391), and what the device keeps true between commands.
-/
namespace Sys2Proof.Machine

/-! ### Page by page -/

/-- Which writes of block registers the pages themselves ignore. -/
def Device.blockWriteOk (d : Device) (p off level : Nat) (v : Word) : Bool :=
  if 0x20 ≤ p ∧ p < 0x34 then pilWriteOk d (p - 0x20) off v
  else if 0x40 ≤ p ∧ p < 0x80 then pathWriteOk off v
  else if 0x80 ≤ p ∧ p < 0x90 then sesWriteOk d (p - 0x80) off v
  else match p with
    | 0x01 => rstWriteOk d off v
    | 0x03 => pwrWriteOk d off v
    | 0x04 => intcWriteOk off v
    | 0x05 => !(off = 0x10 && (bitsOf v 1 0 = 0 || bitsOf v 1 0 = 3))
    | 0x06 => secWriteOk d level off v
    | 0x07 => optWriteOk d level off v
    | 0x08 => rtcWriteOk d off v
    | 0x0A | 0x0B => tmWriteOk d p off v
    | 0x0C => hkWriteOk d off v
    | 0x0D => sspmWriteOk d off v
    | 0x0E => sspsWriteOk d off v
    | 0x0F => pinsWriteOk off v
    | 0x10 => calWriteOk d off v
    | 0x11 => repWriteOk d level off v
    | 0x12 => reglWriteOk d off v
    | 0x13 => coexWriteOk d off v
    | 0x14 => carWriteOk d off v
    | 0x15 => txsWriteOk d off v
    | 0x16 => bfWriteOk d off v
    | 0x17 => !(off = 0x10 && decide (10 < bitsOf v 3 0))
    | 0x18 => schedWriteOk off v
    | 0x19 => ringWriteOk d off v
    | 0x1A => manWriteOk d off v
    | 0x1B => plWriteOk d off v
    | 0x1C => klWriteOk d off v
    | 0x1D => synWriteOk d off v
    | 0x1E => watchWriteOk d off v
    | _ => true

/-- COUNT_CLR of the HBUS page (R69). -/
def hbusWritten (off : Nat) (v : Word) (d : Device) : Device :=
  if off != 0x17 then d
  else
    let d := d.when (v.getLsbD 8) (fun d => d.wr (ignCount (bitsOf v 7 0)) 0)
    let d := d.when (v.getLsbD 9) (fun d => (d.forAll (List.range 256) (fun d p => d.wr (ignCount p) 0)).wr hbusLastIgn 0)
    let d := d.when (v.getLsbD 10) (fun d => (d.wr hbusOffCount 0).wr hbusOffReads 0)
    let d := d.when (v.getLsbD 11) (fun d => d.wr hbusUnmappedCount 0)
    d.when (v.getLsbD 12) (fun d => (d.wr hbusTimeoutCount 0).put fHbusStatQpeak 0)

/-- What an applied write of a block register starts; `old` is the device before it, `finds` what a GROUP_CAL would find of its members. -/
def Device.blockWritten (d old : Device) (p off : Nat) (v : Word) (finds : KlGroupFinds) : Device :=
  if 0x20 ≤ p ∧ p < 0x34 then pilWritten (p - 0x20) off v d
  else if 0x40 ≤ p ∧ p < 0x80 then pathWritten (p - 0x40) off (old.rd (wordAt p off)) v d
  else if 0x80 ≤ p ∧ p < 0x90 then sesWritten (p - 0x80) off v d
  else match p with
    | 0x00 => if off = 0x10 then sysWritten v d else d
    | 0x01 => rstWritten off old d
    | 0x03 => pwrWritten off v d
    | 0x05 => hbusWritten off v d
    | 0x06 => secWritten off v d
    | 0x07 => optWritten off v d
    | 0x08 => rtcWritten off v old d
    | 0x09 => tideWritten off v d
    | 0x0A | 0x0B => tmWritten p off v old d
    | 0x0C => hkWritten off v d
    | 0x0D => sspmWritten off v d
    | 0x0E => sspsWritten off old d
    | 0x0F => pinsWritten off v d
    | 0x10 => calWritten off v d
    | 0x11 => repWritten off v d
    | 0x12 => reglWritten off v d
    | 0x14 => carWritten off v d
    | 0x15 => txsWritten off v d
    | 0x16 => bfWritten off v d
    | 0x18 => schedWritten off d
    | 0x19 => ringWritten off d
    | 0x1A => manWritten off v d
    | 0x1B => plWritten off v old d
    | 0x1C => klWritten off v finds old d
    | 0x1D => synWritten off v d
    | 0x1E => watchWritten off d
    | _ => d

/-! ### Enable, shutdown and BLOCK reset -/

/-- Is a page a PATH page; a SESSION page; a PILOT page? -/
def isPath (p : Nat) : Bool := decide (0x40 ≤ p) && decide (p < 0x80)
def isSes (p : Nat) : Bool := decide (0x80 ≤ p) && decide (p < 0x90)
def isPil (p : Nat) : Bool := decide (0x20 ≤ p) && decide (p < 0x34)

/-- EN = 1 takes effect: the enable sequence starts, or is queued behind a shutdown (R64, R66). -/
def Device.enableStart (d : Device) (p : Nat) : Device :=
  let st := d.get (fPsState p)
  if isPath p then
    (if st = 0 then d.pathStart (p - 0x40)
    else if d.on (fPsShuttingDown p) || st = 10 then d.put (fPsEnq p) 1 else d)
  else if isSes p then
    (if st = 0 then d.sesStart (p - 0x80)
    else if d.on (fPsShuttingDown p) then d.put (fPsEnq p) 1 else d)
  else if isPil p then d.pilEnable (p - 0x20)
  else d

/-- EN = 0 takes effect: a queued re-enable is cancelled, or a running function's shutdown starts (R65 … R67). -/
def Device.enableStop (d : Device) (p : Nat) (was : Bool) : Device :=
  if isPil p then d.pilDisable (p - 0x20)
  else if d.on (fPsEnq p) then d.put (fPsEnq p) 0
  else if !was || d.on (fPsShuttingDown p) || d.get (fPsState p) = 0 then d
  else if isPath p then d.pathStop (p - 0x40)
  else if isSes p then d.sesStop (p - 0x80)
  else d

/-- What a BLOCK reset does at a page's block before its registers change. -/
def Device.blockStop (d : Device) (p : Nat) : Device :=
  if isPath p then pathBlockReset (p - 0x40) d
  else if isSes p then sesBlockReset (p - 0x80) d
  else match p with
    | 0x0A | 0x0B => tmBlockReset p d
    | 0x0C => hkBlockReset d
    | 0x0E => sspsBlockReset d
    | 0x0F => pinsBlockReset d
    | 0x14 => carBlockReset d
    | 0x15 => txsBlockReset d
    | 0x1A => manBlockReset d
    | 0x1B => plBlockReset d
    | _ => d

/-- What follows once the page's registers hold their BLOCK reset values; `old` is the device before the reset. -/
def Device.blockFresh (d old : Device) (p : Nat) : Device :=
  if isPath p then d.showSpares (p - 0x40)
  else if isSes p then
    let n := p - 0x80
    (d.put (fSesStatPilot n) (old.get (fSesStatPilot n))).showStreams.reglChanged
  else match p with
    | 0x0C => d.hkShow
    | 0x0D => sspmBlockReset d
    | 0x10 => calBlockReset old d
    | 0x14 => d.showStreams.reglChanged
    | 0x16 => bfBlockReset old d
    | 0x17 => d.forAll ((List.range 16).filter d.sesEnabled) (fun d n => d.noiseRestart n true true)
    | 0x18 => d.groupsStale
    | 0x19 => { d with ringSent := Vector.replicate 16 0 }.forAll (List.range 16) (fun d n => (d.ringLevel n).ringFreed n)
    | 0x1A => d.manLevel
    | 0x1E => watchBlockReset d
    | _ => d

/-- A page's block takes its BLOCK reset values at once (R391). -/
def Device.blockReset (d : Device) (p : Nat) : Device :=
  let n := ((d.blockStop p).resetBlockWords p).resetIrqWords p
  let n := ((n.put (fPsBusy p) 0).put (fPsEnq p) 0).put (fPsShuttingDown p) 0
  n.blockFresh d p

/-- BLK_RST = 1 applied; on the SSPM page it waits for the end of a transfer on the wire (R391, R490). -/
def Device.blockHold (d : Device) (p : Nat) : Device :=
  let d := d.put (fPsReleasePending p) 0
  if p = 0x0D && d.sspmOnWire then { d with sspm := { d.sspm with resetDue := true } }
  else d.blockReset p

/-- Which writes of PAGE_CTRL are applied (R54, R306, R318, R391, R516). -/
def Device.pageCtrlOk (d : Device) (p level : Nat) (v : Word) : Bool :=
  let en := v.getLsbD 0
  let rst := v.getLsbD 1
  let fed := v.getLsbD 2 && v.getLsbD 3
  !(en && !fed) && (fed || !(d.on (fPcEn p) || d.on (fPsShuttingDown p)))
    && !(rst && !pageResettable p) && !(rst && p = 0x16 && !d.sessionsOff)
    && !(en && (isPath p || isSes p) && level = 0) && !(en && isPath p && d.pathDead (p - 0x40))
    && !(isPil p && (d.pilState (p - 0x20) = 8 || !d.pilEnOk (p - 0x20) en))

/-- An applied write of PAGE_CTRL. A block held in BLOCK reset keeps EN = 0, its reset value. -/
def Device.pageCtrlWrite (d : Device) (p : Nat) (v : Word) : Device :=
  let was := d.rd (pageCtrl p)
  let rst := v.getLsbD 1
  let d := d.wr (pageCtrl p) (if rst then v &&& 0xE else v &&& 0xF)
  let d := if rst then (if was.getLsbD 1 then d.put (fPsReleasePending p) 0 else d.blockHold p)
    else if was.getLsbD 1 then d.put (fPsReleasePending p) 1 else d
  let d := d.when (isPath p && was.getLsbD 3 && !v.getLsbD 3) (fun d => d.blockReset p)
  if d.pageInReset p then d
  else if v.getLsbD 0 then d.enableStart p
  else d.enableStop p (was.getLsbD 0)

/-- A block leaves its BLOCK reset, and an EN = 1 written while it was pending takes effect. -/
def Device.blockRelease (d : Device) (p : Nat) : Device :=
  let n := d.releaseBlock p
  if d.on (fPsReleasePending p) && !n.on (fPsReleasePending p) && n.on (fPcEn p) then n.enableStart p else n

/-- An island leaves reset, and EN = 1 written to its pages while it was held takes effect. -/
def Device.islandRelease (d : Device) (i cycles : Nat) : Device :=
  let n := d.releaseIsland i cycles
  if (d.island i).held && !(n.island i).held then
    n.forAll ((List.range 256).filter (fun p => islandOf p = i && (isPath p || isSes p))) (fun d p =>
      if d.on (fPcEn p) && !d.pageInReset p then d.enableStart p else d)
  else n

/-! ### A write takes effect -/

/-- Does a write need a level, and which (R516)? -/
def Device.needsLevel (p off : Nat) (v : Word) : Bool :=
  let rwl := match regInfo p off with
    | some r => decide (r.rwl ≠ 0)
    | none => false
  (rwl && decide (1 ≤ pageWriteLevel p)) || (off = 2 && v.getLsbD 0 && (isPath p || isSes p))
    || (p = 0x06 && off = 0x17) || (p = 0x07 && off = 0x14) || (p = 0x11 && off = 0x12 && bitsOf v 3 0 = 4)

/-- Is a posted write applied, or ignored under R62? -/
def Device.writeOk (d : Device) (x : Posted) : Bool :=
  let p := pageOfWord x.addr
  let off := offOfWord x.addr
  let rwl := match regInfo p off with
    | some r => decide (r.rwl ≠ 0)
    | none => false
  x.be = 0xF#4 && writable p off &&
  (if off = 2 then d.pageCtrlOk p x.level x.value
  else !d.pageInReset p && !d.pageOff p && !(rwl && decide (x.level < pageWriteLevel p))
    && !(p = 0x08 && d.on fRtcStatLockout) && !(isPil p && d.pilState (p - 0x20) = 8)
    && (decide (off < 16) || d.blockWriteOk p off x.level x.value))

/-- An ignored write (R62, R63). -/
def Device.ignored (d : Device) (a : Nat) : Device :=
  let p := pageOfWord a
  let off := offOfWord a
  let d := (d.count (fIgnCountCount p)).put (fIgnCountLastOffset p) off
  (((d.put fHbusLastIgnPage p).put fHbusLastIgnOffset off).irq 0x05 2).sync a

/-- An applied write of IRQ_EN: a bit set while its level bit is 1 records an event (R55). -/
def Device.irqEnWrite (d : Device) (p : Nat) (v : Word) : Device :=
  let old := d.rd (irqEn p)
  let d := d.wr (irqEn p) (v &&& BitVec.ofNat 32 (irqBits p))
  d.forAll ((List.range 32).filter (fun b => (v &&& ~~~old).getLsbD b && (d.rd (irqRaw p)).getLsbD b)) (fun d b => d.irq p b)

/-- The effect of an applied write. -/
def Device.writeEffect (d : Device) (x : Posted) (finds : KlGroupFinds) : Device :=
  let p := pageOfWord x.addr
  let off := offOfWord x.addr
  let m : Word := BitVec.ofNat 32 (irqBits p)
  match off with
  | 2 => d.pageCtrlWrite p x.value
  | 5 => d.irqEnWrite p x.value
  | 6 => d.wr (irqStat p) (d.rd (irqStat p) &&& ~~~x.value)
  | 7 => d.wr (irqStat p) (d.rd (irqStat p) ||| (x.value &&& m))
  | _ => (d.store x.addr x.value).blockWritten d p off x.value finds

/-- A posted write reaches its block (R46, R62, R63, R522). -/
def Device.applyWord (d : Device) (x : Posted) (finds : KlGroupFinds) : Device :=
  if d.writeOk x then
    let d := d.writeEffect x finds
    (d.when (Device.needsLevel (pageOfWord x.addr) (offOfWord x.addr) x.value && d.level != 0) Device.idleRestart).sync x.addr
  else d.ignored x.addr

/-- The first posted write of island `i`, and the others. -/
def takePosted (i : Nat) : List Posted → Option (Posted × List Posted)
  | [] => none
  | x :: t => if islandOf (pageOfWord x.addr) = i then some (x, t) else (takePosted i t).map (fun r => (r.1, x :: r.2))

/-- Does island `i` take posted writes: its clock runs? -/
def Device.islandTakes (d : Device) (i : Nat) : Bool := i = 0 || i = 4 || d.clockGood i

/-- The oldest posted write of an island takes effect (R45). -/
def Device.applyNext (d : Device) (i : Nat) (finds : KlGroupFinds) : Device :=
  if !d.islandTakes i then d
  else match takePosted i d.post with
    | none => d
    | some (x, rest) => ({ d with post := rest }.showQueue).applyWord x finds

/-- Every posted write of an island takes effect, in order. -/
def Device.drainIsland (d : Device) (i : Nat) (finds : KlGroupFinds) : Nat → Device
  | 0 => d
  | n + 1 => (d.applyNext i finds).drainIsland i finds n

/-! ### Between commands -/

/-- Level bits of IRQ_RAW follow their conditions (R55, R129, R159, R509). -/
def Device.followLevels (d : Device) : Device :=
  let d := d.forAll (List.range 16) (fun d n => d.when (!d.pageInReset 0x19) (fun d => d.ringLevel n))
  let d := d.when (!d.pageInReset 0x1A) (fun d => d.manLevel)
  d.when (!d.pageInReset 0x04) (fun d => d.irqLevel 0x04 0 (d.rd intcSupplyStat != 0))

/-- SYNTH.STAT.S_HOLD: a relay or leaf whose reference is lost holds SYNTH_S (R342, R412). -/
def Device.followHold (d : Device) : Device :=
  d.putB fSynStatSHold (d.klMember && (d.get fKlStatSync = 3 || d.get fKlStatSync = 4))

/-- A SNAPSHOT stream ends with the descriptor it serves. -/
def Device.followStreams (d : Device) : Device :=
  d.forAll d.pl.adm (fun d s => match s with
    | .snap n => if (d.sess n).run.any (fun (x : Desc) => x.byte 0 = 0x15 && x.byte 4 = 1) then d else d.streamEnd s
    | _ => d)

/-- PAGE_STAT.BUSY of the pages whose own registers show an activity (R52): option memory, calibration, repair, coefficients, manifest commands, port access and band calibration. -/
def Device.followBusy (d : Device) : Device :=
  let d := (d.putB (fPsBusy 0x07) (d.on fOptStatBusy)).putB (fPsBusy 0x10) (d.on fCalStatBusy)
  let d := (d.putB (fPsBusy 0x11) (d.get (fPsState 0x11) != 0)).putB (fPsBusy 0x16) (d.on fBfWtStatBusy)
  let d := (d.putB (fPsBusy 0x1A) (d.on fManCmdStatBusy)).putB (fPsBusy 0x1C) (d.on fKlRaStatBusy)
  d.putB (fPsBusy 0x1D) (d.bandCal != .none)

/-- What holds between commands: everything the spec says follows a condition at once. -/
def Device.settle (d : Device) : Device :=
  let d := d.followPower.followWatch.followHostClock.followHold.followCoex.followCal
  let d := d.showDpdValid.followFormat.followGroup.followQueue.followStreams.showUrgent
  d.followBusy.followLevels.followInterrupts

/-- A command ends: the device settles. -/
def done (d : Device) (s : State) : Host.Outcome State Fault Refusal := .next { s with dev := d.settle }

/-- A command whose effect on the device is `f`. -/
def act (f : Device → Device) (s : State) : Host.Outcome State Fault Refusal := done (f s.dev) s

end Sys2Proof.Machine
end

