-- ==== Sys2Proof/Machine/HostBus.lean ====
section
/-!
DEFINITION. HBUS accesses as commands (R29 … R44, R57 … R60), the register writes that have a row of their own, and the events at balls that no block owns alone.
-/
namespace Sys2Proof.Machine

/-- Are the HBUS balls in use: STRAP_5 selects a control interface set with HBUS (R21, R399)? -/
def Device.hbusOn (d : Device) : Bool := decide (d.strap 5 ≤ 1)

/-- Can an HBUS access start: the host island runs and no access is in progress (R30)? -/
def Device.hostReady (d : Device) : Bool := !(d.island 0).held && d.hbusOn && d.bus.isNone

/-- An HBUS register write ends and is posted, or waits for the post queue (R43). -/
def Device.hostWrite (d : Device) (a : Nat) (v : Word) (be : BitVec 4) : Device :=
  if !d.hostReady then d
  else match d.pageWrite a v be with
    | some r => r.2
    | none => { d with bus := some (.posted { addr := a, value := v, be := be, level := d.level }) }

/-- An HBUS register write with its effect: it is posted, and its island takes everything posted to it, in order. -/
def Device.ownWrite (d : Device) (a : Nat) (v : Word) (be : BitVec 4) (finds : KlGroupFinds) : Device :=
  if !d.hostReady then d
  else match d.pageWrite a v be with
    | some (.ok, d) => d.drainIsland (islandOf (pageOfWord a)) finds d.post.length
    | some (_, d) => d
    | none => { d with bus := some (.posted { addr := a, value := v, be := be, level := d.level }) }

/-- Nothing found of any member. -/
def noFinds : KlGroupFinds := { notIdle := [], noProfile := [], noPaths := [] }

/-- A register write as it comes. -/
def Device.hostSend (d : Device) (a : Nat) (w : RegWrite) : Device := d.ownWrite a w.value w.be noFinds

/-- A value with one of its fields set. -/
def Fld.set (f : Fld) (v : Word) (n : Nat) : Word := setBits v f.hi f.lo n

/-- A register write whose field `f` carries `n`. -/
def Device.hostCmd (d : Device) (w : RegWrite) (f : Fld) (n : Nat) : Device := d.ownWrite f.reg (f.set w.value n) w.be noFinds

/-- A register write whose field `f` carries `n` and whose other bits are 0. -/
def Device.hostBit (d : Device) (f : Fld) (n : Nat) : Device := d.ownWrite f.reg (f.set 0 n) 0xF#4 noFinds

/-- A register write that changes field `f` to `n` and writes the rest of the word as it reads. -/
def Device.hostChange (d : Device) (f : Fld) (n : Nat) : Device := d.ownWrite f.reg (f.set (d.mirrored f.reg) n) 0xF#4 noFinds

/-- A register write that no row of its own describes (R36, R44). -/
def Device.registerWrite (d : Device) (page off : Nat) (w : RegWrite) : Device :=
  if (pageKind page).isSome then d.hostWrite (wordAt page off) w.value w.be
  else if d.hostReady then d.unmappedWrite else d

/-- A write that finds no window (R36). -/
def Device.hostUnmapped (d : Device) : Device := if d.hostReady then d.unmappedWrite else d

/-- A write of the manifest window, whatever its address (R155). -/
def Device.manifestDiscard (d : Device) : Device := if d.hostReady then d.addSat ⟨manWriteDiscard, 15, 0⟩ 1 else d

/-- A register-window read: its value is on HD (R32). -/
def Device.hostRead (d : Device) (a : Nat) : Device :=
  if !d.hostReady then d
  else
    let r := d.windowRead (4 * a)
    { r.2.2 with hd := r.1 }

/-- A read of an off page (R58). -/
def Device.offRead (d : Device) (page off : Nat) : Device :=
  if (pageKind page).isSome && d.pageOff page then d.hostRead (wordAt page off) else d

/-- A paced read of an SRAM window begins; it ends at once unless it must wait (R37, R38). What its check finds is taken up as the read begins (R302); the data are the stored ones. -/
def Device.memRead (d : Device) (addr : Nat) (find : WordFind) : Device :=
  match targetOf addr with
  | .memory a => if d.hostReady then ({ d with bus := some (.memRead a) }.serveBus).readFound a find else d
  | _ => d

/-- A paced write of an SRAM window (R37). -/
def Device.memWrite (d : Device) (addr : Nat) (w : RegWrite) : Device :=
  match targetOf addr with
  | .memory a => if d.hostReady then d.sramWrite a w.value w.be else d
  | _ => d

/-- A read of the direct-execute window; with the window off it reads as an unpowered one (R60, R495, R496). -/
def Device.windowXipRead (d : Device) (addr : Nat) : Device :=
  match targetOf addr with
  | .xip a =>
    if !d.hostReady then d
    else if d.xipOn then d.xipReadBegin a
    else { d.addSat ⟨hbusOffReads, 15, 0⟩ 1 with hd := offValue }
  | _ => d

/-- A write of the direct-execute window; with the window off it is discarded and counted (R60, R495, R497). -/
def Device.windowXipWrite (d : Device) (addr : Nat) (w : RegWrite) : Device :=
  match targetOf addr with
  | .xip a =>
    if !d.hostReady then d
    else if d.xipOn then d.xipWriteBegin a w.value w.be
    else d.offWrite 0xFF
  | _ => d

/-- HRDY_N has been high for WAIT_LIM × 16 periods (R39); or the limit ends a memory entry of the packet link (R376). -/
def Device.waitLimit (d : Device) (link : Bool) : Device :=
  if d.get fHbusCtrlWaitLim = 0 then d
  else if link then d.entryLimit.plGoOn
  else match d.bus with
    | none => d
    | some x =>
      let d := ({ d with bus := none }.count ⟨hbusTimeoutCount, 15, 0⟩).irq 0x05 1
      match x with
      | .memRead _ => { d with hd := offValue }
      | .xipRead _ => { d with hd := offValue }
      | .posted _ => d
      | .xipWrite _ _ _ => d

/-- A post-queue entry has freed, and the HBUS write that waited for it ends (R43). -/
def Device.queueFreed (d : Device) : Device :=
  match d.bus with
  | some (.posted x) => if d.postRoom then { d with bus := none }.enqueue { x with level := d.level } else d
  | _ => d

/-- The acknowledgement of a page's applied writes reaches the host island (R46). -/
def Device.writeAck (d : Device) (p : Nat) : Device :=
  if d.post.any (fun x => pageOfWord x.addr = p) then d else d.put (fPsWpend p) 0

/-- What PATH_p measures of the noise on carrier `c` (R257): the level while the carrier is ON, and the age. -/
def Device.noiseWord (d : Device) (p c : Nat) (v : Word) : Device :=
  let a := pathNoise p c
  if d.pageOff (0x40 + p) || d.pageInReset (0x40 + p) then d
  else if d.carState c = 6 then d.wr a v
  else d.put ⟨a, 31, 16⟩ (bitsOf v 31 16)

/-- The owning island sends words of a page to the mirror (R41, R42); `noise` is what a NOISE_c word among them measures now. -/
def Device.mirrorSend (d : Device) (p : Nat) (offs : List (Fin 1024)) (noise : Word) : Device :=
  d.forAll offs (fun d o =>
    let d := if isPath p ∧ 0x24 ≤ o.val ∧ o.val < 0x28 then d.noiseWord (p - 0x40) (o.val - 0x24) noise else d
    if (pageKind p).isSome then d.sync (wordAt p o.val) else d)

/-- A shutdown completes (R66). -/
def Device.shutdownEnd (d : Device) (x : ShutdownOf) : Device :=
  match x with
  | .path p => powerDownEnd p.val d
  | .session n => sessionShutdownComplete n.val d
  | .pilot p => if (d.pil p.val).moveOff then moveComplete (d.pilSes p.val) d else d
  | .carrier c => if (d.car c.val).stopDue then rampDownEnd c.val d else d
  | .lane l => plDrainEnd l.val d
  | .port k => klDrainEnd k.val d

/-- TRIG_IN_EDGE: the level at TRIG_IN_k has changed and held for 10 ns (R118, R343, R479, R547). -/
def Device.trigIn (d : Device) (k : Nat) (high : Bool) : Device :=
  if d.on ⟨pinsLevels, k, k⟩ = high then d
  else
    let d := (d.putB ⟨pinsLevels, k, k⟩ high).triggerEdge k high
    d.when high (fun d => ((d.hkTriggerFrom (k + 1)).trigOutFrom k 2).trigInForward k)

/-- An instruction of the test port (R529). -/
def Device.jtag (d : Device) (g : JtagGroup) : Device :=
  match g with
  | .basic => d
  | .extest => { d with extest := true }.interlock
  | .selnum => if d.sec.sealed then tamperEvent 4 d else d

/-- An access to OPT.IMG_DATA, a write or a read (R413). -/
def Device.imgDataAccess (d : Device) (w : Option RegWrite) : Device :=
  match w with
  | some w => d.hostSend optImgData w
  | none => d.hostRead optImgData

/-- ISLAND_RELEASE (R393). -/
def Device.releaseTo (d : Device) (x : ReleaseTo) : Device :=
  match x with
  | .island i cycles => d.islandRelease i.val cycles
  | .block p => d.blockRelease p.val

/-- The code of a pilot fault in STAT.CAUSE (R316). -/
def pilotCauseCode : PilotCause → Nat
  | .stall => 1
  | .parity => 2
  | .ecc => 3

/-- The word of a ring a row RING_CONFIG_WRITE names. -/
def ringWordOf (n : Nat) : RingWord → Nat
  | .cfg => ringCfg n
  | .cbase => ringCbase n
  | .mbase => ringMbase n

/-- The word of INTC a row INTC_CONFIG_WRITE names. -/
def intcWordOf : IntcWord → Nat
  | .enLo => intcEnLo
  | .enHi => intcEnHi
  | .outCfg => intcOutCfg
  | .route i => intcRoute i.val

end Sys2Proof.Machine
end

