-- ==== Sys2Proof/Machine/BeamRows.lean ====
section
/-!
DEFINITION. The rows of beamforming (R160 … R193): one meaning for each.
-/
namespace Sys2Proof.Machine

/-- WEIGHTS_TAKE_EFFECT (R133): Admitted transmit weights take effect at the session's quiet point. -/
def execWeightsTakeEffect (n : Fin 16) (s : State) : Host.Outcome State Fault Refusal :=
  act (fun (d : Device) => weightsTakeEffect n.val d) s

/-- GROUP_RECOMPUTE (R178): Isolation and overlap groups are recomputed within 8 µs of a weight, level, session or ISO_MIN change. -/
def execGroupRecompute (s : State) : Host.Outcome State Fault Refusal :=
  act (fun (d : Device) => groupRecompute d) s

/-- WT_FETCH (R166): WT_CMD FETCH copies a table entry into the stage. -/
def execWtFetch (s : State) : Host.Outcome State Fault Refusal :=
  act (fun (d : Device) => d.hostBit fBfWtCmdAction 1) s

/-- WT_COMMIT (R167): WT_CMD COMMIT checks the stage and copies it into an entry or sets MALFORMED. -/
def execWtCommit (s : State) : Host.Outcome State Fault Refusal :=
  act (fun (d : Device) => d.hostBit fBfWtCmdAction 2) s

/-- WT_ERASE (R166): WT_CMD ERASE clears an entry's VALID bit. -/
def execWtErase (s : State) : Host.Outcome State Fault Refusal :=
  act (fun (d : Device) => d.hostBit fBfWtCmdAction 3) s

/-- WT_FETCH_LIVE (R166): WT_CMD FETCH_LIVE copies a session's weights in effect into the stage. -/
def execWtFetchLive (s : State) : Host.Outcome State Fault Refusal :=
  act (fun (d : Device) => d.hostBit fBfWtCmdAction 4) s

/-- WT_ACTION_DONE (R166): A weight-table action ends and WT_STAT.BUSY clears. -/
def execWtActionDone (s : State) : Host.Outcome State Fault Refusal :=
  act (fun (d : Device) => wtActionDone d) s

/-- DIRECTION_ESTIMATE (R182): A queued direction estimate is computed from the detection snapshot. -/
def execDirectionEstimate (z : List (BitVec 32 × BitVec 32)) (noise : BitVec 64) (s : State) : Host.Outcome State Fault Refusal :=
  act (fun (d : Device) => directionEstimate z noise d) s

/-- SURVEY_SECTOR (R187): The survey moves to the next sector, steering and seeking admission. -/
def execSurveySector (n : Fin 16) (s : State) : Host.Outcome State Fault Refusal :=
  act (fun (d : Device) => surveySector n.val d) s

/-- BF_CLEAR_DIR_COUNT (R191): BF.CNT_CLR.DIR clears DIR_COUNT. -/
def execBfClearDirCount (s : State) : Host.Outcome State Fault Refusal :=
  act (fun (d : Device) => d.hostBit fBfCntClrDir 1) s

end Sys2Proof.Machine
end

