-- ==== Sys2Proof/Machine/BusRows.lean ====
section
/-!
DEFINITION. The rows of the host bus and the register pages (R29 … R70, R391, R393): one meaning for each.
-/
namespace Sys2Proof.Machine

/-- REGISTER_WRITE (R44): A host write to a register that has no row of its own ends, updates the mirror and enters the post queue. -/
def execRegisterWrite (page : Fin 256) (off : Fin 1024) (w : RegWrite) (s : State) : Host.Outcome State Fault Refusal :=
  act (fun (d : Device) => d.registerWrite page.val off.val w) s

/-- UNMAPPED_WRITE (R36): A write to an unmapped address or reserved page is discarded, counted and raises UNMAPPED. -/
def execUnmappedWrite (s : State) : Host.Outcome State Fault Refusal :=
  act (fun (d : Device) => d.hostUnmapped) s

/-- OFF_PAGE_READ (R58): A read of a page whose clock or power is off returns 0x0FF0_0FF0 beyond the header and increments OFF_READS. -/
def execOffPageRead (page : Fin 256) (off : Fin 1024) (s : State) : Host.Outcome State Fault Refusal :=
  act (fun (d : Device) => d.offRead page.val off.val) s

/-- MEMORY_WINDOW_READ (R38): A paced read of ring memory, manifest or berth waits for earlier memory-window writes and then returns data. -/
def execMemoryWindowRead (word : BitVec 24) (find : WordFind) (s : State) : Host.Outcome State Fault Refusal :=
  act (fun (d : Device) => d.memRead (4 * word.toNat) find) s

/-- MEMORY_WINDOW_WRITE (R37): A paced write to a memory window is accepted with any byte enables once the bank takes it. -/
def execMemoryWindowWrite (word : BitVec 24) (w : RegWrite) (s : State) : Host.Outcome State Fault Refusal :=
  act (fun (d : Device) => d.memWrite (4 * word.toNat) w) s

/-- WAIT_LIMIT_EXPIRY (R39): HRDY_N high for WAIT_LIM x 16 periods ends the access, returning 0x0FF0_0FF0 or discarding the write. -/
def execWaitLimitExpiry (link : Bool) (s : State) : Host.Outcome State Fault Refusal :=
  act (fun (d : Device) => d.waitLimit link) s

/-- POST_QUEUE_ENTRY_FREED (R43): An HBUS write waiting on a full post queue ends when an entry frees. -/
def execPostQueueEntryFreed (s : State) : Host.Outcome State Fault Refusal :=
  act (fun (d : Device) => d.queueFreed) s

/-- POSTED_WRITE_APPLIED (R46): A posted write arrives in its owning island and takes effect in the block. -/
def execPostedWriteApplied (isl : Fin 5) (finds : KlGroupFinds) (s : State) : Host.Outcome State Fault Refusal :=
  act (fun (d : Device) => d.applyNext isl.val finds) s

/-- WRITE_ACK_RECEIVED (R46): The owning island's acknowledgement reaches the host island and WPEND clears. -/
def execWriteAckReceived (page : Fin 256) (s : State) : Host.Outcome State Fault Refusal :=
  act (fun (d : Device) => d.writeAck page.val) s

/-- MIRROR_UPDATE (R41): The owning island sends whole words to the mirror, multi-word values in one host-island cycle. -/
def execMirrorUpdate (page : Fin 256) (offs : List (Fin 1024)) (noise : Word) (s : State) : Host.Outcome State Fault Refusal :=
  act (fun (d : Device) => d.mirrorSend page.val offs noise) s

/-- IRQ_SET_WRITE (R55): A 1 written to IRQ_SET sets the matching IRQ_STAT bit whatever IRQ_EN holds. -/
def execIrqSetWrite (page : Fin 256) (w : RegWrite) (s : State) : Host.Outcome State Fault Refusal :=
  act (fun (d : Device) => d.hostSend (irqSet page.val) w) s

/-- IRQ_STAT_CLEAR (R48): A W1C to IRQ_STAT clears only what is set when the write is applied. -/
def execIrqStatClear (page : Fin 256) (w : RegWrite) (s : State) : Host.Outcome State Fault Refusal :=
  act (fun (d : Device) => d.hostSend (irqStat page.val) w) s

/-- IRQ_EN_WRITE (R55): Setting an IRQ_EN bit whose level bit is already 1 records an event. -/
def execIrqEnWrite (page : Fin 256) (w : RegWrite) (s : State) : Host.Outcome State Fault Refusal :=
  act (fun (d : Device) => d.hostSend (irqEn page.val) w) s

/-- PAGE_ENABLE (R64): PAGE_CTRL.EN = 1 starts a block's enable sequence, or queues a re-enable behind a shutdown. -/
def execPageEnable (page : Fin 256) (w : RegWrite) (s : State) : Host.Outcome State Fault Refusal :=
  act (fun (d : Device) => d.hostCmd w (fPcEn page.val) 1) s

/-- PAGE_DISABLE (R65): PAGE_CTRL.EN = 0 starts a block's shutdown sequence, which is never cut short. -/
def execPageDisable (page : Fin 256) (w : RegWrite) (s : State) : Host.Outcome State Fault Refusal :=
  act (fun (d : Device) => d.hostCmd w (fPcEn page.val) 0) s

/-- SHUTDOWN_COMPLETE (R66): A shutdown sequence ends; a queued re-enable then starts the enable sequence. -/
def execShutdownComplete (x : ShutdownOf) (s : State) : Host.Outcome State Fault Refusal :=
  act (fun (d : Device) => d.shutdownEnd x) s

/-- BLOCK_RESET_ASSERT (R391): BLK_RST = 1 stops the block at once without a shutdown and holds it at BLOCK reset values. -/
def execBlockResetAssert (page : Fin 256) (w : RegWrite) (s : State) : Host.Outcome State Fault Refusal :=
  act (fun (d : Device) => d.hostCmd w (fPcBlkRst page.val) 1) s

/-- BLOCK_RESET_RELEASE (R393): BLK_RST = 0 releases the block 64 island cycles after clock-good, pending until then. -/
def execBlockResetRelease (page : Fin 256) (w : RegWrite) (s : State) : Host.Outcome State Fault Refusal :=
  act (fun (d : Device) => d.hostCmd w (fPcBlkRst page.val) 0) s

/-- CLOCK_STOP_REQUEST (R54): A PAGE_CTRL.CLK_REQ write requests the block's clock stopped or restarted where CLOCK_GATED = 1. -/
def execClockStopRequest (page : Fin 256) (run : Bool) (w : RegWrite) (s : State) : Host.Outcome State Fault Refusal :=
  act (fun (d : Device) => d.hostCmd w (fPcClkReq page.val) run.toNat) s

/-- POWER_REMOVE_REQUEST (R54): A PAGE_CTRL.PWR_REQ write requests the block's power removed or restored where POWER_GATED = 1. -/
def execPowerRemoveRequest (page : Fin 256) (power : Bool) (w : RegWrite) (s : State) : Host.Outcome State Fault Refusal :=
  act (fun (d : Device) => d.hostCmd w (fPcPwrReq page.val) power.toNat) s

/-- IGN_COUNT_CLEAR_PAGE (R69): COUNT_CLR.PAGE_IGN clears IGN_COUNT of the named page. -/
def execIgnCountClearPage (w : RegWrite) (s : State) : Host.Outcome State Fault Refusal :=
  act (fun (d : Device) => d.hostCmd w fHbusCountClrPageIgn 1) s

/-- IGN_COUNT_CLEAR_ALL (R69): COUNT_CLR.ALL_IGN clears IGN_COUNT of every page and LAST_IGN. -/
def execIgnCountClearAll (s : State) : Host.Outcome State Fault Refusal :=
  act (fun (d : Device) => d.hostBit fHbusCountClrAllIgn 1) s

/-- OFF_COUNT_CLEAR (R69): COUNT_CLR.OFF clears OFF_COUNT and OFF_READS. -/
def execOffCountClear (s : State) : Host.Outcome State Fault Refusal :=
  act (fun (d : Device) => d.hostBit fHbusCountClrOff 1) s

/-- UNMAPPED_COUNT_CLEAR (R69): COUNT_CLR.UNMAPPED clears UNMAPPED_COUNT. -/
def execUnmappedCountClear (s : State) : Host.Outcome State Fault Refusal :=
  act (fun (d : Device) => d.hostBit fHbusCountClrUnmapped 1) s

/-- TIMEOUT_COUNT_CLEAR (R69): COUNT_CLR.TIMEOUT clears TIMEOUT_COUNT and QPEAK. -/
def execTimeoutCountClear (s : State) : Host.Outcome State Fault Refusal :=
  act (fun (d : Device) => d.hostBit fHbusCountClrTimeout 1) s

end Sys2Proof.Machine
end

