-- ==== Sys2Proof/Machine/CalRows.lean ====
section
/-!
DEFINITION. The rows of calibration (R262 … R291): one meaning for each.
-/
namespace Sys2Proof.Machine

/-- CAL_FREQ (R277): CAL.CMD PROC 1 starts the FREQ procedure. -/
def execCalFreq (s : State) : Host.Outcome State Fault Refusal :=
  act (fun (d : Device) => d.hostBit fCalCmdProc 1) s

/-- CAL_POWER (R278): CAL.CMD PROC 2 starts the POWER procedure. -/
def execCalPower (s : State) : Host.Outcome State Fault Refusal :=
  act (fun (d : Device) => d.hostBit fCalCmdProc 2) s

/-- CAL_ARRAY_RX (R279): CAL.CMD PROC 3 starts the ARRAY_RX procedure. -/
def execCalArrayRx (s : State) : Host.Outcome State Fault Refusal :=
  act (fun (d : Device) => d.hostBit fCalCmdProc 3) s

/-- CAL_ARRAY_TX (R280): CAL.CMD PROC 4 starts the ARRAY_TX procedure. -/
def execCalArrayTx (s : State) : Host.Outcome State Fault Refusal :=
  act (fun (d : Device) => d.hostBit fCalCmdProc 4) s

/-- CAL_CONV (R281): CAL.CMD PROC 5 starts the CONV procedure. -/
def execCalConv (s : State) : Host.Outcome State Fault Refusal :=
  act (fun (d : Device) => d.hostBit fCalCmdProc 5) s

/-- CAL_CANC (R282): CAL.CMD PROC 6 starts the CANC procedure. -/
def execCalCanc (s : State) : Host.Outcome State Fault Refusal :=
  act (fun (d : Device) => d.hostBit fCalCmdProc 6) s

/-- CAL_DPD (R283): CAL.CMD PROC 7 starts DPD on one path or all ON paths. -/
def execCalDpd (path : Byte) (s : State) : Host.Outcome State Fault Refusal :=
  act (fun (d : Device) => d.ownWrite calCmd (fCalCmdProc.set (fCalCmdPath.set 0 path.toNat) 7) 0xF#4 noFinds) s

/-- CAL_ABORT (R270): CAL.CMD.ABORT rejects the running procedure with ABORTED. -/
def execCalAbort (s : State) : Host.Outcome State Fault Refusal :=
  act (fun (d : Device) => d.hostBit fCalCmdAbort 1) s

/-- CAL_PROC_COMPLETE (R269): A procedure's passes end and it is accepted or rejected. -/
def execCalProcComplete (m : CalMeas) (s : State) : Host.Outcome State Fault Refusal :=
  act (fun (d : Device) => calProcComplete m d) s

/-- BOUNDARY_APPLY (R272): A boundary begins and waiting corrections are applied in order within 10 µs. -/
def execBoundaryApply (gaps : BitVec 4) (s : State) : Host.Outcome State Fault Refusal :=
  act (fun (d : Device) => boundaryApply gaps d) s

/-- SLACK_WATER_CALL (R274): A pending change older than MAX_WAIT calls slack water, holding every session. -/
def execSlackWaterCall (s : State) : Host.Outcome State Fault Refusal :=
  act (fun (d : Device) => slackWaterCall d) s

/-- CAL_DUE (R284): Drift beyond DRIFT or a cleared VALID sets a DUE bit and raises CAL_DONE. -/
def execCalDue (s : State) : Host.Outcome State Fault Refusal :=
  act (fun (d : Device) => calDueEvent d) s

/-- TBL_DATA_READ (R287): A TBL_DATA read returns an image word and advances TBL_ADDR. -/
def execTblDataRead (s : State) : Host.Outcome State Fault Refusal :=
  act (fun (d : Device) => d.hostRead calTblData) s

/-- TBL_DATA_WRITE (R287): A TBL_DATA write fills the staging copy and advances TBL_ADDR. -/
def execTblDataWrite (w : RegWrite) (s : State) : Host.Outcome State Fault Refusal :=
  act (fun (d : Device) => d.hostSend calTblData w) s

/-- TBL_COMMIT (R287): TBL_CMD.COMMIT checks the staging image and accepts it as every procedure. -/
def execTblCommit (s : State) : Host.Outcome State Fault Refusal :=
  act (fun (d : Device) => d.hostBit fCalTblCmdCommit 1) s

/-- TBL_INVALIDATE (R287): TBL_CMD.INVALIDATE restores nominal values and clears VALID at the next boundary. -/
def execTblInvalidate (s : State) : Host.Outcome State Fault Refusal :=
  act (fun (d : Device) => d.hostBit fCalTblCmdInvalidate 1) s

/-- CAL_CLEAR_REJECTS (R288): CAL CNT_CLR.REJECTS clears REJECTS. -/
def execCalClearRejects (s : State) : Host.Outcome State Fault Refusal :=
  act (fun (d : Device) => d.hostBit fCalCntClrRejects 1) s

/-- CAL_CLEAR_SLACKS (R288): CAL CNT_CLR.SLACKS clears WAITED.SLACKS. -/
def execCalClearSlacks (s : State) : Host.Outcome State Fault Refusal :=
  act (fun (d : Device) => d.hostBit fCalCntClrSlacks 1) s

end Sys2Proof.Machine
end

