-- ==== Sys2Proof/Machine/CarrierRows.lean ====
section
/-!
DEFINITION. The rows of carriers, shaping, coexistence and regulation (R194 … R232): one meaning for each.
-/
namespace Sys2Proof.Machine

/-- CARRIER_ENABLE (R198): CAR.CTRL_c.EN = 1 runs regulatory checks and starts the carrier sequence. -/
def execCarrierEnable (c : Fin 4) (w : RegWrite) (s : State) : Host.Outcome State Fault Refusal :=
  act (fun (d : Device) => d.hostCmd w (fCarCtrlEn c.val) 1) s

/-- SYNTH_S_LOCK_ACQUIRE (R199): SYNTH_S reports lock and band calibration; waiting carriers continue. -/
def execSynthSLockAcquire (s : State) : Host.Outcome State Fault Refusal :=
  act (fun (d : Device) => synthSLockAcquire d) s

/-- SYNTH_WAIT_TIMEOUT (R199): 400 µs counted in SYNTH_WAIT refuse the carrier with CARRIER_NOT_READY. -/
def execSynthWaitTimeout (c : Fin 4) (s : State) : Host.Outcome State Fault Refusal :=
  act (fun (d : Device) => synthWaitTimeout c.val d) s

/-- SYNTH_S_LOCK_LOSS (R201): Loss of SYNTH_S lock zeroes every DAC input and moves radiating carriers to SYNTH_WAIT. -/
def execSynthSLockLoss (s : State) : Host.Outcome State Fault Refusal :=
  act (fun (d : Device) => synthSLockLoss d) s

/-- COEX_GRANT_ASSERT (R218): COEX_GNT asserts; GRANT_WAIT carriers proceed and draining carriers return to ON. -/
def execCoexGrantAssert (s : State) : Host.Outcome State Fault Refusal :=
  act (fun (d : Device) => coexGrantAssert d) s

/-- COEX_GRANT_WITHDRAW (R217): COEX_GNT withdrawn drains masked carriers, raises COEX_GRANT_LOST and counts LOST. -/
def execCoexGrantWithdraw (s : State) : Host.Outcome State Fault Refusal :=
  act (fun (d : Device) => coexGrantWithdraw d) s

/-- LISTEN_END (R226): The listen-before-talk measurement ends and the channel is found free or busy. -/
def execListenEnd (c : Fin 4) (power : BitVec 16) (s : State) : Host.Outcome State Fault Refusal :=
  act (fun (d : Device) => listenEnd c.val power d) s

/-- LBT_RETRY_EXPIRY (R226): LBT_RETRY elapses and a fixed-frequency carrier listens again. -/
def execLbtRetryExpiry (c : Fin 4) (s : State) : Host.Outcome State Fault Refusal :=
  act (fun (d : Device) => lbtRetryExpiry c.val d) s

/-- RAMP_UP_END (R198): The raised-cosine ramp ends and the carrier enters SETTLE. -/
def execRampUpEnd (c : Fin 4) (s : State) : Host.Outcome State Fault Refusal :=
  act (fun (d : Device) => rampUpEnd c.val d) s

/-- SETTLE_END (R198): SETTLE ends and the carrier is ON. -/
def execSettleEnd (c : Fin 4) (s : State) : Host.Outcome State Fault Refusal :=
  act (fun (d : Device) => settleEnd c.val d) s

/-- CARRIER_DISABLE (R204): CAR EN = 0 runs DRAIN, RAMP_DOWN and OFF, ending a non-radiating step at once. -/
def execCarrierDisable (c : Fin 4) (w : RegWrite) (s : State) : Host.Outcome State Fault Refusal :=
  act (fun (d : Device) => d.hostCmd w (fCarCtrlEn c.val) 0) s

/-- HOP (R202): CMD_c.HOP starts a commanded hop to NEXT_c. -/
def execHop (c : Fin 4) (w : RegWrite) (s : State) : Host.Outcome State Fault Refusal :=
  act (fun (d : Device) => d.hostCmd w (fCarCmdHop c.val) 1) s

/-- AUTO_HOP (R225): The device hops by itself to the next channel of its permutation. -/
def execAutoHop (c : Fin 4) (s : State) : Host.Outcome State Fault Refusal :=
  act (fun (d : Device) => autoHop c.val d) s

/-- DRAIN_QUIET (R203): Every session of a draining carrier reaches a quiet point and RAMP_DOWN begins. -/
def execDrainQuiet (c : Fin 4) (s : State) : Host.Outcome State Fault Refusal :=
  act (fun (d : Device) => drainQuiet c.val d) s

/-- DRAIN_CUT (R203): CFG.YIELD or GNT_YIELD elapses in DRAIN and the carrier is cut, raising CUT. -/
def execDrainCut (c : Fin 4) (s : State) : Host.Outcome State Fault Refusal :=
  act (fun (d : Device) => drainCut c.val d) s

/-- RAMP_DOWN_END (R204): The ramp down ends and the carrier goes to OFF, RETUNE or BARRED. -/
def execRampDownEnd (c : Fin 4) (s : State) : Host.Outcome State Fault Refusal :=
  act (fun (d : Device) => rampDownEnd c.val d) s

/-- RETUNE_END (R202): RETUNE applies the NCO word, checks the channel and readmits weights. -/
def execRetuneEnd (c : Fin 4) (s : State) : Host.Outcome State Fault Refusal :=
  act (fun (d : Device) => retuneEnd c.val d) s

/-- DWELL_LIMIT_DRAIN (R224): A visit nears DWELL_MAX and the carrier is drained so RAMP_DOWN ends in time. -/
def execDwellLimitDrain (c : Fin 4) (s : State) : Host.Outcome State Fault Refusal :=
  act (fun (d : Device) => dwellLimitDrain c.val d) s

/-- OCCUPANCY_LIMIT_DRAIN (R224): A channel's occupancy nears OCC_LIMIT and the carrier is drained. -/
def execOccupancyLimitDrain (c : Fin 4) (s : State) : Host.Outcome State Fault Refusal :=
  act (fun (d : Device) => occupancyLimitDrain c.val d) s

/-- BARRED_RELEASE (R224): The computed admissible instant arrives and a BARRED carrier restarts. -/
def execBarredRelease (c : Fin 4) (s : State) : Host.Outcome State Fault Refusal :=
  act (fun (d : Device) => barredRelease c.val d) s

/-- BAND_CAL_DUE (R199): A 30 °C drift since the last band calibration makes a recalibration due. -/
def execBandCalDue (s : State) : Host.Outcome State Fault Refusal :=
  act (fun (d : Device) => bandCalDue d) s

/-- BAND_CAL_START (R200): Every carrier is out of radiation and the due band calibration runs. -/
def execBandCalStart (s : State) : Host.Outcome State Fault Refusal :=
  act (fun (d : Device) => bandCalStart d) s

/-- BAND_CAL_FORCE (R200): No radiation-free instant within 1 s drains and ramps every carrier down for recalibration. -/
def execBandCalForce (s : State) : Host.Outcome State Fault Refusal :=
  act (fun (d : Device) => bandCalForce d) s

/-- BAND_CAL_COMPLETE (R406): Band calibration ends and SYNTH_S hands over to the calibrated core. -/
def execBandCalComplete (s : State) : Host.Outcome State Fault Refusal :=
  act (fun (d : Device) => bandCalComplete d) s

/-- SYNTH_RECAL (R412): SYNTH.CMD.RECAL requests a band calibration under R200. -/
def execSynthRecal (s : State) : Host.Outcome State Fault Refusal :=
  act (fun (d : Device) => d.hostBit fSynCmdRecal 1) s

/-- BREAKWATER_DWELL_END (R211): A DWELL of mask analysis on one path ends and the rotation moves on. -/
def execBreakwaterDwellEnd (meas : List MaskMeas) (s : State) : Host.Outcome State Fault Refusal :=
  act (fun (d : Device) => breakwaterDwellEnd meas d) s

/-- BW_RELEASE (R213): BW_CLR.RELEASE removes all back-offs at the next boundary. -/
def execBwRelease (s : State) : Host.Outcome State Fault Refusal :=
  act (fun (d : Device) => d.hostBit fTxsBwClrRelease 1) s

/-- BW_CLEAR_COUNT (R214): BW_CLR.COUNT clears BW_VIOL. -/
def execBwClearCount (s : State) : Host.Outcome State Fault Refusal :=
  act (fun (d : Device) => d.hostBit fTxsBwClrCount 1) s

/-- REGL_RELOAD (R223): REGL.CMD.RELOAD reloads the profile while every carrier is OFF. -/
def execReglReload (s : State) : Host.Outcome State Fault Refusal :=
  act (fun (d : Device) => d.hostBit fReglCmdReload 1) s

/-- REGL_CLEAR (R232): REGL.CMD.CLR clears COUNTS and LBT_BUSY. -/
def execReglClear (s : State) : Host.Outcome State Fault Refusal :=
  act (fun (d : Device) => d.hostBit fReglCmdClr 1) s

end Sys2Proof.Machine
end

