-- ==== Sys2Proof/Machine/CascadeRows.lean ====
section
/-!
DEFINITION. The rows of the cascade (R321 … R359): one meaning for each.
-/
namespace Sys2Proof.Machine

/-- KL_PORT_ENABLE (R333): PCTRL_k.EN = 1 starts the port's SIGNAL_WAIT step. -/
def execKlPortEnable (k : Fin 5) (w : RegWrite) (s : State) : Host.Outcome State Fault Refusal :=
  act (fun (d : Device) => d.hostCmd w (fKlPctrlEn k.val) 1) s

/-- KL_SIGNAL_DETECT (R333): A signal appears on a Kloit port and BLOCK_LOCK begins. -/
def execKlSignalDetect (k : Fin 5) (s : State) : Host.Outcome State Fault Refusal :=
  act (fun (d : Device) => klSignalDetect k.val d) s

/-- KL_BLOCK_LOCK (R333): 64 valid sync headers give block lock and TRAIN begins. -/
def execKlBlockLock (k : Fin 5) (s : State) : Host.Outcome State Fault Refusal :=
  act (fun (d : Device) => klBlockLock k.val d) s

/-- KL_MEASURE_END (R333): 16 delay exchanges end and the port becomes UP or STANDBY. -/
def execKlMeasureEnd (k : Fin 5) (s : State) : Host.Outcome State Fault Refusal :=
  act (fun (d : Device) => klMeasureEnd k.val d) s

/-- KL_PORT_DISABLE (R333): PCTRL_k.EN = 0 drains the port's replay buffer. -/
def execKlPortDisable (k : Fin 5) (w : RegWrite) (s : State) : Host.Outcome State Fault Refusal :=
  act (fun (d : Device) => d.hostCmd w (fKlPctrlEn k.val) 0) s

/-- KL_DRAIN_END (R333): DRAINING ends within 100 µs and the port is OFF. -/
def execKlDrainEnd (k : Fin 5) (s : State) : Host.Outcome State Fault Refusal :=
  act (fun (d : Device) => klDrainEnd k.val d) s

/-- KL_PORT_FAULT (R334): A lost signal, bad headers, missing TICK or repeated resends fail the port. -/
def execKlPortFault (k : Fin 5) (cause : KlCause) (s : State) : Host.Outcome State Fault Refusal :=
  act (fun (d : Device) => klPortFault k.val cause d) s

/-- KL_RETRAIN_TIMER (R334): 1 ms after FAILED a port with EN = 1 returns to SIGNAL_WAIT. -/
def execKlRetrainTimer (k : Fin 5) (s : State) : Host.Outcome State Fault Refusal :=
  act (fun (d : Device) => klRetrainTimer k.val d) s

/-- KL_TICK (R325): A TICK control block carrying the sender's tide is received. -/
def execKlTick (k : Fin 5) (tide : BitVec 48) (s : State) : Host.Outcome State Fault Refusal :=
  act (fun (d : Device) => klTick k.val tide.toNat d) s

/-- KL_TRIG_BLOCK (R343): A TRIG block is received and forwarded, arming its firing tide. -/
def execKlTrigBlock (k : Fin 5) (ch : Fin 4) (low : BitVec 48) (s : State) : Host.Outcome State Fault Refusal :=
  act (fun (d : Device) => klTrigBlock k.val ch.val low.toNat d) s

/-- KL_DLY (R340): A DLY delay marker is received and its tide recorded. -/
def execKlDly (k : Fin 5) (s : State) : Host.Outcome State Fault Refusal :=
  act (fun (d : Device) => klDly k.val d) s

/-- KL_NAK (R328): A NAK block makes the sender resend from the first unacknowledged frame. -/
def execKlNak (k : Fin 5) (s : State) : Host.Outcome State Fault Refusal :=
  act (fun (d : Device) => klNak k.val d) s

/-- KL_REPLAY_TIMEOUT (R328): 2 µs without ACK progress resends the unacknowledged frames. -/
def execKlReplayTimeout (k : Fin 5) (s : State) : Host.Outcome State Fault Refusal :=
  act (fun (d : Device) => klReplayTimeout k.val d) s

/-- KL_BAD_FRAME (R328): A frame with a bad CRC is discarded and answered with a NAK. -/
def execKlBadFrame (k : Fin 5) (s : State) : Host.Outcome State Fault Refusal :=
  act (fun (d : Device) => klBadFrame k.val d) s

/-- KL_NULL_FRAME (R330): A NULL frame delivers acknowledgement and credit. -/
def execKlNullFrame (h : KlHead) (s : State) : Host.Outcome State Fault Refusal :=
  act (fun (d : Device) => klNullFrame h d) s

/-- KL_TRAIN_FRAME (R333): A TRAIN frame is received and the pairing checked. -/
def execKlTrainFrame (k : Fin 5) (t : KlTrain) (s : State) : Host.Outcome State Fault Refusal :=
  act (fun (d : Device) => klTrainFrame k.val t d) s

/-- CENSUS_REQ (R336): A CENSUS_REQ broadcast makes a leaf report and a relay collect its children. -/
def execCensusReq (h : KlHead) (gen : Byte) (depth : BitVec 4) (route : BitVec 16) (s : State) : Host.Outcome State Fault Refusal :=
  act (fun (d : Device) => censusReq h gen.toNat depth.toNat route.toNat d) s

/-- CENSUS_REC (R336): A census record arrives upward and is forwarded or collected. -/
def execCensusRec (h : KlHead) (r : List Byte) (s : State) : Host.Outcome State Fault Refusal :=
  act (fun (d : Device) => censusRec h r d) s

/-- ASSIGN (R337): An ASSIGN frame gives the device its number and sets NUMBERED. -/
def execAssign (h : KlHead) (way : KlTo) (number : Option (Fin 2048)) (gen : Byte) (cp : Byte) (hostFormat : Byte) (altOk : Bool) (s : State) : Host.Outcome State Fault Refusal :=
  act (fun (d : Device) => assign h way (number.map Fin.val) gen.toNat cp.toNat hostFormat.toNat altOk d) s

/-- VERSION_FRAME (R355): A VERSION broadcast sets the control-plane version. -/
def execVersionFrame (h : KlHead) (cp : Byte) (s : State) : Host.Outcome State Fault Refusal :=
  act (fun (d : Device) => versionFrame h cp.toNat d) s

/-- RESET_FRAME (R344): A RESET frame applies a cascade CORE reset. -/
def execResetFrame (h : KlHead) (way : KlTo) (subtree : Bool) (s : State) : Host.Outcome State Fault Refusal :=
  act (fun (d : Device) => resetFrame h way subtree d) s

/-- EVENT_FRAME (R347): An EVENT frame carrying a CASCADE_EVENT message is received. -/
def execEventFrame (h : KlHead) (msg : List Byte) (s : State) : Host.Outcome State Fault Refusal :=
  act (fun (d : Device) => eventFrame h msg d) s

/-- ACK_E2E (R347): An end-to-end acknowledgement lets the forwarder advance MHEAD. -/
def execAckE2e (h : KlHead) (way : KlTo) (next : BitVec 32) (s : State) : Host.Outcome State Fault Refusal :=
  act (fun (d : Device) => ackE2e h way next.toNat d) s

/-- PAGE_REQ (R344): A PAGE_REQ frame is served at the member as a host-island access. -/
def execPageReq (h : KlHead) (way : KlTo) (op : BitVec 2) (word : BitVec 24) (data : Word) (s : State) : Host.Outcome State Fault Refusal :=
  act (fun (d : Device) => pageReq h way op.toNat (4 * word.toNat) data d) s

/-- PAGE_RSP (R344): A PAGE_RSP sets RA_DATA, RESULT and HOPS at the harbourmaster. -/
def execPageRsp (h : KlHead) (data : Word) (hops : Byte) (s : State) : Host.Outcome State Fault Refusal :=
  act (fun (d : Device) => pageRsp h data hops.toNat d) s

/-- MESSAGE_FRAME (R347): The harbourmaster accepts an in-sequence MESSAGE frame or discards it. -/
def execMessageFrame (h : KlHead) (origin : BitVec 16) (oseq : BitVec 32) (count : Byte) (msgs : List Byte) (s : State) : Host.Outcome State Fault Refusal :=
  act (fun (d : Device) => messageFrame h origin.toNat oseq.toNat count.toNat msgs d) s

/-- DELAY_FRAME (R340): A DELAY frame completes an exchange and the offset and delay are computed. -/
def execDelayFrame (h : KlHead) (t1 : BitVec 72) (t2 : BitVec 72) (t3 : BitVec 72) (s : State) : Host.Outcome State Fault Refusal :=
  act (fun (d : Device) => delayFrame h t1.toNat t2.toNat t3.toNat d) s

/-- GROUP_FRAME (R351): A GROUP frame carries a group calibration schedule or results. -/
def execGroupFrame (h : KlHead) (way : KlTo) (m : KlGroupMsg) (s : State) : Host.Outcome State Fault Refusal :=
  act (fun (d : Device) => groupFrame h way m d) s

/-- UNKNOWN_FRAME (R331): A frame of unknown type is acknowledged, its credits returned and counted. -/
def execUnknownFrame (h : KlHead) (s : State) : Host.Outcome State Fault Refusal :=
  act (fun (d : Device) => unknownFrame h d) s

/-- KL_CENSUS_CMD (R336): KLOIT.CMD CENSUS starts a census on the harbourmaster. -/
def execKlCensusCmd (s : State) : Host.Outcome State Fault Refusal :=
  act (fun (d : Device) => d.hostBit fKlCmdAction 1) s

/-- CENSUS_COMPLETE (R336): Every down-port delivers LAST; numbers are assigned and KL_CENSUS raised. -/
def execCensusComplete (s : State) : Host.Outcome State Fault Refusal :=
  act (fun (d : Device) => censusComplete d) s

/-- DELAY_EXCHANGE_START (R340): Every 1 ms a delay exchange starts on each UP or STANDBY up-port. -/
def execDelayExchangeStart (k : Fin 5) (s : State) : Host.Outcome State Fault Refusal :=
  act (fun (d : Device) => delayExchangeStart k.val d) s

/-- HOLDOVER_LOST (R342): HOLDOVER lasting 1 s moves SYNC to LOST. -/
def execHoldoverLost (s : State) : Host.Outcome State Fault Refusal :=
  act (fun (d : Device) => holdoverLost d) s

/-- KL_FAILBACK (R342): KLOIT.CMD FAILBACK switches the up-port back to KL_0. -/
def execKlFailback (s : State) : Host.Outcome State Fault Refusal :=
  act (fun (d : Device) => d.hostBit fKlCmdAction 5) s

/-- TRIG_FIRE_CMD (R343): TRIG_CMD.FIRE sends a TRIG block at the shadowed firing tide. -/
def execTrigFireCmd (w : RegWrite) (s : State) : Host.Outcome State Fault Refusal :=
  act (fun (d : Device) => d.hostCmd w fKlTrigCmdFire 1) s

/-- CASCADE_TRIGGER_FIRE (R343): The firing tide arrives and the cascade channel fires on the device. -/
def execCascadeTriggerFire (s : State) : Host.Outcome State Fault Refusal :=
  act (fun (d : Device) => cascadeTriggerFire d) s

/-- RA_READ (R344): RA_CMD.READ sends a remote read PAGE_REQ to RA_DEV. -/
def execRaRead (s : State) : Host.Outcome State Fault Refusal :=
  act (fun (d : Device) => d.hostBit fKlRaCmdRead 1) s

/-- RA_WRITE (R344): RA_CMD.WRITE sends a remote or broadcast write PAGE_REQ. -/
def execRaWrite (s : State) : Host.Outcome State Fault Refusal :=
  act (fun (d : Device) => d.hostBit fKlRaCmdWrite 1) s

/-- RA_TIMEOUT (R344): No response within 100 µs ends a remote access with TIMEOUT. -/
def execRaTimeout (link : Bool) (s : State) : Host.Outcome State Fault Refusal :=
  act (fun (d : Device) => raTimeout link d) s

/-- KL_RESET_DEV (R344): KLOIT.CMD RESET_DEV sends a RESET frame to RA_DEV. -/
def execKlResetDev (s : State) : Host.Outcome State Fault Refusal :=
  act (fun (d : Device) => d.hostBit fKlCmdAction 2) s

/-- KL_RESET_SUBTREE (R344): KLOIT.CMD RESET_SUBTREE resets RA_DEV and every device below it. -/
def execKlResetSubtree (s : State) : Host.Outcome State Fault Refusal :=
  act (fun (d : Device) => d.hostBit fKlCmdAction 3) s

/-- MESSAGE_FRAME_SEND (R345): The forwarder sends a MESSAGE frame at 512 bytes or 2 µs after the first message. -/
def execMessageFrameSend (n : Fin 16) (s : State) : Host.Outcome State Fault Refusal :=
  act (fun (d : Device) => messageFrameSend n.val d) s

/-- E2E_RESEND_TIMEOUT (R347): 200 µs without end-to-end progress resends from the oldest unacknowledged frame. -/
def execE2eResendTimeout (s : State) : Host.Outcome State Fault Refusal :=
  act (fun (d : Device) => e2eResendTimeout d) s

/-- ACK_E2E_SEND (R347): The harbourmaster sends ACK_E2E within 20 µs or after 16 frames. -/
def execAckE2eSend (s : State) : Host.Outcome State Fault Refusal :=
  act (fun (d : Device) => ackE2eSend d) s

/-- GROUP_CAL (R351): KLOIT.CMD GROUP_CAL starts over-the-air group calibration. -/
def execGroupCal (w : RegWrite) (finds : KlGroupFinds) (s : State) : Host.Outcome State Fault Refusal :=
  act (fun (d : Device) => d.ownWrite klCmd (fKlCmdAction.set w.value 4) w.be finds) s

/-- GROUP_CAL_END (R352): Group calibration passes end and the result is accepted or rejected. -/
def execGroupCalEnd (m : KlGroupMeas) (s : State) : Host.Outcome State Fault Refusal :=
  act (fun (d : Device) => groupCalEnd m d) s

/-- GROUP_SUSPEND (R354): A member in HOLDOVER over 100 µs or LOST becomes SUSPENDED. -/
def execGroupSuspend (s : State) : Host.Outcome State Fault Refusal :=
  act (fun (d : Device) => groupSuspend d) s

/-- KL_ABORT (R358): KLOIT.CMD ABORT stops a GROUP_CAL with ABORTED. -/
def execKlAbort (s : State) : Host.Outcome State Fault Refusal :=
  act (fun (d : Device) => d.hostBit fKlCmdAction 6) s

/-- CEN_DATA_READ (R357): A CEN_DATA read returns a census word and advances CEN_ADDR. -/
def execCenDataRead (s : State) : Host.Outcome State Fault Refusal :=
  act (fun (d : Device) => d.hostRead klCenData) s

/-- KL_CLEAR_COUNTS (R357): KLOIT CNT_CLR.COUNTS clears COUNTS. -/
def execKlClearCounts (s : State) : Host.Outcome State Fault Refusal :=
  act (fun (d : Device) => d.hostBit fKlCntClrCounts 1) s

/-- KL_CLEAR_PERR (R357): KLOIT CNT_CLR.PERR clears every PERR_k. -/
def execKlClearPerr (s : State) : Host.Outcome State Fault Refusal :=
  act (fun (d : Device) => d.hostBit fKlCntClrPerr 1) s

end Sys2Proof.Machine
end

