-- ==== Sys2Proof/Machine/HkRows.lean ====
section
/-!
DEFINITION. The rows of the housekeeping converter (R474 … R486): one meaning for each.
-/
namespace Sys2Proof.Machine

/-- HK_START (R479): HKADC CMD.START triggers a sequence. -/
def execHkStart (s : State) : Host.Outcome State Fault Refusal :=
  act (fun (d : Device) => d.hostBit fHkCmdStart 1) s

/-- HK_STOP (R480): HKADC CMD.STOP abandons the sequence and clears PENDING. -/
def execHkStop (s : State) : Host.Outcome State Fault Refusal :=
  act (fun (d : Device) => d.hostBit fHkCmdStop 1) s

/-- HK_ENTRY_DONE (R478): An entry completes, writing RES_n and checking its limit window. -/
def execHkEntryDone (raws : List (BitVec 12)) (s : State) : Host.Outcome State Fault Refusal :=
  act (fun (d : Device) => hkEntryDone (raws.map BitVec.toNat) d) s

/-- HK_SUPERVISOR_CONVERSION (R481): Every 62.5 µs the thermal supervisor converts one sensor ahead of the sequence. -/
def execHkSupervisorConversion (raw : BitVec 12) (s : State) : Host.Outcome State Fault Refusal :=
  act (fun (d : Device) => hkSupervisor raw.toNat d) s

/-- URGENT_GO (R481): URG_CMD.GO requests a host urgent conversion. -/
def execUrgentGo (w : RegWrite) (s : State) : Host.Outcome State Fault Refusal :=
  act (fun (d : Device) => d.hostCmd w fHkUrgCmdGo 1) s

/-- URGENT_DONE (R481): The host urgent conversion ends and URG_RES is written. -/
def execUrgentDone (raw : BitVec 12) (s : State) : Host.Outcome State Fault Refusal :=
  act (fun (d : Device) => hkUrgentDone raw.toNat d) s

/-- HK_SYSCAL_ZERO (R483): CMD.SYSCAL_ZERO measures the zero offset of the named input. -/
def execHkSyscalZero (s : State) : Host.Outcome State Fault Refusal :=
  act (fun (d : Device) => d.hostBit fHkCmdSyscalZero 1) s

/-- HK_SYSCAL_FULL (R483): CMD.SYSCAL_FULL measures the full-scale gain of the named input. -/
def execHkSyscalFull (s : State) : Host.Outcome State Fault Refusal :=
  act (fun (d : Device) => d.hostBit fHkCmdSyscalFull 1) s

/-- SYSCAL_STEP_DONE (R483): A calibration step ends, setting coefficients or a DISAGREE or RANGE result. -/
def execSyscalStepDone (sum1 : BitVec 32) (sum2 : BitVec 32) (s : State) : Host.Outcome State Fault Refusal :=
  act (fun (d : Device) => syscalStepDone sum1.toInt sum2.toInt d) s

/-- HK_CLEAR_TRIG_OVF (R485): HKADC CNT_CLR clears TRIG_OVF. -/
def execHkClearTrigOvf (s : State) : Host.Outcome State Fault Refusal :=
  act (fun (d : Device) => d.hostBit fHkCntClrTrigOvf 1) s

end Sys2Proof.Machine
end

