-- ==== Sys2Proof/Machine/LinkRows.lean ====
section
/-!
DEFINITION. The rows of the packet link (R360 … R384): one meaning for each.
-/
namespace Sys2Proof.Machine

/-- PL_LANE_ENABLE (R364): LCTRL_l.EN = 1 starts the lane's SIGNAL_WAIT step. -/
def execPlLaneEnable (l : Fin 5) (w : RegWrite) (s : State) : Host.Outcome State Fault Refusal :=
  act (fun (d : Device) => d.hostCmd w (fPlLctrlEn l.val) 1) s

/-- PL_SIGNAL_DETECT (R364): A signal appears on a PL lane and BLOCK_LOCK begins. -/
def execPlSignalDetect (l : Fin 5) (s : State) : Host.Outcome State Fault Refusal :=
  act (fun (d : Device) => plSignalDetect l.val d) s

/-- PL_BLOCK_LOCK (R364): 64 valid sync headers give block lock and ALIGN begins. -/
def execPlBlockLock (l : Fin 5) (s : State) : Host.Outcome State Fault Refusal :=
  act (fun (d : Device) => plBlockLock l.val d) s

/-- PL_LANE_ALIGNED (R365): Two agreeing ALIGN blocks make the lane UP in a position or STANDBY. -/
def execPlLaneAligned (l : Fin 5) (s : State) : Host.Outcome State Fault Refusal :=
  act (fun (d : Device) => plLaneAligned l.val d) s

/-- PL_LANE_DISABLE (R364): LCTRL_l.EN = 0 moves the lane's position to the spare and drains it. -/
def execPlLaneDisable (l : Fin 5) (w : RegWrite) (s : State) : Host.Outcome State Fault Refusal :=
  act (fun (d : Device) => d.hostCmd w (fPlLctrlEn l.val) 0) s

/-- PL_DRAIN_END (R364): DRAINING ends within 10 µs and the lane is OFF. -/
def execPlDrainEnd (l : Fin 5) (s : State) : Host.Outcome State Fault Refusal :=
  act (fun (d : Device) => plDrainEnd l.val d) s

/-- PL_LANE_FAULT (R366): A lost signal, bad headers, bad ALIGN or REMAP_REQ fails the lane. -/
def execPlLaneFault (l : Fin 5) (cause : PlCause) (s : State) : Host.Outcome State Fault Refusal :=
  act (fun (d : Device) => plLaneFault l.val cause d) s

/-- PL_RETRAIN_END (R369): The degraded retraining completes and unacknowledged packets are resent. -/
def execPlRetrainEnd (s : State) : Host.Outcome State Fault Refusal :=
  act (fun (d : Device) => plRetrainEnd d) s

/-- PL_LANE_RETRY (R367): 1 ms after FAILED the lane trains again, or is recorded in the repair map. -/
def execPlLaneRetry (l : Fin 5) (s : State) : Host.Outcome State Fault Refusal :=
  act (fun (d : Device) => plLaneRetry l.val d) s

/-- PL_ALIGN_BLOCK (R362): An ALIGN control block is received and lane skew removed. -/
def execPlAlignBlock (l : Fin 5) (position : Fin 5) (skew : BitVec 16) (s : State) : Host.Outcome State Fault Refusal :=
  act (fun (d : Device) => plAlignBlock l.val position.val skew.toNat d) s

/-- PL_ACK (R372): An ACK block releases acknowledged packets from the replay buffer. -/
def execPlAck (seq : BitVec 16) (s : State) : Host.Outcome State Fault Refusal :=
  act (fun (d : Device) => plAck seq.toNat d) s

/-- PL_NAK (R372): A NAK block resends from the first unacknowledged packet. -/
def execPlNak (s : State) : Host.Outcome State Fault Refusal :=
  act (fun (d : Device) => plNak d) s

/-- PL_CREDIT (R374): A CREDIT block updates the credits held per VC. -/
def execPlCredit (counts : Vector (BitVec 12) 4) (s : State) : Host.Outcome State Fault Refusal :=
  act (fun (d : Device) => plCredit (counts.toList.map BitVec.toNat) d) s

/-- PL_REMAP_BLOCK (R368): A REMAP block from the far end moves a position to a named lane. -/
def execPlRemapBlock (position : Fin 4) (l : Fin 5) (s : State) : Host.Outcome State Fault Refusal :=
  act (fun (d : Device) => plRemapBlock position.val l.val d) s

/-- PL_REMAP_REQ (R366): A REMAP_REQ names a failed lane to be remapped. -/
def execPlRemapReq (l : Fin 5) (s : State) : Host.Outcome State Fault Refusal :=
  act (fun (d : Device) => plRemapReq l.val d) s

/-- PL_REPLAY_TIMEOUT (R372): 8 µs without ACK progress resends unacknowledged packets. -/
def execPlReplayTimeout (s : State) : Host.Outcome State Fault Refusal :=
  act (fun (d : Device) => plReplayTimeout d) s

/-- PL_ACK_SEND (R372): The receiver sends ACK at least every 1 µs while receiving. -/
def execPlAckSend (s : State) : Host.Outcome State Fault Refusal :=
  act (fun (d : Device) => plAckSend d) s

/-- PL_CREDIT_SEND (R374): CREDIT blocks are sent at least every 1 µs while a count has changed. -/
def execPlCreditSend (s : State) : Host.Outcome State Fault Refusal :=
  act (fun (d : Device) => plCreditSend d) s

/-- PL_CREDIT_STALL (R374): A VC waiting 100 µs without credits raises CREDIT_STALL. -/
def execPlCreditStall (vc : Fin 4) (s : State) : Host.Outcome State Fault Refusal :=
  act (fun (d : Device) => plCreditStall vc.val d) s

/-- PL_BAD_PACKET (R371): A packet with bad CRC, type, VC or direction is discarded and counted. -/
def execPlBadPacket (vc : Fin 4) (len : BitVec 16) (why : PlDefect) (s : State) : Host.Outcome State Fault Refusal :=
  act (fun (d : Device) => plBadPacket vc.val len.toNat why d) s

/-- REG_REQ (R376): A REG_REQ packet's entries are executed in order and a REG_RSP returned. -/
def execRegReq (seq : BitVec 16) (tag : BitVec 16) (device : BitVec 16) (entries : List RegEntry) (s : State) : Host.Outcome State Fault Refusal :=
  act (fun (d : Device) => regReq seq.toNat tag.toNat device.toNat entries d) s

/-- REG_REQ_WAIT_END (R376): A WAIT entry ends when WPEND clears or after 1 ms. -/
def execRegReqWaitEnd (s : State) : Host.Outcome State Fault Refusal :=
  act (fun (d : Device) => regReqWaitEnd d) s

/-- MSG_PACKET_SEND (R377): A MSG packet is sent at 8,192 bytes, after LATENCY, or when no more messages wait. -/
def execMsgPacketSend (src : Option (Fin 16)) (s : State) : Host.Outcome State Fault Refusal :=
  act (fun (d : Device) => msgPacketSend (src.map Fin.val) d) s

/-- STREAM_CTRL_WRITE (R380): A STREAM_CTRL write is admitted against the budget or refused with LINK_CAPACITY. -/
def execStreamCtrlWrite (w : RegWrite) (s : State) : Host.Outcome State Fault Refusal :=
  act (fun (d : Device) => d.hostSend plStreamCtrl w) s

/-- STREAM_PACKET (R379): A path, beam or snapshot stream packet is formed, or discarded if its buffer is full. -/
def execStreamPacket (x : StreamData) (tide : BitVec 64) (full : Bool) (s : State) : Host.Outcome State Fault Refusal :=
  act (fun (d : Device) => streamPacket x tide.toNat full d) s

/-- INTERRUPT_PACKET (R381): An INTERRUPT packet reports routed pending sources after the hold-off. -/
def execInterruptPacket (s : State) : Host.Outcome State Fault Refusal :=
  act (fun (d : Device) => interruptPacket d) s

/-- PL_CLEAR_DROPS (R382): PL CNT_CLR.DROPS clears DROPS. -/
def execPlClearDrops (s : State) : Host.Outcome State Fault Refusal :=
  act (fun (d : Device) => d.hostBit fPlCntClrDrops 1) s

/-- PL_CLEAR_REPLAYS (R382): PL CNT_CLR.REPLAYS clears REPLAYS. -/
def execPlClearReplays (s : State) : Host.Outcome State Fault Refusal :=
  act (fun (d : Device) => d.hostBit fPlCntClrReplays 1) s

/-- PL_CLEAR_LERR (R382): PL CNT_CLR.LERR clears every LERR_l. -/
def execPlClearLerr (s : State) : Host.Outcome State Fault Refusal :=
  act (fun (d : Device) => d.hostBit fPlCntClrLerr 1) s

end Sys2Proof.Machine
end

