-- ==== Sys2Proof/Machine/PathRows.lean ====
section
/-!
DEFINITION. The rows of RF paths (R233 … R261, R293, R294): one meaning for each.
-/
namespace Sys2Proof.Machine

/-- PATH_ENABLE (R251): PATH EN = 1 queues the path's enable sequence. -/
def execPathEnable (p : Fin 64) (w : RegWrite) (s : State) : Host.Outcome State Fault Refusal :=
  act (fun (d : Device) => d.hostCmd w (fPcEn (0x40 + p.val)) 1) s

/-- PATH_QUEUE_LEAVE (R251): Fewer than 8 paths are POWERING and the queued path starts POWERING. -/
def execPathQueueLeave (s : State) : Host.Outcome State Fault Refusal :=
  act (fun (d : Device) => pathQueueLeave d) s

/-- POWERING_END (R253): The 10 µs POWERING step ends and RESTORING begins. -/
def execPoweringEnd (p : Fin 64) (s : State) : Host.Outcome State Fault Refusal :=
  act (fun (d : Device) => poweringEnd p.val d) s

/-- RESTORING_END (R253): The 8 µs RESTORING step ends and CHECKING begins. -/
def execRestoringEnd (p : Fin 64) (s : State) : Host.Outcome State Fault Refusal :=
  act (fun (d : Device) => restoringEnd p.val d) s

/-- CHECKING_END (R251): The 6 µs self-test ends, recording IDLE_NF or refusing the enable. -/
def execCheckingEnd (p : Fin 64) (nf : BitVec 16) (ok : Bool) (s : State) : Host.Outcome State Fault Refusal :=
  act (fun (d : Device) => checkingEnd p.val nf ok d) s

/-- JOIN_RAMP_END (R251): The 10 µs join ramp ends and the path is ON. -/
def execJoinRampEnd (p : Fin 64) (s : State) : Host.Outcome State Fault Refusal :=
  act (fun (d : Device) => joinRampEnd p.val d) s

/-- PATH_DISABLE (R252): PATH EN = 0 runs the shutdown appropriate to the path's state. -/
def execPathDisable (p : Fin 64) (w : RegWrite) (s : State) : Host.Outcome State Fault Refusal :=
  act (fun (d : Device) => d.hostCmd w (fPcEn (0x40 + p.val)) 0) s

/-- PATH_RAMP_DOWN_END (R252): The 10 µs ramp down ends and POWERING_DOWN begins. -/
def execPathRampDownEnd (p : Fin 64) (s : State) : Host.Outcome State Fault Refusal :=
  act (fun (d : Device) => pathRampDownEnd p.val d) s

/-- POWER_DOWN_END (R252): The 5 µs POWERING_DOWN ends and the path is OFF. -/
def execPowerDownEnd (p : Fin 64) (s : State) : Host.Outcome State Fault Refusal :=
  act (fun (d : Device) => powerDownEnd p.val d) s

/-- PATH_FAULT (R254): A path fault detector fires; a running path is muted, an enabling one refused. -/
def execPathFault (p : Fin 64) (causes : BitVec 7) (s : State) : Host.Outcome State Fault Refusal :=
  act (fun (d : Device) => d.pathFails p.val causes) s

/-- TXPWR_WRITE (R238): A TXPWR.LEVEL write is clipped to the limits and takes effect at the next boundary. -/
def execTxpwrWrite (p : Fin 64) (w : RegWrite) (s : State) : Host.Outcome State Fault Refusal :=
  act (fun (d : Device) => d.hostSend (pathTxpwr p.val) w) s

/-- AGC_DOWN_STEP (R244): PEAK above HI steps the gain down at once. -/
def execAgcDownStep (p : Fin 64) (peak : BitVec 8) (s : State) : Host.Outcome State Fault Refusal :=
  act (fun (d : Device) => agcDownStep p.val peak d) s

/-- CANC_TRACK (R240): Each TRACK interval the cancellation loop updates its candidate coefficient. -/
def execCancTrack (p : Fin 64) (c : Fin 4) (null : Word) (resid : BitVec 16) (depth : BitVec 16) (s : State) : Host.Outcome State Fault Refusal :=
  act (fun (d : Device) => cancTrack p.val c.val null resid depth d) s

/-- SLICE_FAULT (R294): A failed ADC slice is replaced by the spare with receive muted briefly. -/
def execSliceFault (p : Fin 64) (slice : Fin 17) (s : State) : Host.Outcome State Fault Refusal :=
  act (fun (d : Device) => sliceFault p.val slice.val d) s

/-- DAC_CELL_FAULT (R293): A failed DAC unary cell is replaced by a spare cell. -/
def execDacCellFault (p : Fin 64) (cell : Fin 67) (s : State) : Host.Outcome State Fault Refusal :=
  act (fun (d : Device) => dacCellFault p.val cell.val d) s

/-- DRIVER_CELL_FAULT (R294): A failed driver cell is replaced, or the path's reach is reduced. -/
def execDriverCellFault (p : Fin 64) (cell : Fin 24) (s : State) : Host.Outcome State Fault Refusal :=
  act (fun (d : Device) => driverCellFault p.val cell.val d) s

/-- PATH_CLEAR_COUNTS (R259): PATH CNT_CLR.COUNTS clears the gain-step counts. -/
def execPathClearCounts (p : Fin 64) (w : RegWrite) (s : State) : Host.Outcome State Fault Refusal :=
  act (fun (d : Device) => d.hostCmd w (fPathCntClrCounts p.val) 1) s

/-- PATH_CLEAR_FAULTS (R259): PATH CNT_CLR.FAULTS clears FAULT.COUNT. -/
def execPathClearFaults (p : Fin 64) (w : RegWrite) (s : State) : Host.Outcome State Fault Refusal :=
  act (fun (d : Device) => d.hostCmd w (fPathCntClrFaults p.val) 1) s

end Sys2Proof.Machine
end

