-- ==== Sys2Proof/Machine/PortRows.lean ====
section
/-!
DEFINITION. The rows of the serial ports and the trigger balls (R487 … R507, R547): one meaning for each.
-/
namespace Sys2Proof.Machine

/-- SSPM_GO (R489): SSPM CMD.GO starts a programmed five-phase transfer. -/
def execSspmGo (s : State) : Host.Outcome State Fault Refusal :=
  act (fun (d : Device) => d.hostBit fSspmCmdGo 1) s

/-- SSPM_SFDP (R493): SSPM CMD.SFDP reads the flash's SFDP table and sets the XIP forms. -/
def execSspmSfdp (s : State) : Host.Outcome State Fault Refusal :=
  act (fun (d : Device) => d.hostBit fSspmCmdSfdp 1) s

/-- SSPM_TRANSFER_END (R492): A transfer, with any polling, ends and records DONE. -/
def execSspmTransferEnd (rx : List Byte) (r : SfdpResult) (s : State) : Host.Outcome State Fault Refusal :=
  act (fun (d : Device) => sspmTransferEnd rx r d) s

/-- SSPM_POLL (R491): After POLL.INT a status poll is sent and compared with MASK and MATCH. -/
def execSspmPoll (status : Byte) (s : State) : Host.Outcome State Fault Refusal :=
  act (fun (d : Device) => sspmPollRead status d) s

/-- SSPM_POLL_TIMEOUT (R491): Polling lasting POLL_LIM ends with POLL_TIMEOUT. -/
def execSspmPollTimeout (s : State) : Host.Outcome State Fault Refusal :=
  act (fun (d : Device) => sspmPollTimeout d) s

/-- XIP_READ (R496): A direct-execute window read is served from a line buffer or fetches a line. -/
def execXipRead (word : BitVec 23) (s : State) : Host.Outcome State Fault Refusal :=
  act (fun (d : Device) => d.windowXipRead (0x2000000 + 4 * word.toNat)) s

/-- XIP_LINE_FETCH_END (R496): A 32-byte line fetch ends and the waiting read completes. -/
def execXipLineFetchEnd (data : BitVec 256) (s : State) : Host.Outcome State Fault Refusal :=
  act (fun (d : Device) => xipLineEnd data d) s

/-- XIP_WRITE (R497): A window write is merged into the page buffer or discarded with WR_EN = 0. -/
def execXipWrite (word : BitVec 23) (w : RegWrite) (s : State) : Host.Outcome State Fault Refusal :=
  act (fun (d : Device) => d.windowXipWrite (0x2000000 + 4 * word.toNat) w) s

/-- XIP_PROGRAM_START (R497): The page buffer is programmed on another page, a read, a transfer or WR_HOLD. -/
def execXipProgramStart (s : State) : Host.Outcome State Fault Refusal :=
  act (fun (d : Device) => xipHoldEnd d) s

/-- SSPS_SELECT_ASSERT (R501): SSPS_CS_N asserts and the status byte is captured. -/
def execSspsSelectAssert (s : State) : Host.Outcome State Fault Refusal :=
  act (fun (d : Device) => sspsSelect d) s

/-- SSPS_SELECT_RELEASE (R503): SSPS_CS_N releases; whole words are pushed and popped and frame flags set. -/
def execSspsSelectRelease (mosi : List Bool) (s : State) : Host.Outcome State Fault Refusal :=
  act (fun (d : Device) => sspsRelease mosi d) s

/-- SSPS_RX_RD_WRITE (R505): An RX_RD write consumes RX FIFO entries. -/
def execSspsRxRdWrite (w : RegWrite) (s : State) : Host.Outcome State Fault Refusal :=
  act (fun (d : Device) => d.hostSend sspsRxRd w) s

/-- SSPS_TX_WR_WRITE (R505): A TX_WR write announces TX FIFO entries. -/
def execSspsTxWrWrite (w : RegWrite) (s : State) : Host.Outcome State Fault Refusal :=
  act (fun (d : Device) => d.hostSend sspsTxWr w) s

/-- SSPS_ATTN_WRITE (R506): An ATTN.SET write asserts or releases SSPS_ATTN. -/
def execSspsAttnWrite (w : RegWrite) (s : State) : Host.Outcome State Fault Refusal :=
  act (fun (d : Device) => d.hostSend sspsAttn w) s

/-- TRIG_SW (R547): A TRIG_SW bit starts a pulse on a TRIG_OUT whose SRC is 3. -/
def execTrigSw (k : Fin 4) (w : RegWrite) (s : State) : Host.Outcome State Fault Refusal :=
  act (fun (d : Device) => d.hostCmd w ⟨pinsTrigSw, k.val, k.val⟩ 1) s

/-- TRIG_OUT_PULSE_END (R547): A TRIG_OUT pulse's WIDTH elapses and the ball returns inactive. -/
def execTrigOutPulseEnd (k : Fin 4) (s : State) : Host.Outcome State Fault Refusal :=
  act (fun (d : Device) => trigOutPulseEnd k.val d) s

end Sys2Proof.Machine
end

