-- ==== Sys2Proof/Machine/RepairRows.lean ====
section
/-!
DEFINITION. The rows of pilots, failover and repair (R292 … R320): one meaning for each.
-/
namespace Sys2Proof.Machine

/-- PILOT_FAULT (R297): A pilot stall, parity or ECC fault stops its output and starts failover to a spare. -/
def execPilotFault (p : Fin 20) (cause : PilotCause) (s : State) : Host.Outcome State Fault Refusal :=
  act (fun (d : Device) => pilotFault p.val (pilotCauseCode cause) d) s

/-- FAILOVER_RESUME (R297): The spare reads the checkpoint and commits a NAK, resuming the session. -/
def execFailoverResume (n : Fin 16) (s : State) : Host.Outcome State Fault Refusal :=
  act (fun (d : Device) => failoverResume n.val d) s

/-- PILOT_TEST_END (R299): A faulted pilot's built-in test ends, making it SPARE or DEAD. -/
def execPilotTestEnd (p : Fin 20) (pass : Bool) (s : State) : Host.Outcome State Fault Refusal :=
  act (fun (d : Device) => pilotTestEnd p.val pass d) s

/-- PILOT_MOVE_TO (R300): PILOT.CMD MOVE_TO requests a planned move to a spare pilot. -/
def execPilotMoveTo (p : Fin 20) (w : RegWrite) (s : State) : Host.Outcome State Fault Refusal :=
  act (fun (d : Device) => d.hostCmd w (fPilCmdAction p.val) 1) s

/-- MOVE_AT_QUIET_POINT (R300): At the session's quiet point the serving pilot writes a checkpoint for the target. -/
def execMoveAtQuietPoint (n : Fin 16) (s : State) : Host.Outcome State Fault Refusal :=
  act (fun (d : Device) => moveAtQuietPoint n.val d) s

/-- MOVE_COMPLETE (R300): The target resumes without NAK and the old pilot goes to SPARE or OFF. -/
def execMoveComplete (n : Fin 16) (s : State) : Host.Outcome State Fault Refusal :=
  act (fun (d : Device) => moveComplete n.val d) s

/-- DREDGER_ROW_VISIT (R303): The dredger reads one row per interval, correcting and detecting hard faults. -/
def execDredgerRowVisit (bank : Fin 14) (row : Fin 8192) (find : RowFind) (s : State) : Host.Outcome State Fault Refusal :=
  act (fun (d : Device) => dredgerRowVisit bank.val row.val find d) s

/-- REPAIR_SELFTEST (R308): REPAIR.CMD SELFTEST starts the idle self-test. -/
def execRepairSelftest (s : State) : Host.Outcome State Fault Refusal :=
  act (fun (d : Device) => d.hostBit fRepCmdAction 1) s

/-- SELFTEST_STEP_END (R308): A self-test step ends and the next starts, or the test completes with RESULT. -/
def execSelftestStepEnd (x : SelfTestFinds) (s : State) : Host.Outcome State Fault Refusal :=
  act (fun (d : Device) => selftestStepEnd x d) s

/-- REPAIR_ABORT (R308): REPAIR.CMD ABORT stops the self-test at the end of its step. -/
def execRepairAbort (s : State) : Host.Outcome State Fault Refusal :=
  act (fun (d : Device) => d.hostBit fRepCmdAction 2) s

/-- MARK_DEAD (R305): REPAIR.CMD MARK_DEAD records an OFF path as dead. -/
def execMarkDead (w : RegWrite) (s : State) : Host.Outcome State Fault Refusal :=
  act (fun (d : Device) => d.hostCmd w fRepCmdAction 3) s

/-- REVIVE (R307): REPAIR.CMD REVIVE cancels a path's dead record. -/
def execRevive (w : RegWrite) (s : State) : Host.Outcome State Fault Refusal :=
  act (fun (d : Device) => d.hostCmd w fRepCmdAction 4) s

/-- REPAIR_COMPACT (R312): REPAIR.CMD COMPACT compacts the repair map into the other half. -/
def execRepairCompact (s : State) : Host.Outcome State Fault Refusal :=
  act (fun (d : Device) => d.hostBit fRepCmdAction 5) s

/-- REPAIR_RECORD_WRITE (R311): A queued repair record is appended to the active half within 10 ms. -/
def execRepairRecordWrite (s : State) : Host.Outcome State Fault Refusal :=
  act (fun (d : Device) => repairRecordWrite d) s

/-- COMPACTION_END (R312): A compaction writes the new header last and the other half becomes active. -/
def execCompactionEnd (s : State) : Host.Outcome State Fault Refusal :=
  act (fun (d : Device) => compactionEnd d) s

/-- REPAIR_CLEAR_ECC (R319): REPAIR CNT_CLR.ECC clears ECC_COUNT and ROWS_b.CORRECTED. -/
def execRepairClearEcc (s : State) : Host.Outcome State Fault Refusal :=
  act (fun (d : Device) => d.hostBit fRepCntClrEcc 1) s

/-- PILOT_ENABLE (R318): PILOT EN = 1 with RESULT OK starts the pilot's test towards SPARE. -/
def execPilotEnable (p : Fin 20) (w : RegWrite) (s : State) : Host.Outcome State Fault Refusal :=
  act (fun (d : Device) => d.hostCmd w (fPcEn (0x20 + p.val)) 1) s

/-- PILOT_DISABLE (R318): PILOT EN = 0 takes a spare OFF or moves a serving pilot's session away. -/
def execPilotDisable (p : Fin 20) (w : RegWrite) (s : State) : Host.Outcome State Fault Refusal :=
  act (fun (d : Device) => d.hostCmd w (fPcEn (0x20 + p.val)) 0) s

/-- PILOT_COPY_FROM (R318): PILOT.CMD COPY_FROM copies another pilot's image. -/
def execPilotCopyFrom (p : Fin 20) (w : RegWrite) (s : State) : Host.Outcome State Fault Refusal :=
  act (fun (d : Device) => d.hostCmd w (fPilCmdAction p.val) 2) s

/-- PILOT_VERIFY (R314): PILOT.CMD VERIFY checks the loaded container. -/
def execPilotVerify (p : Fin 20) (w : RegWrite) (s : State) : Host.Outcome State Fault Refusal :=
  act (fun (d : Device) => d.hostCmd w (fPilCmdAction p.val) 3) s

/-- PILOT_SELFTEST (R318): PILOT.CMD SELFTEST runs the built-in test of an OFF or SPARE pilot. -/
def execPilotSelftest (p : Fin 20) (w : RegWrite) (s : State) : Host.Outcome State Fault Refusal :=
  act (fun (d : Device) => d.hostCmd w (fPilCmdAction p.val) 4) s

/-- PILOT_IMG_DATA_WRITE (R318): An IMG_DATA write loads an image word and advances IMG_ADDR. -/
def execPilotImgDataWrite (p : Fin 20) (w : RegWrite) (s : State) : Host.Outcome State Fault Refusal :=
  act (fun (d : Device) => d.hostSend (pilImgData p.val) w) s

/-- PILOT_IMG_DATA_READ (R316): An IMG_DATA read returns an image word and advances IMG_ADDR. -/
def execPilotImgDataRead (p : Fin 20) (s : State) : Host.Outcome State Fault Refusal :=
  act (fun (d : Device) => d.hostRead (pilImgData p.val)) s

/-- IMAGE_LOAD_IDLE (R318): 1 ms without an IMG_DATA write returns a LOADING pilot to OFF. -/
def execImageLoadIdle (p : Fin 20) (s : State) : Host.Outcome State Fault Refusal :=
  act (fun (d : Device) => imageLoadIdle p.val d) s

/-- IMAGE_COPY_DONE (R318): A COPY_FROM completes and the pilot returns to OFF. -/
def execImageCopyDone (p : Fin 20) (s : State) : Host.Outcome State Fault Refusal :=
  act (fun (d : Device) => imageCopyDone p.val d) s

/-- IMAGE_CHECK_END (R314): A container check ends, setting RESULT and raising PILOT_IMAGE. -/
def execImageCheckEnd (p : Fin 20) (s : State) : Host.Outcome State Fault Refusal :=
  act (fun (d : Device) => imageCheckEnd p.val d) s

/-- PILOT_CLEAR_COUNTS (R316): PILOT CNT_CLR.COUNTS clears COUNTS. -/
def execPilotClearCounts (p : Fin 20) (w : RegWrite) (s : State) : Host.Outcome State Fault Refusal :=
  act (fun (d : Device) => d.hostCmd w (fPilCntClrCounts p.val) 1) s

/-- PILOT_CLEAR_CKPTS (R316): PILOT CNT_CLR.CKPTS clears CKPTS. -/
def execPilotClearCkpts (p : Fin 20) (w : RegWrite) (s : State) : Host.Outcome State Fault Refusal :=
  act (fun (d : Device) => d.hostCmd w (fPilCntClrCkpts p.val) 1) s

end Sys2Proof.Machine
end

