-- ==== Sys2Proof/Machine/ResetRows.lean ====
section
/-!
DEFINITION. The rows of reset, clocks and start-up (R385 … R413): one meaning for each.
-/
namespace Sys2Proof.Machine

/-- AON_POWER_ON (R385): The always-on rail below its POR threshold resets the always-on domain and asserts power-on. -/
def execAonPowerOn (s : State) : Host.Outcome State Fault Refusal :=
  act (fun (d : Device) => aonPowerOn d) s

/-- POWER_ON_RESET (R385): A main rail rise asserts the FULL power-on source until rails are good for 100 µs. -/
def execPowerOnReset (s : State) : Host.Outcome State Fault Refusal :=
  act (fun (d : Device) => powerOnReset d) s

/-- BROWN_OUT (R385): A main rail below its threshold for 1 µs asserts a FULL brown-out reset. -/
def execBrownOut (rails : BitVec 9) (s : State) : Host.Outcome State Fault Refusal :=
  act (fun (d : Device) => brownOut rails d) s

/-- RST_PIN (R385): RST_N low for at least 1 µs asserts a FULL reset. -/
def execRstPin (s : State) : Host.Outcome State Fault Refusal :=
  act (fun (d : Device) => rstPin d) s

/-- THERMAL_SHUTDOWN (R385): Tj at the shutdown threshold asserts a FULL reset until 115 °C. -/
def execThermalShutdown (s : State) : Host.Outcome State Fault Refusal :=
  act (fun (d : Device) => thermalShutdown d) s

/-- WATCHDOG_EXPIRY (R395): The watchdog reaches zero and asserts a CORE reset. -/
def execWatchdogExpiry (s : State) : Host.Outcome State Fault Refusal :=
  act (fun (d : Device) => watchdogExpiry d) s

/-- CHIP_RST (R410): SYS.CTRL.CHIP_RST requests a CORE reset. -/
def execChipRst (s : State) : Host.Outcome State Fault Refusal :=
  act (fun (d : Device) => d.hostBit fSysCtrlChipRst 1) s

/-- RESET_SOURCES_RELEASE (R386): The last reset source releases and the release sequence of the widest reach starts. -/
def execResetSourcesRelease (s : State) : Host.Outcome State Fault Refusal :=
  act (fun (d : Device) => resetSourcesRelease d) s

/-- STRAP_SAMPLE_DONE (R398): Strap conversions end; codes and flags are recorded and SYNTH_P started. -/
def execStrapSampleDone (codes : Vector (Fin 16) 8) (unstable : BitVec 8) (s : State) : Host.Outcome State Fault Refusal :=
  act (fun (d : Device) => strapSampleDone codes unstable d) s

/-- SYNTH_P_LOCK (R405): SYNTH_P locks and the pilot island's clock becomes good. -/
def execSynthPLock (s : State) : Host.Outcome State Fault Refusal :=
  act (fun (d : Device) => synthPLock d) s

/-- SYNTH_P_LOCK_LOSS (R407): SYNTH_P loses lock, clearing pilot clock-good; lock is retried each 1 ms. -/
def execSynthPLockLoss (s : State) : Host.Outcome State Fault Refusal :=
  act (fun (d : Device) => synthPLockLoss d) s

/-- OPTION_LOAD_COMPLETE (R400): The option load applies identity, pin map, repair map, profile, RTC record and boot configuration. -/
def execOptionLoadComplete (s : State) : Host.Outcome State Fault Refusal :=
  act (fun (d : Device) => optionLoadComplete d) s

/-- ISLAND_RELEASE (R393): An island or block is released 64 cycles after its request and clock-good. -/
def execIslandRelease (x : ReleaseTo) (s : State) : Host.Outcome State Fault Refusal :=
  act (fun (d : Device) => d.releaseTo x) s

/-- CLOCK_GOOD_CHANGE (R394): An island's clock-good condition becomes true or false. -/
def execClockGoodChange (isl : Fin 5) (good : Bool) (s : State) : Host.Outcome State Fault Refusal :=
  act (fun (d : Device) => clockGoodChange isl good d) s

/-- BOOT_IMAGE_DONE (R408): The boot container is read and checked and written to every live pilot area. -/
def execBootImageDone (a : List Byte) (b : List Byte) (sfdp : SfdpResult) (s : State) : Host.Outcome State Fault Refusal :=
  act (fun (d : Device) => bootImageDone a b sfdp d) s

/-- WATCHDOG_KICK (R395): WDOG_KICK with key 0xA5 reloads PERIOD when applied. -/
def execWatchdogKick (s : State) : Host.Outcome State Fault Refusal :=
  act (fun (d : Device) => d.hostBit fRstWdogKickKey 0xA5) s

/-- WATCHDOG_WARN (R395): The watchdog count passes half PERIOD and raises WDOG_WARN. -/
def execWatchdogWarn (s : State) : Host.Outcome State Fault Refusal :=
  act (fun (d : Device) => watchdogWarn d) s

/-- OPT_PROGRAM (R403): OPT.CMD PROGRAM programs one option-memory sector from SECT_BUF. -/
def execOptProgram (s : State) : Host.Outcome State Fault Refusal :=
  act (fun (d : Device) => d.hostBit fOptCmdAction 1) s

/-- OPT_PROGRAM_DONE (R403): A sector program and verify ends, setting RESULT. -/
def execOptProgramDone (ok : Bool) (s : State) : Host.Outcome State Fault Refusal :=
  act (fun (d : Device) => optProgramDone ok d) s

/-- OPT_APPLY (R404): OPT.CMD APPLY checks a staged option image and programs its records. -/
def execOptApply (s : State) : Host.Outcome State Fault Refusal :=
  act (fun (d : Device) => d.hostBit fOptCmdAction 2) s

/-- OPT_APPLY_DONE (R404): An option image apply ends, setting RESULT. -/
def execOptApplyDone (fail : Option Nat) (s : State) : Host.Outcome State Fault Refusal :=
  act (fun (d : Device) => optApplyDone fail d) s

/-- OPT_DATA_READ (R413): An OPT.DATA read returns an option word and advances ADDR. -/
def execOptDataRead (s : State) : Host.Outcome State Fault Refusal :=
  act (fun (d : Device) => d.hostRead optData) s

/-- OPT_IMG_DATA_ACCESS (R413): An OPT.IMG_DATA access moves a staging word and advances IMG_ADDR. -/
def execOptImgDataAccess (w : Option RegWrite) (s : State) : Host.Outcome State Fault Refusal :=
  act (fun (d : Device) => d.imgDataAccess w) s

/-- RSTOUT_N_HIGH (R388): RSTOUT_N goes high 100 µs after a FULL or CORE reset began, when the host island was released earlier. -/
def execRstoutNHigh (s : State) : Host.Outcome State Fault Refusal :=
  act (fun (d : Device) => rstoutNHigh d) s

end Sys2Proof.Machine
end

