-- ==== Sys2Proof/Machine/RingRows.lean ====
section
/-!
DEFINITION. The rows of rings, descriptors, messages and the manifest (R121 … R159): one meaning for each.
-/
namespace Sys2Proof.Machine

/-- CTAIL_WRITE (R124): A CTAIL write announces descriptors once earlier ring-memory writes are applied. -/
def execCtailWrite (n : Fin 16) (w : RegWrite) (s : State) : Host.Outcome State Fault Refusal :=
  act (fun (d : Device) => d.hostSend (ringCtail n.val) w) s

/-- MHEAD_WRITE (R123): An MHEAD write consumes message slots, ignored if past MTAIL, backwards or forwarded. -/
def execMheadWrite (n : Fin 16) (w : RegWrite) (s : State) : Host.Outcome State Fault Refusal :=
  act (fun (d : Device) => d.hostSend (ringMhead n.val) w) s

/-- RING_CONFIG_WRITE (R127): A CFG, CBASE or MBASE write of an OFF session resets the affected indices. -/
def execRingConfigWrite (n : Fin 16) (which : RingWord) (w : RegWrite) (s : State) : Host.Outcome State Fault Refusal :=
  act (fun (d : Device) => d.hostSend (ringWordOf n.val which) w) s

/-- MESSAGE_WRITE (R125): A message whose slots are free is written and MTAIL advanced by SLOTS. -/
def execMessageWrite (n : Fin 16) (s : State) : Host.Outcome State Fault Refusal :=
  act (fun (d : Device) => (d.release n.val 1).spaceCheck n.val) s

/-- WAITING_MESSAGE_RELEASE (R147): Ring space frees and waiting messages are written in event order. -/
def execWaitingMessageRelease (n : Fin 16) (s : State) : Host.Outcome State Fault Refusal :=
  act (fun (d : Device) => waitingRelease n.val d) s

/-- DESCRIPTOR_TAKE (R135): The session takes the descriptor at CHEAD, advancing CHEAD, when in-flight and fence allow. -/
def execDescriptorTake (n : Fin 16) (find : DescFind) (s : State) : Host.Outcome State Fault Refusal :=
  act (fun (d : Device) => descriptorTake n.val find d) s

/-- DESCRIPTOR_URGENT (R136): A waiting descriptor's aged priority reaches 7 and it becomes urgent. -/
def execDescriptorUrgent (s : State) : Host.Outcome State Fault Refusal :=
  act (fun (d : Device) => d.forAll (List.range 16) (fun d n => descriptorUrgent n d)) s

/-- DESCRIPTOR_START (R137): The session starts the waiting descriptor chosen by urgency, priority and age. -/
def execDescriptorStart (n : Fin 16) (s : State) : Host.Outcome State Fault Refusal :=
  act (fun (d : Device) => descriptorStart n.val d) s

/-- INVENTORY (R88): An INVENTORY descriptor runs rounds until ROUNDS, TIME_LIMIT or STOP. -/
def execInventory (n : Fin 16) (s : State) : Host.Outcome State Fault Refusal :=
  act (fun (d : Device) => startOp 0x10 n.val d) s

/-- ACCESS (R132): An ACCESS descriptor finds its target tag and runs one operation. -/
def execAccess (n : Fin 16) (s : State) : Host.Outcome State Fault Refusal :=
  act (fun (d : Device) => startOp 0x11 n.val d) s

/-- TEMPLATE (R115): A TEMPLATE descriptor sends a stored template record and returns the reply bits. -/
def execTemplate (n : Fin 16) (s : State) : Host.Outcome State Fault Refusal :=
  act (fun (d : Device) => startOp 0x12 n.val d) s

/-- BEAM (R133): A BEAM descriptor loads or steers weights and seeks admission. -/
def execBeam (n : Fin 16) (s : State) : Host.Outcome State Fault Refusal :=
  act (fun (d : Device) => startOp 0x13 n.val d) s

/-- SURVEY (R187): A SURVEY descriptor visits sectors in order, running DWELL rounds in each. -/
def execSurvey (n : Fin 16) (s : State) : Host.Outcome State Fault Refusal :=
  act (fun (d : Device) => startOp 0x14 n.val d) s

/-- SNAPSHOT (R134): A SNAPSHOT descriptor captures all 64 channel streams to the berth or the packet link. -/
def execSnapshot (n : Fin 16) (s : State) : Host.Outcome State Fault Refusal :=
  act (fun (d : Device) => startOp 0x15 n.val d) s

/-- SNAPSHOT_CAPTURE_START (R134): The tide reaches START and the snapshot capture begins. -/
def execSnapshotCaptureStart (n : Fin 16) (s : State) : Host.Outcome State Fault Refusal :=
  act (fun (d : Device) => snapshotCaptureStart n.val d) s

/-- NOISE (R134): A NOISE descriptor measures noise for DURATION without modulating. -/
def execNoise (n : Fin 16) (s : State) : Host.Outcome State Fault Refusal :=
  act (fun (d : Device) => startOp 0x16 n.val d) s

/-- NOISE_MEASURE_END (R134): The NOISE duration ends and NOISE_REPORT is written. -/
def execNoiseMeasureEnd (n : Fin 16) (a : BitVec 16) (b : BitVec 16) (levels : List (BitVec 16)) (s : State) : Host.Outcome State Fault Refusal :=
  act (fun (d : Device) => noiseMeasureEnd n.val a b levels d) s

/-- STOP (R138): A STOP ends the running descriptor at the next quiet point, and with SCOPE 1 retires earlier ones. -/
def execStop (n : Fin 16) (find : DescFind) (s : State) : Host.Outcome State Fault Refusal :=
  act (fun (d : Device) => takeOp 0x17 n.val find d) s

/-- FENCE (R138): A FENCE blocks later descriptors, completing at once or when MHEAD drains. -/
def execFence (n : Fin 16) (find : DescFind) (s : State) : Host.Outcome State Fault Refusal :=
  act (fun (d : Device) => takeOp 0x18 n.val find d) s

/-- FENCE_COMPLETE (R138): MHEAD reaches the MTAIL recorded at the FENCE and the fence completes. -/
def execFenceComplete (n : Fin 16) (s : State) : Host.Outcome State Fault Refusal :=
  act (fun (d : Device) => fenceComplete n.val d) s

/-- SELECT_SET (R138): A SELECT_SET stores or erases one of the session's Select entries at once. -/
def execSelectSet (n : Fin 16) (find : DescFind) (s : State) : Host.Outcome State Fault Refusal :=
  act (fun (d : Device) => takeOp 0x19 n.val find d) s

/-- TURN_END (R139): A turn ends at the holder's quiet point after TURN_SLOTS slots and passes on by claim. -/
def execTurnEnd (n : Fin 16) (s : State) : Host.Outcome State Fault Refusal :=
  act (fun (d : Device) => turnEnd n.val d) s

/-- SNAPSHOT_CAPTURE_END (R134): A SNAPSHOT capture of SAMPLES instants ends: a DEST 0 capture sets BERTH.FREEZE and FROZEN and writes SNAPSHOT_READY. -/
def execSnapshotCaptureEnd (n : Fin 16) (samples : List Word) (s : State) : Host.Outcome State Fault Refusal :=
  act (fun (d : Device) => snapshotCaptureEnd n.val samples d) s

/-- MANIFEST_SIGHTING (R153): The manifest engine looks up a singulated tag and updates, creates, evicts or misses. -/
def execManifestSighting (s : State) : Host.Outcome State Fault Refusal :=
  act (fun (d : Device) => manSighting d) s

/-- MANIFEST_AGE_OUT (R154): An unpinned entry older than AGE_OUT seconds is removed. -/
def execManifestAgeOut (entry : Fin 65536) (s : State) : Host.Outcome State Fault Refusal :=
  act (fun (d : Device) => manAgeOut entry.val d) s

/-- MANIFEST_WRITE_DISCARD (R155): A host write to the manifest window is discarded and counted. -/
def execManifestWriteDiscard (s : State) : Host.Outcome State Fault Refusal :=
  act (fun (d : Device) => d.manifestDiscard) s

/-- MAN_PIN (R158): MAN.CMD ACTION 1 pins an entry. -/
def execManPin (w : RegWrite) (s : State) : Host.Outcome State Fault Refusal :=
  act (fun (d : Device) => d.hostCmd w fManCmdAction 1) s

/-- MAN_UNPIN (R158): MAN.CMD ACTION 2 unpins an entry. -/
def execManUnpin (w : RegWrite) (s : State) : Host.Outcome State Fault Refusal :=
  act (fun (d : Device) => d.hostCmd w fManCmdAction 2) s

/-- MAN_REMOVE (R158): MAN.CMD ACTION 3 removes an entry. -/
def execManRemove (w : RegWrite) (s : State) : Host.Outcome State Fault Refusal :=
  act (fun (d : Device) => d.hostCmd w fManCmdAction 3) s

/-- MAN_CLEAR_UNPINNED (R157): MAN.CMD ACTION 4 starts clearing all unpinned entries. -/
def execManClearUnpinned (s : State) : Host.Outcome State Fault Refusal :=
  act (fun (d : Device) => d.hostBit fManCmdAction 4) s

/-- MAN_CLEAR_ALL (R157): MAN.CMD ACTION 5 starts clearing every entry. -/
def execManClearAll (s : State) : Host.Outcome State Fault Refusal :=
  act (fun (d : Device) => d.hostBit fManCmdAction 5) s

/-- MAN_CLEAR_DONE (R157): A clear ends after 164 µs and waiting sightings are served. -/
def execManClearDone (s : State) : Host.Outcome State Fault Refusal :=
  act (fun (d : Device) => manClearDone d) s

/-- MAN_THRESH_WRITE (R159): A THRESH write lowering the threshold to or below COUNT records THRESHOLD. -/
def execManThreshWrite (w : RegWrite) (s : State) : Host.Outcome State Fault Refusal :=
  act (fun (d : Device) => d.hostSend manThresh w) s

end Sys2Proof.Machine
end

