-- ==== Sys2Proof/Machine/RtcRows.lean ====
section
/-!
DEFINITION. The rows of the real-time clock (R429 … R451): one meaning for each.
-/
namespace Sys2Proof.Machine

/-- RTC_SECOND (R441): A compensated second ends and the calendar advances. -/
def execRtcSecond (s : State) : Host.Outcome State Fault Refusal :=
  act (fun (d : Device) => rtcSecond d) s

/-- RTC_HALT (R435): RTC.CTRL.HALT = 1 freezes prescaler, calendar and wake count. -/
def execRtcHalt (s : State) : Host.Outcome State Fault Refusal :=
  act (fun (d : Device) => d.hostChange fRtcCtrlHalt 1) s

/-- RTC_RUN (R435): RTC.CTRL.HALT = 0 clears the prescaler and restarts counting. -/
def execRtcRun (s : State) : Host.Outcome State Fault Refusal :=
  act (fun (d : Device) => d.hostChange fRtcCtrlHalt 0) s

/-- RTC_TIME_WRITE (R434): A TIME write is applied only while halted and within range. -/
def execRtcTimeWrite (w : RegWrite) (s : State) : Host.Outcome State Fault Refusal :=
  act (fun (d : Device) => d.hostSend rtcTime w) s

/-- RTC_DATE_WRITE (R434): A DATE write is applied only while halted and within range. -/
def execRtcDateWrite (w : RegWrite) (s : State) : Host.Outcome State Fault Refusal :=
  act (fun (d : Device) => d.hostSend rtcDate w) s

/-- RTC_TIME_READ (R432): A read of RTC.TIME clears STAT.ROLL at its sampling edge. -/
def execRtcTimeRead (s : State) : Host.Outcome State Fault Refusal :=
  act (fun (d : Device) => d.hostRead rtcTime) s

/-- RTC_WAKE_WRITE (R436): A WAKE write restarts the periodic count at the next second. -/
def execRtcWakeWrite (w : RegWrite) (s : State) : Host.Outcome State Fault Refusal :=
  act (fun (d : Device) => d.hostSend rtcWake w) s

/-- RTC_TEMP_MEASURE (R437): Every 16 s the RTC sensor measures T and E is recomputed. -/
def execRtcTempMeasure (t : BitVec 16) (s : State) : Host.Outcome State Fault Refusal :=
  act (fun (d : Device) => rtcTempMeasure t.toInt d) s

/-- VBAK_CHECK (R443): Once a second VBAK is compared with VBAK_THR, raising VBAK_LOW. -/
def execVbakCheck (mv : BitVec 16) (s : State) : Host.Outcome State Fault Refusal :=
  act (fun (d : Device) => vbakCheck mv.toNat d) s

/-- VAON_LOSS (R445): The always-on rail below VAON_LOSS resets time and date and sets LOST. -/
def execVaonLoss (s : State) : Host.Outcome State Fault Refusal :=
  act (fun (d : Device) => vaonLoss d) s

/-- BACKUP_SWITCH_TO_VBAK (R442): VDD_AON falls below the switch threshold and the rail moves to VBAK. -/
def execBackupSwitchToVbak (s : State) : Host.Outcome State Fault Refusal :=
  act (fun (d : Device) => backupToVbak d) s

/-- BACKUP_SWITCH_TO_AON (R442): VDD_AON returns and the rail moves back, main power returning. -/
def execBackupSwitchToAon (s : State) : Host.Outcome State Fault Refusal :=
  act (fun (d : Device) => backupToAon d) s

/-- CHARGER_START (R444): 10 ms after main power returns the native charger may start. -/
def execChargerStart (s : State) : Host.Outcome State Fault Refusal :=
  act (fun (d : Device) => chargerStart d) s

/-- CHARGER_THRESHOLD (R449): VBAK reaching CHG_V stops the charger; falling 50 mV below restarts it. -/
def execChargerThreshold (mv : BitVec 16) (s : State) : Host.Outcome State Fault Refusal :=
  act (fun (d : Device) => chargerThreshold mv.toNat d) s

/-- LOCKOUT_END (R447): The RTC write lockout ends at main power return, or 10 ms after in JH1604 mode. -/
def execLockoutEnd (s : State) : Host.Outcome State Fault Refusal :=
  act (fun (d : Device) => lockoutEnd d) s

/-- RTC_OUT_FALL (R450): With OUT_SEL = 1, RTC_OUT falls 16,384 ACLK cycles after each second's start. -/
def execRtcOutFall (s : State) : Host.Outcome State Fault Refusal :=
  act (fun (d : Device) => rtcOutFall d) s

/-- VAON_LOSS_RELEASE (R445): The always-on rail rises above 1.50 V after a VAON_LOSS and RTC counting resumes from the reset values. -/
def execVaonLossRelease (s : State) : Host.Outcome State Fault Refusal :=
  act (fun (d : Device) => vaonLossRelease d) s

end Sys2Proof.Machine
end

