-- ==== Sys2Proof/Machine/SecurityRows.lean ====
section
/-!
DEFINITION. The rows of interrupts, security and the test port (R508 … R532): one meaning for each.
-/
namespace Sys2Proof.Machine

/-- SUPPLY_WARN (R509): A main rail below its warning level for 1 µs raises SUPPLY. -/
def execSupplyWarn (r : Fin 9) (low : Bool) (s : State) : Host.Outcome State Fault Refusal :=
  act (fun (d : Device) => supplyWarn r.val low d) s

/-- INTC_CONFIG_WRITE (R513): An EN, ROUTE or OUT_CFG write takes effect and level balls follow at once. -/
def execIntcConfigWrite (which : IntcWord) (w : RegWrite) (s : State) : Host.Outcome State Fault Refusal :=
  act (fun (d : Device) => d.hostSend (intcWordOf which) w) s

/-- IRQ_PULSE_END (R512): A pulse-mode ball's pulse and separation end, giving a merged pulse if due. -/
def execIrqPulseEnd (b : Fin 4) (s : State) : Host.Outcome State Fault Refusal :=
  act (fun (d : Device) => irqPulseEnd b.val d) s

/-- SEC_OPEN_REQ (R518): SEC.CMD OPEN_REQ issues a challenge, or grants an unset key's level on a blank part. -/
def execSecOpenReq (w : RegWrite) (s : State) : Host.Outcome State Fault Refusal :=
  act (fun (d : Device) => d.hostCmd w fSecCmdAction 1) s

/-- SEC_VERIFY (R519): SEC.CMD VERIFY compares the MAC and grants the level or starts back-off. -/
def execSecVerify (s : State) : Host.Outcome State Fault Refusal :=
  act (fun (d : Device) => d.hostBit fSecCmdAction 2) s

/-- SEC_CLOSE (R520): SEC.CMD CLOSE sets the level to OPEN. -/
def execSecClose (s : State) : Host.Outcome State Fault Refusal :=
  act (fun (d : Device) => d.hostBit fSecCmdAction 3) s

/-- CHALLENGE_EXPIRY (R520): A challenge expires 10 s after it was issued. -/
def execChallengeExpiry (s : State) : Host.Outcome State Fault Refusal :=
  act (fun (d : Device) => challengeExpiry d) s

/-- IDLE_TIMEOUT (R522): IDLE_TO seconds without an OPERATOR action drop the level to OPEN. -/
def execIdleTimeout (s : State) : Host.Outcome State Fault Refusal :=
  act (fun (d : Device) => idleTimeout d) s

/-- BACKOFF_EXPIRY (R523): The back-off after a failed VERIFY ends and OPEN_REQ is accepted again. -/
def execBackoffExpiry (s : State) : Host.Outcome State Fault Refusal :=
  act (fun (d : Device) => backoffExpiry d) s

/-- KEY_WRITE_OP (R524): KEY_CMD WRITE_OP programs K_OP from KEY_BUF. -/
def execKeyWriteOp (s : State) : Host.Outcome State Fault Refusal :=
  act (fun (d : Device) => d.hostBit fSecKeyCmdAction 1) s

/-- KEY_WRITE_PROV (R524): KEY_CMD WRITE_PROV programs K_PROV from KEY_BUF. -/
def execKeyWriteProv (s : State) : Host.Outcome State Fault Refusal :=
  act (fun (d : Device) => d.hostBit fSecKeyCmdAction 2) s

/-- KEY_WRITE_DONE (R524): A key program and verify ends, setting the key flag and check value or KEY_FAIL. -/
def execKeyWriteDone (ok : Bool) (s : State) : Host.Outcome State Fault Refusal :=
  act (fun (d : Device) => keyWriteDone ok d) s

/-- SEAL_ARM (R527): KEY_CMD SEAL_ARM arms sealing for 1 ms. -/
def execSealArm (s : State) : Host.Outcome State Fault Refusal :=
  act (fun (d : Device) => d.hostBit fSecKeyCmdAction 3) s

/-- SEAL_ARM_EXPIRY (R527): 1 ms after SEAL_ARM without SEAL the arming lapses. -/
def execSealArmExpiry (s : State) : Host.Outcome State Fault Refusal :=
  act (fun (d : Device) => sealArmExpiry d) s

/-- SEAL (R527): KEY_CMD SEAL programs the seal bits when armed and conditions hold. -/
def execSeal (s : State) : Host.Outcome State Fault Refusal :=
  act (fun (d : Device) => d.hostBit fSecKeyCmdAction 4) s

/-- SEAL_DONE (R527): The seal bits are programmed and the device is sealed. -/
def execSealDone (s : State) : Host.Outcome State Fault Refusal :=
  act (fun (d : Device) => sealDone d) s

/-- TAMPER_EVENT (R531): A glitch, shield, cold or JTAG tamper aborts security operations and drops the level. -/
def execTamperEvent (cause : Fin 4) (s : State) : Host.Outcome State Fault Refusal :=
  act (fun (d : Device) => tamperEvent cause.val d) s

/-- JTAG_INSTRUCTION (R529): A test-port instruction is loaded; EXTEST holds the RF-off interlock. -/
def execJtagInstruction (g : JtagGroup) (s : State) : Host.Outcome State Fault Refusal :=
  act (fun (d : Device) => d.jtag g) s

/-- TEST_LOGIC_RESET (R529): Test-Logic-Reset ends the EXTEST RF-off hold. -/
def execTestLogicReset (s : State) : Host.Outcome State Fault Refusal :=
  act (fun (d : Device) => { d with extest := false }.synthContinue) s

end Sys2Proof.Machine
end

