-- ==== Sys2Proof/Machine/SessionRows.lean ====
section
/-!
DEFINITION. The rows of sessions and the air protocol (R71 … R120): one meaning for each.
-/
namespace Sys2Proof.Machine

/-- SESSION_ENABLE (R80): SESSION PAGE_CTRL.EN = 1 runs the carrier, admission and pilot checks of the enable sequence. -/
def execSessionEnable (n : Fin 16) (w : RegWrite) (s : State) : Host.Outcome State Fault Refusal :=
  act (fun (d : Device) => d.hostCmd w (fPcEn (0x80 + n.val)) 1) s

/-- SESSION_ENABLE_COMPLETE (R79): The session enable sequence ends and the session goes to IDLE or HOLD. -/
def execSessionEnableComplete (n : Fin 16) (s : State) : Host.Outcome State Fault Refusal :=
  act (fun (d : Device) => sessionEnableComplete n.val d) s

/-- SESSION_DISABLE (R81): SESSION EN = 0 starts the shutdown: hold at a quiet point, retire descriptors, release the stream. -/
def execSessionDisable (n : Fin 16) (w : RegWrite) (s : State) : Host.Outcome State Fault Refusal :=
  act (fun (d : Device) => d.hostCmd w (fPcEn (0x80 + n.val)) 0) s

/-- SESSION_SHUTDOWN_COMPLETE (R81): The session reaches OFF after writing waiting and retirement messages as space allows. -/
def execSessionShutdownComplete (n : Fin 16) (s : State) : Host.Outcome State Fault Refusal :=
  act (fun (d : Device) => sessionShutdownComplete n.val d) s

/-- COMMAND_COMMIT (R82): The pilot fixes the start instant of an air command, writing the checkpoint first at a slot boundary. -/
def execCommandCommit (n : Fin 16) (s : State) : Host.Outcome State Fault Refusal :=
  act (fun (d : Device) => commandCommit n.val d) s

/-- COMMAND_START (R98): A committed air command starts its delimiter at its fixed instant. -/
def execCommandStart (n : Fin 16) (noiseA : BitVec 16) (noiseB : BitVec 16) (s : State) : Host.Outcome State Fault Refusal :=
  act (fun (d : Device) => commandStart n.val noiseA.toNat noiseB.toNat d) s

/-- COMMAND_END (R98): The last PIE symbol of an air command ends at the TX output pair. -/
def execCommandEnd (n : Fin 16) (s : State) : Host.Outcome State Fault Refusal :=
  act (fun (d : Device) => commandEnd n.val d) s

/-- REPLY_WINDOW_OPEN (R99): The reply window opens 0.75 T1nom − 2 µs after the command's end. -/
def execReplyWindowOpen (n : Fin 16) (s : State) : Host.Outcome State Fault Refusal :=
  act (fun (d : Device) => replyWindowOpen n.val d) s

/-- REPLY_WINDOW_CLOSE (R99): The reply window closes 1.25 T1nom + 2 µs after the command's end. -/
def execReplyWindowClose (n : Fin 16) (s : State) : Host.Outcome State Fault Refusal :=
  act (fun (d : Device) => replyWindowClose n.val d) s

/-- PREAMBLE_DETECT (R103): A correlator's metric reaches DET_THR and a reception starts on the chosen weight set. -/
def execPreambleDetect (n : Fin 16) (a : BitVec 16) (b : BitVec 16) (early : Bool) (s : State) : Host.Outcome State Fault Refusal :=
  act (fun (d : Device) => preambleDetect n.val a.toInt b.toInt early d) s

/-- REPLY_DECISION (R100): The decoder decides a reply's last symbol and the reply is judged. -/
def execReplyDecision (n : Fin 16) (r : Reply) (s : State) : Host.Outcome State Fault Refusal :=
  act (fun (d : Device) => replyDecision n.val r d) s

/-- EMPTY_SLOT_DECISION (R102): No preamble by window close plus preamble duration and latency decides the slot empty. -/
def execEmptySlotDecision (n : Fin 16) (s : State) : Host.Outcome State Fault Refusal :=
  act (fun (d : Device) => emptySlotDecision n.val d) s

/-- RECEPTION_FAILED (R107): Subcarrier energy below DET_THR for 2 bit periods ends the reception as a failed reply. -/
def execReceptionFailed (n : Fin 16) (tpri : BitVec 32) (s : State) : Host.Outcome State Fault Refusal :=
  act (fun (d : Device) => receptionFailed n.val tpri.toNat d) s

/-- ROUND_START (R88): A round sends its stored Selects and a Query with the LINK and INV settings. -/
def execRoundStart (n : Fin 16) (s : State) : Host.Outcome State Fault Refusal :=
  act (fun (d : Device) => roundStart n.val d) s

/-- ROUND_END (R91): At the first quiet point after 2^Q slots the round ends, ROUNDS increments and ROUND_DONE is written. -/
def execRoundEnd (n : Fin 16) (s : State) : Host.Outcome State Fault Refusal :=
  act (fun (d : Device) => roundEnd n.val d) s

/-- ACCESS_SEQUENCE_START (R94): An access sequence singulates, obtains the handle and runs the Access steps and operations. -/
def execAccessSequenceStart (n : Fin 16) (s : State) : Host.Outcome State Fault Refusal :=
  act (fun (d : Device) => accessSequenceStart n.val d) s

/-- ACCESS_REPLY_DECISION (R95): The CRC and handle of an access reply decide success, retry or NO_REPLY. -/
def execAccessReplyDecision (n : Fin 16) (r : Reply) (s : State) : Host.Outcome State Fault Refusal :=
  act (fun (d : Device) => accessReplyDecision n.val r d) s

/-- DELAYED_REPLY_TIMEOUT (R96): No delayed reply within 20 ms, or the template TIMEOUT, fails the operation. -/
def execDelayedReplyTimeout (n : Fin 16) (s : State) : Host.Outcome State Fault Refusal :=
  act (fun (d : Device) => delayedReplyTimeout n.val d) s

/-- HOLD_ENTER (R84): A session with a hold requested reaches a quiet point and enters HOLD. -/
def execHoldEnter (n : Fin 16) (s : State) : Host.Outcome State Fault Refusal :=
  act (fun (d : Device) => holdEnter n.val d) s

/-- HOLD_RELEASE (R79): A hold reason ends and the session returns to its state before HOLD. -/
def execHoldRelease (n : Fin 16) (s : State) : Host.Outcome State Fault Refusal :=
  act (fun (d : Device) => holdRelease n.val d) s

/-- SLACK_WATER_BEGIN (R85): The last enabled session reaches a quiet point and 30 µs of slack water begin. -/
def execSlackWaterBegin (s : State) : Host.Outcome State Fault Refusal :=
  act (fun (d : Device) => slackWaterBegin d) s

/-- SLACK_WATER_END (R85): Slack water's 30 µs end and held sessions resume. -/
def execSlackWaterEnd (s : State) : Host.Outcome State Fault Refusal :=
  act (fun (d : Device) => slackWaterEnd d) s

/-- TRIG_IN_EDGE (R118): An edge held 10 ns arrives on a TRIG_IN ball. -/
def execTrigInEdge (k : Fin 4) (high : Bool) (s : State) : Host.Outcome State Fault Refusal :=
  act (fun (d : Device) => d.trigIn k.val high) s

/-- TRIG_DISABLE_WRITE (R79): TRIG.EN written 0 clears PENDING and moves an ARMED session to run its round at once. -/
def execTrigDisableWrite (n : Fin 16) (w : RegWrite) (s : State) : Host.Outcome State Fault Refusal :=
  act (fun (d : Device) => d.hostCmd w (fSesTrigEn n.val) 0) s

/-- BERTH_FREEZE_WRITE (R112): BERTH.FREEZE = 1 arms keeping the next complete reply. -/
def execBerthFreezeWrite (n : Fin 16) (w : RegWrite) (s : State) : Host.Outcome State Fault Refusal :=
  act (fun (d : Device) => d.hostCmd w (fSesBerthFreeze n.val) 1) s

/-- BERTH_RELEASE_WRITE (R112): BERTH.FREEZE = 0 releases the berth hold. -/
def execBerthReleaseWrite (n : Fin 16) (w : RegWrite) (s : State) : Host.Outcome State Fault Refusal :=
  act (fun (d : Device) => d.hostCmd w (fSesBerthFreeze n.val) 0) s

/-- SESSION_CLEAR_ROUNDS (R76): CNT_CLR.ROUNDS clears ROUNDS. -/
def execSessionClearRounds (n : Fin 16) (w : RegWrite) (s : State) : Host.Outcome State Fault Refusal :=
  act (fun (d : Device) => d.hostCmd w (fSesCntClrRounds n.val) 1) s

/-- SESSION_CLEAR_SINGS (R76): CNT_CLR.SINGS clears SINGS. -/
def execSessionClearSings (n : Fin 16) (w : RegWrite) (s : State) : Host.Outcome State Fault Refusal :=
  act (fun (d : Device) => d.hostCmd w (fSesCntClrSings n.val) 1) s

/-- SESSION_CLEAR_ERRORS (R76): CNT_CLR.ERRORS clears CRC_FAIL, EMPTY, COLLIDED, RESTARTS and LOST_SLOTS. -/
def execSessionClearErrors (n : Fin 16) (w : RegWrite) (s : State) : Host.Outcome State Fault Refusal :=
  act (fun (d : Device) => d.hostCmd w (fSesCntClrErrors n.val) 1) s

/-- SESSION_CLEAR_SETS (R76): CNT_CLR.SETS clears SET_WINS. -/
def execSessionClearSets (n : Fin 16) (w : RegWrite) (s : State) : Host.Outcome State Fault Refusal :=
  act (fun (d : Device) => d.hostCmd w (fSesCntClrSets n.val) 1) s

/-- SESSION_CLEAR_TRIG_OVF (R76): CNT_CLR.TRIG clears TRIG.OVF. -/
def execSessionClearTrigOvf (n : Fin 16) (w : RegWrite) (s : State) : Host.Outcome State Fault Refusal :=
  act (fun (d : Device) => d.hostCmd w (fSesCntClrTrig n.val) 1) s

end Sys2Proof.Machine
end

