-- ==== Sys2Proof/Machine/SleepRows.lean ====
section
/-!
DEFINITION. The rows of power states and harbour watch (R414 … R428): one meaning for each.
-/
namespace Sys2Proof.Machine

/-- PWR_MOOR (R419): PWR.CMD MOOR is checked and starts entry to MOORED. -/
def execPwrMoor (s : State) : Host.Outcome State Fault Refusal :=
  act (fun (d : Device) => d.hostBit fPwrCmdAction 1) s

/-- PWR_LAY_UP (R420): PWR.CMD LAY_UP is checked and starts entry to LAID_UP. -/
def execPwrLayUp (s : State) : Host.Outcome State Fault Refusal :=
  act (fun (d : Device) => d.hostBit fPwrCmdAction 2) s

/-- PREPARE_DONE (R419): PREPARE drains ports, latches tide and RTC, freezes timers and saves state. -/
def execPrepareDone (s : State) : Host.Outcome State Fault Refusal :=
  act (fun (d : Device) => prepareDone d) s

/-- ENTRY_WINDOW_OPEN (R419): The next ACLK edge after PREPARE opens the 4-cycle entry window. -/
def execEntryWindowOpen (s : State) : Host.Outcome State Fault Refusal :=
  act (fun (d : Device) => entryWindowOpen d) s

/-- ENTRY_WINDOW_CLOSE (R422): The window closes, domains are off, and the wake check moors or exits. -/
def execEntryWindowClose (s : State) : Host.Outcome State Fault Refusal :=
  act (fun (d : Device) => entryWindowClose d) s

/-- WAKE_INPUT_EVENT (R421): A wake source edge or level arrives at the always-on logic. -/
def execWakeInputEvent (e : WakeEvent) (s : State) : Host.Outcome State Fault Refusal :=
  act (fun (d : Device) => wakeInputEvent e d) s

/-- SLEEP_TIMER_EXPIRY (R421): The sleep timer expires once and makes a wake edge. -/
def execSleepTimerExpiry (s : State) : Host.Outcome State Fault Refusal :=
  act (fun (d : Device) => sleepTimerExpiry d) s

/-- WAKE_RECOGNISED (R423): A wake is recognised at an ACLK edge and the exit sequence starts. -/
def execWakeRecognised (cycles : Nat) (s : State) : Host.Outcome State Fault Refusal :=
  act (fun (d : Device) => wakeRecognised cycles d) s

/-- PWR_CLEAR_COUNTS (R424): PWR CNT_CLR.COUNTS clears COUNTS. -/
def execPwrClearCounts (s : State) : Host.Outcome State Fault Refusal :=
  act (fun (d : Device) => d.hostBit fPwrCntClrCounts 1) s

/-- WATCH_ENABLE (R427): WATCH.CTRL.EN = 1 starts LEARNING if profile and timing checks pass. -/
def execWatchEnable (s : State) : Host.Outcome State Fault Refusal :=
  act (fun (d : Device) => d.hostChange fWatchCtrlEn 1) s

/-- WATCH_DISABLE (R426): WATCH.CTRL.EN = 0 goes to OFF at the end of the look in progress. -/
def execWatchDisable (s : State) : Host.Outcome State Fault Refusal :=
  act (fun (d : Device) => d.hostChange fWatchCtrlEn 0) s

/-- WATCH_LOOK_START (R425): Every PERIOD harbour watch drives its CW for SETTLE and PULSE. -/
def execWatchLookStart (s : State) : Host.Outcome State Fault Refusal :=
  act (fun (d : Device) => watchLookStart d) s

/-- WATCH_LOOK_DECISION (R426): 10 µs after the pulse c is computed and the watch state moves. -/
def execWatchLookDecision (r : Word) (s : State) : Host.Outcome State Fault Refusal :=
  act (fun (d : Device) => watchLookDecision r d) s

/-- WATCH_CLEAR_COUNTS (R428): WATCH CNT_CLR.COUNTS clears COUNTS. -/
def execWatchClearCounts (s : State) : Host.Outcome State Fault Refusal :=
  act (fun (d : Device) => d.hostBit fWatchCntClrCounts 1) s

end Sys2Proof.Machine
end

