-- ==== Sys2Proof/Machine/TimerRows.lean ====
section
/-!
DEFINITION. The rows of the tide and the timers (R452 … R473): one meaning for each.
-/
namespace Sys2Proof.Machine

/-- TIMER_ENABLE (R461): A timer's CTRL.EN = 1 starts counting at once. -/
def execTimerEnable (k : Fin 16) (w : RegWrite) (s : State) : Host.Outcome State Fault Refusal :=
  act (fun (d : Device) => d.hostCmd w (tmF fTmCtrlEn k.val) 1) s

/-- TIMER_DISABLE (R461): A timer's CTRL.EN = 0 stops it at once, holding count and output. -/
def execTimerDisable (k : Fin 16) (w : RegWrite) (s : State) : Host.Outcome State Fault Refusal :=
  act (fun (d : Device) => d.hostCmd w (tmF fTmCtrlEn k.val) 0) s

/-- TMC_START (R473): TMC.START sets EN of the named timers in one PCLK cycle. -/
def execTmcStart (page : Fin 2) (w : RegWrite) (s : State) : Host.Outcome State Fault Refusal :=
  act (fun (d : Device) => d.hostSend (tmStart page.val) w) s

/-- TMC_STOP (R473): TMC.STOP clears EN of the named timers in one PCLK cycle. -/
def execTmcStop (page : Fin 2) (w : RegWrite) (s : State) : Host.Outcome State Fault Refusal :=
  act (fun (d : Device) => d.hostSend (tmStop page.val) w) s

/-- TIMER_SOURCE_EVENT (R462): 2^PRE source events advance the timer count by one. -/
def execTimerSourceEvent (k : Fin 16) (s : State) : Host.Outcome State Fault Refusal :=
  act (fun (d : Device) => timerSource k.val d) s

/-- TIMER_ZERO (R467): A timer reaches 0: ZERO event, reload or lower turn, one-shot stop. -/
def execTimerZero (k : Fin 16) (s : State) : Host.Outcome State Fault Refusal :=
  act (fun (d : Device) => timerZero k.val d) s

/-- TIMER_TOP (R465): A centre timer reaches PERIOD, records TOP and turns down. -/
def execTimerTop (k : Fin 16) (s : State) : Host.Outcome State Fault Refusal :=
  act (fun (d : Device) => timerTop k.val d) s

/-- TIMER_COMPARE_MATCH (R468): The count reaches CMP, recording a match and driving the output. -/
def execTimerCompareMatch (k : Fin 16) (s : State) : Host.Outcome State Fault Refusal :=
  act (fun (d : Device) => timerMatch k.val d) s

/-- TIMER_CAPTURE (R470): A chosen TM_IO edge copies the count into CAP_i. -/
def execTimerCapture (k : Fin 16) (high : Bool) (s : State) : Host.Outcome State Fault Refusal :=
  act (fun (d : Device) => timerCapture k.val high d) s

/-- TIMER_GATE_EDGE (R463): A TM_IO edge opens or closes the gate. -/
def execTimerGateEdge (k : Fin 16) (high : Bool) (s : State) : Host.Outcome State Fault Refusal :=
  act (fun (d : Device) => timerGate k.val high d) s

/-- TIMER_TOP_WRITE (R466): A TOP write is taken at the next turn or at once with TOP_NOW. -/
def execTimerTopWrite (k : Fin 16) (w : RegWrite) (s : State) : Host.Outcome State Fault Refusal :=
  act (fun (d : Device) => d.hostSend (tmW tmTop k.val) w) s

/-- TIMER_CMP_WRITE (R468): A CMP write takes effect at once, firing a late match if passed. -/
def execTimerCmpWrite (k : Fin 16) (w : RegWrite) (s : State) : Host.Outcome State Fault Refusal :=
  act (fun (d : Device) => d.hostSend (tmW tmCmp k.val) w) s

/-- TIMER_CAP_READ (R471): A CAP_i read clears CAP_NEW only if it returned the latest capture. -/
def execTimerCapRead (k : Fin 16) (s : State) : Host.Outcome State Fault Refusal :=
  act (fun (d : Device) => d.hostRead (tmW tmCap k.val)) s

/-- TIDE_CLEAR_STEPS (R460): TIDE CNT_CLR.STEPS clears STEPS and STAT.STEPPED. -/
def execTideClearSteps (s : State) : Host.Outcome State Fault Refusal :=
  act (fun (d : Device) => d.hostBit fTideCntClrSteps 1) s

end Sys2Proof.Machine
end

