-- ==== Sys2Proof/Machine/Dispatch.lean ====
section
/-!
DEFINITION. One arm per command, each a direct call of its meaning.
-/
namespace Sys2Proof.Machine

/-- The effect of a command on everything but the queue. -/
def exec (i : Instr) (s : State) : Host.Outcome State Fault Refusal :=
  match i with
  | .registerWrite page off w => Sys2Proof.Machine.execRegisterWrite page off w s
  | .unmappedWrite => Sys2Proof.Machine.execUnmappedWrite s
  | .offPageRead page off => Sys2Proof.Machine.execOffPageRead page off s
  | .memoryWindowRead word find => Sys2Proof.Machine.execMemoryWindowRead word find s
  | .memoryWindowWrite word w => Sys2Proof.Machine.execMemoryWindowWrite word w s
  | .waitLimitExpiry link => Sys2Proof.Machine.execWaitLimitExpiry link s
  | .postQueueEntryFreed => Sys2Proof.Machine.execPostQueueEntryFreed s
  | .postedWriteApplied isl finds => Sys2Proof.Machine.execPostedWriteApplied isl finds s
  | .writeAckReceived page => Sys2Proof.Machine.execWriteAckReceived page s
  | .mirrorUpdate page offs noise => Sys2Proof.Machine.execMirrorUpdate page offs noise s
  | .irqSetWrite page w => Sys2Proof.Machine.execIrqSetWrite page w s
  | .irqStatClear page w => Sys2Proof.Machine.execIrqStatClear page w s
  | .irqEnWrite page w => Sys2Proof.Machine.execIrqEnWrite page w s
  | .pageEnable page w => Sys2Proof.Machine.execPageEnable page w s
  | .pageDisable page w => Sys2Proof.Machine.execPageDisable page w s
  | .shutdownComplete x => Sys2Proof.Machine.execShutdownComplete x s
  | .blockResetAssert page w => Sys2Proof.Machine.execBlockResetAssert page w s
  | .blockResetRelease page w => Sys2Proof.Machine.execBlockResetRelease page w s
  | .clockStopRequest page run w => Sys2Proof.Machine.execClockStopRequest page run w s
  | .powerRemoveRequest page power w => Sys2Proof.Machine.execPowerRemoveRequest page power w s
  | .ignCountClearPage w => Sys2Proof.Machine.execIgnCountClearPage w s
  | .ignCountClearAll => Sys2Proof.Machine.execIgnCountClearAll s
  | .offCountClear => Sys2Proof.Machine.execOffCountClear s
  | .unmappedCountClear => Sys2Proof.Machine.execUnmappedCountClear s
  | .timeoutCountClear => Sys2Proof.Machine.execTimeoutCountClear s
  | .sessionEnable n w => Sys2Proof.Machine.execSessionEnable n w s
  | .sessionEnableComplete n => Sys2Proof.Machine.execSessionEnableComplete n s
  | .sessionDisable n w => Sys2Proof.Machine.execSessionDisable n w s
  | .sessionShutdownComplete n => Sys2Proof.Machine.execSessionShutdownComplete n s
  | .commandCommit n => Sys2Proof.Machine.execCommandCommit n s
  | .commandStart n noiseA noiseB => Sys2Proof.Machine.execCommandStart n noiseA noiseB s
  | .commandEnd n => Sys2Proof.Machine.execCommandEnd n s
  | .replyWindowOpen n => Sys2Proof.Machine.execReplyWindowOpen n s
  | .replyWindowClose n => Sys2Proof.Machine.execReplyWindowClose n s
  | .preambleDetect n a b early => Sys2Proof.Machine.execPreambleDetect n a b early s
  | .replyDecision n r => Sys2Proof.Machine.execReplyDecision n r s
  | .emptySlotDecision n => Sys2Proof.Machine.execEmptySlotDecision n s
  | .receptionFailed n tpri => Sys2Proof.Machine.execReceptionFailed n tpri s
  | .roundStart n => Sys2Proof.Machine.execRoundStart n s
  | .roundEnd n => Sys2Proof.Machine.execRoundEnd n s
  | .accessSequenceStart n => Sys2Proof.Machine.execAccessSequenceStart n s
  | .accessReplyDecision n r => Sys2Proof.Machine.execAccessReplyDecision n r s
  | .delayedReplyTimeout n => Sys2Proof.Machine.execDelayedReplyTimeout n s
  | .holdEnter n => Sys2Proof.Machine.execHoldEnter n s
  | .holdRelease n => Sys2Proof.Machine.execHoldRelease n s
  | .slackWaterBegin => Sys2Proof.Machine.execSlackWaterBegin s
  | .slackWaterEnd => Sys2Proof.Machine.execSlackWaterEnd s
  | .trigInEdge k high => Sys2Proof.Machine.execTrigInEdge k high s
  | .trigDisableWrite n w => Sys2Proof.Machine.execTrigDisableWrite n w s
  | .berthFreezeWrite n w => Sys2Proof.Machine.execBerthFreezeWrite n w s
  | .berthReleaseWrite n w => Sys2Proof.Machine.execBerthReleaseWrite n w s
  | .sessionClearRounds n w => Sys2Proof.Machine.execSessionClearRounds n w s
  | .sessionClearSings n w => Sys2Proof.Machine.execSessionClearSings n w s
  | .sessionClearErrors n w => Sys2Proof.Machine.execSessionClearErrors n w s
  | .sessionClearSets n w => Sys2Proof.Machine.execSessionClearSets n w s
  | .sessionClearTrigOvf n w => Sys2Proof.Machine.execSessionClearTrigOvf n w s
  | .ctailWrite n w => Sys2Proof.Machine.execCtailWrite n w s
  | .mheadWrite n w => Sys2Proof.Machine.execMheadWrite n w s
  | .ringConfigWrite n which w => Sys2Proof.Machine.execRingConfigWrite n which w s
  | .messageWrite n => Sys2Proof.Machine.execMessageWrite n s
  | .waitingMessageRelease n => Sys2Proof.Machine.execWaitingMessageRelease n s
  | .descriptorTake n find => Sys2Proof.Machine.execDescriptorTake n find s
  | .descriptorUrgent => Sys2Proof.Machine.execDescriptorUrgent s
  | .descriptorStart n => Sys2Proof.Machine.execDescriptorStart n s
  | .inventory n => Sys2Proof.Machine.execInventory n s
  | .access n => Sys2Proof.Machine.execAccess n s
  | .template n => Sys2Proof.Machine.execTemplate n s
  | .beam n => Sys2Proof.Machine.execBeam n s
  | .survey n => Sys2Proof.Machine.execSurvey n s
  | .snapshot n => Sys2Proof.Machine.execSnapshot n s
  | .snapshotCaptureStart n => Sys2Proof.Machine.execSnapshotCaptureStart n s
  | .noise n => Sys2Proof.Machine.execNoise n s
  | .noiseMeasureEnd n a b levels => Sys2Proof.Machine.execNoiseMeasureEnd n a b levels s
  | .stop n find => Sys2Proof.Machine.execStop n find s
  | .fence n find => Sys2Proof.Machine.execFence n find s
  | .fenceComplete n => Sys2Proof.Machine.execFenceComplete n s
  | .selectSet n find => Sys2Proof.Machine.execSelectSet n find s
  | .turnEnd n => Sys2Proof.Machine.execTurnEnd n s
  | .manifestSighting => Sys2Proof.Machine.execManifestSighting s
  | .manifestAgeOut entry => Sys2Proof.Machine.execManifestAgeOut entry s
  | .manifestWriteDiscard => Sys2Proof.Machine.execManifestWriteDiscard s
  | .manPin w => Sys2Proof.Machine.execManPin w s
  | .manUnpin w => Sys2Proof.Machine.execManUnpin w s
  | .manRemove w => Sys2Proof.Machine.execManRemove w s
  | .manClearUnpinned => Sys2Proof.Machine.execManClearUnpinned s
  | .manClearAll => Sys2Proof.Machine.execManClearAll s
  | .manClearDone => Sys2Proof.Machine.execManClearDone s
  | .manThreshWrite w => Sys2Proof.Machine.execManThreshWrite w s
  | .weightsTakeEffect n => Sys2Proof.Machine.execWeightsTakeEffect n s
  | .groupRecompute => Sys2Proof.Machine.execGroupRecompute s
  | .wtFetch => Sys2Proof.Machine.execWtFetch s
  | .wtCommit => Sys2Proof.Machine.execWtCommit s
  | .wtErase => Sys2Proof.Machine.execWtErase s
  | .wtFetchLive => Sys2Proof.Machine.execWtFetchLive s
  | .wtActionDone => Sys2Proof.Machine.execWtActionDone s
  | .directionEstimate z noise => Sys2Proof.Machine.execDirectionEstimate z noise s
  | .surveySector n => Sys2Proof.Machine.execSurveySector n s
  | .bfClearDirCount => Sys2Proof.Machine.execBfClearDirCount s
  | .carrierEnable c w => Sys2Proof.Machine.execCarrierEnable c w s
  | .synthSLockAcquire => Sys2Proof.Machine.execSynthSLockAcquire s
  | .synthWaitTimeout c => Sys2Proof.Machine.execSynthWaitTimeout c s
  | .synthSLockLoss => Sys2Proof.Machine.execSynthSLockLoss s
  | .coexGrantAssert => Sys2Proof.Machine.execCoexGrantAssert s
  | .coexGrantWithdraw => Sys2Proof.Machine.execCoexGrantWithdraw s
  | .listenEnd c power => Sys2Proof.Machine.execListenEnd c power s
  | .lbtRetryExpiry c => Sys2Proof.Machine.execLbtRetryExpiry c s
  | .rampUpEnd c => Sys2Proof.Machine.execRampUpEnd c s
  | .settleEnd c => Sys2Proof.Machine.execSettleEnd c s
  | .carrierDisable c w => Sys2Proof.Machine.execCarrierDisable c w s
  | .hop c w => Sys2Proof.Machine.execHop c w s
  | .autoHop c => Sys2Proof.Machine.execAutoHop c s
  | .drainQuiet c => Sys2Proof.Machine.execDrainQuiet c s
  | .drainCut c => Sys2Proof.Machine.execDrainCut c s
  | .rampDownEnd c => Sys2Proof.Machine.execRampDownEnd c s
  | .retuneEnd c => Sys2Proof.Machine.execRetuneEnd c s
  | .dwellLimitDrain c => Sys2Proof.Machine.execDwellLimitDrain c s
  | .occupancyLimitDrain c => Sys2Proof.Machine.execOccupancyLimitDrain c s
  | .barredRelease c => Sys2Proof.Machine.execBarredRelease c s
  | .bandCalDue => Sys2Proof.Machine.execBandCalDue s
  | .bandCalStart => Sys2Proof.Machine.execBandCalStart s
  | .bandCalForce => Sys2Proof.Machine.execBandCalForce s
  | .bandCalComplete => Sys2Proof.Machine.execBandCalComplete s
  | .synthRecal => Sys2Proof.Machine.execSynthRecal s
  | .breakwaterDwellEnd meas => Sys2Proof.Machine.execBreakwaterDwellEnd meas s
  | .bwRelease => Sys2Proof.Machine.execBwRelease s
  | .bwClearCount => Sys2Proof.Machine.execBwClearCount s
  | .reglReload => Sys2Proof.Machine.execReglReload s
  | .reglClear => Sys2Proof.Machine.execReglClear s
  | .pathEnable p w => Sys2Proof.Machine.execPathEnable p w s
  | .pathQueueLeave => Sys2Proof.Machine.execPathQueueLeave s
  | .poweringEnd p => Sys2Proof.Machine.execPoweringEnd p s
  | .restoringEnd p => Sys2Proof.Machine.execRestoringEnd p s
  | .checkingEnd p nf ok => Sys2Proof.Machine.execCheckingEnd p nf ok s
  | .joinRampEnd p => Sys2Proof.Machine.execJoinRampEnd p s
  | .pathDisable p w => Sys2Proof.Machine.execPathDisable p w s
  | .pathRampDownEnd p => Sys2Proof.Machine.execPathRampDownEnd p s
  | .powerDownEnd p => Sys2Proof.Machine.execPowerDownEnd p s
  | .pathFault p causes => Sys2Proof.Machine.execPathFault p causes s
  | .txpwrWrite p w => Sys2Proof.Machine.execTxpwrWrite p w s
  | .agcDownStep p peak => Sys2Proof.Machine.execAgcDownStep p peak s
  | .cancTrack p c null resid depth => Sys2Proof.Machine.execCancTrack p c null resid depth s
  | .sliceFault p slice => Sys2Proof.Machine.execSliceFault p slice s
  | .dacCellFault p cell => Sys2Proof.Machine.execDacCellFault p cell s
  | .driverCellFault p cell => Sys2Proof.Machine.execDriverCellFault p cell s
  | .pathClearCounts p w => Sys2Proof.Machine.execPathClearCounts p w s
  | .pathClearFaults p w => Sys2Proof.Machine.execPathClearFaults p w s
  | .calFreq => Sys2Proof.Machine.execCalFreq s
  | .calPower => Sys2Proof.Machine.execCalPower s
  | .calArrayRx => Sys2Proof.Machine.execCalArrayRx s
  | .calArrayTx => Sys2Proof.Machine.execCalArrayTx s
  | .calConv => Sys2Proof.Machine.execCalConv s
  | .calCanc => Sys2Proof.Machine.execCalCanc s
  | .calDpd path => Sys2Proof.Machine.execCalDpd path s
  | .calAbort => Sys2Proof.Machine.execCalAbort s
  | .calProcComplete m => Sys2Proof.Machine.execCalProcComplete m s
  | .boundaryApply gaps => Sys2Proof.Machine.execBoundaryApply gaps s
  | .slackWaterCall => Sys2Proof.Machine.execSlackWaterCall s
  | .calDue => Sys2Proof.Machine.execCalDue s
  | .tblDataRead => Sys2Proof.Machine.execTblDataRead s
  | .tblDataWrite w => Sys2Proof.Machine.execTblDataWrite w s
  | .tblCommit => Sys2Proof.Machine.execTblCommit s
  | .tblInvalidate => Sys2Proof.Machine.execTblInvalidate s
  | .calClearRejects => Sys2Proof.Machine.execCalClearRejects s
  | .calClearSlacks => Sys2Proof.Machine.execCalClearSlacks s
  | .pilotFault p cause => Sys2Proof.Machine.execPilotFault p cause s
  | .failoverResume n => Sys2Proof.Machine.execFailoverResume n s
  | .pilotTestEnd p pass => Sys2Proof.Machine.execPilotTestEnd p pass s
  | .pilotMoveTo p w => Sys2Proof.Machine.execPilotMoveTo p w s
  | .moveAtQuietPoint n => Sys2Proof.Machine.execMoveAtQuietPoint n s
  | .moveComplete n => Sys2Proof.Machine.execMoveComplete n s
  | .dredgerRowVisit bank row find => Sys2Proof.Machine.execDredgerRowVisit bank row find s
  | .repairSelftest => Sys2Proof.Machine.execRepairSelftest s
  | .selftestStepEnd x => Sys2Proof.Machine.execSelftestStepEnd x s
  | .repairAbort => Sys2Proof.Machine.execRepairAbort s
  | .markDead w => Sys2Proof.Machine.execMarkDead w s
  | .revive w => Sys2Proof.Machine.execRevive w s
  | .repairCompact => Sys2Proof.Machine.execRepairCompact s
  | .repairRecordWrite => Sys2Proof.Machine.execRepairRecordWrite s
  | .compactionEnd => Sys2Proof.Machine.execCompactionEnd s
  | .repairClearEcc => Sys2Proof.Machine.execRepairClearEcc s
  | .pilotEnable p w => Sys2Proof.Machine.execPilotEnable p w s
  | .pilotDisable p w => Sys2Proof.Machine.execPilotDisable p w s
  | .pilotCopyFrom p w => Sys2Proof.Machine.execPilotCopyFrom p w s
  | .pilotVerify p w => Sys2Proof.Machine.execPilotVerify p w s
  | .pilotSelftest p w => Sys2Proof.Machine.execPilotSelftest p w s
  | .pilotImgDataWrite p w => Sys2Proof.Machine.execPilotImgDataWrite p w s
  | .pilotImgDataRead p => Sys2Proof.Machine.execPilotImgDataRead p s
  | .imageLoadIdle p => Sys2Proof.Machine.execImageLoadIdle p s
  | .imageCopyDone p => Sys2Proof.Machine.execImageCopyDone p s
  | .imageCheckEnd p => Sys2Proof.Machine.execImageCheckEnd p s
  | .pilotClearCounts p w => Sys2Proof.Machine.execPilotClearCounts p w s
  | .pilotClearCkpts p w => Sys2Proof.Machine.execPilotClearCkpts p w s
  | .klPortEnable k w => Sys2Proof.Machine.execKlPortEnable k w s
  | .klSignalDetect k => Sys2Proof.Machine.execKlSignalDetect k s
  | .klBlockLock k => Sys2Proof.Machine.execKlBlockLock k s
  | .klMeasureEnd k => Sys2Proof.Machine.execKlMeasureEnd k s
  | .klPortDisable k w => Sys2Proof.Machine.execKlPortDisable k w s
  | .klDrainEnd k => Sys2Proof.Machine.execKlDrainEnd k s
  | .klPortFault k cause => Sys2Proof.Machine.execKlPortFault k cause s
  | .klRetrainTimer k => Sys2Proof.Machine.execKlRetrainTimer k s
  | .klTick k tide => Sys2Proof.Machine.execKlTick k tide s
  | .klTrigBlock k ch low => Sys2Proof.Machine.execKlTrigBlock k ch low s
  | .klDly k => Sys2Proof.Machine.execKlDly k s
  | .klNak k => Sys2Proof.Machine.execKlNak k s
  | .klReplayTimeout k => Sys2Proof.Machine.execKlReplayTimeout k s
  | .klBadFrame k => Sys2Proof.Machine.execKlBadFrame k s
  | .klNullFrame h => Sys2Proof.Machine.execKlNullFrame h s
  | .klTrainFrame k t => Sys2Proof.Machine.execKlTrainFrame k t s
  | .censusReq h gen depth route => Sys2Proof.Machine.execCensusReq h gen depth route s
  | .censusRec h r => Sys2Proof.Machine.execCensusRec h r s
  | .assign h way number gen cp hostFormat altOk => Sys2Proof.Machine.execAssign h way number gen cp hostFormat altOk s
  | .versionFrame h cp => Sys2Proof.Machine.execVersionFrame h cp s
  | .resetFrame h way subtree => Sys2Proof.Machine.execResetFrame h way subtree s
  | .eventFrame h msg => Sys2Proof.Machine.execEventFrame h msg s
  | .ackE2e h way next => Sys2Proof.Machine.execAckE2e h way next s
  | .pageReq h way op word data => Sys2Proof.Machine.execPageReq h way op word data s
  | .pageRsp h data hops => Sys2Proof.Machine.execPageRsp h data hops s
  | .messageFrame h origin oseq count msgs => Sys2Proof.Machine.execMessageFrame h origin oseq count msgs s
  | .delayFrame h t1 t2 t3 => Sys2Proof.Machine.execDelayFrame h t1 t2 t3 s
  | .groupFrame h way m => Sys2Proof.Machine.execGroupFrame h way m s
  | .unknownFrame h => Sys2Proof.Machine.execUnknownFrame h s
  | .klCensusCmd => Sys2Proof.Machine.execKlCensusCmd s
  | .censusComplete => Sys2Proof.Machine.execCensusComplete s
  | .delayExchangeStart k => Sys2Proof.Machine.execDelayExchangeStart k s
  | .holdoverLost => Sys2Proof.Machine.execHoldoverLost s
  | .klFailback => Sys2Proof.Machine.execKlFailback s
  | .trigFireCmd w => Sys2Proof.Machine.execTrigFireCmd w s
  | .cascadeTriggerFire => Sys2Proof.Machine.execCascadeTriggerFire s
  | .raRead => Sys2Proof.Machine.execRaRead s
  | .raWrite => Sys2Proof.Machine.execRaWrite s
  | .raTimeout link => Sys2Proof.Machine.execRaTimeout link s
  | .klResetDev => Sys2Proof.Machine.execKlResetDev s
  | .klResetSubtree => Sys2Proof.Machine.execKlResetSubtree s
  | .messageFrameSend n => Sys2Proof.Machine.execMessageFrameSend n s
  | .e2eResendTimeout => Sys2Proof.Machine.execE2eResendTimeout s
  | .ackE2eSend => Sys2Proof.Machine.execAckE2eSend s
  | .groupCal w finds => Sys2Proof.Machine.execGroupCal w finds s
  | .groupCalEnd m => Sys2Proof.Machine.execGroupCalEnd m s
  | .groupSuspend => Sys2Proof.Machine.execGroupSuspend s
  | .klAbort => Sys2Proof.Machine.execKlAbort s
  | .cenDataRead => Sys2Proof.Machine.execCenDataRead s
  | .klClearCounts => Sys2Proof.Machine.execKlClearCounts s
  | .klClearPerr => Sys2Proof.Machine.execKlClearPerr s
  | .plLaneEnable l w => Sys2Proof.Machine.execPlLaneEnable l w s
  | .plSignalDetect l => Sys2Proof.Machine.execPlSignalDetect l s
  | .plBlockLock l => Sys2Proof.Machine.execPlBlockLock l s
  | .plLaneAligned l => Sys2Proof.Machine.execPlLaneAligned l s
  | .plLaneDisable l w => Sys2Proof.Machine.execPlLaneDisable l w s
  | .plDrainEnd l => Sys2Proof.Machine.execPlDrainEnd l s
  | .plLaneFault l cause => Sys2Proof.Machine.execPlLaneFault l cause s
  | .plRetrainEnd => Sys2Proof.Machine.execPlRetrainEnd s
  | .plLaneRetry l => Sys2Proof.Machine.execPlLaneRetry l s
  | .plAlignBlock l position skew => Sys2Proof.Machine.execPlAlignBlock l position skew s
  | .plAck seq => Sys2Proof.Machine.execPlAck seq s
  | .plNak => Sys2Proof.Machine.execPlNak s
  | .plCredit counts => Sys2Proof.Machine.execPlCredit counts s
  | .plRemapBlock position l => Sys2Proof.Machine.execPlRemapBlock position l s
  | .plRemapReq l => Sys2Proof.Machine.execPlRemapReq l s
  | .plReplayTimeout => Sys2Proof.Machine.execPlReplayTimeout s
  | .plAckSend => Sys2Proof.Machine.execPlAckSend s
  | .plCreditSend => Sys2Proof.Machine.execPlCreditSend s
  | .plCreditStall vc => Sys2Proof.Machine.execPlCreditStall vc s
  | .plBadPacket vc len why => Sys2Proof.Machine.execPlBadPacket vc len why s
  | .regReq seq tag device entries => Sys2Proof.Machine.execRegReq seq tag device entries s
  | .regReqWaitEnd => Sys2Proof.Machine.execRegReqWaitEnd s
  | .msgPacketSend src => Sys2Proof.Machine.execMsgPacketSend src s
  | .streamCtrlWrite w => Sys2Proof.Machine.execStreamCtrlWrite w s
  | .streamPacket x tide full => Sys2Proof.Machine.execStreamPacket x tide full s
  | .interruptPacket => Sys2Proof.Machine.execInterruptPacket s
  | .plClearDrops => Sys2Proof.Machine.execPlClearDrops s
  | .plClearReplays => Sys2Proof.Machine.execPlClearReplays s
  | .plClearLerr => Sys2Proof.Machine.execPlClearLerr s
  | .aonPowerOn => Sys2Proof.Machine.execAonPowerOn s
  | .powerOnReset => Sys2Proof.Machine.execPowerOnReset s
  | .brownOut rails => Sys2Proof.Machine.execBrownOut rails s
  | .rstPin => Sys2Proof.Machine.execRstPin s
  | .thermalShutdown => Sys2Proof.Machine.execThermalShutdown s
  | .watchdogExpiry => Sys2Proof.Machine.execWatchdogExpiry s
  | .chipRst => Sys2Proof.Machine.execChipRst s
  | .resetSourcesRelease => Sys2Proof.Machine.execResetSourcesRelease s
  | .strapSampleDone codes unstable => Sys2Proof.Machine.execStrapSampleDone codes unstable s
  | .synthPLock => Sys2Proof.Machine.execSynthPLock s
  | .synthPLockLoss => Sys2Proof.Machine.execSynthPLockLoss s
  | .optionLoadComplete => Sys2Proof.Machine.execOptionLoadComplete s
  | .islandRelease x => Sys2Proof.Machine.execIslandRelease x s
  | .clockGoodChange isl good => Sys2Proof.Machine.execClockGoodChange isl good s
  | .bootImageDone a b sfdp => Sys2Proof.Machine.execBootImageDone a b sfdp s
  | .watchdogKick => Sys2Proof.Machine.execWatchdogKick s
  | .watchdogWarn => Sys2Proof.Machine.execWatchdogWarn s
  | .optProgram => Sys2Proof.Machine.execOptProgram s
  | .optProgramDone ok => Sys2Proof.Machine.execOptProgramDone ok s
  | .optApply => Sys2Proof.Machine.execOptApply s
  | .optApplyDone fail => Sys2Proof.Machine.execOptApplyDone fail s
  | .optDataRead => Sys2Proof.Machine.execOptDataRead s
  | .optImgDataAccess w => Sys2Proof.Machine.execOptImgDataAccess w s
  | .pwrMoor => Sys2Proof.Machine.execPwrMoor s
  | .pwrLayUp => Sys2Proof.Machine.execPwrLayUp s
  | .prepareDone => Sys2Proof.Machine.execPrepareDone s
  | .entryWindowOpen => Sys2Proof.Machine.execEntryWindowOpen s
  | .entryWindowClose => Sys2Proof.Machine.execEntryWindowClose s
  | .wakeInputEvent e => Sys2Proof.Machine.execWakeInputEvent e s
  | .sleepTimerExpiry => Sys2Proof.Machine.execSleepTimerExpiry s
  | .wakeRecognised cycles => Sys2Proof.Machine.execWakeRecognised cycles s
  | .pwrClearCounts => Sys2Proof.Machine.execPwrClearCounts s
  | .watchEnable => Sys2Proof.Machine.execWatchEnable s
  | .watchDisable => Sys2Proof.Machine.execWatchDisable s
  | .watchLookStart => Sys2Proof.Machine.execWatchLookStart s
  | .watchLookDecision r => Sys2Proof.Machine.execWatchLookDecision r s
  | .watchClearCounts => Sys2Proof.Machine.execWatchClearCounts s
  | .rtcSecond => Sys2Proof.Machine.execRtcSecond s
  | .rtcHalt => Sys2Proof.Machine.execRtcHalt s
  | .rtcRun => Sys2Proof.Machine.execRtcRun s
  | .rtcTimeWrite w => Sys2Proof.Machine.execRtcTimeWrite w s
  | .rtcDateWrite w => Sys2Proof.Machine.execRtcDateWrite w s
  | .rtcTimeRead => Sys2Proof.Machine.execRtcTimeRead s
  | .rtcWakeWrite w => Sys2Proof.Machine.execRtcWakeWrite w s
  | .rtcTempMeasure t => Sys2Proof.Machine.execRtcTempMeasure t s
  | .vbakCheck mv => Sys2Proof.Machine.execVbakCheck mv s
  | .vaonLoss => Sys2Proof.Machine.execVaonLoss s
  | .backupSwitchToVbak => Sys2Proof.Machine.execBackupSwitchToVbak s
  | .backupSwitchToAon => Sys2Proof.Machine.execBackupSwitchToAon s
  | .chargerStart => Sys2Proof.Machine.execChargerStart s
  | .chargerThreshold mv => Sys2Proof.Machine.execChargerThreshold mv s
  | .lockoutEnd => Sys2Proof.Machine.execLockoutEnd s
  | .timerEnable k w => Sys2Proof.Machine.execTimerEnable k w s
  | .timerDisable k w => Sys2Proof.Machine.execTimerDisable k w s
  | .tmcStart page w => Sys2Proof.Machine.execTmcStart page w s
  | .tmcStop page w => Sys2Proof.Machine.execTmcStop page w s
  | .timerSourceEvent k => Sys2Proof.Machine.execTimerSourceEvent k s
  | .timerZero k => Sys2Proof.Machine.execTimerZero k s
  | .timerTop k => Sys2Proof.Machine.execTimerTop k s
  | .timerCompareMatch k => Sys2Proof.Machine.execTimerCompareMatch k s
  | .timerCapture k high => Sys2Proof.Machine.execTimerCapture k high s
  | .timerGateEdge k high => Sys2Proof.Machine.execTimerGateEdge k high s
  | .timerTopWrite k w => Sys2Proof.Machine.execTimerTopWrite k w s
  | .timerCmpWrite k w => Sys2Proof.Machine.execTimerCmpWrite k w s
  | .timerCapRead k => Sys2Proof.Machine.execTimerCapRead k s
  | .tideClearSteps => Sys2Proof.Machine.execTideClearSteps s
  | .hkStart => Sys2Proof.Machine.execHkStart s
  | .hkStop => Sys2Proof.Machine.execHkStop s
  | .hkEntryDone raws => Sys2Proof.Machine.execHkEntryDone raws s
  | .hkSupervisorConversion raw => Sys2Proof.Machine.execHkSupervisorConversion raw s
  | .urgentGo w => Sys2Proof.Machine.execUrgentGo w s
  | .urgentDone raw => Sys2Proof.Machine.execUrgentDone raw s
  | .hkSyscalZero => Sys2Proof.Machine.execHkSyscalZero s
  | .hkSyscalFull => Sys2Proof.Machine.execHkSyscalFull s
  | .syscalStepDone sum1 sum2 => Sys2Proof.Machine.execSyscalStepDone sum1 sum2 s
  | .hkClearTrigOvf => Sys2Proof.Machine.execHkClearTrigOvf s
  | .sspmGo => Sys2Proof.Machine.execSspmGo s
  | .sspmSfdp => Sys2Proof.Machine.execSspmSfdp s
  | .sspmTransferEnd rx r => Sys2Proof.Machine.execSspmTransferEnd rx r s
  | .sspmPoll status => Sys2Proof.Machine.execSspmPoll status s
  | .sspmPollTimeout => Sys2Proof.Machine.execSspmPollTimeout s
  | .xipRead word => Sys2Proof.Machine.execXipRead word s
  | .xipLineFetchEnd data => Sys2Proof.Machine.execXipLineFetchEnd data s
  | .xipWrite word w => Sys2Proof.Machine.execXipWrite word w s
  | .xipProgramStart => Sys2Proof.Machine.execXipProgramStart s
  | .sspsSelectAssert => Sys2Proof.Machine.execSspsSelectAssert s
  | .sspsSelectRelease mosi => Sys2Proof.Machine.execSspsSelectRelease mosi s
  | .sspsRxRdWrite w => Sys2Proof.Machine.execSspsRxRdWrite w s
  | .sspsTxWrWrite w => Sys2Proof.Machine.execSspsTxWrWrite w s
  | .sspsAttnWrite w => Sys2Proof.Machine.execSspsAttnWrite w s
  | .supplyWarn r low => Sys2Proof.Machine.execSupplyWarn r low s
  | .intcConfigWrite which w => Sys2Proof.Machine.execIntcConfigWrite which w s
  | .irqPulseEnd b => Sys2Proof.Machine.execIrqPulseEnd b s
  | .secOpenReq w => Sys2Proof.Machine.execSecOpenReq w s
  | .secVerify => Sys2Proof.Machine.execSecVerify s
  | .secClose => Sys2Proof.Machine.execSecClose s
  | .challengeExpiry => Sys2Proof.Machine.execChallengeExpiry s
  | .idleTimeout => Sys2Proof.Machine.execIdleTimeout s
  | .backoffExpiry => Sys2Proof.Machine.execBackoffExpiry s
  | .keyWriteOp => Sys2Proof.Machine.execKeyWriteOp s
  | .keyWriteProv => Sys2Proof.Machine.execKeyWriteProv s
  | .keyWriteDone ok => Sys2Proof.Machine.execKeyWriteDone ok s
  | .sealArm => Sys2Proof.Machine.execSealArm s
  | .sealArmExpiry => Sys2Proof.Machine.execSealArmExpiry s
  | .seal => Sys2Proof.Machine.execSeal s
  | .sealDone => Sys2Proof.Machine.execSealDone s
  | .tamperEvent cause => Sys2Proof.Machine.execTamperEvent cause s
  | .jtagInstruction g => Sys2Proof.Machine.execJtagInstruction g s
  | .testLogicReset => Sys2Proof.Machine.execTestLogicReset s
  | .trigSw k w => Sys2Proof.Machine.execTrigSw k w s
  | .trigOutPulseEnd k => Sys2Proof.Machine.execTrigOutPulseEnd k s
  | .snapshotCaptureEnd n samples => Sys2Proof.Machine.execSnapshotCaptureEnd n samples s
  | .rstoutNHigh => Sys2Proof.Machine.execRstoutNHigh s
  | .rtcOutFall => Sys2Proof.Machine.execRtcOutFall s
  | .vaonLossRelease => Sys2Proof.Machine.execVaonLossRelease s

end Sys2Proof.Machine
end

