-- ==== Sys2Proof/Safety.lean ====
section
/-!
DEFINITION. What every reachable state of the block keeps, in the terms the statements use.
-/
namespace Sys2Proof.Machine

/-- The registers, the mirror and the memories are in their canonical form (R20, R24, R40). -/
structure Device.Canonical (d : Device) : Prop where
  regs : storeWf resetWord d.regs = true
  mirror : storeWf resetWord d.mirror = true
  sram : storeWf zeroByte d.sram = true
  opt : storeWf onesByte d.opt = true

/-- The post queue holds no more than its 32 entries (R43). -/
def Device.QueueBounded (d : Device) : Prop := d.post.length ≤ 32

/-- The fields the device itself keeps up to date between commands: power and watch state, the host clock, SYNTH and COEX status, the calibration's and the group's status, the link's admitted streams, the urgent bits, PAGE_STAT.BUSY, the level bits of IRQ_RAW with their latches, and the IRQ outputs. Every other bit stays as the command left it. -/
def settleFields : List Fld :=
  [fPwrStatState, ⟨irqStat 0x03, 0, 0⟩, fWatchStatState, fWatchStatRun, fWatchCountsAbandoned, fPsState 0x1E, fClkGoodHost,
   fSynStatSHold, ⟨coexStat, 3, 0⟩, fCalStatBusy, fCalValid 7, fPsState 0x10, ⟨calResult, 31, 0⟩, fHalf calRejects,
   ⟨irqStat 0x10, 1, 1⟩, ⟨irqStat 0x1C, 2, 2⟩, fKlGroupStatDue, ⟨plAdmitted, 16, 0⟩, ⟨plStreamStat, 2, 0⟩, ⟨schedUrgent, 15, 0⟩,
   fPsBusy 0x07, fPsBusy 0x10, fPsBusy 0x11, fPsBusy 0x16, fPsBusy 0x1A, fPsBusy 0x1C, fPsBusy 0x1D, ⟨irqRaw 0x19, 15, 0⟩,
   ⟨irqStat 0x19, 15, 0⟩, ⟨irqRaw 0x1A, 0, 0⟩, ⟨irqStat 0x1A, 0, 0⟩, ⟨irqRaw 0x04, 0, 0⟩, ⟨irqStat 0x04, 0, 0⟩,
   ⟨intcOutStat, 31, 0⟩]

/-- Is a field out of reach of what the device itself keeps up to date? -/
def Fld.settles (f : Fld) : Bool := settleFields.all (fun g => g.reg != f.reg || decide (f.hi < g.lo) || decide (g.hi < f.lo))

/-- No register access from the cascade or the packet link waits to be served (R348, R376). -/
abbrev Device.NoRemote (d : Device) : Prop := d.kl.reqs = [] ∧ d.pl.reqs = []

/-- A step neither faults nor is refused. -/
def Runs (s : State) : Prop := ∃ t, step s = .next t

/-! ### What statements about one command say -/

/-- Command `c` completes at `s`: `exec` answers a next state, the queue stays, and `Q` holds of the device then. -/
def Completes (c : Instr) (s : State) (Q : Device → Prop) : Prop :=
  ∃ t, exec c s = .next t ∧ t.pending = s.pending ∧ Q t.dev

/-- From `d` to `e` no register word changes but those of `l` and what the device itself keeps up to date, and no byte of the SRAM windows or of option memory changes. -/
structure Device.OnlyRegs (l : List Nat) (d e : Device) : Prop where
  regs : ∀ f : Fld, f.settles = true → f.reg ∉ l → e.get f = d.get f
  sram : e.sram = d.sram
  opt : e.opt = d.opt

/-- From `d` to `e` no register word changes but those of `l` and what the device itself keeps up to date. -/
def Device.OnlyFields (l : List Nat) (d e : Device) : Prop := ∀ f : Fld, f.settles = true → f.reg ∉ l → e.get f = d.get f

/-- From `d` to `e` no byte of the SRAM windows changes but those that `p` names. -/
def Device.SramOutside (p : Nat → Bool) (d e : Device) : Prop := ∀ b, p b = false → storeGet zeroByte e.sram b = storeGet zeroByte d.sram b

/-- Does a message of `k` slots of session `n` go straight into its ring (R144, R147)? -/
abbrev Device.takesMsg (d : Device) (n k : Nat) : Prop := d.man.queue = [] ∧ (d.sess n).waiting = [] ∧ k ≤ d.mFree n

/-- Does ring `n` hold message `msg` in the slots from index `i` on (R125)? -/
abbrev Device.holdsMsg (d : Device) (n i : Nat) (msg : List Byte) : Prop :=
  ∀ k, k < msg.length → storeGet zeroByte d.sram (d.mSlotAddr n (i + k / 64) + k % 64) = msg.getD k 0

/-- Does byte address `b` lie in one of the `k` slots of ring `n` from index `i` on? -/
def Device.inSlots (d : Device) (n i k b : Nat) : Bool :=
  (List.range k).any (fun j => decide (d.mSlotAddr n (i + j) ≤ b) && decide (b < d.mSlotAddr n (i + j) + 64))

/-- The conditions under which an HBUS write of register word `a` is posted and reaches its block at once: the bus is ready, the device awake, the page on (or the word its PAGE_CTRL), nothing waits in the post queue, and the island takes writes (R30, R43, R45, R59). -/
def Device.ready (d : Device) (a : Nat) : Bool :=
  d.hostReady && decide (d.pwr.phase = .awake) && (!d.pageOff (pageOfWord a) || decide (offOfWord a = 2)) && d.post.isEmpty
    && d.islandTakes (islandOf (pageOfWord a))

/-- The write as the post queue holds it (R43, R517). -/
def Device.posted (d : Device) (a : Nat) (v : Word) (be : BitVec 4) : Posted := { addr := a, value := v, be := be, level := d.level }

/-- The device as the write arrives in its island: the mirror has it, WPEND is 1 and the queue is empty again (R44 … R46). -/
def Device.arrived (d : Device) (a : Nat) (v : Word) (be : BitVec 4) : Device :=
  { d.enqueue (d.posted a v be) with post := [] }.showQueue

/-- The write is taken at once and its page applies it (R46, R62). -/
def Device.applies (d : Device) (a : Nat) (v : Word) (be : BitVec 4) : Bool :=
  d.ready a && (d.arrived a v be).writeOk (d.posted a v be)

/-- The device after an applied write: its effect, the idle limit restarted where the write needed a level, and the word sent to the mirror (R41, R46, R522). -/
def Device.written (d : Device) (a : Nat) (v : Word) (be : BitVec 4) (finds : KlGroupFinds) : Device :=
  let e := (d.arrived a v be).writeEffect (d.posted a v be) finds
  (e.when (Device.needsLevel (pageOfWord a) (offOfWord a) v && e.level != 0) Device.idleRestart).sync a

/-- Event `b` of page `p` is recorded from `d` to `e`: where its IRQ_EN bit is 1 and the page is neither off nor in reset, its IRQ_STAT bit is 1 then (R55). -/
def Device.raised (p b : Nat) (d e : Device) : Prop :=
  d.on ⟨irqEn p, b, b⟩ = true → d.pageLive p = true → e.on ⟨irqStat p, b, b⟩ = true

/-- Does a word show its register and nothing else: not the device's state, nor what a data port points at? -/
def plainWord (a : Nat) : Bool :=
  let p := pageOfWord a
  let o := offOfWord a
  !(decide (p = 0x12) && decide (0x40 ≤ o) && decide (o < 0x80)) && !(decide (p = 0x14) && decide (0x40 ≤ o) && decide (o < 0x60) && decide (o % 8 = 7))
    && !([calWaited, intcPendLo, intcPendHi, intcPathsLo, intcPathsHi, intcPilotFo, intcPilotImg, optData, optImgData, calTblData, klCenData,
      rtcStat].contains a)

/-- The register write a row that is one stands for: the word, the value, the byte enables and, for GROUP_CAL, what it would find. -/
def hostRow (d : Device) : Instr → Option (Nat × Word × BitVec 4 × KlGroupFinds)
  | .irqSetWrite page w => some ((irqSet page.val), w.value, w.be, noFinds)
  | .irqStatClear page w => some ((irqStat page.val), w.value, w.be, noFinds)
  | .irqEnWrite page w => some ((irqEn page.val), w.value, w.be, noFinds)
  | .pageEnable page w => some (Fld.reg (fPcEn page.val), Fld.set (fPcEn page.val) w.value 1, w.be, noFinds)
  | .pageDisable page w => some (Fld.reg (fPcEn page.val), Fld.set (fPcEn page.val) w.value 0, w.be, noFinds)
  | .blockResetAssert page w => some (Fld.reg (fPcBlkRst page.val), Fld.set (fPcBlkRst page.val) w.value 1, w.be, noFinds)
  | .blockResetRelease page w => some (Fld.reg (fPcBlkRst page.val), Fld.set (fPcBlkRst page.val) w.value 0, w.be, noFinds)
  | .clockStopRequest page run w => some (Fld.reg (fPcClkReq page.val), Fld.set (fPcClkReq page.val) w.value run.toNat, w.be, noFinds)
  | .powerRemoveRequest page power w => some (Fld.reg (fPcPwrReq page.val), Fld.set (fPcPwrReq page.val) w.value power.toNat, w.be, noFinds)
  | .ignCountClearPage w => some (Fld.reg fHbusCountClrPageIgn, Fld.set fHbusCountClrPageIgn w.value 1, w.be, noFinds)
  | .ignCountClearAll => some (Fld.reg fHbusCountClrAllIgn, Fld.set fHbusCountClrAllIgn 0 1, 0xF#4, noFinds)
  | .offCountClear => some (Fld.reg fHbusCountClrOff, Fld.set fHbusCountClrOff 0 1, 0xF#4, noFinds)
  | .unmappedCountClear => some (Fld.reg fHbusCountClrUnmapped, Fld.set fHbusCountClrUnmapped 0 1, 0xF#4, noFinds)
  | .timeoutCountClear => some (Fld.reg fHbusCountClrTimeout, Fld.set fHbusCountClrTimeout 0 1, 0xF#4, noFinds)
  | .sessionEnable n w => some (Fld.reg (fPcEn (0x80 + n.val)), Fld.set (fPcEn (0x80 + n.val)) w.value 1, w.be, noFinds)
  | .sessionDisable n w => some (Fld.reg (fPcEn (0x80 + n.val)), Fld.set (fPcEn (0x80 + n.val)) w.value 0, w.be, noFinds)
  | .trigDisableWrite n w => some (Fld.reg (fSesTrigEn n.val), Fld.set (fSesTrigEn n.val) w.value 0, w.be, noFinds)
  | .berthFreezeWrite n w => some (Fld.reg (fSesBerthFreeze n.val), Fld.set (fSesBerthFreeze n.val) w.value 1, w.be, noFinds)
  | .berthReleaseWrite n w => some (Fld.reg (fSesBerthFreeze n.val), Fld.set (fSesBerthFreeze n.val) w.value 0, w.be, noFinds)
  | .sessionClearRounds n w => some (Fld.reg (fSesCntClrRounds n.val), Fld.set (fSesCntClrRounds n.val) w.value 1, w.be, noFinds)
  | .sessionClearSings n w => some (Fld.reg (fSesCntClrSings n.val), Fld.set (fSesCntClrSings n.val) w.value 1, w.be, noFinds)
  | .sessionClearErrors n w => some (Fld.reg (fSesCntClrErrors n.val), Fld.set (fSesCntClrErrors n.val) w.value 1, w.be, noFinds)
  | .sessionClearSets n w => some (Fld.reg (fSesCntClrSets n.val), Fld.set (fSesCntClrSets n.val) w.value 1, w.be, noFinds)
  | .sessionClearTrigOvf n w => some (Fld.reg (fSesCntClrTrig n.val), Fld.set (fSesCntClrTrig n.val) w.value 1, w.be, noFinds)
  | .ctailWrite n w => some ((ringCtail n.val), w.value, w.be, noFinds)
  | .mheadWrite n w => some ((ringMhead n.val), w.value, w.be, noFinds)
  | .ringConfigWrite n which w => some ((ringWordOf n.val which), w.value, w.be, noFinds)
  | .manPin w => some (Fld.reg fManCmdAction, Fld.set fManCmdAction w.value 1, w.be, noFinds)
  | .manUnpin w => some (Fld.reg fManCmdAction, Fld.set fManCmdAction w.value 2, w.be, noFinds)
  | .manRemove w => some (Fld.reg fManCmdAction, Fld.set fManCmdAction w.value 3, w.be, noFinds)
  | .manClearUnpinned => some (Fld.reg fManCmdAction, Fld.set fManCmdAction 0 4, 0xF#4, noFinds)
  | .manClearAll => some (Fld.reg fManCmdAction, Fld.set fManCmdAction 0 5, 0xF#4, noFinds)
  | .manThreshWrite w => some (manThresh, w.value, w.be, noFinds)
  | .wtFetch => some (Fld.reg fBfWtCmdAction, Fld.set fBfWtCmdAction 0 1, 0xF#4, noFinds)
  | .wtCommit => some (Fld.reg fBfWtCmdAction, Fld.set fBfWtCmdAction 0 2, 0xF#4, noFinds)
  | .wtErase => some (Fld.reg fBfWtCmdAction, Fld.set fBfWtCmdAction 0 3, 0xF#4, noFinds)
  | .wtFetchLive => some (Fld.reg fBfWtCmdAction, Fld.set fBfWtCmdAction 0 4, 0xF#4, noFinds)
  | .bfClearDirCount => some (Fld.reg fBfCntClrDir, Fld.set fBfCntClrDir 0 1, 0xF#4, noFinds)
  | .carrierEnable c w => some (Fld.reg (fCarCtrlEn c.val), Fld.set (fCarCtrlEn c.val) w.value 1, w.be, noFinds)
  | .carrierDisable c w => some (Fld.reg (fCarCtrlEn c.val), Fld.set (fCarCtrlEn c.val) w.value 0, w.be, noFinds)
  | .hop c w => some (Fld.reg (fCarCmdHop c.val), Fld.set (fCarCmdHop c.val) w.value 1, w.be, noFinds)
  | .synthRecal => some (Fld.reg fSynCmdRecal, Fld.set fSynCmdRecal 0 1, 0xF#4, noFinds)
  | .bwRelease => some (Fld.reg fTxsBwClrRelease, Fld.set fTxsBwClrRelease 0 1, 0xF#4, noFinds)
  | .bwClearCount => some (Fld.reg fTxsBwClrCount, Fld.set fTxsBwClrCount 0 1, 0xF#4, noFinds)
  | .reglReload => some (Fld.reg fReglCmdReload, Fld.set fReglCmdReload 0 1, 0xF#4, noFinds)
  | .reglClear => some (Fld.reg fReglCmdClr, Fld.set fReglCmdClr 0 1, 0xF#4, noFinds)
  | .pathEnable p w => some (Fld.reg (fPcEn (0x40 + p.val)), Fld.set (fPcEn (0x40 + p.val)) w.value 1, w.be, noFinds)
  | .pathDisable p w => some (Fld.reg (fPcEn (0x40 + p.val)), Fld.set (fPcEn (0x40 + p.val)) w.value 0, w.be, noFinds)
  | .txpwrWrite p w => some ((pathTxpwr p.val), w.value, w.be, noFinds)
  | .pathClearCounts p w => some (Fld.reg (fPathCntClrCounts p.val), Fld.set (fPathCntClrCounts p.val) w.value 1, w.be, noFinds)
  | .pathClearFaults p w => some (Fld.reg (fPathCntClrFaults p.val), Fld.set (fPathCntClrFaults p.val) w.value 1, w.be, noFinds)
  | .calFreq => some (Fld.reg fCalCmdProc, Fld.set fCalCmdProc 0 1, 0xF#4, noFinds)
  | .calPower => some (Fld.reg fCalCmdProc, Fld.set fCalCmdProc 0 2, 0xF#4, noFinds)
  | .calArrayRx => some (Fld.reg fCalCmdProc, Fld.set fCalCmdProc 0 3, 0xF#4, noFinds)
  | .calArrayTx => some (Fld.reg fCalCmdProc, Fld.set fCalCmdProc 0 4, 0xF#4, noFinds)
  | .calConv => some (Fld.reg fCalCmdProc, Fld.set fCalCmdProc 0 5, 0xF#4, noFinds)
  | .calCanc => some (Fld.reg fCalCmdProc, Fld.set fCalCmdProc 0 6, 0xF#4, noFinds)
  | .calDpd path => some (calCmd, fCalCmdProc.set (fCalCmdPath.set 0 path.toNat) 7, 0xF#4, noFinds)
  | .calAbort => some (Fld.reg fCalCmdAbort, Fld.set fCalCmdAbort 0 1, 0xF#4, noFinds)
  | .tblDataWrite w => some (calTblData, w.value, w.be, noFinds)
  | .tblCommit => some (Fld.reg fCalTblCmdCommit, Fld.set fCalTblCmdCommit 0 1, 0xF#4, noFinds)
  | .tblInvalidate => some (Fld.reg fCalTblCmdInvalidate, Fld.set fCalTblCmdInvalidate 0 1, 0xF#4, noFinds)
  | .calClearRejects => some (Fld.reg fCalCntClrRejects, Fld.set fCalCntClrRejects 0 1, 0xF#4, noFinds)
  | .calClearSlacks => some (Fld.reg fCalCntClrSlacks, Fld.set fCalCntClrSlacks 0 1, 0xF#4, noFinds)
  | .pilotMoveTo p w => some (Fld.reg (fPilCmdAction p.val), Fld.set (fPilCmdAction p.val) w.value 1, w.be, noFinds)
  | .repairSelftest => some (Fld.reg fRepCmdAction, Fld.set fRepCmdAction 0 1, 0xF#4, noFinds)
  | .repairAbort => some (Fld.reg fRepCmdAction, Fld.set fRepCmdAction 0 2, 0xF#4, noFinds)
  | .markDead w => some (Fld.reg fRepCmdAction, Fld.set fRepCmdAction w.value 3, w.be, noFinds)
  | .revive w => some (Fld.reg fRepCmdAction, Fld.set fRepCmdAction w.value 4, w.be, noFinds)
  | .repairCompact => some (Fld.reg fRepCmdAction, Fld.set fRepCmdAction 0 5, 0xF#4, noFinds)
  | .repairClearEcc => some (Fld.reg fRepCntClrEcc, Fld.set fRepCntClrEcc 0 1, 0xF#4, noFinds)
  | .pilotEnable p w => some (Fld.reg (fPcEn (0x20 + p.val)), Fld.set (fPcEn (0x20 + p.val)) w.value 1, w.be, noFinds)
  | .pilotDisable p w => some (Fld.reg (fPcEn (0x20 + p.val)), Fld.set (fPcEn (0x20 + p.val)) w.value 0, w.be, noFinds)
  | .pilotCopyFrom p w => some (Fld.reg (fPilCmdAction p.val), Fld.set (fPilCmdAction p.val) w.value 2, w.be, noFinds)
  | .pilotVerify p w => some (Fld.reg (fPilCmdAction p.val), Fld.set (fPilCmdAction p.val) w.value 3, w.be, noFinds)
  | .pilotSelftest p w => some (Fld.reg (fPilCmdAction p.val), Fld.set (fPilCmdAction p.val) w.value 4, w.be, noFinds)
  | .pilotImgDataWrite p w => some ((pilImgData p.val), w.value, w.be, noFinds)
  | .pilotClearCounts p w => some (Fld.reg (fPilCntClrCounts p.val), Fld.set (fPilCntClrCounts p.val) w.value 1, w.be, noFinds)
  | .pilotClearCkpts p w => some (Fld.reg (fPilCntClrCkpts p.val), Fld.set (fPilCntClrCkpts p.val) w.value 1, w.be, noFinds)
  | .klPortEnable k w => some (Fld.reg (fKlPctrlEn k.val), Fld.set (fKlPctrlEn k.val) w.value 1, w.be, noFinds)
  | .klPortDisable k w => some (Fld.reg (fKlPctrlEn k.val), Fld.set (fKlPctrlEn k.val) w.value 0, w.be, noFinds)
  | .klCensusCmd => some (Fld.reg fKlCmdAction, Fld.set fKlCmdAction 0 1, 0xF#4, noFinds)
  | .klFailback => some (Fld.reg fKlCmdAction, Fld.set fKlCmdAction 0 5, 0xF#4, noFinds)
  | .trigFireCmd w => some (Fld.reg fKlTrigCmdFire, Fld.set fKlTrigCmdFire w.value 1, w.be, noFinds)
  | .raRead => some (Fld.reg fKlRaCmdRead, Fld.set fKlRaCmdRead 0 1, 0xF#4, noFinds)
  | .raWrite => some (Fld.reg fKlRaCmdWrite, Fld.set fKlRaCmdWrite 0 1, 0xF#4, noFinds)
  | .klResetDev => some (Fld.reg fKlCmdAction, Fld.set fKlCmdAction 0 2, 0xF#4, noFinds)
  | .klResetSubtree => some (Fld.reg fKlCmdAction, Fld.set fKlCmdAction 0 3, 0xF#4, noFinds)
  | .groupCal w finds => some (klCmd, fKlCmdAction.set w.value 4, w.be, finds)
  | .klAbort => some (Fld.reg fKlCmdAction, Fld.set fKlCmdAction 0 6, 0xF#4, noFinds)
  | .klClearCounts => some (Fld.reg fKlCntClrCounts, Fld.set fKlCntClrCounts 0 1, 0xF#4, noFinds)
  | .klClearPerr => some (Fld.reg fKlCntClrPerr, Fld.set fKlCntClrPerr 0 1, 0xF#4, noFinds)
  | .plLaneEnable l w => some (Fld.reg (fPlLctrlEn l.val), Fld.set (fPlLctrlEn l.val) w.value 1, w.be, noFinds)
  | .plLaneDisable l w => some (Fld.reg (fPlLctrlEn l.val), Fld.set (fPlLctrlEn l.val) w.value 0, w.be, noFinds)
  | .streamCtrlWrite w => some (plStreamCtrl, w.value, w.be, noFinds)
  | .plClearDrops => some (Fld.reg fPlCntClrDrops, Fld.set fPlCntClrDrops 0 1, 0xF#4, noFinds)
  | .plClearReplays => some (Fld.reg fPlCntClrReplays, Fld.set fPlCntClrReplays 0 1, 0xF#4, noFinds)
  | .plClearLerr => some (Fld.reg fPlCntClrLerr, Fld.set fPlCntClrLerr 0 1, 0xF#4, noFinds)
  | .chipRst => some (Fld.reg fSysCtrlChipRst, Fld.set fSysCtrlChipRst 0 1, 0xF#4, noFinds)
  | .watchdogKick => some (Fld.reg fRstWdogKickKey, Fld.set fRstWdogKickKey 0 0xA5, 0xF#4, noFinds)
  | .optProgram => some (Fld.reg fOptCmdAction, Fld.set fOptCmdAction 0 1, 0xF#4, noFinds)
  | .optApply => some (Fld.reg fOptCmdAction, Fld.set fOptCmdAction 0 2, 0xF#4, noFinds)
  | .pwrMoor => some (Fld.reg fPwrCmdAction, Fld.set fPwrCmdAction 0 1, 0xF#4, noFinds)
  | .pwrLayUp => some (Fld.reg fPwrCmdAction, Fld.set fPwrCmdAction 0 2, 0xF#4, noFinds)
  | .pwrClearCounts => some (Fld.reg fPwrCntClrCounts, Fld.set fPwrCntClrCounts 0 1, 0xF#4, noFinds)
  | .watchEnable => some (Fld.reg fWatchCtrlEn, Fld.set fWatchCtrlEn (d.mirrored (Fld.reg fWatchCtrlEn)) 1, 0xF#4, noFinds)
  | .watchDisable => some (Fld.reg fWatchCtrlEn, Fld.set fWatchCtrlEn (d.mirrored (Fld.reg fWatchCtrlEn)) 0, 0xF#4, noFinds)
  | .watchClearCounts => some (Fld.reg fWatchCntClrCounts, Fld.set fWatchCntClrCounts 0 1, 0xF#4, noFinds)
  | .rtcHalt => some (Fld.reg fRtcCtrlHalt, Fld.set fRtcCtrlHalt (d.mirrored (Fld.reg fRtcCtrlHalt)) 1, 0xF#4, noFinds)
  | .rtcRun => some (Fld.reg fRtcCtrlHalt, Fld.set fRtcCtrlHalt (d.mirrored (Fld.reg fRtcCtrlHalt)) 0, 0xF#4, noFinds)
  | .rtcTimeWrite w => some (rtcTime, w.value, w.be, noFinds)
  | .rtcDateWrite w => some (rtcDate, w.value, w.be, noFinds)
  | .rtcWakeWrite w => some (rtcWake, w.value, w.be, noFinds)
  | .timerEnable k w => some (Fld.reg (tmF fTmCtrlEn k.val), Fld.set (tmF fTmCtrlEn k.val) w.value 1, w.be, noFinds)
  | .timerDisable k w => some (Fld.reg (tmF fTmCtrlEn k.val), Fld.set (tmF fTmCtrlEn k.val) w.value 0, w.be, noFinds)
  | .tmcStart page w => some ((tmStart page.val), w.value, w.be, noFinds)
  | .tmcStop page w => some ((tmStop page.val), w.value, w.be, noFinds)
  | .timerTopWrite k w => some ((tmW tmTop k.val), w.value, w.be, noFinds)
  | .timerCmpWrite k w => some ((tmW tmCmp k.val), w.value, w.be, noFinds)
  | .tideClearSteps => some (Fld.reg fTideCntClrSteps, Fld.set fTideCntClrSteps 0 1, 0xF#4, noFinds)
  | .hkStart => some (Fld.reg fHkCmdStart, Fld.set fHkCmdStart 0 1, 0xF#4, noFinds)
  | .hkStop => some (Fld.reg fHkCmdStop, Fld.set fHkCmdStop 0 1, 0xF#4, noFinds)
  | .urgentGo w => some (Fld.reg fHkUrgCmdGo, Fld.set fHkUrgCmdGo w.value 1, w.be, noFinds)
  | .hkSyscalZero => some (Fld.reg fHkCmdSyscalZero, Fld.set fHkCmdSyscalZero 0 1, 0xF#4, noFinds)
  | .hkSyscalFull => some (Fld.reg fHkCmdSyscalFull, Fld.set fHkCmdSyscalFull 0 1, 0xF#4, noFinds)
  | .hkClearTrigOvf => some (Fld.reg fHkCntClrTrigOvf, Fld.set fHkCntClrTrigOvf 0 1, 0xF#4, noFinds)
  | .sspmGo => some (Fld.reg fSspmCmdGo, Fld.set fSspmCmdGo 0 1, 0xF#4, noFinds)
  | .sspmSfdp => some (Fld.reg fSspmCmdSfdp, Fld.set fSspmCmdSfdp 0 1, 0xF#4, noFinds)
  | .sspsRxRdWrite w => some (sspsRxRd, w.value, w.be, noFinds)
  | .sspsTxWrWrite w => some (sspsTxWr, w.value, w.be, noFinds)
  | .sspsAttnWrite w => some (sspsAttn, w.value, w.be, noFinds)
  | .trigSw k w => some (Fld.reg ⟨pinsTrigSw, k.val, k.val⟩, Fld.set ⟨pinsTrigSw, k.val, k.val⟩ w.value 1, w.be, noFinds)
  | .intcConfigWrite which w => some ((intcWordOf which), w.value, w.be, noFinds)
  | .secOpenReq w => some (Fld.reg fSecCmdAction, Fld.set fSecCmdAction w.value 1, w.be, noFinds)
  | .secVerify => some (Fld.reg fSecCmdAction, Fld.set fSecCmdAction 0 2, 0xF#4, noFinds)
  | .secClose => some (Fld.reg fSecCmdAction, Fld.set fSecCmdAction 0 3, 0xF#4, noFinds)
  | .keyWriteOp => some (Fld.reg fSecKeyCmdAction, Fld.set fSecKeyCmdAction 0 1, 0xF#4, noFinds)
  | .keyWriteProv => some (Fld.reg fSecKeyCmdAction, Fld.set fSecKeyCmdAction 0 2, 0xF#4, noFinds)
  | .sealArm => some (Fld.reg fSecKeyCmdAction, Fld.set fSecKeyCmdAction 0 3, 0xF#4, noFinds)
  | .seal => some (Fld.reg fSecKeyCmdAction, Fld.set fSecKeyCmdAction 0 4, 0xF#4, noFinds)
  | .optImgDataAccess (some w) => some (optImgData, w.value, w.be, noFinds)
  | _ => none

end Sys2Proof.Machine
end

