-- ==== Sys2Proof/Certificates/Slice0/Obligations.lean ====
section
/-!
DEFINITION. The statements about the block, family by family. `Completes c s Q` says that command `c` answers a next state at `s`, that the queue stays and that `Q` holds of the device then; `OnlyRegs l` is the frame: no register word but those of `l` and what the device itself keeps up to date changes, and no byte of memory.
-/
open Sys2Proof Sys2Proof.Machine

/-! ### The block as a whole -/

/-- A step takes the command at the front of the queue and runs it over the rest of the queue. -/
def Obligations.StepRunsFrontCommand : Prop :=
  ∀ (d : Device) (c : Instr) (rest : List Instr),
    step { dev := d, pending := c :: rest } = exec c { dev := d, pending := rest }

/-- With no command waiting, a step is one tick of the tide (model's choice: assumption 6): the tide's 64-bit count goes up by one where the tide runs, wrapping at 2^64, and nothing else changes. -/
def Obligations.IdleStepTicksTide : Prop :=
  ∀ d : Device, ∃ e, step { dev := d, pending := [] } = .next { dev := e, pending := [] }
    ∧ (d.tideRuns = false → e = d)
    ∧ (d.tideRuns = true → e.tide = (d.tide + 1) % 2 ^ 64)
    ∧ (∀ a, a ≠ tideCountLo → a ≠ tideCountHi → e.rd a = d.rd a)
    ∧ e = { d with regs := e.regs }

/-- No command ever stops the block: each answers a next state, and leaves the queue of waiting commands as it is. -/
def Obligations.NoCommandStops : Prop :=
  ∀ (c : Instr) (s : State), ∃ t, exec c s = .next t ∧ t.pending = s.pending

/-- What reset leaves: every register word at its register table's Reset value but the three that an AON power-on loads (the watchdog's 1,024 ms and the back-off of 1 s with its flag: assumption 7), SRAM all zero, nothing posted, no access in progress, and every island held in reset but the always-on one. -/
def Obligations.ResetState : Prop :=
  (∀ a, a ≠ rstWdogLeft → a ≠ secStat → a ≠ secBackoffLeft → State.reset.dev.rd a = resetWord a)
    ∧ State.reset.dev.rd rstWdogLeft = 1024#32 ∧ State.reset.dev.rd secBackoffLeft = 1000#32 ∧ State.reset.dev.rd secStat = 8#32
    ∧ (∀ a, storeGet zeroByte State.reset.dev.sram a = 0) ∧ State.reset.dev.post = [] ∧ State.reset.dev.bus = none
    ∧ (∀ i, i < 4 → (State.reset.dev.island i).held = true) ∧ (State.reset.dev.island 4).held = false ∧ State.reset.pending = []

/-- The register store, the mirror, the SRAM and option memory of the reset state have their canonical form. -/
def Obligations.ResetIsCanonical : Prop :=
  State.reset.dev.Canonical

/-- Every step keeps the canonical form of the register store, the mirror, the SRAM and option memory. -/
def Obligations.StepKeepsCanonical : Prop :=
  ∀ s t : State, s.dev.Canonical → step s = .next t → t.dev.Canonical

/-- After any command OUT_STAT shows the four IRQ_N balls as they stand, and each ball's record holds exactly the pending, enabled sources that its routes bring to it (R512, R513). -/
def Obligations.InterruptOutputsFollow : Prop :=
  ∀ (c : Instr) (s t : State), exec c s = .next t →
    (∀ b, b < 4 → t.dev.get ⟨intcOutStat, b, b⟩ = (t.dev.ballAsserted b).toNat)
    ∧ (∀ b, b < 4 → (t.dev.ball b).sources = t.dev.ballSources b)

/-- After any command PWR.STAT.STATE reads ENTERING (2) unless the device is awake, and then ALONGSIDE (1) while every path is OFF and UNDERWAY (0) otherwise (R414, R419), while no access of another device waits and the command is none. -/
def Obligations.PowerStateFollows : Prop :=
  ∀ (c : Instr) (s t : State), s.dev.NoRemote → (∀ h way op word data, c ≠ .pageReq h way op word data) →
    (∀ seq tag device entries, c ≠ .regReq seq tag device entries) → exec c s = .next t →
    t.dev.get fPwrStatState = (if t.dev.pwr.phase = .awake then (if t.dev.pathsOff then 1 else 0) else 2)

/-- What the device keeps up to date after a command is only what `settleFields` lists: every other register bit, the mirror, every memory and every other record stay as the command left them, while no access of another device waits. -/
def Obligations.SettlingFrame : Prop :=
  ∀ d : Device, d.NoRemote →
    Device.OnlyRegs [] d d.settle ∧ d.settle.mirror = d.mirror ∧ d.settle.post = d.post ∧ d.settle.isl = d.isl ∧ d.settle.pwr = d.pwr
      ∧ d.settle.rtc = d.rtc ∧ d.settle.timers = d.timers ∧ d.settle.rep = d.rep ∧ d.settle.pilots = d.pilots ∧ d.settle.sec = d.sec
      ∧ d.settle.sspm = d.sspm ∧ d.settle.ssps = d.ssps ∧ d.settle.cars = d.cars ∧ d.settle.ses = d.ses ∧ d.settle.paths = d.paths
      ∧ d.settle.man = d.man ∧ d.settle.kl = d.kl ∧ d.settle.bus = d.bus ∧ d.settle.hd = d.hd ∧ d.settle.free = d.free

/-! ### The host bus and the register pages -/

/-- Every row that is a register write of its own (`hostRow` names them with their word and value) has exactly that write's effect where the bus takes it and its page applies it: the write arrives in its island, takes effect there, restarts the idle limit where it needed a level, and its word is sent to the mirror. -/
def Obligations.HostWriteTakesEffect : Prop :=
  ∀ (s : State) (c : Instr) (a : Nat) (v : Word) (be : BitVec 4) (finds : KlGroupFinds), 
    hostRow s.dev c = some (a, v, be, finds) → s.dev.applies a v be = true → exec (c) s = .next { s with dev := (s.dev.written a v be finds).settle }

/-- A register write that its page ignores (R62, R63): counted with its offset, recorded in LAST_IGN, IGNORED raised, and the mirror again shows what the register holds; nothing else changes, the register itself included. A write that finds the post queue full waits on HRDY_N and has no effect yet (R43); one that the bus cannot start, because an access is in progress or the bus is not in use, has none at all (R30). -/
def Obligations.HostWritesIgnoredOrWaiting : Prop :=
  ∀ (s : State), 
    (∀ (c : Instr) (a : Nat) (v : Word) (be : BitVec 4) (finds : KlGroupFinds), s.dev.NoRemote →
      hostRow s.dev c = some (a, v, be, finds) → s.dev.ready a = true → (s.dev.arrived a v be).writeOk (s.dev.posted a v be) = false → Completes (c) s (fun e => e.get (fIgnCountCount (pageOfWord a)) = min (s.dev.get (fIgnCountCount (pageOfWord a)) + 1) 0xFFFF
          ∧ e.get (fIgnCountLastOffset (pageOfWord a)) = offOfWord a
          ∧ e.get fHbusLastIgnPage = pageOfWord a % 256
          ∧ e.get fHbusLastIgnOffset = offOfWord a
          ∧ Device.raised 0x05 2 s.dev e
          ∧ (plainWord a = true → ∀ f : Fld, f.reg = a → f.settles = true → f.lo ≤ f.hi → f.hi < 32 → bitsOf (e.mirrored a) f.hi f.lo = e.get f)
          ∧ Device.OnlyRegs [ignCount (pageOfWord a), hbusLastIgn, irqStat 0x05, hbusStat, pageStat (pageOfWord a)] s.dev e))
    ∧ (∀ (c : Instr) (a : Nat) (v : Word) (be : BitVec 4) (finds : KlGroupFinds), hostRow s.dev c = some (a, v, be, finds) →
      (s.dev.hostReady = false → exec (c) s = .next { s with dev := s.dev.settle })
      ∧ (s.dev.hostReady = true → s.dev.pwr.phase = .awake → (s.dev.pageOff (pageOfWord a) = false ∨ offOfWord a = 2) → s.dev.post.length = 32 → exec (c) s = .next { s with dev := ({ s.dev with bus := some (.posted (s.dev.posted a v be)) }).settle }))

/-- A write of an off page (R59): at offset 0x008 it is accepted as usual, and enters the post queue; at any other offset it is discarded, OFF_COUNT counts it and records the page, OFF_WRITE is raised, it ends without waiting, and neither the mirror nor the post queue takes it. -/
def Obligations.HostWriteOfOffPage : Prop :=
  ∀ (s : State), s.dev.NoRemote → s.dev.hostReady = true →
    (∀ (c : Instr) (a : Nat) (v : Word) (be : BitVec 4) (finds : KlGroupFinds), hostRow s.dev c = some (a, v, be, finds) → s.dev.pageOff (pageOfWord a) = true → offOfWord a ≠ 2 → Completes (c) s (fun e => e.get fHbusOffCountCount = min (s.dev.get fHbusOffCountCount + 1) 0xFFFF
          ∧ e.get fHbusOffCountLastPage = pageOfWord a % 256
          ∧ Device.raised 0x05 0 s.dev e
          ∧ e.mirror = s.dev.mirror
          ∧ e.post = s.dev.post
          ∧ e.bus = s.dev.bus
          ∧ Device.OnlyRegs [hbusOffCount, irqStat 0x05] s.dev e))
    ∧ (∀ (page : Fin 256) (off : Fin 1024) (w : RegWrite), (pageKind page.val).isSome = true → s.dev.pageOff page.val = true → off.val ≠ 2 → Completes (.registerWrite page off w) s (fun e => e.get fHbusOffCountCount = min (s.dev.get fHbusOffCountCount + 1) 0xFFFF
          ∧ e.get fHbusOffCountLastPage = page.val
          ∧ Device.raised 0x05 0 s.dev e
          ∧ e.mirror = s.dev.mirror
          ∧ e.post = s.dev.post
          ∧ e.bus = s.dev.bus
          ∧ Device.OnlyRegs [hbusOffCount, irqStat 0x05] s.dev e))
    ∧ (∀ (page : Fin 256) (w : RegWrite), (pageKind page.val).isSome = true → s.dev.pageOff page.val = true → s.dev.pwr.phase = .awake → s.dev.post.length < 32 → Completes (.registerWrite page 2 w) s (fun e => e.post = s.dev.post ++ [s.dev.posted (pageCtrl page.val) w.value w.be]
          ∧ e.bus = s.dev.bus
          ∧ Device.OnlyRegs [hbusStat, pageStat page.val] s.dev e))

/-- REGISTER_WRITE: a write that ends enters the post queue behind the others (R43); its page's WPEND is 1 (R46), and the mirror's RW and RWL bits take the written value, its W1C bits written with 1 become 0, and its other bits are unchanged (R44). The post queue and the mirror (R41, R43, R45 … R47): a freed entry takes the write that waited; an island applies the oldest of its posted writes and none of another island's; an acknowledgement clears WPEND when no write to the page is left; and a word sent to the mirror shows there, unless a write to it is pending. -/
def Obligations.PostedWritesMove : Prop :=
  ∀ (s : State), s.dev.NoRemote →
    (∀ (page : Fin 256) (off : Fin 1024) (w : RegWrite),
      s.dev.hostReady = true → s.dev.pwr.phase = .awake → (pageKind page.val).isSome = true → (s.dev.pageOff page.val = false ∨ off.val = 2) → s.dev.post.length < 32 → Completes (.registerWrite page off w) s (fun e => e.post = s.dev.post ++ [s.dev.posted (wordAt page.val off.val) w.value w.be]
          ∧ e.on (fPsWpend page.val) = true
          ∧ e.get fHbusStatQlevel = s.dev.post.length + 1
          ∧ (wordAt page.val off.val ≠ rtcStat → ∀ i : Fin 32, (e.mirrored (wordAt page.val off.val)).getLsbD i.val =
            ((if (rwBits page.val off.val).testBit i.val then w.value.getLsbD i.val else (s.dev.mirrored (wordAt page.val off.val)).getLsbD i.val)
              && !((w1cBits page.val off.val).testBit i.val && w.value.getLsbD i.val)))
          ∧ (∀ b, b ≠ wordAt page.val off.val → b ≠ rtcStat → e.mirrored b = s.dev.mirrored b)
          ∧ Device.OnlyRegs [hbusStat, pageStat page.val] s.dev e))
    ∧ (∀ (x : Posted), s.dev.bus = some (.posted x) → s.dev.post.length < 32 → Completes (.postQueueEntryFreed) s (fun e => e.bus = none
          ∧ e.post = s.dev.post ++ [{ x with level := s.dev.level }]
          ∧ e.on (fPsWpend (pageOfWord x.addr)) = true
          ∧ Device.OnlyRegs [hbusStat, pageStat (pageOfWord x.addr)] s.dev e))
    ∧ (∀ (isl : Fin 5) (finds : KlGroupFinds) (before after : List Posted) (x : Posted), s.dev.islandTakes isl.val = true → s.dev.post = before ++ x :: after → islandOf (pageOfWord x.addr) = isl.val → (∀ y ∈ before, islandOf (pageOfWord y.addr) ≠ isl.val) → exec (.postedWriteApplied isl finds) s = .next { s with dev := ({ s.dev with post := before ++ after }.showQueue.applyWord x finds).settle })
    ∧ (∀ (page : Fin 256), (∀ x ∈ s.dev.post, pageOfWord x.addr ≠ page.val) → Completes (.writeAckReceived page) s (fun e => e.on (fPsWpend page.val) = false
          ∧ e.post = s.dev.post
          ∧ Device.OnlyRegs [pageStat page.val] s.dev e))
    ∧ (∀ (page : Fin 256) (off : Fin 1024) (noise : Word), (pageKind page.val).isSome = true → (∀ x ∈ s.dev.post, x.addr ≠ wordAt page.val off.val) → plainWord (wordAt page.val off.val) = true → (isPath page.val = true → ¬ (0x24 ≤ off.val ∧ off.val < 0x28)) → Completes (.mirrorUpdate page [off] noise) s (fun e => e.mirrored (wordAt page.val off.val) = s.dev.rd (wordAt page.val off.val)
          ∧ (∀ b, b ≠ wordAt page.val off.val → b ≠ rtcStat → e.mirrored b = s.dev.mirrored b)
          ∧ Device.OnlyRegs [] s.dev e))

/-- A write that finds no window is discarded, counted and reported (R36), and a read of an off page beyond its header gives 0x0FF0_0FF0 and is counted in OFF_READS (R58). A write of a memory window stores the enabled bytes of its word at the word's own address, and no other byte (R29, R37); the manifest window takes no write and counts it (R155). A read of a memory window gives the word's four bytes, the lowest address least significant, and changes no byte (R6, R38); a corrected word is counted (R302), an uncorrectable one of ring memory is counted and keeps reading so; while a write of the direct-execute window is not yet programmed the read waits and gives nothing. -/
def Obligations.WindowsAndUnmapped : Prop :=
  ∀ (s : State), s.dev.NoRemote →
    (s.dev.hostReady = true →
      (Completes (.unmappedWrite) s (fun e => e.get (fHalf hbusUnmappedCount) = min (s.dev.get (fHalf hbusUnmappedCount) + 1) 0xFFFF
          ∧ Device.raised 0x05 3 s.dev e
          ∧ e.post = s.dev.post
          ∧ e.mirror = s.dev.mirror
          ∧ Device.OnlyRegs [hbusUnmappedCount, irqStat 0x05] s.dev e))
      ∧ (∀ (page : Fin 256) (off : Fin 1024), (pageKind page.val).isSome = true → s.dev.pageOff page.val = true → 4 ≤ off.val → Completes (.offPageRead page off) s (fun e => e.hd = 0x0FF00FF0#32
          ∧ e.get (fHalf hbusOffReads) = min (s.dev.get (fHalf hbusOffReads) + 1) 0xFFFF
          ∧ e.bus = none
          ∧ e.mirror = s.dev.mirror
          ∧ Device.OnlyRegs [hbusOffReads] s.dev e)))
    ∧ (s.dev.hostReady = true →
      (∀ (word : BitVec 24) (w : RegWrite), 0x0200000 ≤ 4 * word.toNat → 4 * word.toNat < 0x0C00000 → (4 * word.toNat < 0x0400000 ∨ 0x0800000 ≤ 4 * word.toNat) → Completes (.memoryWindowWrite word w) s (fun e => (∀ b, storeGet zeroByte e.sram b =
            if 4 * word.toNat ≤ b ∧ b < 4 * word.toNat + 4 ∧ w.be.getLsbD (b - 4 * word.toNat) = true
            then w.value.extractLsb' (8 * (b - 4 * word.toNat)) 8 else storeGet zeroByte s.dev.sram b)
          ∧ (∀ f : Fld, f.settles = true → e.get f = s.dev.get f)
          ∧ e.opt = s.dev.opt
          ∧ e.mirror = s.dev.mirror))
      ∧ (∀ (word : BitVec 24) (w : RegWrite), 0x0400000 ≤ 4 * word.toNat → 4 * word.toNat < 0x0800000 → Completes (.memoryWindowWrite word w) s (fun e => e.get (fHalf manWriteDiscard) = min (s.dev.get (fHalf manWriteDiscard) + 1) 0xFFFF
          ∧ Device.OnlyRegs [manWriteDiscard] s.dev e))
      ∧ (Completes (.manifestWriteDiscard) s (fun e => e.get (fHalf manWriteDiscard) = min (s.dev.get (fHalf manWriteDiscard) + 1) 0xFFFF
          ∧ Device.OnlyRegs [manWriteDiscard] s.dev e)))
    ∧ (∀ (word : BitVec 24), s.dev.hostReady = true → 0x0200000 ≤ 4 * word.toNat → 4 * word.toNat < 0x0C00000 → s.dev.badAt (4 * word.toNat / 8 * 8) = false →
      (s.dev.sspm.writesPending = false → Completes (.memoryWindowRead word .clean) s (fun e => e.hd = storeGet zeroByte s.dev.sram (4 * word.toNat + 3) ++ storeGet zeroByte s.dev.sram (4 * word.toNat + 2)
            ++ storeGet zeroByte s.dev.sram (4 * word.toNat + 1) ++ storeGet zeroByte s.dev.sram (4 * word.toNat)
          ∧ e.bus = none
          ∧ Device.OnlyRegs [] s.dev e))
      ∧ (s.dev.sspm.writesPending = false → Completes (.memoryWindowRead word .corrected) s (fun e => e.hd = storeGet zeroByte s.dev.sram (4 * word.toNat + 3) ++ storeGet zeroByte s.dev.sram (4 * word.toNat + 2)
            ++ storeGet zeroByte s.dev.sram (4 * word.toNat + 1) ++ storeGet zeroByte s.dev.sram (4 * word.toNat)
          ∧ e.get fRepEccCountCorrected = min (s.dev.get fRepEccCountCorrected + 1) 0xFFFF
          ∧ Device.OnlyRegs [repEccCount, repRows ((4 * word.toNat - 0x0200000) / 2 ^ 20), irqStat 0x11] s.dev e))
      ∧ (s.dev.sspm.writesPending = false → 4 * word.toNat < 0x0400000 → Completes (.memoryWindowRead word .uncorrectable) s (fun e => e.get fRepEccCountUncorrected = min (s.dev.get fRepEccCountUncorrected + 1) 0xFFFF
          ∧ e.badAt (4 * word.toNat / 8 * 8) = true
          ∧ Device.OnlyRegs [repEccCount, repEccAddr, irqStat 0x11] s.dev e))
      ∧ (s.dev.sspm.writesPending = true → Completes (.memoryWindowRead word .clean) s (fun e => e.bus = some (.memRead (4 * word.toNat))
          ∧ e.hd = s.dev.hd
          ∧ Device.OnlyRegs [] s.dev e)))

/-- The limit on HRDY_N ends the waiting access: TIMEOUT_COUNT counts it, TIMEOUT is raised, a read returns 0x0FF0_0FF0 and a write is discarded (R39); a WAIT_LIM of 0 disables it. -/
def Obligations.WaitLimitEndsAccess : Prop :=
  ∀ (s : State) (x : BusAccess), s.dev.NoRemote → s.dev.bus = some x →
    (s.dev.get fHbusCtrlWaitLim ≠ 0 → Completes (.waitLimitExpiry false) s (fun e => e.bus = none
          ∧ e.get (fHalf hbusTimeoutCount) = min (s.dev.get (fHalf hbusTimeoutCount) + 1) 0xFFFF
          ∧ Device.raised 0x05 1 s.dev e
          ∧ e.hd = (match x with
            | .memRead _ => 0x0FF00FF0#32
            | .xipRead _ => 0x0FF00FF0#32
            | _ => s.dev.hd)
          ∧ e.post = s.dev.post
          ∧ e.sspm = s.dev.sspm
          ∧ Device.OnlyRegs [hbusTimeoutCount, irqStat 0x05] s.dev e))
    ∧ (s.dev.get fHbusCtrlWaitLim = 0 → exec (.waitLimitExpiry false) s = .next { s with dev := s.dev.settle })

/-! ### Sessions and the air -/

/-- Enabling and disabling a session (R65, R66, R79): EN = 1 on a session in OFF starts it, and behind a shutdown queues a re-enable; EN = 0 cancels a queued re-enable, and otherwise starts the shutdown of a running session. The end of a session's enable sequence (R80): with its carrier OFF the session goes back to OFF with EN = 0; once its weights are admitted and its pilot serves, it is enabled, in IDLE, or in HOLD where a hold is asked for. A session's shutdown ends at a quiet point (R66, R81): every descriptor is retired, and the session is OFF, or, with a queued re-enable, STARTING. -/
def Obligations.SessionEnableAndShutdown : Prop :=
  ∀ (s : State), s.dev.NoRemote →
    (∀ (n : Fin 16) (w : RegWrite), w.value.getLsbD 1 = false → s.dev.pageInReset (0x80 + n.val) = false →
      (s.dev.applies (pageCtrl (0x80 + n.val)) ((fPcEn (0x80 + n.val)).set w.value 1) w.be = true → Completes (.sessionEnable n w) s (fun e => e.on (fPcEn (0x80 + n.val)) = true
          ∧ (s.dev.sesState n.val = 0 → e.sesState n.val = 1 ∧ e.on (fPsBusy (0x80 + n.val)) = true)
          ∧ (s.dev.sesState n.val ≠ 0 → s.dev.on (fPsShuttingDown (0x80 + n.val)) = true → e.sesState n.val = s.dev.sesState n.val ∧ e.on (fPsEnq (0x80 + n.val)) = true)))
      ∧ (s.dev.applies (pageCtrl (0x80 + n.val)) ((fPcEn (0x80 + n.val)).set w.value 1) w.be = true → s.dev.sesState n.val = 10 → s.dev.on (fPsShuttingDown (0x80 + n.val)) = true → Completes (.sessionEnable n w) s (fun e => e.on (fPsEnq (0x80 + n.val)) = true
          ∧ e.sesState n.val = 10))
      ∧ (s.dev.applies (pageCtrl (0x80 + n.val)) ((fPcEn (0x80 + n.val)).set w.value 0) w.be = true → s.dev.on (fPsEnq (0x80 + n.val)) = true → Completes (.sessionDisable n w) s (fun e => e.on (fPcEn (0x80 + n.val)) = false
          ∧ e.sesState n.val = s.dev.sesState n.val
          ∧ e.on (fPsEnq (0x80 + n.val)) = false))
      ∧ (s.dev.applies (pageCtrl (0x80 + n.val)) ((fPcEn (0x80 + n.val)).set w.value 0) w.be = true → s.dev.on (fPsEnq (0x80 + n.val)) = false → s.dev.on (fPcEn (0x80 + n.val)) = true → s.dev.sesState n.val ≠ 0 → s.dev.on (fPsShuttingDown (0x80 + n.val)) = false → Completes (.sessionDisable n w) s (fun e => e.on (fPcEn (0x80 + n.val)) = false
          ∧ e.sesState n.val = 10
          ∧ e.on (fPsShuttingDown (0x80 + n.val)) = true
          ∧ 6 ∈ (e.sess n.val).holds)))
    ∧ (∀ (n : Fin 16), s.dev.sesState n.val = 1 →
      (s.dev.carState (s.dev.sesCar n.val) = 0 → Completes (.sessionEnableComplete n) s (fun e => e.sesState n.val = 0
          ∧ e.on (fPcEn (0x80 + n.val)) = false
          ∧ e.on (fPsBusy (0x80 + n.val)) = false))
      ∧ (∀ (d : Device), s.dev.carState (s.dev.sesCar n.val) ≠ 0 → (s.dev.onCarrier (s.dev.sesCar n.val)).length < 4 → (((s.dev.modStream n.val (fun t => { t with assigned := true })).showStreams).noiseRestart n.val true true).admitStart n.val = (true, d) → ((d.zonesChanged (s.dev.sesCar n.val) n.val).groupsStale).get (fPsState (0x20 + ((d.zonesChanged (s.dev.sesCar n.val) n.val).groupsStale).get (fSesStatPilot n.val))) = 5 → Completes (.sessionEnableComplete n) s (fun e => (e.sesState n.val = 2 ∨ e.sesState n.val = 8)
          ∧ e.on (fPsBusy (0x80 + n.val)) = false
          ∧ (e.sess n.val).phase = .quiet
          ∧ (e.sess n.val).link = s.dev.rd (sesLink n.val))))
    ∧ (∀ (n : Fin 16) (c : Instr), (c = .sessionShutdownComplete n ∨ c = .shutdownComplete (.session n)) → s.dev.sesState n.val = 10 → (s.dev.sess n.val).acc.running = false → s.dev.sesQuiet n.val = true → s.dev.man.queue = [] →
      Completes (c) s (fun e => e.on (fPsShuttingDown (0x80 + n.val)) = false
          ∧ e.on (fPsEnq (0x80 + n.val)) = false
          ∧ (s.dev.on (fPsEnq (0x80 + n.val)) = false → e.sesState n.val = 0)
          ∧ (s.dev.on (fPsEnq (0x80 + n.val)) = true → e.sesState n.val = 1)
          ∧ (e.sess n.val).run = none
          ∧ (e.sess n.val).descs = []
          ∧ (e.sess n.val).chain = []
          ∧ (e.sess n.val).fence = none
          ∧ e.get (fRxfNoiseA n.val) = 0x8000
          ∧ e.get (fRxfNoiseB n.val) = 0x8000))

/-- A command is committed, sent and ended (R82, R98, R99): the pilot fixes the next command, counting a slot where it opens one and moving Q as a QueryAdjust says; at its delimiter LAST_CMD shows it and the noise estimates stand (R109); at its end a reply is waited for where one is expected. -/
def Obligations.CommandsOnTheAir : Prop :=
  ∀ (s : State) (n : Fin 16), s.dev.NoRemote →
    (∀ (c : AirCmd), s.dev.nextCmd n.val = some c → s.dev.commitOk n.val c = true → (match c with | .query .. => false | _ => true) = true → Completes (.commandCommit n) s (fun e => (e.sess n.val).phase = .committed
          ∧ (e.sess n.val).cmd = c
          ∧ (e.sess n.val).plan = (s.dev.sess n.val).plan.drop 1
          ∧ (c = .queryRep → (e.sess n.val).slots = (s.dev.sess n.val).slots + 1)
          ∧ (c.opens = true → (e.sess n.val).turnSlots = (s.dev.sess n.val).turnSlots + 1)
          ∧ (c.opens = false → (e.sess n.val).slots = (s.dev.sess n.val).slots ∧ (e.sess n.val).turnSlots = (s.dev.sess n.val).turnSlots)
          ∧ e.get (fSesStatQ n.val) = (match c with
            | .queryAdjust 6 => (s.dev.get (fSesStatQ n.val) + 1) % 16
            | .queryAdjust _ => s.dev.get (fSesStatQ n.val) - 1
            | _ => s.dev.get (fSesStatQ n.val))
          ∧ Device.OnlyRegs [sesStat n.val, pilCkpts (s.dev.get (fSesStatPilot n.val))] s.dev e))
    ∧ (∀ (sel se t q dr m tr : Nat), s.dev.nextCmd n.val = some (.query sel se t q dr m tr) → s.dev.commitOk n.val (.query sel se t q dr m tr) = true → Completes (.commandCommit n) s (fun e => (e.sess n.val).phase = .committed
          ∧ (e.sess n.val).slots = 1
          ∧ (e.sess n.val).link = s.dev.rd (sesLink n.val)
          ∧ (e.sess n.val).inv = s.dev.rd (sesInv n.val)
          ∧ (e.sess n.val).qctrl = s.dev.rd (sesQctrl n.val)
          ∧ e.get (fSesStatQ n.val) = min (max (s.dev.get (fSesInvQInit n.val)) (s.dev.get (fSesQctrlQMin n.val))) (s.dev.get (fSesQctrlQMax n.val))
          ∧ Device.OnlyRegs [sesStat n.val, pilCkpts (s.dev.get (fSesStatPilot n.val))] s.dev e))
    ∧ (∀ (a b : BitVec 16), (s.dev.sess n.val).phase = .committed → Completes (.commandStart n a b) s (fun e => (e.sess n.val).phase = .sending
          ∧ e.get (fSesStatLastCmd n.val) = (s.dev.sess n.val).cmd.code
          ∧ (s.dev.on fRxfCfgNoiseHold = false → e.get (fRxfNoiseA n.val) = a.toNat ∧ e.get (fRxfNoiseB n.val) = b.toNat)
          ∧ (s.dev.on fRxfCfgNoiseHold = true → e.rd (rxfNoise n.val) = s.dev.rd (rxfNoise n.val))
          ∧ Device.OnlyRegs [sesStat n.val, rxfNoise n.val] s.dev e))
    ∧ ((s.dev.sess n.val).phase = .sending → s.dev.expects n.val = true → Completes (.commandEnd n) s (fun e => (e.sess n.val).phase = .waiting
          ∧ Device.OnlyRegs [] s.dev e))
    ∧ ((s.dev.sess n.val).phase = .sending → s.dev.expects n.val = false → (s.dev.sess n.val).acc.ending = false → ((s.dev.sess n.val).run = none ∨ (s.dev.sess n.val).cmd = .nak) → Completes (.commandEnd n) s (fun e => (e.sess n.val).phase = .quiet
          ∧ Device.OnlyRegs [] s.dev e))
    ∧ ((s.dev.sess n.val).phase = .sending → s.dev.expects n.val = false → (s.dev.sess n.val).acc.ending = true → Completes (.commandEnd n) s (fun e => (e.sess n.val).phase = .quiet
          ∧ (e.sess n.val).run = none
          ∧ (e.sess n.val).plan = []
          ∧ (e.sess n.val).round.active = false))

/-- The reply window (R75, R95, R96, R99, R133): it opens with RXCFG as it stands and with waiting receive weights in effect, and closes where no preamble has begun, unless a delayed reply is waited for; at the end of that wait the step is repeated up to RETRY times, and after that the operation is over. A preamble is detected where a correlator that SETSEL allows reaches DET_THR: the stronger of the sets compared is chosen, shown in LAST_SET and counted in SET_WINS; below the threshold nothing happens (R103 … R105). -/
def Obligations.ReplyWindowsAndDetection : Prop :=
  ∀ (s : State), s.dev.NoRemote →
    (∀ (n : Fin 16),
      ((s.dev.sess n.val).phase = .waiting → Completes (.replyWindowOpen n) s (fun e => (e.sess n.val).phase = .window
          ∧ (e.sess n.val).rxcfg = s.dev.rd (sesRxcfg n.val)
          ∧ (e.stream n.val).pendA = none
          ∧ (e.stream n.val).pendB = none))
      ∧ ((s.dev.sess n.val).phase = .window → s.dev.delayedNow n.val = false → Completes (.replyWindowClose n) s (fun e => (e.sess n.val).phase = .closed
          ∧ Device.OnlyRegs [] s.dev e))
      ∧ ((s.dev.sess n.val).phase = .window → s.dev.delayedNow n.val = true → exec (.replyWindowClose n) s = .next { s with dev := s.dev.settle })
      ∧ (∀ (x : Desc) (st : AccStep) (rest : List AccStep), (s.dev.sess n.val).phase = .window → s.dev.delayedNow n.val = true → (s.dev.sess n.val).run = some x → (s.dev.sess n.val).acc.steps = st :: rest → (s.dev.sess n.val).acc.tries < bitsOf (s.dev.sess n.val).rxcfg 5 4 → Completes (.delayedReplyTimeout n) s (fun e => (e.sess n.val).phase = .quiet
          ∧ (e.sess n.val).acc.tries = (s.dev.sess n.val).acc.tries + 1
          ∧ (e.sess n.val).acc.steps = (if st.covered x then .cover :: st :: rest else st :: rest)
          ∧ (e.sess n.val).run = some x
          ∧ Device.OnlyRegs [] s.dev e))
      ∧ (∀ (x : Desc) (st : AccStep) (rest : List AccStep), (s.dev.sess n.val).phase = .window → s.dev.delayedNow n.val = true → (s.dev.sess n.val).run = some x → (s.dev.sess n.val).acc.steps = st :: rest → bitsOf (s.dev.sess n.val).rxcfg 5 4 ≤ (s.dev.sess n.val).acc.tries → Completes (.delayedReplyTimeout n) s (fun e => (e.sess n.val).run = none
          ∧ (e.sess n.val).chain = [])))
    ∧ (∀ (n : Fin 16) (a b : BitVec 16) (early : Bool) (sel : Nat) (thr : Int), (s.dev.sess n.val).phase = .window → sel = bitsOf (s.dev.sess n.val).rxcfg 3 2 → thr = 25 * (bitsOf (s.dev.sess n.val).rxcfg 15 8 : Nat) →
      (∀ (setB : Bool), ((sel ≠ 2 ∧ thr ≤ a.toInt) ∨ (sel ≠ 1 ∧ thr ≤ b.toInt)) → setB = (sel = 2 || (sel != 1 && decide (a.toInt < b.toInt))) → Completes (.preambleDetect n a b early) s (fun e => (e.sess n.val).phase = .receiving
          ∧ (e.sess n.val).rx.setB = setB
          ∧ (e.sess n.val).rx.tide = s.dev.stamp
          ∧ e.on (fSesStatLastSet n.val) = setB
          ∧ e.get (fSesSetWinsA n.val) = (if setB then s.dev.get (fSesSetWinsA n.val) else min (s.dev.get (fSesSetWinsA n.val) + 1) 0xFFFF)
          ∧ e.get (fSesSetWinsB n.val) = (if setB then min (s.dev.get (fSesSetWinsB n.val) + 1) 0xFFFF else s.dev.get (fSesSetWinsB n.val))
          ∧ Device.OnlyRegs [sesStat n.val, sesSetWins n.val, bfStat] s.dev e))
      ∧ (¬((sel ≠ 2 ∧ thr ≤ a.toInt) ∨ (sel ≠ 1 ∧ thr ≤ b.toInt)) → exec (.preambleDetect n a b early) s = .next { s with dev := s.dev.settle }))

/-- The slots of a round (R89, R90, R102, R107, R148): an empty slot lowers Qfp by C_EMPTY and a collided one raises it by C_COLL, within QMIN and QMAX, and each is counted; a 16-bit reply is acknowledged where the ring has room. The reply to ACK (R89, R92): a valid EPC makes the slot a singulation, counted in SINGS; a bad one repeats the ACK up to RETRY times. -/
def Obligations.SlotsAndAcknowledgedTags : Prop :=
  ∀ (s : State), s.dev.NoRemote →
    (∀ (n : Fin 16), (s.dev.sess n.val).acc.running = false → (s.dev.sess n.val).cmd.opens = true →
      ((s.dev.sess n.val).phase = .closed → s.dev.sesState n.val ≠ 8 → Completes (.emptySlotDecision n) s (fun e => e.get (fHalf (sesEmpty n.val)) = min (s.dev.get (fHalf (sesEmpty n.val)) + 1) 0xFFFF
          ∧ (e.sess n.val).phase = .quiet
          ∧ (e.sess n.val).qfp = max (16 * bitsOf (s.dev.sess n.val).qctrl 11 8) ((s.dev.sess n.val).qfp - bitsOf (s.dev.sess n.val).qctrl 3 0)
          ∧ (e.sess n.val).round.empties = (s.dev.sess n.val).round.empties + 1
          ∧ Device.OnlyRegs [sesEmpty n.val] s.dev e))
      ∧ (∀ (tpri : BitVec 32), (s.dev.sess n.val).phase = .receiving → Completes (.receptionFailed n tpri) s (fun e => e.get (fHalf (sesCollided n.val)) = min (s.dev.get (fHalf (sesCollided n.val)) + 1) 0xFFFF
          ∧ (e.sess n.val).phase = .decided
          ∧ (e.sess n.val).round.collisions = (s.dev.sess n.val).round.collisions + 1
          ∧ (e.sess n.val).qfp = min (16 * bitsOf (s.dev.sess n.val).qctrl 15 12) ((s.dev.sess n.val).qfp + bitsOf (s.dev.sess n.val).qctrl 7 4)
          ∧ Device.OnlyRegs [sesCollided n.val, rxfDet n.val, rxfTpri n.val] s.dev e))
      ∧ (∀ (r : Reply), (s.dev.sess n.val).phase = .receiving → (r.coded && r.bits.length = 16) = false → Completes (.replyDecision n r) s (fun e => e.get (fHalf (sesCollided n.val)) = min (s.dev.get (fHalf (sesCollided n.val)) + 1) 0xFFFF
          ∧ (e.sess n.val).phase = .decided
          ∧ (e.sess n.val).round.collisions = (s.dev.sess n.val).round.collisions + 1))
      ∧ (∀ (r : Reply), (s.dev.sess n.val).phase = .receiving → r.coded = true → r.bits.length = 16 → 8 ≤ s.dev.mFree n.val → (s.dev.sess n.val).holds = [] → s.dev.on (fSesBerthFreeze n.val) = false → Completes (.replyDecision n r) s (fun e => (e.sess n.val).rn16 = bitNat r.bits
          ∧ (e.sess n.val).plan = [.ack (bitNat r.bits)]
          ∧ (e.sess n.val).phase = .decided
          ∧ (∀ f : Fld, f.settles = true → f.reg ∉ [rxfDet n.val, rxfTpri n.val, sesBerth n.val] → e.get f = s.dev.get f))))
    ∧ (∀ (n : Fin 16) (r : Reply) (rn : Nat), (s.dev.sess n.val).acc.running = false → (s.dev.sess n.val).cmd = .ack rn → (s.dev.sess n.val).phase = .receiving →
      (r.coded = true → (parseEpc r.bits).isSome = true → crcHolds r.bits = true → Completes (.replyDecision n r) s (fun e => e.get (fWord (sesSings n.val)) = (s.dev.get (fWord (sesSings n.val)) + 1) % 2 ^ 32
          ∧ (e.sess n.val).single = true
          ∧ (e.sess n.val).round.singles = (s.dev.sess n.val).round.singles + 1))
      ∧ (r.coded = false → (s.dev.sess n.val).retry < bitsOf (s.dev.sess n.val).rxcfg 5 4 → s.dev.sesState n.val ≠ 8 → Completes (.replyDecision n r) s (fun e => (e.sess n.val).retry = (s.dev.sess n.val).retry + 1
          ∧ (e.sess n.val).plan = [.ack (s.dev.sess n.val).rn16]
          ∧ Device.OnlyRegs [rxfDet n.val, rxfTpri n.val] s.dev e)))

/-- Rounds (R88, R91): a due round begins with its Selects and Query planned and no slot opened, and its end, at the first quiet point after 2^Q slots, counts it in ROUNDS. Access sequences (R94, R95): the sequence begins with its Req_RN once the target is singulated; a valid handle takes it to its first step; a failed reply repeats the step up to RETRY times. -/
def Obligations.RoundsAndAccessSequences : Prop :=
  ∀ (s : State), s.dev.NoRemote →
    (∀ (n : Fin 16) (x : Desc), (s.dev.sess n.val).run = some x →
      (∀ (plan : List AirCmd), (s.dev.sess n.val).round.active = false → (s.dev.sess n.val).holds = [] → s.dev.roundDue n.val x = true → s.dev.sesQuiet n.val = true → s.dev.carState (s.dev.sesCar n.val) = 6 → (s.dev.hasTurn n.val = true ∨ s.dev.alone n.val = true) → s.dev.roundPlan n.val x = some plan → s.dev.sesState n.val ≠ 3 → Completes (.roundStart n) s (fun e => (e.sess n.val).round.active = true
          ∧ (e.sess n.val).plan = plan
          ∧ (e.sess n.val).slots = 0
          ∧ (e.sess n.val).round.opened = 0
          ∧ (e.sess n.val).round.singles = 0
          ∧ Device.OnlyRegs [] s.dev e))
      ∧ (s.dev.roundOver n.val = true → s.dev.sesQuiet n.val = true → (s.dev.sess n.val).acc.running = false → (s.dev.sess n.val).acc.ready = false → 4 ≤ s.dev.sesState n.val → s.dev.sesState n.val ≤ 8 → Completes (.roundEnd n) s (fun e => e.get (fWord (sesRounds n.val)) = (s.dev.get (fWord (sesRounds n.val)) + 1) % 2 ^ 32
          ∧ (e.sess n.val).round.active = false
          ∧ (e.sess n.val).plan = [])))
    ∧ (∀ (n : Fin 16) (x : Desc), (s.dev.sess n.val).run = some x →
      ((s.dev.sess n.val).acc.ready = true → (s.dev.sess n.val).holds = [] → s.dev.man.queue = [] → Completes (.accessSequenceStart n) s (fun e => (e.sess n.val).acc.running = true
          ∧ (e.sess n.val).acc.ready = false
          ∧ (e.sess n.val).acc.steps = .handle :: x.opSteps
          ∧ (e.sess n.val).acc.tries = 0
          ∧ (e.sess n.val).plan = [.reqRn (s.dev.sess n.val).rn16]
          ∧ Device.OnlyRegs [] s.dev e))
      ∧ (∀ (r : Reply) (st : AccStep) (rest : List AccStep), (s.dev.sess n.val).phase = .receiving → (s.dev.sess n.val).acc.running = true → (s.dev.sess n.val).acc.steps = .handle :: st :: rest → r.coded = true → r.bits.length = 32 → crcHolds r.bits = true → Completes (.accessReplyDecision n r) s (fun e => (e.sess n.val).acc.handle = some (bitNat (r.bits.take 16))
          ∧ (e.sess n.val).acc.steps = st :: rest
          ∧ (e.sess n.val).phase = .decided))
      ∧ (∀ (r : Reply) (st : AccStep) (rest : List AccStep), (s.dev.sess n.val).phase = .receiving → (s.dev.sess n.val).acc.running = true → (s.dev.sess n.val).acc.steps = st :: rest → r.coded = false → (s.dev.sess n.val).acc.tries < bitsOf (s.dev.sess n.val).rxcfg 5 4 → Completes (.accessReplyDecision n r) s (fun e => (e.sess n.val).acc.tries = (s.dev.sess n.val).acc.tries + 1
          ∧ (e.sess n.val).phase = .decided
          ∧ (e.sess n.val).acc.steps = (if st.covered x then .cover :: st :: rest else st :: rest)
          ∧ Device.OnlyRegs [rxfDet n.val, rxfTpri n.val, pilCkpts (s.dev.get (fSesStatPilot n.val))] s.dev e)))

/-- Holds and slack water (R79, R84 … R86, R274): at a quiet point a session that is to hold enters HOLD with the reason first asked for, and leaves it for the state it was in once no reason stands; slack water begins when every enabled session is held, and its end takes its reason from every session. A trigger edge at TRIG_IN_k (R118, R119): the level is taken, and every session that selects the ball and the edge, with TRIG.EN = 1 and none pending, has a trigger pending; no other session's changes, where the edge is not forwarded into the cascade. -/
def Obligations.HoldsAndTriggers : Prop :=
  ∀ (s : State), s.dev.NoRemote →
    (∀ (n : Fin 16), s.dev.holdDue n.val = true → (s.dev.sess n.val).stop = none → Completes (.holdEnter n) s (fun e => e.sesState n.val = 8
          ∧ (e.sess n.val).prev = s.dev.sesState n.val
          ∧ e.get (fSesStatHoldWhy n.val) = (s.dev.sess n.val).holds.headD 0 % 8
          ∧ (5 ∈ (s.dev.sess n.val).holds → (s.dev.sess n.val).phase ≠ .closed → (e.sess n.val).round.active = false)))
    ∧ (∀ (n : Fin 16), s.dev.sesState n.val = 8 → (s.dev.sess n.val).holds = [] → ((s.dev.sess n.val).prev = 1 ∨ (s.dev.sess n.val).prev = 2) → Completes (.holdRelease n) s (fun e => e.sesState n.val = 2
          ∧ e.get (fSesStatHoldWhy n.val) = 0))
    ∧ (∀ (n : Fin 16) (x : Desc), s.dev.sesState n.val = 8 → (s.dev.sess n.val).holds = [] → 3 ≤ (s.dev.sess n.val).prev → (s.dev.sess n.val).prev < 8 → (s.dev.sess n.val).run = some x → (s.dev.sess n.val).round.waits = false → Completes (.holdRelease n) s (fun e => e.sesState n.val = (s.dev.sess n.val).prev
          ∧ e.get (fSesStatHoldWhy n.val) = 0
          ∧ (e.sess n.val).run = some x))
    ∧ (s.dev.cal.slack = .called → s.dev.enabledSes.all s.dev.sesHeld = true → Completes (.slackWaterBegin) s (fun e => e.cal.slack = .running
          ∧ e.on fCalStatSlack = true))
    ∧ (s.dev.cal.slack = .running → Completes (.slackWaterEnd) s (fun e => e.cal.slack = .none
          ∧ e.on fCalStatSlack = false
          ∧ (∀ n : Fin 16, 2 ∉ (e.sess n.val).holds)))
    ∧ (∀ (k : Fin 4) (high : Bool), s.dev.on ⟨pinsLevels, k.val, k.val⟩ ≠ high →
      Completes (.trigInEdge k high) s (fun e => e.on ⟨pinsLevels, k.val, k.val⟩ = high
          ∧ (∀ n : Fin 16, s.dev.on (fSesTrigEn n.val) = true → s.dev.get (fSesTrigSrc n.val) = k.val →
            (s.dev.get (fSesTrigEdge n.val) = 2 ∨ s.dev.get (fSesTrigEdge n.val) = (if high then 0 else 1)) →
            s.dev.on (fSesTrigPending n.val) = false → e.on (fSesTrigPending n.val) = true)
          ∧ ((s.dev.rd klTrigCfg).getLsbD k.val = false → ∀ n : Fin 16, (s.dev.on (fSesTrigEn n.val) = false ∨ s.dev.get (fSesTrigSrc n.val) ≠ k.val) →
            e.on (fSesTrigPending n.val) = s.dev.on (fSesTrigPending n.val))))

/-! ### Rings, descriptors and messages -/

/-- A waiting message (R125, R147): it is written slot by slot when all its slots are free, MTAIL advances past it at once, and no other byte of memory changes; until then it waits. The ring-space hold ends when nothing waits and the slots asked for are free. -/
def Obligations.WaitingMessagesEnterTheRing : Prop :=
  ∀ (s : State) (n : Fin 16), s.dev.NoRemote →
    (∀ (m : List Byte) (rest : List (List Byte)) (k : Nat), (s.dev.sess n.val).waiting = m :: rest → m.length = 64 * k → k ≤ s.dev.mFree n.val → Completes (.messageWrite n) s (fun e => (e.sess n.val).waiting = rest
          ∧ e.index (ringMtail n.val) = ((s.dev.index (ringMtail n.val)) + k) % 65536
          ∧ e.holdsMsg n.val (s.dev.index (ringMtail n.val)) m
          ∧ (rest ≠ [] → (e.sess n.val).holds = (s.dev.sess n.val).holds)
          ∧ Device.OnlyFields [ringMtail n.val, sesStat n.val] s.dev e
          ∧ Device.SramOutside (fun b => s.dev.inSlots n.val (s.dev.index (ringMtail n.val)) k b) s.dev e))
    ∧ (∀ (m : List Byte) (rest : List (List Byte)), (s.dev.sess n.val).waiting = m :: rest → s.dev.mFree n.val < m.length / 64 → exec (.messageWrite n) s = .next { s with dev := s.dev.settle })
    ∧ (∀ (m : List Byte) (k : Nat), (s.dev.sess n.val).waiting = [m] → m.length = 64 * k → k ≤ s.dev.mFree n.val → Completes (.waitingMessageRelease n) s (fun e => (e.sess n.val).waiting = []
          ∧ e.index (ringMtail n.val) = ((s.dev.index (ringMtail n.val)) + k) % 65536
          ∧ e.holdsMsg n.val (s.dev.index (ringMtail n.val)) m
          ∧ Device.OnlyFields [ringMtail n.val, sesStat n.val] s.dev e
          ∧ Device.SramOutside (fun b => s.dev.inSlots n.val (s.dev.index (ringMtail n.val)) k b) s.dev e))
    ∧ (∀ (c : Instr), (c = .messageWrite n ∨ c = .waitingMessageRelease n) → (s.dev.sess n.val).waiting = [] → (s.dev.sess n.val).need ≤ s.dev.mFree n.val → Completes (c) s (fun e => (e.sess n.val).holds = (s.dev.sess n.val).holds.filter (· != 3)
          ∧ (e.sess n.val).need = 8
          ∧ (e.sesState n.val = 8 → e.get (fSesStatHoldWhy n.val) = (e.sess n.val).holds.headD 0 % 8)
          ∧ Device.OnlyRegs [sesStat n.val] s.dev e))

/-- Taking a descriptor (R126, R131, R135): it is copied and in flight, and CHEAD moves past it; it waits behind the others, or joins the access sequence it is chained to; one that fails a check of R131 is retired at once with a COMMAND_ERROR that carries the error. STOP, FENCE and SELECT_SET act as they are taken and take no turn (R138): STOP asks for the running descriptor's end, with SCOPE 1 also retiring every other; a FENCE with DRAIN waits until MHEAD reaches the MTAIL it found; a SELECT_SET stores or empties its entry. A FENCE with DRAIN completes when the host has consumed every message up to the MTAIL it found (R138); until then it stays in flight; and a waiting descriptor whose effective priority has reached 7 becomes urgent, in its place (R136). -/
def Obligations.DescriptorsAreTakenAndAct : Prop :=
  ∀ (s : State), s.dev.NoRemote →
    (∀ (n : Fin 16) (find : DescFind) (x : Desc), s.dev.takeOk n.val = true → find.corrected = 0 → find.lost = 0 → (∀ k : Fin 4, s.dev.badAt (s.dev.cSlotAddr n.val (s.dev.index (ringChead n.val)) + 8 * k.val) = false) → x = s.dev.headDesc n.val →
      ((x.check s.dev.level).1 = 0 → x.byte 0 ≤ 0x16 → s.dev.joinsRun n.val x = false → Completes (.descriptorTake n find) s (fun e => e.index (ringChead n.val) = (s.dev.index (ringChead n.val) + 1) % 65536
          ∧ (e.sess n.val).descs = (s.dev.sess n.val).descs ++ [{ x with urgent := x.prioField = 7 }]
          ∧ (e.sess n.val).run = (s.dev.sess n.val).run
          ∧ e.get (fSesStatInflight n.val) = ((s.dev.sess n.val).descs.length + 1 + (s.dev.sess n.val).run.isSome.toNat + (s.dev.sess n.val).chain.length + (s.dev.sess n.val).fence.isSome.toNat) % 16
          ∧ Device.OnlyRegs [ringChead n.val, ringInflight, sesStat n.val, secIdleLeft] s.dev e))
      ∧ ((x.check s.dev.level).1 = 0 → s.dev.joinsRun n.val x = true → Completes (.descriptorTake n find) s (fun e => e.index (ringChead n.val) = (s.dev.index (ringChead n.val) + 1) % 65536
          ∧ (e.sess n.val).chain = (s.dev.sess n.val).chain ++ [{ x with urgent := x.prioField = 7 }]
          ∧ (e.sess n.val).descs = (s.dev.sess n.val).descs
          ∧ (e.sess n.val).run = (s.dev.sess n.val).run
          ∧ Device.OnlyRegs [ringChead n.val, ringInflight, sesStat n.val, secIdleLeft] s.dev e))
      ∧ (∀ (c k : Nat), x.check s.dev.level = (c, k) → c ≠ 0 → s.dev.takesMsg n.val 1 → Completes (.descriptorTake n find) s (fun e => e.index (ringChead n.val) = (s.dev.index (ringChead n.val) + 1) % 65536
          ∧ (e.sess n.val).descs = (s.dev.sess n.val).descs
          ∧ (e.sess n.val).run = (s.dev.sess n.val).run
          ∧ e.index (ringMtail n.val) = ((s.dev.index (ringMtail n.val)) + 1) % 65536
          ∧ e.holdsMsg n.val (s.dev.index (ringMtail n.val)) (s.dev.cmdErrorMsg n.val x c k)
          ∧ Device.OnlyFields [ringChead n.val, ringInflight, sesStat n.val, ringMtail n.val] s.dev e
          ∧ Device.SramOutside (fun b => s.dev.inSlots n.val (s.dev.index (ringMtail n.val)) 1 b) s.dev e))
      ∧ (Completes (.descriptorTake ⟨n.val, n.isLt⟩ { find with lost := 1 }) s (fun e => e.index (ringChead n.val) = (s.dev.index (ringChead n.val) + 1) % 65536
          ∧ (e.sess n.val).descs = (s.dev.sess n.val).descs
          ∧ (e.sess n.val).run = (s.dev.sess n.val).run
          ∧ e.get fRepEccCountUncorrected = min (s.dev.get fRepEccCountUncorrected + 1) 0xFFFF)))
    ∧ (∀ (n : Fin 16) (find : DescFind) (x : Desc), s.dev.takeOk n.val = true → find.corrected = 0 → find.lost = 0 → (∀ k : Fin 4, s.dev.badAt (s.dev.cSlotAddr n.val (s.dev.index (ringChead n.val)) + 8 * k.val) = false) → x = s.dev.headDesc n.val → (x.check s.dev.level).1 = 0 → x.byte 1 < 128 →
      (∀ (y : Desc), x.byte 0 = 0x17 → x.byte 4 = 0 → (s.dev.sess n.val).run = some y → Completes (.stop n find) s (fun e => e.index (ringChead n.val) = (s.dev.index (ringChead n.val) + 1) % 65536
          ∧ (e.sess n.val).stop = some false
          ∧ 6 ∈ (e.sess n.val).holds
          ∧ (e.sess n.val).run = some y
          ∧ (e.sess n.val).descs = (s.dev.sess n.val).descs
          ∧ Device.OnlyRegs [ringChead n.val, ringInflight, sesStat n.val, secIdleLeft] s.dev e))
      ∧ (∀ (y : Desc), x.byte 0 = 0x17 → x.byte 4 = 1 → (s.dev.sess n.val).run = some y → Completes (.stop n find) s (fun e => e.index (ringChead n.val) = (s.dev.index (ringChead n.val) + 1) % 65536
          ∧ (e.sess n.val).stop = some true
          ∧ 6 ∈ (e.sess n.val).holds
          ∧ (e.sess n.val).run = some y
          ∧ (e.sess n.val).descs = []))
      ∧ (x.byte 0 = 0x18 → (x.byte 4).testBit 0 = true → s.dev.mUsed n.val ≠ 0 → Completes (.fence n find) s (fun e => e.index (ringChead n.val) = (s.dev.index (ringChead n.val) + 1) % 65536
          ∧ (e.sess n.val).fence = some (x, (s.dev.index (ringMtail n.val)))
          ∧ (e.sess n.val).descs = (s.dev.sess n.val).descs
          ∧ Device.OnlyRegs [ringChead n.val, ringInflight, sesStat n.val, secIdleLeft] s.dev e))
      ∧ (x.byte 0 = 0x18 → ((x.byte 4).testBit 0 = false ∨ s.dev.mUsed n.val = 0) → Completes (.fence n find) s (fun e => e.index (ringChead n.val) = (s.dev.index (ringChead n.val) + 1) % 65536
          ∧ (e.sess n.val).fence = none
          ∧ (e.sess n.val).descs = (s.dev.sess n.val).descs
          ∧ Device.OnlyRegs [ringChead n.val, ringInflight, sesStat n.val, secIdleLeft] s.dev e))
      ∧ (x.byte 0 = 0x19 → x.chained = false → (x.byte 4).testBit 7 = false → Completes (.selectSet n find) s (fun e => e.index (ringChead n.val) = (s.dev.index (ringChead n.val) + 1) % 65536
          ∧ (e.sess n.val).selects.getD (x.byte 4 % 8) none = some { target := x.byte 5, action := x.byte 6, bank := x.byte 7 % 4, pointer := x.le 8 4, length := x.byte 12, mask := (x.bytes.drop 16).take 16, whole := decide (x.byte 12 ≤ 128) }
          ∧ (∀ i : Fin 8, i.val ≠ x.byte 4 % 8 → (e.sess n.val).selects.getD i.val none = (s.dev.sess n.val).selects.getD i.val none)
          ∧ Device.OnlyRegs [ringChead n.val, ringInflight, sesStat n.val, secIdleLeft] s.dev e))
      ∧ (x.byte 0 = 0x19 → x.chained = false → (x.byte 4).testBit 7 = true → Completes (.selectSet n find) s (fun e => e.index (ringChead n.val) = (s.dev.index (ringChead n.val) + 1) % 65536
          ∧ (e.sess n.val).selects.getD (x.byte 4 % 8) none = none
          ∧ Device.OnlyRegs [ringChead n.val, ringInflight, sesStat n.val, secIdleLeft] s.dev e)))
    ∧ (∀ (n : Fin 16),
      (∀ (x : Desc) (t : Nat), (s.dev.sess n.val).fence = some (x, t) → x.byte 1 < 128 → ringUsed (s.dev.index (ringMtail n.val)) (s.dev.index (ringMhead n.val)) ≤ ringUsed (s.dev.index (ringMtail n.val)) t → Completes (.fenceComplete n) s (fun e => (e.sess n.val).fence = none
          ∧ (e.sess n.val).descs = (s.dev.sess n.val).descs
          ∧ (e.sess n.val).run = (s.dev.sess n.val).run
          ∧ e.get (fSesStatInflight n.val) = ((s.dev.sess n.val).descs.length + (s.dev.sess n.val).run.isSome.toNat + (s.dev.sess n.val).chain.length) % 16
          ∧ Device.OnlyRegs [sesStat n.val, ringInflight] s.dev e))
      ∧ (∀ (x : Desc) (t : Nat), (s.dev.sess n.val).fence = some (x, t) → ringUsed (s.dev.index (ringMtail n.val)) t < ringUsed (s.dev.index (ringMtail n.val)) (s.dev.index (ringMhead n.val)) → exec (.fenceComplete n) s = .next { s with dev := s.dev.settle })
      ∧ (Completes (.descriptorUrgent) s (fun e => (e.sess n.val).descs = (s.dev.sess n.val).descs.map (fun (y : Desc) => ({ y with urgent := y.urgent || s.dev.effPrio y = 7 } : Desc))
          ∧ (e.sess n.val).run = (s.dev.sess n.val).run
          ∧ (e.sess n.val).chain = (s.dev.sess n.val).chain
          ∧ Device.OnlyRegs [] s.dev e)))

/-- A descriptor that starts becomes the running one and the session goes to its state (R79, R137): ROUND, or ARMED where it waits for a trigger; ACCESS; TEMPLATE; MEASURE. A BEAM for receive sets takes effect at the next reply window, and one without a usable table entry retires. -/
def Obligations.DescriptorsStart : Prop :=
  ∀ (s : State) (n : Fin 16) (c : Instr) (x : Desc), s.dev.NoRemote → (s.dev.sess n.val).run = none → s.dev.startNext n.val = some x →
    ((c = .inventory n ∨ c = .descriptorStart n) → x.byte 0 = 0x10 → s.dev.on (fSesTrigEn n.val) = false → Completes (c) s (fun e => e.sesState n.val = 4
          ∧ (e.sess n.val).run.map (·.bytes) = some x.bytes
          ∧ (∀ y ∈ (e.sess n.val).descs, y.index ≠ x.index)
          ∧ (e.sess n.val).round.active = false))
    ∧ ((c = .inventory n ∨ c = .descriptorStart n) → x.byte 0 = 0x10 → s.dev.on (fSesTrigEn n.val) = true → (s.dev.on (fSesTrigPending n.val) = false ∨ s.dev.sesState n.val = 2) → Completes (c) s (fun e => e.sesState n.val = 3
          ∧ (e.sess n.val).run.map (·.bytes) = some x.bytes
          ∧ (∀ y ∈ (e.sess n.val).descs, y.index ≠ x.index)))
    ∧ ((c = .access n ∨ c = .descriptorStart n) → x.byte 0 = 0x11 → x.chained = false → s.dev.precheck n.val x = 0 → Completes (c) s (fun e => e.sesState n.val = 5
          ∧ (e.sess n.val).run.map (·.bytes) = some x.bytes
          ∧ (∀ y ∈ (e.sess n.val).descs, y.index ≠ x.index)))
    ∧ ((c = .access n ∨ c = .template n ∨ c = .descriptorStart n) → ((c = .access n ∧ x.byte 0 = 0x11) ∨ (c = .template n ∧ x.byte 0 = 0x12) ∨ (c = .descriptorStart n ∧ x.accessLike = true)) → (x.chained = true ∨ s.dev.precheck n.val x ≠ 0) → Completes (c) s (fun e => (e.sess n.val).run = none
          ∧ (∀ y ∈ (e.sess n.val).descs, y.index ≠ x.index)))
    ∧ ((c = .template n ∨ c = .descriptorStart n) → x.byte 0 = 0x12 → x.chained = false → s.dev.precheck n.val x = 0 → Completes (c) s (fun e => e.sesState n.val = 6
          ∧ (e.sess n.val).run.map (·.bytes) = some x.bytes
          ∧ (∀ y ∈ (e.sess n.val).descs, y.index ≠ x.index)
          ∧ (s.dev.tplByte n.val x.record 1 = 0 → (e.sess n.val).acc.running = true ∧ (e.sess n.val).acc.steps = [.exchange] ∧ (e.sess n.val).plan.length = 1)))
    ∧ ((c = .beam n ∨ c = .descriptorStart n) → x.byte 0 = 0x13 → x.byte 4 ≠ 0 → x.byte 5 = 0 → (entryFlags (s.dev.wtEntry (x.le 6 2))).testBit 7 = true → (entryFlags (s.dev.wtEntry (x.le 6 2))).testBit 1 = true → Completes (c) s (fun e => (e.sess n.val).run = none
          ∧ (∀ y ∈ (e.sess n.val).descs, y.index ≠ x.index)
          ∧ (x.byte 4 ≠ 2 → (e.stream n.val).pendA = some (.table, s.dev.loadRx (entryWeights (s.dev.wtEntry (x.le 6 2)))))
          ∧ (x.byte 4 ≠ 1 → (e.stream n.val).pendB = some (.table, s.dev.loadRx (entryWeights (s.dev.wtEntry (x.le 6 2)))))))
    ∧ ((c = .beam n ∨ c = .descriptorStart n) → x.byte 0 = 0x13 → x.byte 5 = 0 → (entryFlags (s.dev.wtEntry (x.le 6 2))).testBit 7 = false → Completes (c) s (fun e => (e.sess n.val).run = none
          ∧ (∀ y ∈ (e.sess n.val).descs, y.index ≠ x.index)
          ∧ e.stream n.val = s.dev.stream n.val))
    ∧ ((c = .survey n ∨ c = .descriptorStart n) → x.byte 0 = 0x14 → x.started = true → Completes (c) s (fun e => e.sesState n.val = 7
          ∧ (e.sess n.val).run.map (fun y => (y.bytes, y.sector, y.rounds)) = some (x.bytes, x.sector, x.rounds)
          ∧ (∀ y ∈ (e.sess n.val).descs, y.index ≠ x.index)))
    ∧ ((c = .snapshot n ∨ c = .descriptorStart n) → x.byte 0 = 0x15 → x.byte 4 = 0 → Completes (c) s (fun e => e.sesState n.val = 7
          ∧ (e.sess n.val).run.map (·.bytes) = some x.bytes
          ∧ (∀ y ∈ (e.sess n.val).descs, y.index ≠ x.index)
          ∧ (e.sess n.val).run.map (·.started) = some (x.started || decide (x.le 8 8 ≤ s.dev.stamp))))
    ∧ ((c = .noise n ∨ c = .descriptorStart n) → x.byte 0 = 0x16 → Completes (c) s (fun e => e.sesState n.val = 7
          ∧ (e.sess n.val).run.map (·.bytes) = some x.bytes
          ∧ (∀ y ∈ (e.sess n.val).descs, y.index ≠ x.index)))

/-- The measuring descriptors and the turn (R134, R140, R187, R188): a SNAPSHOT's capture begins at START and its samples are stored path by path in the berth, which freezes; NOISE ends with its measurement; a SURVEY moves to its next sector and steers there; and at the end of a turn the best claim gets it. -/
def Obligations.MeasuringDescriptors : Prop :=
  ∀ (s : State) (n : Fin 16), s.dev.NoRemote →
    (∀ (x : Desc), (s.dev.sess n.val).run = some x → x.byte 0 = 0x15 → s.dev.sesState n.val = 7 → x.started = false → x.le 8 8 ≤ s.dev.stamp → Completes (.snapshotCaptureStart n) s (fun e => (e.sess n.val).run = some { x with started := true, startTide := s.dev.stamp }
          ∧ Device.OnlyRegs [] s.dev e))
    ∧ (∀ (x : Desc) (samples : List Word), (s.dev.sess n.val).run = some x → x.byte 0 = 0x15 → x.byte 4 = 0 → x.started = true → s.dev.sesState n.val = 7 → samples.length = 64 * x.le 6 2 → x.le 6 2 ≤ 1024 → s.dev.takesMsg n.val 1 → Completes (.snapshotCaptureEnd n samples) s (fun e => (e.sess n.val).run = none
          ∧ e.on (fSesBerthFreeze n.val) = true
          ∧ e.on (fSesBerthFrozen n.val) = true
          ∧ 4 ∈ (e.sess n.val).holds
          ∧ (∀ p : Fin 64, ∀ k, k < x.le 6 2 → ∀ i : Fin 4, s.dev.inSlots n.val (s.dev.index (ringMtail n.val)) 2 (0x0800000 + 0x40000 * n.val + 4 * (1024 * p.val + k) + i.val) = false →
            storeGet zeroByte e.sram (0x0800000 + 0x40000 * n.val + 4 * (1024 * p.val + k) + i.val)
              = (if s.dev.on (fPathCfgStreamInc p.val) && s.dev.get (fPsState (0x40 + p.val)) = 6 then (samples.getD (64 * k + p.val) 0).extractLsb' (8 * i.val) 8 else 0))
          ∧ Device.SramOutside (fun b => (decide (0x0800000 + 0x40000 * n.val ≤ b) && decide (b < 0x0840000 + 0x40000 * n.val)) || s.dev.inSlots n.val (s.dev.index (ringMtail n.val)) 2 b) s.dev e))
    ∧ (∀ (x : Desc) (a b : BitVec 16) (levels : List (BitVec 16)), (s.dev.sess n.val).run = some x → x.byte 0 = 0x16 → s.dev.sesState n.val = 7 → s.dev.takesMsg n.val 4 → Completes (.noiseMeasureEnd n a b levels) s (fun e => (e.sess n.val).run = none
          ∧ storeGet zeroByte e.sram (s.dev.mSlotAddr n.val (s.dev.index (ringMtail n.val))) = 0x04#8
          ∧ (x.byte 6 = 0 → ∀ k : Fin 2, storeGet zeroByte e.sram (s.dev.mSlotAddr n.val (s.dev.index (ringMtail n.val)) + 20 + k.val) = a.extractLsb' (8 * k.val) 8)))
    ∧ (∀ (x : Desc) (az el : Int) (d1 d2 d3 : Device), (s.dev.sess n.val).run = some x → x.byte 0 = 0x14 → s.dev.sesState n.val = 7 → x.started = true → (s.dev.sess n.val).round.active = false → x.le 14 2 ≤ x.rounds → (s.dev.sess n.val).sectorsOver = false → (s.dev.sess n.val).holds = [] → s.dev.sesQuiet n.val = true → x.sector + 1 < x.byte 12 * x.byte 13 → s.dev.sectorAngle (x.s16 4) (x.s16 6) (x.byte 12) ((x.sector + 1) % max 1 (x.byte 12)) = (az, d1) → d1.sectorAngle (x.s16 8) (x.s16 10) (x.byte 13) ((x.sector + 1) / max 1 (x.byte 12)) = (el, d2) → d2.askSteered n.val az el = (true, d3) → Completes (.surveySector n) s (fun e => (e.sess n.val).run = some { x with started := true, rounds := 0, sector := x.sector + 1 }
          ∧ (e.stream n.val).az = az
          ∧ (e.stream n.val).el = el
          ∧ (e.stream n.val).pend = none
          ∧ (e.stream n.val).setA = .toward az el
          ∧ (e.stream n.val).setB = .toward az el))
    ∧ (∀ (x : Desc), (s.dev.sess n.val).run = some x → x.byte 0 = 0x14 → s.dev.sesState n.val = 7 → x.started = true → (s.dev.sess n.val).round.active = false → x.le 14 2 ≤ x.rounds → (s.dev.sess n.val).sectorsOver = false → (s.dev.sess n.val).holds = [] → s.dev.sesQuiet n.val = true → x.byte 12 * x.byte 13 ≤ x.sector + 1 → (s.dev.sess n.val).prior = none → Completes (.surveySector n) s (fun e => (e.sess n.val).run = none))
    ∧ (∀ (m : Fin 16), s.dev.alone n.val = false → s.dev.hasTurn n.val = true → s.dev.get fSchedCtrlTurnSlots ≤ (s.dev.sess n.val).turnSlots → (s.dev.sess n.val).acc.running = false → s.dev.sesQuiet n.val = true → (s.dev.modSes n.val (fun t => { t with turnEnd := s.dev.stamp })).nextTurn (s.dev.turnClaims n.val) = some m.val → Completes (.turnEnd n) s (fun e => e.hasTurn m.val = true
          ∧ (m ≠ n → e.hasTurn n.val = false)
          ∧ (m ≠ n → s.dev.needsAir n.val = true → 1 ∈ (e.sess n.val).holds)
          ∧ (m ≠ n → (e.sess n.val).turnEnd = s.dev.stamp)
          ∧ 1 ∉ (e.sess m.val).holds))

/-! ### The manifest -/

/-- Serving a sighting (R151 … R153): a tag that its window holds has its entry updated, one that it does not hold takes the first free entry of the window, counted in COUNT and NEW_COUNT and reported as new; with no entry free and EVICT = 0 it is a miss; no other entry changes. Entries of the manifest (R154, R157, R158): an unpinned entry past AGE_OUT and an entry removed by command are cleared but for GEN, which increments, and COUNT falls; a pin changes the entry's PINNED bit; a clear makes BUSY 1, and at its end no entry in its scope is valid and BUSY is 0. -/
def Obligations.ManifestEntries : Prop :=
  ∀ (s : State), s.dev.NoRemote →
    (∀ (g : Sighting), s.dev.man.clear = none → s.dev.man.queue = [.inl g] → (s.dev.sess g.session).waiting = [] → 2 ≤ s.dev.mFree g.session → g.session < 16 → g.epc.length ≤ 62 →
      (∀ (i : Fin 65536), (s.dev.manWindow g.epc).find? (fun j => entryMatches (s.dev.entry j) g.epc) = some i.val → Completes (.manifestSighting) s (fun e => (∀ k : Fin 64, s.dev.inSlots g.session (s.dev.index (ringMtail g.session)) 2 (manAddr i.val + k.val) = false → storeGet zeroByte e.sram (manAddr i.val + k.val)
            = ((seenEntry (s.dev.entry i.val) g).set 2 (storeGet zeroByte s.dev.sram (manAddr i.val + 2) + 1)).getD k.val 0)
          ∧ (e.sess g.session).acc.manIndex = some i.val
          ∧ e.man.queue = []
          ∧ Device.OnlyFields [ringMtail g.session] s.dev e
          ∧ Device.SramOutside (fun b => (decide (manAddr i.val ≤ b) && decide (b < manAddr i.val + 64)) || s.dev.inSlots g.session (s.dev.index (ringMtail g.session)) 2 b) s.dev e))
      ∧ (∀ (i : Fin 65536), (s.dev.manWindow g.epc).find? (fun j => entryMatches (s.dev.entry j) g.epc) = none → (s.dev.manWindow g.epc).find? (fun j => !entryValid (s.dev.entry j)) = some i.val → (s.dev.rd manCount).toNat < 65536 → Completes (.manifestSighting) s (fun e => (∀ k : Fin 64, s.dev.inSlots g.session (s.dev.index (ringMtail g.session)) 2 (manAddr i.val + k.val) = false → storeGet zeroByte e.sram (manAddr i.val + k.val)
            = ((newEntry g).set 2 (storeGet zeroByte s.dev.sram (manAddr i.val + 2) + 1)).getD k.val 0)
          ∧ (e.rd manCount).toNat = (s.dev.rd manCount).toNat + 1
          ∧ e.get (fWord manNewCount) = (s.dev.get (fWord manNewCount) + 1) % 2 ^ 32
          ∧ (e.sess g.session).acc.manIndex = some i.val
          ∧ Device.raised 0x1A 1 s.dev e
          ∧ Device.OnlyFields [ringMtail g.session, manCount, manNewCount, irqStat 0x1A] s.dev e
          ∧ Device.SramOutside (fun b => (decide (manAddr i.val ≤ b) && decide (b < manAddr i.val + 64)) || s.dev.inSlots g.session (s.dev.index (ringMtail g.session)) 2 b) s.dev e))
      ∧ ((s.dev.manWindow g.epc).find? (fun j => entryMatches (s.dev.entry j) g.epc) = none → (s.dev.manWindow g.epc).find? (fun j => !entryValid (s.dev.entry j)) = none → s.dev.on fManCtrlEvict = false → Completes (.manifestSighting) s (fun e => e.get (fHalf manMisses) = min (s.dev.get (fHalf manMisses) + 1) 0xFFFF
          ∧ (e.sess g.session).acc.manIndex = none
          ∧ Device.OnlyFields [ringMtail g.session, manMisses] s.dev e
          ∧ Device.SramOutside (fun b => s.dev.inSlots g.session (s.dev.index (ringMtail g.session)) 2 b) s.dev e)))
    ∧ (∀ (w : RegWrite) (i : Fin 65536),
      (s.dev.get fManCtrlAgeOut ≠ 0 → s.dev.pageLive 0x1A = true → entryValid (s.dev.entry i.val) = true → entryPinned (s.dev.entry i.val) = false → entryLe (s.dev.entry i.val) 16 8 + s.dev.get fManCtrlAgeOut * 1024000000 < s.dev.stamp → Completes (.manifestAgeOut i) s (fun e => (∀ k : Fin 64, storeGet zeroByte e.sram (manAddr i.val + k.val) = if k.val = 2 then storeGet zeroByte s.dev.sram (manAddr i.val + 2) + 1 else 0)
          ∧ (e.rd manCount).toNat = (s.dev.rd manCount).toNat - 1
          ∧ Device.OnlyFields [manCount] s.dev e
          ∧ Device.SramOutside (fun b => decide (manAddr i.val ≤ b) && decide (b < manAddr i.val + 64)) s.dev e))
      ∧ (s.dev.applies manCmd (fManCmdAction.set w.value 3) w.be = true → fManCmdIndex.of (fManCmdAction.set w.value 3) = i.val → entryValid (s.dev.entry i.val) = true → Completes (.manRemove w) s (fun e => (∀ k : Fin 64, storeGet zeroByte e.sram (manAddr i.val + k.val) = if k.val = 2 then storeGet zeroByte s.dev.sram (manAddr i.val + 2) + 1 else 0)
          ∧ (e.rd manCount).toNat = (s.dev.rd manCount).toNat - 1
          ∧ Device.SramOutside (fun b => decide (manAddr i.val ≤ b) && decide (b < manAddr i.val + 64)) s.dev e))
      ∧ (s.dev.applies manCmd (fManCmdAction.set w.value 1) w.be = true → fManCmdIndex.of (fManCmdAction.set w.value 1) = i.val → entryValid (s.dev.entry i.val) = true → Completes (.manPin w) s (fun e => entryPinned (e.entry i.val) = true
          ∧ entryValid (e.entry i.val) = true
          ∧ Device.SramOutside (fun b => decide (manAddr i.val ≤ b) && decide (b < manAddr i.val + 64)) s.dev e))
      ∧ (s.dev.applies manCmd (fManCmdAction.set w.value 2) w.be = true → fManCmdIndex.of (fManCmdAction.set w.value 2) = i.val → entryValid (s.dev.entry i.val) = true → Completes (.manUnpin w) s (fun e => entryPinned (e.entry i.val) = false
          ∧ entryValid (e.entry i.val) = true
          ∧ Device.SramOutside (fun b => decide (manAddr i.val ≤ b) && decide (b < manAddr i.val + 64)) s.dev e))
      ∧ (∀ (c : Instr) (all : Bool), (c = if all then .manClearAll else .manClearUnpinned) → s.dev.applies manCmd (fManCmdAction.set 0 (4 + all.toNat)) 0xF#4 = true → Completes (c) s (fun e => e.on fManCmdStatBusy = true
          ∧ e.man.clear = some all
          ∧ Device.SramOutside (fun _ => false) s.dev e))
      ∧ (∀ (all : Bool), s.dev.man.clear = some all → s.dev.man.queue = [] → Completes (.manClearDone) s (fun e => e.on fManCmdStatBusy = false
          ∧ e.man.clear = none
          ∧ (entryValid (s.dev.entry i.val) = true → (all || !entryPinned (s.dev.entry i.val)) = true → (∀ k : Fin 64, storeGet zeroByte e.sram (manAddr i.val + k.val) = if k.val = 2 then storeGet zeroByte s.dev.sram (manAddr i.val + 2) + 1 else 0))
          ∧ (entryPinned (s.dev.entry i.val) = true → all = false → e.entry i.val = s.dev.entry i.val)
          ∧ Device.OnlyFields [manCount, manCmdStat] s.dev e
          ∧ Device.SramOutside (fun b => decide (0x0400000 ≤ b) && decide (b < 0x0800000)) s.dev e)))

/-! ### Weights, beams and overlap groups -/

/-- The weight-table actions (R165 … R167): FETCH and FETCH_LIVE fill the stage from the named entry or from the weights in effect; COMMIT stores a well-formed stage in the entry with VALID = 1 and leaves the table alone otherwise, with MALFORMED = 1; ERASE clears VALID and nothing else. BUSY is 1 until the action's end. The direction counts clear. Weights in effect (R133, R171, R174, R177, R178, R184, R185): admitted transmit weights wait, and take effect with their zone at a quiet point, which ends a BEAM; the overlap groups follow from the isolation of the streams in effect; a direction estimate is made for the oldest snapshot and counted as valid or invalid. -/
def Obligations.WeightsAndBeams : Prop :=
  ∀ (s : State), s.dev.NoRemote →
    (s.dev.applies bfWtCmd (fBfWtCmdAction.set 0 1) 0xF#4 = true → Completes (.wtFetch) s (fun e => e.on fBfWtStatBusy = true
          ∧ (∀ k : Fin 68, e.rd (bfWtStage k.val) = BitVec.ofNat 32 (leNat (((s.dev.wtEntry (s.dev.get fBfWtSelIndex)).drop (4 * k.val)).take 4)))
          ∧ e.bf.table = s.dev.bf.table
          ∧ Device.OnlyRegs ([hbusStat, pageStat 0x16, secIdleLeft, bfWtStat] ++ (List.range 68).map bfWtStage) s.dev e))
    ∧ (s.dev.applies bfWtCmd (fBfWtCmdAction.set 0 4) 0xF#4 = true → Completes (.wtFetchLive) s (fun e => e.on fBfWtStatBusy = true
          ∧ (∀ k : Fin 68, e.rd (bfWtStage k.val) = BitVec.ofNat 32 (leNat (((s.dev.wtLive).drop (4 * k.val)).take 4)))
          ∧ e.bf.table = s.dev.bf.table
          ∧ Device.OnlyRegs ([hbusStat, pageStat 0x16, secIdleLeft, bfWtStat] ++ (List.range 68).map bfWtStage) s.dev e))
    ∧ (s.dev.applies bfWtCmd (fBfWtCmdAction.set 0 2) 0xF#4 = true → wtMalformed s.dev.wtStage = false → Completes (.wtCommit) s (fun e => e.on fBfWtStatBusy = true
          ∧ e.on fBfWtStatMalformed = false
          ∧ e.wtEntry (s.dev.get fBfWtSelIndex) = withValid s.dev.wtStage true
          ∧ (∀ j, 272 * (s.dev.get fBfWtSelIndex) + 272 ≤ j ∨ j < 272 * (s.dev.get fBfWtSelIndex) → storeGet zeroByte e.bf.table j = storeGet zeroByte s.dev.bf.table j)
          ∧ Device.OnlyRegs [hbusStat, pageStat 0x16, secIdleLeft, bfWtStat] s.dev e))
    ∧ (s.dev.applies bfWtCmd (fBfWtCmdAction.set 0 2) 0xF#4 = true → wtMalformed s.dev.wtStage = true → Completes (.wtCommit) s (fun e => e.on fBfWtStatBusy = true
          ∧ e.on fBfWtStatMalformed = true
          ∧ e.bf.table = s.dev.bf.table
          ∧ Device.OnlyRegs [hbusStat, pageStat 0x16, secIdleLeft, bfWtStat] s.dev e))
    ∧ (s.dev.applies bfWtCmd (fBfWtCmdAction.set 0 3) 0xF#4 = true → Completes (.wtErase) s (fun e => e.on fBfWtStatBusy = true
          ∧ e.wtEntry (s.dev.get fBfWtSelIndex) = withValid (s.dev.wtEntry (s.dev.get fBfWtSelIndex)) false
          ∧ (∀ j, 272 * (s.dev.get fBfWtSelIndex) + 272 ≤ j ∨ j < 272 * (s.dev.get fBfWtSelIndex) → storeGet zeroByte e.bf.table j = storeGet zeroByte s.dev.bf.table j)
          ∧ Device.OnlyRegs [hbusStat, pageStat 0x16, secIdleLeft, bfWtStat] s.dev e))
    ∧ (Completes (.wtActionDone) s (fun e => e.on fBfWtStatBusy = false
          ∧ e.bf.action = 0
          ∧ e.bf.table = s.dev.bf.table
          ∧ Device.OnlyRegs [bfWtStat] s.dev e))
    ∧ (s.dev.applies bfCntClr (fBfCntClrDir.set 0 1) 0xF#4 = true → Completes (.bfClearDirCount) s (fun e => e.rd bfDirCount = 0
          ∧ Device.OnlyRegs [hbusStat, pageStat 0x16, secIdleLeft, bfDirCount] s.dev e))
    ∧ (∀ (n : Fin 16),
      (∀ (t : PendTx), (s.dev.stream n.val).pend = some t → t.w.length = 64 → s.dev.sesQuiet n.val = true → (s.dev.sess n.val).acc.running = false → Completes (.weightsTakeEffect n) s (fun e => e.weights n.val = t.w
          ∧ (e.stream n.val).pend = none
          ∧ (e.stream n.val).az = t.az
          ∧ (e.stream n.val).el = t.el
          ∧ (e.stream n.val).tx = t.form
          ∧ e.on (fBfStreamSrc n.val) = (t.form != .table)
          ∧ e.on (fBfStreamNulled n.val) = t.nulled
          ∧ ((s.dev.sess n.val).run.map (fun x => x.byte 0) = some 0x13 → (e.sess n.val).run = none)))
      ∧ (∀ (x : Desc), (s.dev.sess n.val).run = none → s.dev.startNext n.val = some x → x.byte 0 = 0x13 → x.byte 4 = 0 → x.byte 5 = 0 → (x.byte 12).testBit 0 = false → (entryFlags (s.dev.wtEntry (x.le 6 2))).testBit 7 = true → (entryFlags (s.dev.wtEntry (x.le 6 2))).testBit 0 = true → (s.dev.sess n.val).refused = false → (s.dev.admitTx n.val .table (s.dev.loadTx n.val (entryWeights (s.dev.wtEntry (x.le 6 2)))) false (entryZone (s.dev.wtEntry (x.le 6 2))).1 (entryZone (s.dev.wtEntry (x.le 6 2))).2).1 = true → Completes (.beam n) s (fun e => (e.stream n.val).pend.map (·.w) = some (s.dev.loadTx n.val (entryWeights (s.dev.wtEntry (x.le 6 2))))
          ∧ (e.stream n.val).admitted = true
          ∧ (e.sess n.val).run.map (·.bytes) = some x.bytes
          ∧ e.weights n.val = s.dev.weights n.val))
      ∧ (Completes (.groupRecompute) s (fun e => (∀ m : Fin 16, e.group m.val = (groupsOf (s.dev.linked s.dev.iso)).getD m.val m.val)
          ∧ (∀ m : Fin 16, aloneIn (groupsOf (s.dev.linked s.dev.iso)) m.val = true → e.hasTurn m.val = true)
          ∧ e.bf.groupsDue = false))
      ∧ (∀ (z : List (BitVec 32 × BitVec 32)) (noise : BitVec 64) (q : EstReq) (t : List EstReq), s.dev.bf.est = q :: t → q.session = n.val → Completes (.directionEstimate z noise) s (fun e => e.bf.est = t
          ∧ e.get fBfStatEstQueue = min 16 t.length
          ∧ (e.sess n.val).dir = s.dev.dirFind (s.dev.carHz (s.dev.sesCar n.val)) (z.map (fun v => ⟨fxOf v.1.toInt, fxOf v.2.toInt⟩)) noise.toNat
          ∧ e.get fBfDirCountValid = (if (e.sess n.val).dir.isSome then min (s.dev.get fBfDirCountValid + 1) 0xFFFF else s.dev.get fBfDirCountValid)
          ∧ e.get fBfDirCountInvalid = (if (e.sess n.val).dir.isSome then s.dev.get fBfDirCountInvalid else min (s.dev.get fBfDirCountInvalid + 1) 0xFFFF)
          ∧ Device.OnlyRegs [bfStat, bfDirCount] s.dev e)))

/-! ### Carriers, synthesisers, coexistence and the regulatory profile -/

/-- EN of a carrier (R65, R198, R199, R203, R204): one that its checks refuse goes back to OFF with EN = 0 and says why; one that is admitted uses its frequency and waits in SYNTH_WAIT until SYNTH_S is ready; EN = 0 takes a waiting carrier to OFF and one that is ON to DRAIN, with its sessions held. The steps of a carrier (R198, R203, R204, R226): LISTEN ends in RAMP_UP where the channel is free, and is counted and repeated where it is not; RAMP_UP leads to SETTLE and SETTLE to ON, or to DRAIN where a cause came meanwhile; DRAIN ends when every session stands held, or is cut after the yield; RAMP_DOWN leads where the drain was heading. -/
def Obligations.CarriersRun : Prop :=
  ∀ (s : State), s.dev.NoRemote →
    (∀ (c : Fin 4) (w : RegWrite),
      (∀ (r : Nat), s.dev.applies (carCtrl c.val) ((fCarCtrlEn c.val).set w.value 1) w.be = true → w.be = 0xF#4 → s.dev.carState c.val = 0 → s.dev.on (fCarStatShuttingDown c.val) = false → (fCarCtrlHopAuto c.val).on w.value = false → (s.dev.wr (carCtrl c.val) ((fCarCtrlEn c.val).set w.value 1)).carReason c.val (freqWordHz (s.dev.rd (carFreq c.val))) = r → r ≠ 0 → Completes (.carrierEnable c w) s (fun e => e.carState c.val = 0
          ∧ e.on (fCarCtrlEn c.val) = false
          ∧ e.get (fCarStatErr c.val) = 8
          ∧ e.get (fCarStatReason c.val) = r
          ∧ e.on (fCarStatBusy c.val) = false
          ∧ e.rd (carFreqNow c.val) = 0
          ∧ e.get fReglLastReason = r))
      ∧ (s.dev.applies (carCtrl c.val) ((fCarCtrlEn c.val).set w.value 1) w.be = true → w.be = 0xF#4 → s.dev.carState c.val = 0 → s.dev.on (fCarStatShuttingDown c.val) = false → (fCarCtrlHopAuto c.val).on w.value = false → (s.dev.wr (carCtrl c.val) ((fCarCtrlEn c.val).set w.value 1)).carReason c.val (freqWordHz (s.dev.rd (carFreq c.val))) = 0 → s.dev.on fSynStatSLock = false → Completes (.carrierEnable c w) s (fun e => e.carState c.val = 1
          ∧ e.on (fCarCtrlEn c.val) = true
          ∧ e.on (fCarStatBusy c.val) = true
          ∧ (e.car c.val).hz = (freqWordHz (s.dev.rd (carFreq c.val)))
          ∧ e.rd (carFreqNow c.val) = BitVec.ofNat 32 (freqWordHz (s.dev.rd (carFreq c.val)))))
      ∧ (s.dev.applies (carCtrl c.val) ((fCarCtrlEn c.val).set w.value 0) w.be = true → s.dev.on (fCarStatEnq c.val) = false → s.dev.on (fCarStatShuttingDown c.val) = false → (s.dev.carState c.val = 1 ∨ s.dev.carState c.val = 2 ∨ s.dev.carState c.val = 3 ∨ s.dev.carState c.val = 10) → Completes (.carrierDisable c w) s (fun e => e.carState c.val = 0
          ∧ e.on (fCarCtrlEn c.val) = false
          ∧ e.on (fCarStatBusy c.val) = false
          ∧ (∀ n ∈ s.dev.onCarrier c.val, 5 ∈ (e.sess n).holds)
          ∧ Device.raised 0x14 (4 * c.val + 1) s.dev e))
      ∧ (s.dev.applies (carCtrl c.val) ((fCarCtrlEn c.val).set w.value 0) w.be = true → s.dev.on (fCarStatEnq c.val) = false → s.dev.on (fCarStatShuttingDown c.val) = false → s.dev.carState c.val = 6 → Completes (.carrierDisable c w) s (fun e => e.carState c.val = 7
          ∧ e.on (fCarStatShuttingDown c.val) = true
          ∧ (e.car c.val).stopDue = true
          ∧ (∀ n ∈ s.dev.onCarrier c.val, 5 ∈ (e.sess n).holds)))
      ∧ (s.dev.carState c.val = 1 → s.dev.bandCal = .none → s.dev.synthReady c.val = false → Completes (.synthWaitTimeout c) s (fun e => e.carState c.val = 0
          ∧ e.get (fCarStatErr c.val) = 6
          ∧ e.on (fCarCtrlEn c.val) = false
          ∧ (∀ n ∈ s.dev.onCarrier c.val, 5 ∈ (e.sess n).holds))))
    ∧ (∀ (c : Fin 4),
      (∀ (power : BitVec 16) (p : Profile), s.dev.profile = some p → s.dev.carState c.val = 3 → (s.dev.car c.val).lbtWait = false → power.toInt ≤ p.lbtThr → s.dev.synthReady c.val = true → Completes (.listenEnd c power) s (fun e => e.carState c.val = 4
          ∧ (e.car c.val).onSince = some s.dev.stamp
          ∧ Device.OnlyRegs [carStat c.val] s.dev e))
      ∧ (∀ (power : BitVec 16) (p : Profile), s.dev.profile = some p → s.dev.carState c.val = 3 → (s.dev.car c.val).lbtWait = false → p.lbtThr < power.toInt → s.dev.carAuto c.val = false → Completes (.listenEnd c power) s (fun e => e.carState c.val = 3
          ∧ (e.car c.val).lbtWait = true
          ∧ e.get (fHalf reglLbtBusy) = min (s.dev.get (fHalf reglLbtBusy) + 1) 0xFFFF
          ∧ Device.OnlyRegs [reglLbtBusy] s.dev e))
      ∧ (∀ (power : BitVec 16) (p : Profile), s.dev.profile = some p → s.dev.carState c.val = 3 → (s.dev.car c.val).lbtWait = false → p.lbtThr < power.toInt → s.dev.carAuto c.val = true → Completes (.listenEnd c power) s (fun e => e.carState c.val = 9
          ∧ (e.car c.val).busy = (s.dev.car c.val).hz :: (s.dev.car c.val).busy
          ∧ (e.car c.val).hopDue = true
          ∧ e.get (fHalf reglLbtBusy) = min (s.dev.get (fHalf reglLbtBusy) + 1) 0xFFFF
          ∧ Device.OnlyRegs [reglLbtBusy, carStat c.val] s.dev e))
      ∧ (s.dev.carState c.val = 3 → (s.dev.car c.val).lbtWait = true → Completes (.lbtRetryExpiry c) s (fun e => e.carState c.val = 3
          ∧ (e.car c.val).lbtWait = false
          ∧ Device.OnlyRegs [] s.dev e))
      ∧ (s.dev.carState c.val = 4 → ((s.dev.car c.val).stopDue || (s.dev.car c.val).bandCal || (s.dev.car c.val).grantLost || (s.dev.car c.val).toBarred) = false → Completes (.rampUpEnd c) s (fun e => e.carState c.val = 5
          ∧ Device.OnlyRegs [carStat c.val] s.dev e))
      ∧ (s.dev.carState c.val = 5 → ((s.dev.car c.val).stopDue || (s.dev.car c.val).bandCal || (s.dev.car c.val).grantLost || (s.dev.car c.val).toBarred) = false → Completes (.settleEnd c) s (fun e => e.carState c.val = 6
          ∧ e.on (fCarStatBusy c.val) = false
          ∧ Device.raised 0x14 (4 * c.val) s.dev e
          ∧ (∀ n ∈ s.dev.onCarrier c.val, (s.dev.sess n).refused = false → 5 ∉ (e.sess n).holds)
          ∧ e.get (fWord (carHops c.val)) = (if (s.dev.car c.val).hopping then (s.dev.get (fWord (carHops c.val)) + 1) % 2 ^ 32 else s.dev.get (fWord (carHops c.val)))
          ∧ Device.OnlyRegs ([carStat c.val, carHops c.val, irqStat 0x14] ++ (List.range 16).map sesStat) s.dev e))
      ∧ (∀ (i : Instr), ((i = .rampUpEnd c ∧ s.dev.carState c.val = 4) ∨ (i = .settleEnd c ∧ s.dev.carState c.val = 5)) → ((s.dev.car c.val).stopDue || (s.dev.car c.val).bandCal || (s.dev.car c.val).grantLost || (s.dev.car c.val).toBarred) = true → Completes (i) s (fun e => e.carState c.val = 7
          ∧ (∀ n ∈ s.dev.onCarrier c.val, 5 ∈ (e.sess n).holds)))
      ∧ (s.dev.carState c.val = 7 → s.dev.carQuiet c.val = true → Completes (.drainQuiet c) s (fun e => e.carState c.val = 8
          ∧ Device.OnlyRegs [carStat c.val] s.dev e))
      ∧ (s.dev.carState c.val = 7 → Completes (.drainCut c) s (fun e => e.carState c.val = 8
          ∧ Device.raised 0x14 (4 * c.val + 3) s.dev e
          ∧ (∀ n ∈ s.dev.onCarrier c.val, 5 ∈ (e.sess n).holds)
          ∧ e.get ⟨coexLost, 31, 16⟩ = (if (s.dev.car c.val).grantLost then min (s.dev.get ⟨coexLost, 31, 16⟩ + 1) 0xFFFF else s.dev.get ⟨coexLost, 31, 16⟩)))
      ∧ (s.dev.carState c.val = 8 → (s.dev.car c.val).stopDue = true → s.dev.on (fCarStatEnq c.val) = false → Completes (.rampDownEnd c) s (fun e => e.carState c.val = 0
          ∧ e.on (fCarStatShuttingDown c.val) = false
          ∧ (e.car c.val).onSince = none
          ∧ Device.raised 0x14 (4 * c.val + 1) s.dev e))
      ∧ (s.dev.carState c.val = 8 → (s.dev.car c.val).stopDue = false → ((s.dev.car c.val).hopDue || (s.dev.car c.val).toBarred) = true → Completes (.rampDownEnd c) s (fun e => e.carState c.val = (if (s.dev.car c.val).hopDue then 9 else 10)
          ∧ (e.car c.val).onSince = none
          ∧ Device.OnlyRegs [carStat c.val] s.dev e))
      ∧ (s.dev.carState c.val = 8 → (s.dev.car c.val).stopDue = false → ((s.dev.car c.val).hopDue || (s.dev.car c.val).toBarred) = false → s.dev.bandCal = .running → (s.dev.car c.val).grantLost = false → Completes (.rampDownEnd c) s (fun e => e.carState c.val = 1
          ∧ (e.car c.val).bandCal = false
          ∧ Device.OnlyRegs [carStat c.val] s.dev e)))

/-- Hops and limits (R202, R224, R225): a hop drains an ON carrier for the frequency in NEXT; RETUNE takes it to its checked channel and back to RAMP_UP, or refuses it; a HOP_AUTO carrier takes the next free channel of its permutation; a dwell or occupancy limit drains a carrier for its next channel, or for BARRED, which it leaves when the rule admits it. The mask rotation and the profile (R211, R212, R214, R223, R232): the dwell of one path ends and the rotation moves to the next enabled path; a breach is counted and backs the path off by STEP, up to MAX; the release of back-offs waits for a boundary; a reload parses the profile record again; the counts clear. -/
def Obligations.HopsLimitsAndProfile : Prop :=
  ∀ (s : State), s.dev.NoRemote →
    (∀ (c : Fin 4),
      (∀ (w : RegWrite), s.dev.applies (carCmd c.val) ((fCarCmdHop c.val).set w.value 1) w.be = true → s.dev.carState c.val = 6 → w.be = 0xF#4 → Completes (.hop c w) s (fun e => e.carState c.val = 7
          ∧ e.on (fCarStatBusy c.val) = true
          ∧ (e.car c.val).hopDue = true
          ∧ (e.car c.val).target = freqWordHz (s.dev.rd (carNext c.val))
          ∧ (∀ n ∈ s.dev.onCarrier c.val, 5 ∈ (e.sess n).holds)))
      ∧ (s.dev.carState c.val = 9 → (s.dev.car c.val).stopDue = false → s.dev.carAuto c.val = false → s.dev.carReason c.val (s.dev.car c.val).target = 0 → s.dev.synthReady c.val = true → s.dev.coexOn c.val = false → s.dev.profile.any Profile.lbt = false → Completes (.retuneEnd c) s (fun e => e.carState c.val = 4
          ∧ (e.car c.val).hz = (s.dev.car c.val).target
          ∧ e.rd (carFreqNow c.val) = BitVec.ofNat 32 (s.dev.car c.val).target
          ∧ (e.car c.val).hopping = true
          ∧ (e.car c.val).hopDue = false))
      ∧ (∀ (r : Nat), s.dev.carState c.val = 9 → (s.dev.car c.val).stopDue = false → s.dev.carAuto c.val = false → s.dev.carReason c.val (s.dev.car c.val).target = r → r ≠ 0 → Completes (.retuneEnd c) s (fun e => e.carState c.val = 0
          ∧ e.get (fCarStatErr c.val) = 8
          ∧ e.get (fCarStatReason c.val) = r
          ∧ e.on (fCarCtrlEn c.val) = false))
      ∧ (∀ (hz : Nat) (t : List Nat), s.dev.carState c.val = 9 → s.dev.carAuto c.val = true → (s.dev.car c.val).picked = false → (s.dev.car c.val).stopDue = false → s.dev.firstFree c.val (s.dev.car c.val).perm = some (hz, t) → Completes (.autoHop c) s (fun e => (e.car c.val).hz = hz
          ∧ (e.car c.val).perm = t
          ∧ (e.car c.val).picked = true
          ∧ e.rd (carFreqNow c.val) = BitVec.ofNat 32 hz
          ∧ e.carState c.val = 9
          ∧ Device.OnlyRegs [carFreqNow c.val] s.dev e))
      ∧ (∀ (i : Instr) (p : Profile), s.dev.profile = some p → (s.dev.carState c.val = 5 ∨ s.dev.carState c.val = 6) → ((i = .dwellLimitDrain c ∧ p.dwellMax ≠ 0 ∧ (s.dev.car c.val).visitStart.any (fun b => decide (b + p.dwellMax * tideMs ≤ s.dev.stamp + s.dev.carYield + s.dev.carRamp c.val)) = true) ∨ (i = .occupancyLimitDrain c ∧ p.occupancy = true ∧ p.occLimit * tideMs ≤ s.dev.occAt p (s.dev.car c.val).hz (s.dev.stamp + s.dev.carYield + s.dev.carRamp c.val))) → Completes (i) s (fun e => e.carState c.val = 7
          ∧ (∀ n ∈ s.dev.onCarrier c.val, 5 ∈ (e.sess n).holds)
          ∧ (s.dev.carAuto c.val = true → (e.car c.val).hopDue = true)
          ∧ (s.dev.carAuto c.val = false → (e.car c.val).toBarred = true)))
      ∧ (∀ (p : Profile), s.dev.profile = some p → s.dev.carState c.val = 10 → s.dev.carAuto c.val = false → s.dev.occOk p c.val (s.dev.car c.val).hz = true → s.dev.synthReady c.val = true → s.dev.coexOn c.val = false → s.dev.profile.any Profile.lbt = false → Completes (.barredRelease c) s (fun e => e.carState c.val = 4
          ∧ e.on (fCarStatBusy c.val) = true
          ∧ (e.car c.val).onSince = some s.dev.stamp
          ∧ Device.OnlyRegs [carStat c.val] s.dev e))
      ∧ (∀ (p : Profile), s.dev.profile = some p → s.dev.carState c.val = 10 → s.dev.carAuto c.val = true → p.channels.any (fun x => s.dev.carReason c.val x.hz = 0) = true → Completes (.barredRelease c) s (fun e => e.carState c.val = 9
          ∧ e.on (fCarStatBusy c.val) = true
          ∧ (e.car c.val).hopDue = true
          ∧ Device.OnlyRegs [carStat c.val] s.dev e)))
    ∧ (∀ (c : Fin 4), (s.dev.carState c.val = 5 ∨ s.dev.carState c.val = 6) → Completes (.breakwaterDwellEnd []) s (fun e => e.get fTxsBwStatPath = s.dev.nextBw (s.dev.get fTxsBwStatPath)
          ∧ Device.OnlyRegs [txsBwStat] s.dev e))
    ∧ (∀ (m : MaskMeas) (p : Nat) (pr : Profile), (s.dev.carState m.car.val = 5 ∨ s.dev.carState m.car.val = 6) → p = s.dev.get fTxsBwStatPath → s.dev.pathState p = 6 → s.dev.mutedPath p = false → s.dev.profile = some pr → m.point.val < pr.mask.length → -(100 * ((pr.mask.map (·.limit)).getD m.point.val 0 : Int)) < m.ratio.toInt → s.dev.get (fBackoff p) < s.dev.get fTxsBwCfgMax → Completes (.breakwaterDwellEnd [m]) s (fun e => e.get (fHalf txsBwViol) = min (s.dev.get (fHalf txsBwViol) + 1) 0xFFFF
          ∧ e.get (fBackoff p) = min (s.dev.get fTxsBwCfgMax) (s.dev.get (fBackoff p) + s.dev.get fTxsBwCfgStep)
          ∧ Device.raised 0x15 0 s.dev e
          ∧ e.get fTxsBwStatPath = s.dev.nextBw p
          ∧ Device.OnlyRegs [txsBwStat, txsBwViol, irqStat 0x15, txsBwBackoff (p / 4)] s.dev e))
    ∧ (s.dev.applies txsBwClr (fTxsBwClrRelease.set 0 1) 0xF#4 = true → Completes (.bwRelease) s (fun e => e.cal.waits.any (fun x => x.change = .backoff none) = true
          ∧ e.on fCalStatPending = true
          ∧ (∀ p : Fin 64, e.get (fBackoff p.val) = s.dev.get (fBackoff p.val))
          ∧ Device.OnlyRegs [hbusStat, pageStat 0x15, secIdleLeft, calStat] s.dev e))
    ∧ (s.dev.applies txsBwClr (fTxsBwClrCount.set 0 1) 0xF#4 = true → Completes (.bwClearCount) s (fun e => e.rd txsBwViol = 0
          ∧ Device.OnlyRegs [hbusStat, pageStat 0x15, secIdleLeft, txsBwViol] s.dev e))
    ∧ (s.dev.applies reglCmd (fReglCmdReload.set 0 1) 0xF#4 = true → Completes (.reglReload) s (fun e => e.profile = parseProfile s.dev.profileRecord
          ∧ (parseProfile s.dev.profileRecord = none → e.rd reglStat = 0 ∧ e.rd reglLimit = 0)))
    ∧ (s.dev.applies reglCmd (fReglCmdClr.set 0 1) 0xF#4 = true → Completes (.reglClear) s (fun e => e.rd reglCounts = 0
          ∧ e.rd reglLbtBusy = 0
          ∧ Device.OnlyRegs [hbusStat, pageStat 0x12, secIdleLeft, reglCounts, reglLbtBusy] s.dev e))

/-- SYNTH_S and the coexistence grant (R199 … R201, R216 … R218, R406, R412): a band calibration falls due by drift or command, runs when no carrier radiates, and is forced by draining them; its end swaps the core; a lost lock turns every output off at once; a withdrawn grant drains or stops the carriers it applies to, and a grant that returns lets them go on. -/
def Obligations.SynthAndCoexistence : Prop :=
  ∀ (s : State), s.dev.NoRemote →
    (∀ (i : Instr), s.dev.bandCal = .none → ((i = .bandCalDue ∧ s.dev.get fSynStatCalTemp ≠ 0x80 ∧ 480 ≤ (s.dev.dieTemp - 16 * signedOf 8 (s.dev.get fSynStatCalTemp)).natAbs) ∨ (i = .synthRecal ∧ s.dev.applies synCmd (fSynCmdRecal.set 0 1) 0xF#4 = true)) → Completes (i) s (fun e => e.bandCal = .due
          ∧ e.on fSynStatSCalRun = true
          ∧ Device.OnlyRegs [synStat, hbusStat, pageStat 0x1D, secIdleLeft, synCmd] s.dev e))
    ∧ (s.dev.bandCal = .due → s.dev.carsCalm = true → Completes (.bandCalStart) s (fun e => e.bandCal = .running
          ∧ e.on fSynStatSCalRun = true
          ∧ Device.OnlyRegs [synStat] s.dev e))
    ∧ (s.dev.bandCal = .due → s.dev.carsCalm = false → Completes (.bandCalForce) s (fun e => (∀ c : Fin 4, (s.dev.carState c.val = 5 ∨ s.dev.carState c.val = 6) → e.carState c.val = 7 ∧ (e.car c.val).bandCal = true)))
    ∧ (s.dev.bandCal = .running → Completes (.bandCalComplete) s (fun e => e.bandCal = .none
          ∧ e.on fSynStatSCalRun = false
          ∧ e.on fSynStatSCal = true
          ∧ e.on fSynStatSCore = !s.dev.on fSynStatSCore
          ∧ e.get fSynStatCalTemp = twosOf 8 (clampInt (-127) 127 s.dev.dieDegrees)
          ∧ Device.OnlyRegs ([synStat] ++ (List.range 4).map carStat) s.dev e))
    ∧ (s.dev.on fSynStatPLock = true → s.dev.rst.step = .done → s.dev.on fSynStatSLock = false → s.dev.get fKlStatSync ≠ 1 → Completes (.synthSLockAcquire) s (fun e => e.on fSynStatSLock = true
          ∧ e.on fSynStatSCal = true
          ∧ e.on fClkGoodConv = true
          ∧ e.on fClkGoodDsp = true
          ∧ Device.raised 0x1D 0 s.dev e
          ∧ Device.OnlyRegs ([synStat, clkGood, irqStat 0x1D] ++ (List.range 4).map carStat) s.dev e))
    ∧ (s.dev.on fSynStatSLock = true → Completes (.synthSLockLoss) s (fun e => e.on fSynStatSLock = false
          ∧ e.get fSynStatLosses = min (s.dev.get fSynStatLosses + 1) 0xFF
          ∧ Device.raised 0x1D 0 s.dev e
          ∧ (∀ c : Fin 4, 2 ≤ s.dev.carState c.val → s.dev.carState c.val ≤ 8 → e.carState c.val = 1 ∧ (e.car c.val).onSince = none ∧ ∀ n ∈ s.dev.onCarrier c.val, 5 ∈ (e.sess n).holds)))
    ∧ (s.dev.granted = false → s.dev.on fCoexCtrlEn = true → s.dev.bandCal = .none → s.dev.synthReady 0 = true → s.dev.profile.any Profile.lbt = false → Completes (.coexGrantAssert) s (fun e => e.granted = true
          ∧ (∀ c : Fin 4, s.dev.carState c.val = 2 → e.carState c.val = 4)
          ∧ (∀ c : Fin 4, s.dev.carState c.val = 7 → (s.dev.car c.val).grantLost = true → ((s.dev.car c.val).stopDue || (s.dev.car c.val).hopDue || (s.dev.car c.val).toBarred || (s.dev.car c.val).bandCal) = false → e.carState c.val = 6)))
    ∧ (s.dev.granted = true → s.dev.on fCoexCtrlEn = true → Completes (.coexGrantWithdraw) s (fun e => e.granted = false
          ∧ e.get ⟨coexLost, 15, 0⟩ = min (s.dev.get ⟨coexLost, 15, 0⟩ + 1) 0xFFFF
          ∧ Device.raised 0x13 0 s.dev e
          ∧ (∀ c : Fin 4, s.dev.coexOn c.val = true → ((5 ≤ s.dev.carState c.val → s.dev.carState c.val ≤ 7 → e.carState c.val = 7 ∧ (e.car c.val).grantLost = true) ∧ (s.dev.carState c.val = 4 → e.carState c.val = 8) ∧ (s.dev.carState c.val = 3 → e.carState c.val = 2)))))

/-! ### Paths -/

/-- A path comes on (R251): EN = 1 queues it, and it leaves the queue while fewer than 8 are POWERING; it powers, restores its kept correction and checks itself; a good check leads to JOINING, which waits for a boundary where a carrier is in SETTLE or ON, and a bad one refuses the enable; the end of the ramp makes it ON. A path goes off or is muted (R252, R254, R189): EN = 0 drains a path that is ON, waiting for a boundary where a carrier is in SETTLE or ON; its ramp down leads to POWERING_DOWN and that to OFF. A fault of a path in service mutes it at once: every weight of it is 0, the cause is recorded and counted, and a renormalisation waits. -/
def Obligations.PathsJoinAndStop : Prop :=
  ∀ (s : State), s.dev.NoRemote →
    (∀ (p : Fin 64) (w : RegWrite),
      (s.dev.pageInReset (0x40 + p.val) = false → w.value.getLsbD 1 = false → s.dev.applies (pageCtrl (0x40 + p.val)) ((fPcEn (0x40 + p.val)).set w.value 1) w.be = true → s.dev.pathState p.val = 0 → Completes (.pathEnable p w) s (fun e => e.pathState p.val = 1
          ∧ e.on (fPcEn (0x40 + p.val)) = true
          ∧ e.on (fPsBusy (0x40 + p.val)) = true
          ∧ e.pathQueue = s.dev.pathQueue ++ [p.val]))
      ∧ (∀ (q : List Nat), s.dev.pathQueue = p.val :: q → ((List.range 64).filter (fun r => s.dev.pathState r = 2)).length < 8 → Completes (.pathQueueLeave) s (fun e => e.pathState p.val = 2
          ∧ e.pathQueue = q
          ∧ e.get (fPathFaultCause p.val) = 0
          ∧ Device.OnlyRegs [pageStat (0x40 + p.val), pathFault p.val] s.dev e))
      ∧ (s.dev.pathState p.val = 2 → s.dev.on (fPsShuttingDown (0x40 + p.val)) = false → Completes (.poweringEnd p) s (fun e => e.pathState p.val = 3
          ∧ Device.OnlyRegs [pageStat (0x40 + p.val)] s.dev e))
      ∧ (s.dev.pathState p.val = 3 → s.dev.on (fPsShuttingDown (0x40 + p.val)) = false → Completes (.restoringEnd p) s (fun e => e.pathState p.val = 4
          ∧ e.get (fPathDpdStatTemp p.val) = (s.dev.path p.val).dpdTemp % 256
          ∧ e.get (fPathDpdStatGen p.val) = (s.dev.path p.val).dpdGen % 65536
          ∧ Device.OnlyRegs [pageStat (0x40 + p.val), pathDpdStat p.val, pathSpares p.val] s.dev e))
      ∧ (∀ (nf : BitVec 16), s.dev.pathState p.val = 4 → s.dev.on (fPsShuttingDown (0x40 + p.val)) = false → Completes (.checkingEnd p nf true) s (fun e => e.pathState p.val = 5
          ∧ e.rd (pathIdleNf p.val) = nf.setWidth 32
          ∧ (s.dev.mustWait = true → e.cal.waits.any (fun x => x.change = .join p.val) = true ∧ e.on fCalStatPending = true ∧ (e.path p.val).joined = (s.dev.path p.val).joined)
          ∧ (s.dev.mustWait = false → (e.path p.val).joined = true ∧ e.mutedPath p.val = false)))
      ∧ (∀ (nf : BitVec 16), s.dev.pathState p.val = 4 → s.dev.on (fPsShuttingDown (0x40 + p.val)) = false → Completes (.checkingEnd p nf false) s (fun e => e.pathState p.val = 10
          ∧ e.rd (pathIdleNf p.val) = nf.setWidth 32
          ∧ e.on (fPcEn (0x40 + p.val)) = false
          ∧ (e.get (fPathFaultCause p.val)).testBit 6 = true
          ∧ e.get (fPathFaultCount p.val) = min (s.dev.get (fPathFaultCount p.val) + 1) 0xFF
          ∧ Device.raised (0x40 + p.val) 0 s.dev e
          ∧ Device.OnlyRegs [pageStat (0x40 + p.val), pathIdleNf p.val, pathFault p.val, pageCtrl (0x40 + p.val), irqStat (0x40 + p.val), pathDpdStat p.val, pathGain p.val, calStat] s.dev e))
      ∧ (s.dev.pathState p.val = 5 → (s.dev.path p.val).joined = true → Completes (.joinRampEnd p) s (fun e => e.pathState p.val = 6
          ∧ e.on (fPsBusy (0x40 + p.val)) = false
          ∧ Device.OnlyRegs [pageStat (0x40 + p.val)] s.dev e)))
    ∧ (∀ (p : Fin 64) (w : RegWrite),
      (s.dev.pageInReset (0x40 + p.val) = false → w.value.getLsbD 1 = false → s.dev.applies (pageCtrl (0x40 + p.val)) ((fPcEn (0x40 + p.val)).set w.value 0) w.be = true → s.dev.on (fPsEnq (0x40 + p.val)) = false → s.dev.on (fPsShuttingDown (0x40 + p.val)) = false → s.dev.on (fPcEn (0x40 + p.val)) = true → s.dev.pathState p.val = 6 → Completes (.pathDisable p w) s (fun e => e.pathState p.val = (if s.dev.mustWait then 8 else 9)
          ∧ e.on (fPsShuttingDown (0x40 + p.val)) = true
          ∧ e.on (fPcEn (0x40 + p.val)) = false
          ∧ (s.dev.mustWait = true → e.cal.waits.any (fun x => x.change = .drain p.val) = true)
          ∧ (s.dev.mustWait = false → ∀ k : Fin 48, e.weight k.val p.val = 0)))
      ∧ (s.dev.pathState p.val = 9 → Completes (.pathRampDownEnd p) s (fun e => e.pathState p.val = 10
          ∧ Device.OnlyRegs [pageStat (0x40 + p.val), pathDpdStat p.val, pathGain p.val, calStat] s.dev e))
      ∧ (∀ (i : Instr), (i = .powerDownEnd p ∨ i = .shutdownComplete (.path p)) → s.dev.pathState p.val = 10 → Completes (i) s (fun e => e.pathState p.val = (s.dev.on (fPsEnq (0x40 + p.val))).toNat
          ∧ e.on (fPsShuttingDown (0x40 + p.val)) = false
          ∧ e.on (fPsEnq (0x40 + p.val)) = false
          ∧ Device.OnlyRegs [pageStat (0x40 + p.val)] s.dev e))
      ∧ (∀ (causes : BitVec 7), causes ≠ 0 → (s.dev.pathState p.val = 5 ∨ s.dev.pathState p.val = 6) → Completes (.pathFault p causes) s (fun e => e.pathState p.val = 7
          ∧ e.get (fPathFaultCause p.val) = s.dev.get (fPathFaultCause p.val) ||| causes.toNat
          ∧ e.get (fPathFaultCount p.val) = min (s.dev.get (fPathFaultCount p.val) + 1) 0xFF
          ∧ (∀ k : Fin 48, e.weight k.val p.val = 0)
          ∧ e.mutedPath p.val = true
          ∧ (e.path p.val).joined = false
          ∧ e.get (fPathTxpwrNowLevel p.val) = 0x80
          ∧ Device.raised (0x40 + p.val) 0 s.dev e
          ∧ (causes &&& 0x18 ≠ 0 → e.pathDead p.val = true)))
      ∧ (∀ (causes : BitVec 7), causes ≠ 0 → s.dev.pathState p.val = 7 → Completes (.pathFault p causes) s (fun e => e.pathState p.val = 7
          ∧ e.get (fPathFaultCause p.val) = s.dev.get (fPathFaultCause p.val) ||| causes.toNat
          ∧ Device.OnlyRegs [pathFault p.val] s.dev e)))

/-- A failed slice, DAC cell or driver cell in use is replaced by its spare (R294, R295): the spare is used up, SPARES shows it and a record waits to be written. With no spare driver cell the path goes on with one cell fewer; with no spare slice or DAC cell it is muted and dead. The dredger (R302, R303): a corrected word is counted for the device and its bank; a row found so at two visits running takes a spare row, with a record; an uncorrectable word is counted and its place recorded, a row of ring memory keeps reading so, and its row is repaired. -/
def Obligations.SparesAndRows : Prop :=
  ∀ (s : State), s.dev.NoRemote →
    (∀ (p : Fin 64), 2 ≤ s.dev.pathState p.val →
      (∀ (k : Fin 17), (s.dev.elem p.val).slice = none → k.val < 16 → s.dev.rep.queue.length < 32 → Completes (.sliceFault p k) s (fun e => (e.elem p.val).slice = some k.val
          ∧ e.get (fPathSparesFailedSlice p.val) = k.val
          ∧ e.on (fPathSparesSpareFree p.val) = false
          ∧ e.rep.queue = s.dev.rep.queue ++ [mapRecord 1 p.val k.val 16 s.dev.origin]
          ∧ e.pathState p.val = s.dev.pathState p.val
          ∧ Device.OnlyRegs [pathSpares p.val, irqStat 0x11] s.dev e))
      ∧ (∀ (k : Fin 67) (a : Nat) (t : List Nat), (s.dev.elem p.val).dacFree = a :: t → k.val ∉ (s.dev.elem p.val).dacBad → k.val ∉ (s.dev.elem p.val).dacFree → s.dev.rep.queue.length < 32 → Completes (.dacCellFault p k) s (fun e => (e.elem p.val).dacFree = t
          ∧ (e.elem p.val).dacBad = k.val :: (s.dev.elem p.val).dacBad
          ∧ e.get (fPathSparesDacSpares p.val) = t.length % 8
          ∧ e.rep.queue = s.dev.rep.queue ++ [mapRecord 2 p.val k.val a s.dev.origin]
          ∧ Device.OnlyRegs [pathSpares p.val, irqStat 0x11] s.dev e))
      ∧ (∀ (k : Fin 24) (a : Nat) (t : List Nat), (s.dev.elem p.val).drvFree = a :: t → k.val ∉ (s.dev.elem p.val).drvBad → k.val ∉ (s.dev.elem p.val).drvFree → s.dev.rep.queue.length < 32 → Completes (.driverCellFault p k) s (fun e => (e.elem p.val).drvFree = t
          ∧ (e.elem p.val).drvBad = k.val :: (s.dev.elem p.val).drvBad
          ∧ e.get (fPathSparesDrvSpares p.val) = t.length % 8
          ∧ e.rep.queue = s.dev.rep.queue ++ [mapRecord 3 p.val k.val a s.dev.origin]
          ∧ Device.OnlyRegs [pathSpares p.val, irqStat 0x11] s.dev e))
      ∧ (∀ (k : Fin 24), (s.dev.elem p.val).drvFree = [] → k.val ∉ (s.dev.elem p.val).drvBad → Completes (.driverCellFault p k) s (fun e => (e.path p.val).cells = (s.dev.path p.val).cells - 1
          ∧ (e.elem p.val).drvBad = k.val :: (s.dev.elem p.val).drvBad
          ∧ e.pathState p.val = s.dev.pathState p.val
          ∧ e.rep.ranOut = true))
      ∧ (∀ (k : Fin 17) (a : Nat), (s.dev.elem p.val).slice = some a → k.val ≠ a → (s.dev.pathState p.val = 5 ∨ s.dev.pathState p.val = 6) → Completes (.sliceFault p k) s (fun e => e.pathState p.val = 7
          ∧ (e.get (fPathFaultCause p.val)).testBit 3 = true
          ∧ e.pathDead p.val = true
          ∧ e.rep.ranOut = true))
      ∧ (∀ (k : Fin 67), (s.dev.elem p.val).dacFree = [] → k.val ∉ (s.dev.elem p.val).dacBad → (s.dev.pathState p.val = 5 ∨ s.dev.pathState p.val = 6) → Completes (.dacCellFault p k) s (fun e => e.pathState p.val = 7
          ∧ (e.get (fPathFaultCause p.val)).testBit 4 = true
          ∧ e.pathDead p.val = true
          ∧ e.rep.ranOut = true)))
    ∧ (∀ (bank : Fin 14) (row : Fin 8192),
      (Completes (.dredgerRowVisit bank row .clean) s (fun e => (bank.val, row.val) ∉ e.rep.marks
          ∧ Device.OnlyRegs [] s.dev e))
      ∧ ((bank.val, row.val) ∉ s.dev.rep.marks → Completes (.dredgerRowVisit bank row .corrected) s (fun e => (bank.val, row.val) ∈ e.rep.marks
          ∧ e.get fRepEccCountCorrected = min (s.dev.get fRepEccCountCorrected + 1) 0xFFFF
          ∧ e.get (fRepRowsCorrected bank.val) = min (s.dev.get (fRepRowsCorrected bank.val) + 1) 0xFFFF
          ∧ e.rep.rows = s.dev.rep.rows
          ∧ Device.OnlyRegs [repEccCount, repRows bank.val, irqStat 0x11] s.dev e))
      ∧ ((bank.val, row.val) ∈ s.dev.rep.marks → 1 ≤ s.dev.get (fRepRowsFree bank.val) → s.dev.get (fRepRowsFree bank.val) ≤ 16 → s.dev.rep.queue.length < 32 → Completes (.dredgerRowVisit bank row .corrected) s (fun e => e.get fRepEccCountCorrected = min (s.dev.get fRepEccCountCorrected + 1) 0xFFFF
          ∧ (bank.val, row.val) ∉ e.rep.marks
          ∧ e.rep.rows = s.dev.rep.rows ++ [(bank.val, row.val, 16 - s.dev.get (fRepRowsFree bank.val))]
          ∧ e.get (fRepRowsFree bank.val) = s.dev.get (fRepRowsFree bank.val) - 1
          ∧ e.rep.queue = s.dev.rep.queue ++ [mapRecord 6 bank.val row.val (16 - s.dev.get (fRepRowsFree bank.val)) s.dev.origin]
          ∧ Device.OnlyRegs [repEccCount, repRows bank.val, irqStat 0x11, repPools] s.dev e))
      ∧ (∀ (word : Fin 16) (proc : Fin 7), bank.val ≤ 1 → 1 ≤ s.dev.get (fRepRowsFree bank.val) → s.dev.get (fRepRowsFree bank.val) ≤ 16 → s.dev.rep.queue.length < 32 → Completes (.dredgerRowVisit bank row (.uncorrectable word proc)) s (fun e => e.get fRepEccCountUncorrected = min (s.dev.get fRepEccCountUncorrected + 1) 0xFFFF
          ∧ e.get fRepEccAddrOffset = (128 * row.val + 8 * word.val)
          ∧ e.get fRepEccAddrBank = bank.val
          ∧ e.on fRepEccAddrValid = true
          ∧ e.badAt (0x0200000 + 0x100000 * bank.val + (128 * row.val + 8 * word.val)) = true
          ∧ e.rep.rows = s.dev.rep.rows ++ [(bank.val, row.val, 16 - s.dev.get (fRepRowsFree bank.val))]
          ∧ e.get (fRepRowsFree bank.val) = s.dev.get (fRepRowsFree bank.val) - 1
          ∧ e.rep.queue = s.dev.rep.queue ++ [mapRecord 6 bank.val row.val (16 - s.dev.get (fRepRowsFree bank.val)) s.dev.origin]
          ∧ Device.OnlyRegs [repEccCount, repEccAddr, repRows bank.val, irqStat 0x11, repPools] s.dev e)))

/-- Levels, gain and cancellation (R229, R238 … R241, R244, R259): a level written to a path in service waits for a boundary, and for another path only its register changes; a peak above the threshold lowers the gain at once, one 4 dB below asks for a step up; cancellation tracks, at once in SETTLE and at a boundary otherwise; the counts clear. -/
def Obligations.PathLevelsGainAndCancellation : Prop :=
  ∀ (s : State) (p : Fin 64), s.dev.NoRemote →
    (∀ (w : RegWrite), s.dev.applies (pathTxpwr p.val) w.value w.be = true → w.be = 0xF#4 → (s.dev.path p.val).joined = true → s.dev.profile = none → signedOf 8 (bitsOf w.value 7 0) ≤ cellReach (s.dev.path p.val).cells → Completes (.txpwrWrite p w) s (fun e => (e.path p.val).pend = some (signedOf 8 (bitsOf w.value 7 0))
          ∧ e.on (fPathTxpwrNowPending p.val) = true
          ∧ e.get (fPathTxpwrLevel p.val) = bitsOf w.value 7 0
          ∧ e.cal.waits.any (fun x => x.change = .level p.val) = true
          ∧ e.get (fPathTxpwrNowLevel p.val) = s.dev.get (fPathTxpwrNowLevel p.val)
          ∧ Device.OnlyRegs [hbusStat, pageStat (0x40 + p.val), secIdleLeft, pathTxpwr p.val, pathTxpwrNow p.val, calStat] s.dev e))
    ∧ (∀ (w : RegWrite), s.dev.applies (pathTxpwr p.val) w.value w.be = true → w.be = 0xF#4 → (s.dev.path p.val).joined = false → Completes (.txpwrWrite p w) s (fun e => e.get (fPathTxpwrLevel p.val) = bitsOf w.value 7 0
          ∧ (e.path p.val) = (s.dev.path p.val)
          ∧ e.cal = s.dev.cal
          ∧ Device.OnlyRegs [hbusStat, pageStat (0x40 + p.val), secIdleLeft, pathTxpwr p.val] s.dev e))
    ∧ (∀ (peak : BitVec 8), s.dev.on (fPathCfgAgc p.val) = true → (s.dev.path p.val).joined = true → peak.toNat < s.dev.get (fPathAgcHiThr p.val) → s.dev.get (fPathCfgGainMin p.val) < s.dev.get (fPathGainStep p.val) → Completes (.agcDownStep p peak) s (fun e => e.get (fPathGainStep p.val) = s.dev.get (fPathGainStep p.val) - 1
          ∧ e.get (fPathGainPeak p.val) = peak.toNat
          ∧ e.on (fPathGainUpPending p.val) = false
          ∧ e.get (fPathCountsFast p.val) = min (s.dev.get (fPathCountsFast p.val) + 1) 0xFFFF
          ∧ Device.OnlyRegs [pathGain p.val, pathCounts p.val, calStat] s.dev e))
    ∧ (∀ (peak : BitVec 8), s.dev.on (fPathCfgAgc p.val) = true → (s.dev.path p.val).joined = true → s.dev.get (fPathAgcHiThr p.val) + 16 ≤ peak.toNat → s.dev.get (fPathGainStep p.val) < s.dev.get (fPathCfgGainMax p.val) → Completes (.agcDownStep p peak) s (fun e => e.get (fPathGainStep p.val) = s.dev.get (fPathGainStep p.val)
          ∧ e.on (fPathGainUpPending p.val) = true
          ∧ (e.path p.val).gainPend = some (s.dev.get (fPathGainStep p.val) + 1)
          ∧ e.cal.waits.any (fun x => x.change = .gain p.val) = true
          ∧ Device.OnlyRegs [pathGain p.val, calStat] s.dev e))
    ∧ (∀ (c : Fin 4) (null : Word) (resid depth : BitVec 16), (s.dev.carState c.val = 5 ∨ s.dev.carState c.val = 6) → (s.dev.path p.val).joined = true → (s.dev.path p.val).cancEn = true → Completes (.cancTrack p c null resid depth) s (fun e => e.get (fPathCancResid p.val c.val) = resid.toNat
          ∧ e.get (fPathCancDepth p.val c.val) = depth.toNat
          ∧ (s.dev.carState c.val = 5 → (e.path p.val).canc.getD c.val 0 = (e.path p.val).cand.getD c.val 0)
          ∧ (s.dev.carState c.val = 6 → (e.path p.val).canc = (s.dev.path p.val).canc ∧ e.cal.waits.any (fun x => match x.change with | .canc q k v _ => q = p.val && k = c.val && v = (e.path p.val).cand.getD c.val 0 | _ => false) = true)
          ∧ Device.OnlyRegs [pathCanc p.val c.val, calStat] s.dev e))
    ∧ (∀ (w : RegWrite), s.dev.applies (pathCntClr p.val) ((fPathCntClrCounts p.val).set w.value 1) w.be = true → w.be = 0xF#4 → w.value.getLsbD 1 = false → Completes (.pathClearCounts p w) s (fun e => e.rd (pathCounts p.val) = 0
          ∧ Device.OnlyRegs [hbusStat, pageStat (0x40 + p.val), secIdleLeft, pathCounts p.val] s.dev e))
    ∧ (∀ (w : RegWrite), s.dev.applies (pathCntClr p.val) ((fPathCntClrFaults p.val).set w.value 1) w.be = true → w.be = 0xF#4 → w.value.getLsbD 0 = false → Completes (.pathClearFaults p w) s (fun e => e.get (fPathFaultCount p.val) = 0
          ∧ e.get (fPathFaultCause p.val) = s.dev.get (fPathFaultCause p.val)
          ∧ Device.OnlyRegs [hbusStat, pageStat (0x40 + p.val), secIdleLeft, pathFault p.val] s.dev e))

/-! ### Calibration -/

/-- CMD starts a calibration procedure whose preconditions hold (R266, R267, R276): PROC and BUSY show it. One whose preconditions do not hold is rejected with its reason and path, counted in REJECTS, and ABORT rejects the one that runs. What waits takes effect at a boundary (R213, R271 … R274): a released back-off, a gain step and a level of a path in service do so when every carrier has one, a cancellation coefficient when its own carrier has; none does during slack water. Slack water is called when a change has waited for MAX_WAIT, and asks every enabled session to hold. -/
def Obligations.CalibrationStartsAndWaits : Prop :=
  ∀ (s : State), s.dev.NoRemote →
    (∀ (i : Instr) (k : Nat), ((i = .calFreq ∧ k = 1) ∨ (i = .calPower ∧ k = 2) ∨ (i = .calArrayRx ∧ k = 3) ∨ (i = .calArrayTx ∧ k = 4) ∨ (i = .calConv ∧ k = 5) ∨ (i = .calCanc ∧ k = 6)) → s.dev.applies calCmd (fCalCmdProc.set 0 k) 0xF#4 = true → s.dev.calForbid k (if k = 1 then [] else s.dev.onPaths) = none → Completes (i) s (fun e => e.get fCalStatProc = k
          ∧ e.on fCalStatBusy = true
          ∧ e.get (fPsState 0x10) = 1
          ∧ e.cal.paths = (if k = 1 then [] else s.dev.onPaths)
          ∧ e.cal.startTemp = s.dev.dieTemp
          ∧ Device.OnlyRegs [hbusStat, pageStat 0x10, secIdleLeft, calStat] s.dev e))
    ∧ (∀ (i : Instr) (k r q : Nat), ((i = .calFreq ∧ k = 1) ∨ (i = .calPower ∧ k = 2) ∨ (i = .calArrayRx ∧ k = 3) ∨ (i = .calArrayTx ∧ k = 4) ∨ (i = .calConv ∧ k = 5) ∨ (i = .calCanc ∧ k = 6)) → s.dev.applies calCmd (fCalCmdProc.set 0 k) 0xF#4 = true → s.dev.calForbid k (if k = 1 then [] else s.dev.onPaths) = some (r, q) → Completes (i) s (fun e => e.rd calResult = BitVec.ofNat 32 (k + (r) * 256 + (q) * 65536 + 255 * 16777216)
          ∧ e.get (fHalf calRejects) = min (s.dev.get (fHalf calRejects) + 1) 0xFFFF
          ∧ e.on fCalStatBusy = false
          ∧ Device.OnlyRegs [hbusStat, pageStat 0x10, secIdleLeft, calStat, calResult, calRejects, irqStat 0x10] s.dev e))
    ∧ (∀ (path : Byte), s.dev.applies calCmd (fCalCmdProc.set (fCalCmdPath.set 0 path.toNat) 7) 0xF#4 = true → s.dev.calForbid 7 (if path = 0xFF#8 then s.dev.onPaths.filter s.dev.driven else if s.dev.onPaths.isEmpty then [] else [path.toNat]) = none → Completes (.calDpd path) s (fun e => e.get fCalStatProc = 7
          ∧ e.on fCalStatBusy = true
          ∧ e.cal.paths = (if path = 0xFF#8 then s.dev.onPaths.filter s.dev.driven else if s.dev.onPaths.isEmpty then [] else [path.toNat])
          ∧ Device.OnlyRegs [hbusStat, pageStat 0x10, secIdleLeft, calStat] s.dev e))
    ∧ (∀ (path : Byte) (r q : Nat), s.dev.applies calCmd (fCalCmdProc.set (fCalCmdPath.set 0 path.toNat) 7) 0xF#4 = true → s.dev.calForbid 7 (if path = 0xFF#8 then s.dev.onPaths.filter s.dev.driven else if s.dev.onPaths.isEmpty then [] else [path.toNat]) = some (r, q) → Completes (.calDpd path) s (fun e => e.rd calResult = BitVec.ofNat 32 (7 + (r) * 256 + (q) * 65536 + 255 * 16777216)
          ∧ e.get (fHalf calRejects) = min (s.dev.get (fHalf calRejects) + 1) 0xFFFF
          ∧ e.on fCalStatBusy = false
          ∧ Device.OnlyRegs [hbusStat, pageStat 0x10, secIdleLeft, calStat, calResult, calRejects, irqStat 0x10] s.dev e))
    ∧ (s.dev.applies calCmd (fCalCmdAbort.set 0 1) 0xF#4 = true → s.dev.on fCalStatBusy = true → Completes (.calAbort) s (fun e => e.rd calResult = BitVec.ofNat 32 (s.dev.get fCalStatProc + (11) * 256 + (255) * 65536 + 255 * 16777216)
          ∧ e.get (fHalf calRejects) = min (s.dev.get (fHalf calRejects) + 1) 0xFFFF
          ∧ e.on fCalStatBusy = false
          ∧ e.get (fPsState 0x10) = 0
          ∧ Device.OnlyRegs [hbusStat, pageStat 0x10, secIdleLeft, calStat, calResult, calRejects, irqStat 0x10] s.dev e))
    ∧ (∀ (gaps : BitVec 4),
      (∀ (t : Nat), s.dev.cal.slack ≠ .running → ((List.range 4).all (fun c => s.dev.boundaryOn c (gaps.getLsbD c))) = true → s.dev.cal.waits = [⟨.backoff none, t⟩] → Completes (.boundaryApply gaps) s (fun e => (∀ p : Fin 64, e.get (fBackoff p.val) = 0)
          ∧ e.cal.waits = []
          ∧ e.on fCalStatPending = false
          ∧ Device.OnlyRegs ([calStat] ++ (List.range 16).map txsBwBackoff) s.dev e))
      ∧ (∀ (t g : Nat) (p : Fin 64), s.dev.cal.slack ≠ .running → ((List.range 4).all (fun c => s.dev.boundaryOn c (gaps.getLsbD c))) = true → s.dev.cal.waits = [⟨.gain p.val, t⟩] → (s.dev.path p.val).gainPend = some g → g < 16 → Completes (.boundaryApply gaps) s (fun e => e.get (fPathGainStep p.val) = g
          ∧ e.on (fPathGainUpPending p.val) = false
          ∧ (e.path p.val).gainPend = none
          ∧ e.cal.waits = []
          ∧ Device.OnlyRegs [calStat, pathGain p.val, pathCounts p.val] s.dev e))
      ∧ (∀ (t : Nat) (p : Fin 64) (c : Fin 4) (v : Word) (b : Bool), s.dev.cal.slack ≠ .running → s.dev.boundaryOn c.val (gaps.getLsbD c.val) = true → s.dev.cal.waits = [⟨.canc p.val c.val v b, t⟩] → Completes (.boundaryApply gaps) s (fun e => (e.path p.val).canc.getD c.val 0 = v
          ∧ e.cal.waits = []
          ∧ Device.OnlyRegs [calStat] s.dev e))
      ∧ (s.dev.cal.slack = .running → exec (.boundaryApply gaps) s = .next { s with dev := s.dev.settle })
      ∧ (∀ (x : Waiting), x ∈ s.dev.cal.waits → x.change.pending = true → s.dev.get fCalCtrlMaxWait * tideMs ≤ s.dev.stamp - x.since → s.dev.cal.slack = .none → (∀ c : Fin 4, s.dev.carState c.val ≠ 7) → s.dev.enabledSes ≠ [] → Completes (.slackWaterCall) s (fun e => e.cal.slack = .called
          ∧ e.get fCalWaitedSlacks = min (s.dev.get fCalWaitedSlacks + 1) 0xFFFF
          ∧ (∀ n : Fin 16, s.dev.sesState n.val ≠ 0 → 2 ∈ (e.sess n.val).holds)
          ∧ Device.OnlyRegs [calWaited] s.dev e)))

/-- The end of a procedure (R268 … R273, R284): an accepted one sets VALID, clears DUE, keeps the temperature, shows its result, and its corrections wait for a boundary (FREQ takes effect at once); a failing one is rejected with its reason, path and point. CAL_DUE sets DUE of each procedure that has fallen due. The calibration image (R287, R288, R290): a word written to TBL_DATA is staged at TBL_ADDR, which moves on; a commit of an image whose format, identity or check does not hold is rejected and changes nothing; an invalidation waits for a boundary; the counts clear. A read of TBL_DATA (R288) returns the calibration-image word that TBL_ADDR names and moves TBL_ADDR on by one, around at its end. -/
def Obligations.CalibrationEndsAndImage : Prop :=
  ∀ (s : State), s.dev.NoRemote →
    (∀ (m : CalMeas) (k : Nat), s.dev.on fCalStatBusy = true → k = s.dev.get fCalStatProc → 1 ≤ k → k ≤ 6 → s.dev.calFails k m = none → Completes (.calProcComplete m) s (fun e => e.on (fCalValid k) = true
          ∧ e.on (fCalDue k) = false
          ∧ e.get (calTempField k) = twosOf 8 (clampInt (-127) 127 s.dev.dieDegrees)
          ∧ e.rd calResult = BitVec.ofNat 32 (k + 16 + 0xFFFF0000)
          ∧ e.on fCalStatBusy = false
          ∧ e.get (fPsState 0x10) = 0
          ∧ e.cal.accepted = calPut s.dev.cal.accepted m.words
          ∧ (k = 1 → e.rd calAclkRate = m.aclk ∧ e.cal.validEff.getLsbD 0 = true)
          ∧ (k = 4 → e.cal.waits.any (fun x => x.change = .txCal 4 m.words) = true ∧ e.on fCalStatPending = true)
          ∧ (k ≠ 1 → k ≠ 4 → e.cal.waits.any (fun x => x.change = .rxCal k m.words) = true)
          ∧ Device.OnlyRegs [calStat, calResult, irqStat 0x10, calTemp, calTempB, calAclkRate, calRefFreq] s.dev e))
    ∧ (∀ (m : CalMeas), s.dev.on fCalStatBusy = true → s.dev.get fCalStatProc = 7 → s.dev.calFails 7 m = none → Completes (.calProcComplete m) s (fun e => e.rd calResult = BitVec.ofNat 32 (7 + 16 + 0xFFFF0000)
          ∧ e.on fCalStatBusy = false
          ∧ (∀ p : Fin 64, p.val ∈ s.dev.cal.paths → e.on (fPathDpdStatPending p.val) = true ∧ e.get (fPathDpdStatTemp p.val) = twosOf 8 (clampInt (-127) 127 s.dev.dieDegrees) ∧ e.cal.waits.any (fun x => match x.change with | .dpdSet q _ _ => q = p.val | _ => false) = true)))
    ∧ (∀ (m : CalMeas) (r q pt : Nat), s.dev.on fCalStatBusy = true → s.dev.calFails (s.dev.get fCalStatProc) m = some (r, q, pt) → Completes (.calProcComplete m) s (fun e => e.rd calResult = BitVec.ofNat 32 (s.dev.get fCalStatProc + (r) * 256 + (q) * 65536 + pt * 16777216)
          ∧ e.get (fHalf calRejects) = min (s.dev.get (fHalf calRejects) + 1) 0xFFFF
          ∧ e.on fCalStatBusy = false
          ∧ e.cal.accepted = s.dev.cal.accepted
          ∧ Device.OnlyRegs [calStat, calResult, calRejects, irqStat 0x10] s.dev e))
    ∧ (Completes (.calDue) s (fun e => (∀ k : Fin 8, 1 ≤ k.val → e.on (fCalDue k.val) = (s.dev.on (fCalDue k.val) || s.dev.calIsDue k.val))
          ∧ Device.OnlyRegs [calStat, irqStat 0x10] s.dev e))
    ∧ (∀ (w : RegWrite), s.dev.applies calTblData w.value w.be = true → w.be = 0xF#4 → Completes (.tblDataWrite w) s (fun e => e.cal.stage = storePut (fun _ => 0) s.dev.cal.stage (s.dev.get ⟨calTblAddr, 13, 0⟩) w.value
          ∧ e.get ⟨calTblAddr, 13, 0⟩ = (s.dev.get ⟨calTblAddr, 13, 0⟩ + 1) % 16384
          ∧ Device.OnlyRegs [hbusStat, pageStat 0x10, secIdleLeft, calTblAddr, calTblData] s.dev e))
    ∧ (s.dev.applies calTblCmd (fCalTblCmdCommit.set 0 1) 0xF#4 = true → (s.dev.stageWord 0 ≠ 1 ∨ s.dev.stageWord 1 ≠ s.dev.rd sysIdentLo ∨ s.dev.stageWord 2 ≠ s.dev.rd sysIdentHi) → Completes (.tblCommit) s (fun e => e.rd calResult = BitVec.ofNat 32 (8 + (13) * 256 + (255) * 65536 + 255 * 16777216)
          ∧ e.get (fHalf calRejects) = min (s.dev.get (fHalf calRejects) + 1) 0xFFFF
          ∧ e.cal.accepted = s.dev.cal.accepted
          ∧ e.cal.waits = s.dev.cal.waits
          ∧ Device.OnlyRegs [hbusStat, pageStat 0x10, secIdleLeft, calResult, calRejects, irqStat 0x10] s.dev e))
    ∧ (s.dev.applies calTblCmd (fCalTblCmdInvalidate.set 0 1) 0xF#4 = true → Completes (.tblInvalidate) s (fun e => e.cal.waits.any (fun x => x.change = .invalidate) = true
          ∧ e.on fCalStatPending = true
          ∧ e.cal.accepted = s.dev.cal.accepted
          ∧ Device.OnlyRegs [hbusStat, pageStat 0x10, secIdleLeft, calStat] s.dev e))
    ∧ (s.dev.applies calCntClr (fCalCntClrRejects.set 0 1) 0xF#4 = true → Completes (.calClearRejects) s (fun e => e.rd calRejects = 0
          ∧ Device.OnlyRegs [hbusStat, pageStat 0x10, secIdleLeft, calRejects] s.dev e))
    ∧ (s.dev.applies calCntClr (fCalCntClrSlacks.set 0 1) 0xF#4 = true → Completes (.calClearSlacks) s (fun e => e.get fCalWaitedSlacks = 0
          ∧ Device.OnlyRegs [hbusStat, pageStat 0x10, secIdleLeft, calWaited] s.dev e))
    ∧ (s.dev.hostReady = true → s.dev.pwr.phase = .awake → s.dev.pageOff 0x10 = false → s.dev.pageInReset 0x10 = false → Completes (.tblDataRead) s (fun e => e.get ⟨calTblAddr, 13, 0⟩ = (s.dev.get ⟨calTblAddr, 13, 0⟩ + 1) % 16384
          ∧ e.hd = (s.dev.windowRead (4 * calTblData)).1))

/-! ### Pilots, spares and repair -/

/-- A serving pilot that faults hands its session on (R87, R297, R298, R299): the fault is counted with its cause, the lowest spare with the same checkpoint format takes the session over, which waits in FAILOVER, and the pilot tests itself; the spare then resumes the session. With no spare the session is shut down. A planned move (R300, R318): MOVE_TO takes the serving pilot to MOVING; at the session's quiet point a checkpoint is written for the target, which takes over; at the end the target serves the session and the old pilot is a spare again, or OFF where EN = 0 asked for the move. -/
def Obligations.PilotsMove : Prop :=
  ∀ (s : State), s.dev.NoRemote →
    (∀ (p q : Fin 20) (n : Fin 16),
      (∀ (cause : PilotCause), s.dev.pilState p.val = 5 → s.dev.pilSes p.val = n.val → (s.dev.pil p.val).moveTo = none → s.dev.spareFor (s.dev.pilFmt p.val) = some q.val → 1 ≤ s.dev.sesState n.val → s.dev.sesState n.val ≤ 8 → Completes (.pilotFault p cause) s (fun e => e.pilState p.val = 3
          ∧ e.pilState q.val = 6
          ∧ (e.pil q.val).takes = some n.val
          ∧ (e.sess n.val).spare = some q.val
          ∧ e.sesState n.val = 9
          ∧ (e.sess n.val).cut = s.dev.exchangeOpen n.val
          ∧ e.get (fPilCountsFaults p.val) = min (s.dev.get (fPilCountsFaults p.val) + 1) 0xFF
          ∧ e.get (fPilStatCause p.val) = pilotCauseCode cause
          ∧ e.pilSes p.val = 31
          ∧ Device.raised (0x20 + p.val) 0 s.dev e))
      ∧ (∀ (cause : PilotCause), s.dev.pilState p.val = 5 → s.dev.pilSes p.val = n.val → (s.dev.pil p.val).moveTo = none → s.dev.spareFor (s.dev.pilFmt p.val) = none → 1 ≤ s.dev.sesState n.val → s.dev.sesState n.val ≤ 9 → Completes (.pilotFault p cause) s (fun e => e.sesState n.val = 10
          ∧ e.on (fPcEn (0x80 + n.val)) = false
          ∧ e.on (fPsShuttingDown (0x80 + n.val)) = true
          ∧ e.rep.ranOut = true
          ∧ e.get (fPilCountsFaults p.val) = min (s.dev.get (fPilCountsFaults p.val) + 1) 0xFF))
      ∧ (∀ (cause : PilotCause), (s.dev.pilState p.val = 3 ∨ s.dev.pilState p.val = 4) → Completes (.pilotFault p cause) s (fun e => e.pilState p.val = s.dev.pilState p.val
          ∧ e.get (fPilCountsFaults p.val) = min (s.dev.get (fPilCountsFaults p.val) + 1) 0xFF
          ∧ e.get (fPilStatCause p.val) = pilotCauseCode cause
          ∧ Device.OnlyRegs [pilCounts p.val, pilStat p.val] s.dev e))
      ∧ (∀ (k : Ckpt), (s.dev.sess n.val).spare = some q.val → s.dev.pilState q.val = 6 → (s.dev.pil q.val).planned = false → (s.dev.pil q.val).refault = none → (s.dev.sess n.val).checkpoint = some k → (s.dev.sess n.val).acc.running = false → (s.dev.sess n.val).prev = 2 → s.dev.sesState n.val = 9 → Completes (.failoverResume n) s (fun e => e.pilState q.val = 5
          ∧ e.pilSes q.val = n.val
          ∧ e.get (fSesStatPilot n.val) = q.val
          ∧ e.get (fPilCountsTakeovers q.val) = min (s.dev.get (fPilCountsTakeovers q.val) + 1) 0xFF
          ∧ (e.sess n.val).spare = none
          ∧ e.sesState n.val = 2
          ∧ (e.sess n.val).plan = (if (s.dev.sess n.val).cut || (s.dev.sess n.val).round.active then [.nak] else (e.sess n.val).plan)
          ∧ e.get (fHalf (sesLostSlots n.val)) = (if (s.dev.sess n.val).cut then min (s.dev.get (fHalf (sesLostSlots n.val)) + 1) 0xFFFF else s.dev.get (fHalf (sesLostSlots n.val)))))
      ∧ (∀ (pass : Bool), s.dev.pilState p.val = 3 → (s.dev.pil p.val).faulted = none → Completes (.pilotTestEnd p pass) s (fun e => e.pilState p.val = (if !pass then 8 else if s.dev.on (fPcEn (0x20 + p.val)) then 4 else if s.dev.on (fPsEnq (0x20 + p.val)) then 3 else 0)
          ∧ (pass = false → e.get (fPilStatCause p.val) = 4)
          ∧ (pass = false → s.dev.rep.queue.length < 32 → e.rep.queue = s.dev.rep.queue ++ [mapRecord 5 p.val 0 0xFF s.dev.origin])
          ∧ Device.OnlyRegs [pageStat (0x20 + p.val), repPools, pilStat p.val, repMap] s.dev e)))
    ∧ (∀ (p q : Fin 20) (n : Fin 16),
      (∀ (w : RegWrite), s.dev.applies (pilCmd p.val) ((fPilCmdAction p.val).set w.value 1) w.be = true → w.be = 0xF#4 → bitsOf w.value 12 8 = q.val → Completes (.pilotMoveTo p w) s (fun e => e.pilState p.val = 7
          ∧ (e.pil p.val).moveTo = some q.val
          ∧ (e.pil p.val).moveOff = false))
      ∧ (s.dev.servingPilot n.val = p.val → (s.dev.pil p.val).moveTo = some q.val → s.dev.pilState p.val = 7 → (s.dev.sess n.val).acc.running = false → s.dev.sesQuiet n.val = true → s.dev.pilState q.val = 4 → Completes (.moveAtQuietPoint n) s (fun e => e.pilState q.val = 6
          ∧ (e.pil q.val).takes = some n.val
          ∧ (e.pil q.val).planned = true
          ∧ (e.sess n.val).spare = some q.val
          ∧ (e.sess n.val).checkpoint.map (·.plan) = some (s.dev.sess n.val).plan
          ∧ e.get (fWord (pilCkpts (s.dev.get (fSesStatPilot n.val)))) = (s.dev.get (fWord (pilCkpts (s.dev.get (fSesStatPilot n.val)))) + 1) % 2 ^ 32
          ∧ Device.OnlyRegs [pilCkpts (s.dev.get (fSesStatPilot n.val)), pageStat (0x20 + q.val), repPools] s.dev e))
      ∧ (∀ (i : Instr), (i = .moveComplete n ∨ (i = .shutdownComplete (.pilot p) ∧ (s.dev.pil p.val).moveOff = true ∧ s.dev.pilSes p.val = n.val)) → (s.dev.sess n.val).spare = some q.val → s.dev.pilState q.val = 6 → (s.dev.pil q.val).planned = true → (s.dev.pil q.val).refault = none → s.dev.servingPilot n.val = p.val → p ≠ q → Completes (i) s (fun e => e.pilState q.val = 5
          ∧ e.pilSes q.val = n.val
          ∧ e.get (fSesStatPilot n.val) = q.val
          ∧ (e.sess n.val).spare = none
          ∧ e.pilSes p.val = 31
          ∧ e.pilState p.val = (if (s.dev.pil p.val).moveOff then (if s.dev.on (fPsEnq (0x20 + p.val)) then 3 else 0) else 4)
          ∧ e.get (fPilCountsTakeovers q.val) = min (s.dev.get (fPilCountsTakeovers q.val) + 1) 0xFF)))

/-- Pilot images and enables (R313 … R318): IMG_DATA stores its word at IMG_ADDR, which moves on, and the image is no longer checked; COPY_FROM, VERIFY and SELFTEST take the pilot to LOADING, VERIFYING and TESTING, and their ends lead back to OFF; EN = 1 tests an OFF pilot and EN = 0 takes a spare to OFF; the counts clear. A read of IMG_DATA of a pilot (R316) returns the word that its IMG_ADDR names and moves IMG_ADDR on by one, around at its end. -/
def Obligations.PilotImagesAndTheirPort : Prop :=
  ∀ (s : State), s.dev.NoRemote →
    (∀ (p q : Fin 20) (w : RegWrite),
      (s.dev.applies (pilImgData p.val) w.value w.be = true → w.be = 0xF#4 → Completes (.pilotImgDataWrite p w) s (fun e => (∀ k : Fin 4, storeGet zeroByte e.sram ((pilArea p.val + 4 * s.dev.get ⟨pilImgAddr p.val, 13, 0⟩) + k.val) = w.value.extractLsb' (8 * k.val) 8)
          ∧ e.get ⟨pilImgAddr p.val, 13, 0⟩ = (s.dev.get ⟨pilImgAddr p.val, 13, 0⟩ + 1) % 16384
          ∧ e.get (fPilStatResult p.val) = 0
          ∧ e.pilState p.val = 1
          ∧ Device.OnlyFields [hbusStat, pageStat (0x20 + p.val), secIdleLeft, repPools, pilImgAddr p.val, pilStat p.val, pilImgData p.val] s.dev e
          ∧ Device.SramOutside (fun b => decide ((pilArea p.val + 4 * s.dev.get ⟨pilImgAddr p.val, 13, 0⟩) ≤ b) && decide (b < (pilArea p.val + 4 * s.dev.get ⟨pilImgAddr p.val, 13, 0⟩) + 4)) s.dev e))
      ∧ (s.dev.applies (pilCmd p.val) ((fPilCmdAction p.val).set w.value 2) w.be = true → w.be = 0xF#4 → bitsOf w.value 12 8 = q.val → Completes (.pilotCopyFrom p w) s (fun e => e.pilState p.val = 1
          ∧ (e.pil p.val).copyFrom = some q.val
          ∧ e.get (fPilStatResult p.val) = 0
          ∧ Device.OnlyRegs [hbusStat, pageStat (0x20 + p.val), secIdleLeft, repPools, pilStat p.val] s.dev e))
      ∧ (s.dev.applies (pilCmd p.val) ((fPilCmdAction p.val).set w.value 3) w.be = true → w.be = 0xF#4 → Completes (.pilotVerify p w) s (fun e => e.pilState p.val = 2
          ∧ e.get (fPilStatResult p.val) = 0
          ∧ Device.OnlyRegs [hbusStat, pageStat (0x20 + p.val), secIdleLeft, repPools, pilStat p.val] s.dev e))
      ∧ (s.dev.applies (pilCmd p.val) ((fPilCmdAction p.val).set w.value 4) w.be = true → w.be = 0xF#4 → Completes (.pilotSelftest p w) s (fun e => e.pilState p.val = 3
          ∧ Device.OnlyRegs [hbusStat, pageStat (0x20 + p.val), secIdleLeft, repPools] s.dev e))
      ∧ (s.dev.pilState p.val = 1 → (s.dev.pil p.val).copyFrom = none → Completes (.imageLoadIdle p) s (fun e => e.pilState p.val = 0
          ∧ e.on (fPsBusy (0x20 + p.val)) = false
          ∧ Device.OnlyRegs [pageStat (0x20 + p.val), repPools] s.dev e))
      ∧ (s.dev.pilState p.val = 1 → (s.dev.pil p.val).copyFrom = some q.val → Completes (.imageCopyDone p) s (fun e => e.pilState p.val = 0
          ∧ (e.pil p.val).copyFrom = none
          ∧ (∀ k : Fin 65536, storeGet zeroByte e.sram (pilArea p.val + k.val) = storeGet zeroByte s.dev.sram (pilArea q.val + k.val))
          ∧ e.rd (pilImgVer p.val) = s.dev.rd (pilImgVer q.val)
          ∧ e.rd (pilImgFmt p.val) = s.dev.rd (pilImgFmt q.val)
          ∧ Device.OnlyFields [pageStat (0x20 + p.val), repPools, pilImgVer p.val, pilImgFmt p.val] s.dev e
          ∧ Device.SramOutside (fun b => decide (pilArea p.val ≤ b) && decide (b < pilArea p.val + 65536)) s.dev e))
      ∧ (s.dev.pilState p.val = 2 → Completes (.imageCheckEnd p) s (fun e => e.pilState p.val = 0
          ∧ e.get (fPilStatResult p.val) = s.dev.wornCheck (s.dev.pilImage p.val) 1 65536 % 256
          ∧ Device.raised (0x20 + p.val) 1 s.dev e
          ∧ Device.OnlyRegs [pageStat (0x20 + p.val), repPools, pilImgVer p.val, pilImgFmt p.val, pilStat p.val, irqStat (0x20 + p.val)] s.dev e))
      ∧ (s.dev.applies (pageCtrl (0x20 + p.val)) ((fPcEn (0x20 + p.val)).set w.value 1) w.be = true → s.dev.pageInReset (0x20 + p.val) = false → w.value.getLsbD 1 = false → s.dev.pilState p.val = 0 → Completes (.pilotEnable p w) s (fun e => e.pilState p.val = 3
          ∧ e.on (fPcEn (0x20 + p.val)) = true))
      ∧ (s.dev.applies (pageCtrl (0x20 + p.val)) ((fPcEn (0x20 + p.val)).set w.value 0) w.be = true → s.dev.pageInReset (0x20 + p.val) = false → w.value.getLsbD 1 = false → s.dev.pilState p.val = 4 → s.dev.on (fPcEn (0x20 + p.val)) = true → Completes (.pilotDisable p w) s (fun e => e.pilState p.val = 0
          ∧ e.on (fPcEn (0x20 + p.val)) = false))
      ∧ (s.dev.applies (pilCntClr p.val) ((fPilCntClrCounts p.val).set w.value 1) w.be = true → w.be = 0xF#4 → w.value.getLsbD 1 = false → Completes (.pilotClearCounts p w) s (fun e => e.rd (pilCounts p.val) = 0
          ∧ Device.OnlyRegs [hbusStat, pageStat (0x20 + p.val), secIdleLeft, repPools, pilCounts p.val] s.dev e))
      ∧ (s.dev.applies (pilCntClr p.val) ((fPilCntClrCkpts p.val).set w.value 1) w.be = true → w.be = 0xF#4 → w.value.getLsbD 0 = false → Completes (.pilotClearCkpts p w) s (fun e => e.rd (pilCkpts p.val) = 0
          ∧ Device.OnlyRegs [hbusStat, pageStat (0x20 + p.val), secIdleLeft, repPools, pilCkpts p.val] s.dev e)))
    ∧ (∀ (p : Fin 20), s.dev.hostReady = true → s.dev.pwr.phase = .awake → s.dev.pageOff (0x20 + p.val) = false → s.dev.pageInReset (0x20 + p.val) = false → Completes (.pilotImgDataRead p) s (fun e => e.get ⟨pilImgAddr p.val, 13, 0⟩ = (s.dev.get ⟨pilImgAddr p.val, 13, 0⟩ + 1) % 16384
          ∧ e.hd = BitVec.ofNat 32 (readLe zeroByte s.dev.sram (pilArea p.val + 4 * s.dev.get ⟨pilImgAddr p.val, 13, 0⟩) 4)))

/-- The repair actions (R305 … R312, R319): SELFTEST starts at step 1 and goes on through four, or ends at once where it is aborted or a carrier comes on; MARK_DEAD takes a path's weights to 0 with a record and REVIVE cancels it; queued records are appended to the active half of the map; a compaction makes the other half active. -/
def Obligations.RepairActions : Prop :=
  ∀ (s : State), s.dev.NoRemote →
    (s.dev.applies repCmd (fRepCmdAction.set 0 1) 0xF#4 = true → Completes (.repairSelftest) s (fun e => e.repState = 1
          ∧ e.get fRepTestStep = 1
          ∧ e.get fRepTestResult = 0
          ∧ e.rep.abort = false
          ∧ Device.OnlyRegs [hbusStat, pageStat 0x11, secIdleLeft, repTest] s.dev e))
    ∧ (∀ (x : SelfTestFinds), s.dev.repState = 1 → 1 ≤ s.dev.get fRepTestStep → s.dev.get fRepTestStep ≤ 3 → x.pilots = 0 → x.rows = [] → s.dev.rep.abort = false → s.dev.carriersOff = true → (s.dev.get fRepTestStep = 2 → ∀ p : Fin 20, s.dev.pilState p.val ≠ 5) → Completes (.selftestStepEnd x) s (fun e => e.get fRepTestStep = s.dev.get fRepTestStep + 1
          ∧ e.repState = 1
          ∧ e.rep.repaired = s.dev.rep.repaired
          ∧ Device.OnlyRegs [repTest] s.dev e))
    ∧ (∀ (x : SelfTestFinds), s.dev.repState = 1 → s.dev.get fRepTestStep = 4 → x.elems = [] → Completes (.selftestStepEnd x) s (fun e => e.repState = 0
          ∧ e.get fRepTestStep = 0
          ∧ e.get fRepTestResult = (if s.dev.rep.abort || !s.dev.carriersOff then 4 else if s.dev.rep.ranOut then 3 else if s.dev.rep.repaired then 2 else 1)
          ∧ Device.raised 0x11 0 s.dev e
          ∧ Device.OnlyRegs [repTest, pageStat 0x11, irqStat 0x11] s.dev e))
    ∧ (s.dev.applies repCmd (fRepCmdAction.set 0 2) 0xF#4 = true → s.dev.repState = 1 → Completes (.repairAbort) s (fun e => e.rep.abort = true
          ∧ e.repState = 1
          ∧ Device.OnlyRegs [hbusStat, pageStat 0x11, secIdleLeft] s.dev e))
    ∧ (∀ (w : RegWrite) (p : Fin 64), s.dev.applies repCmd (fRepCmdAction.set w.value 3) w.be = true → w.be = 0xF#4 → bitsOf w.value 13 8 = p.val → s.dev.rep.queue.length < 32 → Completes (.markDead w) s (fun e => e.pathDead p.val = true
          ∧ e.mutedPath p.val = true
          ∧ (∀ k : Fin 48, e.weight k.val p.val = 0)
          ∧ e.rep.queue = s.dev.rep.queue ++ [mapRecord 4 p.val 0 0xFF 3]))
    ∧ (∀ (w : RegWrite) (p : Fin 64), s.dev.applies repCmd (fRepCmdAction.set w.value 4) w.be = true → w.be = 0xF#4 → bitsOf w.value 13 8 = p.val → s.dev.rep.queue.length < 32 → Completes (.revive w) s (fun e => e.pathDead p.val = false
          ∧ e.rep.queue = s.dev.rep.queue ++ [mapRecord 9 p.val 0 0xFF 3]))
    ∧ (s.dev.applies repCmd (fRepCmdAction.set 0 5) 0xF#4 = true → s.dev.get fRepMapCompactions < 2500 → (liveRecs (validRecs (s.dev.mapRecs (s.dev.get fRepMapHalf)))).length ≤ 223 → Completes (.repairCompact) s (fun e => e.repState = 2
          ∧ Device.OnlyRegs [hbusStat, pageStat 0x11, secIdleLeft] s.dev e))
    ∧ (∀ (r : List Byte) (t : List (List Byte)), s.dev.rep.queue = r :: t → s.dev.repState ≠ 2 → s.dev.get fRepMapRecords < 223 → r.length = 8 → Completes (.repairRecordWrite) s (fun e => e.rep.queue = t
          ∧ e.get fRepMapRecords = s.dev.get fRepMapRecords + 1
          ∧ e.mapRec (s.dev.get fRepMapHalf) (s.dev.get fRepMapRecords + 1) = r
          ∧ (e.halfGen (s.dev.get fRepMapHalf)).isSome = true
          ∧ Device.OnlyFields [repMap, repLastLo, repLastHi] s.dev e
          ∧ Device.SramOutside (fun _ => false) s.dev e))
    ∧ (∀ (r : List Byte) (t : List (List Byte)), s.dev.rep.queue = r :: t → s.dev.repState ≠ 2 → 223 ≤ s.dev.get fRepMapRecords → s.dev.get fRepMapCompactions < 2500 → (liveRecs (validRecs (s.dev.mapRecs (s.dev.get fRepMapHalf)))).length ≤ 223 → Completes (.repairRecordWrite) s (fun e => e.repState = 2
          ∧ e.rep.queue = r :: t
          ∧ Device.OnlyRegs [pageStat 0x11] s.dev e))
    ∧ (s.dev.repState = 2 → (liveRecs (validRecs (s.dev.mapRecs (s.dev.get fRepMapHalf)))).length ≤ 223 → Completes (.compactionEnd) s (fun e => e.repState = 0
          ∧ e.get fRepMapHalf = 1 - s.dev.get fRepMapHalf
          ∧ e.get fRepMapRecords = (liveRecs (validRecs (s.dev.mapRecs (s.dev.get fRepMapHalf)))).length
          ∧ (e.halfGen (1 - s.dev.get fRepMapHalf)) = some (((s.dev.halfGen (s.dev.get fRepMapHalf)).getD 0 + 1) % 65536)
          ∧ Device.OnlyFields [repMap, pageStat 0x11] s.dev e
          ∧ Device.SramOutside (fun _ => false) s.dev e))
    ∧ (s.dev.applies repCntClr (fRepCntClrEcc.set 0 1) 0xF#4 = true → Completes (.repairClearEcc) s (fun e => e.rd repEccCount = 0
          ∧ (∀ b : Fin 14, e.get (fRepRowsCorrected b.val) = 0)
          ∧ (∀ b : Fin 14, e.get (fRepRowsFree b.val) = s.dev.get (fRepRowsFree b.val))
          ∧ Device.OnlyRegs ([hbusStat, pageStat 0x11, secIdleLeft, repEccCount] ++ (List.range 14).map repRows) s.dev e))

/-! ### The cascade -/

/-- A port's steps (R332, R333, R334, R66): signal, block lock with full credits, three valid TRAIN frames, measuring; a down-port is then UP, an up-port UP where none is and STANDBY otherwise; a bad pairing or a fault takes it to FAILED, from which it trains again while EN is 1; a drained port is OFF, or starts again where an enable was queued. -/
def Obligations.CascadePorts : Prop :=
  ∀ (s : State) (k : Fin 5), s.dev.NoRemote →
    (s.dev.portState k.val = 1 → Completes (.klSignalDetect k) s (fun e => e.portState k.val = 2
          ∧ e.on (fKlPstatBusy k.val) = true
          ∧ Device.OnlyRegs [klPstat k.val, clkGood] s.dev e))
    ∧ (s.dev.portState k.val = 2 → Completes (.klBlockLock k) s (fun e => e.portState k.val = 3
          ∧ e.on ⟨clkGood, 10 + k.val, 10 + k.val⟩ = true
          ∧ (e.port k.val).credits.toList = [64, 64, 512, 64]
          ∧ (e.port k.val).replay = []
          ∧ (e.port k.val).trains = 0
          ∧ e.get (fKlPcredC2 k.val) = 512
          ∧ Device.OnlyRegs [klPstat k.val, clkGood, klPcred k.val] s.dev e))
    ∧ (∀ (t : KlTrain), s.dev.portState k.val = 3 → s.dev.pairingOk k.val t = true → ¬(2 ≤ k.val ∧ t.port.val = 0 ∧ 8 ≤ s.dev.get fKlStatDepth) → (s.dev.port k.val).trains < 2 → Completes (.klTrainFrame k t) s (fun e => e.portState k.val = 3
          ∧ (e.port k.val).trains = (s.dev.port k.val).trains + 1
          ∧ e.get (fKlPstatPartner k.val) = t.number.toNat % 2048
          ∧ e.on (fKlPstatPartnerNumbered k.val) = decide (t.number.toNat < 2048)
          ∧ e.get (fKlPstatPartnerPort k.val) = t.port.val
          ∧ e.get (fKlPstatPartnerLink k.val) = t.link.toNat
          ∧ Device.OnlyRegs [klPstat k.val] s.dev e))
    ∧ (∀ (t : KlTrain), s.dev.portState k.val = 3 → s.dev.pairingOk k.val t = true → ¬(2 ≤ k.val ∧ t.port.val = 0 ∧ 8 ≤ s.dev.get fKlStatDepth) → 2 ≤ (s.dev.port k.val).trains → Completes (.klTrainFrame k t) s (fun e => e.portState k.val = 4
          ∧ e.get (fKlPstatPartner k.val) = t.number.toNat % 2048
          ∧ (k.val < 2 → s.dev.upPort = none → e.on fSynStatSRef = true)
          ∧ Device.OnlyRegs [klPstat k.val, clkGood, synStat, synRatio] s.dev e))
    ∧ (∀ (t : KlTrain), s.dev.portState k.val = 3 → s.dev.pairingOk k.val t = false → Completes (.klTrainFrame k t) s (fun e => e.portState k.val = 7
          ∧ (e.port k.val).trains = 0
          ∧ (s.dev.klRole = 1 → e.kl.accepted.length = s.dev.kl.accepted.length + 1)
          ∧ Device.raised 0x1C 0 s.dev e))
    ∧ (s.dev.portState k.val = 4 → 2 ≤ k.val → Completes (.klMeasureEnd k) s (fun e => e.portState k.val = 5
          ∧ e.on (fKlPstatBusy k.val) = false
          ∧ (e.port k.val).retry = false
          ∧ Device.raised 0x1C 0 s.dev e))
    ∧ (s.dev.portState k.val = 4 → k.val < 2 → 16 ≤ (s.dev.port k.val).measures → s.dev.upPort = none → s.dev.klMember = true → Completes (.klMeasureEnd k) s (fun e => e.portState k.val = 5
          ∧ e.upPort = some k.val
          ∧ e.get fKlStatSync = 2
          ∧ e.on fKlStatUpAlt = decide (k.val = 1)))
    ∧ (s.dev.portState k.val = 4 → k.val < 2 → 16 ≤ (s.dev.port k.val).measures → s.dev.upPort.isSome = true → Completes (.klMeasureEnd k) s (fun e => e.portState k.val = 6
          ∧ e.upPort = s.dev.upPort
          ∧ e.tide = s.dev.tide))
    ∧ (∀ (cause : KlCause), (s.dev.portState k.val = 5 ∨ s.dev.portState k.val = 6) → ¬(cause = .noTick ∧ 2 ≤ k.val) → Completes (.klPortFault k cause) s (fun e => (k.val ≠ 1 → e.portState k.val = 7)
          ∧ (e.port k.val).replay = []
          ∧ (e.portUp k.val = false ∨ k.val = 1)))
    ∧ (∀ (cause : KlCause), 2 ≤ s.dev.portState k.val → s.dev.portState k.val ≤ 4 → (s.dev.port k.val).retry = false → Completes (.klPortFault k cause) s (fun e => e.portState k.val = 7
          ∧ (e.port k.val).replay = []))
    ∧ (s.dev.portState k.val = 7 → s.dev.on (fKlPctrlEn k.val) = true → Completes (.klRetrainTimer k) s (fun e => e.portState k.val = 1
          ∧ (e.port k.val).retry = true
          ∧ Device.OnlyRegs [klPstat k.val, clkGood] s.dev e))
    ∧ (s.dev.portState k.val = 8 → Completes (.klDrainEnd k) s (fun e => e.portState k.val = (if s.dev.on (fKlPstatEnq k.val) then 1 else 0)
          ∧ e.on (fKlPstatEnq k.val) = false
          ∧ e.on (fKlPstatShuttingDown k.val) = false
          ∧ (e.port k.val).replay = []
          ∧ Device.OnlyRegs [klPstat k.val, clkGood, klPcred k.val] s.dev e))

/-- What a port does with blocks and frames (R325 … R329): a TICK is dated; a NAK and 2 µs without progress resend what is not acknowledged, a fifth time in vain failing the port; a bad frame is counted and answered with a NAK; a trailer acknowledges up to its ACK and returns credits; a frame in sequence moves the sequence on, one out of sequence does not act. -/
def Obligations.FramesOnAPort : Prop :=
  ∀ (s : State), s.dev.NoRemote →
    (∀ (k : Fin 5) (tide : BitVec 48), s.dev.portLive k.val = true → Completes (.klTick k tide) s (fun e => (e.port k.val).tick = some (tide.toNat, s.dev.tideFine)
          ∧ Device.OnlyRegs [] s.dev e))
    ∧ (∀ (k : Fin 5), s.dev.portLive k.val = true → (s.dev.port k.val).replay ≠ [] → Completes (.klNak k) s (fun e => e.get (fKlPerrReplays k.val) = min (s.dev.get (fKlPerrReplays k.val) + 1) 0xFFFF
          ∧ (e.port k.val).replay = (s.dev.port k.val).replay
          ∧ Device.OnlyRegs [klPerr k.val] s.dev e))
    ∧ (∀ (k : Fin 5), s.dev.portLive k.val = true → (s.dev.port k.val).replay ≠ [] → (s.dev.port k.val).resends < 4 → Completes (.klReplayTimeout k) s (fun e => e.get (fKlPerrReplays k.val) = min (s.dev.get (fKlPerrReplays k.val) + 1) 0xFFFF
          ∧ (e.port k.val).resends = (s.dev.port k.val).resends + 1
          ∧ Device.OnlyRegs [klPerr k.val] s.dev e))
    ∧ (∀ (k : Fin 5), 2 ≤ k.val → s.dev.portState k.val = 5 → (s.dev.port k.val).replay ≠ [] → 4 ≤ (s.dev.port k.val).resends → Completes (.klReplayTimeout k) s (fun e => e.portState k.val = 7))
    ∧ (∀ (k : Fin 5), s.dev.portLive k.val = true → Completes (.klBadFrame k) s (fun e => e.get (fKlPerrCrc k.val) = min (s.dev.get (fKlPerrCrc k.val) + 1) 0xFFFF
          ∧ (e.port k.val).ctl = some (.nak ((s.dev.port k.val).rxSeq.getD 0))
          ∧ (e.port k.val).rxSeq = (s.dev.port k.val).rxSeq
          ∧ Device.OnlyRegs [klPerr k.val] s.dev e))
    ∧ (∀ (h : KlHead), s.dev.portLive h.port.val = true → s.dev.kl.up = [] → (∀ j : Fin 5, (s.dev.port j.val).queue = []) → Completes (.klNullFrame h) s (fun e => (e.port h.port.val).replay = (if (s.dev.port h.port.val).replay.any (fun f => f.seq = h.ack.toNat) then ((s.dev.port h.port.val).replay.dropWhile (fun f => f.seq != h.ack.toNat)).drop 1 else (s.dev.port h.port.val).replay)
          ∧ (e.port h.port.val).credits.getD h.creditClass.toNat 0 = min (klBuffer h.creditClass.toNat) ((s.dev.port h.port.val).credits.getD h.creditClass.toNat 0 + h.credits.toNat)
          ∧ (e.port h.port.val).rxSeq = (s.dev.port h.port.val).rxSeq
          ∧ Device.OnlyRegs [klPcred h.port.val] s.dev e))

/-- A frame of a type the device does not know (R331): one in sequence is acknowledged (the sequence number that the port accepts moves on), its trailer's credits and acknowledgement are taken, the receive-buffer credits it used are returned (none stays in use), COUNTS.DISCARDS increments, and nothing else happens; one out of sequence is not accepted. -/
def Obligations.UnknownFramesAreDiscarded : Prop :=
  ∀ (s : State), s.dev.NoRemote →
    (∀ (h : KlHead), s.dev.portLive h.port.val = true → (s.dev.port h.port.val).rxSeq = some h.seq.toNat → Completes (.unknownFrame h) s (fun e => (e.port h.port.val).rxSeq = some ((h.seq.toNat + 1) % 256)
          ∧ e.get fKlCountsDiscards = min (s.dev.get fKlCountsDiscards + 1) 0xFF))
    ∧ (∀ (h : KlHead), s.dev.portLive h.port.val = true → (s.dev.port h.port.val).rxSeq = some h.seq.toNat → s.dev.kl.up = [] → (∀ j : Fin 5, (s.dev.port j.val).queue = []) → Completes (.unknownFrame h) s (fun e => (e.port h.port.val).rxSeq = some ((h.seq.toNat + 1) % 256)
          ∧ e.get fKlCountsDiscards = min (s.dev.get fKlCountsDiscards + 1) 0xFF
          ∧ (e.port h.port.val).replay = (if (s.dev.port h.port.val).replay.any (fun f => f.seq = h.ack.toNat) then ((s.dev.port h.port.val).replay.dropWhile (fun f => f.seq != h.ack.toNat)).drop 1 else (s.dev.port h.port.val).replay)
          ∧ (e.port h.port.val).credits.getD h.creditClass.toNat 0 = min (klBuffer h.creditClass.toNat) ((s.dev.port h.port.val).credits.getD h.creditClass.toNat 0 + h.credits.toNat)
          ∧ (e.port h.port.val).used = (s.dev.port h.port.val).used
          ∧ (e.port h.port.val).queue = (s.dev.port h.port.val).queue
          ∧ e.kl = { s.dev.kl with ports := e.kl.ports }
          ∧ (∀ j : Fin 5, j ≠ h.port → e.port j.val = s.dev.port j.val)
          ∧ Device.OnlyRegs [klPcred h.port.val, klCounts] s.dev e))
    ∧ (∀ (h : KlHead) (x : Nat), s.dev.portLive h.port.val = true → s.dev.kl.up = [] → (∀ j : Fin 5, (s.dev.port j.val).queue = []) → (s.dev.port h.port.val).rxSeq = some x → x ≠ h.seq.toNat → Completes (.unknownFrame h) s (fun e => (e.port h.port.val).rxSeq = some x
          ∧ (e.port h.port.val).replay = (if (s.dev.port h.port.val).replay.any (fun f => f.seq = h.ack.toNat) then ((s.dev.port h.port.val).replay.dropWhile (fun f => f.seq != h.ack.toNat)).drop 1 else (s.dev.port h.port.val).replay)
          ∧ (e.port h.port.val).credits.getD h.creditClass.toNat 0 = min (klBuffer h.creditClass.toNat) ((s.dev.port h.port.val).credits.getD h.creditClass.toNat 0 + h.credits.toNat)
          ∧ Device.OnlyRegs [klPcred h.port.val] s.dev e))

/-- A census (R336, R337, R338): CMD.CENSUS starts one with the next generation; a member takes its depth and route from CENSUS_REQ; the harbourmaster collects records and marks the port that delivered LAST; when every UP down-port has, the census completes and KL_CENSUS is raised; ASSIGN gives a device its number, and another number restarts its message sequence; VERSION gives the control-plane version. -/
def Obligations.TheCensus : Prop :=
  ∀ (s : State), s.dev.NoRemote →
    (s.dev.applies klCmd (fKlCmdAction.set 0 1) 0xF#4 = true → s.dev.klRole = 1 → Completes (.klCensusCmd) s (fun e => e.get (fPsState 0x1C) = 1
          ∧ e.get fKlCensusGen = (s.dev.get fKlCensusGen + 1) % 256
          ∧ e.kl.recs = []
          ∧ e.kl.lasts = []
          ∧ e.kl.collecting = true))
    ∧ (∀ (h : KlHead) (gen : Byte) (depth : BitVec 4) (route : BitVec 16), s.dev.portLive h.port.val = true → (s.dev.port h.port.val).rxSeq = some h.seq.toNat → s.dev.upPort = some h.port.val → Completes (.censusReq h gen depth route) s (fun e => (e.port h.port.val).rxSeq = some ((h.seq.toNat + 1) % 256)
          ∧ e.get fKlStatDepth = depth.toNat
          ∧ e.kl.route = route.toNat
          ∧ e.kl.recs = []
          ∧ (s.dev.downPorts ≠ [] → e.kl.collecting = true)
          ∧ (s.dev.downPorts = [] → e.kl.collecting = false)))
    ∧ (∀ (h : KlHead) (r : List Byte), s.dev.portLive h.port.val = true → (s.dev.port h.port.val).rxSeq = some h.seq.toNat → s.dev.kl.up = [] → (∀ j : Fin 5, (s.dev.port j.val).queue = []) → 2 ≤ h.port.val → s.dev.klRole = 1 → Completes (.censusRec h r) s (fun e => (e.port h.port.val).rxSeq = some ((h.seq.toNat + 1) % 256)
          ∧ e.kl.recs = s.dev.kl.recs ++ [clearLast (padTo 32 (r.take 32))]
          ∧ e.kl.lasts = (if ((padTo 32 (r.take 32)).getD 7 0).getLsbD 0 then h.port.val :: s.dev.kl.lasts else s.dev.kl.lasts)
          ∧ Device.OnlyRegs [klPcred h.port.val] s.dev e))
    ∧ (s.dev.klRole = 1 → s.dev.get (fPsState 0x1C) = 1 → (∀ k ∈ s.dev.downPorts, k ∈ s.dev.kl.lasts) → s.dev.kl.again = false → Completes (.censusComplete) s (fun e => e.get (fPsState 0x1C) = 0
          ∧ e.kl.collecting = false
          ∧ Device.raised 0x1C 1 s.dev e
          ∧ (e.kl.held.length < 2048 → e.get fKlCensusMembers = e.kl.held.length + 1)
          ∧ e.kl.lasts = s.dev.kl.lasts))
    ∧ (∀ (h : KlHead) (number : Option (Fin 2048)) (gen cp hostFormat : Byte) (altOk : Bool), s.dev.portLive h.port.val = true → (s.dev.port h.port.val).rxSeq = some h.seq.toNat → Completes (.assign h .here number gen cp hostFormat altOk) s (fun e => e.on fKlStatNumbered = number.isSome
          ∧ e.get fKlStatNumber = (number.map Fin.val).getD 0
          ∧ e.get fKlVerCp = cp.toNat
          ∧ e.kl.altOk = altOk
          ∧ e.kl.hostFormat = hostFormat.toNat
          ∧ (number.map Fin.val ≠ (if s.dev.on fKlStatNumbered then some (s.dev.get fKlStatNumber) else none) → e.kl.oseq = 0 ∧ e.kl.unacked = [])))
    ∧ (∀ (h : KlHead) (cp : Byte), s.dev.portLive h.port.val = true → (s.dev.port h.port.val).rxSeq = some h.seq.toNat → s.dev.downPorts = [] → s.dev.kl.up = [] → (∀ j : Fin 5, (s.dev.port j.val).queue = []) → Completes (.versionFrame h cp) s (fun e => (e.port h.port.val).rxSeq = some ((h.seq.toNat + 1) % 256)
          ∧ e.get fKlVerCp = cp.toNat
          ∧ Device.OnlyRegs [klPcred h.port.val, klVer, irqStat 0x1C] s.dev e))
    ∧ (s.dev.hostReady = true → s.dev.pwr.phase = .awake → s.dev.pageOff 0x1C = false → s.dev.pageInReset 0x1C = false → Completes (.cenDataRead) s (fun e => e.hd = s.dev.censusWord
          ∧ e.get ⟨klCenAddr, 13, 0⟩ = (s.dev.get ⟨klCenAddr, 13, 0⟩ + 1) % 16384
          ∧ Device.OnlyRegs [klCenAddr, klCenData] s.dev e))

/-- Alignment of a member (R340, R342): an exchange dates its stamps and gives offset and delay; in MEASURE offsets are collected, and the up-port in use slews the tide to them (by at most 262/256 tick at an exchange: the model's reading of R456, assumption 32); at a fault of the up-port in use the device is in HOLDOVER, or KL_1 takes over where it is STANDBY and usable; FAILBACK returns to KL_0; HOLDOVER of 1 s is LOST. -/
def Obligations.TideAndHoldover : Prop :=
  ∀ (s : State), s.dev.NoRemote →
    (∀ (k : Fin 5), k.val < 2 → s.dev.klMember = true → (s.dev.portState k.val = 4 ∨ s.dev.portState k.val = 5 ∨ s.dev.portState k.val = 6) → Completes (.delayExchangeStart k) s (fun e => (e.port k.val).t1 = s.dev.tideFine
          ∧ (e.port k.val).t4 = none
          ∧ (e.port k.val).ctl = some .dly
          ∧ Device.OnlyRegs [] s.dev e))
    ∧ (∀ (k : Fin 5), k.val < 2 → s.dev.portLive k.val = true → Completes (.klDly k) s (fun e => (e.port k.val).t4 = some s.dev.tideFine
          ∧ Device.OnlyRegs [] s.dev e))
    ∧ (∀ (k : Fin 5), 2 ≤ k.val → s.dev.portState k.val = 5 → s.dev.kl.up = [] → (∀ j : Fin 5, (s.dev.port j.val).queue = []) → 1 ≤ (s.dev.port k.val).credits.getD 3 0 → (s.dev.port k.val).replay = [] → Completes (.klDly k) s (fun e => (e.port k.val).ctl = some .dly
          ∧ (e.port k.val).replay.length = 1
          ∧ (e.port k.val).credits.getD 3 0 = (s.dev.port k.val).credits.getD 3 0 - 1
          ∧ Device.OnlyRegs [klPcred k.val] s.dev e))
    ∧ (∀ (h : KlHead) (t1 t2 t3 : BitVec 72) (t4 : Nat), s.dev.portLive h.port.val = true → (s.dev.port h.port.val).rxSeq = some h.seq.toNat → h.port.val < 2 → (s.dev.port h.port.val).t4 = some t4 → s.dev.portState h.port.val = 4 → (((t2.toNat : Int) - t1.toNat) + ((t3.toNat : Int) - t4)) % 2 = 0 → (((t4 : Int) - t1.toNat) - ((t3.toNat : Int) - t2.toNat)) % 2 = 0 → Completes (.delayFrame h t1 t2 t3) s (fun e => (e.port h.port.val).rxSeq = some ((h.seq.toNat + 1) % 256)
          ∧ (e.port h.port.val).t4 = none
          ∧ (e.port h.port.val).measures = (s.dev.port h.port.val).measures + 1
          ∧ (e.port h.port.val).offsets = (s.dev.port h.port.val).offsets + (((t2.toNat : Int) - t1.toNat) + ((t3.toNat : Int) - t4)) / 2
          ∧ (e.port h.port.val).delay = twosOf 32 ((((t4 : Int) - t1.toNat) - ((t3.toNat : Int) - t2.toNat)) / 2)
          ∧ (s.dev.upPort = none → e.rd klDelay = BitVec.ofNat 32 (twosOf 32 ((((t4 : Int) - t1.toNat) - ((t3.toNat : Int) - t2.toNat)) / 2)))
          ∧ e.tide = s.dev.tide))
    ∧ (∀ (h : KlHead) (t1 t2 t3 : BitVec 72) (t4 : Nat), s.dev.portLive h.port.val = true → (s.dev.port h.port.val).rxSeq = some h.seq.toNat → (s.dev.port h.port.val).t4 = some t4 → s.dev.portState h.port.val = 5 → s.dev.upPort = some h.port.val → (((t2.toNat : Int) - t1.toNat) + ((t3.toNat : Int) - t4)) % 2 = 0 → (((t4 : Int) - t1.toNat) - ((t3.toNat : Int) - t2.toNat)) % 2 = 0 → ((((t2.toNat : Int) - t1.toNat) + ((t3.toNat : Int) - t4)) / 2).natAbs ≤ 1024 * 256 → 262 ≤ s.dev.tideFine → s.dev.tideFine + 262 < 2 ^ 72 → Completes (.delayFrame h t1 t2 t3) s (fun e => (e.tideFine : Int) = s.dev.tideFine + clampInt (-262) 262 ((((t2.toNat : Int) - t1.toNat) + ((t3.toNat : Int) - t4)) / 2)
          ∧ e.rd klDelay = BitVec.ofNat 32 (twosOf 32 ((((t4 : Int) - t1.toNat) - ((t3.toNat : Int) - t2.toNat)) / 2))))
    ∧ (∀ (cause : KlCause), s.dev.portState 0 = 5 → s.dev.klMember = true → s.dev.portState 1 = 6 → s.dev.kl.altOk = true → Completes (.klPortFault 0 cause) s (fun e => e.portState 0 = 7
          ∧ e.portState 1 = 5
          ∧ e.upPort = some 1
          ∧ e.on fKlStatUpAlt = true
          ∧ e.get fKlStatSync = 2
          ∧ e.get fKlCountsFailovers = min (s.dev.get fKlCountsFailovers + 1) 0xFF
          ∧ e.on fRepPoolsKlAltFree = false))
    ∧ (∀ (cause : KlCause), s.dev.portState 0 = 5 → s.dev.klMember = true → s.dev.kl.altOk = false → s.dev.portState 1 ≠ 5 → Completes (.klPortFault 0 cause) s (fun e => e.portState 0 = 7
          ∧ e.upPort = none
          ∧ e.get fKlStatSync = 3
          ∧ e.kl.holdSince = s.dev.tide
          ∧ e.get fKlCountsHoldovers = min (s.dev.get fKlCountsHoldovers + 1) 0xFF))
    ∧ (s.dev.applies klCmd (fKlCmdAction.set 0 5) 0xF#4 = true → s.dev.klMember = true → s.dev.portState 0 = 6 → s.dev.portState 1 = 5 → Completes (.klFailback) s (fun e => e.portState 0 = 5
          ∧ e.portState 1 = 6
          ∧ e.upPort = some 0
          ∧ e.on fKlStatUpAlt = false))
    ∧ (s.dev.get fKlStatSync = 3 → s.dev.kl.holdSince + 1024000000 ≤ s.dev.tide → Completes (.holdoverLost) s (fun e => e.get fKlStatSync = 4
          ∧ Device.raised 0x1C 3 s.dev e))
    ∧ (s.dev.get fKlStatSync = 3 → s.dev.tide < s.dev.kl.holdSince + 1024000000 → exec (.holdoverLost) s = .next { s with dev := s.dev.settle })

/-- Triggers (R343): FIRE and a TRIG block from the up-port arm a firing tide that lies ahead; one that does not is late, fires at once and is counted; an armed channel fires when its tide has come. Remote access (R344): RA_CMD for an absent device ends with NO_DEVICE, for a present one it is BUSY until the response gives OK, HOPS and the data of a read, or TIMEOUT; a member serves a request as an access of its own; RESET_DEV and RESET_SUBTREE write nothing but the command, and a RESET frame for this device applies a CORE reset. -/
def Obligations.TriggersAndRemoteAccess : Prop :=
  ∀ (s : State), s.dev.NoRemote →
    (∀ (w : RegWrite), s.dev.applies klTrigCmd (fKlTrigCmdFire.set w.value 1) w.be = true → w.be = 0xF#4 → s.dev.klRole = 1 → s.dev.tide < ((s.dev.rd klTrigTideHi).toNat * 2 ^ 32 + (s.dev.rd klTrigTideLo).toNat) → s.dev.kl.fired.getD (bitsOf ((fKlTrigCmdFire).set w.value 1) 1 0) none ≠ some ((s.dev.rd klTrigTideHi).toNat * 2 ^ 32 + (s.dev.rd klTrigTideLo).toNat) → (bitsOf ((fKlTrigCmdFire).set w.value 1) 1 0, ((s.dev.rd klTrigTideHi).toNat * 2 ^ 32 + (s.dev.rd klTrigTideLo).toNat)) ∉ s.dev.kl.armed → Completes (.trigFireCmd w) s (fun e => e.kl.armed = s.dev.kl.armed ++ [(bitsOf ((fKlTrigCmdFire).set w.value 1) 1 0, ((s.dev.rd klTrigTideHi).toNat * 2 ^ 32 + (s.dev.rd klTrigTideLo).toNat))]
          ∧ Device.OnlyRegs [hbusStat, pageStat 0x1C, secIdleLeft] s.dev e))
    ∧ (∀ (w : RegWrite), s.dev.applies klTrigCmd (fKlTrigCmdFire.set w.value 1) w.be = true → w.be = 0xF#4 → s.dev.klRole = 1 → ((s.dev.rd klTrigTideHi).toNat * 2 ^ 32 + (s.dev.rd klTrigTideLo).toNat) ≤ s.dev.tide → s.dev.kl.fired.getD (bitsOf ((fKlTrigCmdFire).set w.value 1) 1 0) none ≠ some ((s.dev.rd klTrigTideHi).toNat * 2 ^ 32 + (s.dev.rd klTrigTideLo).toNat) → (bitsOf ((fKlTrigCmdFire).set w.value 1) 1 0, ((s.dev.rd klTrigTideHi).toNat * 2 ^ 32 + (s.dev.rd klTrigTideLo).toNat)) ∉ s.dev.kl.armed → Completes (.trigFireCmd w) s (fun e => e.kl.armed = s.dev.kl.armed
          ∧ e.kl.fired.getD (bitsOf ((fKlTrigCmdFire).set w.value 1) 1 0) none = some ((s.dev.rd klTrigTideHi).toNat * 2 ^ 32 + (s.dev.rd klTrigTideLo).toNat)
          ∧ e.get fKlCountsTrigLate = min (s.dev.get fKlCountsTrigLate + 1) 0xFF))
    ∧ (∀ (k : Fin 5) (ch : Fin 4) (low : BitVec 48), s.dev.upPort = some k.val → s.dev.tide < nearestTide s.dev.tide low.toNat → s.dev.kl.fired.getD ch.val none ≠ some (nearestTide s.dev.tide low.toNat) → (ch.val, nearestTide s.dev.tide low.toNat) ∉ s.dev.kl.armed → Completes (.klTrigBlock k ch low) s (fun e => e.kl.armed = s.dev.kl.armed ++ [(ch.val, nearestTide s.dev.tide low.toNat)]
          ∧ (∀ j ∈ s.dev.downPorts, (e.port j).ctl = some (.trig ch.val (nearestTide s.dev.tide low.toNat % 2 ^ 48)))
          ∧ Device.OnlyRegs [] s.dev e))
    ∧ (∀ (k : Fin 5) (ch : Fin 4) (low : BitVec 48), s.dev.upPort ≠ some k.val → exec (.klTrigBlock k ch low) s = .next { s with dev := s.dev.settle })
    ∧ (∀ (ch t : Nat) (r : List (Nat × Nat)), s.dev.kl.armed = (ch, t) :: r → t ≤ s.dev.tide → ch < 4 → Completes (.cascadeTriggerFire) s (fun e => e.kl.fired.getD ch none = some t
          ∧ (ch, t) ∉ e.kl.armed))
    ∧ (s.dev.applies klRaCmd (fKlRaCmdRead.set 0 1) 0xF#4 = true → s.dev.on fKlRaDevBcast = false → (s.dev.get fKlRaDevDevice = 0 ∨ s.dev.inCensus (s.dev.get fKlRaDevDevice) = false) → Completes (.raRead) s (fun e => e.rd klRaStat = 2
          ∧ e.kl.ra = s.dev.kl.ra
          ∧ Device.OnlyRegs [hbusStat, pageStat 0x1C, secIdleLeft, klRaStat] s.dev e))
    ∧ (s.dev.applies klRaCmd (fKlRaCmdWrite.set 0 1) 0xF#4 = true → s.dev.on fKlRaDevBcast = false → (s.dev.get fKlRaDevDevice = 0 ∨ s.dev.inCensus (s.dev.get fKlRaDevDevice) = false) → Completes (.raWrite) s (fun e => e.rd klRaStat = 2
          ∧ e.kl.ra = s.dev.kl.ra
          ∧ Device.OnlyRegs [hbusStat, pageStat 0x1C, secIdleLeft, klRaStat] s.dev e))
    ∧ (s.dev.applies klRaCmd (fKlRaCmdRead.set 0 1) 0xF#4 = true → s.dev.klRole = 1 → s.dev.on fKlRaDevBcast = false → s.dev.get fKlRaDevDevice ≠ 0 → s.dev.inCensus (s.dev.get fKlRaDevDevice) = true → Completes (.raRead) s (fun e => e.rd klRaStat = 1
          ∧ e.kl.ra = s.dev.kl.ra ++ [(RaSt.mk .ra 0 (4 * s.dev.get ⟨klRaAddr, 19, 2⟩) (s.dev.rd klRaData) [s.dev.get fKlRaDevDevice])]))
    ∧ (s.dev.applies klRaCmd (fKlRaCmdWrite.set 0 1) 0xF#4 = true → s.dev.klRole = 1 → s.dev.on fKlRaDevBcast = false → s.dev.get fKlRaDevDevice ≠ 0 → s.dev.inCensus (s.dev.get fKlRaDevDevice) = true → Completes (.raWrite) s (fun e => e.rd klRaStat = 1
          ∧ e.kl.ra = s.dev.kl.ra ++ [(RaSt.mk .ra 1 (4 * s.dev.get ⟨klRaAddr, 19, 2⟩) (s.dev.rd klRaData) [s.dev.get fKlRaDevDevice])]))
    ∧ (∀ (h : KlHead) (data : Word) (hops : Byte) (r : RaSt) (t : List RaSt), s.dev.portLive h.port.val = true → (s.dev.port h.port.val).rxSeq = some h.seq.toNat → s.dev.kl.up = [] → (∀ j : Fin 5, (s.dev.port j.val).queue = []) → 2 ≤ h.port.val → s.dev.klRole = 1 → s.dev.kl.ra = r :: t → r.left = [h.src.toNat] → r.source = .ra → Completes (.pageRsp h data hops) s (fun e => (e.port h.port.val).rxSeq = some ((h.seq.toNat + 1) % 256)
          ∧ e.kl.ra = t
          ∧ e.rd klRaStat = BitVec.ofNat 32 (256 * hops.toNat)
          ∧ e.rd klRaData = (if r.op = 0 then data else s.dev.rd klRaData)
          ∧ Device.OnlyRegs [klPcred h.port.val, klRaStat, klRaData] s.dev e))
    ∧ (∀ (link : Bool) (r : RaSt) (t : List RaSt), link = false → s.dev.kl.ra = r :: t → r.source = .ra → Completes (.raTimeout link) s (fun e => e.kl.ra = t
          ∧ e.get fKlRaStatResult = 2
          ∧ e.on fKlRaStatBusy = false
          ∧ e.rd klRaData = s.dev.rd klRaData
          ∧ Device.OnlyRegs [klRaStat] s.dev e))
    ∧ (∀ (h : KlHead) (op : BitVec 2) (word : BitVec 24) (data : Word), s.dev.portLive h.port.val = true → (s.dev.port h.port.val).rxSeq = some h.seq.toNat → s.dev.kl.up = [] → (∀ j : Fin 5, (s.dev.port j.val).queue = []) → s.dev.upPort = none → op.toNat = 0 → Completes (.pageReq h .here op word data) s (fun e => (e.port h.port.val).rxSeq = some ((h.seq.toNat + 1) % 256)
          ∧ e.kl.reqs = []
          ∧ e.kl.up = [(5, KlFrame.mk (.pageRsp (s.dev.windowRead (4 * word.toNat)).1 (s.dev.get fKlStatDepth)) 1 false false 0 s.dev.ownNumber 4 0)]))
    ∧ (∀ (h : KlHead) (op : BitVec 2) (word : BitVec 24) (data : Word), s.dev.portLive h.port.val = true → (s.dev.port h.port.val).rxSeq = some h.seq.toNat → s.dev.kl.up = [] → (∀ j : Fin 5, (s.dev.port j.val).queue = []) → s.dev.upPort = none → op.toNat = 1 → 4 * word.toNat < 0x0100000 → s.dev.post.length < 31 → s.dev.pwr.phase = .awake → s.dev.pageOff (pageOfWord word.toNat) = false → Completes (.pageReq h .here op word data) s (fun e => (e.port h.port.val).rxSeq = some ((h.seq.toNat + 1) % 256)
          ∧ e.kl.reqs = []
          ∧ e.kl.up.length = 1))
    ∧ (∀ (j : Fin 3), s.dev.applies klCmd (fKlCmdAction.set 0 2) 0xF#4 = true → s.dev.get fKlRaDevDevice ≠ 0 → s.dev.inCensus (s.dev.get fKlRaDevDevice) = true → recLe (s.dev.censusEntry (s.dev.get fKlRaDevDevice)) 10 2 % 4 = j.val → s.dev.kl.up = [] → (∀ j : Fin 5, (s.dev.port j.val).queue = []) → s.dev.portState (2 + j.val) = 5 → (s.dev.port (2 + j.val)).replay = [] → 1 ≤ (s.dev.port (2 + j.val)).credits.getD 0 0 → Completes (.klResetDev) s (fun e => (e.port (2 + j.val)).replay.map (·.body) = [.reset false]
          ∧ Device.OnlyRegs [hbusStat, pageStat 0x1C, secIdleLeft, klPcred (2 + j.val)] s.dev e))
    ∧ (s.dev.applies klCmd (fKlCmdAction.set 0 2) 0xF#4 = true → (s.dev.get fKlRaDevDevice = 0 ∨ s.dev.inCensus (s.dev.get fKlRaDevDevice) = false) → Completes (.klResetDev) s (fun e => e.kl = s.dev.kl
          ∧ Device.OnlyRegs [hbusStat, pageStat 0x1C, secIdleLeft] s.dev e))
    ∧ (∀ (j : Fin 3), s.dev.applies klCmd (fKlCmdAction.set 0 3) 0xF#4 = true → s.dev.get fKlRaDevDevice ≠ 0 → s.dev.inCensus (s.dev.get fKlRaDevDevice) = true → recLe (s.dev.censusEntry (s.dev.get fKlRaDevDevice)) 10 2 % 4 = j.val → s.dev.kl.up = [] → (∀ j : Fin 5, (s.dev.port j.val).queue = []) → s.dev.portState (2 + j.val) = 5 → (s.dev.port (2 + j.val)).replay = [] → 1 ≤ (s.dev.port (2 + j.val)).credits.getD 0 0 → Completes (.klResetSubtree) s (fun e => (e.port (2 + j.val)).replay.map (·.body) = [.reset true]
          ∧ Device.OnlyRegs [hbusStat, pageStat 0x1C, secIdleLeft, klPcred (2 + j.val)] s.dev e))
    ∧ (s.dev.applies klCmd (fKlCmdAction.set 0 3) 0xF#4 = true → (s.dev.get fKlRaDevDevice = 0 ∨ s.dev.inCensus (s.dev.get fKlRaDevDevice) = false) → Completes (.klResetSubtree) s (fun e => e.kl = s.dev.kl
          ∧ Device.OnlyRegs [hbusStat, pageStat 0x1C, secIdleLeft] s.dev e))
    ∧ (∀ (h : KlHead), s.dev.portLive h.port.val = true → (s.dev.port h.port.val).rxSeq = some h.seq.toNat → Completes (.resetFrame h .here false) s (fun e => e.rst.step ≠ .done))

/-- Aggregation (R345, R346, R347): the forwarder sends whole messages of a forwarded ring and keeps the frame until it is acknowledged end to end, when MHEAD advances past it; it sends again after 200 µs; a relay passes MESSAGE and EVENT frames up as they are; the harbourmaster accepts the next frame of an origin for the packet link, owes it an ACK_E2E, and discards and counts any other. -/
def Obligations.MessagesGoUp : Prop :=
  ∀ (s : State), s.dev.NoRemote →
    (∀ (n : Fin 16), s.dev.klMember = true → s.dev.on ⟨klCtrl, 16 + n.val, 16 + n.val⟩ = true → s.dev.on fKlStatNumbered = true → 3 ≤ s.dev.kl.hostFormat → (s.dev.nextMsgs n.val 512 8) ≠ [] → s.dev.kl.unacked = [] → s.dev.upPort = none → Completes (.messageFrameSend n) s (fun e => e.kl.oseq = (s.dev.kl.oseq + 1) % 2 ^ 32
          ∧ e.kl.unacked.map (fun u => (u.1, u.2.1, u.2.2.1)) = [(s.dev.kl.oseq, n.val, ((s.dev.nextMsgs n.val 512 8).flatten.length / 64))]
          ∧ e.kl.up.length = s.dev.kl.up.length + 1
          ∧ e.ringSent.getD n.val 0 = s.dev.ringSent.getD n.val 0 + ((s.dev.nextMsgs n.val 512 8).flatten.length / 64)
          ∧ e.rd (ringMhead n.val) = s.dev.rd (ringMhead n.val)))
    ∧ (∀ (n : Fin 16), (s.dev.klMember = false ∨ s.dev.on ⟨klCtrl, 16 + n.val, 16 + n.val⟩ = false ∨ s.dev.on fKlStatNumbered = false ∨ s.dev.kl.hostFormat < 3) → exec (.messageFrameSend n) s = .next { s with dev := s.dev.settle })
    ∧ (∀ (h : KlHead) (next : BitVec 32) (n : Fin 16) (q slots : Nat) (f : KlFrame), s.dev.portLive h.port.val = true → (s.dev.port h.port.val).rxSeq = some h.seq.toNat → s.dev.kl.unacked = [(q, n.val, slots, f)] → q < 2 ^ 32 - 1 → next.toNat = q + 1 → slots ≤ 65535 → s.dev.man.queue = [] → (s.dev.sess n.val).waiting = [] → Completes (.ackE2e h .here next) s (fun e => (e.port h.port.val).rxSeq = some ((h.seq.toNat + 1) % 256)
          ∧ e.kl.unacked = []
          ∧ e.index (ringMhead n.val) = (s.dev.index (ringMhead n.val) + slots) % 65536))
    ∧ (s.dev.kl.unacked ≠ [] → s.dev.upPort = none → s.dev.kl.up = [] → Completes (.e2eResendTimeout) s (fun e => e.kl.up = s.dev.kl.unacked.map (fun u => (5, u.2.2.2))
          ∧ e.kl.unacked = s.dev.kl.unacked))
    ∧ (∀ (h : KlHead) (origin : BitVec 16) (oseq : BitVec 32) (count : Byte) (msgs : List Byte), s.dev.portLive h.port.val = true → (s.dev.port h.port.val).rxSeq = some h.seq.toNat → s.dev.kl.up = [] → (∀ j : Fin 5, (s.dev.port j.val).queue = []) → 2 ≤ h.port.val → s.dev.klRole = 1 → oseq.toNat = (((s.dev.kl.expect.find? (fun e => e.1 = origin.toNat)).map (·.2)).getD 0) → Completes (.messageFrame h origin oseq count msgs) s (fun e => (e.port h.port.val).rxSeq = some ((h.seq.toNat + 1) % 256)
          ∧ e.kl.accepted = s.dev.kl.accepted ++ [(origin.toNat, ((wholeMessages 8 msgs).map s.dev.converted).flatten, h.port.val, klCost h.len.val)]
          ∧ origin.toNat ∈ e.kl.acks
          ∧ e.kl.expect.find? (fun x => x.1 = origin.toNat) = some (origin.toNat, (oseq.toNat + 1) % 2 ^ 32)
          ∧ (e.port h.port.val).used.getD 2 0 = (s.dev.port h.port.val).used.getD 2 0 + klCost h.len.val
          ∧ Device.OnlyRegs [klPcred h.port.val] s.dev e))
    ∧ (∀ (h : KlHead) (origin : BitVec 16) (oseq : BitVec 32) (count : Byte) (msgs : List Byte), s.dev.portLive h.port.val = true → (s.dev.port h.port.val).rxSeq = some h.seq.toNat → s.dev.kl.up = [] → (∀ j : Fin 5, (s.dev.port j.val).queue = []) → 2 ≤ h.port.val → s.dev.klRole = 1 → oseq.toNat ≠ (((s.dev.kl.expect.find? (fun e => e.1 = origin.toNat)).map (·.2)).getD 0) → Completes (.messageFrame h origin oseq count msgs) s (fun e => (e.port h.port.val).rxSeq = some ((h.seq.toNat + 1) % 256)
          ∧ e.kl.accepted = s.dev.kl.accepted
          ∧ e.get fKlCountsDiscards = min (s.dev.get fKlCountsDiscards + 1) 0xFF
          ∧ Device.OnlyRegs [klPcred h.port.val, klCounts] s.dev e))
    ∧ (∀ (h : KlHead) (origin : BitVec 16) (oseq : BitVec 32) (count : Byte) (msgs : List Byte), s.dev.portLive h.port.val = true → (s.dev.port h.port.val).rxSeq = some h.seq.toNat → s.dev.kl.up = [] → (∀ j : Fin 5, (s.dev.port j.val).queue = []) → 2 ≤ h.port.val → s.dev.klRole = 2 → s.dev.upPort = none → Completes (.messageFrame h origin oseq count msgs) s (fun e => (e.port h.port.val).rxSeq = some ((h.seq.toNat + 1) % 256)
          ∧ e.kl.up.map (fun x => (x.1, x.2.body, x.2.cls)) = [(h.port.val, .message origin.toNat oseq.toNat count.toNat msgs, 2)]
          ∧ e.kl.accepted = s.dev.kl.accepted))
    ∧ (∀ (h : KlHead) (msg : List Byte), s.dev.portLive h.port.val = true → (s.dev.port h.port.val).rxSeq = some h.seq.toNat → s.dev.kl.up = [] → (∀ j : Fin 5, (s.dev.port j.val).queue = []) → 2 ≤ h.port.val → s.dev.klRole = 1 → s.dev.on fKlCtrlCensusAuto = false → Completes (.eventFrame h msg) s (fun e => (e.port h.port.val).rxSeq = some ((h.seq.toNat + 1) % 256)
          ∧ e.kl.accepted = s.dev.kl.accepted ++ [(leNat (((padTo 64 (msg.take 64)).drop 4).take 2), s.dev.converted (padTo 64 (msg.take 64)), 5, 0)]
          ∧ Device.OnlyRegs [klPcred h.port.val] s.dev e))
    ∧ (s.dev.klMember = false → Completes (.ackE2eSend) s (fun e => e.kl.acks = []
          ∧ e.kl.expect = s.dev.kl.expect))

/-- Groups (R351, R352, R354, R355, R358): GROUP_CAL that no precondition rejects runs in state GROUP_CAL; one that a precondition or a measurement fails ends at once with its reason and the rank concerned; one that passes ends with ACCEPTED; ABORT ends it with ABORTED; a member takes a rejection's reason, an accepted result that waits for its boundary, and that GROUP_CAL is due; HOLDOVER of more than 100 µs or LOST suspends it. -/
def Obligations.CoherentGroups : Prop :=
  ∀ (s : State), s.dev.NoRemote →
    (∀ (w : RegWrite) (finds : KlGroupFinds), s.dev.applies klCmd (fKlCmdAction.set w.value 4) w.be = true → w.be = 0xF#4 → s.dev.klRole = 1 → s.dev.kl.table = [] → finds.notIdle = [] → finds.noProfile = [] → finds.noPaths = [] → s.dev.get fKlGroupId ≠ bitsOf ((fKlCmdAction).set w.value 4) 13 8 → Completes (.groupCal w finds) s (fun e => e.get (fPsState 0x1C) = 2
          ∧ e.kl.group = bitsOf ((fKlCmdAction).set w.value 4) 13 8))
    ∧ (∀ (w : RegWrite) (finds : KlGroupFinds) (r : Fin 64) (t : List (Fin 64)), s.dev.applies klCmd (fKlCmdAction.set w.value 4) w.be = true → w.be = 0xF#4 → s.dev.klRole = 1 → s.dev.kl.table = [] → finds.notIdle = r :: t → s.dev.on fCalStatBusy = false → s.dev.get fKlGroupId ≠ bitsOf ((fKlCmdAction).set w.value 4) 13 8 → s.dev.kl.again = false → Completes (.groupCal w finds) s (fun e => e.get (fPsState 0x1C) = 0
          ∧ e.get (⟨calResult, 15, 4⟩ : Fld) = 16 * 4 + (if 4 = 0 then 1 else 0)
          ∧ e.get (⟨calResult, 23, 16⟩ : Fld) = r.val
          ∧ e.get (⟨calResult, 3, 0⟩ : Fld) = 9))
    ∧ (∀ (m : KlGroupMeas), s.dev.on fCalStatBusy = false → s.dev.klRole = 1 → s.dev.get (fPsState 0x1C) = 2 → s.dev.kl.again = false → s.dev.kl.table = [] → m.busy = none → m.lost = none → m.temp = none → (∀ x ∈ m.diffs, (signedOf 16 x.2.toNat).natAbs ≤ 100) → Completes (.groupCalEnd m) s (fun e => e.get (fPsState 0x1C) = 0
          ∧ e.get (⟨calResult, 15, 4⟩ : Fld) = 16 * 0 + (if 0 = 0 then 1 else 0)
          ∧ e.get (⟨calResult, 23, 16⟩ : Fld) = 0xFF
          ∧ e.get (⟨calResult, 3, 0⟩ : Fld) = 9))
    ∧ (∀ (m : KlGroupMeas) (r : Fin 64), s.dev.on fCalStatBusy = false → s.dev.klRole = 1 → s.dev.get (fPsState 0x1C) = 2 → s.dev.kl.again = false → s.dev.kl.table = [] → m.busy = some r → Completes (.groupCalEnd m) s (fun e => e.get (fPsState 0x1C) = 0
          ∧ e.get (⟨calResult, 15, 4⟩ : Fld) = 16 * 4 + (if 4 = 0 then 1 else 0)
          ∧ e.get (⟨calResult, 23, 16⟩ : Fld) = r.val
          ∧ e.get (⟨calResult, 3, 0⟩ : Fld) = 9))
    ∧ (∀ (m : KlGroupMeas) (x : Fin 64 × BitVec 16) (t : List (Fin 64 × BitVec 16)), s.dev.on fCalStatBusy = false → s.dev.klRole = 1 → s.dev.get (fPsState 0x1C) = 2 → s.dev.kl.again = false → s.dev.kl.table = [] → m.busy = none → m.lost = none → m.diffs = x :: t → 100 < (signedOf 16 x.2.toNat).natAbs → Completes (.groupCalEnd m) s (fun e => e.get (fPsState 0x1C) = 0
          ∧ e.get (⟨calResult, 15, 4⟩ : Fld) = 16 * 2 + (if 2 = 0 then 1 else 0)
          ∧ e.get (⟨calResult, 23, 16⟩ : Fld) = x.1.val
          ∧ e.get (⟨calResult, 3, 0⟩ : Fld) = 9))
    ∧ (s.dev.applies klCmd (fKlCmdAction.set 0 6) 0xF#4 = true → s.dev.get (fPsState 0x1C) = 2 → s.dev.kl.again = false → s.dev.on fCalStatBusy = false → Completes (.klAbort) s (fun e => e.get (fPsState 0x1C) = 0
          ∧ e.get (⟨calResult, 15, 4⟩ : Fld) = 16 * 11 + (if 11 = 0 then 1 else 0)
          ∧ e.get (⟨calResult, 23, 16⟩ : Fld) = 0xFF
          ∧ e.get (⟨calResult, 3, 0⟩ : Fld) = 9))
    ∧ (s.dev.applies klCmd (fKlCmdAction.set 0 6) 0xF#4 = true → s.dev.get (fPsState 0x1C) ≠ 2 → Completes (.klAbort) s (fun e => e.kl = s.dev.kl
          ∧ Device.OnlyRegs [hbusStat, pageStat 0x1C, secIdleLeft] s.dev e))
    ∧ (∀ (h : KlHead) (r : Byte), s.dev.portLive h.port.val = true → (s.dev.port h.port.val).rxSeq = some h.seq.toNat → h.port.val < 2 → s.dev.get fKlGroupId ≠ 0 → s.dev.downPorts = [] → s.dev.kl.up = [] → (∀ j : Fin 5, (s.dev.port j.val).queue = []) → Completes (.groupFrame h .here (.rejected r)) s (fun e => (e.port h.port.val).rxSeq = some ((h.seq.toNat + 1) % 256)
          ∧ e.get fKlGroupStatReason = r.toNat
          ∧ Device.OnlyRegs [klPcred h.port.val, klGroupStat] s.dev e))
    ∧ (∀ (h : KlHead), s.dev.portLive h.port.val = true → (s.dev.port h.port.val).rxSeq = some h.seq.toNat → h.port.val < 2 → s.dev.get fKlGroupId ≠ 0 → s.dev.downPorts = [] → s.dev.kl.up = [] → (∀ j : Fin 5, (s.dev.port j.val).queue = []) → Completes (.groupFrame h .here (.due)) s (fun e => (e.port h.port.val).rxSeq = some ((h.seq.toNat + 1) % 256)
          ∧ e.on fKlGroupStatDue = true
          ∧ Device.OnlyRegs [klPcred h.port.val, klGroupStat] s.dev e))
    ∧ (∀ (h : KlHead) (c t : BitVec 16), s.dev.portLive h.port.val = true → (s.dev.port h.port.val).rxSeq = some h.seq.toNat → h.port.val < 2 → s.dev.get fKlGroupId ≠ 0 → s.dev.downPorts = [] → s.dev.kl.up = [] → (∀ j : Fin 5, (s.dev.port j.val).queue = []) → s.dev.carriersOff = true → s.dev.cal.waits = [] → Completes (.groupFrame h .here (.accepted c t)) s (fun e => (e.port h.port.val).rxSeq = some ((h.seq.toNat + 1) % 256)
          ∧ e.get fKlGroupStatReason = 0))
    ∧ ((s.dev.get fKlGroupStatState = 1 ∨ s.dev.get fKlGroupStatState = 2) → (s.dev.get fKlStatSync = 4 ∨ (s.dev.get fKlStatSync = 3 ∧ s.dev.kl.holdSince + 102400 < s.dev.tide)) → Completes (.groupSuspend) s (fun e => e.get fKlGroupStatState = 3
          ∧ e.get fKlGroupStatReason = 0xF1
          ∧ e.get fKlGroupStatCorr = 0))

/-! ### The packet link -/

/-- Lanes (R364 … R369): signal, block lock, alignment; while the link trains a lane takes its own position, and the link is UP once every position is held; a lane aligned later is STANDBY; a lane that fails leaves its position to the standby lane, or, without one, the link retrains with one position fewer and then goes on DEGRADED; the far end's REMAP moves a position as well; a failed lane is tried again; a drained lane is OFF or starts again. -/
def Obligations.LinkLanes : Prop :=
  ∀ (s : State), s.dev.NoRemote →
    (∀ (l : Fin 5), s.dev.laneState l.val = 1 → Completes (.plSignalDetect l) s (fun e => e.laneState l.val = 2
          ∧ e.on (fPlLstatBusy l.val) = true
          ∧ Device.OnlyRegs [plLstat l.val, clkGood, irqStat 0x1B, plMap, repPools] s.dev e))
    ∧ (∀ (l : Fin 5), s.dev.laneState l.val = 2 → Completes (.plBlockLock l) s (fun e => e.laneState l.val = 3
          ∧ e.on ⟨clkGood, 5 + l.val, 5 + l.val⟩ = true
          ∧ Device.OnlyRegs [plLstat l.val, clkGood, irqStat 0x1B, plMap, repPools] s.dev e))
    ∧ (∀ (l : Fin 5) (k : Fin 4), s.dev.laneState l.val = 3 → l.val < 4 → k.val ≠ l.val → (s.dev.laneState k.val = 2 ∨ s.dev.laneState k.val = 3) → s.dev.linkState = 1 → s.dev.pl.retrain = false → s.dev.laneAt l.val = 7 → Completes (.plLaneAligned l) s (fun e => e.laneState l.val = 4
          ∧ e.laneAt l.val = l.val
          ∧ e.get (fPlLstatPos l.val) = l.val
          ∧ e.linkState = 1
          ∧ Device.OnlyRegs [plLstat l.val, clkGood, irqStat 0x1B, plMap, repPools] s.dev e))
    ∧ (∀ (l : Fin 5), s.dev.laneState l.val = 3 → l.val < 4 → (∀ q : Fin 4, q.val ≠ l.val → s.dev.laneAt q.val = q.val ∧ s.dev.laneState q.val = 4) → s.dev.linkState = 1 → s.dev.pl.retrain = false → s.dev.laneAt l.val = 7 → Completes (.plLaneAligned l) s (fun e => e.laneState l.val = 4
          ∧ e.laneAt l.val = l.val
          ∧ e.linkState = 2
          ∧ e.get fPlCapCap = 99993
          ∧ e.pl.rxSeq = 0
          ∧ e.pl.txSeq = 0
          ∧ e.pl.replay = []
          ∧ (∀ v : Fin 4, e.get (fTxCred v.val) = 0)
          ∧ e.pl.creditDue = true))
    ∧ (∀ (l : Fin 5), s.dev.laneState l.val = 3 → 2 ≤ s.dev.linkState → (l.val < 4 ∨ s.dev.on fPlCtrlSpareEn = true) → Completes (.plLaneAligned l) s (fun e => e.laneState l.val = 5
          ∧ e.get (fPlLstatPos l.val) = 4
          ∧ e.linkState = s.dev.linkState
          ∧ e.standby.isSome = true
          ∧ Device.OnlyRegs [plLstat l.val, clkGood, irqStat 0x1B, plMap, repPools] s.dev e))
    ∧ (∀ (l pos : Fin 5) (skew : BitVec 16), (s.dev.laneState l.val = 3 ∨ (s.dev.laneState l.val = 4 ∧ pos.val = s.dev.get (fPlLstatPos l.val))) → Completes (.plAlignBlock l pos skew) s (fun e => e.get (fPlLstatSkew l.val) = skew.toNat % 128
          ∧ e.laneState l.val = s.dev.laneState l.val
          ∧ Device.OnlyRegs [plLstat l.val] s.dev e))
    ∧ (∀ (l t : Fin 5) (p : Fin 4) (c : PlCause), s.dev.laneState l.val = 4 → s.dev.standby = some t.val → (∀ q : Fin 4, s.dev.laneAt q.val = l.val ↔ q = p) → Completes (.plLaneFault l c) s (fun e => e.laneState l.val = 6
          ∧ e.laneAt p.val = t.val
          ∧ e.laneState t.val = 4
          ∧ e.get (fPlLstatPos t.val) = p.val
          ∧ e.get (fPlLerrFaults l.val) = min (s.dev.get (fPlLerrFaults l.val) + 1) 0xFFFF
          ∧ e.linkState = s.dev.linkState
          ∧ Device.raised 0x1B 1 s.dev e
          ∧ e.pl.ctl = some (.remap p.val t.val)))
    ∧ (∀ (l t : Fin 5) (p : Fin 4), s.dev.laneState l.val = 4 → s.dev.standby = some t.val → (∀ q : Fin 4, s.dev.laneAt q.val = l.val ↔ q = p) → Completes (.plRemapReq l) s (fun e => e.laneState l.val = 6
          ∧ e.laneAt p.val = t.val
          ∧ e.laneState t.val = 4
          ∧ e.get (fPlLstatPos t.val) = p.val
          ∧ e.get (fPlLerrFaults l.val) = min (s.dev.get (fPlLerrFaults l.val) + 1) 0xFFFF
          ∧ e.linkState = s.dev.linkState
          ∧ Device.raised 0x1B 1 s.dev e
          ∧ e.pl.ctl = some (.remap p.val t.val)))
    ∧ (∀ (l : Fin 5) (p r : Fin 4) (c : PlCause), s.dev.laneState l.val = 4 → s.dev.standby = none → (∀ q : Fin 4, s.dev.laneAt q.val = l.val ↔ q = p) → r ≠ p → s.dev.laneAt r.val ≠ 7 → 2 ≤ s.dev.linkState → Completes (.plLaneFault l c) s (fun e => e.laneState l.val = 6
          ∧ e.laneAt p.val = 7
          ∧ e.linkState = 1
          ∧ e.pl.retrain = true
          ∧ e.get (fPlLerrFaults l.val) = min (s.dev.get (fPlLerrFaults l.val) + 1) 0xFFFF))
    ∧ (∀ (l : Fin 5) (p : Fin 4) (now : Fin 5), s.dev.laneState l.val = 5 → s.dev.laneAt p.val = now.val → now ≠ l → (∀ q : Fin 4, s.dev.laneAt q.val = now.val ↔ q = p) → Completes (.plRemapBlock p l) s (fun e => e.laneAt p.val = l.val
          ∧ e.laneState l.val = 4
          ∧ e.laneState now.val = 6))
    ∧ (s.dev.pl.retrain = true → s.dev.pl.adm = [] → s.dev.pl.queue = [] → Completes (.plRetrainEnd) s (fun e => e.pl.retrain = false
          ∧ e.linkState = (if s.dev.positions.length = 4 then 2 else 3)
          ∧ e.get fPlCapCap = capOf s.dev.positions.length
          ∧ e.get (fHalf plReplays) = (if s.dev.pl.replay = [] then s.dev.get (fHalf plReplays) else min (s.dev.get (fHalf plReplays) + 1) 0xFFFF)
          ∧ e.pl.replay = s.dev.pl.replay
          ∧ Device.OnlyRegs [pageStat 0x1B, plCap, plReplays, plVcStat] s.dev e))
    ∧ (∀ (l : Fin 5), s.dev.laneState l.val = 6 → s.dev.on (fPlLctrlEn l.val) = true → s.dev.pl.recorded.getLsbD l.val = false → s.dev.linkState ≠ 0 → Completes (.plLaneRetry l) s (fun e => e.laneState l.val = 1
          ∧ e.pl.retry.getLsbD l.val = true
          ∧ Device.OnlyRegs [plLstat l.val, clkGood, irqStat 0x1B, plMap, repPools] s.dev e))
    ∧ (∀ (l k : Fin 5), s.dev.laneState l.val = 7 → k ≠ l → s.dev.laneState k.val ≠ 0 → s.dev.linkState ≠ 0 → Completes (.plDrainEnd l) s (fun e => e.laneState l.val = (if s.dev.on (fPlLstatEnq l.val) then 1 else 0)
          ∧ e.on (fPlLstatEnq l.val) = false
          ∧ e.on (fPlLstatShuttingDown l.val) = false
          ∧ e.linkState = s.dev.linkState
          ∧ Device.OnlyRegs [plLstat l.val, clkGood, irqStat 0x1B, plMap, repPools] s.dev e))

/-- What the packet link does with packets (R371 … R381): an ACK removes packets from the replay buffer and advances MHEAD past their messages; a NAK and 8 µs without progress send again and are counted; CREDIT adds credits; a bad packet is discarded and counted; a REG_REQ in order is answered with the status and data of each entry; a MSG packet takes the waiting messages of a pushed ring or of a member; a stream packet for which there is no room is dropped and counted; pending routed sources are reported in an INTERRUPT packet. -/
def Obligations.LinkTransfers : Prop :=
  ∀ (s : State), 
    (∀ (seq : BitVec 16) (n : Fin 16) (slots : Nat) (x : PlPacket) (t : List PlPacket), s.dev.NoRemote → s.dev.linkUp = true → s.dev.pl.queue = [] → s.dev.pl.replay = x :: t → x.seq = seq.toNat → x.ring = some (n.val, slots) → x.relay = [] → slots ≤ 65535 → s.dev.man.queue = [] → (s.dev.sess n.val).waiting = [] → Completes (.plAck seq) s (fun e => e.pl.replay = t
          ∧ e.index (ringMhead n.val) = (s.dev.index (ringMhead n.val) + slots) % 65536))
    ∧ (s.dev.NoRemote → s.dev.linkUp = true → s.dev.pl.replay ≠ [] → Completes (.plNak) s (fun e => e.get ⟨plReplays, 31, 16⟩ = min (s.dev.get ⟨plReplays, 31, 16⟩ + 1) 0xFFFF
          ∧ e.get (fHalf plReplays) = min (s.dev.get (fHalf plReplays) + 1) 0xFFFF
          ∧ e.pl.replay = s.dev.pl.replay
          ∧ Device.OnlyRegs [plReplays] s.dev e))
    ∧ (s.dev.NoRemote → s.dev.linkUp = true → s.dev.pl.replay ≠ [] → Completes (.plReplayTimeout) s (fun e => e.get (fHalf plReplays) = min (s.dev.get (fHalf plReplays) + 1) 0xFFFF
          ∧ e.get ⟨plReplays, 31, 16⟩ = s.dev.get ⟨plReplays, 31, 16⟩
          ∧ Device.OnlyRegs [plReplays] s.dev e))
    ∧ (s.dev.NoRemote → s.dev.linkUp = true → s.dev.pl.ackDue = true → Completes (.plAckSend) s (fun e => e.pl.ctl = some (.ack ((s.dev.pl.rxSeq + 65535) % 65536))
          ∧ e.pl.ackDue = false
          ∧ Device.OnlyRegs [] s.dev e))
    ∧ (s.dev.NoRemote → s.dev.linkUp = true → s.dev.pl.creditDue = true → Completes (.plCreditSend) s (fun e => e.pl.ctl = some (.credit s.dev.pl.given)
          ∧ e.pl.creditDue = false
          ∧ Device.OnlyRegs [] s.dev e))
    ∧ (∀ (counts : Vector (BitVec 12) 4), s.dev.NoRemote → s.dev.linkUp = true → s.dev.pl.queue = [] → Completes (.plCredit counts) s (fun e => (∀ v : Fin 4, e.get (fTxCred v.val) = min 65535 (s.dev.get (fTxCred v.val) + ((counts.getD v.val 0).toNat + 4096 - s.dev.pl.peer.getD v.val 0) % 4096))
          ∧ Device.OnlyRegs [plTxcredLo, plTxcredHi, plVcStat] s.dev e))
    ∧ (∀ (v : Fin 4) (x : PlPacket), s.dev.NoRemote → s.dev.linkUp = true → s.dev.vcFront v.val = some x → s.dev.get (fTxCred v.val) < plCost x.blocks → x.since + 102400 ≤ s.dev.stamp → Completes (.plCreditStall v) s (fun e => Device.raised 0x1B 4 s.dev e
          ∧ Device.OnlyRegs [irqStat 0x1B] s.dev e))
    ∧ (∀ (v : Fin 4) (len : BitVec 16) (why : PlDefect), s.dev.NoRemote → s.dev.linkUp = true → Completes (.plBadPacket v len why) s (fun e => e.get fPlDropsRx = min (s.dev.get fPlDropsRx + 1) 0xFFFF
          ∧ e.pl.given.getD v.val 0 = (s.dev.pl.given.getD v.val 0 + plCost (1 + (24 + len.toNat) / 8)) % 4096
          ∧ e.pl.creditDue = true
          ∧ (why = .crc → e.pl.ctl = some (.nak s.dev.pl.rxSeq) ∧ e.pl.rxSeq = s.dev.pl.rxSeq)
          ∧ (why = .other → e.pl.rxSeq = (s.dev.pl.rxSeq + 1) % 65536 ∧ e.pl.ackDue = true)
          ∧ Device.OnlyRegs [plDrops] s.dev e))
    ∧ (∀ (seq tag : BitVec 16) (word : BitVec 24) (data : Word), s.dev.NoRemote → s.dev.linkUp = true → s.dev.pl.queue = [] → s.dev.get (fTxCred 0) = 0 → seq.toNat = s.dev.pl.rxSeq → (4 * word.toNat) < 0x0100000 → Completes (.regReq seq tag 0 [RegEntry.mk 0 word data]) s (fun e => e.pl.reqs = []
          ∧ e.pl.rxSeq = (s.dev.pl.rxSeq + 1) % 65536
          ∧ e.pl.ackDue = true
          ∧ e.pl.queue.map (fun x : PlPacket => (x.type, x.vc, x.tag, x.payload)) = [(0x02, 0, tag.toNat, le16 0 ++ [1, 0, 0, 0, 0, 0] ++ leBytes 4 ((4 * word.toNat) + statusOf (s.dev.windowRead (4 * word.toNat)).2.1 * 2 ^ 26) ++ leBytes 4 (s.dev.windowRead (4 * word.toNat)).1.toNat)]))
    ∧ (∀ (seq tag device : BitVec 16) (entries : List RegEntry), (s.dev.linkUp = false ∨ seq.toNat ≠ s.dev.pl.rxSeq) → exec (.regReq seq tag device entries) s = .next { s with dev := s.dev.settle })
    ∧ (∀ (r : PlReq) (x : PlEntry), s.dev.kl.reqs = [] → s.dev.linkUp = true → s.dev.pl.queue = [] → s.dev.get (fTxCred 0) = 0 → s.dev.pl.reqs = [r] → r.wait = .wpend → r.entries = [x] → r.done = [] → r.device = 0 → Completes (.regReqWaitEnd) s (fun e => e.pl.reqs = []
          ∧ e.pl.queue.map (fun x : PlPacket => (x.type, x.vc, x.tag, x.payload)) = [(0x02, 0, r.tag, le16 0 ++ [1, 0, 0, 0, 0, 0] ++ leBytes 4 (x.op * 2 ^ 30 + x.addr + (if s.dev.writesPend (x.addr / 4096) then 5 else 0) * 2 ^ 26) ++ leBytes 4 0)]))
    ∧ (∀ (n : Fin 16), s.dev.NoRemote → s.dev.linkUp = true → s.dev.pl.queue = [] → s.dev.get (fTxCred 2) = 0 → s.dev.on ⟨plMsgCfg, n.val, n.val⟩ = true → (s.dev.nextMsgs n.val 8192 128) ≠ [] → Completes (.msgPacketSend (some n)) s (fun e => e.pl.queue.map (fun x : PlPacket => (x.type, x.vc, x.payload, x.ring)) = [(0x11, 2, msgPayload s.dev.deviceNumber (s.dev.nextMsgs n.val 8192 128).length (s.dev.nextMsgs n.val 8192 128).flatten, some (n.val, (s.dev.nextMsgs n.val 8192 128).flatten.length / 64))]
          ∧ e.ringSent.getD n.val 0 = s.dev.ringSent.getD n.val 0 + (s.dev.nextMsgs n.val 8192 128).flatten.length / 64
          ∧ Device.OnlyRegs [plVcStat] s.dev e))
    ∧ (∀ (m : Nat × List Byte × Nat × Nat), s.dev.NoRemote → s.dev.linkUp = true → s.dev.pl.queue = [] → s.dev.get (fTxCred 2) = 0 → s.dev.kl.accepted = [m] → m.2.1.length ≤ 8192 → Completes (.msgPacketSend none) s (fun e => e.kl.accepted = []
          ∧ e.pl.queue.map (fun x : PlPacket => (x.type, x.vc, x.payload)) = [(0x11, 2, msgPayload m.1 (wholeMessages 128 m.2.1).length m.2.1)]
          ∧ e.pl.queue.map PlPacket.relay = [[m]]
          ∧ Device.OnlyRegs [plVcStat] s.dev e))
    ∧ (∀ (samples : List Word) (tide : BitVec 64), s.dev.NoRemote → s.dev.linkUp = true → s.dev.pl.adm.contains .path = true → Completes (.streamPacket (.path samples) tide true) s (fun e => e.get fPlDropsStream = min (s.dev.get fPlDropsStream + 1) 0xFFFF
          ∧ e.pl.pathTag = (s.dev.pl.pathTag + 1) % 65536
          ∧ Device.raised 0x1B 3 s.dev e
          ∧ e.pl.queue = s.dev.pl.queue
          ∧ Device.OnlyRegs [plDrops, irqStat 0x1B, plStreamStat] s.dev e))
    ∧ (∀ (samples : List Word) (tide : BitVec 64), s.dev.NoRemote → s.dev.linkUp = true → s.dev.pl.queue = [] → s.dev.get (fTxCred 3) = 0 → s.dev.pl.adm.contains .path = true → Completes (.streamPacket (.path samples) tide false) s (fun e => e.pl.pathTag = (s.dev.pl.pathTag + 1) % 65536
          ∧ e.pl.queue.map (fun x : PlPacket => (x.type, x.vc, x.tag, x.tide, x.payload)) = [(0x20, 3, s.dev.pl.pathTag, tide.toNat, (s.dev.pathSamples (samples.take 2048)).flatMap (fun w => leBytes 4 w.toNat))]
          ∧ Device.OnlyRegs [plVcStat] s.dev e))
    ∧ (∀ (w : RegWrite), s.dev.NoRemote → s.dev.applies plStreamCtrl w.value w.be = true → w.be = 0xF#4 → w.value.getLsbD 0 = true → w.value.getLsbD 4 = false → s.dev.on fPlStreamCtrlPathEn = false → s.dev.on fPlStreamCtrlBeamEn = false → s.dev.pl.adm = [] → 49344 ≤ s.dev.plBudget → Completes (.streamCtrlWrite w) s (fun e => e.on fPlStreamCtrlPathEn = true
          ∧ e.on fPlStreamStatPathOn = true
          ∧ e.get ⟨plAdmitted, 16, 0⟩ = 49344
          ∧ e.pl.adm = [.path]
          ∧ e.pl.pathTag = 0))
    ∧ (∀ (w : RegWrite), s.dev.NoRemote → s.dev.applies plStreamCtrl w.value w.be = true → w.be = 0xF#4 → w.value.getLsbD 0 = true → w.value.getLsbD 4 = false → s.dev.on fPlStreamCtrlPathEn = false → s.dev.on fPlStreamCtrlBeamEn = false → s.dev.pl.adm = [] → s.dev.plBudget < 49344 → Completes (.streamCtrlWrite w) s (fun e => e.on fPlStreamCtrlPathEn = false
          ∧ e.on fPlStreamStatPathOn = false
          ∧ e.get fPlStreamStatReason = 0x13
          ∧ e.pl.adm = []
          ∧ Device.raised 0x1B 2 s.dev e))
    ∧ (s.dev.NoRemote → s.dev.linkUp = true → s.dev.pl.queue = [] → s.dev.get (fTxCred 1) = 0 → s.dev.linkNew ≠ 0 → s.dev.pl.lastInt = none → Completes (.interruptPacket) s (fun e => e.pl.lastInt = some s.dev.stamp
          ∧ e.pl.queue.map (fun x : PlPacket => (x.type, x.vc, x.payload)) = [(0x10, 1, s.dev.message 0x09 0 0 s.dev.stamp (leBytes 8 s.dev.linkSeen.toNat ++ leBytes 8 s.dev.linkNew.toNat))]
          ∧ Device.OnlyRegs [plVcStat] s.dev e))

/-! ### Reset, start-up, option memory and the watchdog -/

/-- Reset sources (R385, R386, R387, R388, R390, R403, R409): each sets its bit of CAUSE, holds the islands and takes RSTOUT_N low; one of FULL reach leaves the memories empty and every session, carrier and path OFF; one of CORE reach keeps SRAM, the straps, the identity, SYNTH_S's lock and the profile until its release; AON power-on resets the RTC too and leaves CAUSE at AON_POR and POR; a brown-out adds its rails; when the last source releases, the release sequence of the widest reach begins and is counted; the watchdog resets only where it is enabled. -/
def Obligations.ResetReaches : Prop :=
  ∀ (s : State), s.dev.NoRemote →
    (s.dev.rst.asserted = [] → Completes (.rstPin) s (fun e => e.rst.step = .inReset
          ∧ e.rst.rstoutHigh = false
          ∧ (∀ k : Fin 4, (e.island k.val).held = true)
          ∧ e.post = []
          ∧ (∀ n : Fin 16, e.sesState n.val = 0)
          ∧ (∀ c : Fin 4, e.carState c.val = 0)
          ∧ (∀ p : Fin 64, e.pathState p.val = 0)
          ∧ e.rst.full = true
          ∧ e.rst.asserted = [.rstPin]
          ∧ e.rd rstCause = s.dev.rd rstCause ||| 8#32
          ∧ e.sram = []
          ∧ (s.dev.optRun = 0 → e.opt = s.dev.opt)
          ∧ e.on fSynStatPLock = false
          ∧ e.rtc = s.dev.rtc))
    ∧ (s.dev.rst.asserted = [] → Completes (.thermalShutdown) s (fun e => e.rst.step = .inReset
          ∧ e.rst.rstoutHigh = false
          ∧ (∀ k : Fin 4, (e.island k.val).held = true)
          ∧ e.post = []
          ∧ (∀ n : Fin 16, e.sesState n.val = 0)
          ∧ (∀ c : Fin 4, e.carState c.val = 0)
          ∧ (∀ p : Fin 64, e.pathState p.val = 0)
          ∧ e.rst.full = true
          ∧ e.rst.asserted = [.thermal]
          ∧ e.rd rstCause = s.dev.rd rstCause ||| 16#32
          ∧ e.sram = []
          ∧ (s.dev.optRun = 0 → e.opt = s.dev.opt)))
    ∧ (s.dev.rst.asserted = [] → Completes (.powerOnReset) s (fun e => e.rst.step = .inReset
          ∧ e.rst.rstoutHigh = false
          ∧ (∀ k : Fin 4, (e.island k.val).held = true)
          ∧ e.post = []
          ∧ (∀ n : Fin 16, e.sesState n.val = 0)
          ∧ (∀ c : Fin 4, e.carState c.val = 0)
          ∧ (∀ p : Fin 64, e.pathState p.val = 0)
          ∧ e.rst.full = true
          ∧ e.rst.asserted = [.por]
          ∧ e.rd rstCause = s.dev.rd rstCause ||| 2#32
          ∧ e.sram = []
          ∧ e.pwr.phase = .laidUp
          ∧ (s.dev.optRun = 0 → e.opt = s.dev.opt)))
    ∧ (∀ (rails : BitVec 9), s.dev.rst.asserted = [] → Completes (.brownOut rails) s (fun e => e.rst.step = .inReset
          ∧ e.rst.rstoutHigh = false
          ∧ (∀ k : Fin 4, (e.island k.val).held = true)
          ∧ e.post = []
          ∧ (∀ n : Fin 16, e.sesState n.val = 0)
          ∧ (∀ c : Fin 4, e.carState c.val = 0)
          ∧ (∀ p : Fin 64, e.pathState p.val = 0)
          ∧ e.rst.full = true
          ∧ e.get fRstCauseSource = (s.dev.rd rstCause ||| 4#32).toNat % 256
          ∧ e.get fRstCauseRail = (s.dev.get fRstCauseRail ||| rails.toNat)
          ∧ e.sram = []))
    ∧ (s.dev.rst.asserted = [] → Completes (.aonPowerOn) s (fun e => e.rst.step = .inReset
          ∧ e.rst.rstoutHigh = false
          ∧ (∀ k : Fin 4, (e.island k.val).held = true)
          ∧ e.post = []
          ∧ (∀ n : Fin 16, e.sesState n.val = 0)
          ∧ (∀ c : Fin 4, e.carState c.val = 0)
          ∧ (∀ p : Fin 64, e.pathState p.val = 0)
          ∧ e.rst.full = true
          ∧ e.rst.asserted = [.aonPor]
          ∧ e.rd rstCause = 3#32
          ∧ e.sram = []
          ∧ e.rtc = {}
          ∧ e.sec.fails = 0
          ∧ e.sec.sealed = s.dev.sec.sealed
          ∧ (s.dev.optRun = 0 → e.opt = s.dev.opt)))
    ∧ (s.dev.rst.asserted = [] → s.dev.on fRstWdogCfgEn = true → s.dev.frozen = false → s.dev.rst.step = .done → s.dev.optRun = 0 → Completes (.watchdogExpiry) s (fun e => e.rst.step = .inReset
          ∧ e.rst.rstoutHigh = false
          ∧ (∀ k : Fin 4, (e.island k.val).held = true)
          ∧ e.post = []
          ∧ (∀ n : Fin 16, e.sesState n.val = 0)
          ∧ (∀ c : Fin 4, e.carState c.val = 0)
          ∧ (∀ p : Fin 64, e.pathState p.val = 0 ∨ e.pathDead p.val = true)
          ∧ e.sram = s.dev.sram
          ∧ e.rd rstStraps = s.dev.rd rstStraps
          ∧ e.rd sysIdentLo = s.dev.rd sysIdentLo
          ∧ e.on fSynStatSLock = s.dev.on fSynStatSLock
          ∧ e.profile = s.dev.profile
          ∧ e.rst.full = false
          ∧ e.rd rstCause = s.dev.rd rstCause ||| 32#32))
    ∧ (s.dev.on fRstWdogCfgEn = false → exec (.watchdogExpiry) s = .next { s with dev := s.dev.settle })
    ∧ (s.dev.on fRstWdogCfgEn = true → s.dev.frozen = false → Completes (.watchdogWarn) s (fun e => e.get ⟨rstWdogLeft, 15, 0⟩ = s.dev.get fRstWdogCfgPeriod / 2
          ∧ Device.raised 0x01 0 s.dev e
          ∧ Device.OnlyRegs [rstWdogLeft, irqStat 0x01] s.dev e))
    ∧ (s.dev.applies sysCtrl (fSysCtrlChipRst.set 0 1) 0xF#4 = true → s.dev.rst.asserted = [] → s.dev.rst.step = .done → s.dev.optRun = 0 → Completes (.chipRst) s (fun e => e.rst.step = .inReset
          ∧ e.rst.rstoutHigh = false
          ∧ (∀ k : Fin 4, (e.island k.val).held = true)
          ∧ e.post = []
          ∧ (∀ n : Fin 16, e.sesState n.val = 0)
          ∧ (∀ c : Fin 4, e.carState c.val = 0)
          ∧ (∀ p : Fin 64, e.pathState p.val = 0 ∨ e.pathDead p.val = true)
          ∧ e.sram = s.dev.sram
          ∧ e.rd rstStraps = s.dev.rd rstStraps
          ∧ e.rd sysIdentLo = s.dev.rd sysIdentLo
          ∧ e.on fSynStatSLock = s.dev.on fSynStatSLock
          ∧ e.profile = s.dev.profile
          ∧ e.rst.full = false
          ∧ e.rst.asserted = [.chipRst]
          ∧ e.rd rstCause = s.dev.rd rstCause ||| 128#32))
    ∧ (∀ (h : KlHead) (subtree : Bool), s.dev.rst.asserted = [] → s.dev.rst.step = .done → s.dev.optRun = 0 → s.dev.portLive h.port.val = true → (s.dev.port h.port.val).rxSeq = some h.seq.toNat → Completes (.resetFrame h .here subtree) s (fun e => e.rst.step = .inReset
          ∧ e.rst.rstoutHigh = false
          ∧ (∀ k : Fin 4, (e.island k.val).held = true)
          ∧ e.post = []
          ∧ (∀ n : Fin 16, e.sesState n.val = 0)
          ∧ (∀ c : Fin 4, e.carState c.val = 0)
          ∧ (∀ p : Fin 64, e.pathState p.val = 0 ∨ e.pathDead p.val = true)
          ∧ e.sram = s.dev.sram
          ∧ e.rd rstStraps = s.dev.rd rstStraps
          ∧ e.rd sysIdentLo = s.dev.rd sysIdentLo
          ∧ e.on fSynStatSLock = s.dev.on fSynStatSLock
          ∧ e.profile = s.dev.profile
          ∧ e.rst.full = false
          ∧ e.rst.asserted = [.cascade]
          ∧ e.rd rstCause = s.dev.rd rstCause ||| 64#32))
    ∧ (s.dev.rst.asserted ≠ [] → s.dev.rst.full = true → s.dev.rst.asserted.contains .aonPor = false → s.dev.pwr.phase ≠ .laidUp → Completes (.resetSourcesRelease) s (fun e => e.rst.asserted = []
          ∧ e.rst.step = .straps
          ∧ e.get fRstStatLastReach = 1
          ∧ e.get fRstStatResets = min (s.dev.get fRstStatResets + 1) 0xFFFF
          ∧ Device.OnlyRegs [rstStat] s.dev e))
    ∧ (s.dev.rst.asserted ≠ [] → s.dev.rst.full = false → s.dev.rst.asserted.contains .aonPor = false → s.dev.pwr.phase ≠ .laidUp → Completes (.resetSourcesRelease) s (fun e => e.rst.asserted = []
          ∧ e.rst.step = .pilotRelease
          ∧ e.get fRstStatLastReach = 2
          ∧ ((s.dev.island 1).held = true → (e.island 1).pending = true)
          ∧ e.klRole = (strapRole (s.dev.strap 0)).1))
    ∧ (s.dev.rst.past100 = false → Completes (.rstoutNHigh) s (fun e => e.rst.past100 = true
          ∧ e.rst.rstoutHigh = !(s.dev.island 0).held
          ∧ Device.OnlyRegs [] s.dev e))

/-- Start-up (R389, R393, R394, R398, R399, R400, R406, R408, R412): straps are sampled into STRAPS and set role and reference; SYNTH_P's lock leads to the pilot island's release; an island is released once it was asked for and its clock is good; the option load takes the identity, initialises the banks and asks for the other releases; the boot image of the slot, or of the other slot, is taken into every pilot area, or BOOT fails; a clock that goes bad shows in CLK.GOOD. -/
def Obligations.StartUp : Prop :=
  ∀ (s : State), s.dev.NoRemote →
    (∀ (codes : Vector (Fin 16) 8) (unstable : BitVec 8), s.dev.rst.step = .straps → Completes (.strapSampleDone codes unstable) s (fun e => e.rst.step = .synthP
          ∧ (∀ k : Fin 8, bitsOf (e.rd rstStraps) (4 * k.val + 3) (4 * k.val) = (codes.getD k.val 0).val)
          ∧ e.get fRstStrapFlagsUnstable = unstable.toNat
          ∧ e.klRole = (strapRole (strapCode 0 (codes.getD 0 0).val)).1
          ∧ e.get fClkRefRefSel = (codes.getD 4 0).val % 4
          ∧ e.get fKlStatSync = (if 2 ≤ e.klRole then 1 else 0)
          ∧ (∀ l : Fin 5, e.on (fPlLctrlEn l.val) = (decide ((codes.getD 5 0).val = 1) || decide ((codes.getD 5 0).val = 2)))))
    ∧ (s.dev.rst.asserted = [] → s.dev.rst.step = .synthP → bitsOf (s.dev.rd rstStraps) 19 16 < 4 → s.dev.on fSynStatPLock = false → s.dev.pwr.phase = .awake → (s.dev.island 1).held = true → Completes (.synthPLock) s (fun e => e.rst.step = .pilotRelease
          ∧ e.on fSynStatPLock = true
          ∧ e.on fClkGoodPilot = true
          ∧ e.on fClkRefRefPresent = true
          ∧ (e.island 1).pending = true
          ∧ Device.raised 0x1D 0 s.dev e
          ∧ Device.OnlyRegs [synStat, clkGood, clkRef, irqStat 0x1D] s.dev e))
    ∧ (s.dev.on fSynStatPLock = true → Completes (.synthPLockLoss) s (fun e => e.on fSynStatPLock = false
          ∧ e.on fClkGoodPilot = false
          ∧ e.get fSynStatLosses = min (s.dev.get fSynStatLosses + 1) 0xFF
          ∧ Device.OnlyRegs [synStat, clkGood, irqStat 0x1D] s.dev e))
    ∧ (∀ (n : Nat), (s.dev.island 1).held = true → (s.dev.island 1).pending = true → s.dev.clockGood 1 = true → s.dev.pwr.phase ≠ .exiting → s.dev.pwr.bridging = false → Completes (.islandRelease (.island 1 n)) s (fun e => (e.island 1).held = false
          ∧ e.rst.step = .optionLoad))
    ∧ (∀ (n : Nat), (s.dev.island 0).held = true → (s.dev.island 0).pending = true → s.dev.clockGood 0 = true → s.dev.pwr.phase ≠ .exiting → s.dev.pwr.bridging = false → Completes (.islandRelease (.island 0 n)) s (fun e => (e.island 0).held = false
          ∧ e.rst.rstoutHigh = s.dev.rst.past100
          ∧ e.rst.step = s.dev.rst.step))
    ∧ (∀ (k : Fin 4) (n : Nat), (s.dev.island k.val).held = true → s.dev.clockGood k.val = false → exec (.islandRelease (.island k n)) s = .next { s with dev := s.dev.settle })
    ∧ (∀ (n : Nat), (s.dev.island 2).held = true → (s.dev.island 2).pending = true → s.dev.clockGood 2 = true → s.dev.pwr.phase ≠ .exiting → s.dev.pwr.bridging = false → Completes (.islandRelease (.island 2 n)) s (fun e => (e.island 2).held = false
          ∧ e.tide = 0))
    ∧ (∀ (p : Fin 256), s.dev.on (fPsReleasePending p.val) = true → s.dev.pageClock p.val = true → (s.dev.island (islandOf p.val)).held = false → s.dev.on (fPcEn p.val) = false → Completes (.islandRelease (.block p)) s (fun e => e.on (fPsReleasePending p.val) = false
          ∧ Device.OnlyRegs [pageStat p.val] s.dev e))
    ∧ (∀ (k : Fin 5) (good : Bool), 2 ≤ k.val → k.val ≤ 3 → (s.dev.rst.sLockedOnce = true ∨ good = false) → Completes (.clockGoodChange k good) s (fun e => e.on ⟨clkGood, k.val, k.val⟩ = good
          ∧ Device.OnlyRegs [clkGood] s.dev e))
    ∧ (s.dev.rst.step = .optionLoad → s.dev.rst.full = true → s.dev.klRole = 0 → (s.dev.island 0).held = true → (s.dev.island 2).held = true → (s.dev.island 3).held = true → Completes (.optionLoadComplete) s (fun e => e.rst.step = .done
          ∧ e.sram = []
          ∧ e.opt = s.dev.opt
          ∧ (e.island 0).pending = true
          ∧ (e.island 2).pending = true
          ∧ (e.island 3).pending = true
          ∧ e.rd sysIdentLo = BitVec.ofNat 32 (readLe onesByte s.dev.opt 0 4)
          ∧ e.get fSysStatBoot = (if 4 ≤ e.get fSysStatSource then 3 else 0)
          ∧ e.on fOptStatSealed = s.dev.sec.sealed))
    ∧ (∀ (a b : List Byte) (x : SfdpResult), s.dev.get fSysStatBoot = 0 → s.dev.rst.step = .done → (s.dev.island 1).held = false → s.dev.get fSysStatSource < 2 → s.dev.wornCheck ((padTo 65536 a).take 65536) 1 65536 = 1 → s.dev.get fSysStatSource = 0 → (∀ p : Fin 20, s.dev.pilState p.val = 0) → Completes (.bootImageDone a b x) s (fun e => e.get fSysStatBoot = 1
          ∧ e.get fSysStatSlot = 0
          ∧ (∀ p : Fin 20, e.pilState p.val = (if p.val < 16 then 5 else 4) ∧ e.get (fPilStatResult p.val) = 1)
          ∧ (∀ n : Fin 16, e.get (fSesStatPilot n.val) = n.val)))
    ∧ (∀ (a b : List Byte) (x : SfdpResult), s.dev.get fSysStatBoot = 0 → s.dev.rst.step = .done → (s.dev.island 1).held = false → s.dev.get fSysStatSource < 2 → s.dev.wornCheck ((padTo 65536 a).take 65536) 1 65536 ≠ 1 → s.dev.wornCheck ((padTo 65536 b).take 65536) 1 65536 ≠ 1 → Completes (.bootImageDone a b x) s (fun e => e.get fSysStatBoot = 2
          ∧ (∀ p : Fin 20, e.pilState p.val = s.dev.pilState p.val)))

/-- The OPT page (R403, R404, R413): PROGRAM runs, and ends with the sector holding SECT_BUF, every other byte as it was; a failed verify shows RESULT 10 and leaves the sector's 64 bytes open; APPLY of an image that its checks refuse ends at once with their RESULT and programs nothing; an applied image has programmed its records in order; DATA reads the word at ADDR, which moves on, as IMG_DATA does in the staging buffer. A kick reloads the watchdog (R395). -/
def Obligations.OptionMemory : Prop :=
  ∀ (s : State), s.dev.NoRemote →
    (s.dev.applies optCmd (fOptCmdAction.set 0 1) 0xF#4 = true → Completes (.optProgram) s (fun e => e.optRun = 1
          ∧ e.on fOptStatBusy = true
          ∧ e.opt = s.dev.opt
          ∧ Device.OnlyRegs [hbusStat, pageStat 0x07, secIdleLeft, optStat] s.dev e))
    ∧ (s.dev.optRun = 1 → Completes (.optProgramDone true) s (fun e => (∀ k : Fin 64, storeGet onesByte e.opt (64 * (s.dev.rd optSector).toNat + k.val) = s.dev.sectBuf.getD k.val 0)
          ∧ (∀ k : Fin 8192, k.val < 64 * (s.dev.rd optSector).toNat ∨ 64 * (s.dev.rd optSector).toNat + 64 ≤ k.val → storeGet onesByte e.opt k.val = storeGet onesByte s.dev.opt k.val)
          ∧ e.optRun = 0
          ∧ e.on fOptStatBusy = false
          ∧ e.get fOptStatResult = 1
          ∧ Device.OnlyFields [optStat] s.dev e
          ∧ Device.SramOutside (fun _ => false) s.dev e))
    ∧ (s.dev.optRun = 1 → Completes (.optProgramDone false) s (fun e => (∀ k : Fin 8192, k.val < 64 * (s.dev.rd optSector).toNat ∨ 64 * (s.dev.rd optSector).toNat + 64 ≤ k.val → storeGet onesByte e.opt k.val = storeGet onesByte s.dev.opt k.val)
          ∧ e.optRun = 0
          ∧ e.get fOptStatResult = 10
          ∧ Device.OnlyFields [optStat] s.dev e
          ∧ Device.SramOutside (fun _ => false) s.dev e))
    ∧ (s.dev.applies optCmd (fOptCmdAction.set 0 2) 0xF#4 = true → s.dev.optCheck ≠ 1 → Completes (.optApply) s (fun e => e.get fOptStatResult = s.dev.optCheck % 256
          ∧ e.on fOptStatBusy = false
          ∧ e.optRun = 0
          ∧ Device.OnlyRegs [hbusStat, pageStat 0x07, secIdleLeft, optStat] s.dev e))
    ∧ (s.dev.applies optCmd (fOptCmdAction.set 0 2) 0xF#4 = true → s.dev.optCheck = 1 → Completes (.optApply) s (fun e => e.on fOptStatBusy = true
          ∧ e.optRun = 2
          ∧ Device.OnlyRegs [hbusStat, pageStat 0x07, secIdleLeft, optStat] s.dev e))
    ∧ (s.dev.optRun = 2 → Completes (.optApplyDone none) s (fun e => e.opt = s.dev.optImageRecords.foldl (fun o r => writeBytes onesByte o r.1 r.2.2) s.dev.opt
          ∧ e.optRun = 0
          ∧ e.get fOptStatResult = 1
          ∧ Device.OnlyFields [optStat] s.dev e
          ∧ Device.SramOutside (fun _ => false) s.dev e))
    ∧ (s.dev.hostReady = true → s.dev.pwr.phase = .awake → s.dev.pageOff 0x07 = false → s.dev.pageInReset 0x07 = false → s.dev.optRun = 0 → Completes (.optDataRead) s (fun e => e.hd = s.dev.optWord
          ∧ e.rd optAddr = BitVec.ofNat 32 ((bitsOf (s.dev.rd optAddr) 11 0 + 1) % 4096)
          ∧ Device.OnlyRegs [optAddr] s.dev e))
    ∧ (s.dev.hostReady = true → s.dev.pwr.phase = .awake → s.dev.pageOff 0x07 = false → s.dev.pageInReset 0x07 = false → s.dev.optRun = 0 → Completes (.optImgDataAccess none) s (fun e => e.hd = s.dev.stagingWord
          ∧ e.rd optImgAddr = BitVec.ofNat 32 ((bitsOf (s.dev.rd optImgAddr) 10 0 + 1) % 2048)
          ∧ Device.OnlyRegs [optImgAddr] s.dev e))
    ∧ (∀ (w : RegWrite), s.dev.applies optImgData w.value w.be = true → w.be = 0xF#4 → Completes (.optImgDataAccess (some w)) s (fun e => readLe zeroByte e.optStage (4 * bitsOf (s.dev.rd optImgAddr) 10 0) 4 = w.value.toNat
          ∧ e.rd optImgAddr = BitVec.ofNat 32 ((bitsOf (s.dev.rd optImgAddr) 10 0 + 1) % 2048)
          ∧ Device.OnlyRegs [hbusStat, pageStat 0x07, secIdleLeft, optImgAddr, optImgData] s.dev e))
    ∧ (s.dev.applies rstWdogKick (fRstWdogKickKey.set 0 0xA5) 0xF#4 = true → Completes (.watchdogKick) s (fun e => e.get ⟨rstWdogLeft, 15, 0⟩ = s.dev.get fRstWdogCfgPeriod
          ∧ Device.OnlyRegs [hbusStat, pageStat 0x01, secIdleLeft, rstWdogLeft] s.dev e))

/-! ### Power, harbour watch, the real-time clock and the timers -/

/-- Sleep (R414, R416, R418 … R424, R457): an accepted MOOR or LAY_UP clears the edge latches; at PREPARE's end the tide is latched and ports and lanes are stopped; from the entry window on the host island is off; at its end the islands are held and what is not retained reads 0, and the device is MOORED, LAID_UP or, with a wake source seen, on its way out at once; an enabled edge is latched before the window, lost and counted in it, and wakes a moored device; the exit shows its source and asks for every release. -/
def Obligations.SleepAndWake : Prop :=
  ∀ (s : State), s.dev.NoRemote →
    (s.dev.applies pwrCmd (fPwrCmdAction.set 0 1) 0xF#4 = true → Completes (.pwrMoor) s (fun e => e.pwr.phase = .prepare
          ∧ e.pwr.layUp = false
          ∧ e.pwr.latched = 0
          ∧ e.get fPwrStatState = 2
          ∧ Device.OnlyRegs [hbusStat, pageStat 0x03, secIdleLeft, pwrStat, irqStat 0x03] s.dev e))
    ∧ (s.dev.applies pwrCmd (fPwrCmdAction.set 0 2) 0xF#4 = true → Completes (.pwrLayUp) s (fun e => e.pwr.phase = .prepare
          ∧ e.pwr.layUp = true
          ∧ e.pwr.latched = 0
          ∧ e.get fPwrStatState = 2
          ∧ Device.OnlyRegs [hbusStat, pageStat 0x03, secIdleLeft, pwrStat, irqStat 0x03] s.dev e))
    ∧ (s.dev.pwr.phase = .prepare → Completes (.prepareDone) s (fun e => e.pwr.phase = .prepared
          ∧ e.pwr.t0 = s.dev.tide
          ∧ e.pwr.bridging = true
          ∧ e.pwr.eStart = s.dev.getS fRtcRateE
          ∧ (∀ k : Fin 5, e.portState k.val = 0)
          ∧ (∀ l : Fin 5, e.laneState l.val = 0)))
    ∧ (s.dev.pwr.phase = .prepared → Completes (.entryWindowOpen) s (fun e => e.pwr.phase = .window
          ∧ (e.island 0).held = true
          ∧ e.bus = none))
    ∧ (s.dev.pwr.phase = .window → s.dev.pwr.layUp = false → s.dev.pwr.latched = 0 → s.dev.wakeLevels = 0 → Completes (.entryWindowClose) s (fun e => e.pwr.phase = .moored
          ∧ (∀ i : Fin 4, (e.island i.val).held = true)
          ∧ e.get fPwrStatLast = 1
          ∧ e.get fPwrCountsMoorings = min (s.dev.get fPwrCountsMoorings + 1) 0xFFFF
          ∧ e.on fSynStatPLock = false))
    ∧ (s.dev.pwr.phase = .window → s.dev.pwr.layUp = false → s.dev.pwr.latched ≠ 0 → Completes (.entryWindowClose) s (fun e => e.pwr.phase = .exiting
          ∧ e.on fPwrWakeSrcAtEntry = true
          ∧ e.get fPwrWakeSrcSource = (s.dev.get fPwrWakeSrcSource ||| (s.dev.pwr.latched ||| s.dev.wakeLevels).toNat)
          ∧ (e.island 1).pending = true
          ∧ (e.island 0).pending = true))
    ∧ (s.dev.pwr.phase = .window → s.dev.pwr.layUp = true → Completes (.entryWindowClose) s (fun e => e.pwr.phase = .laidUp
          ∧ e.get fPwrStatLast = 2
          ∧ e.watch = {}
          ∧ e.get fWatchStatState = 0))
    ∧ ((s.dev.rd pwrWakeEn).getLsbD 8 = true → (s.dev.pwr.phase = .prepare ∨ s.dev.pwr.phase = .prepared) → Completes (.wakeInputEvent .sspsSelect) s (fun e => e.pwr.latched = s.dev.pwr.latched ||| 0x100#11
          ∧ e.pwr.phase = s.dev.pwr.phase
          ∧ Device.OnlyRegs [] s.dev e))
    ∧ ((s.dev.rd pwrWakeEn).getLsbD 9 = true → s.dev.pwr.phase = .window → Completes (.wakeInputEvent .laneSignal) s (fun e => e.get fPwrCountsLostEdges = min (s.dev.get fPwrCountsLostEdges + 1) 0xFFFF
          ∧ e.pwr = s.dev.pwr
          ∧ Device.OnlyRegs [pwrCounts] s.dev e))
    ∧ (∀ (k : Fin 4) (high : Bool), (s.dev.rd pwrWakeEn).getLsbD k.val = true → s.dev.pwr.phase = .moored → s.dev.wakePin k.val ≠ high → s.dev.wakeMode k.val = (if high then 2 else 3) → Completes (.wakeInputEvent (.pin k high)) s (fun e => e.wakePin k.val = high
          ∧ e.pwr.edges.getLsbD k.val = true
          ∧ Device.OnlyRegs [pinsLevels] s.dev e))
    ∧ (s.dev.pwr.phase = .moored → (s.dev.rd pwrSleepTimer).toNat % 2 ^ 24 ≠ 0 → (s.dev.rd pwrWakeEn).getLsbD 5 = true → Completes (.sleepTimerExpiry) s (fun e => e.pwr.edges = s.dev.pwr.edges ||| 0x20#11
          ∧ Device.OnlyRegs [] s.dev e))
    ∧ (∀ (cycles : Nat), s.dev.pwr.phase = .moored → (s.dev.pwr.edges ||| s.dev.wakeLevels) ≠ 0 → (∀ i : Fin 4, (s.dev.island i.val).held = true) → Completes (.wakeRecognised cycles) s (fun e => e.pwr.phase = .exiting
          ∧ e.get fPwrWakeSrcSource = (s.dev.get fPwrWakeSrcSource ||| (s.dev.pwr.edges ||| s.dev.wakeLevels).toNat)
          ∧ e.rd pwrLastSleep = BitVec.ofNat 32 (min cycles (2 ^ 32 - 1))
          ∧ (∀ i : Fin 4, (e.island i.val).pending = true)
          ∧ e.pwr.edges = 0
          ∧ Device.OnlyRegs [pwrWakeSrc, pwrLastSleep, rstWdogLeft] s.dev e))
    ∧ (∀ (cycles : Nat), s.dev.pwr.phase ≠ .moored → exec (.wakeRecognised cycles) s = .next { s with dev := s.dev.settle })

/-- Harbour watch (R425, R426, R428): EN = 1 starts LEARNING, EN = 0 leads to OFF, at the end of a look in progress; LEARN looks give the baseline and lead to WATCHING; CONFIRM looks within THR of the baseline in running lead to DETECTED, which is counted and raises an interrupt; looks beyond THR by the hysteresis lead back; a look while a carrier is on is abandoned. -/
def Obligations.HarbourWatch : Prop :=
  ∀ (s : State), s.dev.NoRemote →
    (s.dev.applies (Fld.reg fWatchCtrlEn) (fWatchCtrlEn.set (s.dev.mirrored (Fld.reg fWatchCtrlEn)) 1) 0xF#4 = true → s.dev.watchState = 0 → s.dev.watchBarred = false → Completes (.watchEnable) s (fun e => e.watchState = 1
          ∧ e.on fWatchCtrlEn = true
          ∧ e.watch.looks = 0
          ∧ Device.OnlyFields [hbusStat, pageStat 0x1E, secIdleLeft, watchCtrl, watchStat] s.dev e))
    ∧ (s.dev.applies (Fld.reg fWatchCtrlEn) (fWatchCtrlEn.set (s.dev.mirrored (Fld.reg fWatchCtrlEn)) 0) 0xF#4 = true → s.dev.on fWatchCtrlEn = true → s.dev.watch.looking = false → s.dev.watchBarred = false → Completes (.watchDisable) s (fun e => e.watchState = 0
          ∧ e.on fWatchCtrlEn = false))
    ∧ (s.dev.applies (Fld.reg fWatchCtrlEn) (fWatchCtrlEn.set (s.dev.mirrored (Fld.reg fWatchCtrlEn)) 0) 0xF#4 = true → s.dev.on fWatchCtrlEn = true → s.dev.watch.looking = true → 1 ≤ s.dev.watchState → s.dev.watchState ≤ 3 → s.dev.watchBarred = false → Completes (.watchDisable) s (fun e => e.watchState = s.dev.watchState
          ∧ e.watch.stopDue = true))
    ∧ (1 ≤ s.dev.watchState → s.dev.watchState ≤ 3 → s.dev.watch.looking = false → s.dev.pwr.phase ≠ .laidUp → s.dev.watchBarred = false → Completes (.watchLookStart) s (fun e => e.watch.looking = true
          ∧ e.watchState = s.dev.watchState
          ∧ Device.OnlyRegs [] s.dev e))
    ∧ (∀ (r : Word), s.dev.watch.looking = true → s.dev.watch.stopDue = false → s.dev.watchBarred = false → s.dev.watchState = 1 → s.dev.watch.looks + 1 < s.dev.get fWatchDetLearn → Completes (.watchLookDecision r) s (fun e => e.watchState = 1
          ∧ e.watch.looks = s.dev.watch.looks + 1
          ∧ e.watch.sumI = s.dev.watch.sumI + (r.extractLsb' 0 16).toInt
          ∧ e.watch.sumQ = s.dev.watch.sumQ + (r.extractLsb' 16 16).toInt
          ∧ e.watch.looking = false
          ∧ Device.OnlyRegs [] s.dev e))
    ∧ (∀ (r : Word) (m n : Int), s.dev.watch.looking = true → s.dev.watch.stopDue = false → s.dev.watchBarred = false → s.dev.watchState = 1 → s.dev.watch.looks + 1 = s.dev.get fWatchDetLearn → s.dev.watch.sumI + (r.extractLsb' 0 16).toInt = m * (s.dev.watch.looks + 1) → s.dev.watch.sumQ + (r.extractLsb' 16 16).toInt = n * (s.dev.watch.looks + 1) → m.natAbs < 32768 → n.natAbs < 32768 → Completes (.watchLookDecision r) s (fun e => e.watchState = 2
          ∧ e.getS fWatchBaseI = m
          ∧ e.getS fWatchBaseQ = n
          ∧ e.watch.looking = false
          ∧ Device.OnlyRegs [watchStat, watchBase, pageStat 0x1E] s.dev e))
    ∧ (∀ (r : Word), s.dev.watch.looking = true → s.dev.watch.stopDue = false → s.dev.watchBarred = false → s.dev.watchState = 2 → (s.dev.changeOf ((((r.extractLsb' 0 16).toInt - s.dev.getS fWatchBaseI) * ((r.extractLsb' 0 16).toInt - s.dev.getS fWatchBaseI) + ((r.extractLsb' 16 16).toInt - s.dev.getS fWatchBaseQ) * ((r.extractLsb' 16 16).toInt - s.dev.getS fWatchBaseQ)).toNat) ((s.dev.getS fWatchBaseI * s.dev.getS fWatchBaseI + s.dev.getS fWatchBaseQ * s.dev.getS fWatchBaseQ).toNat)).1 ≤ fxOf (25 * (s.dev.get fWatchDetThr : Int)) + fxEps → s.dev.get fWatchStatRun + 1 < s.dev.get fWatchDetConfirm → Completes (.watchLookDecision r) s (fun e => e.watchState = 2
          ∧ e.get fWatchStatRun = s.dev.get fWatchStatRun + 1
          ∧ e.rd watchCounts = s.dev.rd watchCounts))
    ∧ (∀ (r : Word), s.dev.watch.looking = true → s.dev.watch.stopDue = false → s.dev.watchBarred = false → s.dev.watchState = 2 → (s.dev.changeOf ((((r.extractLsb' 0 16).toInt - s.dev.getS fWatchBaseI) * ((r.extractLsb' 0 16).toInt - s.dev.getS fWatchBaseI) + ((r.extractLsb' 16 16).toInt - s.dev.getS fWatchBaseQ) * ((r.extractLsb' 16 16).toInt - s.dev.getS fWatchBaseQ)).toNat) ((s.dev.getS fWatchBaseI * s.dev.getS fWatchBaseI + s.dev.getS fWatchBaseQ * s.dev.getS fWatchBaseQ).toNat)).1 ≤ fxOf (25 * (s.dev.get fWatchDetThr : Int)) + fxEps → s.dev.get fWatchStatRun + 1 = s.dev.get fWatchDetConfirm → Completes (.watchLookDecision r) s (fun e => e.watchState = 3
          ∧ e.get fWatchCountsDetections = min (s.dev.get fWatchCountsDetections + 1) 0xFFFF
          ∧ Device.raised 0x1E 0 s.dev e))
    ∧ (∀ (r : Word), s.dev.watch.looking = true → s.dev.watch.stopDue = false → s.dev.watchBarred = false → s.dev.watchState = 3 → fxOf (25 * (s.dev.get fWatchDetThr : Int) + 300) - fxEps ≤ (s.dev.changeOf ((((r.extractLsb' 0 16).toInt - s.dev.getS fWatchBaseI) * ((r.extractLsb' 0 16).toInt - s.dev.getS fWatchBaseI) + ((r.extractLsb' 16 16).toInt - s.dev.getS fWatchBaseQ) * ((r.extractLsb' 16 16).toInt - s.dev.getS fWatchBaseQ)).toNat) ((s.dev.getS fWatchBaseI * s.dev.getS fWatchBaseI + s.dev.getS fWatchBaseQ * s.dev.getS fWatchBaseQ).toNat)).1 → s.dev.get fWatchStatRun + 1 = s.dev.get fWatchDetQuiet → Completes (.watchLookDecision r) s (fun e => e.watchState = 2
          ∧ e.rd watchCounts = s.dev.rd watchCounts))

/-- The RTC (R429 … R452): a second advances the calendar, carrying at 59, 59, 23 and the month's end, and the periodic wake; HALT stops the count, while TIME and DATE can be set, and leaving HALT starts a full second; the rail's loss sets the time to its start and LOST; the sensor's temperature gives RATE; a fall of VBAK below its threshold is an event; the backup switch shows ON_BACKUP and the lockout, and main power's return ends them; VBAK stops and restarts the charger. -/
def Obligations.RealTimeClock : Prop :=
  ∀ (s : State), s.dev.NoRemote →
    (s.dev.rtcCounts = true → Completes (.rtcSecond) s (fun e => e.rd rtcTime = (nextTime (s.dev.rd rtcTime)).1
          ∧ e.rd rtcDate = (if (nextTime (s.dev.rd rtcTime)).2 then nextDate (s.dev.rd rtcDate) else s.dev.rd rtcDate)
          ∧ e.get fRtcSubsecCount = 0
          ∧ e.rtc.trimNow = signedOf 16 (s.dev.get fRtcTrimTrim)
          ∧ e.rtc.outSel = s.dev.get fRtcCtrlOutSel
          ∧ Device.OnlyRegs [rtcTime, rtcDate, rtcSubsec, rtcRate, rtcWakeLeft, irqStat 0x08, pwrCounts] s.dev e))
    ∧ (s.dev.rtcCounts = true → 1 ≤ s.dev.get fRtcWakePeriod → s.dev.get fRtcWakePeriod ≤ s.dev.rtc.wakeCount + 1 → s.dev.rtc.wakeRestart = false → Completes (.rtcSecond) s (fun e => e.rtc.wakeCount = 0
          ∧ e.get fRtcWakeLeftLeft = s.dev.get fRtcWakePeriod
          ∧ Device.raised 0x08 0 s.dev e))
    ∧ (s.dev.rtcCounts = true → s.dev.rtc.wakeCount + 1 < s.dev.get fRtcWakePeriod → s.dev.rtc.wakeRestart = false → Completes (.rtcSecond) s (fun e => e.rtc.wakeCount = s.dev.rtc.wakeCount + 1
          ∧ e.get fRtcWakeLeftLeft = s.dev.get fRtcWakePeriod - s.dev.rtc.wakeCount - 1))
    ∧ (s.dev.rtcCounts = false → exec (.rtcSecond) s = .next { s with dev := s.dev.settle })
    ∧ (s.dev.rtcCounts = true → Completes (.rtcOutFall) s (fun e => e.get fRtcSubsecCount = 16384
          ∧ e.rtc.outHigh = (if s.dev.rtc.outSel = 1 then false else s.dev.rtc.outHigh)
          ∧ Device.OnlyRegs [rtcSubsec] s.dev e))
    ∧ (s.dev.applies (Fld.reg fRtcCtrlHalt) (fRtcCtrlHalt.set (s.dev.mirrored (Fld.reg fRtcCtrlHalt)) 1) 0xF#4 = true → Completes (.rtcHalt) s (fun e => e.on fRtcCtrlHalt = true
          ∧ e.rtcCounts = false
          ∧ e.rtc.outHigh = false))
    ∧ (s.dev.applies (Fld.reg fRtcCtrlHalt) (fRtcCtrlHalt.set (s.dev.mirrored (Fld.reg fRtcCtrlHalt)) 0) 0xF#4 = true → s.dev.on fRtcCtrlHalt = true → Completes (.rtcRun) s (fun e => e.on fRtcCtrlHalt = false
          ∧ e.get fRtcSubsecCount = 0
          ∧ e.rtc.secLen = 32768))
    ∧ (∀ (w : RegWrite), s.dev.applies rtcTime w.value w.be = true → w.be = 0xF#4 → Completes (.rtcTimeWrite w) s (fun e => timeOk (e.rd rtcTime) = true
          ∧ e.get fRtcTimeSeconds = fRtcTimeSeconds.of w.value
          ∧ e.get fRtcTimeMinutes = fRtcTimeMinutes.of w.value
          ∧ e.get fRtcTimeHours = fRtcTimeHours.of w.value
          ∧ e.get fRtcTimeWeekday = fRtcTimeWeekday.of w.value
          ∧ Device.OnlyRegs [hbusStat, pageStat 0x08, secIdleLeft, rtcTime] s.dev e))
    ∧ (∀ (w : RegWrite), s.dev.applies rtcDate w.value w.be = true → w.be = 0xF#4 → Completes (.rtcDateWrite w) s (fun e => dateOk (e.rd rtcDate) = true
          ∧ e.get fRtcDateDay = fRtcDateDay.of w.value
          ∧ e.get fRtcDateMonth = fRtcDateMonth.of w.value
          ∧ e.get fRtcDateYear = fRtcDateYear.of w.value
          ∧ e.get fRtcDateCentury = fRtcDateCentury.of w.value
          ∧ Device.OnlyRegs [hbusStat, pageStat 0x08, secIdleLeft, rtcDate] s.dev e))
    ∧ (∀ (w : RegWrite), s.dev.applies rtcWake w.value w.be = true → w.be = 0xF#4 → Completes (.rtcWakeWrite w) s (fun e => e.get fRtcWakePeriod = fRtcWakePeriod.of w.value
          ∧ e.rtc.wakeRestart = true
          ∧ Device.OnlyRegs [hbusStat, pageStat 0x08, secIdleLeft, rtcWake] s.dev e))
    ∧ (s.dev.hostReady = true → s.dev.pwr.phase = .awake → s.dev.pageOff 0x08 = false → s.dev.pageInReset 0x08 = false → Completes (.rtcTimeRead) s (fun e => e.hd = (s.dev.windowRead (4 * rtcTime)).1))
    ∧ (∀ (t : BitVec 16), s.dev.rtc.curve = [] → s.dev.frozen = false → -128 ≤ t.toInt → t.toInt ≤ 127 → s.dev.rtc.trimNow.natAbs ≤ 20000 → Completes (.rtcTempMeasure t) s (fun e => e.getS fRtcRateT = t.toInt
          ∧ e.getS fRtcRateE = s.dev.rtc.trimNow
          ∧ e.rtc.cNow = 0
          ∧ Device.OnlyRegs [rtcRate] s.dev e))
    ∧ (∀ (mv : BitVec 16), Completes (.vbakCheck mv) s (fun e => e.on fRtcStatVbakLow = decide (mv.toNat < vbakThrMv (s.dev.get fRtcCtrlVbakThr))
          ∧ (mv.toNat < vbakThrMv (s.dev.get fRtcCtrlVbakThr) → s.dev.on fRtcStatVbakLow = false → Device.raised 0x08 2 s.dev e)
          ∧ Device.OnlyRegs [rtcStat, irqStat 0x08] s.dev e))
    ∧ (Completes (.vaonLoss) s (fun e => e.rd rtcTime = 0
          ∧ e.rd rtcDate = 0x20000101#32
          ∧ e.on fRtcStatLost = true
          ∧ e.rtc.railLow = true
          ∧ e.get fRtcSubsecCount = 0
          ∧ e.rd rtcCtrl = s.dev.rd rtcCtrl
          ∧ e.rd rtcWake = s.dev.rd rtcWake
          ∧ Device.raised 0x08 1 s.dev e
          ∧ Device.OnlyRegs [rtcTime, rtcDate, rtcStat, rtcSubsec, rtcWakeLeft, irqStat 0x08] s.dev e))
    ∧ (Completes (.vaonLossRelease) s (fun e => e.rtc.railLow = false
          ∧ Device.OnlyRegs [] s.dev e))
    ∧ (Completes (.backupSwitchToVbak) s (fun e => e.on fRtcStatOnBackup = true
          ∧ e.on fRtcStatLockout = true
          ∧ e.on fRtcStatCharging = false
          ∧ Device.OnlyRegs [rtcStat] s.dev e))
    ∧ (s.dev.on fRtcStatOnBackup = true → Completes (.backupSwitchToAon) s (fun e => e.on fRtcStatOnBackup = false
          ∧ e.on fRtcStatLockout = (s.dev.on fRtcStatMode && s.dev.on fRtcStatLockout)
          ∧ Device.OnlyRegs [rtcStat] s.dev e))
    ∧ (s.dev.on fRtcStatOnBackup = false → Completes (.lockoutEnd) s (fun e => e.on fRtcStatLockout = false
          ∧ Device.OnlyRegs [rtcStat] s.dev e))
    ∧ (s.dev.on fRtcStatOnBackup = false → Completes (.chargerStart) s (fun e => e.rtc.chgReady = true
          ∧ e.on fRtcStatCharging = (!s.dev.on fRtcStatMode && s.dev.on fRtcCtrlChgEn && !s.dev.rtc.vbakFull)
          ∧ Device.OnlyRegs [rtcStat] s.dev e))
    ∧ (∀ (mv : BitVec 16), Completes (.chargerThreshold mv) s (fun e => (chgMv (s.dev.get fRtcCtrlChgV) ≤ mv.toNat → e.rtc.vbakFull = true ∧ e.on fRtcStatCharging = false)
          ∧ (mv.toNat + 50 ≤ chgMv (s.dev.get fRtcCtrlChgV) → e.rtc.vbakFull = false)
          ∧ Device.OnlyRegs [rtcStat] s.dev e))

/-- The timers (R461 … R475): EN = 1 loads PERIOD and starts, EN = 0 stops with the count held; a source event after the prescaler moves the count one step; a centre timer turns at its period and at zero, a reload timer raises ZERO, takes RELOAD and stops where it is one-shot; a match raises its event once a phase; a capture copies the count; a gate edge opens or closes the gate; a late compare fires at once. -/
def Obligations.TimersCount : Prop :=
  ∀ (s : State), s.dev.NoRemote →
    (∀ (k : Fin 16) (w : RegWrite), s.dev.applies (Fld.reg (tmF fTmCtrlEn k.val)) (Fld.set (tmF fTmCtrlEn k.val) w.value 1) w.be = true → w.be = 0xF#4 → s.dev.on (tmF fTmCtrlEn k.val) = false → Completes (.timerEnable k w) s (fun e => e.on (tmF fTmCtrlEn k.val) = true
          ∧ e.rd (tmW tmPeriod k.val) = s.dev.rd (tmW tmTop k.val)
          ∧ e.tmCnt k.val = s.dev.tmCnt k.val
          ∧ (e.timer k.val).pre = 0
          ∧ (e.timer k.val).matched = false
          ∧ (k.val < 8 → e.on (tmF fTmStatDir k.val) = false)))
    ∧ (∀ (k : Fin 16) (w : RegWrite), s.dev.applies (Fld.reg (tmF fTmCtrlEn k.val)) (Fld.set (tmF fTmCtrlEn k.val) w.value 0) w.be = true → w.be = 0xF#4 → s.dev.on (tmF fTmCtrlEn k.val) = true → Completes (.timerDisable k w) s (fun e => e.on (tmF fTmCtrlEn k.val) = false
          ∧ e.tmCnt k.val = s.dev.tmCnt k.val
          ∧ e.on (tmF fTmStatOut k.val) = s.dev.on (tmF fTmStatOut k.val)))
    ∧ (∀ (k : Fin 16) (pg : Fin 2) (w : RegWrite), s.dev.applies (tmStart pg.val) w.value w.be = true → w.be = 0xF#4 → pg.val = 0 → w.value.getLsbD k.val = true → s.dev.on (tmF fTmCtrlEn k.val) = false → Completes (.tmcStart pg w) s (fun e => e.on (tmF fTmCtrlEn k.val) = true
          ∧ e.rd (tmW tmPeriod k.val) = s.dev.rd (tmW tmTop k.val)))
    ∧ (∀ (k : Fin 16) (pg : Fin 2) (w : RegWrite), s.dev.applies (tmStop pg.val) w.value w.be = true → w.be = 0xF#4 → pg.val = 0 → w.value.getLsbD k.val = true → Completes (.tmcStop pg w) s (fun e => e.on (tmF fTmCtrlEn k.val) = false
          ∧ e.tmCnt k.val = s.dev.tmCnt k.val))
    ∧ (∀ (k : Fin 16), s.dev.on (tmF fTmCtrlEn k.val) = true → s.dev.get (tmF fTmCtrlSrc k.val) = 0 → s.dev.on (tmF fTmStatGated k.val) = false → s.dev.frozen = false → s.dev.pageLive (0x0A + tmPage k.val) = true → 2 ^ s.dev.get (tmF fTmCtrlPre k.val) ≤ (s.dev.timer k.val).pre + 1 → 1 ≤ s.dev.tmCnt k.val → s.dev.tmCnt k.val < (s.dev.rd (tmW tmPeriod k.val)).toNat → s.dev.on (tmF fTmStatDir k.val) = false → k.val < 8 → (s.dev.timer k.val).matched = true → Completes (.timerSourceEvent k) s (fun e => e.tmCnt k.val = s.dev.tmCnt k.val + 1
          ∧ (e.timer k.val).pre = 0))
    ∧ (∀ (k : Fin 16), s.dev.on (tmF fTmCtrlEn k.val) = true → s.dev.get (tmF fTmCtrlSrc k.val) = 0 → s.dev.on (tmF fTmStatGated k.val) = false → s.dev.frozen = false → s.dev.pageLive (0x0A + tmPage k.val) = true → 2 ^ s.dev.get (tmF fTmCtrlPre k.val) ≤ (s.dev.timer k.val).pre + 1 → 1 ≤ s.dev.tmCnt k.val → 8 ≤ k.val → (s.dev.timer k.val).matched = true → Completes (.timerSourceEvent k) s (fun e => e.tmCnt k.val = s.dev.tmCnt k.val - 1
          ∧ (e.timer k.val).pre = 0))
    ∧ (∀ (k : Fin 16), s.dev.on (tmF fTmCtrlEn k.val) = true → s.dev.get (tmF fTmCtrlSrc k.val) = 0 → s.dev.on (tmF fTmStatGated k.val) = true → (s.dev.timer k.val).matched = true → 1 ≤ s.dev.tmCnt k.val → (s.dev.tmCnt k.val < (s.dev.rd (tmW tmPeriod k.val)).toNat ∨ 8 ≤ k.val) → exec (.timerSourceEvent k) s = .next { s with dev := s.dev.settle })
    ∧ (∀ (k : Fin 16), s.dev.on (tmF fTmCtrlEn k.val) = true → k.val < 8 → s.dev.on (tmF fTmStatDir k.val) = false → (s.dev.rd (tmW tmPeriod k.val)).toNat ≤ s.dev.tmCnt k.val → (s.dev.timer k.val).matched = true → Completes (.timerTop k) s (fun e => e.on (tmF fTmStatDir k.val) = true
          ∧ (e.timer k.val).phaseStart = s.dev.tmCnt k.val
          ∧ e.tmCnt k.val = s.dev.tmCnt k.val
          ∧ Device.raised (0x0A + tmPage k.val) (4 * tmInst k.val + 1) s.dev e
          ∧ Device.OnlyRegs [tmW tmStat k.val, irqStat (0x0A + tmPage k.val)] s.dev e))
    ∧ (∀ (k : Fin 16), s.dev.on (tmF fTmCtrlEn k.val) = true → 8 ≤ k.val → s.dev.tmCnt k.val = 0 → (s.dev.timer k.val).matched = true → (s.dev.timer k.val).turned = false → tmInst k.val = 7 → Completes (.timerZero k) s (fun e => e.rd (tmW tmPeriod k.val) = s.dev.rd (tmW tmTop k.val)
          ∧ e.on (tmF fTmCtrlEn k.val) = !s.dev.on (tmF fTmCtrlOneShot k.val)
          ∧ (e.timer k.val).turned = true
          ∧ Device.raised (0x0A + tmPage k.val) (4 * tmInst k.val + 0) s.dev e))
    ∧ (∀ (k : Fin 16), s.dev.on (tmF fTmCtrlEn k.val) = true → k.val < 8 → s.dev.tmCnt k.val = 0 → s.dev.on (tmF fTmStatDir k.val) = true → (s.dev.timer k.val).matched = true → (s.dev.timer k.val).turned = false → tmInst k.val = 7 → Completes (.timerZero k) s (fun e => e.on (tmF fTmStatDir k.val) = false
          ∧ e.rd (tmW tmPeriod k.val) = s.dev.rd (tmW tmTop k.val)
          ∧ (e.timer k.val).matched = false
          ∧ Device.raised (0x0A + tmPage k.val) (4 * tmInst k.val + 0) s.dev e))
    ∧ (∀ (k : Fin 16), s.dev.on (tmF fTmCtrlEn k.val) = true → (s.dev.timer k.val).matched = false → s.dev.tmCnt k.val = (s.dev.rd (tmW tmCmp k.val)).toNat → Completes (.timerCompareMatch k) s (fun e => (e.timer k.val).matched = true
          ∧ e.tmCnt k.val = s.dev.tmCnt k.val
          ∧ (s.dev.get (tmF fTmCtrlOutMode k.val) = 0 → s.dev.get (tmF fTmCtrlIoMode k.val) = 1 → e.on (tmF fTmStatOut k.val) = !s.dev.on (tmF fTmStatOut k.val))
          ∧ Device.raised (0x0A + tmPage k.val) (4 * tmInst k.val + 2) s.dev e
          ∧ Device.OnlyRegs [tmW tmStat k.val, irqStat (0x0A + tmPage k.val)] s.dev e))
    ∧ (∀ (k : Fin 16) (high : Bool), s.dev.tmIo.getLsbD k.val ≠ high → s.dev.get (tmF fTmCtrlIoMode k.val) = 3 → (s.dev.get (tmF fTmCtrlCapEdge k.val) = 2 ∨ s.dev.get (tmF fTmCtrlCapEdge k.val) = (if high then 0 else 1)) → s.dev.pageLive (0x0A + tmPage k.val) = true → Completes (.timerCapture k high) s (fun e => e.rd (tmW tmCap k.val) = s.dev.rd (tmW tmCount k.val)
          ∧ e.on (tmF fTmStatCapNew k.val) = true
          ∧ e.on (tmF fTmStatCapOvr k.val) = (s.dev.on (tmF fTmStatCapNew k.val) || s.dev.on (tmF fTmStatCapOvr k.val))
          ∧ Device.raised (0x0A + tmPage k.val) (4 * tmInst k.val + 3) s.dev e
          ∧ Device.OnlyRegs [tmW tmStat k.val, tmW tmCap k.val, irqStat (0x0A + tmPage k.val)] s.dev e))
    ∧ (∀ (k : Fin 16) (high : Bool), s.dev.get (tmF fTmCtrlIoMode k.val) = 2 → s.dev.pageLive (0x0A + tmPage k.val) = true → Completes (.timerGateEdge k high) s (fun e => e.on (tmF fTmStatGated k.val) = decide (high = s.dev.on (tmF fTmCtrlPol k.val))
          ∧ e.tmIo.getLsbD k.val = high
          ∧ Device.OnlyRegs [tmW tmStat k.val] s.dev e))
    ∧ (∀ (k : Fin 16) (w : RegWrite), s.dev.applies (tmW tmTop k.val) w.value w.be = true → w.be = 0xF#4 → (s.dev.on (tmF fTmCtrlTopNow k.val) = false ∨ 8 ≤ k.val) → Completes (.timerTopWrite k w) s (fun e => e.rd (tmW tmTop k.val) = w.value
          ∧ e.rd (tmW tmPeriod k.val) = s.dev.rd (tmW tmPeriod k.val)))
    ∧ (∀ (k : Fin 16) (w : RegWrite), s.dev.applies (tmW tmCmp k.val) w.value w.be = true → w.be = 0xF#4 → s.dev.on (tmF fTmCtrlEn k.val) = true → (s.dev.timer k.val).matched = false → (s.dev.timer k.val).phaseStart ≤ w.value.toNat → w.value.toNat ≤ s.dev.tmCnt k.val → Completes (.timerCmpWrite k w) s (fun e => e.rd (tmW tmCmp k.val) = w.value
          ∧ e.on (tmF fTmStatCmpLate k.val) = true
          ∧ (e.timer k.val).matched = true))
    ∧ (∀ (k : Fin 16), s.dev.hostReady = true → s.dev.pwr.phase = .awake → s.dev.pageOff (0x0A + tmPage k.val) = false → s.dev.pageInReset (0x0A + tmPage k.val) = false → Completes (.timerCapRead k) s (fun e => e.hd = (s.dev.windowRead (4 * tmW tmCap k.val)).1))
    ∧ (s.dev.applies tideCntClr (fTideCntClrSteps.set 0 1) 0xF#4 = true → Completes (.tideClearSteps) s (fun e => e.get (fHalf tideSteps) = 0
          ∧ e.on fTideStatStepped = false
          ∧ e.tide = s.dev.tide
          ∧ Device.OnlyRegs [hbusStat, pageStat 0x09, secIdleLeft, tideSteps, tideStat] s.dev e))

/-! ### The housekeeping converter, the serial ports, interrupts and security -/

/-- The housekeeping converter (R477 … R485): START begins a sequence, or makes one pending while one runs; an entry's end writes its result and goes on to the next entry or ends the sequence, which is counted; STOP abandons it; an urgent conversion writes URG_RES; the supervisor's sensors are kept in turn and TEMP_MAX shows their highest; a calibration step whose two sums agree sets the offset, and one whose sums differ by more than 2 codes' mean ends with RESULT 2. -/
def Obligations.HousekeepingConverter : Prop :=
  ∀ (s : State), s.dev.NoRemote →
    (s.dev.applies hkCmd (fHkCmdStart.set 0 1) 0xF#4 = true → s.dev.on (fPcEn 0x0C) = true → s.dev.pageInReset 0x0C = false → s.dev.on fHkStatSyscalBusy = false → s.dev.on fHkStatBusy = false → s.dev.on fHkStatPending = false → Completes (.hkStart) s (fun e => e.on fHkStatBusy = true
          ∧ e.get fHkStatEntry = 0
          ∧ e.hk.genStart = s.dev.get fHkStatSeqCount % 16
          ∧ Device.OnlyRegs [hbusStat, pageStat 0x0C, secIdleLeft, hkStat] s.dev e))
    ∧ (s.dev.applies hkCmd (fHkCmdStart.set 0 1) 0xF#4 = true → s.dev.on (fPcEn 0x0C) = true → s.dev.pageInReset 0x0C = false → s.dev.on fHkStatBusy = true → s.dev.on fHkStatPending = false → Completes (.hkStart) s (fun e => e.on fHkStatPending = true
          ∧ e.get fHkStatEntry = s.dev.get fHkStatEntry
          ∧ Device.OnlyRegs [hbusStat, pageStat 0x0C, secIdleLeft, hkStat] s.dev e))
    ∧ (s.dev.applies hkCmd (fHkCmdStop.set 0 1) 0xF#4 = true → Completes (.hkStop) s (fun e => e.on fHkStatBusy = false
          ∧ e.on fHkStatPending = false
          ∧ e.get fHkStatSeqCount = s.dev.get fHkStatSeqCount
          ∧ Device.OnlyRegs [hbusStat, pageStat 0x0C, secIdleLeft, hkStat] s.dev e))
    ∧ (∀ (raws : List (BitVec 12)), s.dev.on fHkStatBusy = true → s.dev.pageLive 0x0C = true → raws.length = 2 ^ s.dev.get (fHkEntryAvg (s.dev.get fHkStatEntry)) → s.dev.get fHkStatEntry < s.dev.get fHkCtrlSeqLen → Completes (.hkEntryDone raws) s (fun e => e.get (fHkResCode (s.dev.get fHkStatEntry)) = (s.dev.hkMean (s.dev.get (fHkEntryInput (s.dev.get fHkStatEntry))) ((raws.map BitVec.toNat).map (· % 4096))).1
          ∧ e.get (fHkResInput (s.dev.get fHkStatEntry)) = s.dev.get (fHkEntryInput (s.dev.get fHkStatEntry))
          ∧ e.get (fHkResGen (s.dev.get fHkStatEntry)) = s.dev.hk.genStart % 16
          ∧ e.get fHkStatEntry = s.dev.get fHkStatEntry + 1
          ∧ e.on fHkStatBusy = true
          ∧ Device.OnlyRegs [hkRes (s.dev.get fHkStatEntry), hkStat, pageStat 0x0C, irqStat 0x0C, hkLimStat] s.dev e))
    ∧ (∀ (raws : List (BitVec 12)), s.dev.on fHkStatBusy = true → s.dev.pageLive 0x0C = true → raws.length = 2 ^ s.dev.get (fHkEntryAvg (s.dev.get fHkStatEntry)) → s.dev.get fHkStatEntry = s.dev.get fHkCtrlSeqLen → s.dev.on fHkStatPending = false → s.dev.on fHkCtrlCont = false → Completes (.hkEntryDone raws) s (fun e => e.get (fHkResCode (s.dev.get fHkStatEntry)) = (s.dev.hkMean (s.dev.get (fHkEntryInput (s.dev.get fHkStatEntry))) ((raws.map BitVec.toNat).map (· % 4096))).1
          ∧ e.on fHkStatBusy = false
          ∧ e.get fHkStatSeqCount = (s.dev.get fHkStatSeqCount + 1) % 65536
          ∧ Device.raised 0x0C 0 s.dev e
          ∧ Device.OnlyRegs [hkRes (s.dev.get fHkStatEntry), hkStat, pageStat 0x0C, irqStat 0x0C, hkLimStat] s.dev e))
    ∧ (∀ (raws : List (BitVec 12)), s.dev.on fHkStatBusy = false → exec (.hkEntryDone raws) s = .next { s with dev := s.dev.settle })
    ∧ (∀ (raw : BitVec 12), s.dev.clockGood 1 = true → (s.dev.island 1).held = false → s.dev.hk.supNext < 15 → Completes (.hkSupervisorConversion raw) s (fun e => e.hk.supNext = s.dev.hk.supNext + 1
          ∧ e.hk.sensors = s.dev.hk.sensors.setIfInBounds s.dev.hk.supNext raw.toNat
          ∧ e.hk.rotMax = max s.dev.hk.rotMax (hkTemp raw.toNat)
          ∧ e.rd hkTempMax = s.dev.rd hkTempMax))
    ∧ (∀ (raw : BitVec 12), s.dev.clockGood 1 = true → (s.dev.island 1).held = false → s.dev.hk.supNext = 15 → -32768 ≤ s.dev.hk.rotMax → s.dev.hk.rotMax ≤ 32767 → Completes (.hkSupervisorConversion raw) s (fun e => e.hk.supNext = 0
          ∧ e.getS fHkTempMaxT = max s.dev.hk.rotMax (hkTemp raw.toNat)
          ∧ e.hk.rotMax = -32768))
    ∧ (∀ (w : RegWrite), s.dev.applies hkUrgCmd (fHkUrgCmdGo.set w.value 1) w.be = true → w.be = 0xF#4 → s.dev.on (fPcEn 0x0C) = true → Completes (.urgentGo w) s (fun e => e.on fHkStatUrgBusy = true
          ∧ e.hk.urgInput = fHkUrgCmdInput.of w.value
          ∧ Device.OnlyRegs [hbusStat, pageStat 0x0C, secIdleLeft, hkStat] s.dev e))
    ∧ (∀ (raw : BitVec 12), s.dev.on fHkStatUrgBusy = true → s.dev.pageLive 0x0C = true → hkCalibrated s.dev.hk.urgInput = false → s.dev.hk.urgInput ≤ 47 → Completes (.urgentDone raw) s (fun e => e.on fHkStatUrgBusy = false
          ∧ e.get ⟨hkUrgRes, 11, 0⟩ = raw.toNat
          ∧ e.get ⟨hkUrgRes, 17, 12⟩ = s.dev.hk.urgInput
          ∧ Device.OnlyRegs [hkUrgRes, hkStat, pageStat 0x0C] s.dev e))
    ∧ (s.dev.applies hkCmd (fHkCmdSyscalZero.set 0 1) 0xF#4 = true → Completes (.hkSyscalZero) s (fun e => e.on fHkStatSyscalBusy = true
          ∧ e.on fHkSyscalStatStep = false
          ∧ Device.OnlyRegs [hbusStat, pageStat 0x0C, secIdleLeft, hkStat, hkSyscalStat] s.dev e))
    ∧ (s.dev.applies hkCmd (fHkCmdSyscalFull.set 0 1) 0xF#4 = true → Completes (.hkSyscalFull) s (fun e => e.on fHkStatSyscalBusy = true
          ∧ e.on fHkSyscalStatStep = true
          ∧ Device.OnlyRegs [hbusStat, pageStat 0x0C, secIdleLeft, hkStat, hkSyscalStat] s.dev e))
    ∧ (∀ (s1 s2 : BitVec 32), s.dev.on fHkStatSyscalBusy = true → s.dev.pageLive 0x0C = true → 128 < (s1.toInt - s2.toInt).natAbs → s.dev.on fHkStatPending = false → Completes (.syscalStepDone s1 s2) s (fun e => e.get fHkSyscalStatResult = 2
          ∧ e.on fHkStatSyscalBusy = false
          ∧ e.rd hkSyscalCoef = s.dev.rd hkSyscalCoef
          ∧ Device.OnlyRegs [hkSyscalStat, hkStat, pageStat 0x0C, irqStat 0x0C, hkLimStat] s.dev e))
    ∧ (∀ (s1 s2 : BitVec 32) (m : Int), s.dev.on fHkStatSyscalBusy = true → s.dev.pageLive 0x0C = true → (s1.toInt - s2.toInt).natAbs ≤ 128 → s.dev.on fHkSyscalStatStep = false → s1.toInt + s2.toInt = 128 * m → -128 ≤ m → m ≤ 127 → s.dev.on fHkStatPending = false → Completes (.syscalStepDone s1 s2) s (fun e => e.get fHkSyscalStatResult = 1
          ∧ e.getS fHkSyscalCoefOffset = m
          ∧ e.get fHkSyscalCoefGain = s.dev.get fHkSyscalCoefGain
          ∧ e.on fHkStatSyscalBusy = false
          ∧ Device.OnlyRegs [hkSyscalStat, hkSyscalCoef, hkStat, pageStat 0x0C, irqStat 0x0C, hkLimStat] s.dev e))

/-- The serial ports (R487 … R507, R547): GO and SFDP join the master's work; a transfer's end stores what it received and is recorded, or polling begins; a matching status ends the polling, and its limit ends it with ERR; a window read waits for its line, whose fetch completes it; a window write is merged into the page buffer, whose program starts after WR_HOLD; a frame of the slave captures the status at its start and moves its words through the FIFOs at its end; the indices and ATTN show in STAT; TRIG_SW drives a pulse that ends after its width. -/
def Obligations.SerialPorts : Prop :=
  ∀ (s : State), s.dev.NoRemote →
    (s.dev.applies sspmCmd (fSspmCmdGo.set 0 1) 0xF#4 = true → s.dev.sspm.page = none → Completes (.sspmGo) s (fun e => e.sspm.jobs = s.dev.sspm.jobs ++ [.transfer]
          ∧ e.on fSspmStatBusy = true
          ∧ Device.OnlyRegs [hbusStat, pageStat 0x0D, secIdleLeft, sspmStat, sspmXipStat] s.dev e))
    ∧ (s.dev.applies sspmCmd (fSspmCmdSfdp.set 0 1) 0xF#4 = true → s.dev.sspm.page = none → Completes (.sspmSfdp) s (fun e => e.sspm.jobs = s.dev.sspm.jobs ++ [.sfdp]
          ∧ e.on fSspmStatBusy = true
          ∧ Device.OnlyRegs [hbusStat, pageStat 0x0D, secIdleLeft, sspmStat, sspmXipStat] s.dev e))
    ∧ (∀ (rx : List Byte) (r : SfdpResult), s.dev.bus = none → s.dev.pageOff 0x0D = false → s.dev.pageLive 0x0D = true → s.dev.sspm.resetDue = false → s.dev.sspm.jobs = [.transfer] → s.dev.sspm.polling = false → s.dev.on fSspmXferWrite = true → s.dev.on fSspmXferPoll = false → Completes (.sspmTransferEnd rx r) s (fun e => e.sspm.jobs = []
          ∧ e.get fSspmStatErr = 0
          ∧ e.on fSspmStatBusy = false
          ∧ e.get (fPsState 0x0D) = 0
          ∧ Device.raised 0x0D 0 s.dev e
          ∧ Device.OnlyRegs [sspmStat, sspmXipStat, pageStat 0x0D, irqStat 0x0D] s.dev e))
    ∧ (∀ (rx : List Byte) (r : SfdpResult), s.dev.bus = none → s.dev.pageOff 0x0D = false → s.dev.pageLive 0x0D = true → s.dev.sspm.resetDue = false → s.dev.sspm.jobs = [.transfer] → s.dev.sspm.polling = false → s.dev.on fSspmXferWrite = false → s.dev.on fSspmXferPoll = false → (s.dev.rd sspmLen).toNat = 32 → rx.length = 4 → Completes (.sspmTransferEnd rx r) s (fun e => e.sspm.jobs = []
          ∧ e.get fSspmStatErr = 0
          ∧ e.rd (sspmBuf 0) = BitVec.ofNat 32 (leNat rx)
          ∧ Device.OnlyRegs [sspmStat, sspmXipStat, pageStat 0x0D, irqStat 0x0D, sspmBuf 0] s.dev e))
    ∧ (∀ (rx : List Byte) (r : SfdpResult), s.dev.bus = none → s.dev.pageOff 0x0D = false → s.dev.pageLive 0x0D = true → s.dev.sspm.resetDue = false → s.dev.sspm.jobs = [.transfer] → s.dev.sspm.polling = false → s.dev.on fSspmXferWrite = true → s.dev.on fSspmXferPoll = true → Completes (.sspmTransferEnd rx r) s (fun e => e.sspm.polling = true
          ∧ e.sspm.jobs = s.dev.sspm.jobs
          ∧ e.get (fPsState 0x0D) = 4
          ∧ Device.OnlyRegs [sspmStat, sspmXipStat, pageStat 0x0D, irqStat 0x0D] s.dev e))
    ∧ (∀ (status : Byte), s.dev.bus = none → s.dev.pageOff 0x0D = false → s.dev.pageLive 0x0D = true → s.dev.sspm.resetDue = false → s.dev.sspm.jobs = [.transfer] → s.dev.sspm.polling = true → Completes (.sspmPoll status) s (fun e => (status.toNat &&& s.dev.get fSspmPollMask = s.dev.get fSspmPollMatch → e.sspm.jobs = [] ∧ e.get fSspmStatErr = 0 ∧ e.sspm.polling = false)
          ∧ (status.toNat &&& s.dev.get fSspmPollMask ≠ s.dev.get fSspmPollMatch → e.sspm = s.dev.sspm)
          ∧ Device.OnlyRegs [sspmStat, sspmXipStat, pageStat 0x0D, irqStat 0x0D] s.dev e))
    ∧ (s.dev.bus = none → s.dev.pageOff 0x0D = false → s.dev.pageLive 0x0D = true → s.dev.sspm.resetDue = false → s.dev.sspm.jobs = [.transfer] → s.dev.sspm.polling = true → Completes (.sspmPollTimeout) s (fun e => e.sspm.jobs = []
          ∧ e.get fSspmStatErr = 1
          ∧ e.sspm.polling = false
          ∧ Device.raised 0x0D 1 s.dev e
          ∧ Device.OnlyRegs [sspmStat, sspmXipStat, pageStat 0x0D, irqStat 0x0D] s.dev e))
    ∧ (∀ (word : BitVec 23), s.dev.hostReady = true → s.dev.xipOn = true → s.dev.sspm.page = none → s.dev.sspm.jobs = [] → s.dev.sspm.lineWord (0x2000000 + 4 * word.toNat) = none → Completes (.xipRead word) s (fun e => e.bus = some (.xipRead (0x2000000 + 4 * word.toNat))
          ∧ e.sspm.jobs = [.fetch ((0x2000000 + 4 * word.toNat) / 32)]
          ∧ Device.OnlyRegs [sspmStat, sspmXipStat, pageStat 0x0D, irqStat 0x0D] s.dev e))
    ∧ (∀ (word : BitVec 23) (v : Word), s.dev.hostReady = true → s.dev.xipOn = true → s.dev.sspm.page = none → s.dev.sspm.jobs = [] → s.dev.sspm.lineWord (0x2000000 + 4 * word.toNat) = some v → Completes (.xipRead word) s (fun e => e.hd = v
          ∧ e.bus = none
          ∧ e.sspm.jobs = []
          ∧ Device.OnlyRegs [sspmStat, sspmXipStat, pageStat 0x0D, irqStat 0x0D] s.dev e))
    ∧ (∀ (data : BitVec 256) (a : Nat), s.dev.sspm.jobs = [.fetch (a / 32)] → s.dev.sspm.resetDue = false → s.dev.bus = some (.xipRead a) → s.dev.sspm.page = none → (∀ k : Fin 4, s.dev.sspm.lines.getD k.val none = none) → a % 4 = 0 → Completes (.xipLineFetchEnd data) s (fun e => e.bus = none
          ∧ e.hd = data.extractLsb' (8 * (a % 32)) 32
          ∧ e.sspm.jobs = []
          ∧ Device.OnlyRegs [sspmStat, sspmXipStat, pageStat 0x0D, irqStat 0x0D] s.dev e))
    ∧ (∀ (word : BitVec 23) (w : RegWrite), s.dev.hostReady = true → s.dev.xipOn = true → s.dev.on fSspmXipCtrlWrEn = true → s.dev.sspm.page = none → s.dev.sspm.jobs = [] → w.be = 0xF#4 → Completes (.xipWrite word w) s (fun e => e.bus = none
          ∧ e.sspm.page.map (fun b => (b.page, b.first, b.last)) = some ((0x2000000 + 4 * word.toNat) / s.dev.flashPage, (0x2000000 + 4 * word.toNat) % s.dev.flashPage, (0x2000000 + 4 * word.toNat) % s.dev.flashPage + 3)
          ∧ e.on fSspmXipStatProg = true
          ∧ Device.OnlyRegs [sspmStat, sspmXipStat, pageStat 0x0D, irqStat 0x0D] s.dev e))
    ∧ (∀ (word : BitVec 23) (w : RegWrite), s.dev.hostReady = true → s.dev.xipOn = true → s.dev.on fSspmXipCtrlWrEn = false → Completes (.xipWrite word w) s (fun e => e.get fSspmXipStatDiscards = min (s.dev.get fSspmXipStatDiscards + 1) 0xFFFF
          ∧ e.sspm = s.dev.sspm
          ∧ e.bus = none
          ∧ Device.OnlyRegs [sspmXipStat] s.dev e))
    ∧ (∀ (b : PageBuf), s.dev.sspm.page = some b → Completes (.xipProgramStart) s (fun e => e.sspm.page = none
          ∧ e.sspm.jobs = s.dev.sspm.jobs ++ [.program b]
          ∧ Device.OnlyRegs [sspmStat, sspmXipStat, pageStat 0x0D, irqStat 0x0D] s.dev e))
    ∧ (s.dev.frozen = false → s.dev.pageLive 0x0E = true → Completes (.sspsSelectAssert) s (fun e => e.ssps.frame = true
          ∧ e.ssps.status = s.dev.sspsStatus
          ∧ Device.OnlyRegs [] s.dev e))
    ∧ (∀ (mosi : List Bool), s.dev.ssps.frame = true → s.dev.pageLive 0x0E = true → mosi.length = 8 + s.dev.sspsBits * s.dev.get fSspsCfgFrameWords → s.dev.get fSspsCfgFrameWords = 1 → s.dev.get fSspsCfgWord ≤ 2 → msbNat (mosi.take 8) % 4 = 1 → s.dev.rxLevel < 64 → Completes (.sspsSelectRelease mosi) s (fun e => e.rd sspsRxWr = BitVec.ofNat 32 ((((s.dev.rd sspsRxWr).toNat % 128) + 1) % 128)
          ∧ e.rd (sspsRxWin (((s.dev.rd sspsRxWr).toNat % 128) % 64)) = BitVec.ofNat 32 (msbNat (mosi.drop 8))
          ∧ e.ssps.frame = false
          ∧ e.get (fWord sspsFrames) = (s.dev.get (fWord sspsFrames) + 1) % 2 ^ 32
          ∧ Device.OnlyRegs [sspsRxWr, sspsRxWin (((s.dev.rd sspsRxWr).toNat % 128) % 64), sspsFrames, sspsStat, irqStat 0x0E] s.dev e))
    ∧ (∀ (w : RegWrite), s.dev.applies sspsRxRd w.value w.be = true → w.be = 0xF#4 → Completes (.sspsRxRdWrite w) s (fun e => e.get ⟨sspsRxRd, 6, 0⟩ = w.value.toNat % 128
          ∧ e.get fSspsStatRxLevel = index7 ((s.dev.rd sspsRxWr).toNat % 128) (w.value.toNat % 128)
          ∧ Device.OnlyRegs [hbusStat, pageStat 0x0E, secIdleLeft, sspsStat, irqStat 0x0E, sspsRxRd] s.dev e))
    ∧ (∀ (w : RegWrite), s.dev.applies sspsTxWr w.value w.be = true → w.be = 0xF#4 → Completes (.sspsTxWrWrite w) s (fun e => e.get ⟨sspsTxWr, 6, 0⟩ = w.value.toNat % 128
          ∧ e.get fSspsStatTxLevel = index7 (w.value.toNat % 128) ((s.dev.rd sspsTxRd).toNat % 128)
          ∧ Device.OnlyRegs [hbusStat, pageStat 0x0E, secIdleLeft, sspsStat, irqStat 0x0E, sspsTxWr] s.dev e))
    ∧ (∀ (w : RegWrite), s.dev.applies sspsAttn w.value w.be = true → w.be = 0xF#4 → w.value.getLsbD 0 = true → Completes (.sspsAttnWrite w) s (fun e => e.attn = true
          ∧ Device.OnlyRegs [hbusStat, pageStat 0x0E, secIdleLeft, sspsStat, irqStat 0x0E, sspsAttn] s.dev e))
    ∧ (∀ (k : Fin 4) (w : RegWrite), s.dev.applies pinsTrigSw (Fld.set ⟨pinsTrigSw, k.val, k.val⟩ w.value 1) w.be = true → w.be = 0xF#4 → s.dev.trigSrc k.val = 3 → s.dev.trigOut.getD k.val none = none → Completes (.trigSw k w) s (fun e => e.on ⟨pinsLevels, 4 + k.val, 4 + k.val⟩ = !s.dev.trigPol k.val
          ∧ e.trigOut.getD k.val none = some (s.dev.trigPol k.val)))
    ∧ (∀ (k : Fin 4) (pol : Bool), s.dev.trigOut.getD k.val none = some pol → Completes (.trigOutPulseEnd k) s (fun e => e.on ⟨pinsLevels, 4 + k.val, 4 + k.val⟩ = pol
          ∧ e.trigOut.getD k.val none = none
          ∧ Device.OnlyRegs [pinsLevels] s.dev e))

/-- Interrupts (R48, R55, R509, R511, R512): IRQ_SET records the enabled events of its page, a 1 written to IRQ_STAT clears its bit, IRQ_EN holds what is written; a rail below its warning level shows in SUPPLY_STAT and as the source's level; a pulse is followed by its separation, and a pulse that fell due by another; routes and enables are held as written. -/
def Obligations.Interrupts : Prop :=
  ∀ (s : State), s.dev.NoRemote →
    (∀ (page : Fin 256) (w : RegWrite), s.dev.applies (irqStat page.val) w.value w.be = true → w.be = 0xF#4 → page.val ≠ 0x03 → page.val ≠ 0x10 → page.val ≠ 0x1C → page.val ≠ 0x19 → page.val ≠ 0x1A → page.val ≠ 0x04 → Completes (.irqStatClear page w) s (fun e => (∀ b : Fin 32, w.value.getLsbD b.val = true → e.on ⟨irqStat page.val, b.val, b.val⟩ = false)
          ∧ (∀ b : Fin 32, w.value.getLsbD b.val = false → e.on ⟨irqStat page.val, b.val, b.val⟩ = s.dev.on ⟨irqStat page.val, b.val, b.val⟩)))
    ∧ (∀ (page : Fin 256) (b : Fin 32) (w : RegWrite), s.dev.applies (irqSet page.val) w.value w.be = true → w.be = 0xF#4 → w.value.getLsbD b.val = true → s.dev.on ⟨irqEn page.val, b.val, b.val⟩ = true → (⟨irqStat page.val, b.val, b.val⟩ : Fld).settles = true → (irqBits page.val).testBit b.val = true → Completes (.irqSetWrite page w) s (fun e => e.on ⟨irqStat page.val, b.val, b.val⟩ = true))
    ∧ (∀ (r : Fin 9) (low : Bool), Completes (.supplyWarn r low) s (fun e => e.on ⟨intcSupplyStat, r.val, r.val⟩ = low
          ∧ Device.OnlyRegs [intcSupplyStat, irqRaw 0x04, irqStat 0x04] s.dev e))
    ∧ (∀ (which : IntcWord) (w : RegWrite), s.dev.applies (intcWordOf which) w.value w.be = true → w.be = 0xF#4 → which ≠ .outCfg → Completes (.intcConfigWrite which w) s (fun e => e.rd (intcWordOf which) = w.value))
    ∧ (∀ (b : Fin 4), s.dev.ballPulses b.val = true → (s.dev.ball b.val).phase = .low → Completes (.irqPulseEnd b) s (fun e => (e.ball b.val).phase = .gap
          ∧ Device.OnlyRegs [] s.dev e))
    ∧ (∀ (b : Fin 4), s.dev.ballPulses b.val = true → (s.dev.ball b.val).phase = .gap → (s.dev.ball b.val).due = true → Completes (.irqPulseEnd b) s (fun e => (e.ball b.val).phase = .low
          ∧ Device.OnlyRegs [] s.dev e))

/-- Security (R516 … R532): OPEN_REQ for a level whose key is not set grants it on an unsealed device, and otherwise shows a challenge with the next sequence number; VERIFY with the right response grants the level, a wrong one is counted and starts a back-off; CLOSE, the idle limit and a tamper event take the level to OPEN; keys are written once their program verifies, and a failed verify leaves them; sealing is final; a tamper event counts, shows its cause and aborts what runs, and at the limit locks the device down; an instruction of the Selnum group on a sealed device is one. -/
def Obligations.Security : Prop :=
  ∀ (s : State), s.dev.NoRemote →
    (∀ (w : RegWrite), s.dev.applies secCmd (fSecCmdAction.set w.value 1) w.be = true → w.be = 0xF#4 → (s.dev.sec.key (fSecCmdLevel.of (fSecCmdAction.set w.value 1))) = none → s.dev.sec.sealed = false → Completes (.secOpenReq w) s (fun e => e.level = fSecCmdLevel.of (fSecCmdAction.set w.value 1)
          ∧ e.get fSecStatResult = 1
          ∧ e.sec.fails = 0
          ∧ Device.raised 0x06 0 s.dev e))
    ∧ (∀ (w : RegWrite), s.dev.applies secCmd (fSecCmdAction.set w.value 1) w.be = true → w.be = 0xF#4 → (s.dev.sec.key (fSecCmdLevel.of (fSecCmdAction.set w.value 1))) ≠ none → Completes (.secOpenReq w) s (fun e => e.level = s.dev.level
          ∧ e.on fSecStatChalValid = true
          ∧ e.get (fWord secSeq) = (s.dev.get (fWord secSeq) + 1) % 2 ^ 32
          ∧ e.sec.reqLevel = fSecCmdLevel.of (fSecCmdAction.set w.value 1)))
    ∧ (s.dev.applies secCmd (fSecCmdAction.set 0 2) 0xF#4 = true → (match s.dev.sec.key s.dev.sec.reqLevel with | some k => (s.dev.sec.resp.toList.flatMap wordBytes) == hmac k s.dev.secMessage | none => false) = true → s.dev.on fSecStatLockdown = false → s.dev.sec.reqLevel ≤ 3 → Completes (.secVerify) s (fun e => e.level = s.dev.sec.reqLevel
          ∧ e.get fSecStatResult = 1
          ∧ e.sec.fails = 0
          ∧ e.on fSecStatChalValid = false))
    ∧ (s.dev.applies secCmd (fSecCmdAction.set 0 2) 0xF#4 = true → (match s.dev.sec.key s.dev.sec.reqLevel with | some k => (s.dev.sec.resp.toList.flatMap wordBytes) == hmac k s.dev.secMessage | none => false) = false → Completes (.secVerify) s (fun e => e.level = s.dev.level
          ∧ e.get fSecStatResult = 2
          ∧ e.sec.fails = s.dev.sec.fails + 1
          ∧ e.sec.backoff = backoffMs (s.dev.sec.fails + 1)
          ∧ e.on fSecStatChalValid = false))
    ∧ (s.dev.applies secCmd (fSecCmdAction.set 0 3) 0xF#4 = true → Completes (.secClose) s (fun e => e.level = 0
          ∧ Device.OnlyRegs [hbusStat, pageStat 0x06, secIdleLeft, secStat] s.dev e))
    ∧ (Completes (.challengeExpiry) s (fun e => e.on fSecStatChalValid = false
          ∧ e.level = s.dev.level
          ∧ Device.OnlyRegs [secStat] s.dev e))
    ∧ (s.dev.level ≠ 0 → Completes (.idleTimeout) s (fun e => e.level = 0
          ∧ e.rd secIdleLeft = 0
          ∧ Device.raised 0x06 0 s.dev e
          ∧ Device.OnlyRegs [secStat, secIdleLeft, irqStat 0x06] s.dev e))
    ∧ (Completes (.backoffExpiry) s (fun e => e.sec.backoff = 0
          ∧ e.on fSecStatBackoff = false
          ∧ e.rd secBackoffLeft = 0
          ∧ e.sec.fails = s.dev.sec.fails
          ∧ Device.OnlyRegs [secStat, secBackoffLeft] s.dev e))
    ∧ (s.dev.applies secKeyCmd (fSecKeyCmdAction.set 0 1) 0xF#4 = true → Completes (.keyWriteOp) s (fun e => e.sec.keyRun = some (false, s.dev.sec.keyBuf.toList.flatMap wordBytes)
          ∧ e.sec.kOp = none
          ∧ Device.OnlyRegs [hbusStat, pageStat 0x06, secIdleLeft] s.dev e))
    ∧ (s.dev.applies secKeyCmd (fSecKeyCmdAction.set 0 2) 0xF#4 = true → Completes (.keyWriteProv) s (fun e => e.sec.keyRun = some (true, s.dev.sec.keyBuf.toList.flatMap wordBytes)
          ∧ e.sec.kProv = none
          ∧ Device.OnlyRegs [hbusStat, pageStat 0x06, secIdleLeft] s.dev e))
    ∧ (∀ (ok prov : Bool) (k : List Byte), s.dev.sec.keyRun = some (prov, k) → ok = true → Completes (.keyWriteDone ok) s (fun e => e.sec.keyRun = none
          ∧ (prov = false → e.sec.kOp = some k ∧ e.rd secKcvOp = keyCheck k ∧ e.on fSecStatKOpSet = true)
          ∧ (prov = true → e.sec.kProv = some k ∧ e.rd secKcvProv = keyCheck k ∧ e.on fSecStatKProvSet = true)
          ∧ e.sec.keyBuf.toList = List.replicate 8 0
          ∧ Device.OnlyRegs [secStat, secBackoffLeft, secKcvOp, secKcvProv] s.dev e))
    ∧ (∀ (ok prov : Bool) (k : List Byte), s.dev.sec.keyRun = some (prov, k) → ok = false → Completes (.keyWriteDone ok) s (fun e => e.sec.keyRun = none
          ∧ e.sec.kOp = s.dev.sec.kOp
          ∧ e.sec.kProv = s.dev.sec.kProv
          ∧ e.get fSecStatResult = 3
          ∧ Device.OnlyRegs [secStat] s.dev e))
    ∧ (s.dev.applies secKeyCmd (fSecKeyCmdAction.set 0 3) 0xF#4 = true → Completes (.sealArm) s (fun e => e.sec.armed = true
          ∧ e.sec.sealed = false
          ∧ Device.OnlyRegs [hbusStat, pageStat 0x06, secIdleLeft] s.dev e))
    ∧ (Completes (.sealArmExpiry) s (fun e => e.sec.armed = false
          ∧ Device.OnlyRegs [] s.dev e))
    ∧ (s.dev.applies secKeyCmd (fSecKeyCmdAction.set 0 4) 0xF#4 = true → Completes (.seal) s (fun e => e.sec.sealing = true
          ∧ e.sec.armed = false
          ∧ e.sec.sealed = false
          ∧ Device.OnlyRegs [hbusStat, pageStat 0x06, secIdleLeft] s.dev e))
    ∧ (s.dev.sec.sealing = true → Completes (.sealDone) s (fun e => e.sec.sealed = true
          ∧ e.sec.sealing = false
          ∧ e.on fSecStatSealed = true
          ∧ e.on fOptStatSealed = true
          ∧ e.get fReglStatState = 2
          ∧ e.level = (if s.dev.level = 2 then (if s.dev.on fSecStatLockdown then 0 else 1) else s.dev.level)
          ∧ Device.OnlyRegs [secStat, secBackoffLeft, optStat, reglStat] s.dev e))
    ∧ (∀ (cause : Fin 4), Completes (.tamperEvent cause) s (fun e => e.level = 0
          ∧ e.on fSecStatChalValid = false
          ∧ e.get fSecTamperCount = min (s.dev.get fSecTamperCount + 1) 0xFFFF
          ∧ e.on ⟨secTamper, 16 + cause.val, 16 + cause.val⟩ = true
          ∧ e.sec.tampers = s.dev.sec.tampers + 1
          ∧ e.sec.keyRun = none
          ∧ e.sec.sealing = false
          ∧ e.on fSecStatLockdown = (decide (s.dev.get fSecCfgTamperLimit ≤ s.dev.sec.tampers + 1) || s.dev.on fSecStatLockdown)
          ∧ Device.raised 0x06 1 s.dev e
          ∧ Device.OnlyRegs [secStat, secTamper, irqStat 0x06] s.dev e))
    ∧ (s.dev.sec.sealed = true → Completes (.jtagInstruction .selnum) s (fun e => e.level = 0
          ∧ e.on ⟨secTamper, 20, 20⟩ = true
          ∧ e.sec.tampers = s.dev.sec.tampers + 1
          ∧ Device.OnlyRegs [secStat, secTamper, irqStat 0x06] s.dev e))
    ∧ (exec (.jtagInstruction .basic) s = .next { s with dev := s.dev.settle })
    ∧ (s.dev.carriersOff = true → Completes (.jtagInstruction .extest) s (fun e => e.extest = true))
    ∧ (s.dev.carriersOff = true → Completes (.testLogicReset) s (fun e => e.extest = false
          ∧ Device.OnlyRegs [] s.dev e))
end

