-- ==== Sys2Proof/Laws/Bits.lean ====
section
/-!
SUPPORT. Laws of bit fields of a word: a field reads back what was set, and bits outside it keep their value.
-/
namespace Sys2Proof.Machine

theorem testBit_bitsOf (w : Word) (hi lo j : Nat) :
    (bitsOf w hi lo).testBit j = (decide (j < hi + 1 - lo) && w.getLsbD (lo + j)) := by
  simp [bitsOf, Nat.testBit_mod_two_pow, Nat.testBit_shiftRight, BitVec.getLsbD]

theorem getLsbD_setBits (w : Word) (hi lo n i : Nat) (h : hi < 32) (hlo : lo ≤ hi) :
    (setBits w hi lo n).getLsbD i = if lo ≤ i ∧ i ≤ hi then n.testBit (i - lo) else w.getLsbD i := by
  by_cases hi32 : i < 32
  · simp only [setBits, BitVec.getLsbD_or, BitVec.getLsbD_and, BitVec.getLsbD_not, BitVec.getLsbD_ofNat, hi32,
      decide_true, Bool.true_and, Nat.testBit_shiftLeft, Nat.testBit_two_pow_sub_one, Nat.testBit_mod_two_pow, ge_iff_le]
    by_cases h1 : lo ≤ i
    · by_cases h2 : i ≤ hi
      · have : i - lo < hi + 1 - lo := by omega
        simp [h1, h2, this]
      · have : ¬ i - lo < hi + 1 - lo := by omega
        simp [h1, h2, this]
    · simp [h1]
  · have h2 : ¬ i ≤ hi := by omega
    rw [BitVec.getLsbD_of_ge _ _ (by omega)]
    simp [h2, BitVec.getLsbD_of_ge w i (by omega)]

theorem bitsOf_lt (w : Word) (hi lo : Nat) : bitsOf w hi lo < 2 ^ (hi + 1 - lo) := Nat.mod_lt _ (Nat.two_pow_pos _)

/-- A field reads back what was set in it, up to its width. -/
theorem bitsOf_setBits_same (w : Word) (hi lo n : Nat) (h : hi < 32) (hlo : lo ≤ hi) :
    bitsOf (setBits w hi lo n) hi lo = n % 2 ^ (hi + 1 - lo) := by
  apply Nat.eq_of_testBit_eq
  intro j
  rw [testBit_bitsOf, getLsbD_setBits _ _ _ _ _ h hlo, Nat.testBit_mod_two_pow]
  by_cases hj : j < hi + 1 - lo
  · have : lo + j ≤ hi := by omega
    simp [hj, this]
  · simp [hj]

/-- A field keeps its value when bits outside it are set. -/
theorem bitsOf_setBits_other (w : Word) (hi lo n hi' lo' : Nat) (h : hi < 32) (hlo : lo ≤ hi) (hd : hi' < lo ∨ hi < lo') :
    bitsOf (setBits w hi lo n) hi' lo' = bitsOf w hi' lo' := by
  apply Nat.eq_of_testBit_eq
  intro j
  rw [testBit_bitsOf, testBit_bitsOf, getLsbD_setBits _ _ _ _ _ h hlo]
  by_cases hj : j < hi' + 1 - lo'
  · have : ¬ (lo ≤ lo' + j ∧ lo' + j ≤ hi) := by omega
    simp [hj, this]
  · simp [hj]

/-- Setting a field to the value it has changes nothing. -/
theorem setBits_self (w : Word) (hi lo : Nat) (h : hi < 32) (hlo : lo ≤ hi) : setBits w hi lo (bitsOf w hi lo) = w := by
  apply BitVec.eq_of_getLsbD_eq
  intro i _
  rw [getLsbD_setBits _ _ _ _ _ h hlo]
  split
  · rename_i hr
    rw [testBit_bitsOf]
    have : i - lo < hi + 1 - lo := by omega
    simp [this, Nat.add_sub_cancel' hr.1]
  · rfl

end Sys2Proof.Machine
end

