-- ==== Sys2Proof/Laws/Store.lean ====
section
/-!
SUPPORT. Laws of sparse stores: a read after a write gives what was written, other addresses keep what they read, and every operation keeps the canonical form.
-/
namespace Sys2Proof.Machine

variable {α : Type} {dflt : Nat → α}

section Get
variable [DecidableEq α]

theorem storeWfFrom_mono {l : List (Nat × α)} {m n : Nat} (h : storeWfFrom dflt n l = true) (hmn : m ≤ n) :
    storeWfFrom dflt m l = true := by
  cases l with
  | nil => rfl
  | cons e t =>
    obtain ⟨a, v⟩ := e
    simp only [storeWfFrom, Bool.and_eq_true, decide_eq_true_eq] at h ⊢
    exact ⟨⟨hmn.trans h.1.1, h.1.2⟩, h.2⟩

omit [DecidableEq α] in
theorem storeGet_filter (p : Nat → Bool) (l : List (Nat × α)) (k : Nat) :
    storeGet dflt (l.filter (fun e => p e.1)) k = if p k then storeGet dflt l k else dflt k := by
  induction l with
  | nil => simp [storeGet]
  | cons e t ih =>
    obtain ⟨a, w⟩ := e
    by_cases hp : p a
    · by_cases hk : k = a
      · simp [storeGet, hk, hp]
      · simp [storeGet, hk, hp, ih]
    · by_cases hk : k = a
      · simp [hk, hp] at ih ⊢
        exact ih
      · simp [storeGet, hk, hp, ih]

omit [DecidableEq α] in
theorem storeGet_insert (l : List (Nat × α)) (k j : Nat) (v : α) :
    storeGet dflt (storeInsert l k v) j = if j = k then v else storeGet dflt l j := by
  induction l with
  | nil => simp [storeInsert, storeGet]
  | cons e t ih =>
    obtain ⟨a, w⟩ := e
    rcases lt_trichotomy k a with hka | rfl | hka
    · simp [storeInsert, storeGet, hka]
    · by_cases hj : j = k <;> simp [storeInsert, storeGet, hj]
    · have h1 : ¬ k < a := by omega
      have h2 : k ≠ a := by omega
      simp only [storeInsert, h1, h2, if_false, storeGet, ih]
      by_cases hj : j = a
      · have : j ≠ k := by omega
        simp [hj, h2.symm]
      · simp [hj]

/-- What a store reads as after a write: the value written there, and elsewhere what it read before. -/
theorem storeGet_put (l : List (Nat × α)) (k j : Nat) (v : α) :
    storeGet dflt (storePut dflt l k v) j = if j = k then v else storeGet dflt l j := by
  unfold storePut
  split
  · rename_i hv
    rw [storeGet_filter (fun a => a != k)]
    by_cases hj : j = k
    · simp [hj, hv]
    · simp [hj]
  · exact storeGet_insert l k j v

theorem storeInsert_wf_from (l : List (Nat × α)) (n k : Nat) (v : α) (h : storeWfFrom dflt n l = true) (hv : v ≠ dflt k) :
    storeWfFrom dflt (min n k) (storeInsert l k v) = true := by
  induction l generalizing n with
  | nil => simp [storeInsert, storeWfFrom, hv]
  | cons e t ih =>
    obtain ⟨a, w⟩ := e
    have h' := h
    simp only [storeWfFrom, Bool.and_eq_true, decide_eq_true_eq] at h
    rcases lt_trichotomy k a with hka | rfl | hka
    · simp only [storeInsert, hka, if_true, storeWfFrom, Bool.and_eq_true, decide_eq_true_eq]
      exact ⟨⟨min_le_right n k, hv⟩, ⟨by omega, h.1.2⟩, h.2⟩
    · simp only [storeInsert, lt_irrefl, if_false, if_true, storeWfFrom, Bool.and_eq_true, decide_eq_true_eq]
      exact ⟨⟨min_le_right n k, hv⟩, h.2⟩
    · have h1 : ¬ k < a := by omega
      have h2 : k ≠ a := by omega
      simp only [storeInsert, h1, h2, if_false, storeWfFrom, Bool.and_eq_true, decide_eq_true_eq]
      exact ⟨⟨by omega, h.1.2⟩, storeWfFrom_mono (ih _ h.2) (by omega)⟩

theorem storeClear_wf_from (p : Nat → Bool) (l : List (Nat × α)) (n : Nat) (h : storeWfFrom dflt n l = true) :
    storeWfFrom dflt n (storeClear p l) = true := by
  induction l generalizing n with
  | nil => rfl
  | cons e t ih =>
    obtain ⟨a, w⟩ := e
    simp only [storeWfFrom, Bool.and_eq_true, decide_eq_true_eq] at h
    have ht := ih _ h.2
    by_cases hp : p a
    · simpa [storeClear, hp] using storeWfFrom_mono (by simpa [storeClear] using ht) (by omega : n ≤ a + 1)
    · simpa [storeClear, hp, storeWfFrom, h.1.1, h.1.2] using ht

/-- Clearing addresses keeps the canonical form. -/
theorem storeClear_wf {l : List (Nat × α)} (p : Nat → Bool) (h : storeWf dflt l = true) :
    storeWf dflt (storeClear p l) = true := storeClear_wf_from p l 0 h

/-- A write keeps the canonical form. -/
theorem storePut_wf {l : List (Nat × α)} (h : storeWf dflt l = true) (k : Nat) (v : α) :
    storeWf dflt (storePut dflt l k v) = true := by
  unfold storePut
  split
  · have := storeClear_wf (fun a => a == k) h
    simpa [storeClear, bne] using this
  · rename_i hv
    simpa [storeWf] using storeInsert_wf_from l 0 k v h hv

omit [DecidableEq α] in
/-- Clearing makes the chosen addresses read as their default and leaves the others. -/
theorem storeGet_clear (p : Nat → Bool) (l : List (Nat × α)) (k : Nat) :
    storeGet dflt (storeClear p l) k = if p k then dflt k else storeGet dflt l k := by
  have := storeGet_filter (dflt := dflt) (fun a => !p a) l k
  cases hp : p k <;> simpa [storeClear, hp] using this

end Get

/-! ### Bytes -/

/-- Storing bytes keeps the canonical form. -/
theorem writeBytes_wf {d : Nat → Byte} {m : List (Nat × Byte)} (h : storeWf d m = true) (a : Nat) (bs : List Byte) :
    storeWf d (writeBytes d m a bs) = true := by
  induction bs generalizing m a with
  | nil => exact h
  | cons b t ih => exact ih (storePut_wf h a b) (a + 1)

/-- A store of a word under byte enables keeps the canonical form. -/
theorem writeWordBe_wf {d : Nat → Byte} {m : List (Nat × Byte)} (h : storeWf d m = true) (a : Nat) (v : Word) (be : BitVec 4) :
    storeWf d (writeWordBe d m a v be) = true := by
  have step : ∀ (k : Nat) (m : List (Nat × Byte)), storeWf d m = true →
      storeWf d (if be.getLsbD k then storePut d m (a + k) (v.extractLsb' (8 * k) 8) else m) = true := by
    intro k m hm
    split
    · exact storePut_wf hm _ _
    · exact hm
  exact step 3 _ (step 2 _ (step 1 _ (step 0 _ h)))

end Sys2Proof.Machine
end

