-- ==== Sys2Proof/Laws/State.lean ====
section
/-!
SUPPORT. What each update of the device leaves as it was, one lemma per field and update, and what registers and fields read as after each. Each holds by definition; `id rfl` makes simp rewrite with it as a proposition, so that the kernel never compares two register stores.
-/
namespace Sys2Proof.Machine

/-! ### Spellings: every register update is a `wr` or a `put` -/

@[simp] theorem Device.putB_eq (d : Device) (f : Fld) (b : Bool) : d.putB f b = d.put f b.toNat := id rfl
@[simp] theorem Device.putS_eq (d : Device) (f : Fld) (i : Int) : d.putS f i = d.put f (twosOf (f.hi + 1 - f.lo) i) := id rfl
@[simp] theorem Device.addWrap_eq (d : Device) (f : Fld) (n : Nat) : d.addWrap f n = d.put f (d.get f + n) := id rfl
@[simp] theorem Device.addSat_eq (d : Device) (f : Fld) (n : Nat) :
    d.addSat f n = d.put f (min (d.get f + n) (2 ^ (f.hi + 1 - f.lo) - 1)) := id rfl
@[simp] theorem Device.count_eq (d : Device) (f : Fld) :
    d.count f = d.put f (min (d.get f + 1) (2 ^ (f.hi + 1 - f.lo) - 1)) := id rfl
@[simp] theorem Device.when_true (d : Device) (f : Device → Device) : d.when true f = f d := id rfl
@[simp] theorem Device.when_false (d : Device) (f : Device → Device) : d.when false f = d := id rfl
@[simp] theorem Device.forAll_nil {α : Type} (d : Device) (f : Device → α → Device) : d.forAll [] f = d := id rfl
@[simp] theorem Device.forAll_cons {α : Type} (d : Device) (x : α) (l : List α) (f : Device → α → Device) :
    d.forAll (x :: l) f = (f d x).forAll l f := id rfl

/-- A sequence of updates keeps what each of them keeps. -/
theorem Device.forAll_keeps {α β : Type} (g : Device → β) (l : List α) (f : Device → α → Device)
    (h : ∀ d x, g (f d x) = g d) (d : Device) : g (d.forAll l f) = g d := by
  induction l generalizing d with
  | nil => rfl
  | cons x t ih => rw [Device.forAll_cons, ih, h]

/-- A sequence of updates, each of which keeps a property, keeps it. -/
theorem Device.forAll_induct {α : Type} (P : Device → Prop) (l : List α) (f : Device → α → Device)
    (h : ∀ d x, P d → P (f d x)) (d : Device) (hd : P d) : P (d.forAll l f) := by
  induction l generalizing d with
  | nil => exact hd
  | cons x t ih => exact ih _ (h d x hd)

/-! ### Register words and fields -/

/-- Registers read alike in devices with the same register store. -/
theorem Device.rd_congr {d e : Device} (h : e.regs = d.regs) (a : Nat) : e.rd a = d.rd a := by simp [Device.rd, h]
theorem Device.get_congr {d e : Device} (h : e.regs = d.regs) (f : Fld) : e.get f = d.get f := by simp [Device.get, Device.rd, h]

@[simp] theorem Device.rd_wr (d : Device) (a b : Nat) (v : Word) : (d.wr a v).rd b = if b = a then v else d.rd b :=
  storeGet_put d.regs a b v
theorem Device.rd_put (d : Device) (f : Fld) (n a : Nat) :
    (d.put f n).rd a = if a = f.reg then setBits (d.rd f.reg) f.hi f.lo n else d.rd a := Device.rd_wr d f.reg a _
@[simp] theorem Device.rd_put_self (d : Device) (f : Fld) (n : Nat) : (d.put f n).rd f.reg = setBits (d.rd f.reg) f.hi f.lo n := by
  simp [Device.rd_put]
theorem Device.rd_put_ne (d : Device) (f : Fld) (n a : Nat) (h : a ≠ f.reg) : (d.put f n).rd a = d.rd a := by
  simp [Device.rd_put, h]
theorem Device.get_wr_ne (d : Device) (a : Nat) (v : Word) (f : Fld) (h : f.reg ≠ a) : (d.wr a v).get f = d.get f := by
  simp [Device.get, h]
theorem Device.get_wr_same (d : Device) (a : Nat) (v : Word) (f : Fld) (h : f.reg = a) : (d.wr a v).get f = bitsOf v f.hi f.lo := by
  simp [Device.get, h]
theorem Device.get_put_ne (d : Device) (f g : Fld) (n : Nat) (h : g.reg ≠ f.reg) : (d.put f n).get g = d.get g := by
  simp [Device.get, Device.rd_put, h]
/-- A field reads back what was put in it, up to its width. -/
theorem Device.get_put_same (d : Device) (f : Fld) (n : Nat) (h : f.hi < 32) (hlo : f.lo ≤ f.hi) :
    (d.put f n).get f = n % 2 ^ (f.hi + 1 - f.lo) := by
  simp [Device.get, bitsOf_setBits_same _ _ _ _ h hlo]
/-- A field keeps its value when another field of its word is put. -/
theorem Device.get_put_apart (d : Device) (f g : Fld) (n : Nat) (h : f.hi < 32) (hlo : f.lo ≤ f.hi)
    (hd : g.hi < f.lo ∨ f.hi < g.lo) : (d.put f n).get g = d.get g := by
  by_cases hr : g.reg = f.reg
  · simp [Device.get, hr, bitsOf_setBits_other _ _ _ _ _ _ h hlo hd]
  · exact d.get_put_ne f g n hr

/-- An interrupt event changes the page's IRQ_STAT and no other word (R55). -/
theorem Device.rd_irq_ne (d : Device) (p b a : Nat) (h : a ≠ irqStat p) : (d.irq p b).rd a = d.rd a := by
  unfold Device.irq
  split
  · exact d.rd_put_ne _ _ _ h
  · rfl
theorem Device.get_irq_ne (d : Device) (p b : Nat) (f : Fld) (h : f.reg ≠ irqStat p) : (d.irq p b).get f = d.get f := by
  simp [Device.get, d.rd_irq_ne p b _ h]
/-- A level bit that follows its condition changes the page's IRQ_RAW and IRQ_STAT and no other word (R55). -/
theorem Device.rd_irqLevel_ne (d : Device) (p b : Nat) (c : Bool) (a : Nat) (h : a ≠ irqStat p) (hr : a ≠ irqRaw p) :
    (d.irqLevel p b c).rd a = d.rd a := by
  unfold Device.irqLevel
  split
  · rw [Device.rd_irq_ne _ _ _ _ h, d.rd_put_ne _ _ _ hr]
  · exact d.rd_put_ne _ _ _ hr

@[simp] theorem Device.rd_setMirror (d : Device) (a : Nat) (v : Word) (x : Nat) : (d.setMirror a v).rd x = d.rd x := by
  unfold Device.setMirror; split
  · rfl
  · dsimp only; split <;> rfl
@[simp] theorem Device.get_setMirror (d : Device) (a : Nat) (v : Word) (x : Fld) : (d.setMirror a v).get x = d.get x := by simp only [Device.get, Device.rd_setMirror]
@[simp] theorem Device.rd_setIsland (d : Device) (i : Nat) (v : IslandSt) (x : Nat) : (d.setIsland i v).rd x = d.rd x := id rfl
@[simp] theorem Device.get_setIsland (d : Device) (i : Nat) (v : IslandSt) (x : Fld) : (d.setIsland i v).get x = d.get x := by simp only [Device.get, Device.rd_setIsland]
@[simp] theorem Device.rd_modSes (d : Device) (n : Nat) (f : SesSt → SesSt) (x : Nat) : (d.modSes n f).rd x = d.rd x := id rfl
@[simp] theorem Device.get_modSes (d : Device) (n : Nat) (f : SesSt → SesSt) (x : Fld) : (d.modSes n f).get x = d.get x := by simp only [Device.get, Device.rd_modSes]
@[simp] theorem Device.rd_modStream (d : Device) (n : Nat) (f : StreamSt → StreamSt) (x : Nat) : (d.modStream n f).rd x = d.rd x := id rfl
@[simp] theorem Device.get_modStream (d : Device) (n : Nat) (f : StreamSt → StreamSt) (x : Fld) : (d.modStream n f).get x = d.get x := by simp only [Device.get, Device.rd_modStream]
@[simp] theorem Device.rd_modCar (d : Device) (c : Nat) (f : CarSt → CarSt) (x : Nat) : (d.modCar c f).rd x = d.rd x := id rfl
@[simp] theorem Device.get_modCar (d : Device) (c : Nat) (f : CarSt → CarSt) (x : Fld) : (d.modCar c f).get x = d.get x := by simp only [Device.get, Device.rd_modCar]
@[simp] theorem Device.rd_modPath (d : Device) (p : Nat) (f : PathSt → PathSt) (x : Nat) : (d.modPath p f).rd x = d.rd x := id rfl
@[simp] theorem Device.get_modPath (d : Device) (p : Nat) (f : PathSt → PathSt) (x : Fld) : (d.modPath p f).get x = d.get x := by simp only [Device.get, Device.rd_modPath]
@[simp] theorem Device.rd_modPil (d : Device) (p : Nat) (f : PilSt → PilSt) (x : Nat) : (d.modPil p f).rd x = d.rd x := id rfl
@[simp] theorem Device.get_modPil (d : Device) (p : Nat) (f : PilSt → PilSt) (x : Fld) : (d.modPil p f).get x = d.get x := by simp only [Device.get, Device.rd_modPil]
@[simp] theorem Device.rd_modTimer (d : Device) (k : Nat) (f : TimerSt → TimerSt) (x : Nat) : (d.modTimer k f).rd x = d.rd x := id rfl
@[simp] theorem Device.get_modTimer (d : Device) (k : Nat) (f : TimerSt → TimerSt) (x : Fld) : (d.modTimer k f).get x = d.get x := by simp only [Device.get, Device.rd_modTimer]
@[simp] theorem Device.rd_modCal (d : Device) (f : CalSt → CalSt) (x : Nat) : (d.modCal f).rd x = d.rd x := id rfl
@[simp] theorem Device.get_modCal (d : Device) (f : CalSt → CalSt) (x : Fld) : (d.modCal f).get x = d.get x := by simp only [Device.get, Device.rd_modCal]
@[simp] theorem Device.rd_modKl (d : Device) (f : KlSt → KlSt) (x : Nat) : (d.modKl f).rd x = d.rd x := id rfl
@[simp] theorem Device.get_modKl (d : Device) (f : KlSt → KlSt) (x : Fld) : (d.modKl f).get x = d.get x := by simp only [Device.get, Device.rd_modKl]
@[simp] theorem Device.rd_modPort (d : Device) (k : Nat) (f : KlPortSt → KlPortSt) (x : Nat) : (d.modPort k f).rd x = d.rd x := id rfl
@[simp] theorem Device.get_modPort (d : Device) (k : Nat) (f : KlPortSt → KlPortSt) (x : Fld) : (d.modPort k f).get x = d.get x := by simp only [Device.get, Device.rd_modPort]
@[simp] theorem Device.rd_modPl (d : Device) (f : PlSt → PlSt) (x : Nat) : (d.modPl f).rd x = d.rd x := id rfl
@[simp] theorem Device.get_modPl (d : Device) (f : PlSt → PlSt) (x : Fld) : (d.modPl f).get x = d.get x := by simp only [Device.get, Device.rd_modPl]
@[simp] theorem Device.rd_modRep (d : Device) (f : RepSt → RepSt) (x : Nat) : (d.modRep f).rd x = d.rd x := id rfl
@[simp] theorem Device.get_modRep (d : Device) (f : RepSt → RepSt) (x : Fld) : (d.modRep f).get x = d.get x := by simp only [Device.get, Device.rd_modRep]

/-! ### Records -/

/-- The record an update changes, and the others. -/
theorem Device.sess_modSes (d : Device) (n m : Nat) (f : SesSt → SesSt) :
    (d.modSes n f).sess m = if m = n ∧ n < 16 then f (d.sess n) else d.sess m := by
  by_cases hn : n < 16
  · by_cases hm : m = n
    · subst hm
      simp [Device.modSes, Device.sess, Vector.getD, hn]
    · by_cases hm2 : m < 16
      · simp [Device.modSes, Device.sess, Vector.getD, hm, hm2, Ne.symm hm]
      · simp [Device.modSes, Device.sess, Vector.getD, hm2, hm]
  · simp [Device.modSes, hn, Vector.setIfInBounds_eq_of_size_le (by omega : 16 ≤ n)]
/-- The record an update changes, and the others. -/
theorem Device.car_modCar (d : Device) (n m : Nat) (f : CarSt → CarSt) :
    (d.modCar n f).car m = if m = n ∧ n < 4 then f (d.car n) else d.car m := by
  by_cases hn : n < 4
  · by_cases hm : m = n
    · subst hm
      simp [Device.modCar, Device.car, Vector.getD, hn]
    · by_cases hm2 : m < 4
      · simp [Device.modCar, Device.car, Vector.getD, hm, hm2, Ne.symm hm]
      · simp [Device.modCar, Device.car, Vector.getD, hm2, hm]
  · simp [Device.modCar, hn, Vector.setIfInBounds_eq_of_size_le (by omega : 4 ≤ n)]
/-- The record an update changes, and the others. -/
theorem Device.path_modPath (d : Device) (n m : Nat) (f : PathSt → PathSt) :
    (d.modPath n f).path m = if m = n ∧ n < 64 then f (d.path n) else d.path m := by
  by_cases hn : n < 64
  · by_cases hm : m = n
    · subst hm
      simp [Device.modPath, Device.path, Vector.getD, hn]
    · by_cases hm2 : m < 64
      · simp [Device.modPath, Device.path, Vector.getD, hm, hm2, Ne.symm hm]
      · simp [Device.modPath, Device.path, Vector.getD, hm2, hm]
  · simp [Device.modPath, hn, Vector.setIfInBounds_eq_of_size_le (by omega : 64 ≤ n)]
/-- The record an update changes, and the others. -/
theorem Device.pil_modPil (d : Device) (n m : Nat) (f : PilSt → PilSt) :
    (d.modPil n f).pil m = if m = n ∧ n < 20 then f (d.pil n) else d.pil m := by
  by_cases hn : n < 20
  · by_cases hm : m = n
    · subst hm
      simp [Device.modPil, Device.pil, Vector.getD, hn]
    · by_cases hm2 : m < 20
      · simp [Device.modPil, Device.pil, Vector.getD, hm, hm2, Ne.symm hm]
      · simp [Device.modPil, Device.pil, Vector.getD, hm2, hm]
  · simp [Device.modPil, hn, Vector.setIfInBounds_eq_of_size_le (by omega : 20 ≤ n)]
/-- The record an update changes, and the others. -/
theorem Device.timer_modTimer (d : Device) (n m : Nat) (f : TimerSt → TimerSt) :
    (d.modTimer n f).timer m = if m = n ∧ n < 16 then f (d.timer n) else d.timer m := by
  by_cases hn : n < 16
  · by_cases hm : m = n
    · subst hm
      simp [Device.modTimer, Device.timer, Vector.getD, hn]
    · by_cases hm2 : m < 16
      · simp [Device.modTimer, Device.timer, Vector.getD, hm, hm2, Ne.symm hm]
      · simp [Device.modTimer, Device.timer, Vector.getD, hm2, hm]
  · simp [Device.modTimer, hn, Vector.setIfInBounds_eq_of_size_le (by omega : 16 ≤ n)]

/-! ### Fields an update leaves -/

@[simp] theorem Device.wr_mirror (d : Device) (a : Nat) (v : Word) : (d.wr a v).mirror = d.mirror := id rfl
@[simp] theorem Device.wr_post (d : Device) (a : Nat) (v : Word) : (d.wr a v).post = d.post := id rfl
@[simp] theorem Device.wr_free (d : Device) (a : Nat) (v : Word) : (d.wr a v).free = d.free := id rfl
@[simp] theorem Device.wr_isl (d : Device) (a : Nat) (v : Word) : (d.wr a v).isl = d.isl := id rfl
@[simp] theorem Device.wr_rst (d : Device) (a : Nat) (v : Word) : (d.wr a v).rst = d.rst := id rfl
@[simp] theorem Device.wr_pwr (d : Device) (a : Nat) (v : Word) : (d.wr a v).pwr = d.pwr := id rfl
@[simp] theorem Device.wr_rtc (d : Device) (a : Nat) (v : Word) : (d.wr a v).rtc = d.rtc := id rfl
@[simp] theorem Device.wr_watch (d : Device) (a : Nat) (v : Word) : (d.wr a v).watch = d.watch := id rfl
@[simp] theorem Device.wr_hk (d : Device) (a : Nat) (v : Word) : (d.wr a v).hk = d.hk := id rfl
@[simp] theorem Device.wr_timers (d : Device) (a : Nat) (v : Word) : (d.wr a v).timers = d.timers := id rfl
@[simp] theorem Device.wr_tmIo (d : Device) (a : Nat) (v : Word) : (d.wr a v).tmIo = d.tmIo := id rfl
@[simp] theorem Device.wr_balls (d : Device) (a : Nat) (v : Word) : (d.wr a v).balls = d.balls := id rfl
@[simp] theorem Device.wr_linkSeen (d : Device) (a : Nat) (v : Word) : (d.wr a v).linkSeen = d.linkSeen := id rfl
@[simp] theorem Device.wr_linkNew (d : Device) (a : Nat) (v : Word) : (d.wr a v).linkNew = d.linkNew := id rfl
@[simp] theorem Device.wr_trigOut (d : Device) (a : Nat) (v : Word) : (d.wr a v).trigOut = d.trigOut := id rfl
@[simp] theorem Device.wr_rep (d : Device) (a : Nat) (v : Word) : (d.wr a v).rep = d.rep := id rfl
@[simp] theorem Device.wr_pilots (d : Device) (a : Nat) (v : Word) : (d.wr a v).pilots = d.pilots := id rfl
@[simp] theorem Device.wr_bootCfg (d : Device) (a : Nat) (v : Word) : (d.wr a v).bootCfg = d.bootCfg := id rfl
@[simp] theorem Device.wr_sram (d : Device) (a : Nat) (v : Word) : (d.wr a v).sram = d.sram := id rfl
@[simp] theorem Device.wr_bus (d : Device) (a : Nat) (v : Word) : (d.wr a v).bus = d.bus := id rfl
@[simp] theorem Device.wr_hd (d : Device) (a : Nat) (v : Word) : (d.wr a v).hd = d.hd := id rfl
@[simp] theorem Device.wr_sspm (d : Device) (a : Nat) (v : Word) : (d.wr a v).sspm = d.sspm := id rfl
@[simp] theorem Device.wr_ssps (d : Device) (a : Nat) (v : Word) : (d.wr a v).ssps = d.ssps := id rfl
@[simp] theorem Device.wr_sec (d : Device) (a : Nat) (v : Word) : (d.wr a v).sec = d.sec := id rfl
@[simp] theorem Device.wr_man (d : Device) (a : Nat) (v : Word) : (d.wr a v).man = d.man := id rfl
@[simp] theorem Device.wr_bf (d : Device) (a : Nat) (v : Word) : (d.wr a v).bf = d.bf := id rfl
@[simp] theorem Device.wr_profile (d : Device) (a : Nat) (v : Word) : (d.wr a v).profile = d.profile := id rfl
@[simp] theorem Device.wr_cars (d : Device) (a : Nat) (v : Word) : (d.wr a v).cars = d.cars := id rfl
@[simp] theorem Device.wr_bandCal (d : Device) (a : Nat) (v : Word) : (d.wr a v).bandCal = d.bandCal := id rfl
@[simp] theorem Device.wr_bwFresh (d : Device) (a : Nat) (v : Word) : (d.wr a v).bwFresh = d.bwFresh := id rfl
@[simp] theorem Device.wr_occ (d : Device) (a : Nat) (v : Word) : (d.wr a v).occ = d.occ := id rfl
@[simp] theorem Device.wr_ses (d : Device) (a : Nat) (v : Word) : (d.wr a v).ses = d.ses := id rfl
@[simp] theorem Device.wr_paths (d : Device) (a : Nat) (v : Word) : (d.wr a v).paths = d.paths := id rfl
@[simp] theorem Device.wr_pathQueue (d : Device) (a : Nat) (v : Word) : (d.wr a v).pathQueue = d.pathQueue := id rfl
@[simp] theorem Device.wr_cal (d : Device) (a : Nat) (v : Word) : (d.wr a v).cal = d.cal := id rfl
@[simp] theorem Device.wr_coexGnt (d : Device) (a : Nat) (v : Word) : (d.wr a v).coexGnt = d.coexGnt := id rfl
@[simp] theorem Device.wr_opt (d : Device) (a : Nat) (v : Word) : (d.wr a v).opt = d.opt := id rfl
@[simp] theorem Device.wr_extest (d : Device) (a : Nat) (v : Word) : (d.wr a v).extest = d.extest := id rfl
@[simp] theorem Device.wr_kl (d : Device) (a : Nat) (v : Word) : (d.wr a v).kl = d.kl := id rfl
@[simp] theorem Device.wr_pl (d : Device) (a : Nat) (v : Word) : (d.wr a v).pl = d.pl := id rfl
@[simp] theorem Device.wr_ringSent (d : Device) (a : Nat) (v : Word) : (d.wr a v).ringSent = d.ringSent := id rfl
@[simp] theorem Device.wr_pinMap (d : Device) (a : Nat) (v : Word) : (d.wr a v).pinMap = d.pinMap := id rfl
@[simp] theorem Device.wr_optRun (d : Device) (a : Nat) (v : Word) : (d.wr a v).optRun = d.optRun := id rfl
@[simp] theorem Device.wr_optStage (d : Device) (a : Nat) (v : Word) : (d.wr a v).optStage = d.optStage := id rfl
@[simp] theorem Device.put_mirror (d : Device) (f : Fld) (n : Nat) : (d.put f n).mirror = d.mirror := id rfl
@[simp] theorem Device.put_post (d : Device) (f : Fld) (n : Nat) : (d.put f n).post = d.post := id rfl
@[simp] theorem Device.put_free (d : Device) (f : Fld) (n : Nat) : (d.put f n).free = d.free := id rfl
@[simp] theorem Device.put_isl (d : Device) (f : Fld) (n : Nat) : (d.put f n).isl = d.isl := id rfl
@[simp] theorem Device.put_rst (d : Device) (f : Fld) (n : Nat) : (d.put f n).rst = d.rst := id rfl
@[simp] theorem Device.put_pwr (d : Device) (f : Fld) (n : Nat) : (d.put f n).pwr = d.pwr := id rfl
@[simp] theorem Device.put_rtc (d : Device) (f : Fld) (n : Nat) : (d.put f n).rtc = d.rtc := id rfl
@[simp] theorem Device.put_watch (d : Device) (f : Fld) (n : Nat) : (d.put f n).watch = d.watch := id rfl
@[simp] theorem Device.put_hk (d : Device) (f : Fld) (n : Nat) : (d.put f n).hk = d.hk := id rfl
@[simp] theorem Device.put_timers (d : Device) (f : Fld) (n : Nat) : (d.put f n).timers = d.timers := id rfl
@[simp] theorem Device.put_tmIo (d : Device) (f : Fld) (n : Nat) : (d.put f n).tmIo = d.tmIo := id rfl
@[simp] theorem Device.put_balls (d : Device) (f : Fld) (n : Nat) : (d.put f n).balls = d.balls := id rfl
@[simp] theorem Device.put_linkSeen (d : Device) (f : Fld) (n : Nat) : (d.put f n).linkSeen = d.linkSeen := id rfl
@[simp] theorem Device.put_linkNew (d : Device) (f : Fld) (n : Nat) : (d.put f n).linkNew = d.linkNew := id rfl
@[simp] theorem Device.put_trigOut (d : Device) (f : Fld) (n : Nat) : (d.put f n).trigOut = d.trigOut := id rfl
@[simp] theorem Device.put_rep (d : Device) (f : Fld) (n : Nat) : (d.put f n).rep = d.rep := id rfl
@[simp] theorem Device.put_pilots (d : Device) (f : Fld) (n : Nat) : (d.put f n).pilots = d.pilots := id rfl
@[simp] theorem Device.put_bootCfg (d : Device) (f : Fld) (n : Nat) : (d.put f n).bootCfg = d.bootCfg := id rfl
@[simp] theorem Device.put_sram (d : Device) (f : Fld) (n : Nat) : (d.put f n).sram = d.sram := id rfl
@[simp] theorem Device.put_bus (d : Device) (f : Fld) (n : Nat) : (d.put f n).bus = d.bus := id rfl
@[simp] theorem Device.put_hd (d : Device) (f : Fld) (n : Nat) : (d.put f n).hd = d.hd := id rfl
@[simp] theorem Device.put_sspm (d : Device) (f : Fld) (n : Nat) : (d.put f n).sspm = d.sspm := id rfl
@[simp] theorem Device.put_ssps (d : Device) (f : Fld) (n : Nat) : (d.put f n).ssps = d.ssps := id rfl
@[simp] theorem Device.put_sec (d : Device) (f : Fld) (n : Nat) : (d.put f n).sec = d.sec := id rfl
@[simp] theorem Device.put_man (d : Device) (f : Fld) (n : Nat) : (d.put f n).man = d.man := id rfl
@[simp] theorem Device.put_bf (d : Device) (f : Fld) (n : Nat) : (d.put f n).bf = d.bf := id rfl
@[simp] theorem Device.put_profile (d : Device) (f : Fld) (n : Nat) : (d.put f n).profile = d.profile := id rfl
@[simp] theorem Device.put_cars (d : Device) (f : Fld) (n : Nat) : (d.put f n).cars = d.cars := id rfl
@[simp] theorem Device.put_bandCal (d : Device) (f : Fld) (n : Nat) : (d.put f n).bandCal = d.bandCal := id rfl
@[simp] theorem Device.put_bwFresh (d : Device) (f : Fld) (n : Nat) : (d.put f n).bwFresh = d.bwFresh := id rfl
@[simp] theorem Device.put_occ (d : Device) (f : Fld) (n : Nat) : (d.put f n).occ = d.occ := id rfl
@[simp] theorem Device.put_ses (d : Device) (f : Fld) (n : Nat) : (d.put f n).ses = d.ses := id rfl
@[simp] theorem Device.put_paths (d : Device) (f : Fld) (n : Nat) : (d.put f n).paths = d.paths := id rfl
@[simp] theorem Device.put_pathQueue (d : Device) (f : Fld) (n : Nat) : (d.put f n).pathQueue = d.pathQueue := id rfl
@[simp] theorem Device.put_cal (d : Device) (f : Fld) (n : Nat) : (d.put f n).cal = d.cal := id rfl
@[simp] theorem Device.put_coexGnt (d : Device) (f : Fld) (n : Nat) : (d.put f n).coexGnt = d.coexGnt := id rfl
@[simp] theorem Device.put_opt (d : Device) (f : Fld) (n : Nat) : (d.put f n).opt = d.opt := id rfl
@[simp] theorem Device.put_extest (d : Device) (f : Fld) (n : Nat) : (d.put f n).extest = d.extest := id rfl
@[simp] theorem Device.put_kl (d : Device) (f : Fld) (n : Nat) : (d.put f n).kl = d.kl := id rfl
@[simp] theorem Device.put_pl (d : Device) (f : Fld) (n : Nat) : (d.put f n).pl = d.pl := id rfl
@[simp] theorem Device.put_ringSent (d : Device) (f : Fld) (n : Nat) : (d.put f n).ringSent = d.ringSent := id rfl
@[simp] theorem Device.put_pinMap (d : Device) (f : Fld) (n : Nat) : (d.put f n).pinMap = d.pinMap := id rfl
@[simp] theorem Device.put_optRun (d : Device) (f : Fld) (n : Nat) : (d.put f n).optRun = d.optRun := id rfl
@[simp] theorem Device.put_optStage (d : Device) (f : Fld) (n : Nat) : (d.put f n).optStage = d.optStage := id rfl
@[simp] theorem Device.irq_mirror (d : Device) (p b : Nat) : (d.irq p b).mirror = d.mirror := by unfold Device.irq; split <;> rfl
@[simp] theorem Device.irq_post (d : Device) (p b : Nat) : (d.irq p b).post = d.post := by unfold Device.irq; split <;> rfl
@[simp] theorem Device.irq_free (d : Device) (p b : Nat) : (d.irq p b).free = d.free := by unfold Device.irq; split <;> rfl
@[simp] theorem Device.irq_isl (d : Device) (p b : Nat) : (d.irq p b).isl = d.isl := by unfold Device.irq; split <;> rfl
@[simp] theorem Device.irq_rst (d : Device) (p b : Nat) : (d.irq p b).rst = d.rst := by unfold Device.irq; split <;> rfl
@[simp] theorem Device.irq_pwr (d : Device) (p b : Nat) : (d.irq p b).pwr = d.pwr := by unfold Device.irq; split <;> rfl
@[simp] theorem Device.irq_rtc (d : Device) (p b : Nat) : (d.irq p b).rtc = d.rtc := by unfold Device.irq; split <;> rfl
@[simp] theorem Device.irq_watch (d : Device) (p b : Nat) : (d.irq p b).watch = d.watch := by unfold Device.irq; split <;> rfl
@[simp] theorem Device.irq_hk (d : Device) (p b : Nat) : (d.irq p b).hk = d.hk := by unfold Device.irq; split <;> rfl
@[simp] theorem Device.irq_timers (d : Device) (p b : Nat) : (d.irq p b).timers = d.timers := by unfold Device.irq; split <;> rfl
@[simp] theorem Device.irq_tmIo (d : Device) (p b : Nat) : (d.irq p b).tmIo = d.tmIo := by unfold Device.irq; split <;> rfl
@[simp] theorem Device.irq_balls (d : Device) (p b : Nat) : (d.irq p b).balls = d.balls := by unfold Device.irq; split <;> rfl
@[simp] theorem Device.irq_linkSeen (d : Device) (p b : Nat) : (d.irq p b).linkSeen = d.linkSeen := by unfold Device.irq; split <;> rfl
@[simp] theorem Device.irq_linkNew (d : Device) (p b : Nat) : (d.irq p b).linkNew = d.linkNew := by unfold Device.irq; split <;> rfl
@[simp] theorem Device.irq_trigOut (d : Device) (p b : Nat) : (d.irq p b).trigOut = d.trigOut := by unfold Device.irq; split <;> rfl
@[simp] theorem Device.irq_rep (d : Device) (p b : Nat) : (d.irq p b).rep = d.rep := by unfold Device.irq; split <;> rfl
@[simp] theorem Device.irq_pilots (d : Device) (p b : Nat) : (d.irq p b).pilots = d.pilots := by unfold Device.irq; split <;> rfl
@[simp] theorem Device.irq_bootCfg (d : Device) (p b : Nat) : (d.irq p b).bootCfg = d.bootCfg := by unfold Device.irq; split <;> rfl
@[simp] theorem Device.irq_sram (d : Device) (p b : Nat) : (d.irq p b).sram = d.sram := by unfold Device.irq; split <;> rfl
@[simp] theorem Device.irq_bus (d : Device) (p b : Nat) : (d.irq p b).bus = d.bus := by unfold Device.irq; split <;> rfl
@[simp] theorem Device.irq_hd (d : Device) (p b : Nat) : (d.irq p b).hd = d.hd := by unfold Device.irq; split <;> rfl
@[simp] theorem Device.irq_sspm (d : Device) (p b : Nat) : (d.irq p b).sspm = d.sspm := by unfold Device.irq; split <;> rfl
@[simp] theorem Device.irq_ssps (d : Device) (p b : Nat) : (d.irq p b).ssps = d.ssps := by unfold Device.irq; split <;> rfl
@[simp] theorem Device.irq_sec (d : Device) (p b : Nat) : (d.irq p b).sec = d.sec := by unfold Device.irq; split <;> rfl
@[simp] theorem Device.irq_man (d : Device) (p b : Nat) : (d.irq p b).man = d.man := by unfold Device.irq; split <;> rfl
@[simp] theorem Device.irq_bf (d : Device) (p b : Nat) : (d.irq p b).bf = d.bf := by unfold Device.irq; split <;> rfl
@[simp] theorem Device.irq_profile (d : Device) (p b : Nat) : (d.irq p b).profile = d.profile := by unfold Device.irq; split <;> rfl
@[simp] theorem Device.irq_cars (d : Device) (p b : Nat) : (d.irq p b).cars = d.cars := by unfold Device.irq; split <;> rfl
@[simp] theorem Device.irq_bandCal (d : Device) (p b : Nat) : (d.irq p b).bandCal = d.bandCal := by unfold Device.irq; split <;> rfl
@[simp] theorem Device.irq_bwFresh (d : Device) (p b : Nat) : (d.irq p b).bwFresh = d.bwFresh := by unfold Device.irq; split <;> rfl
@[simp] theorem Device.irq_occ (d : Device) (p b : Nat) : (d.irq p b).occ = d.occ := by unfold Device.irq; split <;> rfl
@[simp] theorem Device.irq_ses (d : Device) (p b : Nat) : (d.irq p b).ses = d.ses := by unfold Device.irq; split <;> rfl
@[simp] theorem Device.irq_paths (d : Device) (p b : Nat) : (d.irq p b).paths = d.paths := by unfold Device.irq; split <;> rfl
@[simp] theorem Device.irq_pathQueue (d : Device) (p b : Nat) : (d.irq p b).pathQueue = d.pathQueue := by unfold Device.irq; split <;> rfl
@[simp] theorem Device.irq_cal (d : Device) (p b : Nat) : (d.irq p b).cal = d.cal := by unfold Device.irq; split <;> rfl
@[simp] theorem Device.irq_coexGnt (d : Device) (p b : Nat) : (d.irq p b).coexGnt = d.coexGnt := by unfold Device.irq; split <;> rfl
@[simp] theorem Device.irq_opt (d : Device) (p b : Nat) : (d.irq p b).opt = d.opt := by unfold Device.irq; split <;> rfl
@[simp] theorem Device.irq_extest (d : Device) (p b : Nat) : (d.irq p b).extest = d.extest := by unfold Device.irq; split <;> rfl
@[simp] theorem Device.irq_kl (d : Device) (p b : Nat) : (d.irq p b).kl = d.kl := by unfold Device.irq; split <;> rfl
@[simp] theorem Device.irq_pl (d : Device) (p b : Nat) : (d.irq p b).pl = d.pl := by unfold Device.irq; split <;> rfl
@[simp] theorem Device.irq_ringSent (d : Device) (p b : Nat) : (d.irq p b).ringSent = d.ringSent := by unfold Device.irq; split <;> rfl
@[simp] theorem Device.irq_pinMap (d : Device) (p b : Nat) : (d.irq p b).pinMap = d.pinMap := by unfold Device.irq; split <;> rfl
@[simp] theorem Device.irq_optRun (d : Device) (p b : Nat) : (d.irq p b).optRun = d.optRun := by unfold Device.irq; split <;> rfl
@[simp] theorem Device.irq_optStage (d : Device) (p b : Nat) : (d.irq p b).optStage = d.optStage := by unfold Device.irq; split <;> rfl
@[simp] theorem Device.irqLevel_mirror (d : Device) (p b : Nat) (c : Bool) : (d.irqLevel p b c).mirror = d.mirror := by
  unfold Device.irqLevel; split
  · rw [Device.irq_mirror]; rfl
  · rfl
@[simp] theorem Device.irqLevel_post (d : Device) (p b : Nat) (c : Bool) : (d.irqLevel p b c).post = d.post := by
  unfold Device.irqLevel; split
  · rw [Device.irq_post]; rfl
  · rfl
@[simp] theorem Device.irqLevel_free (d : Device) (p b : Nat) (c : Bool) : (d.irqLevel p b c).free = d.free := by
  unfold Device.irqLevel; split
  · rw [Device.irq_free]; rfl
  · rfl
@[simp] theorem Device.irqLevel_isl (d : Device) (p b : Nat) (c : Bool) : (d.irqLevel p b c).isl = d.isl := by
  unfold Device.irqLevel; split
  · rw [Device.irq_isl]; rfl
  · rfl
@[simp] theorem Device.irqLevel_rst (d : Device) (p b : Nat) (c : Bool) : (d.irqLevel p b c).rst = d.rst := by
  unfold Device.irqLevel; split
  · rw [Device.irq_rst]; rfl
  · rfl
@[simp] theorem Device.irqLevel_pwr (d : Device) (p b : Nat) (c : Bool) : (d.irqLevel p b c).pwr = d.pwr := by
  unfold Device.irqLevel; split
  · rw [Device.irq_pwr]; rfl
  · rfl
@[simp] theorem Device.irqLevel_rtc (d : Device) (p b : Nat) (c : Bool) : (d.irqLevel p b c).rtc = d.rtc := by
  unfold Device.irqLevel; split
  · rw [Device.irq_rtc]; rfl
  · rfl
@[simp] theorem Device.irqLevel_watch (d : Device) (p b : Nat) (c : Bool) : (d.irqLevel p b c).watch = d.watch := by
  unfold Device.irqLevel; split
  · rw [Device.irq_watch]; rfl
  · rfl
@[simp] theorem Device.irqLevel_hk (d : Device) (p b : Nat) (c : Bool) : (d.irqLevel p b c).hk = d.hk := by
  unfold Device.irqLevel; split
  · rw [Device.irq_hk]; rfl
  · rfl
@[simp] theorem Device.irqLevel_timers (d : Device) (p b : Nat) (c : Bool) : (d.irqLevel p b c).timers = d.timers := by
  unfold Device.irqLevel; split
  · rw [Device.irq_timers]; rfl
  · rfl
@[simp] theorem Device.irqLevel_tmIo (d : Device) (p b : Nat) (c : Bool) : (d.irqLevel p b c).tmIo = d.tmIo := by
  unfold Device.irqLevel; split
  · rw [Device.irq_tmIo]; rfl
  · rfl
@[simp] theorem Device.irqLevel_balls (d : Device) (p b : Nat) (c : Bool) : (d.irqLevel p b c).balls = d.balls := by
  unfold Device.irqLevel; split
  · rw [Device.irq_balls]; rfl
  · rfl
@[simp] theorem Device.irqLevel_linkSeen (d : Device) (p b : Nat) (c : Bool) : (d.irqLevel p b c).linkSeen = d.linkSeen := by
  unfold Device.irqLevel; split
  · rw [Device.irq_linkSeen]; rfl
  · rfl
@[simp] theorem Device.irqLevel_linkNew (d : Device) (p b : Nat) (c : Bool) : (d.irqLevel p b c).linkNew = d.linkNew := by
  unfold Device.irqLevel; split
  · rw [Device.irq_linkNew]; rfl
  · rfl
@[simp] theorem Device.irqLevel_trigOut (d : Device) (p b : Nat) (c : Bool) : (d.irqLevel p b c).trigOut = d.trigOut := by
  unfold Device.irqLevel; split
  · rw [Device.irq_trigOut]; rfl
  · rfl
@[simp] theorem Device.irqLevel_rep (d : Device) (p b : Nat) (c : Bool) : (d.irqLevel p b c).rep = d.rep := by
  unfold Device.irqLevel; split
  · rw [Device.irq_rep]; rfl
  · rfl
@[simp] theorem Device.irqLevel_pilots (d : Device) (p b : Nat) (c : Bool) : (d.irqLevel p b c).pilots = d.pilots := by
  unfold Device.irqLevel; split
  · rw [Device.irq_pilots]; rfl
  · rfl
@[simp] theorem Device.irqLevel_bootCfg (d : Device) (p b : Nat) (c : Bool) : (d.irqLevel p b c).bootCfg = d.bootCfg := by
  unfold Device.irqLevel; split
  · rw [Device.irq_bootCfg]; rfl
  · rfl
@[simp] theorem Device.irqLevel_sram (d : Device) (p b : Nat) (c : Bool) : (d.irqLevel p b c).sram = d.sram := by
  unfold Device.irqLevel; split
  · rw [Device.irq_sram]; rfl
  · rfl
@[simp] theorem Device.irqLevel_bus (d : Device) (p b : Nat) (c : Bool) : (d.irqLevel p b c).bus = d.bus := by
  unfold Device.irqLevel; split
  · rw [Device.irq_bus]; rfl
  · rfl
@[simp] theorem Device.irqLevel_hd (d : Device) (p b : Nat) (c : Bool) : (d.irqLevel p b c).hd = d.hd := by
  unfold Device.irqLevel; split
  · rw [Device.irq_hd]; rfl
  · rfl
@[simp] theorem Device.irqLevel_sspm (d : Device) (p b : Nat) (c : Bool) : (d.irqLevel p b c).sspm = d.sspm := by
  unfold Device.irqLevel; split
  · rw [Device.irq_sspm]; rfl
  · rfl
@[simp] theorem Device.irqLevel_ssps (d : Device) (p b : Nat) (c : Bool) : (d.irqLevel p b c).ssps = d.ssps := by
  unfold Device.irqLevel; split
  · rw [Device.irq_ssps]; rfl
  · rfl
@[simp] theorem Device.irqLevel_sec (d : Device) (p b : Nat) (c : Bool) : (d.irqLevel p b c).sec = d.sec := by
  unfold Device.irqLevel; split
  · rw [Device.irq_sec]; rfl
  · rfl
@[simp] theorem Device.irqLevel_man (d : Device) (p b : Nat) (c : Bool) : (d.irqLevel p b c).man = d.man := by
  unfold Device.irqLevel; split
  · rw [Device.irq_man]; rfl
  · rfl
@[simp] theorem Device.irqLevel_bf (d : Device) (p b : Nat) (c : Bool) : (d.irqLevel p b c).bf = d.bf := by
  unfold Device.irqLevel; split
  · rw [Device.irq_bf]; rfl
  · rfl
@[simp] theorem Device.irqLevel_profile (d : Device) (p b : Nat) (c : Bool) : (d.irqLevel p b c).profile = d.profile := by
  unfold Device.irqLevel; split
  · rw [Device.irq_profile]; rfl
  · rfl
@[simp] theorem Device.irqLevel_cars (d : Device) (p b : Nat) (c : Bool) : (d.irqLevel p b c).cars = d.cars := by
  unfold Device.irqLevel; split
  · rw [Device.irq_cars]; rfl
  · rfl
@[simp] theorem Device.irqLevel_bandCal (d : Device) (p b : Nat) (c : Bool) : (d.irqLevel p b c).bandCal = d.bandCal := by
  unfold Device.irqLevel; split
  · rw [Device.irq_bandCal]; rfl
  · rfl
@[simp] theorem Device.irqLevel_bwFresh (d : Device) (p b : Nat) (c : Bool) : (d.irqLevel p b c).bwFresh = d.bwFresh := by
  unfold Device.irqLevel; split
  · rw [Device.irq_bwFresh]; rfl
  · rfl
@[simp] theorem Device.irqLevel_occ (d : Device) (p b : Nat) (c : Bool) : (d.irqLevel p b c).occ = d.occ := by
  unfold Device.irqLevel; split
  · rw [Device.irq_occ]; rfl
  · rfl
@[simp] theorem Device.irqLevel_ses (d : Device) (p b : Nat) (c : Bool) : (d.irqLevel p b c).ses = d.ses := by
  unfold Device.irqLevel; split
  · rw [Device.irq_ses]; rfl
  · rfl
@[simp] theorem Device.irqLevel_paths (d : Device) (p b : Nat) (c : Bool) : (d.irqLevel p b c).paths = d.paths := by
  unfold Device.irqLevel; split
  · rw [Device.irq_paths]; rfl
  · rfl
@[simp] theorem Device.irqLevel_pathQueue (d : Device) (p b : Nat) (c : Bool) : (d.irqLevel p b c).pathQueue = d.pathQueue := by
  unfold Device.irqLevel; split
  · rw [Device.irq_pathQueue]; rfl
  · rfl
@[simp] theorem Device.irqLevel_cal (d : Device) (p b : Nat) (c : Bool) : (d.irqLevel p b c).cal = d.cal := by
  unfold Device.irqLevel; split
  · rw [Device.irq_cal]; rfl
  · rfl
@[simp] theorem Device.irqLevel_coexGnt (d : Device) (p b : Nat) (c : Bool) : (d.irqLevel p b c).coexGnt = d.coexGnt := by
  unfold Device.irqLevel; split
  · rw [Device.irq_coexGnt]; rfl
  · rfl
@[simp] theorem Device.irqLevel_opt (d : Device) (p b : Nat) (c : Bool) : (d.irqLevel p b c).opt = d.opt := by
  unfold Device.irqLevel; split
  · rw [Device.irq_opt]; rfl
  · rfl
@[simp] theorem Device.irqLevel_extest (d : Device) (p b : Nat) (c : Bool) : (d.irqLevel p b c).extest = d.extest := by
  unfold Device.irqLevel; split
  · rw [Device.irq_extest]; rfl
  · rfl
@[simp] theorem Device.irqLevel_kl (d : Device) (p b : Nat) (c : Bool) : (d.irqLevel p b c).kl = d.kl := by
  unfold Device.irqLevel; split
  · rw [Device.irq_kl]; rfl
  · rfl
@[simp] theorem Device.irqLevel_pl (d : Device) (p b : Nat) (c : Bool) : (d.irqLevel p b c).pl = d.pl := by
  unfold Device.irqLevel; split
  · rw [Device.irq_pl]; rfl
  · rfl
@[simp] theorem Device.irqLevel_ringSent (d : Device) (p b : Nat) (c : Bool) : (d.irqLevel p b c).ringSent = d.ringSent := by
  unfold Device.irqLevel; split
  · rw [Device.irq_ringSent]; rfl
  · rfl
@[simp] theorem Device.irqLevel_pinMap (d : Device) (p b : Nat) (c : Bool) : (d.irqLevel p b c).pinMap = d.pinMap := by
  unfold Device.irqLevel; split
  · rw [Device.irq_pinMap]; rfl
  · rfl
@[simp] theorem Device.irqLevel_optRun (d : Device) (p b : Nat) (c : Bool) : (d.irqLevel p b c).optRun = d.optRun := by
  unfold Device.irqLevel; split
  · rw [Device.irq_optRun]; rfl
  · rfl
@[simp] theorem Device.irqLevel_optStage (d : Device) (p b : Nat) (c : Bool) : (d.irqLevel p b c).optStage = d.optStage := by
  unfold Device.irqLevel; split
  · rw [Device.irq_optStage]; rfl
  · rfl
@[simp] theorem Device.putFit_mirror (d : Device) (f : Fld) (i : Int) : (d.putFit f i).mirror = d.mirror := by unfold Device.putFit; dsimp only; split <;> rfl
@[simp] theorem Device.putFit_post (d : Device) (f : Fld) (i : Int) : (d.putFit f i).post = d.post := by unfold Device.putFit; dsimp only; split <;> rfl
@[simp] theorem Device.putFit_isl (d : Device) (f : Fld) (i : Int) : (d.putFit f i).isl = d.isl := by unfold Device.putFit; dsimp only; split <;> rfl
@[simp] theorem Device.putFit_rst (d : Device) (f : Fld) (i : Int) : (d.putFit f i).rst = d.rst := by unfold Device.putFit; dsimp only; split <;> rfl
@[simp] theorem Device.putFit_pwr (d : Device) (f : Fld) (i : Int) : (d.putFit f i).pwr = d.pwr := by unfold Device.putFit; dsimp only; split <;> rfl
@[simp] theorem Device.putFit_rtc (d : Device) (f : Fld) (i : Int) : (d.putFit f i).rtc = d.rtc := by unfold Device.putFit; dsimp only; split <;> rfl
@[simp] theorem Device.putFit_watch (d : Device) (f : Fld) (i : Int) : (d.putFit f i).watch = d.watch := by unfold Device.putFit; dsimp only; split <;> rfl
@[simp] theorem Device.putFit_hk (d : Device) (f : Fld) (i : Int) : (d.putFit f i).hk = d.hk := by unfold Device.putFit; dsimp only; split <;> rfl
@[simp] theorem Device.putFit_timers (d : Device) (f : Fld) (i : Int) : (d.putFit f i).timers = d.timers := by unfold Device.putFit; dsimp only; split <;> rfl
@[simp] theorem Device.putFit_tmIo (d : Device) (f : Fld) (i : Int) : (d.putFit f i).tmIo = d.tmIo := by unfold Device.putFit; dsimp only; split <;> rfl
@[simp] theorem Device.putFit_balls (d : Device) (f : Fld) (i : Int) : (d.putFit f i).balls = d.balls := by unfold Device.putFit; dsimp only; split <;> rfl
@[simp] theorem Device.putFit_linkSeen (d : Device) (f : Fld) (i : Int) : (d.putFit f i).linkSeen = d.linkSeen := by unfold Device.putFit; dsimp only; split <;> rfl
@[simp] theorem Device.putFit_linkNew (d : Device) (f : Fld) (i : Int) : (d.putFit f i).linkNew = d.linkNew := by unfold Device.putFit; dsimp only; split <;> rfl
@[simp] theorem Device.putFit_trigOut (d : Device) (f : Fld) (i : Int) : (d.putFit f i).trigOut = d.trigOut := by unfold Device.putFit; dsimp only; split <;> rfl
@[simp] theorem Device.putFit_rep (d : Device) (f : Fld) (i : Int) : (d.putFit f i).rep = d.rep := by unfold Device.putFit; dsimp only; split <;> rfl
@[simp] theorem Device.putFit_pilots (d : Device) (f : Fld) (i : Int) : (d.putFit f i).pilots = d.pilots := by unfold Device.putFit; dsimp only; split <;> rfl
@[simp] theorem Device.putFit_bootCfg (d : Device) (f : Fld) (i : Int) : (d.putFit f i).bootCfg = d.bootCfg := by unfold Device.putFit; dsimp only; split <;> rfl
@[simp] theorem Device.putFit_sram (d : Device) (f : Fld) (i : Int) : (d.putFit f i).sram = d.sram := by unfold Device.putFit; dsimp only; split <;> rfl
@[simp] theorem Device.putFit_bus (d : Device) (f : Fld) (i : Int) : (d.putFit f i).bus = d.bus := by unfold Device.putFit; dsimp only; split <;> rfl
@[simp] theorem Device.putFit_hd (d : Device) (f : Fld) (i : Int) : (d.putFit f i).hd = d.hd := by unfold Device.putFit; dsimp only; split <;> rfl
@[simp] theorem Device.putFit_sspm (d : Device) (f : Fld) (i : Int) : (d.putFit f i).sspm = d.sspm := by unfold Device.putFit; dsimp only; split <;> rfl
@[simp] theorem Device.putFit_ssps (d : Device) (f : Fld) (i : Int) : (d.putFit f i).ssps = d.ssps := by unfold Device.putFit; dsimp only; split <;> rfl
@[simp] theorem Device.putFit_sec (d : Device) (f : Fld) (i : Int) : (d.putFit f i).sec = d.sec := by unfold Device.putFit; dsimp only; split <;> rfl
@[simp] theorem Device.putFit_man (d : Device) (f : Fld) (i : Int) : (d.putFit f i).man = d.man := by unfold Device.putFit; dsimp only; split <;> rfl
@[simp] theorem Device.putFit_bf (d : Device) (f : Fld) (i : Int) : (d.putFit f i).bf = d.bf := by unfold Device.putFit; dsimp only; split <;> rfl
@[simp] theorem Device.putFit_profile (d : Device) (f : Fld) (i : Int) : (d.putFit f i).profile = d.profile := by unfold Device.putFit; dsimp only; split <;> rfl
@[simp] theorem Device.putFit_cars (d : Device) (f : Fld) (i : Int) : (d.putFit f i).cars = d.cars := by unfold Device.putFit; dsimp only; split <;> rfl
@[simp] theorem Device.putFit_bandCal (d : Device) (f : Fld) (i : Int) : (d.putFit f i).bandCal = d.bandCal := by unfold Device.putFit; dsimp only; split <;> rfl
@[simp] theorem Device.putFit_bwFresh (d : Device) (f : Fld) (i : Int) : (d.putFit f i).bwFresh = d.bwFresh := by unfold Device.putFit; dsimp only; split <;> rfl
@[simp] theorem Device.putFit_occ (d : Device) (f : Fld) (i : Int) : (d.putFit f i).occ = d.occ := by unfold Device.putFit; dsimp only; split <;> rfl
@[simp] theorem Device.putFit_ses (d : Device) (f : Fld) (i : Int) : (d.putFit f i).ses = d.ses := by unfold Device.putFit; dsimp only; split <;> rfl
@[simp] theorem Device.putFit_paths (d : Device) (f : Fld) (i : Int) : (d.putFit f i).paths = d.paths := by unfold Device.putFit; dsimp only; split <;> rfl
@[simp] theorem Device.putFit_pathQueue (d : Device) (f : Fld) (i : Int) : (d.putFit f i).pathQueue = d.pathQueue := by unfold Device.putFit; dsimp only; split <;> rfl
@[simp] theorem Device.putFit_cal (d : Device) (f : Fld) (i : Int) : (d.putFit f i).cal = d.cal := by unfold Device.putFit; dsimp only; split <;> rfl
@[simp] theorem Device.putFit_coexGnt (d : Device) (f : Fld) (i : Int) : (d.putFit f i).coexGnt = d.coexGnt := by unfold Device.putFit; dsimp only; split <;> rfl
@[simp] theorem Device.putFit_opt (d : Device) (f : Fld) (i : Int) : (d.putFit f i).opt = d.opt := by unfold Device.putFit; dsimp only; split <;> rfl
@[simp] theorem Device.putFit_extest (d : Device) (f : Fld) (i : Int) : (d.putFit f i).extest = d.extest := by unfold Device.putFit; dsimp only; split <;> rfl
@[simp] theorem Device.putFit_kl (d : Device) (f : Fld) (i : Int) : (d.putFit f i).kl = d.kl := by unfold Device.putFit; dsimp only; split <;> rfl
@[simp] theorem Device.putFit_pl (d : Device) (f : Fld) (i : Int) : (d.putFit f i).pl = d.pl := by unfold Device.putFit; dsimp only; split <;> rfl
@[simp] theorem Device.putFit_ringSent (d : Device) (f : Fld) (i : Int) : (d.putFit f i).ringSent = d.ringSent := by unfold Device.putFit; dsimp only; split <;> rfl
@[simp] theorem Device.putFit_pinMap (d : Device) (f : Fld) (i : Int) : (d.putFit f i).pinMap = d.pinMap := by unfold Device.putFit; dsimp only; split <;> rfl
@[simp] theorem Device.putFit_optRun (d : Device) (f : Fld) (i : Int) : (d.putFit f i).optRun = d.optRun := by unfold Device.putFit; dsimp only; split <;> rfl
@[simp] theorem Device.putFit_optStage (d : Device) (f : Fld) (i : Int) : (d.putFit f i).optStage = d.optStage := by unfold Device.putFit; dsimp only; split <;> rfl
@[simp] theorem Device.setMirror_regs (d : Device) (a : Nat) (v : Word) : (d.setMirror a v).regs = d.regs := by
  unfold Device.setMirror; split
  · rfl
  · dsimp only; split <;> rfl
@[simp] theorem Device.setMirror_post (d : Device) (a : Nat) (v : Word) : (d.setMirror a v).post = d.post := by
  unfold Device.setMirror; split
  · rfl
  · dsimp only; split <;> rfl
@[simp] theorem Device.setMirror_free (d : Device) (a : Nat) (v : Word) : (d.setMirror a v).free = d.free := by
  unfold Device.setMirror; split
  · rfl
  · dsimp only; split <;> rfl
@[simp] theorem Device.setMirror_isl (d : Device) (a : Nat) (v : Word) : (d.setMirror a v).isl = d.isl := by
  unfold Device.setMirror; split
  · rfl
  · dsimp only; split <;> rfl
@[simp] theorem Device.setMirror_rst (d : Device) (a : Nat) (v : Word) : (d.setMirror a v).rst = d.rst := by
  unfold Device.setMirror; split
  · rfl
  · dsimp only; split <;> rfl
@[simp] theorem Device.setMirror_pwr (d : Device) (a : Nat) (v : Word) : (d.setMirror a v).pwr = d.pwr := by
  unfold Device.setMirror; split
  · rfl
  · dsimp only; split <;> rfl
@[simp] theorem Device.setMirror_rtc (d : Device) (a : Nat) (v : Word) : (d.setMirror a v).rtc = d.rtc := by
  unfold Device.setMirror; split
  · rfl
  · dsimp only; split <;> rfl
@[simp] theorem Device.setMirror_watch (d : Device) (a : Nat) (v : Word) : (d.setMirror a v).watch = d.watch := by
  unfold Device.setMirror; split
  · rfl
  · dsimp only; split <;> rfl
@[simp] theorem Device.setMirror_hk (d : Device) (a : Nat) (v : Word) : (d.setMirror a v).hk = d.hk := by
  unfold Device.setMirror; split
  · rfl
  · dsimp only; split <;> rfl
@[simp] theorem Device.setMirror_timers (d : Device) (a : Nat) (v : Word) : (d.setMirror a v).timers = d.timers := by
  unfold Device.setMirror; split
  · rfl
  · dsimp only; split <;> rfl
@[simp] theorem Device.setMirror_tmIo (d : Device) (a : Nat) (v : Word) : (d.setMirror a v).tmIo = d.tmIo := by
  unfold Device.setMirror; split
  · rfl
  · dsimp only; split <;> rfl
@[simp] theorem Device.setMirror_balls (d : Device) (a : Nat) (v : Word) : (d.setMirror a v).balls = d.balls := by
  unfold Device.setMirror; split
  · rfl
  · dsimp only; split <;> rfl
@[simp] theorem Device.setMirror_linkSeen (d : Device) (a : Nat) (v : Word) : (d.setMirror a v).linkSeen = d.linkSeen := by
  unfold Device.setMirror; split
  · rfl
  · dsimp only; split <;> rfl
@[simp] theorem Device.setMirror_linkNew (d : Device) (a : Nat) (v : Word) : (d.setMirror a v).linkNew = d.linkNew := by
  unfold Device.setMirror; split
  · rfl
  · dsimp only; split <;> rfl
@[simp] theorem Device.setMirror_trigOut (d : Device) (a : Nat) (v : Word) : (d.setMirror a v).trigOut = d.trigOut := by
  unfold Device.setMirror; split
  · rfl
  · dsimp only; split <;> rfl
@[simp] theorem Device.setMirror_rep (d : Device) (a : Nat) (v : Word) : (d.setMirror a v).rep = d.rep := by
  unfold Device.setMirror; split
  · rfl
  · dsimp only; split <;> rfl
@[simp] theorem Device.setMirror_pilots (d : Device) (a : Nat) (v : Word) : (d.setMirror a v).pilots = d.pilots := by
  unfold Device.setMirror; split
  · rfl
  · dsimp only; split <;> rfl
@[simp] theorem Device.setMirror_bootCfg (d : Device) (a : Nat) (v : Word) : (d.setMirror a v).bootCfg = d.bootCfg := by
  unfold Device.setMirror; split
  · rfl
  · dsimp only; split <;> rfl
@[simp] theorem Device.setMirror_sram (d : Device) (a : Nat) (v : Word) : (d.setMirror a v).sram = d.sram := by
  unfold Device.setMirror; split
  · rfl
  · dsimp only; split <;> rfl
@[simp] theorem Device.setMirror_bus (d : Device) (a : Nat) (v : Word) : (d.setMirror a v).bus = d.bus := by
  unfold Device.setMirror; split
  · rfl
  · dsimp only; split <;> rfl
@[simp] theorem Device.setMirror_hd (d : Device) (a : Nat) (v : Word) : (d.setMirror a v).hd = d.hd := by
  unfold Device.setMirror; split
  · rfl
  · dsimp only; split <;> rfl
@[simp] theorem Device.setMirror_sspm (d : Device) (a : Nat) (v : Word) : (d.setMirror a v).sspm = d.sspm := by
  unfold Device.setMirror; split
  · rfl
  · dsimp only; split <;> rfl
@[simp] theorem Device.setMirror_ssps (d : Device) (a : Nat) (v : Word) : (d.setMirror a v).ssps = d.ssps := by
  unfold Device.setMirror; split
  · rfl
  · dsimp only; split <;> rfl
@[simp] theorem Device.setMirror_sec (d : Device) (a : Nat) (v : Word) : (d.setMirror a v).sec = d.sec := by
  unfold Device.setMirror; split
  · rfl
  · dsimp only; split <;> rfl
@[simp] theorem Device.setMirror_man (d : Device) (a : Nat) (v : Word) : (d.setMirror a v).man = d.man := by
  unfold Device.setMirror; split
  · rfl
  · dsimp only; split <;> rfl
@[simp] theorem Device.setMirror_bf (d : Device) (a : Nat) (v : Word) : (d.setMirror a v).bf = d.bf := by
  unfold Device.setMirror; split
  · rfl
  · dsimp only; split <;> rfl
@[simp] theorem Device.setMirror_profile (d : Device) (a : Nat) (v : Word) : (d.setMirror a v).profile = d.profile := by
  unfold Device.setMirror; split
  · rfl
  · dsimp only; split <;> rfl
@[simp] theorem Device.setMirror_cars (d : Device) (a : Nat) (v : Word) : (d.setMirror a v).cars = d.cars := by
  unfold Device.setMirror; split
  · rfl
  · dsimp only; split <;> rfl
@[simp] theorem Device.setMirror_bandCal (d : Device) (a : Nat) (v : Word) : (d.setMirror a v).bandCal = d.bandCal := by
  unfold Device.setMirror; split
  · rfl
  · dsimp only; split <;> rfl
@[simp] theorem Device.setMirror_bwFresh (d : Device) (a : Nat) (v : Word) : (d.setMirror a v).bwFresh = d.bwFresh := by
  unfold Device.setMirror; split
  · rfl
  · dsimp only; split <;> rfl
@[simp] theorem Device.setMirror_occ (d : Device) (a : Nat) (v : Word) : (d.setMirror a v).occ = d.occ := by
  unfold Device.setMirror; split
  · rfl
  · dsimp only; split <;> rfl
@[simp] theorem Device.setMirror_ses (d : Device) (a : Nat) (v : Word) : (d.setMirror a v).ses = d.ses := by
  unfold Device.setMirror; split
  · rfl
  · dsimp only; split <;> rfl
@[simp] theorem Device.setMirror_paths (d : Device) (a : Nat) (v : Word) : (d.setMirror a v).paths = d.paths := by
  unfold Device.setMirror; split
  · rfl
  · dsimp only; split <;> rfl
@[simp] theorem Device.setMirror_pathQueue (d : Device) (a : Nat) (v : Word) : (d.setMirror a v).pathQueue = d.pathQueue := by
  unfold Device.setMirror; split
  · rfl
  · dsimp only; split <;> rfl
@[simp] theorem Device.setMirror_cal (d : Device) (a : Nat) (v : Word) : (d.setMirror a v).cal = d.cal := by
  unfold Device.setMirror; split
  · rfl
  · dsimp only; split <;> rfl
@[simp] theorem Device.setMirror_coexGnt (d : Device) (a : Nat) (v : Word) : (d.setMirror a v).coexGnt = d.coexGnt := by
  unfold Device.setMirror; split
  · rfl
  · dsimp only; split <;> rfl
@[simp] theorem Device.setMirror_opt (d : Device) (a : Nat) (v : Word) : (d.setMirror a v).opt = d.opt := by
  unfold Device.setMirror; split
  · rfl
  · dsimp only; split <;> rfl
@[simp] theorem Device.setMirror_extest (d : Device) (a : Nat) (v : Word) : (d.setMirror a v).extest = d.extest := by
  unfold Device.setMirror; split
  · rfl
  · dsimp only; split <;> rfl
@[simp] theorem Device.setMirror_kl (d : Device) (a : Nat) (v : Word) : (d.setMirror a v).kl = d.kl := by
  unfold Device.setMirror; split
  · rfl
  · dsimp only; split <;> rfl
@[simp] theorem Device.setMirror_pl (d : Device) (a : Nat) (v : Word) : (d.setMirror a v).pl = d.pl := by
  unfold Device.setMirror; split
  · rfl
  · dsimp only; split <;> rfl
@[simp] theorem Device.setMirror_ringSent (d : Device) (a : Nat) (v : Word) : (d.setMirror a v).ringSent = d.ringSent := by
  unfold Device.setMirror; split
  · rfl
  · dsimp only; split <;> rfl
@[simp] theorem Device.setMirror_pinMap (d : Device) (a : Nat) (v : Word) : (d.setMirror a v).pinMap = d.pinMap := by
  unfold Device.setMirror; split
  · rfl
  · dsimp only; split <;> rfl
@[simp] theorem Device.setMirror_optRun (d : Device) (a : Nat) (v : Word) : (d.setMirror a v).optRun = d.optRun := by
  unfold Device.setMirror; split
  · rfl
  · dsimp only; split <;> rfl
@[simp] theorem Device.setMirror_optStage (d : Device) (a : Nat) (v : Word) : (d.setMirror a v).optStage = d.optStage := by
  unfold Device.setMirror; split
  · rfl
  · dsimp only; split <;> rfl
@[simp] theorem Device.setIsland_regs (d : Device) (i : Nat) (v : IslandSt) : (d.setIsland i v).regs = d.regs := id rfl
@[simp] theorem Device.setIsland_mirror (d : Device) (i : Nat) (v : IslandSt) : (d.setIsland i v).mirror = d.mirror := id rfl
@[simp] theorem Device.setIsland_post (d : Device) (i : Nat) (v : IslandSt) : (d.setIsland i v).post = d.post := id rfl
@[simp] theorem Device.setIsland_free (d : Device) (i : Nat) (v : IslandSt) : (d.setIsland i v).free = d.free := id rfl
@[simp] theorem Device.setIsland_rst (d : Device) (i : Nat) (v : IslandSt) : (d.setIsland i v).rst = d.rst := id rfl
@[simp] theorem Device.setIsland_pwr (d : Device) (i : Nat) (v : IslandSt) : (d.setIsland i v).pwr = d.pwr := id rfl
@[simp] theorem Device.setIsland_rtc (d : Device) (i : Nat) (v : IslandSt) : (d.setIsland i v).rtc = d.rtc := id rfl
@[simp] theorem Device.setIsland_watch (d : Device) (i : Nat) (v : IslandSt) : (d.setIsland i v).watch = d.watch := id rfl
@[simp] theorem Device.setIsland_hk (d : Device) (i : Nat) (v : IslandSt) : (d.setIsland i v).hk = d.hk := id rfl
@[simp] theorem Device.setIsland_timers (d : Device) (i : Nat) (v : IslandSt) : (d.setIsland i v).timers = d.timers := id rfl
@[simp] theorem Device.setIsland_tmIo (d : Device) (i : Nat) (v : IslandSt) : (d.setIsland i v).tmIo = d.tmIo := id rfl
@[simp] theorem Device.setIsland_balls (d : Device) (i : Nat) (v : IslandSt) : (d.setIsland i v).balls = d.balls := id rfl
@[simp] theorem Device.setIsland_linkSeen (d : Device) (i : Nat) (v : IslandSt) : (d.setIsland i v).linkSeen = d.linkSeen := id rfl
@[simp] theorem Device.setIsland_linkNew (d : Device) (i : Nat) (v : IslandSt) : (d.setIsland i v).linkNew = d.linkNew := id rfl
@[simp] theorem Device.setIsland_trigOut (d : Device) (i : Nat) (v : IslandSt) : (d.setIsland i v).trigOut = d.trigOut := id rfl
@[simp] theorem Device.setIsland_rep (d : Device) (i : Nat) (v : IslandSt) : (d.setIsland i v).rep = d.rep := id rfl
@[simp] theorem Device.setIsland_pilots (d : Device) (i : Nat) (v : IslandSt) : (d.setIsland i v).pilots = d.pilots := id rfl
@[simp] theorem Device.setIsland_bootCfg (d : Device) (i : Nat) (v : IslandSt) : (d.setIsland i v).bootCfg = d.bootCfg := id rfl
@[simp] theorem Device.setIsland_sram (d : Device) (i : Nat) (v : IslandSt) : (d.setIsland i v).sram = d.sram := id rfl
@[simp] theorem Device.setIsland_bus (d : Device) (i : Nat) (v : IslandSt) : (d.setIsland i v).bus = d.bus := id rfl
@[simp] theorem Device.setIsland_hd (d : Device) (i : Nat) (v : IslandSt) : (d.setIsland i v).hd = d.hd := id rfl
@[simp] theorem Device.setIsland_sspm (d : Device) (i : Nat) (v : IslandSt) : (d.setIsland i v).sspm = d.sspm := id rfl
@[simp] theorem Device.setIsland_ssps (d : Device) (i : Nat) (v : IslandSt) : (d.setIsland i v).ssps = d.ssps := id rfl
@[simp] theorem Device.setIsland_sec (d : Device) (i : Nat) (v : IslandSt) : (d.setIsland i v).sec = d.sec := id rfl
@[simp] theorem Device.setIsland_man (d : Device) (i : Nat) (v : IslandSt) : (d.setIsland i v).man = d.man := id rfl
@[simp] theorem Device.setIsland_bf (d : Device) (i : Nat) (v : IslandSt) : (d.setIsland i v).bf = d.bf := id rfl
@[simp] theorem Device.setIsland_profile (d : Device) (i : Nat) (v : IslandSt) : (d.setIsland i v).profile = d.profile := id rfl
@[simp] theorem Device.setIsland_cars (d : Device) (i : Nat) (v : IslandSt) : (d.setIsland i v).cars = d.cars := id rfl
@[simp] theorem Device.setIsland_bandCal (d : Device) (i : Nat) (v : IslandSt) : (d.setIsland i v).bandCal = d.bandCal := id rfl
@[simp] theorem Device.setIsland_bwFresh (d : Device) (i : Nat) (v : IslandSt) : (d.setIsland i v).bwFresh = d.bwFresh := id rfl
@[simp] theorem Device.setIsland_occ (d : Device) (i : Nat) (v : IslandSt) : (d.setIsland i v).occ = d.occ := id rfl
@[simp] theorem Device.setIsland_ses (d : Device) (i : Nat) (v : IslandSt) : (d.setIsland i v).ses = d.ses := id rfl
@[simp] theorem Device.setIsland_paths (d : Device) (i : Nat) (v : IslandSt) : (d.setIsland i v).paths = d.paths := id rfl
@[simp] theorem Device.setIsland_pathQueue (d : Device) (i : Nat) (v : IslandSt) : (d.setIsland i v).pathQueue = d.pathQueue := id rfl
@[simp] theorem Device.setIsland_cal (d : Device) (i : Nat) (v : IslandSt) : (d.setIsland i v).cal = d.cal := id rfl
@[simp] theorem Device.setIsland_coexGnt (d : Device) (i : Nat) (v : IslandSt) : (d.setIsland i v).coexGnt = d.coexGnt := id rfl
@[simp] theorem Device.setIsland_opt (d : Device) (i : Nat) (v : IslandSt) : (d.setIsland i v).opt = d.opt := id rfl
@[simp] theorem Device.setIsland_extest (d : Device) (i : Nat) (v : IslandSt) : (d.setIsland i v).extest = d.extest := id rfl
@[simp] theorem Device.setIsland_kl (d : Device) (i : Nat) (v : IslandSt) : (d.setIsland i v).kl = d.kl := id rfl
@[simp] theorem Device.setIsland_pl (d : Device) (i : Nat) (v : IslandSt) : (d.setIsland i v).pl = d.pl := id rfl
@[simp] theorem Device.setIsland_ringSent (d : Device) (i : Nat) (v : IslandSt) : (d.setIsland i v).ringSent = d.ringSent := id rfl
@[simp] theorem Device.setIsland_pinMap (d : Device) (i : Nat) (v : IslandSt) : (d.setIsland i v).pinMap = d.pinMap := id rfl
@[simp] theorem Device.setIsland_optRun (d : Device) (i : Nat) (v : IslandSt) : (d.setIsland i v).optRun = d.optRun := id rfl
@[simp] theorem Device.setIsland_optStage (d : Device) (i : Nat) (v : IslandSt) : (d.setIsland i v).optStage = d.optStage := id rfl
@[simp] theorem Device.modSes_regs (d : Device) (n : Nat) (f : SesSt → SesSt) : (d.modSes n f).regs = d.regs := id rfl
@[simp] theorem Device.modSes_mirror (d : Device) (n : Nat) (f : SesSt → SesSt) : (d.modSes n f).mirror = d.mirror := id rfl
@[simp] theorem Device.modSes_post (d : Device) (n : Nat) (f : SesSt → SesSt) : (d.modSes n f).post = d.post := id rfl
@[simp] theorem Device.modSes_free (d : Device) (n : Nat) (f : SesSt → SesSt) : (d.modSes n f).free = d.free := id rfl
@[simp] theorem Device.modSes_isl (d : Device) (n : Nat) (f : SesSt → SesSt) : (d.modSes n f).isl = d.isl := id rfl
@[simp] theorem Device.modSes_rst (d : Device) (n : Nat) (f : SesSt → SesSt) : (d.modSes n f).rst = d.rst := id rfl
@[simp] theorem Device.modSes_pwr (d : Device) (n : Nat) (f : SesSt → SesSt) : (d.modSes n f).pwr = d.pwr := id rfl
@[simp] theorem Device.modSes_rtc (d : Device) (n : Nat) (f : SesSt → SesSt) : (d.modSes n f).rtc = d.rtc := id rfl
@[simp] theorem Device.modSes_watch (d : Device) (n : Nat) (f : SesSt → SesSt) : (d.modSes n f).watch = d.watch := id rfl
@[simp] theorem Device.modSes_hk (d : Device) (n : Nat) (f : SesSt → SesSt) : (d.modSes n f).hk = d.hk := id rfl
@[simp] theorem Device.modSes_timers (d : Device) (n : Nat) (f : SesSt → SesSt) : (d.modSes n f).timers = d.timers := id rfl
@[simp] theorem Device.modSes_tmIo (d : Device) (n : Nat) (f : SesSt → SesSt) : (d.modSes n f).tmIo = d.tmIo := id rfl
@[simp] theorem Device.modSes_balls (d : Device) (n : Nat) (f : SesSt → SesSt) : (d.modSes n f).balls = d.balls := id rfl
@[simp] theorem Device.modSes_linkSeen (d : Device) (n : Nat) (f : SesSt → SesSt) : (d.modSes n f).linkSeen = d.linkSeen := id rfl
@[simp] theorem Device.modSes_linkNew (d : Device) (n : Nat) (f : SesSt → SesSt) : (d.modSes n f).linkNew = d.linkNew := id rfl
@[simp] theorem Device.modSes_trigOut (d : Device) (n : Nat) (f : SesSt → SesSt) : (d.modSes n f).trigOut = d.trigOut := id rfl
@[simp] theorem Device.modSes_rep (d : Device) (n : Nat) (f : SesSt → SesSt) : (d.modSes n f).rep = d.rep := id rfl
@[simp] theorem Device.modSes_pilots (d : Device) (n : Nat) (f : SesSt → SesSt) : (d.modSes n f).pilots = d.pilots := id rfl
@[simp] theorem Device.modSes_bootCfg (d : Device) (n : Nat) (f : SesSt → SesSt) : (d.modSes n f).bootCfg = d.bootCfg := id rfl
@[simp] theorem Device.modSes_sram (d : Device) (n : Nat) (f : SesSt → SesSt) : (d.modSes n f).sram = d.sram := id rfl
@[simp] theorem Device.modSes_bus (d : Device) (n : Nat) (f : SesSt → SesSt) : (d.modSes n f).bus = d.bus := id rfl
@[simp] theorem Device.modSes_hd (d : Device) (n : Nat) (f : SesSt → SesSt) : (d.modSes n f).hd = d.hd := id rfl
@[simp] theorem Device.modSes_sspm (d : Device) (n : Nat) (f : SesSt → SesSt) : (d.modSes n f).sspm = d.sspm := id rfl
@[simp] theorem Device.modSes_ssps (d : Device) (n : Nat) (f : SesSt → SesSt) : (d.modSes n f).ssps = d.ssps := id rfl
@[simp] theorem Device.modSes_sec (d : Device) (n : Nat) (f : SesSt → SesSt) : (d.modSes n f).sec = d.sec := id rfl
@[simp] theorem Device.modSes_man (d : Device) (n : Nat) (f : SesSt → SesSt) : (d.modSes n f).man = d.man := id rfl
@[simp] theorem Device.modSes_bf (d : Device) (n : Nat) (f : SesSt → SesSt) : (d.modSes n f).bf = d.bf := id rfl
@[simp] theorem Device.modSes_profile (d : Device) (n : Nat) (f : SesSt → SesSt) : (d.modSes n f).profile = d.profile := id rfl
@[simp] theorem Device.modSes_cars (d : Device) (n : Nat) (f : SesSt → SesSt) : (d.modSes n f).cars = d.cars := id rfl
@[simp] theorem Device.modSes_bandCal (d : Device) (n : Nat) (f : SesSt → SesSt) : (d.modSes n f).bandCal = d.bandCal := id rfl
@[simp] theorem Device.modSes_bwFresh (d : Device) (n : Nat) (f : SesSt → SesSt) : (d.modSes n f).bwFresh = d.bwFresh := id rfl
@[simp] theorem Device.modSes_occ (d : Device) (n : Nat) (f : SesSt → SesSt) : (d.modSes n f).occ = d.occ := id rfl
@[simp] theorem Device.modSes_paths (d : Device) (n : Nat) (f : SesSt → SesSt) : (d.modSes n f).paths = d.paths := id rfl
@[simp] theorem Device.modSes_pathQueue (d : Device) (n : Nat) (f : SesSt → SesSt) : (d.modSes n f).pathQueue = d.pathQueue := id rfl
@[simp] theorem Device.modSes_cal (d : Device) (n : Nat) (f : SesSt → SesSt) : (d.modSes n f).cal = d.cal := id rfl
@[simp] theorem Device.modSes_coexGnt (d : Device) (n : Nat) (f : SesSt → SesSt) : (d.modSes n f).coexGnt = d.coexGnt := id rfl
@[simp] theorem Device.modSes_opt (d : Device) (n : Nat) (f : SesSt → SesSt) : (d.modSes n f).opt = d.opt := id rfl
@[simp] theorem Device.modSes_extest (d : Device) (n : Nat) (f : SesSt → SesSt) : (d.modSes n f).extest = d.extest := id rfl
@[simp] theorem Device.modSes_kl (d : Device) (n : Nat) (f : SesSt → SesSt) : (d.modSes n f).kl = d.kl := id rfl
@[simp] theorem Device.modSes_pl (d : Device) (n : Nat) (f : SesSt → SesSt) : (d.modSes n f).pl = d.pl := id rfl
@[simp] theorem Device.modSes_ringSent (d : Device) (n : Nat) (f : SesSt → SesSt) : (d.modSes n f).ringSent = d.ringSent := id rfl
@[simp] theorem Device.modSes_pinMap (d : Device) (n : Nat) (f : SesSt → SesSt) : (d.modSes n f).pinMap = d.pinMap := id rfl
@[simp] theorem Device.modSes_optRun (d : Device) (n : Nat) (f : SesSt → SesSt) : (d.modSes n f).optRun = d.optRun := id rfl
@[simp] theorem Device.modSes_optStage (d : Device) (n : Nat) (f : SesSt → SesSt) : (d.modSes n f).optStage = d.optStage := id rfl
@[simp] theorem Device.modStream_regs (d : Device) (n : Nat) (f : StreamSt → StreamSt) : (d.modStream n f).regs = d.regs := id rfl
@[simp] theorem Device.modStream_mirror (d : Device) (n : Nat) (f : StreamSt → StreamSt) : (d.modStream n f).mirror = d.mirror := id rfl
@[simp] theorem Device.modStream_post (d : Device) (n : Nat) (f : StreamSt → StreamSt) : (d.modStream n f).post = d.post := id rfl
@[simp] theorem Device.modStream_free (d : Device) (n : Nat) (f : StreamSt → StreamSt) : (d.modStream n f).free = d.free := id rfl
@[simp] theorem Device.modStream_isl (d : Device) (n : Nat) (f : StreamSt → StreamSt) : (d.modStream n f).isl = d.isl := id rfl
@[simp] theorem Device.modStream_rst (d : Device) (n : Nat) (f : StreamSt → StreamSt) : (d.modStream n f).rst = d.rst := id rfl
@[simp] theorem Device.modStream_pwr (d : Device) (n : Nat) (f : StreamSt → StreamSt) : (d.modStream n f).pwr = d.pwr := id rfl
@[simp] theorem Device.modStream_rtc (d : Device) (n : Nat) (f : StreamSt → StreamSt) : (d.modStream n f).rtc = d.rtc := id rfl
@[simp] theorem Device.modStream_watch (d : Device) (n : Nat) (f : StreamSt → StreamSt) : (d.modStream n f).watch = d.watch := id rfl
@[simp] theorem Device.modStream_hk (d : Device) (n : Nat) (f : StreamSt → StreamSt) : (d.modStream n f).hk = d.hk := id rfl
@[simp] theorem Device.modStream_timers (d : Device) (n : Nat) (f : StreamSt → StreamSt) : (d.modStream n f).timers = d.timers := id rfl
@[simp] theorem Device.modStream_tmIo (d : Device) (n : Nat) (f : StreamSt → StreamSt) : (d.modStream n f).tmIo = d.tmIo := id rfl
@[simp] theorem Device.modStream_balls (d : Device) (n : Nat) (f : StreamSt → StreamSt) : (d.modStream n f).balls = d.balls := id rfl
@[simp] theorem Device.modStream_linkSeen (d : Device) (n : Nat) (f : StreamSt → StreamSt) : (d.modStream n f).linkSeen = d.linkSeen := id rfl
@[simp] theorem Device.modStream_linkNew (d : Device) (n : Nat) (f : StreamSt → StreamSt) : (d.modStream n f).linkNew = d.linkNew := id rfl
@[simp] theorem Device.modStream_trigOut (d : Device) (n : Nat) (f : StreamSt → StreamSt) : (d.modStream n f).trigOut = d.trigOut := id rfl
@[simp] theorem Device.modStream_rep (d : Device) (n : Nat) (f : StreamSt → StreamSt) : (d.modStream n f).rep = d.rep := id rfl
@[simp] theorem Device.modStream_pilots (d : Device) (n : Nat) (f : StreamSt → StreamSt) : (d.modStream n f).pilots = d.pilots := id rfl
@[simp] theorem Device.modStream_bootCfg (d : Device) (n : Nat) (f : StreamSt → StreamSt) : (d.modStream n f).bootCfg = d.bootCfg := id rfl
@[simp] theorem Device.modStream_sram (d : Device) (n : Nat) (f : StreamSt → StreamSt) : (d.modStream n f).sram = d.sram := id rfl
@[simp] theorem Device.modStream_bus (d : Device) (n : Nat) (f : StreamSt → StreamSt) : (d.modStream n f).bus = d.bus := id rfl
@[simp] theorem Device.modStream_hd (d : Device) (n : Nat) (f : StreamSt → StreamSt) : (d.modStream n f).hd = d.hd := id rfl
@[simp] theorem Device.modStream_sspm (d : Device) (n : Nat) (f : StreamSt → StreamSt) : (d.modStream n f).sspm = d.sspm := id rfl
@[simp] theorem Device.modStream_ssps (d : Device) (n : Nat) (f : StreamSt → StreamSt) : (d.modStream n f).ssps = d.ssps := id rfl
@[simp] theorem Device.modStream_sec (d : Device) (n : Nat) (f : StreamSt → StreamSt) : (d.modStream n f).sec = d.sec := id rfl
@[simp] theorem Device.modStream_man (d : Device) (n : Nat) (f : StreamSt → StreamSt) : (d.modStream n f).man = d.man := id rfl
@[simp] theorem Device.modStream_profile (d : Device) (n : Nat) (f : StreamSt → StreamSt) : (d.modStream n f).profile = d.profile := id rfl
@[simp] theorem Device.modStream_cars (d : Device) (n : Nat) (f : StreamSt → StreamSt) : (d.modStream n f).cars = d.cars := id rfl
@[simp] theorem Device.modStream_bandCal (d : Device) (n : Nat) (f : StreamSt → StreamSt) : (d.modStream n f).bandCal = d.bandCal := id rfl
@[simp] theorem Device.modStream_bwFresh (d : Device) (n : Nat) (f : StreamSt → StreamSt) : (d.modStream n f).bwFresh = d.bwFresh := id rfl
@[simp] theorem Device.modStream_occ (d : Device) (n : Nat) (f : StreamSt → StreamSt) : (d.modStream n f).occ = d.occ := id rfl
@[simp] theorem Device.modStream_ses (d : Device) (n : Nat) (f : StreamSt → StreamSt) : (d.modStream n f).ses = d.ses := id rfl
@[simp] theorem Device.modStream_paths (d : Device) (n : Nat) (f : StreamSt → StreamSt) : (d.modStream n f).paths = d.paths := id rfl
@[simp] theorem Device.modStream_pathQueue (d : Device) (n : Nat) (f : StreamSt → StreamSt) : (d.modStream n f).pathQueue = d.pathQueue := id rfl
@[simp] theorem Device.modStream_cal (d : Device) (n : Nat) (f : StreamSt → StreamSt) : (d.modStream n f).cal = d.cal := id rfl
@[simp] theorem Device.modStream_coexGnt (d : Device) (n : Nat) (f : StreamSt → StreamSt) : (d.modStream n f).coexGnt = d.coexGnt := id rfl
@[simp] theorem Device.modStream_opt (d : Device) (n : Nat) (f : StreamSt → StreamSt) : (d.modStream n f).opt = d.opt := id rfl
@[simp] theorem Device.modStream_extest (d : Device) (n : Nat) (f : StreamSt → StreamSt) : (d.modStream n f).extest = d.extest := id rfl
@[simp] theorem Device.modStream_kl (d : Device) (n : Nat) (f : StreamSt → StreamSt) : (d.modStream n f).kl = d.kl := id rfl
@[simp] theorem Device.modStream_pl (d : Device) (n : Nat) (f : StreamSt → StreamSt) : (d.modStream n f).pl = d.pl := id rfl
@[simp] theorem Device.modStream_ringSent (d : Device) (n : Nat) (f : StreamSt → StreamSt) : (d.modStream n f).ringSent = d.ringSent := id rfl
@[simp] theorem Device.modStream_pinMap (d : Device) (n : Nat) (f : StreamSt → StreamSt) : (d.modStream n f).pinMap = d.pinMap := id rfl
@[simp] theorem Device.modStream_optRun (d : Device) (n : Nat) (f : StreamSt → StreamSt) : (d.modStream n f).optRun = d.optRun := id rfl
@[simp] theorem Device.modStream_optStage (d : Device) (n : Nat) (f : StreamSt → StreamSt) : (d.modStream n f).optStage = d.optStage := id rfl
@[simp] theorem Device.modCar_regs (d : Device) (c : Nat) (f : CarSt → CarSt) : (d.modCar c f).regs = d.regs := id rfl
@[simp] theorem Device.modCar_mirror (d : Device) (c : Nat) (f : CarSt → CarSt) : (d.modCar c f).mirror = d.mirror := id rfl
@[simp] theorem Device.modCar_post (d : Device) (c : Nat) (f : CarSt → CarSt) : (d.modCar c f).post = d.post := id rfl
@[simp] theorem Device.modCar_free (d : Device) (c : Nat) (f : CarSt → CarSt) : (d.modCar c f).free = d.free := id rfl
@[simp] theorem Device.modCar_isl (d : Device) (c : Nat) (f : CarSt → CarSt) : (d.modCar c f).isl = d.isl := id rfl
@[simp] theorem Device.modCar_rst (d : Device) (c : Nat) (f : CarSt → CarSt) : (d.modCar c f).rst = d.rst := id rfl
@[simp] theorem Device.modCar_pwr (d : Device) (c : Nat) (f : CarSt → CarSt) : (d.modCar c f).pwr = d.pwr := id rfl
@[simp] theorem Device.modCar_rtc (d : Device) (c : Nat) (f : CarSt → CarSt) : (d.modCar c f).rtc = d.rtc := id rfl
@[simp] theorem Device.modCar_watch (d : Device) (c : Nat) (f : CarSt → CarSt) : (d.modCar c f).watch = d.watch := id rfl
@[simp] theorem Device.modCar_hk (d : Device) (c : Nat) (f : CarSt → CarSt) : (d.modCar c f).hk = d.hk := id rfl
@[simp] theorem Device.modCar_timers (d : Device) (c : Nat) (f : CarSt → CarSt) : (d.modCar c f).timers = d.timers := id rfl
@[simp] theorem Device.modCar_tmIo (d : Device) (c : Nat) (f : CarSt → CarSt) : (d.modCar c f).tmIo = d.tmIo := id rfl
@[simp] theorem Device.modCar_balls (d : Device) (c : Nat) (f : CarSt → CarSt) : (d.modCar c f).balls = d.balls := id rfl
@[simp] theorem Device.modCar_linkSeen (d : Device) (c : Nat) (f : CarSt → CarSt) : (d.modCar c f).linkSeen = d.linkSeen := id rfl
@[simp] theorem Device.modCar_linkNew (d : Device) (c : Nat) (f : CarSt → CarSt) : (d.modCar c f).linkNew = d.linkNew := id rfl
@[simp] theorem Device.modCar_trigOut (d : Device) (c : Nat) (f : CarSt → CarSt) : (d.modCar c f).trigOut = d.trigOut := id rfl
@[simp] theorem Device.modCar_rep (d : Device) (c : Nat) (f : CarSt → CarSt) : (d.modCar c f).rep = d.rep := id rfl
@[simp] theorem Device.modCar_pilots (d : Device) (c : Nat) (f : CarSt → CarSt) : (d.modCar c f).pilots = d.pilots := id rfl
@[simp] theorem Device.modCar_bootCfg (d : Device) (c : Nat) (f : CarSt → CarSt) : (d.modCar c f).bootCfg = d.bootCfg := id rfl
@[simp] theorem Device.modCar_sram (d : Device) (c : Nat) (f : CarSt → CarSt) : (d.modCar c f).sram = d.sram := id rfl
@[simp] theorem Device.modCar_bus (d : Device) (c : Nat) (f : CarSt → CarSt) : (d.modCar c f).bus = d.bus := id rfl
@[simp] theorem Device.modCar_hd (d : Device) (c : Nat) (f : CarSt → CarSt) : (d.modCar c f).hd = d.hd := id rfl
@[simp] theorem Device.modCar_sspm (d : Device) (c : Nat) (f : CarSt → CarSt) : (d.modCar c f).sspm = d.sspm := id rfl
@[simp] theorem Device.modCar_ssps (d : Device) (c : Nat) (f : CarSt → CarSt) : (d.modCar c f).ssps = d.ssps := id rfl
@[simp] theorem Device.modCar_sec (d : Device) (c : Nat) (f : CarSt → CarSt) : (d.modCar c f).sec = d.sec := id rfl
@[simp] theorem Device.modCar_man (d : Device) (c : Nat) (f : CarSt → CarSt) : (d.modCar c f).man = d.man := id rfl
@[simp] theorem Device.modCar_bf (d : Device) (c : Nat) (f : CarSt → CarSt) : (d.modCar c f).bf = d.bf := id rfl
@[simp] theorem Device.modCar_profile (d : Device) (c : Nat) (f : CarSt → CarSt) : (d.modCar c f).profile = d.profile := id rfl
@[simp] theorem Device.modCar_bandCal (d : Device) (c : Nat) (f : CarSt → CarSt) : (d.modCar c f).bandCal = d.bandCal := id rfl
@[simp] theorem Device.modCar_bwFresh (d : Device) (c : Nat) (f : CarSt → CarSt) : (d.modCar c f).bwFresh = d.bwFresh := id rfl
@[simp] theorem Device.modCar_occ (d : Device) (c : Nat) (f : CarSt → CarSt) : (d.modCar c f).occ = d.occ := id rfl
@[simp] theorem Device.modCar_ses (d : Device) (c : Nat) (f : CarSt → CarSt) : (d.modCar c f).ses = d.ses := id rfl
@[simp] theorem Device.modCar_paths (d : Device) (c : Nat) (f : CarSt → CarSt) : (d.modCar c f).paths = d.paths := id rfl
@[simp] theorem Device.modCar_pathQueue (d : Device) (c : Nat) (f : CarSt → CarSt) : (d.modCar c f).pathQueue = d.pathQueue := id rfl
@[simp] theorem Device.modCar_cal (d : Device) (c : Nat) (f : CarSt → CarSt) : (d.modCar c f).cal = d.cal := id rfl
@[simp] theorem Device.modCar_coexGnt (d : Device) (c : Nat) (f : CarSt → CarSt) : (d.modCar c f).coexGnt = d.coexGnt := id rfl
@[simp] theorem Device.modCar_opt (d : Device) (c : Nat) (f : CarSt → CarSt) : (d.modCar c f).opt = d.opt := id rfl
@[simp] theorem Device.modCar_extest (d : Device) (c : Nat) (f : CarSt → CarSt) : (d.modCar c f).extest = d.extest := id rfl
@[simp] theorem Device.modCar_kl (d : Device) (c : Nat) (f : CarSt → CarSt) : (d.modCar c f).kl = d.kl := id rfl
@[simp] theorem Device.modCar_pl (d : Device) (c : Nat) (f : CarSt → CarSt) : (d.modCar c f).pl = d.pl := id rfl
@[simp] theorem Device.modCar_ringSent (d : Device) (c : Nat) (f : CarSt → CarSt) : (d.modCar c f).ringSent = d.ringSent := id rfl
@[simp] theorem Device.modCar_pinMap (d : Device) (c : Nat) (f : CarSt → CarSt) : (d.modCar c f).pinMap = d.pinMap := id rfl
@[simp] theorem Device.modCar_optRun (d : Device) (c : Nat) (f : CarSt → CarSt) : (d.modCar c f).optRun = d.optRun := id rfl
@[simp] theorem Device.modCar_optStage (d : Device) (c : Nat) (f : CarSt → CarSt) : (d.modCar c f).optStage = d.optStage := id rfl
@[simp] theorem Device.modPath_regs (d : Device) (p : Nat) (f : PathSt → PathSt) : (d.modPath p f).regs = d.regs := id rfl
@[simp] theorem Device.modPath_mirror (d : Device) (p : Nat) (f : PathSt → PathSt) : (d.modPath p f).mirror = d.mirror := id rfl
@[simp] theorem Device.modPath_post (d : Device) (p : Nat) (f : PathSt → PathSt) : (d.modPath p f).post = d.post := id rfl
@[simp] theorem Device.modPath_free (d : Device) (p : Nat) (f : PathSt → PathSt) : (d.modPath p f).free = d.free := id rfl
@[simp] theorem Device.modPath_isl (d : Device) (p : Nat) (f : PathSt → PathSt) : (d.modPath p f).isl = d.isl := id rfl
@[simp] theorem Device.modPath_rst (d : Device) (p : Nat) (f : PathSt → PathSt) : (d.modPath p f).rst = d.rst := id rfl
@[simp] theorem Device.modPath_pwr (d : Device) (p : Nat) (f : PathSt → PathSt) : (d.modPath p f).pwr = d.pwr := id rfl
@[simp] theorem Device.modPath_rtc (d : Device) (p : Nat) (f : PathSt → PathSt) : (d.modPath p f).rtc = d.rtc := id rfl
@[simp] theorem Device.modPath_watch (d : Device) (p : Nat) (f : PathSt → PathSt) : (d.modPath p f).watch = d.watch := id rfl
@[simp] theorem Device.modPath_hk (d : Device) (p : Nat) (f : PathSt → PathSt) : (d.modPath p f).hk = d.hk := id rfl
@[simp] theorem Device.modPath_timers (d : Device) (p : Nat) (f : PathSt → PathSt) : (d.modPath p f).timers = d.timers := id rfl
@[simp] theorem Device.modPath_tmIo (d : Device) (p : Nat) (f : PathSt → PathSt) : (d.modPath p f).tmIo = d.tmIo := id rfl
@[simp] theorem Device.modPath_balls (d : Device) (p : Nat) (f : PathSt → PathSt) : (d.modPath p f).balls = d.balls := id rfl
@[simp] theorem Device.modPath_linkSeen (d : Device) (p : Nat) (f : PathSt → PathSt) : (d.modPath p f).linkSeen = d.linkSeen := id rfl
@[simp] theorem Device.modPath_linkNew (d : Device) (p : Nat) (f : PathSt → PathSt) : (d.modPath p f).linkNew = d.linkNew := id rfl
@[simp] theorem Device.modPath_trigOut (d : Device) (p : Nat) (f : PathSt → PathSt) : (d.modPath p f).trigOut = d.trigOut := id rfl
@[simp] theorem Device.modPath_rep (d : Device) (p : Nat) (f : PathSt → PathSt) : (d.modPath p f).rep = d.rep := id rfl
@[simp] theorem Device.modPath_pilots (d : Device) (p : Nat) (f : PathSt → PathSt) : (d.modPath p f).pilots = d.pilots := id rfl
@[simp] theorem Device.modPath_bootCfg (d : Device) (p : Nat) (f : PathSt → PathSt) : (d.modPath p f).bootCfg = d.bootCfg := id rfl
@[simp] theorem Device.modPath_sram (d : Device) (p : Nat) (f : PathSt → PathSt) : (d.modPath p f).sram = d.sram := id rfl
@[simp] theorem Device.modPath_bus (d : Device) (p : Nat) (f : PathSt → PathSt) : (d.modPath p f).bus = d.bus := id rfl
@[simp] theorem Device.modPath_hd (d : Device) (p : Nat) (f : PathSt → PathSt) : (d.modPath p f).hd = d.hd := id rfl
@[simp] theorem Device.modPath_sspm (d : Device) (p : Nat) (f : PathSt → PathSt) : (d.modPath p f).sspm = d.sspm := id rfl
@[simp] theorem Device.modPath_ssps (d : Device) (p : Nat) (f : PathSt → PathSt) : (d.modPath p f).ssps = d.ssps := id rfl
@[simp] theorem Device.modPath_sec (d : Device) (p : Nat) (f : PathSt → PathSt) : (d.modPath p f).sec = d.sec := id rfl
@[simp] theorem Device.modPath_man (d : Device) (p : Nat) (f : PathSt → PathSt) : (d.modPath p f).man = d.man := id rfl
@[simp] theorem Device.modPath_bf (d : Device) (p : Nat) (f : PathSt → PathSt) : (d.modPath p f).bf = d.bf := id rfl
@[simp] theorem Device.modPath_profile (d : Device) (p : Nat) (f : PathSt → PathSt) : (d.modPath p f).profile = d.profile := id rfl
@[simp] theorem Device.modPath_cars (d : Device) (p : Nat) (f : PathSt → PathSt) : (d.modPath p f).cars = d.cars := id rfl
@[simp] theorem Device.modPath_bandCal (d : Device) (p : Nat) (f : PathSt → PathSt) : (d.modPath p f).bandCal = d.bandCal := id rfl
@[simp] theorem Device.modPath_bwFresh (d : Device) (p : Nat) (f : PathSt → PathSt) : (d.modPath p f).bwFresh = d.bwFresh := id rfl
@[simp] theorem Device.modPath_occ (d : Device) (p : Nat) (f : PathSt → PathSt) : (d.modPath p f).occ = d.occ := id rfl
@[simp] theorem Device.modPath_ses (d : Device) (p : Nat) (f : PathSt → PathSt) : (d.modPath p f).ses = d.ses := id rfl
@[simp] theorem Device.modPath_pathQueue (d : Device) (p : Nat) (f : PathSt → PathSt) : (d.modPath p f).pathQueue = d.pathQueue := id rfl
@[simp] theorem Device.modPath_cal (d : Device) (p : Nat) (f : PathSt → PathSt) : (d.modPath p f).cal = d.cal := id rfl
@[simp] theorem Device.modPath_coexGnt (d : Device) (p : Nat) (f : PathSt → PathSt) : (d.modPath p f).coexGnt = d.coexGnt := id rfl
@[simp] theorem Device.modPath_opt (d : Device) (p : Nat) (f : PathSt → PathSt) : (d.modPath p f).opt = d.opt := id rfl
@[simp] theorem Device.modPath_extest (d : Device) (p : Nat) (f : PathSt → PathSt) : (d.modPath p f).extest = d.extest := id rfl
@[simp] theorem Device.modPath_kl (d : Device) (p : Nat) (f : PathSt → PathSt) : (d.modPath p f).kl = d.kl := id rfl
@[simp] theorem Device.modPath_pl (d : Device) (p : Nat) (f : PathSt → PathSt) : (d.modPath p f).pl = d.pl := id rfl
@[simp] theorem Device.modPath_ringSent (d : Device) (p : Nat) (f : PathSt → PathSt) : (d.modPath p f).ringSent = d.ringSent := id rfl
@[simp] theorem Device.modPath_pinMap (d : Device) (p : Nat) (f : PathSt → PathSt) : (d.modPath p f).pinMap = d.pinMap := id rfl
@[simp] theorem Device.modPath_optRun (d : Device) (p : Nat) (f : PathSt → PathSt) : (d.modPath p f).optRun = d.optRun := id rfl
@[simp] theorem Device.modPath_optStage (d : Device) (p : Nat) (f : PathSt → PathSt) : (d.modPath p f).optStage = d.optStage := id rfl
@[simp] theorem Device.modPil_regs (d : Device) (p : Nat) (f : PilSt → PilSt) : (d.modPil p f).regs = d.regs := id rfl
@[simp] theorem Device.modPil_mirror (d : Device) (p : Nat) (f : PilSt → PilSt) : (d.modPil p f).mirror = d.mirror := id rfl
@[simp] theorem Device.modPil_post (d : Device) (p : Nat) (f : PilSt → PilSt) : (d.modPil p f).post = d.post := id rfl
@[simp] theorem Device.modPil_free (d : Device) (p : Nat) (f : PilSt → PilSt) : (d.modPil p f).free = d.free := id rfl
@[simp] theorem Device.modPil_isl (d : Device) (p : Nat) (f : PilSt → PilSt) : (d.modPil p f).isl = d.isl := id rfl
@[simp] theorem Device.modPil_rst (d : Device) (p : Nat) (f : PilSt → PilSt) : (d.modPil p f).rst = d.rst := id rfl
@[simp] theorem Device.modPil_pwr (d : Device) (p : Nat) (f : PilSt → PilSt) : (d.modPil p f).pwr = d.pwr := id rfl
@[simp] theorem Device.modPil_rtc (d : Device) (p : Nat) (f : PilSt → PilSt) : (d.modPil p f).rtc = d.rtc := id rfl
@[simp] theorem Device.modPil_watch (d : Device) (p : Nat) (f : PilSt → PilSt) : (d.modPil p f).watch = d.watch := id rfl
@[simp] theorem Device.modPil_hk (d : Device) (p : Nat) (f : PilSt → PilSt) : (d.modPil p f).hk = d.hk := id rfl
@[simp] theorem Device.modPil_timers (d : Device) (p : Nat) (f : PilSt → PilSt) : (d.modPil p f).timers = d.timers := id rfl
@[simp] theorem Device.modPil_tmIo (d : Device) (p : Nat) (f : PilSt → PilSt) : (d.modPil p f).tmIo = d.tmIo := id rfl
@[simp] theorem Device.modPil_balls (d : Device) (p : Nat) (f : PilSt → PilSt) : (d.modPil p f).balls = d.balls := id rfl
@[simp] theorem Device.modPil_linkSeen (d : Device) (p : Nat) (f : PilSt → PilSt) : (d.modPil p f).linkSeen = d.linkSeen := id rfl
@[simp] theorem Device.modPil_linkNew (d : Device) (p : Nat) (f : PilSt → PilSt) : (d.modPil p f).linkNew = d.linkNew := id rfl
@[simp] theorem Device.modPil_trigOut (d : Device) (p : Nat) (f : PilSt → PilSt) : (d.modPil p f).trigOut = d.trigOut := id rfl
@[simp] theorem Device.modPil_rep (d : Device) (p : Nat) (f : PilSt → PilSt) : (d.modPil p f).rep = d.rep := id rfl
@[simp] theorem Device.modPil_bootCfg (d : Device) (p : Nat) (f : PilSt → PilSt) : (d.modPil p f).bootCfg = d.bootCfg := id rfl
@[simp] theorem Device.modPil_sram (d : Device) (p : Nat) (f : PilSt → PilSt) : (d.modPil p f).sram = d.sram := id rfl
@[simp] theorem Device.modPil_bus (d : Device) (p : Nat) (f : PilSt → PilSt) : (d.modPil p f).bus = d.bus := id rfl
@[simp] theorem Device.modPil_hd (d : Device) (p : Nat) (f : PilSt → PilSt) : (d.modPil p f).hd = d.hd := id rfl
@[simp] theorem Device.modPil_sspm (d : Device) (p : Nat) (f : PilSt → PilSt) : (d.modPil p f).sspm = d.sspm := id rfl
@[simp] theorem Device.modPil_ssps (d : Device) (p : Nat) (f : PilSt → PilSt) : (d.modPil p f).ssps = d.ssps := id rfl
@[simp] theorem Device.modPil_sec (d : Device) (p : Nat) (f : PilSt → PilSt) : (d.modPil p f).sec = d.sec := id rfl
@[simp] theorem Device.modPil_man (d : Device) (p : Nat) (f : PilSt → PilSt) : (d.modPil p f).man = d.man := id rfl
@[simp] theorem Device.modPil_bf (d : Device) (p : Nat) (f : PilSt → PilSt) : (d.modPil p f).bf = d.bf := id rfl
@[simp] theorem Device.modPil_profile (d : Device) (p : Nat) (f : PilSt → PilSt) : (d.modPil p f).profile = d.profile := id rfl
@[simp] theorem Device.modPil_cars (d : Device) (p : Nat) (f : PilSt → PilSt) : (d.modPil p f).cars = d.cars := id rfl
@[simp] theorem Device.modPil_bandCal (d : Device) (p : Nat) (f : PilSt → PilSt) : (d.modPil p f).bandCal = d.bandCal := id rfl
@[simp] theorem Device.modPil_bwFresh (d : Device) (p : Nat) (f : PilSt → PilSt) : (d.modPil p f).bwFresh = d.bwFresh := id rfl
@[simp] theorem Device.modPil_occ (d : Device) (p : Nat) (f : PilSt → PilSt) : (d.modPil p f).occ = d.occ := id rfl
@[simp] theorem Device.modPil_ses (d : Device) (p : Nat) (f : PilSt → PilSt) : (d.modPil p f).ses = d.ses := id rfl
@[simp] theorem Device.modPil_paths (d : Device) (p : Nat) (f : PilSt → PilSt) : (d.modPil p f).paths = d.paths := id rfl
@[simp] theorem Device.modPil_pathQueue (d : Device) (p : Nat) (f : PilSt → PilSt) : (d.modPil p f).pathQueue = d.pathQueue := id rfl
@[simp] theorem Device.modPil_cal (d : Device) (p : Nat) (f : PilSt → PilSt) : (d.modPil p f).cal = d.cal := id rfl
@[simp] theorem Device.modPil_coexGnt (d : Device) (p : Nat) (f : PilSt → PilSt) : (d.modPil p f).coexGnt = d.coexGnt := id rfl
@[simp] theorem Device.modPil_opt (d : Device) (p : Nat) (f : PilSt → PilSt) : (d.modPil p f).opt = d.opt := id rfl
@[simp] theorem Device.modPil_extest (d : Device) (p : Nat) (f : PilSt → PilSt) : (d.modPil p f).extest = d.extest := id rfl
@[simp] theorem Device.modPil_kl (d : Device) (p : Nat) (f : PilSt → PilSt) : (d.modPil p f).kl = d.kl := id rfl
@[simp] theorem Device.modPil_pl (d : Device) (p : Nat) (f : PilSt → PilSt) : (d.modPil p f).pl = d.pl := id rfl
@[simp] theorem Device.modPil_ringSent (d : Device) (p : Nat) (f : PilSt → PilSt) : (d.modPil p f).ringSent = d.ringSent := id rfl
@[simp] theorem Device.modPil_pinMap (d : Device) (p : Nat) (f : PilSt → PilSt) : (d.modPil p f).pinMap = d.pinMap := id rfl
@[simp] theorem Device.modPil_optRun (d : Device) (p : Nat) (f : PilSt → PilSt) : (d.modPil p f).optRun = d.optRun := id rfl
@[simp] theorem Device.modPil_optStage (d : Device) (p : Nat) (f : PilSt → PilSt) : (d.modPil p f).optStage = d.optStage := id rfl
@[simp] theorem Device.modTimer_regs (d : Device) (k : Nat) (f : TimerSt → TimerSt) : (d.modTimer k f).regs = d.regs := id rfl
@[simp] theorem Device.modTimer_mirror (d : Device) (k : Nat) (f : TimerSt → TimerSt) : (d.modTimer k f).mirror = d.mirror := id rfl
@[simp] theorem Device.modTimer_post (d : Device) (k : Nat) (f : TimerSt → TimerSt) : (d.modTimer k f).post = d.post := id rfl
@[simp] theorem Device.modTimer_free (d : Device) (k : Nat) (f : TimerSt → TimerSt) : (d.modTimer k f).free = d.free := id rfl
@[simp] theorem Device.modTimer_isl (d : Device) (k : Nat) (f : TimerSt → TimerSt) : (d.modTimer k f).isl = d.isl := id rfl
@[simp] theorem Device.modTimer_rst (d : Device) (k : Nat) (f : TimerSt → TimerSt) : (d.modTimer k f).rst = d.rst := id rfl
@[simp] theorem Device.modTimer_pwr (d : Device) (k : Nat) (f : TimerSt → TimerSt) : (d.modTimer k f).pwr = d.pwr := id rfl
@[simp] theorem Device.modTimer_rtc (d : Device) (k : Nat) (f : TimerSt → TimerSt) : (d.modTimer k f).rtc = d.rtc := id rfl
@[simp] theorem Device.modTimer_watch (d : Device) (k : Nat) (f : TimerSt → TimerSt) : (d.modTimer k f).watch = d.watch := id rfl
@[simp] theorem Device.modTimer_hk (d : Device) (k : Nat) (f : TimerSt → TimerSt) : (d.modTimer k f).hk = d.hk := id rfl
@[simp] theorem Device.modTimer_tmIo (d : Device) (k : Nat) (f : TimerSt → TimerSt) : (d.modTimer k f).tmIo = d.tmIo := id rfl
@[simp] theorem Device.modTimer_balls (d : Device) (k : Nat) (f : TimerSt → TimerSt) : (d.modTimer k f).balls = d.balls := id rfl
@[simp] theorem Device.modTimer_linkSeen (d : Device) (k : Nat) (f : TimerSt → TimerSt) : (d.modTimer k f).linkSeen = d.linkSeen := id rfl
@[simp] theorem Device.modTimer_linkNew (d : Device) (k : Nat) (f : TimerSt → TimerSt) : (d.modTimer k f).linkNew = d.linkNew := id rfl
@[simp] theorem Device.modTimer_trigOut (d : Device) (k : Nat) (f : TimerSt → TimerSt) : (d.modTimer k f).trigOut = d.trigOut := id rfl
@[simp] theorem Device.modTimer_rep (d : Device) (k : Nat) (f : TimerSt → TimerSt) : (d.modTimer k f).rep = d.rep := id rfl
@[simp] theorem Device.modTimer_pilots (d : Device) (k : Nat) (f : TimerSt → TimerSt) : (d.modTimer k f).pilots = d.pilots := id rfl
@[simp] theorem Device.modTimer_bootCfg (d : Device) (k : Nat) (f : TimerSt → TimerSt) : (d.modTimer k f).bootCfg = d.bootCfg := id rfl
@[simp] theorem Device.modTimer_sram (d : Device) (k : Nat) (f : TimerSt → TimerSt) : (d.modTimer k f).sram = d.sram := id rfl
@[simp] theorem Device.modTimer_bus (d : Device) (k : Nat) (f : TimerSt → TimerSt) : (d.modTimer k f).bus = d.bus := id rfl
@[simp] theorem Device.modTimer_hd (d : Device) (k : Nat) (f : TimerSt → TimerSt) : (d.modTimer k f).hd = d.hd := id rfl
@[simp] theorem Device.modTimer_sspm (d : Device) (k : Nat) (f : TimerSt → TimerSt) : (d.modTimer k f).sspm = d.sspm := id rfl
@[simp] theorem Device.modTimer_ssps (d : Device) (k : Nat) (f : TimerSt → TimerSt) : (d.modTimer k f).ssps = d.ssps := id rfl
@[simp] theorem Device.modTimer_sec (d : Device) (k : Nat) (f : TimerSt → TimerSt) : (d.modTimer k f).sec = d.sec := id rfl
@[simp] theorem Device.modTimer_man (d : Device) (k : Nat) (f : TimerSt → TimerSt) : (d.modTimer k f).man = d.man := id rfl
@[simp] theorem Device.modTimer_bf (d : Device) (k : Nat) (f : TimerSt → TimerSt) : (d.modTimer k f).bf = d.bf := id rfl
@[simp] theorem Device.modTimer_profile (d : Device) (k : Nat) (f : TimerSt → TimerSt) : (d.modTimer k f).profile = d.profile := id rfl
@[simp] theorem Device.modTimer_cars (d : Device) (k : Nat) (f : TimerSt → TimerSt) : (d.modTimer k f).cars = d.cars := id rfl
@[simp] theorem Device.modTimer_bandCal (d : Device) (k : Nat) (f : TimerSt → TimerSt) : (d.modTimer k f).bandCal = d.bandCal := id rfl
@[simp] theorem Device.modTimer_bwFresh (d : Device) (k : Nat) (f : TimerSt → TimerSt) : (d.modTimer k f).bwFresh = d.bwFresh := id rfl
@[simp] theorem Device.modTimer_occ (d : Device) (k : Nat) (f : TimerSt → TimerSt) : (d.modTimer k f).occ = d.occ := id rfl
@[simp] theorem Device.modTimer_ses (d : Device) (k : Nat) (f : TimerSt → TimerSt) : (d.modTimer k f).ses = d.ses := id rfl
@[simp] theorem Device.modTimer_paths (d : Device) (k : Nat) (f : TimerSt → TimerSt) : (d.modTimer k f).paths = d.paths := id rfl
@[simp] theorem Device.modTimer_pathQueue (d : Device) (k : Nat) (f : TimerSt → TimerSt) : (d.modTimer k f).pathQueue = d.pathQueue := id rfl
@[simp] theorem Device.modTimer_cal (d : Device) (k : Nat) (f : TimerSt → TimerSt) : (d.modTimer k f).cal = d.cal := id rfl
@[simp] theorem Device.modTimer_coexGnt (d : Device) (k : Nat) (f : TimerSt → TimerSt) : (d.modTimer k f).coexGnt = d.coexGnt := id rfl
@[simp] theorem Device.modTimer_opt (d : Device) (k : Nat) (f : TimerSt → TimerSt) : (d.modTimer k f).opt = d.opt := id rfl
@[simp] theorem Device.modTimer_extest (d : Device) (k : Nat) (f : TimerSt → TimerSt) : (d.modTimer k f).extest = d.extest := id rfl
@[simp] theorem Device.modTimer_kl (d : Device) (k : Nat) (f : TimerSt → TimerSt) : (d.modTimer k f).kl = d.kl := id rfl
@[simp] theorem Device.modTimer_pl (d : Device) (k : Nat) (f : TimerSt → TimerSt) : (d.modTimer k f).pl = d.pl := id rfl
@[simp] theorem Device.modTimer_ringSent (d : Device) (k : Nat) (f : TimerSt → TimerSt) : (d.modTimer k f).ringSent = d.ringSent := id rfl
@[simp] theorem Device.modTimer_pinMap (d : Device) (k : Nat) (f : TimerSt → TimerSt) : (d.modTimer k f).pinMap = d.pinMap := id rfl
@[simp] theorem Device.modTimer_optRun (d : Device) (k : Nat) (f : TimerSt → TimerSt) : (d.modTimer k f).optRun = d.optRun := id rfl
@[simp] theorem Device.modTimer_optStage (d : Device) (k : Nat) (f : TimerSt → TimerSt) : (d.modTimer k f).optStage = d.optStage := id rfl
@[simp] theorem Device.modCal_regs (d : Device) (f : CalSt → CalSt) : (d.modCal f).regs = d.regs := id rfl
@[simp] theorem Device.modCal_mirror (d : Device) (f : CalSt → CalSt) : (d.modCal f).mirror = d.mirror := id rfl
@[simp] theorem Device.modCal_post (d : Device) (f : CalSt → CalSt) : (d.modCal f).post = d.post := id rfl
@[simp] theorem Device.modCal_free (d : Device) (f : CalSt → CalSt) : (d.modCal f).free = d.free := id rfl
@[simp] theorem Device.modCal_isl (d : Device) (f : CalSt → CalSt) : (d.modCal f).isl = d.isl := id rfl
@[simp] theorem Device.modCal_rst (d : Device) (f : CalSt → CalSt) : (d.modCal f).rst = d.rst := id rfl
@[simp] theorem Device.modCal_pwr (d : Device) (f : CalSt → CalSt) : (d.modCal f).pwr = d.pwr := id rfl
@[simp] theorem Device.modCal_rtc (d : Device) (f : CalSt → CalSt) : (d.modCal f).rtc = d.rtc := id rfl
@[simp] theorem Device.modCal_watch (d : Device) (f : CalSt → CalSt) : (d.modCal f).watch = d.watch := id rfl
@[simp] theorem Device.modCal_hk (d : Device) (f : CalSt → CalSt) : (d.modCal f).hk = d.hk := id rfl
@[simp] theorem Device.modCal_timers (d : Device) (f : CalSt → CalSt) : (d.modCal f).timers = d.timers := id rfl
@[simp] theorem Device.modCal_tmIo (d : Device) (f : CalSt → CalSt) : (d.modCal f).tmIo = d.tmIo := id rfl
@[simp] theorem Device.modCal_balls (d : Device) (f : CalSt → CalSt) : (d.modCal f).balls = d.balls := id rfl
@[simp] theorem Device.modCal_linkSeen (d : Device) (f : CalSt → CalSt) : (d.modCal f).linkSeen = d.linkSeen := id rfl
@[simp] theorem Device.modCal_linkNew (d : Device) (f : CalSt → CalSt) : (d.modCal f).linkNew = d.linkNew := id rfl
@[simp] theorem Device.modCal_trigOut (d : Device) (f : CalSt → CalSt) : (d.modCal f).trigOut = d.trigOut := id rfl
@[simp] theorem Device.modCal_rep (d : Device) (f : CalSt → CalSt) : (d.modCal f).rep = d.rep := id rfl
@[simp] theorem Device.modCal_pilots (d : Device) (f : CalSt → CalSt) : (d.modCal f).pilots = d.pilots := id rfl
@[simp] theorem Device.modCal_bootCfg (d : Device) (f : CalSt → CalSt) : (d.modCal f).bootCfg = d.bootCfg := id rfl
@[simp] theorem Device.modCal_sram (d : Device) (f : CalSt → CalSt) : (d.modCal f).sram = d.sram := id rfl
@[simp] theorem Device.modCal_bus (d : Device) (f : CalSt → CalSt) : (d.modCal f).bus = d.bus := id rfl
@[simp] theorem Device.modCal_hd (d : Device) (f : CalSt → CalSt) : (d.modCal f).hd = d.hd := id rfl
@[simp] theorem Device.modCal_sspm (d : Device) (f : CalSt → CalSt) : (d.modCal f).sspm = d.sspm := id rfl
@[simp] theorem Device.modCal_ssps (d : Device) (f : CalSt → CalSt) : (d.modCal f).ssps = d.ssps := id rfl
@[simp] theorem Device.modCal_sec (d : Device) (f : CalSt → CalSt) : (d.modCal f).sec = d.sec := id rfl
@[simp] theorem Device.modCal_man (d : Device) (f : CalSt → CalSt) : (d.modCal f).man = d.man := id rfl
@[simp] theorem Device.modCal_bf (d : Device) (f : CalSt → CalSt) : (d.modCal f).bf = d.bf := id rfl
@[simp] theorem Device.modCal_profile (d : Device) (f : CalSt → CalSt) : (d.modCal f).profile = d.profile := id rfl
@[simp] theorem Device.modCal_cars (d : Device) (f : CalSt → CalSt) : (d.modCal f).cars = d.cars := id rfl
@[simp] theorem Device.modCal_bandCal (d : Device) (f : CalSt → CalSt) : (d.modCal f).bandCal = d.bandCal := id rfl
@[simp] theorem Device.modCal_bwFresh (d : Device) (f : CalSt → CalSt) : (d.modCal f).bwFresh = d.bwFresh := id rfl
@[simp] theorem Device.modCal_occ (d : Device) (f : CalSt → CalSt) : (d.modCal f).occ = d.occ := id rfl
@[simp] theorem Device.modCal_ses (d : Device) (f : CalSt → CalSt) : (d.modCal f).ses = d.ses := id rfl
@[simp] theorem Device.modCal_paths (d : Device) (f : CalSt → CalSt) : (d.modCal f).paths = d.paths := id rfl
@[simp] theorem Device.modCal_pathQueue (d : Device) (f : CalSt → CalSt) : (d.modCal f).pathQueue = d.pathQueue := id rfl
@[simp] theorem Device.modCal_coexGnt (d : Device) (f : CalSt → CalSt) : (d.modCal f).coexGnt = d.coexGnt := id rfl
@[simp] theorem Device.modCal_opt (d : Device) (f : CalSt → CalSt) : (d.modCal f).opt = d.opt := id rfl
@[simp] theorem Device.modCal_extest (d : Device) (f : CalSt → CalSt) : (d.modCal f).extest = d.extest := id rfl
@[simp] theorem Device.modCal_kl (d : Device) (f : CalSt → CalSt) : (d.modCal f).kl = d.kl := id rfl
@[simp] theorem Device.modCal_pl (d : Device) (f : CalSt → CalSt) : (d.modCal f).pl = d.pl := id rfl
@[simp] theorem Device.modCal_ringSent (d : Device) (f : CalSt → CalSt) : (d.modCal f).ringSent = d.ringSent := id rfl
@[simp] theorem Device.modCal_pinMap (d : Device) (f : CalSt → CalSt) : (d.modCal f).pinMap = d.pinMap := id rfl
@[simp] theorem Device.modCal_optRun (d : Device) (f : CalSt → CalSt) : (d.modCal f).optRun = d.optRun := id rfl
@[simp] theorem Device.modCal_optStage (d : Device) (f : CalSt → CalSt) : (d.modCal f).optStage = d.optStage := id rfl
@[simp] theorem Device.modKl_regs (d : Device) (f : KlSt → KlSt) : (d.modKl f).regs = d.regs := id rfl
@[simp] theorem Device.modKl_mirror (d : Device) (f : KlSt → KlSt) : (d.modKl f).mirror = d.mirror := id rfl
@[simp] theorem Device.modKl_post (d : Device) (f : KlSt → KlSt) : (d.modKl f).post = d.post := id rfl
@[simp] theorem Device.modKl_free (d : Device) (f : KlSt → KlSt) : (d.modKl f).free = d.free := id rfl
@[simp] theorem Device.modKl_isl (d : Device) (f : KlSt → KlSt) : (d.modKl f).isl = d.isl := id rfl
@[simp] theorem Device.modKl_rst (d : Device) (f : KlSt → KlSt) : (d.modKl f).rst = d.rst := id rfl
@[simp] theorem Device.modKl_pwr (d : Device) (f : KlSt → KlSt) : (d.modKl f).pwr = d.pwr := id rfl
@[simp] theorem Device.modKl_rtc (d : Device) (f : KlSt → KlSt) : (d.modKl f).rtc = d.rtc := id rfl
@[simp] theorem Device.modKl_watch (d : Device) (f : KlSt → KlSt) : (d.modKl f).watch = d.watch := id rfl
@[simp] theorem Device.modKl_hk (d : Device) (f : KlSt → KlSt) : (d.modKl f).hk = d.hk := id rfl
@[simp] theorem Device.modKl_timers (d : Device) (f : KlSt → KlSt) : (d.modKl f).timers = d.timers := id rfl
@[simp] theorem Device.modKl_tmIo (d : Device) (f : KlSt → KlSt) : (d.modKl f).tmIo = d.tmIo := id rfl
@[simp] theorem Device.modKl_balls (d : Device) (f : KlSt → KlSt) : (d.modKl f).balls = d.balls := id rfl
@[simp] theorem Device.modKl_linkSeen (d : Device) (f : KlSt → KlSt) : (d.modKl f).linkSeen = d.linkSeen := id rfl
@[simp] theorem Device.modKl_linkNew (d : Device) (f : KlSt → KlSt) : (d.modKl f).linkNew = d.linkNew := id rfl
@[simp] theorem Device.modKl_trigOut (d : Device) (f : KlSt → KlSt) : (d.modKl f).trigOut = d.trigOut := id rfl
@[simp] theorem Device.modKl_rep (d : Device) (f : KlSt → KlSt) : (d.modKl f).rep = d.rep := id rfl
@[simp] theorem Device.modKl_pilots (d : Device) (f : KlSt → KlSt) : (d.modKl f).pilots = d.pilots := id rfl
@[simp] theorem Device.modKl_bootCfg (d : Device) (f : KlSt → KlSt) : (d.modKl f).bootCfg = d.bootCfg := id rfl
@[simp] theorem Device.modKl_sram (d : Device) (f : KlSt → KlSt) : (d.modKl f).sram = d.sram := id rfl
@[simp] theorem Device.modKl_bus (d : Device) (f : KlSt → KlSt) : (d.modKl f).bus = d.bus := id rfl
@[simp] theorem Device.modKl_hd (d : Device) (f : KlSt → KlSt) : (d.modKl f).hd = d.hd := id rfl
@[simp] theorem Device.modKl_sspm (d : Device) (f : KlSt → KlSt) : (d.modKl f).sspm = d.sspm := id rfl
@[simp] theorem Device.modKl_ssps (d : Device) (f : KlSt → KlSt) : (d.modKl f).ssps = d.ssps := id rfl
@[simp] theorem Device.modKl_sec (d : Device) (f : KlSt → KlSt) : (d.modKl f).sec = d.sec := id rfl
@[simp] theorem Device.modKl_man (d : Device) (f : KlSt → KlSt) : (d.modKl f).man = d.man := id rfl
@[simp] theorem Device.modKl_bf (d : Device) (f : KlSt → KlSt) : (d.modKl f).bf = d.bf := id rfl
@[simp] theorem Device.modKl_profile (d : Device) (f : KlSt → KlSt) : (d.modKl f).profile = d.profile := id rfl
@[simp] theorem Device.modKl_cars (d : Device) (f : KlSt → KlSt) : (d.modKl f).cars = d.cars := id rfl
@[simp] theorem Device.modKl_bandCal (d : Device) (f : KlSt → KlSt) : (d.modKl f).bandCal = d.bandCal := id rfl
@[simp] theorem Device.modKl_bwFresh (d : Device) (f : KlSt → KlSt) : (d.modKl f).bwFresh = d.bwFresh := id rfl
@[simp] theorem Device.modKl_occ (d : Device) (f : KlSt → KlSt) : (d.modKl f).occ = d.occ := id rfl
@[simp] theorem Device.modKl_ses (d : Device) (f : KlSt → KlSt) : (d.modKl f).ses = d.ses := id rfl
@[simp] theorem Device.modKl_paths (d : Device) (f : KlSt → KlSt) : (d.modKl f).paths = d.paths := id rfl
@[simp] theorem Device.modKl_pathQueue (d : Device) (f : KlSt → KlSt) : (d.modKl f).pathQueue = d.pathQueue := id rfl
@[simp] theorem Device.modKl_cal (d : Device) (f : KlSt → KlSt) : (d.modKl f).cal = d.cal := id rfl
@[simp] theorem Device.modKl_coexGnt (d : Device) (f : KlSt → KlSt) : (d.modKl f).coexGnt = d.coexGnt := id rfl
@[simp] theorem Device.modKl_opt (d : Device) (f : KlSt → KlSt) : (d.modKl f).opt = d.opt := id rfl
@[simp] theorem Device.modKl_extest (d : Device) (f : KlSt → KlSt) : (d.modKl f).extest = d.extest := id rfl
@[simp] theorem Device.modKl_pl (d : Device) (f : KlSt → KlSt) : (d.modKl f).pl = d.pl := id rfl
@[simp] theorem Device.modKl_ringSent (d : Device) (f : KlSt → KlSt) : (d.modKl f).ringSent = d.ringSent := id rfl
@[simp] theorem Device.modKl_pinMap (d : Device) (f : KlSt → KlSt) : (d.modKl f).pinMap = d.pinMap := id rfl
@[simp] theorem Device.modKl_optRun (d : Device) (f : KlSt → KlSt) : (d.modKl f).optRun = d.optRun := id rfl
@[simp] theorem Device.modKl_optStage (d : Device) (f : KlSt → KlSt) : (d.modKl f).optStage = d.optStage := id rfl
@[simp] theorem Device.modPort_regs (d : Device) (k : Nat) (f : KlPortSt → KlPortSt) : (d.modPort k f).regs = d.regs := id rfl
@[simp] theorem Device.modPort_mirror (d : Device) (k : Nat) (f : KlPortSt → KlPortSt) : (d.modPort k f).mirror = d.mirror := id rfl
@[simp] theorem Device.modPort_post (d : Device) (k : Nat) (f : KlPortSt → KlPortSt) : (d.modPort k f).post = d.post := id rfl
@[simp] theorem Device.modPort_free (d : Device) (k : Nat) (f : KlPortSt → KlPortSt) : (d.modPort k f).free = d.free := id rfl
@[simp] theorem Device.modPort_isl (d : Device) (k : Nat) (f : KlPortSt → KlPortSt) : (d.modPort k f).isl = d.isl := id rfl
@[simp] theorem Device.modPort_rst (d : Device) (k : Nat) (f : KlPortSt → KlPortSt) : (d.modPort k f).rst = d.rst := id rfl
@[simp] theorem Device.modPort_pwr (d : Device) (k : Nat) (f : KlPortSt → KlPortSt) : (d.modPort k f).pwr = d.pwr := id rfl
@[simp] theorem Device.modPort_rtc (d : Device) (k : Nat) (f : KlPortSt → KlPortSt) : (d.modPort k f).rtc = d.rtc := id rfl
@[simp] theorem Device.modPort_watch (d : Device) (k : Nat) (f : KlPortSt → KlPortSt) : (d.modPort k f).watch = d.watch := id rfl
@[simp] theorem Device.modPort_hk (d : Device) (k : Nat) (f : KlPortSt → KlPortSt) : (d.modPort k f).hk = d.hk := id rfl
@[simp] theorem Device.modPort_timers (d : Device) (k : Nat) (f : KlPortSt → KlPortSt) : (d.modPort k f).timers = d.timers := id rfl
@[simp] theorem Device.modPort_tmIo (d : Device) (k : Nat) (f : KlPortSt → KlPortSt) : (d.modPort k f).tmIo = d.tmIo := id rfl
@[simp] theorem Device.modPort_balls (d : Device) (k : Nat) (f : KlPortSt → KlPortSt) : (d.modPort k f).balls = d.balls := id rfl
@[simp] theorem Device.modPort_linkSeen (d : Device) (k : Nat) (f : KlPortSt → KlPortSt) : (d.modPort k f).linkSeen = d.linkSeen := id rfl
@[simp] theorem Device.modPort_linkNew (d : Device) (k : Nat) (f : KlPortSt → KlPortSt) : (d.modPort k f).linkNew = d.linkNew := id rfl
@[simp] theorem Device.modPort_trigOut (d : Device) (k : Nat) (f : KlPortSt → KlPortSt) : (d.modPort k f).trigOut = d.trigOut := id rfl
@[simp] theorem Device.modPort_rep (d : Device) (k : Nat) (f : KlPortSt → KlPortSt) : (d.modPort k f).rep = d.rep := id rfl
@[simp] theorem Device.modPort_pilots (d : Device) (k : Nat) (f : KlPortSt → KlPortSt) : (d.modPort k f).pilots = d.pilots := id rfl
@[simp] theorem Device.modPort_bootCfg (d : Device) (k : Nat) (f : KlPortSt → KlPortSt) : (d.modPort k f).bootCfg = d.bootCfg := id rfl
@[simp] theorem Device.modPort_sram (d : Device) (k : Nat) (f : KlPortSt → KlPortSt) : (d.modPort k f).sram = d.sram := id rfl
@[simp] theorem Device.modPort_bus (d : Device) (k : Nat) (f : KlPortSt → KlPortSt) : (d.modPort k f).bus = d.bus := id rfl
@[simp] theorem Device.modPort_hd (d : Device) (k : Nat) (f : KlPortSt → KlPortSt) : (d.modPort k f).hd = d.hd := id rfl
@[simp] theorem Device.modPort_sspm (d : Device) (k : Nat) (f : KlPortSt → KlPortSt) : (d.modPort k f).sspm = d.sspm := id rfl
@[simp] theorem Device.modPort_ssps (d : Device) (k : Nat) (f : KlPortSt → KlPortSt) : (d.modPort k f).ssps = d.ssps := id rfl
@[simp] theorem Device.modPort_sec (d : Device) (k : Nat) (f : KlPortSt → KlPortSt) : (d.modPort k f).sec = d.sec := id rfl
@[simp] theorem Device.modPort_man (d : Device) (k : Nat) (f : KlPortSt → KlPortSt) : (d.modPort k f).man = d.man := id rfl
@[simp] theorem Device.modPort_bf (d : Device) (k : Nat) (f : KlPortSt → KlPortSt) : (d.modPort k f).bf = d.bf := id rfl
@[simp] theorem Device.modPort_profile (d : Device) (k : Nat) (f : KlPortSt → KlPortSt) : (d.modPort k f).profile = d.profile := id rfl
@[simp] theorem Device.modPort_cars (d : Device) (k : Nat) (f : KlPortSt → KlPortSt) : (d.modPort k f).cars = d.cars := id rfl
@[simp] theorem Device.modPort_bandCal (d : Device) (k : Nat) (f : KlPortSt → KlPortSt) : (d.modPort k f).bandCal = d.bandCal := id rfl
@[simp] theorem Device.modPort_bwFresh (d : Device) (k : Nat) (f : KlPortSt → KlPortSt) : (d.modPort k f).bwFresh = d.bwFresh := id rfl
@[simp] theorem Device.modPort_occ (d : Device) (k : Nat) (f : KlPortSt → KlPortSt) : (d.modPort k f).occ = d.occ := id rfl
@[simp] theorem Device.modPort_ses (d : Device) (k : Nat) (f : KlPortSt → KlPortSt) : (d.modPort k f).ses = d.ses := id rfl
@[simp] theorem Device.modPort_paths (d : Device) (k : Nat) (f : KlPortSt → KlPortSt) : (d.modPort k f).paths = d.paths := id rfl
@[simp] theorem Device.modPort_pathQueue (d : Device) (k : Nat) (f : KlPortSt → KlPortSt) : (d.modPort k f).pathQueue = d.pathQueue := id rfl
@[simp] theorem Device.modPort_cal (d : Device) (k : Nat) (f : KlPortSt → KlPortSt) : (d.modPort k f).cal = d.cal := id rfl
@[simp] theorem Device.modPort_coexGnt (d : Device) (k : Nat) (f : KlPortSt → KlPortSt) : (d.modPort k f).coexGnt = d.coexGnt := id rfl
@[simp] theorem Device.modPort_opt (d : Device) (k : Nat) (f : KlPortSt → KlPortSt) : (d.modPort k f).opt = d.opt := id rfl
@[simp] theorem Device.modPort_extest (d : Device) (k : Nat) (f : KlPortSt → KlPortSt) : (d.modPort k f).extest = d.extest := id rfl
@[simp] theorem Device.modPort_pl (d : Device) (k : Nat) (f : KlPortSt → KlPortSt) : (d.modPort k f).pl = d.pl := id rfl
@[simp] theorem Device.modPort_ringSent (d : Device) (k : Nat) (f : KlPortSt → KlPortSt) : (d.modPort k f).ringSent = d.ringSent := id rfl
@[simp] theorem Device.modPort_pinMap (d : Device) (k : Nat) (f : KlPortSt → KlPortSt) : (d.modPort k f).pinMap = d.pinMap := id rfl
@[simp] theorem Device.modPort_optRun (d : Device) (k : Nat) (f : KlPortSt → KlPortSt) : (d.modPort k f).optRun = d.optRun := id rfl
@[simp] theorem Device.modPort_optStage (d : Device) (k : Nat) (f : KlPortSt → KlPortSt) : (d.modPort k f).optStage = d.optStage := id rfl
@[simp] theorem Device.modPl_regs (d : Device) (f : PlSt → PlSt) : (d.modPl f).regs = d.regs := id rfl
@[simp] theorem Device.modPl_mirror (d : Device) (f : PlSt → PlSt) : (d.modPl f).mirror = d.mirror := id rfl
@[simp] theorem Device.modPl_post (d : Device) (f : PlSt → PlSt) : (d.modPl f).post = d.post := id rfl
@[simp] theorem Device.modPl_free (d : Device) (f : PlSt → PlSt) : (d.modPl f).free = d.free := id rfl
@[simp] theorem Device.modPl_isl (d : Device) (f : PlSt → PlSt) : (d.modPl f).isl = d.isl := id rfl
@[simp] theorem Device.modPl_rst (d : Device) (f : PlSt → PlSt) : (d.modPl f).rst = d.rst := id rfl
@[simp] theorem Device.modPl_pwr (d : Device) (f : PlSt → PlSt) : (d.modPl f).pwr = d.pwr := id rfl
@[simp] theorem Device.modPl_rtc (d : Device) (f : PlSt → PlSt) : (d.modPl f).rtc = d.rtc := id rfl
@[simp] theorem Device.modPl_watch (d : Device) (f : PlSt → PlSt) : (d.modPl f).watch = d.watch := id rfl
@[simp] theorem Device.modPl_hk (d : Device) (f : PlSt → PlSt) : (d.modPl f).hk = d.hk := id rfl
@[simp] theorem Device.modPl_timers (d : Device) (f : PlSt → PlSt) : (d.modPl f).timers = d.timers := id rfl
@[simp] theorem Device.modPl_tmIo (d : Device) (f : PlSt → PlSt) : (d.modPl f).tmIo = d.tmIo := id rfl
@[simp] theorem Device.modPl_balls (d : Device) (f : PlSt → PlSt) : (d.modPl f).balls = d.balls := id rfl
@[simp] theorem Device.modPl_linkSeen (d : Device) (f : PlSt → PlSt) : (d.modPl f).linkSeen = d.linkSeen := id rfl
@[simp] theorem Device.modPl_linkNew (d : Device) (f : PlSt → PlSt) : (d.modPl f).linkNew = d.linkNew := id rfl
@[simp] theorem Device.modPl_trigOut (d : Device) (f : PlSt → PlSt) : (d.modPl f).trigOut = d.trigOut := id rfl
@[simp] theorem Device.modPl_rep (d : Device) (f : PlSt → PlSt) : (d.modPl f).rep = d.rep := id rfl
@[simp] theorem Device.modPl_pilots (d : Device) (f : PlSt → PlSt) : (d.modPl f).pilots = d.pilots := id rfl
@[simp] theorem Device.modPl_bootCfg (d : Device) (f : PlSt → PlSt) : (d.modPl f).bootCfg = d.bootCfg := id rfl
@[simp] theorem Device.modPl_sram (d : Device) (f : PlSt → PlSt) : (d.modPl f).sram = d.sram := id rfl
@[simp] theorem Device.modPl_bus (d : Device) (f : PlSt → PlSt) : (d.modPl f).bus = d.bus := id rfl
@[simp] theorem Device.modPl_hd (d : Device) (f : PlSt → PlSt) : (d.modPl f).hd = d.hd := id rfl
@[simp] theorem Device.modPl_sspm (d : Device) (f : PlSt → PlSt) : (d.modPl f).sspm = d.sspm := id rfl
@[simp] theorem Device.modPl_ssps (d : Device) (f : PlSt → PlSt) : (d.modPl f).ssps = d.ssps := id rfl
@[simp] theorem Device.modPl_sec (d : Device) (f : PlSt → PlSt) : (d.modPl f).sec = d.sec := id rfl
@[simp] theorem Device.modPl_man (d : Device) (f : PlSt → PlSt) : (d.modPl f).man = d.man := id rfl
@[simp] theorem Device.modPl_bf (d : Device) (f : PlSt → PlSt) : (d.modPl f).bf = d.bf := id rfl
@[simp] theorem Device.modPl_profile (d : Device) (f : PlSt → PlSt) : (d.modPl f).profile = d.profile := id rfl
@[simp] theorem Device.modPl_cars (d : Device) (f : PlSt → PlSt) : (d.modPl f).cars = d.cars := id rfl
@[simp] theorem Device.modPl_bandCal (d : Device) (f : PlSt → PlSt) : (d.modPl f).bandCal = d.bandCal := id rfl
@[simp] theorem Device.modPl_bwFresh (d : Device) (f : PlSt → PlSt) : (d.modPl f).bwFresh = d.bwFresh := id rfl
@[simp] theorem Device.modPl_occ (d : Device) (f : PlSt → PlSt) : (d.modPl f).occ = d.occ := id rfl
@[simp] theorem Device.modPl_ses (d : Device) (f : PlSt → PlSt) : (d.modPl f).ses = d.ses := id rfl
@[simp] theorem Device.modPl_paths (d : Device) (f : PlSt → PlSt) : (d.modPl f).paths = d.paths := id rfl
@[simp] theorem Device.modPl_pathQueue (d : Device) (f : PlSt → PlSt) : (d.modPl f).pathQueue = d.pathQueue := id rfl
@[simp] theorem Device.modPl_cal (d : Device) (f : PlSt → PlSt) : (d.modPl f).cal = d.cal := id rfl
@[simp] theorem Device.modPl_coexGnt (d : Device) (f : PlSt → PlSt) : (d.modPl f).coexGnt = d.coexGnt := id rfl
@[simp] theorem Device.modPl_opt (d : Device) (f : PlSt → PlSt) : (d.modPl f).opt = d.opt := id rfl
@[simp] theorem Device.modPl_extest (d : Device) (f : PlSt → PlSt) : (d.modPl f).extest = d.extest := id rfl
@[simp] theorem Device.modPl_kl (d : Device) (f : PlSt → PlSt) : (d.modPl f).kl = d.kl := id rfl
@[simp] theorem Device.modPl_ringSent (d : Device) (f : PlSt → PlSt) : (d.modPl f).ringSent = d.ringSent := id rfl
@[simp] theorem Device.modPl_pinMap (d : Device) (f : PlSt → PlSt) : (d.modPl f).pinMap = d.pinMap := id rfl
@[simp] theorem Device.modPl_optRun (d : Device) (f : PlSt → PlSt) : (d.modPl f).optRun = d.optRun := id rfl
@[simp] theorem Device.modPl_optStage (d : Device) (f : PlSt → PlSt) : (d.modPl f).optStage = d.optStage := id rfl
@[simp] theorem Device.modRep_regs (d : Device) (f : RepSt → RepSt) : (d.modRep f).regs = d.regs := id rfl
@[simp] theorem Device.modRep_mirror (d : Device) (f : RepSt → RepSt) : (d.modRep f).mirror = d.mirror := id rfl
@[simp] theorem Device.modRep_post (d : Device) (f : RepSt → RepSt) : (d.modRep f).post = d.post := id rfl
@[simp] theorem Device.modRep_free (d : Device) (f : RepSt → RepSt) : (d.modRep f).free = d.free := id rfl
@[simp] theorem Device.modRep_isl (d : Device) (f : RepSt → RepSt) : (d.modRep f).isl = d.isl := id rfl
@[simp] theorem Device.modRep_rst (d : Device) (f : RepSt → RepSt) : (d.modRep f).rst = d.rst := id rfl
@[simp] theorem Device.modRep_pwr (d : Device) (f : RepSt → RepSt) : (d.modRep f).pwr = d.pwr := id rfl
@[simp] theorem Device.modRep_rtc (d : Device) (f : RepSt → RepSt) : (d.modRep f).rtc = d.rtc := id rfl
@[simp] theorem Device.modRep_watch (d : Device) (f : RepSt → RepSt) : (d.modRep f).watch = d.watch := id rfl
@[simp] theorem Device.modRep_hk (d : Device) (f : RepSt → RepSt) : (d.modRep f).hk = d.hk := id rfl
@[simp] theorem Device.modRep_timers (d : Device) (f : RepSt → RepSt) : (d.modRep f).timers = d.timers := id rfl
@[simp] theorem Device.modRep_tmIo (d : Device) (f : RepSt → RepSt) : (d.modRep f).tmIo = d.tmIo := id rfl
@[simp] theorem Device.modRep_balls (d : Device) (f : RepSt → RepSt) : (d.modRep f).balls = d.balls := id rfl
@[simp] theorem Device.modRep_linkSeen (d : Device) (f : RepSt → RepSt) : (d.modRep f).linkSeen = d.linkSeen := id rfl
@[simp] theorem Device.modRep_linkNew (d : Device) (f : RepSt → RepSt) : (d.modRep f).linkNew = d.linkNew := id rfl
@[simp] theorem Device.modRep_trigOut (d : Device) (f : RepSt → RepSt) : (d.modRep f).trigOut = d.trigOut := id rfl
@[simp] theorem Device.modRep_pilots (d : Device) (f : RepSt → RepSt) : (d.modRep f).pilots = d.pilots := id rfl
@[simp] theorem Device.modRep_bootCfg (d : Device) (f : RepSt → RepSt) : (d.modRep f).bootCfg = d.bootCfg := id rfl
@[simp] theorem Device.modRep_sram (d : Device) (f : RepSt → RepSt) : (d.modRep f).sram = d.sram := id rfl
@[simp] theorem Device.modRep_bus (d : Device) (f : RepSt → RepSt) : (d.modRep f).bus = d.bus := id rfl
@[simp] theorem Device.modRep_hd (d : Device) (f : RepSt → RepSt) : (d.modRep f).hd = d.hd := id rfl
@[simp] theorem Device.modRep_sspm (d : Device) (f : RepSt → RepSt) : (d.modRep f).sspm = d.sspm := id rfl
@[simp] theorem Device.modRep_ssps (d : Device) (f : RepSt → RepSt) : (d.modRep f).ssps = d.ssps := id rfl
@[simp] theorem Device.modRep_sec (d : Device) (f : RepSt → RepSt) : (d.modRep f).sec = d.sec := id rfl
@[simp] theorem Device.modRep_man (d : Device) (f : RepSt → RepSt) : (d.modRep f).man = d.man := id rfl
@[simp] theorem Device.modRep_bf (d : Device) (f : RepSt → RepSt) : (d.modRep f).bf = d.bf := id rfl
@[simp] theorem Device.modRep_profile (d : Device) (f : RepSt → RepSt) : (d.modRep f).profile = d.profile := id rfl
@[simp] theorem Device.modRep_cars (d : Device) (f : RepSt → RepSt) : (d.modRep f).cars = d.cars := id rfl
@[simp] theorem Device.modRep_bandCal (d : Device) (f : RepSt → RepSt) : (d.modRep f).bandCal = d.bandCal := id rfl
@[simp] theorem Device.modRep_bwFresh (d : Device) (f : RepSt → RepSt) : (d.modRep f).bwFresh = d.bwFresh := id rfl
@[simp] theorem Device.modRep_occ (d : Device) (f : RepSt → RepSt) : (d.modRep f).occ = d.occ := id rfl
@[simp] theorem Device.modRep_ses (d : Device) (f : RepSt → RepSt) : (d.modRep f).ses = d.ses := id rfl
@[simp] theorem Device.modRep_paths (d : Device) (f : RepSt → RepSt) : (d.modRep f).paths = d.paths := id rfl
@[simp] theorem Device.modRep_pathQueue (d : Device) (f : RepSt → RepSt) : (d.modRep f).pathQueue = d.pathQueue := id rfl
@[simp] theorem Device.modRep_cal (d : Device) (f : RepSt → RepSt) : (d.modRep f).cal = d.cal := id rfl
@[simp] theorem Device.modRep_coexGnt (d : Device) (f : RepSt → RepSt) : (d.modRep f).coexGnt = d.coexGnt := id rfl
@[simp] theorem Device.modRep_opt (d : Device) (f : RepSt → RepSt) : (d.modRep f).opt = d.opt := id rfl
@[simp] theorem Device.modRep_extest (d : Device) (f : RepSt → RepSt) : (d.modRep f).extest = d.extest := id rfl
@[simp] theorem Device.modRep_kl (d : Device) (f : RepSt → RepSt) : (d.modRep f).kl = d.kl := id rfl
@[simp] theorem Device.modRep_pl (d : Device) (f : RepSt → RepSt) : (d.modRep f).pl = d.pl := id rfl
@[simp] theorem Device.modRep_ringSent (d : Device) (f : RepSt → RepSt) : (d.modRep f).ringSent = d.ringSent := id rfl
@[simp] theorem Device.modRep_pinMap (d : Device) (f : RepSt → RepSt) : (d.modRep f).pinMap = d.pinMap := id rfl
@[simp] theorem Device.modRep_optRun (d : Device) (f : RepSt → RepSt) : (d.modRep f).optRun = d.optRun := id rfl
@[simp] theorem Device.modRep_optStage (d : Device) (f : RepSt → RepSt) : (d.modRep f).optStage = d.optStage := id rfl

end Sys2Proof.Machine
end

