-- ==== Sys2Proof/Laws/Closed.lean ====
section
/-!
SUPPORT. Properties of the device that every effect of a command keeps: those closed under the few ways stores are written, whatever the other records become. The files Closed… show, operation by operation, that each keeps every such property.
-/
namespace Sys2Proof.Machine

/-- Two devices hold the same register words, mirror and memories. -/
def SameStores (d e : Device) : Prop := e.regs = d.regs ∧ e.mirror = d.mirror ∧ e.sram = d.sram ∧ e.opt = d.opt

/-- A property that looks at the device only through its stores, and at remote accesses, if at all, only in that none waits. -/
structure Closed (P : Device → Prop) : Prop where
  wr : ∀ d a v, P d → P (Device.wr d a v)
  clearRegs : ∀ d p, P d → P { d with regs := storeClear p d.regs }
  mirror : ∀ d a v, P d → P { d with mirror := storePut resetWord d.mirror a v }
  mirrorAll : ∀ d, P d → P { d with mirror := d.regs }
  sramBytes : ∀ d a bs, P d → P { d with sram := writeBytes zeroByte d.sram a bs }
  sramWord : ∀ d a v be, P d → P { d with sram := writeWordBe zeroByte d.sram a v be }
  sramClear : ∀ d p, P d → P { d with sram := storeClear p d.sram }
  optBytes : ∀ d a bs, P d → P { d with opt := writeBytes onesByte d.opt a bs }
  sramFrom : ∀ d o, P d → P o → P { d with sram := o.sram }
  mirrorNone : ∀ d, P d → P { d with mirror := [] }
  sramNone : ∀ d, P d → P { d with sram := [] }
  other : ∀ d e : Device, P d → e.regs = d.regs → e.mirror = d.mirror → e.sram = d.sram → e.opt = d.opt →
    (d.kl.reqs = [] → e.kl.reqs = []) → (d.pl.reqs = [] → e.pl.reqs = []) → P e
  either : (∀ d, P d → d.NoRemote) ∨ (∀ d e, P d → SameStores d e → P e)

variable {P : Device → Prop} (hP : Closed P)
include hP

theorem Closed.put (d : Device) (f : Fld) (n : Nat) (h : P d) : P (d.put f n) := hP.wr _ _ _ h
theorem Closed.putB (d : Device) (f : Fld) (b : Bool) (h : P d) : P (d.putB f b) := hP.wr _ _ _ h
theorem Closed.putS (d : Device) (f : Fld) (i : Int) (h : P d) : P (d.putS f i) := hP.wr _ _ _ h
theorem Closed.putSat (d : Device) (f : Fld) (i : Int) (h : P d) : P (d.putSat f i) := hP.wr _ _ _ h
theorem Closed.addWrap (d : Device) (f : Fld) (n : Nat) (h : P d) : P (d.addWrap f n) := hP.wr _ _ _ h
theorem Closed.addSat (d : Device) (f : Fld) (n : Nat) (h : P d) : P (d.addSat f n) := hP.wr _ _ _ h
theorem Closed.count (d : Device) (f : Fld) (h : P d) : P (d.count f) := hP.wr _ _ _ h

omit hP in
theorem Closed.when (d : Device) (c : Bool) (f : Device → Device) (hf : ∀ d, P d → P (f d)) (h : P d) : P (d.when c f) := by
  cases c
  · exact h
  · exact hf d h

omit hP in
theorem Closed.forAll {α : Type} (d : Device) (l : List α) (f : Device → α → Device) (hf : ∀ d x, P d → P (f d x)) (h : P d) :
    P (d.forAll l f) := Device.forAll_induct P l f hf d h

omit hP in
theorem Closed.foldl {α : Type} (d : Device) (l : List α) (f : Device → α → Device) (hf : ∀ d x, P d → P (f d x)) (h : P d) :
    P (l.foldl f d) := Device.forAll_induct P l f hf d h

omit hP in
theorem iteClosed {c : Prop} [Decidable c] {a b : Device} (ha : P a) (hb : P b) : P (if c then a else b) := by
  split
  · exact ha
  · exact hb

omit hP in
/-- What is known of a pair is known of its parts. -/
theorem snd_of_eq {α : Type} {x : α × Device} {a : α} {e : Device} (hx : x = (a, e)) (h : P x.2) : P e := by
  subst hx; exact h
omit hP in
theorem snd2_of_eq {α β : Type} {x : α × β × Device} {a : α} {b : β} {e : Device} (hx : x = (a, b, e)) (h : P x.2.2) : P e := by
  subst hx; exact h

/-- An update that leaves the stores and the remote accesses alone. -/
theorem Closed.lit (d : Device) (h : P d) (post : List Posted) (free : Nat) (isl : Vector IslandSt 5) (rst : ResetSt) (pwr : PwrSt)
    (rtc : RtcSt) (watch : WatchSt) (hk : HkSt) (timers : Vector TimerSt 16) (tmIo : BitVec 16) (balls : Vector BallSt 4)
    (linkSeen linkNew : BitVec 64) (trigOut : Vector (Option Bool) 4) (rep : RepSt) (pilots : Vector PilSt 20) (bootCfg : BootCfg)
    (bus : Option BusAccess) (hd : Word) (sspm : SspmSt) (ssps : SspsSt) (sec : SecSt) (man : ManSt) (bf : BfSt)
    (profile : Option Profile) (cars : Vector CarSt 4) (bandCal : BandCal) (bwFresh : Bool) (occ : List (Nat × List (Nat × Nat)))
    (ses : Vector SesSt 16) (paths : Vector PathSt 64) (pathQueue : List Nat) (cal : CalSt) (coexGnt extest : Bool)
    (kl : KlSt) (pl : PlSt) (ringSent : Vector Nat 16) (pinMap : List (Nat × Nat)) (optRun : Nat) (optStage : List (Nat × Byte))
    (hk' : d.kl.reqs = [] → kl.reqs = []) (hp' : d.pl.reqs = [] → pl.reqs = []) :
    P (Device.mk d.regs d.mirror post free isl rst pwr rtc watch hk timers tmIo balls linkSeen linkNew trigOut rep pilots bootCfg d.sram
      bus hd sspm ssps sec man bf profile cars bandCal bwFresh occ ses paths pathQueue cal coexGnt d.opt extest kl pl ringSent
      pinMap optRun optStage) := hP.other d _ h rfl rfl rfl rfl hk' hp'

end Sys2Proof.Machine
end

