-- ==== Sys2Proof/Laws/ClosedCore.lean ====
section
/-!
SUPPORT. Each operation of Machine/Ops.lean, Machine/Messages.lean, Machine/Beam.lean, Machine/Regl.lean, Machine/Manifest.lean keeps every closed property of the device.
-/
set_option linter.unusedTactic false
set_option linter.unreachableTactic false
set_option linter.unusedSectionVars false
set_option linter.unusedVariables false
namespace Sys2Proof.Machine

variable {P : Device → Prop} (hP : Closed P)
include hP

/-! ### Ops -/

theorem Device.setIsland_closed {d : Device} {i : Nat} {s : IslandSt} (hPd : P d) : P (Device.setIsland d i s) := by
  unfold Device.setIsland
  (try dsimp only)
  repeat' (first | with_reducible assumption | with_reducible exact fun _ hx => hx | (with_reducible apply hP.lit <;> first | with_reducible assumption | exact id | exact fun _ => rfl | with_reducible exact fun _ hx => hx | split) | split | intro _ | dsimp only)

theorem Device.irq_closed {d : Device} {p : Nat} {b : Nat} (hPd : P d) : P (Device.irq d p b) := by
  unfold Device.irq
  (try dsimp only)
  repeat' (first | with_reducible assumption | with_reducible exact fun _ hx => hx | with_reducible apply hP.put | (with_reducible apply hP.lit <;> first | with_reducible assumption | exact id | exact fun _ => rfl | with_reducible exact fun _ hx => hx | with_reducible apply hP.put | split) | split | intro _ | dsimp only)

theorem Device.irqLevel_closed {d : Device} {p : Nat} {b : Nat} {c : Bool} (hPd : P d) : P (Device.irqLevel d p b c) := by
  unfold Device.irqLevel
  (try dsimp only)
  repeat' (first | with_reducible assumption | with_reducible exact fun _ hx => hx | with_reducible apply Device.irq_closed hP | with_reducible apply hP.put | with_reducible apply hP.putB | (with_reducible apply hP.lit <;> first | with_reducible assumption | exact id | exact fun _ => rfl | with_reducible exact fun _ hx => hx | with_reducible apply Device.irq_closed hP | with_reducible apply hP.put | with_reducible apply hP.putB | split) | split | intro _ | dsimp only)

theorem Device.takeFree_closed {d : Device} (hPd : P d) : P (Device.takeFree d).2 := by
  unfold Device.takeFree
  (try dsimp only)
  repeat' (first | with_reducible assumption | with_reducible exact fun _ hx => hx | (with_reducible apply hP.lit <;> first | with_reducible assumption | exact id | exact fun _ => rfl | with_reducible exact fun _ hx => hx | split) | split | intro _ | dsimp only)

theorem Device.divOpen_closed {d : Device} {num : Int} {den : Nat} (hPd : P d) : P (Device.divOpen d num den).2 := by
  unfold Device.divOpen
  (try dsimp only)
  repeat' (first | with_reducible assumption | with_reducible exact fun _ hx => hx | with_reducible apply Device.takeFree_closed hP | with_reducible refine snd_of_eq (by assumption) ?_ | (with_reducible apply hP.lit <;> first | with_reducible assumption | exact id | exact fun _ => rfl | with_reducible exact fun _ hx => hx | with_reducible apply Device.takeFree_closed hP | with_reducible refine snd_of_eq (by assumption) ?_ | split) | split | intro _ | dsimp only)

theorem Device.divNearest_closed {d : Device} {num : Int} {den : Nat} (hPd : P d) : P (Device.divNearest d num den).2 := by
  unfold Device.divNearest
  (try dsimp only)
  repeat' (first | with_reducible assumption | with_reducible exact fun _ hx => hx | with_reducible apply Device.takeFree_closed hP | with_reducible refine snd_of_eq (by assumption) ?_ | (with_reducible apply hP.lit <;> first | with_reducible assumption | exact id | exact fun _ => rfl | with_reducible exact fun _ hx => hx | with_reducible apply Device.takeFree_closed hP | with_reducible refine snd_of_eq (by assumption) ?_ | split) | split | intro _ | dsimp only)

theorem Device.putFit_closed {d : Device} {f : Fld} {i : Int} (hPd : P d) : P (Device.putFit d f i) := by
  unfold Device.putFit
  (try dsimp only)
  repeat' (first | with_reducible assumption | with_reducible exact fun _ hx => hx | with_reducible apply hP.putS | with_reducible apply Device.takeFree_closed hP | with_reducible apply hP.put | with_reducible refine snd_of_eq (by assumption) ?_ | (with_reducible apply hP.lit <;> first | with_reducible assumption | exact id | exact fun _ => rfl | with_reducible exact fun _ hx => hx | with_reducible apply hP.putS | with_reducible apply Device.takeFree_closed hP | with_reducible apply hP.put | with_reducible refine snd_of_eq (by assumption) ?_ | split) | split | intro _ | dsimp only)

theorem Device.store_closed {d : Device} {a : Nat} {v : Word} (hPd : P d) : P (Device.store d a v) := by
  unfold Device.store
  (try dsimp only)
  repeat' (first | with_reducible assumption | with_reducible exact fun _ hx => hx | with_reducible apply hP.wr | (with_reducible apply hP.lit <;> first | with_reducible assumption | exact id | exact fun _ => rfl | with_reducible exact fun _ hx => hx | with_reducible apply hP.wr | split) | split | intro _ | dsimp only)

theorem Device.resetBlockWords_closed {d : Device} {p : Nat} (hPd : P d) : P (Device.resetBlockWords d p) := by
  unfold Device.resetBlockWords
  (try dsimp only)
  repeat' (first | with_reducible assumption | with_reducible exact fun _ hx => hx | with_reducible apply hP.clearRegs | (with_reducible apply hP.lit <;> first | with_reducible assumption | exact id | exact fun _ => rfl | with_reducible exact fun _ hx => hx | with_reducible apply hP.clearRegs | split) | split | intro _ | dsimp only)

theorem Device.resetIrqWords_closed {d : Device} {p : Nat} (hPd : P d) : P (Device.resetIrqWords d p) := by
  unfold Device.resetIrqWords
  (try dsimp only)
  repeat' (first | with_reducible assumption | with_reducible exact fun _ hx => hx | with_reducible apply hP.clearRegs | (with_reducible apply hP.lit <;> first | with_reducible assumption | exact id | exact fun _ => rfl | with_reducible exact fun _ hx => hx | with_reducible apply hP.clearRegs | split) | split | intro _ | dsimp only)

/-! ### Messages -/

theorem Device.modSes_closed {d : Device} {n : Nat} {f : SesSt → SesSt} (hPd : P d) : P (Device.modSes d n f) := by
  unfold Device.modSes
  (try dsimp only)
  repeat' (first | with_reducible assumption | with_reducible exact fun _ hx => hx | (with_reducible apply hP.lit <;> first | with_reducible assumption | exact id | exact fun _ => rfl | with_reducible exact fun _ hx => hx | split) | split | intro _ | dsimp only)

theorem Device.eccCorrected_closed {d : Device} {bank : Nat} (hPd : P d) : P (Device.eccCorrected d bank) := by
  unfold Device.eccCorrected
  (try dsimp only)
  repeat' (first | with_reducible assumption | with_reducible exact fun _ hx => hx | with_reducible apply Device.irq_closed hP | with_reducible apply hP.count | (with_reducible apply hP.lit <;> first | with_reducible assumption | exact id | exact fun _ => rfl | with_reducible exact fun _ hx => hx | with_reducible apply Device.irq_closed hP | with_reducible apply hP.count | split) | split | intro _ | dsimp only)

theorem Device.eccUncorrected_closed {d : Device} {bank : Nat} {off : Nat} (hPd : P d) : P (Device.eccUncorrected d bank off) := by
  unfold Device.eccUncorrected
  (try dsimp only)
  repeat' (first | with_reducible assumption | with_reducible exact fun _ hx => hx | with_reducible apply Device.irq_closed hP | with_reducible apply hP.wr | with_reducible apply hP.count | (with_reducible apply hP.lit <;> first | with_reducible assumption | exact id | exact fun _ => rfl | with_reducible exact fun _ hx => hx | with_reducible apply Device.irq_closed hP | with_reducible apply hP.wr | with_reducible apply hP.count | split) | split | intro _ | dsimp only)

theorem Device.markBad_closed {d : Device} {addr : Nat} (hPd : P d) : P (Device.markBad d addr) := by
  unfold Device.markBad
  (try dsimp only)
  repeat' (first | with_reducible assumption | with_reducible exact fun _ hx => hx | (with_reducible apply hP.lit <;> first | with_reducible assumption | exact id | exact fun _ => rfl | with_reducible exact fun _ hx => hx | split) | split | intro _ | dsimp only)

theorem Device.ringWordLost_closed {d : Device} {addr : Nat} (hPd : P d) : P (Device.ringWordLost d addr) := by
  unfold Device.ringWordLost
  (try dsimp only)
  repeat' (first | with_reducible assumption | with_reducible exact fun _ hx => hx | with_reducible apply Device.markBad_closed hP | with_reducible apply Device.eccUncorrected_closed hP | (with_reducible apply hP.lit <;> first | with_reducible assumption | exact id | exact fun _ => rfl | with_reducible exact fun _ hx => hx | with_reducible apply Device.markBad_closed hP | with_reducible apply Device.eccUncorrected_closed hP | split) | split | intro _ | dsimp only)

theorem Device.putSlots_closed {d : Device} {n i k : Nat} {bs : List Byte} (hPd : P d) : P (Device.putSlots d n i k bs) := by
  induction k generalizing d i bs with
  | zero => exact hPd
  | succ k ih => exact ih (hP.other _ _ (hP.sramBytes d (d.mSlotAddr n i) (bs.take 64) hPd) rfl rfl rfl rfl id id)

theorem Device.ringLevel_closed {d : Device} {n : Nat} (hPd : P d) : P (Device.ringLevel d n) := by
  unfold Device.ringLevel
  (try dsimp only)
  repeat' (first | with_reducible assumption | with_reducible exact fun _ hx => hx | with_reducible apply Device.irqLevel_closed hP | (with_reducible apply hP.lit <;> first | with_reducible assumption | exact id | exact fun _ => rfl | with_reducible exact fun _ hx => hx | with_reducible apply Device.irqLevel_closed hP | split) | split | intro _ | dsimp only)

theorem Device.writeMsg_closed {d : Device} {n : Nat} {msg : List Byte} (hPd : P d) : P (Device.writeMsg d n msg) := by
  unfold Device.writeMsg
  (try dsimp only)
  repeat' (first | with_reducible assumption | with_reducible exact fun _ hx => hx | with_reducible apply hP.wr | with_reducible apply Device.putSlots_closed hP | with_reducible apply Device.ringLevel_closed hP | with_reducible apply Closed.when | with_reducible apply Device.irq_closed hP | (with_reducible apply hP.lit <;> first | with_reducible assumption | exact id | exact fun _ => rfl | with_reducible exact fun _ hx => hx | with_reducible apply hP.wr | with_reducible apply Device.putSlots_closed hP | with_reducible apply Device.ringLevel_closed hP | with_reducible apply Closed.when | with_reducible apply Device.irq_closed hP | split) | split | intro _ | dsimp only)

theorem Device.holdAsk_closed {d : Device} {n : Nat} {why : Nat} (hPd : P d) : P (Device.holdAsk d n why) := by
  unfold Device.holdAsk
  (try dsimp only)
  repeat' (first | with_reducible assumption | with_reducible exact fun _ hx => hx | with_reducible apply Device.modSes_closed hP | (with_reducible apply hP.lit <;> first | with_reducible assumption | exact id | exact fun _ => rfl | with_reducible exact fun _ hx => hx | with_reducible apply Device.modSes_closed hP | split) | split | intro _ | dsimp only)

theorem Device.showHold_closed {d : Device} {n : Nat} (hPd : P d) : P (Device.showHold d n) := by
  unfold Device.showHold
  (try dsimp only)
  repeat' (first | with_reducible assumption | with_reducible exact fun _ hx => hx | with_reducible apply hP.put | (with_reducible apply hP.lit <;> first | with_reducible assumption | exact id | exact fun _ => rfl | with_reducible exact fun _ hx => hx | with_reducible apply hP.put | split) | split | intro _ | dsimp only)

theorem Device.holdEnd_closed {d : Device} {n : Nat} {why : Nat} (hPd : P d) : P (Device.holdEnd d n why) := by
  unfold Device.holdEnd
  (try dsimp only)
  repeat' (first | with_reducible assumption | with_reducible exact fun _ hx => hx | with_reducible apply Device.showHold_closed hP | with_reducible apply Device.modSes_closed hP | (with_reducible apply hP.lit <;> first | with_reducible assumption | exact id | exact fun _ => rfl | with_reducible exact fun _ hx => hx | with_reducible apply Device.showHold_closed hP | with_reducible apply Device.modSes_closed hP | split) | split | intro _ | dsimp only)

theorem Device.emit_closed {d : Device} {n : Nat} {msg : List Byte} (hPd : P d) : P (Device.emit d n msg) := by
  unfold Device.emit
  (try dsimp only)
  repeat' (first | with_reducible assumption | with_reducible exact fun _ hx => hx | with_reducible apply Device.writeMsg_closed hP | with_reducible apply Device.holdAsk_closed hP | with_reducible apply Device.modSes_closed hP | (with_reducible apply hP.lit <;> first | with_reducible assumption | exact id | exact fun _ => rfl | with_reducible exact fun _ hx => hx | with_reducible apply Device.writeMsg_closed hP | with_reducible apply Device.holdAsk_closed hP | with_reducible apply Device.modSes_closed hP | split) | split | intro _ | dsimp only)

theorem Device.postMsg_closed {d : Device} {n : Nat} {msg : List Byte} (hPd : P d) : P (Device.postMsg d n msg) := by
  unfold Device.postMsg
  (try dsimp only)
  repeat' (first | with_reducible assumption | with_reducible exact fun _ hx => hx | with_reducible apply Device.emit_closed hP | (with_reducible apply hP.lit <;> first | with_reducible assumption | exact id | exact fun _ => rfl | with_reducible exact fun _ hx => hx | with_reducible apply Device.emit_closed hP | split) | split | intro _ | dsimp only)

theorem Device.spaceCheck_closed {d : Device} {n : Nat} (hPd : P d) : P (Device.spaceCheck d n) := by
  unfold Device.spaceCheck
  (try dsimp only)
  repeat' (first | with_reducible assumption | with_reducible exact fun _ hx => hx | with_reducible apply Device.modSes_closed hP | with_reducible apply Device.holdEnd_closed hP | (with_reducible apply hP.lit <;> first | with_reducible assumption | exact id | exact fun _ => rfl | with_reducible exact fun _ hx => hx | with_reducible apply Device.modSes_closed hP | with_reducible apply Device.holdEnd_closed hP | split) | split | intro _ | dsimp only)

theorem Device.release_closed {d : Device} {n : Nat} {y2 : Nat} (hPd : P d) : P (Device.release d n y2) := by
  induction y2 generalizing d with
  | zero => exact hPd
  | succ n ih =>
    unfold Device.release
    (try dsimp only)
    repeat' (first | with_reducible assumption | with_reducible exact fun _ hx => hx | with_reducible apply ih | with_reducible apply Device.writeMsg_closed hP | with_reducible apply Device.modSes_closed hP | (with_reducible apply hP.lit <;> first | with_reducible assumption | exact id | exact fun _ => rfl | with_reducible exact fun _ hx => hx | with_reducible apply Device.writeMsg_closed hP | with_reducible apply Device.modSes_closed hP | split) | split | intro _ | dsimp only)

theorem Device.ringFreed_closed {d : Device} {n : Nat} (hPd : P d) : P (Device.ringFreed d n) := by
  unfold Device.ringFreed
  (try dsimp only)
  repeat' (first | with_reducible assumption | with_reducible exact fun _ hx => hx | with_reducible apply Device.spaceCheck_closed hP | with_reducible apply Device.release_closed hP | (with_reducible apply hP.lit <;> first | with_reducible assumption | exact id | exact fun _ => rfl | with_reducible exact fun _ hx => hx | with_reducible apply Device.spaceCheck_closed hP | with_reducible apply Device.release_closed hP | split) | split | intro _ | dsimp only)

theorem waitingRelease_closed {n : Nat} {d : Device} (hPd : P d) : P (waitingRelease n d) := by
  unfold waitingRelease
  (try dsimp only)
  repeat' (first | with_reducible assumption | with_reducible exact fun _ hx => hx | with_reducible apply Device.ringFreed_closed hP | (with_reducible apply hP.lit <;> first | with_reducible assumption | exact id | exact fun _ => rfl | with_reducible exact fun _ hx => hx | with_reducible apply Device.ringFreed_closed hP | split) | split | intro _ | dsimp only)

theorem Device.emitLast_closed {d : Device} {n : Nat} {msg : List Byte} (hPd : P d) : P (Device.emitLast d n msg) := by
  unfold Device.emitLast
  (try dsimp only)
  repeat' (first | with_reducible assumption | with_reducible exact fun _ hx => hx | with_reducible apply Device.writeMsg_closed hP | with_reducible apply hP.count | (with_reducible apply hP.lit <;> first | with_reducible assumption | exact id | exact fun _ => rfl | with_reducible exact fun _ hx => hx | with_reducible apply Device.writeMsg_closed hP | with_reducible apply hP.count | split) | split | intro _ | dsimp only)

theorem Device.sesGo_closed {d : Device} {n : Nat} {state : Nat} {code : Nat} (hPd : P d) : P (Device.sesGo d n state code) := by
  unfold Device.sesGo
  (try dsimp only)
  repeat' (first | with_reducible assumption | with_reducible exact fun _ hx => hx | with_reducible apply Device.showHold_closed hP | with_reducible apply hP.put | with_reducible apply Device.postMsg_closed hP | (with_reducible apply hP.lit <;> first | with_reducible assumption | exact id | exact fun _ => rfl | with_reducible exact fun _ hx => hx | with_reducible apply Device.showHold_closed hP | with_reducible apply hP.put | with_reducible apply Device.postMsg_closed hP | split) | split | intro _ | dsimp only)

theorem Device.showInflight_closed {d : Device} (hPd : P d) : P (Device.showInflight d) := by
  unfold Device.showInflight
  (try dsimp only)
  repeat' (first | with_reducible assumption | with_reducible exact fun _ hx => hx | with_reducible apply hP.put | (with_reducible apply hP.lit <;> first | with_reducible assumption | exact id | exact fun _ => rfl | with_reducible exact fun _ hx => hx | with_reducible apply hP.put | split) | split | intro _ | dsimp only)

theorem Device.showFlight_closed {d : Device} {n : Nat} (hPd : P d) : P (Device.showFlight d n) := by
  unfold Device.showFlight
  (try dsimp only)
  repeat' (first | with_reducible assumption | with_reducible exact fun _ hx => hx | with_reducible apply Device.showInflight_closed hP | with_reducible apply hP.put | (with_reducible apply hP.lit <;> first | with_reducible assumption | exact id | exact fun _ => rfl | with_reducible exact fun _ hx => hx | with_reducible apply Device.showInflight_closed hP | with_reducible apply hP.put | split) | split | intro _ | dsimp only)

theorem Device.retire_closed {d : Device} {n : Nat} {x : Desc} {code : Nat} {detail : Nat} (hPd : P d) : P (Device.retire d n x code detail) := by
  unfold Device.retire
  (try dsimp only)
  repeat' (first | with_reducible assumption | with_reducible exact fun _ hx => hx | with_reducible apply Device.showFlight_closed hP | with_reducible apply Device.postMsg_closed hP | (with_reducible apply hP.lit <;> first | with_reducible assumption | exact id | exact fun _ => rfl | with_reducible exact fun _ hx => hx | with_reducible apply Device.showFlight_closed hP | with_reducible apply Device.postMsg_closed hP | split) | split | intro _ | dsimp only)

theorem Device.notice_closed {d : Device} {n : Nat} {x : Desc} (hPd : P d) : P (Device.notice d n x) := by
  unfold Device.notice
  (try dsimp only)
  repeat' (first | with_reducible assumption | with_reducible exact fun _ hx => hx | with_reducible apply Device.showFlight_closed hP | with_reducible apply Device.postMsg_closed hP | (with_reducible apply hP.lit <;> first | with_reducible assumption | exact id | exact fun _ => rfl | with_reducible exact fun _ hx => hx | with_reducible apply Device.showFlight_closed hP | with_reducible apply Device.postMsg_closed hP | split) | split | intro _ | dsimp only)

theorem Device.ringIndexReset_closed {d : Device} {n : Nat} {c : Bool} {m : Bool} (hPd : P d) : P (Device.ringIndexReset d n c m) := by
  unfold Device.ringIndexReset
  (try dsimp only)
  repeat' (first | with_reducible assumption | with_reducible exact fun _ hx => hx | with_reducible apply Closed.when | with_reducible apply hP.wr | with_reducible apply Device.ringLevel_closed hP | (with_reducible apply hP.lit <;> first | with_reducible assumption | exact id | exact fun _ => rfl | with_reducible exact fun _ hx => hx | with_reducible apply Closed.when | with_reducible apply hP.wr | with_reducible apply Device.ringLevel_closed hP | split) | split | intro _ | dsimp only)

theorem Device.fenceCheck_closed {d : Device} {n : Nat} (hPd : P d) : P (Device.fenceCheck d n) := by
  unfold Device.fenceCheck
  (try dsimp only)
  repeat' (first | with_reducible assumption | with_reducible exact fun _ hx => hx | with_reducible apply Device.notice_closed hP | with_reducible apply Device.modSes_closed hP | (with_reducible apply hP.lit <;> first | with_reducible assumption | exact id | exact fun _ => rfl | with_reducible exact fun _ hx => hx | with_reducible apply Device.notice_closed hP | with_reducible apply Device.modSes_closed hP | split) | split | intro _ | dsimp only)

theorem fenceComplete_closed {n : Nat} {d : Device} (hPd : P d) : P (fenceComplete n d) := by
  unfold fenceComplete
  (try dsimp only)
  repeat' (first | with_reducible assumption | with_reducible exact fun _ hx => hx | with_reducible apply Device.fenceCheck_closed hP | (with_reducible apply hP.lit <;> first | with_reducible assumption | exact id | exact fun _ => rfl | with_reducible exact fun _ hx => hx | with_reducible apply Device.fenceCheck_closed hP | split) | split | intro _ | dsimp only)

theorem Device.headMoved_closed {d : Device} {n : Nat} (hPd : P d) : P (Device.headMoved d n) := by
  unfold Device.headMoved
  (try dsimp only)
  repeat' (first | with_reducible assumption | with_reducible exact fun _ hx => hx | with_reducible apply Device.ringFreed_closed hP | with_reducible apply Device.ringLevel_closed hP | (with_reducible apply hP.lit <;> first | with_reducible assumption | exact id | exact fun _ => rfl | with_reducible exact fun _ hx => hx | with_reducible apply Device.ringFreed_closed hP | with_reducible apply Device.ringLevel_closed hP | split) | split | intro _ | dsimp only)

theorem ringWritten_closed {off : Nat} {d : Device} (hPd : P d) : P (ringWritten off d) := by
  unfold ringWritten
  (try dsimp only)
  repeat' (first | with_reducible assumption | with_reducible exact fun _ hx => hx | with_reducible apply Device.ringIndexReset_closed hP | with_reducible apply Device.headMoved_closed hP | (with_reducible apply hP.lit <;> first | with_reducible assumption | exact id | exact fun _ => rfl | with_reducible exact fun _ hx => hx | with_reducible apply Device.ringIndexReset_closed hP | with_reducible apply Device.headMoved_closed hP | split) | split | intro _ | dsimp only)

/-! ### Beam -/

theorem Device.modStream_closed {d : Device} {n : Nat} {f : StreamSt → StreamSt} (hPd : P d) : P (Device.modStream d n f) := by
  unfold Device.modStream
  (try dsimp only)
  repeat' (first | with_reducible assumption | with_reducible exact fun _ hx => hx | (with_reducible apply hP.lit <;> first | with_reducible assumption | exact id | exact fun _ => rfl | with_reducible exact fun _ hx => hx | split) | split | intro _ | dsimp only)

theorem Device.setWeight_closed {d : Device} {set : Nat} {p : Nat} {w : Word} (hPd : P d) : P (Device.setWeight d set p w) := by
  unfold Device.setWeight
  (try dsimp only)
  repeat' (first | with_reducible assumption | with_reducible exact fun _ hx => hx | with_reducible apply hP.mirror | (with_reducible apply hP.lit <;> first | with_reducible assumption | exact id | exact fun _ => rfl | with_reducible exact fun _ hx => hx | with_reducible apply hP.mirror | split) | split | intro _ | dsimp only)

theorem Device.setWeights_closed {d : Device} {set : Nat} {ws : List Word} (hPd : P d) : P (Device.setWeights d set ws) := by
  unfold Device.setWeights
  (try dsimp only)
  repeat' (first | with_reducible assumption | with_reducible exact fun _ hx => hx | with_reducible apply Closed.forAll | with_reducible apply Device.setWeight_closed hP | (with_reducible apply hP.lit <;> first | with_reducible assumption | exact id | exact fun _ => rfl | with_reducible exact fun _ hx => hx | with_reducible apply Closed.forAll | with_reducible apply Device.setWeight_closed hP | split) | split | intro _ | dsimp only)

theorem Device.modCar_closed {d : Device} {c : Nat} {f : CarSt → CarSt} (hPd : P d) : P (Device.modCar d c f) := by
  unfold Device.modCar
  (try dsimp only)
  repeat' (first | with_reducible assumption | with_reducible exact fun _ hx => hx | (with_reducible apply hP.lit <;> first | with_reducible assumption | exact id | exact fun _ => rfl | with_reducible exact fun _ hx => hx | split) | split | intro _ | dsimp only)

theorem Device.putRx_closed {d : Device} {n : Nat} {b : Bool} {form : Steer} {ws : List Word} (hPd : P d) : P (Device.putRx d n b form ws) := by
  unfold Device.putRx
  (try dsimp only)
  repeat' (first | with_reducible assumption | with_reducible exact fun _ hx => hx | with_reducible apply Device.modStream_closed hP | with_reducible apply Device.setWeights_closed hP | (with_reducible apply hP.lit <;> first | with_reducible assumption | exact id | exact fun _ => rfl | with_reducible exact fun _ hx => hx | with_reducible apply Device.modStream_closed hP | with_reducible apply Device.setWeights_closed hP | split) | split | intro _ | dsimp only)

theorem Device.steerRx_closed {d : Device} {n : Nat} {which : Nat} {az : Int} {el : Int} (hPd : P d) : P (Device.steerRx d n which az el) := by
  unfold Device.steerRx
  (try dsimp only)
  repeat' (first | with_reducible assumption | with_reducible exact fun _ hx => hx | with_reducible apply Closed.when | with_reducible apply Device.putRx_closed hP | (with_reducible apply hP.lit <;> first | with_reducible assumption | exact id | exact fun _ => rfl | with_reducible exact fun _ hx => hx | with_reducible apply Closed.when | with_reducible apply Device.putRx_closed hP | split) | split | intro _ | dsimp only)

theorem Device.resteerRx_closed {d : Device} {n : Nat} (hPd : P d) : P (Device.resteerRx d n) := by
  unfold Device.resteerRx
  (try dsimp only)
  repeat' (first | with_reducible assumption | with_reducible exact fun _ hx => hx | with_reducible apply Device.putRx_closed hP | (with_reducible apply hP.lit <;> first | with_reducible assumption | exact id | exact fun _ => rfl | with_reducible exact fun _ hx => hx | with_reducible apply Device.putRx_closed hP | split) | split | intro _ | dsimp only)

theorem Device.setGroup_closed {d : Device} {n : Nat} {g : Nat} (hPd : P d) : P (Device.setGroup d n g) := by
  unfold Device.setGroup
  (try dsimp only)
  repeat' (first | with_reducible assumption | with_reducible exact fun _ hx => hx | with_reducible apply hP.put | (with_reducible apply hP.lit <;> first | with_reducible assumption | exact id | exact fun _ => rfl | with_reducible exact fun _ hx => hx | with_reducible apply hP.put | split) | split | intro _ | dsimp only)

theorem Device.setTurn_closed {d : Device} {n : Nat} {b : Bool} (hPd : P d) : P (Device.setTurn d n b) := by
  unfold Device.setTurn
  (try dsimp only)
  repeat' (first | with_reducible assumption | with_reducible exact fun _ hx => hx | with_reducible apply hP.putB | (with_reducible apply hP.lit <;> first | with_reducible assumption | exact id | exact fun _ => rfl | with_reducible exact fun _ hx => hx | with_reducible apply hP.putB | split) | split | intro _ | dsimp only)

theorem Device.showIso_closed {d : Device} {iso : Nat → Nat → Nat} {n : Nat} (hPd : P d) : P (Device.showIso d iso n) := by
  unfold Device.showIso
  (try dsimp only)
  repeat' (first | with_reducible assumption | with_reducible exact fun _ hx => hx | with_reducible apply hP.wr | with_reducible apply hP.put | (with_reducible apply hP.lit <;> first | with_reducible assumption | exact id | exact fun _ => rfl | with_reducible exact fun _ hx => hx | with_reducible apply hP.wr | with_reducible apply hP.put | split) | split | intro _ | dsimp only)

theorem Device.turnPass_closed {d : Device} {n : Nat} (hPd : P d) : P (Device.turnPass d n) := by
  unfold Device.turnPass
  (try dsimp only)
  repeat' (first | with_reducible assumption | with_reducible exact fun _ hx => hx | with_reducible apply Device.holdEnd_closed hP | with_reducible apply Device.modSes_closed hP | with_reducible apply Device.setTurn_closed hP | (with_reducible apply hP.lit <;> first | with_reducible assumption | exact id | exact fun _ => rfl | with_reducible exact fun _ hx => hx | with_reducible apply Device.holdEnd_closed hP | with_reducible apply Device.modSes_closed hP | with_reducible apply Device.setTurn_closed hP | split) | split | intro _ | dsimp only)

theorem Device.turnLeave_closed {d : Device} {n : Nat} (hPd : P d) : P (Device.turnLeave d n) := by
  unfold Device.turnLeave
  (try dsimp only)
  repeat' (first | with_reducible assumption | with_reducible exact fun _ hx => hx | with_reducible apply Device.setTurn_closed hP | with_reducible apply Device.turnPass_closed hP | (with_reducible apply hP.lit <;> first | with_reducible assumption | exact id | exact fun _ => rfl | with_reducible exact fun _ hx => hx | with_reducible apply Device.setTurn_closed hP | with_reducible apply Device.turnPass_closed hP | split) | split | intro _ | dsimp only)

theorem Device.regroup_closed {d : Device} {old : List Nat} {new : List Nat} {n : Nat} (hPd : P d) : P (Device.regroup d old new n) := by
  unfold Device.regroup
  (try dsimp only)
  repeat' (first | with_reducible assumption | with_reducible exact fun _ hx => hx | with_reducible apply Device.holdEnd_closed hP | with_reducible apply Device.setTurn_closed hP | with_reducible apply Closed.when | with_reducible apply Device.holdAsk_closed hP | (with_reducible apply hP.lit <;> first | with_reducible assumption | exact id | exact fun _ => rfl | with_reducible exact fun _ hx => hx | with_reducible apply Device.holdEnd_closed hP | with_reducible apply Device.setTurn_closed hP | with_reducible apply Closed.when | with_reducible apply Device.holdAsk_closed hP | split) | split | intro _ | dsimp only)

theorem groupRecompute_closed {d : Device} (hPd : P d) : P (groupRecompute d) := by
  unfold groupRecompute
  (try dsimp only)
  repeat' (first | with_reducible assumption | with_reducible exact fun _ hx => hx | with_reducible apply Closed.forAll | with_reducible apply Device.setGroup_closed hP | with_reducible apply Device.showIso_closed hP | with_reducible apply Device.regroup_closed hP | with_reducible apply Device.modStream_closed hP | with_reducible apply Device.turnPass_closed hP | (with_reducible apply hP.lit <;> first | with_reducible assumption | exact id | exact fun _ => rfl | with_reducible exact fun _ hx => hx | with_reducible apply Closed.forAll | with_reducible apply Device.setGroup_closed hP | with_reducible apply Device.showIso_closed hP | with_reducible apply Device.regroup_closed hP | with_reducible apply Device.modStream_closed hP | with_reducible apply Device.turnPass_closed hP | split) | split | intro _ | dsimp only)

theorem Device.groupsStale_closed {d : Device} (hPd : P d) : P (Device.groupsStale d) := by
  unfold Device.groupsStale
  (try dsimp only)
  repeat' (first | with_reducible assumption | with_reducible exact fun _ hx => hx | (with_reducible apply hP.lit <;> first | with_reducible assumption | exact id | exact fun _ => rfl | with_reducible exact fun _ hx => hx | split) | split | intro _ | dsimp only)

/-! ### Regl -/

theorem Device.showProfile_closed {d : Device} (hPd : P d) : P (Device.showProfile d) := by
  unfold Device.showProfile
  (try dsimp only)
  repeat' (first | with_reducible assumption | with_reducible exact fun _ hx => hx | with_reducible apply hP.wr | with_reducible apply hP.put | with_reducible apply hP.putS | (with_reducible apply hP.lit <;> first | with_reducible assumption | exact id | exact fun _ => rfl | with_reducible exact fun _ hx => hx | with_reducible apply hP.wr | with_reducible apply hP.put | with_reducible apply hP.putS | split) | split | intro _ | dsimp only)

theorem Device.modPath_closed {d : Device} {p : Nat} {f : PathSt → PathSt} (hPd : P d) : P (Device.modPath d p f) := by
  unfold Device.modPath
  (try dsimp only)
  repeat' (first | with_reducible assumption | with_reducible exact fun _ hx => hx | (with_reducible apply hP.lit <;> first | with_reducible assumption | exact id | exact fun _ => rfl | with_reducible exact fun _ hx => hx | split) | split | intro _ | dsimp only)

theorem Device.reglRecord_closed {d : Device} {reason : Nat} {n : Nat} {c : Nat} {clip : Bool} {noStream : Bool} {factor : Nat} (hPd : P d) : P (Device.reglRecord d reason n c clip noStream factor) := by
  unfold Device.reglRecord
  (try dsimp only)
  repeat' (first | with_reducible assumption | with_reducible exact fun _ hx => hx | with_reducible apply hP.put | with_reducible apply hP.putB | (with_reducible apply hP.lit <;> first | with_reducible assumption | exact id | exact fun _ => rfl | with_reducible exact fun _ hx => hx | with_reducible apply hP.put | with_reducible apply hP.putB | split) | split | intro _ | dsimp only)

theorem Device.reglRefuse_closed {d : Device} {reason : Nat} {n : Nat} {c : Nat} {noStream : Bool} (hPd : P d) : P (Device.reglRefuse d reason n c noStream) := by
  unfold Device.reglRefuse
  (try dsimp only)
  repeat' (first | with_reducible assumption | with_reducible exact fun _ hx => hx | with_reducible apply Device.irq_closed hP | with_reducible apply hP.count | with_reducible apply Device.reglRecord_closed hP | (with_reducible apply hP.lit <;> first | with_reducible assumption | exact id | exact fun _ => rfl | with_reducible exact fun _ hx => hx | with_reducible apply Device.irq_closed hP | with_reducible apply hP.count | with_reducible apply Device.reglRecord_closed hP | split) | split | intro _ | dsimp only)

theorem Device.reglClip_closed {d : Device} {reason : Nat} {n : Nat} {c : Nat} {noStream : Bool} {factor : Nat} (hPd : P d) : P (Device.reglClip d reason n c noStream factor) := by
  unfold Device.reglClip
  (try dsimp only)
  repeat' (first | with_reducible assumption | with_reducible exact fun _ hx => hx | with_reducible apply Device.irq_closed hP | with_reducible apply hP.count | with_reducible apply Device.reglRecord_closed hP | (with_reducible apply hP.lit <;> first | with_reducible assumption | exact id | exact fun _ => rfl | with_reducible exact fun _ hx => hx | with_reducible apply Device.irq_closed hP | with_reducible apply hP.count | with_reducible apply Device.reglRecord_closed hP | split) | split | intro _ | dsimp only)

theorem Device.levelTake_closed {d : Device} {p : Nat} (hPd : P d) : P (Device.levelTake d p).2 := by
  unfold Device.levelTake
  (try dsimp only)
  repeat' (first | with_reducible assumption | with_reducible exact fun _ hx => hx | with_reducible apply Device.reglClip_closed hP | with_reducible apply hP.putS | (with_reducible apply hP.lit <;> first | with_reducible assumption | exact id | exact fun _ => rfl | with_reducible exact fun _ hx => hx | with_reducible apply Device.reglClip_closed hP | with_reducible apply hP.putS | split) | split | intro _ | dsimp only)

theorem Device.showWaits_closed {d : Device} (hPd : P d) : P (Device.showWaits d) := by
  unfold Device.showWaits
  (try dsimp only)
  repeat' (first | with_reducible assumption | with_reducible exact fun _ hx => hx | with_reducible apply hP.putB | (with_reducible apply hP.lit <;> first | with_reducible assumption | exact id | exact fun _ => rfl | with_reducible exact fun _ hx => hx | with_reducible apply hP.putB | split) | split | intro _ | dsimp only)

theorem Device.await_closed {d : Device} {c : Change} (hPd : P d) : P (Device.await d c) := by
  unfold Device.await
  (try dsimp only)
  repeat' (first | with_reducible assumption | with_reducible exact fun _ hx => hx | with_reducible apply Device.showWaits_closed hP | (with_reducible apply hP.lit <;> first | with_reducible assumption | exact id | exact fun _ => rfl | with_reducible exact fun _ hx => hx | with_reducible apply Device.showWaits_closed hP | split) | split | intro _ | dsimp only)

theorem Device.dropWaits_closed {d : Device} {f : Change → Bool} (hPd : P d) : P (Device.dropWaits d f) := by
  unfold Device.dropWaits
  (try dsimp only)
  repeat' (first | with_reducible assumption | with_reducible exact fun _ hx => hx | with_reducible apply Device.showWaits_closed hP | (with_reducible apply hP.lit <;> first | with_reducible assumption | exact id | exact fun _ => rfl | with_reducible exact fun _ hx => hx | with_reducible apply Device.showWaits_closed hP | split) | split | intro _ | dsimp only)

theorem Device.levelAsk_closed {d : Device} {p : Nat} {l : Int} (hPd : P d) : P (Device.levelAsk d p l) := by
  unfold Device.levelAsk
  (try dsimp only)
  repeat' (first | with_reducible assumption | with_reducible exact fun _ hx => hx | with_reducible apply Device.await_closed hP | with_reducible apply hP.put | with_reducible apply Device.modPath_closed hP | (with_reducible apply hP.lit <;> first | with_reducible assumption | exact id | exact fun _ => rfl | with_reducible exact fun _ hx => hx | with_reducible apply Device.await_closed hP | with_reducible apply hP.put | with_reducible apply Device.modPath_closed hP | split) | split | intro _ | dsimp only)

theorem Device.levelWritten_closed {d : Device} {p : Nat} (hPd : P d) : P (Device.levelWritten d p) := by
  unfold Device.levelWritten
  (try dsimp only)
  repeat' (first | with_reducible assumption | with_reducible exact fun _ hx => hx | with_reducible apply Device.levelTake_closed hP | with_reducible apply Device.levelAsk_closed hP | with_reducible refine snd_of_eq (by assumption) ?_ | (with_reducible apply hP.lit <;> first | with_reducible assumption | exact id | exact fun _ => rfl | with_reducible exact fun _ hx => hx | with_reducible apply Device.levelTake_closed hP | with_reducible apply Device.levelAsk_closed hP | with_reducible refine snd_of_eq (by assumption) ?_ | split) | split | intro _ | dsimp only)

theorem Device.levelAgain_closed {d : Device} {p : Nat} (hPd : P d) : P (Device.levelAgain d p) := by
  unfold Device.levelAgain
  (try dsimp only)
  repeat' (first | with_reducible assumption | with_reducible exact fun _ hx => hx | with_reducible apply Device.levelAsk_closed hP | with_reducible apply Device.reglClip_closed hP | with_reducible apply hP.putS | (with_reducible apply hP.lit <;> first | with_reducible assumption | exact id | exact fun _ => rfl | with_reducible exact fun _ hx => hx | with_reducible apply Device.levelAsk_closed hP | with_reducible apply Device.reglClip_closed hP | with_reducible apply hP.putS | split) | split | intro _ | dsimp only)

theorem Device.figureCode_closed {d : Device} {f : Option Int} (hPd : P d) : P (Device.figureCode d f).2 := by
  unfold Device.figureCode
  (try dsimp only)
  repeat' (first | with_reducible assumption | with_reducible exact fun _ hx => hx | with_reducible apply Device.takeFree_closed hP | with_reducible refine snd_of_eq (by assumption) ?_ | (with_reducible apply hP.lit <;> first | with_reducible assumption | exact id | exact fun _ => rfl | with_reducible exact fun _ hx => hx | with_reducible apply Device.takeFree_closed hP | with_reducible refine snd_of_eq (by assumption) ?_ | split) | split | intro _ | dsimp only)

theorem Device.showFigures_closed {d : Device} (hPd : P d) : P (Device.showFigures d) := by
  unfold Device.showFigures
  (try dsimp only)
  repeat' (first | with_reducible assumption | with_reducible exact fun _ hx => hx | with_reducible apply Closed.forAll | with_reducible apply hP.wr | with_reducible apply Device.figureCode_closed hP | with_reducible refine snd_of_eq (by assumption) ?_ | (with_reducible apply hP.lit <;> first | with_reducible assumption | exact id | exact fun _ => rfl | with_reducible exact fun _ hx => hx | with_reducible apply Closed.forAll | with_reducible apply hP.wr | with_reducible apply Device.figureCode_closed hP | with_reducible refine snd_of_eq (by assumption) ?_ | split) | split | intro _ | dsimp only)

theorem Device.reglChanged_closed {d : Device} (hPd : P d) : P (Device.reglChanged d) := by
  unfold Device.reglChanged
  (try dsimp only)
  repeat' (first | with_reducible assumption | with_reducible exact fun _ hx => hx | with_reducible apply Device.showFigures_closed hP | with_reducible apply Closed.forAll | with_reducible apply Device.levelAgain_closed hP | (with_reducible apply hP.lit <;> first | with_reducible assumption | exact id | exact fun _ => rfl | with_reducible exact fun _ hx => hx | with_reducible apply Device.showFigures_closed hP | with_reducible apply Closed.forAll | with_reducible apply Device.levelAgain_closed hP | split) | split | intro _ | dsimp only)

theorem Device.admitTx_closed {d : Device} {n : Nat} {form : Steer} {w : List Word} {nulled : Bool} {az : Int} {el : Int} (hPd : P d) : P (Device.admitTx d n form w nulled az el).2 := by
  unfold Device.admitTx
  (try dsimp only)
  repeat' (first | with_reducible assumption | with_reducible exact fun _ hx => hx | with_reducible apply Device.reglRefuse_closed hP | with_reducible apply Device.reglChanged_closed hP | with_reducible apply Device.modStream_closed hP | with_reducible apply Device.reglClip_closed hP | (with_reducible apply hP.lit <;> first | with_reducible assumption | exact id | exact fun _ => rfl | with_reducible exact fun _ hx => hx | with_reducible apply Device.reglRefuse_closed hP | with_reducible apply Device.reglChanged_closed hP | with_reducible apply Device.modStream_closed hP | with_reducible apply Device.reglClip_closed hP | split) | split | intro _ | dsimp only)

theorem Device.txEffect_closed {d : Device} {n : Nat} (hPd : P d) : P (Device.txEffect d n) := by
  unfold Device.txEffect
  (try dsimp only)
  repeat' (first | with_reducible assumption | with_reducible exact fun _ hx => hx | with_reducible apply Device.modStream_closed hP | with_reducible apply Device.setWeights_closed hP | with_reducible apply Device.reglChanged_closed hP | with_reducible apply Device.groupsStale_closed hP | with_reducible apply hP.putB | (with_reducible apply hP.lit <;> first | with_reducible assumption | exact id | exact fun _ => rfl | with_reducible exact fun _ hx => hx | with_reducible apply Device.modStream_closed hP | with_reducible apply Device.setWeights_closed hP | with_reducible apply Device.reglChanged_closed hP | with_reducible apply Device.groupsStale_closed hP | with_reducible apply hP.putB | split) | split | intro _ | dsimp only)

theorem Device.askSteered_closed {d : Device} {n : Nat} {az : Int} {el : Int} (hPd : P d) : P (Device.askSteered d n az el).2 := by
  unfold Device.askSteered
  (try dsimp only)
  repeat' (first | with_reducible assumption | with_reducible exact fun _ hx => hx | with_reducible apply Device.modStream_closed hP | with_reducible apply Device.admitTx_closed hP | with_reducible refine snd_of_eq (by assumption) ?_ | (with_reducible apply hP.lit <;> first | with_reducible assumption | exact id | exact fun _ => rfl | with_reducible exact fun _ hx => hx | with_reducible apply Device.modStream_closed hP | with_reducible apply Device.admitTx_closed hP | with_reducible refine snd_of_eq (by assumption) ?_ | split) | split | intro _ | dsimp only)

theorem Device.freeRefused_closed {d : Device} {n : Nat} (hPd : P d) : P (Device.freeRefused d n) := by
  unfold Device.freeRefused
  (try dsimp only)
  repeat' (first | with_reducible assumption | with_reducible exact fun _ hx => hx | with_reducible apply Device.txEffect_closed hP | with_reducible apply Device.modSes_closed hP | with_reducible apply Closed.when | with_reducible apply Device.holdEnd_closed hP | (with_reducible apply hP.lit <;> first | with_reducible assumption | exact id | exact fun _ => rfl | with_reducible exact fun _ hx => hx | with_reducible apply Device.txEffect_closed hP | with_reducible apply Device.modSes_closed hP | with_reducible apply Closed.when | with_reducible apply Device.holdEnd_closed hP | split) | split | intro _ | dsimp only)

theorem Device.zonesChanged_closed {d : Device} {c : Nat} {n : Nat} (hPd : P d) : P (Device.zonesChanged d c n) := by
  unfold Device.zonesChanged
  (try dsimp only)
  repeat' (first | with_reducible assumption | with_reducible exact fun _ hx => hx | with_reducible apply Closed.forAll | with_reducible apply Device.askSteered_closed hP | with_reducible apply Closed.when | with_reducible apply Device.freeRefused_closed hP | with_reducible refine snd_of_eq (by assumption) ?_ | (with_reducible apply hP.lit <;> first | with_reducible assumption | exact id | exact fun _ => rfl | with_reducible exact fun _ hx => hx | with_reducible apply Closed.forAll | with_reducible apply Device.askSteered_closed hP | with_reducible apply Closed.when | with_reducible apply Device.freeRefused_closed hP | with_reducible refine snd_of_eq (by assumption) ?_ | split) | split | intro _ | dsimp only)

theorem Device.showStreams_closed {d : Device} (hPd : P d) : P (Device.showStreams d) := by
  unfold Device.showStreams
  (try dsimp only)
  repeat' (first | with_reducible assumption | with_reducible exact fun _ hx => hx | with_reducible apply Closed.forAll | with_reducible apply hP.put | (with_reducible apply hP.lit <;> first | with_reducible assumption | exact id | exact fun _ => rfl | with_reducible exact fun _ hx => hx | with_reducible apply Closed.forAll | with_reducible apply hP.put | split) | split | intro _ | dsimp only)

theorem Device.releaseStream_closed {d : Device} {n : Nat} (hPd : P d) : P (Device.releaseStream d n) := by
  unfold Device.releaseStream
  (try dsimp only)
  repeat' (first | with_reducible assumption | with_reducible exact fun _ hx => hx | with_reducible apply Device.zonesChanged_closed hP | with_reducible apply Device.reglChanged_closed hP | with_reducible apply Device.groupsStale_closed hP | with_reducible apply Device.showStreams_closed hP | with_reducible apply Device.modStream_closed hP | (with_reducible apply hP.lit <;> first | with_reducible assumption | exact id | exact fun _ => rfl | with_reducible exact fun _ hx => hx | with_reducible apply Device.zonesChanged_closed hP | with_reducible apply Device.reglChanged_closed hP | with_reducible apply Device.groupsStale_closed hP | with_reducible apply Device.showStreams_closed hP | with_reducible apply Device.modStream_closed hP | split) | split | intro _ | dsimp only)

theorem Device.loadProfile_closed {d : Device} (hPd : P d) : P (Device.loadProfile d) := by
  unfold Device.loadProfile
  (try dsimp only)
  repeat' (first | with_reducible assumption | with_reducible exact fun _ hx => hx | with_reducible apply Device.reglChanged_closed hP | with_reducible apply Device.showProfile_closed hP | (with_reducible apply hP.lit <;> first | with_reducible assumption | exact id | exact fun _ => rfl | with_reducible exact fun _ hx => hx | with_reducible apply Device.reglChanged_closed hP | with_reducible apply Device.showProfile_closed hP | split) | split | intro _ | dsimp only)

theorem reglWritten_closed {off : Nat} {v : Word} {d : Device} (hPd : P d) : P (reglWritten off v d) := by
  unfold reglWritten
  split
  · exact Closed.when _ _ _ (fun _ hx => hP.wr _ _ _ (hP.wr _ _ _ hx))
      (Closed.when _ _ _ (fun _ hx => Device.loadProfile_closed hP hx) hPd)
  · exact hPd

/-! ### Manifest -/

theorem Device.putEntry_closed {d : Device} {i : Nat} {bs : List Byte} (hPd : P d) : P (Device.putEntry d i bs) := by
  unfold Device.putEntry
  (try dsimp only)
  repeat' (first | with_reducible assumption | with_reducible exact fun _ hx => hx | with_reducible apply hP.sramBytes | with_reducible apply hP.optBytes | (with_reducible apply hP.lit <;> first | with_reducible assumption | exact id | exact fun _ => rfl | with_reducible exact fun _ hx => hx | with_reducible apply hP.sramBytes | with_reducible apply hP.optBytes | split) | split | intro _ | dsimp only)

theorem Device.manLevel_closed {d : Device} (hPd : P d) : P (Device.manLevel d) := by
  unfold Device.manLevel
  (try dsimp only)
  repeat' (first | with_reducible assumption | with_reducible exact fun _ hx => hx | with_reducible apply Device.irqLevel_closed hP | (with_reducible apply hP.lit <;> first | with_reducible assumption | exact id | exact fun _ => rfl | with_reducible exact fun _ hx => hx | with_reducible apply Device.irqLevel_closed hP | split) | split | intro _ | dsimp only)

theorem Device.manCountTo_closed {d : Device} {n : Nat} (hPd : P d) : P (Device.manCountTo d n) := by
  unfold Device.manCountTo
  (try dsimp only)
  repeat' (first | with_reducible assumption | with_reducible exact fun _ hx => hx | with_reducible apply Device.manLevel_closed hP | with_reducible apply hP.wr | (with_reducible apply hP.lit <;> first | with_reducible assumption | exact id | exact fun _ => rfl | with_reducible exact fun _ hx => hx | with_reducible apply Device.manLevel_closed hP | with_reducible apply hP.wr | split) | split | intro _ | dsimp only)

theorem Device.manSight_closed {d : Device} {s : Sighting} (hPd : P d) : P (Device.manSight d s).2.2 := by
  unfold Device.manSight
  (try dsimp only)
  repeat' (first | with_reducible assumption | with_reducible exact fun _ hx => hx | with_reducible apply Device.putEntry_closed hP | with_reducible apply Device.manCountTo_closed hP | with_reducible apply hP.addWrap | with_reducible apply Device.irq_closed hP | with_reducible apply hP.count | (with_reducible apply hP.lit <;> first | with_reducible assumption | exact id | exact fun _ => rfl | with_reducible exact fun _ hx => hx | with_reducible apply Device.putEntry_closed hP | with_reducible apply Device.manCountTo_closed hP | with_reducible apply hP.addWrap | with_reducible apply Device.irq_closed hP | with_reducible apply hP.count | split) | split | intro _ | dsimp only)

theorem Device.manServe_closed {d : Device} {s : Sighting} (hPd : P d) : P (Device.manServe d s) := by
  unfold Device.manServe
  (try dsimp only)
  repeat' (first | with_reducible assumption | with_reducible exact fun _ hx => hx | with_reducible apply Device.manSight_closed hP | with_reducible apply Device.modSes_closed hP | with_reducible apply Device.emit_closed hP | with_reducible refine snd2_of_eq (by assumption) ?_ | (with_reducible apply hP.lit <;> first | with_reducible assumption | exact id | exact fun _ => rfl | with_reducible exact fun _ hx => hx | with_reducible apply Device.manSight_closed hP | with_reducible apply Device.modSes_closed hP | with_reducible apply Device.emit_closed hP | with_reducible refine snd2_of_eq (by assumption) ?_ | split) | split | intro _ | dsimp only)

theorem Device.sighted_closed {d : Device} {s : Sighting} (hPd : P d) : P (Device.sighted d s) := by
  unfold Device.sighted
  (try dsimp only)
  repeat' (first | with_reducible assumption | with_reducible exact fun _ hx => hx | (with_reducible apply hP.lit <;> first | with_reducible assumption | exact id | exact fun _ => rfl | with_reducible exact fun _ hx => hx | split) | split | intro _ | dsimp only)

theorem Device.manFlush_closed {d : Device} {k : Nat} (hPd : P d) : P (Device.manFlush d k) := by
  induction k generalizing d with
  | zero => exact hPd
  | succ k ih =>
    unfold Device.manFlush
    split
    · exact ih (Device.emit_closed hP (hP.other d _ hPd rfl rfl rfl rfl id id))
    · exact hPd

theorem manSighting_closed {d : Device} (hPd : P d) : P (manSighting d) := by
  unfold manSighting
  (try dsimp only)
  repeat' (first | with_reducible assumption | with_reducible exact fun _ hx => hx | with_reducible apply Device.manServe_closed hP | with_reducible apply Device.manFlush_closed hP | (with_reducible apply hP.lit <;> first | with_reducible assumption | exact id | exact fun _ => rfl | with_reducible exact fun _ hx => hx | with_reducible apply Device.manServe_closed hP | with_reducible apply Device.manFlush_closed hP | split) | split | intro _ | dsimp only)

theorem Device.sightedOnly_closed {d : Device} {s : Sighting} (hPd : P d) : P (Device.sightedOnly d s) := by
  unfold Device.sightedOnly
  (try dsimp only)
  repeat' (first | with_reducible assumption | with_reducible exact fun _ hx => hx | with_reducible apply Device.postMsg_closed hP | with_reducible apply Device.modSes_closed hP | (with_reducible apply hP.lit <;> first | with_reducible assumption | exact id | exact fun _ => rfl | with_reducible exact fun _ hx => hx | with_reducible apply Device.postMsg_closed hP | with_reducible apply Device.modSes_closed hP | split) | split | intro _ | dsimp only)

theorem Device.manRemove_closed {d : Device} {i : Nat} (hPd : P d) : P (Device.manRemove d i) := by
  unfold Device.manRemove
  (try dsimp only)
  repeat' (first | with_reducible assumption | with_reducible exact fun _ hx => hx | with_reducible apply Device.manCountTo_closed hP | with_reducible apply Device.putEntry_closed hP | (with_reducible apply hP.lit <;> first | with_reducible assumption | exact id | exact fun _ => rfl | with_reducible exact fun _ hx => hx | with_reducible apply Device.manCountTo_closed hP | with_reducible apply Device.putEntry_closed hP | split) | split | intro _ | dsimp only)

theorem manAgeOut_closed {i : Nat} {d : Device} (hPd : P d) : P (manAgeOut i d) := by
  unfold manAgeOut
  (try dsimp only)
  repeat' (first | with_reducible assumption | with_reducible exact fun _ hx => hx | with_reducible apply Device.manRemove_closed hP | (with_reducible apply hP.lit <;> first | with_reducible assumption | exact id | exact fun _ => rfl | with_reducible exact fun _ hx => hx | with_reducible apply Device.manRemove_closed hP | split) | split | intro _ | dsimp only)

theorem Device.manClearNow_closed {d : Device} {all : Bool} (hPd : P d) : P (Device.manClearNow d all) := by
  unfold Device.manClearNow
  (try dsimp only)
  repeat' (first | with_reducible assumption | with_reducible exact fun _ hx => hx | with_reducible apply Closed.forAll | with_reducible apply Device.manRemove_closed hP | (with_reducible apply hP.lit <;> first | with_reducible assumption | exact id | exact fun _ => rfl | with_reducible exact fun _ hx => hx | with_reducible apply Closed.forAll | with_reducible apply Device.manRemove_closed hP | split) | split | intro _ | dsimp only)

theorem manClearDone_closed {d : Device} (hPd : P d) : P (manClearDone d) := by
  unfold manClearDone
  (try dsimp only)
  repeat' (first | with_reducible assumption | with_reducible exact fun _ hx => hx | with_reducible apply hP.put | with_reducible apply Device.manClearNow_closed hP | with_reducible apply Closed.forAll | with_reducible apply Device.manServe_closed hP | with_reducible apply Device.emit_closed hP | (with_reducible apply hP.lit <;> first | with_reducible assumption | exact id | exact fun _ => rfl | with_reducible exact fun _ hx => hx | with_reducible apply hP.put | with_reducible apply Device.manClearNow_closed hP | with_reducible apply Closed.forAll | with_reducible apply Device.manServe_closed hP | with_reducible apply Device.emit_closed hP | split) | split | intro _ | dsimp only)

theorem Device.manPin_closed {d : Device} {i : Nat} {on : Bool} (hPd : P d) : P (Device.manPin d i on) := by
  unfold Device.manPin
  (try dsimp only)
  repeat' (first | with_reducible assumption | with_reducible exact fun _ hx => hx | with_reducible apply Device.putEntry_closed hP | (with_reducible apply hP.lit <;> first | with_reducible assumption | exact id | exact fun _ => rfl | with_reducible exact fun _ hx => hx | with_reducible apply Device.putEntry_closed hP | split) | split | intro _ | dsimp only)

theorem Device.manClear_closed {d : Device} {all : Bool} (hPd : P d) : P (Device.manClear d all) := by
  unfold Device.manClear
  (try dsimp only)
  repeat' (first | with_reducible assumption | with_reducible exact fun _ hx => hx | with_reducible apply hP.put | (with_reducible apply hP.lit <;> first | with_reducible assumption | exact id | exact fun _ => rfl | with_reducible exact fun _ hx => hx | with_reducible apply hP.put | split) | split | intro _ | dsimp only)

theorem manWritten_closed {off : Nat} {v : Word} {d : Device} (hPd : P d) : P (manWritten off v d) := by
  unfold manWritten
  (try dsimp only)
  repeat' (first | with_reducible assumption | with_reducible exact fun _ hx => hx | with_reducible apply Device.manLevel_closed hP | with_reducible apply Device.manPin_closed hP | with_reducible apply Device.manRemove_closed hP | with_reducible apply Device.manClear_closed hP | (with_reducible apply hP.lit <;> first | with_reducible assumption | exact id | exact fun _ => rfl | with_reducible exact fun _ hx => hx | with_reducible apply Device.manLevel_closed hP | with_reducible apply Device.manPin_closed hP | with_reducible apply Device.manRemove_closed hP | with_reducible apply Device.manClear_closed hP | split) | split | intro _ | dsimp only)

theorem manBlockReset_closed {d : Device} (hPd : P d) : P (manBlockReset d) := by
  unfold manBlockReset
  (try dsimp only)
  repeat' (first | with_reducible assumption | with_reducible exact fun _ hx => hx | with_reducible apply Closed.forAll | with_reducible apply Device.manCountTo_closed hP | with_reducible apply Device.manClearNow_closed hP | with_reducible apply Device.sightedOnly_closed hP | with_reducible apply Device.emit_closed hP | (with_reducible apply hP.lit <;> first | with_reducible assumption | exact id | exact fun _ => rfl | with_reducible exact fun _ hx => hx | with_reducible apply Closed.forAll | with_reducible apply Device.manCountTo_closed hP | with_reducible apply Device.manClearNow_closed hP | with_reducible apply Device.sightedOnly_closed hP | with_reducible apply Device.emit_closed hP | split) | split | intro _ | dsimp only)

end Sys2Proof.Machine
end

