-- ==== Sys2Proof/Laws/ClosedAir.lean ====
section
/-!
SUPPORT. Each operation of Machine/Sessions.lean, Machine/Air.lean, Machine/Hkadc.lean, Machine/Pins.lean, Machine/Timers.lean, Machine/Kloit.lean, Machine/Power.lean keeps every closed property of the device.
-/
set_option linter.unusedTactic false
set_option linter.unreachableTactic false
set_option linter.unusedSectionVars false
set_option linter.unusedVariables false
namespace Sys2Proof.Machine

variable {P : Device → Prop} (hP : Closed P)
include hP

/-! ### Sessions -/

theorem Device.sesDone_closed {d : Device} {n : Nat} (hPd : P d) : P (Device.sesDone d n) := by
  unfold Device.sesDone
  (try dsimp only)
  repeat' (first | with_reducible assumption | with_reducible exact fun _ hx => hx | with_reducible apply Device.holdEnd_closed hP | with_reducible apply Device.modSes_closed hP | with_reducible apply Device.showFlight_closed hP | with_reducible apply Closed.when | with_reducible apply Device.sesGo_closed hP | (with_reducible apply hP.lit <;> first | with_reducible assumption | exact id | exact fun _ => rfl | with_reducible exact fun _ hx => hx | with_reducible apply Device.holdEnd_closed hP | with_reducible apply Device.modSes_closed hP | with_reducible apply Device.showFlight_closed hP | with_reducible apply Closed.when | with_reducible apply Device.sesGo_closed hP | split) | split | intro _ | dsimp only)

theorem Device.nextRound_closed {d : Device} {n : Nat} (hPd : P d) : P (Device.nextRound d n) := by
  unfold Device.nextRound
  (try dsimp only)
  repeat' (first | with_reducible assumption | with_reducible exact fun _ hx => hx | with_reducible apply Device.modSes_closed hP | with_reducible apply hP.put | with_reducible apply Device.sesGo_closed hP | (with_reducible apply hP.lit <;> first | with_reducible assumption | exact id | exact fun _ => rfl | with_reducible exact fun _ hx => hx | with_reducible apply Device.modSes_closed hP | with_reducible apply hP.put | with_reducible apply Device.sesGo_closed hP | split) | split | intro _ | dsimp only)

theorem Device.sesBack_closed {d : Device} {n : Nat} {st : Nat} (hPd : P d) : P (Device.sesBack d n st) := by
  unfold Device.sesBack
  (try dsimp only)
  repeat' (first | with_reducible assumption | with_reducible exact fun _ hx => hx | with_reducible apply Device.sesGo_closed hP | with_reducible apply Device.nextRound_closed hP | with_reducible apply Device.modSes_closed hP | (with_reducible apply hP.lit <;> first | with_reducible assumption | exact id | exact fun _ => rfl | with_reducible exact fun _ hx => hx | with_reducible apply Device.sesGo_closed hP | with_reducible apply Device.nextRound_closed hP | with_reducible apply Device.modSes_closed hP | split) | split | intro _ | dsimp only)

theorem Device.retireRun_closed {d : Device} {n : Nat} {code : Nat} {detail : Nat} (hPd : P d) : P (Device.retireRun d n code detail) := by
  unfold Device.retireRun
  (try dsimp only)
  repeat' (first | with_reducible assumption | with_reducible exact fun _ hx => hx | with_reducible apply Device.retire_closed hP | with_reducible apply Device.modSes_closed hP | with_reducible apply Device.sesDone_closed hP | with_reducible apply Closed.forAll | (with_reducible apply hP.lit <;> first | with_reducible assumption | exact id | exact fun _ => rfl | with_reducible exact fun _ hx => hx | with_reducible apply Device.retire_closed hP | with_reducible apply Device.modSes_closed hP | with_reducible apply Device.sesDone_closed hP | with_reducible apply Closed.forAll | split) | split | intro _ | dsimp only)

theorem Device.completeRun_closed {d : Device} {n : Nat} (hPd : P d) : P (Device.completeRun d n) := by
  unfold Device.completeRun
  (try dsimp only)
  repeat' (first | with_reducible assumption | with_reducible exact fun _ hx => hx | with_reducible apply Device.sesDone_closed hP | with_reducible apply Device.notice_closed hP | with_reducible apply Device.modSes_closed hP | (with_reducible apply hP.lit <;> first | with_reducible assumption | exact id | exact fun _ => rfl | with_reducible exact fun _ hx => hx | with_reducible apply Device.sesDone_closed hP | with_reducible apply Device.notice_closed hP | with_reducible apply Device.modSes_closed hP | split) | split | intro _ | dsimp only)

theorem Device.endRound_closed {d : Device} {n : Nat} {incomplete : Bool} {preempted : Bool} {last : Bool} (hPd : P d) : P (Device.endRound d n incomplete preempted last) := by
  unfold Device.endRound
  (try dsimp only)
  repeat' (first | with_reducible assumption | with_reducible exact fun _ hx => hx | with_reducible apply hP.addWrap | with_reducible apply Device.postMsg_closed hP | with_reducible apply Device.modSes_closed hP | (with_reducible apply hP.lit <;> first | with_reducible assumption | exact id | exact fun _ => rfl | with_reducible exact fun _ hx => hx | with_reducible apply hP.addWrap | with_reducible apply Device.postMsg_closed hP | with_reducible apply Device.modSes_closed hP | split) | split | intro _ | dsimp only)

theorem Device.slotDecided_closed {d : Device} {n : Nat} {k : SlotClass} (hPd : P d) : P (Device.slotDecided d n k) := by
  unfold Device.slotDecided
  (try dsimp only)
  repeat' (first | with_reducible assumption | with_reducible exact fun _ hx => hx | with_reducible apply Device.modSes_closed hP | with_reducible apply hP.count | with_reducible apply hP.addWrap | (with_reducible apply hP.lit <;> first | with_reducible assumption | exact id | exact fun _ => rfl | with_reducible exact fun _ hx => hx | with_reducible apply Device.modSes_closed hP | with_reducible apply hP.count | with_reducible apply hP.addWrap | split) | split | intro _ | dsimp only)

theorem Device.accessResult_closed {d : Device} {n : Nat} {x : Desc} {code : Nat} {tagCode : Nat} {checks : Nat} {bits : List Bool} (hPd : P d) : P (Device.accessResult d n x code tagCode checks bits) := by
  unfold Device.accessResult
  (try dsimp only)
  repeat' (first | with_reducible assumption | with_reducible exact fun _ hx => hx | with_reducible apply Closed.forAll | with_reducible apply Device.postMsg_closed hP | with_reducible apply Device.showFlight_closed hP | (with_reducible apply hP.lit <;> first | with_reducible assumption | exact id | exact fun _ => rfl | with_reducible exact fun _ hx => hx | with_reducible apply Closed.forAll | with_reducible apply Device.postMsg_closed hP | with_reducible apply Device.showFlight_closed hP | split) | split | intro _ | dsimp only)

theorem Device.noLevel_closed {d : Device} {n : Nat} (hPd : P d) : P (Device.noLevel d n) := by
  unfold Device.noLevel
  (try dsimp only)
  repeat' (first | with_reducible assumption | with_reducible exact fun _ hx => hx | with_reducible apply Device.takeFree_closed hP | with_reducible apply Device.modSes_closed hP | with_reducible refine snd_of_eq (by assumption) ?_ | (with_reducible apply hP.lit <;> first | with_reducible assumption | exact id | exact fun _ => rfl | with_reducible exact fun _ hx => hx | with_reducible apply Device.takeFree_closed hP | with_reducible apply Device.modSes_closed hP | with_reducible refine snd_of_eq (by assumption) ?_ | split) | split | intro _ | dsimp only)

theorem Device.accessCut_closed {d : Device} {n : Nat} {code : Nat} (hPd : P d) : P (Device.accessCut d n code) := by
  unfold Device.accessCut
  (try dsimp only)
  repeat' (first | with_reducible assumption | with_reducible exact fun _ hx => hx | with_reducible apply Device.modSes_closed hP | with_reducible apply Closed.forAll | with_reducible apply Device.noLevel_closed hP | with_reducible apply Device.accessResult_closed hP | with_reducible apply Device.sesDone_closed hP | (with_reducible apply hP.lit <;> first | with_reducible assumption | exact id | exact fun _ => rfl | with_reducible exact fun _ hx => hx | with_reducible apply Device.modSes_closed hP | with_reducible apply Closed.forAll | with_reducible apply Device.noLevel_closed hP | with_reducible apply Device.accessResult_closed hP | with_reducible apply Device.sesDone_closed hP | split) | split | intro _ | dsimp only)

theorem Device.sesAbandon_closed {d : Device} {n : Nat} (hPd : P d) : P (Device.sesAbandon d n) := by
  unfold Device.sesAbandon
  (try dsimp only)
  repeat' (first | with_reducible assumption | with_reducible exact fun _ hx => hx | with_reducible apply Device.accessCut_closed hP | with_reducible apply hP.count | with_reducible apply Device.modSes_closed hP | (with_reducible apply hP.lit <;> first | with_reducible assumption | exact id | exact fun _ => rfl | with_reducible exact fun _ hx => hx | with_reducible apply Device.accessCut_closed hP | with_reducible apply hP.count | with_reducible apply Device.modSes_closed hP | split) | split | intro _ | dsimp only)

theorem Device.stopNow_closed {d : Device} {n : Nat} (hPd : P d) : P (Device.stopNow d n) := by
  unfold Device.stopNow
  (try dsimp only)
  repeat' (first | with_reducible assumption | with_reducible exact fun _ hx => hx | with_reducible apply Device.retireRun_closed hP | (with_reducible apply hP.lit <;> first | with_reducible assumption | exact id | exact fun _ => rfl | with_reducible exact fun _ hx => hx | with_reducible apply Device.retireRun_closed hP | split) | split | intro _ | dsimp only)

theorem holdEnter_closed {n : Nat} {d : Device} (hPd : P d) : P (holdEnter n d) := by
  unfold holdEnter
  (try dsimp only)
  repeat' (first | with_reducible assumption | with_reducible exact fun _ hx => hx | with_reducible apply Device.sesGo_closed hP | with_reducible apply Device.modSes_closed hP | with_reducible apply Closed.when | with_reducible apply Device.endRound_closed hP | with_reducible apply Device.stopNow_closed hP | (with_reducible apply hP.lit <;> first | with_reducible assumption | exact id | exact fun _ => rfl | with_reducible exact fun _ hx => hx | with_reducible apply Device.sesGo_closed hP | with_reducible apply Device.modSes_closed hP | with_reducible apply Closed.when | with_reducible apply Device.endRound_closed hP | with_reducible apply Device.stopNow_closed hP | split) | split | intro _ | dsimp only)

theorem holdRelease_closed {n : Nat} {d : Device} (hPd : P d) : P (holdRelease n d) := by
  unfold holdRelease
  (try dsimp only)
  repeat' (first | with_reducible assumption | with_reducible exact fun _ hx => hx | with_reducible apply Device.sesBack_closed hP | (with_reducible apply hP.lit <;> first | with_reducible assumption | exact id | exact fun _ => rfl | with_reducible exact fun _ hx => hx | with_reducible apply Device.sesBack_closed hP | split) | split | intro _ | dsimp only)

theorem Device.sesStart_closed {d : Device} {n : Nat} (hPd : P d) : P (Device.sesStart d n) := by
  unfold Device.sesStart
  (try dsimp only)
  repeat' (first | with_reducible assumption | with_reducible exact fun _ hx => hx | with_reducible apply Device.sesGo_closed hP | with_reducible apply hP.put | (with_reducible apply hP.lit <;> first | with_reducible assumption | exact id | exact fun _ => rfl | with_reducible exact fun _ hx => hx | with_reducible apply Device.sesGo_closed hP | with_reducible apply hP.put | split) | split | intro _ | dsimp only)

theorem Device.sesRefuse_closed {d : Device} {n : Nat} {code : Nat} (hPd : P d) : P (Device.sesRefuse d n code) := by
  unfold Device.sesRefuse
  (try dsimp only)
  repeat' (first | with_reducible assumption | with_reducible exact fun _ hx => hx | with_reducible apply Device.releaseStream_closed hP | with_reducible apply Device.modSes_closed hP | with_reducible apply hP.put | with_reducible apply Device.sesGo_closed hP | with_reducible apply hP.mirror | (with_reducible apply hP.lit <;> first | with_reducible assumption | exact id | exact fun _ => rfl | with_reducible exact fun _ hx => hx | with_reducible apply Device.releaseStream_closed hP | with_reducible apply Device.modSes_closed hP | with_reducible apply hP.put | with_reducible apply Device.sesGo_closed hP | with_reducible apply hP.mirror | split) | split | intro _ | dsimp only)

theorem Device.noiseRestart_closed {d : Device} {n : Nat} {a : Bool} {b : Bool} (hPd : P d) : P (Device.noiseRestart d n a b) := by
  unfold Device.noiseRestart
  (try dsimp only)
  repeat' (first | with_reducible assumption | with_reducible exact fun _ hx => hx | with_reducible apply hP.put | (with_reducible apply hP.lit <;> first | with_reducible assumption | exact id | exact fun _ => rfl | with_reducible exact fun _ hx => hx | with_reducible apply hP.put | split) | split | intro _ | dsimp only)

theorem Device.admitStart_closed {d : Device} {n : Nat} (hPd : P d) : P (Device.admitStart d n).2 := by
  unfold Device.admitStart
  (try dsimp only)
  repeat' (first | with_reducible assumption | with_reducible exact fun _ hx => hx | with_reducible apply Device.askSteered_closed hP | with_reducible apply Device.admitTx_closed hP | with_reducible apply Device.txEffect_closed hP | with_reducible refine snd_of_eq (by assumption) ?_ | (with_reducible apply hP.lit <;> first | with_reducible assumption | exact id | exact fun _ => rfl | with_reducible exact fun _ hx => hx | with_reducible apply Device.askSteered_closed hP | with_reducible apply Device.admitTx_closed hP | with_reducible apply Device.txEffect_closed hP | with_reducible refine snd_of_eq (by assumption) ?_ | split) | split | intro _ | dsimp only)

theorem sessionEnableComplete_closed {n : Nat} {d : Device} (hPd : P d) : P (sessionEnableComplete n d) := by
  unfold sessionEnableComplete
  (try dsimp only)
  repeat' (first | with_reducible assumption | with_reducible exact fun _ hx => hx | with_reducible apply Device.sesRefuse_closed hP | with_reducible apply Device.noiseRestart_closed hP | with_reducible apply Device.showStreams_closed hP | with_reducible apply Device.modStream_closed hP | with_reducible apply Device.admitStart_closed hP | with_reducible apply Device.groupsStale_closed hP | with_reducible apply Device.zonesChanged_closed hP | with_reducible apply Device.modSes_closed hP | with_reducible apply hP.put | with_reducible apply Closed.when | with_reducible apply Device.holdAsk_closed hP | with_reducible apply Device.sesGo_closed hP | with_reducible refine snd_of_eq (by assumption) ?_ | (with_reducible apply hP.lit <;> first | with_reducible assumption | exact id | exact fun _ => rfl | with_reducible exact fun _ hx => hx | with_reducible apply Device.sesRefuse_closed hP | with_reducible apply Device.noiseRestart_closed hP | with_reducible apply Device.showStreams_closed hP | with_reducible apply Device.modStream_closed hP | with_reducible apply Device.admitStart_closed hP | with_reducible apply Device.groupsStale_closed hP | with_reducible apply Device.zonesChanged_closed hP | with_reducible apply Device.modSes_closed hP | with_reducible apply hP.put | with_reducible apply Closed.when | with_reducible apply Device.holdAsk_closed hP | with_reducible apply Device.sesGo_closed hP | with_reducible refine snd_of_eq (by assumption) ?_ | split) | split | intro _ | dsimp only)

theorem Device.sesStop_closed {d : Device} {n : Nat} (hPd : P d) : P (Device.sesStop d n) := by
  unfold Device.sesStop
  (try dsimp only)
  repeat' (first | with_reducible assumption | with_reducible exact fun _ hx => hx | with_reducible apply Device.sesGo_closed hP | with_reducible apply Device.holdAsk_closed hP | with_reducible apply hP.put | (with_reducible apply hP.lit <;> first | with_reducible assumption | exact id | exact fun _ => rfl | with_reducible exact fun _ hx => hx | with_reducible apply Device.sesGo_closed hP | with_reducible apply Device.holdAsk_closed hP | with_reducible apply hP.put | split) | split | intro _ | dsimp only)

theorem Device.sesOff_closed {d : Device} {n : Nat} (hPd : P d) : P (Device.sesOff d n) := by
  unfold Device.sesOff
  (try dsimp only)
  repeat' (first | with_reducible assumption | with_reducible exact fun _ hx => hx | with_reducible apply Closed.forAll | with_reducible apply Device.emitLast_closed hP | with_reducible apply Device.modSes_closed hP | with_reducible apply Device.releaseStream_closed hP | with_reducible apply Device.showFlight_closed hP | with_reducible apply hP.put | with_reducible apply Device.groupsStale_closed hP | with_reducible apply Device.turnLeave_closed hP | (with_reducible apply hP.lit <;> first | with_reducible assumption | exact id | exact fun _ => rfl | with_reducible exact fun _ hx => hx | with_reducible apply Closed.forAll | with_reducible apply Device.emitLast_closed hP | with_reducible apply Device.modSes_closed hP | with_reducible apply Device.releaseStream_closed hP | with_reducible apply Device.showFlight_closed hP | with_reducible apply hP.put | with_reducible apply Device.groupsStale_closed hP | with_reducible apply Device.turnLeave_closed hP | split) | split | intro _ | dsimp only)

theorem sessionShutdownComplete_closed {n : Nat} {d : Device} (hPd : P d) : P (sessionShutdownComplete n d) := by
  unfold sessionShutdownComplete
  (try dsimp only)
  repeat' (first | with_reducible assumption | with_reducible exact fun _ hx => hx | with_reducible apply hP.put | with_reducible apply Device.sesOff_closed hP | with_reducible apply Device.sesGo_closed hP | with_reducible apply Device.sesStart_closed hP | (with_reducible apply hP.lit <;> first | with_reducible assumption | exact id | exact fun _ => rfl | with_reducible exact fun _ hx => hx | with_reducible apply hP.put | with_reducible apply Device.sesOff_closed hP | with_reducible apply Device.sesGo_closed hP | with_reducible apply Device.sesStart_closed hP | split) | split | intro _ | dsimp only)

theorem sesBlockReset_closed {n : Nat} {d : Device} (hPd : P d) : P (sesBlockReset n d) := by
  unfold sesBlockReset
  (try dsimp only)
  repeat' (first | with_reducible assumption | with_reducible exact fun _ hx => hx | with_reducible apply Device.modSes_closed hP | with_reducible apply Device.sesAbandon_closed hP | with_reducible apply Device.releaseStream_closed hP | with_reducible apply Device.showFlight_closed hP | with_reducible apply Device.sesGo_closed hP | with_reducible apply Device.groupsStale_closed hP | with_reducible apply Device.turnLeave_closed hP | with_reducible apply hP.put | (with_reducible apply hP.lit <;> first | with_reducible assumption | exact id | exact fun _ => rfl | with_reducible exact fun _ hx => hx | with_reducible apply Device.modSes_closed hP | with_reducible apply Device.sesAbandon_closed hP | with_reducible apply Device.releaseStream_closed hP | with_reducible apply Device.showFlight_closed hP | with_reducible apply Device.sesGo_closed hP | with_reducible apply Device.groupsStale_closed hP | with_reducible apply Device.turnLeave_closed hP | with_reducible apply hP.put | split) | split | intro _ | dsimp only)

theorem Device.trigger_closed {d : Device} {n : Nat} (hPd : P d) : P (Device.trigger d n) := by
  unfold Device.trigger
  (try dsimp only)
  repeat' (first | with_reducible assumption | with_reducible exact fun _ hx => hx | with_reducible apply hP.count | with_reducible apply Device.postMsg_closed hP | with_reducible apply hP.put | (with_reducible apply hP.lit <;> first | with_reducible assumption | exact id | exact fun _ => rfl | with_reducible exact fun _ hx => hx | with_reducible apply hP.count | with_reducible apply Device.postMsg_closed hP | with_reducible apply hP.put | split) | split | intro _ | dsimp only)

theorem Device.triggerEdge_closed {d : Device} {src : Nat} {high : Bool} (hPd : P d) : P (Device.triggerEdge d src high) := by
  unfold Device.triggerEdge
  (try dsimp only)
  repeat' (first | with_reducible assumption | with_reducible exact fun _ hx => hx | with_reducible apply Closed.forAll | with_reducible apply Closed.when | with_reducible apply Device.trigger_closed hP | (with_reducible apply hP.lit <;> first | with_reducible assumption | exact id | exact fun _ => rfl | with_reducible exact fun _ hx => hx | with_reducible apply Closed.forAll | with_reducible apply Closed.when | with_reducible apply Device.trigger_closed hP | split) | split | intro _ | dsimp only)

theorem Device.cascadeTrigger_closed {d : Device} {ch : Nat} (hPd : P d) : P (Device.cascadeTrigger d ch) := by
  unfold Device.cascadeTrigger
  (try dsimp only)
  repeat' (first | with_reducible assumption | with_reducible exact fun _ hx => hx | with_reducible apply Device.triggerEdge_closed hP | (with_reducible apply hP.lit <;> first | with_reducible assumption | exact id | exact fun _ => rfl | with_reducible exact fun _ hx => hx | with_reducible apply Device.triggerEdge_closed hP | split) | split | intro _ | dsimp only)

theorem sesWritten_closed {n : Nat} {off : Nat} {v : Word} {d : Device} (hPd : P d) : P (sesWritten n off v d) := by
  unfold sesWritten
  (try dsimp only)
  repeat' (first | with_reducible assumption | with_reducible exact fun _ hx => hx | with_reducible apply hP.put | with_reducible apply Device.sesGo_closed hP | with_reducible apply Device.holdEnd_closed hP | with_reducible apply hP.wr | with_reducible apply Closed.when | (with_reducible apply hP.lit <;> first | with_reducible assumption | exact id | exact fun _ => rfl | with_reducible exact fun _ hx => hx | with_reducible apply hP.put | with_reducible apply Device.sesGo_closed hP | with_reducible apply Device.holdEnd_closed hP | with_reducible apply hP.wr | with_reducible apply Closed.when | split) | split | intro _ | dsimp only)

/-! ### Air -/

theorem Device.fillQuery_closed {d : Device} {n : Nat} {sel : Nat} (hPd : P d) : P (Device.fillQuery d n sel).2 := by
  unfold Device.fillQuery
  (try dsimp only)
  repeat' (first | with_reducible assumption | with_reducible exact fun _ hx => hx | with_reducible apply Device.modSes_closed hP | with_reducible apply hP.put | (with_reducible apply hP.lit <;> first | with_reducible assumption | exact id | exact fun _ => rfl | with_reducible exact fun _ hx => hx | with_reducible apply Device.modSes_closed hP | with_reducible apply hP.put | split) | split | intro _ | dsimp only)

theorem Device.checkpoint_closed {d : Device} {n : Nat} (hPd : P d) : P (Device.checkpoint d n) := by
  unfold Device.checkpoint
  (try dsimp only)
  repeat' (first | with_reducible assumption | with_reducible exact fun _ hx => hx | with_reducible apply Device.modSes_closed hP | with_reducible apply hP.addWrap | (with_reducible apply hP.lit <;> first | with_reducible assumption | exact id | exact fun _ => rfl | with_reducible exact fun _ hx => hx | with_reducible apply Device.modSes_closed hP | with_reducible apply hP.addWrap | split) | split | intro _ | dsimp only)

theorem commandCommit_closed {n : Nat} {d : Device} (hPd : P d) : P (commandCommit n d) := by
  unfold commandCommit
  (try dsimp only)
  repeat' (first | with_reducible assumption | with_reducible exact fun _ hx => hx | with_reducible apply Device.fillQuery_closed hP | with_reducible apply hP.put | with_reducible apply Device.modSes_closed hP | with_reducible apply Device.checkpoint_closed hP | with_reducible refine snd_of_eq (by assumption) ?_ | (with_reducible apply hP.lit <;> first | with_reducible assumption | exact id | exact fun _ => rfl | with_reducible exact fun _ hx => hx | with_reducible apply Device.fillQuery_closed hP | with_reducible apply hP.put | with_reducible apply Device.modSes_closed hP | with_reducible apply Device.checkpoint_closed hP | with_reducible refine snd_of_eq (by assumption) ?_ | split) | split | intro _ | dsimp only)

theorem commandStart_closed {n : Nat} {noiseA : Nat} {noiseB : Nat} {d : Device} (hPd : P d) : P (commandStart n noiseA noiseB d) := by
  unfold commandStart
  (try dsimp only)
  repeat' (first | with_reducible assumption | with_reducible exact fun _ hx => hx | with_reducible apply hP.put | with_reducible apply Device.modSes_closed hP | (with_reducible apply hP.lit <;> first | with_reducible assumption | exact id | exact fun _ => rfl | with_reducible exact fun _ hx => hx | with_reducible apply hP.put | with_reducible apply Device.modSes_closed hP | split) | split | intro _ | dsimp only)

theorem Device.accessOver_closed {d : Device} {n : Nat} (hPd : P d) : P (Device.accessOver d n) := by
  unfold Device.accessOver
  (try dsimp only)
  repeat' (first | with_reducible assumption | with_reducible exact fun _ hx => hx | with_reducible apply Device.sesDone_closed hP | with_reducible apply Device.modSes_closed hP | (with_reducible apply hP.lit <;> first | with_reducible assumption | exact id | exact fun _ => rfl | with_reducible exact fun _ hx => hx | with_reducible apply Device.sesDone_closed hP | with_reducible apply Device.modSes_closed hP | split) | split | intro _ | dsimp only)

theorem Device.planStep_closed {d : Device} {n : Nat} (hPd : P d) : P (Device.planStep d n) := by
  unfold Device.planStep
  (try dsimp only)
  repeat' (first | with_reducible assumption | with_reducible exact fun _ hx => hx | with_reducible apply Device.modSes_closed hP | (with_reducible apply hP.lit <;> first | with_reducible assumption | exact id | exact fun _ => rfl | with_reducible exact fun _ hx => hx | with_reducible apply Device.modSes_closed hP | split) | split | intro _ | dsimp only)

theorem Device.accNext_closed {d : Device} {n : Nat} {l : List Desc} (hPd : P d) : P (Device.accNext d n l) := by
  induction l generalizing d with
  | nil =>
    have h := Device.modSes_closed hP (n := n)
      (f := fun s => { s with run := none, chain := [], acc := { s.acc with steps := [], ending := true }, plan := [.queryRep] }) hPd
    unfold Device.accNext
    dsimp only
    split
    · exact Device.accessOver_closed hP h
    · exact Device.showFlight_closed hP h
  | cons y rest ih =>
    unfold Device.accNext
    split
    · exact ih (Device.retire_closed hP (Device.modSes_closed hP hPd))
    · dsimp only
      split
      · exact Device.planStep_closed hP (Device.modSes_closed hP (Device.modSes_closed hP hPd))
      · exact ih (Device.retire_closed hP (Device.modSes_closed hP (Device.modSes_closed hP hPd)))

theorem Device.accBreak_closed {d : Device} {n : Nat} (hPd : P d) : P (Device.accBreak d n) := by
  unfold Device.accBreak
  (try dsimp only)
  repeat' (first | with_reducible assumption | with_reducible exact fun _ hx => hx | with_reducible apply Closed.forAll | with_reducible apply Device.retire_closed hP | with_reducible apply Device.accNext_closed hP | with_reducible apply Device.modSes_closed hP | (with_reducible apply hP.lit <;> first | with_reducible assumption | exact id | exact fun _ => rfl | with_reducible exact fun _ hx => hx | with_reducible apply Closed.forAll | with_reducible apply Device.retire_closed hP | with_reducible apply Device.accNext_closed hP | with_reducible apply Device.modSes_closed hP | split) | split | intro _ | dsimp only)

theorem Device.accReport_closed {d : Device} {n : Nat} {x : Desc} {code : Nat} {tagCode : Nat} {checks : Nat} {bits : List Bool} (hPd : P d) : P (Device.accReport d n x code tagCode checks bits) := by
  unfold Device.accReport
  (try dsimp only)
  repeat' (first | with_reducible assumption | with_reducible exact fun _ hx => hx | with_reducible apply Device.accNext_closed hP | with_reducible apply Device.accessResult_closed hP | (with_reducible apply hP.lit <;> first | with_reducible assumption | exact id | exact fun _ => rfl | with_reducible exact fun _ hx => hx | with_reducible apply Device.accNext_closed hP | with_reducible apply Device.accessResult_closed hP | split) | split | intro _ | dsimp only)

theorem Device.accFail_closed {d : Device} {n : Nat} (hPd : P d) : P (Device.accFail d n) := by
  unfold Device.accFail
  (try dsimp only)
  repeat' (first | with_reducible assumption | with_reducible exact fun _ hx => hx | with_reducible apply Device.planStep_closed hP | with_reducible apply Device.modSes_closed hP | with_reducible apply Device.accBreak_closed hP | with_reducible apply Device.accessResult_closed hP | (with_reducible apply hP.lit <;> first | with_reducible assumption | exact id | exact fun _ => rfl | with_reducible exact fun _ hx => hx | with_reducible apply Device.planStep_closed hP | with_reducible apply Device.modSes_closed hP | with_reducible apply Device.accBreak_closed hP | with_reducible apply Device.accessResult_closed hP | split) | split | intro _ | dsimp only)

theorem Device.accStepDone_closed {d : Device} {n : Nat} {x : Desc} {data : List Bool} (hPd : P d) : P (Device.accStepDone d n x data) := by
  unfold Device.accStepDone
  (try dsimp only)
  repeat' (first | with_reducible assumption | with_reducible exact fun _ hx => hx | with_reducible apply Device.accReport_closed hP | with_reducible apply Device.planStep_closed hP | with_reducible apply Device.modSes_closed hP | (with_reducible apply hP.lit <;> first | with_reducible assumption | exact id | exact fun _ => rfl | with_reducible exact fun _ hx => hx | with_reducible apply Device.accReport_closed hP | with_reducible apply Device.planStep_closed hP | with_reducible apply Device.modSes_closed hP | split) | split | intro _ | dsimp only)

theorem Device.crcFailed_closed {d : Device} {n : Nat} (hPd : P d) : P (Device.crcFailed d n) := by
  unfold Device.crcFailed
  (try dsimp only)
  repeat' (first | with_reducible assumption | with_reducible exact fun _ hx => hx | with_reducible apply hP.count | (with_reducible apply hP.lit <;> first | with_reducible assumption | exact id | exact fun _ => rfl | with_reducible exact fun _ hx => hx | with_reducible apply hP.count | split) | split | intro _ | dsimp only)

theorem Device.accJudge_closed {d : Device} {n : Nat} {coded : Bool} {bits : List Bool} (hPd : P d) : P (Device.accJudge d n coded bits) := by
  unfold Device.accJudge
  (try dsimp only)
  repeat' (first | with_reducible assumption | with_reducible exact fun _ hx => hx | with_reducible apply Device.accFail_closed hP | with_reducible apply Device.crcFailed_closed hP | with_reducible apply Device.accStepDone_closed hP | with_reducible apply Device.modSes_closed hP | with_reducible apply Device.accReport_closed hP | with_reducible apply Device.accBreak_closed hP | with_reducible apply Device.accessResult_closed hP | with_reducible apply Closed.when | (with_reducible apply hP.lit <;> first | with_reducible assumption | exact id | exact fun _ => rfl | with_reducible exact fun _ hx => hx | with_reducible apply Device.accFail_closed hP | with_reducible apply Device.crcFailed_closed hP | with_reducible apply Device.accStepDone_closed hP | with_reducible apply Device.modSes_closed hP | with_reducible apply Device.accReport_closed hP | with_reducible apply Device.accBreak_closed hP | with_reducible apply Device.accessResult_closed hP | with_reducible apply Closed.when | split) | split | intro _ | dsimp only)

theorem commandEnd_closed {n : Nat} {d : Device} (hPd : P d) : P (commandEnd n d) := by
  unfold commandEnd
  (try dsimp only)
  repeat' (first | with_reducible assumption | with_reducible exact fun _ hx => hx | with_reducible apply Device.modSes_closed hP | with_reducible apply Device.accessOver_closed hP | with_reducible apply Device.accReport_closed hP | with_reducible apply Device.noLevel_closed hP | (with_reducible apply hP.lit <;> first | with_reducible assumption | exact id | exact fun _ => rfl | with_reducible exact fun _ hx => hx | with_reducible apply Device.modSes_closed hP | with_reducible apply Device.accessOver_closed hP | with_reducible apply Device.accReport_closed hP | with_reducible apply Device.noLevel_closed hP | split) | split | intro _ | dsimp only)

theorem Device.rxTake_closed {d : Device} {n : Nat} (hPd : P d) : P (Device.rxTake d n) := by
  unfold Device.rxTake
  (try dsimp only)
  repeat' (first | with_reducible assumption | with_reducible exact fun _ hx => hx | with_reducible apply Device.noiseRestart_closed hP | with_reducible apply Device.putRx_closed hP | with_reducible apply Device.modStream_closed hP | (with_reducible apply hP.lit <;> first | with_reducible assumption | exact id | exact fun _ => rfl | with_reducible exact fun _ hx => hx | with_reducible apply Device.noiseRestart_closed hP | with_reducible apply Device.putRx_closed hP | with_reducible apply Device.modStream_closed hP | split) | split | intro _ | dsimp only)

theorem replyWindowOpen_closed {n : Nat} {d : Device} (hPd : P d) : P (replyWindowOpen n d) := by
  unfold replyWindowOpen
  (try dsimp only)
  repeat' (first | with_reducible assumption | with_reducible exact fun _ hx => hx | with_reducible apply Device.rxTake_closed hP | with_reducible apply Device.modSes_closed hP | (with_reducible apply hP.lit <;> first | with_reducible assumption | exact id | exact fun _ => rfl | with_reducible exact fun _ hx => hx | with_reducible apply Device.rxTake_closed hP | with_reducible apply Device.modSes_closed hP | split) | split | intro _ | dsimp only)

theorem replyWindowClose_closed {n : Nat} {d : Device} (hPd : P d) : P (replyWindowClose n d) := by
  unfold replyWindowClose
  (try dsimp only)
  repeat' (first | with_reducible assumption | with_reducible exact fun _ hx => hx | with_reducible apply Device.modSes_closed hP | (with_reducible apply hP.lit <;> first | with_reducible assumption | exact id | exact fun _ => rfl | with_reducible exact fun _ hx => hx | with_reducible apply Device.modSes_closed hP | split) | split | intro _ | dsimp only)

theorem Device.estAsk_closed {d : Device} {n : Nat} (hPd : P d) : P (Device.estAsk d n) := by
  unfold Device.estAsk
  (try dsimp only)
  repeat' (first | with_reducible assumption | with_reducible exact fun _ hx => hx | with_reducible apply hP.put | with_reducible apply Device.modSes_closed hP | (with_reducible apply hP.lit <;> first | with_reducible assumption | exact id | exact fun _ => rfl | with_reducible exact fun _ hx => hx | with_reducible apply hP.put | with_reducible apply Device.modSes_closed hP | split) | split | intro _ | dsimp only)

theorem preambleDetect_closed {n : Nat} {a : Int} {b : Int} {early : Bool} {d : Device} (hPd : P d) : P (preambleDetect n a b early d) := by
  unfold preambleDetect
  (try dsimp only)
  repeat' (first | with_reducible assumption | with_reducible exact fun _ hx => hx | with_reducible apply Device.modSes_closed hP | with_reducible apply hP.count | with_reducible apply hP.putB | with_reducible apply Device.estAsk_closed hP | (with_reducible apply hP.lit <;> first | with_reducible assumption | exact id | exact fun _ => rfl | with_reducible exact fun _ hx => hx | with_reducible apply Device.modSes_closed hP | with_reducible apply hP.count | with_reducible apply hP.putB | with_reducible apply Device.estAsk_closed hP | split) | split | intro _ | dsimp only)

theorem Device.rxShow_closed {d : Device} {n : Nat} {tpri : Nat} (hPd : P d) : P (Device.rxShow d n tpri) := by
  unfold Device.rxShow
  (try dsimp only)
  repeat' (first | with_reducible assumption | with_reducible exact fun _ hx => hx | with_reducible apply Device.divOpen_closed hP | with_reducible apply hP.wr | with_reducible apply Device.divNearest_closed hP | with_reducible apply hP.putSat | with_reducible apply hP.put | with_reducible refine snd_of_eq (by assumption) ?_ | (with_reducible apply hP.lit <;> first | with_reducible assumption | exact id | exact fun _ => rfl | with_reducible exact fun _ hx => hx | with_reducible apply Device.divOpen_closed hP | with_reducible apply hP.wr | with_reducible apply Device.divNearest_closed hP | with_reducible apply hP.putSat | with_reducible apply hP.put | with_reducible refine snd_of_eq (by assumption) ?_ | split) | split | intro _ | dsimp only)

theorem Device.berthFill_closed {d : Device} {n : Nat} {r : Reply} (hPd : P d) : P (Device.berthFill d n r) := by
  unfold Device.berthFill
  (try dsimp only)
  repeat' (first | with_reducible assumption | with_reducible exact fun _ hx => hx | with_reducible apply hP.putB | with_reducible apply hP.put | with_reducible apply Device.holdAsk_closed hP | with_reducible apply hP.sramBytes | with_reducible apply hP.optBytes | (with_reducible apply hP.lit <;> first | with_reducible assumption | exact id | exact fun _ => rfl | with_reducible exact fun _ hx => hx | with_reducible apply hP.putB | with_reducible apply hP.put | with_reducible apply Device.holdAsk_closed hP | with_reducible apply hP.sramBytes | with_reducible apply hP.optBytes | split) | split | intro _ | dsimp only)

theorem Device.rxEnd_closed {d : Device} {n : Nat} {r : Reply} (hPd : P d) : P (Device.rxEnd d n r) := by
  unfold Device.rxEnd
  (try dsimp only)
  repeat' (first | with_reducible assumption | with_reducible exact fun _ hx => hx | with_reducible apply Device.rxShow_closed hP | with_reducible apply Device.modSes_closed hP | with_reducible apply Device.berthFill_closed hP | (with_reducible apply hP.lit <;> first | with_reducible assumption | exact id | exact fun _ => rfl | with_reducible exact fun _ hx => hx | with_reducible apply Device.rxShow_closed hP | with_reducible apply Device.modSes_closed hP | with_reducible apply Device.berthFill_closed hP | split) | split | intro _ | dsimp only)

theorem Device.ackFail_closed {d : Device} {n : Nat} (hPd : P d) : P (Device.ackFail d n) := by
  unfold Device.ackFail
  (try dsimp only)
  repeat' (first | with_reducible assumption | with_reducible exact fun _ hx => hx | with_reducible apply Device.modSes_closed hP | with_reducible apply Device.slotDecided_closed hP | (with_reducible apply hP.lit <;> first | with_reducible assumption | exact id | exact fun _ => rfl | with_reducible exact fun _ hx => hx | with_reducible apply Device.modSes_closed hP | with_reducible apply Device.slotDecided_closed hP | split) | split | intro _ | dsimp only)

theorem Device.singulated_closed {d : Device} {n : Nat} {pc : Nat} {x1 : Nat} {x2 : Nat} {epc : List Byte} (hPd : P d) : P (Device.singulated d n pc x1 x2 epc) := by
  unfold Device.singulated
  (try dsimp only)
  repeat' (first | with_reducible assumption | with_reducible exact fun _ hx => hx | with_reducible apply Device.slotDecided_closed hP | with_reducible apply Device.sightedOnly_closed hP | with_reducible apply Device.sighted_closed hP | with_reducible apply Device.modSes_closed hP | (with_reducible apply hP.lit <;> first | with_reducible assumption | exact id | exact fun _ => rfl | with_reducible exact fun _ hx => hx | with_reducible apply Device.slotDecided_closed hP | with_reducible apply Device.sightedOnly_closed hP | with_reducible apply Device.sighted_closed hP | with_reducible apply Device.modSes_closed hP | split) | split | intro _ | dsimp only)

theorem Device.rn16Decided_closed {d : Device} {n : Nat} {rn : Nat} (hPd : P d) : P (Device.rn16Decided d n rn) := by
  unfold Device.rn16Decided
  (try dsimp only)
  repeat' (first | with_reducible assumption | with_reducible exact fun _ hx => hx | with_reducible apply Device.modSes_closed hP | with_reducible apply Device.holdAsk_closed hP | with_reducible apply hP.count | (with_reducible apply hP.lit <;> first | with_reducible assumption | exact id | exact fun _ => rfl | with_reducible exact fun _ hx => hx | with_reducible apply Device.modSes_closed hP | with_reducible apply Device.holdAsk_closed hP | with_reducible apply hP.count | split) | split | intro _ | dsimp only)

theorem replyDecision_closed {n : Nat} {r : Reply} {d : Device} (hPd : P d) : P (replyDecision n r d) := by
  unfold replyDecision
  (try dsimp only)
  repeat' (first | with_reducible assumption | with_reducible exact fun _ hx => hx | with_reducible apply Device.rxEnd_closed hP | with_reducible apply Device.ackFail_closed hP | with_reducible apply Device.singulated_closed hP | with_reducible apply Device.crcFailed_closed hP | with_reducible apply Device.rn16Decided_closed hP | with_reducible apply Device.slotDecided_closed hP | (with_reducible apply hP.lit <;> first | with_reducible assumption | exact id | exact fun _ => rfl | with_reducible exact fun _ hx => hx | with_reducible apply Device.rxEnd_closed hP | with_reducible apply Device.ackFail_closed hP | with_reducible apply Device.singulated_closed hP | with_reducible apply Device.crcFailed_closed hP | with_reducible apply Device.rn16Decided_closed hP | with_reducible apply Device.slotDecided_closed hP | split) | split | intro _ | dsimp only)

theorem accessReplyDecision_closed {n : Nat} {r : Reply} {d : Device} (hPd : P d) : P (accessReplyDecision n r d) := by
  unfold accessReplyDecision
  (try dsimp only)
  repeat' (first | with_reducible assumption | with_reducible exact fun _ hx => hx | with_reducible apply Device.checkpoint_closed hP | with_reducible apply Device.accJudge_closed hP | with_reducible apply Device.rxEnd_closed hP | (with_reducible apply hP.lit <;> first | with_reducible assumption | exact id | exact fun _ => rfl | with_reducible exact fun _ hx => hx | with_reducible apply Device.checkpoint_closed hP | with_reducible apply Device.accJudge_closed hP | with_reducible apply Device.rxEnd_closed hP | split) | split | intro _ | dsimp only)

theorem Device.noReply_closed {d : Device} {n : Nat} {empty : Bool} (hPd : P d) : P (Device.noReply d n empty) := by
  unfold Device.noReply
  (try dsimp only)
  repeat' (first | with_reducible assumption | with_reducible exact fun _ hx => hx | with_reducible apply Device.accFail_closed hP | with_reducible apply Device.noLevel_closed hP | with_reducible apply Device.ackFail_closed hP | with_reducible apply Device.slotDecided_closed hP | (with_reducible apply hP.lit <;> first | with_reducible assumption | exact id | exact fun _ => rfl | with_reducible exact fun _ hx => hx | with_reducible apply Device.accFail_closed hP | with_reducible apply Device.noLevel_closed hP | with_reducible apply Device.ackFail_closed hP | with_reducible apply Device.slotDecided_closed hP | split) | split | intro _ | dsimp only)

theorem emptySlotDecision_closed {n : Nat} {d : Device} (hPd : P d) : P (emptySlotDecision n d) := by
  unfold emptySlotDecision
  (try dsimp only)
  repeat' (first | with_reducible assumption | with_reducible exact fun _ hx => hx | with_reducible apply Device.noReply_closed hP | with_reducible apply Device.modSes_closed hP | with_reducible apply Closed.when | with_reducible apply Device.endRound_closed hP | (with_reducible apply hP.lit <;> first | with_reducible assumption | exact id | exact fun _ => rfl | with_reducible exact fun _ hx => hx | with_reducible apply Device.noReply_closed hP | with_reducible apply Device.modSes_closed hP | with_reducible apply Closed.when | with_reducible apply Device.endRound_closed hP | split) | split | intro _ | dsimp only)

theorem receptionFailed_closed {n : Nat} {tpri : Nat} {d : Device} (hPd : P d) : P (receptionFailed n tpri d) := by
  unfold receptionFailed
  (try dsimp only)
  repeat' (first | with_reducible assumption | with_reducible exact fun _ hx => hx | with_reducible apply Device.noReply_closed hP | with_reducible apply Device.modSes_closed hP | with_reducible apply Device.rxShow_closed hP | (with_reducible apply hP.lit <;> first | with_reducible assumption | exact id | exact fun _ => rfl | with_reducible exact fun _ hx => hx | with_reducible apply Device.noReply_closed hP | with_reducible apply Device.modSes_closed hP | with_reducible apply Device.rxShow_closed hP | split) | split | intro _ | dsimp only)

theorem delayedReplyTimeout_closed {n : Nat} {d : Device} (hPd : P d) : P (delayedReplyTimeout n d) := by
  unfold delayedReplyTimeout
  (try dsimp only)
  repeat' (first | with_reducible assumption | with_reducible exact fun _ hx => hx | with_reducible apply Device.accFail_closed hP | with_reducible apply Device.noLevel_closed hP | with_reducible apply Device.modSes_closed hP | (with_reducible apply hP.lit <;> first | with_reducible assumption | exact id | exact fun _ => rfl | with_reducible exact fun _ hx => hx | with_reducible apply Device.accFail_closed hP | with_reducible apply Device.noLevel_closed hP | with_reducible apply Device.modSes_closed hP | split) | split | intro _ | dsimp only)

theorem Device.claimTurn_closed {d : Device} {n : Nat} (hPd : P d) : P (Device.claimTurn d n) := by
  unfold Device.claimTurn
  (try dsimp only)
  repeat' (first | with_reducible assumption | with_reducible exact fun _ hx => hx | with_reducible apply Device.holdAsk_closed hP | with_reducible apply Device.modSes_closed hP | with_reducible apply Device.setTurn_closed hP | (with_reducible apply hP.lit <;> first | with_reducible assumption | exact id | exact fun _ => rfl | with_reducible exact fun _ hx => hx | with_reducible apply Device.holdAsk_closed hP | with_reducible apply Device.modSes_closed hP | with_reducible apply Device.setTurn_closed hP | split) | split | intro _ | dsimp only)

theorem roundStart_closed {n : Nat} {d : Device} (hPd : P d) : P (roundStart n d) := by
  unfold roundStart
  (try dsimp only)
  repeat' (first | with_reducible assumption | with_reducible exact fun _ hx => hx | with_reducible apply Device.claimTurn_closed hP | with_reducible apply Device.retireRun_closed hP | with_reducible apply Closed.when | with_reducible apply hP.put | with_reducible apply Device.modSes_closed hP | with_reducible apply Device.sesGo_closed hP | (with_reducible apply hP.lit <;> first | with_reducible assumption | exact id | exact fun _ => rfl | with_reducible exact fun _ hx => hx | with_reducible apply Device.claimTurn_closed hP | with_reducible apply Device.retireRun_closed hP | with_reducible apply Closed.when | with_reducible apply hP.put | with_reducible apply Device.modSes_closed hP | with_reducible apply Device.sesGo_closed hP | split) | split | intro _ | dsimp only)

theorem Device.finishRound_closed {d : Device} {n : Nat} {x : Desc} (hPd : P d) : P (Device.finishRound d n x) := by
  unfold Device.finishRound
  (try dsimp only)
  repeat' (first | with_reducible assumption | with_reducible exact fun _ hx => hx | with_reducible apply Closed.when | with_reducible apply hP.putB | with_reducible apply Device.endRound_closed hP | with_reducible apply Device.sesDone_closed hP | with_reducible apply Device.modSes_closed hP | with_reducible apply Device.nextRound_closed hP | with_reducible apply Device.retireRun_closed hP | (with_reducible apply hP.lit <;> first | with_reducible assumption | exact id | exact fun _ => rfl | with_reducible exact fun _ hx => hx | with_reducible apply Closed.when | with_reducible apply hP.putB | with_reducible apply Device.endRound_closed hP | with_reducible apply Device.sesDone_closed hP | with_reducible apply Device.modSes_closed hP | with_reducible apply Device.nextRound_closed hP | with_reducible apply Device.retireRun_closed hP | split) | split | intro _ | dsimp only)

theorem roundEnd_closed {n : Nat} {d : Device} (hPd : P d) : P (roundEnd n d) := by
  unfold roundEnd
  (try dsimp only)
  repeat' (first | with_reducible assumption | with_reducible exact fun _ hx => hx | with_reducible apply Device.finishRound_closed hP | (with_reducible apply hP.lit <;> first | with_reducible assumption | exact id | exact fun _ => rfl | with_reducible exact fun _ hx => hx | with_reducible apply Device.finishRound_closed hP | split) | split | intro _ | dsimp only)

theorem accessSequenceStart_closed {n : Nat} {d : Device} (hPd : P d) : P (accessSequenceStart n d) := by
  unfold accessSequenceStart
  (try dsimp only)
  repeat' (first | with_reducible assumption | with_reducible exact fun _ hx => hx | with_reducible apply Device.modSes_closed hP | with_reducible apply Device.planStep_closed hP | (with_reducible apply hP.lit <;> first | with_reducible assumption | exact id | exact fun _ => rfl | with_reducible exact fun _ hx => hx | with_reducible apply Device.modSes_closed hP | with_reducible apply Device.planStep_closed hP | split) | split | intro _ | dsimp only)

theorem turnEnd_closed {n : Nat} {d : Device} (hPd : P d) : P (turnEnd n d) := by
  unfold turnEnd
  (try dsimp only)
  repeat' (first | with_reducible assumption | with_reducible exact fun _ hx => hx | with_reducible apply Device.modSes_closed hP | with_reducible apply Device.setTurn_closed hP | with_reducible apply Device.turnPass_closed hP | with_reducible apply Closed.when | with_reducible apply Device.holdAsk_closed hP | (with_reducible apply hP.lit <;> first | with_reducible assumption | exact id | exact fun _ => rfl | with_reducible exact fun _ hx => hx | with_reducible apply Device.modSes_closed hP | with_reducible apply Device.setTurn_closed hP | with_reducible apply Device.turnPass_closed hP | with_reducible apply Closed.when | with_reducible apply Device.holdAsk_closed hP | split) | split | intro _ | dsimp only)

/-! ### Hkadc -/

theorem Device.hkShow_closed {d : Device} (hPd : P d) : P (Device.hkShow d) := by
  unfold Device.hkShow
  (try dsimp only)
  repeat' (first | with_reducible assumption | with_reducible exact fun _ hx => hx | with_reducible apply hP.put | (with_reducible apply hP.lit <;> first | with_reducible assumption | exact id | exact fun _ => rfl | with_reducible exact fun _ hx => hx | with_reducible apply hP.put | split) | split | intro _ | dsimp only)

theorem Device.hkBegin_closed {d : Device} (hPd : P d) : P (Device.hkBegin d) := by
  unfold Device.hkBegin
  (try dsimp only)
  repeat' (first | with_reducible assumption | with_reducible exact fun _ hx => hx | with_reducible apply hP.put | with_reducible apply Device.hkShow_closed hP | (with_reducible apply hP.lit <;> first | with_reducible assumption | exact id | exact fun _ => rfl | with_reducible exact fun _ hx => hx | with_reducible apply hP.put | with_reducible apply Device.hkShow_closed hP | split) | split | intro _ | dsimp only)

theorem Device.hkTrigger_closed {d : Device} (hPd : P d) : P (Device.hkTrigger d) := by
  unfold Device.hkTrigger
  (try dsimp only)
  repeat' (first | with_reducible assumption | with_reducible exact fun _ hx => hx | with_reducible apply Device.irq_closed hP | with_reducible apply hP.count | with_reducible apply hP.put | with_reducible apply Device.hkBegin_closed hP | (with_reducible apply hP.lit <;> first | with_reducible assumption | exact id | exact fun _ => rfl | with_reducible exact fun _ hx => hx | with_reducible apply Device.irq_closed hP | with_reducible apply hP.count | with_reducible apply hP.put | with_reducible apply Device.hkBegin_closed hP | split) | split | intro _ | dsimp only)

theorem Device.hkTriggerFrom_closed {d : Device} {src : Nat} (hPd : P d) : P (Device.hkTriggerFrom d src) := by
  unfold Device.hkTriggerFrom
  (try dsimp only)
  repeat' (first | with_reducible assumption | with_reducible exact fun _ hx => hx | with_reducible apply Device.hkTrigger_closed hP | (with_reducible apply hP.lit <;> first | with_reducible assumption | exact id | exact fun _ => rfl | with_reducible exact fun _ hx => hx | with_reducible apply Device.hkTrigger_closed hP | split) | split | intro _ | dsimp only)

theorem Device.hkCode_closed {d : Device} {input : Nat} {raw : Nat} (hPd : P d) : P (Device.hkCode d input raw).2 := by
  unfold Device.hkCode
  (try dsimp only)
  repeat' (first | with_reducible assumption | with_reducible exact fun _ hx => hx | with_reducible apply Device.divNearest_closed hP | with_reducible refine snd_of_eq (by assumption) ?_ | (with_reducible apply hP.lit <;> first | with_reducible assumption | exact id | exact fun _ => rfl | with_reducible exact fun _ hx => hx | with_reducible apply Device.divNearest_closed hP | with_reducible refine snd_of_eq (by assumption) ?_ | split) | split | intro _ | dsimp only)

theorem Device.hkMean_closed {d : Device} {input : Nat} {raws : List Nat} (hPd : P d) : P (Device.hkMean d input raws).2 := by
  have h : ∀ (l : List Nat) (acc : Nat × Device), P acc.2 →
      P (l.foldl (fun acc r => (acc.1 + (acc.2.hkCode input r).1, (acc.2.hkCode input r).2)) acc).2 := by
    intro l
    induction l with
    | nil => exact fun _ ha => ha
    | cons r t ih => exact fun acc ha => ih _ (Device.hkCode_closed hP ha)
  exact Device.divNearest_closed hP (h raws (0, d) hPd)

theorem Device.hkSequenceEnd_closed {d : Device} (hPd : P d) : P (Device.hkSequenceEnd d) := by
  unfold Device.hkSequenceEnd
  (try dsimp only)
  repeat' (first | with_reducible assumption | with_reducible exact fun _ hx => hx | with_reducible apply Device.irq_closed hP | with_reducible apply hP.put | with_reducible apply hP.addWrap | with_reducible apply Device.hkBegin_closed hP | with_reducible apply Device.hkShow_closed hP | (with_reducible apply hP.lit <;> first | with_reducible assumption | exact id | exact fun _ => rfl | with_reducible exact fun _ hx => hx | with_reducible apply Device.irq_closed hP | with_reducible apply hP.put | with_reducible apply hP.addWrap | with_reducible apply Device.hkBegin_closed hP | with_reducible apply Device.hkShow_closed hP | split) | split | intro _ | dsimp only)

theorem hkEntryDone_closed {raws : List Nat} {d : Device} (hPd : P d) : P (hkEntryDone raws d) := by
  unfold hkEntryDone
  (try dsimp only)
  repeat' (first | with_reducible assumption | with_reducible exact fun _ hx => hx | with_reducible apply Device.hkMean_closed hP | with_reducible apply hP.put | with_reducible apply hP.putB | with_reducible apply hP.wr | with_reducible apply Device.irq_closed hP | with_reducible apply Device.hkSequenceEnd_closed hP | with_reducible refine snd_of_eq (by assumption) ?_ | (with_reducible apply hP.lit <;> first | with_reducible assumption | exact id | exact fun _ => rfl | with_reducible exact fun _ hx => hx | with_reducible apply Device.hkMean_closed hP | with_reducible apply hP.put | with_reducible apply hP.putB | with_reducible apply hP.wr | with_reducible apply Device.irq_closed hP | with_reducible apply Device.hkSequenceEnd_closed hP | with_reducible refine snd_of_eq (by assumption) ?_ | split) | split | intro _ | dsimp only)

theorem Device.hkStop_closed {d : Device} (hPd : P d) : P (Device.hkStop d) := by
  unfold Device.hkStop
  (try dsimp only)
  repeat' (first | with_reducible assumption | with_reducible exact fun _ hx => hx | with_reducible apply Device.hkShow_closed hP | with_reducible apply hP.put | (with_reducible apply hP.lit <;> first | with_reducible assumption | exact id | exact fun _ => rfl | with_reducible exact fun _ hx => hx | with_reducible apply Device.hkShow_closed hP | with_reducible apply hP.put | split) | split | intro _ | dsimp only)

theorem Device.hkRotation_closed {d : Device} (hPd : P d) : P (Device.hkRotation d) := by
  unfold Device.hkRotation
  (try dsimp only)
  repeat' (first | with_reducible assumption | with_reducible exact fun _ hx => hx | with_reducible apply hP.put | with_reducible apply hP.putS | with_reducible apply Closed.when | with_reducible apply Device.irq_closed hP | (with_reducible apply hP.lit <;> first | with_reducible assumption | exact id | exact fun _ => rfl | with_reducible exact fun _ hx => hx | with_reducible apply hP.put | with_reducible apply hP.putS | with_reducible apply Closed.when | with_reducible apply Device.irq_closed hP | split) | split | intro _ | dsimp only)

theorem hkSupervisor_closed {raw : Nat} {d : Device} (hPd : P d) : P (hkSupervisor raw d) := by
  unfold hkSupervisor
  (try dsimp only)
  repeat' (first | with_reducible assumption | with_reducible exact fun _ hx => hx | with_reducible apply Device.hkRotation_closed hP | (with_reducible apply hP.lit <;> first | with_reducible assumption | exact id | exact fun _ => rfl | with_reducible exact fun _ hx => hx | with_reducible apply Device.hkRotation_closed hP | split) | split | intro _ | dsimp only)

theorem Device.hkUrgent_closed {d : Device} {v : Word} (hPd : P d) : P (Device.hkUrgent d v) := by
  unfold Device.hkUrgent
  (try dsimp only)
  repeat' (first | with_reducible assumption | with_reducible exact fun _ hx => hx | with_reducible apply hP.put | with_reducible apply Device.hkShow_closed hP | (with_reducible apply hP.lit <;> first | with_reducible assumption | exact id | exact fun _ => rfl | with_reducible exact fun _ hx => hx | with_reducible apply hP.put | with_reducible apply Device.hkShow_closed hP | split) | split | intro _ | dsimp only)

theorem hkUrgentDone_closed {raw : Nat} {d : Device} (hPd : P d) : P (hkUrgentDone raw d) := by
  unfold hkUrgentDone
  (try dsimp only)
  repeat' (first | with_reducible assumption | with_reducible exact fun _ hx => hx | with_reducible apply Device.hkCode_closed hP | with_reducible apply Device.hkShow_closed hP | with_reducible apply hP.put | with_reducible apply hP.wr | with_reducible refine snd_of_eq (by assumption) ?_ | (with_reducible apply hP.lit <;> first | with_reducible assumption | exact id | exact fun _ => rfl | with_reducible exact fun _ hx => hx | with_reducible apply Device.hkCode_closed hP | with_reducible apply Device.hkShow_closed hP | with_reducible apply hP.put | with_reducible apply hP.wr | with_reducible refine snd_of_eq (by assumption) ?_ | split) | split | intro _ | dsimp only)

theorem Device.hkSyscal_closed {d : Device} {full : Bool} (hPd : P d) : P (Device.hkSyscal d full) := by
  unfold Device.hkSyscal
  (try dsimp only)
  repeat' (first | with_reducible assumption | with_reducible exact fun _ hx => hx | with_reducible apply Device.hkShow_closed hP | with_reducible apply hP.putB | with_reducible apply hP.put | (with_reducible apply hP.lit <;> first | with_reducible assumption | exact id | exact fun _ => rfl | with_reducible exact fun _ hx => hx | with_reducible apply Device.hkShow_closed hP | with_reducible apply hP.putB | with_reducible apply hP.put | split) | split | intro _ | dsimp only)

theorem Device.hkSyscalEnd_closed {d : Device} {result : Nat} (hPd : P d) : P (Device.hkSyscalEnd d result) := by
  unfold Device.hkSyscalEnd
  (try dsimp only)
  repeat' (first | with_reducible assumption | with_reducible exact fun _ hx => hx | with_reducible apply Device.irq_closed hP | with_reducible apply hP.put | with_reducible apply Device.hkShow_closed hP | with_reducible apply Device.hkBegin_closed hP | (with_reducible apply hP.lit <;> first | with_reducible assumption | exact id | exact fun _ => rfl | with_reducible exact fun _ hx => hx | with_reducible apply Device.irq_closed hP | with_reducible apply hP.put | with_reducible apply Device.hkShow_closed hP | with_reducible apply Device.hkBegin_closed hP | split) | split | intro _ | dsimp only)

theorem syscalStepDone_closed {sum1 : Int} {sum2 : Int} {d : Device} (hPd : P d) : P (syscalStepDone sum1 sum2 d) := by
  unfold syscalStepDone
  (try dsimp only)
  repeat' (first | with_reducible assumption | with_reducible exact fun _ hx => hx | with_reducible apply Device.hkSyscalEnd_closed hP | with_reducible apply Device.divOpen_closed hP | with_reducible apply hP.putS | with_reducible apply Device.divNearest_closed hP | with_reducible apply hP.put | with_reducible refine snd_of_eq (by assumption) ?_ | (with_reducible apply hP.lit <;> first | with_reducible assumption | exact id | exact fun _ => rfl | with_reducible exact fun _ hx => hx | with_reducible apply Device.hkSyscalEnd_closed hP | with_reducible apply Device.divOpen_closed hP | with_reducible apply hP.putS | with_reducible apply Device.divNearest_closed hP | with_reducible apply hP.put | with_reducible refine snd_of_eq (by assumption) ?_ | split) | split | intro _ | dsimp only)

theorem hkWritten_closed {off : Nat} {v : Word} {d : Device} (hPd : P d) : P (hkWritten off v d) := by
  unfold hkWritten
  (try dsimp only)
  repeat' (first | with_reducible assumption | with_reducible exact fun _ hx => hx | with_reducible apply Closed.when | with_reducible apply Device.hkStop_closed hP | with_reducible apply Device.hkTrigger_closed hP | with_reducible apply Device.hkSyscal_closed hP | with_reducible apply Device.hkUrgent_closed hP | with_reducible apply hP.wr | (with_reducible apply hP.lit <;> first | with_reducible assumption | exact id | exact fun _ => rfl | with_reducible exact fun _ hx => hx | with_reducible apply Closed.when | with_reducible apply Device.hkStop_closed hP | with_reducible apply Device.hkTrigger_closed hP | with_reducible apply Device.hkSyscal_closed hP | with_reducible apply Device.hkUrgent_closed hP | with_reducible apply hP.wr | split) | split | intro _ | dsimp only)

theorem hkBlockReset_closed {d : Device} (hPd : P d) : P (hkBlockReset d) := by
  unfold hkBlockReset
  (try dsimp only)
  repeat' (first | with_reducible assumption | with_reducible exact fun _ hx => hx | (with_reducible apply hP.lit <;> first | with_reducible assumption | exact id | exact fun _ => rfl | with_reducible exact fun _ hx => hx | split) | split | intro _ | dsimp only)

/-! ### Pins -/

theorem Device.trigOutEvent_closed {d : Device} {k : Nat} (hPd : P d) : P (Device.trigOutEvent d k) := by
  unfold Device.trigOutEvent
  (try dsimp only)
  repeat' (first | with_reducible assumption | with_reducible exact fun _ hx => hx | with_reducible apply hP.putB | (with_reducible apply hP.lit <;> first | with_reducible assumption | exact id | exact fun _ => rfl | with_reducible exact fun _ hx => hx | with_reducible apply hP.putB | split) | split | intro _ | dsimp only)

theorem Device.trigOutFrom_closed {d : Device} {k : Nat} {src : Nat} (hPd : P d) : P (Device.trigOutFrom d k src) := by
  unfold Device.trigOutFrom
  (try dsimp only)
  repeat' (first | with_reducible assumption | with_reducible exact fun _ hx => hx | with_reducible apply Device.trigOutEvent_closed hP | (with_reducible apply hP.lit <;> first | with_reducible assumption | exact id | exact fun _ => rfl | with_reducible exact fun _ hx => hx | with_reducible apply Device.trigOutEvent_closed hP | split) | split | intro _ | dsimp only)

theorem trigOutPulseEnd_closed {k : Nat} {d : Device} (hPd : P d) : P (trigOutPulseEnd k d) := by
  unfold trigOutPulseEnd
  (try dsimp only)
  repeat' (first | with_reducible assumption | with_reducible exact fun _ hx => hx | with_reducible apply hP.putB | (with_reducible apply hP.lit <;> first | with_reducible assumption | exact id | exact fun _ => rfl | with_reducible exact fun _ hx => hx | with_reducible apply hP.putB | split) | split | intro _ | dsimp only)

theorem pinsWritten_closed {off : Nat} {v : Word} {d : Device} (hPd : P d) : P (pinsWritten off v d) := by
  unfold pinsWritten
  (try dsimp only)
  repeat' (first | with_reducible assumption | with_reducible exact fun _ hx => hx | with_reducible apply Closed.forAll | with_reducible apply Device.trigOutFrom_closed hP | (with_reducible apply hP.lit <;> first | with_reducible assumption | exact id | exact fun _ => rfl | with_reducible exact fun _ hx => hx | with_reducible apply Closed.forAll | with_reducible apply Device.trigOutFrom_closed hP | split) | split | intro _ | dsimp only)

theorem pinsBlockReset_closed {d : Device} (hPd : P d) : P (pinsBlockReset d) := by
  unfold pinsBlockReset
  (try dsimp only)
  repeat' (first | with_reducible assumption | with_reducible exact fun _ hx => hx | (with_reducible apply hP.lit <;> first | with_reducible assumption | exact id | exact fun _ => rfl | with_reducible exact fun _ hx => hx | split) | split | intro _ | dsimp only)

/-! ### Timers -/

theorem Device.setTide_closed {d : Device} {t : Nat} (hPd : P d) : P (Device.setTide d t) := by
  unfold Device.setTide
  (try dsimp only)
  repeat' (first | with_reducible assumption | with_reducible exact fun _ hx => hx | with_reducible apply hP.wr | (with_reducible apply hP.lit <;> first | with_reducible assumption | exact id | exact fun _ => rfl | with_reducible exact fun _ hx => hx | with_reducible apply hP.wr | split) | split | intro _ | dsimp only)

theorem Device.tideTick_closed {d : Device} (hPd : P d) : P (Device.tideTick d) := by
  unfold Device.tideTick
  (try dsimp only)
  repeat' (first | with_reducible assumption | with_reducible exact fun _ hx => hx | with_reducible apply Device.setTide_closed hP | (with_reducible apply hP.lit <;> first | with_reducible assumption | exact id | exact fun _ => rfl | with_reducible exact fun _ hx => hx | with_reducible apply Device.setTide_closed hP | split) | split | intro _ | dsimp only)

theorem Device.tideStepped_closed {d : Device} {ticks : Int} (hPd : P d) : P (Device.tideStepped d ticks) := by
  unfold Device.tideStepped
  (try dsimp only)
  repeat' (first | with_reducible assumption | with_reducible exact fun _ hx => hx | with_reducible apply hP.count | with_reducible apply hP.wr | with_reducible apply hP.put | (with_reducible apply hP.lit <;> first | with_reducible assumption | exact id | exact fun _ => rfl | with_reducible exact fun _ hx => hx | with_reducible apply hP.count | with_reducible apply hP.wr | with_reducible apply hP.put | split) | split | intro _ | dsimp only)

theorem tideWritten_closed {off : Nat} {v : Word} {d : Device} (hPd : P d) : P (tideWritten off v d) := by
  unfold tideWritten
  (try dsimp only)
  repeat' (first | with_reducible assumption | with_reducible exact fun _ hx => hx | with_reducible apply hP.put | with_reducible apply hP.wr | (with_reducible apply hP.lit <;> first | with_reducible assumption | exact id | exact fun _ => rfl | with_reducible exact fun _ hx => hx | with_reducible apply hP.put | with_reducible apply hP.wr | split) | split | intro _ | dsimp only)

theorem Device.modTimer_closed {d : Device} {k : Nat} {f : TimerSt → TimerSt} (hPd : P d) : P (Device.modTimer d k f) := by
  unfold Device.modTimer
  (try dsimp only)
  repeat' (first | with_reducible assumption | with_reducible exact fun _ hx => hx | (with_reducible apply hP.lit <;> first | with_reducible assumption | exact id | exact fun _ => rfl | with_reducible exact fun _ hx => hx | split) | split | intro _ | dsimp only)

theorem Device.setTmCount_closed {d : Device} {k : Nat} {n : Nat} (hPd : P d) : P (Device.setTmCount d k n) := by
  unfold Device.setTmCount
  (try dsimp only)
  repeat' (first | with_reducible assumption | with_reducible exact fun _ hx => hx | with_reducible apply hP.wr | (with_reducible apply hP.lit <;> first | with_reducible assumption | exact id | exact fun _ => rfl | with_reducible exact fun _ hx => hx | with_reducible apply hP.wr | split) | split | intro _ | dsimp only)

theorem Device.tmIrq_closed {d : Device} {k : Nat} {e : Nat} (hPd : P d) : P (Device.tmIrq d k e) := by
  unfold Device.tmIrq
  (try dsimp only)
  repeat' (first | with_reducible assumption | with_reducible exact fun _ hx => hx | with_reducible apply Device.irq_closed hP | (with_reducible apply hP.lit <;> first | with_reducible assumption | exact id | exact fun _ => rfl | with_reducible exact fun _ hx => hx | with_reducible apply Device.irq_closed hP | split) | split | intro _ | dsimp only)

theorem Device.tmOut_closed {d : Device} {k : Nat} {on : Bool} (hPd : P d) : P (Device.tmOut d k on) := by
  unfold Device.tmOut
  (try dsimp only)
  repeat' (first | with_reducible assumption | with_reducible exact fun _ hx => hx | with_reducible apply hP.putB | (with_reducible apply hP.lit <;> first | with_reducible assumption | exact id | exact fun _ => rfl | with_reducible exact fun _ hx => hx | with_reducible apply hP.putB | split) | split | intro _ | dsimp only)

theorem Device.tmMatch_closed {d : Device} {k : Nat} (hPd : P d) : P (Device.tmMatch d k) := by
  unfold Device.tmMatch
  (try dsimp only)
  repeat' (first | with_reducible assumption | with_reducible exact fun _ hx => hx | with_reducible apply Device.tmIrq_closed hP | with_reducible apply Device.modTimer_closed hP | with_reducible apply Device.tmOut_closed hP | (with_reducible apply hP.lit <;> first | with_reducible assumption | exact id | exact fun _ => rfl | with_reducible exact fun _ hx => hx | with_reducible apply Device.tmIrq_closed hP | with_reducible apply Device.modTimer_closed hP | with_reducible apply Device.tmOut_closed hP | split) | split | intro _ | dsimp only)

theorem Device.tmTurn_closed {d : Device} {k : Nat} (hPd : P d) : P (Device.tmTurn d k) := by
  unfold Device.tmTurn
  (try dsimp only)
  repeat' (first | with_reducible assumption | with_reducible exact fun _ hx => hx | with_reducible apply Device.tmIrq_closed hP | with_reducible apply Device.modTimer_closed hP | with_reducible apply hP.put | (with_reducible apply hP.lit <;> first | with_reducible assumption | exact id | exact fun _ => rfl | with_reducible exact fun _ hx => hx | with_reducible apply Device.tmIrq_closed hP | with_reducible apply Device.modTimer_closed hP | with_reducible apply hP.put | split) | split | intro _ | dsimp only)

theorem timerTop_closed {k : Nat} {d : Device} (hPd : P d) : P (timerTop k d) := by
  unfold timerTop
  (try dsimp only)
  repeat' (first | with_reducible assumption | with_reducible exact fun _ hx => hx | with_reducible apply Device.tmTurn_closed hP | with_reducible apply Device.tmMatch_closed hP | (with_reducible apply hP.lit <;> first | with_reducible assumption | exact id | exact fun _ => rfl | with_reducible exact fun _ hx => hx | with_reducible apply Device.tmTurn_closed hP | with_reducible apply Device.tmMatch_closed hP | split) | split | intro _ | dsimp only)

theorem timerMatch_closed {k : Nat} {d : Device} (hPd : P d) : P (timerMatch k d) := by
  unfold timerMatch
  (try dsimp only)
  repeat' (first | with_reducible assumption | with_reducible exact fun _ hx => hx | with_reducible apply Device.tmMatch_closed hP | (with_reducible apply hP.lit <;> first | with_reducible assumption | exact id | exact fun _ => rfl | with_reducible exact fun _ hx => hx | with_reducible apply Device.tmMatch_closed hP | split) | split | intro _ | dsimp only)

theorem Device.zeroTriggers_closed {d : Device} {k : Nat} (hPd : P d) : P (Device.zeroTriggers d k) := by
  unfold Device.zeroTriggers
  (try dsimp only)
  repeat' (first | with_reducible assumption | with_reducible exact fun _ hx => hx | with_reducible apply Device.hkTriggerFrom_closed hP | with_reducible apply Device.trigOutFrom_closed hP | (with_reducible apply hP.lit <;> first | with_reducible assumption | exact id | exact fun _ => rfl | with_reducible exact fun _ hx => hx | with_reducible apply Device.hkTriggerFrom_closed hP | with_reducible apply Device.trigOutFrom_closed hP | split) | split | intro _ | dsimp only)

theorem Device.tmZero_closed {d : Device} {k : Nat} (hPd : P d) : P (Device.tmZero d k) := by
  unfold Device.tmZero
  (try dsimp only)
  repeat' (first | with_reducible assumption | with_reducible exact fun _ hx => hx | with_reducible apply Device.tmIrq_closed hP | with_reducible apply Device.modTimer_closed hP | with_reducible apply hP.wr | with_reducible apply hP.put | with_reducible apply Device.tmOut_closed hP | with_reducible apply Device.zeroTriggers_closed hP | (with_reducible apply hP.lit <;> first | with_reducible assumption | exact id | exact fun _ => rfl | with_reducible exact fun _ hx => hx | with_reducible apply Device.tmIrq_closed hP | with_reducible apply Device.modTimer_closed hP | with_reducible apply hP.wr | with_reducible apply hP.put | with_reducible apply Device.tmOut_closed hP | with_reducible apply Device.zeroTriggers_closed hP | split) | split | intro _ | dsimp only)

theorem Device.tmSettle_closed {d : Device} {k : Nat} (hPd : P d) : P (Device.tmSettle d k) := by
  unfold Device.tmSettle
  (try dsimp only)
  repeat' (first | with_reducible assumption | with_reducible exact fun _ hx => hx | with_reducible apply timerMatch_closed hP | with_reducible apply Device.tmTurn_closed hP | with_reducible apply Device.tmZero_closed hP | (with_reducible apply hP.lit <;> first | with_reducible assumption | exact id | exact fun _ => rfl | with_reducible exact fun _ hx => hx | with_reducible apply timerMatch_closed hP | with_reducible apply Device.tmTurn_closed hP | with_reducible apply Device.tmZero_closed hP | split) | split | intro _ | dsimp only)

theorem Device.tmAdvance_closed {d : Device} {k : Nat} (hPd : P d) : P (Device.tmAdvance d k) := by
  unfold Device.tmAdvance
  (try dsimp only)
  repeat' (first | with_reducible assumption | with_reducible exact fun _ hx => hx | with_reducible apply Device.tmOut_closed hP | with_reducible apply Device.modTimer_closed hP | with_reducible apply Device.setTmCount_closed hP | (with_reducible apply hP.lit <;> first | with_reducible assumption | exact id | exact fun _ => rfl | with_reducible exact fun _ hx => hx | with_reducible apply Device.tmOut_closed hP | with_reducible apply Device.modTimer_closed hP | with_reducible apply Device.setTmCount_closed hP | split) | split | intro _ | dsimp only)

theorem Device.tmSourceOnce_closed {d : Device} {k : Nat} (hPd : P d) : P (Device.tmSourceOnce d k) := by
  unfold Device.tmSourceOnce
  (try dsimp only)
  repeat' (first | with_reducible assumption | with_reducible exact fun _ hx => hx | with_reducible apply Device.tmAdvance_closed hP | with_reducible apply Device.tmSettle_closed hP | with_reducible apply Device.modTimer_closed hP | (with_reducible apply hP.lit <;> first | with_reducible assumption | exact id | exact fun _ => rfl | with_reducible exact fun _ hx => hx | with_reducible apply Device.tmAdvance_closed hP | with_reducible apply Device.tmSettle_closed hP | with_reducible apply Device.modTimer_closed hP | split) | split | intro _ | dsimp only)

theorem Device.tmChain_closed {fuel : Nat} {d : Device} {k : Nat} (hPd : P d) : P (Device.tmChain fuel d k) := by
  induction fuel generalizing d k with
  | zero => exact hPd
  | succ n ih =>
    unfold Device.tmChain
    (try dsimp only)
    repeat' (first | with_reducible assumption | with_reducible exact fun _ hx => hx | with_reducible apply ih | with_reducible apply Device.tmSourceOnce_closed hP | with_reducible apply Device.tmZero_closed hP | with_reducible apply timerMatch_closed hP | (with_reducible apply hP.lit <;> first | with_reducible assumption | exact id | exact fun _ => rfl | with_reducible exact fun _ hx => hx | with_reducible apply Device.tmSourceOnce_closed hP | with_reducible apply Device.tmZero_closed hP | with_reducible apply timerMatch_closed hP | split) | split | intro _ | dsimp only)

theorem timerZero_closed {k : Nat} {d : Device} (hPd : P d) : P (timerZero k d) := by
  unfold timerZero
  (try dsimp only)
  repeat' (first | with_reducible assumption | with_reducible exact fun _ hx => hx | with_reducible apply timerMatch_closed hP | with_reducible apply Device.tmChain_closed hP | with_reducible apply Device.tmZero_closed hP | (with_reducible apply hP.lit <;> first | with_reducible assumption | exact id | exact fun _ => rfl | with_reducible exact fun _ hx => hx | with_reducible apply timerMatch_closed hP | with_reducible apply Device.tmChain_closed hP | with_reducible apply Device.tmZero_closed hP | split) | split | intro _ | dsimp only)

theorem timerSource_closed {k : Nat} {d : Device} (hPd : P d) : P (timerSource k d) := by
  unfold timerSource
  (try dsimp only)
  repeat' (first | with_reducible assumption | with_reducible exact fun _ hx => hx | with_reducible apply Device.tmSourceOnce_closed hP | with_reducible apply timerZero_closed hP | with_reducible apply timerTop_closed hP | (with_reducible apply hP.lit <;> first | with_reducible assumption | exact id | exact fun _ => rfl | with_reducible exact fun _ hx => hx | with_reducible apply Device.tmSourceOnce_closed hP | with_reducible apply timerZero_closed hP | with_reducible apply timerTop_closed hP | split) | split | intro _ | dsimp only)

theorem Device.tmPin_closed {d : Device} {k : Nat} {high : Bool} (hPd : P d) : P (Device.tmPin d k high) := by
  unfold Device.tmPin
  (try dsimp only)
  repeat' (first | with_reducible assumption | with_reducible exact fun _ hx => hx | (with_reducible apply hP.lit <;> first | with_reducible assumption | exact id | exact fun _ => rfl | with_reducible exact fun _ hx => hx | split) | split | intro _ | dsimp only)

theorem timerGate_closed {k : Nat} {high : Bool} {d : Device} (hPd : P d) : P (timerGate k high d) := by
  unfold timerGate
  (try dsimp only)
  repeat' (first | with_reducible assumption | with_reducible exact fun _ hx => hx | with_reducible apply Device.tmPin_closed hP | with_reducible apply hP.putB | (with_reducible apply hP.lit <;> first | with_reducible assumption | exact id | exact fun _ => rfl | with_reducible exact fun _ hx => hx | with_reducible apply Device.tmPin_closed hP | with_reducible apply hP.putB | split) | split | intro _ | dsimp only)

theorem timerCapture_closed {k : Nat} {high : Bool} {d : Device} (hPd : P d) : P (timerCapture k high d) := by
  unfold timerCapture
  (try dsimp only)
  repeat' (first | with_reducible assumption | with_reducible exact fun _ hx => hx | with_reducible apply Device.tmPin_closed hP | with_reducible apply Closed.when | with_reducible apply hP.put | with_reducible apply Device.tmIrq_closed hP | with_reducible apply Device.modTimer_closed hP | with_reducible apply hP.wr | (with_reducible apply hP.lit <;> first | with_reducible assumption | exact id | exact fun _ => rfl | with_reducible exact fun _ hx => hx | with_reducible apply Device.tmPin_closed hP | with_reducible apply Closed.when | with_reducible apply hP.put | with_reducible apply Device.tmIrq_closed hP | with_reducible apply Device.modTimer_closed hP | with_reducible apply hP.wr | split) | split | intro _ | dsimp only)

theorem Device.tmStart_closed {d : Device} {k : Nat} (hPd : P d) : P (Device.tmStart d k) := by
  unfold Device.tmStart
  (try dsimp only)
  repeat' (first | with_reducible assumption | with_reducible exact fun _ hx => hx | with_reducible apply hP.wr | with_reducible apply hP.put | with_reducible apply Device.modTimer_closed hP | with_reducible apply hP.putB | (with_reducible apply hP.lit <;> first | with_reducible assumption | exact id | exact fun _ => rfl | with_reducible exact fun _ hx => hx | with_reducible apply hP.wr | with_reducible apply hP.put | with_reducible apply Device.modTimer_closed hP | with_reducible apply hP.putB | split) | split | intro _ | dsimp only)

theorem Device.tmStop_closed {d : Device} {k : Nat} (hPd : P d) : P (Device.tmStop d k) := by
  unfold Device.tmStop
  (try dsimp only)
  repeat' (first | with_reducible assumption | with_reducible exact fun _ hx => hx | with_reducible apply hP.put | (with_reducible apply hP.lit <;> first | with_reducible assumption | exact id | exact fun _ => rfl | with_reducible exact fun _ hx => hx | with_reducible apply hP.put | split) | split | intro _ | dsimp only)

theorem Device.tmLateMatch_closed {d : Device} {k : Nat} (hPd : P d) : P (Device.tmLateMatch d k) := by
  unfold Device.tmLateMatch
  (try dsimp only)
  repeat' (first | with_reducible assumption | with_reducible exact fun _ hx => hx | with_reducible apply Device.tmMatch_closed hP | with_reducible apply hP.put | (with_reducible apply hP.lit <;> first | with_reducible assumption | exact id | exact fun _ => rfl | with_reducible exact fun _ hx => hx | with_reducible apply Device.tmMatch_closed hP | with_reducible apply hP.put | split) | split | intro _ | dsimp only)

theorem Device.tmTopNow_closed {d : Device} {k : Nat} (hPd : P d) : P (Device.tmTopNow d k) := by
  unfold Device.tmTopNow
  (try dsimp only)
  repeat' (first | with_reducible assumption | with_reducible exact fun _ hx => hx | with_reducible apply hP.wr | with_reducible apply Device.tmTurn_closed hP | with_reducible apply hP.put | (with_reducible apply hP.lit <;> first | with_reducible assumption | exact id | exact fun _ => rfl | with_reducible exact fun _ hx => hx | with_reducible apply hP.wr | with_reducible apply Device.tmTurn_closed hP | with_reducible apply hP.put | split) | split | intro _ | dsimp only)

theorem tmWritten_closed {page : Nat} {off : Nat} {v : Word} {old : Device} {d : Device} (hPd : P d) : P (tmWritten page off v old d) := by
  unfold tmWritten
  (try dsimp only)
  repeat' (first | with_reducible assumption | with_reducible exact fun _ hx => hx | with_reducible apply Closed.forAll | with_reducible apply Device.tmStart_closed hP | with_reducible apply Device.tmStop_closed hP | with_reducible apply Device.modTimer_closed hP | with_reducible apply Device.tmTopNow_closed hP | with_reducible apply Device.tmLateMatch_closed hP | (with_reducible apply hP.lit <;> first | with_reducible assumption | exact id | exact fun _ => rfl | with_reducible exact fun _ hx => hx | with_reducible apply Closed.forAll | with_reducible apply Device.tmStart_closed hP | with_reducible apply Device.tmStop_closed hP | with_reducible apply Device.modTimer_closed hP | with_reducible apply Device.tmTopNow_closed hP | with_reducible apply Device.tmLateMatch_closed hP | split) | split | intro _ | dsimp only)

theorem tmBlockReset_closed {page : Nat} {d : Device} (hPd : P d) : P (tmBlockReset page d) := by
  unfold tmBlockReset
  (try dsimp only)
  repeat' (first | with_reducible assumption | with_reducible exact fun _ hx => hx | with_reducible apply Closed.forAll | with_reducible apply Device.modTimer_closed hP | (with_reducible apply hP.lit <;> first | with_reducible assumption | exact id | exact fun _ => rfl | with_reducible exact fun _ hx => hx | with_reducible apply Closed.forAll | with_reducible apply Device.modTimer_closed hP | split) | split | intro _ | dsimp only)

/-! ### Kloit -/

theorem Device.modKl_closed {d : Device} {f : KlSt → KlSt} (hf : ∀ s, s.reqs = [] → (f s).reqs = []) (hPd : P d) : P (Device.modKl d f) :=
  hP.other d _ hPd rfl rfl rfl rfl (hf d.kl) id

theorem Device.modPort_closed {d : Device} {k : Nat} {f : KlPortSt → KlPortSt} (hPd : P d) : P (Device.modPort d k f) := by
  unfold Device.modPort
  (try dsimp only)
  repeat' (first | with_reducible assumption | with_reducible exact fun _ hx => hx | with_reducible apply Device.modKl_closed hP | (with_reducible apply hP.lit <;> first | with_reducible assumption | exact id | exact fun _ => rfl | with_reducible exact fun _ hx => hx | with_reducible apply Device.modKl_closed hP | split) | split | intro _ | dsimp only)

theorem Device.showCredits_closed {d : Device} {k : Nat} (hPd : P d) : P (Device.showCredits d k) := by
  unfold Device.showCredits
  (try dsimp only)
  repeat' (first | with_reducible assumption | with_reducible exact fun _ hx => hx | with_reducible apply hP.put | (with_reducible apply hP.lit <;> first | with_reducible assumption | exact id | exact fun _ => rfl | with_reducible exact fun _ hx => hx | with_reducible apply hP.put | split) | split | intro _ | dsimp only)

theorem Device.frameSend_closed {d : Device} {k : Nat} {f : KlFrame} (hPd : P d) : P (Device.frameSend d k f) := by
  unfold Device.frameSend
  (try dsimp only)
  repeat' (first | with_reducible assumption | with_reducible exact fun _ hx => hx | with_reducible apply Device.showCredits_closed hP | with_reducible apply Device.modPort_closed hP | (with_reducible apply hP.lit <;> first | with_reducible assumption | exact id | exact fun _ => rfl | with_reducible exact fun _ hx => hx | with_reducible apply Device.showCredits_closed hP | with_reducible apply Device.modPort_closed hP | split) | split | intro _ | dsimp only)

theorem Device.bufferUse_closed {d : Device} {k : Nat} {c : Nat} {n : Nat} (hPd : P d) : P (Device.bufferUse d k c n) := by
  unfold Device.bufferUse
  (try dsimp only)
  repeat' (first | with_reducible assumption | with_reducible exact fun _ hx => hx | with_reducible apply Device.modPort_closed hP | (with_reducible apply hP.lit <;> first | with_reducible assumption | exact id | exact fun _ => rfl | with_reducible exact fun _ hx => hx | with_reducible apply Device.modPort_closed hP | split) | split | intro _ | dsimp only)

theorem Device.bufferFree_closed {d : Device} {k : Nat} {c : Nat} {n : Nat} (hPd : P d) : P (Device.bufferFree d k c n) := by
  unfold Device.bufferFree
  (try dsimp only)
  repeat' (first | with_reducible assumption | with_reducible exact fun _ hx => hx | with_reducible apply Device.modPort_closed hP | (with_reducible apply hP.lit <;> first | with_reducible assumption | exact id | exact fun _ => rfl | with_reducible exact fun _ hx => hx | with_reducible apply Device.modPort_closed hP | split) | split | intro _ | dsimp only)

theorem Device.pumpUp_closed {d : Device} {y1 : Nat} (hPd : P d) : P (Device.pumpUp d y1) := by
  induction y1 generalizing d with
  | zero => exact hPd
  | succ n ih =>
    unfold Device.pumpUp
    (try dsimp only)
    repeat' (first | with_reducible assumption | with_reducible exact fun _ hx => hx | with_reducible apply ih | with_reducible apply Device.bufferFree_closed hP | with_reducible apply Device.frameSend_closed hP | with_reducible apply Device.modKl_closed hP | (with_reducible apply hP.lit <;> first | with_reducible assumption | exact id | exact fun _ => rfl | with_reducible exact fun _ hx => hx | with_reducible apply Device.bufferFree_closed hP | with_reducible apply Device.frameSend_closed hP | with_reducible apply Device.modKl_closed hP | split) | split | intro _ | dsimp only)

theorem Device.pumpDown_closed {d : Device} {k : Nat} {y2 : Nat} (hPd : P d) : P (Device.pumpDown d k y2) := by
  induction y2 generalizing d with
  | zero => exact hPd
  | succ n ih =>
    unfold Device.pumpDown
    (try dsimp only)
    repeat' (first | with_reducible assumption | with_reducible exact fun _ hx => hx | with_reducible apply ih | with_reducible apply Device.bufferFree_closed hP | with_reducible apply Device.frameSend_closed hP | with_reducible apply Device.modPort_closed hP | (with_reducible apply hP.lit <;> first | with_reducible assumption | exact id | exact fun _ => rfl | with_reducible exact fun _ hx => hx | with_reducible apply Device.bufferFree_closed hP | with_reducible apply Device.frameSend_closed hP | with_reducible apply Device.modPort_closed hP | split) | split | intro _ | dsimp only)

theorem Device.pump_closed {d : Device} (hPd : P d) : P (Device.pump d) := by
  unfold Device.pump
  (try dsimp only)
  repeat' (first | with_reducible assumption | with_reducible exact fun _ hx => hx | with_reducible apply Closed.forAll | with_reducible apply Device.pumpUp_closed hP | with_reducible apply Device.pumpDown_closed hP | (with_reducible apply hP.lit <;> first | with_reducible assumption | exact id | exact fun _ => rfl | with_reducible exact fun _ hx => hx | with_reducible apply Closed.forAll | with_reducible apply Device.pumpUp_closed hP | with_reducible apply Device.pumpDown_closed hP | split) | split | intro _ | dsimp only)

theorem Device.sendUp_closed {d : Device} {s : Nat} {f : KlFrame} (hPd : P d) : P (Device.sendUp d s f) := by
  unfold Device.sendUp
  (try dsimp only)
  repeat' (first | with_reducible assumption | with_reducible exact fun _ hx => hx | with_reducible apply Device.pump_closed hP | with_reducible apply Device.modKl_closed hP | (with_reducible apply hP.lit <;> first | with_reducible assumption | exact id | exact fun _ => rfl | with_reducible exact fun _ hx => hx | with_reducible apply Device.pump_closed hP | with_reducible apply Device.modKl_closed hP | split) | split | intro _ | dsimp only)

theorem Device.sendDown_closed {d : Device} {s : Nat} {k : Nat} {f : KlFrame} (hPd : P d) : P (Device.sendDown d s k f) := by
  unfold Device.sendDown
  (try dsimp only)
  repeat' (first | with_reducible assumption | with_reducible exact fun _ hx => hx | with_reducible apply Device.pump_closed hP | with_reducible apply Device.modPort_closed hP | (with_reducible apply hP.lit <;> first | with_reducible assumption | exact id | exact fun _ => rfl | with_reducible exact fun _ hx => hx | with_reducible apply Device.pump_closed hP | with_reducible apply Device.modPort_closed hP | split) | split | intro _ | dsimp only)

theorem Device.broadcast_closed {d : Device} {f : KlFrame} (hPd : P d) : P (Device.broadcast d f) := by
  unfold Device.broadcast
  (try dsimp only)
  repeat' (first | with_reducible assumption | with_reducible exact fun _ hx => hx | with_reducible apply Closed.forAll | with_reducible apply Device.sendDown_closed hP | (with_reducible apply hP.lit <;> first | with_reducible assumption | exact id | exact fun _ => rfl | with_reducible exact fun _ hx => hx | with_reducible apply Closed.forAll | with_reducible apply Device.sendDown_closed hP | split) | split | intro _ | dsimp only)

theorem Device.klEvent_closed {d : Device} {e : Nat} {port : Nat} {other : Nat} {detail : Nat} (hPd : P d) : P (Device.klEvent d e port other detail) := by
  unfold Device.klEvent
  (try dsimp only)
  repeat' (first | with_reducible assumption | with_reducible exact fun _ hx => hx | with_reducible apply Device.modKl_closed hP | with_reducible apply Device.sendUp_closed hP | (with_reducible apply hP.lit <;> first | with_reducible assumption | exact id | exact fun _ => rfl | with_reducible exact fun _ hx => hx | with_reducible apply Device.modKl_closed hP | with_reducible apply Device.sendUp_closed hP | split) | split | intro _ | dsimp only)

theorem Device.showRatio_closed {d : Device} (hPd : P d) : P (Device.showRatio d) := by
  unfold Device.showRatio
  (try dsimp only)
  repeat' (first | with_reducible assumption | with_reducible exact fun _ hx => hx | with_reducible apply Device.divOpen_closed hP | with_reducible apply hP.wr | with_reducible refine snd_of_eq (by assumption) ?_ | (with_reducible apply hP.lit <;> first | with_reducible assumption | exact id | exact fun _ => rfl | with_reducible exact fun _ hx => hx | with_reducible apply Device.divOpen_closed hP | with_reducible apply hP.wr | with_reducible refine snd_of_eq (by assumption) ?_ | split) | split | intro _ | dsimp only)

theorem Device.syncGo_closed {d : Device} {s : Nat} (hPd : P d) : P (Device.syncGo d s) := by
  unfold Device.syncGo
  (try dsimp only)
  repeat' (first | with_reducible assumption | with_reducible exact fun _ hx => hx | with_reducible apply Device.klEvent_closed hP | with_reducible apply Device.irq_closed hP | with_reducible apply hP.put | (with_reducible apply hP.lit <;> first | with_reducible assumption | exact id | exact fun _ => rfl | with_reducible exact fun _ hx => hx | with_reducible apply Device.klEvent_closed hP | with_reducible apply Device.irq_closed hP | with_reducible apply hP.put | split) | split | intro _ | dsimp only)

theorem Device.groupGo_closed {d : Device} {s : Nat} (hPd : P d) : P (Device.groupGo d s) := by
  unfold Device.groupGo
  (try dsimp only)
  repeat' (first | with_reducible assumption | with_reducible exact fun _ hx => hx | with_reducible apply hP.put | with_reducible apply Device.modKl_closed hP | with_reducible apply Device.klEvent_closed hP | (with_reducible apply hP.lit <;> first | with_reducible assumption | exact id | exact fun _ => rfl | with_reducible exact fun _ hx => hx | with_reducible apply hP.put | with_reducible apply Device.modKl_closed hP | with_reducible apply Device.klEvent_closed hP | split) | split | intro _ | dsimp only)

theorem Device.groupApply_closed {d : Device} {corr : Int} {slope : Int} (hPd : P d) : P (Device.groupApply d corr slope) := by
  unfold Device.groupApply
  (try dsimp only)
  repeat' (first | with_reducible assumption | with_reducible exact fun _ hx => hx | with_reducible apply Device.modKl_closed hP | with_reducible apply Device.groupGo_closed hP | with_reducible apply hP.putS | (with_reducible apply hP.lit <;> first | with_reducible assumption | exact id | exact fun _ => rfl | with_reducible exact fun _ hx => hx | with_reducible apply Device.modKl_closed hP | with_reducible apply Device.groupGo_closed hP | with_reducible apply hP.putS | split) | split | intro _ | dsimp only)

theorem Device.groupLeave_closed {d : Device} (hPd : P d) : P (Device.groupLeave d) := by
  unfold Device.groupLeave
  (try dsimp only)
  repeat' (first | with_reducible assumption | with_reducible exact fun _ hx => hx | with_reducible apply Device.irq_closed hP | with_reducible apply Device.groupGo_closed hP | with_reducible apply hP.put | (with_reducible apply hP.lit <;> first | with_reducible assumption | exact id | exact fun _ => rfl | with_reducible exact fun _ hx => hx | with_reducible apply Device.irq_closed hP | with_reducible apply Device.groupGo_closed hP | with_reducible apply hP.put | split) | split | intro _ | dsimp only)

theorem Device.groupDue_closed {d : Device} (hPd : P d) : P (Device.groupDue d) := by
  unfold Device.groupDue
  (try dsimp only)
  repeat' (first | with_reducible assumption | with_reducible exact fun _ hx => hx | with_reducible apply hP.put | (with_reducible apply hP.lit <;> first | with_reducible assumption | exact id | exact fun _ => rfl | with_reducible exact fun _ hx => hx | with_reducible apply hP.put | split) | split | intro _ | dsimp only)

/-! ### Power -/

theorem Device.pwrSetState_closed {d : Device} {n : Nat} (hPd : P d) : P (Device.pwrSetState d n) := by
  unfold Device.pwrSetState
  (try dsimp only)
  repeat' (first | with_reducible assumption | with_reducible exact fun _ hx => hx | with_reducible apply Device.irq_closed hP | with_reducible apply hP.put | (with_reducible apply hP.lit <;> first | with_reducible assumption | exact id | exact fun _ => rfl | with_reducible exact fun _ hx => hx | with_reducible apply Device.irq_closed hP | with_reducible apply hP.put | split) | split | intro _ | dsimp only)

theorem Device.followPower_closed {d : Device} (hPd : P d) : P (Device.followPower d) := by
  unfold Device.followPower
  (try dsimp only)
  repeat' (first | with_reducible assumption | with_reducible exact fun _ hx => hx | with_reducible apply Device.pwrSetState_closed hP | (with_reducible apply hP.lit <;> first | with_reducible assumption | exact id | exact fun _ => rfl | with_reducible exact fun _ hx => hx | with_reducible apply Device.pwrSetState_closed hP | split) | split | intro _ | dsimp only)

theorem Device.sleepBegin_closed {d : Device} {layUp : Bool} (hPd : P d) : P (Device.sleepBegin d layUp) := by
  unfold Device.sleepBegin
  (try dsimp only)
  repeat' (first | with_reducible assumption | with_reducible exact fun _ hx => hx | (with_reducible apply hP.lit <;> first | with_reducible assumption | exact id | exact fun _ => rfl | with_reducible exact fun _ hx => hx | split) | split | intro _ | dsimp only)

theorem Device.wakeEdge_closed {d : Device} {s : Nat} (hPd : P d) : P (Device.wakeEdge d s) := by
  unfold Device.wakeEdge
  (try dsimp only)
  repeat' (first | with_reducible assumption | with_reducible exact fun _ hx => hx | with_reducible apply hP.count | (with_reducible apply hP.lit <;> first | with_reducible assumption | exact id | exact fun _ => rfl | with_reducible exact fun _ hx => hx | with_reducible apply hP.count | split) | split | intro _ | dsimp only)

theorem Device.wakePinChange_closed {d : Device} {k : Nat} {high : Bool} (hPd : P d) : P (Device.wakePinChange d k high) := by
  unfold Device.wakePinChange
  (try dsimp only)
  repeat' (first | with_reducible assumption | with_reducible exact fun _ hx => hx | with_reducible apply Closed.when | with_reducible apply hP.putB | with_reducible apply Device.wakeEdge_closed hP | (with_reducible apply hP.lit <;> first | with_reducible assumption | exact id | exact fun _ => rfl | with_reducible exact fun _ hx => hx | with_reducible apply Closed.when | with_reducible apply hP.putB | with_reducible apply Device.wakeEdge_closed hP | split) | split | intro _ | dsimp only)

theorem pwrWritten_closed {off : Nat} {v : Word} {d : Device} (hPd : P d) : P (pwrWritten off v d) := by
  unfold pwrWritten
  (try dsimp only)
  repeat' (first | with_reducible assumption | with_reducible exact fun _ hx => hx | with_reducible apply Device.followPower_closed hP | with_reducible apply Device.sleepBegin_closed hP | with_reducible apply Closed.when | with_reducible apply hP.wr | (with_reducible apply hP.lit <;> first | with_reducible assumption | exact id | exact fun _ => rfl | with_reducible exact fun _ hx => hx | with_reducible apply Device.followPower_closed hP | with_reducible apply Device.sleepBegin_closed hP | with_reducible apply Closed.when | with_reducible apply hP.wr | split) | split | intro _ | dsimp only)

end Sys2Proof.Machine
end

