-- ==== Sys2Proof/Laws/ClosedRadio.lean ====
section
/-!
SUPPORT. Each operation of Machine/Carriers.lean, Machine/Spares.lean, Machine/Paths.lean, Machine/Txs.lean, Machine/Calib.lean keeps every closed property of the device.
-/
set_option linter.unusedTactic false
set_option linter.unreachableTactic false
set_option linter.unusedSectionVars false
set_option linter.unusedVariables false
namespace Sys2Proof.Machine

variable {P : Device → Prop} (hP : Closed P)
include hP

/-! ### Carriers -/

theorem Device.setOccLog_closed {d : Device} {hz : Nat} {l : List (Nat × Nat)} (hPd : P d) : P (Device.setOccLog d hz l) := by
  unfold Device.setOccLog
  (try dsimp only)
  repeat' (first | with_reducible assumption | with_reducible exact fun _ hx => hx | (with_reducible apply hP.lit <;> first | with_reducible assumption | exact id | exact fun _ => rfl | with_reducible exact fun _ hx => hx | split) | split | intro _ | dsimp only)

theorem Device.carOnBegin_closed {d : Device} {c : Nat} (hPd : P d) : P (Device.carOnBegin d c) := by
  unfold Device.carOnBegin
  (try dsimp only)
  repeat' (first | with_reducible assumption | with_reducible exact fun _ hx => hx | with_reducible apply Device.modCar_closed hP | with_reducible apply Device.setOccLog_closed hP | (with_reducible apply hP.lit <;> first | with_reducible assumption | exact id | exact fun _ => rfl | with_reducible exact fun _ hx => hx | with_reducible apply Device.modCar_closed hP | with_reducible apply Device.setOccLog_closed hP | split) | split | intro _ | dsimp only)

theorem Device.carOnEnd_closed {d : Device} {c : Nat} (hPd : P d) : P (Device.carOnEnd d c) := by
  unfold Device.carOnEnd
  (try dsimp only)
  repeat' (first | with_reducible assumption | with_reducible exact fun _ hx => hx | with_reducible apply Device.modCar_closed hP | with_reducible apply Device.setOccLog_closed hP | (with_reducible apply hP.lit <;> first | with_reducible assumption | exact id | exact fun _ => rfl | with_reducible exact fun _ hx => hx | with_reducible apply Device.modCar_closed hP | with_reducible apply Device.setOccLog_closed hP | split) | split | intro _ | dsimp only)

theorem Device.permute_closed {d : Device} {n : Nat} {l : List Nat} (hPd : P d) : P (Device.permute d n l).2 := by
  induction n generalizing d l with
  | zero => exact hPd
  | succ n ih =>
    cases l with
    | nil => exact hPd
    | cons a l => exact ih (Device.takeFree_closed hP hPd)

theorem Device.pickChannel_closed {d : Device} {c : Nat} (hPd : P d) : P (Device.pickChannel d c).2 := by
  unfold Device.pickChannel
  (try dsimp only)
  repeat' (first | with_reducible assumption | with_reducible exact fun _ hx => hx | with_reducible apply Device.modCar_closed hP | with_reducible apply Device.permute_closed hP | with_reducible refine snd_of_eq (by assumption) ?_ | (with_reducible apply hP.lit <;> first | with_reducible assumption | exact id | exact fun _ => rfl | with_reducible exact fun _ hx => hx | with_reducible apply Device.modCar_closed hP | with_reducible apply Device.permute_closed hP | with_reducible refine snd_of_eq (by assumption) ?_ | split) | split | intro _ | dsimp only)

theorem Device.carGo_closed {d : Device} {c : Nat} {st : Nat} (hPd : P d) : P (Device.carGo d c st) := by
  unfold Device.carGo
  (try dsimp only)
  repeat' (first | with_reducible assumption | with_reducible exact fun _ hx => hx | with_reducible apply Closed.when | with_reducible apply Closed.forAll | with_reducible apply hP.put | (with_reducible apply hP.lit <;> first | with_reducible assumption | exact id | exact fun _ => rfl | with_reducible exact fun _ hx => hx | with_reducible apply Closed.when | with_reducible apply Closed.forAll | with_reducible apply hP.put | split) | split | intro _ | dsimp only)

theorem Device.carHold_closed {d : Device} {c : Nat} (hPd : P d) : P (Device.carHold d c) := by
  unfold Device.carHold
  (try dsimp only)
  repeat' (first | with_reducible assumption | with_reducible exact fun _ hx => hx | with_reducible apply Closed.forAll | with_reducible apply Device.holdAsk_closed hP | (with_reducible apply hP.lit <;> first | with_reducible assumption | exact id | exact fun _ => rfl | with_reducible exact fun _ hx => hx | with_reducible apply Closed.forAll | with_reducible apply Device.holdAsk_closed hP | split) | split | intro _ | dsimp only)

theorem Device.carFree_closed {d : Device} {c : Nat} (hPd : P d) : P (Device.carFree d c) := by
  unfold Device.carFree
  (try dsimp only)
  repeat' (first | with_reducible assumption | with_reducible exact fun _ hx => hx | with_reducible apply Closed.forAll | with_reducible apply Closed.when | with_reducible apply Device.holdEnd_closed hP | (with_reducible apply hP.lit <;> first | with_reducible assumption | exact id | exact fun _ => rfl | with_reducible exact fun _ hx => hx | with_reducible apply Closed.forAll | with_reducible apply Closed.when | with_reducible apply Device.holdEnd_closed hP | split) | split | intro _ | dsimp only)

theorem Device.carAbandon_closed {d : Device} {c : Nat} (hPd : P d) : P (Device.carAbandon d c) := by
  unfold Device.carAbandon
  (try dsimp only)
  repeat' (first | with_reducible assumption | with_reducible exact fun _ hx => hx | with_reducible apply Closed.forAll | with_reducible apply Device.carHold_closed hP | with_reducible apply Device.sesAbandon_closed hP | (with_reducible apply hP.lit <;> first | with_reducible assumption | exact id | exact fun _ => rfl | with_reducible exact fun _ hx => hx | with_reducible apply Closed.forAll | with_reducible apply Device.carHold_closed hP | with_reducible apply Device.sesAbandon_closed hP | split) | split | intro _ | dsimp only)

theorem Device.carUse_closed {d : Device} {c : Nat} {hz : Nat} (hPd : P d) : P (Device.carUse d c hz) := by
  unfold Device.carUse
  (try dsimp only)
  repeat' (first | with_reducible assumption | with_reducible exact fun _ hx => hx | with_reducible apply hP.wr | with_reducible apply Device.modCar_closed hP | (with_reducible apply hP.lit <;> first | with_reducible assumption | exact id | exact fun _ => rfl | with_reducible exact fun _ hx => hx | with_reducible apply hP.wr | with_reducible apply Device.modCar_closed hP | split) | split | intro _ | dsimp only)

theorem Device.carReadmit_closed {d : Device} {c : Nat} (hPd : P d) : P (Device.carReadmit d c) := by
  unfold Device.carReadmit
  (try dsimp only)
  repeat' (first | with_reducible assumption | with_reducible exact fun _ hx => hx | with_reducible apply Closed.forAll | with_reducible apply Device.resteerRx_closed hP | with_reducible apply Device.txEffect_closed hP | with_reducible apply Device.modStream_closed hP | with_reducible apply Device.askSteered_closed hP | with_reducible apply Device.admitTx_closed hP | with_reducible apply Device.modSes_closed hP | with_reducible apply Device.retireRun_closed hP | with_reducible apply Device.reglChanged_closed hP | with_reducible apply Device.groupsStale_closed hP | with_reducible refine snd_of_eq (by assumption) ?_ | (with_reducible apply hP.lit <;> first | with_reducible assumption | exact id | exact fun _ => rfl | with_reducible exact fun _ hx => hx | with_reducible apply Closed.forAll | with_reducible apply Device.resteerRx_closed hP | with_reducible apply Device.txEffect_closed hP | with_reducible apply Device.modStream_closed hP | with_reducible apply Device.askSteered_closed hP | with_reducible apply Device.admitTx_closed hP | with_reducible apply Device.modSes_closed hP | with_reducible apply Device.retireRun_closed hP | with_reducible apply Device.reglChanged_closed hP | with_reducible apply Device.groupsStale_closed hP | with_reducible refine snd_of_eq (by assumption) ?_ | split) | split | intro _ | dsimp only)

theorem Device.carEnOff_closed {d : Device} {c : Nat} (hPd : P d) : P (Device.carEnOff d c) := by
  unfold Device.carEnOff
  (try dsimp only)
  repeat' (first | with_reducible assumption | with_reducible exact fun _ hx => hx | with_reducible apply hP.put | with_reducible apply hP.mirror | (with_reducible apply hP.lit <;> first | with_reducible assumption | exact id | exact fun _ => rfl | with_reducible exact fun _ hx => hx | with_reducible apply hP.put | with_reducible apply hP.mirror | split) | split | intro _ | dsimp only)

theorem Device.carOff_closed {d : Device} {c : Nat} (hPd : P d) : P (Device.carOff d c) := by
  unfold Device.carOff
  (try dsimp only)
  repeat' (first | with_reducible assumption | with_reducible exact fun _ hx => hx | with_reducible apply Device.carGo_closed hP | with_reducible apply Device.carOnEnd_closed hP | with_reducible apply Device.carHold_closed hP | with_reducible apply hP.wr | with_reducible apply hP.put | with_reducible apply Device.reglChanged_closed hP | with_reducible apply Device.modCar_closed hP | with_reducible apply Closed.when | with_reducible apply Device.irq_closed hP | (with_reducible apply hP.lit <;> first | with_reducible assumption | exact id | exact fun _ => rfl | with_reducible exact fun _ hx => hx | with_reducible apply Device.carGo_closed hP | with_reducible apply Device.carOnEnd_closed hP | with_reducible apply Device.carHold_closed hP | with_reducible apply hP.wr | with_reducible apply hP.put | with_reducible apply Device.reglChanged_closed hP | with_reducible apply Device.modCar_closed hP | with_reducible apply Closed.when | with_reducible apply Device.irq_closed hP | split) | split | intro _ | dsimp only)

theorem Device.carRefuse_closed {d : Device} {c : Nat} {err : Nat} {reason : Nat} (hPd : P d) : P (Device.carRefuse d c err reason) := by
  unfold Device.carRefuse
  (try dsimp only)
  repeat' (first | with_reducible assumption | with_reducible exact fun _ hx => hx | with_reducible apply Closed.when | with_reducible apply Device.reglRefuse_closed hP | with_reducible apply Device.irq_closed hP | with_reducible apply hP.put | with_reducible apply Device.carEnOff_closed hP | with_reducible apply Closed.forAll | with_reducible apply Device.retireRun_closed hP | with_reducible apply Device.carOff_closed hP | (with_reducible apply hP.lit <;> first | with_reducible assumption | exact id | exact fun _ => rfl | with_reducible exact fun _ hx => hx | with_reducible apply Closed.when | with_reducible apply Device.reglRefuse_closed hP | with_reducible apply Device.irq_closed hP | with_reducible apply hP.put | with_reducible apply Device.carEnOff_closed hP | with_reducible apply Closed.forAll | with_reducible apply Device.retireRun_closed hP | with_reducible apply Device.carOff_closed hP | split) | split | intro _ | dsimp only)

theorem Device.carRampUp_closed {d : Device} {c : Nat} (hPd : P d) : P (Device.carRampUp d c) := by
  unfold Device.carRampUp
  (try dsimp only)
  repeat' (first | with_reducible assumption | with_reducible exact fun _ hx => hx | with_reducible apply Device.carGo_closed hP | with_reducible apply Device.carOnBegin_closed hP | with_reducible apply Device.modCar_closed hP | (with_reducible apply hP.lit <;> first | with_reducible assumption | exact id | exact fun _ => rfl | with_reducible exact fun _ hx => hx | with_reducible apply Device.carGo_closed hP | with_reducible apply Device.carOnBegin_closed hP | with_reducible apply Device.modCar_closed hP | split) | split | intro _ | dsimp only)

theorem Device.carListen_closed {d : Device} {c : Nat} (hPd : P d) : P (Device.carListen d c) := by
  unfold Device.carListen
  (try dsimp only)
  repeat' (first | with_reducible assumption | with_reducible exact fun _ hx => hx | with_reducible apply Device.carGo_closed hP | with_reducible apply Device.modCar_closed hP | with_reducible apply Device.carRampUp_closed hP | (with_reducible apply hP.lit <;> first | with_reducible assumption | exact id | exact fun _ => rfl | with_reducible exact fun _ hx => hx | with_reducible apply Device.carGo_closed hP | with_reducible apply Device.modCar_closed hP | with_reducible apply Device.carRampUp_closed hP | split) | split | intro _ | dsimp only)

theorem Device.carGrant_closed {d : Device} {c : Nat} (hPd : P d) : P (Device.carGrant d c) := by
  unfold Device.carGrant
  (try dsimp only)
  repeat' (first | with_reducible assumption | with_reducible exact fun _ hx => hx | with_reducible apply Device.carGo_closed hP | with_reducible apply Device.carListen_closed hP | (with_reducible apply hP.lit <;> first | with_reducible assumption | exact id | exact fun _ => rfl | with_reducible exact fun _ hx => hx | with_reducible apply Device.carGo_closed hP | with_reducible apply Device.carListen_closed hP | split) | split | intro _ | dsimp only)

theorem Device.carSynth_closed {d : Device} {c : Nat} (hPd : P d) : P (Device.carSynth d c) := by
  unfold Device.carSynth
  (try dsimp only)
  repeat' (first | with_reducible assumption | with_reducible exact fun _ hx => hx | with_reducible apply Device.carGrant_closed hP | with_reducible apply Device.carGo_closed hP | with_reducible apply Device.modCar_closed hP | (with_reducible apply hP.lit <;> first | with_reducible assumption | exact id | exact fun _ => rfl | with_reducible exact fun _ hx => hx | with_reducible apply Device.carGrant_closed hP | with_reducible apply Device.carGo_closed hP | with_reducible apply Device.modCar_closed hP | split) | split | intro _ | dsimp only)

theorem Device.carHeading_closed {d : Device} {c : Nat} (hPd : P d) : P (Device.carHeading d c) := by
  unfold Device.carHeading
  (try dsimp only)
  repeat' (first | with_reducible assumption | with_reducible exact fun _ hx => hx | with_reducible apply Device.modCar_closed hP | with_reducible apply Device.carOff_closed hP | with_reducible apply Device.carGo_closed hP | with_reducible apply Device.carGrant_closed hP | with_reducible apply Device.carRampUp_closed hP | (with_reducible apply hP.lit <;> first | with_reducible assumption | exact id | exact fun _ => rfl | with_reducible exact fun _ hx => hx | with_reducible apply Device.modCar_closed hP | with_reducible apply Device.carOff_closed hP | with_reducible apply Device.carGo_closed hP | with_reducible apply Device.carGrant_closed hP | with_reducible apply Device.carRampUp_closed hP | split) | split | intro _ | dsimp only)

theorem Device.synthContinue_closed {d : Device} (hPd : P d) : P (Device.synthContinue d) := by
  unfold Device.synthContinue
  (try dsimp only)
  repeat' (first | with_reducible assumption | with_reducible exact fun _ hx => hx | with_reducible apply Closed.forAll | with_reducible apply Device.carGrant_closed hP | with_reducible apply Device.carListen_closed hP | with_reducible apply Device.carRampUp_closed hP | with_reducible apply Device.carHeading_closed hP | (with_reducible apply hP.lit <;> first | with_reducible assumption | exact id | exact fun _ => rfl | with_reducible exact fun _ hx => hx | with_reducible apply Closed.forAll | with_reducible apply Device.carGrant_closed hP | with_reducible apply Device.carListen_closed hP | with_reducible apply Device.carRampUp_closed hP | with_reducible apply Device.carHeading_closed hP | split) | split | intro _ | dsimp only)

theorem Device.carStart_closed {d : Device} {c : Nat} (hPd : P d) : P (Device.carStart d c) := by
  unfold Device.carStart
  (try dsimp only)
  repeat' (first | with_reducible assumption | with_reducible exact fun _ hx => hx | with_reducible apply hP.put | with_reducible apply Device.modCar_closed hP | with_reducible apply Device.carSynth_closed hP | with_reducible apply Device.carReadmit_closed hP | with_reducible apply Device.carGo_closed hP | with_reducible apply Device.carUse_closed hP | with_reducible apply Device.carRefuse_closed hP | with_reducible apply Device.pickChannel_closed hP | with_reducible refine snd_of_eq (by assumption) ?_ | (with_reducible apply hP.lit <;> first | with_reducible assumption | exact id | exact fun _ => rfl | with_reducible exact fun _ hx => hx | with_reducible apply hP.put | with_reducible apply Device.modCar_closed hP | with_reducible apply Device.carSynth_closed hP | with_reducible apply Device.carReadmit_closed hP | with_reducible apply Device.carGo_closed hP | with_reducible apply Device.carUse_closed hP | with_reducible apply Device.carRefuse_closed hP | with_reducible apply Device.pickChannel_closed hP | with_reducible refine snd_of_eq (by assumption) ?_ | split) | split | intro _ | dsimp only)

theorem Device.carRestart_closed {d : Device} {c : Nat} (hPd : P d) : P (Device.carRestart d c) := by
  unfold Device.carRestart
  (try dsimp only)
  repeat' (first | with_reducible assumption | with_reducible exact fun _ hx => hx | with_reducible apply Device.carStart_closed hP | with_reducible apply hP.put | (with_reducible apply hP.lit <;> first | with_reducible assumption | exact id | exact fun _ => rfl | with_reducible exact fun _ hx => hx | with_reducible apply Device.carStart_closed hP | with_reducible apply hP.put | split) | split | intro _ | dsimp only)

theorem Device.carDrain_closed {d : Device} {c : Nat} {f : CarSt → CarSt} (hPd : P d) : P (Device.carDrain d c f) := by
  unfold Device.carDrain
  (try dsimp only)
  repeat' (first | with_reducible assumption | with_reducible exact fun _ hx => hx | with_reducible apply Device.carHold_closed hP | with_reducible apply Device.carGo_closed hP | with_reducible apply Device.modCar_closed hP | (with_reducible apply hP.lit <;> first | with_reducible assumption | exact id | exact fun _ => rfl | with_reducible exact fun _ hx => hx | with_reducible apply Device.carHold_closed hP | with_reducible apply Device.carGo_closed hP | with_reducible apply Device.modCar_closed hP | split) | split | intro _ | dsimp only)

theorem Device.carOn_closed {d : Device} {c : Nat} (hPd : P d) : P (Device.carOn d c) := by
  unfold Device.carOn
  (try dsimp only)
  repeat' (first | with_reducible assumption | with_reducible exact fun _ hx => hx | with_reducible apply Closed.when | with_reducible apply hP.addWrap | with_reducible apply hP.put | with_reducible apply Device.modCar_closed hP | with_reducible apply Device.irq_closed hP | with_reducible apply Device.carFree_closed hP | with_reducible apply Device.carGo_closed hP | (with_reducible apply hP.lit <;> first | with_reducible assumption | exact id | exact fun _ => rfl | with_reducible exact fun _ hx => hx | with_reducible apply Closed.when | with_reducible apply hP.addWrap | with_reducible apply hP.put | with_reducible apply Device.modCar_closed hP | with_reducible apply Device.irq_closed hP | with_reducible apply Device.carFree_closed hP | with_reducible apply Device.carGo_closed hP | split) | split | intro _ | dsimp only)

theorem synthWaitTimeout_closed {c : Nat} {d : Device} (hPd : P d) : P (synthWaitTimeout c d) := by
  unfold synthWaitTimeout
  (try dsimp only)
  repeat' (first | with_reducible assumption | with_reducible exact fun _ hx => hx | with_reducible apply Device.carRestart_closed hP | with_reducible apply Device.carRefuse_closed hP | (with_reducible apply hP.lit <;> first | with_reducible assumption | exact id | exact fun _ => rfl | with_reducible exact fun _ hx => hx | with_reducible apply Device.carRestart_closed hP | with_reducible apply Device.carRefuse_closed hP | split) | split | intro _ | dsimp only)

theorem listenEnd_closed {c : Nat} {power : BitVec 16} {d : Device} (hPd : P d) : P (listenEnd c power d) := by
  unfold listenEnd
  (try dsimp only)
  repeat' (first | with_reducible assumption | with_reducible exact fun _ hx => hx | with_reducible apply Device.carRampUp_closed hP | with_reducible apply hP.count | with_reducible apply Device.carGo_closed hP | with_reducible apply Device.modCar_closed hP | (with_reducible apply hP.lit <;> first | with_reducible assumption | exact id | exact fun _ => rfl | with_reducible exact fun _ hx => hx | with_reducible apply Device.carRampUp_closed hP | with_reducible apply hP.count | with_reducible apply Device.carGo_closed hP | with_reducible apply Device.modCar_closed hP | split) | split | intro _ | dsimp only)

theorem lbtRetryExpiry_closed {c : Nat} {d : Device} (hPd : P d) : P (lbtRetryExpiry c d) := by
  unfold lbtRetryExpiry
  (try dsimp only)
  repeat' (first | with_reducible assumption | with_reducible exact fun _ hx => hx | with_reducible apply Device.modCar_closed hP | (with_reducible apply hP.lit <;> first | with_reducible assumption | exact id | exact fun _ => rfl | with_reducible exact fun _ hx => hx | with_reducible apply Device.modCar_closed hP | split) | split | intro _ | dsimp only)

theorem rampUpEnd_closed {c : Nat} {d : Device} (hPd : P d) : P (rampUpEnd c d) := by
  unfold rampUpEnd
  (try dsimp only)
  repeat' (first | with_reducible assumption | with_reducible exact fun _ hx => hx | with_reducible apply Device.carDrain_closed hP | with_reducible apply Device.carGo_closed hP | (with_reducible apply hP.lit <;> first | with_reducible assumption | exact id | exact fun _ => rfl | with_reducible exact fun _ hx => hx | with_reducible apply Device.carDrain_closed hP | with_reducible apply Device.carGo_closed hP | split) | split | intro _ | dsimp only)

theorem settleEnd_closed {c : Nat} {d : Device} (hPd : P d) : P (settleEnd c d) := by
  unfold settleEnd
  (try dsimp only)
  repeat' (first | with_reducible assumption | with_reducible exact fun _ hx => hx | with_reducible apply Device.carDrain_closed hP | with_reducible apply Device.carOn_closed hP | (with_reducible apply hP.lit <;> first | with_reducible assumption | exact id | exact fun _ => rfl | with_reducible exact fun _ hx => hx | with_reducible apply Device.carDrain_closed hP | with_reducible apply Device.carOn_closed hP | split) | split | intro _ | dsimp only)

theorem drainQuiet_closed {c : Nat} {d : Device} (hPd : P d) : P (drainQuiet c d) := by
  unfold drainQuiet
  (try dsimp only)
  repeat' (first | with_reducible assumption | with_reducible exact fun _ hx => hx | with_reducible apply Device.carGo_closed hP | (with_reducible apply hP.lit <;> first | with_reducible assumption | exact id | exact fun _ => rfl | with_reducible exact fun _ hx => hx | with_reducible apply Device.carGo_closed hP | split) | split | intro _ | dsimp only)

theorem drainCut_closed {c : Nat} {d : Device} (hPd : P d) : P (drainCut c d) := by
  unfold drainCut
  (try dsimp only)
  repeat' (first | with_reducible assumption | with_reducible exact fun _ hx => hx | with_reducible apply Device.irq_closed hP | with_reducible apply Device.carGo_closed hP | with_reducible apply Device.carAbandon_closed hP | with_reducible apply Closed.when | with_reducible apply hP.count | (with_reducible apply hP.lit <;> first | with_reducible assumption | exact id | exact fun _ => rfl | with_reducible exact fun _ hx => hx | with_reducible apply Device.irq_closed hP | with_reducible apply Device.carGo_closed hP | with_reducible apply Device.carAbandon_closed hP | with_reducible apply Closed.when | with_reducible apply hP.count | split) | split | intro _ | dsimp only)

theorem rampDownEnd_closed {c : Nat} {d : Device} (hPd : P d) : P (rampDownEnd c d) := by
  unfold rampDownEnd
  (try dsimp only)
  repeat' (first | with_reducible assumption | with_reducible exact fun _ hx => hx | with_reducible apply Device.carRestart_closed hP | with_reducible apply Device.carHeading_closed hP | with_reducible apply Device.carOnEnd_closed hP | (with_reducible apply hP.lit <;> first | with_reducible assumption | exact id | exact fun _ => rfl | with_reducible exact fun _ hx => hx | with_reducible apply Device.carRestart_closed hP | with_reducible apply Device.carHeading_closed hP | with_reducible apply Device.carOnEnd_closed hP | split) | split | intro _ | dsimp only)

theorem autoHop_closed {c : Nat} {d : Device} (hPd : P d) : P (autoHop c d) := by
  unfold autoHop
  (try dsimp only)
  repeat' (first | with_reducible assumption | with_reducible exact fun _ hx => hx | with_reducible apply Device.pickChannel_closed hP | with_reducible apply Device.modCar_closed hP | with_reducible apply Device.carUse_closed hP | with_reducible apply Device.carGo_closed hP | with_reducible refine snd_of_eq (by assumption) ?_ | (with_reducible apply hP.lit <;> first | with_reducible assumption | exact id | exact fun _ => rfl | with_reducible exact fun _ hx => hx | with_reducible apply Device.pickChannel_closed hP | with_reducible apply Device.modCar_closed hP | with_reducible apply Device.carUse_closed hP | with_reducible apply Device.carGo_closed hP | with_reducible refine snd_of_eq (by assumption) ?_ | split) | split | intro _ | dsimp only)

theorem Device.carHopped_closed {d : Device} {c : Nat} (hPd : P d) : P (Device.carHopped d c) := by
  unfold Device.carHopped
  (try dsimp only)
  repeat' (first | with_reducible assumption | with_reducible exact fun _ hx => hx | with_reducible apply Device.carReadmit_closed hP | with_reducible apply Device.modCar_closed hP | (with_reducible apply hP.lit <;> first | with_reducible assumption | exact id | exact fun _ => rfl | with_reducible exact fun _ hx => hx | with_reducible apply Device.carReadmit_closed hP | with_reducible apply Device.modCar_closed hP | split) | split | intro _ | dsimp only)

theorem retuneEnd_closed {c : Nat} {d : Device} (hPd : P d) : P (retuneEnd c d) := by
  unfold retuneEnd
  (try dsimp only)
  repeat' (first | with_reducible assumption | with_reducible exact fun _ hx => hx | with_reducible apply Device.carRestart_closed hP | with_reducible apply Device.carOff_closed hP | with_reducible apply Device.carSynth_closed hP | with_reducible apply Device.carHopped_closed hP | with_reducible apply Device.carUse_closed hP | with_reducible apply Device.carRefuse_closed hP | (with_reducible apply hP.lit <;> first | with_reducible assumption | exact id | exact fun _ => rfl | with_reducible exact fun _ hx => hx | with_reducible apply Device.carRestart_closed hP | with_reducible apply Device.carOff_closed hP | with_reducible apply Device.carSynth_closed hP | with_reducible apply Device.carHopped_closed hP | with_reducible apply Device.carUse_closed hP | with_reducible apply Device.carRefuse_closed hP | split) | split | intro _ | dsimp only)

theorem Device.limitDrain_closed {d : Device} {c : Nat} (hPd : P d) : P (Device.limitDrain d c) := by
  unfold Device.limitDrain
  (try dsimp only)
  repeat' (first | with_reducible assumption | with_reducible exact fun _ hx => hx | with_reducible apply Device.carDrain_closed hP | (with_reducible apply hP.lit <;> first | with_reducible assumption | exact id | exact fun _ => rfl | with_reducible exact fun _ hx => hx | with_reducible apply Device.carDrain_closed hP | split) | split | intro _ | dsimp only)

theorem dwellLimitDrain_closed {c : Nat} {d : Device} (hPd : P d) : P (dwellLimitDrain c d) := by
  unfold dwellLimitDrain
  (try dsimp only)
  repeat' (first | with_reducible assumption | with_reducible exact fun _ hx => hx | with_reducible apply Closed.when | with_reducible apply Device.limitDrain_closed hP | with_reducible apply hP.put | (with_reducible apply hP.lit <;> first | with_reducible assumption | exact id | exact fun _ => rfl | with_reducible exact fun _ hx => hx | with_reducible apply Closed.when | with_reducible apply Device.limitDrain_closed hP | with_reducible apply hP.put | split) | split | intro _ | dsimp only)

theorem occupancyLimitDrain_closed {c : Nat} {d : Device} (hPd : P d) : P (occupancyLimitDrain c d) := by
  unfold occupancyLimitDrain
  (try dsimp only)
  repeat' (first | with_reducible assumption | with_reducible exact fun _ hx => hx | with_reducible apply Closed.when | with_reducible apply Device.limitDrain_closed hP | with_reducible apply hP.put | (with_reducible apply hP.lit <;> first | with_reducible assumption | exact id | exact fun _ => rfl | with_reducible exact fun _ hx => hx | with_reducible apply Closed.when | with_reducible apply Device.limitDrain_closed hP | with_reducible apply hP.put | split) | split | intro _ | dsimp only)

theorem barredRelease_closed {c : Nat} {d : Device} (hPd : P d) : P (barredRelease c d) := by
  unfold barredRelease
  (try dsimp only)
  repeat' (first | with_reducible assumption | with_reducible exact fun _ hx => hx | with_reducible apply Device.carGo_closed hP | with_reducible apply hP.put | with_reducible apply Device.modCar_closed hP | with_reducible apply Device.carSynth_closed hP | (with_reducible apply hP.lit <;> first | with_reducible assumption | exact id | exact fun _ => rfl | with_reducible exact fun _ hx => hx | with_reducible apply Device.carGo_closed hP | with_reducible apply hP.put | with_reducible apply Device.modCar_closed hP | with_reducible apply Device.carSynth_closed hP | split) | split | intro _ | dsimp only)

theorem Device.showBandCal_closed {d : Device} (hPd : P d) : P (Device.showBandCal d) := by
  unfold Device.showBandCal
  (try dsimp only)
  repeat' (first | with_reducible assumption | with_reducible exact fun _ hx => hx | with_reducible apply hP.putB | (with_reducible apply hP.lit <;> first | with_reducible assumption | exact id | exact fun _ => rfl | with_reducible exact fun _ hx => hx | with_reducible apply hP.putB | split) | split | intro _ | dsimp only)

theorem Device.calFall_closed {d : Device} (hPd : P d) : P (Device.calFall d) := by
  unfold Device.calFall
  (try dsimp only)
  repeat' (first | with_reducible assumption | with_reducible exact fun _ hx => hx | with_reducible apply Device.showBandCal_closed hP | (with_reducible apply hP.lit <;> first | with_reducible assumption | exact id | exact fun _ => rfl | with_reducible exact fun _ hx => hx | with_reducible apply Device.showBandCal_closed hP | split) | split | intro _ | dsimp only)

theorem bandCalDue_closed {d : Device} (hPd : P d) : P (bandCalDue d) := by
  unfold bandCalDue
  (try dsimp only)
  repeat' (first | with_reducible assumption | with_reducible exact fun _ hx => hx | with_reducible apply Device.calFall_closed hP | (with_reducible apply hP.lit <;> first | with_reducible assumption | exact id | exact fun _ => rfl | with_reducible exact fun _ hx => hx | with_reducible apply Device.calFall_closed hP | split) | split | intro _ | dsimp only)

theorem bandCalStart_closed {d : Device} (hPd : P d) : P (bandCalStart d) := by
  unfold bandCalStart
  (try dsimp only)
  repeat' (first | with_reducible assumption | with_reducible exact fun _ hx => hx | with_reducible apply Device.showBandCal_closed hP | (with_reducible apply hP.lit <;> first | with_reducible assumption | exact id | exact fun _ => rfl | with_reducible exact fun _ hx => hx | with_reducible apply Device.showBandCal_closed hP | split) | split | intro _ | dsimp only)

theorem bandCalForce_closed {d : Device} (hPd : P d) : P (bandCalForce d) := by
  unfold bandCalForce
  (try dsimp only)
  repeat' (first | with_reducible assumption | with_reducible exact fun _ hx => hx | with_reducible apply Closed.forAll | with_reducible apply Device.carDrain_closed hP | with_reducible apply Device.modCar_closed hP | (with_reducible apply hP.lit <;> first | with_reducible assumption | exact id | exact fun _ => rfl | with_reducible exact fun _ hx => hx | with_reducible apply Closed.forAll | with_reducible apply Device.carDrain_closed hP | with_reducible apply Device.modCar_closed hP | split) | split | intro _ | dsimp only)

theorem bandCalComplete_closed {d : Device} (hPd : P d) : P (bandCalComplete d) := by
  unfold bandCalComplete
  (try dsimp only)
  repeat' (first | with_reducible assumption | with_reducible exact fun _ hx => hx | with_reducible apply Device.showBandCal_closed hP | with_reducible apply hP.putS | with_reducible apply hP.putB | with_reducible apply hP.put | with_reducible apply Device.synthContinue_closed hP | with_reducible apply Closed.forAll | with_reducible apply Device.modCar_closed hP | (with_reducible apply hP.lit <;> first | with_reducible assumption | exact id | exact fun _ => rfl | with_reducible exact fun _ hx => hx | with_reducible apply Device.showBandCal_closed hP | with_reducible apply hP.putS | with_reducible apply hP.putB | with_reducible apply hP.put | with_reducible apply Device.synthContinue_closed hP | with_reducible apply Closed.forAll | with_reducible apply Device.modCar_closed hP | split) | split | intro _ | dsimp only)

theorem synWritten_closed {off : Nat} {v : Word} {d : Device} (hPd : P d) : P (synWritten off v d) := by
  unfold synWritten
  (try dsimp only)
  repeat' (first | with_reducible assumption | with_reducible exact fun _ hx => hx | with_reducible apply Device.calFall_closed hP | (with_reducible apply hP.lit <;> first | with_reducible assumption | exact id | exact fun _ => rfl | with_reducible exact fun _ hx => hx | with_reducible apply Device.calFall_closed hP | split) | split | intro _ | dsimp only)

theorem Device.interlock_closed {d : Device} (hPd : P d) : P (Device.interlock d) := by
  unfold Device.interlock
  (try dsimp only)
  repeat' (first | with_reducible assumption | with_reducible exact fun _ hx => hx | with_reducible apply Closed.forAll | with_reducible apply Device.carAbandon_closed hP | with_reducible apply Device.carGo_closed hP | with_reducible apply Device.modCar_closed hP | with_reducible apply Device.carOnEnd_closed hP | (with_reducible apply hP.lit <;> first | with_reducible assumption | exact id | exact fun _ => rfl | with_reducible exact fun _ hx => hx | with_reducible apply Closed.forAll | with_reducible apply Device.carAbandon_closed hP | with_reducible apply Device.carGo_closed hP | with_reducible apply Device.modCar_closed hP | with_reducible apply Device.carOnEnd_closed hP | split) | split | intro _ | dsimp only)

theorem synthSLockLoss_closed {d : Device} (hPd : P d) : P (synthSLockLoss d) := by
  unfold synthSLockLoss
  (try dsimp only)
  repeat' (first | with_reducible assumption | with_reducible exact fun _ hx => hx | with_reducible apply Device.interlock_closed hP | with_reducible apply Device.irq_closed hP | with_reducible apply hP.count | with_reducible apply hP.put | (with_reducible apply hP.lit <;> first | with_reducible assumption | exact id | exact fun _ => rfl | with_reducible exact fun _ hx => hx | with_reducible apply Device.interlock_closed hP | with_reducible apply Device.irq_closed hP | with_reducible apply hP.count | with_reducible apply hP.put | split) | split | intro _ | dsimp only)

theorem Device.grantBack_closed {d : Device} {c : Nat} (hPd : P d) : P (Device.grantBack d c) := by
  unfold Device.grantBack
  (try dsimp only)
  repeat' (first | with_reducible assumption | with_reducible exact fun _ hx => hx | with_reducible apply Device.modCar_closed hP | with_reducible apply Device.carOn_closed hP | (with_reducible apply hP.lit <;> first | with_reducible assumption | exact id | exact fun _ => rfl | with_reducible exact fun _ hx => hx | with_reducible apply Device.modCar_closed hP | with_reducible apply Device.carOn_closed hP | split) | split | intro _ | dsimp only)

theorem coexGrantAssert_closed {d : Device} (hPd : P d) : P (coexGrantAssert d) := by
  unfold coexGrantAssert
  (try dsimp only)
  repeat' (first | with_reducible assumption | with_reducible exact fun _ hx => hx | with_reducible apply Closed.forAll | with_reducible apply Device.carListen_closed hP | with_reducible apply Device.grantBack_closed hP | (with_reducible apply hP.lit <;> first | with_reducible assumption | exact id | exact fun _ => rfl | with_reducible exact fun _ hx => hx | with_reducible apply Closed.forAll | with_reducible apply Device.carListen_closed hP | with_reducible apply Device.grantBack_closed hP | split) | split | intro _ | dsimp only)

theorem coexGrantWithdraw_closed {d : Device} (hPd : P d) : P (coexGrantWithdraw d) := by
  unfold coexGrantWithdraw
  (try dsimp only)
  repeat' (first | with_reducible assumption | with_reducible exact fun _ hx => hx | with_reducible apply hP.count | with_reducible apply Device.irq_closed hP | with_reducible apply Closed.forAll | with_reducible apply Device.carDrain_closed hP | with_reducible apply Device.carHold_closed hP | with_reducible apply Device.carGo_closed hP | with_reducible apply Device.modCar_closed hP | (with_reducible apply hP.lit <;> first | with_reducible assumption | exact id | exact fun _ => rfl | with_reducible exact fun _ hx => hx | with_reducible apply hP.count | with_reducible apply Device.irq_closed hP | with_reducible apply Closed.forAll | with_reducible apply Device.carDrain_closed hP | with_reducible apply Device.carHold_closed hP | with_reducible apply Device.carGo_closed hP | with_reducible apply Device.modCar_closed hP | split) | split | intro _ | dsimp only)

theorem Device.followCoex_closed {d : Device} (hPd : P d) : P (Device.followCoex d) := by
  unfold Device.followCoex
  (try dsimp only)
  repeat' (first | with_reducible assumption | with_reducible exact fun _ hx => hx | with_reducible apply hP.putB | (with_reducible apply hP.lit <;> first | with_reducible assumption | exact id | exact fun _ => rfl | with_reducible exact fun _ hx => hx | with_reducible apply hP.putB | split) | split | intro _ | dsimp only)

theorem Device.carEnable_closed {d : Device} {c : Nat} (hPd : P d) : P (Device.carEnable d c) := by
  unfold Device.carEnable
  (try dsimp only)
  repeat' (first | with_reducible assumption | with_reducible exact fun _ hx => hx | with_reducible apply hP.put | with_reducible apply Device.carStart_closed hP | (with_reducible apply hP.lit <;> first | with_reducible assumption | exact id | exact fun _ => rfl | with_reducible exact fun _ hx => hx | with_reducible apply hP.put | with_reducible apply Device.carStart_closed hP | split) | split | intro _ | dsimp only)

theorem Device.carDisable_closed {d : Device} {c : Nat} (hPd : P d) : P (Device.carDisable d c) := by
  unfold Device.carDisable
  (try dsimp only)
  repeat' (first | with_reducible assumption | with_reducible exact fun _ hx => hx | with_reducible apply hP.put | with_reducible apply Device.carRestart_closed hP | with_reducible apply Device.carOff_closed hP | with_reducible apply Device.modCar_closed hP | with_reducible apply Closed.when | with_reducible apply Device.carDrain_closed hP | (with_reducible apply hP.lit <;> first | with_reducible assumption | exact id | exact fun _ => rfl | with_reducible exact fun _ hx => hx | with_reducible apply hP.put | with_reducible apply Device.carRestart_closed hP | with_reducible apply Device.carOff_closed hP | with_reducible apply Device.modCar_closed hP | with_reducible apply Closed.when | with_reducible apply Device.carDrain_closed hP | split) | split | intro _ | dsimp only)

theorem Device.carHop_closed {d : Device} {c : Nat} (hPd : P d) : P (Device.carHop d c) := by
  unfold Device.carHop
  (try dsimp only)
  repeat' (first | with_reducible assumption | with_reducible exact fun _ hx => hx | with_reducible apply Device.carDrain_closed hP | with_reducible apply hP.put | (with_reducible apply hP.lit <;> first | with_reducible assumption | exact id | exact fun _ => rfl | with_reducible exact fun _ hx => hx | with_reducible apply Device.carDrain_closed hP | with_reducible apply hP.put | split) | split | intro _ | dsimp only)

theorem carWritten_closed {off : Nat} {v : Word} {d : Device} (hPd : P d) : P (carWritten off v d) := by
  unfold carWritten
  (try dsimp only)
  repeat' (first | with_reducible assumption | with_reducible exact fun _ hx => hx | with_reducible apply Device.carEnable_closed hP | with_reducible apply Device.carDisable_closed hP | with_reducible apply Closed.when | with_reducible apply Device.carHop_closed hP | (with_reducible apply hP.lit <;> first | with_reducible assumption | exact id | exact fun _ => rfl | with_reducible exact fun _ hx => hx | with_reducible apply Device.carEnable_closed hP | with_reducible apply Device.carDisable_closed hP | with_reducible apply Closed.when | with_reducible apply Device.carHop_closed hP | split) | split | intro _ | dsimp only)

theorem carBlockReset_closed {d : Device} (hPd : P d) : P (carBlockReset d) := by
  unfold carBlockReset
  (try dsimp only)
  repeat' (first | with_reducible assumption | with_reducible exact fun _ hx => hx | with_reducible apply Closed.forAll | with_reducible apply Device.modCar_closed hP | with_reducible apply Device.carGo_closed hP | with_reducible apply Device.carAbandon_closed hP | with_reducible apply Device.carOnEnd_closed hP | (with_reducible apply hP.lit <;> first | with_reducible assumption | exact id | exact fun _ => rfl | with_reducible exact fun _ hx => hx | with_reducible apply Closed.forAll | with_reducible apply Device.modCar_closed hP | with_reducible apply Device.carGo_closed hP | with_reducible apply Device.carAbandon_closed hP | with_reducible apply Device.carOnEnd_closed hP | split) | split | intro _ | dsimp only)

/-! ### Spares -/

theorem Device.modRep_closed {d : Device} {f : RepSt → RepSt} (hPd : P d) : P (Device.modRep d f) := by
  unfold Device.modRep
  (try dsimp only)
  repeat' (first | with_reducible assumption | with_reducible exact fun _ hx => hx | (with_reducible apply hP.lit <;> first | with_reducible assumption | exact id | exact fun _ => rfl | with_reducible exact fun _ hx => hx | split) | split | intro _ | dsimp only)

theorem Device.showSpares_closed {d : Device} {p : Nat} (hPd : P d) : P (Device.showSpares d p) := by
  unfold Device.showSpares
  (try dsimp only)
  repeat' (first | with_reducible assumption | with_reducible exact fun _ hx => hx | with_reducible apply hP.putB | with_reducible apply hP.put | (with_reducible apply hP.lit <;> first | with_reducible assumption | exact id | exact fun _ => rfl | with_reducible exact fun _ hx => hx | with_reducible apply hP.putB | with_reducible apply hP.put | split) | split | intro _ | dsimp only)

theorem Device.setElem_closed {d : Device} {p : Nat} {e : ElemSt} (hPd : P d) : P (Device.setElem d p e) := by
  unfold Device.setElem
  (try dsimp only)
  repeat' (first | with_reducible assumption | with_reducible exact fun _ hx => hx | with_reducible apply Device.showSpares_closed hP | with_reducible apply Device.modRep_closed hP | (with_reducible apply hP.lit <;> first | with_reducible assumption | exact id | exact fun _ => rfl | with_reducible exact fun _ hx => hx | with_reducible apply Device.showSpares_closed hP | with_reducible apply Device.modRep_closed hP | split) | split | intro _ | dsimp only)

theorem Device.queueRecord_closed {d : Device} {r : List Byte} (hPd : P d) : P (Device.queueRecord d r) := by
  unfold Device.queueRecord
  (try dsimp only)
  repeat' (first | with_reducible assumption | with_reducible exact fun _ hx => hx | with_reducible apply Device.modRep_closed hP | with_reducible apply hP.count | (with_reducible apply hP.lit <;> first | with_reducible assumption | exact id | exact fun _ => rfl | with_reducible exact fun _ hx => hx | with_reducible apply Device.modRep_closed hP | with_reducible apply hP.count | split) | split | intro _ | dsimp only)

theorem Device.spareUsed_closed {d : Device} {r : List Byte} (hPd : P d) : P (Device.spareUsed d r) := by
  unfold Device.spareUsed
  (try dsimp only)
  repeat' (first | with_reducible assumption | with_reducible exact fun _ hx => hx | with_reducible apply Device.queueRecord_closed hP | with_reducible apply Device.irq_closed hP | (with_reducible apply hP.lit <;> first | with_reducible assumption | exact id | exact fun _ => rfl | with_reducible exact fun _ hx => hx | with_reducible apply Device.queueRecord_closed hP | with_reducible apply Device.irq_closed hP | split) | split | intro _ | dsimp only)

theorem Device.poolEmpty_closed {d : Device} (hPd : P d) : P (Device.poolEmpty d) := by
  unfold Device.poolEmpty
  (try dsimp only)
  repeat' (first | with_reducible assumption | with_reducible exact fun _ hx => hx | with_reducible apply Device.modRep_closed hP | with_reducible apply Device.irq_closed hP | (with_reducible apply hP.lit <;> first | with_reducible assumption | exact id | exact fun _ => rfl | with_reducible exact fun _ hx => hx | with_reducible apply Device.modRep_closed hP | with_reducible apply Device.irq_closed hP | split) | split | intro _ | dsimp only)

theorem Device.setDead_closed {d : Device} {p : Nat} {b : Bool} (hPd : P d) : P (Device.setDead d p b) := by
  unfold Device.setDead
  (try dsimp only)
  repeat' (first | with_reducible assumption | with_reducible exact fun _ hx => hx | with_reducible apply hP.putB | with_reducible apply hP.put | (with_reducible apply hP.lit <;> first | with_reducible assumption | exact id | exact fun _ => rfl | with_reducible exact fun _ hx => hx | with_reducible apply hP.putB | with_reducible apply hP.put | split) | split | intro _ | dsimp only)

theorem Device.setMuted_closed {d : Device} {p : Nat} {b : Bool} (hPd : P d) : P (Device.setMuted d p b) := by
  unfold Device.setMuted
  (try dsimp only)
  repeat' (first | with_reducible assumption | with_reducible exact fun _ hx => hx | with_reducible apply hP.putB | with_reducible apply hP.put | (with_reducible apply hP.lit <;> first | with_reducible assumption | exact id | exact fun _ => rfl | with_reducible exact fun _ hx => hx | with_reducible apply hP.putB | with_reducible apply hP.put | split) | split | intro _ | dsimp only)

/-! ### Paths -/

theorem Device.pathGo_closed {d : Device} {p : Nat} {st : Nat} (hPd : P d) : P (Device.pathGo d p st) := by
  unfold Device.pathGo
  (try dsimp only)
  repeat' (first | with_reducible assumption | with_reducible exact fun _ hx => hx | with_reducible apply hP.put | (with_reducible apply hP.lit <;> first | with_reducible assumption | exact id | exact fun _ => rfl | with_reducible exact fun _ hx => hx | with_reducible apply hP.put | split) | split | intro _ | dsimp only)

theorem Device.dropWeight_closed {d : Device} {set : Nat} {p : Nat} (hPd : P d) : P (Device.dropWeight d set p) := by
  unfold Device.dropWeight
  (try dsimp only)
  repeat' (first | with_reducible assumption | with_reducible exact fun _ hx => hx | with_reducible apply Device.modStream_closed hP | with_reducible apply Device.setWeight_closed hP | (with_reducible apply hP.lit <;> first | with_reducible assumption | exact id | exact fun _ => rfl | with_reducible exact fun _ hx => hx | with_reducible apply Device.modStream_closed hP | with_reducible apply Device.setWeight_closed hP | split) | split | intro _ | dsimp only)

theorem Device.dropPath_closed {d : Device} {p : Nat} (hPd : P d) : P (Device.dropPath d p) := by
  unfold Device.dropPath
  (try dsimp only)
  repeat' (first | with_reducible assumption | with_reducible exact fun _ hx => hx | with_reducible apply Device.setMuted_closed hP | with_reducible apply Closed.forAll | with_reducible apply Device.dropWeight_closed hP | (with_reducible apply hP.lit <;> first | with_reducible assumption | exact id | exact fun _ => rfl | with_reducible exact fun _ hx => hx | with_reducible apply Device.setMuted_closed hP | with_reducible apply Closed.forAll | with_reducible apply Device.dropWeight_closed hP | split) | split | intro _ | dsimp only)

theorem Device.renormRx_closed {d : Device} {n : Nat} {b : Bool} (hPd : P d) : P (Device.renormRx d n b) := by
  unfold Device.renormRx
  (try dsimp only)
  repeat' (first | with_reducible assumption | with_reducible exact fun _ hx => hx | with_reducible apply Device.modStream_closed hP | with_reducible apply Device.setWeights_closed hP | (with_reducible apply hP.lit <;> first | with_reducible assumption | exact id | exact fun _ => rfl | with_reducible exact fun _ hx => hx | with_reducible apply Device.modStream_closed hP | with_reducible apply Device.setWeights_closed hP | split) | split | intro _ | dsimp only)

theorem Device.renormalise_closed {d : Device} (hPd : P d) : P (Device.renormalise d) := by
  unfold Device.renormalise
  (try dsimp only)
  repeat' (first | with_reducible assumption | with_reducible exact fun _ hx => hx | with_reducible apply Closed.forAll | with_reducible apply Device.renormRx_closed hP | with_reducible apply Device.modStream_closed hP | with_reducible apply Device.setWeights_closed hP | with_reducible apply Device.reglChanged_closed hP | with_reducible apply Device.groupsStale_closed hP | with_reducible apply hP.put | (with_reducible apply hP.lit <;> first | with_reducible assumption | exact id | exact fun _ => rfl | with_reducible exact fun _ hx => hx | with_reducible apply Closed.forAll | with_reducible apply Device.renormRx_closed hP | with_reducible apply Device.modStream_closed hP | with_reducible apply Device.setWeights_closed hP | with_reducible apply Device.reglChanged_closed hP | with_reducible apply Device.groupsStale_closed hP | with_reducible apply hP.put | split) | split | intro _ | dsimp only)

theorem Device.awaitRenorm_closed {d : Device} (hPd : P d) : P (Device.awaitRenorm d) := by
  unfold Device.awaitRenorm
  (try dsimp only)
  repeat' (first | with_reducible assumption | with_reducible exact fun _ hx => hx | with_reducible apply Device.await_closed hP | with_reducible apply hP.put | (with_reducible apply hP.lit <;> first | with_reducible assumption | exact id | exact fun _ => rfl | with_reducible exact fun _ hx => hx | with_reducible apply Device.await_closed hP | with_reducible apply hP.put | split) | split | intro _ | dsimp only)

theorem Device.endContribution_closed {d : Device} {p : Nat} (hPd : P d) : P (Device.endContribution d p) := by
  unfold Device.endContribution
  (try dsimp only)
  repeat' (first | with_reducible assumption | with_reducible exact fun _ hx => hx | with_reducible apply hP.put | with_reducible apply Device.modPath_closed hP | (with_reducible apply hP.lit <;> first | with_reducible assumption | exact id | exact fun _ => rfl | with_reducible exact fun _ hx => hx | with_reducible apply hP.put | with_reducible apply Device.modPath_closed hP | split) | split | intro _ | dsimp only)

theorem Device.dropPathWaits_closed {d : Device} {p : Nat} (hPd : P d) : P (Device.dropPathWaits d p) := by
  unfold Device.dropPathWaits
  (try dsimp only)
  repeat' (first | with_reducible assumption | with_reducible exact fun _ hx => hx | with_reducible apply Device.dropWaits_closed hP | with_reducible apply hP.put | (with_reducible apply hP.lit <;> first | with_reducible assumption | exact id | exact fun _ => rfl | with_reducible exact fun _ hx => hx | with_reducible apply Device.dropWaits_closed hP | with_reducible apply hP.put | split) | split | intro _ | dsimp only)

theorem Device.cutPath_closed {d : Device} {p : Nat} (hPd : P d) : P (Device.cutPath d p) := by
  unfold Device.cutPath
  (try dsimp only)
  repeat' (first | with_reducible assumption | with_reducible exact fun _ hx => hx | with_reducible apply Device.endContribution_closed hP | with_reducible apply Device.dropPath_closed hP | with_reducible apply Device.dropPathWaits_closed hP | with_reducible apply Device.reglChanged_closed hP | with_reducible apply Device.groupsStale_closed hP | with_reducible apply Closed.when | with_reducible apply Device.awaitRenorm_closed hP | (with_reducible apply hP.lit <;> first | with_reducible assumption | exact id | exact fun _ => rfl | with_reducible exact fun _ hx => hx | with_reducible apply Device.endContribution_closed hP | with_reducible apply Device.dropPath_closed hP | with_reducible apply Device.dropPathWaits_closed hP | with_reducible apply Device.reglChanged_closed hP | with_reducible apply Device.groupsStale_closed hP | with_reducible apply Closed.when | with_reducible apply Device.awaitRenorm_closed hP | split) | split | intro _ | dsimp only)

theorem Device.showCells_closed {d : Device} {p : Nat} (hPd : P d) : P (Device.showCells d p) := by
  unfold Device.showCells
  (try dsimp only)
  repeat' (first | with_reducible assumption | with_reducible exact fun _ hx => hx | with_reducible apply hP.put | (with_reducible apply hP.lit <;> first | with_reducible assumption | exact id | exact fun _ => rfl | with_reducible exact fun _ hx => hx | with_reducible apply hP.put | split) | split | intro _ | dsimp only)

theorem Device.setLevel_closed {d : Device} {p : Nat} {l : Int} (hPd : P d) : P (Device.setLevel d p l) := by
  unfold Device.setLevel
  (try dsimp only)
  repeat' (first | with_reducible assumption | with_reducible exact fun _ hx => hx | with_reducible apply hP.putB | with_reducible apply hP.putS | with_reducible apply Device.showCells_closed hP | with_reducible apply Device.modPath_closed hP | with_reducible apply hP.put | (with_reducible apply hP.lit <;> first | with_reducible assumption | exact id | exact fun _ => rfl | with_reducible exact fun _ hx => hx | with_reducible apply hP.putB | with_reducible apply hP.putS | with_reducible apply Device.showCells_closed hP | with_reducible apply Device.modPath_closed hP | with_reducible apply hP.put | split) | split | intro _ | dsimp only)

theorem Device.rejoinStream_closed {d : Device} {p : Nat} {n : Nat} (hPd : P d) : P (Device.rejoinStream d p n) := by
  unfold Device.rejoinStream
  (try dsimp only)
  repeat' (first | with_reducible assumption | with_reducible exact fun _ hx => hx | with_reducible apply Device.resteerRx_closed hP | with_reducible apply Device.admitTx_closed hP | with_reducible apply Device.setWeights_closed hP | with_reducible apply Device.askSteered_closed hP | with_reducible apply hP.putB | with_reducible refine snd_of_eq (by assumption) ?_ | (with_reducible apply hP.lit <;> first | with_reducible assumption | exact id | exact fun _ => rfl | with_reducible exact fun _ hx => hx | with_reducible apply Device.resteerRx_closed hP | with_reducible apply Device.admitTx_closed hP | with_reducible apply Device.setWeights_closed hP | with_reducible apply Device.askSteered_closed hP | with_reducible apply hP.putB | with_reducible refine snd_of_eq (by assumption) ?_ | split) | split | intro _ | dsimp only)

theorem Device.joinPath_closed {d : Device} {p : Nat} (hPd : P d) : P (Device.joinPath d p) := by
  unfold Device.joinPath
  (try dsimp only)
  repeat' (first | with_reducible assumption | with_reducible exact fun _ hx => hx | with_reducible apply Device.setMuted_closed hP | with_reducible apply Device.modPath_closed hP | with_reducible apply Device.levelTake_closed hP | with_reducible apply Device.setLevel_closed hP | with_reducible apply hP.putB | with_reducible apply Closed.when | with_reducible apply hP.put | with_reducible apply Closed.forAll | with_reducible apply Device.rejoinStream_closed hP | with_reducible apply Device.reglChanged_closed hP | with_reducible apply Device.groupsStale_closed hP | with_reducible refine snd_of_eq (by assumption) ?_ | (with_reducible apply hP.lit <;> first | with_reducible assumption | exact id | exact fun _ => rfl | with_reducible exact fun _ hx => hx | with_reducible apply Device.setMuted_closed hP | with_reducible apply Device.modPath_closed hP | with_reducible apply Device.levelTake_closed hP | with_reducible apply Device.setLevel_closed hP | with_reducible apply hP.putB | with_reducible apply Closed.when | with_reducible apply hP.put | with_reducible apply Closed.forAll | with_reducible apply Device.rejoinStream_closed hP | with_reducible apply Device.reglChanged_closed hP | with_reducible apply Device.groupsStale_closed hP | with_reducible refine snd_of_eq (by assumption) ?_ | split) | split | intro _ | dsimp only)

theorem Device.pathJoin_closed {d : Device} {p : Nat} (hPd : P d) : P (Device.pathJoin d p) := by
  unfold Device.pathJoin
  (try dsimp only)
  repeat' (first | with_reducible assumption | with_reducible exact fun _ hx => hx | with_reducible apply Device.pathGo_closed hP | with_reducible apply Device.await_closed hP | with_reducible apply Device.joinPath_closed hP | (with_reducible apply hP.lit <;> first | with_reducible assumption | exact id | exact fun _ => rfl | with_reducible exact fun _ hx => hx | with_reducible apply Device.pathGo_closed hP | with_reducible apply Device.await_closed hP | with_reducible apply Device.joinPath_closed hP | split) | split | intro _ | dsimp only)

theorem Device.drainPath_closed {d : Device} {p : Nat} (hPd : P d) : P (Device.drainPath d p) := by
  unfold Device.drainPath
  (try dsimp only)
  repeat' (first | with_reducible assumption | with_reducible exact fun _ hx => hx | with_reducible apply Device.pathGo_closed hP | with_reducible apply Device.dropWaits_closed hP | with_reducible apply Device.renormalise_closed hP | with_reducible apply Device.endContribution_closed hP | with_reducible apply Device.dropPath_closed hP | with_reducible apply Device.dropPathWaits_closed hP | (with_reducible apply hP.lit <;> first | with_reducible assumption | exact id | exact fun _ => rfl | with_reducible exact fun _ hx => hx | with_reducible apply Device.pathGo_closed hP | with_reducible apply Device.dropWaits_closed hP | with_reducible apply Device.renormalise_closed hP | with_reducible apply Device.endContribution_closed hP | with_reducible apply Device.dropPath_closed hP | with_reducible apply Device.dropPathWaits_closed hP | split) | split | intro _ | dsimp only)

theorem Device.pathDrain_closed {d : Device} {p : Nat} (hPd : P d) : P (Device.pathDrain d p) := by
  unfold Device.pathDrain
  (try dsimp only)
  repeat' (first | with_reducible assumption | with_reducible exact fun _ hx => hx | with_reducible apply Device.pathGo_closed hP | with_reducible apply Device.await_closed hP | with_reducible apply Device.drainPath_closed hP | (with_reducible apply hP.lit <;> first | with_reducible assumption | exact id | exact fun _ => rfl | with_reducible exact fun _ hx => hx | with_reducible apply Device.pathGo_closed hP | with_reducible apply Device.await_closed hP | with_reducible apply Device.drainPath_closed hP | split) | split | intro _ | dsimp only)

theorem Device.pathPowerDown_closed {d : Device} {p : Nat} (hPd : P d) : P (Device.pathPowerDown d p) := by
  unfold Device.pathPowerDown
  (try dsimp only)
  repeat' (first | with_reducible assumption | with_reducible exact fun _ hx => hx | with_reducible apply Device.pathGo_closed hP | with_reducible apply Device.dropPathWaits_closed hP | (with_reducible apply hP.lit <;> first | with_reducible assumption | exact id | exact fun _ => rfl | with_reducible exact fun _ hx => hx | with_reducible apply Device.pathGo_closed hP | with_reducible apply Device.dropPathWaits_closed hP | split) | split | intro _ | dsimp only)

theorem Device.pathStart_closed {d : Device} {p : Nat} (hPd : P d) : P (Device.pathStart d p) := by
  unfold Device.pathStart
  (try dsimp only)
  repeat' (first | with_reducible assumption | with_reducible exact fun _ hx => hx | with_reducible apply Device.pathGo_closed hP | with_reducible apply hP.put | (with_reducible apply hP.lit <;> first | with_reducible assumption | exact id | exact fun _ => rfl | with_reducible exact fun _ hx => hx | with_reducible apply Device.pathGo_closed hP | with_reducible apply hP.put | split) | split | intro _ | dsimp only)

theorem pathQueueLeave_closed {d : Device} (hPd : P d) : P (pathQueueLeave d) := by
  unfold pathQueueLeave
  (try dsimp only)
  repeat' (first | with_reducible assumption | with_reducible exact fun _ hx => hx | with_reducible apply Device.pathGo_closed hP | with_reducible apply hP.put | (with_reducible apply hP.lit <;> first | with_reducible assumption | exact id | exact fun _ => rfl | with_reducible exact fun _ hx => hx | with_reducible apply Device.pathGo_closed hP | with_reducible apply hP.put | split) | split | intro _ | dsimp only)

theorem poweringEnd_closed {p : Nat} {d : Device} (hPd : P d) : P (poweringEnd p d) := by
  unfold poweringEnd
  (try dsimp only)
  repeat' (first | with_reducible assumption | with_reducible exact fun _ hx => hx | with_reducible apply Device.pathPowerDown_closed hP | with_reducible apply Device.pathGo_closed hP | (with_reducible apply hP.lit <;> first | with_reducible assumption | exact id | exact fun _ => rfl | with_reducible exact fun _ hx => hx | with_reducible apply Device.pathPowerDown_closed hP | with_reducible apply Device.pathGo_closed hP | split) | split | intro _ | dsimp only)

theorem restoringEnd_closed {p : Nat} {d : Device} (hPd : P d) : P (restoringEnd p d) := by
  unfold restoringEnd
  (try dsimp only)
  repeat' (first | with_reducible assumption | with_reducible exact fun _ hx => hx | with_reducible apply Device.showSpares_closed hP | with_reducible apply hP.put | with_reducible apply Device.pathPowerDown_closed hP | with_reducible apply Device.pathGo_closed hP | (with_reducible apply hP.lit <;> first | with_reducible assumption | exact id | exact fun _ => rfl | with_reducible exact fun _ hx => hx | with_reducible apply Device.showSpares_closed hP | with_reducible apply hP.put | with_reducible apply Device.pathPowerDown_closed hP | with_reducible apply Device.pathGo_closed hP | split) | split | intro _ | dsimp only)

theorem Device.faultRecord_closed {d : Device} {p : Nat} {causes : BitVec 7} (hPd : P d) : P (Device.faultRecord d p causes) := by
  unfold Device.faultRecord
  (try dsimp only)
  repeat' (first | with_reducible assumption | with_reducible exact fun _ hx => hx | with_reducible apply Device.irq_closed hP | with_reducible apply hP.count | with_reducible apply hP.put | (with_reducible apply hP.lit <;> first | with_reducible assumption | exact id | exact fun _ => rfl | with_reducible exact fun _ hx => hx | with_reducible apply Device.irq_closed hP | with_reducible apply hP.count | with_reducible apply hP.put | split) | split | intro _ | dsimp only)

theorem Device.pathRefuse_closed {d : Device} {p : Nat} {causes : BitVec 7} (hPd : P d) : P (Device.pathRefuse d p causes) := by
  unfold Device.pathRefuse
  (try dsimp only)
  repeat' (first | with_reducible assumption | with_reducible exact fun _ hx => hx | with_reducible apply Device.faultRecord_closed hP | with_reducible apply hP.put | with_reducible apply Device.pathPowerDown_closed hP | with_reducible apply hP.mirror | (with_reducible apply hP.lit <;> first | with_reducible assumption | exact id | exact fun _ => rfl | with_reducible exact fun _ hx => hx | with_reducible apply Device.faultRecord_closed hP | with_reducible apply hP.put | with_reducible apply Device.pathPowerDown_closed hP | with_reducible apply hP.mirror | split) | split | intro _ | dsimp only)

theorem checkingEnd_closed {p : Nat} {nf : BitVec 16} {ok : Bool} {d : Device} (hPd : P d) : P (checkingEnd p nf ok d) := by
  unfold checkingEnd
  (try dsimp only)
  repeat' (first | with_reducible assumption | with_reducible exact fun _ hx => hx | with_reducible apply hP.wr | with_reducible apply Device.pathPowerDown_closed hP | with_reducible apply Device.faultRecord_closed hP | with_reducible apply Device.pathRefuse_closed hP | with_reducible apply Device.pathJoin_closed hP | (with_reducible apply hP.lit <;> first | with_reducible assumption | exact id | exact fun _ => rfl | with_reducible exact fun _ hx => hx | with_reducible apply hP.wr | with_reducible apply Device.pathPowerDown_closed hP | with_reducible apply Device.faultRecord_closed hP | with_reducible apply Device.pathRefuse_closed hP | with_reducible apply Device.pathJoin_closed hP | split) | split | intro _ | dsimp only)

theorem joinRampEnd_closed {p : Nat} {d : Device} (hPd : P d) : P (joinRampEnd p d) := by
  unfold joinRampEnd
  (try dsimp only)
  repeat' (first | with_reducible assumption | with_reducible exact fun _ hx => hx | with_reducible apply Device.pathGo_closed hP | with_reducible apply hP.put | (with_reducible apply hP.lit <;> first | with_reducible assumption | exact id | exact fun _ => rfl | with_reducible exact fun _ hx => hx | with_reducible apply Device.pathGo_closed hP | with_reducible apply hP.put | split) | split | intro _ | dsimp only)

theorem Device.pathStop_closed {d : Device} {p : Nat} (hPd : P d) : P (Device.pathStop d p) := by
  unfold Device.pathStop
  (try dsimp only)
  repeat' (first | with_reducible assumption | with_reducible exact fun _ hx => hx | with_reducible apply hP.put | with_reducible apply Device.pathGo_closed hP | with_reducible apply Device.pathDrain_closed hP | with_reducible apply Device.pathPowerDown_closed hP | (with_reducible apply hP.lit <;> first | with_reducible assumption | exact id | exact fun _ => rfl | with_reducible exact fun _ hx => hx | with_reducible apply hP.put | with_reducible apply Device.pathGo_closed hP | with_reducible apply Device.pathDrain_closed hP | with_reducible apply Device.pathPowerDown_closed hP | split) | split | intro _ | dsimp only)

theorem pathRampDownEnd_closed {p : Nat} {d : Device} (hPd : P d) : P (pathRampDownEnd p d) := by
  unfold pathRampDownEnd
  (try dsimp only)
  repeat' (first | with_reducible assumption | with_reducible exact fun _ hx => hx | with_reducible apply Device.pathPowerDown_closed hP | (with_reducible apply hP.lit <;> first | with_reducible assumption | exact id | exact fun _ => rfl | with_reducible exact fun _ hx => hx | with_reducible apply Device.pathPowerDown_closed hP | split) | split | intro _ | dsimp only)

theorem powerDownEnd_closed {p : Nat} {d : Device} (hPd : P d) : P (powerDownEnd p d) := by
  unfold powerDownEnd
  (try dsimp only)
  repeat' (first | with_reducible assumption | with_reducible exact fun _ hx => hx | with_reducible apply Device.pathGo_closed hP | with_reducible apply hP.put | with_reducible apply Device.pathStart_closed hP | (with_reducible apply hP.lit <;> first | with_reducible assumption | exact id | exact fun _ => rfl | with_reducible exact fun _ hx => hx | with_reducible apply Device.pathGo_closed hP | with_reducible apply hP.put | with_reducible apply Device.pathStart_closed hP | split) | split | intro _ | dsimp only)

theorem Device.mutePath_closed {d : Device} {p : Nat} {causes : BitVec 7} (hPd : P d) : P (Device.mutePath d p causes) := by
  unfold Device.mutePath
  (try dsimp only)
  repeat' (first | with_reducible assumption | with_reducible exact fun _ hx => hx | with_reducible apply Device.cutPath_closed hP | with_reducible apply hP.put | with_reducible apply Device.faultRecord_closed hP | with_reducible apply Device.pathGo_closed hP | with_reducible apply Device.queueRecord_closed hP | with_reducible apply Device.setDead_closed hP | (with_reducible apply hP.lit <;> first | with_reducible assumption | exact id | exact fun _ => rfl | with_reducible exact fun _ hx => hx | with_reducible apply Device.cutPath_closed hP | with_reducible apply hP.put | with_reducible apply Device.faultRecord_closed hP | with_reducible apply Device.pathGo_closed hP | with_reducible apply Device.queueRecord_closed hP | with_reducible apply Device.setDead_closed hP | split) | split | intro _ | dsimp only)

theorem Device.pathFails_closed {d : Device} {p : Nat} {causes : BitVec 7} (hPd : P d) : P (Device.pathFails d p causes) := by
  unfold Device.pathFails
  (try dsimp only)
  repeat' (first | with_reducible assumption | with_reducible exact fun _ hx => hx | with_reducible apply Device.faultRecord_closed hP | with_reducible apply Device.pathRefuse_closed hP | with_reducible apply Device.mutePath_closed hP | with_reducible apply hP.put | (with_reducible apply hP.lit <;> first | with_reducible assumption | exact id | exact fun _ => rfl | with_reducible exact fun _ hx => hx | with_reducible apply Device.faultRecord_closed hP | with_reducible apply Device.pathRefuse_closed hP | with_reducible apply Device.mutePath_closed hP | with_reducible apply hP.put | split) | split | intro _ | dsimp only)

theorem sliceFault_closed {p : Nat} {slice : Nat} {d : Device} (hPd : P d) : P (sliceFault p slice d) := by
  unfold sliceFault
  (try dsimp only)
  repeat' (first | with_reducible assumption | with_reducible exact fun _ hx => hx | with_reducible apply Device.spareUsed_closed hP | with_reducible apply Device.setElem_closed hP | with_reducible apply Device.pathFails_closed hP | with_reducible apply Device.poolEmpty_closed hP | (with_reducible apply hP.lit <;> first | with_reducible assumption | exact id | exact fun _ => rfl | with_reducible exact fun _ hx => hx | with_reducible apply Device.spareUsed_closed hP | with_reducible apply Device.setElem_closed hP | with_reducible apply Device.pathFails_closed hP | with_reducible apply Device.poolEmpty_closed hP | split) | split | intro _ | dsimp only)

theorem dacCellFault_closed {p : Nat} {cell : Nat} {d : Device} (hPd : P d) : P (dacCellFault p cell d) := by
  unfold dacCellFault
  (try dsimp only)
  repeat' (first | with_reducible assumption | with_reducible exact fun _ hx => hx | with_reducible apply Device.spareUsed_closed hP | with_reducible apply Device.setElem_closed hP | with_reducible apply Device.pathFails_closed hP | with_reducible apply Device.poolEmpty_closed hP | (with_reducible apply hP.lit <;> first | with_reducible assumption | exact id | exact fun _ => rfl | with_reducible exact fun _ hx => hx | with_reducible apply Device.spareUsed_closed hP | with_reducible apply Device.setElem_closed hP | with_reducible apply Device.pathFails_closed hP | with_reducible apply Device.poolEmpty_closed hP | split) | split | intro _ | dsimp only)

theorem driverCellFault_closed {p : Nat} {cell : Nat} {d : Device} (hPd : P d) : P (driverCellFault p cell d) := by
  unfold driverCellFault
  (try dsimp only)
  repeat' (first | with_reducible assumption | with_reducible exact fun _ hx => hx | with_reducible apply Device.spareUsed_closed hP | with_reducible apply Device.setElem_closed hP | with_reducible apply Device.modPath_closed hP | with_reducible apply Device.poolEmpty_closed hP | with_reducible apply Device.reglChanged_closed hP | with_reducible apply Closed.when | with_reducible apply Device.showCells_closed hP | (with_reducible apply hP.lit <;> first | with_reducible assumption | exact id | exact fun _ => rfl | with_reducible exact fun _ hx => hx | with_reducible apply Device.spareUsed_closed hP | with_reducible apply Device.setElem_closed hP | with_reducible apply Device.modPath_closed hP | with_reducible apply Device.poolEmpty_closed hP | with_reducible apply Device.reglChanged_closed hP | with_reducible apply Closed.when | with_reducible apply Device.showCells_closed hP | split) | split | intro _ | dsimp only)

theorem agcDownStep_closed {p : Nat} {peak : BitVec 8} {d : Device} (hPd : P d) : P (agcDownStep p peak d) := by
  unfold agcDownStep
  (try dsimp only)
  repeat' (first | with_reducible assumption | with_reducible exact fun _ hx => hx | with_reducible apply hP.put | with_reducible apply Device.dropWaits_closed hP | with_reducible apply Device.modPath_closed hP | with_reducible apply hP.count | with_reducible apply Device.await_closed hP | (with_reducible apply hP.lit <;> first | with_reducible assumption | exact id | exact fun _ => rfl | with_reducible exact fun _ hx => hx | with_reducible apply hP.put | with_reducible apply Device.dropWaits_closed hP | with_reducible apply Device.modPath_closed hP | with_reducible apply hP.count | with_reducible apply Device.await_closed hP | split) | split | intro _ | dsimp only)

theorem cancTrack_closed {p : Nat} {c : Nat} {null : Word} {resid : BitVec 16} {depth : BitVec 16} {d : Device} (hPd : P d) : P (cancTrack p c null resid depth d) := by
  unfold cancTrack
  (try dsimp only)
  repeat' (first | with_reducible assumption | with_reducible exact fun _ hx => hx | with_reducible apply hP.put | with_reducible apply Device.divOpen_closed hP | with_reducible apply Device.modPath_closed hP | with_reducible apply Device.await_closed hP | with_reducible refine snd_of_eq (by assumption) ?_ | (with_reducible apply hP.lit <;> first | with_reducible assumption | exact id | exact fun _ => rfl | with_reducible exact fun _ hx => hx | with_reducible apply hP.put | with_reducible apply Device.divOpen_closed hP | with_reducible apply Device.modPath_closed hP | with_reducible apply Device.await_closed hP | with_reducible refine snd_of_eq (by assumption) ?_ | split) | split | intro _ | dsimp only)

theorem pathWritten_closed {p : Nat} {off : Nat} {old : Word} {v : Word} {d : Device} (hPd : P d) : P (pathWritten p off old v d) := by
  unfold pathWritten
  (try dsimp only)
  repeat' (first | with_reducible assumption | with_reducible exact fun _ hx => hx | with_reducible apply Closed.when | with_reducible apply Device.await_closed hP | with_reducible apply hP.put | with_reducible apply Device.modPath_closed hP | with_reducible apply Device.levelWritten_closed hP | with_reducible apply hP.wr | (with_reducible apply hP.lit <;> first | with_reducible assumption | exact id | exact fun _ => rfl | with_reducible exact fun _ hx => hx | with_reducible apply Closed.when | with_reducible apply Device.await_closed hP | with_reducible apply hP.put | with_reducible apply Device.modPath_closed hP | with_reducible apply Device.levelWritten_closed hP | with_reducible apply hP.wr | split) | split | intro _ | dsimp only)

theorem pathBlockReset_closed {p : Nat} {d : Device} (hPd : P d) : P (pathBlockReset p d) := by
  unfold pathBlockReset
  (try dsimp only)
  repeat' (first | with_reducible assumption | with_reducible exact fun _ hx => hx | with_reducible apply Device.pathGo_closed hP | with_reducible apply Device.cutPath_closed hP | with_reducible apply Device.modPath_closed hP | (with_reducible apply hP.lit <;> first | with_reducible assumption | exact id | exact fun _ => rfl | with_reducible exact fun _ hx => hx | with_reducible apply Device.pathGo_closed hP | with_reducible apply Device.cutPath_closed hP | with_reducible apply Device.modPath_closed hP | split) | split | intro _ | dsimp only)

/-! ### Txs -/

theorem Device.bwViolation_closed {d : Device} {p : Nat} (hPd : P d) : P (Device.bwViolation d p) := by
  unfold Device.bwViolation
  (try dsimp only)
  repeat' (first | with_reducible assumption | with_reducible exact fun _ hx => hx | with_reducible apply Device.irq_closed hP | with_reducible apply hP.count | with_reducible apply Device.pathFails_closed hP | with_reducible apply hP.put | (with_reducible apply hP.lit <;> first | with_reducible assumption | exact id | exact fun _ => rfl | with_reducible exact fun _ hx => hx | with_reducible apply Device.irq_closed hP | with_reducible apply hP.count | with_reducible apply Device.pathFails_closed hP | with_reducible apply hP.put | split) | split | intro _ | dsimp only)

theorem breakwaterDwellEnd_closed {meas : List MaskMeas} {d : Device} (hPd : P d) : P (breakwaterDwellEnd meas d) := by
  unfold breakwaterDwellEnd
  (try dsimp only)
  repeat' (first | with_reducible assumption | with_reducible exact fun _ hx => hx | with_reducible apply Closed.forAll | with_reducible apply hP.putSat | with_reducible apply Closed.when | with_reducible apply Device.bwViolation_closed hP | with_reducible apply hP.put | (with_reducible apply hP.lit <;> first | with_reducible assumption | exact id | exact fun _ => rfl | with_reducible exact fun _ hx => hx | with_reducible apply Closed.forAll | with_reducible apply hP.putSat | with_reducible apply Closed.when | with_reducible apply Device.bwViolation_closed hP | with_reducible apply hP.put | split) | split | intro _ | dsimp only)

theorem txsWritten_closed {off : Nat} {v : Word} {d : Device} (hPd : P d) : P (txsWritten off v d) := by
  unfold txsWritten
  (try dsimp only)
  repeat' (first | with_reducible assumption | with_reducible exact fun _ hx => hx | with_reducible apply Closed.when | with_reducible apply Device.await_closed hP | with_reducible apply hP.wr | (with_reducible apply hP.lit <;> first | with_reducible assumption | exact id | exact fun _ => rfl | with_reducible exact fun _ hx => hx | with_reducible apply Closed.when | with_reducible apply Device.await_closed hP | with_reducible apply hP.wr | split) | split | intro _ | dsimp only)

theorem txsBlockReset_closed {d : Device} (hPd : P d) : P (txsBlockReset d) := by
  unfold txsBlockReset
  (try dsimp only)
  repeat' (first | with_reducible assumption | with_reducible exact fun _ hx => hx | (with_reducible apply hP.lit <;> first | with_reducible assumption | exact id | exact fun _ => rfl | with_reducible exact fun _ hx => hx | split) | split | intro _ | dsimp only)

/-! ### Calib -/

theorem Device.modCal_closed {d : Device} {f : CalSt → CalSt} (hPd : P d) : P (Device.modCal d f) := by
  unfold Device.modCal
  (try dsimp only)
  repeat' (first | with_reducible assumption | with_reducible exact fun _ hx => hx | (with_reducible apply hP.lit <;> first | with_reducible assumption | exact id | exact fun _ => rfl | with_reducible exact fun _ hx => hx | split) | split | intro _ | dsimp only)

theorem Device.showDpd_closed {d : Device} {p : Nat} (hPd : P d) : P (Device.showDpd d p) := by
  unfold Device.showDpd
  (try dsimp only)
  repeat' (first | with_reducible assumption | with_reducible exact fun _ hx => hx | with_reducible apply hP.putB | (with_reducible apply hP.lit <;> first | with_reducible assumption | exact id | exact fun _ => rfl | with_reducible exact fun _ hx => hx | with_reducible apply hP.putB | split) | split | intro _ | dsimp only)

theorem Device.inEffect_closed {d : Device} {proc : Nat} {ws : List CalWord} (hPd : P d) : P (Device.inEffect d proc ws) := by
  unfold Device.inEffect
  (try dsimp only)
  repeat' (first | with_reducible assumption | with_reducible exact fun _ hx => hx | with_reducible apply Device.modCal_closed hP | (with_reducible apply hP.lit <;> first | with_reducible assumption | exact id | exact fun _ => rfl | with_reducible exact fun _ hx => hx | with_reducible apply Device.modCal_closed hP | split) | split | intro _ | dsimp only)

theorem Device.clearBackoff_closed {d : Device} {p : Option Nat} (hPd : P d) : P (Device.clearBackoff d p) := by
  unfold Device.clearBackoff
  (try dsimp only)
  repeat' (first | with_reducible assumption | with_reducible exact fun _ hx => hx | with_reducible apply hP.put | with_reducible apply Closed.forAll | with_reducible apply hP.wr | (with_reducible apply hP.lit <;> first | with_reducible assumption | exact id | exact fun _ => rfl | with_reducible exact fun _ hx => hx | with_reducible apply hP.put | with_reducible apply Closed.forAll | with_reducible apply hP.wr | split) | split | intro _ | dsimp only)

theorem Device.applyChange_closed {d : Device} {c : Change} (hPd : P d) : P (Device.applyChange d c) := by
  unfold Device.applyChange
  (try dsimp only)
  repeat' (first | with_reducible assumption | with_reducible exact fun _ hx => hx | with_reducible apply Device.inEffect_closed hP | with_reducible apply Device.modPath_closed hP | with_reducible apply Device.modCal_closed hP | with_reducible apply Device.showDpd_closed hP | with_reducible apply Device.clearBackoff_closed hP | with_reducible apply hP.put | with_reducible apply Closed.forAll | with_reducible apply Closed.when | with_reducible apply Device.irq_closed hP | with_reducible apply Device.renormalise_closed hP | with_reducible apply Device.joinPath_closed hP | with_reducible apply Device.drainPath_closed hP | with_reducible apply Device.reglChanged_closed hP | with_reducible apply Device.setLevel_closed hP | with_reducible apply hP.count | with_reducible apply Device.groupApply_closed hP | with_reducible apply Device.groupLeave_closed hP | with_reducible apply hP.sramClear | (with_reducible apply hP.lit <;> first | with_reducible assumption | exact id | exact fun _ => rfl | with_reducible exact fun _ hx => hx | with_reducible apply Device.inEffect_closed hP | with_reducible apply Device.modPath_closed hP | with_reducible apply Device.modCal_closed hP | with_reducible apply Device.showDpd_closed hP | with_reducible apply Device.clearBackoff_closed hP | with_reducible apply hP.put | with_reducible apply Closed.forAll | with_reducible apply Closed.when | with_reducible apply Device.irq_closed hP | with_reducible apply Device.renormalise_closed hP | with_reducible apply Device.joinPath_closed hP | with_reducible apply Device.drainPath_closed hP | with_reducible apply Device.reglChanged_closed hP | with_reducible apply Device.setLevel_closed hP | with_reducible apply hP.count | with_reducible apply Device.groupApply_closed hP | with_reducible apply Device.groupLeave_closed hP | with_reducible apply hP.sramClear | split) | split | intro _ | dsimp only)

theorem Device.applyWaits_closed {d : Device} {f : Change → Bool} (hPd : P d) : P (Device.applyWaits d f) := by
  unfold Device.applyWaits
  (try dsimp only)
  repeat' (first | with_reducible assumption | with_reducible exact fun _ hx => hx | with_reducible apply Device.dropWaits_closed hP | with_reducible apply Closed.forAll | with_reducible apply Device.applyChange_closed hP | with_reducible apply Device.showWaits_closed hP | (with_reducible apply hP.lit <;> first | with_reducible assumption | exact id | exact fun _ => rfl | with_reducible exact fun _ hx => hx | with_reducible apply Device.dropWaits_closed hP | with_reducible apply Closed.forAll | with_reducible apply Device.applyChange_closed hP | with_reducible apply Device.showWaits_closed hP | split) | split | intro _ | dsimp only)

theorem boundaryApply_closed {gaps : BitVec 4} {d : Device} (hPd : P d) : P (boundaryApply gaps d) := by
  unfold boundaryApply
  (try dsimp only)
  repeat' (first | with_reducible assumption | with_reducible exact fun _ hx => hx | with_reducible apply Device.applyWaits_closed hP | (with_reducible apply hP.lit <;> first | with_reducible assumption | exact id | exact fun _ => rfl | with_reducible exact fun _ hx => hx | with_reducible apply Device.applyWaits_closed hP | split) | split | intro _ | dsimp only)

theorem slackWaterCall_closed {d : Device} (hPd : P d) : P (slackWaterCall d) := by
  unfold slackWaterCall
  (try dsimp only)
  repeat' (first | with_reducible assumption | with_reducible exact fun _ hx => hx | with_reducible apply Closed.forAll | with_reducible apply hP.count | with_reducible apply Device.modCal_closed hP | with_reducible apply Device.holdAsk_closed hP | (with_reducible apply hP.lit <;> first | with_reducible assumption | exact id | exact fun _ => rfl | with_reducible exact fun _ hx => hx | with_reducible apply Closed.forAll | with_reducible apply hP.count | with_reducible apply Device.modCal_closed hP | with_reducible apply Device.holdAsk_closed hP | split) | split | intro _ | dsimp only)

theorem slackWaterBegin_closed {d : Device} (hPd : P d) : P (slackWaterBegin d) := by
  unfold slackWaterBegin
  (try dsimp only)
  repeat' (first | with_reducible assumption | with_reducible exact fun _ hx => hx | with_reducible apply Device.applyWaits_closed hP | with_reducible apply hP.put | with_reducible apply Device.modCal_closed hP | (with_reducible apply hP.lit <;> first | with_reducible assumption | exact id | exact fun _ => rfl | with_reducible exact fun _ hx => hx | with_reducible apply Device.applyWaits_closed hP | with_reducible apply hP.put | with_reducible apply Device.modCal_closed hP | split) | split | intro _ | dsimp only)

theorem slackWaterEnd_closed {d : Device} (hPd : P d) : P (slackWaterEnd d) := by
  unfold slackWaterEnd
  (try dsimp only)
  repeat' (first | with_reducible assumption | with_reducible exact fun _ hx => hx | with_reducible apply Closed.forAll | with_reducible apply hP.put | with_reducible apply Device.modCal_closed hP | with_reducible apply Device.holdEnd_closed hP | (with_reducible apply hP.lit <;> first | with_reducible assumption | exact id | exact fun _ => rfl | with_reducible exact fun _ hx => hx | with_reducible apply Closed.forAll | with_reducible apply hP.put | with_reducible apply Device.modCal_closed hP | with_reducible apply Device.holdEnd_closed hP | split) | split | intro _ | dsimp only)

theorem Device.calReject_closed {d : Device} {proc : Nat} {reason : Nat} {path : Nat} {point : Nat} (hPd : P d) : P (Device.calReject d proc reason path point) := by
  unfold Device.calReject
  (try dsimp only)
  repeat' (first | with_reducible assumption | with_reducible exact fun _ hx => hx | with_reducible apply hP.count | with_reducible apply hP.wr | with_reducible apply Device.irq_closed hP | (with_reducible apply hP.lit <;> first | with_reducible assumption | exact id | exact fun _ => rfl | with_reducible exact fun _ hx => hx | with_reducible apply hP.count | with_reducible apply hP.wr | with_reducible apply Device.irq_closed hP | split) | split | intro _ | dsimp only)

theorem Device.calAccept_closed {d : Device} {proc : Nat} (hPd : P d) : P (Device.calAccept d proc) := by
  unfold Device.calAccept
  (try dsimp only)
  repeat' (first | with_reducible assumption | with_reducible exact fun _ hx => hx | with_reducible apply Device.irq_closed hP | with_reducible apply hP.wr | (with_reducible apply hP.lit <;> first | with_reducible assumption | exact id | exact fun _ => rfl | with_reducible exact fun _ hx => hx | with_reducible apply Device.irq_closed hP | with_reducible apply hP.wr | split) | split | intro _ | dsimp only)

theorem Device.calEnd_closed {d : Device} (hPd : P d) : P (Device.calEnd d) := by
  unfold Device.calEnd
  (try dsimp only)
  repeat' (first | with_reducible assumption | with_reducible exact fun _ hx => hx | with_reducible apply Device.modCal_closed hP | with_reducible apply hP.put | (with_reducible apply hP.lit <;> first | with_reducible assumption | exact id | exact fun _ => rfl | with_reducible exact fun _ hx => hx | with_reducible apply Device.modCal_closed hP | with_reducible apply hP.put | split) | split | intro _ | dsimp only)

theorem Device.calStart_closed {d : Device} {proc : Nat} {path : Nat} (hPd : P d) : P (Device.calStart d proc path) := by
  unfold Device.calStart
  (try dsimp only)
  repeat' (first | with_reducible assumption | with_reducible exact fun _ hx => hx | with_reducible apply hP.put | with_reducible apply Device.calReject_closed hP | with_reducible apply Device.modCal_closed hP | (with_reducible apply hP.lit <;> first | with_reducible assumption | exact id | exact fun _ => rfl | with_reducible exact fun _ hx => hx | with_reducible apply hP.put | with_reducible apply Device.calReject_closed hP | with_reducible apply Device.modCal_closed hP | split) | split | intro _ | dsimp only)

theorem Device.followCal_closed {d : Device} (hPd : P d) : P (Device.followCal d) := by
  unfold Device.followCal
  (try dsimp only)
  repeat' (first | with_reducible assumption | with_reducible exact fun _ hx => hx | with_reducible apply Device.calReject_closed hP | with_reducible apply Device.calEnd_closed hP | (with_reducible apply hP.lit <;> first | with_reducible assumption | exact id | exact fun _ => rfl | with_reducible exact fun _ hx => hx | with_reducible apply Device.calReject_closed hP | with_reducible apply Device.calEnd_closed hP | split) | split | intro _ | dsimp only)

theorem Device.calQueue_closed {d : Device} {proc : Nat} {m : CalMeas} (hPd : P d) : P (Device.calQueue d proc m) := by
  unfold Device.calQueue
  (try dsimp only)
  repeat' (first | with_reducible assumption | with_reducible exact fun _ hx => hx | with_reducible apply hP.wr | with_reducible apply Device.inEffect_closed hP | with_reducible apply Device.await_closed hP | with_reducible apply Closed.forAll | with_reducible apply hP.putS | with_reducible apply hP.put | with_reducible apply Closed.when | with_reducible apply Device.modCal_closed hP | (with_reducible apply hP.lit <;> first | with_reducible assumption | exact id | exact fun _ => rfl | with_reducible exact fun _ hx => hx | with_reducible apply hP.wr | with_reducible apply Device.inEffect_closed hP | with_reducible apply Device.await_closed hP | with_reducible apply Closed.forAll | with_reducible apply hP.putS | with_reducible apply hP.put | with_reducible apply Closed.when | with_reducible apply Device.modCal_closed hP | split) | split | intro _ | dsimp only)

theorem calProcComplete_closed {m : CalMeas} {d : Device} (hPd : P d) : P (calProcComplete m d) := by
  unfold calProcComplete
  (try dsimp only)
  repeat' (first | with_reducible assumption | with_reducible exact fun _ hx => hx | with_reducible apply Device.calReject_closed hP | with_reducible apply Device.calEnd_closed hP | with_reducible apply Device.modCal_closed hP | with_reducible apply Device.calQueue_closed hP | with_reducible apply Closed.when | with_reducible apply hP.putS | with_reducible apply hP.put | with_reducible apply Device.calAccept_closed hP | (with_reducible apply hP.lit <;> first | with_reducible assumption | exact id | exact fun _ => rfl | with_reducible exact fun _ hx => hx | with_reducible apply Device.calReject_closed hP | with_reducible apply Device.calEnd_closed hP | with_reducible apply Device.modCal_closed hP | with_reducible apply Device.calQueue_closed hP | with_reducible apply Closed.when | with_reducible apply hP.putS | with_reducible apply hP.put | with_reducible apply Device.calAccept_closed hP | split) | split | intro _ | dsimp only)

theorem Device.calAbort_closed {d : Device} (hPd : P d) : P (Device.calAbort d) := by
  unfold Device.calAbort
  (try dsimp only)
  repeat' (first | with_reducible assumption | with_reducible exact fun _ hx => hx | with_reducible apply Device.calReject_closed hP | with_reducible apply Device.calEnd_closed hP | (with_reducible apply hP.lit <;> first | with_reducible assumption | exact id | exact fun _ => rfl | with_reducible exact fun _ hx => hx | with_reducible apply Device.calReject_closed hP | with_reducible apply Device.calEnd_closed hP | split) | split | intro _ | dsimp only)

theorem Device.showDpdValid_closed {d : Device} (hPd : P d) : P (Device.showDpdValid d) := by
  unfold Device.showDpdValid
  (try dsimp only)
  repeat' (first | with_reducible assumption | with_reducible exact fun _ hx => hx | with_reducible apply hP.putB | (with_reducible apply hP.lit <;> first | with_reducible assumption | exact id | exact fun _ => rfl | with_reducible exact fun _ hx => hx | with_reducible apply hP.putB | split) | split | intro _ | dsimp only)

theorem calDueEvent_closed {d : Device} (hPd : P d) : P (calDueEvent d) := by
  unfold calDueEvent
  (try dsimp only)
  repeat' (first | with_reducible assumption | with_reducible exact fun _ hx => hx | with_reducible apply Closed.forAll | with_reducible apply Device.irq_closed hP | with_reducible apply hP.put | (with_reducible apply hP.lit <;> first | with_reducible assumption | exact id | exact fun _ => rfl | with_reducible exact fun _ hx => hx | with_reducible apply Closed.forAll | with_reducible apply Device.irq_closed hP | with_reducible apply hP.put | split) | split | intro _ | dsimp only)

theorem Device.tblNext_closed {d : Device} (hPd : P d) : P (Device.tblNext d) := by
  unfold Device.tblNext
  (try dsimp only)
  repeat' (first | with_reducible assumption | with_reducible exact fun _ hx => hx | with_reducible apply hP.put | (with_reducible apply hP.lit <;> first | with_reducible assumption | exact id | exact fun _ => rfl | with_reducible exact fun _ hx => hx | with_reducible apply hP.put | split) | split | intro _ | dsimp only)

theorem Device.tblRead_closed {d : Device} (hPd : P d) : P (Device.tblRead d) := by
  unfold Device.tblRead
  (try dsimp only)
  repeat' (first | with_reducible assumption | with_reducible exact fun _ hx => hx | with_reducible apply Device.tblNext_closed hP | (with_reducible apply hP.lit <;> first | with_reducible assumption | exact id | exact fun _ => rfl | with_reducible exact fun _ hx => hx | with_reducible apply Device.tblNext_closed hP | split) | split | intro _ | dsimp only)

theorem Device.tblCommit_closed {d : Device} (hPd : P d) : P (Device.tblCommit d) := by
  unfold Device.tblCommit
  (try dsimp only)
  repeat' (first | with_reducible assumption | with_reducible exact fun _ hx => hx | with_reducible apply Device.calReject_closed hP | with_reducible apply Device.modCal_closed hP | with_reducible apply hP.put | with_reducible apply Device.calAccept_closed hP | with_reducible apply Device.await_closed hP | with_reducible apply hP.mirror | (with_reducible apply hP.lit <;> first | with_reducible assumption | exact id | exact fun _ => rfl | with_reducible exact fun _ hx => hx | with_reducible apply Device.calReject_closed hP | with_reducible apply Device.modCal_closed hP | with_reducible apply hP.put | with_reducible apply Device.calAccept_closed hP | with_reducible apply Device.await_closed hP | with_reducible apply hP.mirror | split) | split | intro _ | dsimp only)

theorem calWritten_closed {off : Nat} {v : Word} {d : Device} (hPd : P d) : P (calWritten off v d) := by
  unfold calWritten
  (try dsimp only)
  repeat' (first | with_reducible assumption | with_reducible exact fun _ hx => hx | with_reducible apply Closed.when | with_reducible apply Device.calAbort_closed hP | with_reducible apply Device.calStart_closed hP | with_reducible apply hP.wr | with_reducible apply hP.put | with_reducible apply Device.tblNext_closed hP | with_reducible apply Device.modCal_closed hP | with_reducible apply Device.tblCommit_closed hP | with_reducible apply Device.await_closed hP | with_reducible apply hP.mirror | (with_reducible apply hP.lit <;> first | with_reducible assumption | exact id | exact fun _ => rfl | with_reducible exact fun _ hx => hx | with_reducible apply Closed.when | with_reducible apply Device.calAbort_closed hP | with_reducible apply Device.calStart_closed hP | with_reducible apply hP.wr | with_reducible apply hP.put | with_reducible apply Device.tblNext_closed hP | with_reducible apply Device.modCal_closed hP | with_reducible apply Device.tblCommit_closed hP | with_reducible apply Device.await_closed hP | with_reducible apply hP.mirror | split) | split | intro _ | dsimp only)

theorem calBlockReset_closed {old : Device} {d : Device} (hPd : P d) : P (calBlockReset old d) := by
  unfold calBlockReset
  (try dsimp only)
  repeat' (first | with_reducible assumption | with_reducible exact fun _ hx => hx | with_reducible apply Device.modCal_closed hP | with_reducible apply Device.dropWaits_closed hP | with_reducible apply hP.wr | with_reducible apply hP.putB | with_reducible apply hP.put | with_reducible apply Device.showWaits_closed hP | (with_reducible apply hP.lit <;> first | with_reducible assumption | exact id | exact fun _ => rfl | with_reducible exact fun _ hx => hx | with_reducible apply Device.modCal_closed hP | with_reducible apply Device.dropWaits_closed hP | with_reducible apply hP.wr | with_reducible apply hP.putB | with_reducible apply hP.put | with_reducible apply Device.showWaits_closed hP | split) | split | intro _ | dsimp only)

end Sys2Proof.Machine
end

