-- ==== Sys2Proof/Laws/ClosedLinks.lean ====
section
/-!
SUPPORT. Each operation of Machine/Cascade.lean, Machine/Sspm.lean, Machine/Sec.lean, Machine/Bus.lean, Machine/PacketLink.lean keeps every closed property of the device.
-/
set_option linter.unusedTactic false
set_option linter.unreachableTactic false
set_option linter.unusedSectionVars false
set_option linter.unusedVariables false
namespace Sys2Proof.Machine

variable {P : Device → Prop} (hP : Closed P)
include hP

/-! ### Cascade -/

theorem Device.censusStart_closed {d : Device} (hPd : P d) : P (Device.censusStart d) := by
  unfold Device.censusStart
  (try dsimp only)
  repeat' (first | with_reducible assumption | with_reducible exact fun _ hx => hx | with_reducible apply Device.modKl_closed hP | with_reducible apply hP.put | with_reducible apply hP.addWrap | with_reducible apply Closed.forAll | with_reducible apply Device.sendDown_closed hP | (with_reducible apply hP.lit <;> first | with_reducible assumption | exact id | exact fun _ => rfl | with_reducible exact fun _ hx => hx | with_reducible apply Device.modKl_closed hP | with_reducible apply hP.put | with_reducible apply hP.addWrap | with_reducible apply Closed.forAll | with_reducible apply Device.sendDown_closed hP | split) | split | intro _ | dsimp only)

theorem Device.censusAuto_closed {d : Device} (hPd : P d) : P (Device.censusAuto d) := by
  unfold Device.censusAuto
  (try dsimp only)
  repeat' (first | with_reducible assumption | with_reducible exact fun _ hx => hx | with_reducible apply Device.censusStart_closed hP | (with_reducible apply hP.lit <;> first | with_reducible assumption | exact id | exact fun _ => rfl | with_reducible exact fun _ hx => hx | with_reducible apply Device.censusStart_closed hP | split) | split | intro _ | dsimp only)

theorem Device.censusCheck_closed {d : Device} (hPd : P d) : P (Device.censusCheck d) := by
  unfold Device.censusCheck
  (try dsimp only)
  repeat' (first | with_reducible assumption | with_reducible exact fun _ hx => hx | with_reducible apply Device.sendUp_closed hP | with_reducible apply Device.modKl_closed hP | (with_reducible apply hP.lit <;> first | with_reducible assumption | exact id | exact fun _ => rfl | with_reducible exact fun _ hx => hx | with_reducible apply Device.sendUp_closed hP | with_reducible apply Device.modKl_closed hP | split) | split | intro _ | dsimp only)

theorem Device.portGo_closed {d : Device} {k : Nat} {s : Nat} (hPd : P d) : P (Device.portGo d k s) := by
  unfold Device.portGo
  (try dsimp only)
  repeat' (first | with_reducible assumption | with_reducible exact fun _ hx => hx | with_reducible apply hP.putB | with_reducible apply hP.put | with_reducible apply Closed.when | with_reducible apply Device.irq_closed hP | with_reducible apply Device.censusAuto_closed hP | with_reducible apply Device.klEvent_closed hP | (with_reducible apply hP.lit <;> first | with_reducible assumption | exact id | exact fun _ => rfl | with_reducible exact fun _ hx => hx | with_reducible apply hP.putB | with_reducible apply hP.put | with_reducible apply Closed.when | with_reducible apply Device.irq_closed hP | with_reducible apply Device.censusAuto_closed hP | with_reducible apply Device.klEvent_closed hP | split) | split | intro _ | dsimp only)

theorem Device.linkClear_closed {d : Device} {k : Nat} (hPd : P d) : P (Device.linkClear d k) := by
  unfold Device.linkClear
  (try dsimp only)
  repeat' (first | with_reducible assumption | with_reducible exact fun _ hx => hx | with_reducible apply Device.showCredits_closed hP | with_reducible apply Device.modPort_closed hP | (with_reducible apply hP.lit <;> first | with_reducible assumption | exact id | exact fun _ => rfl | with_reducible exact fun _ hx => hx | with_reducible apply Device.showCredits_closed hP | with_reducible apply Device.modPort_closed hP | split) | split | intro _ | dsimp only)

theorem Device.e2eResend_closed {d : Device} (hPd : P d) : P (Device.e2eResend d) := by
  unfold Device.e2eResend
  (try dsimp only)
  repeat' (first | with_reducible assumption | with_reducible exact fun _ hx => hx | with_reducible apply Device.pump_closed hP | with_reducible apply Device.modKl_closed hP | (with_reducible apply hP.lit <;> first | with_reducible assumption | exact id | exact fun _ => rfl | with_reducible exact fun _ hx => hx | with_reducible apply Device.pump_closed hP | with_reducible apply Device.modKl_closed hP | split) | split | intro _ | dsimp only)

theorem Device.showAlt_closed {d : Device} (hPd : P d) : P (Device.showAlt d) := by
  unfold Device.showAlt
  (try dsimp only)
  repeat' (first | with_reducible assumption | with_reducible exact fun _ hx => hx | with_reducible apply hP.putB | (with_reducible apply hP.lit <;> first | with_reducible assumption | exact id | exact fun _ => rfl | with_reducible exact fun _ hx => hx | with_reducible apply hP.putB | split) | split | intro _ | dsimp only)

theorem Device.useUpPort_closed {d : Device} {k : Nat} (hPd : P d) : P (Device.useUpPort d k) := by
  unfold Device.useUpPort
  (try dsimp only)
  repeat' (first | with_reducible assumption | with_reducible exact fun _ hx => hx | with_reducible apply Device.e2eResend_closed hP | with_reducible apply hP.wr | with_reducible apply hP.putB | (with_reducible apply hP.lit <;> first | with_reducible assumption | exact id | exact fun _ => rfl | with_reducible exact fun _ hx => hx | with_reducible apply Device.e2eResend_closed hP | with_reducible apply hP.wr | with_reducible apply hP.putB | split) | split | intro _ | dsimp only)

theorem Device.aligned_closed {d : Device} (hPd : P d) : P (Device.aligned d) := by
  unfold Device.aligned
  (try dsimp only)
  repeat' (first | with_reducible assumption | with_reducible exact fun _ hx => hx | with_reducible apply Device.syncGo_closed hP | with_reducible apply Device.groupGo_closed hP | (with_reducible apply hP.lit <;> first | with_reducible assumption | exact id | exact fun _ => rfl | with_reducible exact fun _ hx => hx | with_reducible apply Device.syncGo_closed hP | with_reducible apply Device.groupGo_closed hP | split) | split | intro _ | dsimp only)

theorem Device.upLost_closed {d : Device} {k : Nat} (hPd : P d) : P (Device.upLost d k) := by
  unfold Device.upLost
  (try dsimp only)
  repeat' (first | with_reducible assumption | with_reducible exact fun _ hx => hx | with_reducible apply Device.modKl_closed hP | with_reducible apply Device.syncGo_closed hP | with_reducible apply hP.count | with_reducible apply Device.useUpPort_closed hP | with_reducible apply Device.portGo_closed hP | with_reducible apply Device.aligned_closed hP | with_reducible apply Device.groupDue_closed hP | with_reducible apply Device.klEvent_closed hP | with_reducible apply Closed.when | with_reducible apply Device.irq_closed hP | (with_reducible apply hP.lit <;> first | with_reducible assumption | exact id | exact fun _ => rfl | with_reducible exact fun _ hx => hx | with_reducible apply Device.modKl_closed hP | with_reducible apply Device.syncGo_closed hP | with_reducible apply hP.count | with_reducible apply Device.useUpPort_closed hP | with_reducible apply Device.portGo_closed hP | with_reducible apply Device.aligned_closed hP | with_reducible apply Device.groupDue_closed hP | with_reducible apply Device.klEvent_closed hP | with_reducible apply Closed.when | with_reducible apply Device.irq_closed hP | split) | split | intro _ | dsimp only)

theorem Device.portStop_closed {d : Device} {k : Nat} {s : Nat} (hPd : P d) : P (Device.portStop d k s) := by
  unfold Device.portStop
  (try dsimp only)
  repeat' (first | with_reducible assumption | with_reducible exact fun _ hx => hx | with_reducible apply Device.portGo_closed hP | with_reducible apply Device.linkClear_closed hP | with_reducible apply Device.showAlt_closed hP | with_reducible apply Device.censusCheck_closed hP | with_reducible apply Closed.when | with_reducible apply Device.upLost_closed hP | (with_reducible apply hP.lit <;> first | with_reducible assumption | exact id | exact fun _ => rfl | with_reducible exact fun _ hx => hx | with_reducible apply Device.portGo_closed hP | with_reducible apply Device.linkClear_closed hP | with_reducible apply Device.showAlt_closed hP | with_reducible apply Device.censusCheck_closed hP | with_reducible apply Closed.when | with_reducible apply Device.upLost_closed hP | split) | split | intro _ | dsimp only)

theorem Device.portStart_closed {d : Device} {k : Nat} (hPd : P d) : P (Device.portStart d k) := by
  unfold Device.portStart
  (try dsimp only)
  repeat' (first | with_reducible assumption | with_reducible exact fun _ hx => hx | with_reducible apply Device.portGo_closed hP | (with_reducible apply hP.lit <;> first | with_reducible assumption | exact id | exact fun _ => rfl | with_reducible exact fun _ hx => hx | with_reducible apply Device.portGo_closed hP | split) | split | intro _ | dsimp only)

theorem Device.portEnable_closed {d : Device} {k : Nat} (hPd : P d) : P (Device.portEnable d k) := by
  unfold Device.portEnable
  (try dsimp only)
  repeat' (first | with_reducible assumption | with_reducible exact fun _ hx => hx | with_reducible apply hP.put | with_reducible apply Device.portStart_closed hP | (with_reducible apply hP.lit <;> first | with_reducible assumption | exact id | exact fun _ => rfl | with_reducible exact fun _ hx => hx | with_reducible apply hP.put | with_reducible apply Device.portStart_closed hP | split) | split | intro _ | dsimp only)

theorem Device.portDisable_closed {d : Device} {k : Nat} (hPd : P d) : P (Device.portDisable d k) := by
  unfold Device.portDisable
  (try dsimp only)
  repeat' (first | with_reducible assumption | with_reducible exact fun _ hx => hx | with_reducible apply hP.put | with_reducible apply Device.portGo_closed hP | with_reducible apply Device.modPort_closed hP | with_reducible apply Device.showAlt_closed hP | with_reducible apply Device.censusCheck_closed hP | with_reducible apply Closed.when | with_reducible apply Device.upLost_closed hP | (with_reducible apply hP.lit <;> first | with_reducible assumption | exact id | exact fun _ => rfl | with_reducible exact fun _ hx => hx | with_reducible apply hP.put | with_reducible apply Device.portGo_closed hP | with_reducible apply Device.modPort_closed hP | with_reducible apply Device.showAlt_closed hP | with_reducible apply Device.censusCheck_closed hP | with_reducible apply Closed.when | with_reducible apply Device.upLost_closed hP | split) | split | intro _ | dsimp only)

theorem klSignalDetect_closed {k : Nat} {d : Device} (hPd : P d) : P (klSignalDetect k d) := by
  unfold klSignalDetect
  (try dsimp only)
  repeat' (first | with_reducible assumption | with_reducible exact fun _ hx => hx | with_reducible apply Device.portGo_closed hP | (with_reducible apply hP.lit <;> first | with_reducible assumption | exact id | exact fun _ => rfl | with_reducible exact fun _ hx => hx | with_reducible apply Device.portGo_closed hP | split) | split | intro _ | dsimp only)

theorem klBlockLock_closed {k : Nat} {d : Device} (hPd : P d) : P (klBlockLock k d) := by
  unfold klBlockLock
  (try dsimp only)
  repeat' (first | with_reducible assumption | with_reducible exact fun _ hx => hx | with_reducible apply Device.takeFree_closed hP | with_reducible apply Device.modPort_closed hP | with_reducible apply Device.portGo_closed hP | with_reducible apply Device.showCredits_closed hP | with_reducible refine snd_of_eq (by assumption) ?_ | (with_reducible apply hP.lit <;> first | with_reducible assumption | exact id | exact fun _ => rfl | with_reducible exact fun _ hx => hx | with_reducible apply Device.takeFree_closed hP | with_reducible apply Device.modPort_closed hP | with_reducible apply Device.portGo_closed hP | with_reducible apply Device.showCredits_closed hP | with_reducible refine snd_of_eq (by assumption) ?_ | split) | split | intro _ | dsimp only)

theorem klTrainFrame_closed {k : Nat} {t : KlTrain} {d : Device} (hPd : P d) : P (klTrainFrame k t d) := by
  unfold klTrainFrame
  (try dsimp only)
  repeat' (first | with_reducible assumption | with_reducible exact fun _ hx => hx | with_reducible apply hP.put | with_reducible apply hP.putB | with_reducible apply Device.klEvent_closed hP | with_reducible apply Device.portStop_closed hP | with_reducible apply Device.modPort_closed hP | with_reducible apply Device.portGo_closed hP | with_reducible apply Closed.when | with_reducible apply Device.showRatio_closed hP | (with_reducible apply hP.lit <;> first | with_reducible assumption | exact id | exact fun _ => rfl | with_reducible exact fun _ hx => hx | with_reducible apply hP.put | with_reducible apply hP.putB | with_reducible apply Device.klEvent_closed hP | with_reducible apply Device.portStop_closed hP | with_reducible apply Device.modPort_closed hP | with_reducible apply Device.portGo_closed hP | with_reducible apply Closed.when | with_reducible apply Device.showRatio_closed hP | split) | split | intro _ | dsimp only)

theorem Device.setTideFine_closed {d : Device} {t : Int} (hPd : P d) : P (Device.setTideFine d t) := by
  unfold Device.setTideFine
  (try dsimp only)
  repeat' (first | with_reducible assumption | with_reducible exact fun _ hx => hx | with_reducible apply hP.wr | with_reducible apply Device.setTide_closed hP | (with_reducible apply hP.lit <;> first | with_reducible assumption | exact id | exact fun _ => rfl | with_reducible exact fun _ hx => hx | with_reducible apply hP.wr | with_reducible apply Device.setTide_closed hP | split) | split | intro _ | dsimp only)

theorem Device.stepTide_closed {d : Device} {off : Int} (hPd : P d) : P (Device.stepTide d off) := by
  unfold Device.stepTide
  (try dsimp only)
  repeat' (first | with_reducible assumption | with_reducible exact fun _ hx => hx | with_reducible apply Device.divOpen_closed hP | with_reducible apply Device.tideStepped_closed hP | with_reducible apply Device.setTideFine_closed hP | with_reducible refine snd_of_eq (by assumption) ?_ | (with_reducible apply hP.lit <;> first | with_reducible assumption | exact id | exact fun _ => rfl | with_reducible exact fun _ hx => hx | with_reducible apply Device.divOpen_closed hP | with_reducible apply Device.tideStepped_closed hP | with_reducible apply Device.setTideFine_closed hP | with_reducible refine snd_of_eq (by assumption) ?_ | split) | split | intro _ | dsimp only)

theorem klMeasureEnd_closed {k : Nat} {d : Device} (hPd : P d) : P (klMeasureEnd k d) := by
  unfold klMeasureEnd
  (try dsimp only)
  repeat' (first | with_reducible assumption | with_reducible exact fun _ hx => hx | with_reducible apply Device.portGo_closed hP | with_reducible apply Device.modPort_closed hP | with_reducible apply Device.showAlt_closed hP | with_reducible apply Device.divOpen_closed hP | with_reducible apply Device.aligned_closed hP | with_reducible apply Device.useUpPort_closed hP | with_reducible apply Device.stepTide_closed hP | with_reducible refine snd_of_eq (by assumption) ?_ | (with_reducible apply hP.lit <;> first | with_reducible assumption | exact id | exact fun _ => rfl | with_reducible exact fun _ hx => hx | with_reducible apply Device.portGo_closed hP | with_reducible apply Device.modPort_closed hP | with_reducible apply Device.showAlt_closed hP | with_reducible apply Device.divOpen_closed hP | with_reducible apply Device.aligned_closed hP | with_reducible apply Device.useUpPort_closed hP | with_reducible apply Device.stepTide_closed hP | with_reducible refine snd_of_eq (by assumption) ?_ | split) | split | intro _ | dsimp only)

theorem klDrainEnd_closed {k : Nat} {d : Device} (hPd : P d) : P (klDrainEnd k d) := by
  unfold klDrainEnd
  (try dsimp only)
  repeat' (first | with_reducible assumption | with_reducible exact fun _ hx => hx | with_reducible apply Device.portGo_closed hP | with_reducible apply Device.linkClear_closed hP | with_reducible apply Device.portStart_closed hP | with_reducible apply hP.put | (with_reducible apply hP.lit <;> first | with_reducible assumption | exact id | exact fun _ => rfl | with_reducible exact fun _ hx => hx | with_reducible apply Device.portGo_closed hP | with_reducible apply Device.linkClear_closed hP | with_reducible apply Device.portStart_closed hP | with_reducible apply hP.put | split) | split | intro _ | dsimp only)

theorem klPortFault_closed {k : Nat} {c : KlCause} {d : Device} (hPd : P d) : P (klPortFault k c d) := by
  unfold klPortFault
  (try dsimp only)
  repeat' (first | with_reducible assumption | with_reducible exact fun _ hx => hx | with_reducible apply Device.portStop_closed hP | with_reducible apply Closed.when | with_reducible apply Device.modPort_closed hP | with_reducible apply Device.queueRecord_closed hP | (with_reducible apply hP.lit <;> first | with_reducible assumption | exact id | exact fun _ => rfl | with_reducible exact fun _ hx => hx | with_reducible apply Device.portStop_closed hP | with_reducible apply Closed.when | with_reducible apply Device.modPort_closed hP | with_reducible apply Device.queueRecord_closed hP | split) | split | intro _ | dsimp only)

theorem klRetrainTimer_closed {k : Nat} {d : Device} (hPd : P d) : P (klRetrainTimer k d) := by
  unfold klRetrainTimer
  (try dsimp only)
  repeat' (first | with_reducible assumption | with_reducible exact fun _ hx => hx | with_reducible apply Device.portGo_closed hP | with_reducible apply Device.modPort_closed hP | (with_reducible apply hP.lit <;> first | with_reducible assumption | exact id | exact fun _ => rfl | with_reducible exact fun _ hx => hx | with_reducible apply Device.portGo_closed hP | with_reducible apply Device.modPort_closed hP | split) | split | intro _ | dsimp only)

theorem Device.trailer_closed {d : Device} {h : KlHead} (hPd : P d) : P (Device.trailer d h) := by
  unfold Device.trailer
  (try dsimp only)
  repeat' (first | with_reducible assumption | with_reducible exact fun _ hx => hx | with_reducible apply Device.modPort_closed hP | with_reducible apply Device.pump_closed hP | with_reducible apply Device.showCredits_closed hP | (with_reducible apply hP.lit <;> first | with_reducible assumption | exact id | exact fun _ => rfl | with_reducible exact fun _ hx => hx | with_reducible apply Device.modPort_closed hP | with_reducible apply Device.pump_closed hP | with_reducible apply Device.showCredits_closed hP | split) | split | intro _ | dsimp only)

theorem Device.receive_go_closed {h : KlHead} {cls : Nat} {held : Bool} {f : Device → Device} {d : Device} {k : Nat} (hPd : P d)
    (hf : ∀ x, P x → P (f x)) : P (Device.receive.go h cls held f d k) := by
  unfold Device.receive.go
  dsimp only
  apply hf
  split
  · exact Device.bufferUse_closed hP (Device.modPort_closed hP hPd)
  · exact Device.modPort_closed hP hPd

theorem Device.receive_closed {d : Device} {h : KlHead} {cls : Nat} {held : Bool} {f : Device → Device} (hPd : P d)
    (hf : ∀ x, P x → P (f x)) : P (Device.receive d h cls held f) := by
  unfold Device.receive
  dsimp only
  split
  · exact hPd
  · have ht := Device.trailer_closed hP (d := d) (h := h) hPd
    split
    · split
      · exact Device.receive_go_closed hP ht hf
      · exact ht
    · exact Device.receive_go_closed hP ht hf

theorem Device.forward_closed {d : Device} {h : KlHead} {way : KlTo} {body : KlBody} {cls : Nat} (hPd : P d) : P (Device.forward d h way body cls) := by
  unfold Device.forward
  (try dsimp only)
  repeat' (first | with_reducible assumption | with_reducible exact fun _ hx => hx | with_reducible apply Device.sendDown_closed hP | with_reducible apply Closed.forAll | (with_reducible apply hP.lit <;> first | with_reducible assumption | exact id | exact fun _ => rfl | with_reducible exact fun _ hx => hx | with_reducible apply Device.sendDown_closed hP | with_reducible apply Closed.forAll | split) | split | intro _ | dsimp only)

theorem Device.relayUp_closed {d : Device} {h : KlHead} {body : KlBody} {cls : Nat} (hPd : P d) : P (Device.relayUp d h body cls) := by
  unfold Device.relayUp
  (try dsimp only)
  repeat' (first | with_reducible assumption | with_reducible exact fun _ hx => hx | with_reducible apply Device.sendUp_closed hP | with_reducible apply Device.bufferUse_closed hP | (with_reducible apply hP.lit <;> first | with_reducible assumption | exact id | exact fun _ => rfl | with_reducible exact fun _ hx => hx | with_reducible apply Device.sendUp_closed hP | with_reducible apply Device.bufferUse_closed hP | split) | split | intro _ | dsimp only)

theorem klNullFrame_closed {h : KlHead} {d : Device} (hPd : P d) : P (klNullFrame h d) := by
  unfold klNullFrame
  (try dsimp only)
  repeat' (first | with_reducible assumption | with_reducible exact fun _ hx => hx | with_reducible apply Device.trailer_closed hP | (with_reducible apply hP.lit <;> first | with_reducible assumption | exact id | exact fun _ => rfl | with_reducible exact fun _ hx => hx | with_reducible apply Device.trailer_closed hP | split) | split | intro _ | dsimp only)

theorem Device.resend_closed {d : Device} {k : Nat} (hPd : P d) : P (Device.resend d k) := by
  unfold Device.resend
  (try dsimp only)
  repeat' (first | with_reducible assumption | with_reducible exact fun _ hx => hx | with_reducible apply hP.count | with_reducible apply Device.modPort_closed hP | (with_reducible apply hP.lit <;> first | with_reducible assumption | exact id | exact fun _ => rfl | with_reducible exact fun _ hx => hx | with_reducible apply hP.count | with_reducible apply Device.modPort_closed hP | split) | split | intro _ | dsimp only)

theorem klNak_closed {k : Nat} {d : Device} (hPd : P d) : P (klNak k d) := by
  unfold klNak
  (try dsimp only)
  repeat' (first | with_reducible assumption | with_reducible exact fun _ hx => hx | with_reducible apply Device.resend_closed hP | (with_reducible apply hP.lit <;> first | with_reducible assumption | exact id | exact fun _ => rfl | with_reducible exact fun _ hx => hx | with_reducible apply Device.resend_closed hP | split) | split | intro _ | dsimp only)

theorem klReplayTimeout_closed {k : Nat} {d : Device} (hPd : P d) : P (klReplayTimeout k d) := by
  unfold klReplayTimeout
  (try dsimp only)
  repeat' (first | with_reducible assumption | with_reducible exact fun _ hx => hx | with_reducible apply klPortFault_closed hP | with_reducible apply Device.resend_closed hP | (with_reducible apply hP.lit <;> first | with_reducible assumption | exact id | exact fun _ => rfl | with_reducible exact fun _ hx => hx | with_reducible apply klPortFault_closed hP | with_reducible apply Device.resend_closed hP | split) | split | intro _ | dsimp only)

theorem klBadFrame_closed {k : Nat} {d : Device} (hPd : P d) : P (klBadFrame k d) := by
  unfold klBadFrame
  (try dsimp only)
  repeat' (first | with_reducible assumption | with_reducible exact fun _ hx => hx | with_reducible apply hP.count | with_reducible apply Device.modPort_closed hP | (with_reducible apply hP.lit <;> first | with_reducible assumption | exact id | exact fun _ => rfl | with_reducible exact fun _ hx => hx | with_reducible apply hP.count | with_reducible apply Device.modPort_closed hP | split) | split | intro _ | dsimp only)

theorem unknownFrame_closed {h : KlHead} {d : Device} (hPd : P d) : P (unknownFrame h d) := by
  unfold unknownFrame
  (try dsimp only)
  repeat' (first | with_reducible assumption | with_reducible exact fun _ hx => hx | with_reducible apply Device.receive_closed hP | with_reducible apply hP.count | (with_reducible apply hP.lit <;> first | with_reducible assumption | exact id | exact fun _ => rfl | with_reducible exact fun _ hx => hx | with_reducible apply Device.receive_closed hP | with_reducible apply hP.count | split) | split | intro _ | dsimp only)

theorem klTick_closed {k : Nat} {tide : Nat} {d : Device} (hPd : P d) : P (klTick k tide d) := by
  unfold klTick
  (try dsimp only)
  repeat' (first | with_reducible assumption | with_reducible exact fun _ hx => hx | with_reducible apply Device.modPort_closed hP | (with_reducible apply hP.lit <;> first | with_reducible assumption | exact id | exact fun _ => rfl | with_reducible exact fun _ hx => hx | with_reducible apply Device.modPort_closed hP | split) | split | intro _ | dsimp only)

theorem delayExchangeStart_closed {k : Nat} {d : Device} (hPd : P d) : P (delayExchangeStart k d) := by
  unfold delayExchangeStart
  (try dsimp only)
  repeat' (first | with_reducible assumption | with_reducible exact fun _ hx => hx | with_reducible apply Device.modPort_closed hP | (with_reducible apply hP.lit <;> first | with_reducible assumption | exact id | exact fun _ => rfl | with_reducible exact fun _ hx => hx | with_reducible apply Device.modPort_closed hP | split) | split | intro _ | dsimp only)

theorem klDly_closed {k : Nat} {d : Device} (hPd : P d) : P (klDly k d) := by
  unfold klDly
  (try dsimp only)
  repeat' (first | with_reducible assumption | with_reducible exact fun _ hx => hx | with_reducible apply Device.modPort_closed hP | with_reducible apply Device.takeFree_closed hP | with_reducible apply Device.sendDown_closed hP | with_reducible refine snd_of_eq (by assumption) ?_ | (with_reducible apply hP.lit <;> first | with_reducible assumption | exact id | exact fun _ => rfl | with_reducible exact fun _ hx => hx | with_reducible apply Device.modPort_closed hP | with_reducible apply Device.takeFree_closed hP | with_reducible apply Device.sendDown_closed hP | with_reducible refine snd_of_eq (by assumption) ?_ | split) | split | intro _ | dsimp only)

theorem delayFrame_closed {h : KlHead} {t1 : Nat} {t2 : Nat} {t3 : Nat} {d : Device} (hPd : P d) : P (delayFrame h t1 t2 t3 d) := by
  unfold delayFrame
  (try dsimp only)
  repeat' (first | with_reducible assumption | with_reducible exact fun _ hx => hx | with_reducible apply Device.receive_closed hP | with_reducible apply Device.divOpen_closed hP | with_reducible apply Device.modPort_closed hP | with_reducible apply Closed.when | with_reducible apply hP.wr | with_reducible apply Device.stepTide_closed hP | with_reducible apply Device.setTideFine_closed hP | with_reducible refine snd_of_eq (by assumption) ?_ | (with_reducible apply hP.lit <;> first | with_reducible assumption | exact id | exact fun _ => rfl | with_reducible exact fun _ hx => hx | with_reducible apply Device.receive_closed hP | with_reducible apply Device.divOpen_closed hP | with_reducible apply Device.modPort_closed hP | with_reducible apply Closed.when | with_reducible apply hP.wr | with_reducible apply Device.stepTide_closed hP | with_reducible apply Device.setTideFine_closed hP | with_reducible refine snd_of_eq (by assumption) ?_ | split) | split | intro _ | dsimp only)

theorem holdoverLost_closed {d : Device} (hPd : P d) : P (holdoverLost d) := by
  unfold holdoverLost
  (try dsimp only)
  repeat' (first | with_reducible assumption | with_reducible exact fun _ hx => hx | with_reducible apply Device.syncGo_closed hP | (with_reducible apply hP.lit <;> first | with_reducible assumption | exact id | exact fun _ => rfl | with_reducible exact fun _ hx => hx | with_reducible apply Device.syncGo_closed hP | split) | split | intro _ | dsimp only)

theorem Device.failback_closed {d : Device} (hPd : P d) : P (Device.failback d) := by
  unfold Device.failback
  (try dsimp only)
  repeat' (first | with_reducible assumption | with_reducible exact fun _ hx => hx | with_reducible apply Device.showAlt_closed hP | with_reducible apply Device.klEvent_closed hP | with_reducible apply Device.useUpPort_closed hP | with_reducible apply Device.portGo_closed hP | (with_reducible apply hP.lit <;> first | with_reducible assumption | exact id | exact fun _ => rfl | with_reducible exact fun _ hx => hx | with_reducible apply Device.showAlt_closed hP | with_reducible apply Device.klEvent_closed hP | with_reducible apply Device.useUpPort_closed hP | with_reducible apply Device.portGo_closed hP | split) | split | intro _ | dsimp only)

theorem Device.fireChannel_closed {d : Device} {ch : Nat} {t : Nat} (hPd : P d) : P (Device.fireChannel d ch t) := by
  unfold Device.fireChannel
  (try dsimp only)
  repeat' (first | with_reducible assumption | with_reducible exact fun _ hx => hx | with_reducible apply Device.modKl_closed hP | with_reducible apply Device.trigOutFrom_closed hP | with_reducible apply Device.cascadeTrigger_closed hP | (with_reducible apply hP.lit <;> first | with_reducible assumption | exact id | exact fun _ => rfl | with_reducible exact fun _ hx => hx | with_reducible apply Device.modKl_closed hP | with_reducible apply Device.trigOutFrom_closed hP | with_reducible apply Device.cascadeTrigger_closed hP | split) | split | intro _ | dsimp only)

theorem Device.armTrigger_closed {d : Device} {ch : Nat} {t : Nat} (hPd : P d) : P (Device.armTrigger d ch t) := by
  unfold Device.armTrigger
  (try dsimp only)
  repeat' (first | with_reducible assumption | with_reducible exact fun _ hx => hx | with_reducible apply Device.irq_closed hP | with_reducible apply hP.count | with_reducible apply Device.fireChannel_closed hP | with_reducible apply Device.modKl_closed hP | (with_reducible apply hP.lit <;> first | with_reducible assumption | exact id | exact fun _ => rfl | with_reducible exact fun _ hx => hx | with_reducible apply Device.irq_closed hP | with_reducible apply hP.count | with_reducible apply Device.fireChannel_closed hP | with_reducible apply Device.modKl_closed hP | split) | split | intro _ | dsimp only)

theorem Device.sendTrig_closed {d : Device} {ch : Nat} {t : Nat} (hPd : P d) : P (Device.sendTrig d ch t) := by
  unfold Device.sendTrig
  (try dsimp only)
  repeat' (first | with_reducible assumption | with_reducible exact fun _ hx => hx | with_reducible apply Closed.forAll | with_reducible apply Device.modPort_closed hP | (with_reducible apply hP.lit <;> first | with_reducible assumption | exact id | exact fun _ => rfl | with_reducible exact fun _ hx => hx | with_reducible apply Closed.forAll | with_reducible apply Device.modPort_closed hP | split) | split | intro _ | dsimp only)

theorem klTrigBlock_closed {k : Nat} {ch : Nat} {low : Nat} {d : Device} (hPd : P d) : P (klTrigBlock k ch low d) := by
  unfold klTrigBlock
  (try dsimp only)
  repeat' (first | with_reducible assumption | with_reducible exact fun _ hx => hx | with_reducible apply Device.armTrigger_closed hP | with_reducible apply Device.sendTrig_closed hP | (with_reducible apply hP.lit <;> first | with_reducible assumption | exact id | exact fun _ => rfl | with_reducible exact fun _ hx => hx | with_reducible apply Device.armTrigger_closed hP | with_reducible apply Device.sendTrig_closed hP | split) | split | intro _ | dsimp only)

theorem Device.masterTrig_closed {d : Device} {ch : Nat} {t : Nat} (hPd : P d) : P (Device.masterTrig d ch t) := by
  unfold Device.masterTrig
  (try dsimp only)
  repeat' (first | with_reducible assumption | with_reducible exact fun _ hx => hx | with_reducible apply Device.armTrigger_closed hP | with_reducible apply Device.sendTrig_closed hP | (with_reducible apply hP.lit <;> first | with_reducible assumption | exact id | exact fun _ => rfl | with_reducible exact fun _ hx => hx | with_reducible apply Device.armTrigger_closed hP | with_reducible apply Device.sendTrig_closed hP | split) | split | intro _ | dsimp only)

theorem Device.trigFire_closed {d : Device} {ch : Nat} (hPd : P d) : P (Device.trigFire d ch) := by
  unfold Device.trigFire
  (try dsimp only)
  repeat' (first | with_reducible assumption | with_reducible exact fun _ hx => hx | with_reducible apply Device.masterTrig_closed hP | (with_reducible apply hP.lit <;> first | with_reducible assumption | exact id | exact fun _ => rfl | with_reducible exact fun _ hx => hx | with_reducible apply Device.masterTrig_closed hP | split) | split | intro _ | dsimp only)

theorem Device.trigInForward_closed {d : Device} {k : Nat} (hPd : P d) : P (Device.trigInForward d k) := by
  unfold Device.trigInForward
  (try dsimp only)
  repeat' (first | with_reducible assumption | with_reducible exact fun _ hx => hx | with_reducible apply Device.divOpen_closed hP | with_reducible apply Device.masterTrig_closed hP | with_reducible refine snd_of_eq (by assumption) ?_ | (with_reducible apply hP.lit <;> first | with_reducible assumption | exact id | exact fun _ => rfl | with_reducible exact fun _ hx => hx | with_reducible apply Device.divOpen_closed hP | with_reducible apply Device.masterTrig_closed hP | with_reducible refine snd_of_eq (by assumption) ?_ | split) | split | intro _ | dsimp only)

theorem cascadeTriggerFire_closed {d : Device} (hPd : P d) : P (cascadeTriggerFire d) := by
  unfold cascadeTriggerFire
  (try dsimp only)
  repeat' (first | with_reducible assumption | with_reducible exact fun _ hx => hx | with_reducible apply Device.fireChannel_closed hP | (with_reducible apply hP.lit <;> first | with_reducible assumption | exact id | exact fun _ => rfl | with_reducible exact fun _ hx => hx | with_reducible apply Device.fireChannel_closed hP | split) | split | intro _ | dsimp only)

theorem censusReq_closed {h : KlHead} {gen : Nat} {depth : Nat} {route : Nat} {d : Device} (hPd : P d) : P (censusReq h gen depth route d) := by
  unfold censusReq
  (try dsimp only)
  repeat' (first | with_reducible assumption | with_reducible exact fun _ hx => hx | with_reducible apply Device.receive_closed hP | with_reducible apply Device.modKl_closed hP | with_reducible apply hP.put | with_reducible apply Closed.forAll | with_reducible apply Device.sendDown_closed hP | with_reducible apply Device.censusCheck_closed hP | (with_reducible apply hP.lit <;> first | with_reducible assumption | exact id | exact fun _ => rfl | with_reducible exact fun _ hx => hx | with_reducible apply Device.receive_closed hP | with_reducible apply Device.modKl_closed hP | with_reducible apply hP.put | with_reducible apply Closed.forAll | with_reducible apply Device.sendDown_closed hP | with_reducible apply Device.censusCheck_closed hP | split) | split | intro _ | dsimp only)

theorem censusRec_closed {h : KlHead} {r : List Byte} {d : Device} (hPd : P d) : P (censusRec h r d) := by
  unfold censusRec
  (try dsimp only)
  repeat' (first | with_reducible assumption | with_reducible exact fun _ hx => hx | with_reducible apply Device.receive_closed hP | with_reducible apply Device.modKl_closed hP | with_reducible apply Device.sendUp_closed hP | with_reducible apply Closed.when | with_reducible apply Device.censusCheck_closed hP | (with_reducible apply hP.lit <;> first | with_reducible assumption | exact id | exact fun _ => rfl | with_reducible exact fun _ hx => hx | with_reducible apply Device.receive_closed hP | with_reducible apply Device.modKl_closed hP | with_reducible apply Device.sendUp_closed hP | with_reducible apply Closed.when | with_reducible apply Device.censusCheck_closed hP | split) | split | intro _ | dsimp only)

theorem Device.sendTo_closed {d : Device} {n : Nat} {body : KlBody} {cls : Nat} {words : Nat} (hPd : P d) : P (Device.sendTo d n body cls words) := by
  unfold Device.sendTo
  (try dsimp only)
  repeat' (first | with_reducible assumption | with_reducible exact fun _ hx => hx | with_reducible apply Device.sendDown_closed hP | (with_reducible apply hP.lit <;> first | with_reducible assumption | exact id | exact fun _ => rfl | with_reducible exact fun _ hx => hx | with_reducible apply Device.sendDown_closed hP | split) | split | intro _ | dsimp only)

theorem Device.sendAssign_closed {d : Device} {x : Numbered} (hPd : P d) : P (Device.sendAssign d x) := by
  unfold Device.sendAssign
  (try dsimp only)
  repeat' (first | with_reducible assumption | with_reducible exact fun _ hx => hx | with_reducible apply Device.takeFree_closed hP | with_reducible apply Device.sendDown_closed hP | with_reducible refine snd_of_eq (by assumption) ?_ | (with_reducible apply hP.lit <;> first | with_reducible assumption | exact id | exact fun _ => rfl | with_reducible exact fun _ hx => hx | with_reducible apply Device.takeFree_closed hP | with_reducible apply Device.sendDown_closed hP | with_reducible refine snd_of_eq (by assumption) ?_ | split) | split | intro _ | dsimp only)

theorem Device.showVersions_closed {d : Device} {recs : List (List Byte)} (hPd : P d) : P (Device.showVersions d recs) := by
  unfold Device.showVersions
  (try dsimp only)
  repeat' (first | with_reducible assumption | with_reducible exact fun _ hx => hx | with_reducible apply Device.irq_closed hP | with_reducible apply hP.putB | with_reducible apply hP.put | with_reducible apply Closed.when | with_reducible apply Device.broadcast_closed hP | (with_reducible apply hP.lit <;> first | with_reducible assumption | exact id | exact fun _ => rfl | with_reducible exact fun _ hx => hx | with_reducible apply Device.irq_closed hP | with_reducible apply hP.putB | with_reducible apply hP.put | with_reducible apply Closed.when | with_reducible apply Device.broadcast_closed hP | split) | split | intro _ | dsimp only)

theorem Device.censusTake_closed {d : Device} (hPd : P d) : P (Device.censusTake d) := by
  unfold Device.censusTake
  (try dsimp only)
  repeat' (first | with_reducible assumption | with_reducible exact fun _ hx => hx | with_reducible apply Device.modKl_closed hP | with_reducible apply hP.put | with_reducible apply Device.showVersions_closed hP | with_reducible apply Closed.forAll | with_reducible apply Device.sendAssign_closed hP | with_reducible apply Device.klEvent_closed hP | with_reducible apply Device.irq_closed hP | with_reducible apply hP.sramBytes | with_reducible apply hP.optBytes | (with_reducible apply hP.lit <;> first | with_reducible assumption | exact id | exact fun _ => rfl | with_reducible exact fun _ hx => hx | with_reducible apply Device.modKl_closed hP | with_reducible apply hP.put | with_reducible apply Device.showVersions_closed hP | with_reducible apply Closed.forAll | with_reducible apply Device.sendAssign_closed hP | with_reducible apply Device.klEvent_closed hP | with_reducible apply Device.irq_closed hP | with_reducible apply hP.sramBytes | with_reducible apply hP.optBytes | split) | split | intro _ | dsimp only)

theorem Device.masterIdle_closed {d : Device} (hPd : P d) : P (Device.masterIdle d) := by
  unfold Device.masterIdle
  (try dsimp only)
  repeat' (first | with_reducible assumption | with_reducible exact fun _ hx => hx | with_reducible apply hP.put | with_reducible apply Device.censusStart_closed hP | with_reducible apply Device.modKl_closed hP | (with_reducible apply hP.lit <;> first | with_reducible assumption | exact id | exact fun _ => rfl | with_reducible exact fun _ hx => hx | with_reducible apply hP.put | with_reducible apply Device.censusStart_closed hP | with_reducible apply Device.modKl_closed hP | split) | split | intro _ | dsimp only)

theorem censusComplete_closed {d : Device} (hPd : P d) : P (censusComplete d) := by
  unfold censusComplete
  (try dsimp only)
  repeat' (first | with_reducible assumption | with_reducible exact fun _ hx => hx | with_reducible apply Device.masterIdle_closed hP | with_reducible apply Device.censusTake_closed hP | (with_reducible apply hP.lit <;> first | with_reducible assumption | exact id | exact fun _ => rfl | with_reducible exact fun _ hx => hx | with_reducible apply Device.masterIdle_closed hP | with_reducible apply Device.censusTake_closed hP | split) | split | intro _ | dsimp only)

theorem assign_closed {h : KlHead} {way : KlTo} {number : Option Nat} {gen : Nat} {cp : Nat} {hostFormat : Nat} {altOk : Bool} {d : Device} (hPd : P d) : P (assign h way number gen cp hostFormat altOk d) := by
  unfold assign
  (try dsimp only)
  repeat' (first | with_reducible assumption | with_reducible exact fun _ hx => hx | with_reducible apply Device.receive_closed hP | with_reducible apply Device.forward_closed hP | with_reducible apply hP.putB | with_reducible apply hP.put | with_reducible apply Closed.when | with_reducible apply Device.irq_closed hP | with_reducible apply Device.modKl_closed hP | with_reducible apply Device.showAlt_closed hP | (with_reducible apply hP.lit <;> first | with_reducible assumption | exact id | exact fun _ => rfl | with_reducible exact fun _ hx => hx | with_reducible apply Device.receive_closed hP | with_reducible apply Device.forward_closed hP | with_reducible apply hP.putB | with_reducible apply hP.put | with_reducible apply Closed.when | with_reducible apply Device.irq_closed hP | with_reducible apply Device.modKl_closed hP | with_reducible apply Device.showAlt_closed hP | split) | split | intro _ | dsimp only)

theorem versionFrame_closed {h : KlHead} {cp : Nat} {d : Device} (hPd : P d) : P (versionFrame h cp d) := by
  unfold versionFrame
  (try dsimp only)
  repeat' (first | with_reducible assumption | with_reducible exact fun _ hx => hx | with_reducible apply Device.receive_closed hP | with_reducible apply Closed.when | with_reducible apply Device.irq_closed hP | with_reducible apply hP.put | with_reducible apply Device.forward_closed hP | (with_reducible apply hP.lit <;> first | with_reducible assumption | exact id | exact fun _ => rfl | with_reducible exact fun _ hx => hx | with_reducible apply Device.receive_closed hP | with_reducible apply Closed.when | with_reducible apply Device.irq_closed hP | with_reducible apply hP.put | with_reducible apply Device.forward_closed hP | split) | split | intro _ | dsimp only)

theorem Device.followFormat_closed {d : Device} (hPd : P d) : P (Device.followFormat d) := by
  unfold Device.followFormat
  (try dsimp only)
  repeat' (first | with_reducible assumption | with_reducible exact fun _ hx => hx | with_reducible apply Device.irq_closed hP | (with_reducible apply hP.lit <;> first | with_reducible assumption | exact id | exact fun _ => rfl | with_reducible exact fun _ hx => hx | with_reducible apply Device.irq_closed hP | split) | split | intro _ | dsimp only)

theorem Device.handOn_closed {d : Device} {n : Nat} {slots : Nat} (hPd : P d) : P (Device.handOn d n slots) := by
  unfold Device.handOn
  (try dsimp only)
  repeat' (first | with_reducible assumption | with_reducible exact fun _ hx => hx | (with_reducible apply hP.lit <;> first | with_reducible assumption | exact id | exact fun _ => rfl | with_reducible exact fun _ hx => hx | split) | split | intro _ | dsimp only)

theorem Device.handedOn_closed {d : Device} {n : Nat} {slots : Nat} (hPd : P d) : P (Device.handedOn d n slots) := by
  unfold Device.handedOn
  (try dsimp only)
  repeat' (first | with_reducible assumption | with_reducible exact fun _ hx => hx | with_reducible apply Device.headMoved_closed hP | with_reducible apply hP.wr | (with_reducible apply hP.lit <;> first | with_reducible assumption | exact id | exact fun _ => rfl | with_reducible exact fun _ hx => hx | with_reducible apply Device.headMoved_closed hP | with_reducible apply hP.wr | split) | split | intro _ | dsimp only)

theorem messageFrameSend_closed {n : Nat} {d : Device} (hPd : P d) : P (messageFrameSend n d) := by
  unfold messageFrameSend
  (try dsimp only)
  repeat' (first | with_reducible assumption | with_reducible exact fun _ hx => hx | with_reducible apply Device.sendUp_closed hP | with_reducible apply Device.modKl_closed hP | with_reducible apply Device.handOn_closed hP | (with_reducible apply hP.lit <;> first | with_reducible assumption | exact id | exact fun _ => rfl | with_reducible exact fun _ hx => hx | with_reducible apply Device.sendUp_closed hP | with_reducible apply Device.modKl_closed hP | with_reducible apply Device.handOn_closed hP | split) | split | intro _ | dsimp only)

theorem ackE2e_closed {h : KlHead} {way : KlTo} {next : Nat} {d : Device} (hPd : P d) : P (ackE2e h way next d) := by
  unfold ackE2e
  (try dsimp only)
  repeat' (first | with_reducible assumption | with_reducible exact fun _ hx => hx | with_reducible apply Device.receive_closed hP | with_reducible apply Device.forward_closed hP | with_reducible apply Closed.forAll | with_reducible apply Device.modKl_closed hP | with_reducible apply Device.handedOn_closed hP | (with_reducible apply hP.lit <;> first | with_reducible assumption | exact id | exact fun _ => rfl | with_reducible exact fun _ hx => hx | with_reducible apply Device.receive_closed hP | with_reducible apply Device.forward_closed hP | with_reducible apply Closed.forAll | with_reducible apply Device.modKl_closed hP | with_reducible apply Device.handedOn_closed hP | split) | split | intro _ | dsimp only)

theorem e2eResendTimeout_closed {d : Device} (hPd : P d) : P (e2eResendTimeout d) := by
  unfold e2eResendTimeout
  (try dsimp only)
  repeat' (first | with_reducible assumption | with_reducible exact fun _ hx => hx | with_reducible apply Device.e2eResend_closed hP | (with_reducible apply hP.lit <;> first | with_reducible assumption | exact id | exact fun _ => rfl | with_reducible exact fun _ hx => hx | with_reducible apply Device.e2eResend_closed hP | split) | split | intro _ | dsimp only)

theorem messageFrame_closed {h : KlHead} {origin : Nat} {oseq : Nat} {count : Nat} {msgs : List Byte} {d : Device} (hPd : P d) : P (messageFrame h origin oseq count msgs d) := by
  unfold messageFrame
  (try dsimp only)
  repeat' (first | with_reducible assumption | with_reducible exact fun _ hx => hx | with_reducible apply Device.receive_closed hP | with_reducible apply Device.relayUp_closed hP | with_reducible apply hP.count | with_reducible apply Device.bufferUse_closed hP | with_reducible apply Device.modKl_closed hP | (with_reducible apply hP.lit <;> first | with_reducible assumption | exact id | exact fun _ => rfl | with_reducible exact fun _ hx => hx | with_reducible apply Device.receive_closed hP | with_reducible apply Device.relayUp_closed hP | with_reducible apply hP.count | with_reducible apply Device.bufferUse_closed hP | with_reducible apply Device.modKl_closed hP | split) | split | intro _ | dsimp only)

theorem ackE2eSend_closed {d : Device} (hPd : P d) : P (ackE2eSend d) := by
  unfold ackE2eSend
  (try dsimp only)
  repeat' (first | with_reducible assumption | with_reducible exact fun _ hx => hx | with_reducible apply Closed.forAll | with_reducible apply Device.modKl_closed hP | with_reducible apply Device.sendTo_closed hP | (with_reducible apply hP.lit <;> first | with_reducible assumption | exact id | exact fun _ => rfl | with_reducible exact fun _ hx => hx | with_reducible apply Closed.forAll | with_reducible apply Device.modKl_closed hP | with_reducible apply Device.sendTo_closed hP | split) | split | intro _ | dsimp only)

theorem eventFrame_closed {h : KlHead} {msg : List Byte} {d : Device} (hPd : P d) : P (eventFrame h msg d) := by
  unfold eventFrame
  (try dsimp only)
  repeat' (first | with_reducible assumption | with_reducible exact fun _ hx => hx | with_reducible apply Device.receive_closed hP | with_reducible apply Device.relayUp_closed hP | with_reducible apply Device.modKl_closed hP | with_reducible apply Closed.when | with_reducible apply Device.censusAuto_closed hP | (with_reducible apply hP.lit <;> first | with_reducible assumption | exact id | exact fun _ => rfl | with_reducible exact fun _ hx => hx | with_reducible apply Device.receive_closed hP | with_reducible apply Device.relayUp_closed hP | with_reducible apply Device.modKl_closed hP | with_reducible apply Closed.when | with_reducible apply Device.censusAuto_closed hP | split) | split | intro _ | dsimp only)

theorem Device.groupReject_closed {d : Device} {reason : Nat} {rank : Nat} (hPd : P d) : P (Device.groupReject d reason rank) := by
  unfold Device.groupReject
  (try dsimp only)
  repeat' (first | with_reducible assumption | with_reducible exact fun _ hx => hx | with_reducible apply Closed.when | with_reducible apply Device.calReject_closed hP | with_reducible apply hP.put | with_reducible apply Device.masterIdle_closed hP | with_reducible apply Closed.forAll | with_reducible apply Device.sendTo_closed hP | (with_reducible apply hP.lit <;> first | with_reducible assumption | exact id | exact fun _ => rfl | with_reducible exact fun _ hx => hx | with_reducible apply Closed.when | with_reducible apply Device.calReject_closed hP | with_reducible apply hP.put | with_reducible apply Device.masterIdle_closed hP | with_reducible apply Closed.forAll | with_reducible apply Device.sendTo_closed hP | split) | split | intro _ | dsimp only)

theorem Device.groupStart_closed {d : Device} {g : Nat} {x : KlGroupFinds} (hPd : P d) : P (Device.groupStart d g x) := by
  unfold Device.groupStart
  (try dsimp only)
  repeat' (first | with_reducible assumption | with_reducible exact fun _ hx => hx | with_reducible apply Device.modKl_closed hP | with_reducible apply hP.put | with_reducible apply Device.groupReject_closed hP | with_reducible apply Closed.forAll | with_reducible apply Device.sendTo_closed hP | (with_reducible apply hP.lit <;> first | with_reducible assumption | exact id | exact fun _ => rfl | with_reducible exact fun _ hx => hx | with_reducible apply Device.modKl_closed hP | with_reducible apply hP.put | with_reducible apply Device.groupReject_closed hP | with_reducible apply Closed.forAll | with_reducible apply Device.sendTo_closed hP | split) | split | intro _ | dsimp only)

theorem Device.groupResult_closed {d : Device} {corr : Int} {slope : Int} (hPd : P d) : P (Device.groupResult d corr slope) := by
  unfold Device.groupResult
  (try dsimp only)
  repeat' (first | with_reducible assumption | with_reducible exact fun _ hx => hx | with_reducible apply Device.modKl_closed hP | with_reducible apply hP.put | with_reducible apply Device.await_closed hP | (with_reducible apply hP.lit <;> first | with_reducible assumption | exact id | exact fun _ => rfl | with_reducible exact fun _ hx => hx | with_reducible apply Device.modKl_closed hP | with_reducible apply hP.put | with_reducible apply Device.await_closed hP | split) | split | intro _ | dsimp only)

theorem groupCalEnd_closed {m : KlGroupMeas} {d : Device} (hPd : P d) : P (groupCalEnd m d) := by
  unfold groupCalEnd
  (try dsimp only)
  repeat' (first | with_reducible assumption | with_reducible exact fun _ hx => hx | with_reducible apply Device.groupReject_closed hP | with_reducible apply Device.calAccept_closed hP | with_reducible apply Closed.when | with_reducible apply Device.groupResult_closed hP | with_reducible apply Device.masterIdle_closed hP | with_reducible apply Closed.forAll | with_reducible apply Device.sendTo_closed hP | (with_reducible apply hP.lit <;> first | with_reducible assumption | exact id | exact fun _ => rfl | with_reducible exact fun _ hx => hx | with_reducible apply Device.groupReject_closed hP | with_reducible apply Device.calAccept_closed hP | with_reducible apply Closed.when | with_reducible apply Device.groupResult_closed hP | with_reducible apply Device.masterIdle_closed hP | with_reducible apply Closed.forAll | with_reducible apply Device.sendTo_closed hP | split) | split | intro _ | dsimp only)

theorem Device.klAbort_closed {d : Device} (hPd : P d) : P (Device.klAbort d) := by
  unfold Device.klAbort
  (try dsimp only)
  repeat' (first | with_reducible assumption | with_reducible exact fun _ hx => hx | with_reducible apply Device.groupReject_closed hP | (with_reducible apply hP.lit <;> first | with_reducible assumption | exact id | exact fun _ => rfl | with_reducible exact fun _ hx => hx | with_reducible apply Device.groupReject_closed hP | split) | split | intro _ | dsimp only)

theorem groupFrame_closed {h : KlHead} {way : KlTo} {m : KlGroupMsg} {d : Device} (hPd : P d) : P (groupFrame h way m d) := by
  unfold groupFrame
  (try dsimp only)
  repeat' (first | with_reducible assumption | with_reducible exact fun _ hx => hx | with_reducible apply Device.receive_closed hP | with_reducible apply Device.relayUp_closed hP | with_reducible apply Device.forward_closed hP | with_reducible apply Device.groupResult_closed hP | with_reducible apply hP.put | with_reducible apply Device.groupDue_closed hP | with_reducible apply Device.groupGo_closed hP | with_reducible apply Device.await_closed hP | (with_reducible apply hP.lit <;> first | with_reducible assumption | exact id | exact fun _ => rfl | with_reducible exact fun _ hx => hx | with_reducible apply Device.receive_closed hP | with_reducible apply Device.relayUp_closed hP | with_reducible apply Device.forward_closed hP | with_reducible apply Device.groupResult_closed hP | with_reducible apply hP.put | with_reducible apply Device.groupDue_closed hP | with_reducible apply Device.groupGo_closed hP | with_reducible apply Device.await_closed hP | split) | split | intro _ | dsimp only)

theorem groupSuspend_closed {d : Device} (hPd : P d) : P (groupSuspend d) := by
  unfold groupSuspend
  (try dsimp only)
  repeat' (first | with_reducible assumption | with_reducible exact fun _ hx => hx | with_reducible apply Device.groupGo_closed hP | with_reducible apply hP.put | (with_reducible apply hP.lit <;> first | with_reducible assumption | exact id | exact fun _ => rfl | with_reducible exact fun _ hx => hx | with_reducible apply Device.groupGo_closed hP | with_reducible apply hP.put | split) | split | intro _ | dsimp only)

theorem Device.followGroup_closed {d : Device} (hPd : P d) : P (Device.followGroup d) := by
  unfold Device.followGroup
  (try dsimp only)
  repeat' (first | with_reducible assumption | with_reducible exact fun _ hx => hx | with_reducible apply Device.groupDue_closed hP | (with_reducible apply hP.lit <;> first | with_reducible assumption | exact id | exact fun _ => rfl | with_reducible exact fun _ hx => hx | with_reducible apply Device.groupDue_closed hP | split) | split | intro _ | dsimp only)

theorem Device.groupWritten_closed {d : Device} {old : Device} (hPd : P d) : P (Device.groupWritten d old) := by
  unfold Device.groupWritten
  (try dsimp only)
  repeat' (first | with_reducible assumption | with_reducible exact fun _ hx => hx | with_reducible apply Device.groupGo_closed hP | with_reducible apply hP.put | with_reducible apply Device.reglChanged_closed hP | (with_reducible apply hP.lit <;> first | with_reducible assumption | exact id | exact fun _ => rfl | with_reducible exact fun _ hx => hx | with_reducible apply Device.groupGo_closed hP | with_reducible apply hP.put | with_reducible apply Device.reglChanged_closed hP | split) | split | intro _ | dsimp only)

theorem Device.cenDataRead_closed {d : Device} (hPd : P d) : P (Device.cenDataRead d) := by
  unfold Device.cenDataRead
  (try dsimp only)
  repeat' (first | with_reducible assumption | with_reducible exact fun _ hx => hx | with_reducible apply hP.wr | with_reducible apply hP.put | (with_reducible apply hP.lit <;> first | with_reducible assumption | exact id | exact fun _ => rfl | with_reducible exact fun _ hx => hx | with_reducible apply hP.wr | with_reducible apply hP.put | split) | split | intro _ | dsimp only)

theorem Device.portsStop_closed {d : Device} (hPd : P d) : P (Device.portsStop d) := by
  unfold Device.portsStop
  (try dsimp only)
  repeat' (first | with_reducible assumption | with_reducible exact fun _ hx => hx | with_reducible apply Closed.forAll | with_reducible apply Device.portGo_closed hP | with_reducible apply Device.linkClear_closed hP | (with_reducible apply hP.lit <;> first | with_reducible assumption | exact id | exact fun _ => rfl | with_reducible exact fun _ hx => hx | with_reducible apply Closed.forAll | with_reducible apply Device.portGo_closed hP | with_reducible apply Device.linkClear_closed hP | split) | split | intro _ | dsimp only)

theorem Device.portsStart_closed {d : Device} (hPd : P d) : P (Device.portsStart d) := by
  unfold Device.portsStart
  (try dsimp only)
  repeat' (first | with_reducible assumption | with_reducible exact fun _ hx => hx | with_reducible apply Closed.forAll | with_reducible apply Device.portStart_closed hP | (with_reducible apply hP.lit <;> first | with_reducible assumption | exact id | exact fun _ => rfl | with_reducible exact fun _ hx => hx | with_reducible apply Closed.forAll | with_reducible apply Device.portStart_closed hP | split) | split | intro _ | dsimp only)

/-! ### Sspm -/

theorem Device.sspmShow_closed {d : Device} (hPd : P d) : P (Device.sspmShow d) := by
  unfold Device.sspmShow
  (try dsimp only)
  repeat' (first | with_reducible assumption | with_reducible exact fun _ hx => hx | with_reducible apply hP.put | with_reducible apply hP.putB | (with_reducible apply hP.lit <;> first | with_reducible assumption | exact id | exact fun _ => rfl | with_reducible exact fun _ hx => hx | with_reducible apply hP.put | with_reducible apply hP.putB | split) | split | intro _ | dsimp only)

theorem Device.sspmClose_closed {d : Device} (hPd : P d) : P (Device.sspmClose d) := by
  unfold Device.sspmClose
  (try dsimp only)
  repeat' (first | with_reducible assumption | with_reducible exact fun _ hx => hx | (with_reducible apply hP.lit <;> first | with_reducible assumption | exact id | exact fun _ => rfl | with_reducible exact fun _ hx => hx | split) | split | intro _ | dsimp only)

theorem Device.sspmEnqueue_closed {d : Device} {j : SspmJob} (hPd : P d) : P (Device.sspmEnqueue d j) := by
  unfold Device.sspmEnqueue
  (try dsimp only)
  repeat' (first | with_reducible assumption | with_reducible exact fun _ hx => hx | with_reducible apply Device.sspmClose_closed hP | with_reducible apply Device.sspmShow_closed hP | (with_reducible apply hP.lit <;> first | with_reducible assumption | exact id | exact fun _ => rfl | with_reducible exact fun _ hx => hx | with_reducible apply Device.sspmClose_closed hP | with_reducible apply Device.sspmShow_closed hP | split) | split | intro _ | dsimp only)

theorem Device.busEnd_closed {d : Device} {v : Word} (hPd : P d) : P (Device.busEnd d v) := by
  unfold Device.busEnd
  (try dsimp only)
  repeat' (first | with_reducible assumption | with_reducible exact fun _ hx => hx | (with_reducible apply hP.lit <;> first | with_reducible assumption | exact id | exact fun _ => rfl | with_reducible exact fun _ hx => hx | split) | split | intro _ | dsimp only)

theorem Device.xipTake_closed {d : Device} {a : Nat} {v : Word} {be : BitVec 4} (hPd : P d) : ∀ z, Device.xipTake d a v be = some z → P z := by
  intro z hz
  unfold Device.xipTake at hz
  dsimp only at hz
  split at hz
  · exact absurd hz (by simp)
  · split at hz
    · cases hz; exact hPd
    · split at hz
      · split at hz
        · cases hz; exact hP.other d _ hPd rfl rfl rfl rfl id id
        · split at hz
          · exact absurd hz (by simp)
          · cases hz; exact hP.other _ _ (Device.sspmClose_closed hP hPd) rfl rfl rfl rfl id id
      · cases hz; exact hP.other d _ hPd rfl rfl rfl rfl id id

theorem Device.serveBus_closed {d : Device} (hPd : P d) : P (Device.serveBus d) := by
  unfold Device.serveBus
  (try dsimp only)
  repeat' (first | with_reducible assumption | with_reducible exact fun _ hx => hx | with_reducible apply Device.busEnd_closed hP | with_reducible apply Device.sspmClose_closed hP | with_reducible apply Device.sspmShow_closed hP | (with_reducible refine Device.xipTake_closed hP ?_ _ (by assumption)) | (with_reducible apply hP.lit <;> first | with_reducible assumption | exact id | exact fun _ => rfl | with_reducible exact fun _ hx => hx | with_reducible apply Device.busEnd_closed hP | with_reducible apply Device.sspmClose_closed hP | with_reducible apply Device.sspmShow_closed hP | (with_reducible refine Device.xipTake_closed hP ?_ _ (by assumption)) | split) | split | intro _ | dsimp only)

theorem Device.sspmNext_closed {d : Device} (hPd : P d) : P (Device.sspmNext d) := by
  unfold Device.sspmNext
  (try dsimp only)
  repeat' (first | with_reducible assumption | with_reducible exact fun _ hx => hx | with_reducible apply Device.serveBus_closed hP | with_reducible apply Device.sspmShow_closed hP | (with_reducible apply hP.lit <;> first | with_reducible assumption | exact id | exact fun _ => rfl | with_reducible exact fun _ hx => hx | with_reducible apply Device.serveBus_closed hP | with_reducible apply Device.sspmShow_closed hP | split) | split | intro _ | dsimp only)

theorem sspmBlockReset_closed {d : Device} (hPd : P d) : P (sspmBlockReset d) := by
  unfold sspmBlockReset
  (try dsimp only)
  repeat' (first | with_reducible assumption | with_reducible exact fun _ hx => hx | with_reducible apply Device.serveBus_closed hP | with_reducible apply Device.sspmShow_closed hP | (with_reducible apply hP.lit <;> first | with_reducible assumption | exact id | exact fun _ => rfl | with_reducible exact fun _ hx => hx | with_reducible apply Device.serveBus_closed hP | with_reducible apply Device.sspmShow_closed hP | split) | split | intro _ | dsimp only)

theorem Device.sspmDeferred_closed {d : Device} (hPd : P d) : P (Device.sspmDeferred d) := by
  unfold Device.sspmDeferred
  (try dsimp only)
  repeat' (first | with_reducible assumption | with_reducible exact fun _ hx => hx | with_reducible apply sspmBlockReset_closed hP | with_reducible apply Device.resetIrqWords_closed hP | with_reducible apply Device.resetBlockWords_closed hP | (with_reducible apply hP.lit <;> first | with_reducible assumption | exact id | exact fun _ => rfl | with_reducible exact fun _ hx => hx | with_reducible apply sspmBlockReset_closed hP | with_reducible apply Device.resetIrqWords_closed hP | with_reducible apply Device.resetBlockWords_closed hP | split) | split | intro _ | dsimp only)

theorem Device.putBuf_closed {d : Device} {k : Nat} {b : Byte} (hPd : P d) : P (Device.putBuf d k b) := by
  unfold Device.putBuf
  (try dsimp only)
  repeat' (first | with_reducible assumption | with_reducible exact fun _ hx => hx | with_reducible apply hP.put | (with_reducible apply hP.lit <;> first | with_reducible assumption | exact id | exact fun _ => rfl | with_reducible exact fun _ hx => hx | with_reducible apply hP.put | split) | split | intro _ | dsimp only)

theorem Device.sspmDone_closed {d : Device} {err : Nat} (hPd : P d) : P (Device.sspmDone d err) := by
  unfold Device.sspmDone
  (try dsimp only)
  repeat' (first | with_reducible assumption | with_reducible exact fun _ hx => hx | with_reducible apply Closed.when | with_reducible apply Device.irq_closed hP | with_reducible apply hP.put | with_reducible apply Device.sspmNext_closed hP | (with_reducible apply hP.lit <;> first | with_reducible assumption | exact id | exact fun _ => rfl | with_reducible exact fun _ hx => hx | with_reducible apply Closed.when | with_reducible apply Device.irq_closed hP | with_reducible apply hP.put | with_reducible apply Device.sspmNext_closed hP | split) | split | intro _ | dsimp only)

theorem Device.sspmProgrammed_closed {d : Device} {b : PageBuf} (hPd : P d) : P (Device.sspmProgrammed d b) := by
  unfold Device.sspmProgrammed
  (try dsimp only)
  repeat' (first | with_reducible assumption | with_reducible exact fun _ hx => hx | with_reducible apply Device.sspmNext_closed hP | (with_reducible apply hP.lit <;> first | with_reducible assumption | exact id | exact fun _ => rfl | with_reducible exact fun _ hx => hx | with_reducible apply Device.sspmNext_closed hP | split) | split | intro _ | dsimp only)

theorem Device.sfdpSet_closed {d : Device} {r : SfdpResult} (hPd : P d) : P (Device.sfdpSet d r).1 := by
  unfold Device.sfdpSet
  (try dsimp only)
  repeat' (first | with_reducible assumption | with_reducible exact fun _ hx => hx | with_reducible apply hP.put | with_reducible apply hP.wr | with_reducible apply hP.putB | (with_reducible apply hP.lit <;> first | with_reducible assumption | exact id | exact fun _ => rfl | with_reducible exact fun _ hx => hx | with_reducible apply hP.put | with_reducible apply hP.wr | with_reducible apply hP.putB | split) | split | intro _ | dsimp only)

theorem sspmTransferEnd_closed {rx : List Byte} {r : SfdpResult} {d : Device} (hPd : P d) : P (sspmTransferEnd rx r d) := by
  unfold sspmTransferEnd
  (try dsimp only)
  repeat' (first | with_reducible assumption | with_reducible exact fun _ hx => hx | with_reducible apply Device.sspmDeferred_closed hP | with_reducible apply Device.putBuf_closed hP | with_reducible apply Device.sspmShow_closed hP | with_reducible apply Device.sspmDone_closed hP | with_reducible apply Device.sfdpSet_closed hP | with_reducible apply Closed.foldl | (with_reducible apply hP.lit <;> first | with_reducible assumption | exact id | exact fun _ => rfl | with_reducible exact fun _ hx => hx | with_reducible apply Device.sspmDeferred_closed hP | with_reducible apply Device.putBuf_closed hP | with_reducible apply Device.sspmShow_closed hP | with_reducible apply Device.sspmDone_closed hP | with_reducible apply Device.sfdpSet_closed hP | with_reducible apply Closed.foldl | split) | split | intro _ | dsimp only)

theorem sspmPollRead_closed {status : Byte} {d : Device} (hPd : P d) : P (sspmPollRead status d) := by
  unfold sspmPollRead
  (try dsimp only)
  repeat' (first | with_reducible assumption | with_reducible exact fun _ hx => hx | with_reducible apply Device.sspmProgrammed_closed hP | with_reducible apply Device.sspmDone_closed hP | (with_reducible apply hP.lit <;> first | with_reducible assumption | exact id | exact fun _ => rfl | with_reducible exact fun _ hx => hx | with_reducible apply Device.sspmProgrammed_closed hP | with_reducible apply Device.sspmDone_closed hP | split) | split | intro _ | dsimp only)

theorem sspmPollTimeout_closed {d : Device} (hPd : P d) : P (sspmPollTimeout d) := by
  unfold sspmPollTimeout
  (try dsimp only)
  repeat' (first | with_reducible assumption | with_reducible exact fun _ hx => hx | with_reducible apply Device.sspmProgrammed_closed hP | with_reducible apply Device.irq_closed hP | with_reducible apply hP.put | with_reducible apply Device.sspmDone_closed hP | (with_reducible apply hP.lit <;> first | with_reducible assumption | exact id | exact fun _ => rfl | with_reducible exact fun _ hx => hx | with_reducible apply Device.sspmProgrammed_closed hP | with_reducible apply Device.irq_closed hP | with_reducible apply hP.put | with_reducible apply Device.sspmDone_closed hP | split) | split | intro _ | dsimp only)

theorem xipLineEnd_closed {data : BitVec 256} {d : Device} (hPd : P d) : P (xipLineEnd data d) := by
  unfold xipLineEnd
  (try dsimp only)
  repeat' (first | with_reducible assumption | with_reducible exact fun _ hx => hx | with_reducible apply Device.sspmDeferred_closed hP | with_reducible apply Device.takeFree_closed hP | with_reducible apply Device.sspmNext_closed hP | with_reducible refine snd_of_eq (by assumption) ?_ | (with_reducible apply hP.lit <;> first | with_reducible assumption | exact id | exact fun _ => rfl | with_reducible exact fun _ hx => hx | with_reducible apply Device.sspmDeferred_closed hP | with_reducible apply Device.takeFree_closed hP | with_reducible apply Device.sspmNext_closed hP | with_reducible refine snd_of_eq (by assumption) ?_ | split) | split | intro _ | dsimp only)

theorem xipHoldEnd_closed {d : Device} (hPd : P d) : P (xipHoldEnd d) := by
  unfold xipHoldEnd
  (try dsimp only)
  repeat' (first | with_reducible assumption | with_reducible exact fun _ hx => hx | with_reducible apply Device.sspmShow_closed hP | with_reducible apply Device.sspmClose_closed hP | (with_reducible apply hP.lit <;> first | with_reducible assumption | exact id | exact fun _ => rfl | with_reducible exact fun _ hx => hx | with_reducible apply Device.sspmShow_closed hP | with_reducible apply Device.sspmClose_closed hP | split) | split | intro _ | dsimp only)

theorem Device.xipReadBegin_closed {d : Device} {a : Nat} (hPd : P d) : P (Device.xipReadBegin d a) := by
  unfold Device.xipReadBegin
  (try dsimp only)
  repeat' (first | with_reducible assumption | with_reducible exact fun _ hx => hx | with_reducible apply Device.serveBus_closed hP | (with_reducible apply hP.lit <;> first | with_reducible assumption | exact id | exact fun _ => rfl | with_reducible exact fun _ hx => hx | with_reducible apply Device.serveBus_closed hP | split) | split | intro _ | dsimp only)

theorem Device.xipWriteBegin_closed {d : Device} {a : Nat} {v : Word} {be : BitVec 4} (hPd : P d) : P (Device.xipWriteBegin d a v be) := by
  unfold Device.xipWriteBegin
  (try dsimp only)
  repeat' (first | with_reducible assumption | with_reducible exact fun _ hx => hx | with_reducible apply Device.serveBus_closed hP | with_reducible apply hP.count | (with_reducible apply hP.lit <;> first | with_reducible assumption | exact id | exact fun _ => rfl | with_reducible exact fun _ hx => hx | with_reducible apply Device.serveBus_closed hP | with_reducible apply hP.count | split) | split | intro _ | dsimp only)

theorem sspmWritten_closed {off : Nat} {v : Word} {d : Device} (hPd : P d) : P (sspmWritten off v d) := by
  unfold sspmWritten
  (try dsimp only)
  repeat' (first | with_reducible assumption | with_reducible exact fun _ hx => hx | with_reducible apply Device.sspmEnqueue_closed hP | (with_reducible apply hP.lit <;> first | with_reducible assumption | exact id | exact fun _ => rfl | with_reducible exact fun _ hx => hx | with_reducible apply Device.sspmEnqueue_closed hP | split) | split | intro _ | dsimp only)

/-! ### Sec -/

theorem Device.secShow_closed {d : Device} (hPd : P d) : P (Device.secShow d) := by
  unfold Device.secShow
  (try dsimp only)
  repeat' (first | with_reducible assumption | with_reducible exact fun _ hx => hx | with_reducible apply hP.putB | with_reducible apply hP.wr | with_reducible apply hP.put | (with_reducible apply hP.lit <;> first | with_reducible assumption | exact id | exact fun _ => rfl | with_reducible exact fun _ hx => hx | with_reducible apply hP.putB | with_reducible apply hP.wr | with_reducible apply hP.put | split) | split | intro _ | dsimp only)

theorem Device.setSessionLevel_closed {d : Device} {n : Nat} (hPd : P d) : P (Device.setSessionLevel d n) := by
  unfold Device.setSessionLevel
  (try dsimp only)
  repeat' (first | with_reducible assumption | with_reducible exact fun _ hx => hx | with_reducible apply hP.put | (with_reducible apply hP.lit <;> first | with_reducible assumption | exact id | exact fun _ => rfl | with_reducible exact fun _ hx => hx | with_reducible apply hP.put | split) | split | intro _ | dsimp only)

theorem Device.idleRestart_closed {d : Device} (hPd : P d) : P (Device.idleRestart d) := by
  unfold Device.idleRestart
  (try dsimp only)
  repeat' (first | with_reducible assumption | with_reducible exact fun _ hx => hx | with_reducible apply hP.wr | (with_reducible apply hP.lit <;> first | with_reducible assumption | exact id | exact fun _ => rfl | with_reducible exact fun _ hx => hx | with_reducible apply hP.wr | split) | split | intro _ | dsimp only)

theorem Device.secGrant_closed {d : Device} {n : Nat} (hPd : P d) : P (Device.secGrant d n) := by
  unfold Device.secGrant
  (try dsimp only)
  repeat' (first | with_reducible assumption | with_reducible exact fun _ hx => hx | with_reducible apply Device.secShow_closed hP | with_reducible apply Device.idleRestart_closed hP | with_reducible apply Device.irq_closed hP | with_reducible apply hP.put | with_reducible apply Device.setSessionLevel_closed hP | (with_reducible apply hP.lit <;> first | with_reducible assumption | exact id | exact fun _ => rfl | with_reducible exact fun _ hx => hx | with_reducible apply Device.secShow_closed hP | with_reducible apply Device.idleRestart_closed hP | with_reducible apply Device.irq_closed hP | with_reducible apply hP.put | with_reducible apply Device.setSessionLevel_closed hP | split) | split | intro _ | dsimp only)

theorem Device.secOpen_closed {d : Device} {level : Nat} (hPd : P d) : P (Device.secOpen d level) := by
  unfold Device.secOpen
  (try dsimp only)
  repeat' (first | with_reducible assumption | with_reducible exact fun _ hx => hx | with_reducible apply Device.secGrant_closed hP | with_reducible apply Device.takeFree_closed hP | with_reducible apply hP.wr | with_reducible apply hP.put | with_reducible apply hP.addWrap | with_reducible refine snd_of_eq (by assumption) ?_ | (with_reducible apply hP.lit <;> first | with_reducible assumption | exact id | exact fun _ => rfl | with_reducible exact fun _ hx => hx | with_reducible apply Device.secGrant_closed hP | with_reducible apply Device.takeFree_closed hP | with_reducible apply hP.wr | with_reducible apply hP.put | with_reducible apply hP.addWrap | with_reducible refine snd_of_eq (by assumption) ?_ | split) | split | intro _ | dsimp only)

theorem Device.secVerify_closed {d : Device} (hPd : P d) : P (Device.secVerify d) := by
  unfold Device.secVerify
  (try dsimp only)
  repeat' (first | with_reducible assumption | with_reducible exact fun _ hx => hx | with_reducible apply hP.put | with_reducible apply Device.secGrant_closed hP | with_reducible apply Device.irq_closed hP | with_reducible apply Device.secShow_closed hP | (with_reducible apply hP.lit <;> first | with_reducible assumption | exact id | exact fun _ => rfl | with_reducible exact fun _ hx => hx | with_reducible apply hP.put | with_reducible apply Device.secGrant_closed hP | with_reducible apply Device.irq_closed hP | with_reducible apply Device.secShow_closed hP | split) | split | intro _ | dsimp only)

theorem challengeExpiry_closed {d : Device} (hPd : P d) : P (challengeExpiry d) := by
  unfold challengeExpiry
  (try dsimp only)
  repeat' (first | with_reducible assumption | with_reducible exact fun _ hx => hx | with_reducible apply hP.put | (with_reducible apply hP.lit <;> first | with_reducible assumption | exact id | exact fun _ => rfl | with_reducible exact fun _ hx => hx | with_reducible apply hP.put | split) | split | intro _ | dsimp only)

theorem idleTimeout_closed {d : Device} (hPd : P d) : P (idleTimeout d) := by
  unfold idleTimeout
  (try dsimp only)
  repeat' (first | with_reducible assumption | with_reducible exact fun _ hx => hx | with_reducible apply Device.irq_closed hP | with_reducible apply hP.wr | with_reducible apply Device.setSessionLevel_closed hP | (with_reducible apply hP.lit <;> first | with_reducible assumption | exact id | exact fun _ => rfl | with_reducible exact fun _ hx => hx | with_reducible apply Device.irq_closed hP | with_reducible apply hP.wr | with_reducible apply Device.setSessionLevel_closed hP | split) | split | intro _ | dsimp only)

theorem backoffExpiry_closed {d : Device} (hPd : P d) : P (backoffExpiry d) := by
  unfold backoffExpiry
  (try dsimp only)
  repeat' (first | with_reducible assumption | with_reducible exact fun _ hx => hx | with_reducible apply Device.secShow_closed hP | (with_reducible apply hP.lit <;> first | with_reducible assumption | exact id | exact fun _ => rfl | with_reducible exact fun _ hx => hx | with_reducible apply Device.secShow_closed hP | split) | split | intro _ | dsimp only)

theorem Device.keyWrite_closed {d : Device} {prov : Bool} (hPd : P d) : P (Device.keyWrite d prov) := by
  unfold Device.keyWrite
  (try dsimp only)
  repeat' (first | with_reducible assumption | with_reducible exact fun _ hx => hx | (with_reducible apply hP.lit <;> first | with_reducible assumption | exact id | exact fun _ => rfl | with_reducible exact fun _ hx => hx | split) | split | intro _ | dsimp only)

theorem keyWriteDone_closed {ok : Bool} {d : Device} (hPd : P d) : P (keyWriteDone ok d) := by
  unfold keyWriteDone
  (try dsimp only)
  repeat' (first | with_reducible assumption | with_reducible exact fun _ hx => hx | with_reducible apply hP.put | with_reducible apply Device.secShow_closed hP | with_reducible apply hP.wr | (with_reducible apply hP.lit <;> first | with_reducible assumption | exact id | exact fun _ => rfl | with_reducible exact fun _ hx => hx | with_reducible apply hP.put | with_reducible apply Device.secShow_closed hP | with_reducible apply hP.wr | split) | split | intro _ | dsimp only)

theorem sealArmExpiry_closed {d : Device} (hPd : P d) : P (sealArmExpiry d) := by
  unfold sealArmExpiry
  (try dsimp only)
  repeat' (first | with_reducible assumption | with_reducible exact fun _ hx => hx | (with_reducible apply hP.lit <;> first | with_reducible assumption | exact id | exact fun _ => rfl | with_reducible exact fun _ hx => hx | split) | split | intro _ | dsimp only)

theorem Device.sealNow_closed {d : Device} (hPd : P d) : P (Device.sealNow d) := by
  unfold Device.sealNow
  (try dsimp only)
  repeat' (first | with_reducible assumption | with_reducible exact fun _ hx => hx | with_reducible apply hP.put | with_reducible apply Device.secShow_closed hP | with_reducible apply Device.setSessionLevel_closed hP | (with_reducible apply hP.lit <;> first | with_reducible assumption | exact id | exact fun _ => rfl | with_reducible exact fun _ hx => hx | with_reducible apply hP.put | with_reducible apply Device.secShow_closed hP | with_reducible apply Device.setSessionLevel_closed hP | split) | split | intro _ | dsimp only)

theorem sealDone_closed {d : Device} (hPd : P d) : P (sealDone d) := by
  unfold sealDone
  (try dsimp only)
  repeat' (first | with_reducible assumption | with_reducible exact fun _ hx => hx | with_reducible apply Device.sealNow_closed hP | (with_reducible apply hP.lit <;> first | with_reducible assumption | exact id | exact fun _ => rfl | with_reducible exact fun _ hx => hx | with_reducible apply Device.sealNow_closed hP | split) | split | intro _ | dsimp only)

theorem tamperEvent_closed {cause : Nat} {d : Device} (hPd : P d) : P (tamperEvent cause d) := by
  unfold tamperEvent
  (try dsimp only)
  repeat' (first | with_reducible assumption | with_reducible exact fun _ hx => hx | with_reducible apply Device.irq_closed hP | with_reducible apply hP.count | with_reducible apply hP.put | with_reducible apply Closed.when | (with_reducible apply hP.lit <;> first | with_reducible assumption | exact id | exact fun _ => rfl | with_reducible exact fun _ hx => hx | with_reducible apply Device.irq_closed hP | with_reducible apply hP.count | with_reducible apply hP.put | with_reducible apply Closed.when | split) | split | intro _ | dsimp only)

theorem secWritten_closed {off : Nat} {v : Word} {d : Device} (hPd : P d) : P (secWritten off v d) := by
  unfold secWritten
  (try dsimp only)
  repeat' (first | with_reducible assumption | with_reducible exact fun _ hx => hx | with_reducible apply Device.secOpen_closed hP | with_reducible apply Device.secVerify_closed hP | with_reducible apply Device.setSessionLevel_closed hP | with_reducible apply Device.keyWrite_closed hP | (with_reducible apply hP.lit <;> first | with_reducible assumption | exact id | exact fun _ => rfl | with_reducible exact fun _ hx => hx | with_reducible apply Device.secOpen_closed hP | with_reducible apply Device.secVerify_closed hP | with_reducible apply Device.setSessionLevel_closed hP | with_reducible apply Device.keyWrite_closed hP | split) | split | intro _ | dsimp only)

/-! ### Bus -/

theorem Device.setMirror_closed {d : Device} {a : Nat} {v : Word} (hPd : P d) : P (Device.setMirror d a v) := by
  unfold Device.setMirror
  split
  · exact hP.mirror _ _ _ hPd
  · dsimp only
    split
    · exact hP.mirror _ _ _ (hP.mirror _ _ _ hPd)
    · exact hP.mirror _ _ _ hPd

theorem Device.mirrorWritten_closed {d : Device} {a : Nat} {v : Word} (hPd : P d) : P (Device.mirrorWritten d a v) := by
  unfold Device.mirrorWritten
  (try dsimp only)
  repeat' (first | with_reducible assumption | with_reducible exact fun _ hx => hx | with_reducible apply Device.setMirror_closed hP | (with_reducible apply hP.lit <;> first | with_reducible assumption | exact id | exact fun _ => rfl | with_reducible exact fun _ hx => hx | with_reducible apply Device.setMirror_closed hP | split) | split | intro _ | dsimp only)

theorem Device.showQueue_closed {d : Device} (hPd : P d) : P (Device.showQueue d) := by
  unfold Device.showQueue
  (try dsimp only)
  repeat' (first | with_reducible assumption | with_reducible exact fun _ hx => hx | with_reducible apply hP.put | (with_reducible apply hP.lit <;> first | with_reducible assumption | exact id | exact fun _ => rfl | with_reducible exact fun _ hx => hx | with_reducible apply hP.put | split) | split | intro _ | dsimp only)

theorem Device.enqueue_closed {d : Device} {x : Posted} (hPd : P d) : P (Device.enqueue d x) := by
  unfold Device.enqueue
  (try dsimp only)
  repeat' (first | with_reducible assumption | with_reducible exact fun _ hx => hx | with_reducible apply Device.mirrorWritten_closed hP | with_reducible apply hP.put | with_reducible apply Device.showQueue_closed hP | (with_reducible apply hP.lit <;> first | with_reducible assumption | exact id | exact fun _ => rfl | with_reducible exact fun _ hx => hx | with_reducible apply Device.mirrorWritten_closed hP | with_reducible apply hP.put | with_reducible apply Device.showQueue_closed hP | split) | split | intro _ | dsimp only)

theorem Device.offWrite_closed {d : Device} {page : Nat} (hPd : P d) : P (Device.offWrite d page) := by
  unfold Device.offWrite
  (try dsimp only)
  repeat' (first | with_reducible assumption | with_reducible exact fun _ hx => hx | with_reducible apply Device.irq_closed hP | with_reducible apply hP.put | with_reducible apply hP.count | (with_reducible apply hP.lit <;> first | with_reducible assumption | exact id | exact fun _ => rfl | with_reducible exact fun _ hx => hx | with_reducible apply Device.irq_closed hP | with_reducible apply hP.put | with_reducible apply hP.count | split) | split | intro _ | dsimp only)

theorem Device.unmappedWrite_closed {d : Device} (hPd : P d) : P (Device.unmappedWrite d) := by
  unfold Device.unmappedWrite
  (try dsimp only)
  repeat' (first | with_reducible assumption | with_reducible exact fun _ hx => hx | with_reducible apply Device.irq_closed hP | with_reducible apply hP.addSat | (with_reducible apply hP.lit <;> first | with_reducible assumption | exact id | exact fun _ => rfl | with_reducible exact fun _ hx => hx | with_reducible apply Device.irq_closed hP | with_reducible apply hP.addSat | split) | split | intro _ | dsimp only)

theorem Device.pageWrite_closed {d : Device} {a : Nat} {v : Word} {be : BitVec 4} (hPd : P d) :
    ∀ x z, Device.pageWrite d a v be = some (x, z) → P z := by
  intro x z hz
  unfold Device.pageWrite at hz
  split at hz
  · cases hz; exact Device.offWrite_closed hP hPd
  · split at hz
    · cases hz; exact Device.enqueue_closed hP hPd
    · exact absurd hz (by simp)

theorem Device.sramWrite_closed {d : Device} {a : Nat} {v : Word} {be : BitVec 4} (hPd : P d) : P (Device.sramWrite d a v be) := by
  unfold Device.sramWrite
  split
  · exact hP.addSat _ _ _ hPd
  · have h := hP.sramWord d a v be hPd
    dsimp only
    split
    · exact hP.other _ _ h rfl rfl rfl rfl id id
    · exact h

/-! ### PacketLink -/

theorem Device.modPl_closed {d : Device} {f : PlSt → PlSt} (hf : ∀ s, s.reqs = [] → (f s).reqs = []) (hPd : P d) : P (Device.modPl d f) :=
  hP.other d _ hPd rfl rfl rfl rfl id (hf d.pl)

theorem Device.showVcs_closed {d : Device} (hPd : P d) : P (Device.showVcs d) := by
  unfold Device.showVcs
  (try dsimp only)
  repeat' (first | with_reducible assumption | with_reducible exact fun _ hx => hx | with_reducible apply Closed.forAll | with_reducible apply hP.putB | (with_reducible apply hP.lit <;> first | with_reducible assumption | exact id | exact fun _ => rfl | with_reducible exact fun _ hx => hx | with_reducible apply Closed.forAll | with_reducible apply hP.putB | split) | split | intro _ | dsimp only)

theorem Device.plPump_closed {d : Device} {y1 : Nat} (hPd : P d) : P (Device.plPump d y1) := by
  induction y1 generalizing d with
  | zero => exact Device.showVcs_closed hP hPd
  | succ n ih =>
    unfold Device.plPump
    (try dsimp only)
    repeat' (first | with_reducible assumption | with_reducible exact fun _ hx => hx | with_reducible apply ih | with_reducible apply Device.showVcs_closed hP | with_reducible apply hP.put | with_reducible apply Device.modPl_closed hP | (with_reducible apply hP.lit <;> first | with_reducible assumption | exact id | exact fun _ => rfl | with_reducible exact fun _ hx => hx | with_reducible apply Device.showVcs_closed hP | with_reducible apply hP.put | with_reducible apply Device.modPl_closed hP | split) | split | intro _ | dsimp only)

theorem Device.plSend_closed {d : Device} {x : PlPacket} (hPd : P d) : P (Device.plSend d x) := by
  unfold Device.plSend
  (try dsimp only)
  repeat' (first | with_reducible assumption | with_reducible exact fun _ hx => hx | with_reducible apply Device.modPl_closed hP | with_reducible apply Device.plPump_closed hP | (with_reducible apply hP.lit <;> first | with_reducible assumption | exact id | exact fun _ => rfl | with_reducible exact fun _ hx => hx | with_reducible apply Device.modPl_closed hP | with_reducible apply Device.plPump_closed hP | split) | split | intro _ | dsimp only)

theorem Device.plGone_closed {d : Device} {x : PlPacket} (hPd : P d) : P (Device.plGone d x) := by
  unfold Device.plGone
  (try dsimp only)
  repeat' (first | with_reducible assumption | with_reducible exact fun _ hx => hx | with_reducible apply Device.handedOn_closed hP | with_reducible apply Closed.forAll | with_reducible apply Device.bufferFree_closed hP | (with_reducible apply hP.lit <;> first | with_reducible assumption | exact id | exact fun _ => rfl | with_reducible exact fun _ hx => hx | with_reducible apply Device.handedOn_closed hP | with_reducible apply Closed.forAll | with_reducible apply Device.bufferFree_closed hP | split) | split | intro _ | dsimp only)

theorem plAck_closed {seq : Nat} {d : Device} (hPd : P d) : P (plAck seq d) := by
  unfold plAck
  (try dsimp only)
  repeat' (first | with_reducible assumption | with_reducible exact fun _ hx => hx | with_reducible apply Closed.forAll | with_reducible apply Device.modPl_closed hP | with_reducible apply Device.plGone_closed hP | with_reducible apply Device.plPump_closed hP | (with_reducible apply hP.lit <;> first | with_reducible assumption | exact id | exact fun _ => rfl | with_reducible exact fun _ hx => hx | with_reducible apply Closed.forAll | with_reducible apply Device.modPl_closed hP | with_reducible apply Device.plGone_closed hP | with_reducible apply Device.plPump_closed hP | split) | split | intro _ | dsimp only)

theorem Device.plResend_closed {d : Device} (hPd : P d) : P (Device.plResend d) := by
  unfold Device.plResend
  (try dsimp only)
  repeat' (first | with_reducible assumption | with_reducible exact fun _ hx => hx | with_reducible apply hP.count | (with_reducible apply hP.lit <;> first | with_reducible assumption | exact id | exact fun _ => rfl | with_reducible exact fun _ hx => hx | with_reducible apply hP.count | split) | split | intro _ | dsimp only)

theorem plNak_closed {d : Device} (hPd : P d) : P (plNak d) := by
  unfold plNak
  (try dsimp only)
  repeat' (first | with_reducible assumption | with_reducible exact fun _ hx => hx | with_reducible apply Device.plResend_closed hP | with_reducible apply hP.count | (with_reducible apply hP.lit <;> first | with_reducible assumption | exact id | exact fun _ => rfl | with_reducible exact fun _ hx => hx | with_reducible apply Device.plResend_closed hP | with_reducible apply hP.count | split) | split | intro _ | dsimp only)

theorem plReplayTimeout_closed {d : Device} (hPd : P d) : P (plReplayTimeout d) := by
  unfold plReplayTimeout
  (try dsimp only)
  repeat' (first | with_reducible assumption | with_reducible exact fun _ hx => hx | with_reducible apply Device.plResend_closed hP | (with_reducible apply hP.lit <;> first | with_reducible assumption | exact id | exact fun _ => rfl | with_reducible exact fun _ hx => hx | with_reducible apply Device.plResend_closed hP | split) | split | intro _ | dsimp only)

theorem plCredit_closed {counts : List Nat} {d : Device} (hPd : P d) : P (plCredit counts d) := by
  unfold plCredit
  (try dsimp only)
  repeat' (first | with_reducible assumption | with_reducible exact fun _ hx => hx | with_reducible apply Closed.forAll | with_reducible apply Device.modPl_closed hP | with_reducible apply hP.put | with_reducible apply Device.plPump_closed hP | (with_reducible apply hP.lit <;> first | with_reducible assumption | exact id | exact fun _ => rfl | with_reducible exact fun _ hx => hx | with_reducible apply Closed.forAll | with_reducible apply Device.modPl_closed hP | with_reducible apply hP.put | with_reducible apply Device.plPump_closed hP | split) | split | intro _ | dsimp only)

theorem Device.plReturn_closed {d : Device} {vc : Nat} {n : Nat} (hPd : P d) : P (Device.plReturn d vc n) := by
  unfold Device.plReturn
  (try dsimp only)
  repeat' (first | with_reducible assumption | with_reducible exact fun _ hx => hx | with_reducible apply Device.modPl_closed hP | (with_reducible apply hP.lit <;> first | with_reducible assumption | exact id | exact fun _ => rfl | with_reducible exact fun _ hx => hx | with_reducible apply Device.modPl_closed hP | split) | split | intro _ | dsimp only)

theorem plCreditSend_closed {d : Device} (hPd : P d) : P (plCreditSend d) := by
  unfold plCreditSend
  (try dsimp only)
  repeat' (first | with_reducible assumption | with_reducible exact fun _ hx => hx | with_reducible apply Device.modPl_closed hP | (with_reducible apply hP.lit <;> first | with_reducible assumption | exact id | exact fun _ => rfl | with_reducible exact fun _ hx => hx | with_reducible apply Device.modPl_closed hP | split) | split | intro _ | dsimp only)

theorem plAckSend_closed {d : Device} (hPd : P d) : P (plAckSend d) := by
  unfold plAckSend
  (try dsimp only)
  repeat' (first | with_reducible assumption | with_reducible exact fun _ hx => hx | with_reducible apply Device.modPl_closed hP | (with_reducible apply hP.lit <;> first | with_reducible assumption | exact id | exact fun _ => rfl | with_reducible exact fun _ hx => hx | with_reducible apply Device.modPl_closed hP | split) | split | intro _ | dsimp only)

theorem plCreditStall_closed {vc : Nat} {d : Device} (hPd : P d) : P (plCreditStall vc d) := by
  unfold plCreditStall
  (try dsimp only)
  repeat' (first | with_reducible assumption | with_reducible exact fun _ hx => hx | with_reducible apply Device.irq_closed hP | (with_reducible apply hP.lit <;> first | with_reducible assumption | exact id | exact fun _ => rfl | with_reducible exact fun _ hx => hx | with_reducible apply Device.irq_closed hP | split) | split | intro _ | dsimp only)

theorem plBadPacket_closed {vc : Nat} {len : Nat} {k : PlDefect} {d : Device} (hPd : P d) : P (plBadPacket vc len k d) := by
  unfold plBadPacket
  (try dsimp only)
  repeat' (first | with_reducible assumption | with_reducible exact fun _ hx => hx | with_reducible apply Device.plReturn_closed hP | with_reducible apply hP.count | with_reducible apply Device.modPl_closed hP | (with_reducible apply hP.lit <;> first | with_reducible assumption | exact id | exact fun _ => rfl | with_reducible exact fun _ hx => hx | with_reducible apply Device.plReturn_closed hP | with_reducible apply hP.count | with_reducible apply Device.modPl_closed hP | split) | split | intro _ | dsimp only)

theorem Device.showStreamsPl_closed {d : Device} (hPd : P d) : P (Device.showStreamsPl d) := by
  unfold Device.showStreamsPl
  (try dsimp only)
  repeat' (first | with_reducible assumption | with_reducible exact fun _ hx => hx | with_reducible apply hP.put | with_reducible apply hP.putB | (with_reducible apply hP.lit <;> first | with_reducible assumption | exact id | exact fun _ => rfl | with_reducible exact fun _ hx => hx | with_reducible apply hP.put | with_reducible apply hP.putB | split) | split | intro _ | dsimp only)

theorem Device.plRefused_closed {d : Device} (hPd : P d) : P (Device.plRefused d) := by
  unfold Device.plRefused
  (try dsimp only)
  repeat' (first | with_reducible assumption | with_reducible exact fun _ hx => hx | with_reducible apply Device.irq_closed hP | with_reducible apply hP.put | (with_reducible apply hP.lit <;> first | with_reducible assumption | exact id | exact fun _ => rfl | with_reducible exact fun _ hx => hx | with_reducible apply Device.irq_closed hP | with_reducible apply hP.put | split) | split | intro _ | dsimp only)

theorem Device.streamEnd_closed {d : Device} {s : PlStream} (hPd : P d) : P (Device.streamEnd d s) := by
  unfold Device.streamEnd
  (try dsimp only)
  repeat' (first | with_reducible assumption | with_reducible exact fun _ hx => hx | with_reducible apply Device.showStreamsPl_closed hP | with_reducible apply Device.modPl_closed hP | (with_reducible apply hP.lit <;> first | with_reducible assumption | exact id | exact fun _ => rfl | with_reducible exact fun _ hx => hx | with_reducible apply Device.showStreamsPl_closed hP | with_reducible apply Device.modPl_closed hP | split) | split | intro _ | dsimp only)

theorem Device.streamCut_closed {d : Device} {s : PlStream} (hPd : P d) : P (Device.streamCut d s) := by
  unfold Device.streamCut
  (try dsimp only)
  repeat' (first | with_reducible assumption | with_reducible exact fun _ hx => hx | with_reducible apply Device.plRefused_closed hP | with_reducible apply Device.streamEnd_closed hP | with_reducible apply Device.showStreamsPl_closed hP | with_reducible apply hP.put | with_reducible apply Device.retireRun_closed hP | (with_reducible apply hP.lit <;> first | with_reducible assumption | exact id | exact fun _ => rfl | with_reducible exact fun _ hx => hx | with_reducible apply Device.plRefused_closed hP | with_reducible apply Device.streamEnd_closed hP | with_reducible apply Device.showStreamsPl_closed hP | with_reducible apply hP.put | with_reducible apply Device.retireRun_closed hP | split) | split | intro _ | dsimp only)

theorem Device.plFit_closed {d : Device} {y1 : Nat} (hPd : P d) : P (Device.plFit d y1) := by
  induction y1 generalizing d with
  | zero => exact hPd
  | succ n ih =>
    unfold Device.plFit
    (try dsimp only)
    repeat' (first | with_reducible assumption | with_reducible exact fun _ hx => hx | with_reducible apply ih | with_reducible apply Device.streamCut_closed hP | (with_reducible apply hP.lit <;> first | with_reducible assumption | exact id | exact fun _ => rfl | with_reducible exact fun _ hx => hx | with_reducible apply Device.streamCut_closed hP | split) | split | intro _ | dsimp only)

theorem Device.snapAdmit_closed {d : Device} {n : Nat} (hPd : P d) : P (Device.snapAdmit d n).2 := by
  unfold Device.snapAdmit
  (try dsimp only)
  repeat' (first | with_reducible assumption | with_reducible exact fun _ hx => hx | with_reducible apply Device.showStreamsPl_closed hP | with_reducible apply Device.modPl_closed hP | with_reducible apply Device.plRefused_closed hP | (with_reducible apply hP.lit <;> first | with_reducible assumption | exact id | exact fun _ => rfl | with_reducible exact fun _ hx => hx | with_reducible apply Device.showStreamsPl_closed hP | with_reducible apply Device.modPl_closed hP | with_reducible apply Device.plRefused_closed hP | split) | split | intro _ | dsimp only)

theorem Device.streamCtrl_closed {d : Device} {v : Word} (hPd : P d) : P (Device.streamCtrl d v) := by
  unfold Device.streamCtrl
  (try dsimp only)
  repeat' (first | with_reducible assumption | with_reducible exact fun _ hx => hx | with_reducible apply hP.put | with_reducible apply hP.wr | with_reducible apply Device.streamEnd_closed hP | with_reducible apply Device.modPl_closed hP | with_reducible apply Device.plRefused_closed hP | with_reducible apply Device.showStreamsPl_closed hP | (with_reducible apply hP.lit <;> first | with_reducible assumption | exact id | exact fun _ => rfl | with_reducible exact fun _ hx => hx | with_reducible apply hP.put | with_reducible apply hP.wr | with_reducible apply Device.streamEnd_closed hP | with_reducible apply Device.modPl_closed hP | with_reducible apply Device.plRefused_closed hP | with_reducible apply Device.showStreamsPl_closed hP | split) | split | intro _ | dsimp only)

theorem Device.snapshotDone_closed {d : Device} {n : Nat} (hPd : P d) : P (Device.snapshotDone d n) := by
  unfold Device.snapshotDone
  (try dsimp only)
  repeat' (first | with_reducible assumption | with_reducible exact fun _ hx => hx | with_reducible apply Device.modSes_closed hP | with_reducible apply Device.sesDone_closed hP | with_reducible apply Device.postMsg_closed hP | (with_reducible apply hP.lit <;> first | with_reducible assumption | exact id | exact fun _ => rfl | with_reducible exact fun _ hx => hx | with_reducible apply Device.modSes_closed hP | with_reducible apply Device.sesDone_closed hP | with_reducible apply Device.postMsg_closed hP | split) | split | intro _ | dsimp only)

theorem streamPacket_closed {x : StreamData} {tide : Nat} {full : Bool} {d : Device} (hPd : P d) : P (streamPacket x tide full d) := by
  unfold streamPacket
  (try dsimp only)
  repeat' (first | with_reducible assumption | with_reducible exact fun _ hx => hx | with_reducible apply Device.irq_closed hP | with_reducible apply hP.count | with_reducible apply Device.modPl_closed hP | with_reducible apply Device.plSend_closed hP | with_reducible apply Device.snapshotDone_closed hP | with_reducible apply Device.streamEnd_closed hP | (with_reducible apply hP.lit <;> first | with_reducible assumption | exact id | exact fun _ => rfl | with_reducible exact fun _ hx => hx | with_reducible apply Device.irq_closed hP | with_reducible apply hP.count | with_reducible apply Device.modPl_closed hP | with_reducible apply Device.plSend_closed hP | with_reducible apply Device.snapshotDone_closed hP | with_reducible apply Device.streamEnd_closed hP | split) | split | intro _ | dsimp only)

theorem msgPacketSend_closed {src : Option Nat} {d : Device} (hPd : P d) : P (msgPacketSend src d) := by
  unfold msgPacketSend
  (try dsimp only)
  repeat' (first | with_reducible assumption | with_reducible exact fun _ hx => hx | with_reducible apply Device.plSend_closed hP | with_reducible apply Device.handOn_closed hP | with_reducible apply Device.modKl_closed hP | (with_reducible apply hP.lit <;> first | with_reducible assumption | exact id | exact fun _ => rfl | with_reducible exact fun _ hx => hx | with_reducible apply Device.plSend_closed hP | with_reducible apply Device.handOn_closed hP | with_reducible apply Device.modKl_closed hP | split) | split | intro _ | dsimp only)

theorem interruptPacket_closed {d : Device} (hPd : P d) : P (interruptPacket d) := by
  unfold interruptPacket
  (try dsimp only)
  repeat' (first | with_reducible assumption | with_reducible exact fun _ hx => hx | with_reducible apply Device.plSend_closed hP | with_reducible apply Device.modPl_closed hP | (with_reducible apply hP.lit <;> first | with_reducible assumption | exact id | exact fun _ => rfl | with_reducible exact fun _ hx => hx | with_reducible apply Device.plSend_closed hP | with_reducible apply Device.modPl_closed hP | split) | split | intro _ | dsimp only)

theorem Device.showSpareLane_closed {d : Device} (hPd : P d) : P (Device.showSpareLane d) := by
  unfold Device.showSpareLane
  (try dsimp only)
  repeat' (first | with_reducible assumption | with_reducible exact fun _ hx => hx | with_reducible apply hP.putB | with_reducible apply hP.put | (with_reducible apply hP.lit <;> first | with_reducible assumption | exact id | exact fun _ => rfl | with_reducible exact fun _ hx => hx | with_reducible apply hP.putB | with_reducible apply hP.put | split) | split | intro _ | dsimp only)

theorem Device.laneGo_closed {d : Device} {l : Nat} {s : Nat} (hPd : P d) : P (Device.laneGo d l s) := by
  unfold Device.laneGo
  (try dsimp only)
  repeat' (first | with_reducible assumption | with_reducible exact fun _ hx => hx | with_reducible apply hP.putB | with_reducible apply hP.put | with_reducible apply Device.showSpareLane_closed hP | with_reducible apply Closed.when | with_reducible apply Device.irq_closed hP | (with_reducible apply hP.lit <;> first | with_reducible assumption | exact id | exact fun _ => rfl | with_reducible exact fun _ hx => hx | with_reducible apply hP.putB | with_reducible apply hP.put | with_reducible apply Device.showSpareLane_closed hP | with_reducible apply Closed.when | with_reducible apply Device.irq_closed hP | split) | split | intro _ | dsimp only)

theorem Device.place_closed {d : Device} {l : Nat} {p : Nat} (hPd : P d) : P (Device.place d l p) := by
  unfold Device.place
  (try dsimp only)
  repeat' (first | with_reducible assumption | with_reducible exact fun _ hx => hx | with_reducible apply Device.laneGo_closed hP | with_reducible apply hP.put | (with_reducible apply hP.lit <;> first | with_reducible assumption | exact id | exact fun _ => rfl | with_reducible exact fun _ hx => hx | with_reducible apply Device.laneGo_closed hP | with_reducible apply hP.put | split) | split | intro _ | dsimp only)

theorem Device.vacate_closed {d : Device} {p : Nat} (hPd : P d) : P (Device.vacate d p) := by
  unfold Device.vacate
  (try dsimp only)
  repeat' (first | with_reducible assumption | with_reducible exact fun _ hx => hx | with_reducible apply hP.put | (with_reducible apply hP.lit <;> first | with_reducible assumption | exact id | exact fun _ => rfl | with_reducible exact fun _ hx => hx | with_reducible apply hP.put | split) | split | intro _ | dsimp only)

theorem Device.linkFresh_closed {d : Device} (hPd : P d) : P (Device.linkFresh d) := by
  unfold Device.linkFresh
  (try dsimp only)
  repeat' (first | with_reducible assumption | with_reducible exact fun _ hx => hx | with_reducible apply Closed.forAll | with_reducible apply Device.modKl_closed hP | with_reducible apply Device.modPl_closed hP | (with_reducible apply hP.lit <;> first | with_reducible assumption | exact id | exact fun _ => rfl | with_reducible exact fun _ hx => hx | with_reducible apply Closed.forAll | with_reducible apply Device.modKl_closed hP | with_reducible apply Device.modPl_closed hP | split) | split | intro _ | dsimp only)

theorem Device.showCap_closed {d : Device} (hPd : P d) : P (Device.showCap d) := by
  unfold Device.showCap
  (try dsimp only)
  repeat' (first | with_reducible assumption | with_reducible exact fun _ hx => hx | with_reducible apply hP.put | (with_reducible apply hP.lit <;> first | with_reducible assumption | exact id | exact fun _ => rfl | with_reducible exact fun _ hx => hx | with_reducible apply hP.put | split) | split | intro _ | dsimp only)

theorem Device.linkDown_closed {d : Device} (hPd : P d) : P (Device.linkDown d) := by
  unfold Device.linkDown
  (try dsimp only)
  repeat' (first | with_reducible assumption | with_reducible exact fun _ hx => hx | with_reducible apply Device.modPl_closed hP | with_reducible apply hP.put | with_reducible apply Closed.forAll | with_reducible apply Device.linkFresh_closed hP | with_reducible apply Device.streamCut_closed hP | (with_reducible apply hP.lit <;> first | with_reducible assumption | exact id | exact fun _ => rfl | with_reducible exact fun _ hx => hx | with_reducible apply Device.modPl_closed hP | with_reducible apply hP.put | with_reducible apply Closed.forAll | with_reducible apply Device.linkFresh_closed hP | with_reducible apply Device.streamCut_closed hP | split) | split | intro _ | dsimp only)

theorem Device.linkCheck_closed {d : Device} (hPd : P d) : P (Device.linkCheck d) := by
  unfold Device.linkCheck
  (try dsimp only)
  repeat' (first | with_reducible assumption | with_reducible exact fun _ hx => hx | with_reducible apply Device.place_closed hP | with_reducible apply Device.showCap_closed hP | with_reducible apply hP.put | with_reducible apply Device.linkFresh_closed hP | with_reducible apply Device.modPl_closed hP | with_reducible apply Device.showVcs_closed hP | with_reducible apply Closed.forAll | (with_reducible apply hP.lit <;> first | with_reducible assumption | exact id | exact fun _ => rfl | with_reducible exact fun _ hx => hx | with_reducible apply Device.place_closed hP | with_reducible apply Device.showCap_closed hP | with_reducible apply hP.put | with_reducible apply Device.linkFresh_closed hP | with_reducible apply Device.modPl_closed hP | with_reducible apply Device.showVcs_closed hP | with_reducible apply Closed.forAll | split) | split | intro _ | dsimp only)

theorem Device.laneStart_closed {d : Device} {l : Nat} (hPd : P d) : P (Device.laneStart d l) := by
  unfold Device.laneStart
  (try dsimp only)
  repeat' (first | with_reducible assumption | with_reducible exact fun _ hx => hx | with_reducible apply Closed.forAll | with_reducible apply Device.vacate_closed hP | with_reducible apply Closed.when | with_reducible apply Device.laneGo_closed hP | with_reducible apply hP.put | (with_reducible apply hP.lit <;> first | with_reducible assumption | exact id | exact fun _ => rfl | with_reducible exact fun _ hx => hx | with_reducible apply Closed.forAll | with_reducible apply Device.vacate_closed hP | with_reducible apply Closed.when | with_reducible apply Device.laneGo_closed hP | with_reducible apply hP.put | split) | split | intro _ | dsimp only)

theorem Device.laneEnable_closed {d : Device} {l : Nat} (hPd : P d) : P (Device.laneEnable d l) := by
  unfold Device.laneEnable
  (try dsimp only)
  repeat' (first | with_reducible assumption | with_reducible exact fun _ hx => hx | with_reducible apply hP.put | with_reducible apply Device.laneStart_closed hP | (with_reducible apply hP.lit <;> first | with_reducible assumption | exact id | exact fun _ => rfl | with_reducible exact fun _ hx => hx | with_reducible apply hP.put | with_reducible apply Device.laneStart_closed hP | split) | split | intro _ | dsimp only)

theorem plSignalDetect_closed {l : Nat} {d : Device} (hPd : P d) : P (plSignalDetect l d) := by
  unfold plSignalDetect
  (try dsimp only)
  repeat' (first | with_reducible assumption | with_reducible exact fun _ hx => hx | with_reducible apply Device.laneGo_closed hP | (with_reducible apply hP.lit <;> first | with_reducible assumption | exact id | exact fun _ => rfl | with_reducible exact fun _ hx => hx | with_reducible apply Device.laneGo_closed hP | split) | split | intro _ | dsimp only)

theorem plBlockLock_closed {l : Nat} {d : Device} (hPd : P d) : P (plBlockLock l d) := by
  unfold plBlockLock
  (try dsimp only)
  repeat' (first | with_reducible assumption | with_reducible exact fun _ hx => hx | with_reducible apply Device.laneGo_closed hP | (with_reducible apply hP.lit <;> first | with_reducible assumption | exact id | exact fun _ => rfl | with_reducible exact fun _ hx => hx | with_reducible apply Device.laneGo_closed hP | split) | split | intro _ | dsimp only)

theorem plLaneAligned_closed {l : Nat} {d : Device} (hPd : P d) : P (plLaneAligned l d) := by
  unfold plLaneAligned
  (try dsimp only)
  repeat' (first | with_reducible assumption | with_reducible exact fun _ hx => hx | with_reducible apply Device.modPl_closed hP | with_reducible apply Device.place_closed hP | with_reducible apply Device.laneGo_closed hP | with_reducible apply Device.linkCheck_closed hP | (with_reducible apply hP.lit <;> first | with_reducible assumption | exact id | exact fun _ => rfl | with_reducible exact fun _ hx => hx | with_reducible apply Device.modPl_closed hP | with_reducible apply Device.place_closed hP | with_reducible apply Device.laneGo_closed hP | with_reducible apply Device.linkCheck_closed hP | split) | split | intro _ | dsimp only)

theorem Device.remap_closed {d : Device} {l : Nat} {way : Option Nat} {fault : Bool} (hPd : P d) : P (Device.remap d l way fault) := by
  unfold Device.remap
  (try dsimp only)
  repeat' (first | with_reducible assumption | with_reducible exact fun _ hx => hx | with_reducible apply Device.linkCheck_closed hP | with_reducible apply Device.plResend_closed hP | with_reducible apply Device.irq_closed hP | with_reducible apply Device.modPl_closed hP | with_reducible apply Device.place_closed hP | with_reducible apply Device.vacate_closed hP | with_reducible apply Device.linkDown_closed hP | with_reducible apply Closed.when | with_reducible apply hP.put | with_reducible apply Device.poolEmpty_closed hP | (with_reducible apply hP.lit <;> first | with_reducible assumption | exact id | exact fun _ => rfl | with_reducible exact fun _ hx => hx | with_reducible apply Device.linkCheck_closed hP | with_reducible apply Device.plResend_closed hP | with_reducible apply Device.irq_closed hP | with_reducible apply Device.modPl_closed hP | with_reducible apply Device.place_closed hP | with_reducible apply Device.vacate_closed hP | with_reducible apply Device.linkDown_closed hP | with_reducible apply Closed.when | with_reducible apply hP.put | with_reducible apply Device.poolEmpty_closed hP | split) | split | intro _ | dsimp only)

theorem Device.laneFail_closed {d : Device} {l : Nat} {way : Option Nat} (hPd : P d) : P (Device.laneFail d l way) := by
  unfold Device.laneFail
  (try dsimp only)
  repeat' (first | with_reducible assumption | with_reducible exact fun _ hx => hx | with_reducible apply hP.count | with_reducible apply Device.laneGo_closed hP | with_reducible apply Device.showSpareLane_closed hP | with_reducible apply Device.remap_closed hP | (with_reducible apply hP.lit <;> first | with_reducible assumption | exact id | exact fun _ => rfl | with_reducible exact fun _ hx => hx | with_reducible apply hP.count | with_reducible apply Device.laneGo_closed hP | with_reducible apply Device.showSpareLane_closed hP | with_reducible apply Device.remap_closed hP | split) | split | intro _ | dsimp only)

theorem plLaneFault_closed {l : Nat} {c : PlCause} {d : Device} (hPd : P d) : P (plLaneFault l c d) := by
  unfold plLaneFault
  (try dsimp only)
  repeat' (first | with_reducible assumption | with_reducible exact fun _ hx => hx | with_reducible apply hP.addSat | with_reducible apply Device.modPl_closed hP | with_reducible apply Device.laneFail_closed hP | with_reducible apply Device.linkCheck_closed hP | with_reducible apply Device.queueRecord_closed hP | with_reducible apply Device.laneGo_closed hP | (with_reducible apply hP.lit <;> first | with_reducible assumption | exact id | exact fun _ => rfl | with_reducible exact fun _ hx => hx | with_reducible apply hP.addSat | with_reducible apply Device.modPl_closed hP | with_reducible apply Device.laneFail_closed hP | with_reducible apply Device.linkCheck_closed hP | with_reducible apply Device.queueRecord_closed hP | with_reducible apply Device.laneGo_closed hP | split) | split | intro _ | dsimp only)

theorem plRemapReq_closed {l : Nat} {d : Device} (hPd : P d) : P (plRemapReq l d) := by
  unfold plRemapReq
  (try dsimp only)
  repeat' (first | with_reducible assumption | with_reducible exact fun _ hx => hx | with_reducible apply Device.laneFail_closed hP | (with_reducible apply hP.lit <;> first | with_reducible assumption | exact id | exact fun _ => rfl | with_reducible exact fun _ hx => hx | with_reducible apply Device.laneFail_closed hP | split) | split | intro _ | dsimp only)

theorem plRemapBlock_closed {p : Nat} {l : Nat} {d : Device} (hPd : P d) : P (plRemapBlock p l d) := by
  unfold plRemapBlock
  (try dsimp only)
  repeat' (first | with_reducible assumption | with_reducible exact fun _ hx => hx | with_reducible apply Device.laneFail_closed hP | (with_reducible apply hP.lit <;> first | with_reducible assumption | exact id | exact fun _ => rfl | with_reducible exact fun _ hx => hx | with_reducible apply Device.laneFail_closed hP | split) | split | intro _ | dsimp only)

theorem plRetrainEnd_closed {d : Device} (hPd : P d) : P (plRetrainEnd d) := by
  unfold plRetrainEnd
  (try dsimp only)
  repeat' (first | with_reducible assumption | with_reducible exact fun _ hx => hx | with_reducible apply Device.showCap_closed hP | with_reducible apply hP.put | with_reducible apply Device.modPl_closed hP | with_reducible apply Device.plResend_closed hP | with_reducible apply Device.plFit_closed hP | with_reducible apply Device.plPump_closed hP | (with_reducible apply hP.lit <;> first | with_reducible assumption | exact id | exact fun _ => rfl | with_reducible exact fun _ hx => hx | with_reducible apply Device.showCap_closed hP | with_reducible apply hP.put | with_reducible apply Device.modPl_closed hP | with_reducible apply Device.plResend_closed hP | with_reducible apply Device.plFit_closed hP | with_reducible apply Device.plPump_closed hP | split) | split | intro _ | dsimp only)

theorem plLaneRetry_closed {l : Nat} {d : Device} (hPd : P d) : P (plLaneRetry l d) := by
  unfold plLaneRetry
  (try dsimp only)
  repeat' (first | with_reducible assumption | with_reducible exact fun _ hx => hx | with_reducible apply Device.laneStart_closed hP | with_reducible apply Device.modPl_closed hP | with_reducible apply plLaneFault_closed hP | (with_reducible apply hP.lit <;> first | with_reducible assumption | exact id | exact fun _ => rfl | with_reducible exact fun _ hx => hx | with_reducible apply Device.laneStart_closed hP | with_reducible apply Device.modPl_closed hP | with_reducible apply plLaneFault_closed hP | split) | split | intro _ | dsimp only)

theorem Device.laneDisable_closed {d : Device} {l : Nat} (hPd : P d) : P (Device.laneDisable d l) := by
  unfold Device.laneDisable
  (try dsimp only)
  repeat' (first | with_reducible assumption | with_reducible exact fun _ hx => hx | with_reducible apply hP.put | with_reducible apply Device.showSpareLane_closed hP | with_reducible apply Device.remap_closed hP | with_reducible apply Device.laneGo_closed hP | (with_reducible apply hP.lit <;> first | with_reducible assumption | exact id | exact fun _ => rfl | with_reducible exact fun _ hx => hx | with_reducible apply hP.put | with_reducible apply Device.showSpareLane_closed hP | with_reducible apply Device.remap_closed hP | with_reducible apply Device.laneGo_closed hP | split) | split | intro _ | dsimp only)

theorem plDrainEnd_closed {l : Nat} {d : Device} (hPd : P d) : P (plDrainEnd l d) := by
  unfold plDrainEnd
  (try dsimp only)
  repeat' (first | with_reducible assumption | with_reducible exact fun _ hx => hx | with_reducible apply Device.laneGo_closed hP | with_reducible apply hP.put | with_reducible apply Device.laneStart_closed hP | (with_reducible apply hP.lit <;> first | with_reducible assumption | exact id | exact fun _ => rfl | with_reducible exact fun _ hx => hx | with_reducible apply Device.laneGo_closed hP | with_reducible apply hP.put | with_reducible apply Device.laneStart_closed hP | split) | split | intro _ | dsimp only)

theorem plAlignBlock_closed {l : Nat} {position : Nat} {skew : Nat} {d : Device} (hPd : P d) : P (plAlignBlock l position skew d) := by
  unfold plAlignBlock
  (try dsimp only)
  repeat' (first | with_reducible assumption | with_reducible exact fun _ hx => hx | with_reducible apply hP.put | with_reducible apply plLaneFault_closed hP | (with_reducible apply hP.lit <;> first | with_reducible assumption | exact id | exact fun _ => rfl | with_reducible exact fun _ hx => hx | with_reducible apply hP.put | with_reducible apply plLaneFault_closed hP | split) | split | intro _ | dsimp only)

theorem plWritten_closed {off : Nat} {v : Word} {old : Device} {d : Device} (hPd : P d) : P (plWritten off v old d) := by
  unfold plWritten
  (try dsimp only)
  repeat' (first | with_reducible assumption | with_reducible exact fun _ hx => hx | with_reducible apply Device.plFit_closed hP | with_reducible apply Closed.forAll | with_reducible apply Device.streamCtrl_closed hP | with_reducible apply hP.wr | with_reducible apply Closed.when | with_reducible apply Device.laneEnable_closed hP | with_reducible apply Device.laneDisable_closed hP | with_reducible apply Device.showVcs_closed hP | (with_reducible apply hP.lit <;> first | with_reducible assumption | exact id | exact fun _ => rfl | with_reducible exact fun _ hx => hx | with_reducible apply Device.plFit_closed hP | with_reducible apply Closed.forAll | with_reducible apply Device.streamCtrl_closed hP | with_reducible apply hP.wr | with_reducible apply Closed.when | with_reducible apply Device.laneEnable_closed hP | with_reducible apply Device.laneDisable_closed hP | with_reducible apply Device.showVcs_closed hP | split) | split | intro _ | dsimp only)

theorem plBlockReset_closed {d : Device} (hPd : P d) : P (plBlockReset d) := by
  unfold plBlockReset
  (try dsimp only)
  repeat' (first | with_reducible assumption | with_reducible exact fun _ hx => hx | with_reducible apply Closed.forAll | with_reducible apply Device.retireRun_closed hP | with_reducible apply Device.streamEnd_closed hP | with_reducible apply Device.linkFresh_closed hP | with_reducible apply Device.modPl_closed hP | with_reducible apply hP.put | with_reducible apply hP.putB | (with_reducible apply hP.lit <;> first | with_reducible assumption | exact id | exact fun _ => rfl | with_reducible exact fun _ hx => hx | with_reducible apply Closed.forAll | with_reducible apply Device.retireRun_closed hP | with_reducible apply Device.streamEnd_closed hP | with_reducible apply Device.linkFresh_closed hP | with_reducible apply Device.modPl_closed hP | with_reducible apply hP.put | with_reducible apply hP.putB | split) | split | intro _ | dsimp only)

end Sys2Proof.Machine
end

