-- ==== Sys2Proof/Laws/ClosedPilots.lean ====
section
/-!
SUPPORT. Each operation of Machine/Pilots.lean, Machine/Repair.lean, Machine/Weights.lean, Machine/Descriptors.lean keeps every closed property of the device.
-/
set_option linter.unusedTactic false
set_option linter.unreachableTactic false
set_option linter.unusedSectionVars false
set_option linter.unusedVariables false
namespace Sys2Proof.Machine

variable {P : Device → Prop} (hP : Closed P)
include hP

/-! ### Pilots -/

theorem Device.pilGo_closed {d : Device} {p : Nat} {st : Nat} (hPd : P d) : P (Device.pilGo d p st) := by
  unfold Device.pilGo
  (try dsimp only)
  repeat' (first | with_reducible assumption | with_reducible exact fun _ hx => hx | with_reducible apply hP.putB | with_reducible apply hP.put | (with_reducible apply hP.lit <;> first | with_reducible assumption | exact id | exact fun _ => rfl | with_reducible exact fun _ hx => hx | with_reducible apply hP.putB | with_reducible apply hP.put | split) | split | intro _ | dsimp only)

theorem Device.modPil_closed {d : Device} {p : Nat} {f : PilSt → PilSt} (hPd : P d) : P (Device.modPil d p f) := by
  unfold Device.modPil
  (try dsimp only)
  repeat' (first | with_reducible assumption | with_reducible exact fun _ hx => hx | (with_reducible apply hP.lit <;> first | with_reducible assumption | exact id | exact fun _ => rfl | with_reducible exact fun _ hx => hx | split) | split | intro _ | dsimp only)

theorem Device.serve_closed {d : Device} {q : Nat} {n : Nat} (hPd : P d) : P (Device.serve d q n) := by
  unfold Device.serve
  (try dsimp only)
  repeat' (first | with_reducible assumption | with_reducible exact fun _ hx => hx | with_reducible apply hP.count | with_reducible apply hP.put | with_reducible apply Device.modPil_closed hP | with_reducible apply Device.pilGo_closed hP | with_reducible apply Device.modSes_closed hP | (with_reducible apply hP.lit <;> first | with_reducible assumption | exact id | exact fun _ => rfl | with_reducible exact fun _ hx => hx | with_reducible apply hP.count | with_reducible apply hP.put | with_reducible apply Device.modPil_closed hP | with_reducible apply Device.pilGo_closed hP | with_reducible apply Device.modSes_closed hP | split) | split | intro _ | dsimp only)

theorem Device.takeOver_closed {d : Device} {q : Nat} {n : Nat} {planned : Bool} (hPd : P d) : P (Device.takeOver d q n planned) := by
  unfold Device.takeOver
  (try dsimp only)
  repeat' (first | with_reducible assumption | with_reducible exact fun _ hx => hx | with_reducible apply Device.pilGo_closed hP | with_reducible apply Device.modSes_closed hP | with_reducible apply Device.modPil_closed hP | (with_reducible apply hP.lit <;> first | with_reducible assumption | exact id | exact fun _ => rfl | with_reducible exact fun _ hx => hx | with_reducible apply Device.pilGo_closed hP | with_reducible apply Device.modSes_closed hP | with_reducible apply Device.modPil_closed hP | split) | split | intro _ | dsimp only)

theorem Device.cutSession_closed {d : Device} {n : Nat} {q : Nat} (hPd : P d) : P (Device.cutSession d n q) := by
  unfold Device.cutSession
  (try dsimp only)
  repeat' (first | with_reducible assumption | with_reducible exact fun _ hx => hx | with_reducible apply Device.modSes_closed hP | with_reducible apply Device.sesGo_closed hP | (with_reducible apply hP.lit <;> first | with_reducible assumption | exact id | exact fun _ => rfl | with_reducible exact fun _ hx => hx | with_reducible apply Device.modSes_closed hP | with_reducible apply Device.sesGo_closed hP | split) | split | intro _ | dsimp only)

theorem Device.noSpare_closed {d : Device} {n : Nat} (hPd : P d) : P (Device.noSpare d n) := by
  unfold Device.noSpare
  (try dsimp only)
  repeat' (first | with_reducible assumption | with_reducible exact fun _ hx => hx | with_reducible apply Device.modSes_closed hP | with_reducible apply Device.poolEmpty_closed hP | with_reducible apply Device.accessCut_closed hP | with_reducible apply hP.put | with_reducible apply Device.sesStop_closed hP | with_reducible apply hP.mirror | (with_reducible apply hP.lit <;> first | with_reducible assumption | exact id | exact fun _ => rfl | with_reducible exact fun _ hx => hx | with_reducible apply Device.modSes_closed hP | with_reducible apply Device.poolEmpty_closed hP | with_reducible apply Device.accessCut_closed hP | with_reducible apply hP.put | with_reducible apply Device.sesStop_closed hP | with_reducible apply hP.mirror | split) | split | intro _ | dsimp only)

theorem Device.servingFault_closed {d : Device} {p : Nat} {cause : Nat} (hPd : P d) : P (Device.servingFault d p cause) := by
  unfold Device.servingFault
  (try dsimp only)
  repeat' (first | with_reducible assumption | with_reducible exact fun _ hx => hx | with_reducible apply hP.put | with_reducible apply hP.count | with_reducible apply Device.noSpare_closed hP | with_reducible apply Device.irq_closed hP | with_reducible apply Device.takeOver_closed hP | with_reducible apply Device.cutSession_closed hP | with_reducible apply Device.modPil_closed hP | with_reducible apply Device.pilGo_closed hP | (with_reducible apply hP.lit <;> first | with_reducible assumption | exact id | exact fun _ => rfl | with_reducible exact fun _ hx => hx | with_reducible apply hP.put | with_reducible apply hP.count | with_reducible apply Device.noSpare_closed hP | with_reducible apply Device.irq_closed hP | with_reducible apply Device.takeOver_closed hP | with_reducible apply Device.cutSession_closed hP | with_reducible apply Device.modPil_closed hP | with_reducible apply Device.pilGo_closed hP | split) | split | intro _ | dsimp only)

theorem pilotFault_closed {p : Nat} {cause : Nat} {d : Device} (hPd : P d) : P (pilotFault p cause d) := by
  unfold pilotFault
  (try dsimp only)
  repeat' (first | with_reducible assumption | with_reducible exact fun _ hx => hx | with_reducible apply Device.servingFault_closed hP | with_reducible apply hP.put | with_reducible apply hP.count | with_reducible apply Device.modPil_closed hP | (with_reducible apply hP.lit <;> first | with_reducible assumption | exact id | exact fun _ => rfl | with_reducible exact fun _ hx => hx | with_reducible apply Device.servingFault_closed hP | with_reducible apply hP.put | with_reducible apply hP.count | with_reducible apply Device.modPil_closed hP | split) | split | intro _ | dsimp only)

theorem Device.resumeFrom_closed {d : Device} {n : Nat} {k : Ckpt} (hPd : P d) : P (Device.resumeFrom d n k) := by
  unfold Device.resumeFrom
  (try dsimp only)
  repeat' (first | with_reducible assumption | with_reducible exact fun _ hx => hx | with_reducible apply Closed.when | with_reducible apply hP.count | with_reducible apply Device.accessCut_closed hP | with_reducible apply Device.modSes_closed hP | with_reducible apply hP.put | with_reducible apply Device.sesBack_closed hP | (with_reducible apply hP.lit <;> first | with_reducible assumption | exact id | exact fun _ => rfl | with_reducible exact fun _ hx => hx | with_reducible apply Closed.when | with_reducible apply hP.count | with_reducible apply Device.accessCut_closed hP | with_reducible apply Device.modSes_closed hP | with_reducible apply hP.put | with_reducible apply Device.sesBack_closed hP | split) | split | intro _ | dsimp only)

theorem failoverResume_closed {n : Nat} {d : Device} (hPd : P d) : P (failoverResume n d) := by
  unfold failoverResume
  (try dsimp only)
  repeat' (first | with_reducible assumption | with_reducible exact fun _ hx => hx | with_reducible apply Device.modPil_closed hP | with_reducible apply Device.serve_closed hP | with_reducible apply Device.resumeFrom_closed hP | with_reducible apply Device.retireRun_closed hP | with_reducible apply Device.modSes_closed hP | with_reducible apply Device.sesGo_closed hP | with_reducible apply Device.servingFault_closed hP | (with_reducible apply hP.lit <;> first | with_reducible assumption | exact id | exact fun _ => rfl | with_reducible exact fun _ hx => hx | with_reducible apply Device.modPil_closed hP | with_reducible apply Device.serve_closed hP | with_reducible apply Device.resumeFrom_closed hP | with_reducible apply Device.retireRun_closed hP | with_reducible apply Device.modSes_closed hP | with_reducible apply Device.sesGo_closed hP | with_reducible apply Device.servingFault_closed hP | split) | split | intro _ | dsimp only)

theorem Device.copyImage_closed {d : Device} {p : Nat} {q : Nat} (hPd : P d) : P (Device.copyImage d p q) := by
  unfold Device.copyImage
  (try dsimp only)
  repeat' (first | with_reducible assumption | with_reducible exact fun _ hx => hx | with_reducible apply hP.wr | with_reducible apply hP.sramBytes | with_reducible apply hP.optBytes | (with_reducible apply hP.lit <;> first | with_reducible assumption | exact id | exact fun _ => rfl | with_reducible exact fun _ hx => hx | with_reducible apply hP.wr | with_reducible apply hP.sramBytes | with_reducible apply hP.optBytes | split) | split | intro _ | dsimp only)

theorem Device.pilotDead_closed {d : Device} {p : Nat} (hPd : P d) : P (Device.pilotDead d p) := by
  unfold Device.pilotDead
  (try dsimp only)
  repeat' (first | with_reducible assumption | with_reducible exact fun _ hx => hx | with_reducible apply Device.queueRecord_closed hP | with_reducible apply Device.pilGo_closed hP | (with_reducible apply hP.lit <;> first | with_reducible assumption | exact id | exact fun _ => rfl | with_reducible exact fun _ hx => hx | with_reducible apply Device.queueRecord_closed hP | with_reducible apply Device.pilGo_closed hP | split) | split | intro _ | dsimp only)

theorem Device.faultCopied_closed {d : Device} {p : Nat} (hPd : P d) : P (Device.faultCopied d p) := by
  unfold Device.faultCopied
  (try dsimp only)
  repeat' (first | with_reducible assumption | with_reducible exact fun _ hx => hx | with_reducible apply Device.modPil_closed hP | with_reducible apply hP.put | with_reducible apply Device.copyImage_closed hP | (with_reducible apply hP.lit <;> first | with_reducible assumption | exact id | exact fun _ => rfl | with_reducible exact fun _ hx => hx | with_reducible apply Device.modPil_closed hP | with_reducible apply hP.put | with_reducible apply Device.copyImage_closed hP | split) | split | intro _ | dsimp only)

theorem pilotTestEnd_closed {p : Nat} {pass : Bool} {d : Device} (hPd : P d) : P (pilotTestEnd p pass d) := by
  unfold pilotTestEnd
  (try dsimp only)
  repeat' (first | with_reducible assumption | with_reducible exact fun _ hx => hx | with_reducible apply Device.faultCopied_closed hP | with_reducible apply Device.pilotDead_closed hP | with_reducible apply Closed.when | with_reducible apply hP.put | with_reducible apply Device.pilGo_closed hP | (with_reducible apply hP.lit <;> first | with_reducible assumption | exact id | exact fun _ => rfl | with_reducible exact fun _ hx => hx | with_reducible apply Device.faultCopied_closed hP | with_reducible apply Device.pilotDead_closed hP | with_reducible apply Closed.when | with_reducible apply hP.put | with_reducible apply Device.pilGo_closed hP | split) | split | intro _ | dsimp only)

theorem Device.moveStart_closed {d : Device} {p : Nat} {q : Nat} {off : Bool} (hPd : P d) : P (Device.moveStart d p q off) := by
  unfold Device.moveStart
  (try dsimp only)
  repeat' (first | with_reducible assumption | with_reducible exact fun _ hx => hx | with_reducible apply Device.pilGo_closed hP | with_reducible apply Device.modPil_closed hP | (with_reducible apply hP.lit <;> first | with_reducible assumption | exact id | exact fun _ => rfl | with_reducible exact fun _ hx => hx | with_reducible apply Device.pilGo_closed hP | with_reducible apply Device.modPil_closed hP | split) | split | intro _ | dsimp only)

theorem moveAtQuietPoint_closed {n : Nat} {d : Device} (hPd : P d) : P (moveAtQuietPoint n d) := by
  unfold moveAtQuietPoint
  (try dsimp only)
  repeat' (first | with_reducible assumption | with_reducible exact fun _ hx => hx | with_reducible apply Device.takeOver_closed hP | with_reducible apply Device.checkpoint_closed hP | with_reducible apply Device.modPil_closed hP | (with_reducible apply hP.lit <;> first | with_reducible assumption | exact id | exact fun _ => rfl | with_reducible exact fun _ hx => hx | with_reducible apply Device.takeOver_closed hP | with_reducible apply Device.checkpoint_closed hP | with_reducible apply Device.modPil_closed hP | split) | split | intro _ | dsimp only)

theorem moveComplete_closed {n : Nat} {d : Device} (hPd : P d) : P (moveComplete n d) := by
  unfold moveComplete
  (try dsimp only)
  repeat' (first | with_reducible assumption | with_reducible exact fun _ hx => hx | with_reducible apply Device.modPil_closed hP | with_reducible apply hP.put | with_reducible apply Device.serve_closed hP | with_reducible apply Device.pilGo_closed hP | with_reducible apply Device.servingFault_closed hP | (with_reducible apply hP.lit <;> first | with_reducible assumption | exact id | exact fun _ => rfl | with_reducible exact fun _ hx => hx | with_reducible apply Device.modPil_closed hP | with_reducible apply hP.put | with_reducible apply Device.serve_closed hP | with_reducible apply Device.pilGo_closed hP | with_reducible apply Device.servingFault_closed hP | split) | split | intro _ | dsimp only)

theorem Device.pilEnable_closed {d : Device} {p : Nat} (hPd : P d) : P (Device.pilEnable d p) := by
  unfold Device.pilEnable
  (try dsimp only)
  repeat' (first | with_reducible assumption | with_reducible exact fun _ hx => hx | with_reducible apply Device.pilGo_closed hP | with_reducible apply hP.put | (with_reducible apply hP.lit <;> first | with_reducible assumption | exact id | exact fun _ => rfl | with_reducible exact fun _ hx => hx | with_reducible apply Device.pilGo_closed hP | with_reducible apply hP.put | split) | split | intro _ | dsimp only)

theorem Device.pilDisable_closed {d : Device} {p : Nat} (hPd : P d) : P (Device.pilDisable d p) := by
  unfold Device.pilDisable
  (try dsimp only)
  repeat' (first | with_reducible assumption | with_reducible exact fun _ hx => hx | with_reducible apply hP.put | with_reducible apply Device.pilGo_closed hP | with_reducible apply Device.moveStart_closed hP | with_reducible apply Device.modPil_closed hP | (with_reducible apply hP.lit <;> first | with_reducible assumption | exact id | exact fun _ => rfl | with_reducible exact fun _ hx => hx | with_reducible apply hP.put | with_reducible apply Device.pilGo_closed hP | with_reducible apply Device.moveStart_closed hP | with_reducible apply Device.modPil_closed hP | split) | split | intro _ | dsimp only)

theorem Device.imgNext_closed {d : Device} {p : Nat} (hPd : P d) : P (Device.imgNext d p) := by
  unfold Device.imgNext
  (try dsimp only)
  repeat' (first | with_reducible assumption | with_reducible exact fun _ hx => hx | with_reducible apply hP.put | (with_reducible apply hP.lit <;> first | with_reducible assumption | exact id | exact fun _ => rfl | with_reducible exact fun _ hx => hx | with_reducible apply hP.put | split) | split | intro _ | dsimp only)

theorem Device.imgWrite_closed {d : Device} {p : Nat} {v : Word} (hPd : P d) : P (Device.imgWrite d p v) := by
  unfold Device.imgWrite
  (try dsimp only)
  repeat' (first | with_reducible assumption | with_reducible exact fun _ hx => hx | with_reducible apply Device.pilGo_closed hP | with_reducible apply Device.imgNext_closed hP | with_reducible apply hP.put | with_reducible apply hP.sramBytes | with_reducible apply hP.optBytes | (with_reducible apply hP.lit <;> first | with_reducible assumption | exact id | exact fun _ => rfl | with_reducible exact fun _ hx => hx | with_reducible apply Device.pilGo_closed hP | with_reducible apply Device.imgNext_closed hP | with_reducible apply hP.put | with_reducible apply hP.sramBytes | with_reducible apply hP.optBytes | split) | split | intro _ | dsimp only)

theorem Device.imgRead_closed {d : Device} {p : Nat} (hPd : P d) : P (Device.imgRead d p) := by
  unfold Device.imgRead
  (try dsimp only)
  repeat' (first | with_reducible assumption | with_reducible exact fun _ hx => hx | with_reducible apply Device.imgNext_closed hP | (with_reducible apply hP.lit <;> first | with_reducible assumption | exact id | exact fun _ => rfl | with_reducible exact fun _ hx => hx | with_reducible apply Device.imgNext_closed hP | split) | split | intro _ | dsimp only)

theorem imageLoadIdle_closed {p : Nat} {d : Device} (hPd : P d) : P (imageLoadIdle p d) := by
  unfold imageLoadIdle
  (try dsimp only)
  repeat' (first | with_reducible assumption | with_reducible exact fun _ hx => hx | with_reducible apply Device.pilGo_closed hP | (with_reducible apply hP.lit <;> first | with_reducible assumption | exact id | exact fun _ => rfl | with_reducible exact fun _ hx => hx | with_reducible apply Device.pilGo_closed hP | split) | split | intro _ | dsimp only)

theorem imageCopyDone_closed {p : Nat} {d : Device} (hPd : P d) : P (imageCopyDone p d) := by
  unfold imageCopyDone
  (try dsimp only)
  repeat' (first | with_reducible assumption | with_reducible exact fun _ hx => hx | with_reducible apply Device.pilGo_closed hP | with_reducible apply Device.modPil_closed hP | with_reducible apply Device.copyImage_closed hP | (with_reducible apply hP.lit <;> first | with_reducible assumption | exact id | exact fun _ => rfl | with_reducible exact fun _ hx => hx | with_reducible apply Device.pilGo_closed hP | with_reducible apply Device.modPil_closed hP | with_reducible apply Device.copyImage_closed hP | split) | split | intro _ | dsimp only)

theorem Device.showImage_closed {d : Device} {p : Nat} (hPd : P d) : P (Device.showImage d p) := by
  unfold Device.showImage
  (try dsimp only)
  repeat' (first | with_reducible assumption | with_reducible exact fun _ hx => hx | with_reducible apply hP.put | with_reducible apply hP.wr | (with_reducible apply hP.lit <;> first | with_reducible assumption | exact id | exact fun _ => rfl | with_reducible exact fun _ hx => hx | with_reducible apply hP.put | with_reducible apply hP.wr | split) | split | intro _ | dsimp only)

theorem imageCheckEnd_closed {p : Nat} {d : Device} (hPd : P d) : P (imageCheckEnd p d) := by
  unfold imageCheckEnd
  (try dsimp only)
  repeat' (first | with_reducible assumption | with_reducible exact fun _ hx => hx | with_reducible apply Device.irq_closed hP | with_reducible apply Device.pilGo_closed hP | with_reducible apply Device.showImage_closed hP | (with_reducible apply hP.lit <;> first | with_reducible assumption | exact id | exact fun _ => rfl | with_reducible exact fun _ hx => hx | with_reducible apply Device.irq_closed hP | with_reducible apply Device.pilGo_closed hP | with_reducible apply Device.showImage_closed hP | split) | split | intro _ | dsimp only)

theorem pilWritten_closed {p : Nat} {off : Nat} {v : Word} {d : Device} (hPd : P d) : P (pilWritten p off v d) := by
  unfold pilWritten
  (try dsimp only)
  repeat' (first | with_reducible assumption | with_reducible exact fun _ hx => hx | with_reducible apply Device.moveStart_closed hP | with_reducible apply Device.pilGo_closed hP | with_reducible apply hP.put | with_reducible apply Device.modPil_closed hP | with_reducible apply Device.imgWrite_closed hP | with_reducible apply Closed.when | with_reducible apply hP.wr | (with_reducible apply hP.lit <;> first | with_reducible assumption | exact id | exact fun _ => rfl | with_reducible exact fun _ hx => hx | with_reducible apply Device.moveStart_closed hP | with_reducible apply Device.pilGo_closed hP | with_reducible apply hP.put | with_reducible apply Device.modPil_closed hP | with_reducible apply Device.imgWrite_closed hP | with_reducible apply Closed.when | with_reducible apply hP.wr | split) | split | intro _ | dsimp only)

/-! ### Repair -/

theorem Device.showRowsMin_closed {d : Device} (hPd : P d) : P (Device.showRowsMin d) := by
  unfold Device.showRowsMin
  (try dsimp only)
  repeat' (first | with_reducible assumption | with_reducible exact fun _ hx => hx | with_reducible apply hP.put | (with_reducible apply hP.lit <;> first | with_reducible assumption | exact id | exact fun _ => rfl | with_reducible exact fun _ hx => hx | with_reducible apply hP.put | split) | split | intro _ | dsimp only)

theorem Device.repairRow_closed {d : Device} {bank : Nat} {row : Nat} (hPd : P d) : P (Device.repairRow d bank row) := by
  unfold Device.repairRow
  (try dsimp only)
  repeat' (first | with_reducible assumption | with_reducible exact fun _ hx => hx | with_reducible apply Device.poolEmpty_closed hP | with_reducible apply Device.modRep_closed hP | with_reducible apply Device.showRowsMin_closed hP | with_reducible apply hP.put | with_reducible apply Device.spareUsed_closed hP | (with_reducible apply hP.lit <;> first | with_reducible assumption | exact id | exact fun _ => rfl | with_reducible exact fun _ hx => hx | with_reducible apply Device.poolEmpty_closed hP | with_reducible apply Device.modRep_closed hP | with_reducible apply Device.showRowsMin_closed hP | with_reducible apply hP.put | with_reducible apply Device.spareUsed_closed hP | split) | split | intro _ | dsimp only)

theorem Device.badWord_closed {d : Device} {bank : Nat} {off : Nat} {proc : Nat} (hPd : P d) : P (Device.badWord d bank off proc) := by
  unfold Device.badWord
  split
  · exact Device.markBad_closed hP hPd
  · split
    · exact Device.manRemove_closed hP hPd
    · split
      · exact iteClosed (receptionFailed_closed hP hPd) hPd
      · split
        · exact iteClosed (pilotFault_closed hP hPd) (Device.modSes_closed hP hPd)
        · exact Device.await_closed hP hPd

theorem dredgerRowVisit_closed {bank : Nat} {row : Nat} {find : RowFind} {d : Device} (hPd : P d) : P (dredgerRowVisit bank row find d) := by
  unfold dredgerRowVisit
  (try dsimp only)
  repeat' (first | with_reducible assumption | with_reducible exact fun _ hx => hx | with_reducible apply Device.modRep_closed hP | with_reducible apply Device.eccCorrected_closed hP | with_reducible apply Device.repairRow_closed hP | with_reducible apply Device.badWord_closed hP | with_reducible apply Device.eccUncorrected_closed hP | (with_reducible apply hP.lit <;> first | with_reducible assumption | exact id | exact fun _ => rfl | with_reducible exact fun _ hx => hx | with_reducible apply Device.modRep_closed hP | with_reducible apply Device.eccCorrected_closed hP | with_reducible apply Device.repairRow_closed hP | with_reducible apply Device.badWord_closed hP | with_reducible apply Device.eccUncorrected_closed hP | split) | split | intro _ | dsimp only)

theorem Device.readFound_closed {d : Device} {addr : Nat} {find : WordFind} (hPd : P d) : P (Device.readFound d addr find) := by
  have h1 := Device.eccUncorrected_closed hP (d := d) (bank := (addr - 0x0200000) / 2 ^ 20) (off := (addr - 0x0200000) % 2 ^ 20 / 8 * 8) hPd
  unfold Device.readFound
  refine iteClosed h1 ?_
  cases find
  · exact hPd
  · exact Device.eccCorrected_closed hP hPd
  · exact iteClosed (Device.badWord_closed hP h1) h1

theorem Device.markDead_closed {d : Device} {p : Nat} (hPd : P d) : P (Device.markDead d p) := by
  unfold Device.markDead
  (try dsimp only)
  repeat' (first | with_reducible assumption | with_reducible exact fun _ hx => hx | with_reducible apply Device.queueRecord_closed hP | with_reducible apply Device.dropPath_closed hP | with_reducible apply Device.setDead_closed hP | with_reducible apply Device.reglChanged_closed hP | with_reducible apply Device.groupsStale_closed hP | with_reducible apply Closed.when | with_reducible apply Device.awaitRenorm_closed hP | (with_reducible apply hP.lit <;> first | with_reducible assumption | exact id | exact fun _ => rfl | with_reducible exact fun _ hx => hx | with_reducible apply Device.queueRecord_closed hP | with_reducible apply Device.dropPath_closed hP | with_reducible apply Device.setDead_closed hP | with_reducible apply Device.reglChanged_closed hP | with_reducible apply Device.groupsStale_closed hP | with_reducible apply Closed.when | with_reducible apply Device.awaitRenorm_closed hP | split) | split | intro _ | dsimp only)

theorem Device.revive_closed {d : Device} {p : Nat} (hPd : P d) : P (Device.revive d p) := by
  unfold Device.revive
  (try dsimp only)
  repeat' (first | with_reducible assumption | with_reducible exact fun _ hx => hx | with_reducible apply Device.queueRecord_closed hP | with_reducible apply Device.setDead_closed hP | (with_reducible apply hP.lit <;> first | with_reducible assumption | exact id | exact fun _ => rfl | with_reducible exact fun _ hx => hx | with_reducible apply Device.queueRecord_closed hP | with_reducible apply Device.setDead_closed hP | split) | split | intro _ | dsimp only)

theorem Device.selftest_closed {d : Device} (hPd : P d) : P (Device.selftest d) := by
  unfold Device.selftest
  (try dsimp only)
  repeat' (first | with_reducible assumption | with_reducible exact fun _ hx => hx | with_reducible apply Device.modRep_closed hP | with_reducible apply hP.wr | with_reducible apply hP.put | (with_reducible apply hP.lit <;> first | with_reducible assumption | exact id | exact fun _ => rfl | with_reducible exact fun _ hx => hx | with_reducible apply Device.modRep_closed hP | with_reducible apply hP.wr | with_reducible apply hP.put | split) | split | intro _ | dsimp only)

theorem Device.selftestEnd_closed {d : Device} {result : Nat} (hPd : P d) : P (Device.selftestEnd d result) := by
  unfold Device.selftestEnd
  (try dsimp only)
  repeat' (first | with_reducible assumption | with_reducible exact fun _ hx => hx | with_reducible apply Device.irq_closed hP | with_reducible apply Device.modRep_closed hP | with_reducible apply hP.put | (with_reducible apply hP.lit <;> first | with_reducible assumption | exact id | exact fun _ => rfl | with_reducible exact fun _ hx => hx | with_reducible apply Device.irq_closed hP | with_reducible apply Device.modRep_closed hP | with_reducible apply hP.put | split) | split | intro _ | dsimp only)

theorem Device.found_closed {d : Device} {n : Nat} (hPd : P d) : P (Device.found d n) := by
  unfold Device.found
  (try dsimp only)
  repeat' (first | with_reducible assumption | with_reducible exact fun _ hx => hx | with_reducible apply Device.modRep_closed hP | with_reducible apply hP.addSat | (with_reducible apply hP.lit <;> first | with_reducible assumption | exact id | exact fun _ => rfl | with_reducible exact fun _ hx => hx | with_reducible apply Device.modRep_closed hP | with_reducible apply hP.addSat | split) | split | intro _ | dsimp only)

theorem Device.testPilot_closed {d : Device} {p : Nat} {fail : Bool} (hPd : P d) : P (Device.testPilot d p fail) := by
  unfold Device.testPilot
  (try dsimp only)
  repeat' (first | with_reducible assumption | with_reducible exact fun _ hx => hx | with_reducible apply Device.found_closed hP | with_reducible apply Device.pilotDead_closed hP | with_reducible apply hP.put | (with_reducible apply hP.lit <;> first | with_reducible assumption | exact id | exact fun _ => rfl | with_reducible exact fun _ hx => hx | with_reducible apply Device.found_closed hP | with_reducible apply Device.pilotDead_closed hP | with_reducible apply hP.put | split) | split | intro _ | dsimp only)

theorem Device.testServing_closed {d : Device} {p : Nat} {fail : Bool} (hPd : P d) : P (Device.testServing d p fail) := by
  unfold Device.testServing
  (try dsimp only)
  repeat' (first | with_reducible assumption | with_reducible exact fun _ hx => hx | with_reducible apply Device.poolEmpty_closed hP | with_reducible apply Device.pilGo_closed hP | with_reducible apply Device.serve_closed hP | with_reducible apply hP.put | with_reducible apply Device.checkpoint_closed hP | with_reducible apply Device.testPilot_closed hP | (with_reducible apply hP.lit <;> first | with_reducible assumption | exact id | exact fun _ => rfl | with_reducible exact fun _ hx => hx | with_reducible apply Device.poolEmpty_closed hP | with_reducible apply Device.pilGo_closed hP | with_reducible apply Device.serve_closed hP | with_reducible apply hP.put | with_reducible apply Device.checkpoint_closed hP | with_reducible apply Device.testPilot_closed hP | split) | split | intro _ | dsimp only)

theorem Device.elemFault_closed {d : Device} {p : Nat} {f : ElemFault} (hPd : P d) : P (Device.elemFault d p f) := by
  unfold Device.elemFault
  (try dsimp only)
  repeat' (first | with_reducible assumption | with_reducible exact fun _ hx => hx | with_reducible apply sliceFault_closed hP | with_reducible apply dacCellFault_closed hP | with_reducible apply driverCellFault_closed hP | (with_reducible apply hP.lit <;> first | with_reducible assumption | exact id | exact fun _ => rfl | with_reducible exact fun _ hx => hx | with_reducible apply sliceFault_closed hP | with_reducible apply dacCellFault_closed hP | with_reducible apply driverCellFault_closed hP | split) | split | intro _ | dsimp only)

theorem selftestStepEnd_closed {x : SelfTestFinds} {d : Device} (hPd : P d) : P (selftestStepEnd x d) := by
  unfold selftestStepEnd
  (try dsimp only)
  repeat' (first | with_reducible assumption | with_reducible exact fun _ hx => hx | with_reducible apply Closed.forAll | with_reducible apply Device.testPilot_closed hP | with_reducible apply Device.testServing_closed hP | with_reducible apply Device.found_closed hP | with_reducible apply Device.repairRow_closed hP | with_reducible apply Device.elemFault_closed hP | with_reducible apply Device.selftestEnd_closed hP | with_reducible apply hP.put | (with_reducible apply hP.lit <;> first | with_reducible assumption | exact id | exact fun _ => rfl | with_reducible exact fun _ hx => hx | with_reducible apply Closed.forAll | with_reducible apply Device.testPilot_closed hP | with_reducible apply Device.testServing_closed hP | with_reducible apply Device.found_closed hP | with_reducible apply Device.repairRow_closed hP | with_reducible apply Device.elemFault_closed hP | with_reducible apply Device.selftestEnd_closed hP | with_reducible apply hP.put | split) | split | intro _ | dsimp only)

theorem Device.optPut_closed {d : Device} {a : Nat} {bs : List Byte} (hPd : P d) : P (Device.optPut d a bs) := by
  unfold Device.optPut
  (try dsimp only)
  repeat' (first | with_reducible assumption | with_reducible exact fun _ hx => hx | with_reducible apply hP.sramBytes | with_reducible apply hP.optBytes | (with_reducible apply hP.lit <;> first | with_reducible assumption | exact id | exact fun _ => rfl | with_reducible exact fun _ hx => hx | with_reducible apply hP.sramBytes | with_reducible apply hP.optBytes | split) | split | intro _ | dsimp only)

theorem Device.compactStart_closed {d : Device} (hPd : P d) : P (Device.compactStart d) := by
  unfold Device.compactStart
  (try dsimp only)
  repeat' (first | with_reducible assumption | with_reducible exact fun _ hx => hx | with_reducible apply Device.poolEmpty_closed hP | with_reducible apply hP.put | (with_reducible apply hP.lit <;> first | with_reducible assumption | exact id | exact fun _ => rfl | with_reducible exact fun _ hx => hx | with_reducible apply Device.poolEmpty_closed hP | with_reducible apply hP.put | split) | split | intro _ | dsimp only)

theorem compactionEnd_closed {d : Device} (hPd : P d) : P (compactionEnd d) := by
  unfold compactionEnd
  (try dsimp only)
  repeat' (first | with_reducible assumption | with_reducible exact fun _ hx => hx | with_reducible apply Device.optPut_closed hP | with_reducible apply hP.put | with_reducible apply hP.addSat | (with_reducible apply hP.lit <;> first | with_reducible assumption | exact id | exact fun _ => rfl | with_reducible exact fun _ hx => hx | with_reducible apply Device.optPut_closed hP | with_reducible apply hP.put | with_reducible apply hP.addSat | split) | split | intro _ | dsimp only)

theorem repairRecordWrite_closed {d : Device} (hPd : P d) : P (repairRecordWrite d) := by
  unfold repairRecordWrite
  (try dsimp only)
  repeat' (first | with_reducible assumption | with_reducible exact fun _ hx => hx | with_reducible apply Device.compactStart_closed hP | with_reducible apply Device.optPut_closed hP | with_reducible apply Device.modRep_closed hP | with_reducible apply hP.put | with_reducible apply hP.wr | (with_reducible apply hP.lit <;> first | with_reducible assumption | exact id | exact fun _ => rfl | with_reducible exact fun _ hx => hx | with_reducible apply Device.compactStart_closed hP | with_reducible apply Device.optPut_closed hP | with_reducible apply Device.modRep_closed hP | with_reducible apply hP.put | with_reducible apply hP.wr | split) | split | intro _ | dsimp only)

theorem Device.applyRecord_closed {d : Device} {r : List Byte} (hPd : P d) : P (Device.applyRecord d r) := by
  unfold Device.applyRecord
  (try dsimp only)
  repeat' (first | with_reducible assumption | with_reducible exact fun _ hx => hx | with_reducible apply Device.setElem_closed hP | with_reducible apply Device.dropPath_closed hP | with_reducible apply Device.setDead_closed hP | with_reducible apply Device.pilGo_closed hP | with_reducible apply Device.modRep_closed hP | with_reducible apply hP.put | (with_reducible apply hP.lit <;> first | with_reducible assumption | exact id | exact fun _ => rfl | with_reducible exact fun _ hx => hx | with_reducible apply Device.setElem_closed hP | with_reducible apply Device.dropPath_closed hP | with_reducible apply Device.setDead_closed hP | with_reducible apply Device.pilGo_closed hP | with_reducible apply Device.modRep_closed hP | with_reducible apply hP.put | split) | split | intro _ | dsimp only)

theorem Device.applyMap_closed {d : Device} (hPd : P d) : P (Device.applyMap d) := by
  unfold Device.applyMap
  (try dsimp only)
  repeat' (first | with_reducible assumption | with_reducible exact fun _ hx => hx | with_reducible apply hP.put | with_reducible apply Closed.forAll | with_reducible apply Device.showRowsMin_closed hP | with_reducible apply Device.applyRecord_closed hP | (with_reducible apply hP.lit <;> first | with_reducible assumption | exact id | exact fun _ => rfl | with_reducible exact fun _ hx => hx | with_reducible apply hP.put | with_reducible apply Closed.forAll | with_reducible apply Device.showRowsMin_closed hP | with_reducible apply Device.applyRecord_closed hP | split) | split | intro _ | dsimp only)

theorem repWritten_closed {off : Nat} {v : Word} {d : Device} (hPd : P d) : P (repWritten off v d) := by
  unfold repWritten
  (try dsimp only)
  repeat' (first | with_reducible assumption | with_reducible exact fun _ hx => hx | with_reducible apply Device.selftest_closed hP | with_reducible apply Device.modRep_closed hP | with_reducible apply Device.markDead_closed hP | with_reducible apply Device.revive_closed hP | with_reducible apply Device.compactStart_closed hP | with_reducible apply Closed.when | with_reducible apply Closed.forAll | with_reducible apply hP.wr | with_reducible apply hP.put | (with_reducible apply hP.lit <;> first | with_reducible assumption | exact id | exact fun _ => rfl | with_reducible exact fun _ hx => hx | with_reducible apply Device.selftest_closed hP | with_reducible apply Device.modRep_closed hP | with_reducible apply Device.markDead_closed hP | with_reducible apply Device.revive_closed hP | with_reducible apply Device.compactStart_closed hP | with_reducible apply Closed.when | with_reducible apply Closed.forAll | with_reducible apply hP.wr | with_reducible apply hP.put | split) | split | intro _ | dsimp only)

/-! ### Weights -/

theorem Device.showEntries_closed {d : Device} (hPd : P d) : P (Device.showEntries d) := by
  unfold Device.showEntries
  (try dsimp only)
  repeat' (first | with_reducible assumption | with_reducible exact fun _ hx => hx | with_reducible apply hP.put | (with_reducible apply hP.lit <;> first | with_reducible assumption | exact id | exact fun _ => rfl | with_reducible exact fun _ hx => hx | with_reducible apply hP.put | split) | split | intro _ | dsimp only)

theorem Device.putEntryWt_closed {d : Device} {i : Nat} {bs : List Byte} (hPd : P d) : P (Device.putEntryWt d i bs) := by
  unfold Device.putEntryWt
  (try dsimp only)
  repeat' (first | with_reducible assumption | with_reducible exact fun _ hx => hx | with_reducible apply Device.showEntries_closed hP | with_reducible apply hP.sramBytes | with_reducible apply hP.optBytes | (with_reducible apply hP.lit <;> first | with_reducible assumption | exact id | exact fun _ => rfl | with_reducible exact fun _ hx => hx | with_reducible apply Device.showEntries_closed hP | with_reducible apply hP.sramBytes | with_reducible apply hP.optBytes | split) | split | intro _ | dsimp only)

theorem Device.putStage_closed {d : Device} {bs : List Byte} (hPd : P d) : P (Device.putStage d bs) := by
  unfold Device.putStage
  (try dsimp only)
  repeat' (first | with_reducible assumption | with_reducible exact fun _ hx => hx | with_reducible apply Closed.forAll | with_reducible apply hP.wr | (with_reducible apply hP.lit <;> first | with_reducible assumption | exact id | exact fun _ => rfl | with_reducible exact fun _ hx => hx | with_reducible apply Closed.forAll | with_reducible apply hP.wr | split) | split | intro _ | dsimp only)

theorem Device.wtAction_closed {d : Device} {action : Nat} (hPd : P d) : P (Device.wtAction d action) := by
  unfold Device.wtAction
  (try dsimp only)
  repeat' (first | with_reducible assumption | with_reducible exact fun _ hx => hx | with_reducible apply hP.put | with_reducible apply Device.putStage_closed hP | with_reducible apply Device.putEntryWt_closed hP | (with_reducible apply hP.lit <;> first | with_reducible assumption | exact id | exact fun _ => rfl | with_reducible exact fun _ hx => hx | with_reducible apply hP.put | with_reducible apply Device.putStage_closed hP | with_reducible apply Device.putEntryWt_closed hP | split) | split | intro _ | dsimp only)

theorem wtActionDone_closed {d : Device} (hPd : P d) : P (wtActionDone d) := by
  unfold wtActionDone
  (try dsimp only)
  repeat' (first | with_reducible assumption | with_reducible exact fun _ hx => hx | with_reducible apply hP.put | (with_reducible apply hP.lit <;> first | with_reducible assumption | exact id | exact fun _ => rfl | with_reducible exact fun _ hx => hx | with_reducible apply hP.put | split) | split | intro _ | dsimp only)

theorem directionEstimate_closed {z : List (BitVec 32 × BitVec 32)} {noise : BitVec 64} {d : Device} (hPd : P d) : P (directionEstimate z noise d) := by
  unfold directionEstimate
  (try dsimp only)
  repeat' (first | with_reducible assumption | with_reducible exact fun _ hx => hx | with_reducible apply hP.put | with_reducible apply hP.count | with_reducible apply Device.modSes_closed hP | (with_reducible apply hP.lit <;> first | with_reducible assumption | exact id | exact fun _ => rfl | with_reducible exact fun _ hx => hx | with_reducible apply hP.put | with_reducible apply hP.count | with_reducible apply Device.modSes_closed hP | split) | split | intro _ | dsimp only)

theorem bfWritten_closed {off : Nat} {v : Word} {d : Device} (hPd : P d) : P (bfWritten off v d) := by
  unfold bfWritten
  (try dsimp only)
  repeat' (first | with_reducible assumption | with_reducible exact fun _ hx => hx | with_reducible apply Device.wtAction_closed hP | with_reducible apply hP.wr | (with_reducible apply hP.lit <;> first | with_reducible assumption | exact id | exact fun _ => rfl | with_reducible exact fun _ hx => hx | with_reducible apply Device.wtAction_closed hP | with_reducible apply hP.wr | split) | split | intro _ | dsimp only)

theorem bfBlockReset_closed {old : Device} {d : Device} (hPd : P d) : P (bfBlockReset old d) := by
  unfold bfBlockReset
  (try dsimp only)
  repeat' (first | with_reducible assumption | with_reducible exact fun _ hx => hx | with_reducible apply hP.put | with_reducible apply hP.wr | with_reducible apply Closed.forAll | with_reducible apply Device.setWeight_closed hP | with_reducible apply Device.reglChanged_closed hP | with_reducible apply Device.groupsStale_closed hP | with_reducible apply Device.dropWaits_closed hP | (with_reducible apply hP.lit <;> first | with_reducible assumption | exact id | exact fun _ => rfl | with_reducible exact fun _ hx => hx | with_reducible apply hP.put | with_reducible apply hP.wr | with_reducible apply Closed.forAll | with_reducible apply Device.setWeight_closed hP | with_reducible apply Device.reglChanged_closed hP | with_reducible apply Device.groupsStale_closed hP | with_reducible apply Device.dropWaits_closed hP | split) | split | intro _ | dsimp only)

theorem schedWritten_closed {off : Nat} {d : Device} (hPd : P d) : P (schedWritten off d) := by
  unfold schedWritten
  (try dsimp only)
  repeat' (first | with_reducible assumption | with_reducible exact fun _ hx => hx | with_reducible apply Device.groupsStale_closed hP | (with_reducible apply hP.lit <;> first | with_reducible assumption | exact id | exact fun _ => rfl | with_reducible exact fun _ hx => hx | with_reducible apply Device.groupsStale_closed hP | split) | split | intro _ | dsimp only)

/-! ### Descriptors -/

theorem Device.showUrgent_closed {d : Device} (hPd : P d) : P (Device.showUrgent d) := by
  unfold Device.showUrgent
  (try dsimp only)
  repeat' (first | with_reducible assumption | with_reducible exact fun _ hx => hx | with_reducible apply Closed.forAll | with_reducible apply hP.putB | (with_reducible apply hP.lit <;> first | with_reducible assumption | exact id | exact fun _ => rfl | with_reducible exact fun _ hx => hx | with_reducible apply Closed.forAll | with_reducible apply hP.putB | split) | split | intro _ | dsimp only)

theorem descriptorUrgent_closed {n : Nat} {d : Device} (hPd : P d) : P (descriptorUrgent n d) := by
  unfold descriptorUrgent
  (try dsimp only)
  repeat' (first | with_reducible assumption | with_reducible exact fun _ hx => hx | with_reducible apply Device.modSes_closed hP | (with_reducible apply hP.lit <;> first | with_reducible assumption | exact id | exact fun _ => rfl | with_reducible exact fun _ hx => hx | with_reducible apply Device.modSes_closed hP | split) | split | intro _ | dsimp only)

theorem Device.regRefused_closed {d : Device} {n : Nat} (hPd : P d) : P (Device.regRefused d n) := by
  unfold Device.regRefused
  (try dsimp only)
  repeat' (first | with_reducible assumption | with_reducible exact fun _ hx => hx | with_reducible apply Device.retireRun_closed hP | (with_reducible apply hP.lit <;> first | with_reducible assumption | exact id | exact fun _ => rfl | with_reducible exact fun _ hx => hx | with_reducible apply Device.retireRun_closed hP | split) | split | intro _ | dsimp only)

theorem Device.beamDone_closed {d : Device} {n : Nat} (hPd : P d) : P (Device.beamDone d n) := by
  unfold Device.beamDone
  (try dsimp only)
  repeat' (first | with_reducible assumption | with_reducible exact fun _ hx => hx | with_reducible apply Device.completeRun_closed hP | (with_reducible apply hP.lit <;> first | with_reducible assumption | exact id | exact fun _ => rfl | with_reducible exact fun _ hx => hx | with_reducible apply Device.completeRun_closed hP | split) | split | intro _ | dsimp only)

theorem Device.beamTx_closed {d : Device} {n : Nat} {x : Desc} (hPd : P d) : P (Device.beamTx d n x) := by
  unfold Device.beamTx
  (try dsimp only)
  repeat' (first | with_reducible assumption | with_reducible exact fun _ hx => hx | with_reducible apply Device.retireRun_closed hP | with_reducible apply Device.modStream_closed hP | with_reducible apply Device.admitTx_closed hP | with_reducible apply Device.regRefused_closed hP | with_reducible apply Device.beamDone_closed hP | with_reducible apply Device.freeRefused_closed hP | with_reducible refine snd_of_eq (by assumption) ?_ | (with_reducible apply hP.lit <;> first | with_reducible assumption | exact id | exact fun _ => rfl | with_reducible exact fun _ hx => hx | with_reducible apply Device.retireRun_closed hP | with_reducible apply Device.modStream_closed hP | with_reducible apply Device.admitTx_closed hP | with_reducible apply Device.regRefused_closed hP | with_reducible apply Device.beamDone_closed hP | with_reducible apply Device.freeRefused_closed hP | with_reducible refine snd_of_eq (by assumption) ?_ | split) | split | intro _ | dsimp only)

theorem Device.beamRx_closed {d : Device} {n : Nat} {x : Desc} (hPd : P d) : P (Device.beamRx d n x) := by
  unfold Device.beamRx
  (try dsimp only)
  repeat' (first | with_reducible assumption | with_reducible exact fun _ hx => hx | with_reducible apply Device.completeRun_closed hP | with_reducible apply Device.modStream_closed hP | with_reducible apply Device.retireRun_closed hP | (with_reducible apply hP.lit <;> first | with_reducible assumption | exact id | exact fun _ => rfl | with_reducible exact fun _ hx => hx | with_reducible apply Device.completeRun_closed hP | with_reducible apply Device.modStream_closed hP | with_reducible apply Device.retireRun_closed hP | split) | split | intro _ | dsimp only)

theorem weightsTakeEffect_closed {n : Nat} {d : Device} (hPd : P d) : P (weightsTakeEffect n d) := by
  unfold weightsTakeEffect
  (try dsimp only)
  repeat' (first | with_reducible assumption | with_reducible exact fun _ hx => hx | with_reducible apply Device.txEffect_closed hP | with_reducible apply Closed.when | with_reducible apply Device.zonesChanged_closed hP | with_reducible apply Device.completeRun_closed hP | with_reducible apply Device.sesDone_closed hP | with_reducible apply Device.modSes_closed hP | (with_reducible apply hP.lit <;> first | with_reducible assumption | exact id | exact fun _ => rfl | with_reducible exact fun _ hx => hx | with_reducible apply Device.txEffect_closed hP | with_reducible apply Closed.when | with_reducible apply Device.zonesChanged_closed hP | with_reducible apply Device.completeRun_closed hP | with_reducible apply Device.sesDone_closed hP | with_reducible apply Device.modSes_closed hP | split) | split | intro _ | dsimp only)

theorem Device.sectorAngle_closed {d : Device} {first : Int} {last : Int} {steps : Nat} {i : Nat} (hPd : P d) : P (Device.sectorAngle d first last steps i).2 := by
  unfold Device.sectorAngle
  (try dsimp only)
  repeat' (first | with_reducible assumption | with_reducible exact fun _ hx => hx | with_reducible apply Device.divNearest_closed hP | with_reducible refine snd_of_eq (by assumption) ?_ | (with_reducible apply hP.lit <;> first | with_reducible assumption | exact id | exact fun _ => rfl | with_reducible exact fun _ hx => hx | with_reducible apply Device.divNearest_closed hP | with_reducible refine snd_of_eq (by assumption) ?_ | split) | split | intro _ | dsimp only)

theorem Device.surveyEnd_closed {d : Device} {n : Nat} (hPd : P d) : P (Device.surveyEnd d n) := by
  unfold Device.surveyEnd
  (try dsimp only)
  repeat' (first | with_reducible assumption | with_reducible exact fun _ hx => hx | with_reducible apply Device.modSes_closed hP | with_reducible apply Device.sesDone_closed hP | with_reducible apply Device.admitTx_closed hP | with_reducible apply Device.regRefused_closed hP | with_reducible refine snd_of_eq (by assumption) ?_ | (with_reducible apply hP.lit <;> first | with_reducible assumption | exact id | exact fun _ => rfl | with_reducible exact fun _ hx => hx | with_reducible apply Device.modSes_closed hP | with_reducible apply Device.sesDone_closed hP | with_reducible apply Device.admitTx_closed hP | with_reducible apply Device.regRefused_closed hP | with_reducible refine snd_of_eq (by assumption) ?_ | split) | split | intro _ | dsimp only)

theorem Device.surveyGo_closed {d : Device} {n : Nat} {x : Desc} {y3 : Nat} {y4 : Nat} (hPd : P d) : P (Device.surveyGo d n x y3 y4) := by
  induction y3 generalizing d y4 with
  | zero => exact Device.surveyEnd_closed hP hPd
  | succ n ih =>
    unfold Device.surveyGo
    (try dsimp only)
    repeat' (first | with_reducible assumption | with_reducible exact fun _ hx => hx | with_reducible apply ih | with_reducible apply Device.askSteered_closed hP | with_reducible apply Device.surveyEnd_closed hP | with_reducible apply Device.steerRx_closed hP | with_reducible apply Device.noiseRestart_closed hP | with_reducible apply Device.postMsg_closed hP | with_reducible apply Device.sectorAngle_closed hP | with_reducible apply Device.modSes_closed hP | with_reducible apply Device.zonesChanged_closed hP | with_reducible apply Device.txEffect_closed hP | with_reducible refine snd_of_eq (by assumption) ?_ | (with_reducible apply hP.lit <;> first | with_reducible assumption | exact id | exact fun _ => rfl | with_reducible exact fun _ hx => hx | with_reducible apply Device.askSteered_closed hP | with_reducible apply Device.surveyEnd_closed hP | with_reducible apply Device.steerRx_closed hP | with_reducible apply Device.noiseRestart_closed hP | with_reducible apply Device.postMsg_closed hP | with_reducible apply Device.sectorAngle_closed hP | with_reducible apply Device.modSes_closed hP | with_reducible apply Device.zonesChanged_closed hP | with_reducible apply Device.txEffect_closed hP | with_reducible refine snd_of_eq (by assumption) ?_ | split) | split | intro _ | dsimp only)

theorem Device.surveyStart_closed {d : Device} {n : Nat} {x : Desc} (hPd : P d) : P (Device.surveyStart d n x) := by
  unfold Device.surveyStart
  (try dsimp only)
  repeat' (first | with_reducible assumption | with_reducible exact fun _ hx => hx | with_reducible apply Device.modSes_closed hP | with_reducible apply Device.surveyGo_closed hP | (with_reducible apply hP.lit <;> first | with_reducible assumption | exact id | exact fun _ => rfl | with_reducible exact fun _ hx => hx | with_reducible apply Device.modSes_closed hP | with_reducible apply Device.surveyGo_closed hP | split) | split | intro _ | dsimp only)

theorem surveySector_closed {n : Nat} {d : Device} (hPd : P d) : P (surveySector n d) := by
  unfold surveySector
  (try dsimp only)
  repeat' (first | with_reducible assumption | with_reducible exact fun _ hx => hx | with_reducible apply Device.surveyGo_closed hP | (with_reducible apply hP.lit <;> first | with_reducible assumption | exact id | exact fun _ => rfl | with_reducible exact fun _ hx => hx | with_reducible apply Device.surveyGo_closed hP | split) | split | intro _ | dsimp only)

theorem Device.captureBegin_closed {d : Device} {n : Nat} (hPd : P d) : P (Device.captureBegin d n) := by
  unfold Device.captureBegin
  (try dsimp only)
  repeat' (first | with_reducible assumption | with_reducible exact fun _ hx => hx | with_reducible apply Device.modSes_closed hP | (with_reducible apply hP.lit <;> first | with_reducible assumption | exact id | exact fun _ => rfl | with_reducible exact fun _ hx => hx | with_reducible apply Device.modSes_closed hP | split) | split | intro _ | dsimp only)

theorem Device.snapStart_closed {d : Device} {n : Nat} {x : Desc} (hPd : P d) : P (Device.snapStart d n x) := by
  unfold Device.snapStart
  (try dsimp only)
  repeat' (first | with_reducible assumption | with_reducible exact fun _ hx => hx | with_reducible apply Device.snapAdmit_closed hP | with_reducible apply Device.retireRun_closed hP | with_reducible apply Device.captureBegin_closed hP | with_reducible refine snd_of_eq (by assumption) ?_ | (with_reducible apply hP.lit <;> first | with_reducible assumption | exact id | exact fun _ => rfl | with_reducible exact fun _ hx => hx | with_reducible apply Device.snapAdmit_closed hP | with_reducible apply Device.retireRun_closed hP | with_reducible apply Device.captureBegin_closed hP | with_reducible refine snd_of_eq (by assumption) ?_ | split) | split | intro _ | dsimp only)

theorem snapshotCaptureStart_closed {n : Nat} {d : Device} (hPd : P d) : P (snapshotCaptureStart n d) := by
  unfold snapshotCaptureStart
  (try dsimp only)
  repeat' (first | with_reducible assumption | with_reducible exact fun _ hx => hx | with_reducible apply Device.captureBegin_closed hP | (with_reducible apply hP.lit <;> first | with_reducible assumption | exact id | exact fun _ => rfl | with_reducible exact fun _ hx => hx | with_reducible apply Device.captureBegin_closed hP | split) | split | intro _ | dsimp only)

theorem snapshotCaptureEnd_closed {n : Nat} {samples : List Word} {d : Device} (hPd : P d) : P (snapshotCaptureEnd n samples d) := by
  unfold snapshotCaptureEnd
  (try dsimp only)
  repeat' (first | with_reducible assumption | with_reducible exact fun _ hx => hx | with_reducible apply Closed.forAll | with_reducible apply Device.snapshotDone_closed hP | with_reducible apply Device.holdAsk_closed hP | with_reducible apply hP.put | with_reducible apply hP.sramBytes | with_reducible apply hP.optBytes | (with_reducible apply hP.lit <;> first | with_reducible assumption | exact id | exact fun _ => rfl | with_reducible exact fun _ hx => hx | with_reducible apply Closed.forAll | with_reducible apply Device.snapshotDone_closed hP | with_reducible apply Device.holdAsk_closed hP | with_reducible apply hP.put | with_reducible apply hP.sramBytes | with_reducible apply hP.optBytes | split) | split | intro _ | dsimp only)

theorem noiseMeasureEnd_closed {n : Nat} {a : BitVec 16} {b : BitVec 16} {levels : List (BitVec 16)} {d : Device} (hPd : P d) : P (noiseMeasureEnd n a b levels d) := by
  unfold noiseMeasureEnd
  (try dsimp only)
  repeat' (first | with_reducible assumption | with_reducible exact fun _ hx => hx | with_reducible apply Device.modSes_closed hP | with_reducible apply Device.sesDone_closed hP | with_reducible apply Device.postMsg_closed hP | (with_reducible apply hP.lit <;> first | with_reducible assumption | exact id | exact fun _ => rfl | with_reducible exact fun _ hx => hx | with_reducible apply Device.modSes_closed hP | with_reducible apply Device.sesDone_closed hP | with_reducible apply Device.postMsg_closed hP | split) | split | intro _ | dsimp only)

theorem Device.accessBegin_closed {d : Device} {n : Nat} {x : Desc} (hPd : P d) : P (Device.accessBegin d n x) := by
  unfold Device.accessBegin
  (try dsimp only)
  repeat' (first | with_reducible assumption | with_reducible exact fun _ hx => hx | with_reducible apply Device.sesGo_closed hP | with_reducible apply Device.retireRun_closed hP | with_reducible apply Device.holdAsk_closed hP | with_reducible apply Device.modSes_closed hP | with_reducible apply Device.planStep_closed hP | (with_reducible apply hP.lit <;> first | with_reducible assumption | exact id | exact fun _ => rfl | with_reducible exact fun _ hx => hx | with_reducible apply Device.sesGo_closed hP | with_reducible apply Device.retireRun_closed hP | with_reducible apply Device.holdAsk_closed hP | with_reducible apply Device.modSes_closed hP | with_reducible apply Device.planStep_closed hP | split) | split | intro _ | dsimp only)

theorem Device.inventoryBegin_closed {d : Device} {n : Nat} (hPd : P d) : P (Device.inventoryBegin d n) := by
  unfold Device.inventoryBegin
  (try dsimp only)
  repeat' (first | with_reducible assumption | with_reducible exact fun _ hx => hx | with_reducible apply Device.sesGo_closed hP | with_reducible apply Device.modSes_closed hP | with_reducible apply hP.put | (with_reducible apply hP.lit <;> first | with_reducible assumption | exact id | exact fun _ => rfl | with_reducible exact fun _ hx => hx | with_reducible apply Device.sesGo_closed hP | with_reducible apply Device.modSes_closed hP | with_reducible apply hP.put | split) | split | intro _ | dsimp only)

theorem Device.begin_closed {d : Device} {n : Nat} {x : Desc} (hPd : P d) : P (Device.begin_ d n x) := by
  unfold Device.begin_
  (try dsimp only)
  repeat' (first | with_reducible assumption | with_reducible exact fun _ hx => hx | with_reducible apply Device.modSes_closed hP | with_reducible apply Device.inventoryBegin_closed hP | with_reducible apply Device.accessBegin_closed hP | with_reducible apply Device.beamTx_closed hP | with_reducible apply Device.beamRx_closed hP | with_reducible apply Device.sesGo_closed hP | with_reducible apply Device.surveyStart_closed hP | with_reducible apply Device.snapStart_closed hP | (with_reducible apply hP.lit <;> first | with_reducible assumption | exact id | exact fun _ => rfl | with_reducible exact fun _ hx => hx | with_reducible apply Device.modSes_closed hP | with_reducible apply Device.inventoryBegin_closed hP | with_reducible apply Device.accessBegin_closed hP | with_reducible apply Device.beamTx_closed hP | with_reducible apply Device.beamRx_closed hP | with_reducible apply Device.sesGo_closed hP | with_reducible apply Device.surveyStart_closed hP | with_reducible apply Device.snapStart_closed hP | split) | split | intro _ | dsimp only)

theorem descriptorStart_closed {n : Nat} {d : Device} (hPd : P d) : P (descriptorStart n d) := by
  unfold descriptorStart
  (try dsimp only)
  repeat' (first | with_reducible assumption | with_reducible exact fun _ hx => hx | with_reducible apply Device.modSes_closed hP | with_reducible apply Device.endRound_closed hP | with_reducible apply Device.begin_closed hP | (with_reducible apply hP.lit <;> first | with_reducible assumption | exact id | exact fun _ => rfl | with_reducible exact fun _ hx => hx | with_reducible apply Device.modSes_closed hP | with_reducible apply Device.endRound_closed hP | with_reducible apply Device.begin_closed hP | split) | split | intro _ | dsimp only)

theorem startOp_closed {op : Nat} {n : Nat} {d : Device} (hPd : P d) : P (startOp op n d) := by
  unfold startOp
  (try dsimp only)
  repeat' (first | with_reducible assumption | with_reducible exact fun _ hx => hx | with_reducible apply descriptorStart_closed hP | (with_reducible apply hP.lit <;> first | with_reducible assumption | exact id | exact fun _ => rfl | with_reducible exact fun _ hx => hx | with_reducible apply descriptorStart_closed hP | split) | split | intro _ | dsimp only)

theorem Device.stopTaken_closed {d : Device} {n : Nat} {x : Desc} (hPd : P d) : P (Device.stopTaken d n x) := by
  unfold Device.stopTaken
  (try dsimp only)
  repeat' (first | with_reducible assumption | with_reducible exact fun _ hx => hx | with_reducible apply Closed.forAll | with_reducible apply Device.modSes_closed hP | with_reducible apply Device.retire_closed hP | with_reducible apply Device.holdAsk_closed hP | with_reducible apply Device.notice_closed hP | (with_reducible apply hP.lit <;> first | with_reducible assumption | exact id | exact fun _ => rfl | with_reducible exact fun _ hx => hx | with_reducible apply Closed.forAll | with_reducible apply Device.modSes_closed hP | with_reducible apply Device.retire_closed hP | with_reducible apply Device.holdAsk_closed hP | with_reducible apply Device.notice_closed hP | split) | split | intro _ | dsimp only)

theorem Device.fenceTaken_closed {d : Device} {n : Nat} {x : Desc} (hPd : P d) : P (Device.fenceTaken d n x) := by
  unfold Device.fenceTaken
  (try dsimp only)
  repeat' (first | with_reducible assumption | with_reducible exact fun _ hx => hx | with_reducible apply Device.fenceCheck_closed hP | with_reducible apply Device.showFlight_closed hP | with_reducible apply Device.modSes_closed hP | with_reducible apply Device.notice_closed hP | (with_reducible apply hP.lit <;> first | with_reducible assumption | exact id | exact fun _ => rfl | with_reducible exact fun _ hx => hx | with_reducible apply Device.fenceCheck_closed hP | with_reducible apply Device.showFlight_closed hP | with_reducible apply Device.modSes_closed hP | with_reducible apply Device.notice_closed hP | split) | split | intro _ | dsimp only)

theorem Device.selectTaken_closed {d : Device} {n : Nat} {x : Desc} (hPd : P d) : P (Device.selectTaken d n x) := by
  unfold Device.selectTaken
  (try dsimp only)
  repeat' (first | with_reducible assumption | with_reducible exact fun _ hx => hx | with_reducible apply Device.notice_closed hP | with_reducible apply Device.modSes_closed hP | (with_reducible apply hP.lit <;> first | with_reducible assumption | exact id | exact fun _ => rfl | with_reducible exact fun _ hx => hx | with_reducible apply Device.notice_closed hP | with_reducible apply Device.modSes_closed hP | split) | split | intro _ | dsimp only)

theorem Device.headCheck_closed {d : Device} {n : Nat} {find : DescFind} (hPd : P d) : P (Device.headCheck d n find).2 := by
  unfold Device.headCheck
  (try dsimp only)
  repeat' (first | with_reducible assumption | with_reducible exact fun _ hx => hx | with_reducible apply Closed.forAll | with_reducible apply Device.eccCorrected_closed hP | with_reducible apply Device.ringWordLost_closed hP | (with_reducible apply hP.lit <;> first | with_reducible assumption | exact id | exact fun _ => rfl | with_reducible exact fun _ hx => hx | with_reducible apply Closed.forAll | with_reducible apply Device.eccCorrected_closed hP | with_reducible apply Device.ringWordLost_closed hP | split) | split | intro _ | dsimp only)

theorem descriptorTake_closed {n : Nat} {find : DescFind} {d : Device} (hPd : P d) : P (descriptorTake n find d) := by
  unfold descriptorTake
  (try dsimp only)
  repeat' (first | with_reducible assumption | with_reducible exact fun _ hx => hx | with_reducible apply Device.headCheck_closed hP | with_reducible apply hP.wr | with_reducible apply hP.put | with_reducible apply Device.retire_closed hP | with_reducible apply Closed.when | with_reducible apply Device.idleRestart_closed hP | with_reducible apply Device.stopTaken_closed hP | with_reducible apply Device.fenceTaken_closed hP | with_reducible apply Device.selectTaken_closed hP | with_reducible apply Device.showFlight_closed hP | with_reducible apply Device.modSes_closed hP | with_reducible refine snd_of_eq (by assumption) ?_ | (with_reducible apply hP.lit <;> first | with_reducible assumption | exact id | exact fun _ => rfl | with_reducible exact fun _ hx => hx | with_reducible apply Device.headCheck_closed hP | with_reducible apply hP.wr | with_reducible apply hP.put | with_reducible apply Device.retire_closed hP | with_reducible apply Closed.when | with_reducible apply Device.idleRestart_closed hP | with_reducible apply Device.stopTaken_closed hP | with_reducible apply Device.fenceTaken_closed hP | with_reducible apply Device.selectTaken_closed hP | with_reducible apply Device.showFlight_closed hP | with_reducible apply Device.modSes_closed hP | with_reducible refine snd_of_eq (by assumption) ?_ | split) | split | intro _ | dsimp only)

theorem takeOp_closed {op : Nat} {n : Nat} {find : DescFind} {d : Device} (hPd : P d) : P (takeOp op n find d) := by
  unfold takeOp
  (try dsimp only)
  repeat' (first | with_reducible assumption | with_reducible exact fun _ hx => hx | with_reducible apply descriptorTake_closed hP | (with_reducible apply hP.lit <;> first | with_reducible assumption | exact id | exact fun _ => rfl | with_reducible exact fun _ hx => hx | with_reducible apply descriptorTake_closed hP | split) | split | intro _ | dsimp only)

end Sys2Proof.Machine
end

