-- ==== Sys2Proof/Laws/ClosedResets.lean ====
section
/-!
SUPPORT. Each operation of Machine/Reset.lean, Machine/Startup.lean, Machine/Sleep.lean, Machine/Watch.lean, Machine/Interrupts.lean, Machine/Reads.lean keeps every closed property of the device.
-/
set_option linter.unusedTactic false
set_option linter.unreachableTactic false
set_option linter.unusedSectionVars false
set_option linter.unusedVariables false
namespace Sys2Proof.Machine

variable {P : Device → Prop} (hP : Closed P)
include hP

/-! ### Reset -/

theorem Device.freeBytes_closed {d : Device} {y1 : Nat} (hPd : P d) : P (Device.freeBytes d y1).2 := by
  induction y1 generalizing d with
  | zero => exact hPd
  | succ n ih =>
    unfold Device.freeBytes
    (try dsimp only)
    repeat' (first | with_reducible assumption | with_reducible exact fun _ hx => hx | with_reducible apply ih | with_reducible apply Device.takeFree_closed hP | with_reducible refine snd_of_eq (by assumption) ?_ | (with_reducible apply hP.lit <;> first | with_reducible assumption | exact id | exact fun _ => rfl | with_reducible exact fun _ hx => hx | with_reducible apply Device.takeFree_closed hP | with_reducible refine snd_of_eq (by assumption) ?_ | split) | split | intro _ | dsimp only)

theorem Device.optCut_closed {d : Device} (hPd : P d) : P (Device.optCut d) := by
  unfold Device.optCut
  (try dsimp only)
  repeat' (first | with_reducible assumption | with_reducible exact fun _ hx => hx | with_reducible apply Device.freeBytes_closed hP | with_reducible apply Device.optPut_closed hP | with_reducible apply Device.takeFree_closed hP | with_reducible apply Closed.forAll | with_reducible refine snd_of_eq (by assumption) ?_ | (with_reducible apply hP.lit <;> first | with_reducible assumption | exact id | exact fun _ => rfl | with_reducible exact fun _ hx => hx | with_reducible apply Device.freeBytes_closed hP | with_reducible apply Device.optPut_closed hP | with_reducible apply Device.takeFree_closed hP | with_reducible apply Closed.forAll | with_reducible refine snd_of_eq (by assumption) ?_ | split) | split | intro _ | dsimp only)

theorem Device.keeping_closed {d : Device} {keep : Nat → Bool} (hPd : P d) : P (Device.keeping d keep) :=
  hP.other _ _ (hP.sramNone _ (hP.mirrorNone _ (hP.clearRegs d (fun a => !keep a) hPd))) rfl rfl rfl rfl (fun _ => rfl) (fun _ => rfl)

theorem Device.secAgain_closed {d : Device} {old : Device} (hPd : P d) : P (Device.secAgain d old) := by
  unfold Device.secAgain
  (try dsimp only)
  repeat' (first | with_reducible assumption | with_reducible exact fun _ hx => hx | with_reducible apply Device.secShow_closed hP | with_reducible apply hP.put | with_reducible apply hP.wr | (with_reducible apply hP.lit <;> first | with_reducible assumption | exact id | exact fun _ => rfl | with_reducible exact fun _ hx => hx | with_reducible apply Device.secShow_closed hP | with_reducible apply hP.put | with_reducible apply hP.wr | split) | split | intro _ | dsimp only)

theorem Device.pinsAgain_closed {d : Device} {old : Device} (hPd : P d) : P (Device.pinsAgain d old) := by
  unfold Device.pinsAgain
  (try dsimp only)
  repeat' (first | with_reducible assumption | with_reducible exact fun _ hx => hx | with_reducible apply hP.wr | (with_reducible apply hP.lit <;> first | with_reducible assumption | exact id | exact fun _ => rfl | with_reducible exact fun _ hx => hx | with_reducible apply hP.wr | split) | split | intro _ | dsimp only)

theorem Device.wdogLoad_closed {d : Device} (hPd : P d) : P (Device.wdogLoad d) := by
  unfold Device.wdogLoad
  (try dsimp only)
  repeat' (first | with_reducible assumption | with_reducible exact fun _ hx => hx | with_reducible apply hP.wr | (with_reducible apply hP.lit <;> first | with_reducible assumption | exact id | exact fun _ => rfl | with_reducible exact fun _ hx => hx | with_reducible apply hP.wr | split) | split | intro _ | dsimp only)

theorem Device.mirrorAll_closed {d : Device} (hPd : P d) : P (Device.mirrorAll d) := by
  unfold Device.mirrorAll
  (try dsimp only)
  repeat' (first | with_reducible assumption | with_reducible exact fun _ hx => hx | with_reducible apply hP.mirrorAll | (with_reducible apply hP.lit <;> first | with_reducible assumption | exact id | exact fun _ => rfl | with_reducible exact fun _ hx => hx | with_reducible apply hP.mirrorAll | split) | split | intro _ | dsimp only)

theorem Device.fullReset_closed {d : Device} (hPd : P d) : P (Device.fullReset d) := by
  unfold Device.fullReset
  (try dsimp only)
  repeat' (first | with_reducible assumption | with_reducible exact fun _ hx => hx | with_reducible apply Device.optCut_closed hP | with_reducible apply hP.wr | with_reducible apply Device.keeping_closed hP | with_reducible apply Device.wdogLoad_closed hP | with_reducible apply Device.mirrorAll_closed hP | with_reducible apply Device.pinsAgain_closed hP | with_reducible apply Device.secAgain_closed hP | (with_reducible apply hP.lit <;> first | with_reducible assumption | exact id | exact fun _ => rfl | with_reducible exact fun _ hx => hx | with_reducible apply Device.optCut_closed hP | with_reducible apply hP.wr | with_reducible apply Device.keeping_closed hP | with_reducible apply Device.wdogLoad_closed hP | with_reducible apply Device.mirrorAll_closed hP | with_reducible apply Device.pinsAgain_closed hP | with_reducible apply Device.secAgain_closed hP | split) | split | intro _ | dsimp only)

theorem Device.aonReset_closed {d : Device} (hPd : P d) : P (Device.aonReset d) := by
  unfold Device.aonReset
  (try dsimp only)
  repeat' (first | with_reducible assumption | with_reducible exact fun _ hx => hx | with_reducible apply Device.optCut_closed hP | with_reducible apply Device.keeping_closed hP | with_reducible apply hP.wr | with_reducible apply Device.mirrorAll_closed hP | with_reducible apply Device.pinsAgain_closed hP | with_reducible apply Device.secAgain_closed hP | with_reducible apply Device.wdogLoad_closed hP | (with_reducible apply hP.lit <;> first | with_reducible assumption | exact id | exact fun _ => rfl | with_reducible exact fun _ hx => hx | with_reducible apply Device.optCut_closed hP | with_reducible apply Device.keeping_closed hP | with_reducible apply hP.wr | with_reducible apply Device.mirrorAll_closed hP | with_reducible apply Device.pinsAgain_closed hP | with_reducible apply Device.secAgain_closed hP | with_reducible apply Device.wdogLoad_closed hP | split) | split | intro _ | dsimp only)

theorem Device.initBanks_closed {d : Device} {keep : Nat → Bool} (hPd : P d) : P (Device.initBanks d keep) :=
  hP.other _ _ (hP.sramClear d (fun a => !keep ((a - 0x0200000) / 0x100000)) hPd) rfl rfl rfl rfl id id

theorem Device.repairsAgain_closed {d : Device} {old : Device} (hPd : P d) : P (Device.repairsAgain d old) := by
  unfold Device.repairsAgain
  (try dsimp only)
  repeat' (first | with_reducible assumption | with_reducible exact fun _ hx => hx | with_reducible apply Closed.forAll | with_reducible apply hP.put | with_reducible apply Closed.when | with_reducible apply Device.showSpares_closed hP | with_reducible apply Device.dropPath_closed hP | with_reducible apply Device.setDead_closed hP | with_reducible apply Device.pilGo_closed hP | with_reducible apply Device.showRowsMin_closed hP | (with_reducible apply hP.lit <;> first | with_reducible assumption | exact id | exact fun _ => rfl | with_reducible exact fun _ hx => hx | with_reducible apply Closed.forAll | with_reducible apply hP.put | with_reducible apply Closed.when | with_reducible apply Device.showSpares_closed hP | with_reducible apply Device.dropPath_closed hP | with_reducible apply Device.setDead_closed hP | with_reducible apply Device.pilGo_closed hP | with_reducible apply Device.showRowsMin_closed hP | split) | split | intro _ | dsimp only)

theorem Device.coreKept_closed {d : Device} {old : Device} (hPd : P d) (hPo : P old) : P (Device.coreKept d old) := by
  have h := hP.sramFrom d old hPd hPo
  unfold Device.coreKept
  exact hP.other _ _ h rfl rfl rfl rfl (fun _ => rfl) (fun _ => rfl)

theorem Device.coreReset_closed {d : Device} (hPd : P d) : P (Device.coreReset d) := by
  unfold Device.coreReset
  (try dsimp only)
  repeat' (first | with_reducible assumption | with_reducible exact fun _ hx => hx | with_reducible apply Device.optCut_closed hP | with_reducible apply Device.keeping_closed hP | with_reducible apply Device.coreKept_closed hP | with_reducible apply hP.put | with_reducible apply hP.putB | with_reducible apply Device.wdogLoad_closed hP | with_reducible apply hP.wr | with_reducible apply Device.mirrorAll_closed hP | with_reducible apply Device.pinsAgain_closed hP | with_reducible apply Device.secAgain_closed hP | with_reducible apply Device.showProfile_closed hP | with_reducible apply Device.repairsAgain_closed hP | with_reducible apply Device.optCut_closed hP | (with_reducible apply hP.lit <;> first | with_reducible assumption | exact id | exact fun _ => rfl | with_reducible exact fun _ hx => hx | with_reducible apply Device.optCut_closed hP | with_reducible apply Device.keeping_closed hP | with_reducible apply Device.coreKept_closed hP | with_reducible apply hP.put | with_reducible apply hP.putB | with_reducible apply Device.wdogLoad_closed hP | with_reducible apply hP.wr | with_reducible apply Device.mirrorAll_closed hP | with_reducible apply Device.pinsAgain_closed hP | with_reducible apply Device.secAgain_closed hP | with_reducible apply Device.showProfile_closed hP | with_reducible apply Device.repairsAgain_closed hP | with_reducible apply Device.optCut_closed hP | split) | split | intro _ | dsimp only)

theorem Device.layDown_closed {d : Device} (hPd : P d) : P (Device.layDown d) := by
  unfold Device.layDown
  (try dsimp only)
  repeat' (first | with_reducible assumption | with_reducible exact fun _ hx => hx | with_reducible apply hP.put | with_reducible apply Device.resetIrqWords_closed hP | with_reducible apply Device.resetBlockWords_closed hP | (with_reducible apply hP.lit <;> first | with_reducible assumption | exact id | exact fun _ => rfl | with_reducible exact fun _ hx => hx | with_reducible apply hP.put | with_reducible apply Device.resetIrqWords_closed hP | with_reducible apply Device.resetBlockWords_closed hP | split) | split | intro _ | dsimp only)

theorem Device.assertReset_closed {d : Device} {src : ResetSource} (hPd : P d) : P (Device.assertReset d src) := by
  unfold Device.assertReset
  (try dsimp only)
  repeat' (first | with_reducible assumption | with_reducible exact fun _ hx => hx | with_reducible apply Device.aonReset_closed hP | with_reducible apply Device.fullReset_closed hP | with_reducible apply Device.coreReset_closed hP | with_reducible apply hP.wr | with_reducible apply Device.layDown_closed hP | (with_reducible apply hP.lit <;> first | with_reducible assumption | exact id | exact fun _ => rfl | with_reducible exact fun _ hx => hx | with_reducible apply Device.aonReset_closed hP | with_reducible apply Device.fullReset_closed hP | with_reducible apply Device.coreReset_closed hP | with_reducible apply hP.wr | with_reducible apply Device.layDown_closed hP | split) | split | intro _ | dsimp only)

theorem aonPowerOn_closed {d : Device} (hPd : P d) : P (aonPowerOn d) := by
  unfold aonPowerOn
  (try dsimp only)
  repeat' (first | with_reducible assumption | with_reducible exact fun _ hx => hx | with_reducible apply Device.assertReset_closed hP | (with_reducible apply hP.lit <;> first | with_reducible assumption | exact id | exact fun _ => rfl | with_reducible exact fun _ hx => hx | with_reducible apply Device.assertReset_closed hP | split) | split | intro _ | dsimp only)

theorem powerOnReset_closed {d : Device} (hPd : P d) : P (powerOnReset d) := by
  unfold powerOnReset
  (try dsimp only)
  repeat' (first | with_reducible assumption | with_reducible exact fun _ hx => hx | with_reducible apply Device.assertReset_closed hP | (with_reducible apply hP.lit <;> first | with_reducible assumption | exact id | exact fun _ => rfl | with_reducible exact fun _ hx => hx | with_reducible apply Device.assertReset_closed hP | split) | split | intro _ | dsimp only)

theorem rstPin_closed {d : Device} (hPd : P d) : P (rstPin d) := by
  unfold rstPin
  (try dsimp only)
  repeat' (first | with_reducible assumption | with_reducible exact fun _ hx => hx | with_reducible apply Device.assertReset_closed hP | (with_reducible apply hP.lit <;> first | with_reducible assumption | exact id | exact fun _ => rfl | with_reducible exact fun _ hx => hx | with_reducible apply Device.assertReset_closed hP | split) | split | intro _ | dsimp only)

theorem thermalShutdown_closed {d : Device} (hPd : P d) : P (thermalShutdown d) := by
  unfold thermalShutdown
  (try dsimp only)
  repeat' (first | with_reducible assumption | with_reducible exact fun _ hx => hx | with_reducible apply Device.assertReset_closed hP | (with_reducible apply hP.lit <;> first | with_reducible assumption | exact id | exact fun _ => rfl | with_reducible exact fun _ hx => hx | with_reducible apply Device.assertReset_closed hP | split) | split | intro _ | dsimp only)

theorem brownOut_closed {rails : BitVec 9} {d : Device} (hPd : P d) : P (brownOut rails d) := by
  unfold brownOut
  (try dsimp only)
  repeat' (first | with_reducible assumption | with_reducible exact fun _ hx => hx | with_reducible apply Device.assertReset_closed hP | with_reducible apply hP.put | (with_reducible apply hP.lit <;> first | with_reducible assumption | exact id | exact fun _ => rfl | with_reducible exact fun _ hx => hx | with_reducible apply Device.assertReset_closed hP | with_reducible apply hP.put | split) | split | intro _ | dsimp only)

theorem watchdogExpiry_closed {d : Device} (hPd : P d) : P (watchdogExpiry d) := by
  unfold watchdogExpiry
  (try dsimp only)
  repeat' (first | with_reducible assumption | with_reducible exact fun _ hx => hx | with_reducible apply Device.assertReset_closed hP | (with_reducible apply hP.lit <;> first | with_reducible assumption | exact id | exact fun _ => rfl | with_reducible exact fun _ hx => hx | with_reducible apply Device.assertReset_closed hP | split) | split | intro _ | dsimp only)

theorem watchdogWarn_closed {d : Device} (hPd : P d) : P (watchdogWarn d) := by
  unfold watchdogWarn
  (try dsimp only)
  repeat' (first | with_reducible assumption | with_reducible exact fun _ hx => hx | with_reducible apply Device.irq_closed hP | with_reducible apply hP.wr | (with_reducible apply hP.lit <;> first | with_reducible assumption | exact id | exact fun _ => rfl | with_reducible exact fun _ hx => hx | with_reducible apply Device.irq_closed hP | with_reducible apply hP.wr | split) | split | intro _ | dsimp only)

theorem resetFrame_closed {h : KlHead} {way : KlTo} {subtree : Bool} {d : Device} (hPd : P d) : P (resetFrame h way subtree d) := by
  unfold resetFrame
  (try dsimp only)
  repeat' (first | with_reducible assumption | with_reducible exact fun _ hx => hx | with_reducible apply Device.receive_closed hP | with_reducible apply Device.forward_closed hP | with_reducible apply Closed.when | with_reducible apply Device.assertReset_closed hP | (with_reducible apply hP.lit <;> first | with_reducible assumption | exact id | exact fun _ => rfl | with_reducible exact fun _ hx => hx | with_reducible apply Device.receive_closed hP | with_reducible apply Device.forward_closed hP | with_reducible apply Closed.when | with_reducible apply Device.assertReset_closed hP | split) | split | intro _ | dsimp only)

theorem Device.askRelease_closed {d : Device} {i : Nat} (hPd : P d) : P (Device.askRelease d i) := by
  unfold Device.askRelease
  (try dsimp only)
  repeat' (first | with_reducible assumption | with_reducible exact fun _ hx => hx | with_reducible apply Device.setIsland_closed hP | (with_reducible apply hP.lit <;> first | with_reducible assumption | exact id | exact fun _ => rfl | with_reducible exact fun _ hx => hx | with_reducible apply Device.setIsland_closed hP | split) | split | intro _ | dsimp only)

theorem Device.strapsApply_closed {d : Device} (hPd : P d) : P (Device.strapsApply d) := by
  unfold Device.strapsApply
  (try dsimp only)
  repeat' (first | with_reducible assumption | with_reducible exact fun _ hx => hx | with_reducible apply hP.put | with_reducible apply hP.putB | with_reducible apply hP.wr | with_reducible apply Closed.forAll | (with_reducible apply hP.lit <;> first | with_reducible assumption | exact id | exact fun _ => rfl | with_reducible exact fun _ hx => hx | with_reducible apply hP.put | with_reducible apply hP.putB | with_reducible apply hP.wr | with_reducible apply Closed.forAll | split) | split | intro _ | dsimp only)

theorem resetSourcesRelease_closed {d : Device} (hPd : P d) : P (resetSourcesRelease d) := by
  unfold resetSourcesRelease
  (try dsimp only)
  repeat' (first | with_reducible assumption | with_reducible exact fun _ hx => hx | with_reducible apply Closed.when | with_reducible apply hP.put | with_reducible apply hP.count | with_reducible apply Device.irq_closed hP | with_reducible apply Device.mirrorAll_closed hP | with_reducible apply Device.askRelease_closed hP | with_reducible apply Device.strapsApply_closed hP | (with_reducible apply hP.lit <;> first | with_reducible assumption | exact id | exact fun _ => rfl | with_reducible exact fun _ hx => hx | with_reducible apply Closed.when | with_reducible apply hP.put | with_reducible apply hP.count | with_reducible apply Device.irq_closed hP | with_reducible apply Device.mirrorAll_closed hP | with_reducible apply Device.askRelease_closed hP | with_reducible apply Device.strapsApply_closed hP | split) | split | intro _ | dsimp only)

theorem strapSampleDone_closed {codes : Vector (Fin 16) 8} {unstable : BitVec 8} {d : Device} (hPd : P d) : P (strapSampleDone codes unstable d) := by
  unfold strapSampleDone
  (try dsimp only)
  repeat' (first | with_reducible assumption | with_reducible exact fun _ hx => hx | with_reducible apply hP.put | with_reducible apply hP.wr | with_reducible apply hP.putB | with_reducible apply Device.mirrorAll_closed hP | with_reducible apply Device.strapsApply_closed hP | with_reducible apply Device.showRatio_closed hP | (with_reducible apply hP.lit <;> first | with_reducible assumption | exact id | exact fun _ => rfl | with_reducible exact fun _ hx => hx | with_reducible apply hP.put | with_reducible apply hP.wr | with_reducible apply hP.putB | with_reducible apply Device.mirrorAll_closed hP | with_reducible apply Device.strapsApply_closed hP | with_reducible apply Device.showRatio_closed hP | split) | split | intro _ | dsimp only)

theorem synthPLock_closed {d : Device} (hPd : P d) : P (synthPLock d) := by
  unfold synthPLock
  (try dsimp only)
  repeat' (first | with_reducible assumption | with_reducible exact fun _ hx => hx | with_reducible apply Device.irq_closed hP | with_reducible apply hP.put | with_reducible apply Device.askRelease_closed hP | (with_reducible apply hP.lit <;> first | with_reducible assumption | exact id | exact fun _ => rfl | with_reducible exact fun _ hx => hx | with_reducible apply Device.irq_closed hP | with_reducible apply hP.put | with_reducible apply Device.askRelease_closed hP | split) | split | intro _ | dsimp only)

theorem synthPLockLoss_closed {d : Device} (hPd : P d) : P (synthPLockLoss d) := by
  unfold synthPLockLoss
  (try dsimp only)
  repeat' (first | with_reducible assumption | with_reducible exact fun _ hx => hx | with_reducible apply hP.put | with_reducible apply Device.irq_closed hP | with_reducible apply hP.count | (with_reducible apply hP.lit <;> first | with_reducible assumption | exact id | exact fun _ => rfl | with_reducible exact fun _ hx => hx | with_reducible apply hP.put | with_reducible apply Device.irq_closed hP | with_reducible apply hP.count | split) | split | intro _ | dsimp only)

theorem synthSLockAcquire_closed {d : Device} (hPd : P d) : P (synthSLockAcquire d) := by
  unfold synthSLockAcquire
  (try dsimp only)
  repeat' (first | with_reducible assumption | with_reducible exact fun _ hx => hx | with_reducible apply hP.putS | with_reducible apply hP.put | with_reducible apply Device.synthContinue_closed hP | with_reducible apply Device.irq_closed hP | (with_reducible apply hP.lit <;> first | with_reducible assumption | exact id | exact fun _ => rfl | with_reducible exact fun _ hx => hx | with_reducible apply hP.putS | with_reducible apply hP.put | with_reducible apply Device.synthContinue_closed hP | with_reducible apply Device.irq_closed hP | split) | split | intro _ | dsimp only)

theorem clockGoodChange_closed {i : Fin 5} {good : Bool} {d : Device} (hPd : P d) : P (clockGoodChange i good d) := by
  unfold clockGoodChange
  (try dsimp only)
  repeat' (first | with_reducible assumption | with_reducible exact fun _ hx => hx | with_reducible apply hP.putB | (with_reducible apply hP.lit <;> first | with_reducible assumption | exact id | exact fun _ => rfl | with_reducible exact fun _ hx => hx | with_reducible apply hP.putB | split) | split | intro _ | dsimp only)

theorem Device.followHostClock_closed {d : Device} (hPd : P d) : P (Device.followHostClock d) := by
  unfold Device.followHostClock
  (try dsimp only)
  repeat' (first | with_reducible assumption | with_reducible exact fun _ hx => hx | with_reducible apply hP.putB | (with_reducible apply hP.lit <;> first | with_reducible assumption | exact id | exact fun _ => rfl | with_reducible exact fun _ hx => hx | with_reducible apply hP.putB | split) | split | intro _ | dsimp only)

theorem Device.bridgeTo_closed {d : Device} {b : Nat} {e : Int} (hPd : P d) : P (Device.bridgeTo d b e) := by
  unfold Device.bridgeTo
  (try dsimp only)
  repeat' (first | with_reducible assumption | with_reducible exact fun _ hx => hx | with_reducible apply hP.putB | with_reducible apply Device.setTide_closed hP | with_reducible apply hP.wr | with_reducible apply hP.put | (with_reducible apply hP.lit <;> first | with_reducible assumption | exact id | exact fun _ => rfl | with_reducible exact fun _ hx => hx | with_reducible apply hP.putB | with_reducible apply Device.setTide_closed hP | with_reducible apply hP.wr | with_reducible apply hP.put | split) | split | intro _ | dsimp only)

theorem Device.bridge_closed {d : Device} {n : Nat} (hPd : P d) : P (Device.bridge d n) := by
  unfold Device.bridge
  (try dsimp only)
  repeat' (first | with_reducible assumption | with_reducible exact fun _ hx => hx | with_reducible apply Device.divOpen_closed hP | with_reducible apply Device.divNearest_closed hP | with_reducible apply Device.bridgeTo_closed hP | with_reducible refine snd_of_eq (by assumption) ?_ | (with_reducible apply hP.lit <;> first | with_reducible assumption | exact id | exact fun _ => rfl | with_reducible exact fun _ hx => hx | with_reducible apply Device.divOpen_closed hP | with_reducible apply Device.divNearest_closed hP | with_reducible apply Device.bridgeTo_closed hP | with_reducible refine snd_of_eq (by assumption) ?_ | split) | split | intro _ | dsimp only)

theorem Device.lanesStart_closed {d : Device} (hPd : P d) : P (Device.lanesStart d) := by
  unfold Device.lanesStart
  (try dsimp only)
  repeat' (first | with_reducible assumption | with_reducible exact fun _ hx => hx | with_reducible apply Closed.forAll | with_reducible apply Closed.when | with_reducible apply Device.laneEnable_closed hP | (with_reducible apply hP.lit <;> first | with_reducible assumption | exact id | exact fun _ => rfl | with_reducible exact fun _ hx => hx | with_reducible apply Closed.forAll | with_reducible apply Closed.when | with_reducible apply Device.laneEnable_closed hP | split) | split | intro _ | dsimp only)

theorem Device.wakeRelease_closed {d : Device} {i : Nat} {n : Nat} (hPd : P d) : P (Device.wakeRelease d i n) := by
  unfold Device.wakeRelease
  (try dsimp only)
  repeat' (first | with_reducible assumption | with_reducible exact fun _ hx => hx | with_reducible apply Device.lanesStart_closed hP | with_reducible apply Device.portsStart_closed hP | with_reducible apply Device.bridge_closed hP | (with_reducible apply hP.lit <;> first | with_reducible assumption | exact id | exact fun _ => rfl | with_reducible exact fun _ hx => hx | with_reducible apply Device.lanesStart_closed hP | with_reducible apply Device.portsStart_closed hP | with_reducible apply Device.bridge_closed hP | split) | split | intro _ | dsimp only)

theorem Device.releaseIsland_closed {d : Device} {i : Nat} {n : Nat} (hPd : P d) : P (Device.releaseIsland d i n) := by
  unfold Device.releaseIsland
  (try dsimp only)
  repeat' (first | with_reducible assumption | with_reducible exact fun _ hx => hx | with_reducible apply Device.setIsland_closed hP | with_reducible apply Device.wakeRelease_closed hP | with_reducible apply Device.setTide_closed hP | (with_reducible apply hP.lit <;> first | with_reducible assumption | exact id | exact fun _ => rfl | with_reducible exact fun _ hx => hx | with_reducible apply Device.setIsland_closed hP | with_reducible apply Device.wakeRelease_closed hP | with_reducible apply Device.setTide_closed hP | split) | split | intro _ | dsimp only)

/-! ### Startup -/

theorem Device.pinEntry_closed {d : Device} {k : Nat} (hPd : P d) : P (Device.pinEntry d k) := by
  unfold Device.pinEntry
  (try dsimp only)
  repeat' (first | with_reducible assumption | with_reducible exact fun _ hx => hx | with_reducible apply hP.addSat | (with_reducible apply hP.lit <;> first | with_reducible assumption | exact id | exact fun _ => rfl | with_reducible exact fun _ hx => hx | with_reducible apply hP.addSat | split) | split | intro _ | dsimp only)

theorem Device.rtcLoad_closed {d : Device} (hPd : P d) : P (Device.rtcLoad d) := by
  unfold Device.rtcLoad
  (try dsimp only)
  repeat' (first | with_reducible assumption | with_reducible exact fun _ hx => hx | with_reducible apply hP.put | with_reducible apply hP.putS | with_reducible apply hP.putB | (with_reducible apply hP.lit <;> first | with_reducible assumption | exact id | exact fun _ => rfl | with_reducible exact fun _ hx => hx | with_reducible apply hP.put | with_reducible apply hP.putS | with_reducible apply hP.putB | split) | split | intro _ | dsimp only)

theorem Device.optionRecords_closed {d : Device} (hPd : P d) : P (Device.optionRecords d) := by
  unfold Device.optionRecords
  (try dsimp only)
  repeat' (first | with_reducible assumption | with_reducible exact fun _ hx => hx | with_reducible apply hP.wr | with_reducible apply Device.loadProfile_closed hP | with_reducible apply Device.applyMap_closed hP | with_reducible apply Closed.forAll | with_reducible apply Device.pinEntry_closed hP | with_reducible apply Device.rtcLoad_closed hP | with_reducible apply hP.putB | with_reducible apply hP.put | (with_reducible apply hP.lit <;> first | with_reducible assumption | exact id | exact fun _ => rfl | with_reducible exact fun _ hx => hx | with_reducible apply hP.wr | with_reducible apply Device.loadProfile_closed hP | with_reducible apply Device.applyMap_closed hP | with_reducible apply Closed.forAll | with_reducible apply Device.pinEntry_closed hP | with_reducible apply Device.rtcLoad_closed hP | with_reducible apply hP.putB | with_reducible apply hP.put | split) | split | intro _ | dsimp only)

theorem Device.bootBegin_closed {d : Device} (hPd : P d) : P (Device.bootBegin d) := by
  unfold Device.bootBegin
  (try dsimp only)
  repeat' (first | with_reducible assumption | with_reducible exact fun _ hx => hx | with_reducible apply hP.put | (with_reducible apply hP.lit <;> first | with_reducible assumption | exact id | exact fun _ => rfl | with_reducible exact fun _ hx => hx | with_reducible apply hP.put | split) | split | intro _ | dsimp only)

theorem optionLoadComplete_closed {d : Device} (hPd : P d) : P (optionLoadComplete d) := by
  unfold optionLoadComplete
  (try dsimp only)
  repeat' (first | with_reducible assumption | with_reducible exact fun _ hx => hx | with_reducible apply Device.optionRecords_closed hP | with_reducible apply Device.initBanks_closed hP | with_reducible apply Closed.when | with_reducible apply Device.manCountTo_closed hP | with_reducible apply Device.bootBegin_closed hP | with_reducible apply Device.lanesStart_closed hP | with_reducible apply Device.portsStart_closed hP | with_reducible apply Device.askRelease_closed hP | with_reducible apply Device.mirrorAll_closed hP | with_reducible apply Device.censusStart_closed hP | (with_reducible apply hP.lit <;> first | with_reducible assumption | exact id | exact fun _ => rfl | with_reducible exact fun _ hx => hx | with_reducible apply Device.optionRecords_closed hP | with_reducible apply Device.initBanks_closed hP | with_reducible apply Closed.when | with_reducible apply Device.manCountTo_closed hP | with_reducible apply Device.bootBegin_closed hP | with_reducible apply Device.lanesStart_closed hP | with_reducible apply Device.portsStart_closed hP | with_reducible apply Device.askRelease_closed hP | with_reducible apply Device.mirrorAll_closed hP | with_reducible apply Device.censusStart_closed hP | split) | split | intro _ | dsimp only)

theorem Device.bootCheck_closed {d : Device} {b : List Byte} {slot : Nat} (hPd : P d) : P (Device.bootCheck d b slot).2 := by
  unfold Device.bootCheck
  (try dsimp only)
  repeat' (first | with_reducible assumption | with_reducible exact fun _ hx => hx | with_reducible apply Closed.forAll | with_reducible apply hP.put | with_reducible apply hP.wr | with_reducible apply Device.irq_closed hP | with_reducible apply hP.sramBytes | with_reducible apply hP.optBytes | (with_reducible apply hP.lit <;> first | with_reducible assumption | exact id | exact fun _ => rfl | with_reducible exact fun _ hx => hx | with_reducible apply Closed.forAll | with_reducible apply hP.put | with_reducible apply hP.wr | with_reducible apply Device.irq_closed hP | with_reducible apply hP.sramBytes | with_reducible apply hP.optBytes | split) | split | intro _ | dsimp only)

theorem Device.bootPilots_closed {d : Device} (hPd : P d) : P (Device.bootPilots d) := by
  unfold Device.bootPilots
  (try dsimp only)
  repeat' (first | with_reducible assumption | with_reducible exact fun _ hx => hx | with_reducible apply Closed.forAll | with_reducible apply hP.put | with_reducible apply Device.pilGo_closed hP | with_reducible apply Device.serve_closed hP | (with_reducible apply hP.lit <;> first | with_reducible assumption | exact id | exact fun _ => rfl | with_reducible exact fun _ hx => hx | with_reducible apply Closed.forAll | with_reducible apply hP.put | with_reducible apply Device.pilGo_closed hP | with_reducible apply Device.serve_closed hP | split) | split | intro _ | dsimp only)

theorem bootImageDone_closed {a : List Byte} {b : List Byte} {sfdp : SfdpResult} {d : Device} (hPd : P d) : P (bootImageDone a b sfdp d) := by
  unfold bootImageDone
  (try dsimp only)
  repeat' (first | with_reducible assumption | with_reducible exact fun _ hx => hx | with_reducible apply Device.sfdpSet_closed hP | with_reducible apply Device.bootCheck_closed hP | with_reducible apply Device.bootPilots_closed hP | with_reducible apply hP.put | with_reducible refine snd_of_eq (by assumption) ?_ | (with_reducible apply hP.lit <;> first | with_reducible assumption | exact id | exact fun _ => rfl | with_reducible exact fun _ hx => hx | with_reducible apply Device.sfdpSet_closed hP | with_reducible apply Device.bootCheck_closed hP | with_reducible apply Device.bootPilots_closed hP | with_reducible apply hP.put | with_reducible refine snd_of_eq (by assumption) ?_ | split) | split | intro _ | dsimp only)

theorem Device.optStart_closed {d : Device} {run : Nat} (hPd : P d) : P (Device.optStart d run) := by
  unfold Device.optStart
  (try dsimp only)
  repeat' (first | with_reducible assumption | with_reducible exact fun _ hx => hx | with_reducible apply hP.put | (with_reducible apply hP.lit <;> first | with_reducible assumption | exact id | exact fun _ => rfl | with_reducible exact fun _ hx => hx | with_reducible apply hP.put | split) | split | intro _ | dsimp only)

theorem Device.optEnd_closed {d : Device} {result : Nat} (hPd : P d) : P (Device.optEnd d result) := by
  unfold Device.optEnd
  (try dsimp only)
  repeat' (first | with_reducible assumption | with_reducible exact fun _ hx => hx | with_reducible apply hP.put | (with_reducible apply hP.lit <;> first | with_reducible assumption | exact id | exact fun _ => rfl | with_reducible exact fun _ hx => hx | with_reducible apply hP.put | split) | split | intro _ | dsimp only)

theorem optProgramDone_closed {ok : Bool} {d : Device} (hPd : P d) : P (optProgramDone ok d) := by
  unfold optProgramDone
  (try dsimp only)
  repeat' (first | with_reducible assumption | with_reducible exact fun _ hx => hx | with_reducible apply Device.optEnd_closed hP | with_reducible apply Device.optPut_closed hP | with_reducible apply Device.freeBytes_closed hP | with_reducible refine snd_of_eq (by assumption) ?_ | (with_reducible apply hP.lit <;> first | with_reducible assumption | exact id | exact fun _ => rfl | with_reducible exact fun _ hx => hx | with_reducible apply Device.optEnd_closed hP | with_reducible apply Device.optPut_closed hP | with_reducible apply Device.freeBytes_closed hP | with_reducible refine snd_of_eq (by assumption) ?_ | split) | split | intro _ | dsimp only)

theorem Device.optApply_closed {d : Device} (hPd : P d) : P (Device.optApply d) := by
  unfold Device.optApply
  (try dsimp only)
  repeat' (first | with_reducible assumption | with_reducible exact fun _ hx => hx | with_reducible apply Device.optStart_closed hP | with_reducible apply Device.optEnd_closed hP | (with_reducible apply hP.lit <;> first | with_reducible assumption | exact id | exact fun _ => rfl | with_reducible exact fun _ hx => hx | with_reducible apply Device.optStart_closed hP | with_reducible apply Device.optEnd_closed hP | split) | split | intro _ | dsimp only)

theorem optApplyDone_closed {fail : Option Nat} {d : Device} (hPd : P d) : P (optApplyDone fail d) := by
  unfold optApplyDone
  (try dsimp only)
  repeat' (first | with_reducible assumption | with_reducible exact fun _ hx => hx | with_reducible apply Device.optEnd_closed hP | with_reducible apply Closed.forAll | with_reducible apply Device.optPut_closed hP | with_reducible apply Device.freeBytes_closed hP | with_reducible refine snd_of_eq (by assumption) ?_ | (with_reducible apply hP.lit <;> first | with_reducible assumption | exact id | exact fun _ => rfl | with_reducible exact fun _ hx => hx | with_reducible apply Device.optEnd_closed hP | with_reducible apply Closed.forAll | with_reducible apply Device.optPut_closed hP | with_reducible apply Device.freeBytes_closed hP | with_reducible refine snd_of_eq (by assumption) ?_ | split) | split | intro _ | dsimp only)

theorem optDataRead_closed {d : Device} (hPd : P d) : P (optDataRead d) := by
  unfold optDataRead
  (try dsimp only)
  repeat' (first | with_reducible assumption | with_reducible exact fun _ hx => hx | with_reducible apply hP.wr | (with_reducible apply hP.lit <;> first | with_reducible assumption | exact id | exact fun _ => rfl | with_reducible exact fun _ hx => hx | with_reducible apply hP.wr | split) | split | intro _ | dsimp only)

theorem Device.stagingNext_closed {d : Device} (hPd : P d) : P (Device.stagingNext d) := by
  unfold Device.stagingNext
  (try dsimp only)
  repeat' (first | with_reducible assumption | with_reducible exact fun _ hx => hx | with_reducible apply hP.wr | (with_reducible apply hP.lit <;> first | with_reducible assumption | exact id | exact fun _ => rfl | with_reducible exact fun _ hx => hx | with_reducible apply hP.wr | split) | split | intro _ | dsimp only)

theorem Device.optImgRead_closed {d : Device} (hPd : P d) : P (Device.optImgRead d) := by
  unfold Device.optImgRead
  (try dsimp only)
  repeat' (first | with_reducible assumption | with_reducible exact fun _ hx => hx | with_reducible apply Device.stagingNext_closed hP | (with_reducible apply hP.lit <;> first | with_reducible assumption | exact id | exact fun _ => rfl | with_reducible exact fun _ hx => hx | with_reducible apply Device.stagingNext_closed hP | split) | split | intro _ | dsimp only)

theorem Device.optImgWrite_closed {d : Device} {v : Word} (hPd : P d) : P (Device.optImgWrite d v) := by
  unfold Device.optImgWrite
  (try dsimp only)
  repeat' (first | with_reducible assumption | with_reducible exact fun _ hx => hx | with_reducible apply Device.stagingNext_closed hP | with_reducible apply hP.sramBytes | with_reducible apply hP.optBytes | (with_reducible apply hP.lit <;> first | with_reducible assumption | exact id | exact fun _ => rfl | with_reducible exact fun _ hx => hx | with_reducible apply Device.stagingNext_closed hP | with_reducible apply hP.sramBytes | with_reducible apply hP.optBytes | split) | split | intro _ | dsimp only)

theorem optWritten_closed {off : Nat} {v : Word} {d : Device} (hPd : P d) : P (optWritten off v d) := by
  unfold optWritten
  (try dsimp only)
  repeat' (first | with_reducible assumption | with_reducible exact fun _ hx => hx | with_reducible apply Device.optStart_closed hP | with_reducible apply Device.optApply_closed hP | with_reducible apply Device.optImgWrite_closed hP | with_reducible apply hP.wr | (with_reducible apply hP.lit <;> first | with_reducible assumption | exact id | exact fun _ => rfl | with_reducible exact fun _ hx => hx | with_reducible apply Device.optStart_closed hP | with_reducible apply Device.optApply_closed hP | with_reducible apply Device.optImgWrite_closed hP | with_reducible apply hP.wr | split) | split | intro _ | dsimp only)

theorem rstWritten_closed {off : Nat} {old : Device} {d : Device} (hPd : P d) : P (rstWritten off old d) := by
  unfold rstWritten
  (try dsimp only)
  repeat' (first | with_reducible assumption | with_reducible exact fun _ hx => hx | with_reducible apply Closed.when | with_reducible apply hP.put | with_reducible apply Device.wdogLoad_closed hP | (with_reducible apply hP.lit <;> first | with_reducible assumption | exact id | exact fun _ => rfl | with_reducible exact fun _ hx => hx | with_reducible apply Closed.when | with_reducible apply hP.put | with_reducible apply Device.wdogLoad_closed hP | split) | split | intro _ | dsimp only)

theorem sysWritten_closed {v : Word} {d : Device} (hPd : P d) : P (sysWritten v d) := by
  unfold sysWritten
  (try dsimp only)
  repeat' (first | with_reducible assumption | with_reducible exact fun _ hx => hx | with_reducible apply hP.wr | with_reducible apply Device.assertReset_closed hP | (with_reducible apply hP.lit <;> first | with_reducible assumption | exact id | exact fun _ => rfl | with_reducible exact fun _ hx => hx | with_reducible apply hP.wr | with_reducible apply Device.assertReset_closed hP | split) | split | intro _ | dsimp only)

theorem rstoutNHigh_closed {d : Device} (hPd : P d) : P (rstoutNHigh d) := by
  unfold rstoutNHigh
  (try dsimp only)
  repeat' (first | with_reducible assumption | with_reducible exact fun _ hx => hx | (with_reducible apply hP.lit <;> first | with_reducible assumption | exact id | exact fun _ => rfl | with_reducible exact fun _ hx => hx | split) | split | intro _ | dsimp only)

theorem Device.releaseBlock_closed {d : Device} {p : Nat} (hPd : P d) : P (Device.releaseBlock d p) := by
  unfold Device.releaseBlock
  (try dsimp only)
  repeat' (first | with_reducible assumption | with_reducible exact fun _ hx => hx | with_reducible apply hP.put | (with_reducible apply hP.lit <;> first | with_reducible assumption | exact id | exact fun _ => rfl | with_reducible exact fun _ hx => hx | with_reducible apply hP.put | split) | split | intro _ | dsimp only)

/-! ### Sleep -/

theorem Device.lanesStop_closed {d : Device} (hPd : P d) : P (Device.lanesStop d) := by
  unfold Device.lanesStop
  (try dsimp only)
  repeat' (first | with_reducible assumption | with_reducible exact fun _ hx => hx | with_reducible apply Device.linkFresh_closed hP | with_reducible apply Closed.forAll | with_reducible apply Device.streamEnd_closed hP | with_reducible apply Device.laneGo_closed hP | with_reducible apply Device.vacate_closed hP | with_reducible apply hP.put | with_reducible apply Device.modPl_closed hP | (with_reducible apply hP.lit <;> first | with_reducible assumption | exact id | exact fun _ => rfl | with_reducible exact fun _ hx => hx | with_reducible apply Device.linkFresh_closed hP | with_reducible apply Closed.forAll | with_reducible apply Device.streamEnd_closed hP | with_reducible apply Device.laneGo_closed hP | with_reducible apply Device.vacate_closed hP | with_reducible apply hP.put | with_reducible apply Device.modPl_closed hP | split) | split | intro _ | dsimp only)

theorem prepareDone_closed {d : Device} (hPd : P d) : P (prepareDone d) := by
  unfold prepareDone
  (try dsimp only)
  repeat' (first | with_reducible assumption | with_reducible exact fun _ hx => hx | with_reducible apply Device.lanesStop_closed hP | with_reducible apply Device.portsStop_closed hP | (with_reducible apply hP.lit <;> first | with_reducible assumption | exact id | exact fun _ => rfl | with_reducible exact fun _ hx => hx | with_reducible apply Device.lanesStop_closed hP | with_reducible apply Device.portsStop_closed hP | split) | split | intro _ | dsimp only)

theorem entryWindowOpen_closed {d : Device} (hPd : P d) : P (entryWindowOpen d) := by
  unfold entryWindowOpen
  (try dsimp only)
  repeat' (first | with_reducible assumption | with_reducible exact fun _ hx => hx | with_reducible apply Device.setIsland_closed hP | (with_reducible apply hP.lit <;> first | with_reducible assumption | exact id | exact fun _ => rfl | with_reducible exact fun _ hx => hx | with_reducible apply Device.setIsland_closed hP | split) | split | intro _ | dsimp only)

theorem Device.pathsFresh_closed {d : Device} (hPd : P d) : P (Device.pathsFresh d) := by
  unfold Device.pathsFresh
  (try dsimp only)
  repeat' (first | with_reducible assumption | with_reducible exact fun _ hx => hx | with_reducible apply Closed.forAll | with_reducible apply Device.showSpares_closed hP | with_reducible apply Device.modPath_closed hP | with_reducible apply Device.resetIrqWords_closed hP | with_reducible apply Device.resetBlockWords_closed hP | (with_reducible apply hP.lit <;> first | with_reducible assumption | exact id | exact fun _ => rfl | with_reducible exact fun _ hx => hx | with_reducible apply Closed.forAll | with_reducible apply Device.showSpares_closed hP | with_reducible apply Device.modPath_closed hP | with_reducible apply Device.resetIrqWords_closed hP | with_reducible apply Device.resetBlockWords_closed hP | split) | split | intro _ | dsimp only)

theorem Device.pilotsLost_closed {d : Device} (hPd : P d) : P (Device.pilotsLost d) := by
  unfold Device.pilotsLost
  (try dsimp only)
  repeat' (first | with_reducible assumption | with_reducible exact fun _ hx => hx | with_reducible apply Closed.forAll | with_reducible apply hP.put | with_reducible apply Device.pilGo_closed hP | with_reducible apply Device.modPil_closed hP | with_reducible apply Device.modSes_closed hP | with_reducible apply Device.bootBegin_closed hP | (with_reducible apply hP.lit <;> first | with_reducible assumption | exact id | exact fun _ => rfl | with_reducible exact fun _ hx => hx | with_reducible apply Closed.forAll | with_reducible apply hP.put | with_reducible apply Device.pilGo_closed hP | with_reducible apply Device.modPil_closed hP | with_reducible apply Device.modSes_closed hP | with_reducible apply Device.bootBegin_closed hP | split) | split | intro _ | dsimp only)

theorem Device.calLost_closed {d : Device} (hPd : P d) : P (Device.calLost d) := by
  unfold Device.calLost
  (try dsimp only)
  repeat' (first | with_reducible assumption | with_reducible exact fun _ hx => hx | with_reducible apply Device.modRep_closed hP | with_reducible apply Device.applyChange_closed hP | with_reducible apply Device.applyMap_closed hP | with_reducible apply hP.put | with_reducible apply hP.wr | (with_reducible apply hP.lit <;> first | with_reducible assumption | exact id | exact fun _ => rfl | with_reducible exact fun _ hx => hx | with_reducible apply Device.modRep_closed hP | with_reducible apply Device.applyChange_closed hP | with_reducible apply Device.applyMap_closed hP | with_reducible apply hP.put | with_reducible apply hP.wr | split) | split | intro _ | dsimp only)

theorem Device.unpowered_closed {d : Device} (hPd : P d) : P (Device.unpowered d) := by
  unfold Device.unpowered
  (try dsimp only)
  repeat' (first | with_reducible assumption | with_reducible exact fun _ hx => hx | with_reducible apply hP.put | with_reducible apply Closed.forAll | with_reducible apply Device.setIsland_closed hP | with_reducible apply Device.initBanks_closed hP | with_reducible apply bfBlockReset_closed hP | with_reducible apply Device.resetIrqWords_closed hP | with_reducible apply Device.resetBlockWords_closed hP | with_reducible apply Device.pathsFresh_closed hP | with_reducible apply Closed.when | with_reducible apply manBlockReset_closed hP | with_reducible apply Device.calLost_closed hP | with_reducible apply Device.pilotsLost_closed hP | (with_reducible apply hP.lit <;> first | with_reducible assumption | exact id | exact fun _ => rfl | with_reducible exact fun _ hx => hx | with_reducible apply hP.put | with_reducible apply Closed.forAll | with_reducible apply Device.setIsland_closed hP | with_reducible apply Device.initBanks_closed hP | with_reducible apply bfBlockReset_closed hP | with_reducible apply Device.resetIrqWords_closed hP | with_reducible apply Device.resetBlockWords_closed hP | with_reducible apply Device.pathsFresh_closed hP | with_reducible apply Closed.when | with_reducible apply manBlockReset_closed hP | with_reducible apply Device.calLost_closed hP | with_reducible apply Device.pilotsLost_closed hP | split) | split | intro _ | dsimp only)

theorem Device.exitBegin_closed {d : Device} {src : BitVec 11} {cycles : Nat} {atEntry : Bool} (hPd : P d) : P (Device.exitBegin d src cycles atEntry) := by
  unfold Device.exitBegin
  (try dsimp only)
  repeat' (first | with_reducible assumption | with_reducible exact fun _ hx => hx | with_reducible apply hP.put | with_reducible apply hP.wr | with_reducible apply Closed.when | with_reducible apply Device.wdogLoad_closed hP | with_reducible apply Device.askRelease_closed hP | (with_reducible apply hP.lit <;> first | with_reducible assumption | exact id | exact fun _ => rfl | with_reducible exact fun _ hx => hx | with_reducible apply hP.put | with_reducible apply hP.wr | with_reducible apply Closed.when | with_reducible apply Device.wdogLoad_closed hP | with_reducible apply Device.askRelease_closed hP | split) | split | intro _ | dsimp only)

theorem entryWindowClose_closed {d : Device} (hPd : P d) : P (entryWindowClose d) := by
  unfold entryWindowClose
  (try dsimp only)
  repeat' (first | with_reducible assumption | with_reducible exact fun _ hx => hx | with_reducible apply Device.unpowered_closed hP | with_reducible apply Device.layDown_closed hP | with_reducible apply hP.count | with_reducible apply hP.put | with_reducible apply Device.exitBegin_closed hP | (with_reducible apply hP.lit <;> first | with_reducible assumption | exact id | exact fun _ => rfl | with_reducible exact fun _ hx => hx | with_reducible apply Device.unpowered_closed hP | with_reducible apply Device.layDown_closed hP | with_reducible apply hP.count | with_reducible apply hP.put | with_reducible apply Device.exitBegin_closed hP | split) | split | intro _ | dsimp only)

theorem wakeInputEvent_closed {e : WakeEvent} {d : Device} (hPd : P d) : P (wakeInputEvent e d) := by
  unfold wakeInputEvent
  (try dsimp only)
  repeat' (first | with_reducible assumption | with_reducible exact fun _ hx => hx | with_reducible apply Device.wakePinChange_closed hP | with_reducible apply Device.wakeEdge_closed hP | (with_reducible apply hP.lit <;> first | with_reducible assumption | exact id | exact fun _ => rfl | with_reducible exact fun _ hx => hx | with_reducible apply Device.wakePinChange_closed hP | with_reducible apply Device.wakeEdge_closed hP | split) | split | intro _ | dsimp only)

theorem sleepTimerExpiry_closed {d : Device} (hPd : P d) : P (sleepTimerExpiry d) := by
  unfold sleepTimerExpiry
  (try dsimp only)
  repeat' (first | with_reducible assumption | with_reducible exact fun _ hx => hx | with_reducible apply Device.wakeEdge_closed hP | (with_reducible apply hP.lit <;> first | with_reducible assumption | exact id | exact fun _ => rfl | with_reducible exact fun _ hx => hx | with_reducible apply Device.wakeEdge_closed hP | split) | split | intro _ | dsimp only)

theorem wakeRecognised_closed {cycles : Nat} {d : Device} (hPd : P d) : P (wakeRecognised cycles d) := by
  unfold wakeRecognised
  (try dsimp only)
  repeat' (first | with_reducible assumption | with_reducible exact fun _ hx => hx | with_reducible apply Device.exitBegin_closed hP | (with_reducible apply hP.lit <;> first | with_reducible assumption | exact id | exact fun _ => rfl | with_reducible exact fun _ hx => hx | with_reducible apply Device.exitBegin_closed hP | split) | split | intro _ | dsimp only)

/-! ### Watch -/

theorem Device.watchGo_closed {d : Device} {s : Nat} (hPd : P d) : P (Device.watchGo d s) := by
  unfold Device.watchGo
  (try dsimp only)
  repeat' (first | with_reducible assumption | with_reducible exact fun _ hx => hx | with_reducible apply hP.put | (with_reducible apply hP.lit <;> first | with_reducible assumption | exact id | exact fun _ => rfl | with_reducible exact fun _ hx => hx | with_reducible apply hP.put | split) | split | intro _ | dsimp only)

theorem Device.followWatch_closed {d : Device} (hPd : P d) : P (Device.followWatch d) := by
  unfold Device.followWatch
  (try dsimp only)
  repeat' (first | with_reducible assumption | with_reducible exact fun _ hx => hx | with_reducible apply Closed.when | with_reducible apply hP.count | with_reducible apply Device.watchGo_closed hP | (with_reducible apply hP.lit <;> first | with_reducible assumption | exact id | exact fun _ => rfl | with_reducible exact fun _ hx => hx | with_reducible apply Closed.when | with_reducible apply hP.count | with_reducible apply Device.watchGo_closed hP | split) | split | intro _ | dsimp only)

theorem watchWritten_closed {off : Nat} {d : Device} (hPd : P d) : P (watchWritten off d) := by
  unfold watchWritten
  (try dsimp only)
  repeat' (first | with_reducible assumption | with_reducible exact fun _ hx => hx | with_reducible apply Device.watchGo_closed hP | with_reducible apply hP.wr | (with_reducible apply hP.lit <;> first | with_reducible assumption | exact id | exact fun _ => rfl | with_reducible exact fun _ hx => hx | with_reducible apply Device.watchGo_closed hP | with_reducible apply hP.wr | split) | split | intro _ | dsimp only)

theorem watchBlockReset_closed {d : Device} (hPd : P d) : P (watchBlockReset d) := by
  unfold watchBlockReset
  (try dsimp only)
  repeat' (first | with_reducible assumption | with_reducible exact fun _ hx => hx | with_reducible apply hP.put | (with_reducible apply hP.lit <;> first | with_reducible assumption | exact id | exact fun _ => rfl | with_reducible exact fun _ hx => hx | with_reducible apply hP.put | split) | split | intro _ | dsimp only)

theorem watchLookStart_closed {d : Device} (hPd : P d) : P (watchLookStart d) := by
  unfold watchLookStart
  (try dsimp only)
  repeat' (first | with_reducible assumption | with_reducible exact fun _ hx => hx | (with_reducible apply hP.lit <;> first | with_reducible assumption | exact id | exact fun _ => rfl | with_reducible exact fun _ hx => hx | split) | split | intro _ | dsimp only)

theorem Device.watchLearn_closed {d : Device} {r : Word} (hPd : P d) : P (Device.watchLearn d r) := by
  unfold Device.watchLearn
  (try dsimp only)
  repeat' (first | with_reducible assumption | with_reducible exact fun _ hx => hx | with_reducible apply Device.divOpen_closed hP | with_reducible apply Device.watchGo_closed hP | with_reducible apply hP.putS | with_reducible refine snd_of_eq (by assumption) ?_ | (with_reducible apply hP.lit <;> first | with_reducible assumption | exact id | exact fun _ => rfl | with_reducible exact fun _ hx => hx | with_reducible apply Device.divOpen_closed hP | with_reducible apply Device.watchGo_closed hP | with_reducible apply hP.putS | with_reducible refine snd_of_eq (by assumption) ?_ | split) | split | intro _ | dsimp only)

theorem Device.watchTrack_closed {d : Device} {ri : Int} {rq : Int} (hPd : P d) : P (Device.watchTrack d ri rq) := by
  unfold Device.watchTrack
  (try dsimp only)
  repeat' (first | with_reducible assumption | with_reducible exact fun _ hx => hx | with_reducible apply Device.divOpen_closed hP | with_reducible apply hP.putS | with_reducible refine snd_of_eq (by assumption) ?_ | (with_reducible apply hP.lit <;> first | with_reducible assumption | exact id | exact fun _ => rfl | with_reducible exact fun _ hx => hx | with_reducible apply Device.divOpen_closed hP | with_reducible apply hP.putS | with_reducible refine snd_of_eq (by assumption) ?_ | split) | split | intro _ | dsimp only)

theorem Device.watchRun_closed {d : Device} {n : Nat} {next : Nat} (hPd : P d) : P (Device.watchRun d n next) := by
  unfold Device.watchRun
  (try dsimp only)
  repeat' (first | with_reducible assumption | with_reducible exact fun _ hx => hx | with_reducible apply hP.put | with_reducible apply Device.watchGo_closed hP | with_reducible apply Closed.when | with_reducible apply Device.irq_closed hP | with_reducible apply hP.count | (with_reducible apply hP.lit <;> first | with_reducible assumption | exact id | exact fun _ => rfl | with_reducible exact fun _ hx => hx | with_reducible apply hP.put | with_reducible apply Device.watchGo_closed hP | with_reducible apply Closed.when | with_reducible apply Device.irq_closed hP | with_reducible apply hP.count | split) | split | intro _ | dsimp only)

theorem Device.changeOf_closed {d : Device} {dist : Nat} {base : Nat} (hPd : P d) : P (Device.changeOf d dist base).2 := by
  unfold Device.changeOf
  (try dsimp only)
  repeat' (first | with_reducible assumption | with_reducible exact fun _ hx => hx | with_reducible apply Device.takeFree_closed hP | with_reducible refine snd_of_eq (by assumption) ?_ | (with_reducible apply hP.lit <;> first | with_reducible assumption | exact id | exact fun _ => rfl | with_reducible exact fun _ hx => hx | with_reducible apply Device.takeFree_closed hP | with_reducible refine snd_of_eq (by assumption) ?_ | split) | split | intro _ | dsimp only)

theorem Device.watchJudge_closed {d : Device} {c : Int} {ri : Int} {rq : Int} (hPd : P d) : P (Device.watchJudge d c ri rq) := by
  unfold Device.watchJudge
  (try dsimp only)
  repeat' (first | with_reducible assumption | with_reducible exact fun _ hx => hx | with_reducible apply Device.divOpen_closed hP | with_reducible apply hP.put | with_reducible apply Closed.when | with_reducible apply Device.watchTrack_closed hP | with_reducible apply Device.watchRun_closed hP | with_reducible refine snd_of_eq (by assumption) ?_ | (with_reducible apply hP.lit <;> first | with_reducible assumption | exact id | exact fun _ => rfl | with_reducible exact fun _ hx => hx | with_reducible apply Device.divOpen_closed hP | with_reducible apply hP.put | with_reducible apply Closed.when | with_reducible apply Device.watchTrack_closed hP | with_reducible apply Device.watchRun_closed hP | with_reducible refine snd_of_eq (by assumption) ?_ | split) | split | intro _ | dsimp only)

theorem Device.watchCompare_closed {d : Device} {ri : Int} {rq : Int} (hPd : P d) : P (Device.watchCompare d ri rq) := by
  unfold Device.watchCompare
  (try dsimp only)
  repeat' (first | with_reducible assumption | with_reducible exact fun _ hx => hx | with_reducible apply Device.changeOf_closed hP | with_reducible apply Device.watchJudge_closed hP | with_reducible refine snd_of_eq (by assumption) ?_ | (with_reducible apply hP.lit <;> first | with_reducible assumption | exact id | exact fun _ => rfl | with_reducible exact fun _ hx => hx | with_reducible apply Device.changeOf_closed hP | with_reducible apply Device.watchJudge_closed hP | with_reducible refine snd_of_eq (by assumption) ?_ | split) | split | intro _ | dsimp only)

theorem watchLookDecision_closed {r : Word} {d : Device} (hPd : P d) : P (watchLookDecision r d) := by
  unfold watchLookDecision
  (try dsimp only)
  repeat' (first | with_reducible assumption | with_reducible exact fun _ hx => hx | with_reducible apply Device.watchGo_closed hP | with_reducible apply Device.watchLearn_closed hP | with_reducible apply Device.watchCompare_closed hP | (with_reducible apply hP.lit <;> first | with_reducible assumption | exact id | exact fun _ => rfl | with_reducible exact fun _ hx => hx | with_reducible apply Device.watchGo_closed hP | with_reducible apply Device.watchLearn_closed hP | with_reducible apply Device.watchCompare_closed hP | split) | split | intro _ | dsimp only)

/-! ### Interrupts -/

theorem Device.followBall_closed {d : Device} {b : Nat} (hPd : P d) : P (Device.followBall d b) := by
  unfold Device.followBall
  (try dsimp only)
  repeat' (first | with_reducible assumption | with_reducible exact fun _ hx => hx | (with_reducible apply hP.lit <;> first | with_reducible assumption | exact id | exact fun _ => rfl | with_reducible exact fun _ hx => hx | split) | split | intro _ | dsimp only)

theorem Device.followLink_closed {d : Device} (hPd : P d) : P (Device.followLink d) := by
  unfold Device.followLink
  (try dsimp only)
  repeat' (first | with_reducible assumption | with_reducible exact fun _ hx => hx | (with_reducible apply hP.lit <;> first | with_reducible assumption | exact id | exact fun _ => rfl | with_reducible exact fun _ hx => hx | split) | split | intro _ | dsimp only)

theorem Device.showBalls_closed {d : Device} (hPd : P d) : P (Device.showBalls d) := by
  unfold Device.showBalls
  (try dsimp only)
  repeat' (first | with_reducible assumption | with_reducible exact fun _ hx => hx | with_reducible apply hP.wr | (with_reducible apply hP.lit <;> first | with_reducible assumption | exact id | exact fun _ => rfl | with_reducible exact fun _ hx => hx | with_reducible apply hP.wr | split) | split | intro _ | dsimp only)

theorem Device.followInterrupts_closed {d : Device} (hPd : P d) : P (Device.followInterrupts d) := by
  unfold Device.followInterrupts
  (try dsimp only)
  repeat' (first | with_reducible assumption | with_reducible exact fun _ hx => hx | with_reducible apply Device.showBalls_closed hP | with_reducible apply Device.followLink_closed hP | with_reducible apply Device.followBall_closed hP | (with_reducible apply hP.lit <;> first | with_reducible assumption | exact id | exact fun _ => rfl | with_reducible exact fun _ hx => hx | with_reducible apply Device.showBalls_closed hP | with_reducible apply Device.followLink_closed hP | with_reducible apply Device.followBall_closed hP | split) | split | intro _ | dsimp only)

theorem irqPulseEnd_closed {b : Nat} {d : Device} (hPd : P d) : P (irqPulseEnd b d) := by
  unfold irqPulseEnd
  (try dsimp only)
  repeat' (first | with_reducible assumption | with_reducible exact fun _ hx => hx | (with_reducible apply hP.lit <;> first | with_reducible assumption | exact id | exact fun _ => rfl | with_reducible exact fun _ hx => hx | split) | split | intro _ | dsimp only)

theorem supplyWarn_closed {r : Nat} {low : Bool} {d : Device} (hPd : P d) : P (supplyWarn r low d) := by
  unfold supplyWarn
  (try dsimp only)
  repeat' (first | with_reducible assumption | with_reducible exact fun _ hx => hx | with_reducible apply hP.putB | with_reducible apply Device.irqLevel_closed hP | (with_reducible apply hP.lit <;> first | with_reducible assumption | exact id | exact fun _ => rfl | with_reducible exact fun _ hx => hx | with_reducible apply hP.putB | with_reducible apply Device.irqLevel_closed hP | split) | split | intro _ | dsimp only)

/-! ### Reads -/

omit hP in
theorem pairIte {α : Type} {c : Prop} [Decidable c] {a b : α × Device} (ha : P a.2) (hb : P b.2) : P (if c then a else b).2 := by
  split
  · exact ha
  · exact hb

theorem Device.shown_closed {d : Device} {a : Nat} (hPd : P d) : P (Device.shown d a).2 := by
  unfold Device.shown
  refine pairIte ?_ ?_
  · split
    · exact hPd
    · split
      · exact hPd
      · exact Device.divOpen_closed hP hPd
  · repeat' (first | exact hPd | refine pairIte ?_ ?_)

theorem Device.sync_closed {d : Device} {a : Nat} (hPd : P d) : P (Device.sync d a) := by
  unfold Device.sync
  (try dsimp only)
  repeat' (first | with_reducible assumption | with_reducible exact fun _ hx => hx | with_reducible apply Device.shown_closed hP | with_reducible apply Device.setMirror_closed hP | with_reducible apply Device.modTimer_closed hP | with_reducible refine snd_of_eq (by assumption) ?_ | (with_reducible apply hP.lit <;> first | with_reducible assumption | exact id | exact fun _ => rfl | with_reducible exact fun _ hx => hx | with_reducible apply Device.shown_closed hP | with_reducible apply Device.setMirror_closed hP | with_reducible apply Device.modTimer_closed hP | with_reducible refine snd_of_eq (by assumption) ?_ | split) | split | intro _ | dsimp only)

theorem Device.readEffect_closed {d : Device} {a : Nat} (hPd : P d) : P (Device.readEffect d a).2 := by
  unfold Device.readEffect
  (try dsimp only)
  repeat' (first | with_reducible assumption | with_reducible exact fun _ hx => hx | with_reducible apply optDataRead_closed hP | with_reducible apply Device.optImgRead_closed hP | with_reducible apply Device.tblRead_closed hP | with_reducible apply Device.cenDataRead_closed hP | with_reducible apply Device.imgRead_closed hP | with_reducible apply hP.put | with_reducible apply hP.mirror | (with_reducible apply hP.lit <;> first | with_reducible assumption | exact id | exact fun _ => rfl | with_reducible exact fun _ hx => hx | with_reducible apply optDataRead_closed hP | with_reducible apply Device.optImgRead_closed hP | with_reducible apply Device.tblRead_closed hP | with_reducible apply Device.cenDataRead_closed hP | with_reducible apply Device.imgRead_closed hP | with_reducible apply hP.put | with_reducible apply hP.mirror | split) | split | intro _ | dsimp only)

theorem Device.windowRead_closed {d : Device} {a : Nat} (hPd : P d) : P (Device.windowRead d a).2.2 := by
  unfold Device.windowRead
  (try dsimp only)
  repeat' (first | with_reducible assumption | with_reducible exact fun _ hx => hx | with_reducible apply hP.addSat | with_reducible apply Device.readEffect_closed hP | with_reducible refine snd_of_eq (by assumption) ?_ | (with_reducible apply hP.lit <;> first | with_reducible assumption | exact id | exact fun _ => rfl | with_reducible exact fun _ hx => hx | with_reducible apply hP.addSat | with_reducible apply Device.readEffect_closed hP | with_reducible refine snd_of_eq (by assumption) ?_ | split) | split | intro _ | dsimp only)

end Sys2Proof.Machine
end

