-- ==== Sys2Proof/Laws/ClosedHost.lean ====
section
/-!
SUPPORT. Each operation of Machine/Remote.lean, Machine/Rtc.lean, Machine/Ssps.lean, Machine/Apply.lean, Machine/HostBus.lean keeps every closed property of the device.
-/
set_option linter.unusedTactic false
set_option linter.unreachableTactic false
set_option linter.unusedSectionVars false
set_option linter.unusedVariables false
namespace Sys2Proof.Machine

variable {P : Device → Prop} (hP : Closed P)
include hP

/-! ### Remote -/

theorem Device.reqAnswer_closed {d : Device} {r : KlReq} (hPd : P d) : ∀ x z, Device.reqAnswer d r = some (x, z) → P z := by
  intro x z hz
  unfold Device.reqAnswer at hz
  split at hz
  · cases hz; exact Device.windowRead_closed hP hPd
  · simp only [Option.map_eq_some_iff, Prod.mk.injEq] at hz
    obtain ⟨⟨s, e⟩, he, -, rfl⟩ := hz
    exact Device.pageWrite_closed hP hPd s e he
  · cases hz; exact Device.unmappedWrite_closed hP hPd
  · split at hz
    · exact absurd hz (by simp)
    · cases hz; exact hPd
  · cases hz; exact hPd

theorem Device.serveReqs_closed {d : Device} {n : Nat} (hPd : P d) : P (Device.serveReqs d n) := by
  induction n generalizing d with
  | zero => exact hPd
  | succ n ih =>
    unfold Device.serveReqs
    split
    · exact hPd
    · rename_i r t heq
      rcases hP.either with hn | ha
      · rw [(hn d hPd).1] at heq
        exact absurd heq (by simp)
      · split
        · exact hPd
        · rename_i w e hw
          have he := Device.reqAnswer_closed hP hPd _ _ hw
          have hm : P (e.modKl (fun s => { s with reqs := t })) := ha e _ he ⟨rfl, rfl, rfl, rfl⟩
          exact ih (Device.sendUp_closed hP (Device.bufferFree_closed hP hm))

/-- A page request from the cascade keeps every closed property that does not look at waiting accesses. -/
theorem pageReq_closed (ha : ∀ d e, P d → SameStores d e → P e) {h : KlHead} {way : KlTo} {op : Nat} {addr : Nat} {data : Word} {d : Device}
    (hPd : P d) : P (pageReq h way op addr data d) := by
  unfold pageReq
  refine Device.receive_closed hP hPd (fun x hx => ?_)
  have hf := Device.forward_closed hP (h := h) (way := way) (body := .pageReq op addr data) (cls := 1) hx
  dsimp only
  split
  · exact hf
  · have hu := Device.bufferUse_closed hP (k := h.port.val) (c := 1) (n := klCost h.len.val) hf
    exact Device.serveReqs_closed hP (ha _ _ hu ⟨rfl, rfl, rfl, rfl⟩)

theorem Device.entryDone_closed {d : Device} {status : Nat} {data : Word} (hPd : P d) : P (Device.entryDone d status data) := by
  unfold Device.entryDone
  (try dsimp only)
  repeat' (first | with_reducible assumption | with_reducible exact fun _ hx => hx | with_reducible apply Device.modPl_closed hP | simp_all | (with_reducible apply hP.lit <;> first | with_reducible assumption | exact id | exact fun _ => rfl | with_reducible exact fun _ hx => hx | with_reducible apply Device.modPl_closed hP | simp_all | split) | split | intro _ | dsimp only)

theorem Device.entryWait_closed {d : Device} {w : PlWait} (hPd : P d) : P (Device.entryWait d w) := by
  unfold Device.entryWait
  (try dsimp only)
  repeat' (first | with_reducible assumption | with_reducible exact fun _ hx => hx | with_reducible apply Device.modPl_closed hP | simp_all | (with_reducible apply hP.lit <;> first | with_reducible assumption | exact id | exact fun _ => rfl | with_reducible exact fun _ hx => hx | with_reducible apply Device.modPl_closed hP | simp_all | split) | split | intro _ | dsimp only)

theorem Device.entryLocal_closed {d : Device} {e : PlEntry} (hPd : P d) : ∀ z, Device.entryLocal d e = some z → P z := by
  intro z hz
  unfold Device.entryLocal at hz
  split at hz
  · cases hz; exact Device.entryDone_closed hP hPd
  · cases hz; exact Device.entryDone_closed hP hPd
  · split at hz
    · exact absurd hz (by simp)
    · cases hz; exact Device.entryDone_closed hP hPd
  · cases hz; exact Device.entryDone_closed hP (Device.windowRead_closed hP hPd)
  · simp only [Option.map_eq_some_iff] at hz
    obtain ⟨⟨s, y⟩, hy, rfl⟩ := hz
    exact Device.entryDone_closed hP (Device.pageWrite_closed hP hPd s y hy)
  · cases hz; exact Device.entryDone_closed hP (Device.sramWrite_closed hP hPd)
  · cases hz; exact Device.entryDone_closed hP (Device.unmappedWrite_closed hP hPd)
  · split at hz <;> cases hz
    · exact Device.entryWait_closed hP hPd
    · exact Device.entryDone_closed hP hPd
  all_goals (cases hz; exact Device.entryDone_closed hP hPd)

theorem Device.remoteStart_closed {d : Device} {r : RaSt} (hPd : P d) : P (Device.remoteStart d r) := by
  unfold Device.remoteStart
  (try dsimp only)
  repeat' (first | with_reducible assumption | with_reducible exact fun _ hx => hx | with_reducible apply Closed.forAll | with_reducible apply Device.modKl_closed hP | with_reducible apply Device.sendTo_closed hP | (with_reducible apply hP.lit <;> first | with_reducible assumption | exact id | exact fun _ => rfl | with_reducible exact fun _ hx => hx | with_reducible apply Closed.forAll | with_reducible apply Device.modKl_closed hP | with_reducible apply Device.sendTo_closed hP | split) | split | intro _ | dsimp only)

theorem Device.entryRemote_closed {d : Device} {device : Nat} {e : PlEntry} (hPd : P d) : P (Device.entryRemote d device e) := by
  unfold Device.entryRemote
  (try dsimp only)
  repeat' (first | with_reducible assumption | with_reducible exact fun _ hx => hx | with_reducible apply Device.entryDone_closed hP | with_reducible apply Device.remoteStart_closed hP | with_reducible apply Device.entryWait_closed hP | (with_reducible apply hP.lit <;> first | with_reducible assumption | exact id | exact fun _ => rfl | with_reducible exact fun _ hx => hx | with_reducible apply Device.entryDone_closed hP | with_reducible apply Device.remoteStart_closed hP | with_reducible apply Device.entryWait_closed hP | split) | split | intro _ | dsimp only)

theorem Device.respond_closed {d : Device} {r : PlReq} (hPd : P d) : P (Device.respond d r) := by
  unfold Device.respond
  (try dsimp only)
  repeat' (first | with_reducible assumption | with_reducible exact fun _ hx => hx | with_reducible apply Device.plReturn_closed hP | with_reducible apply Device.modPl_closed hP | with_reducible apply Device.plSend_closed hP | simp_all | (with_reducible apply hP.lit <;> first | with_reducible assumption | exact id | exact fun _ => rfl | with_reducible exact fun _ hx => hx | with_reducible apply Device.plReturn_closed hP | with_reducible apply Device.modPl_closed hP | with_reducible apply Device.plSend_closed hP | simp_all | split) | split | intro _ | dsimp only)

theorem Device.plServe_closed {d : Device} {y1 : Nat} (hPd : P d) : P (Device.plServe d y1) := by
  induction y1 generalizing d with
  | zero => exact hPd
  | succ n ih =>
    unfold Device.plServe
    (try dsimp only)
    repeat' (first | with_reducible assumption | with_reducible exact fun _ hx => hx | with_reducible apply ih | with_reducible apply Device.entryRemote_closed hP | (with_reducible refine Device.entryLocal_closed hP ?_ _ (by assumption)) | with_reducible apply Device.respond_closed hP | (with_reducible apply hP.lit <;> first | with_reducible assumption | exact id | exact fun _ => rfl | with_reducible exact fun _ hx => hx | with_reducible apply Device.entryRemote_closed hP | (with_reducible refine Device.entryLocal_closed hP ?_ _ (by assumption)) | with_reducible apply Device.respond_closed hP | split) | split | intro _ | dsimp only)

theorem Device.plGoOn_closed {d : Device} (hPd : P d) : P (Device.plGoOn d) := by
  unfold Device.plGoOn
  (try dsimp only)
  repeat' (first | with_reducible assumption | with_reducible exact fun _ hx => hx | with_reducible apply Device.plServe_closed hP | (with_reducible apply hP.lit <;> first | with_reducible assumption | exact id | exact fun _ => rfl | with_reducible exact fun _ hx => hx | with_reducible apply Device.plServe_closed hP | split) | split | intro _ | dsimp only)

theorem Device.followQueue_closed {d : Device} (hPd : P d) : P (Device.followQueue d) := by
  unfold Device.followQueue
  (try dsimp only)
  repeat' (first | with_reducible assumption | with_reducible exact fun _ hx => hx | with_reducible apply Device.plGoOn_closed hP | with_reducible apply Device.serveReqs_closed hP | (with_reducible apply hP.lit <;> first | with_reducible assumption | exact id | exact fun _ => rfl | with_reducible exact fun _ hx => hx | with_reducible apply Device.plGoOn_closed hP | with_reducible apply Device.serveReqs_closed hP | split) | split | intro _ | dsimp only)

/-- A register-access request from the link keeps every closed property that does not look at waiting accesses. -/
theorem regReq_closed (ha : ∀ d e, P d → SameStores d e → P e) {seq : Nat} {tag : Nat} {device : Nat} {entries : List RegEntry} {d : Device}
    (hPd : P d) : P (regReq seq tag device entries d) := by
  unfold regReq
  split
  · exact hPd
  · exact Device.plGoOn_closed hP (ha _ _ hPd ⟨rfl, rfl, rfl, rfl⟩)

theorem regReqWaitEnd_closed {d : Device} (hPd : P d) : P (regReqWaitEnd d) := by
  unfold regReqWaitEnd
  (try dsimp only)
  repeat' (first | with_reducible assumption | with_reducible exact fun _ hx => hx | with_reducible apply Device.plGoOn_closed hP | with_reducible apply Device.entryDone_closed hP | (with_reducible apply hP.lit <;> first | with_reducible assumption | exact id | exact fun _ => rfl | with_reducible exact fun _ hx => hx | with_reducible apply Device.plGoOn_closed hP | with_reducible apply Device.entryDone_closed hP | split) | split | intro _ | dsimp only)

theorem Device.entryLimit_closed {d : Device} (hPd : P d) : P (Device.entryLimit d) := by
  unfold Device.entryLimit
  (try dsimp only)
  repeat' (first | with_reducible assumption | with_reducible exact fun _ hx => hx | with_reducible apply Device.irq_closed hP | with_reducible apply hP.count | with_reducible apply Device.entryDone_closed hP | (with_reducible apply hP.lit <;> first | with_reducible assumption | exact id | exact fun _ => rfl | with_reducible exact fun _ hx => hx | with_reducible apply Device.irq_closed hP | with_reducible apply hP.count | with_reducible apply Device.entryDone_closed hP | split) | split | intro _ | dsimp only)

theorem Device.remoteEnd_closed {d : Device} {r : RaSt} {result : Nat} {hops : Nat} {data : Word} (hPd : P d) : P (Device.remoteEnd d r result hops data) := by
  unfold Device.remoteEnd
  (try dsimp only)
  repeat' (first | with_reducible assumption | with_reducible exact fun _ hx => hx | with_reducible apply hP.wr | with_reducible apply Device.plGoOn_closed hP | with_reducible apply Device.entryDone_closed hP | (with_reducible apply hP.lit <;> first | with_reducible assumption | exact id | exact fun _ => rfl | with_reducible exact fun _ hx => hx | with_reducible apply hP.wr | with_reducible apply Device.plGoOn_closed hP | with_reducible apply Device.entryDone_closed hP | split) | split | intro _ | dsimp only)

theorem Device.raStart_closed {d : Device} {write : Bool} (hPd : P d) : P (Device.raStart d write) := by
  unfold Device.raStart
  (try dsimp only)
  repeat' (first | with_reducible assumption | with_reducible exact fun _ hx => hx | with_reducible apply Device.remoteEnd_closed hP | with_reducible apply Device.remoteStart_closed hP | with_reducible apply hP.wr | (with_reducible apply hP.lit <;> first | with_reducible assumption | exact id | exact fun _ => rfl | with_reducible exact fun _ hx => hx | with_reducible apply Device.remoteEnd_closed hP | with_reducible apply Device.remoteStart_closed hP | with_reducible apply hP.wr | split) | split | intro _ | dsimp only)

theorem pageRsp_closed {h : KlHead} {data : Word} {hops : Nat} {d : Device} (hPd : P d) : P (pageRsp h data hops d) := by
  unfold pageRsp
  (try dsimp only)
  repeat' (first | with_reducible assumption | with_reducible exact fun _ hx => hx | with_reducible apply Device.receive_closed hP | with_reducible apply Device.relayUp_closed hP | with_reducible apply Device.modKl_closed hP | with_reducible apply Device.remoteEnd_closed hP | (with_reducible apply hP.lit <;> first | with_reducible assumption | exact id | exact fun _ => rfl | with_reducible exact fun _ hx => hx | with_reducible apply Device.receive_closed hP | with_reducible apply Device.relayUp_closed hP | with_reducible apply Device.modKl_closed hP | with_reducible apply Device.remoteEnd_closed hP | split) | split | intro _ | dsimp only)

theorem raTimeout_closed {link : Bool} {d : Device} (hPd : P d) : P (raTimeout link d) := by
  unfold raTimeout
  (try dsimp only)
  repeat' (first | with_reducible assumption | with_reducible exact fun _ hx => hx | with_reducible apply Device.remoteEnd_closed hP | with_reducible apply Device.modKl_closed hP | (with_reducible apply hP.lit <;> first | with_reducible assumption | exact id | exact fun _ => rfl | with_reducible exact fun _ hx => hx | with_reducible apply Device.remoteEnd_closed hP | with_reducible apply Device.modKl_closed hP | split) | split | intro _ | dsimp only)

theorem Device.sendReset_closed {d : Device} {subtree : Bool} (hPd : P d) : P (Device.sendReset d subtree) := by
  unfold Device.sendReset
  (try dsimp only)
  repeat' (first | with_reducible assumption | with_reducible exact fun _ hx => hx | with_reducible apply Device.sendTo_closed hP | (with_reducible apply hP.lit <;> first | with_reducible assumption | exact id | exact fun _ => rfl | with_reducible exact fun _ hx => hx | with_reducible apply Device.sendTo_closed hP | split) | split | intro _ | dsimp only)

theorem klWritten_closed {off : Nat} {v : Word} {finds : KlGroupFinds} {old : Device} {d : Device} (hPd : P d) : P (klWritten off v finds old d) := by
  unfold klWritten
  (try dsimp only)
  repeat' (first | with_reducible assumption | with_reducible exact fun _ hx => hx | with_reducible apply Closed.forAll | with_reducible apply Device.censusStart_closed hP | with_reducible apply Device.sendReset_closed hP | with_reducible apply Device.groupStart_closed hP | with_reducible apply Device.failback_closed hP | with_reducible apply Device.klAbort_closed hP | with_reducible apply Device.raStart_closed hP | with_reducible apply Device.trigFire_closed hP | with_reducible apply Device.groupWritten_closed hP | with_reducible apply Closed.when | with_reducible apply hP.wr | with_reducible apply Device.portEnable_closed hP | with_reducible apply Device.portDisable_closed hP | (with_reducible apply hP.lit <;> first | with_reducible assumption | exact id | exact fun _ => rfl | with_reducible exact fun _ hx => hx | with_reducible apply Closed.forAll | with_reducible apply Device.censusStart_closed hP | with_reducible apply Device.sendReset_closed hP | with_reducible apply Device.groupStart_closed hP | with_reducible apply Device.failback_closed hP | with_reducible apply Device.klAbort_closed hP | with_reducible apply Device.raStart_closed hP | with_reducible apply Device.trigFire_closed hP | with_reducible apply Device.groupWritten_closed hP | with_reducible apply Closed.when | with_reducible apply hP.wr | with_reducible apply Device.portEnable_closed hP | with_reducible apply Device.portDisable_closed hP | split) | split | intro _ | dsimp only)

/-! ### Rtc -/

theorem Device.calendarTick_closed {d : Device} (hPd : P d) : P (Device.calendarTick d) := by
  unfold Device.calendarTick
  (try dsimp only)
  repeat' (first | with_reducible assumption | with_reducible exact fun _ hx => hx | with_reducible apply Closed.when | with_reducible apply hP.wr | (with_reducible apply hP.lit <;> first | with_reducible assumption | exact id | exact fun _ => rfl | with_reducible exact fun _ hx => hx | with_reducible apply Closed.when | with_reducible apply hP.wr | split) | split | intro _ | dsimp only)

theorem Device.rtcCurve_closed {d : Device} {t : Int} (hPd : P d) : P (Device.rtcCurve d t).2 := by
  unfold Device.rtcCurve
  (try dsimp only)
  repeat' (first | with_reducible assumption | with_reducible exact fun _ hx => hx | with_reducible apply Device.divOpen_closed hP | with_reducible refine snd_of_eq (by assumption) ?_ | (with_reducible apply hP.lit <;> first | with_reducible assumption | exact id | exact fun _ => rfl | with_reducible exact fun _ hx => hx | with_reducible apply Device.divOpen_closed hP | with_reducible refine snd_of_eq (by assumption) ?_ | split) | split | intro _ | dsimp only)

theorem Device.showRate_closed {d : Device} (hPd : P d) : P (Device.showRate d) := by
  unfold Device.showRate
  (try dsimp only)
  repeat' (first | with_reducible assumption | with_reducible exact fun _ hx => hx | with_reducible apply Device.putFit_closed hP | (with_reducible apply hP.lit <;> first | with_reducible assumption | exact id | exact fun _ => rfl | with_reducible exact fun _ hx => hx | with_reducible apply Device.putFit_closed hP | split) | split | intro _ | dsimp only)

theorem rtcTempMeasure_closed {t : Int} {d : Device} (hPd : P d) : P (rtcTempMeasure t d) := by
  unfold rtcTempMeasure
  (try dsimp only)
  repeat' (first | with_reducible assumption | with_reducible exact fun _ hx => hx | with_reducible apply Device.rtcCurve_closed hP | with_reducible apply Device.showRate_closed hP | with_reducible apply hP.putSat | with_reducible refine snd_of_eq (by assumption) ?_ | (with_reducible apply hP.lit <;> first | with_reducible assumption | exact id | exact fun _ => rfl | with_reducible exact fun _ hx => hx | with_reducible apply Device.rtcCurve_closed hP | with_reducible apply Device.showRate_closed hP | with_reducible apply hP.putSat | with_reducible refine snd_of_eq (by assumption) ?_ | split) | split | intro _ | dsimp only)

theorem Device.compensate_closed {d : Device} (hPd : P d) : P (Device.compensate d) := by
  unfold Device.compensate
  (try dsimp only)
  repeat' (first | with_reducible assumption | with_reducible exact fun _ hx => hx | with_reducible apply Device.divOpen_closed hP | with_reducible refine snd_of_eq (by assumption) ?_ | (with_reducible apply hP.lit <;> first | with_reducible assumption | exact id | exact fun _ => rfl | with_reducible exact fun _ hx => hx | with_reducible apply Device.divOpen_closed hP | with_reducible refine snd_of_eq (by assumption) ?_ | split) | split | intro _ | dsimp only)

theorem Device.showWakeLeft_closed {d : Device} (hPd : P d) : P (Device.showWakeLeft d) := by
  unfold Device.showWakeLeft
  (try dsimp only)
  repeat' (first | with_reducible assumption | with_reducible exact fun _ hx => hx | with_reducible apply hP.put | (with_reducible apply hP.lit <;> first | with_reducible assumption | exact id | exact fun _ => rfl | with_reducible exact fun _ hx => hx | with_reducible apply hP.put | split) | split | intro _ | dsimp only)

theorem Device.wakeTick_closed {d : Device} (hPd : P d) : P (Device.wakeTick d) := by
  unfold Device.wakeTick
  (try dsimp only)
  repeat' (first | with_reducible assumption | with_reducible exact fun _ hx => hx | with_reducible apply Device.showWakeLeft_closed hP | with_reducible apply Device.wakeEdge_closed hP | with_reducible apply Device.irq_closed hP | (with_reducible apply hP.lit <;> first | with_reducible assumption | exact id | exact fun _ => rfl | with_reducible exact fun _ hx => hx | with_reducible apply Device.showWakeLeft_closed hP | with_reducible apply Device.wakeEdge_closed hP | with_reducible apply Device.irq_closed hP | split) | split | intro _ | dsimp only)

theorem rtcSecond_closed {d : Device} (hPd : P d) : P (rtcSecond d) := by
  unfold rtcSecond
  (try dsimp only)
  repeat' (first | with_reducible assumption | with_reducible exact fun _ hx => hx | with_reducible apply Device.showRate_closed hP | with_reducible apply Device.wakeTick_closed hP | with_reducible apply Device.compensate_closed hP | with_reducible apply Device.calendarTick_closed hP | with_reducible apply hP.put | (with_reducible apply hP.lit <;> first | with_reducible assumption | exact id | exact fun _ => rfl | with_reducible exact fun _ hx => hx | with_reducible apply Device.showRate_closed hP | with_reducible apply Device.wakeTick_closed hP | with_reducible apply Device.compensate_closed hP | with_reducible apply Device.calendarTick_closed hP | with_reducible apply hP.put | split) | split | intro _ | dsimp only)

theorem rtcOutFall_closed {d : Device} (hPd : P d) : P (rtcOutFall d) := by
  unfold rtcOutFall
  (try dsimp only)
  repeat' (first | with_reducible assumption | with_reducible exact fun _ hx => hx | with_reducible apply hP.put | (with_reducible apply hP.lit <;> first | with_reducible assumption | exact id | exact fun _ => rfl | with_reducible exact fun _ hx => hx | with_reducible apply hP.put | split) | split | intro _ | dsimp only)

theorem Device.showCharging_closed {d : Device} (hPd : P d) : P (Device.showCharging d) := by
  unfold Device.showCharging
  (try dsimp only)
  repeat' (first | with_reducible assumption | with_reducible exact fun _ hx => hx | with_reducible apply hP.putB | (with_reducible apply hP.lit <;> first | with_reducible assumption | exact id | exact fun _ => rfl | with_reducible exact fun _ hx => hx | with_reducible apply hP.putB | split) | split | intro _ | dsimp only)

theorem Device.lockoutBegin_closed {d : Device} (hPd : P d) : P (Device.lockoutBegin d) := by
  unfold Device.lockoutBegin
  (try dsimp only)
  repeat' (first | with_reducible assumption | with_reducible exact fun _ hx => hx | with_reducible apply hP.put | (with_reducible apply hP.lit <;> first | with_reducible assumption | exact id | exact fun _ => rfl | with_reducible exact fun _ hx => hx | with_reducible apply hP.put | split) | split | intro _ | dsimp only)

theorem Device.lockoutOnSupply_closed {d : Device} (hPd : P d) : P (Device.lockoutOnSupply d) := by
  unfold Device.lockoutOnSupply
  (try dsimp only)
  repeat' (first | with_reducible assumption | with_reducible exact fun _ hx => hx | with_reducible apply Closed.when | with_reducible apply Device.lockoutBegin_closed hP | (with_reducible apply hP.lit <;> first | with_reducible assumption | exact id | exact fun _ => rfl | with_reducible exact fun _ hx => hx | with_reducible apply Closed.when | with_reducible apply Device.lockoutBegin_closed hP | split) | split | intro _ | dsimp only)

theorem backupToVbak_closed {d : Device} (hPd : P d) : P (backupToVbak d) := by
  unfold backupToVbak
  (try dsimp only)
  repeat' (first | with_reducible assumption | with_reducible exact fun _ hx => hx | with_reducible apply Device.showCharging_closed hP | with_reducible apply Device.lockoutBegin_closed hP | with_reducible apply hP.put | (with_reducible apply hP.lit <;> first | with_reducible assumption | exact id | exact fun _ => rfl | with_reducible exact fun _ hx => hx | with_reducible apply Device.showCharging_closed hP | with_reducible apply Device.lockoutBegin_closed hP | with_reducible apply hP.put | split) | split | intro _ | dsimp only)

theorem backupToAon_closed {d : Device} (hPd : P d) : P (backupToAon d) := by
  unfold backupToAon
  (try dsimp only)
  repeat' (first | with_reducible assumption | with_reducible exact fun _ hx => hx | with_reducible apply Device.showCharging_closed hP | with_reducible apply Closed.when | with_reducible apply hP.put | (with_reducible apply hP.lit <;> first | with_reducible assumption | exact id | exact fun _ => rfl | with_reducible exact fun _ hx => hx | with_reducible apply Device.showCharging_closed hP | with_reducible apply Closed.when | with_reducible apply hP.put | split) | split | intro _ | dsimp only)

theorem lockoutEnd_closed {d : Device} (hPd : P d) : P (lockoutEnd d) := by
  unfold lockoutEnd
  (try dsimp only)
  repeat' (first | with_reducible assumption | with_reducible exact fun _ hx => hx | with_reducible apply hP.put | (with_reducible apply hP.lit <;> first | with_reducible assumption | exact id | exact fun _ => rfl | with_reducible exact fun _ hx => hx | with_reducible apply hP.put | split) | split | intro _ | dsimp only)

theorem chargerStart_closed {d : Device} (hPd : P d) : P (chargerStart d) := by
  unfold chargerStart
  (try dsimp only)
  repeat' (first | with_reducible assumption | with_reducible exact fun _ hx => hx | with_reducible apply Device.showCharging_closed hP | (with_reducible apply hP.lit <;> first | with_reducible assumption | exact id | exact fun _ => rfl | with_reducible exact fun _ hx => hx | with_reducible apply Device.showCharging_closed hP | split) | split | intro _ | dsimp only)

theorem chargerThreshold_closed {mv : Nat} {d : Device} (hPd : P d) : P (chargerThreshold mv d) := by
  unfold chargerThreshold
  (try dsimp only)
  repeat' (first | with_reducible assumption | with_reducible exact fun _ hx => hx | with_reducible apply Device.showCharging_closed hP | (with_reducible apply hP.lit <;> first | with_reducible assumption | exact id | exact fun _ => rfl | with_reducible exact fun _ hx => hx | with_reducible apply Device.showCharging_closed hP | split) | split | intro _ | dsimp only)

theorem vbakCheck_closed {mv : Nat} {d : Device} (hPd : P d) : P (vbakCheck mv d) := by
  unfold vbakCheck
  (try dsimp only)
  repeat' (first | with_reducible assumption | with_reducible exact fun _ hx => hx | with_reducible apply Closed.when | with_reducible apply hP.putB | with_reducible apply Device.irq_closed hP | (with_reducible apply hP.lit <;> first | with_reducible assumption | exact id | exact fun _ => rfl | with_reducible exact fun _ hx => hx | with_reducible apply Closed.when | with_reducible apply hP.putB | with_reducible apply Device.irq_closed hP | split) | split | intro _ | dsimp only)

theorem vaonLoss_closed {d : Device} (hPd : P d) : P (vaonLoss d) := by
  unfold vaonLoss
  (try dsimp only)
  repeat' (first | with_reducible assumption | with_reducible exact fun _ hx => hx | with_reducible apply hP.put | with_reducible apply hP.wr | with_reducible apply Device.irq_closed hP | with_reducible apply Device.showWakeLeft_closed hP | (with_reducible apply hP.lit <;> first | with_reducible assumption | exact id | exact fun _ => rfl | with_reducible exact fun _ hx => hx | with_reducible apply hP.put | with_reducible apply hP.wr | with_reducible apply Device.irq_closed hP | with_reducible apply Device.showWakeLeft_closed hP | split) | split | intro _ | dsimp only)

theorem vaonLossRelease_closed {d : Device} (hPd : P d) : P (vaonLossRelease d) := by
  unfold vaonLossRelease
  (try dsimp only)
  repeat' (first | with_reducible assumption | with_reducible exact fun _ hx => hx | (with_reducible apply hP.lit <;> first | with_reducible assumption | exact id | exact fun _ => rfl | with_reducible exact fun _ hx => hx | split) | split | intro _ | dsimp only)

theorem rtcWritten_closed {off : Nat} {v : Word} {old : Device} {d : Device} (hPd : P d) : P (rtcWritten off v old d) := by
  unfold rtcWritten
  (try dsimp only)
  repeat' (first | with_reducible assumption | with_reducible exact fun _ hx => hx | with_reducible apply Closed.when | with_reducible apply hP.put | with_reducible apply Device.showCharging_closed hP | (with_reducible apply hP.lit <;> first | with_reducible assumption | exact id | exact fun _ => rfl | with_reducible exact fun _ hx => hx | with_reducible apply Closed.when | with_reducible apply hP.put | with_reducible apply Device.showCharging_closed hP | split) | split | intro _ | dsimp only)

/-! ### Ssps -/

theorem Device.sspsLevels_closed {d : Device} {old : Device} (hPd : P d) : P (Device.sspsLevels d old) := by
  unfold Device.sspsLevels
  (try dsimp only)
  repeat' (first | with_reducible assumption | with_reducible exact fun _ hx => hx | with_reducible apply Closed.when | with_reducible apply hP.put | with_reducible apply Device.irq_closed hP | (with_reducible apply hP.lit <;> first | with_reducible assumption | exact id | exact fun _ => rfl | with_reducible exact fun _ hx => hx | with_reducible apply Closed.when | with_reducible apply hP.put | with_reducible apply Device.irq_closed hP | split) | split | intro _ | dsimp only)

theorem Device.sspsFlag_closed {d : Device} {f : Fld} (hPd : P d) : P (Device.sspsFlag d f) := by
  unfold Device.sspsFlag
  (try dsimp only)
  repeat' (first | with_reducible assumption | with_reducible exact fun _ hx => hx | with_reducible apply Device.irq_closed hP | with_reducible apply hP.put | (with_reducible apply hP.lit <;> first | with_reducible assumption | exact id | exact fun _ => rfl | with_reducible exact fun _ hx => hx | with_reducible apply Device.irq_closed hP | with_reducible apply hP.put | split) | split | intro _ | dsimp only)

theorem sspsSelect_closed {d : Device} (hPd : P d) : P (sspsSelect d) := by
  unfold sspsSelect
  (try dsimp only)
  repeat' (first | with_reducible assumption | with_reducible exact fun _ hx => hx | with_reducible apply Device.wakeEdge_closed hP | (with_reducible apply hP.lit <;> first | with_reducible assumption | exact id | exact fun _ => rfl | with_reducible exact fun _ hx => hx | with_reducible apply Device.wakeEdge_closed hP | split) | split | intro _ | dsimp only)

theorem Device.sspsPush_closed {d : Device} {w : Nat} (hPd : P d) : P (Device.sspsPush d w) := by
  unfold Device.sspsPush
  (try dsimp only)
  repeat' (first | with_reducible assumption | with_reducible exact fun _ hx => hx | with_reducible apply hP.wr | with_reducible apply Device.sspsFlag_closed hP | (with_reducible apply hP.lit <;> first | with_reducible assumption | exact id | exact fun _ => rfl | with_reducible exact fun _ hx => hx | with_reducible apply hP.wr | with_reducible apply Device.sspsFlag_closed hP | split) | split | intro _ | dsimp only)

theorem Device.sspsPop_closed {d : Device} (hPd : P d) : P (Device.sspsPop d) := by
  unfold Device.sspsPop
  (try dsimp only)
  repeat' (first | with_reducible assumption | with_reducible exact fun _ hx => hx | with_reducible apply hP.wr | (with_reducible apply hP.lit <;> first | with_reducible assumption | exact id | exact fun _ => rfl | with_reducible exact fun _ hx => hx | with_reducible apply hP.wr | split) | split | intro _ | dsimp only)

theorem sspsRelease_closed {mosi : List Bool} {d : Device} (hPd : P d) : P (sspsRelease mosi d) := by
  unfold sspsRelease
  (try dsimp only)
  repeat' (first | with_reducible assumption | with_reducible exact fun _ hx => hx | with_reducible apply Closed.forAll | with_reducible apply Device.sspsPush_closed hP | with_reducible apply Device.sspsFlag_closed hP | with_reducible apply Device.sspsPop_closed hP | with_reducible apply Device.sspsLevels_closed hP | with_reducible apply hP.addWrap | (with_reducible apply hP.lit <;> first | with_reducible assumption | exact id | exact fun _ => rfl | with_reducible exact fun _ hx => hx | with_reducible apply Closed.forAll | with_reducible apply Device.sspsPush_closed hP | with_reducible apply Device.sspsFlag_closed hP | with_reducible apply Device.sspsPop_closed hP | with_reducible apply Device.sspsLevels_closed hP | with_reducible apply hP.addWrap | split) | split | intro _ | dsimp only)

theorem sspsWritten_closed {off : Nat} {old : Device} {d : Device} (hPd : P d) : P (sspsWritten off old d) := by
  unfold sspsWritten
  (try dsimp only)
  repeat' (first | with_reducible assumption | with_reducible exact fun _ hx => hx | with_reducible apply Device.sspsLevels_closed hP | (with_reducible apply hP.lit <;> first | with_reducible assumption | exact id | exact fun _ => rfl | with_reducible exact fun _ hx => hx | with_reducible apply Device.sspsLevels_closed hP | split) | split | intro _ | dsimp only)

theorem sspsBlockReset_closed {d : Device} (hPd : P d) : P (sspsBlockReset d) := by
  unfold sspsBlockReset
  (try dsimp only)
  repeat' (first | with_reducible assumption | with_reducible exact fun _ hx => hx | (with_reducible apply hP.lit <;> first | with_reducible assumption | exact id | exact fun _ => rfl | with_reducible exact fun _ hx => hx | split) | split | intro _ | dsimp only)

/-! ### Apply -/

theorem hbusWritten_closed {off : Nat} {v : Word} {d : Device} (hPd : P d) : P (hbusWritten off v d) := by
  unfold hbusWritten
  split
  · exact hPd
  · have h1 := Closed.when d (v.getLsbD 8) _ (fun x hx => hP.wr x (ignCount (bitsOf v 7 0)) 0 hx) hPd
    have h2 := Closed.when _ (v.getLsbD 9) _ (fun x hx => hP.wr _ hbusLastIgn 0 (Closed.forAll x (List.range 256) _
      (fun y p hy => hP.wr y (ignCount p) 0 hy) hx)) h1
    have h3 := Closed.when _ (v.getLsbD 10) _ (fun x hx => hP.wr _ hbusOffReads 0 (hP.wr x hbusOffCount 0 hx)) h2
    have h4 := Closed.when _ (v.getLsbD 11) _ (fun x hx => hP.wr x hbusUnmappedCount 0 hx) h3
    exact Closed.when _ (v.getLsbD 12) _ (fun x hx => hP.put _ fHbusStatQpeak 0 (hP.wr x hbusTimeoutCount 0 hx)) h4

theorem Device.blockWritten_closed {d : Device} {old : Device} {p : Nat} {off : Nat} {v : Word} {finds : KlGroupFinds} (hPd : P d) : P (Device.blockWritten d old p off v finds) := by
  unfold Device.blockWritten
  (try dsimp only)
  repeat' (first | with_reducible assumption | with_reducible exact fun _ hx => hx | with_reducible apply pilWritten_closed hP | with_reducible apply pathWritten_closed hP | with_reducible apply sesWritten_closed hP | with_reducible apply sysWritten_closed hP | with_reducible apply rstWritten_closed hP | with_reducible apply pwrWritten_closed hP | with_reducible apply hbusWritten_closed hP | with_reducible apply secWritten_closed hP | with_reducible apply optWritten_closed hP | with_reducible apply rtcWritten_closed hP | with_reducible apply tideWritten_closed hP | with_reducible apply tmWritten_closed hP | with_reducible apply hkWritten_closed hP | with_reducible apply sspmWritten_closed hP | with_reducible apply sspsWritten_closed hP | with_reducible apply pinsWritten_closed hP | with_reducible apply calWritten_closed hP | with_reducible apply repWritten_closed hP | with_reducible apply reglWritten_closed hP | with_reducible apply carWritten_closed hP | with_reducible apply txsWritten_closed hP | with_reducible apply bfWritten_closed hP | with_reducible apply schedWritten_closed hP | with_reducible apply ringWritten_closed hP | with_reducible apply manWritten_closed hP | with_reducible apply plWritten_closed hP | with_reducible apply klWritten_closed hP | with_reducible apply synWritten_closed hP | with_reducible apply watchWritten_closed hP | (with_reducible apply hP.lit <;> first | with_reducible assumption | exact id | exact fun _ => rfl | with_reducible exact fun _ hx => hx | with_reducible apply pilWritten_closed hP | with_reducible apply pathWritten_closed hP | with_reducible apply sesWritten_closed hP | with_reducible apply sysWritten_closed hP | with_reducible apply rstWritten_closed hP | with_reducible apply pwrWritten_closed hP | with_reducible apply hbusWritten_closed hP | with_reducible apply secWritten_closed hP | with_reducible apply optWritten_closed hP | with_reducible apply rtcWritten_closed hP | with_reducible apply tideWritten_closed hP | with_reducible apply tmWritten_closed hP | with_reducible apply hkWritten_closed hP | with_reducible apply sspmWritten_closed hP | with_reducible apply sspsWritten_closed hP | with_reducible apply pinsWritten_closed hP | with_reducible apply calWritten_closed hP | with_reducible apply repWritten_closed hP | with_reducible apply reglWritten_closed hP | with_reducible apply carWritten_closed hP | with_reducible apply txsWritten_closed hP | with_reducible apply bfWritten_closed hP | with_reducible apply schedWritten_closed hP | with_reducible apply ringWritten_closed hP | with_reducible apply manWritten_closed hP | with_reducible apply plWritten_closed hP | with_reducible apply klWritten_closed hP | with_reducible apply synWritten_closed hP | with_reducible apply watchWritten_closed hP | split) | split | intro _ | dsimp only)

theorem Device.enableStart_closed {d : Device} {p : Nat} (hPd : P d) : P (Device.enableStart d p) := by
  unfold Device.enableStart
  (try dsimp only)
  repeat' (first | with_reducible assumption | with_reducible exact fun _ hx => hx | with_reducible apply Device.pathStart_closed hP | with_reducible apply hP.put | with_reducible apply Device.sesStart_closed hP | with_reducible apply Device.pilEnable_closed hP | (with_reducible apply hP.lit <;> first | with_reducible assumption | exact id | exact fun _ => rfl | with_reducible exact fun _ hx => hx | with_reducible apply Device.pathStart_closed hP | with_reducible apply hP.put | with_reducible apply Device.sesStart_closed hP | with_reducible apply Device.pilEnable_closed hP | split) | split | intro _ | dsimp only)

theorem Device.enableStop_closed {d : Device} {p : Nat} {was : Bool} (hPd : P d) : P (Device.enableStop d p was) := by
  unfold Device.enableStop
  (try dsimp only)
  repeat' (first | with_reducible assumption | with_reducible exact fun _ hx => hx | with_reducible apply Device.pilDisable_closed hP | with_reducible apply hP.put | with_reducible apply Device.pathStop_closed hP | with_reducible apply Device.sesStop_closed hP | (with_reducible apply hP.lit <;> first | with_reducible assumption | exact id | exact fun _ => rfl | with_reducible exact fun _ hx => hx | with_reducible apply Device.pilDisable_closed hP | with_reducible apply hP.put | with_reducible apply Device.pathStop_closed hP | with_reducible apply Device.sesStop_closed hP | split) | split | intro _ | dsimp only)

theorem Device.blockStop_closed {d : Device} {p : Nat} (hPd : P d) : P (Device.blockStop d p) := by
  unfold Device.blockStop
  (try dsimp only)
  repeat' (first | with_reducible assumption | with_reducible exact fun _ hx => hx | with_reducible apply pathBlockReset_closed hP | with_reducible apply sesBlockReset_closed hP | with_reducible apply tmBlockReset_closed hP | with_reducible apply hkBlockReset_closed hP | with_reducible apply sspsBlockReset_closed hP | with_reducible apply pinsBlockReset_closed hP | with_reducible apply carBlockReset_closed hP | with_reducible apply txsBlockReset_closed hP | with_reducible apply manBlockReset_closed hP | with_reducible apply plBlockReset_closed hP | (with_reducible apply hP.lit <;> first | with_reducible assumption | exact id | exact fun _ => rfl | with_reducible exact fun _ hx => hx | with_reducible apply pathBlockReset_closed hP | with_reducible apply sesBlockReset_closed hP | with_reducible apply tmBlockReset_closed hP | with_reducible apply hkBlockReset_closed hP | with_reducible apply sspsBlockReset_closed hP | with_reducible apply pinsBlockReset_closed hP | with_reducible apply carBlockReset_closed hP | with_reducible apply txsBlockReset_closed hP | with_reducible apply manBlockReset_closed hP | with_reducible apply plBlockReset_closed hP | split) | split | intro _ | dsimp only)

theorem Device.blockFresh_closed {d : Device} {old : Device} {p : Nat} (hPd : P d) : P (Device.blockFresh d old p) := by
  unfold Device.blockFresh
  (try dsimp only)
  repeat' (first | with_reducible assumption | with_reducible exact fun _ hx => hx | with_reducible apply Device.showSpares_closed hP | with_reducible apply Device.reglChanged_closed hP | with_reducible apply Device.showStreams_closed hP | with_reducible apply hP.put | with_reducible apply Device.hkShow_closed hP | with_reducible apply sspmBlockReset_closed hP | with_reducible apply calBlockReset_closed hP | with_reducible apply bfBlockReset_closed hP | with_reducible apply Closed.forAll | with_reducible apply Device.noiseRestart_closed hP | with_reducible apply Device.groupsStale_closed hP | with_reducible apply Device.ringFreed_closed hP | with_reducible apply Device.ringLevel_closed hP | with_reducible apply Device.manLevel_closed hP | with_reducible apply watchBlockReset_closed hP | (with_reducible apply hP.lit <;> first | with_reducible assumption | exact id | exact fun _ => rfl | with_reducible exact fun _ hx => hx | with_reducible apply Device.showSpares_closed hP | with_reducible apply Device.reglChanged_closed hP | with_reducible apply Device.showStreams_closed hP | with_reducible apply hP.put | with_reducible apply Device.hkShow_closed hP | with_reducible apply sspmBlockReset_closed hP | with_reducible apply calBlockReset_closed hP | with_reducible apply bfBlockReset_closed hP | with_reducible apply Closed.forAll | with_reducible apply Device.noiseRestart_closed hP | with_reducible apply Device.groupsStale_closed hP | with_reducible apply Device.ringFreed_closed hP | with_reducible apply Device.ringLevel_closed hP | with_reducible apply Device.manLevel_closed hP | with_reducible apply watchBlockReset_closed hP | split) | split | intro _ | dsimp only)

theorem Device.blockReset_closed {d : Device} {p : Nat} (hPd : P d) : P (Device.blockReset d p) := by
  unfold Device.blockReset
  (try dsimp only)
  repeat' (first | with_reducible assumption | with_reducible exact fun _ hx => hx | with_reducible apply Device.resetIrqWords_closed hP | with_reducible apply Device.resetBlockWords_closed hP | with_reducible apply Device.blockStop_closed hP | with_reducible apply hP.put | with_reducible apply Device.blockFresh_closed hP | (with_reducible apply hP.lit <;> first | with_reducible assumption | exact id | exact fun _ => rfl | with_reducible exact fun _ hx => hx | with_reducible apply Device.resetIrqWords_closed hP | with_reducible apply Device.resetBlockWords_closed hP | with_reducible apply Device.blockStop_closed hP | with_reducible apply hP.put | with_reducible apply Device.blockFresh_closed hP | split) | split | intro _ | dsimp only)

theorem Device.blockHold_closed {d : Device} {p : Nat} (hPd : P d) : P (Device.blockHold d p) := by
  unfold Device.blockHold
  (try dsimp only)
  repeat' (first | with_reducible assumption | with_reducible exact fun _ hx => hx | with_reducible apply hP.put | with_reducible apply Device.blockReset_closed hP | (with_reducible apply hP.lit <;> first | with_reducible assumption | exact id | exact fun _ => rfl | with_reducible exact fun _ hx => hx | with_reducible apply hP.put | with_reducible apply Device.blockReset_closed hP | split) | split | intro _ | dsimp only)

theorem Device.pageCtrlWrite_closed {d : Device} {p : Nat} {v : Word} (hPd : P d) : P (Device.pageCtrlWrite d p v) := by
  unfold Device.pageCtrlWrite
  (try dsimp only)
  repeat' (first | with_reducible assumption | with_reducible exact fun _ hx => hx | with_reducible apply hP.wr | with_reducible apply hP.put | with_reducible apply Device.blockHold_closed hP | with_reducible apply Closed.when | with_reducible apply Device.blockReset_closed hP | with_reducible apply Device.enableStart_closed hP | with_reducible apply Device.enableStop_closed hP | (with_reducible apply hP.lit <;> first | with_reducible assumption | exact id | exact fun _ => rfl | with_reducible exact fun _ hx => hx | with_reducible apply hP.wr | with_reducible apply hP.put | with_reducible apply Device.blockHold_closed hP | with_reducible apply Closed.when | with_reducible apply Device.blockReset_closed hP | with_reducible apply Device.enableStart_closed hP | with_reducible apply Device.enableStop_closed hP | split) | split | intro _ | dsimp only)

theorem Device.blockRelease_closed {d : Device} {p : Nat} (hPd : P d) : P (Device.blockRelease d p) := by
  unfold Device.blockRelease
  (try dsimp only)
  repeat' (first | with_reducible assumption | with_reducible exact fun _ hx => hx | with_reducible apply Device.releaseBlock_closed hP | with_reducible apply Device.enableStart_closed hP | (with_reducible apply hP.lit <;> first | with_reducible assumption | exact id | exact fun _ => rfl | with_reducible exact fun _ hx => hx | with_reducible apply Device.releaseBlock_closed hP | with_reducible apply Device.enableStart_closed hP | split) | split | intro _ | dsimp only)

theorem Device.islandRelease_closed {d : Device} {i : Nat} {cycles : Nat} (hPd : P d) : P (Device.islandRelease d i cycles) := by
  unfold Device.islandRelease
  (try dsimp only)
  repeat' (first | with_reducible assumption | with_reducible exact fun _ hx => hx | with_reducible apply Device.releaseIsland_closed hP | with_reducible apply Closed.forAll | with_reducible apply Device.enableStart_closed hP | (with_reducible apply hP.lit <;> first | with_reducible assumption | exact id | exact fun _ => rfl | with_reducible exact fun _ hx => hx | with_reducible apply Device.releaseIsland_closed hP | with_reducible apply Closed.forAll | with_reducible apply Device.enableStart_closed hP | split) | split | intro _ | dsimp only)

theorem Device.ignored_closed {d : Device} {a : Nat} (hPd : P d) : P (Device.ignored d a) := by
  unfold Device.ignored
  (try dsimp only)
  repeat' (first | with_reducible assumption | with_reducible exact fun _ hx => hx | with_reducible apply hP.put | with_reducible apply hP.count | with_reducible apply Device.sync_closed hP | with_reducible apply Device.irq_closed hP | (with_reducible apply hP.lit <;> first | with_reducible assumption | exact id | exact fun _ => rfl | with_reducible exact fun _ hx => hx | with_reducible apply hP.put | with_reducible apply hP.count | with_reducible apply Device.sync_closed hP | with_reducible apply Device.irq_closed hP | split) | split | intro _ | dsimp only)

theorem Device.irqEnWrite_closed {d : Device} {p : Nat} {v : Word} (hPd : P d) : P (Device.irqEnWrite d p v) := by
  unfold Device.irqEnWrite
  (try dsimp only)
  repeat' (first | with_reducible assumption | with_reducible exact fun _ hx => hx | with_reducible apply hP.wr | with_reducible apply Closed.forAll | with_reducible apply Device.irq_closed hP | (with_reducible apply hP.lit <;> first | with_reducible assumption | exact id | exact fun _ => rfl | with_reducible exact fun _ hx => hx | with_reducible apply hP.wr | with_reducible apply Closed.forAll | with_reducible apply Device.irq_closed hP | split) | split | intro _ | dsimp only)

theorem Device.writeEffect_closed {d : Device} {x : Posted} {finds : KlGroupFinds} (hPd : P d) : P (Device.writeEffect d x finds) := by
  unfold Device.writeEffect
  (try dsimp only)
  repeat' (first | with_reducible assumption | with_reducible exact fun _ hx => hx | with_reducible apply Device.pageCtrlWrite_closed hP | with_reducible apply Device.irqEnWrite_closed hP | with_reducible apply hP.wr | with_reducible apply Device.blockWritten_closed hP | with_reducible apply Device.store_closed hP | (with_reducible apply hP.lit <;> first | with_reducible assumption | exact id | exact fun _ => rfl | with_reducible exact fun _ hx => hx | with_reducible apply Device.pageCtrlWrite_closed hP | with_reducible apply Device.irqEnWrite_closed hP | with_reducible apply hP.wr | with_reducible apply Device.blockWritten_closed hP | with_reducible apply Device.store_closed hP | split) | split | intro _ | dsimp only)

theorem Device.applyWord_closed {d : Device} {x : Posted} {finds : KlGroupFinds} (hPd : P d) : P (Device.applyWord d x finds) := by
  unfold Device.applyWord
  (try dsimp only)
  repeat' (first | with_reducible assumption | with_reducible exact fun _ hx => hx | with_reducible apply Device.writeEffect_closed hP | with_reducible apply Device.sync_closed hP | with_reducible apply Closed.when | with_reducible apply Device.idleRestart_closed hP | with_reducible apply Device.ignored_closed hP | (with_reducible apply hP.lit <;> first | with_reducible assumption | exact id | exact fun _ => rfl | with_reducible exact fun _ hx => hx | with_reducible apply Device.writeEffect_closed hP | with_reducible apply Device.sync_closed hP | with_reducible apply Closed.when | with_reducible apply Device.idleRestart_closed hP | with_reducible apply Device.ignored_closed hP | split) | split | intro _ | dsimp only)

theorem Device.applyNext_closed {d : Device} {i : Nat} {finds : KlGroupFinds} (hPd : P d) : P (Device.applyNext d i finds) := by
  unfold Device.applyNext
  (try dsimp only)
  repeat' (first | with_reducible assumption | with_reducible exact fun _ hx => hx | with_reducible apply Device.applyWord_closed hP | with_reducible apply Device.showQueue_closed hP | (with_reducible apply hP.lit <;> first | with_reducible assumption | exact id | exact fun _ => rfl | with_reducible exact fun _ hx => hx | with_reducible apply Device.applyWord_closed hP | with_reducible apply Device.showQueue_closed hP | split) | split | intro _ | dsimp only)

theorem Device.drainIsland_closed {d : Device} {i : Nat} {finds : KlGroupFinds} {y3 : Nat} (hPd : P d) : P (Device.drainIsland d i finds y3) := by
  induction y3 generalizing d with
  | zero => exact hPd
  | succ n ih =>
    unfold Device.drainIsland
    (try dsimp only)
    repeat' (first | with_reducible assumption | with_reducible exact fun _ hx => hx | with_reducible apply ih | with_reducible apply Device.applyNext_closed hP | (with_reducible apply hP.lit <;> first | with_reducible assumption | exact id | exact fun _ => rfl | with_reducible exact fun _ hx => hx | with_reducible apply Device.applyNext_closed hP | split) | split | intro _ | dsimp only)

theorem Device.followLevels_closed {d : Device} (hPd : P d) : P (Device.followLevels d) := by
  unfold Device.followLevels
  (try dsimp only)
  repeat' (first | with_reducible assumption | with_reducible exact fun _ hx => hx | with_reducible apply Closed.forAll | with_reducible apply Closed.when | with_reducible apply Device.ringLevel_closed hP | with_reducible apply Device.manLevel_closed hP | with_reducible apply Device.irqLevel_closed hP | (with_reducible apply hP.lit <;> first | with_reducible assumption | exact id | exact fun _ => rfl | with_reducible exact fun _ hx => hx | with_reducible apply Closed.forAll | with_reducible apply Closed.when | with_reducible apply Device.ringLevel_closed hP | with_reducible apply Device.manLevel_closed hP | with_reducible apply Device.irqLevel_closed hP | split) | split | intro _ | dsimp only)

theorem Device.followHold_closed {d : Device} (hPd : P d) : P (Device.followHold d) := by
  unfold Device.followHold
  (try dsimp only)
  repeat' (first | with_reducible assumption | with_reducible exact fun _ hx => hx | with_reducible apply hP.putB | (with_reducible apply hP.lit <;> first | with_reducible assumption | exact id | exact fun _ => rfl | with_reducible exact fun _ hx => hx | with_reducible apply hP.putB | split) | split | intro _ | dsimp only)

theorem Device.followStreams_closed {d : Device} (hPd : P d) : P (Device.followStreams d) := by
  unfold Device.followStreams
  (try dsimp only)
  repeat' (first | with_reducible assumption | with_reducible exact fun _ hx => hx | with_reducible apply Closed.forAll | with_reducible apply Device.streamEnd_closed hP | (with_reducible apply hP.lit <;> first | with_reducible assumption | exact id | exact fun _ => rfl | with_reducible exact fun _ hx => hx | with_reducible apply Closed.forAll | with_reducible apply Device.streamEnd_closed hP | split) | split | intro _ | dsimp only)

theorem Device.followBusy_closed {d : Device} (hPd : P d) : P (Device.followBusy d) := by
  unfold Device.followBusy
  (try dsimp only)
  repeat' (first | with_reducible assumption | with_reducible exact fun _ hx => hx | with_reducible apply hP.putB | (with_reducible apply hP.lit <;> first | with_reducible assumption | exact id | exact fun _ => rfl | with_reducible exact fun _ hx => hx | with_reducible apply hP.putB | split) | split | intro _ | dsimp only)

theorem Device.settle_closed {d : Device} (hPd : P d) : P (Device.settle d) := by
  unfold Device.settle
  (try dsimp only)
  repeat' (first | with_reducible assumption | with_reducible exact fun _ hx => hx | with_reducible apply Device.followCal_closed hP | with_reducible apply Device.followCoex_closed hP | with_reducible apply Device.followHold_closed hP | with_reducible apply Device.followHostClock_closed hP | with_reducible apply Device.followWatch_closed hP | with_reducible apply Device.followPower_closed hP | with_reducible apply Device.showUrgent_closed hP | with_reducible apply Device.followStreams_closed hP | with_reducible apply Device.followQueue_closed hP | with_reducible apply Device.followGroup_closed hP | with_reducible apply Device.followFormat_closed hP | with_reducible apply Device.showDpdValid_closed hP | with_reducible apply Device.followInterrupts_closed hP | with_reducible apply Device.followLevels_closed hP | with_reducible apply Device.followBusy_closed hP | (with_reducible apply hP.lit <;> first | with_reducible assumption | exact id | exact fun _ => rfl | with_reducible exact fun _ hx => hx | with_reducible apply Device.followCal_closed hP | with_reducible apply Device.followCoex_closed hP | with_reducible apply Device.followHold_closed hP | with_reducible apply Device.followHostClock_closed hP | with_reducible apply Device.followWatch_closed hP | with_reducible apply Device.followPower_closed hP | with_reducible apply Device.showUrgent_closed hP | with_reducible apply Device.followStreams_closed hP | with_reducible apply Device.followQueue_closed hP | with_reducible apply Device.followGroup_closed hP | with_reducible apply Device.followFormat_closed hP | with_reducible apply Device.showDpdValid_closed hP | with_reducible apply Device.followInterrupts_closed hP | with_reducible apply Device.followLevels_closed hP | with_reducible apply Device.followBusy_closed hP | split) | split | intro _ | dsimp only)

/-! ### HostBus -/

theorem Device.hostWrite_closed {d : Device} {a : Nat} {v : Word} {be : BitVec 4} (hPd : P d) : P (Device.hostWrite d a v be) := by
  unfold Device.hostWrite
  (try dsimp only)
  repeat' (first | with_reducible assumption | with_reducible exact fun _ hx => hx | (with_reducible refine Device.pageWrite_closed hP ?_ _ _ (by assumption)) | (with_reducible apply hP.lit <;> first | with_reducible assumption | exact id | exact fun _ => rfl | with_reducible exact fun _ hx => hx | (with_reducible refine Device.pageWrite_closed hP ?_ _ _ (by assumption)) | split) | split | intro _ | dsimp only)

theorem Device.ownWrite_closed {d : Device} {a : Nat} {v : Word} {be : BitVec 4} {finds : KlGroupFinds} (hPd : P d) : P (Device.ownWrite d a v be finds) := by
  unfold Device.ownWrite
  (try dsimp only)
  repeat' (first | with_reducible assumption | with_reducible exact fun _ hx => hx | (with_reducible refine Device.pageWrite_closed hP ?_ _ _ (by assumption)) | with_reducible apply Device.drainIsland_closed hP | (with_reducible apply hP.lit <;> first | with_reducible assumption | exact id | exact fun _ => rfl | with_reducible exact fun _ hx => hx | (with_reducible refine Device.pageWrite_closed hP ?_ _ _ (by assumption)) | with_reducible apply Device.drainIsland_closed hP | split) | split | intro _ | dsimp only)

theorem Device.hostSend_closed {d : Device} {a : Nat} {w : RegWrite} (hPd : P d) : P (Device.hostSend d a w) := by
  unfold Device.hostSend
  (try dsimp only)
  repeat' (first | with_reducible assumption | with_reducible exact fun _ hx => hx | with_reducible apply Device.ownWrite_closed hP | (with_reducible apply hP.lit <;> first | with_reducible assumption | exact id | exact fun _ => rfl | with_reducible exact fun _ hx => hx | with_reducible apply Device.ownWrite_closed hP | split) | split | intro _ | dsimp only)

theorem Device.hostCmd_closed {d : Device} {w : RegWrite} {f : Fld} {n : Nat} (hPd : P d) : P (Device.hostCmd d w f n) := by
  unfold Device.hostCmd
  (try dsimp only)
  repeat' (first | with_reducible assumption | with_reducible exact fun _ hx => hx | with_reducible apply Device.ownWrite_closed hP | (with_reducible apply hP.lit <;> first | with_reducible assumption | exact id | exact fun _ => rfl | with_reducible exact fun _ hx => hx | with_reducible apply Device.ownWrite_closed hP | split) | split | intro _ | dsimp only)

theorem Device.hostBit_closed {d : Device} {f : Fld} {n : Nat} (hPd : P d) : P (Device.hostBit d f n) := by
  unfold Device.hostBit
  (try dsimp only)
  repeat' (first | with_reducible assumption | with_reducible exact fun _ hx => hx | with_reducible apply Device.ownWrite_closed hP | (with_reducible apply hP.lit <;> first | with_reducible assumption | exact id | exact fun _ => rfl | with_reducible exact fun _ hx => hx | with_reducible apply Device.ownWrite_closed hP | split) | split | intro _ | dsimp only)

theorem Device.hostChange_closed {d : Device} {f : Fld} {n : Nat} (hPd : P d) : P (Device.hostChange d f n) := by
  unfold Device.hostChange
  (try dsimp only)
  repeat' (first | with_reducible assumption | with_reducible exact fun _ hx => hx | with_reducible apply Device.ownWrite_closed hP | (with_reducible apply hP.lit <;> first | with_reducible assumption | exact id | exact fun _ => rfl | with_reducible exact fun _ hx => hx | with_reducible apply Device.ownWrite_closed hP | split) | split | intro _ | dsimp only)

theorem Device.registerWrite_closed {d : Device} {page : Nat} {off : Nat} {w : RegWrite} (hPd : P d) : P (Device.registerWrite d page off w) := by
  unfold Device.registerWrite
  (try dsimp only)
  repeat' (first | with_reducible assumption | with_reducible exact fun _ hx => hx | with_reducible apply Device.hostWrite_closed hP | with_reducible apply Device.unmappedWrite_closed hP | (with_reducible apply hP.lit <;> first | with_reducible assumption | exact id | exact fun _ => rfl | with_reducible exact fun _ hx => hx | with_reducible apply Device.hostWrite_closed hP | with_reducible apply Device.unmappedWrite_closed hP | split) | split | intro _ | dsimp only)

theorem Device.hostUnmapped_closed {d : Device} (hPd : P d) : P (Device.hostUnmapped d) := by
  unfold Device.hostUnmapped
  (try dsimp only)
  repeat' (first | with_reducible assumption | with_reducible exact fun _ hx => hx | with_reducible apply Device.unmappedWrite_closed hP | (with_reducible apply hP.lit <;> first | with_reducible assumption | exact id | exact fun _ => rfl | with_reducible exact fun _ hx => hx | with_reducible apply Device.unmappedWrite_closed hP | split) | split | intro _ | dsimp only)

theorem Device.manifestDiscard_closed {d : Device} (hPd : P d) : P (Device.manifestDiscard d) := by
  unfold Device.manifestDiscard
  (try dsimp only)
  repeat' (first | with_reducible assumption | with_reducible exact fun _ hx => hx | with_reducible apply hP.addSat | (with_reducible apply hP.lit <;> first | with_reducible assumption | exact id | exact fun _ => rfl | with_reducible exact fun _ hx => hx | with_reducible apply hP.addSat | split) | split | intro _ | dsimp only)

theorem Device.hostRead_closed {d : Device} {a : Nat} (hPd : P d) : P (Device.hostRead d a) := by
  unfold Device.hostRead
  (try dsimp only)
  repeat' (first | with_reducible assumption | with_reducible exact fun _ hx => hx | with_reducible apply Device.windowRead_closed hP | with_reducible refine snd2_of_eq (by assumption) ?_ | (with_reducible apply hP.lit <;> first | with_reducible assumption | exact id | exact fun _ => rfl | with_reducible exact fun _ hx => hx | with_reducible apply Device.windowRead_closed hP | with_reducible refine snd2_of_eq (by assumption) ?_ | split) | split | intro _ | dsimp only)

theorem Device.offRead_closed {d : Device} {page : Nat} {off : Nat} (hPd : P d) : P (Device.offRead d page off) := by
  unfold Device.offRead
  (try dsimp only)
  repeat' (first | with_reducible assumption | with_reducible exact fun _ hx => hx | with_reducible apply Device.hostRead_closed hP | (with_reducible apply hP.lit <;> first | with_reducible assumption | exact id | exact fun _ => rfl | with_reducible exact fun _ hx => hx | with_reducible apply Device.hostRead_closed hP | split) | split | intro _ | dsimp only)

theorem Device.memRead_closed {d : Device} {addr : Nat} {find : WordFind} (hPd : P d) : P (Device.memRead d addr find) := by
  unfold Device.memRead
  (try dsimp only)
  repeat' (first | with_reducible assumption | with_reducible exact fun _ hx => hx | with_reducible apply Device.readFound_closed hP | with_reducible apply Device.serveBus_closed hP | (with_reducible apply hP.lit <;> first | with_reducible assumption | exact id | exact fun _ => rfl | with_reducible exact fun _ hx => hx | with_reducible apply Device.readFound_closed hP | with_reducible apply Device.serveBus_closed hP | split) | split | intro _ | dsimp only)

theorem Device.memWrite_closed {d : Device} {addr : Nat} {w : RegWrite} (hPd : P d) : P (Device.memWrite d addr w) := by
  unfold Device.memWrite
  (try dsimp only)
  repeat' (first | with_reducible assumption | with_reducible exact fun _ hx => hx | with_reducible apply Device.sramWrite_closed hP | (with_reducible apply hP.lit <;> first | with_reducible assumption | exact id | exact fun _ => rfl | with_reducible exact fun _ hx => hx | with_reducible apply Device.sramWrite_closed hP | split) | split | intro _ | dsimp only)

theorem Device.windowXipRead_closed {d : Device} {addr : Nat} (hPd : P d) : P (Device.windowXipRead d addr) := by
  unfold Device.windowXipRead
  (try dsimp only)
  repeat' (first | with_reducible assumption | with_reducible exact fun _ hx => hx | with_reducible apply Device.xipReadBegin_closed hP | with_reducible apply hP.addSat | (with_reducible apply hP.lit <;> first | with_reducible assumption | exact id | exact fun _ => rfl | with_reducible exact fun _ hx => hx | with_reducible apply Device.xipReadBegin_closed hP | with_reducible apply hP.addSat | split) | split | intro _ | dsimp only)

theorem Device.windowXipWrite_closed {d : Device} {addr : Nat} {w : RegWrite} (hPd : P d) : P (Device.windowXipWrite d addr w) := by
  unfold Device.windowXipWrite
  (try dsimp only)
  repeat' (first | with_reducible assumption | with_reducible exact fun _ hx => hx | with_reducible apply Device.xipWriteBegin_closed hP | with_reducible apply Device.offWrite_closed hP | (with_reducible apply hP.lit <;> first | with_reducible assumption | exact id | exact fun _ => rfl | with_reducible exact fun _ hx => hx | with_reducible apply Device.xipWriteBegin_closed hP | with_reducible apply Device.offWrite_closed hP | split) | split | intro _ | dsimp only)

theorem Device.waitLimit_closed {d : Device} {link : Bool} (hPd : P d) : P (Device.waitLimit d link) := by
  unfold Device.waitLimit
  (try dsimp only)
  repeat' (first | with_reducible assumption | with_reducible exact fun _ hx => hx | with_reducible apply Device.plGoOn_closed hP | with_reducible apply Device.entryLimit_closed hP | with_reducible apply Device.irq_closed hP | with_reducible apply hP.count | (with_reducible apply hP.lit <;> first | with_reducible assumption | exact id | exact fun _ => rfl | with_reducible exact fun _ hx => hx | with_reducible apply Device.plGoOn_closed hP | with_reducible apply Device.entryLimit_closed hP | with_reducible apply Device.irq_closed hP | with_reducible apply hP.count | split) | split | intro _ | dsimp only)

theorem Device.queueFreed_closed {d : Device} (hPd : P d) : P (Device.queueFreed d) := by
  unfold Device.queueFreed
  (try dsimp only)
  repeat' (first | with_reducible assumption | with_reducible exact fun _ hx => hx | with_reducible apply Device.enqueue_closed hP | (with_reducible apply hP.lit <;> first | with_reducible assumption | exact id | exact fun _ => rfl | with_reducible exact fun _ hx => hx | with_reducible apply Device.enqueue_closed hP | split) | split | intro _ | dsimp only)

theorem Device.writeAck_closed {d : Device} {p : Nat} (hPd : P d) : P (Device.writeAck d p) := by
  unfold Device.writeAck
  (try dsimp only)
  repeat' (first | with_reducible assumption | with_reducible exact fun _ hx => hx | with_reducible apply hP.put | (with_reducible apply hP.lit <;> first | with_reducible assumption | exact id | exact fun _ => rfl | with_reducible exact fun _ hx => hx | with_reducible apply hP.put | split) | split | intro _ | dsimp only)

theorem Device.noiseWord_closed {d : Device} {p : Nat} {c : Nat} {v : Word} (hPd : P d) : P (Device.noiseWord d p c v) := by
  unfold Device.noiseWord
  (try dsimp only)
  repeat' (first | with_reducible assumption | with_reducible exact fun _ hx => hx | with_reducible apply hP.wr | with_reducible apply hP.put | (with_reducible apply hP.lit <;> first | with_reducible assumption | exact id | exact fun _ => rfl | with_reducible exact fun _ hx => hx | with_reducible apply hP.wr | with_reducible apply hP.put | split) | split | intro _ | dsimp only)

theorem Device.mirrorSend_closed {d : Device} {p : Nat} {offs : List (Fin 1024)} {noise : Word} (hPd : P d) : P (Device.mirrorSend d p offs noise) := by
  unfold Device.mirrorSend
  (try dsimp only)
  repeat' (first | with_reducible assumption | with_reducible exact fun _ hx => hx | with_reducible apply Closed.forAll | with_reducible apply Device.noiseWord_closed hP | with_reducible apply Device.sync_closed hP | (with_reducible apply hP.lit <;> first | with_reducible assumption | exact id | exact fun _ => rfl | with_reducible exact fun _ hx => hx | with_reducible apply Closed.forAll | with_reducible apply Device.noiseWord_closed hP | with_reducible apply Device.sync_closed hP | split) | split | intro _ | dsimp only)

theorem Device.shutdownEnd_closed {d : Device} {x : ShutdownOf} (hPd : P d) : P (Device.shutdownEnd d x) := by
  unfold Device.shutdownEnd
  (try dsimp only)
  repeat' (first | with_reducible assumption | with_reducible exact fun _ hx => hx | with_reducible apply powerDownEnd_closed hP | with_reducible apply sessionShutdownComplete_closed hP | with_reducible apply moveComplete_closed hP | with_reducible apply rampDownEnd_closed hP | with_reducible apply plDrainEnd_closed hP | with_reducible apply klDrainEnd_closed hP | (with_reducible apply hP.lit <;> first | with_reducible assumption | exact id | exact fun _ => rfl | with_reducible exact fun _ hx => hx | with_reducible apply powerDownEnd_closed hP | with_reducible apply sessionShutdownComplete_closed hP | with_reducible apply moveComplete_closed hP | with_reducible apply rampDownEnd_closed hP | with_reducible apply plDrainEnd_closed hP | with_reducible apply klDrainEnd_closed hP | split) | split | intro _ | dsimp only)

theorem Device.trigIn_closed {d : Device} {k : Nat} {high : Bool} (hPd : P d) : P (Device.trigIn d k high) := by
  unfold Device.trigIn
  (try dsimp only)
  repeat' (first | with_reducible assumption | with_reducible exact fun _ hx => hx | with_reducible apply Device.triggerEdge_closed hP | with_reducible apply hP.putB | with_reducible apply Closed.when | with_reducible apply Device.trigInForward_closed hP | with_reducible apply Device.trigOutFrom_closed hP | with_reducible apply Device.hkTriggerFrom_closed hP | (with_reducible apply hP.lit <;> first | with_reducible assumption | exact id | exact fun _ => rfl | with_reducible exact fun _ hx => hx | with_reducible apply Device.triggerEdge_closed hP | with_reducible apply hP.putB | with_reducible apply Closed.when | with_reducible apply Device.trigInForward_closed hP | with_reducible apply Device.trigOutFrom_closed hP | with_reducible apply Device.hkTriggerFrom_closed hP | split) | split | intro _ | dsimp only)

theorem Device.jtag_closed {d : Device} {g : JtagGroup} (hPd : P d) : P (Device.jtag d g) := by
  unfold Device.jtag
  (try dsimp only)
  repeat' (first | with_reducible assumption | with_reducible exact fun _ hx => hx | with_reducible apply Device.interlock_closed hP | with_reducible apply tamperEvent_closed hP | (with_reducible apply hP.lit <;> first | with_reducible assumption | exact id | exact fun _ => rfl | with_reducible exact fun _ hx => hx | with_reducible apply Device.interlock_closed hP | with_reducible apply tamperEvent_closed hP | split) | split | intro _ | dsimp only)

theorem Device.imgDataAccess_closed {d : Device} {w : Option RegWrite} (hPd : P d) : P (Device.imgDataAccess d w) := by
  unfold Device.imgDataAccess
  (try dsimp only)
  repeat' (first | with_reducible assumption | with_reducible exact fun _ hx => hx | with_reducible apply Device.hostSend_closed hP | with_reducible apply Device.hostRead_closed hP | (with_reducible apply hP.lit <;> first | with_reducible assumption | exact id | exact fun _ => rfl | with_reducible exact fun _ hx => hx | with_reducible apply Device.hostSend_closed hP | with_reducible apply Device.hostRead_closed hP | split) | split | intro _ | dsimp only)

theorem Device.releaseTo_closed {d : Device} {x : ReleaseTo} (hPd : P d) : P (Device.releaseTo d x) := by
  unfold Device.releaseTo
  (try dsimp only)
  repeat' (first | with_reducible assumption | with_reducible exact fun _ hx => hx | with_reducible apply Device.islandRelease_closed hP | with_reducible apply Device.blockRelease_closed hP | (with_reducible apply hP.lit <;> first | with_reducible assumption | exact id | exact fun _ => rfl | with_reducible exact fun _ hx => hx | with_reducible apply Device.islandRelease_closed hP | with_reducible apply Device.blockRelease_closed hP | split) | split | intro _ | dsimp only)

end Sys2Proof.Machine
end

