-- ==== Sys2Proof/Laws/Settle.lean ====
section
/-!
SUPPORT. What settling after a command leaves as the command left it.
-/
namespace Sys2Proof.Machine

/-- Does some field of `settleFields` take in bit `i` of word `a`? -/
def SettleBit (a i : Nat) : Prop := ∃ g ∈ settleFields, g.reg = a ∧ g.lo ≤ i ∧ i ≤ g.hi

/-- What settling keeps: every bit but those of `settleFields`, and every record but the watch's, the interrupt outputs', the calibration's paths and the link's admitted streams. -/
structure Settled (d e : Device) : Prop where
  bit : ∀ a i, ¬ SettleBit a i → (e.rd a).getLsbD i = (d.rd a).getLsbD i
  same : e = { d with regs := e.regs, watch := e.watch, balls := e.balls, linkSeen := e.linkSeen, linkNew := e.linkNew, cal := e.cal, pl := e.pl }
  calq : e.cal = { d.cal with paths := e.cal.paths }
  plq : e.pl = { d.pl with adm := e.pl.adm }

theorem Settled.refl (d : Device) : Settled d d := ⟨fun _ _ _ => rfl, rfl, rfl, rfl⟩

theorem Settled.trans {d e f : Device} (h : Settled d e) (k : Settled e f) : Settled d f := by
  refine ⟨fun a i ha => (k.bit a i ha).trans (h.bit a i ha), ?_, ?_, ?_⟩
  · rw [k.same, h.same]
  · rw [k.calq, h.calq]
  · rw [k.plq, h.plq]

/-- Does a field of `settleFields` cover field `f`? -/
def settleCovers (f : Fld) : Bool :=
  settleFields.any (fun g => decide (g.reg = f.reg) && decide (g.lo ≤ f.lo) && decide (f.hi ≤ g.hi)) && decide (f.lo ≤ f.hi) && decide (f.hi < 32)

theorem Settled.put {d e : Device} (h : Settled d e) (f : Fld) (n : Nat) (ha : settleCovers f = true) : Settled d (e.put f n) := by
  refine h.trans ⟨fun b i hb => ?_, rfl, rfl, rfl⟩
  simp only [settleCovers, Bool.and_eq_true, decide_eq_true_eq, List.any_eq_true] at ha
  obtain ⟨⟨⟨g, hg, ⟨hr, hlo⟩, hhi⟩, hle⟩, hlt⟩ := ha
  rw [Device.rd_put]
  split
  · rename_i hbr
    subst hbr
    rw [getLsbD_setBits _ _ _ _ _ hlt hle]
    split
    · rename_i hi
      exact absurd ⟨g, hg, hr, hlo.trans hi.1, hi.2.trans hhi⟩ hb
    · rfl
  · rfl

theorem Settled.wr {d e : Device} (h : Settled d e) (a : Nat) (v : Word) (ha : settleCovers ⟨a, 31, 0⟩ = true) : Settled d (e.wr a v) := by
  refine h.trans ⟨fun b i hb => ?_, rfl, rfl, rfl⟩
  simp only [settleCovers, Bool.and_eq_true, decide_eq_true_eq, List.any_eq_true] at ha
  obtain ⟨⟨⟨g, hg, ⟨hr, hlo⟩, hhi⟩, -⟩, -⟩ := ha
  rw [Device.rd_wr]
  split
  · rename_i hba
    subst hba
    by_cases hi : i < 32
    · exact absurd ⟨g, hg, hr, hlo.trans (Nat.zero_le i), (Nat.le_of_lt_succ hi).trans hhi⟩ hb
    · rw [BitVec.getLsbD_of_ge _ _ (by omega), BitVec.getLsbD_of_ge _ _ (by omega)]
  · rfl

theorem Settled.irq {d e : Device} (h : Settled d e) (p b : Nat) (ha : settleCovers ⟨irqStat p, b, b⟩ = true) : Settled d (e.irq p b) := by
  unfold Device.irq
  split
  · exact h.put _ _ ha
  · exact h

theorem Settled.irqLevel {d e : Device} (h : Settled d e) (p b : Nat) (c : Bool) (ha : settleCovers ⟨irqStat p, b, b⟩ = true)
    (hr : settleCovers ⟨irqRaw p, b, b⟩ = true) : Settled d (e.irqLevel p b c) := by
  unfold Device.irqLevel
  split
  · exact (h.put _ _ hr).irq p b ha
  · exact h.put _ _ hr

theorem Settled.when {d e : Device} (h : Settled d e) (c : Bool) (f : Device → Device) (hf : ∀ x, Settled x (f x)) :
    Settled d (e.when c f) := by
  cases c
  · exact h
  · exact h.trans (hf e)

theorem Settled.forAll {α : Type} {d e : Device} (h : Settled d e) (l : List α) (f : Device → α → Device)
    (hf : ∀ x, ∀ a ∈ l, Settled x (f x a)) : Settled d (e.forAll l f) := by
  induction l generalizing e with
  | nil => exact h
  | cons a t ih =>
    exact ih (h.trans (hf e a (by simp))) (fun x b hb => hf x b (by simp [hb]))

theorem settled_followPower (d : Device) : Settled d d.followPower := by
  have h : ∀ n, Settled d (d.pwrSetState n) := fun n => by
    unfold Device.pwrSetState
    split
    · exact .refl d
    · exact ((Settled.refl d).put fPwrStatState _ (by decide)).irq 0x03 _ (by decide)
  exact h _

theorem settled_watchGo (d : Device) (s : Nat) : Settled d (d.watchGo s) := by
  have h : Settled d (((d.put fWatchStatState s).put (fPsState 0x1E) s).put fWatchStatRun 0) :=
    (((Settled.refl d).put _ _ (by decide)).put _ _ (by decide)).put _ _ (by decide)
  unfold Device.watchGo
  split
  · exact h.trans ⟨fun _ _ _ => rfl, rfl, rfl, rfl⟩
  · exact h

theorem settled_followWatch (d : Device) : Settled d d.followWatch := by
  unfold Device.followWatch
  dsimp only
  split
  · have h := (Settled.refl d).when d.watch.looking (fun d => d.count fWatchCountsAbandoned)
      (fun x => (Settled.refl x).put _ _ (by decide))
    refine (h.trans ?_).trans (settled_watchGo _ _)
    exact ⟨fun _ _ _ => rfl, rfl, rfl, rfl⟩
  · split
    · exact settled_watchGo _ _
    · exact .refl d

theorem settled_followHostClock (d : Device) : Settled d d.followHostClock := by
  unfold Device.followHostClock
  split
  · exact (Settled.refl d).put _ _ (by decide)
  · exact .refl d

theorem settled_followHold (d : Device) : Settled d d.followHold := (Settled.refl d).put _ _ (by decide)

theorem settled_followCoex (d : Device) : Settled d d.followCoex :=
  ((((Settled.refl d).put _ _ (by decide)).put _ _ (by decide)).put _ _ (by decide)).put _ _ (by decide)

theorem settled_calReject (d : Device) (proc reason path point : Nat) : Settled d (d.calReject proc reason path point) :=
  (((Settled.refl d).wr _ _ (by decide)).put _ _ (by decide)).irq _ _ (by decide)

theorem settled_calEnd (d : Device) : Settled d d.calEnd :=
  (((Settled.refl d).put fCalStatBusy 0 (by decide)).put (fPsState 0x10) 0 (by decide)).trans ⟨fun _ _ _ => rfl, rfl, rfl, rfl⟩

theorem settled_followCal (d : Device) : Settled d d.followCal := by
  unfold Device.followCal
  split
  · exact .refl d
  · dsimp only
    split
    · exact (settled_calEnd d).trans (settled_calReject _ _ _ _ _)
    · exact .refl d

theorem settled_showDpdValid (d : Device) : Settled d d.showDpdValid := (Settled.refl d).put (fCalValid 7) _ (by decide)

theorem settled_followFormat (d : Device) : Settled d d.followFormat := by
  unfold Device.followFormat
  split
  · exact (Settled.refl d).irq _ _ (by decide)
  · exact .refl d

theorem settled_followGroup (d : Device) : Settled d d.followGroup := by
  unfold Device.followGroup Device.groupDue
  split
  · split
    · exact .refl d
    · exact (Settled.refl d).put _ _ (by decide)
  · exact .refl d

theorem followQueue_noRemote (d : Device) (h : d.NoRemote) : d.followQueue = d := by
  have hk : d.serveReqs 0 = d := rfl
  have hp : d.plServe 0 = d := rfl
  simp [Device.followQueue, h.1, hk, Device.plGoOn, Device.plWork, h.2, hp]

theorem settled_streamEnd (d : Device) (s : PlStream) : Settled d (d.streamEnd s) := by
  have h : Settled d (d.modPl (fun x => { x with adm := x.adm.filter (· != s) })) := ⟨fun _ _ _ => rfl, rfl, rfl, rfl⟩
  exact (((h.put _ _ (by decide)).put _ _ (by decide)).put _ _ (by decide)).put _ _ (by decide)

theorem settled_followStreams (d : Device) : Settled d d.followStreams := by
  refine (Settled.refl d).forAll _ _ (fun x s _ => ?_)
  split
  · split
    · exact .refl x
    · exact settled_streamEnd x _
  · exact .refl x

theorem settled_showUrgent (d : Device) : Settled d d.showUrgent :=
  (Settled.refl d).forAll _ _ (fun x n hn => (Settled.refl x).put _ _
    ((by decide : ∀ m ∈ List.range 16, settleCovers ⟨schedUrgent, m, m⟩ = true) n hn))

theorem settled_followBusy (d : Device) : Settled d d.followBusy :=
  (((((((Settled.refl d).put _ _ (by decide)).put _ _ (by decide)).put _ _ (by decide)).put _ _ (by decide)).put _ _
    (by decide)).put _ _ (by decide)).put _ _ (by decide)

theorem settled_followLevels (d : Device) : Settled d d.followLevels := by
  have h1 := (Settled.refl d).forAll (List.range 16) (fun d n => d.when (!d.pageInReset 0x19) (fun d => d.ringLevel n))
    (fun x n hn => (Settled.refl x).when _ _ (fun y => (Settled.refl y).irqLevel 0x19 n _
      ((by decide : ∀ m ∈ List.range 16, settleCovers ⟨irqStat 0x19, m, m⟩ = true) n hn)
      ((by decide : ∀ m ∈ List.range 16, settleCovers ⟨irqRaw 0x19, m, m⟩ = true) n hn)))
  unfold Device.followLevels
  dsimp only
  refine (h1.when _ _ (fun y => ?_)).when _ _ (fun y => ?_)
  · exact (Settled.refl y).irqLevel 0x1A 0 _ (by decide) (by decide)
  · exact (Settled.refl y).irqLevel 0x04 0 _ (by decide) (by decide)

theorem settled_followBall (d : Device) (b : Nat) : Settled d (d.followBall b) := by
  unfold Device.followBall
  exact ⟨fun _ _ _ => rfl, rfl, rfl, rfl⟩

theorem settled_followLink (d : Device) : Settled d d.followLink := by
  unfold Device.followLink
  exact ⟨fun _ _ _ => rfl, rfl, rfl, rfl⟩

theorem settled_followInterrupts (d : Device) : Settled d d.followInterrupts := by
  have h := ((((settled_followBall d 0).trans (settled_followBall _ 1)).trans (settled_followBall _ 2)).trans
    (settled_followBall _ 3)).trans (settled_followLink _)
  exact h.wr _ _ (by decide)

theorem Settled.noRemote {d e : Device} (h : Settled d e) (hd : d.NoRemote) : e.NoRemote := by
  refine ⟨?_, ?_⟩
  · rw [h.same]; exact hd.1
  · rw [h.plq]; exact hd.2

/-- Settling, where no remote access waits, keeps everything but what `Settled` names. -/
theorem settled_settle (d : Device) (h : d.NoRemote) : Settled d d.settle := by
  have h1 : Settled d d.followPower.followWatch.followHostClock.followHold.followCoex.followCal :=
    (((((settled_followPower d).trans (settled_followWatch _)).trans (settled_followHostClock _)).trans
      (settled_followHold _)).trans (settled_followCoex _)).trans (settled_followCal _)
  have h2 := ((h1.trans (settled_showDpdValid _)).trans (settled_followFormat _)).trans (settled_followGroup _)
  have h3 := ((h2.trans (settled_followStreams _)).trans (settled_showUrgent _))
  have h4 := ((h3.trans (settled_followBusy _)).trans (settled_followLevels _)).trans (settled_followInterrupts _)
  have hq := followQueue_noRemote _ (h2.noRemote h)
  unfold Device.settle
  dsimp only
  rw [hq]
  exact h4

/-- A field out of reach of settling stays as the command left it. -/
theorem settle_get (d : Device) (h : d.NoRemote) (f : Fld) (hf : f.settles = true) : d.settle.get f = d.get f := by
  apply Nat.eq_of_testBit_eq
  intro j
  unfold Device.get
  rw [testBit_bitsOf, testBit_bitsOf]
  by_cases hj : j < f.hi + 1 - f.lo
  · have hb : ¬ SettleBit f.reg (f.lo + j) := by
      rintro ⟨g, hg, hr, hlo, hhi⟩
      simp only [Fld.settles, List.all_eq_true, Bool.or_eq_true, bne_iff_ne, ne_eq, decide_eq_true_eq] at hf
      rcases hf g hg with (h1 | h1) | h1
      · exact h1 hr
      · omega
      · omega
    rw [(settled_settle d h).bit _ _ hb]
  · simp [hj]

/-- A word that no field of `settleFields` lies in stays as the command left it. -/
theorem settle_rd (d : Device) (h : d.NoRemote) (a : Nat) (ha : ∀ g ∈ settleFields, g.reg ≠ a) : d.settle.rd a = d.rd a := by
  apply BitVec.eq_of_getLsbD_eq
  intro i _
  exact (settled_settle d h).bit a i (fun ⟨g, hg, hr, _⟩ => ha g hg hr)

theorem settle_on (d : Device) (h : d.NoRemote) (f : Fld) (hf : f.settles = true) : d.settle.on f = d.on f := by
  simp [Device.on, settle_get d h f hf]

theorem settle_mirror (d : Device) (h : d.NoRemote) : d.settle.mirror = d.mirror := by rw [(settled_settle d h).same]
theorem settle_post (d : Device) (h : d.NoRemote) : d.settle.post = d.post := by rw [(settled_settle d h).same]
theorem settle_free (d : Device) (h : d.NoRemote) : d.settle.free = d.free := by rw [(settled_settle d h).same]
theorem settle_isl (d : Device) (h : d.NoRemote) : d.settle.isl = d.isl := by rw [(settled_settle d h).same]
theorem settle_rst (d : Device) (h : d.NoRemote) : d.settle.rst = d.rst := by rw [(settled_settle d h).same]
theorem settle_pwr (d : Device) (h : d.NoRemote) : d.settle.pwr = d.pwr := by rw [(settled_settle d h).same]
theorem settle_rtc (d : Device) (h : d.NoRemote) : d.settle.rtc = d.rtc := by rw [(settled_settle d h).same]
theorem settle_hk (d : Device) (h : d.NoRemote) : d.settle.hk = d.hk := by rw [(settled_settle d h).same]
theorem settle_timers (d : Device) (h : d.NoRemote) : d.settle.timers = d.timers := by rw [(settled_settle d h).same]
theorem settle_tmIo (d : Device) (h : d.NoRemote) : d.settle.tmIo = d.tmIo := by rw [(settled_settle d h).same]
theorem settle_trigOut (d : Device) (h : d.NoRemote) : d.settle.trigOut = d.trigOut := by rw [(settled_settle d h).same]
theorem settle_rep (d : Device) (h : d.NoRemote) : d.settle.rep = d.rep := by rw [(settled_settle d h).same]
theorem settle_pilots (d : Device) (h : d.NoRemote) : d.settle.pilots = d.pilots := by rw [(settled_settle d h).same]
theorem settle_bootCfg (d : Device) (h : d.NoRemote) : d.settle.bootCfg = d.bootCfg := by rw [(settled_settle d h).same]
theorem settle_sram (d : Device) (h : d.NoRemote) : d.settle.sram = d.sram := by rw [(settled_settle d h).same]
theorem settle_bus (d : Device) (h : d.NoRemote) : d.settle.bus = d.bus := by rw [(settled_settle d h).same]
theorem settle_hd (d : Device) (h : d.NoRemote) : d.settle.hd = d.hd := by rw [(settled_settle d h).same]
theorem settle_sspm (d : Device) (h : d.NoRemote) : d.settle.sspm = d.sspm := by rw [(settled_settle d h).same]
theorem settle_ssps (d : Device) (h : d.NoRemote) : d.settle.ssps = d.ssps := by rw [(settled_settle d h).same]
theorem settle_sec (d : Device) (h : d.NoRemote) : d.settle.sec = d.sec := by rw [(settled_settle d h).same]
theorem settle_man (d : Device) (h : d.NoRemote) : d.settle.man = d.man := by rw [(settled_settle d h).same]
theorem settle_bf (d : Device) (h : d.NoRemote) : d.settle.bf = d.bf := by rw [(settled_settle d h).same]
theorem settle_profile (d : Device) (h : d.NoRemote) : d.settle.profile = d.profile := by rw [(settled_settle d h).same]
theorem settle_cars (d : Device) (h : d.NoRemote) : d.settle.cars = d.cars := by rw [(settled_settle d h).same]
theorem settle_bandCal (d : Device) (h : d.NoRemote) : d.settle.bandCal = d.bandCal := by rw [(settled_settle d h).same]
theorem settle_bwFresh (d : Device) (h : d.NoRemote) : d.settle.bwFresh = d.bwFresh := by rw [(settled_settle d h).same]
theorem settle_occ (d : Device) (h : d.NoRemote) : d.settle.occ = d.occ := by rw [(settled_settle d h).same]
theorem settle_ses (d : Device) (h : d.NoRemote) : d.settle.ses = d.ses := by rw [(settled_settle d h).same]
theorem settle_paths (d : Device) (h : d.NoRemote) : d.settle.paths = d.paths := by rw [(settled_settle d h).same]
theorem settle_pathQueue (d : Device) (h : d.NoRemote) : d.settle.pathQueue = d.pathQueue := by rw [(settled_settle d h).same]
theorem settle_coexGnt (d : Device) (h : d.NoRemote) : d.settle.coexGnt = d.coexGnt := by rw [(settled_settle d h).same]
theorem settle_opt (d : Device) (h : d.NoRemote) : d.settle.opt = d.opt := by rw [(settled_settle d h).same]
theorem settle_extest (d : Device) (h : d.NoRemote) : d.settle.extest = d.extest := by rw [(settled_settle d h).same]
theorem settle_kl (d : Device) (h : d.NoRemote) : d.settle.kl = d.kl := by rw [(settled_settle d h).same]
theorem settle_ringSent (d : Device) (h : d.NoRemote) : d.settle.ringSent = d.ringSent := by rw [(settled_settle d h).same]
theorem settle_pinMap (d : Device) (h : d.NoRemote) : d.settle.pinMap = d.pinMap := by rw [(settled_settle d h).same]
theorem settle_optRun (d : Device) (h : d.NoRemote) : d.settle.optRun = d.optRun := by rw [(settled_settle d h).same]
theorem settle_optStage (d : Device) (h : d.NoRemote) : d.settle.optStage = d.optStage := by rw [(settled_settle d h).same]

/-- A command that is one effect on the device answers a next state with the queue as it was. -/
theorem act_next (f : Device → Device) (s : State) : act f s = .next { dev := (f s.dev).settle, pending := s.pending } := rfl

end Sys2Proof.Machine
end

