-- ==== Sys2Proof/Laws/HostBus.lean ====
section
/-!
SUPPORT. A register write of the host that is taken at once: what arrives in its island, and that every row that is such a write is one.
-/
namespace Sys2Proof.Machine


section
variable (d : Device) (mirror : List (Nat × Word)) (post : List Posted) (free : Nat) (isl : Vector IslandSt 5) (rst : ResetSt) (pwr : PwrSt)
    (rtc : RtcSt) (watch : WatchSt) (hk : HkSt) (timers : Vector TimerSt 16) (tmIo : BitVec 16) (balls : Vector BallSt 4)
    (linkSeen linkNew : BitVec 64) (trigOut : Vector (Option Bool) 4) (rep : RepSt) (pilots : Vector PilSt 20) (bootCfg : BootCfg)
    (sram : List (Nat × Byte))
    (bus : Option BusAccess) (hd : Word) (sspm : SspmSt) (ssps : SspsSt) (sec : SecSt) (man : ManSt) (bf : BfSt)
    (profile : Option Profile) (cars : Vector CarSt 4) (bandCal : BandCal) (bwFresh : Bool) (occ : List (Nat × List (Nat × Nat)))
    (ses : Vector SesSt 16) (paths : Vector PathSt 64) (pathQueue : List Nat) (cal : CalSt) (coexGnt : Bool) (opt : List (Nat × Byte)) (extest : Bool)
    (kl : KlSt) (pl : PlSt) (ringSent : Vector Nat 16) (pinMap : List (Nat × Nat)) (optRun : Nat) (optStage : List (Nat × Byte))

/-- A device with other records reads its registers alike. -/
@[simp] theorem Device.rd_mk (a : Nat) : (Device.mk d.regs mirror post free isl rst pwr rtc watch hk timers tmIo balls linkSeen linkNew trigOut rep pilots
  bootCfg sram bus hd sspm ssps sec man bf profile cars bandCal bwFresh occ ses paths pathQueue cal coexGnt opt extest kl pl ringSent pinMap
  optRun optStage).rd a = d.rd a := id rfl
@[simp] theorem Device.get_mk (f : Fld) : (Device.mk d.regs mirror post free isl rst pwr rtc watch hk timers tmIo balls linkSeen linkNew trigOut rep pilots
  bootCfg sram bus hd sspm ssps sec man bf profile cars bandCal bwFresh occ ses paths pathQueue cal coexGnt opt extest kl pl ringSent pinMap
  optRun optStage).get f = d.get f := id rfl
@[simp] theorem Device.on_mk (f : Fld) : (Device.mk d.regs mirror post free isl rst pwr rtc watch hk timers tmIo balls linkSeen linkNew trigOut rep pilots
  bootCfg sram bus hd sspm ssps sec man bf profile cars bandCal bwFresh occ ses paths pathQueue cal coexGnt opt extest kl pl ringSent pinMap
  optRun optStage).on f = d.on f := id rfl
end

/-! ### A host write that is taken at once -/

/-- What `ready` says. -/
theorem ready_iff (d : Device) (a : Nat) : d.ready a = true ↔ d.hostReady = true ∧ d.pwr.phase = .awake
    ∧ (d.pageOff (pageOfWord a) = false ∨ offOfWord a = 2) ∧ d.post = [] ∧ d.islandTakes (islandOf (pageOfWord a)) = true := by
  simp [Device.ready, and_assoc]

theorem enqueue_clockGood (d : Device) (x : Posted) (i : Nat) : (d.enqueue x).clockGood i = d.clockGood i := by
  have h1 : clkGood ≠ pageStat (pageOfWord x.addr) := by
    unfold clkGood pageStat wordAt; omega
  have h2 : clkGood ≠ fHbusStatQlevel.reg := by decide
  have h3 : clkGood ≠ fHbusStatQpeak.reg := by decide
  simp [Device.clockGood, Device.on, Device.enqueue, Device.showQueue, Device.get, fPsWpend, Device.rd_put, Device.mirrorWritten, h1, h2, h3]

theorem enqueue_post (d : Device) (x : Posted) : (d.enqueue x).post = d.post ++ [x] := by
  simp [Device.enqueue, Device.showQueue, Device.mirrorWritten]

theorem ownWrite_ready (d : Device) (a : Nat) (v : Word) (be : BitVec 4) (finds : KlGroupFinds) (h : d.ready a = true) :
    d.ownWrite a v be finds = (d.arrived a v be).applyWord (d.posted a v be) finds := by
  obtain ⟨hb, hw, ho, hq, hi⟩ := (ready_iff d a).1 h
  have hon : (d.pageOff (pageOfWord a) && offOfWord a != 2) = false := by
    rcases ho with h | h <;> simp [h]
  have hpw : d.pageWrite a v be = some (.ok, d.enqueue (d.posted a v be)) := by
    simp [Device.pageWrite, hw, hon, Device.postRoom, hq, Device.posted]
  have ht : (d.enqueue (d.posted a v be)).islandTakes (islandOf (pageOfWord a)) = true := by
    simpa [Device.islandTakes, enqueue_clockGood] using hi
  have hp : (d.enqueue (d.posted a v be)).post = [d.posted a v be] := by simp [enqueue_post, hq]
  simp only [Device.ownWrite, hb, hpw, hp, Bool.not_true, Bool.false_eq_true, if_false, List.length_singleton,
    Device.drainIsland, Device.applyNext, ht, takePosted]
  simp [Device.posted, Device.arrived]

theorem rd_arrived (d : Device) (a : Nat) (v : Word) (be : BitVec 4) (b : Nat)
    (h1 : b ≠ hbusStat) (h2 : b ≠ pageStat (pageOfWord a)) : (d.arrived a v be).rd b = d.rd b := by
  simp [Device.arrived, Device.enqueue, Device.showQueue, Device.rd_put, Device.mirrorWritten, fHbusStatQlevel, fHbusStatQpeak, fPsWpend, h1, h2,
    Device.posted]

/-- A write that its page applies. -/
theorem ownWrite_applies (d : Device) (a : Nat) (v : Word) (be : BitVec 4) (finds : KlGroupFinds) (h : d.applies a v be = true) :
    d.ownWrite a v be finds = d.written a v be finds := by
  simp only [Device.applies, Bool.and_eq_true] at h
  rw [ownWrite_ready d a v be finds h.1, Device.applyWord, if_pos h.2]
  rfl

theorem exec_ownWrite {c : Instr} {s : State} {x : Nat × Word × BitVec 4 × KlGroupFinds} {a : Nat} {v : Word} {be : BitVec 4} {finds : KlGroupFinds}
    (h : some x = some (a, v, be, finds))
    (hx : exec c s = .next { s with dev := (s.dev.ownWrite x.1 x.2.1 x.2.2.1 x.2.2.2).settle }) :
    exec c s = .next { s with dev := (s.dev.ownWrite a v be finds).settle } := by
  cases h; exact hx

set_option maxRecDepth 4000 in
/-- A row that is a register write is that write. -/
theorem exec_hostRow (c : Instr) (s : State) (a : Nat) (v : Word) (be : BitVec 4) (finds : KlGroupFinds)
    (h : hostRow s.dev c = some (a, v, be, finds)) :
    exec c s = .next { s with dev := (s.dev.ownWrite a v be finds).settle } := by
  cases c
  case optImgDataAccess w =>
    cases w
    · exact nomatch h
    · exact exec_ownWrite h rfl
  all_goals first
    | exact exec_ownWrite h rfl
    | exact nomatch h

/-- A row that is a register write has that write's effect where its page applies it. -/
theorem exec_applies (c : Instr) (s : State) (a : Nat) (v : Word) (be : BitVec 4) (finds : KlGroupFinds)
    (h : hostRow s.dev c = some (a, v, be, finds)) (ha : s.dev.applies a v be = true) :
    exec c s = .next { s with dev := (s.dev.written a v be finds).settle } := by
  rw [exec_hostRow c s a v be finds h, ownWrite_applies _ _ _ _ _ ha]

end Sys2Proof.Machine
end

