-- ==== Sys2Proof/Laws/Completes.lean ====
section
/-!
SUPPORT. How a statement about one command follows from what its effect does before settling.
-/
namespace Sys2Proof.Machine

/-- The frame after settling, from the frame before it. -/
theorem onlyRegs_settle {l : List Nat} {d e : Device} (hn : e.NoRemote) (h : ∀ a, a ∉ l → e.rd a = d.rd a) (hs : e.sram = d.sram)
    (ho : e.opt = d.opt) : Device.OnlyRegs l d e.settle := by
  refine ⟨fun f hf hl => ?_, ?_, ?_⟩
  · rw [settle_get e hn f hf]; simp [Device.get, h _ hl]
  · rw [settle_sram e hn, hs]
  · rw [settle_opt e hn, ho]

/-- A command whose meaning is one effect on the device completes with whatever holds after settling. -/
theorem completes_act {c : Instr} {s : State} {Q : Device → Prop} (f : Device → Device) (h : exec c s = act f s)
    (hq : Q (f s.dev).settle) : Completes c s Q := ⟨_, h.trans (act_next f s), rfl, hq⟩

/-- An event on an enabled bit of a live page is recorded. -/
theorem on_irq {d : Device} {p b : Nat} (hb : b < 32) (h : d.on ⟨irqEn p, b, b⟩ = true) (hl : d.pageLive p = true) :
    (d.irq p b).on ⟨irqStat p, b, b⟩ = true := by
  simp only [Device.irq, h, hl, Bool.and_self, if_true]
  simp only [Device.on, Device.get_put_same _ (⟨irqStat p, b, b⟩ : Fld) 1 hb (Nat.le_refl _)]
  simp

/-- What an event records stays recorded through settling. -/
theorem raised_settle {p b : Nat} {d e : Device} (hn : (e.irq p b).NoRemote) (hs : (⟨irqStat p, b, b⟩ : Fld).settles = true) (hb : b < 32)
    (h1 : e.rd (irqEn p) = d.rd (irqEn p)) (h2 : e.pageLive p = d.pageLive p) : Device.raised p b d (e.irq p b).settle := by
  intro hon hl
  rw [settle_on _ hn _ hs]
  exact on_irq hb (by simpa [Device.on, Device.get, h1] using hon) (h2.trans hl)

/-- Whether a page is off or in reset depends only on PAGE_CTRL and PAGE_STAT of the page, on CLK.GOOD and on the islands. -/
theorem pageLive_congr {d e : Device} {p : Nat} (hc : e.rd (pageCtrl p) = d.rd (pageCtrl p)) (hs : e.on (fPsReleasePending p) = d.on (fPsReleasePending p))
    (hg : e.rd clkGood = d.rd clkGood) (hi : e.isl = d.isl) : e.pageLive p = d.pageLive p := by
  simp [Device.pageLive, Device.pageOff, Device.pagePowered, Device.pageClock, Device.pageInReset, Device.clockGood, Device.on, Device.get,
    fPcPwrReq, fPcClkReq, fPcBlkRst, hc, hg, Device.island, hi]
  simp only [Device.on, Device.get] at hs
  rw [hs]

end Sys2Proof.Machine
end

