-- ==== Sys2Proof/Laws/Posts.lean ====
section
/-!
SUPPORT. What posting a message, asking for a hold and moving a session between states can change: some registers of the session and of its ring, the session's waiting messages and holds, and ring memory.
-/
namespace Sys2Proof.Machine

/-- From `d` to `e` only the registers of `l`, the waiting messages, holds and slot count of session `n`, the manifest's queue, and ring memory with its marks change. -/
structure Posts (l : List Nat) (n : Nat) (d e : Device) : Prop where
  regs : ∀ a, a ∉ l → e.rd a = d.rd a
  others : ∀ m, m ≠ n → e.sess m = d.sess m
  sess : e.sess n = { d.sess n with waiting := (e.sess n).waiting, holds := (e.sess n).holds, opens := (e.sess n).opens }
  same : e = { d with regs := e.regs, ses := e.ses, man := { d.man with queue := e.man.queue }, rep := { d.rep with bad := e.rep.bad }, sram := e.sram }

/-- The registers a message of ring `n` moves. -/
def msgRegs (n : Nat) : List Nat := [ringMtail n, irqRaw 0x19, irqStat 0x19]

theorem Posts.refl (l : List Nat) (n : Nat) (d : Device) : Posts l n d d := ⟨fun _ _ => rfl, fun _ _ => rfl, rfl, rfl⟩

theorem Posts.trans {l k : List Nat} {n : Nat} {d e f : Device} (h : Posts l n d e) (g : Posts k n e f) : Posts (l ++ k) n d f := by
  refine ⟨fun a ha => ?_, fun m hm => (g.others m hm).trans (h.others m hm), ?_, ?_⟩
  · simp only [List.mem_append, not_or] at ha
    exact (g.regs a ha.2).trans (h.regs a ha.1)
  · rw [g.sess, h.sess]
  · rw [g.same, h.same]

theorem Posts.mono {l k : List Nat} {n : Nat} {d e : Device} (h : Posts l n d e) (hl : ∀ a, a ∈ l → a ∈ k) : Posts k n d e :=
  ⟨fun a ha => h.regs a (fun hm => ha (hl a hm)), h.others, h.sess, h.same⟩

/-- Two steps with the same register list. -/
theorem Posts.then {l : List Nat} {n : Nat} {d e f : Device} (h : Posts l n d e) (g : Posts l n e f) : Posts l n d f :=
  (h.trans g).mono (by simp)

theorem Posts.get {l : List Nat} {n : Nat} {d e : Device} (h : Posts l n d e) (f : Fld) (hf : f.reg ∉ l) : e.get f = d.get f := by
  simp [Device.get, h.regs _ hf]

theorem posts_wr {l : List Nat} (n : Nat) (d : Device) (a : Nat) (v : Word) (ha : a ∈ l) : Posts l n d (d.wr a v) := by
  refine ⟨fun b hb => ?_, fun _ _ => rfl, rfl, rfl⟩
  have : b ≠ a := fun h => hb (h ▸ ha)
  simp [this]

theorem posts_put {l : List Nat} (n : Nat) (d : Device) (f : Fld) (v : Nat) (hf : f.reg ∈ l) : Posts l n d (d.put f v) := posts_wr n d _ _ hf

theorem posts_irq {l : List Nat} (n : Nat) (d : Device) (p b : Nat) (h : irqStat p ∈ l) : Posts l n d (d.irq p b) := by
  unfold Device.irq
  split
  · exact posts_put n d _ _ h
  · exact .refl l n d

theorem posts_irqLevel {l : List Nat} (n : Nat) (d : Device) (p b : Nat) (c : Bool) (h : irqStat p ∈ l) (hr : irqRaw p ∈ l) :
    Posts l n d (d.irqLevel p b c) := by
  unfold Device.irqLevel
  split
  · exact (posts_put n d _ _ hr).then (posts_irq n _ p b h)
  · exact posts_put n d _ _ hr

/-- A change of a session's waiting messages, holds and slot count. -/
theorem posts_modSes (l : List Nat) (n : Nat) (d : Device) (f : SesSt → SesSt)
    (hf : f (d.sess n) = { d.sess n with waiting := (f (d.sess n)).waiting, holds := (f (d.sess n)).holds, opens := (f (d.sess n)).opens }) :
    Posts l n d (d.modSes n f) := by
  refine ⟨fun _ _ => rfl, fun m hm => ?_, ?_, rfl⟩
  · rw [Device.sess_modSes, if_neg (fun h => hm h.1)]
  · rw [Device.sess_modSes]
    split
    · exact hf
    · rfl

theorem posts_putSlots (l : List Nat) (n : Nat) (d : Device) (i k : Nat) (bs : List Byte) : Posts l n d (d.putSlots n i k bs) := by
  induction k generalizing d i bs with
  | zero => exact .refl l n d
  | succ k ih =>
    unfold Device.putSlots
    refine Posts.then ?_ (ih _ _ _)
    exact ⟨fun _ _ => rfl, fun _ _ => rfl, rfl, rfl⟩

theorem posts_when {l : List Nat} {n : Nat} (d : Device) (c : Bool) (f : Device → Device) (hf : ∀ d, Posts l n d (f d)) :
    Posts l n d (d.when c f) := by
  cases c
  · exact .refl l n d
  · exact hf d

theorem posts_ringLevel (n : Nat) (d : Device) : Posts (msgRegs n) n d (d.ringLevel n) :=
  posts_irqLevel n d 0x19 n _ (by simp [msgRegs]) (by simp [msgRegs])

theorem posts_writeMsg (n : Nat) (d : Device) (msg : List Byte) : Posts (msgRegs n) n d (d.writeMsg n msg) := by
  unfold Device.writeMsg
  dsimp only
  have h1 := (posts_putSlots (msgRegs n) n d (d.index (ringMtail n)) (msg.length / 64) msg).then
    (posts_wr n _ (ringMtail n) (BitVec.ofNat 32 ((d.index (ringMtail n) + msg.length / 64) % 65536)) (by simp [msgRegs]))
  refine (h1.then (posts_ringLevel n _)).then ?_
  exact posts_when _ _ _ (fun x => posts_irq n x _ _ (by simp [msgRegs]))

theorem posts_holdAsk (l : List Nat) (n : Nat) (d : Device) (why : Nat) : Posts l n d (d.holdAsk n why) := by
  unfold Device.holdAsk
  split
  · exact .refl l n d
  · exact posts_modSes l n d _ rfl

theorem posts_emit (n : Nat) (d : Device) (msg : List Byte) : Posts (msgRegs n) n d (d.emit n msg) := by
  unfold Device.emit
  split
  · exact posts_writeMsg n d msg
  · exact (posts_modSes _ n d _ rfl).then (posts_holdAsk _ n _ 3)

theorem posts_postMsg (n : Nat) (d : Device) (msg : List Byte) : Posts (msgRegs n) n d (d.postMsg n msg) := by
  unfold Device.postMsg
  dsimp only
  split
  · exact ⟨fun _ _ => rfl, fun _ _ => rfl, rfl, rfl⟩
  · exact posts_emit n d msg

theorem posts_emitLast (n : Nat) (d : Device) (msg : List Byte) : Posts (ringHolds n :: msgRegs n) n d (d.emitLast n msg) := by
  unfold Device.emitLast
  split
  · exact (posts_writeMsg n d msg).mono (by simp +contextual)
  · exact posts_put n d _ _ (by simp [fRingHoldsUnreported])

/-- The registers a change of a session's state moves. -/
def stateRegs (n : Nat) : List Nat := pageStat (0x80 + n) :: sesStat n :: msgRegs n

theorem posts_showHold (n : Nat) (d : Device) : Posts (stateRegs n) n d (d.showHold n) := posts_put n d _ _ (by simp [stateRegs, fSesStatHoldWhy])

theorem posts_holdEnd (n : Nat) (d : Device) (why : Nat) : Posts (stateRegs n) n d (d.holdEnd n why) :=
  (posts_modSes _ n d _ rfl).then (posts_showHold n _)

theorem posts_sesGo (n : Nat) (d : Device) (st code : Nat) : Posts (stateRegs n) n d (d.sesGo n st code) := by
  unfold Device.sesGo
  dsimp only
  split
  · exact .refl _ n d
  · refine ((posts_put n d (fPsState (0x80 + n)) st (by simp [stateRegs, fPsState])).then (posts_showHold n _)).then ?_
    exact (posts_postMsg n _ _).mono (by simp +contextual [stateRegs])

/-- A session is in the state it moved to (R77). -/
theorem sesState_sesGo (n : Nat) (d : Device) (st code : Nat) (h : st < 256) : (d.sesGo n st code).sesState n = st := by
  unfold Device.sesGo
  dsimp only
  split
  · assumption
  · have hne : pageStat (0x80 + n) ∉ msgRegs n := by
      simp only [msgRegs, List.mem_cons, List.not_mem_nil, or_false, not_or, pageStat, ringMtail, irqRaw, irqStat, wordAt]
      omega
    unfold Device.sesState
    rw [(posts_postMsg n _ _).get (fPsState (0x80 + n)) hne]
    unfold Device.showHold
    rw [Device.get_put_ne _ _ _ _ (by simp only [fPsState, fSesStatHoldWhy, pageStat, sesStat, wordAt]; omega),
      Device.get_put_same _ _ _ (by simp [fPsState]) (by simp [fPsState])]
    simp [fPsState]
    omega

/-- The registers that show a session's descriptors. -/
def flightRegs (n : Nat) : List Nat := ringInflight :: stateRegs n

theorem posts_showFlight (n : Nat) (d : Device) : Posts (flightRegs n) n d (d.showFlight n) := by
  unfold Device.showFlight Device.showInflight
  dsimp only
  exact ((posts_put n d _ _ (by simp [flightRegs, stateRegs, fSesStatInflight])).then
    (posts_put n _ _ _ (by simp [flightRegs, fRingInflightCount]))).then (posts_put n _ _ _ (by simp [flightRegs, fRingInflightPeak]))

theorem posts_retire (n : Nat) (d : Device) (x : Desc) (code detail : Nat) : Posts (flightRegs n) n d (d.retire n x code detail) :=
  ((posts_postMsg n d _).mono (by simp +contextual [flightRegs, stateRegs])).then (posts_showFlight n _)

end Sys2Proof.Machine
end

