-- ==== Sys2Proof/Laws/Preserve.lean ====
section
/-!
SUPPORT. Each command keeps every closed property of the device; two such properties are the canonical form of the stores and that no remote access waits.
-/
set_option linter.unusedTactic false
set_option linter.unreachableTactic false
set_option linter.unusedVariables false
namespace Sys2Proof.Machine

theorem canonical_closed : Closed Device.Canonical where
  wr d a v h := ⟨storePut_wf h.regs a v, h.mirror, h.sram, h.opt⟩
  clearRegs d p h := ⟨storeClear_wf p h.regs, h.mirror, h.sram, h.opt⟩
  mirror d a v h := ⟨h.regs, storePut_wf h.mirror a v, h.sram, h.opt⟩
  mirrorAll d h := ⟨h.regs, h.regs, h.sram, h.opt⟩
  sramBytes d a bs h := ⟨h.regs, h.mirror, writeBytes_wf h.sram a bs, h.opt⟩
  sramWord d a v be h := ⟨h.regs, h.mirror, writeWordBe_wf h.sram a v be, h.opt⟩
  sramClear d p h := ⟨h.regs, h.mirror, storeClear_wf p h.sram, h.opt⟩
  optBytes d a bs h := ⟨h.regs, h.mirror, h.sram, writeBytes_wf h.opt a bs⟩
  sramFrom d e h k := ⟨h.regs, h.mirror, k.sram, h.opt⟩
  mirrorNone d h := ⟨h.regs, rfl, h.sram, h.opt⟩
  sramNone d h := ⟨h.regs, h.mirror, rfl, h.opt⟩
  other d e h hr hm hs ho _ _ := ⟨hr ▸ h.regs, hm ▸ h.mirror, hs ▸ h.sram, ho ▸ h.opt⟩
  either := .inr (fun d e h k => ⟨k.1 ▸ h.regs, k.2.1 ▸ h.mirror, k.2.2.1 ▸ h.sram, k.2.2.2 ▸ h.opt⟩)

theorem noRemote_closed : Closed Device.NoRemote where
  wr d a v h := h
  clearRegs d p h := h
  mirror d a v h := h
  mirrorAll d h := h
  sramBytes d a bs h := h
  sramWord d a v be h := h
  sramClear d p h := h
  optBytes d a bs h := h
  sramFrom d e h k := h
  mirrorNone d h := h
  sramNone d h := h
  other d e h _ _ _ _ hk hp := ⟨hk h.1, hp h.2⟩
  either := .inl (fun _ h => h)

variable {P : Device → Prop} (hP : Closed P)
include hP

/-- A command keeps what its effect and the settling after it keep. -/
theorem act_keeps {f : Device → Device} (hf : ∀ d, P d → P (f d)) {s t : State} (h : act f s = .next t) (hs : P s.dev) : P t.dev := by
  have ht : t.dev = (f s.dev).settle := by
    rw [act_next] at h
    injection h with h
    rw [← h]
  rw [ht]
  exact Device.settle_closed hP (hf _ hs)

theorem execRegisterWrite_keeps {page : Fin 256} {off : Fin 1024} {w : RegWrite} {st nx : State} (h : execRegisterWrite page off w st = .next nx) (hs : P st.dev) : P nx.dev :=
  act_keeps hP (fun _ _ => by repeat' (first | with_reducible assumption | with_reducible apply Device.registerWrite_closed hP | intro _ | dsimp only)) h hs
theorem execUnmappedWrite_keeps {st nx : State} (h : execUnmappedWrite st = .next nx) (hs : P st.dev) : P nx.dev :=
  act_keeps hP (fun _ _ => by repeat' (first | with_reducible assumption | with_reducible apply Device.hostUnmapped_closed hP | intro _ | dsimp only)) h hs
theorem execOffPageRead_keeps {page : Fin 256} {off : Fin 1024} {st nx : State} (h : execOffPageRead page off st = .next nx) (hs : P st.dev) : P nx.dev :=
  act_keeps hP (fun _ _ => by repeat' (first | with_reducible assumption | with_reducible apply Device.offRead_closed hP | intro _ | dsimp only)) h hs
theorem execMemoryWindowRead_keeps {word : BitVec 24} {find : WordFind} {st nx : State} (h : execMemoryWindowRead word find st = .next nx) (hs : P st.dev) : P nx.dev :=
  act_keeps hP (fun _ _ => by repeat' (first | with_reducible assumption | with_reducible apply Device.memRead_closed hP | intro _ | dsimp only)) h hs
theorem execMemoryWindowWrite_keeps {word : BitVec 24} {w : RegWrite} {st nx : State} (h : execMemoryWindowWrite word w st = .next nx) (hs : P st.dev) : P nx.dev :=
  act_keeps hP (fun _ _ => by repeat' (first | with_reducible assumption | with_reducible apply Device.memWrite_closed hP | intro _ | dsimp only)) h hs
theorem execWaitLimitExpiry_keeps {link : Bool} {st nx : State} (h : execWaitLimitExpiry link st = .next nx) (hs : P st.dev) : P nx.dev :=
  act_keeps hP (fun _ _ => by repeat' (first | with_reducible assumption | with_reducible apply Device.waitLimit_closed hP | intro _ | dsimp only)) h hs
theorem execPostQueueEntryFreed_keeps {st nx : State} (h : execPostQueueEntryFreed st = .next nx) (hs : P st.dev) : P nx.dev :=
  act_keeps hP (fun _ _ => by repeat' (first | with_reducible assumption | with_reducible apply Device.queueFreed_closed hP | intro _ | dsimp only)) h hs
theorem execPostedWriteApplied_keeps {isl : Fin 5} {finds : KlGroupFinds} {st nx : State} (h : execPostedWriteApplied isl finds st = .next nx) (hs : P st.dev) : P nx.dev :=
  act_keeps hP (fun _ _ => by repeat' (first | with_reducible assumption | with_reducible apply Device.applyNext_closed hP | intro _ | dsimp only)) h hs
theorem execWriteAckReceived_keeps {page : Fin 256} {st nx : State} (h : execWriteAckReceived page st = .next nx) (hs : P st.dev) : P nx.dev :=
  act_keeps hP (fun _ _ => by repeat' (first | with_reducible assumption | with_reducible apply Device.writeAck_closed hP | intro _ | dsimp only)) h hs
theorem execMirrorUpdate_keeps {page : Fin 256} {offs : List (Fin 1024)} {noise : Word} {st nx : State} (h : execMirrorUpdate page offs noise st = .next nx) (hs : P st.dev) : P nx.dev :=
  act_keeps hP (fun _ _ => by repeat' (first | with_reducible assumption | with_reducible apply Device.mirrorSend_closed hP | intro _ | dsimp only)) h hs
theorem execIrqSetWrite_keeps {page : Fin 256} {w : RegWrite} {st nx : State} (h : execIrqSetWrite page w st = .next nx) (hs : P st.dev) : P nx.dev :=
  act_keeps hP (fun _ _ => by repeat' (first | with_reducible assumption | with_reducible apply Device.hostSend_closed hP | intro _ | dsimp only)) h hs
theorem execIrqStatClear_keeps {page : Fin 256} {w : RegWrite} {st nx : State} (h : execIrqStatClear page w st = .next nx) (hs : P st.dev) : P nx.dev :=
  act_keeps hP (fun _ _ => by repeat' (first | with_reducible assumption | with_reducible apply Device.hostSend_closed hP | intro _ | dsimp only)) h hs
theorem execIrqEnWrite_keeps {page : Fin 256} {w : RegWrite} {st nx : State} (h : execIrqEnWrite page w st = .next nx) (hs : P st.dev) : P nx.dev :=
  act_keeps hP (fun _ _ => by repeat' (first | with_reducible assumption | with_reducible apply Device.hostSend_closed hP | intro _ | dsimp only)) h hs
theorem execPageEnable_keeps {page : Fin 256} {w : RegWrite} {st nx : State} (h : execPageEnable page w st = .next nx) (hs : P st.dev) : P nx.dev :=
  act_keeps hP (fun _ _ => by repeat' (first | with_reducible assumption | with_reducible apply Device.hostCmd_closed hP | intro _ | dsimp only)) h hs
theorem execPageDisable_keeps {page : Fin 256} {w : RegWrite} {st nx : State} (h : execPageDisable page w st = .next nx) (hs : P st.dev) : P nx.dev :=
  act_keeps hP (fun _ _ => by repeat' (first | with_reducible assumption | with_reducible apply Device.hostCmd_closed hP | intro _ | dsimp only)) h hs
theorem execShutdownComplete_keeps {x : ShutdownOf} {st nx : State} (h : execShutdownComplete x st = .next nx) (hs : P st.dev) : P nx.dev :=
  act_keeps hP (fun _ _ => by repeat' (first | with_reducible assumption | with_reducible apply Device.shutdownEnd_closed hP | intro _ | dsimp only)) h hs
theorem execBlockResetAssert_keeps {page : Fin 256} {w : RegWrite} {st nx : State} (h : execBlockResetAssert page w st = .next nx) (hs : P st.dev) : P nx.dev :=
  act_keeps hP (fun _ _ => by repeat' (first | with_reducible assumption | with_reducible apply Device.hostCmd_closed hP | intro _ | dsimp only)) h hs
theorem execBlockResetRelease_keeps {page : Fin 256} {w : RegWrite} {st nx : State} (h : execBlockResetRelease page w st = .next nx) (hs : P st.dev) : P nx.dev :=
  act_keeps hP (fun _ _ => by repeat' (first | with_reducible assumption | with_reducible apply Device.hostCmd_closed hP | intro _ | dsimp only)) h hs
theorem execClockStopRequest_keeps {page : Fin 256} {run : Bool} {w : RegWrite} {st nx : State} (h : execClockStopRequest page run w st = .next nx) (hs : P st.dev) : P nx.dev :=
  act_keeps hP (fun _ _ => by repeat' (first | with_reducible assumption | with_reducible apply Device.hostCmd_closed hP | intro _ | dsimp only)) h hs
theorem execPowerRemoveRequest_keeps {page : Fin 256} {power : Bool} {w : RegWrite} {st nx : State} (h : execPowerRemoveRequest page power w st = .next nx) (hs : P st.dev) : P nx.dev :=
  act_keeps hP (fun _ _ => by repeat' (first | with_reducible assumption | with_reducible apply Device.hostCmd_closed hP | intro _ | dsimp only)) h hs
theorem execIgnCountClearPage_keeps {w : RegWrite} {st nx : State} (h : execIgnCountClearPage w st = .next nx) (hs : P st.dev) : P nx.dev :=
  act_keeps hP (fun _ _ => by repeat' (first | with_reducible assumption | with_reducible apply Device.hostCmd_closed hP | intro _ | dsimp only)) h hs
theorem execIgnCountClearAll_keeps {st nx : State} (h : execIgnCountClearAll st = .next nx) (hs : P st.dev) : P nx.dev :=
  act_keeps hP (fun _ _ => by repeat' (first | with_reducible assumption | with_reducible apply Device.hostBit_closed hP | intro _ | dsimp only)) h hs
theorem execOffCountClear_keeps {st nx : State} (h : execOffCountClear st = .next nx) (hs : P st.dev) : P nx.dev :=
  act_keeps hP (fun _ _ => by repeat' (first | with_reducible assumption | with_reducible apply Device.hostBit_closed hP | intro _ | dsimp only)) h hs
theorem execUnmappedCountClear_keeps {st nx : State} (h : execUnmappedCountClear st = .next nx) (hs : P st.dev) : P nx.dev :=
  act_keeps hP (fun _ _ => by repeat' (first | with_reducible assumption | with_reducible apply Device.hostBit_closed hP | intro _ | dsimp only)) h hs
theorem execTimeoutCountClear_keeps {st nx : State} (h : execTimeoutCountClear st = .next nx) (hs : P st.dev) : P nx.dev :=
  act_keeps hP (fun _ _ => by repeat' (first | with_reducible assumption | with_reducible apply Device.hostBit_closed hP | intro _ | dsimp only)) h hs
theorem execSessionEnable_keeps {n : Fin 16} {w : RegWrite} {st nx : State} (h : execSessionEnable n w st = .next nx) (hs : P st.dev) : P nx.dev :=
  act_keeps hP (fun _ _ => by repeat' (first | with_reducible assumption | with_reducible apply Device.hostCmd_closed hP | intro _ | dsimp only)) h hs
theorem execSessionEnableComplete_keeps {n : Fin 16} {st nx : State} (h : execSessionEnableComplete n st = .next nx) (hs : P st.dev) : P nx.dev :=
  act_keeps hP (fun _ _ => by repeat' (first | with_reducible assumption | with_reducible apply sessionEnableComplete_closed hP | intro _ | dsimp only)) h hs
theorem execSessionDisable_keeps {n : Fin 16} {w : RegWrite} {st nx : State} (h : execSessionDisable n w st = .next nx) (hs : P st.dev) : P nx.dev :=
  act_keeps hP (fun _ _ => by repeat' (first | with_reducible assumption | with_reducible apply Device.hostCmd_closed hP | intro _ | dsimp only)) h hs
theorem execSessionShutdownComplete_keeps {n : Fin 16} {st nx : State} (h : execSessionShutdownComplete n st = .next nx) (hs : P st.dev) : P nx.dev :=
  act_keeps hP (fun _ _ => by repeat' (first | with_reducible assumption | with_reducible apply sessionShutdownComplete_closed hP | intro _ | dsimp only)) h hs
theorem execCommandCommit_keeps {n : Fin 16} {st nx : State} (h : execCommandCommit n st = .next nx) (hs : P st.dev) : P nx.dev :=
  act_keeps hP (fun _ _ => by repeat' (first | with_reducible assumption | with_reducible apply commandCommit_closed hP | intro _ | dsimp only)) h hs
theorem execCommandStart_keeps {n : Fin 16} {noiseA : BitVec 16} {noiseB : BitVec 16} {st nx : State} (h : execCommandStart n noiseA noiseB st = .next nx) (hs : P st.dev) : P nx.dev :=
  act_keeps hP (fun _ _ => by repeat' (first | with_reducible assumption | with_reducible apply commandStart_closed hP | intro _ | dsimp only)) h hs
theorem execCommandEnd_keeps {n : Fin 16} {st nx : State} (h : execCommandEnd n st = .next nx) (hs : P st.dev) : P nx.dev :=
  act_keeps hP (fun _ _ => by repeat' (first | with_reducible assumption | with_reducible apply commandEnd_closed hP | intro _ | dsimp only)) h hs
theorem execReplyWindowOpen_keeps {n : Fin 16} {st nx : State} (h : execReplyWindowOpen n st = .next nx) (hs : P st.dev) : P nx.dev :=
  act_keeps hP (fun _ _ => by repeat' (first | with_reducible assumption | with_reducible apply replyWindowOpen_closed hP | intro _ | dsimp only)) h hs
theorem execReplyWindowClose_keeps {n : Fin 16} {st nx : State} (h : execReplyWindowClose n st = .next nx) (hs : P st.dev) : P nx.dev :=
  act_keeps hP (fun _ _ => by repeat' (first | with_reducible assumption | with_reducible apply replyWindowClose_closed hP | intro _ | dsimp only)) h hs
theorem execPreambleDetect_keeps {n : Fin 16} {a : BitVec 16} {b : BitVec 16} {early : Bool} {st nx : State} (h : execPreambleDetect n a b early st = .next nx) (hs : P st.dev) : P nx.dev :=
  act_keeps hP (fun _ _ => by repeat' (first | with_reducible assumption | with_reducible apply preambleDetect_closed hP | intro _ | dsimp only)) h hs
theorem execReplyDecision_keeps {n : Fin 16} {r : Reply} {st nx : State} (h : execReplyDecision n r st = .next nx) (hs : P st.dev) : P nx.dev :=
  act_keeps hP (fun _ _ => by repeat' (first | with_reducible assumption | with_reducible apply replyDecision_closed hP | intro _ | dsimp only)) h hs
theorem execEmptySlotDecision_keeps {n : Fin 16} {st nx : State} (h : execEmptySlotDecision n st = .next nx) (hs : P st.dev) : P nx.dev :=
  act_keeps hP (fun _ _ => by repeat' (first | with_reducible assumption | with_reducible apply emptySlotDecision_closed hP | intro _ | dsimp only)) h hs
theorem execReceptionFailed_keeps {n : Fin 16} {tpri : BitVec 32} {st nx : State} (h : execReceptionFailed n tpri st = .next nx) (hs : P st.dev) : P nx.dev :=
  act_keeps hP (fun _ _ => by repeat' (first | with_reducible assumption | with_reducible apply receptionFailed_closed hP | intro _ | dsimp only)) h hs
theorem execRoundStart_keeps {n : Fin 16} {st nx : State} (h : execRoundStart n st = .next nx) (hs : P st.dev) : P nx.dev :=
  act_keeps hP (fun _ _ => by repeat' (first | with_reducible assumption | with_reducible apply roundStart_closed hP | intro _ | dsimp only)) h hs
theorem execRoundEnd_keeps {n : Fin 16} {st nx : State} (h : execRoundEnd n st = .next nx) (hs : P st.dev) : P nx.dev :=
  act_keeps hP (fun _ _ => by repeat' (first | with_reducible assumption | with_reducible apply roundEnd_closed hP | intro _ | dsimp only)) h hs
theorem execAccessSequenceStart_keeps {n : Fin 16} {st nx : State} (h : execAccessSequenceStart n st = .next nx) (hs : P st.dev) : P nx.dev :=
  act_keeps hP (fun _ _ => by repeat' (first | with_reducible assumption | with_reducible apply accessSequenceStart_closed hP | intro _ | dsimp only)) h hs
theorem execAccessReplyDecision_keeps {n : Fin 16} {r : Reply} {st nx : State} (h : execAccessReplyDecision n r st = .next nx) (hs : P st.dev) : P nx.dev :=
  act_keeps hP (fun _ _ => by repeat' (first | with_reducible assumption | with_reducible apply accessReplyDecision_closed hP | intro _ | dsimp only)) h hs
theorem execDelayedReplyTimeout_keeps {n : Fin 16} {st nx : State} (h : execDelayedReplyTimeout n st = .next nx) (hs : P st.dev) : P nx.dev :=
  act_keeps hP (fun _ _ => by repeat' (first | with_reducible assumption | with_reducible apply delayedReplyTimeout_closed hP | intro _ | dsimp only)) h hs
theorem execHoldEnter_keeps {n : Fin 16} {st nx : State} (h : execHoldEnter n st = .next nx) (hs : P st.dev) : P nx.dev :=
  act_keeps hP (fun _ _ => by repeat' (first | with_reducible assumption | with_reducible apply holdEnter_closed hP | intro _ | dsimp only)) h hs
theorem execHoldRelease_keeps {n : Fin 16} {st nx : State} (h : execHoldRelease n st = .next nx) (hs : P st.dev) : P nx.dev :=
  act_keeps hP (fun _ _ => by repeat' (first | with_reducible assumption | with_reducible apply holdRelease_closed hP | intro _ | dsimp only)) h hs
theorem execSlackWaterBegin_keeps {st nx : State} (h : execSlackWaterBegin st = .next nx) (hs : P st.dev) : P nx.dev :=
  act_keeps hP (fun _ _ => by repeat' (first | with_reducible assumption | with_reducible apply slackWaterBegin_closed hP | intro _ | dsimp only)) h hs
theorem execSlackWaterEnd_keeps {st nx : State} (h : execSlackWaterEnd st = .next nx) (hs : P st.dev) : P nx.dev :=
  act_keeps hP (fun _ _ => by repeat' (first | with_reducible assumption | with_reducible apply slackWaterEnd_closed hP | intro _ | dsimp only)) h hs
theorem execTrigInEdge_keeps {k : Fin 4} {high : Bool} {st nx : State} (h : execTrigInEdge k high st = .next nx) (hs : P st.dev) : P nx.dev :=
  act_keeps hP (fun _ _ => by repeat' (first | with_reducible assumption | with_reducible apply Device.trigIn_closed hP | intro _ | dsimp only)) h hs
theorem execTrigDisableWrite_keeps {n : Fin 16} {w : RegWrite} {st nx : State} (h : execTrigDisableWrite n w st = .next nx) (hs : P st.dev) : P nx.dev :=
  act_keeps hP (fun _ _ => by repeat' (first | with_reducible assumption | with_reducible apply Device.hostCmd_closed hP | intro _ | dsimp only)) h hs
theorem execBerthFreezeWrite_keeps {n : Fin 16} {w : RegWrite} {st nx : State} (h : execBerthFreezeWrite n w st = .next nx) (hs : P st.dev) : P nx.dev :=
  act_keeps hP (fun _ _ => by repeat' (first | with_reducible assumption | with_reducible apply Device.hostCmd_closed hP | intro _ | dsimp only)) h hs
theorem execBerthReleaseWrite_keeps {n : Fin 16} {w : RegWrite} {st nx : State} (h : execBerthReleaseWrite n w st = .next nx) (hs : P st.dev) : P nx.dev :=
  act_keeps hP (fun _ _ => by repeat' (first | with_reducible assumption | with_reducible apply Device.hostCmd_closed hP | intro _ | dsimp only)) h hs
theorem execSessionClearRounds_keeps {n : Fin 16} {w : RegWrite} {st nx : State} (h : execSessionClearRounds n w st = .next nx) (hs : P st.dev) : P nx.dev :=
  act_keeps hP (fun _ _ => by repeat' (first | with_reducible assumption | with_reducible apply Device.hostCmd_closed hP | intro _ | dsimp only)) h hs
theorem execSessionClearSings_keeps {n : Fin 16} {w : RegWrite} {st nx : State} (h : execSessionClearSings n w st = .next nx) (hs : P st.dev) : P nx.dev :=
  act_keeps hP (fun _ _ => by repeat' (first | with_reducible assumption | with_reducible apply Device.hostCmd_closed hP | intro _ | dsimp only)) h hs
theorem execSessionClearErrors_keeps {n : Fin 16} {w : RegWrite} {st nx : State} (h : execSessionClearErrors n w st = .next nx) (hs : P st.dev) : P nx.dev :=
  act_keeps hP (fun _ _ => by repeat' (first | with_reducible assumption | with_reducible apply Device.hostCmd_closed hP | intro _ | dsimp only)) h hs
theorem execSessionClearSets_keeps {n : Fin 16} {w : RegWrite} {st nx : State} (h : execSessionClearSets n w st = .next nx) (hs : P st.dev) : P nx.dev :=
  act_keeps hP (fun _ _ => by repeat' (first | with_reducible assumption | with_reducible apply Device.hostCmd_closed hP | intro _ | dsimp only)) h hs
theorem execSessionClearTrigOvf_keeps {n : Fin 16} {w : RegWrite} {st nx : State} (h : execSessionClearTrigOvf n w st = .next nx) (hs : P st.dev) : P nx.dev :=
  act_keeps hP (fun _ _ => by repeat' (first | with_reducible assumption | with_reducible apply Device.hostCmd_closed hP | intro _ | dsimp only)) h hs
theorem execCtailWrite_keeps {n : Fin 16} {w : RegWrite} {st nx : State} (h : execCtailWrite n w st = .next nx) (hs : P st.dev) : P nx.dev :=
  act_keeps hP (fun _ _ => by repeat' (first | with_reducible assumption | with_reducible apply Device.hostSend_closed hP | intro _ | dsimp only)) h hs
theorem execMheadWrite_keeps {n : Fin 16} {w : RegWrite} {st nx : State} (h : execMheadWrite n w st = .next nx) (hs : P st.dev) : P nx.dev :=
  act_keeps hP (fun _ _ => by repeat' (first | with_reducible assumption | with_reducible apply Device.hostSend_closed hP | intro _ | dsimp only)) h hs
theorem execRingConfigWrite_keeps {n : Fin 16} {which : RingWord} {w : RegWrite} {st nx : State} (h : execRingConfigWrite n which w st = .next nx) (hs : P st.dev) : P nx.dev :=
  act_keeps hP (fun _ _ => by repeat' (first | with_reducible assumption | with_reducible apply Device.hostSend_closed hP | intro _ | dsimp only)) h hs
theorem execMessageWrite_keeps {n : Fin 16} {st nx : State} (h : execMessageWrite n st = .next nx) (hs : P st.dev) : P nx.dev :=
  act_keeps hP (fun _ _ => by repeat' (first | with_reducible assumption | with_reducible apply Device.release_closed hP | with_reducible apply Device.spaceCheck_closed hP | intro _ | dsimp only)) h hs
theorem execWaitingMessageRelease_keeps {n : Fin 16} {st nx : State} (h : execWaitingMessageRelease n st = .next nx) (hs : P st.dev) : P nx.dev :=
  act_keeps hP (fun _ _ => by repeat' (first | with_reducible assumption | with_reducible apply waitingRelease_closed hP | intro _ | dsimp only)) h hs
theorem execDescriptorTake_keeps {n : Fin 16} {find : DescFind} {st nx : State} (h : execDescriptorTake n find st = .next nx) (hs : P st.dev) : P nx.dev :=
  act_keeps hP (fun _ _ => by repeat' (first | with_reducible assumption | with_reducible apply descriptorTake_closed hP | intro _ | dsimp only)) h hs
theorem execDescriptorUrgent_keeps {st nx : State} (h : execDescriptorUrgent st = .next nx) (hs : P st.dev) : P nx.dev :=
  act_keeps hP (fun _ _ => by repeat' (first | with_reducible assumption | with_reducible apply Closed.forAll | with_reducible apply descriptorUrgent_closed hP | intro _ | dsimp only)) h hs
theorem execDescriptorStart_keeps {n : Fin 16} {st nx : State} (h : execDescriptorStart n st = .next nx) (hs : P st.dev) : P nx.dev :=
  act_keeps hP (fun _ _ => by repeat' (first | with_reducible assumption | with_reducible apply descriptorStart_closed hP | intro _ | dsimp only)) h hs
theorem execInventory_keeps {n : Fin 16} {st nx : State} (h : execInventory n st = .next nx) (hs : P st.dev) : P nx.dev :=
  act_keeps hP (fun _ _ => by repeat' (first | with_reducible assumption | with_reducible apply startOp_closed hP | intro _ | dsimp only)) h hs
theorem execAccess_keeps {n : Fin 16} {st nx : State} (h : execAccess n st = .next nx) (hs : P st.dev) : P nx.dev :=
  act_keeps hP (fun _ _ => by repeat' (first | with_reducible assumption | with_reducible apply startOp_closed hP | intro _ | dsimp only)) h hs
theorem execTemplate_keeps {n : Fin 16} {st nx : State} (h : execTemplate n st = .next nx) (hs : P st.dev) : P nx.dev :=
  act_keeps hP (fun _ _ => by repeat' (first | with_reducible assumption | with_reducible apply startOp_closed hP | intro _ | dsimp only)) h hs
theorem execBeam_keeps {n : Fin 16} {st nx : State} (h : execBeam n st = .next nx) (hs : P st.dev) : P nx.dev :=
  act_keeps hP (fun _ _ => by repeat' (first | with_reducible assumption | with_reducible apply startOp_closed hP | intro _ | dsimp only)) h hs
theorem execSurvey_keeps {n : Fin 16} {st nx : State} (h : execSurvey n st = .next nx) (hs : P st.dev) : P nx.dev :=
  act_keeps hP (fun _ _ => by repeat' (first | with_reducible assumption | with_reducible apply startOp_closed hP | intro _ | dsimp only)) h hs
theorem execSnapshot_keeps {n : Fin 16} {st nx : State} (h : execSnapshot n st = .next nx) (hs : P st.dev) : P nx.dev :=
  act_keeps hP (fun _ _ => by repeat' (first | with_reducible assumption | with_reducible apply startOp_closed hP | intro _ | dsimp only)) h hs
theorem execSnapshotCaptureStart_keeps {n : Fin 16} {st nx : State} (h : execSnapshotCaptureStart n st = .next nx) (hs : P st.dev) : P nx.dev :=
  act_keeps hP (fun _ _ => by repeat' (first | with_reducible assumption | with_reducible apply snapshotCaptureStart_closed hP | intro _ | dsimp only)) h hs
theorem execNoise_keeps {n : Fin 16} {st nx : State} (h : execNoise n st = .next nx) (hs : P st.dev) : P nx.dev :=
  act_keeps hP (fun _ _ => by repeat' (first | with_reducible assumption | with_reducible apply startOp_closed hP | intro _ | dsimp only)) h hs
theorem execNoiseMeasureEnd_keeps {n : Fin 16} {a : BitVec 16} {b : BitVec 16} {levels : List (BitVec 16)} {st nx : State} (h : execNoiseMeasureEnd n a b levels st = .next nx) (hs : P st.dev) : P nx.dev :=
  act_keeps hP (fun _ _ => by repeat' (first | with_reducible assumption | with_reducible apply noiseMeasureEnd_closed hP | intro _ | dsimp only)) h hs
theorem execStop_keeps {n : Fin 16} {find : DescFind} {st nx : State} (h : execStop n find st = .next nx) (hs : P st.dev) : P nx.dev :=
  act_keeps hP (fun _ _ => by repeat' (first | with_reducible assumption | with_reducible apply takeOp_closed hP | intro _ | dsimp only)) h hs
theorem execFence_keeps {n : Fin 16} {find : DescFind} {st nx : State} (h : execFence n find st = .next nx) (hs : P st.dev) : P nx.dev :=
  act_keeps hP (fun _ _ => by repeat' (first | with_reducible assumption | with_reducible apply takeOp_closed hP | intro _ | dsimp only)) h hs
theorem execFenceComplete_keeps {n : Fin 16} {st nx : State} (h : execFenceComplete n st = .next nx) (hs : P st.dev) : P nx.dev :=
  act_keeps hP (fun _ _ => by repeat' (first | with_reducible assumption | with_reducible apply fenceComplete_closed hP | intro _ | dsimp only)) h hs
theorem execSelectSet_keeps {n : Fin 16} {find : DescFind} {st nx : State} (h : execSelectSet n find st = .next nx) (hs : P st.dev) : P nx.dev :=
  act_keeps hP (fun _ _ => by repeat' (first | with_reducible assumption | with_reducible apply takeOp_closed hP | intro _ | dsimp only)) h hs
theorem execTurnEnd_keeps {n : Fin 16} {st nx : State} (h : execTurnEnd n st = .next nx) (hs : P st.dev) : P nx.dev :=
  act_keeps hP (fun _ _ => by repeat' (first | with_reducible assumption | with_reducible apply turnEnd_closed hP | intro _ | dsimp only)) h hs
theorem execSnapshotCaptureEnd_keeps {n : Fin 16} {samples : List Word} {st nx : State} (h : execSnapshotCaptureEnd n samples st = .next nx) (hs : P st.dev) : P nx.dev :=
  act_keeps hP (fun _ _ => by repeat' (first | with_reducible assumption | with_reducible apply snapshotCaptureEnd_closed hP | intro _ | dsimp only)) h hs
theorem execManifestSighting_keeps {st nx : State} (h : execManifestSighting st = .next nx) (hs : P st.dev) : P nx.dev :=
  act_keeps hP (fun _ _ => by repeat' (first | with_reducible assumption | with_reducible apply manSighting_closed hP | intro _ | dsimp only)) h hs
theorem execManifestAgeOut_keeps {entry : Fin 65536} {st nx : State} (h : execManifestAgeOut entry st = .next nx) (hs : P st.dev) : P nx.dev :=
  act_keeps hP (fun _ _ => by repeat' (first | with_reducible assumption | with_reducible apply manAgeOut_closed hP | intro _ | dsimp only)) h hs
theorem execManifestWriteDiscard_keeps {st nx : State} (h : execManifestWriteDiscard st = .next nx) (hs : P st.dev) : P nx.dev :=
  act_keeps hP (fun _ _ => by repeat' (first | with_reducible assumption | with_reducible apply Device.manifestDiscard_closed hP | intro _ | dsimp only)) h hs
theorem execManPin_keeps {w : RegWrite} {st nx : State} (h : execManPin w st = .next nx) (hs : P st.dev) : P nx.dev :=
  act_keeps hP (fun _ _ => by repeat' (first | with_reducible assumption | with_reducible apply Device.hostCmd_closed hP | intro _ | dsimp only)) h hs
theorem execManUnpin_keeps {w : RegWrite} {st nx : State} (h : execManUnpin w st = .next nx) (hs : P st.dev) : P nx.dev :=
  act_keeps hP (fun _ _ => by repeat' (first | with_reducible assumption | with_reducible apply Device.hostCmd_closed hP | intro _ | dsimp only)) h hs
theorem execManRemove_keeps {w : RegWrite} {st nx : State} (h : execManRemove w st = .next nx) (hs : P st.dev) : P nx.dev :=
  act_keeps hP (fun _ _ => by repeat' (first | with_reducible assumption | with_reducible apply Device.hostCmd_closed hP | intro _ | dsimp only)) h hs
theorem execManClearUnpinned_keeps {st nx : State} (h : execManClearUnpinned st = .next nx) (hs : P st.dev) : P nx.dev :=
  act_keeps hP (fun _ _ => by repeat' (first | with_reducible assumption | with_reducible apply Device.hostBit_closed hP | intro _ | dsimp only)) h hs
theorem execManClearAll_keeps {st nx : State} (h : execManClearAll st = .next nx) (hs : P st.dev) : P nx.dev :=
  act_keeps hP (fun _ _ => by repeat' (first | with_reducible assumption | with_reducible apply Device.hostBit_closed hP | intro _ | dsimp only)) h hs
theorem execManClearDone_keeps {st nx : State} (h : execManClearDone st = .next nx) (hs : P st.dev) : P nx.dev :=
  act_keeps hP (fun _ _ => by repeat' (first | with_reducible assumption | with_reducible apply manClearDone_closed hP | intro _ | dsimp only)) h hs
theorem execManThreshWrite_keeps {w : RegWrite} {st nx : State} (h : execManThreshWrite w st = .next nx) (hs : P st.dev) : P nx.dev :=
  act_keeps hP (fun _ _ => by repeat' (first | with_reducible assumption | with_reducible apply Device.hostSend_closed hP | intro _ | dsimp only)) h hs
theorem execWeightsTakeEffect_keeps {n : Fin 16} {st nx : State} (h : execWeightsTakeEffect n st = .next nx) (hs : P st.dev) : P nx.dev :=
  act_keeps hP (fun _ _ => by repeat' (first | with_reducible assumption | with_reducible apply weightsTakeEffect_closed hP | intro _ | dsimp only)) h hs
theorem execGroupRecompute_keeps {st nx : State} (h : execGroupRecompute st = .next nx) (hs : P st.dev) : P nx.dev :=
  act_keeps hP (fun _ _ => by repeat' (first | with_reducible assumption | with_reducible apply groupRecompute_closed hP | intro _ | dsimp only)) h hs
theorem execWtFetch_keeps {st nx : State} (h : execWtFetch st = .next nx) (hs : P st.dev) : P nx.dev :=
  act_keeps hP (fun _ _ => by repeat' (first | with_reducible assumption | with_reducible apply Device.hostBit_closed hP | intro _ | dsimp only)) h hs
theorem execWtCommit_keeps {st nx : State} (h : execWtCommit st = .next nx) (hs : P st.dev) : P nx.dev :=
  act_keeps hP (fun _ _ => by repeat' (first | with_reducible assumption | with_reducible apply Device.hostBit_closed hP | intro _ | dsimp only)) h hs
theorem execWtErase_keeps {st nx : State} (h : execWtErase st = .next nx) (hs : P st.dev) : P nx.dev :=
  act_keeps hP (fun _ _ => by repeat' (first | with_reducible assumption | with_reducible apply Device.hostBit_closed hP | intro _ | dsimp only)) h hs
theorem execWtFetchLive_keeps {st nx : State} (h : execWtFetchLive st = .next nx) (hs : P st.dev) : P nx.dev :=
  act_keeps hP (fun _ _ => by repeat' (first | with_reducible assumption | with_reducible apply Device.hostBit_closed hP | intro _ | dsimp only)) h hs
theorem execWtActionDone_keeps {st nx : State} (h : execWtActionDone st = .next nx) (hs : P st.dev) : P nx.dev :=
  act_keeps hP (fun _ _ => by repeat' (first | with_reducible assumption | with_reducible apply wtActionDone_closed hP | intro _ | dsimp only)) h hs
theorem execDirectionEstimate_keeps {z : List (BitVec 32 × BitVec 32)} {noise : BitVec 64} {st nx : State} (h : execDirectionEstimate z noise st = .next nx) (hs : P st.dev) : P nx.dev :=
  act_keeps hP (fun _ _ => by repeat' (first | with_reducible assumption | with_reducible apply directionEstimate_closed hP | intro _ | dsimp only)) h hs
theorem execSurveySector_keeps {n : Fin 16} {st nx : State} (h : execSurveySector n st = .next nx) (hs : P st.dev) : P nx.dev :=
  act_keeps hP (fun _ _ => by repeat' (first | with_reducible assumption | with_reducible apply surveySector_closed hP | intro _ | dsimp only)) h hs
theorem execBfClearDirCount_keeps {st nx : State} (h : execBfClearDirCount st = .next nx) (hs : P st.dev) : P nx.dev :=
  act_keeps hP (fun _ _ => by repeat' (first | with_reducible assumption | with_reducible apply Device.hostBit_closed hP | intro _ | dsimp only)) h hs
theorem execCarrierEnable_keeps {c : Fin 4} {w : RegWrite} {st nx : State} (h : execCarrierEnable c w st = .next nx) (hs : P st.dev) : P nx.dev :=
  act_keeps hP (fun _ _ => by repeat' (first | with_reducible assumption | with_reducible apply Device.hostCmd_closed hP | intro _ | dsimp only)) h hs
theorem execSynthSLockAcquire_keeps {st nx : State} (h : execSynthSLockAcquire st = .next nx) (hs : P st.dev) : P nx.dev :=
  act_keeps hP (fun _ _ => by repeat' (first | with_reducible assumption | with_reducible apply synthSLockAcquire_closed hP | intro _ | dsimp only)) h hs
theorem execSynthWaitTimeout_keeps {c : Fin 4} {st nx : State} (h : execSynthWaitTimeout c st = .next nx) (hs : P st.dev) : P nx.dev :=
  act_keeps hP (fun _ _ => by repeat' (first | with_reducible assumption | with_reducible apply synthWaitTimeout_closed hP | intro _ | dsimp only)) h hs
theorem execSynthSLockLoss_keeps {st nx : State} (h : execSynthSLockLoss st = .next nx) (hs : P st.dev) : P nx.dev :=
  act_keeps hP (fun _ _ => by repeat' (first | with_reducible assumption | with_reducible apply synthSLockLoss_closed hP | intro _ | dsimp only)) h hs
theorem execCoexGrantAssert_keeps {st nx : State} (h : execCoexGrantAssert st = .next nx) (hs : P st.dev) : P nx.dev :=
  act_keeps hP (fun _ _ => by repeat' (first | with_reducible assumption | with_reducible apply coexGrantAssert_closed hP | intro _ | dsimp only)) h hs
theorem execCoexGrantWithdraw_keeps {st nx : State} (h : execCoexGrantWithdraw st = .next nx) (hs : P st.dev) : P nx.dev :=
  act_keeps hP (fun _ _ => by repeat' (first | with_reducible assumption | with_reducible apply coexGrantWithdraw_closed hP | intro _ | dsimp only)) h hs
theorem execListenEnd_keeps {c : Fin 4} {power : BitVec 16} {st nx : State} (h : execListenEnd c power st = .next nx) (hs : P st.dev) : P nx.dev :=
  act_keeps hP (fun _ _ => by repeat' (first | with_reducible assumption | with_reducible apply listenEnd_closed hP | intro _ | dsimp only)) h hs
theorem execLbtRetryExpiry_keeps {c : Fin 4} {st nx : State} (h : execLbtRetryExpiry c st = .next nx) (hs : P st.dev) : P nx.dev :=
  act_keeps hP (fun _ _ => by repeat' (first | with_reducible assumption | with_reducible apply lbtRetryExpiry_closed hP | intro _ | dsimp only)) h hs
theorem execRampUpEnd_keeps {c : Fin 4} {st nx : State} (h : execRampUpEnd c st = .next nx) (hs : P st.dev) : P nx.dev :=
  act_keeps hP (fun _ _ => by repeat' (first | with_reducible assumption | with_reducible apply rampUpEnd_closed hP | intro _ | dsimp only)) h hs
theorem execSettleEnd_keeps {c : Fin 4} {st nx : State} (h : execSettleEnd c st = .next nx) (hs : P st.dev) : P nx.dev :=
  act_keeps hP (fun _ _ => by repeat' (first | with_reducible assumption | with_reducible apply settleEnd_closed hP | intro _ | dsimp only)) h hs
theorem execCarrierDisable_keeps {c : Fin 4} {w : RegWrite} {st nx : State} (h : execCarrierDisable c w st = .next nx) (hs : P st.dev) : P nx.dev :=
  act_keeps hP (fun _ _ => by repeat' (first | with_reducible assumption | with_reducible apply Device.hostCmd_closed hP | intro _ | dsimp only)) h hs
theorem execHop_keeps {c : Fin 4} {w : RegWrite} {st nx : State} (h : execHop c w st = .next nx) (hs : P st.dev) : P nx.dev :=
  act_keeps hP (fun _ _ => by repeat' (first | with_reducible assumption | with_reducible apply Device.hostCmd_closed hP | intro _ | dsimp only)) h hs
theorem execAutoHop_keeps {c : Fin 4} {st nx : State} (h : execAutoHop c st = .next nx) (hs : P st.dev) : P nx.dev :=
  act_keeps hP (fun _ _ => by repeat' (first | with_reducible assumption | with_reducible apply autoHop_closed hP | intro _ | dsimp only)) h hs
theorem execDrainQuiet_keeps {c : Fin 4} {st nx : State} (h : execDrainQuiet c st = .next nx) (hs : P st.dev) : P nx.dev :=
  act_keeps hP (fun _ _ => by repeat' (first | with_reducible assumption | with_reducible apply drainQuiet_closed hP | intro _ | dsimp only)) h hs
theorem execDrainCut_keeps {c : Fin 4} {st nx : State} (h : execDrainCut c st = .next nx) (hs : P st.dev) : P nx.dev :=
  act_keeps hP (fun _ _ => by repeat' (first | with_reducible assumption | with_reducible apply drainCut_closed hP | intro _ | dsimp only)) h hs
theorem execRampDownEnd_keeps {c : Fin 4} {st nx : State} (h : execRampDownEnd c st = .next nx) (hs : P st.dev) : P nx.dev :=
  act_keeps hP (fun _ _ => by repeat' (first | with_reducible assumption | with_reducible apply rampDownEnd_closed hP | intro _ | dsimp only)) h hs
theorem execRetuneEnd_keeps {c : Fin 4} {st nx : State} (h : execRetuneEnd c st = .next nx) (hs : P st.dev) : P nx.dev :=
  act_keeps hP (fun _ _ => by repeat' (first | with_reducible assumption | with_reducible apply retuneEnd_closed hP | intro _ | dsimp only)) h hs
theorem execDwellLimitDrain_keeps {c : Fin 4} {st nx : State} (h : execDwellLimitDrain c st = .next nx) (hs : P st.dev) : P nx.dev :=
  act_keeps hP (fun _ _ => by repeat' (first | with_reducible assumption | with_reducible apply dwellLimitDrain_closed hP | intro _ | dsimp only)) h hs
theorem execOccupancyLimitDrain_keeps {c : Fin 4} {st nx : State} (h : execOccupancyLimitDrain c st = .next nx) (hs : P st.dev) : P nx.dev :=
  act_keeps hP (fun _ _ => by repeat' (first | with_reducible assumption | with_reducible apply occupancyLimitDrain_closed hP | intro _ | dsimp only)) h hs
theorem execBarredRelease_keeps {c : Fin 4} {st nx : State} (h : execBarredRelease c st = .next nx) (hs : P st.dev) : P nx.dev :=
  act_keeps hP (fun _ _ => by repeat' (first | with_reducible assumption | with_reducible apply barredRelease_closed hP | intro _ | dsimp only)) h hs
theorem execBandCalDue_keeps {st nx : State} (h : execBandCalDue st = .next nx) (hs : P st.dev) : P nx.dev :=
  act_keeps hP (fun _ _ => by repeat' (first | with_reducible assumption | with_reducible apply bandCalDue_closed hP | intro _ | dsimp only)) h hs
theorem execBandCalStart_keeps {st nx : State} (h : execBandCalStart st = .next nx) (hs : P st.dev) : P nx.dev :=
  act_keeps hP (fun _ _ => by repeat' (first | with_reducible assumption | with_reducible apply bandCalStart_closed hP | intro _ | dsimp only)) h hs
theorem execBandCalForce_keeps {st nx : State} (h : execBandCalForce st = .next nx) (hs : P st.dev) : P nx.dev :=
  act_keeps hP (fun _ _ => by repeat' (first | with_reducible assumption | with_reducible apply bandCalForce_closed hP | intro _ | dsimp only)) h hs
theorem execBandCalComplete_keeps {st nx : State} (h : execBandCalComplete st = .next nx) (hs : P st.dev) : P nx.dev :=
  act_keeps hP (fun _ _ => by repeat' (first | with_reducible assumption | with_reducible apply bandCalComplete_closed hP | intro _ | dsimp only)) h hs
theorem execSynthRecal_keeps {st nx : State} (h : execSynthRecal st = .next nx) (hs : P st.dev) : P nx.dev :=
  act_keeps hP (fun _ _ => by repeat' (first | with_reducible assumption | with_reducible apply Device.hostBit_closed hP | intro _ | dsimp only)) h hs
theorem execBreakwaterDwellEnd_keeps {meas : List MaskMeas} {st nx : State} (h : execBreakwaterDwellEnd meas st = .next nx) (hs : P st.dev) : P nx.dev :=
  act_keeps hP (fun _ _ => by repeat' (first | with_reducible assumption | with_reducible apply breakwaterDwellEnd_closed hP | intro _ | dsimp only)) h hs
theorem execBwRelease_keeps {st nx : State} (h : execBwRelease st = .next nx) (hs : P st.dev) : P nx.dev :=
  act_keeps hP (fun _ _ => by repeat' (first | with_reducible assumption | with_reducible apply Device.hostBit_closed hP | intro _ | dsimp only)) h hs
theorem execBwClearCount_keeps {st nx : State} (h : execBwClearCount st = .next nx) (hs : P st.dev) : P nx.dev :=
  act_keeps hP (fun _ _ => by repeat' (first | with_reducible assumption | with_reducible apply Device.hostBit_closed hP | intro _ | dsimp only)) h hs
theorem execReglReload_keeps {st nx : State} (h : execReglReload st = .next nx) (hs : P st.dev) : P nx.dev :=
  act_keeps hP (fun _ _ => by repeat' (first | with_reducible assumption | with_reducible apply Device.hostBit_closed hP | intro _ | dsimp only)) h hs
theorem execReglClear_keeps {st nx : State} (h : execReglClear st = .next nx) (hs : P st.dev) : P nx.dev :=
  act_keeps hP (fun _ _ => by repeat' (first | with_reducible assumption | with_reducible apply Device.hostBit_closed hP | intro _ | dsimp only)) h hs
theorem execPathEnable_keeps {p : Fin 64} {w : RegWrite} {st nx : State} (h : execPathEnable p w st = .next nx) (hs : P st.dev) : P nx.dev :=
  act_keeps hP (fun _ _ => by repeat' (first | with_reducible assumption | with_reducible apply Device.hostCmd_closed hP | intro _ | dsimp only)) h hs
theorem execPathQueueLeave_keeps {st nx : State} (h : execPathQueueLeave st = .next nx) (hs : P st.dev) : P nx.dev :=
  act_keeps hP (fun _ _ => by repeat' (first | with_reducible assumption | with_reducible apply pathQueueLeave_closed hP | intro _ | dsimp only)) h hs
theorem execPoweringEnd_keeps {p : Fin 64} {st nx : State} (h : execPoweringEnd p st = .next nx) (hs : P st.dev) : P nx.dev :=
  act_keeps hP (fun _ _ => by repeat' (first | with_reducible assumption | with_reducible apply poweringEnd_closed hP | intro _ | dsimp only)) h hs
theorem execRestoringEnd_keeps {p : Fin 64} {st nx : State} (h : execRestoringEnd p st = .next nx) (hs : P st.dev) : P nx.dev :=
  act_keeps hP (fun _ _ => by repeat' (first | with_reducible assumption | with_reducible apply restoringEnd_closed hP | intro _ | dsimp only)) h hs
theorem execCheckingEnd_keeps {p : Fin 64} {nf : BitVec 16} {ok : Bool} {st nx : State} (h : execCheckingEnd p nf ok st = .next nx) (hs : P st.dev) : P nx.dev :=
  act_keeps hP (fun _ _ => by repeat' (first | with_reducible assumption | with_reducible apply checkingEnd_closed hP | intro _ | dsimp only)) h hs
theorem execJoinRampEnd_keeps {p : Fin 64} {st nx : State} (h : execJoinRampEnd p st = .next nx) (hs : P st.dev) : P nx.dev :=
  act_keeps hP (fun _ _ => by repeat' (first | with_reducible assumption | with_reducible apply joinRampEnd_closed hP | intro _ | dsimp only)) h hs
theorem execPathDisable_keeps {p : Fin 64} {w : RegWrite} {st nx : State} (h : execPathDisable p w st = .next nx) (hs : P st.dev) : P nx.dev :=
  act_keeps hP (fun _ _ => by repeat' (first | with_reducible assumption | with_reducible apply Device.hostCmd_closed hP | intro _ | dsimp only)) h hs
theorem execPathRampDownEnd_keeps {p : Fin 64} {st nx : State} (h : execPathRampDownEnd p st = .next nx) (hs : P st.dev) : P nx.dev :=
  act_keeps hP (fun _ _ => by repeat' (first | with_reducible assumption | with_reducible apply pathRampDownEnd_closed hP | intro _ | dsimp only)) h hs
theorem execPowerDownEnd_keeps {p : Fin 64} {st nx : State} (h : execPowerDownEnd p st = .next nx) (hs : P st.dev) : P nx.dev :=
  act_keeps hP (fun _ _ => by repeat' (first | with_reducible assumption | with_reducible apply powerDownEnd_closed hP | intro _ | dsimp only)) h hs
theorem execPathFault_keeps {p : Fin 64} {causes : BitVec 7} {st nx : State} (h : execPathFault p causes st = .next nx) (hs : P st.dev) : P nx.dev :=
  act_keeps hP (fun _ _ => by repeat' (first | with_reducible assumption | with_reducible apply Device.pathFails_closed hP | intro _ | dsimp only)) h hs
theorem execTxpwrWrite_keeps {p : Fin 64} {w : RegWrite} {st nx : State} (h : execTxpwrWrite p w st = .next nx) (hs : P st.dev) : P nx.dev :=
  act_keeps hP (fun _ _ => by repeat' (first | with_reducible assumption | with_reducible apply Device.hostSend_closed hP | intro _ | dsimp only)) h hs
theorem execAgcDownStep_keeps {p : Fin 64} {peak : BitVec 8} {st nx : State} (h : execAgcDownStep p peak st = .next nx) (hs : P st.dev) : P nx.dev :=
  act_keeps hP (fun _ _ => by repeat' (first | with_reducible assumption | with_reducible apply agcDownStep_closed hP | intro _ | dsimp only)) h hs
theorem execCancTrack_keeps {p : Fin 64} {c : Fin 4} {null : Word} {resid : BitVec 16} {depth : BitVec 16} {st nx : State} (h : execCancTrack p c null resid depth st = .next nx) (hs : P st.dev) : P nx.dev :=
  act_keeps hP (fun _ _ => by repeat' (first | with_reducible assumption | with_reducible apply cancTrack_closed hP | intro _ | dsimp only)) h hs
theorem execSliceFault_keeps {p : Fin 64} {slice : Fin 17} {st nx : State} (h : execSliceFault p slice st = .next nx) (hs : P st.dev) : P nx.dev :=
  act_keeps hP (fun _ _ => by repeat' (first | with_reducible assumption | with_reducible apply sliceFault_closed hP | intro _ | dsimp only)) h hs
theorem execDacCellFault_keeps {p : Fin 64} {cell : Fin 67} {st nx : State} (h : execDacCellFault p cell st = .next nx) (hs : P st.dev) : P nx.dev :=
  act_keeps hP (fun _ _ => by repeat' (first | with_reducible assumption | with_reducible apply dacCellFault_closed hP | intro _ | dsimp only)) h hs
theorem execDriverCellFault_keeps {p : Fin 64} {cell : Fin 24} {st nx : State} (h : execDriverCellFault p cell st = .next nx) (hs : P st.dev) : P nx.dev :=
  act_keeps hP (fun _ _ => by repeat' (first | with_reducible assumption | with_reducible apply driverCellFault_closed hP | intro _ | dsimp only)) h hs
theorem execPathClearCounts_keeps {p : Fin 64} {w : RegWrite} {st nx : State} (h : execPathClearCounts p w st = .next nx) (hs : P st.dev) : P nx.dev :=
  act_keeps hP (fun _ _ => by repeat' (first | with_reducible assumption | with_reducible apply Device.hostCmd_closed hP | intro _ | dsimp only)) h hs
theorem execPathClearFaults_keeps {p : Fin 64} {w : RegWrite} {st nx : State} (h : execPathClearFaults p w st = .next nx) (hs : P st.dev) : P nx.dev :=
  act_keeps hP (fun _ _ => by repeat' (first | with_reducible assumption | with_reducible apply Device.hostCmd_closed hP | intro _ | dsimp only)) h hs
theorem execCalFreq_keeps {st nx : State} (h : execCalFreq st = .next nx) (hs : P st.dev) : P nx.dev :=
  act_keeps hP (fun _ _ => by repeat' (first | with_reducible assumption | with_reducible apply Device.hostBit_closed hP | intro _ | dsimp only)) h hs
theorem execCalPower_keeps {st nx : State} (h : execCalPower st = .next nx) (hs : P st.dev) : P nx.dev :=
  act_keeps hP (fun _ _ => by repeat' (first | with_reducible assumption | with_reducible apply Device.hostBit_closed hP | intro _ | dsimp only)) h hs
theorem execCalArrayRx_keeps {st nx : State} (h : execCalArrayRx st = .next nx) (hs : P st.dev) : P nx.dev :=
  act_keeps hP (fun _ _ => by repeat' (first | with_reducible assumption | with_reducible apply Device.hostBit_closed hP | intro _ | dsimp only)) h hs
theorem execCalArrayTx_keeps {st nx : State} (h : execCalArrayTx st = .next nx) (hs : P st.dev) : P nx.dev :=
  act_keeps hP (fun _ _ => by repeat' (first | with_reducible assumption | with_reducible apply Device.hostBit_closed hP | intro _ | dsimp only)) h hs
theorem execCalConv_keeps {st nx : State} (h : execCalConv st = .next nx) (hs : P st.dev) : P nx.dev :=
  act_keeps hP (fun _ _ => by repeat' (first | with_reducible assumption | with_reducible apply Device.hostBit_closed hP | intro _ | dsimp only)) h hs
theorem execCalCanc_keeps {st nx : State} (h : execCalCanc st = .next nx) (hs : P st.dev) : P nx.dev :=
  act_keeps hP (fun _ _ => by repeat' (first | with_reducible assumption | with_reducible apply Device.hostBit_closed hP | intro _ | dsimp only)) h hs
theorem execCalDpd_keeps {path : Byte} {st nx : State} (h : execCalDpd path st = .next nx) (hs : P st.dev) : P nx.dev :=
  act_keeps hP (fun _ _ => by repeat' (first | with_reducible assumption | with_reducible apply Device.ownWrite_closed hP | intro _ | dsimp only)) h hs
theorem execCalAbort_keeps {st nx : State} (h : execCalAbort st = .next nx) (hs : P st.dev) : P nx.dev :=
  act_keeps hP (fun _ _ => by repeat' (first | with_reducible assumption | with_reducible apply Device.hostBit_closed hP | intro _ | dsimp only)) h hs
theorem execCalProcComplete_keeps {m : CalMeas} {st nx : State} (h : execCalProcComplete m st = .next nx) (hs : P st.dev) : P nx.dev :=
  act_keeps hP (fun _ _ => by repeat' (first | with_reducible assumption | with_reducible apply calProcComplete_closed hP | intro _ | dsimp only)) h hs
theorem execBoundaryApply_keeps {gaps : BitVec 4} {st nx : State} (h : execBoundaryApply gaps st = .next nx) (hs : P st.dev) : P nx.dev :=
  act_keeps hP (fun _ _ => by repeat' (first | with_reducible assumption | with_reducible apply boundaryApply_closed hP | intro _ | dsimp only)) h hs
theorem execSlackWaterCall_keeps {st nx : State} (h : execSlackWaterCall st = .next nx) (hs : P st.dev) : P nx.dev :=
  act_keeps hP (fun _ _ => by repeat' (first | with_reducible assumption | with_reducible apply slackWaterCall_closed hP | intro _ | dsimp only)) h hs
theorem execCalDue_keeps {st nx : State} (h : execCalDue st = .next nx) (hs : P st.dev) : P nx.dev :=
  act_keeps hP (fun _ _ => by repeat' (first | with_reducible assumption | with_reducible apply calDueEvent_closed hP | intro _ | dsimp only)) h hs
theorem execTblDataRead_keeps {st nx : State} (h : execTblDataRead st = .next nx) (hs : P st.dev) : P nx.dev :=
  act_keeps hP (fun _ _ => by repeat' (first | with_reducible assumption | with_reducible apply Device.hostRead_closed hP | intro _ | dsimp only)) h hs
theorem execTblDataWrite_keeps {w : RegWrite} {st nx : State} (h : execTblDataWrite w st = .next nx) (hs : P st.dev) : P nx.dev :=
  act_keeps hP (fun _ _ => by repeat' (first | with_reducible assumption | with_reducible apply Device.hostSend_closed hP | intro _ | dsimp only)) h hs
theorem execTblCommit_keeps {st nx : State} (h : execTblCommit st = .next nx) (hs : P st.dev) : P nx.dev :=
  act_keeps hP (fun _ _ => by repeat' (first | with_reducible assumption | with_reducible apply Device.hostBit_closed hP | intro _ | dsimp only)) h hs
theorem execTblInvalidate_keeps {st nx : State} (h : execTblInvalidate st = .next nx) (hs : P st.dev) : P nx.dev :=
  act_keeps hP (fun _ _ => by repeat' (first | with_reducible assumption | with_reducible apply Device.hostBit_closed hP | intro _ | dsimp only)) h hs
theorem execCalClearRejects_keeps {st nx : State} (h : execCalClearRejects st = .next nx) (hs : P st.dev) : P nx.dev :=
  act_keeps hP (fun _ _ => by repeat' (first | with_reducible assumption | with_reducible apply Device.hostBit_closed hP | intro _ | dsimp only)) h hs
theorem execCalClearSlacks_keeps {st nx : State} (h : execCalClearSlacks st = .next nx) (hs : P st.dev) : P nx.dev :=
  act_keeps hP (fun _ _ => by repeat' (first | with_reducible assumption | with_reducible apply Device.hostBit_closed hP | intro _ | dsimp only)) h hs
theorem execPilotFault_keeps {p : Fin 20} {cause : PilotCause} {st nx : State} (h : execPilotFault p cause st = .next nx) (hs : P st.dev) : P nx.dev :=
  act_keeps hP (fun _ _ => by repeat' (first | with_reducible assumption | with_reducible apply pilotFault_closed hP | intro _ | dsimp only)) h hs
theorem execFailoverResume_keeps {n : Fin 16} {st nx : State} (h : execFailoverResume n st = .next nx) (hs : P st.dev) : P nx.dev :=
  act_keeps hP (fun _ _ => by repeat' (first | with_reducible assumption | with_reducible apply failoverResume_closed hP | intro _ | dsimp only)) h hs
theorem execPilotTestEnd_keeps {p : Fin 20} {pass : Bool} {st nx : State} (h : execPilotTestEnd p pass st = .next nx) (hs : P st.dev) : P nx.dev :=
  act_keeps hP (fun _ _ => by repeat' (first | with_reducible assumption | with_reducible apply pilotTestEnd_closed hP | intro _ | dsimp only)) h hs
theorem execPilotMoveTo_keeps {p : Fin 20} {w : RegWrite} {st nx : State} (h : execPilotMoveTo p w st = .next nx) (hs : P st.dev) : P nx.dev :=
  act_keeps hP (fun _ _ => by repeat' (first | with_reducible assumption | with_reducible apply Device.hostCmd_closed hP | intro _ | dsimp only)) h hs
theorem execMoveAtQuietPoint_keeps {n : Fin 16} {st nx : State} (h : execMoveAtQuietPoint n st = .next nx) (hs : P st.dev) : P nx.dev :=
  act_keeps hP (fun _ _ => by repeat' (first | with_reducible assumption | with_reducible apply moveAtQuietPoint_closed hP | intro _ | dsimp only)) h hs
theorem execMoveComplete_keeps {n : Fin 16} {st nx : State} (h : execMoveComplete n st = .next nx) (hs : P st.dev) : P nx.dev :=
  act_keeps hP (fun _ _ => by repeat' (first | with_reducible assumption | with_reducible apply moveComplete_closed hP | intro _ | dsimp only)) h hs
theorem execDredgerRowVisit_keeps {bank : Fin 14} {row : Fin 8192} {find : RowFind} {st nx : State} (h : execDredgerRowVisit bank row find st = .next nx) (hs : P st.dev) : P nx.dev :=
  act_keeps hP (fun _ _ => by repeat' (first | with_reducible assumption | with_reducible apply dredgerRowVisit_closed hP | intro _ | dsimp only)) h hs
theorem execRepairSelftest_keeps {st nx : State} (h : execRepairSelftest st = .next nx) (hs : P st.dev) : P nx.dev :=
  act_keeps hP (fun _ _ => by repeat' (first | with_reducible assumption | with_reducible apply Device.hostBit_closed hP | intro _ | dsimp only)) h hs
theorem execSelftestStepEnd_keeps {x : SelfTestFinds} {st nx : State} (h : execSelftestStepEnd x st = .next nx) (hs : P st.dev) : P nx.dev :=
  act_keeps hP (fun _ _ => by repeat' (first | with_reducible assumption | with_reducible apply selftestStepEnd_closed hP | intro _ | dsimp only)) h hs
theorem execRepairAbort_keeps {st nx : State} (h : execRepairAbort st = .next nx) (hs : P st.dev) : P nx.dev :=
  act_keeps hP (fun _ _ => by repeat' (first | with_reducible assumption | with_reducible apply Device.hostBit_closed hP | intro _ | dsimp only)) h hs
theorem execMarkDead_keeps {w : RegWrite} {st nx : State} (h : execMarkDead w st = .next nx) (hs : P st.dev) : P nx.dev :=
  act_keeps hP (fun _ _ => by repeat' (first | with_reducible assumption | with_reducible apply Device.hostCmd_closed hP | intro _ | dsimp only)) h hs
theorem execRevive_keeps {w : RegWrite} {st nx : State} (h : execRevive w st = .next nx) (hs : P st.dev) : P nx.dev :=
  act_keeps hP (fun _ _ => by repeat' (first | with_reducible assumption | with_reducible apply Device.hostCmd_closed hP | intro _ | dsimp only)) h hs
theorem execRepairCompact_keeps {st nx : State} (h : execRepairCompact st = .next nx) (hs : P st.dev) : P nx.dev :=
  act_keeps hP (fun _ _ => by repeat' (first | with_reducible assumption | with_reducible apply Device.hostBit_closed hP | intro _ | dsimp only)) h hs
theorem execRepairRecordWrite_keeps {st nx : State} (h : execRepairRecordWrite st = .next nx) (hs : P st.dev) : P nx.dev :=
  act_keeps hP (fun _ _ => by repeat' (first | with_reducible assumption | with_reducible apply repairRecordWrite_closed hP | intro _ | dsimp only)) h hs
theorem execCompactionEnd_keeps {st nx : State} (h : execCompactionEnd st = .next nx) (hs : P st.dev) : P nx.dev :=
  act_keeps hP (fun _ _ => by repeat' (first | with_reducible assumption | with_reducible apply compactionEnd_closed hP | intro _ | dsimp only)) h hs
theorem execRepairClearEcc_keeps {st nx : State} (h : execRepairClearEcc st = .next nx) (hs : P st.dev) : P nx.dev :=
  act_keeps hP (fun _ _ => by repeat' (first | with_reducible assumption | with_reducible apply Device.hostBit_closed hP | intro _ | dsimp only)) h hs
theorem execPilotEnable_keeps {p : Fin 20} {w : RegWrite} {st nx : State} (h : execPilotEnable p w st = .next nx) (hs : P st.dev) : P nx.dev :=
  act_keeps hP (fun _ _ => by repeat' (first | with_reducible assumption | with_reducible apply Device.hostCmd_closed hP | intro _ | dsimp only)) h hs
theorem execPilotDisable_keeps {p : Fin 20} {w : RegWrite} {st nx : State} (h : execPilotDisable p w st = .next nx) (hs : P st.dev) : P nx.dev :=
  act_keeps hP (fun _ _ => by repeat' (first | with_reducible assumption | with_reducible apply Device.hostCmd_closed hP | intro _ | dsimp only)) h hs
theorem execPilotCopyFrom_keeps {p : Fin 20} {w : RegWrite} {st nx : State} (h : execPilotCopyFrom p w st = .next nx) (hs : P st.dev) : P nx.dev :=
  act_keeps hP (fun _ _ => by repeat' (first | with_reducible assumption | with_reducible apply Device.hostCmd_closed hP | intro _ | dsimp only)) h hs
theorem execPilotVerify_keeps {p : Fin 20} {w : RegWrite} {st nx : State} (h : execPilotVerify p w st = .next nx) (hs : P st.dev) : P nx.dev :=
  act_keeps hP (fun _ _ => by repeat' (first | with_reducible assumption | with_reducible apply Device.hostCmd_closed hP | intro _ | dsimp only)) h hs
theorem execPilotSelftest_keeps {p : Fin 20} {w : RegWrite} {st nx : State} (h : execPilotSelftest p w st = .next nx) (hs : P st.dev) : P nx.dev :=
  act_keeps hP (fun _ _ => by repeat' (first | with_reducible assumption | with_reducible apply Device.hostCmd_closed hP | intro _ | dsimp only)) h hs
theorem execPilotImgDataWrite_keeps {p : Fin 20} {w : RegWrite} {st nx : State} (h : execPilotImgDataWrite p w st = .next nx) (hs : P st.dev) : P nx.dev :=
  act_keeps hP (fun _ _ => by repeat' (first | with_reducible assumption | with_reducible apply Device.hostSend_closed hP | intro _ | dsimp only)) h hs
theorem execPilotImgDataRead_keeps {p : Fin 20} {st nx : State} (h : execPilotImgDataRead p st = .next nx) (hs : P st.dev) : P nx.dev :=
  act_keeps hP (fun _ _ => by repeat' (first | with_reducible assumption | with_reducible apply Device.hostRead_closed hP | intro _ | dsimp only)) h hs
theorem execImageLoadIdle_keeps {p : Fin 20} {st nx : State} (h : execImageLoadIdle p st = .next nx) (hs : P st.dev) : P nx.dev :=
  act_keeps hP (fun _ _ => by repeat' (first | with_reducible assumption | with_reducible apply imageLoadIdle_closed hP | intro _ | dsimp only)) h hs
theorem execImageCopyDone_keeps {p : Fin 20} {st nx : State} (h : execImageCopyDone p st = .next nx) (hs : P st.dev) : P nx.dev :=
  act_keeps hP (fun _ _ => by repeat' (first | with_reducible assumption | with_reducible apply imageCopyDone_closed hP | intro _ | dsimp only)) h hs
theorem execImageCheckEnd_keeps {p : Fin 20} {st nx : State} (h : execImageCheckEnd p st = .next nx) (hs : P st.dev) : P nx.dev :=
  act_keeps hP (fun _ _ => by repeat' (first | with_reducible assumption | with_reducible apply imageCheckEnd_closed hP | intro _ | dsimp only)) h hs
theorem execPilotClearCounts_keeps {p : Fin 20} {w : RegWrite} {st nx : State} (h : execPilotClearCounts p w st = .next nx) (hs : P st.dev) : P nx.dev :=
  act_keeps hP (fun _ _ => by repeat' (first | with_reducible assumption | with_reducible apply Device.hostCmd_closed hP | intro _ | dsimp only)) h hs
theorem execPilotClearCkpts_keeps {p : Fin 20} {w : RegWrite} {st nx : State} (h : execPilotClearCkpts p w st = .next nx) (hs : P st.dev) : P nx.dev :=
  act_keeps hP (fun _ _ => by repeat' (first | with_reducible assumption | with_reducible apply Device.hostCmd_closed hP | intro _ | dsimp only)) h hs
theorem execKlPortEnable_keeps {k : Fin 5} {w : RegWrite} {st nx : State} (h : execKlPortEnable k w st = .next nx) (hs : P st.dev) : P nx.dev :=
  act_keeps hP (fun _ _ => by repeat' (first | with_reducible assumption | with_reducible apply Device.hostCmd_closed hP | intro _ | dsimp only)) h hs
theorem execKlSignalDetect_keeps {k : Fin 5} {st nx : State} (h : execKlSignalDetect k st = .next nx) (hs : P st.dev) : P nx.dev :=
  act_keeps hP (fun _ _ => by repeat' (first | with_reducible assumption | with_reducible apply klSignalDetect_closed hP | intro _ | dsimp only)) h hs
theorem execKlBlockLock_keeps {k : Fin 5} {st nx : State} (h : execKlBlockLock k st = .next nx) (hs : P st.dev) : P nx.dev :=
  act_keeps hP (fun _ _ => by repeat' (first | with_reducible assumption | with_reducible apply klBlockLock_closed hP | intro _ | dsimp only)) h hs
theorem execKlMeasureEnd_keeps {k : Fin 5} {st nx : State} (h : execKlMeasureEnd k st = .next nx) (hs : P st.dev) : P nx.dev :=
  act_keeps hP (fun _ _ => by repeat' (first | with_reducible assumption | with_reducible apply klMeasureEnd_closed hP | intro _ | dsimp only)) h hs
theorem execKlPortDisable_keeps {k : Fin 5} {w : RegWrite} {st nx : State} (h : execKlPortDisable k w st = .next nx) (hs : P st.dev) : P nx.dev :=
  act_keeps hP (fun _ _ => by repeat' (first | with_reducible assumption | with_reducible apply Device.hostCmd_closed hP | intro _ | dsimp only)) h hs
theorem execKlDrainEnd_keeps {k : Fin 5} {st nx : State} (h : execKlDrainEnd k st = .next nx) (hs : P st.dev) : P nx.dev :=
  act_keeps hP (fun _ _ => by repeat' (first | with_reducible assumption | with_reducible apply klDrainEnd_closed hP | intro _ | dsimp only)) h hs
theorem execKlPortFault_keeps {k : Fin 5} {cause : KlCause} {st nx : State} (h : execKlPortFault k cause st = .next nx) (hs : P st.dev) : P nx.dev :=
  act_keeps hP (fun _ _ => by repeat' (first | with_reducible assumption | with_reducible apply klPortFault_closed hP | intro _ | dsimp only)) h hs
theorem execKlRetrainTimer_keeps {k : Fin 5} {st nx : State} (h : execKlRetrainTimer k st = .next nx) (hs : P st.dev) : P nx.dev :=
  act_keeps hP (fun _ _ => by repeat' (first | with_reducible assumption | with_reducible apply klRetrainTimer_closed hP | intro _ | dsimp only)) h hs
theorem execKlTick_keeps {k : Fin 5} {tide : BitVec 48} {st nx : State} (h : execKlTick k tide st = .next nx) (hs : P st.dev) : P nx.dev :=
  act_keeps hP (fun _ _ => by repeat' (first | with_reducible assumption | with_reducible apply klTick_closed hP | intro _ | dsimp only)) h hs
theorem execKlTrigBlock_keeps {k : Fin 5} {ch : Fin 4} {low : BitVec 48} {st nx : State} (h : execKlTrigBlock k ch low st = .next nx) (hs : P st.dev) : P nx.dev :=
  act_keeps hP (fun _ _ => by repeat' (first | with_reducible assumption | with_reducible apply klTrigBlock_closed hP | intro _ | dsimp only)) h hs
theorem execKlDly_keeps {k : Fin 5} {st nx : State} (h : execKlDly k st = .next nx) (hs : P st.dev) : P nx.dev :=
  act_keeps hP (fun _ _ => by repeat' (first | with_reducible assumption | with_reducible apply klDly_closed hP | intro _ | dsimp only)) h hs
theorem execKlNak_keeps {k : Fin 5} {st nx : State} (h : execKlNak k st = .next nx) (hs : P st.dev) : P nx.dev :=
  act_keeps hP (fun _ _ => by repeat' (first | with_reducible assumption | with_reducible apply klNak_closed hP | intro _ | dsimp only)) h hs
theorem execKlReplayTimeout_keeps {k : Fin 5} {st nx : State} (h : execKlReplayTimeout k st = .next nx) (hs : P st.dev) : P nx.dev :=
  act_keeps hP (fun _ _ => by repeat' (first | with_reducible assumption | with_reducible apply klReplayTimeout_closed hP | intro _ | dsimp only)) h hs
theorem execKlBadFrame_keeps {k : Fin 5} {st nx : State} (h : execKlBadFrame k st = .next nx) (hs : P st.dev) : P nx.dev :=
  act_keeps hP (fun _ _ => by repeat' (first | with_reducible assumption | with_reducible apply klBadFrame_closed hP | intro _ | dsimp only)) h hs
theorem execKlNullFrame_keeps {h : KlHead} {st nx : State} (h : execKlNullFrame h st = .next nx) (hs : P st.dev) : P nx.dev :=
  act_keeps hP (fun _ _ => by repeat' (first | with_reducible assumption | with_reducible apply klNullFrame_closed hP | intro _ | dsimp only)) h hs
theorem execKlTrainFrame_keeps {k : Fin 5} {t : KlTrain} {st nx : State} (h : execKlTrainFrame k t st = .next nx) (hs : P st.dev) : P nx.dev :=
  act_keeps hP (fun _ _ => by repeat' (first | with_reducible assumption | with_reducible apply klTrainFrame_closed hP | intro _ | dsimp only)) h hs
theorem execCensusReq_keeps {h : KlHead} {gen : Byte} {depth : BitVec 4} {route : BitVec 16} {st nx : State} (h : execCensusReq h gen depth route st = .next nx) (hs : P st.dev) : P nx.dev :=
  act_keeps hP (fun _ _ => by repeat' (first | with_reducible assumption | with_reducible apply censusReq_closed hP | intro _ | dsimp only)) h hs
theorem execCensusRec_keeps {h : KlHead} {r : List Byte} {st nx : State} (h : execCensusRec h r st = .next nx) (hs : P st.dev) : P nx.dev :=
  act_keeps hP (fun _ _ => by repeat' (first | with_reducible assumption | with_reducible apply censusRec_closed hP | intro _ | dsimp only)) h hs
theorem execAssign_keeps {h : KlHead} {way : KlTo} {number : Option (Fin 2048)} {gen : Byte} {cp : Byte} {hostFormat : Byte} {altOk : Bool} {st nx : State} (h : execAssign h way number gen cp hostFormat altOk st = .next nx) (hs : P st.dev) : P nx.dev :=
  act_keeps hP (fun _ _ => by repeat' (first | with_reducible assumption | with_reducible apply assign_closed hP | intro _ | dsimp only)) h hs
theorem execVersionFrame_keeps {h : KlHead} {cp : Byte} {st nx : State} (h : execVersionFrame h cp st = .next nx) (hs : P st.dev) : P nx.dev :=
  act_keeps hP (fun _ _ => by repeat' (first | with_reducible assumption | with_reducible apply versionFrame_closed hP | intro _ | dsimp only)) h hs
theorem execResetFrame_keeps {h : KlHead} {way : KlTo} {subtree : Bool} {st nx : State} (h : execResetFrame h way subtree st = .next nx) (hs : P st.dev) : P nx.dev :=
  act_keeps hP (fun _ _ => by repeat' (first | with_reducible assumption | with_reducible apply resetFrame_closed hP | intro _ | dsimp only)) h hs
theorem execEventFrame_keeps {h : KlHead} {msg : List Byte} {st nx : State} (h : execEventFrame h msg st = .next nx) (hs : P st.dev) : P nx.dev :=
  act_keeps hP (fun _ _ => by repeat' (first | with_reducible assumption | with_reducible apply eventFrame_closed hP | intro _ | dsimp only)) h hs
theorem execAckE2e_keeps {h : KlHead} {way : KlTo} {next : BitVec 32} {st nx : State} (h : execAckE2e h way next st = .next nx) (hs : P st.dev) : P nx.dev :=
  act_keeps hP (fun _ _ => by repeat' (first | with_reducible assumption | with_reducible apply ackE2e_closed hP | intro _ | dsimp only)) h hs
theorem execPageReq_keeps (ha : ∀ d e, P d → SameStores d e → P e) {h : KlHead} {way : KlTo} {op : BitVec 2} {word : BitVec 24} {data : Word} {st nx : State} (h : execPageReq h way op word data st = .next nx) (hs : P st.dev) : P nx.dev :=
  act_keeps hP (fun _ _ => by repeat' (first | with_reducible assumption | with_reducible apply pageReq_closed hP ha | intro _ | dsimp only)) h hs
theorem execPageRsp_keeps {h : KlHead} {data : Word} {hops : Byte} {st nx : State} (h : execPageRsp h data hops st = .next nx) (hs : P st.dev) : P nx.dev :=
  act_keeps hP (fun _ _ => by repeat' (first | with_reducible assumption | with_reducible apply pageRsp_closed hP | intro _ | dsimp only)) h hs
theorem execMessageFrame_keeps {h : KlHead} {origin : BitVec 16} {oseq : BitVec 32} {count : Byte} {msgs : List Byte} {st nx : State} (h : execMessageFrame h origin oseq count msgs st = .next nx) (hs : P st.dev) : P nx.dev :=
  act_keeps hP (fun _ _ => by repeat' (first | with_reducible assumption | with_reducible apply messageFrame_closed hP | with_reducible apply Device.count_closed hP | intro _ | dsimp only)) h hs
theorem execDelayFrame_keeps {h : KlHead} {t1 : BitVec 72} {t2 : BitVec 72} {t3 : BitVec 72} {st nx : State} (h : execDelayFrame h t1 t2 t3 st = .next nx) (hs : P st.dev) : P nx.dev :=
  act_keeps hP (fun _ _ => by repeat' (first | with_reducible assumption | with_reducible apply delayFrame_closed hP | intro _ | dsimp only)) h hs
theorem execGroupFrame_keeps {h : KlHead} {way : KlTo} {m : KlGroupMsg} {st nx : State} (h : execGroupFrame h way m st = .next nx) (hs : P st.dev) : P nx.dev :=
  act_keeps hP (fun _ _ => by repeat' (first | with_reducible assumption | with_reducible apply groupFrame_closed hP | intro _ | dsimp only)) h hs
theorem execUnknownFrame_keeps {h : KlHead} {st nx : State} (h : execUnknownFrame h st = .next nx) (hs : P st.dev) : P nx.dev :=
  act_keeps hP (fun _ _ => by repeat' (first | with_reducible assumption | with_reducible apply unknownFrame_closed hP | intro _ | dsimp only)) h hs
theorem execKlCensusCmd_keeps {st nx : State} (h : execKlCensusCmd st = .next nx) (hs : P st.dev) : P nx.dev :=
  act_keeps hP (fun _ _ => by repeat' (first | with_reducible assumption | with_reducible apply Device.hostBit_closed hP | intro _ | dsimp only)) h hs
theorem execCensusComplete_keeps {st nx : State} (h : execCensusComplete st = .next nx) (hs : P st.dev) : P nx.dev :=
  act_keeps hP (fun _ _ => by repeat' (first | with_reducible assumption | with_reducible apply censusComplete_closed hP | intro _ | dsimp only)) h hs
theorem execDelayExchangeStart_keeps {k : Fin 5} {st nx : State} (h : execDelayExchangeStart k st = .next nx) (hs : P st.dev) : P nx.dev :=
  act_keeps hP (fun _ _ => by repeat' (first | with_reducible assumption | with_reducible apply delayExchangeStart_closed hP | intro _ | dsimp only)) h hs
theorem execHoldoverLost_keeps {st nx : State} (h : execHoldoverLost st = .next nx) (hs : P st.dev) : P nx.dev :=
  act_keeps hP (fun _ _ => by repeat' (first | with_reducible assumption | with_reducible apply holdoverLost_closed hP | intro _ | dsimp only)) h hs
theorem execKlFailback_keeps {st nx : State} (h : execKlFailback st = .next nx) (hs : P st.dev) : P nx.dev :=
  act_keeps hP (fun _ _ => by repeat' (first | with_reducible assumption | with_reducible apply Device.hostBit_closed hP | intro _ | dsimp only)) h hs
theorem execTrigFireCmd_keeps {w : RegWrite} {st nx : State} (h : execTrigFireCmd w st = .next nx) (hs : P st.dev) : P nx.dev :=
  act_keeps hP (fun _ _ => by repeat' (first | with_reducible assumption | with_reducible apply Device.hostCmd_closed hP | intro _ | dsimp only)) h hs
theorem execCascadeTriggerFire_keeps {st nx : State} (h : execCascadeTriggerFire st = .next nx) (hs : P st.dev) : P nx.dev :=
  act_keeps hP (fun _ _ => by repeat' (first | with_reducible assumption | with_reducible apply cascadeTriggerFire_closed hP | intro _ | dsimp only)) h hs
theorem execRaRead_keeps {st nx : State} (h : execRaRead st = .next nx) (hs : P st.dev) : P nx.dev :=
  act_keeps hP (fun _ _ => by repeat' (first | with_reducible assumption | with_reducible apply Device.hostBit_closed hP | intro _ | dsimp only)) h hs
theorem execRaWrite_keeps {st nx : State} (h : execRaWrite st = .next nx) (hs : P st.dev) : P nx.dev :=
  act_keeps hP (fun _ _ => by repeat' (first | with_reducible assumption | with_reducible apply Device.hostBit_closed hP | intro _ | dsimp only)) h hs
theorem execRaTimeout_keeps {link : Bool} {st nx : State} (h : execRaTimeout link st = .next nx) (hs : P st.dev) : P nx.dev :=
  act_keeps hP (fun _ _ => by repeat' (first | with_reducible assumption | with_reducible apply raTimeout_closed hP | intro _ | dsimp only)) h hs
theorem execKlResetDev_keeps {st nx : State} (h : execKlResetDev st = .next nx) (hs : P st.dev) : P nx.dev :=
  act_keeps hP (fun _ _ => by repeat' (first | with_reducible assumption | with_reducible apply Device.hostBit_closed hP | intro _ | dsimp only)) h hs
theorem execKlResetSubtree_keeps {st nx : State} (h : execKlResetSubtree st = .next nx) (hs : P st.dev) : P nx.dev :=
  act_keeps hP (fun _ _ => by repeat' (first | with_reducible assumption | with_reducible apply Device.hostBit_closed hP | intro _ | dsimp only)) h hs
theorem execMessageFrameSend_keeps {n : Fin 16} {st nx : State} (h : execMessageFrameSend n st = .next nx) (hs : P st.dev) : P nx.dev :=
  act_keeps hP (fun _ _ => by repeat' (first | with_reducible assumption | with_reducible apply messageFrameSend_closed hP | intro _ | dsimp only)) h hs
theorem execE2eResendTimeout_keeps {st nx : State} (h : execE2eResendTimeout st = .next nx) (hs : P st.dev) : P nx.dev :=
  act_keeps hP (fun _ _ => by repeat' (first | with_reducible assumption | with_reducible apply e2eResendTimeout_closed hP | intro _ | dsimp only)) h hs
theorem execAckE2eSend_keeps {st nx : State} (h : execAckE2eSend st = .next nx) (hs : P st.dev) : P nx.dev :=
  act_keeps hP (fun _ _ => by repeat' (first | with_reducible assumption | with_reducible apply ackE2eSend_closed hP | intro _ | dsimp only)) h hs
theorem execGroupCal_keeps {w : RegWrite} {finds : KlGroupFinds} {st nx : State} (h : execGroupCal w finds st = .next nx) (hs : P st.dev) : P nx.dev :=
  act_keeps hP (fun _ _ => by repeat' (first | with_reducible assumption | with_reducible apply Device.ownWrite_closed hP | intro _ | dsimp only)) h hs
theorem execGroupCalEnd_keeps {m : KlGroupMeas} {st nx : State} (h : execGroupCalEnd m st = .next nx) (hs : P st.dev) : P nx.dev :=
  act_keeps hP (fun _ _ => by repeat' (first | with_reducible assumption | with_reducible apply groupCalEnd_closed hP | intro _ | dsimp only)) h hs
theorem execGroupSuspend_keeps {st nx : State} (h : execGroupSuspend st = .next nx) (hs : P st.dev) : P nx.dev :=
  act_keeps hP (fun _ _ => by repeat' (first | with_reducible assumption | with_reducible apply groupSuspend_closed hP | intro _ | dsimp only)) h hs
theorem execKlAbort_keeps {st nx : State} (h : execKlAbort st = .next nx) (hs : P st.dev) : P nx.dev :=
  act_keeps hP (fun _ _ => by repeat' (first | with_reducible assumption | with_reducible apply Device.hostBit_closed hP | intro _ | dsimp only)) h hs
theorem execCenDataRead_keeps {st nx : State} (h : execCenDataRead st = .next nx) (hs : P st.dev) : P nx.dev :=
  act_keeps hP (fun _ _ => by repeat' (first | with_reducible assumption | with_reducible apply Device.hostRead_closed hP | intro _ | dsimp only)) h hs
theorem execKlClearCounts_keeps {st nx : State} (h : execKlClearCounts st = .next nx) (hs : P st.dev) : P nx.dev :=
  act_keeps hP (fun _ _ => by repeat' (first | with_reducible assumption | with_reducible apply Device.hostBit_closed hP | intro _ | dsimp only)) h hs
theorem execKlClearPerr_keeps {st nx : State} (h : execKlClearPerr st = .next nx) (hs : P st.dev) : P nx.dev :=
  act_keeps hP (fun _ _ => by repeat' (first | with_reducible assumption | with_reducible apply Device.hostBit_closed hP | intro _ | dsimp only)) h hs
theorem execPlLaneEnable_keeps {l : Fin 5} {w : RegWrite} {st nx : State} (h : execPlLaneEnable l w st = .next nx) (hs : P st.dev) : P nx.dev :=
  act_keeps hP (fun _ _ => by repeat' (first | with_reducible assumption | with_reducible apply Device.hostCmd_closed hP | intro _ | dsimp only)) h hs
theorem execPlSignalDetect_keeps {l : Fin 5} {st nx : State} (h : execPlSignalDetect l st = .next nx) (hs : P st.dev) : P nx.dev :=
  act_keeps hP (fun _ _ => by repeat' (first | with_reducible assumption | with_reducible apply plSignalDetect_closed hP | intro _ | dsimp only)) h hs
theorem execPlBlockLock_keeps {l : Fin 5} {st nx : State} (h : execPlBlockLock l st = .next nx) (hs : P st.dev) : P nx.dev :=
  act_keeps hP (fun _ _ => by repeat' (first | with_reducible assumption | with_reducible apply plBlockLock_closed hP | intro _ | dsimp only)) h hs
theorem execPlLaneAligned_keeps {l : Fin 5} {st nx : State} (h : execPlLaneAligned l st = .next nx) (hs : P st.dev) : P nx.dev :=
  act_keeps hP (fun _ _ => by repeat' (first | with_reducible assumption | with_reducible apply plLaneAligned_closed hP | intro _ | dsimp only)) h hs
theorem execPlLaneDisable_keeps {l : Fin 5} {w : RegWrite} {st nx : State} (h : execPlLaneDisable l w st = .next nx) (hs : P st.dev) : P nx.dev :=
  act_keeps hP (fun _ _ => by repeat' (first | with_reducible assumption | with_reducible apply Device.hostCmd_closed hP | intro _ | dsimp only)) h hs
theorem execPlDrainEnd_keeps {l : Fin 5} {st nx : State} (h : execPlDrainEnd l st = .next nx) (hs : P st.dev) : P nx.dev :=
  act_keeps hP (fun _ _ => by repeat' (first | with_reducible assumption | with_reducible apply plDrainEnd_closed hP | intro _ | dsimp only)) h hs
theorem execPlLaneFault_keeps {l : Fin 5} {cause : PlCause} {st nx : State} (h : execPlLaneFault l cause st = .next nx) (hs : P st.dev) : P nx.dev :=
  act_keeps hP (fun _ _ => by repeat' (first | with_reducible assumption | with_reducible apply plLaneFault_closed hP | intro _ | dsimp only)) h hs
theorem execPlRetrainEnd_keeps {st nx : State} (h : execPlRetrainEnd st = .next nx) (hs : P st.dev) : P nx.dev :=
  act_keeps hP (fun _ _ => by repeat' (first | with_reducible assumption | with_reducible apply plRetrainEnd_closed hP | intro _ | dsimp only)) h hs
theorem execPlLaneRetry_keeps {l : Fin 5} {st nx : State} (h : execPlLaneRetry l st = .next nx) (hs : P st.dev) : P nx.dev :=
  act_keeps hP (fun _ _ => by repeat' (first | with_reducible assumption | with_reducible apply plLaneRetry_closed hP | intro _ | dsimp only)) h hs
theorem execPlAlignBlock_keeps {l : Fin 5} {position : Fin 5} {skew : BitVec 16} {st nx : State} (h : execPlAlignBlock l position skew st = .next nx) (hs : P st.dev) : P nx.dev :=
  act_keeps hP (fun _ _ => by repeat' (first | with_reducible assumption | with_reducible apply plAlignBlock_closed hP | intro _ | dsimp only)) h hs
theorem execPlAck_keeps {seq : BitVec 16} {st nx : State} (h : execPlAck seq st = .next nx) (hs : P st.dev) : P nx.dev :=
  act_keeps hP (fun _ _ => by repeat' (first | with_reducible assumption | with_reducible apply plAck_closed hP | intro _ | dsimp only)) h hs
theorem execPlNak_keeps {st nx : State} (h : execPlNak st = .next nx) (hs : P st.dev) : P nx.dev :=
  act_keeps hP (fun _ _ => by repeat' (first | with_reducible assumption | with_reducible apply plNak_closed hP | intro _ | dsimp only)) h hs
theorem execPlCredit_keeps {counts : Vector (BitVec 12) 4} {st nx : State} (h : execPlCredit counts st = .next nx) (hs : P st.dev) : P nx.dev :=
  act_keeps hP (fun _ _ => by repeat' (first | with_reducible assumption | with_reducible apply plCredit_closed hP | intro _ | dsimp only)) h hs
theorem execPlRemapBlock_keeps {position : Fin 4} {l : Fin 5} {st nx : State} (h : execPlRemapBlock position l st = .next nx) (hs : P st.dev) : P nx.dev :=
  act_keeps hP (fun _ _ => by repeat' (first | with_reducible assumption | with_reducible apply plRemapBlock_closed hP | intro _ | dsimp only)) h hs
theorem execPlRemapReq_keeps {l : Fin 5} {st nx : State} (h : execPlRemapReq l st = .next nx) (hs : P st.dev) : P nx.dev :=
  act_keeps hP (fun _ _ => by repeat' (first | with_reducible assumption | with_reducible apply plRemapReq_closed hP | intro _ | dsimp only)) h hs
theorem execPlReplayTimeout_keeps {st nx : State} (h : execPlReplayTimeout st = .next nx) (hs : P st.dev) : P nx.dev :=
  act_keeps hP (fun _ _ => by repeat' (first | with_reducible assumption | with_reducible apply plReplayTimeout_closed hP | intro _ | dsimp only)) h hs
theorem execPlAckSend_keeps {st nx : State} (h : execPlAckSend st = .next nx) (hs : P st.dev) : P nx.dev :=
  act_keeps hP (fun _ _ => by repeat' (first | with_reducible assumption | with_reducible apply plAckSend_closed hP | intro _ | dsimp only)) h hs
theorem execPlCreditSend_keeps {st nx : State} (h : execPlCreditSend st = .next nx) (hs : P st.dev) : P nx.dev :=
  act_keeps hP (fun _ _ => by repeat' (first | with_reducible assumption | with_reducible apply plCreditSend_closed hP | intro _ | dsimp only)) h hs
theorem execPlCreditStall_keeps {vc : Fin 4} {st nx : State} (h : execPlCreditStall vc st = .next nx) (hs : P st.dev) : P nx.dev :=
  act_keeps hP (fun _ _ => by repeat' (first | with_reducible assumption | with_reducible apply plCreditStall_closed hP | intro _ | dsimp only)) h hs
theorem execPlBadPacket_keeps {vc : Fin 4} {len : BitVec 16} {why : PlDefect} {st nx : State} (h : execPlBadPacket vc len why st = .next nx) (hs : P st.dev) : P nx.dev :=
  act_keeps hP (fun _ _ => by repeat' (first | with_reducible assumption | with_reducible apply plBadPacket_closed hP | intro _ | dsimp only)) h hs
theorem execRegReq_keeps (ha : ∀ d e, P d → SameStores d e → P e) {seq : BitVec 16} {tag : BitVec 16} {device : BitVec 16} {entries : List RegEntry} {st nx : State} (h : execRegReq seq tag device entries st = .next nx) (hs : P st.dev) : P nx.dev :=
  act_keeps hP (fun _ _ => by repeat' (first | with_reducible assumption | with_reducible apply regReq_closed hP ha | intro _ | dsimp only)) h hs
theorem execRegReqWaitEnd_keeps {st nx : State} (h : execRegReqWaitEnd st = .next nx) (hs : P st.dev) : P nx.dev :=
  act_keeps hP (fun _ _ => by repeat' (first | with_reducible assumption | with_reducible apply regReqWaitEnd_closed hP | intro _ | dsimp only)) h hs
theorem execMsgPacketSend_keeps {src : Option (Fin 16)} {st nx : State} (h : execMsgPacketSend src st = .next nx) (hs : P st.dev) : P nx.dev :=
  act_keeps hP (fun _ _ => by repeat' (first | with_reducible assumption | with_reducible apply msgPacketSend_closed hP | intro _ | dsimp only)) h hs
theorem execStreamCtrlWrite_keeps {w : RegWrite} {st nx : State} (h : execStreamCtrlWrite w st = .next nx) (hs : P st.dev) : P nx.dev :=
  act_keeps hP (fun _ _ => by repeat' (first | with_reducible assumption | with_reducible apply Device.hostSend_closed hP | intro _ | dsimp only)) h hs
theorem execStreamPacket_keeps {x : StreamData} {tide : BitVec 64} {full : Bool} {st nx : State} (h : execStreamPacket x tide full st = .next nx) (hs : P st.dev) : P nx.dev :=
  act_keeps hP (fun _ _ => by repeat' (first | with_reducible assumption | with_reducible apply streamPacket_closed hP | intro _ | dsimp only)) h hs
theorem execInterruptPacket_keeps {st nx : State} (h : execInterruptPacket st = .next nx) (hs : P st.dev) : P nx.dev :=
  act_keeps hP (fun _ _ => by repeat' (first | with_reducible assumption | with_reducible apply interruptPacket_closed hP | intro _ | dsimp only)) h hs
theorem execPlClearDrops_keeps {st nx : State} (h : execPlClearDrops st = .next nx) (hs : P st.dev) : P nx.dev :=
  act_keeps hP (fun _ _ => by repeat' (first | with_reducible assumption | with_reducible apply Device.hostBit_closed hP | intro _ | dsimp only)) h hs
theorem execPlClearReplays_keeps {st nx : State} (h : execPlClearReplays st = .next nx) (hs : P st.dev) : P nx.dev :=
  act_keeps hP (fun _ _ => by repeat' (first | with_reducible assumption | with_reducible apply Device.hostBit_closed hP | intro _ | dsimp only)) h hs
theorem execPlClearLerr_keeps {st nx : State} (h : execPlClearLerr st = .next nx) (hs : P st.dev) : P nx.dev :=
  act_keeps hP (fun _ _ => by repeat' (first | with_reducible assumption | with_reducible apply Device.hostBit_closed hP | intro _ | dsimp only)) h hs
theorem execAonPowerOn_keeps {st nx : State} (h : execAonPowerOn st = .next nx) (hs : P st.dev) : P nx.dev :=
  act_keeps hP (fun _ _ => by repeat' (first | with_reducible assumption | with_reducible apply aonPowerOn_closed hP | intro _ | dsimp only)) h hs
theorem execPowerOnReset_keeps {st nx : State} (h : execPowerOnReset st = .next nx) (hs : P st.dev) : P nx.dev :=
  act_keeps hP (fun _ _ => by repeat' (first | with_reducible assumption | with_reducible apply powerOnReset_closed hP | intro _ | dsimp only)) h hs
theorem execBrownOut_keeps {rails : BitVec 9} {st nx : State} (h : execBrownOut rails st = .next nx) (hs : P st.dev) : P nx.dev :=
  act_keeps hP (fun _ _ => by repeat' (first | with_reducible assumption | with_reducible apply brownOut_closed hP | intro _ | dsimp only)) h hs
theorem execRstPin_keeps {st nx : State} (h : execRstPin st = .next nx) (hs : P st.dev) : P nx.dev :=
  act_keeps hP (fun _ _ => by repeat' (first | with_reducible assumption | with_reducible apply rstPin_closed hP | intro _ | dsimp only)) h hs
theorem execThermalShutdown_keeps {st nx : State} (h : execThermalShutdown st = .next nx) (hs : P st.dev) : P nx.dev :=
  act_keeps hP (fun _ _ => by repeat' (first | with_reducible assumption | with_reducible apply thermalShutdown_closed hP | intro _ | dsimp only)) h hs
theorem execWatchdogExpiry_keeps {st nx : State} (h : execWatchdogExpiry st = .next nx) (hs : P st.dev) : P nx.dev :=
  act_keeps hP (fun _ _ => by repeat' (first | with_reducible assumption | with_reducible apply watchdogExpiry_closed hP | intro _ | dsimp only)) h hs
theorem execChipRst_keeps {st nx : State} (h : execChipRst st = .next nx) (hs : P st.dev) : P nx.dev :=
  act_keeps hP (fun _ _ => by repeat' (first | with_reducible assumption | with_reducible apply Device.hostBit_closed hP | intro _ | dsimp only)) h hs
theorem execResetSourcesRelease_keeps {st nx : State} (h : execResetSourcesRelease st = .next nx) (hs : P st.dev) : P nx.dev :=
  act_keeps hP (fun _ _ => by repeat' (first | with_reducible assumption | with_reducible apply resetSourcesRelease_closed hP | intro _ | dsimp only)) h hs
theorem execStrapSampleDone_keeps {codes : Vector (Fin 16) 8} {unstable : BitVec 8} {st nx : State} (h : execStrapSampleDone codes unstable st = .next nx) (hs : P st.dev) : P nx.dev :=
  act_keeps hP (fun _ _ => by repeat' (first | with_reducible assumption | with_reducible apply strapSampleDone_closed hP | intro _ | dsimp only)) h hs
theorem execSynthPLock_keeps {st nx : State} (h : execSynthPLock st = .next nx) (hs : P st.dev) : P nx.dev :=
  act_keeps hP (fun _ _ => by repeat' (first | with_reducible assumption | with_reducible apply synthPLock_closed hP | intro _ | dsimp only)) h hs
theorem execSynthPLockLoss_keeps {st nx : State} (h : execSynthPLockLoss st = .next nx) (hs : P st.dev) : P nx.dev :=
  act_keeps hP (fun _ _ => by repeat' (first | with_reducible assumption | with_reducible apply synthPLockLoss_closed hP | intro _ | dsimp only)) h hs
theorem execOptionLoadComplete_keeps {st nx : State} (h : execOptionLoadComplete st = .next nx) (hs : P st.dev) : P nx.dev :=
  act_keeps hP (fun _ _ => by repeat' (first | with_reducible assumption | with_reducible apply optionLoadComplete_closed hP | intro _ | dsimp only)) h hs
theorem execIslandRelease_keeps {x : ReleaseTo} {st nx : State} (h : execIslandRelease x st = .next nx) (hs : P st.dev) : P nx.dev :=
  act_keeps hP (fun _ _ => by repeat' (first | with_reducible assumption | with_reducible apply Device.releaseTo_closed hP | intro _ | dsimp only)) h hs
theorem execClockGoodChange_keeps {isl : Fin 5} {good : Bool} {st nx : State} (h : execClockGoodChange isl good st = .next nx) (hs : P st.dev) : P nx.dev :=
  act_keeps hP (fun _ _ => by repeat' (first | with_reducible assumption | with_reducible apply clockGoodChange_closed hP | intro _ | dsimp only)) h hs
theorem execBootImageDone_keeps {a : List Byte} {b : List Byte} {sfdp : SfdpResult} {st nx : State} (h : execBootImageDone a b sfdp st = .next nx) (hs : P st.dev) : P nx.dev :=
  act_keeps hP (fun _ _ => by repeat' (first | with_reducible assumption | with_reducible apply bootImageDone_closed hP | intro _ | dsimp only)) h hs
theorem execWatchdogKick_keeps {st nx : State} (h : execWatchdogKick st = .next nx) (hs : P st.dev) : P nx.dev :=
  act_keeps hP (fun _ _ => by repeat' (first | with_reducible assumption | with_reducible apply Device.hostBit_closed hP | intro _ | dsimp only)) h hs
theorem execWatchdogWarn_keeps {st nx : State} (h : execWatchdogWarn st = .next nx) (hs : P st.dev) : P nx.dev :=
  act_keeps hP (fun _ _ => by repeat' (first | with_reducible assumption | with_reducible apply watchdogWarn_closed hP | intro _ | dsimp only)) h hs
theorem execOptProgram_keeps {st nx : State} (h : execOptProgram st = .next nx) (hs : P st.dev) : P nx.dev :=
  act_keeps hP (fun _ _ => by repeat' (first | with_reducible assumption | with_reducible apply Device.hostBit_closed hP | intro _ | dsimp only)) h hs
theorem execOptProgramDone_keeps {ok : Bool} {st nx : State} (h : execOptProgramDone ok st = .next nx) (hs : P st.dev) : P nx.dev :=
  act_keeps hP (fun _ _ => by repeat' (first | with_reducible assumption | with_reducible apply optProgramDone_closed hP | intro _ | dsimp only)) h hs
theorem execOptApply_keeps {st nx : State} (h : execOptApply st = .next nx) (hs : P st.dev) : P nx.dev :=
  act_keeps hP (fun _ _ => by repeat' (first | with_reducible assumption | with_reducible apply Device.hostBit_closed hP | intro _ | dsimp only)) h hs
theorem execOptApplyDone_keeps {fail : Option Nat} {st nx : State} (h : execOptApplyDone fail st = .next nx) (hs : P st.dev) : P nx.dev :=
  act_keeps hP (fun _ _ => by repeat' (first | with_reducible assumption | with_reducible apply optApplyDone_closed hP | intro _ | dsimp only)) h hs
theorem execOptDataRead_keeps {st nx : State} (h : execOptDataRead st = .next nx) (hs : P st.dev) : P nx.dev :=
  act_keeps hP (fun _ _ => by repeat' (first | with_reducible assumption | with_reducible apply Device.hostRead_closed hP | intro _ | dsimp only)) h hs
theorem execOptImgDataAccess_keeps {w : Option RegWrite} {st nx : State} (h : execOptImgDataAccess w st = .next nx) (hs : P st.dev) : P nx.dev :=
  act_keeps hP (fun _ _ => by repeat' (first | with_reducible assumption | with_reducible apply Device.imgDataAccess_closed hP | intro _ | dsimp only)) h hs
theorem execRstoutNHigh_keeps {st nx : State} (h : execRstoutNHigh st = .next nx) (hs : P st.dev) : P nx.dev :=
  act_keeps hP (fun _ _ => by repeat' (first | with_reducible assumption | with_reducible apply rstoutNHigh_closed hP | intro _ | dsimp only)) h hs
theorem execPwrMoor_keeps {st nx : State} (h : execPwrMoor st = .next nx) (hs : P st.dev) : P nx.dev :=
  act_keeps hP (fun _ _ => by repeat' (first | with_reducible assumption | with_reducible apply Device.hostBit_closed hP | intro _ | dsimp only)) h hs
theorem execPwrLayUp_keeps {st nx : State} (h : execPwrLayUp st = .next nx) (hs : P st.dev) : P nx.dev :=
  act_keeps hP (fun _ _ => by repeat' (first | with_reducible assumption | with_reducible apply Device.hostBit_closed hP | intro _ | dsimp only)) h hs
theorem execPrepareDone_keeps {st nx : State} (h : execPrepareDone st = .next nx) (hs : P st.dev) : P nx.dev :=
  act_keeps hP (fun _ _ => by repeat' (first | with_reducible assumption | with_reducible apply prepareDone_closed hP | intro _ | dsimp only)) h hs
theorem execEntryWindowOpen_keeps {st nx : State} (h : execEntryWindowOpen st = .next nx) (hs : P st.dev) : P nx.dev :=
  act_keeps hP (fun _ _ => by repeat' (first | with_reducible assumption | with_reducible apply entryWindowOpen_closed hP | intro _ | dsimp only)) h hs
theorem execEntryWindowClose_keeps {st nx : State} (h : execEntryWindowClose st = .next nx) (hs : P st.dev) : P nx.dev :=
  act_keeps hP (fun _ _ => by repeat' (first | with_reducible assumption | with_reducible apply entryWindowClose_closed hP | intro _ | dsimp only)) h hs
theorem execWakeInputEvent_keeps {e : WakeEvent} {st nx : State} (h : execWakeInputEvent e st = .next nx) (hs : P st.dev) : P nx.dev :=
  act_keeps hP (fun _ _ => by repeat' (first | with_reducible assumption | with_reducible apply wakeInputEvent_closed hP | intro _ | dsimp only)) h hs
theorem execSleepTimerExpiry_keeps {st nx : State} (h : execSleepTimerExpiry st = .next nx) (hs : P st.dev) : P nx.dev :=
  act_keeps hP (fun _ _ => by repeat' (first | with_reducible assumption | with_reducible apply sleepTimerExpiry_closed hP | intro _ | dsimp only)) h hs
theorem execWakeRecognised_keeps {cycles : Nat} {st nx : State} (h : execWakeRecognised cycles st = .next nx) (hs : P st.dev) : P nx.dev :=
  act_keeps hP (fun _ _ => by repeat' (first | with_reducible assumption | with_reducible apply wakeRecognised_closed hP | intro _ | dsimp only)) h hs
theorem execPwrClearCounts_keeps {st nx : State} (h : execPwrClearCounts st = .next nx) (hs : P st.dev) : P nx.dev :=
  act_keeps hP (fun _ _ => by repeat' (first | with_reducible assumption | with_reducible apply Device.hostBit_closed hP | intro _ | dsimp only)) h hs
theorem execWatchEnable_keeps {st nx : State} (h : execWatchEnable st = .next nx) (hs : P st.dev) : P nx.dev :=
  act_keeps hP (fun _ _ => by repeat' (first | with_reducible assumption | with_reducible apply Device.hostChange_closed hP | intro _ | dsimp only)) h hs
theorem execWatchDisable_keeps {st nx : State} (h : execWatchDisable st = .next nx) (hs : P st.dev) : P nx.dev :=
  act_keeps hP (fun _ _ => by repeat' (first | with_reducible assumption | with_reducible apply Device.hostChange_closed hP | intro _ | dsimp only)) h hs
theorem execWatchLookStart_keeps {st nx : State} (h : execWatchLookStart st = .next nx) (hs : P st.dev) : P nx.dev :=
  act_keeps hP (fun _ _ => by repeat' (first | with_reducible assumption | with_reducible apply watchLookStart_closed hP | intro _ | dsimp only)) h hs
theorem execWatchLookDecision_keeps {r : Word} {st nx : State} (h : execWatchLookDecision r st = .next nx) (hs : P st.dev) : P nx.dev :=
  act_keeps hP (fun _ _ => by repeat' (first | with_reducible assumption | with_reducible apply watchLookDecision_closed hP | intro _ | dsimp only)) h hs
theorem execWatchClearCounts_keeps {st nx : State} (h : execWatchClearCounts st = .next nx) (hs : P st.dev) : P nx.dev :=
  act_keeps hP (fun _ _ => by repeat' (first | with_reducible assumption | with_reducible apply Device.hostBit_closed hP | intro _ | dsimp only)) h hs
theorem execRtcSecond_keeps {st nx : State} (h : execRtcSecond st = .next nx) (hs : P st.dev) : P nx.dev :=
  act_keeps hP (fun _ _ => by repeat' (first | with_reducible assumption | with_reducible apply rtcSecond_closed hP | intro _ | dsimp only)) h hs
theorem execRtcHalt_keeps {st nx : State} (h : execRtcHalt st = .next nx) (hs : P st.dev) : P nx.dev :=
  act_keeps hP (fun _ _ => by repeat' (first | with_reducible assumption | with_reducible apply Device.hostChange_closed hP | intro _ | dsimp only)) h hs
theorem execRtcRun_keeps {st nx : State} (h : execRtcRun st = .next nx) (hs : P st.dev) : P nx.dev :=
  act_keeps hP (fun _ _ => by repeat' (first | with_reducible assumption | with_reducible apply Device.hostChange_closed hP | intro _ | dsimp only)) h hs
theorem execRtcTimeWrite_keeps {w : RegWrite} {st nx : State} (h : execRtcTimeWrite w st = .next nx) (hs : P st.dev) : P nx.dev :=
  act_keeps hP (fun _ _ => by repeat' (first | with_reducible assumption | with_reducible apply Device.hostSend_closed hP | intro _ | dsimp only)) h hs
theorem execRtcDateWrite_keeps {w : RegWrite} {st nx : State} (h : execRtcDateWrite w st = .next nx) (hs : P st.dev) : P nx.dev :=
  act_keeps hP (fun _ _ => by repeat' (first | with_reducible assumption | with_reducible apply Device.hostSend_closed hP | intro _ | dsimp only)) h hs
theorem execRtcTimeRead_keeps {st nx : State} (h : execRtcTimeRead st = .next nx) (hs : P st.dev) : P nx.dev :=
  act_keeps hP (fun _ _ => by repeat' (first | with_reducible assumption | with_reducible apply Device.hostRead_closed hP | intro _ | dsimp only)) h hs
theorem execRtcWakeWrite_keeps {w : RegWrite} {st nx : State} (h : execRtcWakeWrite w st = .next nx) (hs : P st.dev) : P nx.dev :=
  act_keeps hP (fun _ _ => by repeat' (first | with_reducible assumption | with_reducible apply Device.hostSend_closed hP | intro _ | dsimp only)) h hs
theorem execRtcTempMeasure_keeps {t : BitVec 16} {st nx : State} (h : execRtcTempMeasure t st = .next nx) (hs : P st.dev) : P nx.dev :=
  act_keeps hP (fun _ _ => by repeat' (first | with_reducible assumption | with_reducible apply rtcTempMeasure_closed hP | intro _ | dsimp only)) h hs
theorem execVbakCheck_keeps {mv : BitVec 16} {st nx : State} (h : execVbakCheck mv st = .next nx) (hs : P st.dev) : P nx.dev :=
  act_keeps hP (fun _ _ => by repeat' (first | with_reducible assumption | with_reducible apply vbakCheck_closed hP | intro _ | dsimp only)) h hs
theorem execVaonLoss_keeps {st nx : State} (h : execVaonLoss st = .next nx) (hs : P st.dev) : P nx.dev :=
  act_keeps hP (fun _ _ => by repeat' (first | with_reducible assumption | with_reducible apply vaonLoss_closed hP | intro _ | dsimp only)) h hs
theorem execBackupSwitchToVbak_keeps {st nx : State} (h : execBackupSwitchToVbak st = .next nx) (hs : P st.dev) : P nx.dev :=
  act_keeps hP (fun _ _ => by repeat' (first | with_reducible assumption | with_reducible apply backupToVbak_closed hP | intro _ | dsimp only)) h hs
theorem execBackupSwitchToAon_keeps {st nx : State} (h : execBackupSwitchToAon st = .next nx) (hs : P st.dev) : P nx.dev :=
  act_keeps hP (fun _ _ => by repeat' (first | with_reducible assumption | with_reducible apply backupToAon_closed hP | intro _ | dsimp only)) h hs
theorem execChargerStart_keeps {st nx : State} (h : execChargerStart st = .next nx) (hs : P st.dev) : P nx.dev :=
  act_keeps hP (fun _ _ => by repeat' (first | with_reducible assumption | with_reducible apply chargerStart_closed hP | intro _ | dsimp only)) h hs
theorem execChargerThreshold_keeps {mv : BitVec 16} {st nx : State} (h : execChargerThreshold mv st = .next nx) (hs : P st.dev) : P nx.dev :=
  act_keeps hP (fun _ _ => by repeat' (first | with_reducible assumption | with_reducible apply chargerThreshold_closed hP | intro _ | dsimp only)) h hs
theorem execLockoutEnd_keeps {st nx : State} (h : execLockoutEnd st = .next nx) (hs : P st.dev) : P nx.dev :=
  act_keeps hP (fun _ _ => by repeat' (first | with_reducible assumption | with_reducible apply lockoutEnd_closed hP | intro _ | dsimp only)) h hs
theorem execRtcOutFall_keeps {st nx : State} (h : execRtcOutFall st = .next nx) (hs : P st.dev) : P nx.dev :=
  act_keeps hP (fun _ _ => by repeat' (first | with_reducible assumption | with_reducible apply rtcOutFall_closed hP | intro _ | dsimp only)) h hs
theorem execVaonLossRelease_keeps {st nx : State} (h : execVaonLossRelease st = .next nx) (hs : P st.dev) : P nx.dev :=
  act_keeps hP (fun _ _ => by repeat' (first | with_reducible assumption | with_reducible apply vaonLossRelease_closed hP | intro _ | dsimp only)) h hs
theorem execTimerEnable_keeps {k : Fin 16} {w : RegWrite} {st nx : State} (h : execTimerEnable k w st = .next nx) (hs : P st.dev) : P nx.dev :=
  act_keeps hP (fun _ _ => by repeat' (first | with_reducible assumption | with_reducible apply Device.hostCmd_closed hP | intro _ | dsimp only)) h hs
theorem execTimerDisable_keeps {k : Fin 16} {w : RegWrite} {st nx : State} (h : execTimerDisable k w st = .next nx) (hs : P st.dev) : P nx.dev :=
  act_keeps hP (fun _ _ => by repeat' (first | with_reducible assumption | with_reducible apply Device.hostCmd_closed hP | intro _ | dsimp only)) h hs
theorem execTmcStart_keeps {page : Fin 2} {w : RegWrite} {st nx : State} (h : execTmcStart page w st = .next nx) (hs : P st.dev) : P nx.dev :=
  act_keeps hP (fun _ _ => by repeat' (first | with_reducible assumption | with_reducible apply Device.hostSend_closed hP | with_reducible apply Device.tmStart_closed hP | intro _ | dsimp only)) h hs
theorem execTmcStop_keeps {page : Fin 2} {w : RegWrite} {st nx : State} (h : execTmcStop page w st = .next nx) (hs : P st.dev) : P nx.dev :=
  act_keeps hP (fun _ _ => by repeat' (first | with_reducible assumption | with_reducible apply Device.hostSend_closed hP | with_reducible apply Device.tmStop_closed hP | intro _ | dsimp only)) h hs
theorem execTimerSourceEvent_keeps {k : Fin 16} {st nx : State} (h : execTimerSourceEvent k st = .next nx) (hs : P st.dev) : P nx.dev :=
  act_keeps hP (fun _ _ => by repeat' (first | with_reducible assumption | with_reducible apply timerSource_closed hP | intro _ | dsimp only)) h hs
theorem execTimerZero_keeps {k : Fin 16} {st nx : State} (h : execTimerZero k st = .next nx) (hs : P st.dev) : P nx.dev :=
  act_keeps hP (fun _ _ => by repeat' (first | with_reducible assumption | with_reducible apply timerZero_closed hP | intro _ | dsimp only)) h hs
theorem execTimerTop_keeps {k : Fin 16} {st nx : State} (h : execTimerTop k st = .next nx) (hs : P st.dev) : P nx.dev :=
  act_keeps hP (fun _ _ => by repeat' (first | with_reducible assumption | with_reducible apply timerTop_closed hP | intro _ | dsimp only)) h hs
theorem execTimerCompareMatch_keeps {k : Fin 16} {st nx : State} (h : execTimerCompareMatch k st = .next nx) (hs : P st.dev) : P nx.dev :=
  act_keeps hP (fun _ _ => by repeat' (first | with_reducible assumption | with_reducible apply timerMatch_closed hP | intro _ | dsimp only)) h hs
theorem execTimerCapture_keeps {k : Fin 16} {high : Bool} {st nx : State} (h : execTimerCapture k high st = .next nx) (hs : P st.dev) : P nx.dev :=
  act_keeps hP (fun _ _ => by repeat' (first | with_reducible assumption | with_reducible apply timerCapture_closed hP | intro _ | dsimp only)) h hs
theorem execTimerGateEdge_keeps {k : Fin 16} {high : Bool} {st nx : State} (h : execTimerGateEdge k high st = .next nx) (hs : P st.dev) : P nx.dev :=
  act_keeps hP (fun _ _ => by repeat' (first | with_reducible assumption | with_reducible apply timerGate_closed hP | intro _ | dsimp only)) h hs
theorem execTimerTopWrite_keeps {k : Fin 16} {w : RegWrite} {st nx : State} (h : execTimerTopWrite k w st = .next nx) (hs : P st.dev) : P nx.dev :=
  act_keeps hP (fun _ _ => by repeat' (first | with_reducible assumption | with_reducible apply Device.hostSend_closed hP | intro _ | dsimp only)) h hs
theorem execTimerCmpWrite_keeps {k : Fin 16} {w : RegWrite} {st nx : State} (h : execTimerCmpWrite k w st = .next nx) (hs : P st.dev) : P nx.dev :=
  act_keeps hP (fun _ _ => by repeat' (first | with_reducible assumption | with_reducible apply Device.hostSend_closed hP | intro _ | dsimp only)) h hs
theorem execTimerCapRead_keeps {k : Fin 16} {st nx : State} (h : execTimerCapRead k st = .next nx) (hs : P st.dev) : P nx.dev :=
  act_keeps hP (fun _ _ => by repeat' (first | with_reducible assumption | with_reducible apply Device.hostRead_closed hP | intro _ | dsimp only)) h hs
theorem execTideClearSteps_keeps {st nx : State} (h : execTideClearSteps st = .next nx) (hs : P st.dev) : P nx.dev :=
  act_keeps hP (fun _ _ => by repeat' (first | with_reducible assumption | with_reducible apply Device.hostBit_closed hP | intro _ | dsimp only)) h hs
theorem execHkStart_keeps {st nx : State} (h : execHkStart st = .next nx) (hs : P st.dev) : P nx.dev :=
  act_keeps hP (fun _ _ => by repeat' (first | with_reducible assumption | with_reducible apply Device.hostBit_closed hP | intro _ | dsimp only)) h hs
theorem execHkStop_keeps {st nx : State} (h : execHkStop st = .next nx) (hs : P st.dev) : P nx.dev :=
  act_keeps hP (fun _ _ => by repeat' (first | with_reducible assumption | with_reducible apply Device.hostBit_closed hP | intro _ | dsimp only)) h hs
theorem execHkEntryDone_keeps {raws : List (BitVec 12)} {st nx : State} (h : execHkEntryDone raws st = .next nx) (hs : P st.dev) : P nx.dev :=
  act_keeps hP (fun _ _ => by repeat' (first | with_reducible assumption | with_reducible apply hkEntryDone_closed hP | intro _ | dsimp only)) h hs
theorem execHkSupervisorConversion_keeps {raw : BitVec 12} {st nx : State} (h : execHkSupervisorConversion raw st = .next nx) (hs : P st.dev) : P nx.dev :=
  act_keeps hP (fun _ _ => by repeat' (first | with_reducible assumption | with_reducible apply hkSupervisor_closed hP | intro _ | dsimp only)) h hs
theorem execUrgentGo_keeps {w : RegWrite} {st nx : State} (h : execUrgentGo w st = .next nx) (hs : P st.dev) : P nx.dev :=
  act_keeps hP (fun _ _ => by repeat' (first | with_reducible assumption | with_reducible apply Device.hostCmd_closed hP | intro _ | dsimp only)) h hs
theorem execUrgentDone_keeps {raw : BitVec 12} {st nx : State} (h : execUrgentDone raw st = .next nx) (hs : P st.dev) : P nx.dev :=
  act_keeps hP (fun _ _ => by repeat' (first | with_reducible assumption | with_reducible apply hkUrgentDone_closed hP | intro _ | dsimp only)) h hs
theorem execHkSyscalZero_keeps {st nx : State} (h : execHkSyscalZero st = .next nx) (hs : P st.dev) : P nx.dev :=
  act_keeps hP (fun _ _ => by repeat' (first | with_reducible assumption | with_reducible apply Device.hostBit_closed hP | intro _ | dsimp only)) h hs
theorem execHkSyscalFull_keeps {st nx : State} (h : execHkSyscalFull st = .next nx) (hs : P st.dev) : P nx.dev :=
  act_keeps hP (fun _ _ => by repeat' (first | with_reducible assumption | with_reducible apply Device.hostBit_closed hP | intro _ | dsimp only)) h hs
theorem execSyscalStepDone_keeps {sum1 : BitVec 32} {sum2 : BitVec 32} {st nx : State} (h : execSyscalStepDone sum1 sum2 st = .next nx) (hs : P st.dev) : P nx.dev :=
  act_keeps hP (fun _ _ => by repeat' (first | with_reducible assumption | with_reducible apply syscalStepDone_closed hP | intro _ | dsimp only)) h hs
theorem execHkClearTrigOvf_keeps {st nx : State} (h : execHkClearTrigOvf st = .next nx) (hs : P st.dev) : P nx.dev :=
  act_keeps hP (fun _ _ => by repeat' (first | with_reducible assumption | with_reducible apply Device.hostBit_closed hP | intro _ | dsimp only)) h hs
theorem execSspmGo_keeps {st nx : State} (h : execSspmGo st = .next nx) (hs : P st.dev) : P nx.dev :=
  act_keeps hP (fun _ _ => by repeat' (first | with_reducible assumption | with_reducible apply Device.hostBit_closed hP | intro _ | dsimp only)) h hs
theorem execSspmSfdp_keeps {st nx : State} (h : execSspmSfdp st = .next nx) (hs : P st.dev) : P nx.dev :=
  act_keeps hP (fun _ _ => by repeat' (first | with_reducible assumption | with_reducible apply Device.hostBit_closed hP | intro _ | dsimp only)) h hs
theorem execSspmTransferEnd_keeps {rx : List Byte} {r : SfdpResult} {st nx : State} (h : execSspmTransferEnd rx r st = .next nx) (hs : P st.dev) : P nx.dev :=
  act_keeps hP (fun _ _ => by repeat' (first | with_reducible assumption | with_reducible apply sspmTransferEnd_closed hP | intro _ | dsimp only)) h hs
theorem execSspmPoll_keeps {status : Byte} {st nx : State} (h : execSspmPoll status st = .next nx) (hs : P st.dev) : P nx.dev :=
  act_keeps hP (fun _ _ => by repeat' (first | with_reducible assumption | with_reducible apply sspmPollRead_closed hP | intro _ | dsimp only)) h hs
theorem execSspmPollTimeout_keeps {st nx : State} (h : execSspmPollTimeout st = .next nx) (hs : P st.dev) : P nx.dev :=
  act_keeps hP (fun _ _ => by repeat' (first | with_reducible assumption | with_reducible apply sspmPollTimeout_closed hP | intro _ | dsimp only)) h hs
theorem execXipRead_keeps {word : BitVec 23} {st nx : State} (h : execXipRead word st = .next nx) (hs : P st.dev) : P nx.dev :=
  act_keeps hP (fun _ _ => by repeat' (first | with_reducible assumption | with_reducible apply Device.windowXipRead_closed hP | intro _ | dsimp only)) h hs
theorem execXipLineFetchEnd_keeps {data : BitVec 256} {st nx : State} (h : execXipLineFetchEnd data st = .next nx) (hs : P st.dev) : P nx.dev :=
  act_keeps hP (fun _ _ => by repeat' (first | with_reducible assumption | with_reducible apply xipLineEnd_closed hP | intro _ | dsimp only)) h hs
theorem execXipWrite_keeps {word : BitVec 23} {w : RegWrite} {st nx : State} (h : execXipWrite word w st = .next nx) (hs : P st.dev) : P nx.dev :=
  act_keeps hP (fun _ _ => by repeat' (first | with_reducible assumption | with_reducible apply Device.windowXipWrite_closed hP | intro _ | dsimp only)) h hs
theorem execXipProgramStart_keeps {st nx : State} (h : execXipProgramStart st = .next nx) (hs : P st.dev) : P nx.dev :=
  act_keeps hP (fun _ _ => by repeat' (first | with_reducible assumption | with_reducible apply xipHoldEnd_closed hP | intro _ | dsimp only)) h hs
theorem execSspsSelectAssert_keeps {st nx : State} (h : execSspsSelectAssert st = .next nx) (hs : P st.dev) : P nx.dev :=
  act_keeps hP (fun _ _ => by repeat' (first | with_reducible assumption | with_reducible apply sspsSelect_closed hP | intro _ | dsimp only)) h hs
theorem execSspsSelectRelease_keeps {mosi : List Bool} {st nx : State} (h : execSspsSelectRelease mosi st = .next nx) (hs : P st.dev) : P nx.dev :=
  act_keeps hP (fun _ _ => by repeat' (first | with_reducible assumption | with_reducible apply sspsRelease_closed hP | intro _ | dsimp only)) h hs
theorem execSspsRxRdWrite_keeps {w : RegWrite} {st nx : State} (h : execSspsRxRdWrite w st = .next nx) (hs : P st.dev) : P nx.dev :=
  act_keeps hP (fun _ _ => by repeat' (first | with_reducible assumption | with_reducible apply Device.hostSend_closed hP | intro _ | dsimp only)) h hs
theorem execSspsTxWrWrite_keeps {w : RegWrite} {st nx : State} (h : execSspsTxWrWrite w st = .next nx) (hs : P st.dev) : P nx.dev :=
  act_keeps hP (fun _ _ => by repeat' (first | with_reducible assumption | with_reducible apply Device.hostSend_closed hP | intro _ | dsimp only)) h hs
theorem execSspsAttnWrite_keeps {w : RegWrite} {st nx : State} (h : execSspsAttnWrite w st = .next nx) (hs : P st.dev) : P nx.dev :=
  act_keeps hP (fun _ _ => by repeat' (first | with_reducible assumption | with_reducible apply Device.hostSend_closed hP | intro _ | dsimp only)) h hs
theorem execTrigSw_keeps {k : Fin 4} {w : RegWrite} {st nx : State} (h : execTrigSw k w st = .next nx) (hs : P st.dev) : P nx.dev :=
  act_keeps hP (fun _ _ => by repeat' (first | with_reducible assumption | with_reducible apply Device.hostCmd_closed hP | intro _ | dsimp only)) h hs
theorem execTrigOutPulseEnd_keeps {k : Fin 4} {st nx : State} (h : execTrigOutPulseEnd k st = .next nx) (hs : P st.dev) : P nx.dev :=
  act_keeps hP (fun _ _ => by repeat' (first | with_reducible assumption | with_reducible apply trigOutPulseEnd_closed hP | intro _ | dsimp only)) h hs
theorem execSupplyWarn_keeps {r : Fin 9} {low : Bool} {st nx : State} (h : execSupplyWarn r low st = .next nx) (hs : P st.dev) : P nx.dev :=
  act_keeps hP (fun _ _ => by repeat' (first | with_reducible assumption | with_reducible apply supplyWarn_closed hP | intro _ | dsimp only)) h hs
theorem execIntcConfigWrite_keeps {which : IntcWord} {w : RegWrite} {st nx : State} (h : execIntcConfigWrite which w st = .next nx) (hs : P st.dev) : P nx.dev :=
  act_keeps hP (fun _ _ => by repeat' (first | with_reducible assumption | with_reducible apply Device.hostSend_closed hP | intro _ | dsimp only)) h hs
theorem execIrqPulseEnd_keeps {b : Fin 4} {st nx : State} (h : execIrqPulseEnd b st = .next nx) (hs : P st.dev) : P nx.dev :=
  act_keeps hP (fun _ _ => by repeat' (first | with_reducible assumption | with_reducible apply irqPulseEnd_closed hP | intro _ | dsimp only)) h hs
theorem execSecOpenReq_keeps {w : RegWrite} {st nx : State} (h : execSecOpenReq w st = .next nx) (hs : P st.dev) : P nx.dev :=
  act_keeps hP (fun _ _ => by repeat' (first | with_reducible assumption | with_reducible apply Device.hostCmd_closed hP | intro _ | dsimp only)) h hs
theorem execSecVerify_keeps {st nx : State} (h : execSecVerify st = .next nx) (hs : P st.dev) : P nx.dev :=
  act_keeps hP (fun _ _ => by repeat' (first | with_reducible assumption | with_reducible apply Device.hostBit_closed hP | intro _ | dsimp only)) h hs
theorem execSecClose_keeps {st nx : State} (h : execSecClose st = .next nx) (hs : P st.dev) : P nx.dev :=
  act_keeps hP (fun _ _ => by repeat' (first | with_reducible assumption | with_reducible apply Device.hostBit_closed hP | intro _ | dsimp only)) h hs
theorem execChallengeExpiry_keeps {st nx : State} (h : execChallengeExpiry st = .next nx) (hs : P st.dev) : P nx.dev :=
  act_keeps hP (fun _ _ => by repeat' (first | with_reducible assumption | with_reducible apply challengeExpiry_closed hP | intro _ | dsimp only)) h hs
theorem execIdleTimeout_keeps {st nx : State} (h : execIdleTimeout st = .next nx) (hs : P st.dev) : P nx.dev :=
  act_keeps hP (fun _ _ => by repeat' (first | with_reducible assumption | with_reducible apply idleTimeout_closed hP | intro _ | dsimp only)) h hs
theorem execBackoffExpiry_keeps {st nx : State} (h : execBackoffExpiry st = .next nx) (hs : P st.dev) : P nx.dev :=
  act_keeps hP (fun _ _ => by repeat' (first | with_reducible assumption | with_reducible apply backoffExpiry_closed hP | intro _ | dsimp only)) h hs
theorem execKeyWriteOp_keeps {st nx : State} (h : execKeyWriteOp st = .next nx) (hs : P st.dev) : P nx.dev :=
  act_keeps hP (fun _ _ => by repeat' (first | with_reducible assumption | with_reducible apply Device.hostBit_closed hP | intro _ | dsimp only)) h hs
theorem execKeyWriteProv_keeps {st nx : State} (h : execKeyWriteProv st = .next nx) (hs : P st.dev) : P nx.dev :=
  act_keeps hP (fun _ _ => by repeat' (first | with_reducible assumption | with_reducible apply Device.hostBit_closed hP | intro _ | dsimp only)) h hs
theorem execKeyWriteDone_keeps {ok : Bool} {st nx : State} (h : execKeyWriteDone ok st = .next nx) (hs : P st.dev) : P nx.dev :=
  act_keeps hP (fun _ _ => by repeat' (first | with_reducible assumption | with_reducible apply keyWriteDone_closed hP | intro _ | dsimp only)) h hs
theorem execSealArm_keeps {st nx : State} (h : execSealArm st = .next nx) (hs : P st.dev) : P nx.dev :=
  act_keeps hP (fun _ _ => by repeat' (first | with_reducible assumption | with_reducible apply Device.hostBit_closed hP | intro _ | dsimp only)) h hs
theorem execSealArmExpiry_keeps {st nx : State} (h : execSealArmExpiry st = .next nx) (hs : P st.dev) : P nx.dev :=
  act_keeps hP (fun _ _ => by repeat' (first | with_reducible assumption | with_reducible apply sealArmExpiry_closed hP | intro _ | dsimp only)) h hs
theorem execSeal_keeps {st nx : State} (h : execSeal st = .next nx) (hs : P st.dev) : P nx.dev :=
  act_keeps hP (fun _ _ => by repeat' (first | with_reducible assumption | with_reducible apply Device.hostBit_closed hP | intro _ | dsimp only)) h hs
theorem execSealDone_keeps {st nx : State} (h : execSealDone st = .next nx) (hs : P st.dev) : P nx.dev :=
  act_keeps hP (fun _ _ => by repeat' (first | with_reducible assumption | with_reducible apply sealDone_closed hP | intro _ | dsimp only)) h hs
theorem execTamperEvent_keeps {cause : Fin 4} {st nx : State} (h : execTamperEvent cause st = .next nx) (hs : P st.dev) : P nx.dev :=
  act_keeps hP (fun _ _ => by repeat' (first | with_reducible assumption | with_reducible apply tamperEvent_closed hP | intro _ | dsimp only)) h hs
theorem execJtagInstruction_keeps {g : JtagGroup} {st nx : State} (h : execJtagInstruction g st = .next nx) (hs : P st.dev) : P nx.dev :=
  act_keeps hP (fun _ _ => by repeat' (first | with_reducible assumption | with_reducible apply Device.jtag_closed hP | intro _ | dsimp only)) h hs
theorem execTestLogicReset_keeps {st nx : State} (h : execTestLogicReset st = .next nx) (hs : P st.dev) : P nx.dev :=
  act_keeps hP (fun _ _ => by repeat' (first | with_reducible assumption | with_reducible apply Device.synthContinue_closed hP | with_reducible apply hP.lit | exact id | intro _ | dsimp only)) h hs

end Sys2Proof.Machine
end

