-- ==== Sys2Proof/Laws/Records.lean ====
section
/-!
SUPPORT. What an update leaves of the record of a session, a stream, a carrier, a path, a pilot, a timer, a cascade port and an island.
-/
namespace Sys2Proof.Machine

@[simp] theorem Device.sess_wr (d : Device) (a : Nat) (v : Word) (n : Nat) : (d.wr a v).sess n = d.sess n := id rfl
@[simp] theorem Device.sess_put (d : Device) (f : Fld) (v : Nat) (n : Nat) : (d.put f v).sess n = d.sess n := id rfl
@[simp] theorem Device.sess_modStream (d : Device) (k : Nat) (f : StreamSt → StreamSt) (n : Nat) : (d.modStream k f).sess n = d.sess n := id rfl
@[simp] theorem Device.sess_modCar (d : Device) (k : Nat) (f : CarSt → CarSt) (n : Nat) : (d.modCar k f).sess n = d.sess n := id rfl
@[simp] theorem Device.sess_modPath (d : Device) (k : Nat) (f : PathSt → PathSt) (n : Nat) : (d.modPath k f).sess n = d.sess n := id rfl
@[simp] theorem Device.sess_modPil (d : Device) (k : Nat) (f : PilSt → PilSt) (n : Nat) : (d.modPil k f).sess n = d.sess n := id rfl
@[simp] theorem Device.sess_modTimer (d : Device) (k : Nat) (f : TimerSt → TimerSt) (n : Nat) : (d.modTimer k f).sess n = d.sess n := id rfl
@[simp] theorem Device.sess_modCal (d : Device) (f : CalSt → CalSt) (n : Nat) : (d.modCal f).sess n = d.sess n := id rfl
@[simp] theorem Device.sess_modKl (d : Device) (f : KlSt → KlSt) (n : Nat) : (d.modKl f).sess n = d.sess n := id rfl
@[simp] theorem Device.sess_modPort (d : Device) (k : Nat) (f : KlPortSt → KlPortSt) (n : Nat) : (d.modPort k f).sess n = d.sess n := id rfl
@[simp] theorem Device.sess_modPl (d : Device) (f : PlSt → PlSt) (n : Nat) : (d.modPl f).sess n = d.sess n := id rfl
@[simp] theorem Device.sess_modRep (d : Device) (f : RepSt → RepSt) (n : Nat) : (d.modRep f).sess n = d.sess n := id rfl
@[simp] theorem Device.sess_setMirror (d : Device) (a : Nat) (v : Word) (n : Nat) : (d.setMirror a v).sess n = d.sess n := by simp [Device.sess]
@[simp] theorem Device.sess_irq (d : Device) (p b n : Nat) : (d.irq p b).sess n = d.sess n := by simp [Device.sess]
@[simp] theorem Device.sess_irqLevel (d : Device) (p b : Nat) (c : Bool) (n : Nat) : (d.irqLevel p b c).sess n = d.sess n := by simp [Device.sess]
theorem Device.sess_settle (d : Device) (h : d.NoRemote) (n : Nat) : d.settle.sess n = d.sess n := by simp [Device.sess, settle_ses d h]
@[simp] theorem Device.stream_wr (d : Device) (a : Nat) (v : Word) (n : Nat) : (d.wr a v).stream n = d.stream n := id rfl
@[simp] theorem Device.stream_put (d : Device) (f : Fld) (v : Nat) (n : Nat) : (d.put f v).stream n = d.stream n := id rfl
@[simp] theorem Device.stream_modSes (d : Device) (k : Nat) (f : SesSt → SesSt) (n : Nat) : (d.modSes k f).stream n = d.stream n := id rfl
@[simp] theorem Device.stream_modCar (d : Device) (k : Nat) (f : CarSt → CarSt) (n : Nat) : (d.modCar k f).stream n = d.stream n := id rfl
@[simp] theorem Device.stream_modPath (d : Device) (k : Nat) (f : PathSt → PathSt) (n : Nat) : (d.modPath k f).stream n = d.stream n := id rfl
@[simp] theorem Device.stream_modPil (d : Device) (k : Nat) (f : PilSt → PilSt) (n : Nat) : (d.modPil k f).stream n = d.stream n := id rfl
@[simp] theorem Device.stream_modTimer (d : Device) (k : Nat) (f : TimerSt → TimerSt) (n : Nat) : (d.modTimer k f).stream n = d.stream n := id rfl
@[simp] theorem Device.stream_modCal (d : Device) (f : CalSt → CalSt) (n : Nat) : (d.modCal f).stream n = d.stream n := id rfl
@[simp] theorem Device.stream_modKl (d : Device) (f : KlSt → KlSt) (n : Nat) : (d.modKl f).stream n = d.stream n := id rfl
@[simp] theorem Device.stream_modPort (d : Device) (k : Nat) (f : KlPortSt → KlPortSt) (n : Nat) : (d.modPort k f).stream n = d.stream n := id rfl
@[simp] theorem Device.stream_modPl (d : Device) (f : PlSt → PlSt) (n : Nat) : (d.modPl f).stream n = d.stream n := id rfl
@[simp] theorem Device.stream_modRep (d : Device) (f : RepSt → RepSt) (n : Nat) : (d.modRep f).stream n = d.stream n := id rfl
@[simp] theorem Device.stream_setMirror (d : Device) (a : Nat) (v : Word) (n : Nat) : (d.setMirror a v).stream n = d.stream n := by simp [Device.stream]
@[simp] theorem Device.stream_irq (d : Device) (p b n : Nat) : (d.irq p b).stream n = d.stream n := by simp [Device.stream]
@[simp] theorem Device.stream_irqLevel (d : Device) (p b : Nat) (c : Bool) (n : Nat) : (d.irqLevel p b c).stream n = d.stream n := by simp [Device.stream]
theorem Device.stream_settle (d : Device) (h : d.NoRemote) (n : Nat) : d.settle.stream n = d.stream n := by simp [Device.stream, settle_bf d h]
@[simp] theorem Device.car_wr (d : Device) (a : Nat) (v : Word) (n : Nat) : (d.wr a v).car n = d.car n := id rfl
@[simp] theorem Device.car_put (d : Device) (f : Fld) (v : Nat) (n : Nat) : (d.put f v).car n = d.car n := id rfl
@[simp] theorem Device.car_modSes (d : Device) (k : Nat) (f : SesSt → SesSt) (n : Nat) : (d.modSes k f).car n = d.car n := id rfl
@[simp] theorem Device.car_modStream (d : Device) (k : Nat) (f : StreamSt → StreamSt) (n : Nat) : (d.modStream k f).car n = d.car n := id rfl
@[simp] theorem Device.car_modPath (d : Device) (k : Nat) (f : PathSt → PathSt) (n : Nat) : (d.modPath k f).car n = d.car n := id rfl
@[simp] theorem Device.car_modPil (d : Device) (k : Nat) (f : PilSt → PilSt) (n : Nat) : (d.modPil k f).car n = d.car n := id rfl
@[simp] theorem Device.car_modTimer (d : Device) (k : Nat) (f : TimerSt → TimerSt) (n : Nat) : (d.modTimer k f).car n = d.car n := id rfl
@[simp] theorem Device.car_modCal (d : Device) (f : CalSt → CalSt) (n : Nat) : (d.modCal f).car n = d.car n := id rfl
@[simp] theorem Device.car_modKl (d : Device) (f : KlSt → KlSt) (n : Nat) : (d.modKl f).car n = d.car n := id rfl
@[simp] theorem Device.car_modPort (d : Device) (k : Nat) (f : KlPortSt → KlPortSt) (n : Nat) : (d.modPort k f).car n = d.car n := id rfl
@[simp] theorem Device.car_modPl (d : Device) (f : PlSt → PlSt) (n : Nat) : (d.modPl f).car n = d.car n := id rfl
@[simp] theorem Device.car_modRep (d : Device) (f : RepSt → RepSt) (n : Nat) : (d.modRep f).car n = d.car n := id rfl
@[simp] theorem Device.car_setMirror (d : Device) (a : Nat) (v : Word) (n : Nat) : (d.setMirror a v).car n = d.car n := by simp [Device.car]
@[simp] theorem Device.car_irq (d : Device) (p b n : Nat) : (d.irq p b).car n = d.car n := by simp [Device.car]
@[simp] theorem Device.car_irqLevel (d : Device) (p b : Nat) (c : Bool) (n : Nat) : (d.irqLevel p b c).car n = d.car n := by simp [Device.car]
theorem Device.car_settle (d : Device) (h : d.NoRemote) (n : Nat) : d.settle.car n = d.car n := by simp [Device.car, settle_cars d h]
@[simp] theorem Device.path_wr (d : Device) (a : Nat) (v : Word) (n : Nat) : (d.wr a v).path n = d.path n := id rfl
@[simp] theorem Device.path_put (d : Device) (f : Fld) (v : Nat) (n : Nat) : (d.put f v).path n = d.path n := id rfl
@[simp] theorem Device.path_modSes (d : Device) (k : Nat) (f : SesSt → SesSt) (n : Nat) : (d.modSes k f).path n = d.path n := id rfl
@[simp] theorem Device.path_modStream (d : Device) (k : Nat) (f : StreamSt → StreamSt) (n : Nat) : (d.modStream k f).path n = d.path n := id rfl
@[simp] theorem Device.path_modCar (d : Device) (k : Nat) (f : CarSt → CarSt) (n : Nat) : (d.modCar k f).path n = d.path n := id rfl
@[simp] theorem Device.path_modPil (d : Device) (k : Nat) (f : PilSt → PilSt) (n : Nat) : (d.modPil k f).path n = d.path n := id rfl
@[simp] theorem Device.path_modTimer (d : Device) (k : Nat) (f : TimerSt → TimerSt) (n : Nat) : (d.modTimer k f).path n = d.path n := id rfl
@[simp] theorem Device.path_modCal (d : Device) (f : CalSt → CalSt) (n : Nat) : (d.modCal f).path n = d.path n := id rfl
@[simp] theorem Device.path_modKl (d : Device) (f : KlSt → KlSt) (n : Nat) : (d.modKl f).path n = d.path n := id rfl
@[simp] theorem Device.path_modPort (d : Device) (k : Nat) (f : KlPortSt → KlPortSt) (n : Nat) : (d.modPort k f).path n = d.path n := id rfl
@[simp] theorem Device.path_modPl (d : Device) (f : PlSt → PlSt) (n : Nat) : (d.modPl f).path n = d.path n := id rfl
@[simp] theorem Device.path_modRep (d : Device) (f : RepSt → RepSt) (n : Nat) : (d.modRep f).path n = d.path n := id rfl
@[simp] theorem Device.path_setMirror (d : Device) (a : Nat) (v : Word) (n : Nat) : (d.setMirror a v).path n = d.path n := by simp [Device.path]
@[simp] theorem Device.path_irq (d : Device) (p b n : Nat) : (d.irq p b).path n = d.path n := by simp [Device.path]
@[simp] theorem Device.path_irqLevel (d : Device) (p b : Nat) (c : Bool) (n : Nat) : (d.irqLevel p b c).path n = d.path n := by simp [Device.path]
theorem Device.path_settle (d : Device) (h : d.NoRemote) (n : Nat) : d.settle.path n = d.path n := by simp [Device.path, settle_paths d h]
@[simp] theorem Device.pil_wr (d : Device) (a : Nat) (v : Word) (n : Nat) : (d.wr a v).pil n = d.pil n := id rfl
@[simp] theorem Device.pil_put (d : Device) (f : Fld) (v : Nat) (n : Nat) : (d.put f v).pil n = d.pil n := id rfl
@[simp] theorem Device.pil_modSes (d : Device) (k : Nat) (f : SesSt → SesSt) (n : Nat) : (d.modSes k f).pil n = d.pil n := id rfl
@[simp] theorem Device.pil_modStream (d : Device) (k : Nat) (f : StreamSt → StreamSt) (n : Nat) : (d.modStream k f).pil n = d.pil n := id rfl
@[simp] theorem Device.pil_modCar (d : Device) (k : Nat) (f : CarSt → CarSt) (n : Nat) : (d.modCar k f).pil n = d.pil n := id rfl
@[simp] theorem Device.pil_modPath (d : Device) (k : Nat) (f : PathSt → PathSt) (n : Nat) : (d.modPath k f).pil n = d.pil n := id rfl
@[simp] theorem Device.pil_modTimer (d : Device) (k : Nat) (f : TimerSt → TimerSt) (n : Nat) : (d.modTimer k f).pil n = d.pil n := id rfl
@[simp] theorem Device.pil_modCal (d : Device) (f : CalSt → CalSt) (n : Nat) : (d.modCal f).pil n = d.pil n := id rfl
@[simp] theorem Device.pil_modKl (d : Device) (f : KlSt → KlSt) (n : Nat) : (d.modKl f).pil n = d.pil n := id rfl
@[simp] theorem Device.pil_modPort (d : Device) (k : Nat) (f : KlPortSt → KlPortSt) (n : Nat) : (d.modPort k f).pil n = d.pil n := id rfl
@[simp] theorem Device.pil_modPl (d : Device) (f : PlSt → PlSt) (n : Nat) : (d.modPl f).pil n = d.pil n := id rfl
@[simp] theorem Device.pil_modRep (d : Device) (f : RepSt → RepSt) (n : Nat) : (d.modRep f).pil n = d.pil n := id rfl
@[simp] theorem Device.pil_setMirror (d : Device) (a : Nat) (v : Word) (n : Nat) : (d.setMirror a v).pil n = d.pil n := by simp [Device.pil]
@[simp] theorem Device.pil_irq (d : Device) (p b n : Nat) : (d.irq p b).pil n = d.pil n := by simp [Device.pil]
@[simp] theorem Device.pil_irqLevel (d : Device) (p b : Nat) (c : Bool) (n : Nat) : (d.irqLevel p b c).pil n = d.pil n := by simp [Device.pil]
theorem Device.pil_settle (d : Device) (h : d.NoRemote) (n : Nat) : d.settle.pil n = d.pil n := by simp [Device.pil, settle_pilots d h]
@[simp] theorem Device.timer_wr (d : Device) (a : Nat) (v : Word) (n : Nat) : (d.wr a v).timer n = d.timer n := id rfl
@[simp] theorem Device.timer_put (d : Device) (f : Fld) (v : Nat) (n : Nat) : (d.put f v).timer n = d.timer n := id rfl
@[simp] theorem Device.timer_modSes (d : Device) (k : Nat) (f : SesSt → SesSt) (n : Nat) : (d.modSes k f).timer n = d.timer n := id rfl
@[simp] theorem Device.timer_modStream (d : Device) (k : Nat) (f : StreamSt → StreamSt) (n : Nat) : (d.modStream k f).timer n = d.timer n := id rfl
@[simp] theorem Device.timer_modCar (d : Device) (k : Nat) (f : CarSt → CarSt) (n : Nat) : (d.modCar k f).timer n = d.timer n := id rfl
@[simp] theorem Device.timer_modPath (d : Device) (k : Nat) (f : PathSt → PathSt) (n : Nat) : (d.modPath k f).timer n = d.timer n := id rfl
@[simp] theorem Device.timer_modPil (d : Device) (k : Nat) (f : PilSt → PilSt) (n : Nat) : (d.modPil k f).timer n = d.timer n := id rfl
@[simp] theorem Device.timer_modCal (d : Device) (f : CalSt → CalSt) (n : Nat) : (d.modCal f).timer n = d.timer n := id rfl
@[simp] theorem Device.timer_modKl (d : Device) (f : KlSt → KlSt) (n : Nat) : (d.modKl f).timer n = d.timer n := id rfl
@[simp] theorem Device.timer_modPort (d : Device) (k : Nat) (f : KlPortSt → KlPortSt) (n : Nat) : (d.modPort k f).timer n = d.timer n := id rfl
@[simp] theorem Device.timer_modPl (d : Device) (f : PlSt → PlSt) (n : Nat) : (d.modPl f).timer n = d.timer n := id rfl
@[simp] theorem Device.timer_modRep (d : Device) (f : RepSt → RepSt) (n : Nat) : (d.modRep f).timer n = d.timer n := id rfl
@[simp] theorem Device.timer_setMirror (d : Device) (a : Nat) (v : Word) (n : Nat) : (d.setMirror a v).timer n = d.timer n := by simp [Device.timer]
@[simp] theorem Device.timer_irq (d : Device) (p b n : Nat) : (d.irq p b).timer n = d.timer n := by simp [Device.timer]
@[simp] theorem Device.timer_irqLevel (d : Device) (p b : Nat) (c : Bool) (n : Nat) : (d.irqLevel p b c).timer n = d.timer n := by simp [Device.timer]
theorem Device.timer_settle (d : Device) (h : d.NoRemote) (n : Nat) : d.settle.timer n = d.timer n := by simp [Device.timer, settle_timers d h]
@[simp] theorem Device.port_wr (d : Device) (a : Nat) (v : Word) (n : Nat) : (d.wr a v).port n = d.port n := id rfl
@[simp] theorem Device.port_put (d : Device) (f : Fld) (v : Nat) (n : Nat) : (d.put f v).port n = d.port n := id rfl
@[simp] theorem Device.port_modSes (d : Device) (k : Nat) (f : SesSt → SesSt) (n : Nat) : (d.modSes k f).port n = d.port n := id rfl
@[simp] theorem Device.port_modStream (d : Device) (k : Nat) (f : StreamSt → StreamSt) (n : Nat) : (d.modStream k f).port n = d.port n := id rfl
@[simp] theorem Device.port_modCar (d : Device) (k : Nat) (f : CarSt → CarSt) (n : Nat) : (d.modCar k f).port n = d.port n := id rfl
@[simp] theorem Device.port_modPath (d : Device) (k : Nat) (f : PathSt → PathSt) (n : Nat) : (d.modPath k f).port n = d.port n := id rfl
@[simp] theorem Device.port_modPil (d : Device) (k : Nat) (f : PilSt → PilSt) (n : Nat) : (d.modPil k f).port n = d.port n := id rfl
@[simp] theorem Device.port_modTimer (d : Device) (k : Nat) (f : TimerSt → TimerSt) (n : Nat) : (d.modTimer k f).port n = d.port n := id rfl
@[simp] theorem Device.port_modCal (d : Device) (f : CalSt → CalSt) (n : Nat) : (d.modCal f).port n = d.port n := id rfl
@[simp] theorem Device.port_modPl (d : Device) (f : PlSt → PlSt) (n : Nat) : (d.modPl f).port n = d.port n := id rfl
@[simp] theorem Device.port_modRep (d : Device) (f : RepSt → RepSt) (n : Nat) : (d.modRep f).port n = d.port n := id rfl
@[simp] theorem Device.port_setMirror (d : Device) (a : Nat) (v : Word) (n : Nat) : (d.setMirror a v).port n = d.port n := by simp [Device.port]
@[simp] theorem Device.port_irq (d : Device) (p b n : Nat) : (d.irq p b).port n = d.port n := by simp [Device.port]
@[simp] theorem Device.port_irqLevel (d : Device) (p b : Nat) (c : Bool) (n : Nat) : (d.irqLevel p b c).port n = d.port n := by simp [Device.port]
theorem Device.port_settle (d : Device) (h : d.NoRemote) (n : Nat) : d.settle.port n = d.port n := by simp [Device.port, settle_kl d h]
@[simp] theorem Device.island_wr (d : Device) (a : Nat) (v : Word) (n : Nat) : (d.wr a v).island n = d.island n := id rfl
@[simp] theorem Device.island_put (d : Device) (f : Fld) (v : Nat) (n : Nat) : (d.put f v).island n = d.island n := id rfl
@[simp] theorem Device.island_modSes (d : Device) (k : Nat) (f : SesSt → SesSt) (n : Nat) : (d.modSes k f).island n = d.island n := id rfl
@[simp] theorem Device.island_modStream (d : Device) (k : Nat) (f : StreamSt → StreamSt) (n : Nat) : (d.modStream k f).island n = d.island n := id rfl
@[simp] theorem Device.island_modCar (d : Device) (k : Nat) (f : CarSt → CarSt) (n : Nat) : (d.modCar k f).island n = d.island n := id rfl
@[simp] theorem Device.island_modPath (d : Device) (k : Nat) (f : PathSt → PathSt) (n : Nat) : (d.modPath k f).island n = d.island n := id rfl
@[simp] theorem Device.island_modPil (d : Device) (k : Nat) (f : PilSt → PilSt) (n : Nat) : (d.modPil k f).island n = d.island n := id rfl
@[simp] theorem Device.island_modTimer (d : Device) (k : Nat) (f : TimerSt → TimerSt) (n : Nat) : (d.modTimer k f).island n = d.island n := id rfl
@[simp] theorem Device.island_modCal (d : Device) (f : CalSt → CalSt) (n : Nat) : (d.modCal f).island n = d.island n := id rfl
@[simp] theorem Device.island_modKl (d : Device) (f : KlSt → KlSt) (n : Nat) : (d.modKl f).island n = d.island n := id rfl
@[simp] theorem Device.island_modPort (d : Device) (k : Nat) (f : KlPortSt → KlPortSt) (n : Nat) : (d.modPort k f).island n = d.island n := id rfl
@[simp] theorem Device.island_modPl (d : Device) (f : PlSt → PlSt) (n : Nat) : (d.modPl f).island n = d.island n := id rfl
@[simp] theorem Device.island_modRep (d : Device) (f : RepSt → RepSt) (n : Nat) : (d.modRep f).island n = d.island n := id rfl
@[simp] theorem Device.island_setMirror (d : Device) (a : Nat) (v : Word) (n : Nat) : (d.setMirror a v).island n = d.island n := by simp [Device.island]
@[simp] theorem Device.island_irq (d : Device) (p b n : Nat) : (d.irq p b).island n = d.island n := by simp [Device.island]
@[simp] theorem Device.island_irqLevel (d : Device) (p b : Nat) (c : Bool) (n : Nat) : (d.irqLevel p b c).island n = d.island n := by simp [Device.island]
theorem Device.island_settle (d : Device) (h : d.NoRemote) (n : Nat) : d.settle.island n = d.island n := by simp [Device.island, settle_isl d h]

/-- A session's own record after its change. -/
theorem Device.sess_modSes_self (d : Device) (n : Nat) (f : SesSt → SesSt) (h : n < 16) : (d.modSes n f).sess n = f (d.sess n) := by
  rw [Device.sess_modSes, if_pos ⟨rfl, h⟩]
theorem Device.stream_modStream_self (d : Device) (n : Nat) (f : StreamSt → StreamSt) (h : n < 16) : (d.modStream n f).stream n = f (d.stream n) := by
  simp [Device.modStream, Device.stream, Vector.getD, h]
theorem Device.port_modPort_self (d : Device) (n : Nat) (f : KlPortSt → KlPortSt) (h : n < 5) : (d.modPort n f).port n = f (d.port n) := by
  simp [Device.modPort, Device.modKl, Device.port, Vector.getD, h]
theorem Device.car_modCar_self (d : Device) (n : Nat) (f : CarSt → CarSt) (h : n < 4) : (d.modCar n f).car n = f (d.car n) := by
  rw [Device.car_modCar, if_pos ⟨rfl, h⟩]
theorem Device.path_modPath_self (d : Device) (n : Nat) (f : PathSt → PathSt) (h : n < 64) : (d.modPath n f).path n = f (d.path n) := by
  rw [Device.path_modPath, if_pos ⟨rfl, h⟩]
theorem Device.pil_modPil_self (d : Device) (n : Nat) (f : PilSt → PilSt) (h : n < 20) : (d.modPil n f).pil n = f (d.pil n) := by
  rw [Device.pil_modPil, if_pos ⟨rfl, h⟩]
theorem Device.timer_modTimer_self (d : Device) (n : Nat) (f : TimerSt → TimerSt) (h : n < 16) : (d.modTimer n f).timer n = f (d.timer n) := by
  rw [Device.timer_modTimer, if_pos ⟨rfl, h⟩]

end Sys2Proof.Machine
end

