-- ==== Sys2Proof/WellFormed.lean ====
section
/-!
DEFINITION. Which commands are well formed: what a row brings along has the shape the spec gives it. Ranges of numbers are in the operands' types.
-/
namespace Sys2Proof

/-- A census record as a frame carries it: 32 bytes (R338). -/
def recordFits (r : List Byte) : Bool := r.length = 32

/-- Whole messages: one or more slots of 64 bytes, at most 512 bytes in a MESSAGE frame (R345). -/
def messagesFit (msgs : List Byte) : Bool := msgs.length % 64 = 0 && decide (64 ≤ msgs.length) && decide (msgs.length ≤ 512)

/-- The checks, one for each command that has one. -/
def wellFormed (i : Instr) : Bool :=
  match i with
  | .noiseMeasureEnd _ _ _ levels => levels.length = 64
  | .directionEstimate z _ => z.length = 64
  | .snapshotCaptureEnd _ samples => samples.length % 64 = 0
  | .censusRec _ r => recordFits r
  | .eventFrame _ msg => msg.length = 64
  | .messageFrame _ _ _ count msgs => messagesFit msgs && decide (1 ≤ count.toNat)
  | .regReq _ _ _ entries => decide (1 ≤ entries.length)
  | .bootImageDone a b _ => decide (a.length ≤ 65536) && decide (b.length ≤ 65536)
  | .streamPacket (.path samples) _ _ => samples.length = 2048
  | .streamPacket (.beam values) _ _ => values.length % 128 = 0 && decide (128 ≤ values.length)
  | .streamPacket (.snap _ samples _) _ _ => decide (samples.length ≤ 2048) && samples.length % 64 = 0
  | .hkEntryDone raws => decide (1 ≤ raws.length)
  | .sspmTransferEnd rx _ => decide (rx.length ≤ 512)
  | _ => true

end Sys2Proof
end

