-- ==== Sys2Proof/Tests/Slice0.lean ====
section
/-!
SUPPORT. Tests: ill-formed commands are refused, known answers, and for every statement with hypotheses a state and operands that meet the hypotheses of each of its clauses.
-/
namespace Sys2Proof.Tests
open Sys2Proof Sys2Proof.Machine
set_option Elab.async false

/-! ### Devices and operands the tests use -/
/-- A device that has started up: every island runs, and an operator session of level 2 is open. -/
def up : Device :=
  (({ isl := Vector.replicate 5 { held := false }, rst := { full := false, step := .done, rstoutHigh := true, sLockedOnce := true } } : Device).wr
    clkGood 0x1F).put fSecStatLevel 2
/-- A state with that device, and a command that waits. -/
def st (d : Device) : State := { dev := d, pending := [.sspmGo] }
/-- SESSION_n in state `k` on carrier 0, which is ON, served by pilot n, and with the turn of its group. -/
def air (n k : Nat) : Device :=
  (((((up.put (fPcEn (0x80 + n)) 1).put (fPsState (0x80 + n)) k).put (fCarStatState 0) 6).put (fPsState (0x20 + n)) 5).modStream n
    (fun t => { t with assigned := true, admitted := true })).setTurn n true
/-- A register write of a whole word. -/
def full (v : Word) : RegWrite := { value := v, be := 0xF#4 }
/-- A descriptor with these bytes. -/
def desc (bs : List Byte) : Desc := { bytes := bs ++ List.replicate (32 - bs.length) 0, index := 0, taken := 0, started := true }
/-- Bits with the CRC-16 of the air protocol after them. -/
def crcd (bits : List Bool) : List Bool := bits ++ natBits 16 (crc16 bits)
/-- A reply of these bits that kept the coding rules. -/
def reply (bits : List Bool) : Reply := { bits := bits, coded := true, powerA := 1000, powerB := 500, tpri := 3125000, samples := [] }
/-- The EPC reply of a tag: PC 0x3000 and 96 bits. -/
def epcBits : List Bool := crcd (natBits 16 0x3000 ++ bytesBits ((List.range 12).map (fun k => BitVec.ofNat 8 (0x30 + k))))
/-- SESSION_n of `d` with these bytes at CHEAD of its command ring. -/
def ringed (d : Device) (n : Nat) (bs : List Byte) : Device :=
  ({ d with sram := writeBytes zeroByte d.sram (d.cSlotAddr n (d.index (ringChead n))) bs } : Device).wr (ringCtail n) 1
/-- The descriptor `ringed` puts there. -/
def head (bs : List Byte) : Desc := { bytes := bs ++ List.replicate (32 - bs.length) 0, index := 0, taken := 0 }
/-- A profile that admits channel 865.7 MHz. -/
def profile : Profile :=
  { base := 1, eirp := 3600, gain := 600, pathLimit := 1200, flags := 0, maxCarriers := 4, dwellMax := 0, occWindow := 0, occLimit := 0, lbtTime := 0,
    lbtThr := 0, lbtRetry := 0, stream := none, mask := [], channels := [{ hz := 865700000, limit := 3600 }] }
/-- Device `d` with that profile. -/
def ruled (d : Device) : Device := { d with profile := some profile }
/-- A valid weight-table entry for transmission and reception, pointing to boresight. -/
def entryBytes : List Byte := [0x83, 1] ++ List.replicate 14 0 ++ (List.range 64).flatMap (fun k => leBytes 4 (if k < 4 then 2048 else 0))
/-- Device `d` with that entry at index 0 of the weight table. -/
def tabled (d : Device) : Device := d.putEntryWt 0 entryBytes
/-- A sighting of a tag by SESSION_15. -/
def sight : Sighting :=
  { session := 15, setB := false, pc := 0x3000, xpc1 := 0, xpc2 := 0, epc := List.replicate 12 0x5A, rssi := 0, rssiA := 0, rssiB := 0x8000, dir := none,
    restarted := false, tide := 99, cookie := 7, carrier := 0, freqKhz := 865700 }
/-- A manifest entry of that tag, with these FLAGS. -/
def manBytes (flags : Byte) : List Byte := [flags, 12] ++ List.replicate 30 0 ++ List.replicate 12 0x5A ++ List.replicate 20 0
/-- Device `d` with that entry at position `i`. -/
def manned (d : Device) (i : Nat) (flags : Byte) : Device := d.putEntry i (manBytes flags)
/-- Carrier `c` in state `k` on 865.7 MHz with SESSION_15 in state 4 assigned to it, under the profile, with SYNTH_S locked and calibrated. -/
def onCar (c k : Nat) : Device :=
  ruled ((((((((air 15 4).put (fCarStatState 0) 0).put (fSesRxcfgCarrier 15) c).put (fCarStatState c) k).put (fCarCtrlEn c) 1).wr (carFreq c) 57).put
    fSynStatSLock 1).put fSynStatSCal 1 |>.modCar c (fun t => { t with hz := 865700000 }))
/-- Device `d` under a profile with FLAGS `k` and 100 ms of dwell and occupancy. -/
def flagged (d : Device) (k : Nat) : Device :=
  { d with profile := some { profile with flags := k, dwellMax := 100, occWindow := 10, occLimit := 100, mask := [{ offset := 200, limit := 50, rbw := 0 }] } }
/-- Device `d` in role `r` of the cascade (1 harbourmaster, 2 relay, 3 leaf), its port `k` in state `x` and expecting frame 9. -/
def ported (d : Device) (r k x : Nat) : Device :=
  ((d.put fKlStatRole r).put (fKlPstatState k) x).modPort k (fun t => { t with rxSeq := some 9 })
/-- The header of frame 9 on port `k`. -/
def khead (k : Fin 5) : KlHead := { port := k, seq := 9, len := 10, src := 7, ack := 3, creditClass := 1, credits := 5 }
/-- A TRAIN frame of role `r` and port `k`. -/
def ktrain (r : Fin 4) (k : Fin 5) : KlTrain := { role := r, port := k, link := 1, calFmt := 1, msgFmt := 3, number := 7, identity := 77 }
/-- A frame on its way. -/
def kframe (seq : Nat) : KlFrame := { body := .version 3, cls := 1, seq := seq }
/-- Device `d` with a message of one slot at MHEAD of message ring `n`. -/
def msged (d : Device) (n : Nat) : Device :=
  ({ d with sram := writeBytes zeroByte d.sram (d.mSlotAddr n (d.index (ringMhead n))) ([7, 1, 2, 0] ++ List.replicate 60 9) } : Device).wr (ringMtail n) 1
/-- Device `d` with its packet link UP on lanes 0 … 3, lane 4 its standby, and credits for sending. -/
def linked (d : Device) (cred : Nat) : Device :=
  ((Device.forAll (α := Nat) (((d.put (fPsState 0x1B) 2).wr plMap 0x688).put (fPlLstatState 4) 5) (List.range 4)
    (fun d l => ((d.put (fPlLstatState l) 4).put (fPlLstatPos l) l).put (fTxCred l) cred))).put fPlCapCap 100000 |>.put fPlCtrlAdmitPct 80
/-- A packet of SEQ `s` that waits for its ACK. -/
def packet (s : Nat) : PlPacket := { type := 4, vc := 2, payload := List.replicate 64 1, seq := s }
/-- Device `d` with the reset controller's state changed. -/
def reset (d : Device) (f : ResetSt → ResetSt) : Device := { d with rst := f d.rst }
/-- A device whose release sequence stands at `k` after a reset, all islands held. -/
def booting (k : BootStep) (full : Bool) : Device := { up with isl := Vector.replicate 5 { pending := true }, rst := { full := full, step := k } }
/-- Device `d` in sleep phase `k`. -/
def asleep (d : Device) (k : SleepPhase) : Device := { d with pwr := { phase := k } }
/-- A boot image of 8 bytes, and the hash of the key its signature verifies under; the signature is such that both factors of the check are 1. -/
def bootImage : List Byte := beBytes 200 0x574E4F47010100000800000001000000010000000300000066840DDA154E8A113C31DD0AD32F7F3A366A80E8136979D8F5A101D3D29D6F720000000092156601010203040506070851B12658A79F1510533F36101A61C7053DDEADBE39D66FCD8C1C4FB1FE9349FC37774D3E00EBBE2A0B0B36B4C8E97C3D1694077780B6F0B3BA3F55CAE4B46D6BE25FFD3603A3A34B4687E9A42B4A5CCB0DF53589D0BF1301E976C81A8D1CF052E25FFD3603A3A34B4687E9A42B4A5CCB0DF53589D0BF1301E976C81A8D1CF052
@[inherit_doc bootImage] def bootKeyHash : List Byte := beBytes 32 0x237AE21E77D9F491964A6E803917D71158F91509C686925805907ADDCDFF9E8F
/-- An option image of one record, and the hash of its key, in the same way. -/
def optionImage : List Byte := beBytes 264 0x574E4F4701020000480000000300000001000000030000007D73C897FAD227D7F8A97F6F24D77960BB4FE66FFCF5841911D0C2658524A0BE000000002C853A8C0010000000000000000102030405060708090A0B0C0D0E0F101112131415161718191A1B1C1D1E1F202122232425262728292A2B2C2D2E2F303132333435363738393A3B3C3D3E3FFD80930834E088072CDAD535E221FDFC9916B02E65AEC12C85158A483FB0635E9816E416973D795B88AE6D4070E9B9EC55416A82F552AE9206EF3F23E692EAD9310CC0A9E5A8C0518BFE788EE4927CE23F8111457610ACE3872ED2AE95B7F8CD310CC0A9E5A8C0518BFE788EE4927CE23F8111457610ACE3872ED2AE95B7F8CD
@[inherit_doc optionImage] def optionKeyHash : List Byte := beBytes 32 0xF215DB3A66009FC698CFAD068429E2BB93735BFD410C95AA9597A0A2FDFBF2E7
theorem pair_of {α β : Type} (p : α × β) (a : α) (h : p.1 = a) : p = (a, p.2) := Prod.ext h rfl
theorem pair_eta {α β : Type} (p : α × β) : p = (p.1, p.2) := rfl

/-! ### Commands that are not well formed -/

theorem test_wellFormed_refuses_short_levels : wellFormed (.noiseMeasureEnd 0 0 0 [1]) = false := by decide +kernel
theorem test_wellFormed_refuses_short_covariance : wellFormed (.directionEstimate [1] 2) = false := by decide +kernel
theorem test_wellFormed_refuses_samples_off_grid : wellFormed (.snapshotCaptureEnd 0 (List.replicate 63 0)) = false := by decide +kernel
theorem test_wellFormed_refuses_short_record : wellFormed (.censusRec (khead 2) (List.replicate 31 0)) = false := by decide +kernel
theorem test_wellFormed_refuses_long_event : wellFormed (.eventFrame (khead 2) (List.replicate 65 0)) = false := by decide +kernel
theorem test_wellFormed_refuses_split_message : wellFormed (.messageFrame (khead 2) 9 0 1 (List.replicate 63 0)) = false := by decide +kernel
theorem test_wellFormed_refuses_no_message : wellFormed (.messageFrame (khead 2) 9 0 0 (List.replicate 64 0)) = false := by decide +kernel
theorem test_wellFormed_refuses_no_entries : wellFormed (.regReq 0 0 0 []) = false := by decide +kernel
theorem test_wellFormed_refuses_long_slot : wellFormed (.bootImageDone (List.replicate 65537 0) [] .absent) = false := by decide +kernel
theorem test_wellFormed_refuses_short_path_samples : wellFormed (.streamPacket (.path []) 0 true) = false := by decide +kernel
theorem test_wellFormed_refuses_no_beam_values : wellFormed (.streamPacket (.beam []) 0 true) = false := by decide +kernel
theorem test_wellFormed_refuses_snap_off_grid : wellFormed (.streamPacket (.snap 0 [1] true) 0 true) = false := by decide +kernel
theorem test_wellFormed_refuses_no_codes : wellFormed (.hkEntryDone []) = false := by decide +kernel
theorem test_wellFormed_refuses_long_read : wellFormed (.sspmTransferEnd (List.replicate 513 0) .absent) = false := by decide +kernel
theorem test_wellFormed_accepts : wellFormed (.censusRec (khead 2) (List.replicate 32 0)) = true ∧ wellFormed (.hkEntryDone [5]) = true
    ∧ wellFormed (.messageFrame (khead 2) 9 0 1 (List.replicate 64 0)) = true := by decide +kernel

/-! ### Known answers -/

/-- The example of R5: PAGE_STAT of PATH_17 is at 0x0005_100C. -/
theorem test_page_stat_of_path_17 : 4 * pageStat (0x40 + 17) = 0x0005100C := by decide
/-- The check value of CRC-32 (IEEE 802.3) for "123456789". -/
theorem test_crc32_check : crc32 [0x31, 0x32, 0x33, 0x34, 0x35, 0x36, 0x37, 0x38, 0x39] = 0xCBF43926 := by decide +kernel
/-- The check value of the CRC-16 of the air protocol (preset 0xFFFF, complemented) for "123456789". -/
theorem test_crc16_check : crc16 (bytesBits [0x31, 0x32, 0x33, 0x34, 0x35, 0x36, 0x37, 0x38, 0x39]) = 0xD64E := by decide +kernel
/-- SHA-256 of "abc" (FIPS 180-4). -/
theorem test_sha256_abc : sha256 [0x61, 0x62, 0x63] = beBytes 32 0xBA7816BF8F01CFEA414140DE5DAE2223B00361A396177A9CB410FF61F20015AD := by decide +kernel
/-- A second after 23:59:59 on a Saturday is 00:00:00 on day 0 of the week, and the date moves (R433). -/
theorem test_next_time : nextTime 0x06235959 = (0, true) := by decide +kernel

/-! ### Hypotheses that are met -/

theorem test_HostWriteTakesEffect_meets :
    (∃ (s : State) (c : Instr) (a : Nat) (v : Word) (be : BitVec 4) (finds : KlGroupFinds), hostRow s.dev c = some (a, v, be, finds) ∧ s.dev.applies a v be = true) :=
  ⟨st up, .irqEnWrite 0x05 (full 0xF), irqEn 0x05, 0xF, 0xF#4, noFinds, by decide +kernel⟩

theorem test_HostWritesIgnoredOrWaiting_meets :
    (∃ (s : State) (c : Instr) (a : Nat) (v : Word) (be : BitVec 4) (finds : KlGroupFinds), s.dev.NoRemote ∧ hostRow s.dev c = some (a, v, be, finds) ∧ s.dev.ready a = true ∧ (s.dev.arrived a v be).writeOk (s.dev.posted a v be) = false)
    ∧ (∃ (s : State) (c : Instr) (a : Nat) (v : Word) (be : BitVec 4) (finds : KlGroupFinds), hostRow s.dev c = some (a, v, be, finds) ∧ s.dev.hostReady = false)
    ∧ (∃ (s : State) (c : Instr) (a : Nat) (v : Word) (be : BitVec 4) (finds : KlGroupFinds), hostRow s.dev c = some (a, v, be, finds) ∧ s.dev.hostReady = true ∧ s.dev.pwr.phase = .awake ∧ (s.dev.pageOff (pageOfWord a) = false ∨ offOfWord a = 2) ∧ s.dev.post.length = 32) :=
  ⟨⟨st up, .irqEnWrite 0x05 {value := 0xF, be := 3#4}, irqEn 0x05, 0xF, 3#4, noFinds, by decide +kernel⟩,
   ⟨st { up with bus := some (.memRead 0x0200000) }, .irqEnWrite 0x05 {value := 0xF, be := 3#4}, irqEn 0x05, 0xF, 3#4, noFinds, by decide +kernel⟩,
   ⟨st { up with post := List.replicate 32 { addr := rtcTime, value := 0, be := 0xF#4, level := 0 } }, .irqEnWrite 0x05 {value := 0xF, be := 3#4}, irqEn 0x05, 0xF, 3#4, noFinds, by decide +kernel⟩⟩

theorem test_HostWriteOfOffPage_meets :
    (∃ (s : State) (c : Instr) (a : Nat) (v : Word) (be : BitVec 4) (finds : KlGroupFinds), s.dev.NoRemote ∧ s.dev.hostReady = true ∧ hostRow s.dev c = some (a, v, be, finds) ∧ s.dev.pageOff (pageOfWord a) = true ∧ offOfWord a ≠ 2)
    ∧ (∃ (s : State) (page : Fin 256) (off : Fin 1024), s.dev.NoRemote ∧ s.dev.hostReady = true ∧ (pageKind page.val).isSome = true ∧ s.dev.pageOff page.val = true ∧ off.val ≠ 2)
    ∧ (∃ (s : State) (page : Fin 256), s.dev.NoRemote ∧ s.dev.hostReady = true ∧ (pageKind page.val).isSome = true ∧ s.dev.pageOff page.val = true ∧ s.dev.pwr.phase = .awake ∧ s.dev.post.length < 32) :=
  ⟨⟨st (up.put (fPcClkReq 0x40) 0), .txpwrWrite 0 (full 3), pathTxpwr 0, 3, 0xF#4, noFinds, by decide +kernel⟩,
   ⟨st (up.put (fPcClkReq 0x40) 0), 0x40, 1023, by decide +kernel⟩,
   ⟨st (up.put (fPcClkReq 0x40) 0), 0x40, by decide +kernel⟩⟩

theorem test_PostedWritesMove_meets :
    (∃ (s : State) (page : Fin 256) (off : Fin 1024), s.dev.NoRemote ∧ s.dev.hostReady = true ∧ s.dev.pwr.phase = .awake ∧ (pageKind page.val).isSome = true ∧ (s.dev.pageOff page.val = false ∨ off.val = 2) ∧ s.dev.post.length < 32)
    ∧ (∃ (s : State) (x : Posted), s.dev.NoRemote ∧ s.dev.bus = some (.posted x) ∧ s.dev.post.length < 32)
    ∧ (∃ (s : State) (isl : Fin 5) (before : List Posted) (after : List Posted) (x : Posted), s.dev.NoRemote ∧ s.dev.islandTakes isl.val = true ∧ s.dev.post = before ++ x :: after ∧ islandOf (pageOfWord x.addr) = isl.val ∧ (∀ y ∈ before, islandOf (pageOfWord y.addr) ≠ isl.val))
    ∧ (∃ (s : State) (page : Fin 256), s.dev.NoRemote ∧ (∀ x ∈ s.dev.post, pageOfWord x.addr ≠ page.val))
    ∧ (∃ (s : State) (page : Fin 256) (off : Fin 1024), s.dev.NoRemote ∧ (pageKind page.val).isSome = true ∧ (∀ x ∈ s.dev.post, x.addr ≠ wordAt page.val off.val) ∧ plainWord (wordAt page.val off.val) = true ∧ (isPath page.val = true → ¬ (0x24 ≤ off.val ∧ off.val < 0x28))) :=
  ⟨⟨st up, 0x08, 0x10, by decide +kernel⟩,
   ⟨st { up with bus := some (.posted { addr := rtcTime, value := 5, be := 0xF#4, level := 0 }) }, { addr := rtcTime, value := 5, be := 0xF#4, level := 0 }, by decide +kernel⟩,
   ⟨st { up with post := [{ addr := tmStart 0x0A, value := 1, be := 0xF#4, level := 0 }, { addr := rtcTime, value := 0, be := 0xF#4, level := 0 }, { addr := rtcDate, value := 5, be := 0xF#4, level := 0 }] }, 4, [{ addr := tmStart 0x0A, value := 1, be := 0xF#4, level := 0 }], [{ addr := rtcDate, value := 5, be := 0xF#4, level := 0 }], { addr := rtcTime, value := 0, be := 0xF#4, level := 0 }, by decide +kernel⟩,
   ⟨st (up.put (fPsWpend 8) 1), 8, by decide +kernel⟩,
   ⟨st (up.wr rtcTime 0x123456), 8, 0x10, by decide +kernel⟩⟩

theorem test_WindowsAndUnmapped_meets :
    (∃ (s : State), s.dev.NoRemote ∧ s.dev.hostReady = true)
    ∧ (∃ (s : State) (page : Fin 256) (off : Fin 1024), s.dev.NoRemote ∧ s.dev.hostReady = true ∧ (pageKind page.val).isSome = true ∧ s.dev.pageOff page.val = true ∧ 4 ≤ off.val)
    ∧ (∃ (s : State) (word : BitVec 24), s.dev.NoRemote ∧ s.dev.hostReady = true ∧ 0x0200000 ≤ 4 * word.toNat ∧ 4 * word.toNat < 0x0C00000 ∧ (4 * word.toNat < 0x0400000 ∨ 0x0800000 ≤ 4 * word.toNat))
    ∧ (∃ (s : State) (word : BitVec 24), s.dev.NoRemote ∧ s.dev.hostReady = true ∧ 0x0400000 ≤ 4 * word.toNat ∧ 4 * word.toNat < 0x0800000)
    ∧ (∃ (s : State) (word : BitVec 24), s.dev.NoRemote ∧ s.dev.hostReady = true ∧ 0x0200000 ≤ 4 * word.toNat ∧ 4 * word.toNat < 0x0C00000 ∧ s.dev.badAt (4 * word.toNat / 8 * 8) = false ∧ s.dev.sspm.writesPending = false)
    ∧ (∃ (s : State) (word : BitVec 24), s.dev.NoRemote ∧ s.dev.hostReady = true ∧ 0x0200000 ≤ 4 * word.toNat ∧ 4 * word.toNat < 0x0C00000 ∧ s.dev.badAt (4 * word.toNat / 8 * 8) = false ∧ s.dev.sspm.writesPending = false ∧ 4 * word.toNat < 0x0400000)
    ∧ (∃ (s : State) (word : BitVec 24), s.dev.NoRemote ∧ s.dev.hostReady = true ∧ 0x0200000 ≤ 4 * word.toNat ∧ 4 * word.toNat < 0x0C00000 ∧ s.dev.badAt (4 * word.toNat / 8 * 8) = false ∧ s.dev.sspm.writesPending = true) :=
  ⟨⟨st up, by decide +kernel⟩,
   ⟨st (up.put (fPcClkReq 0x40) 0), 0x40, 1023, by decide +kernel⟩,
   ⟨st up, 0x0080000, by decide +kernel⟩,
   ⟨st up, 0x0100000, by decide +kernel⟩,
   ⟨st { up with sram := [(0x0200000, 1), (0x0200003, 9)] }, 0x0080000, by decide +kernel⟩,
   ⟨st { up with sram := [(0x0200000, 1), (0x0200003, 9)] }, 0x0080000, by decide +kernel⟩,
   ⟨st { up with sspm := { page := some { page := 0, bytes := [(0, 1)], first := 0, last := 0 } } }, 0x0080000, by decide +kernel⟩⟩

theorem test_WaitLimitEndsAccess_meets :
    (∃ (s : State) (x : BusAccess), s.dev.NoRemote ∧ s.dev.bus = some x ∧ s.dev.get fHbusCtrlWaitLim ≠ 0)
    ∧ (∃ (s : State) (x : BusAccess), s.dev.NoRemote ∧ s.dev.bus = some x ∧ s.dev.get fHbusCtrlWaitLim = 0) :=
  ⟨⟨st { up with bus := some (.memRead 0x0200000) }, .memRead 0x0200000, by decide +kernel⟩,
   ⟨st ({ up with bus := some (.memRead 0x0200000) }.put fHbusCtrlWaitLim 0), .memRead 0x0200000, by decide +kernel⟩⟩

theorem test_SessionEnableAndShutdown_meets :
    (∃ (s : State) (n : Fin 16) (w : RegWrite), s.dev.NoRemote ∧ w.value.getLsbD 1 = false ∧ s.dev.pageInReset (0x80 + n.val) = false ∧ s.dev.applies (pageCtrl (0x80 + n.val)) ((fPcEn (0x80 + n.val)).set w.value 1) w.be = true)
    ∧ (∃ (s : State) (n : Fin 16) (w : RegWrite), s.dev.NoRemote ∧ w.value.getLsbD 1 = false ∧ s.dev.pageInReset (0x80 + n.val) = false ∧ s.dev.applies (pageCtrl (0x80 + n.val)) ((fPcEn (0x80 + n.val)).set w.value 1) w.be = true ∧ s.dev.sesState n.val = 10 ∧ s.dev.on (fPsShuttingDown (0x80 + n.val)) = true)
    ∧ (∃ (s : State) (n : Fin 16) (w : RegWrite), s.dev.NoRemote ∧ w.value.getLsbD 1 = false ∧ s.dev.pageInReset (0x80 + n.val) = false ∧ s.dev.applies (pageCtrl (0x80 + n.val)) ((fPcEn (0x80 + n.val)).set w.value 0) w.be = true ∧ s.dev.on (fPsEnq (0x80 + n.val)) = true)
    ∧ (∃ (s : State) (n : Fin 16) (w : RegWrite), s.dev.NoRemote ∧ w.value.getLsbD 1 = false ∧ s.dev.pageInReset (0x80 + n.val) = false ∧ s.dev.applies (pageCtrl (0x80 + n.val)) ((fPcEn (0x80 + n.val)).set w.value 0) w.be = true ∧ s.dev.on (fPsEnq (0x80 + n.val)) = false ∧ s.dev.on (fPcEn (0x80 + n.val)) = true ∧ s.dev.sesState n.val ≠ 0 ∧ s.dev.on (fPsShuttingDown (0x80 + n.val)) = false)
    ∧ (∃ (s : State) (n : Fin 16), s.dev.NoRemote ∧ s.dev.sesState n.val = 1 ∧ s.dev.carState (s.dev.sesCar n.val) = 0)
    ∧ (∃ (s : State) (n : Fin 16) (c : Instr), s.dev.NoRemote ∧ (c = .sessionShutdownComplete n ∨ c = .shutdownComplete (.session n)) ∧ s.dev.sesState n.val = 10 ∧ (s.dev.sess n.val).acc.running = false ∧ s.dev.sesQuiet n.val = true ∧ s.dev.man.queue = []) :=
  ⟨⟨st up, 15, full 0xC, by decide +kernel⟩,
   ⟨st ((air 15 10).put (fPsShuttingDown 0x8F) 1), 15, full 0xC, by decide +kernel⟩,
   ⟨st (((air 15 10).put (fPsShuttingDown 0x8F) 1).put (fPsEnq 0x8F) 1), 15, full 0xC, by decide +kernel⟩,
   ⟨st (air 15 4), 15, full 0xD, by decide +kernel⟩,
   ⟨st ((up.put (fPcEn 0x8F) 1).put (fPsState 0x8F) 1), 15, by decide +kernel⟩,
   ⟨st ((air 15 10).put (fPsShuttingDown 0x8F) 1), 15, .sessionShutdownComplete 15, ⟨by decide +kernel, Or.inl rfl, by decide +kernel, by decide +kernel, by decide +kernel, by decide +kernel⟩⟩⟩

theorem test_SessionEnableAndShutdown_admits_meets :
    (∃ (s : State) (n : Fin 16) (d : Device), s.dev.NoRemote ∧ s.dev.sesState n.val = 1 ∧ s.dev.carState (s.dev.sesCar n.val) ≠ 0 ∧ (s.dev.onCarrier (s.dev.sesCar n.val)).length < 4 ∧ (((s.dev.modStream n.val (fun t => { t with assigned := true })).showStreams).noiseRestart n.val true true).admitStart n.val = (true, d) ∧ ((d.zonesChanged (s.dev.sesCar n.val) n.val).groupsStale).get (fPsState (0x20 + ((d.zonesChanged (s.dev.sesCar n.val) n.val).groupsStale).get (fSesStatPilot n.val))) = 5) :=
  ⟨st ({ (((((((up.put (fPcEn 0x8F) 1).put (fPsState 0x8F) 1).put (fCarStatState 0) 6).put (fPsState 0x2F) 5).put (fPsState 0x7F) 6).modPath 63 (fun t => { t with joined := true })).put (fPathTxpwrLevel 63) 10 |>.put (fPathTxpwrNowLevel 63) 10) with profile := some profile }), 15, _, ⟨by decide +kernel, by decide +kernel, by decide +kernel, by decide +kernel, pair_of _ _ (by decide +kernel), by decide +kernel⟩⟩

theorem test_CommandsOnTheAir_meets :
    (∃ (s : State) (n : Fin 16) (c : AirCmd), s.dev.NoRemote ∧ s.dev.nextCmd n.val = some c ∧ s.dev.commitOk n.val c = true ∧ (match c with | .query .. => false | _ => true) = true)
    ∧ (∃ (s : State) (n : Fin 16) (sel : Nat) (se : Nat) (t : Nat) (q : Nat) (dr : Nat) (m : Nat) (tr : Nat), s.dev.NoRemote ∧ s.dev.nextCmd n.val = some (.query sel se t q dr m tr) ∧ s.dev.commitOk n.val (.query sel se t q dr m tr) = true)
    ∧ (∃ (s : State) (n : Fin 16), s.dev.NoRemote ∧ (s.dev.sess n.val).phase = .committed)
    ∧ (∃ (s : State) (n : Fin 16), s.dev.NoRemote ∧ (s.dev.sess n.val).phase = .sending ∧ s.dev.expects n.val = true)
    ∧ (∃ (s : State) (n : Fin 16), s.dev.NoRemote ∧ (s.dev.sess n.val).phase = .sending ∧ s.dev.expects n.val = false ∧ (s.dev.sess n.val).acc.ending = false ∧ ((s.dev.sess n.val).run = none ∨ (s.dev.sess n.val).cmd = .nak))
    ∧ (∃ (s : State) (n : Fin 16), s.dev.NoRemote ∧ (s.dev.sess n.val).phase = .sending ∧ s.dev.expects n.val = false ∧ (s.dev.sess n.val).acc.ending = true) :=
  ⟨⟨st ((air 15 4).modSes 15 (fun t => { t with plan := [.ack 5, .queryRep], round := { active := true } })), 15, .ack 5, by decide +kernel⟩,
   ⟨st ((air 15 4).modSes 15 (fun t => { t with plan := [.query 4 0 0 0 0 0 0], round := { active := true } })), 15, 4, 0, 0, 0, 0, 0, 0, by decide +kernel⟩,
   ⟨st ((air 15 4).modSes 15 (fun t => { t with phase := .committed, cmd := .ack 5 })), 15, by decide +kernel⟩,
   ⟨st ((air 15 4).modSes 15 (fun t => { t with phase := .sending, cmd := .ack 5 })), 15, by decide +kernel⟩,
   ⟨st ((air 15 4).modSes 15 (fun t => { t with phase := .sending, cmd := .nak })), 15, by decide +kernel⟩,
   ⟨st ((air 15 4).modSes 15 (fun t => { t with phase := .sending, cmd := .queryRep, run := some (desc [0x11]), acc := { ending := true } })), 15, by decide +kernel⟩⟩

theorem test_ReplyWindowsAndDetection_meets :
    (∃ (s : State) (n : Fin 16), s.dev.NoRemote ∧ (s.dev.sess n.val).phase = .waiting)
    ∧ (∃ (s : State) (n : Fin 16), s.dev.NoRemote ∧ (s.dev.sess n.val).phase = .window ∧ s.dev.delayedNow n.val = false)
    ∧ (∃ (s : State) (n : Fin 16), s.dev.NoRemote ∧ (s.dev.sess n.val).phase = .window ∧ s.dev.delayedNow n.val = true)
    ∧ (∃ (s : State) (n : Fin 16) (x : Desc) (st : AccStep) (rest : List AccStep), s.dev.NoRemote ∧ (s.dev.sess n.val).phase = .window ∧ s.dev.delayedNow n.val = true ∧ (s.dev.sess n.val).run = some x ∧ (s.dev.sess n.val).acc.steps = st :: rest ∧ (s.dev.sess n.val).acc.tries < bitsOf (s.dev.sess n.val).rxcfg 5 4)
    ∧ (∃ (s : State) (n : Fin 16) (x : Desc) (st : AccStep) (rest : List AccStep), s.dev.NoRemote ∧ (s.dev.sess n.val).phase = .window ∧ s.dev.delayedNow n.val = true ∧ (s.dev.sess n.val).run = some x ∧ (s.dev.sess n.val).acc.steps = st :: rest ∧ bitsOf (s.dev.sess n.val).rxcfg 5 4 ≤ (s.dev.sess n.val).acc.tries)
    ∧ (∃ (s : State) (n : Fin 16) (a : BitVec 16) (b : BitVec 16) (sel : Nat) (thr : Int) (setB : Bool), s.dev.NoRemote ∧ (s.dev.sess n.val).phase = .window ∧ sel = bitsOf (s.dev.sess n.val).rxcfg 3 2 ∧ thr = 25 * (bitsOf (s.dev.sess n.val).rxcfg 15 8 : Nat) ∧ ((sel ≠ 2 ∧ thr ≤ a.toInt) ∨ (sel ≠ 1 ∧ thr ≤ b.toInt)) ∧ setB = (sel = 2 || (sel != 1 && decide (a.toInt < b.toInt))))
    ∧ (∃ (s : State) (n : Fin 16) (a : BitVec 16) (b : BitVec 16) (sel : Nat) (thr : Int), s.dev.NoRemote ∧ (s.dev.sess n.val).phase = .window ∧ sel = bitsOf (s.dev.sess n.val).rxcfg 3 2 ∧ thr = 25 * (bitsOf (s.dev.sess n.val).rxcfg 15 8 : Nat) ∧ (¬((sel ≠ 2 ∧ thr ≤ a.toInt) ∨ (sel ≠ 1 ∧ thr ≤ b.toInt)))) :=
  ⟨⟨st ((air 15 4).modSes 15 (fun t => { t with phase := .waiting, cmd := .ack 5 })), 15, by decide +kernel⟩,
   ⟨st ((air 15 4).modSes 15 (fun t => { t with phase := .window, cmd := .ack 5 })), 15, by decide +kernel⟩,
   ⟨st ((air 15 4).modSes 15 (fun t => { t with phase := .window, run := some (desc [0x11, 0, 0, 0, 1]), acc := { running := true, steps := [.op], handle := some 7, cover := 3, tries := 0 }, rxcfg := 0x2810 })), 15, by decide +kernel⟩,
   ⟨st ((air 15 4).modSes 15 (fun t => { t with phase := .window, run := some (desc [0x11, 0, 0, 0, 1]), acc := { running := true, steps := [.op], handle := some 7, cover := 3, tries := 0 }, rxcfg := 0x2810 })), 15, desc [0x11, 0, 0, 0, 1], .op, [], by decide +kernel⟩,
   ⟨st ((air 15 4).modSes 15 (fun t => { t with phase := .window, run := some (desc [0x11, 0, 0, 0, 1]), acc := { running := true, steps := [.op], handle := some 7, cover := 3, tries := 1 }, rxcfg := 0x2810 })), 15, desc [0x11, 0, 0, 0, 1], .op, [], by decide +kernel⟩,
   ⟨st ((air 15 4).modSes 15 (fun t => { t with phase := .window, rxcfg := 0x2810, cmd := .ack 5 })), 15, 1000, 999, 0, 1000, false, by decide +kernel⟩,
   ⟨st ((air 15 4).modSes 15 (fun t => { t with phase := .window, rxcfg := 0x2810, cmd := .ack 5 })), 15, 999, 0x8000, 0, 1000, by decide +kernel⟩⟩

theorem test_SlotsAndAcknowledgedTags_meets :
    (∃ (s : State) (n : Fin 16), s.dev.NoRemote ∧ (s.dev.sess n.val).acc.running = false ∧ (s.dev.sess n.val).cmd.opens = true ∧ (s.dev.sess n.val).phase = .closed ∧ s.dev.sesState n.val ≠ 8)
    ∧ (∃ (s : State) (n : Fin 16), s.dev.NoRemote ∧ (s.dev.sess n.val).acc.running = false ∧ (s.dev.sess n.val).cmd.opens = true ∧ (s.dev.sess n.val).phase = .receiving)
    ∧ (∃ (s : State) (n : Fin 16) (r : Reply), s.dev.NoRemote ∧ (s.dev.sess n.val).acc.running = false ∧ (s.dev.sess n.val).cmd.opens = true ∧ (s.dev.sess n.val).phase = .receiving ∧ (r.coded && r.bits.length = 16) = false)
    ∧ (∃ (s : State) (n : Fin 16) (r : Reply), s.dev.NoRemote ∧ (s.dev.sess n.val).acc.running = false ∧ (s.dev.sess n.val).cmd.opens = true ∧ (s.dev.sess n.val).phase = .receiving ∧ r.coded = true ∧ r.bits.length = 16 ∧ 8 ≤ s.dev.mFree n.val ∧ (s.dev.sess n.val).holds = [] ∧ s.dev.on (fSesBerthFreeze n.val) = false)
    ∧ (∃ (s : State) (n : Fin 16) (r : Reply) (rn : Nat), s.dev.NoRemote ∧ (s.dev.sess n.val).acc.running = false ∧ (s.dev.sess n.val).cmd = .ack rn ∧ (s.dev.sess n.val).phase = .receiving ∧ r.coded = true ∧ (parseEpc r.bits).isSome = true ∧ crcHolds r.bits = true)
    ∧ (∃ (s : State) (n : Fin 16) (r : Reply) (rn : Nat), s.dev.NoRemote ∧ (s.dev.sess n.val).acc.running = false ∧ (s.dev.sess n.val).cmd = .ack rn ∧ (s.dev.sess n.val).phase = .receiving ∧ r.coded = false ∧ (s.dev.sess n.val).retry < bitsOf (s.dev.sess n.val).rxcfg 5 4 ∧ s.dev.sesState n.val ≠ 8) :=
  ⟨⟨st ((air 15 4).modSes 15 (fun t => { t with phase := .closed, cmd := .queryRep, round := { active := true } , qfp := 64 })), 15, by decide +kernel⟩,
   ⟨st ((air 15 4).modSes 15 (fun t => { t with phase := .receiving, cmd := .queryRep, round := { active := true } , qfp := 64 })), 15, by decide +kernel⟩,
   ⟨st ((air 15 4).modSes 15 (fun t => { t with phase := .receiving, cmd := .queryRep, round := { active := true } , qfp := 64 })), 15, { reply (natBits 16 5) with coded := false }, by decide +kernel⟩,
   ⟨st ((air 15 4).modSes 15 (fun t => { t with phase := .receiving, cmd := .queryRep, round := { active := true } , qfp := 64 })), 15, reply (natBits 16 0x1234), by decide +kernel⟩,
   ⟨st ((air 15 4).modSes 15 (fun t => { t with phase := .receiving, cmd := .ack 0x1234, run := some (desc [0x10]), round := { active := true } , qfp := 64 })), 15, reply epcBits, 0x1234, by decide +kernel⟩,
   ⟨st ((air 15 4).modSes 15 (fun t => { t with phase := .receiving, cmd := .ack 0x1234, run := some (desc [0x10]), round := { active := true } , qfp := 64, rxcfg := 0x2810 })), 15, { reply epcBits with coded := false }, 0x1234, by decide +kernel⟩⟩

theorem test_RoundsAndAccessSequences_meets :
    (∃ (s : State) (n : Fin 16) (x : Desc) (plan : List AirCmd), s.dev.NoRemote ∧ (s.dev.sess n.val).run = some x ∧ (s.dev.sess n.val).round.active = false ∧ (s.dev.sess n.val).holds = [] ∧ s.dev.roundDue n.val x = true ∧ s.dev.sesQuiet n.val = true ∧ s.dev.carState (s.dev.sesCar n.val) = 6 ∧ (s.dev.hasTurn n.val = true ∨ s.dev.alone n.val = true) ∧ s.dev.roundPlan n.val x = some plan ∧ s.dev.sesState n.val ≠ 3)
    ∧ (∃ (s : State) (n : Fin 16) (x : Desc), s.dev.NoRemote ∧ (s.dev.sess n.val).run = some x ∧ s.dev.roundOver n.val = true ∧ s.dev.sesQuiet n.val = true ∧ (s.dev.sess n.val).acc.running = false ∧ (s.dev.sess n.val).acc.ready = false ∧ 4 ≤ s.dev.sesState n.val ∧ s.dev.sesState n.val ≤ 8)
    ∧ (∃ (s : State) (n : Fin 16) (x : Desc), s.dev.NoRemote ∧ (s.dev.sess n.val).run = some x ∧ (s.dev.sess n.val).acc.ready = true ∧ (s.dev.sess n.val).holds = [] ∧ s.dev.man.queue = [])
    ∧ (∃ (s : State) (n : Fin 16) (x : Desc) (r : Reply) (st : AccStep) (rest : List AccStep), s.dev.NoRemote ∧ (s.dev.sess n.val).run = some x ∧ (s.dev.sess n.val).phase = .receiving ∧ (s.dev.sess n.val).acc.running = true ∧ (s.dev.sess n.val).acc.steps = .handle :: st :: rest ∧ r.coded = true ∧ r.bits.length = 32 ∧ crcHolds r.bits = true)
    ∧ (∃ (s : State) (n : Fin 16) (x : Desc) (r : Reply) (st : AccStep) (rest : List AccStep), s.dev.NoRemote ∧ (s.dev.sess n.val).run = some x ∧ (s.dev.sess n.val).phase = .receiving ∧ (s.dev.sess n.val).acc.running = true ∧ (s.dev.sess n.val).acc.steps = st :: rest ∧ r.coded = false ∧ (s.dev.sess n.val).acc.tries < bitsOf (s.dev.sess n.val).rxcfg 5 4) :=
  ⟨⟨st ((air 15 4).modSes 15 (fun t => { t with run := some (desc [0x10]) })), 15, desc [0x10], [.query 4 0 0 0 0 0 0], by decide +kernel⟩,
   ⟨st (((air 15 4).modSes 15 (fun t => { t with run := some (desc [0x10]), slots := 1, round := { active := true } }))), 15, desc [0x10], by decide +kernel⟩,
   ⟨st ((air 15 4).modSes 15 (fun t => { t with run := some (desc [0x11, 0, 0, 0, 1]), acc := { ready := true } })), 15, desc [0x11, 0, 0, 0, 1], by decide +kernel⟩,
   ⟨st ((air 15 4).modSes 15 (fun t => { t with phase := .receiving, cmd := .reqRn 5, run := some (desc [0x11, 0, 0, 0, 1]), acc := { running := true, steps := [.handle, .cover, .op] }, rxcfg := 0x2810 })), 15, desc [0x11, 0, 0, 0, 1], reply (crcd (natBits 16 0xABCD)), .cover, [.op], by decide +kernel⟩,
   ⟨st ((air 15 4).modSes 15 (fun t => { t with phase := .receiving, cmd := .reqRn 5, run := some (desc [0x11, 0, 0, 0, 1]), acc := { running := true, steps := [.handle, .cover, .op] }, rxcfg := 0x2810 })), 15, desc [0x11, 0, 0, 0, 1], { reply [] with coded := false }, .handle, [.cover, .op], by decide +kernel⟩⟩

theorem test_HoldsAndTriggers_meets :
    (∃ (s : State) (n : Fin 16), s.dev.NoRemote ∧ s.dev.holdDue n.val = true ∧ (s.dev.sess n.val).stop = none)
    ∧ (∃ (s : State) (n : Fin 16), s.dev.NoRemote ∧ s.dev.sesState n.val = 8 ∧ (s.dev.sess n.val).holds = [] ∧ ((s.dev.sess n.val).prev = 1 ∨ (s.dev.sess n.val).prev = 2))
    ∧ (∃ (s : State) (n : Fin 16) (x : Desc), s.dev.NoRemote ∧ s.dev.sesState n.val = 8 ∧ (s.dev.sess n.val).holds = [] ∧ 3 ≤ (s.dev.sess n.val).prev ∧ (s.dev.sess n.val).prev < 8 ∧ (s.dev.sess n.val).run = some x ∧ (s.dev.sess n.val).round.waits = false)
    ∧ (∃ (s : State), s.dev.NoRemote ∧ s.dev.cal.slack = .called ∧ s.dev.enabledSes.all s.dev.sesHeld = true)
    ∧ (∃ (s : State), s.dev.NoRemote ∧ s.dev.cal.slack = .running)
    ∧ (∃ (s : State) (k : Fin 4) (high : Bool), s.dev.NoRemote ∧ s.dev.on ⟨pinsLevels, k.val, k.val⟩ ≠ high) :=
  ⟨⟨st ((air 15 4).modSes 15 (fun t => { t with holds := [5, 2], run := some (desc [0x10]) })), 15, by decide +kernel⟩,
   ⟨st ((air 15 8).modSes 15 (fun t => { t with prev := 1 })), 15, by decide +kernel⟩,
   ⟨st ((air 15 8).modSes 15 (fun t => { t with prev := 7, run := some (desc [0x14]) })), 15, desc [0x14], by decide +kernel⟩,
   ⟨st { air 15 8 with cal := { slack := .called } }, by decide +kernel⟩,
   ⟨st { (air 15 8).modSes 15 (fun t => { t with holds := [2] }) with cal := { slack := .running } }, by decide +kernel⟩,
   ⟨st (((air 15 4).put (fSesTrigEn 15) 1).put (fSesTrigSrc 15) 3), 3, true, by decide +kernel⟩⟩

theorem test_WaitingMessagesEnterTheRing_meets :
    (∃ (s : State) (n : Fin 16) (m : List Byte) (rest : List (List Byte)) (k : Nat), s.dev.NoRemote ∧ (s.dev.sess n.val).waiting = m :: rest ∧ m.length = 64 * k ∧ k ≤ s.dev.mFree n.val)
    ∧ (∃ (s : State) (n : Fin 16) (m : List Byte) (rest : List (List Byte)), s.dev.NoRemote ∧ (s.dev.sess n.val).waiting = m :: rest ∧ s.dev.mFree n.val < m.length / 64)
    ∧ (∃ (s : State) (n : Fin 16) (m : List Byte) (k : Nat), s.dev.NoRemote ∧ (s.dev.sess n.val).waiting = [m] ∧ m.length = 64 * k ∧ k ≤ s.dev.mFree n.val)
    ∧ (∃ (s : State) (n : Fin 16) (c : Instr), s.dev.NoRemote ∧ (c = .messageWrite n ∨ c = .waitingMessageRelease n) ∧ (s.dev.sess n.val).waiting = [] ∧ (s.dev.sess n.val).need ≤ s.dev.mFree n.val) :=
  ⟨⟨st ((air 15 4).modSes 15 (fun t => { t with waiting := [List.replicate 64 7, List.replicate 128 9] })), 15, List.replicate 64 7, [List.replicate 128 9], 1, by decide +kernel⟩,
   ⟨st (((air 15 4).modSes 15 (fun t => { t with waiting := [List.replicate 64 7, List.replicate 128 9] })).wr (ringMtail 15) 1024), 15, List.replicate 64 7, [List.replicate 128 9], by decide +kernel⟩,
   ⟨st ((air 15 4).modSes 15 (fun t => { t with waiting := [List.replicate 64 7] })), 15, List.replicate 64 7, 1, by decide +kernel⟩,
   ⟨st ((air 15 4).modSes 15 (fun t => { t with need := 2, holds := [3] })), 15, .messageWrite 15, by decide +kernel⟩⟩

theorem test_DescriptorsAreTakenAndAct_meets :
    (∃ (s : State) (n : Fin 16) (find : DescFind) (x : Desc), s.dev.NoRemote ∧ s.dev.takeOk n.val = true ∧ find.corrected = 0 ∧ find.lost = 0 ∧ (∀ k : Fin 4, s.dev.badAt (s.dev.cSlotAddr n.val (s.dev.index (ringChead n.val)) + 8 * k.val) = false) ∧ x = s.dev.headDesc n.val ∧ (x.check s.dev.level).1 = 0 ∧ x.byte 0 ≤ 0x16 ∧ s.dev.joinsRun n.val x = false)
    ∧ (∃ (s : State) (n : Fin 16) (find : DescFind) (x : Desc), s.dev.NoRemote ∧ s.dev.takeOk n.val = true ∧ find.corrected = 0 ∧ find.lost = 0 ∧ (∀ k : Fin 4, s.dev.badAt (s.dev.cSlotAddr n.val (s.dev.index (ringChead n.val)) + 8 * k.val) = false) ∧ x = s.dev.headDesc n.val ∧ (x.check s.dev.level).1 = 0 ∧ s.dev.joinsRun n.val x = true)
    ∧ (∃ (s : State) (n : Fin 16) (find : DescFind) (x : Desc) (c : Nat) (k : Nat), s.dev.NoRemote ∧ s.dev.takeOk n.val = true ∧ find.corrected = 0 ∧ find.lost = 0 ∧ (∀ k : Fin 4, s.dev.badAt (s.dev.cSlotAddr n.val (s.dev.index (ringChead n.val)) + 8 * k.val) = false) ∧ x = s.dev.headDesc n.val ∧ x.check s.dev.level = (c, k) ∧ c ≠ 0 ∧ s.dev.takesMsg n.val 1)
    ∧ (∃ (s : State) (n : Fin 16) (find : DescFind) (x : Desc), s.dev.NoRemote ∧ s.dev.takeOk n.val = true ∧ find.corrected = 0 ∧ find.lost = 0 ∧ (∀ k : Fin 4, s.dev.badAt (s.dev.cSlotAddr n.val (s.dev.index (ringChead n.val)) + 8 * k.val) = false) ∧ x = s.dev.headDesc n.val)
    ∧ (∃ (s : State) (n : Fin 16) (find : DescFind) (x : Desc) (y : Desc), s.dev.NoRemote ∧ s.dev.takeOk n.val = true ∧ find.corrected = 0 ∧ find.lost = 0 ∧ (∀ k : Fin 4, s.dev.badAt (s.dev.cSlotAddr n.val (s.dev.index (ringChead n.val)) + 8 * k.val) = false) ∧ x = s.dev.headDesc n.val ∧ (x.check s.dev.level).1 = 0 ∧ x.byte 1 < 128 ∧ x.byte 0 = 0x17 ∧ x.byte 4 = 0 ∧ (s.dev.sess n.val).run = some y)
    ∧ (∃ (s : State) (n : Fin 16) (find : DescFind) (x : Desc) (y : Desc), s.dev.NoRemote ∧ s.dev.takeOk n.val = true ∧ find.corrected = 0 ∧ find.lost = 0 ∧ (∀ k : Fin 4, s.dev.badAt (s.dev.cSlotAddr n.val (s.dev.index (ringChead n.val)) + 8 * k.val) = false) ∧ x = s.dev.headDesc n.val ∧ (x.check s.dev.level).1 = 0 ∧ x.byte 1 < 128 ∧ x.byte 0 = 0x17 ∧ x.byte 4 = 1 ∧ (s.dev.sess n.val).run = some y)
    ∧ (∃ (s : State) (n : Fin 16) (find : DescFind) (x : Desc), s.dev.NoRemote ∧ s.dev.takeOk n.val = true ∧ find.corrected = 0 ∧ find.lost = 0 ∧ (∀ k : Fin 4, s.dev.badAt (s.dev.cSlotAddr n.val (s.dev.index (ringChead n.val)) + 8 * k.val) = false) ∧ x = s.dev.headDesc n.val ∧ (x.check s.dev.level).1 = 0 ∧ x.byte 1 < 128 ∧ x.byte 0 = 0x18 ∧ (x.byte 4).testBit 0 = true ∧ s.dev.mUsed n.val ≠ 0)
    ∧ (∃ (s : State) (n : Fin 16) (find : DescFind) (x : Desc), s.dev.NoRemote ∧ s.dev.takeOk n.val = true ∧ find.corrected = 0 ∧ find.lost = 0 ∧ (∀ k : Fin 4, s.dev.badAt (s.dev.cSlotAddr n.val (s.dev.index (ringChead n.val)) + 8 * k.val) = false) ∧ x = s.dev.headDesc n.val ∧ (x.check s.dev.level).1 = 0 ∧ x.byte 1 < 128 ∧ x.byte 0 = 0x18 ∧ ((x.byte 4).testBit 0 = false ∨ s.dev.mUsed n.val = 0))
    ∧ (∃ (s : State) (n : Fin 16) (find : DescFind) (x : Desc), s.dev.NoRemote ∧ s.dev.takeOk n.val = true ∧ find.corrected = 0 ∧ find.lost = 0 ∧ (∀ k : Fin 4, s.dev.badAt (s.dev.cSlotAddr n.val (s.dev.index (ringChead n.val)) + 8 * k.val) = false) ∧ x = s.dev.headDesc n.val ∧ (x.check s.dev.level).1 = 0 ∧ x.byte 1 < 128 ∧ x.byte 0 = 0x19 ∧ x.chained = false ∧ (x.byte 4).testBit 7 = false)
    ∧ (∃ (s : State) (n : Fin 16) (find : DescFind) (x : Desc), s.dev.NoRemote ∧ s.dev.takeOk n.val = true ∧ find.corrected = 0 ∧ find.lost = 0 ∧ (∀ k : Fin 4, s.dev.badAt (s.dev.cSlotAddr n.val (s.dev.index (ringChead n.val)) + 8 * k.val) = false) ∧ x = s.dev.headDesc n.val ∧ (x.check s.dev.level).1 = 0 ∧ x.byte 1 < 128 ∧ x.byte 0 = 0x19 ∧ x.chained = false ∧ (x.byte 4).testBit 7 = true)
    ∧ (∃ (s : State) (n : Fin 16) (x : Desc) (t : Nat), s.dev.NoRemote ∧ (s.dev.sess n.val).fence = some (x, t) ∧ x.byte 1 < 128 ∧ ringUsed (s.dev.index (ringMtail n.val)) (s.dev.index (ringMhead n.val)) ≤ ringUsed (s.dev.index (ringMtail n.val)) t)
    ∧ (∃ (s : State) (n : Fin 16) (x : Desc) (t : Nat), s.dev.NoRemote ∧ (s.dev.sess n.val).fence = some (x, t) ∧ ringUsed (s.dev.index (ringMtail n.val)) t < ringUsed (s.dev.index (ringMtail n.val)) (s.dev.index (ringMhead n.val)))
    ∧ (∃ (s : State), s.dev.NoRemote) :=
  ⟨⟨st (ringed (air 15 2) 15 [0x10, 7, 5, 0, 1]), 15, { corrected := 0, lost := 0 }, head [0x10, 7, 5, 0, 1], by decide +kernel⟩,
   ⟨st (ringed ((air 15 5).modSes 15 (fun t => { t with run := some (desc [0x11, 0, 0, 0, 0, 0, 0, 0, 0, 0, 0, 0, 0, 0, 0, 0, 0, 0, 0, 0, 0, 0, 0, 0, 0, 0, 0, 0, 0, 1]) })) 15 [0x11, 8, 7, 0, 0, 0, 0, 0, 0, 0, 1, 0, 0, 0, 0, 0, 0, 0, 0, 0, 0, 0, 0, 0, 0, 0, 0, 0, 0, 1]), 15, { corrected := 0, lost := 0 }, head [0x11, 8, 7, 0, 0, 0, 0, 0, 0, 0, 1, 0, 0, 0, 0, 0, 0, 0, 0, 0, 0, 0, 0, 0, 0, 0, 0, 0, 0, 1], by decide +kernel⟩,
   ⟨st (ringed (air 15 2) 15 [0x09]), 15, { corrected := 0, lost := 0 }, head [0x09], 1, 0, by decide +kernel⟩,
   ⟨st (ringed (air 15 2) 15 [0x10, 7, 5, 0, 1]), 15, { corrected := 0, lost := 0 }, head [0x10, 7, 5, 0, 1], by decide +kernel⟩,
   ⟨st (ringed ((air 15 4).modSes 15 (fun t => { t with run := some (desc [0x10]) })) 15 [0x17, 0]), 15, { corrected := 0, lost := 0 }, head [0x17, 0], desc [0x10], by decide +kernel⟩,
   ⟨st (ringed ((air 15 4).modSes 15 (fun t => { t with run := some (desc [0x10]) })) 15 [0x17, 0, 0, 0, 1]), 15, { corrected := 0, lost := 0 }, head [0x17, 0, 0, 0, 1], desc [0x10], by decide +kernel⟩,
   ⟨st (ringed (((air 15 2).wr (ringMtail 15) 5)) 15 [0x18, 0, 0, 0, 1]), 15, { corrected := 0, lost := 0 }, head [0x18, 0, 0, 0, 1], by decide +kernel⟩,
   ⟨st (ringed (air 15 2) 15 [0x18, 0, 0, 0, 1]), 15, { corrected := 0, lost := 0 }, head [0x18, 0, 0, 0, 1], by decide +kernel⟩,
   ⟨st (ringed (air 15 2) 15 [0x19, 0, 0, 0, 7, 1, 2, 3, 32, 0, 0, 0, 16, 0, 0, 0, 0xE2, 0x11]), 15, { corrected := 0, lost := 0 }, head [0x19, 0, 0, 0, 7, 1, 2, 3, 32, 0, 0, 0, 16, 0, 0, 0, 0xE2, 0x11], by decide +kernel⟩,
   ⟨st (ringed (air 15 2) 15 [0x19, 0, 0, 0, 0x87]), 15, { corrected := 0, lost := 0 }, head [0x19, 0, 0, 0, 0x87], by decide +kernel⟩,
   ⟨st ((((air 15 2).modSes 15 (fun t => { t with fence := some (desc [0x18, 0, 0, 0, 1], 5) })).wr (ringMtail 15) 5).wr (ringMhead 15) 5), 15, desc [0x18, 0, 0, 0, 1], 5, by decide +kernel⟩,
   ⟨st (((air 15 2).modSes 15 (fun t => { t with fence := some (desc [0x18, 0, 0, 0, 1], 5) })).wr (ringMtail 15) 5), 15, desc [0x18, 0, 0, 0, 1], 5, by decide +kernel⟩,
   ⟨st ((air 15 2).modSes 15 (fun t => { t with descs := [desc [0x10, 7], desc [0x10, 0]] })), by decide +kernel⟩⟩

theorem test_DescriptorsStart_meets :
    (∃ (s : State) (n : Fin 16) (c : Instr) (x : Desc), s.dev.NoRemote ∧ (s.dev.sess n.val).run = none ∧ s.dev.startNext n.val = some x ∧ (c = .inventory n ∨ c = .descriptorStart n) ∧ x.byte 0 = 0x10 ∧ s.dev.on (fSesTrigEn n.val) = false)
    ∧ (∃ (s : State) (n : Fin 16) (c : Instr) (x : Desc), s.dev.NoRemote ∧ (s.dev.sess n.val).run = none ∧ s.dev.startNext n.val = some x ∧ (c = .inventory n ∨ c = .descriptorStart n) ∧ x.byte 0 = 0x10 ∧ s.dev.on (fSesTrigEn n.val) = true ∧ (s.dev.on (fSesTrigPending n.val) = false ∨ s.dev.sesState n.val = 2))
    ∧ (∃ (s : State) (n : Fin 16) (c : Instr) (x : Desc), s.dev.NoRemote ∧ (s.dev.sess n.val).run = none ∧ s.dev.startNext n.val = some x ∧ (c = .access n ∨ c = .descriptorStart n) ∧ x.byte 0 = 0x11 ∧ x.chained = false ∧ s.dev.precheck n.val x = 0)
    ∧ (∃ (s : State) (n : Fin 16) (c : Instr) (x : Desc), s.dev.NoRemote ∧ (s.dev.sess n.val).run = none ∧ s.dev.startNext n.val = some x ∧ (c = .access n ∨ c = .template n ∨ c = .descriptorStart n) ∧ ((c = .access n ∧ x.byte 0 = 0x11) ∨ (c = .template n ∧ x.byte 0 = 0x12) ∨ (c = .descriptorStart n ∧ x.accessLike = true)) ∧ (x.chained = true ∨ s.dev.precheck n.val x ≠ 0))
    ∧ (∃ (s : State) (n : Fin 16) (c : Instr) (x : Desc), s.dev.NoRemote ∧ (s.dev.sess n.val).run = none ∧ s.dev.startNext n.val = some x ∧ (c = .template n ∨ c = .descriptorStart n) ∧ x.byte 0 = 0x12 ∧ x.chained = false ∧ s.dev.precheck n.val x = 0)
    ∧ (∃ (s : State) (n : Fin 16) (c : Instr) (x : Desc), s.dev.NoRemote ∧ (s.dev.sess n.val).run = none ∧ s.dev.startNext n.val = some x ∧ (c = .beam n ∨ c = .descriptorStart n) ∧ x.byte 0 = 0x13 ∧ x.byte 4 ≠ 0 ∧ x.byte 5 = 0 ∧ (entryFlags (s.dev.wtEntry (x.le 6 2))).testBit 7 = true ∧ (entryFlags (s.dev.wtEntry (x.le 6 2))).testBit 1 = true)
    ∧ (∃ (s : State) (n : Fin 16) (c : Instr) (x : Desc), s.dev.NoRemote ∧ (s.dev.sess n.val).run = none ∧ s.dev.startNext n.val = some x ∧ (c = .beam n ∨ c = .descriptorStart n) ∧ x.byte 0 = 0x13 ∧ x.byte 5 = 0 ∧ (entryFlags (s.dev.wtEntry (x.le 6 2))).testBit 7 = false)
    ∧ (∃ (s : State) (n : Fin 16) (c : Instr) (x : Desc), s.dev.NoRemote ∧ (s.dev.sess n.val).run = none ∧ s.dev.startNext n.val = some x ∧ (c = .survey n ∨ c = .descriptorStart n) ∧ x.byte 0 = 0x14 ∧ x.started = true)
    ∧ (∃ (s : State) (n : Fin 16) (c : Instr) (x : Desc), s.dev.NoRemote ∧ (s.dev.sess n.val).run = none ∧ s.dev.startNext n.val = some x ∧ (c = .snapshot n ∨ c = .descriptorStart n) ∧ x.byte 0 = 0x15 ∧ x.byte 4 = 0)
    ∧ (∃ (s : State) (n : Fin 16) (c : Instr) (x : Desc), s.dev.NoRemote ∧ (s.dev.sess n.val).run = none ∧ s.dev.startNext n.val = some x ∧ (c = .noise n ∨ c = .descriptorStart n) ∧ x.byte 0 = 0x16) :=
  ⟨⟨st ((air 15 2).modSes 15 (fun t => { t with descs := [{ desc [0x10, 7] with started := false }, { desc [0x16, 0, 0, 0, 1] with index := 1 }] })), 15, .inventory 15, { desc [0x10, 7] with started := false }, by decide +kernel⟩,
   ⟨st (((air 15 2).modSes 15 (fun t => { t with descs := [{ desc [0x10, 7] with started := false }, { desc [0x16, 0, 0, 0, 1] with index := 1 }] })).put (fSesTrigEn 15) 1), 15, .inventory 15, { desc [0x10, 7] with started := false }, by decide +kernel⟩,
   ⟨st ((air 15 2).modSes 15 (fun t => { t with descs := [{ desc [0x11, 6, 0, 0, 0, 0, 0, 0, 0, 0, 1, 0, 0, 0, 0, 0, 0, 0, 0, 0, 0, 0, 0, 0, 0, 0, 0, 0, 0, 1] with started := false }, { desc [0x16, 0, 0, 0, 1] with index := 1 }] })), 15, .access 15, { desc [0x11, 6, 0, 0, 0, 0, 0, 0, 0, 0, 1, 0, 0, 0, 0, 0, 0, 0, 0, 0, 0, 0, 0, 0, 0, 0, 0, 0, 0, 1] with started := false }, by decide +kernel⟩,
   ⟨st ((air 15 2).modSes 15 (fun t => { t with descs := [{ desc [0x11, 14, 0, 0, 0, 0, 0, 0, 0, 0, 1, 0, 0, 0, 0, 0, 0, 0, 0, 0, 0, 0, 0, 0, 0, 0, 0, 0, 0, 1] with started := false }, { desc [0x16, 0, 0, 0, 1] with index := 1 }] })), 15, .access 15, { desc [0x11, 14, 0, 0, 0, 0, 0, 0, 0, 0, 1, 0, 0, 0, 0, 0, 0, 0, 0, 0, 0, 0, 0, 0, 0, 0, 0, 0, 0, 1] with started := false }, by decide +kernel⟩,
   ⟨st ((((air 15 2).modSes 15 (fun t => { t with descs := [{ desc [0x12, 6, 0, 0, 1, 0] with started := false }, { desc [0x16, 0, 0, 0, 1] with index := 1 }] })).wr (sesTpl 15 32) 0x00080001).wr (sesTpl 15 33) 0), 15, .template 15, { desc [0x12, 6, 0, 0, 1, 0] with started := false }, by decide +kernel⟩,
   ⟨st (tabled ((air 15 2).modSes 15 (fun t => { t with descs := [{ desc [0x13, 7, 0, 0, 3] with started := false }, { desc [0x16, 0, 0, 0, 1] with index := 1 }] }))), 15, .beam 15, { desc [0x13, 7, 0, 0, 3] with started := false }, by decide +kernel⟩,
   ⟨st ((air 15 2).modSes 15 (fun t => { t with descs := [{ desc [0x13, 7, 0, 0, 3] with started := false }, { desc [0x16, 0, 0, 0, 1] with index := 1 }] })), 15, .beam 15, { desc [0x13, 7, 0, 0, 3] with started := false }, by decide +kernel⟩,
   ⟨st ((air 15 2).modSes 15 (fun t => { t with descs := [{ desc [0x14, 7, 0, 0, 0, 0, 0, 0, 0, 0, 0, 0, 2, 2, 3] with sector := 2, rounds := 1 }] })), 15, .survey 15, { desc [0x14, 7, 0, 0, 0, 0, 0, 0, 0, 0, 0, 0, 2, 2, 3] with sector := 2, rounds := 1 }, by decide +kernel⟩,
   ⟨st ((air 15 2).modSes 15 (fun t => { t with descs := [{ desc [0x15, 7, 0, 0, 0, 0, 1] with started := false }, { desc [0x16, 0, 0, 0, 1] with index := 1 }] })), 15, .snapshot 15, { desc [0x15, 7, 0, 0, 0, 0, 1] with started := false }, by decide +kernel⟩,
   ⟨st ((air 15 2).modSes 15 (fun t => { t with descs := [{ desc [0x16, 7, 0, 0, 1] with started := false }, { desc [0x16, 0, 0, 0, 1] with index := 1 }] })), 15, .noise 15, { desc [0x16, 7, 0, 0, 1] with started := false }, by decide +kernel⟩⟩

theorem test_MeasuringDescriptors_meets :
    (∃ (s : State) (n : Fin 16) (x : Desc), s.dev.NoRemote ∧ (s.dev.sess n.val).run = some x ∧ x.byte 0 = 0x15 ∧ s.dev.sesState n.val = 7 ∧ x.started = false ∧ x.le 8 8 ≤ s.dev.stamp)
    ∧ (∃ (s : State) (n : Fin 16) (x : Desc) (samples : List Word), s.dev.NoRemote ∧ (s.dev.sess n.val).run = some x ∧ x.byte 0 = 0x15 ∧ x.byte 4 = 0 ∧ x.started = true ∧ s.dev.sesState n.val = 7 ∧ samples.length = 64 * x.le 6 2 ∧ x.le 6 2 ≤ 1024 ∧ s.dev.takesMsg n.val 1)
    ∧ (∃ (s : State) (n : Fin 16) (x : Desc), s.dev.NoRemote ∧ (s.dev.sess n.val).run = some x ∧ x.byte 0 = 0x16 ∧ s.dev.sesState n.val = 7 ∧ s.dev.takesMsg n.val 4)
    ∧ (∃ (s : State) (n : Fin 16) (x : Desc) (az : Int) (el : Int) (d1 : Device) (d2 : Device) (d3 : Device), s.dev.NoRemote ∧ (s.dev.sess n.val).run = some x ∧ x.byte 0 = 0x14 ∧ s.dev.sesState n.val = 7 ∧ x.started = true ∧ (s.dev.sess n.val).round.active = false ∧ x.le 14 2 ≤ x.rounds ∧ (s.dev.sess n.val).sectorsOver = false ∧ (s.dev.sess n.val).holds = [] ∧ s.dev.sesQuiet n.val = true ∧ x.sector + 1 < x.byte 12 * x.byte 13 ∧ s.dev.sectorAngle (x.s16 4) (x.s16 6) (x.byte 12) ((x.sector + 1) % max 1 (x.byte 12)) = (az, d1) ∧ d1.sectorAngle (x.s16 8) (x.s16 10) (x.byte 13) ((x.sector + 1) / max 1 (x.byte 12)) = (el, d2) ∧ d2.askSteered n.val az el = (true, d3))
    ∧ (∃ (s : State) (n : Fin 16) (x : Desc), s.dev.NoRemote ∧ (s.dev.sess n.val).run = some x ∧ x.byte 0 = 0x14 ∧ s.dev.sesState n.val = 7 ∧ x.started = true ∧ (s.dev.sess n.val).round.active = false ∧ x.le 14 2 ≤ x.rounds ∧ (s.dev.sess n.val).sectorsOver = false ∧ (s.dev.sess n.val).holds = [] ∧ s.dev.sesQuiet n.val = true ∧ x.byte 12 * x.byte 13 ≤ x.sector + 1 ∧ (s.dev.sess n.val).prior = none)
    ∧ (∃ (s : State) (n : Fin 16) (m : Fin 16), s.dev.NoRemote ∧ s.dev.alone n.val = false ∧ s.dev.hasTurn n.val = true ∧ s.dev.get fSchedCtrlTurnSlots ≤ (s.dev.sess n.val).turnSlots ∧ (s.dev.sess n.val).acc.running = false ∧ s.dev.sesQuiet n.val = true ∧ (s.dev.modSes n.val (fun t => { t with turnEnd := s.dev.stamp })).nextTurn (s.dev.turnClaims n.val) = some m.val) :=
  ⟨⟨st ((air 15 7).modSes 15 (fun t => { t with run := some { desc [0x15, 0, 3, 0, 0, 0, 1] with started := false } })), 15, { desc [0x15, 0, 3, 0, 0, 0, 1] with started := false }, by decide +kernel⟩,
   ⟨st ((air 15 7).modSes 15 (fun t => { t with run := some (desc [0x15, 0, 3, 0, 0, 0, 1]) })), 15, desc [0x15, 0, 3, 0, 0, 0, 1], (List.range 64).map (fun k => BitVec.ofNat 32 (k + 1)), by decide +kernel⟩,
   ⟨st ((air 15 7).modSes 15 (fun t => { t with run := some (desc [0x16, 0, 3, 0, 1, 0, 0]) })), 15, desc [0x16, 0, 3, 0, 1, 0, 0], by decide +kernel⟩,
   ⟨st (ruled ((air 15 7).modSes 15 (fun t => { t with run := some { desc [0x14, 0, 0, 0, 0, 0, 0x64, 0, 0, 0, 0x64, 0, 2, 2, 1] with rounds := 1, sector := 0 } }))), 15, { desc [0x14, 0, 0, 0, 0, 0, 0x64, 0, 0, 0, 0x64, 0, 2, 2, 1] with rounds := 1, sector := 0 }, _, _, _, _, _, ⟨by decide +kernel, by decide +kernel, by decide +kernel, by decide +kernel, by decide +kernel, by decide +kernel, by decide +kernel, by decide +kernel, by decide +kernel, by decide +kernel, by decide +kernel, pair_eta _, pair_eta _, pair_of _ _ (by decide +kernel)⟩⟩,
   ⟨st ((air 15 7).modSes 15 (fun t => { t with run := some ({ desc [0x14, 0, 0, 0, 0, 0, 0x64, 0, 0, 0, 0x64, 0, 2, 2, 1] with rounds := 1, sector := 3 }) })), 15, { desc [0x14, 0, 0, 0, 0, 0, 0x64, 0, 0, 0, 0x64, 0, 2, 2, 1] with rounds := 1, sector := 3 }, by decide +kernel⟩,
   ⟨st ((((((air 15 4).wr schedGroupHi 0).wr schedGroupLo 0).put (fPsState 0x83) 4).modSes 3 (fun t => { t with run := some (desc [0x10]) })).modSes 15 (fun t => { t with turnSlots := 15, run := some (desc [0x10]) })), 15, 3, by decide +kernel⟩⟩

theorem test_ManifestEntries_meets :
    (∃ (s : State) (g : Sighting) (i : Fin 65536), s.dev.NoRemote ∧ s.dev.man.clear = none ∧ s.dev.man.queue = [.inl g] ∧ (s.dev.sess g.session).waiting = [] ∧ 2 ≤ s.dev.mFree g.session ∧ g.session < 16 ∧ g.epc.length ≤ 62 ∧ (s.dev.manWindow g.epc).find? (fun j => entryMatches (s.dev.entry j) g.epc) = some i.val)
    ∧ (∃ (s : State) (g : Sighting) (i : Fin 65536), s.dev.NoRemote ∧ s.dev.man.clear = none ∧ s.dev.man.queue = [.inl g] ∧ (s.dev.sess g.session).waiting = [] ∧ 2 ≤ s.dev.mFree g.session ∧ g.session < 16 ∧ g.epc.length ≤ 62 ∧ (s.dev.manWindow g.epc).find? (fun j => entryMatches (s.dev.entry j) g.epc) = none ∧ (s.dev.manWindow g.epc).find? (fun j => !entryValid (s.dev.entry j)) = some i.val ∧ (s.dev.rd manCount).toNat < 65536)
    ∧ (∃ (s : State) (g : Sighting), s.dev.NoRemote ∧ s.dev.man.clear = none ∧ s.dev.man.queue = [.inl g] ∧ (s.dev.sess g.session).waiting = [] ∧ 2 ≤ s.dev.mFree g.session ∧ g.session < 16 ∧ g.epc.length ≤ 62 ∧ (s.dev.manWindow g.epc).find? (fun j => entryMatches (s.dev.entry j) g.epc) = none ∧ (s.dev.manWindow g.epc).find? (fun j => !entryValid (s.dev.entry j)) = none ∧ s.dev.on fManCtrlEvict = false)
    ∧ (∃ (s : State) (i : Fin 65536), s.dev.NoRemote ∧ s.dev.get fManCtrlAgeOut ≠ 0 ∧ s.dev.pageLive 0x1A = true ∧ entryValid (s.dev.entry i.val) = true ∧ entryPinned (s.dev.entry i.val) = false ∧ entryLe (s.dev.entry i.val) 16 8 + s.dev.get fManCtrlAgeOut * 1024000000 < s.dev.stamp)
    ∧ (∃ (s : State) (w : RegWrite) (i : Fin 65536), s.dev.NoRemote ∧ s.dev.applies manCmd (fManCmdAction.set w.value 3) w.be = true ∧ fManCmdIndex.of (fManCmdAction.set w.value 3) = i.val ∧ entryValid (s.dev.entry i.val) = true)
    ∧ (∃ (s : State) (w : RegWrite) (i : Fin 65536), s.dev.NoRemote ∧ s.dev.applies manCmd (fManCmdAction.set w.value 1) w.be = true ∧ fManCmdIndex.of (fManCmdAction.set w.value 1) = i.val ∧ entryValid (s.dev.entry i.val) = true)
    ∧ (∃ (s : State) (w : RegWrite) (i : Fin 65536), s.dev.NoRemote ∧ s.dev.applies manCmd (fManCmdAction.set w.value 2) w.be = true ∧ fManCmdIndex.of (fManCmdAction.set w.value 2) = i.val ∧ entryValid (s.dev.entry i.val) = true)
    ∧ (∃ (s : State) (c : Instr) (all : Bool), s.dev.NoRemote ∧ (c = if all then Instr.manClearAll else .manClearUnpinned) ∧ s.dev.applies manCmd (fManCmdAction.set 0 (4 + all.toNat)) 0xF#4 = true)
    ∧ (∃ (s : State) (all : Bool), s.dev.NoRemote ∧ s.dev.man.clear = some all ∧ s.dev.man.queue = []) :=
  ⟨⟨st { (manned (air 15 4) (manHome (List.replicate 12 0x5A)) 1 : Device) with man := { queue := [.inl sight] } }, sight, ⟨manHome (List.replicate 12 0x5A), Nat.mod_lt _ (by decide)⟩, by decide +kernel⟩,
   ⟨st { (air 15 4 : Device) with man := { queue := [.inl sight] } }, sight, ⟨manHome (List.replicate 12 0x5A), Nat.mod_lt _ (by decide)⟩, by decide +kernel⟩,
   ⟨st { (((air 15 4).put fManCtrlProbeMax 0).put fManCtrlEvict 0 : Device) with man := { queue := [.inl sight] } }, sight, by decide +kernel⟩,
   ⟨st ((manned (up.put fManCtrlAgeOut 1) 65535 1).wr tideCountHi 1), 65535, by decide +kernel⟩,
   ⟨st (manned up 65535 3), full (fManCmdIndex.set 0 65535), 65535, by decide +kernel⟩,
   ⟨st (manned up 65535 1), full (fManCmdIndex.set 0 65535), 65535, by decide +kernel⟩,
   ⟨st (manned up 65535 3), full (fManCmdIndex.set 0 65535), 65535, by decide +kernel⟩,
   ⟨st (manned up 65535 3), .manClearAll, true, ⟨by decide +kernel, rfl, by decide +kernel⟩⟩,
   ⟨st { manned up 65535 3 with man := { clear := some true } }, true, by decide +kernel⟩⟩

theorem test_WeightsAndBeams_meets :
    (∃ (s : State), s.dev.NoRemote ∧ s.dev.applies bfWtCmd (fBfWtCmdAction.set 0 1) 0xF#4 = true)
    ∧ (∃ (s : State), s.dev.NoRemote ∧ s.dev.applies bfWtCmd (fBfWtCmdAction.set 0 4) 0xF#4 = true)
    ∧ (∃ (s : State), s.dev.NoRemote ∧ s.dev.applies bfWtCmd (fBfWtCmdAction.set 0 2) 0xF#4 = true ∧ wtMalformed s.dev.wtStage = false)
    ∧ (∃ (s : State), s.dev.NoRemote ∧ s.dev.applies bfWtCmd (fBfWtCmdAction.set 0 2) 0xF#4 = true ∧ wtMalformed s.dev.wtStage = true)
    ∧ (∃ (s : State), s.dev.NoRemote ∧ s.dev.applies bfWtCmd (fBfWtCmdAction.set 0 3) 0xF#4 = true)
    ∧ (∃ (s : State), s.dev.NoRemote)
    ∧ (∃ (s : State), s.dev.NoRemote ∧ s.dev.applies bfCntClr (fBfCntClrDir.set 0 1) 0xF#4 = true)
    ∧ (∃ (s : State) (n : Fin 16) (t : PendTx), s.dev.NoRemote ∧ (s.dev.stream n.val).pend = some t ∧ t.w.length = 64 ∧ s.dev.sesQuiet n.val = true ∧ (s.dev.sess n.val).acc.running = false)
    ∧ (∃ (s : State) (n : Fin 16) (x : Desc), s.dev.NoRemote ∧ (s.dev.sess n.val).run = none ∧ s.dev.startNext n.val = some x ∧ x.byte 0 = 0x13 ∧ x.byte 4 = 0 ∧ x.byte 5 = 0 ∧ (x.byte 12).testBit 0 = false ∧ (entryFlags (s.dev.wtEntry (x.le 6 2))).testBit 7 = true ∧ (entryFlags (s.dev.wtEntry (x.le 6 2))).testBit 0 = true ∧ (s.dev.sess n.val).refused = false ∧ (s.dev.admitTx n.val .table (s.dev.loadTx n.val (entryWeights (s.dev.wtEntry (x.le 6 2)))) false (entryZone (s.dev.wtEntry (x.le 6 2))).1 (entryZone (s.dev.wtEntry (x.le 6 2))).2).1 = true)
    ∧ (∃ (s : State) (n : Fin 16) (q : EstReq) (t : List EstReq), s.dev.NoRemote ∧ s.dev.bf.est = q :: t ∧ q.session = n.val) :=
  ⟨⟨st (tabled up), by decide +kernel⟩,
   ⟨st up, by decide +kernel⟩,
   ⟨st (up.putStage (0x03 :: entryBytes.drop 1)), by decide +kernel⟩,
   ⟨st up, by decide +kernel⟩,
   ⟨st (tabled up), by decide +kernel⟩,
   ⟨st ({ up with bf := { action := 1 } }.put fBfWtStatBusy 1), by decide +kernel⟩,
   ⟨st (up.wr bfDirCount 0x00050003), by decide +kernel⟩,
   ⟨st ((air 15 2).modStream 15 (fun t => { t with pend := some { w := List.replicate 64 77, form := .toward 100 200, nulled := true, az := 100, el := 200 } })), 15, { w := List.replicate 64 77, form := .toward 100 200, nulled := true, az := 100, el := 200 }, by decide +kernel⟩,
   ⟨st (tabled (ruled ((air 15 2).modSes 15 (fun t => { t with descs := [{ desc [0x13, 7, 0, 0, 0, 0] with started := false }, { desc [0x16, 0, 0, 0, 1] with index := 1 }] })))), 15, { desc [0x13, 7, 0, 0, 0, 0] with started := false }, by decide +kernel⟩,
   ⟨st { air 15 4 with bf := { (air 15 4).bf with est := [{ session := 15 }, { session := 3 }] } }, 15, { session := 15 }, [{ session := 3 }], by decide +kernel⟩⟩

theorem test_CarriersRun_meets :
    (∃ (s : State) (c : Fin 4) (w : RegWrite) (r : Nat), s.dev.NoRemote ∧ s.dev.applies (carCtrl c.val) ((fCarCtrlEn c.val).set w.value 1) w.be = true ∧ w.be = 0xF#4 ∧ s.dev.carState c.val = 0 ∧ s.dev.on (fCarStatShuttingDown c.val) = false ∧ (fCarCtrlHopAuto c.val).on w.value = false ∧ (s.dev.wr (carCtrl c.val) ((fCarCtrlEn c.val).set w.value 1)).carReason c.val (freqWordHz (s.dev.rd (carFreq c.val))) = r ∧ r ≠ 0)
    ∧ (∃ (s : State) (c : Fin 4) (w : RegWrite), s.dev.NoRemote ∧ s.dev.applies (carCtrl c.val) ((fCarCtrlEn c.val).set w.value 1) w.be = true ∧ w.be = 0xF#4 ∧ s.dev.carState c.val = 0 ∧ s.dev.on (fCarStatShuttingDown c.val) = false ∧ (fCarCtrlHopAuto c.val).on w.value = false ∧ (s.dev.wr (carCtrl c.val) ((fCarCtrlEn c.val).set w.value 1)).carReason c.val (freqWordHz (s.dev.rd (carFreq c.val))) = 0 ∧ s.dev.on fSynStatSLock = false)
    ∧ (∃ (s : State) (c : Fin 4) (w : RegWrite), s.dev.NoRemote ∧ s.dev.applies (carCtrl c.val) ((fCarCtrlEn c.val).set w.value 0) w.be = true ∧ s.dev.on (fCarStatEnq c.val) = false ∧ s.dev.on (fCarStatShuttingDown c.val) = false ∧ (s.dev.carState c.val = 1 ∨ s.dev.carState c.val = 2 ∨ s.dev.carState c.val = 3 ∨ s.dev.carState c.val = 10))
    ∧ (∃ (s : State) (c : Fin 4) (w : RegWrite), s.dev.NoRemote ∧ s.dev.applies (carCtrl c.val) ((fCarCtrlEn c.val).set w.value 0) w.be = true ∧ s.dev.on (fCarStatEnq c.val) = false ∧ s.dev.on (fCarStatShuttingDown c.val) = false ∧ s.dev.carState c.val = 6)
    ∧ (∃ (s : State) (c : Fin 4), s.dev.NoRemote ∧ s.dev.carState c.val = 1 ∧ s.dev.bandCal = .none ∧ s.dev.synthReady c.val = false)
    ∧ (∃ (s : State) (c : Fin 4) (power : BitVec 16) (p : Profile), s.dev.NoRemote ∧ s.dev.profile = some p ∧ s.dev.carState c.val = 3 ∧ (s.dev.car c.val).lbtWait = false ∧ power.toInt ≤ p.lbtThr ∧ s.dev.synthReady c.val = true)
    ∧ (∃ (s : State) (c : Fin 4) (power : BitVec 16) (p : Profile), s.dev.NoRemote ∧ s.dev.profile = some p ∧ s.dev.carState c.val = 3 ∧ (s.dev.car c.val).lbtWait = false ∧ p.lbtThr < power.toInt ∧ s.dev.carAuto c.val = false)
    ∧ (∃ (s : State) (c : Fin 4) (power : BitVec 16) (p : Profile), s.dev.NoRemote ∧ s.dev.profile = some p ∧ s.dev.carState c.val = 3 ∧ (s.dev.car c.val).lbtWait = false ∧ p.lbtThr < power.toInt ∧ s.dev.carAuto c.val = true)
    ∧ (∃ (s : State) (c : Fin 4), s.dev.NoRemote ∧ s.dev.carState c.val = 3 ∧ (s.dev.car c.val).lbtWait = true)
    ∧ (∃ (s : State) (c : Fin 4), s.dev.NoRemote ∧ s.dev.carState c.val = 4 ∧ ((s.dev.car c.val).stopDue || (s.dev.car c.val).bandCal || (s.dev.car c.val).grantLost || (s.dev.car c.val).toBarred) = false)
    ∧ (∃ (s : State) (c : Fin 4), s.dev.NoRemote ∧ s.dev.carState c.val = 5 ∧ ((s.dev.car c.val).stopDue || (s.dev.car c.val).bandCal || (s.dev.car c.val).grantLost || (s.dev.car c.val).toBarred) = false)
    ∧ (∃ (s : State) (c : Fin 4) (i : Instr), s.dev.NoRemote ∧ ((i = .rampUpEnd c ∧ s.dev.carState c.val = 4) ∨ (i = .settleEnd c ∧ s.dev.carState c.val = 5)) ∧ ((s.dev.car c.val).stopDue || (s.dev.car c.val).bandCal || (s.dev.car c.val).grantLost || (s.dev.car c.val).toBarred) = true)
    ∧ (∃ (s : State) (c : Fin 4), s.dev.NoRemote ∧ s.dev.carState c.val = 7 ∧ s.dev.carQuiet c.val = true)
    ∧ (∃ (s : State) (c : Fin 4), s.dev.NoRemote ∧ s.dev.carState c.val = 7)
    ∧ (∃ (s : State) (c : Fin 4), s.dev.NoRemote ∧ s.dev.carState c.val = 8 ∧ (s.dev.car c.val).stopDue = true ∧ s.dev.on (fCarStatEnq c.val) = false)
    ∧ (∃ (s : State) (c : Fin 4), s.dev.NoRemote ∧ s.dev.carState c.val = 8 ∧ (s.dev.car c.val).stopDue = false ∧ ((s.dev.car c.val).hopDue || (s.dev.car c.val).toBarred) = true)
    ∧ (∃ (s : State) (c : Fin 4), s.dev.NoRemote ∧ s.dev.carState c.val = 8 ∧ (s.dev.car c.val).stopDue = false ∧ ((s.dev.car c.val).hopDue || (s.dev.car c.val).toBarred) = false ∧ s.dev.bandCal = .running ∧ (s.dev.car c.val).grantLost = false) :=
  ⟨⟨st ((onCar 3 0).wr (carFreq 3) 58), 3, full (up.rd (carCtrl 3)), 2, by decide +kernel⟩,
   ⟨st ((onCar 3 0).put fSynStatSLock 0), 3, full (up.rd (carCtrl 3)), by decide +kernel⟩,
   ⟨st ((onCar 3 1)), 3, full (up.rd (carCtrl 3)), by decide +kernel⟩,
   ⟨st ((onCar 3 6)), 3, full (up.rd (carCtrl 3)), by decide +kernel⟩,
   ⟨st ((onCar 3 1).put fSynStatSLock 0), 3, by decide +kernel⟩,
   ⟨st ((onCar 3 3)), 3, 0, profile, by decide +kernel⟩,
   ⟨st ((onCar 3 3)), 3, 1, profile, by decide +kernel⟩,
   ⟨st ((onCar 3 3).put (fCarCtrlHopAuto 3) 1), 3, 1, profile, by decide +kernel⟩,
   ⟨st (((onCar 3 3).modCar 3 (fun t => { t with lbtWait := true }))), 3, by decide +kernel⟩,
   ⟨st ((onCar 3 4)), 3, by decide +kernel⟩,
   ⟨st (((onCar 3 5).modCar 3 (fun t => { t with hopping := true }))), 3, by decide +kernel⟩,
   ⟨st (((onCar 3 4).modCar 3 (fun t => { t with stopDue := true }))), 3, .rampUpEnd 3, by decide +kernel⟩,
   ⟨st ((onCar 3 7).put (fPsState 0x8F) 8), 3, by decide +kernel⟩,
   ⟨st (((onCar 3 7).modCar 3 (fun t => { t with grantLost := true })).put (fPsState 0x8F) 8), 3, by decide +kernel⟩,
   ⟨st (((onCar 3 8).modCar 3 (fun t => { t with stopDue := true, onSince := some 0 }))), 3, by decide +kernel⟩,
   ⟨st (((onCar 3 8).modCar 3 (fun t => { t with hopDue := true, onSince := some 0 }))), 3, by decide +kernel⟩,
   ⟨st (((onCar 3 8).modCar 3 (fun t => { t with onSince := some 0, bandCal := true })) |> fun d => { d with bandCal := .running }), 3, by decide +kernel⟩⟩

theorem test_HopsLimitsAndProfile_meets :
    (∃ (s : State) (c : Fin 4) (w : RegWrite), s.dev.NoRemote ∧ s.dev.applies (carCmd c.val) ((fCarCmdHop c.val).set w.value 1) w.be = true ∧ s.dev.carState c.val = 6 ∧ w.be = 0xF#4)
    ∧ (∃ (s : State) (c : Fin 4), s.dev.NoRemote ∧ s.dev.carState c.val = 9 ∧ (s.dev.car c.val).stopDue = false ∧ s.dev.carAuto c.val = false ∧ s.dev.carReason c.val (s.dev.car c.val).target = 0 ∧ s.dev.synthReady c.val = true ∧ s.dev.coexOn c.val = false ∧ s.dev.profile.any Profile.lbt = false)
    ∧ (∃ (s : State) (c : Fin 4) (r : Nat), s.dev.NoRemote ∧ s.dev.carState c.val = 9 ∧ (s.dev.car c.val).stopDue = false ∧ s.dev.carAuto c.val = false ∧ s.dev.carReason c.val (s.dev.car c.val).target = r ∧ r ≠ 0)
    ∧ (∃ (s : State) (c : Fin 4) (hz : Nat) (t : List Nat), s.dev.NoRemote ∧ s.dev.carState c.val = 9 ∧ s.dev.carAuto c.val = true ∧ (s.dev.car c.val).picked = false ∧ (s.dev.car c.val).stopDue = false ∧ s.dev.firstFree c.val (s.dev.car c.val).perm = some (hz, t))
    ∧ (∃ (s : State) (c : Fin 4) (i : Instr) (p : Profile), s.dev.NoRemote ∧ s.dev.profile = some p ∧ (s.dev.carState c.val = 5 ∨ s.dev.carState c.val = 6) ∧ ((i = .dwellLimitDrain c ∧ p.dwellMax ≠ 0 ∧ (s.dev.car c.val).visitStart.any (fun b => decide (b + p.dwellMax * tideMs ≤ s.dev.stamp + s.dev.carYield + s.dev.carRamp c.val)) = true) ∨ (i = .occupancyLimitDrain c ∧ p.occupancy = true ∧ p.occLimit * tideMs ≤ s.dev.occAt p (s.dev.car c.val).hz (s.dev.stamp + s.dev.carYield + s.dev.carRamp c.val))))
    ∧ (∃ (s : State) (c : Fin 4) (p : Profile), s.dev.NoRemote ∧ s.dev.profile = some p ∧ s.dev.carState c.val = 10 ∧ s.dev.carAuto c.val = false ∧ s.dev.occOk p c.val (s.dev.car c.val).hz = true ∧ s.dev.synthReady c.val = true ∧ s.dev.coexOn c.val = false ∧ s.dev.profile.any Profile.lbt = false)
    ∧ (∃ (s : State) (c : Fin 4) (p : Profile), s.dev.NoRemote ∧ s.dev.profile = some p ∧ s.dev.carState c.val = 10 ∧ s.dev.carAuto c.val = true ∧ p.channels.any (fun x => s.dev.carReason c.val x.hz = 0) = true)
    ∧ (∃ (s : State) (c : Fin 4), s.dev.NoRemote ∧ (s.dev.carState c.val = 5 ∨ s.dev.carState c.val = 6))
    ∧ (∃ (s : State) (m : MaskMeas) (p : Nat) (pr : Profile), s.dev.NoRemote ∧ (s.dev.carState m.car.val = 5 ∨ s.dev.carState m.car.val = 6) ∧ p = s.dev.get fTxsBwStatPath ∧ s.dev.pathState p = 6 ∧ s.dev.mutedPath p = false ∧ s.dev.profile = some pr ∧ m.point.val < pr.mask.length ∧ -(100 * ((pr.mask.map (·.limit)).getD m.point.val 0 : Int)) < m.ratio.toInt ∧ s.dev.get (fBackoff p) < s.dev.get fTxsBwCfgMax)
    ∧ (∃ (s : State), s.dev.NoRemote ∧ s.dev.applies txsBwClr (fTxsBwClrRelease.set 0 1) 0xF#4 = true)
    ∧ (∃ (s : State), s.dev.NoRemote ∧ s.dev.applies txsBwClr (fTxsBwClrCount.set 0 1) 0xF#4 = true)
    ∧ (∃ (s : State), s.dev.NoRemote ∧ s.dev.applies reglCmd (fReglCmdReload.set 0 1) 0xF#4 = true)
    ∧ (∃ (s : State), s.dev.NoRemote ∧ s.dev.applies reglCmd (fReglCmdClr.set 0 1) 0xF#4 = true) :=
  ⟨⟨st ((onCar 3 6)), 3, full 0, by decide +kernel⟩,
   ⟨st (((onCar 3 9).modCar 3 (fun t => { t with target := 865700000, hz := 0 }))), 3, by decide +kernel⟩,
   ⟨st (((onCar 3 9).modCar 3 (fun t => { t with target := 0 }))), 3, 2, by decide +kernel⟩,
   ⟨st (((onCar 3 9).modCar 3 (fun t => { t with perm := [1, 865700000, 7] })).put (fCarCtrlHopAuto 3) 1), 3, 865700000, [7], by decide +kernel⟩,
   ⟨st ((flagged ((onCar 3 6).modCar 3 (fun t => { t with visitStart := some 0 })) 4).wr tideCountLo 102400000), 3, .dwellLimitDrain 3, { profile with flags := 4, dwellMax := 100, occWindow := 10, occLimit := 100, mask := [{ offset := 200, limit := 50, rbw := 0 }] }, by decide +kernel⟩,
   ⟨st ((onCar 3 10)), 3, profile, by decide +kernel⟩,
   ⟨st ((onCar 3 10).put (fCarCtrlHopAuto 3) 1), 3, profile, by decide +kernel⟩,
   ⟨st ((onCar 3 6).put (fPsState 0x47) 6), 3, by decide +kernel⟩,
   ⟨st ((flagged (onCar 3 6) 0).put (fPsState 0x40) 6), { car := 3, point := 0, ratio := -4999 }, 0, { profile with flags := 0, dwellMax := 100, occWindow := 10, occLimit := 100, mask := [{ offset := 200, limit := 50, rbw := 0 }] }, by decide +kernel⟩,
   ⟨st up, by decide +kernel⟩,
   ⟨st (up.wr txsBwViol 7), by decide +kernel⟩,
   ⟨st up, by decide +kernel⟩,
   ⟨st (up.wr reglCounts 7), by decide +kernel⟩⟩

theorem test_SynthAndCoexistence_meets :
    (∃ (s : State) (i : Instr), s.dev.NoRemote ∧ s.dev.bandCal = .none ∧ ((i = .bandCalDue ∧ s.dev.get fSynStatCalTemp ≠ 0x80 ∧ 480 ≤ (s.dev.dieTemp - 16 * signedOf 8 (s.dev.get fSynStatCalTemp)).natAbs) ∨ (i = .synthRecal ∧ s.dev.applies synCmd (fSynCmdRecal.set 0 1) 0xF#4 = true)))
    ∧ (∃ (s : State), s.dev.NoRemote ∧ s.dev.bandCal = .due ∧ s.dev.carsCalm = true)
    ∧ (∃ (s : State), s.dev.NoRemote ∧ s.dev.bandCal = .due ∧ s.dev.carsCalm = false)
    ∧ (∃ (s : State), s.dev.NoRemote ∧ s.dev.bandCal = .running)
    ∧ (∃ (s : State), s.dev.NoRemote ∧ s.dev.on fSynStatPLock = true ∧ s.dev.rst.step = .done ∧ s.dev.on fSynStatSLock = false ∧ s.dev.get fKlStatSync ≠ 1)
    ∧ (∃ (s : State), s.dev.NoRemote ∧ s.dev.on fSynStatSLock = true)
    ∧ (∃ (s : State), s.dev.NoRemote ∧ s.dev.granted = false ∧ s.dev.on fCoexCtrlEn = true ∧ s.dev.bandCal = .none ∧ s.dev.synthReady 0 = true ∧ s.dev.profile.any Profile.lbt = false)
    ∧ (∃ (s : State), s.dev.NoRemote ∧ s.dev.granted = true ∧ s.dev.on fCoexCtrlEn = true) :=
  ⟨⟨st up, .synthRecal, by decide +kernel⟩,
   ⟨st { onCar 3 10 with bandCal := .due }, by decide +kernel⟩,
   ⟨st { onCar 3 6 with bandCal := .due }, by decide +kernel⟩,
   ⟨st { onCar 3 1 with bandCal := .running }, by decide +kernel⟩,
   ⟨st (up.put fSynStatPLock 1), by decide +kernel⟩,
   ⟨st (onCar 3 6), by decide +kernel⟩,
   ⟨st (((onCar 3 2).put fCoexCtrlEn 1).put ⟨coexCtrl, 7, 7⟩ 1), by decide +kernel⟩,
   ⟨st (((onCar 3 6).put fCoexCtrlEn 1).put ⟨coexCtrl, 7, 7⟩ 1 |> fun d => { d with coexGnt := true }), by decide +kernel⟩⟩

theorem test_PathsJoinAndStop_meets :
    (∃ (s : State) (p : Fin 64) (w : RegWrite), s.dev.NoRemote ∧ s.dev.pageInReset (0x40 + p.val) = false ∧ w.value.getLsbD 1 = false ∧ s.dev.applies (pageCtrl (0x40 + p.val)) ((fPcEn (0x40 + p.val)).set w.value 1) w.be = true ∧ s.dev.pathState p.val = 0)
    ∧ (∃ (s : State) (p : Fin 64) (q : List Nat), s.dev.NoRemote ∧ s.dev.pathQueue = p.val :: q ∧ ((List.range 64).filter (fun r => s.dev.pathState r = 2)).length < 8)
    ∧ (∃ (s : State) (p : Fin 64), s.dev.NoRemote ∧ s.dev.pathState p.val = 2 ∧ s.dev.on (fPsShuttingDown (0x40 + p.val)) = false)
    ∧ (∃ (s : State) (p : Fin 64), s.dev.NoRemote ∧ s.dev.pathState p.val = 3 ∧ s.dev.on (fPsShuttingDown (0x40 + p.val)) = false)
    ∧ (∃ (s : State) (p : Fin 64), s.dev.NoRemote ∧ s.dev.pathState p.val = 4 ∧ s.dev.on (fPsShuttingDown (0x40 + p.val)) = false)
    ∧ (∃ (s : State) (p : Fin 64), s.dev.NoRemote ∧ s.dev.pathState p.val = 5 ∧ (s.dev.path p.val).joined = true)
    ∧ (∃ (s : State) (p : Fin 64) (w : RegWrite), s.dev.NoRemote ∧ s.dev.pageInReset (0x40 + p.val) = false ∧ w.value.getLsbD 1 = false ∧ s.dev.applies (pageCtrl (0x40 + p.val)) ((fPcEn (0x40 + p.val)).set w.value 0) w.be = true ∧ s.dev.on (fPsEnq (0x40 + p.val)) = false ∧ s.dev.on (fPsShuttingDown (0x40 + p.val)) = false ∧ s.dev.on (fPcEn (0x40 + p.val)) = true ∧ s.dev.pathState p.val = 6)
    ∧ (∃ (s : State) (p : Fin 64), s.dev.NoRemote ∧ s.dev.pathState p.val = 9)
    ∧ (∃ (s : State) (p : Fin 64) (i : Instr), s.dev.NoRemote ∧ (i = .powerDownEnd p ∨ i = .shutdownComplete (.path p)) ∧ s.dev.pathState p.val = 10)
    ∧ (∃ (s : State) (p : Fin 64) (causes : BitVec 7), s.dev.NoRemote ∧ causes ≠ 0 ∧ (s.dev.pathState p.val = 5 ∨ s.dev.pathState p.val = 6))
    ∧ (∃ (s : State) (p : Fin 64) (causes : BitVec 7), s.dev.NoRemote ∧ causes ≠ 0 ∧ s.dev.pathState p.val = 7) :=
  ⟨⟨st ((up.put (fPsState (0x40 + 63)) 0)), 63, full 0xC, by decide +kernel⟩,
   ⟨st ((up.put (fPsState (0x40 + 63)) 1) |> fun d => { d with pathQueue := [63, 3] }), 63, [3], by decide +kernel⟩,
   ⟨st ((up.put (fPsState (0x40 + 63)) 2)), 63, by decide +kernel⟩,
   ⟨st ((up.put (fPsState (0x40 + 63)) 3)), 63, by decide +kernel⟩,
   ⟨st ((up.put (fPsState (0x40 + 63)) 4)), 63, by decide +kernel⟩,
   ⟨st (((up.put (fPsState (0x40 + 63)) 5).modPath 63 (fun t => { t with joined := true }))), 63, by decide +kernel⟩,
   ⟨st ((up.put (fPsState (0x40 + 63)) 6).put (fPcEn 0x7F) 1), 63, full 0xC, by decide +kernel⟩,
   ⟨st ((up.put (fPsState (0x40 + 63)) 9)), 63, by decide +kernel⟩,
   ⟨st ((up.put (fPsState (0x40 + 63)) 10)), 63, .powerDownEnd 63, by decide +kernel⟩,
   ⟨st ((up.put (fPsState (0x40 + 63)) 6)), 63, 1, by decide +kernel⟩,
   ⟨st ((up.put (fPsState (0x40 + 63)) 7)), 63, 0x40, by decide +kernel⟩⟩

theorem test_SparesAndRows_meets :
    (∃ (s : State) (p : Fin 64) (k : Fin 17), s.dev.NoRemote ∧ 2 ≤ s.dev.pathState p.val ∧ (s.dev.elem p.val).slice = none ∧ k.val < 16 ∧ s.dev.rep.queue.length < 32)
    ∧ (∃ (s : State) (p : Fin 64) (k : Fin 67) (a : Nat) (t : List Nat), s.dev.NoRemote ∧ 2 ≤ s.dev.pathState p.val ∧ (s.dev.elem p.val).dacFree = a :: t ∧ k.val ∉ (s.dev.elem p.val).dacBad ∧ k.val ∉ (s.dev.elem p.val).dacFree ∧ s.dev.rep.queue.length < 32)
    ∧ (∃ (s : State) (p : Fin 64) (k : Fin 24) (a : Nat) (t : List Nat), s.dev.NoRemote ∧ 2 ≤ s.dev.pathState p.val ∧ (s.dev.elem p.val).drvFree = a :: t ∧ k.val ∉ (s.dev.elem p.val).drvBad ∧ k.val ∉ (s.dev.elem p.val).drvFree ∧ s.dev.rep.queue.length < 32)
    ∧ (∃ (s : State) (p : Fin 64) (k : Fin 24), s.dev.NoRemote ∧ 2 ≤ s.dev.pathState p.val ∧ (s.dev.elem p.val).drvFree = [] ∧ k.val ∉ (s.dev.elem p.val).drvBad)
    ∧ (∃ (s : State) (p : Fin 64) (k : Fin 17) (a : Nat), s.dev.NoRemote ∧ 2 ≤ s.dev.pathState p.val ∧ (s.dev.elem p.val).slice = some a ∧ k.val ≠ a ∧ (s.dev.pathState p.val = 5 ∨ s.dev.pathState p.val = 6))
    ∧ (∃ (s : State) (p : Fin 64) (k : Fin 67), s.dev.NoRemote ∧ 2 ≤ s.dev.pathState p.val ∧ (s.dev.elem p.val).dacFree = [] ∧ k.val ∉ (s.dev.elem p.val).dacBad ∧ (s.dev.pathState p.val = 5 ∨ s.dev.pathState p.val = 6))
    ∧ (∃ (s : State), s.dev.NoRemote)
    ∧ (∃ (s : State) (bank : Fin 14) (row : Fin 8192), s.dev.NoRemote ∧ (bank.val, row.val) ∉ s.dev.rep.marks)
    ∧ (∃ (s : State) (bank : Fin 14) (row : Fin 8192), s.dev.NoRemote ∧ (bank.val, row.val) ∈ s.dev.rep.marks ∧ 1 ≤ s.dev.get (fRepRowsFree bank.val) ∧ s.dev.get (fRepRowsFree bank.val) ≤ 16 ∧ s.dev.rep.queue.length < 32)
    ∧ (∃ (s : State) (bank : Fin 14), s.dev.NoRemote ∧ bank.val ≤ 1 ∧ 1 ≤ s.dev.get (fRepRowsFree bank.val) ∧ s.dev.get (fRepRowsFree bank.val) ≤ 16 ∧ s.dev.rep.queue.length < 32) :=
  ⟨⟨st ((up.put (fPsState (0x40 + 63)) 6)), 63, 15, by decide +kernel⟩,
   ⟨st ((up.put (fPsState (0x40 + 63)) 6)), 63, 0, 63, [64, 65, 66], by decide +kernel⟩,
   ⟨st ((up.put (fPsState (0x40 + 63)) 6)), 63, 0, 20, [21, 22, 23], by decide +kernel⟩,
   ⟨st ({ (((up.put (fPsState (0x40 + 63)) 6).modPath 63 (fun t => { t with cells := 20 })) : Device) with rep := { elems := Vector.replicate 64 { drvFree := [] } } }), 63, 23, by decide +kernel⟩,
   ⟨st ({ ((up.put (fPsState (0x40 + 63)) 6) : Device) with rep := { elems := Vector.replicate 64 { slice := some 3 } } }), 63, 16, 3, by decide +kernel⟩,
   ⟨st ({ ((up.put (fPsState (0x40 + 63)) 5) : Device) with rep := { elems := Vector.replicate 64 { dacFree := [] } } }), 63, 66, by decide +kernel⟩,
   ⟨st { up with rep := { marks := [(13, 8191)] } }, by decide +kernel⟩,
   ⟨st up, 13, 8191, by decide +kernel⟩,
   ⟨st { up.put (fRepRowsFree 13) 16 with rep := { marks := [(13, 8191)] } }, 13, 8191, by decide +kernel⟩,
   ⟨st (up.put (fRepRowsFree 1) 16), 1, by decide +kernel⟩⟩

theorem test_PathLevelsGainAndCancellation_meets :
    (∃ (s : State) (p : Fin 64) (w : RegWrite), s.dev.NoRemote ∧ s.dev.applies (pathTxpwr p.val) w.value w.be = true ∧ w.be = 0xF#4 ∧ (s.dev.path p.val).joined = true ∧ s.dev.profile = none ∧ signedOf 8 (bitsOf w.value 7 0) ≤ cellReach (s.dev.path p.val).cells)
    ∧ (∃ (s : State) (p : Fin 64) (w : RegWrite), s.dev.NoRemote ∧ s.dev.applies (pathTxpwr p.val) w.value w.be = true ∧ w.be = 0xF#4 ∧ (s.dev.path p.val).joined = false)
    ∧ (∃ (s : State) (p : Fin 64) (peak : BitVec 8), s.dev.NoRemote ∧ s.dev.on (fPathCfgAgc p.val) = true ∧ (s.dev.path p.val).joined = true ∧ peak.toNat < s.dev.get (fPathAgcHiThr p.val) ∧ s.dev.get (fPathCfgGainMin p.val) < s.dev.get (fPathGainStep p.val))
    ∧ (∃ (s : State) (p : Fin 64) (peak : BitVec 8), s.dev.NoRemote ∧ s.dev.on (fPathCfgAgc p.val) = true ∧ (s.dev.path p.val).joined = true ∧ s.dev.get (fPathAgcHiThr p.val) + 16 ≤ peak.toNat ∧ s.dev.get (fPathGainStep p.val) < s.dev.get (fPathCfgGainMax p.val))
    ∧ (∃ (s : State) (p : Fin 64) (c : Fin 4), s.dev.NoRemote ∧ (s.dev.carState c.val = 5 ∨ s.dev.carState c.val = 6) ∧ (s.dev.path p.val).joined = true ∧ (s.dev.path p.val).cancEn = true)
    ∧ (∃ (s : State) (p : Fin 64) (w : RegWrite), s.dev.NoRemote ∧ s.dev.applies (pathCntClr p.val) ((fPathCntClrCounts p.val).set w.value 1) w.be = true ∧ w.be = 0xF#4 ∧ w.value.getLsbD 1 = false)
    ∧ (∃ (s : State) (p : Fin 64) (w : RegWrite), s.dev.NoRemote ∧ s.dev.applies (pathCntClr p.val) ((fPathCntClrFaults p.val).set w.value 1) w.be = true ∧ w.be = 0xF#4 ∧ w.value.getLsbD 0 = false) :=
  ⟨⟨st (((up.put (fPsState (0x40 + 63)) 6).modPath 63 (fun t => { t with joined := true }))), 63, full 0x30, by decide +kernel⟩,
   ⟨st ((up.put (fPsState (0x40 + 63)) 0)), 63, full 0x30, by decide +kernel⟩,
   ⟨st (((up.put (fPsState (0x40 + 63)) 6).modPath 63 (fun t => { t with joined := true, gainPend := some 9 })).put (fPathGainStep 63) 9), 63, 0, by decide +kernel⟩,
   ⟨st (((up.put (fPsState (0x40 + 63)) 6).modPath 63 (fun t => { t with joined := true })).put (fPathGainStep 63) 2 |>.put (fPathAgcHiThr 63) 100), 63, 255, by decide +kernel⟩,
   ⟨st (((up.put (fPsState (0x40 + 63)) 6).modPath 63 (fun t => { t with joined := true })).put (fCarStatState 3) 6), 63, 3, by decide +kernel⟩,
   ⟨st ((up.put (fPsState (0x40 + 63)) 6).wr (pathCounts 63) 7), 63, full 0, by decide +kernel⟩,
   ⟨st ((up.put (fPsState (0x40 + 63)) 6).put (fPathFaultCount 63) 7), 63, full 0, by decide +kernel⟩⟩

theorem test_CalibrationStartsAndWaits_meets :
    (∃ (s : State) (i : Instr) (k : Nat), s.dev.NoRemote ∧ ((i = .calFreq ∧ k = 1) ∨ (i = .calPower ∧ k = 2) ∨ (i = .calArrayRx ∧ k = 3) ∨ (i = .calArrayTx ∧ k = 4) ∨ (i = .calConv ∧ k = 5) ∨ (i = .calCanc ∧ k = 6)) ∧ s.dev.applies calCmd (fCalCmdProc.set 0 k) 0xF#4 = true ∧ s.dev.calForbid k (if k = 1 then [] else s.dev.onPaths) = none)
    ∧ (∃ (s : State) (i : Instr) (k : Nat) (r : Nat) (q : Nat), s.dev.NoRemote ∧ ((i = .calFreq ∧ k = 1) ∨ (i = .calPower ∧ k = 2) ∨ (i = .calArrayRx ∧ k = 3) ∨ (i = .calArrayTx ∧ k = 4) ∨ (i = .calConv ∧ k = 5) ∨ (i = .calCanc ∧ k = 6)) ∧ s.dev.applies calCmd (fCalCmdProc.set 0 k) 0xF#4 = true ∧ s.dev.calForbid k (if k = 1 then [] else s.dev.onPaths) = some (r, q))
    ∧ (∃ (s : State) (path : Byte), s.dev.NoRemote ∧ s.dev.applies calCmd (fCalCmdProc.set (fCalCmdPath.set 0 path.toNat) 7) 0xF#4 = true ∧ (s.dev.calForbid 7 (if path = 0xFF#8 then s.dev.onPaths.filter s.dev.driven else if s.dev.onPaths.isEmpty then [] else [path.toNat]) = none))
    ∧ (∃ (s : State) (path : Byte) (r : Nat) (q : Nat), s.dev.NoRemote ∧ s.dev.applies calCmd (fCalCmdProc.set (fCalCmdPath.set 0 path.toNat) 7) 0xF#4 = true ∧ (s.dev.calForbid 7 (if path = 0xFF#8 then s.dev.onPaths.filter s.dev.driven else if s.dev.onPaths.isEmpty then [] else [path.toNat]) = some (r, q)))
    ∧ (∃ (s : State), s.dev.NoRemote ∧ s.dev.applies calCmd (fCalCmdAbort.set 0 1) 0xF#4 = true ∧ s.dev.on fCalStatBusy = true)
    ∧ (∃ (s : State) (gaps : BitVec 4) (t : Nat), s.dev.NoRemote ∧ s.dev.cal.slack ≠ .running ∧ ((List.range 4).all (fun c => s.dev.boundaryOn c (gaps.getLsbD c))) = true ∧ s.dev.cal.waits = [⟨.backoff none, t⟩])
    ∧ (∃ (s : State) (gaps : BitVec 4) (t : Nat) (g : Nat) (p : Fin 64), s.dev.NoRemote ∧ s.dev.cal.slack ≠ .running ∧ ((List.range 4).all (fun c => s.dev.boundaryOn c (gaps.getLsbD c))) = true ∧ s.dev.cal.waits = [⟨.gain p.val, t⟩] ∧ (s.dev.path p.val).gainPend = some g ∧ g < 16)
    ∧ (∃ (s : State) (gaps : BitVec 4) (t : Nat) (p : Fin 64) (c : Fin 4) (v : Word) (b : Bool), s.dev.NoRemote ∧ s.dev.cal.slack ≠ .running ∧ s.dev.boundaryOn c.val (gaps.getLsbD c.val) = true ∧ s.dev.cal.waits = [⟨.canc p.val c.val v b, t⟩])
    ∧ (∃ (s : State), s.dev.NoRemote ∧ s.dev.cal.slack = .running)
    ∧ (∃ (s : State) (x : Waiting), s.dev.NoRemote ∧ x ∈ s.dev.cal.waits ∧ x.change.pending = true ∧ s.dev.get fCalCtrlMaxWait * tideMs ≤ s.dev.stamp - x.since ∧ s.dev.cal.slack = .none ∧ (∀ c : Fin 4, s.dev.carState c.val ≠ 7) ∧ s.dev.enabledSes ≠ []) :=
  ⟨⟨st up, .calFreq, 1, by decide +kernel⟩,
   ⟨st up, .calPower, 2, 7, 0xFF, by decide +kernel⟩,
   ⟨st ((up.put (fPsState 0x7F) 6).put (fCarStatState 0) 6), 63, by decide +kernel⟩,
   ⟨st up, 0, 7, 0xFF, by decide +kernel⟩,
   ⟨st ((up.put fCalStatBusy 1).put fCalStatProc 3), by decide +kernel⟩,
   ⟨st { up.put (fBackoff 63) 5 with cal := { waits := [⟨.backoff none, 0⟩] } }, 0, 0, by decide +kernel⟩,
   ⟨st (({ up with cal := { waits := [⟨.gain 63, 0⟩] } }).modPath 63 (fun t => { t with gainPend := some 15 })), 0xF, 0, 15, 63, by decide +kernel⟩,
   ⟨st ({ up with cal := { waits := [⟨.canc 63 3 77 true, 0⟩] } }), 0, 0, 63, 3, 77, true, by decide +kernel⟩,
   ⟨st { up with cal := { slack := .running } }, by decide +kernel⟩,
   ⟨st { (air 15 4).wr tideCountHi 1 with cal := { waits := [⟨.renorm, 0⟩] } }, ⟨.renorm, 0⟩, by decide +kernel⟩⟩

theorem test_CalibrationEndsAndImage_meets :
    (∃ (s : State) (m : CalMeas) (k : Nat), s.dev.NoRemote ∧ s.dev.on fCalStatBusy = true ∧ k = s.dev.get fCalStatProc ∧ 1 ≤ k ∧ k ≤ 6 ∧ s.dev.calFails k m = none)
    ∧ (∃ (s : State) (m : CalMeas), s.dev.NoRemote ∧ s.dev.on fCalStatBusy = true ∧ s.dev.get fCalStatProc = 7 ∧ s.dev.calFails 7 m = none)
    ∧ (∃ (s : State) (m : CalMeas) (r : Nat) (q : Nat) (pt : Nat), s.dev.NoRemote ∧ s.dev.on fCalStatBusy = true ∧ s.dev.calFails (s.dev.get fCalStatProc) m = some (r, q, pt))
    ∧ (∃ (s : State), s.dev.NoRemote)
    ∧ (∃ (s : State) (w : RegWrite), s.dev.NoRemote ∧ s.dev.applies calTblData w.value w.be = true ∧ w.be = 0xF#4)
    ∧ (∃ (s : State), s.dev.NoRemote ∧ s.dev.applies calTblCmd (fCalTblCmdCommit.set 0 1) 0xF#4 = true ∧ (s.dev.stageWord 0 ≠ 1 ∨ s.dev.stageWord 1 ≠ s.dev.rd sysIdentLo ∨ s.dev.stageWord 2 ≠ s.dev.rd sysIdentHi))
    ∧ (∃ (s : State), s.dev.NoRemote ∧ s.dev.applies calTblCmd (fCalTblCmdInvalidate.set 0 1) 0xF#4 = true)
    ∧ (∃ (s : State), s.dev.NoRemote ∧ s.dev.applies calCntClr (fCalCntClrRejects.set 0 1) 0xF#4 = true)
    ∧ (∃ (s : State), s.dev.NoRemote ∧ s.dev.applies calCntClr (fCalCntClrSlacks.set 0 1) 0xF#4 = true)
    ∧ (∃ (s : State), s.dev.NoRemote ∧ s.dev.hostReady = true ∧ s.dev.pwr.phase = .awake ∧ s.dev.pageOff 0x10 = false ∧ s.dev.pageInReset 0x10 = false) :=
  ⟨⟨st { (up.put fCalStatBusy 1).put fCalStatProc 1 with cal := { startTemp := up.dieTemp } }, { diffs := [], range := none, noRef := false, drive := [], words := [{ path := some 3, index := 5, value := 9 }], aclk := 100, ref := some 50 }, 1, by decide +kernel⟩,
   ⟨st { (up.put fCalStatBusy 1).put fCalStatProc 7 with cal := { startTemp := up.dieTemp } }, { diffs := [], range := none, noRef := false, drive := [], words := [{ path := some 3, index := 5, value := 9 }], aclk := 100, ref := some 50 }, by decide +kernel⟩,
   ⟨st { (up.put fCalStatBusy 1).put fCalStatProc 2 with cal := { startTemp := up.dieTemp } }, { diffs := [], range := none, noRef := true, drive := [], words := [{ path := some 3, index := 5, value := 9 }], aclk := 100, ref := some 50 }, 5, 0xFF, 0xFF, by decide +kernel⟩,
   ⟨st up, by decide +kernel⟩,
   ⟨st (up.put ⟨calTblAddr, 13, 0⟩ 16383), full 77, by decide +kernel⟩,
   ⟨st up, by decide +kernel⟩,
   ⟨st up, by decide +kernel⟩,
   ⟨st (up.wr calRejects 7), by decide +kernel⟩,
   ⟨st (up.put fCalWaitedSlacks 7), by decide +kernel⟩,
   ⟨st (up.put ⟨calTblAddr, 13, 0⟩ 16383), by decide +kernel⟩⟩

theorem test_PilotsMove_meets :
    (∃ (s : State) (p : Fin 20) (q : Fin 20) (n : Fin 16), s.dev.NoRemote ∧ s.dev.pilState p.val = 5 ∧ s.dev.pilSes p.val = n.val ∧ (s.dev.pil p.val).moveTo = none ∧ s.dev.spareFor (s.dev.pilFmt p.val) = some q.val ∧ 1 ≤ s.dev.sesState n.val ∧ s.dev.sesState n.val ≤ 8)
    ∧ (∃ (s : State) (p : Fin 20) (n : Fin 16), s.dev.NoRemote ∧ s.dev.pilState p.val = 5 ∧ s.dev.pilSes p.val = n.val ∧ (s.dev.pil p.val).moveTo = none ∧ s.dev.spareFor (s.dev.pilFmt p.val) = none ∧ 1 ≤ s.dev.sesState n.val ∧ s.dev.sesState n.val ≤ 9)
    ∧ (∃ (s : State) (p : Fin 20), s.dev.NoRemote ∧ (s.dev.pilState p.val = 3 ∨ s.dev.pilState p.val = 4))
    ∧ (∃ (s : State) (q : Fin 20) (n : Fin 16) (k : Ckpt), s.dev.NoRemote ∧ (s.dev.sess n.val).spare = some q.val ∧ s.dev.pilState q.val = 6 ∧ (s.dev.pil q.val).planned = false ∧ (s.dev.pil q.val).refault = none ∧ (s.dev.sess n.val).checkpoint = some k ∧ (s.dev.sess n.val).acc.running = false ∧ (s.dev.sess n.val).prev = 2 ∧ s.dev.sesState n.val = 9)
    ∧ (∃ (s : State) (p : Fin 20), s.dev.NoRemote ∧ s.dev.pilState p.val = 3 ∧ (s.dev.pil p.val).faulted = none)
    ∧ (∃ (s : State) (p : Fin 20) (q : Fin 20) (w : RegWrite), s.dev.NoRemote ∧ s.dev.applies (pilCmd p.val) ((fPilCmdAction p.val).set w.value 1) w.be = true ∧ w.be = 0xF#4 ∧ bitsOf w.value 12 8 = q.val)
    ∧ (∃ (s : State) (p : Fin 20) (q : Fin 20) (n : Fin 16), s.dev.NoRemote ∧ s.dev.servingPilot n.val = p.val ∧ (s.dev.pil p.val).moveTo = some q.val ∧ s.dev.pilState p.val = 7 ∧ (s.dev.sess n.val).acc.running = false ∧ s.dev.sesQuiet n.val = true ∧ s.dev.pilState q.val = 4)
    ∧ (∃ (s : State) (p : Fin 20) (q : Fin 20) (n : Fin 16) (i : Instr), s.dev.NoRemote ∧ (i = .moveComplete n ∨ (i = .shutdownComplete (.pilot p) ∧ (s.dev.pil p.val).moveOff = true ∧ s.dev.pilSes p.val = n.val)) ∧ (s.dev.sess n.val).spare = some q.val ∧ s.dev.pilState q.val = 6 ∧ (s.dev.pil q.val).planned = true ∧ (s.dev.pil q.val).refault = none ∧ s.dev.servingPilot n.val = p.val ∧ p ≠ q) :=
  ⟨⟨st (((air 15 4).put (fPsState (0x20 + 15)) 5).put (fPsState (0x20 + 19)) 4), 15, 19, 15, by decide +kernel⟩,
   ⟨st ((air 15 4).put (fPsState (0x20 + 15)) 5), 15, 15, by decide +kernel⟩,
   ⟨st ((air 15 4).put (fPsState (0x20 + 15)) 3), 15, by decide +kernel⟩,
   ⟨st ((((((air 15 4).put (fPsState (0x20 + 15)) 3).put (fPsState (0x20 + 19)) 6).modSes 15 (fun t => { t with spare := some 19, ckA := { seq := 5, state := 4 }, prev := 2 })).put (fPsState 0x8F) 9)), 19, 15, { seq := 5, state := 4 }, by decide +kernel⟩,
   ⟨st ((air 15 4).put (fPsState (0x20 + 15)) 3), 15, by decide +kernel⟩,
   ⟨st (((air 15 4).put (fPsState (0x20 + 15)) 5).put (fPsState (0x20 + 19)) 4), 15, 19, full 0x1300, by decide +kernel⟩,
   ⟨st ((((air 15 4).put (fPsState (0x20 + 15)) 7).put (fPsState (0x20 + 19)) 4).modPil 15 (fun t => { t with moveTo := some 19 })), 15, 19, 15, by decide +kernel⟩,
   ⟨st (((((air 15 4).put (fPsState (0x20 + 15)) 7).put (fPsState (0x20 + 19)) 6).modPil 19 (fun t => { t with takes := some 15, planned := true })).modSes 15 (fun t => { t with spare := some 19 })), 15, 19, 15, .moveComplete 15, by decide +kernel⟩⟩

theorem test_PilotImagesAndTheirPort_meets :
    (∃ (s : State) (p : Fin 20) (w : RegWrite), s.dev.NoRemote ∧ s.dev.applies (pilImgData p.val) w.value w.be = true ∧ w.be = 0xF#4)
    ∧ (∃ (s : State) (p : Fin 20) (q : Fin 20) (w : RegWrite), s.dev.NoRemote ∧ s.dev.applies (pilCmd p.val) ((fPilCmdAction p.val).set w.value 2) w.be = true ∧ w.be = 0xF#4 ∧ bitsOf w.value 12 8 = q.val)
    ∧ (∃ (s : State) (p : Fin 20) (w : RegWrite), s.dev.NoRemote ∧ s.dev.applies (pilCmd p.val) ((fPilCmdAction p.val).set w.value 3) w.be = true ∧ w.be = 0xF#4)
    ∧ (∃ (s : State) (p : Fin 20) (w : RegWrite), s.dev.NoRemote ∧ s.dev.applies (pilCmd p.val) ((fPilCmdAction p.val).set w.value 4) w.be = true ∧ w.be = 0xF#4)
    ∧ (∃ (s : State) (p : Fin 20), s.dev.NoRemote ∧ s.dev.pilState p.val = 1 ∧ (s.dev.pil p.val).copyFrom = none)
    ∧ (∃ (s : State) (p : Fin 20) (q : Fin 20), s.dev.NoRemote ∧ s.dev.pilState p.val = 1 ∧ (s.dev.pil p.val).copyFrom = some q.val)
    ∧ (∃ (s : State) (p : Fin 20), s.dev.NoRemote ∧ s.dev.pilState p.val = 2)
    ∧ (∃ (s : State) (p : Fin 20) (w : RegWrite), s.dev.NoRemote ∧ s.dev.applies (pageCtrl (0x20 + p.val)) ((fPcEn (0x20 + p.val)).set w.value 1) w.be = true ∧ s.dev.pageInReset (0x20 + p.val) = false ∧ w.value.getLsbD 1 = false ∧ s.dev.pilState p.val = 0)
    ∧ (∃ (s : State) (p : Fin 20) (w : RegWrite), s.dev.NoRemote ∧ s.dev.applies (pageCtrl (0x20 + p.val)) ((fPcEn (0x20 + p.val)).set w.value 0) w.be = true ∧ s.dev.pageInReset (0x20 + p.val) = false ∧ w.value.getLsbD 1 = false ∧ s.dev.pilState p.val = 4 ∧ s.dev.on (fPcEn (0x20 + p.val)) = true)
    ∧ (∃ (s : State) (p : Fin 20) (w : RegWrite), s.dev.NoRemote ∧ s.dev.applies (pilCntClr p.val) ((fPilCntClrCounts p.val).set w.value 1) w.be = true ∧ w.be = 0xF#4 ∧ w.value.getLsbD 1 = false)
    ∧ (∃ (s : State) (p : Fin 20) (w : RegWrite), s.dev.NoRemote ∧ s.dev.applies (pilCntClr p.val) ((fPilCntClrCkpts p.val).set w.value 1) w.be = true ∧ w.be = 0xF#4 ∧ w.value.getLsbD 0 = false)
    ∧ (∃ (s : State) (p : Fin 20), s.dev.NoRemote ∧ s.dev.hostReady = true ∧ s.dev.pwr.phase = .awake ∧ s.dev.pageOff (0x20 + p.val) = false ∧ s.dev.pageInReset (0x20 + p.val) = false) :=
  ⟨⟨st ((up.put (fPsState (0x20 + 19)) 0).put ⟨pilImgAddr 19, 13, 0⟩ 16383), 19, full 0xAABBCCDD, by decide +kernel⟩,
   ⟨st ((up.put (fPsState (0x20 + 19)) 0)), 19, 0, full 0, by decide +kernel⟩,
   ⟨st ((up.put (fPsState (0x20 + 19)) 0)), 19, full 0, by decide +kernel⟩,
   ⟨st ((up.put (fPsState (0x20 + 19)) 4)), 19, full 0, by decide +kernel⟩,
   ⟨st ((up.put (fPsState (0x20 + 19)) 1)), 19, by decide +kernel⟩,
   ⟨st ((up.put (fPsState (0x20 + 19)) 1).modPil 19 (fun t => { t with copyFrom := some 0 })), 19, 0, by decide +kernel⟩,
   ⟨st ((up.put (fPsState (0x20 + 19)) 2)), 19, by decide +kernel⟩,
   ⟨st ((up.put (fPsState (0x20 + 19)) 0).put (fPilStatResult 19) 1), 19, full 0xC, by decide +kernel⟩,
   ⟨st ((up.put (fPsState (0x20 + 19)) 4).put (fPcEn 0x33) 1), 19, full 0xC, by decide +kernel⟩,
   ⟨st ((up.put (fPsState (0x20 + 19)) 4).wr (pilCounts 19) 7), 19, full 0, by decide +kernel⟩,
   ⟨st ((up.put (fPsState (0x20 + 19)) 4).wr (pilCkpts 19) 7), 19, full 0, by decide +kernel⟩,
   ⟨st ((up.put (fPsState (0x20 + 19)) 4).put ⟨pilImgAddr 19, 13, 0⟩ 16383), 19, by decide +kernel⟩⟩

theorem test_RepairActions_meets :
    (∃ (s : State), s.dev.NoRemote ∧ s.dev.applies repCmd (fRepCmdAction.set 0 1) 0xF#4 = true)
    ∧ (∃ (s : State) (x : SelfTestFinds), s.dev.NoRemote ∧ s.dev.repState = 1 ∧ 1 ≤ s.dev.get fRepTestStep ∧ s.dev.get fRepTestStep ≤ 3 ∧ x.pilots = 0 ∧ x.rows = [] ∧ s.dev.rep.abort = false ∧ s.dev.carriersOff = true ∧ (s.dev.get fRepTestStep = 2 → ∀ p : Fin 20, s.dev.pilState p.val ≠ 5))
    ∧ (∃ (s : State) (x : SelfTestFinds), s.dev.NoRemote ∧ s.dev.repState = 1 ∧ s.dev.get fRepTestStep = 4 ∧ x.elems = [])
    ∧ (∃ (s : State), s.dev.NoRemote ∧ s.dev.applies repCmd (fRepCmdAction.set 0 2) 0xF#4 = true ∧ s.dev.repState = 1)
    ∧ (∃ (s : State) (w : RegWrite) (p : Fin 64), s.dev.NoRemote ∧ s.dev.applies repCmd (fRepCmdAction.set w.value 3) w.be = true ∧ w.be = 0xF#4 ∧ bitsOf w.value 13 8 = p.val ∧ s.dev.rep.queue.length < 32)
    ∧ (∃ (s : State) (w : RegWrite) (p : Fin 64), s.dev.NoRemote ∧ s.dev.applies repCmd (fRepCmdAction.set w.value 4) w.be = true ∧ w.be = 0xF#4 ∧ bitsOf w.value 13 8 = p.val ∧ s.dev.rep.queue.length < 32)
    ∧ (∃ (s : State), s.dev.NoRemote ∧ s.dev.applies repCmd (fRepCmdAction.set 0 5) 0xF#4 = true ∧ s.dev.get fRepMapCompactions < 2500 ∧ (liveRecs (validRecs (s.dev.mapRecs (s.dev.get fRepMapHalf)))).length ≤ 223)
    ∧ (∃ (s : State) (r : List Byte) (t : List (List Byte)), s.dev.NoRemote ∧ s.dev.rep.queue = r :: t ∧ s.dev.repState ≠ 2 ∧ s.dev.get fRepMapRecords < 223 ∧ r.length = 8)
    ∧ (∃ (s : State) (r : List Byte) (t : List (List Byte)), s.dev.NoRemote ∧ s.dev.rep.queue = r :: t ∧ s.dev.repState ≠ 2 ∧ 223 ≤ s.dev.get fRepMapRecords ∧ s.dev.get fRepMapCompactions < 2500 ∧ (liveRecs (validRecs (s.dev.mapRecs (s.dev.get fRepMapHalf)))).length ≤ 223)
    ∧ (∃ (s : State), s.dev.NoRemote ∧ s.dev.repState = 2 ∧ (liveRecs (validRecs (s.dev.mapRecs (s.dev.get fRepMapHalf)))).length ≤ 223)
    ∧ (∃ (s : State), s.dev.NoRemote ∧ s.dev.applies repCntClr (fRepCntClrEcc.set 0 1) 0xF#4 = true) :=
  ⟨⟨st up, by decide +kernel⟩,
   ⟨st ((up.put (fPsState 0x11) 1).put fRepTestStep 1), { pilots := 0, rows := [], elems := [] }, by decide +kernel⟩,
   ⟨st ((up.put (fPsState 0x11) 1).put fRepTestStep 4), { pilots := 0, rows := [], elems := [] }, by decide +kernel⟩,
   ⟨st ((up.put (fPsState 0x11) 1).put fRepTestStep 1), by decide +kernel⟩,
   ⟨st up, full 0x3F00, 63, by decide +kernel⟩,
   ⟨st (up.wr repDeadHi 0x80000000), full 0x3F00, 63, by decide +kernel⟩,
   ⟨st up, by decide +kernel⟩,
   ⟨st { up with rep := { queue := [List.replicate 8 1, List.replicate 8 2] } }, List.replicate 8 1, [List.replicate 8 2], by decide +kernel⟩,
   ⟨st ({ up with rep := { queue := [List.replicate 8 1] } }.put fRepMapRecords 223), List.replicate 8 1, [], by decide +kernel⟩,
   ⟨st (up.put (fPsState 0x11) 2), by decide +kernel⟩,
   ⟨st (up.wr repEccCount 7), by decide +kernel⟩⟩

theorem test_CascadePorts_meets :
    (∃ (s : State) (k : Fin 5), s.dev.NoRemote ∧ s.dev.portState k.val = 1)
    ∧ (∃ (s : State) (k : Fin 5), s.dev.NoRemote ∧ s.dev.portState k.val = 2)
    ∧ (∃ (s : State) (k : Fin 5) (t : KlTrain), s.dev.NoRemote ∧ s.dev.portState k.val = 3 ∧ s.dev.pairingOk k.val t = true ∧ (¬(2 ≤ k.val ∧ t.port.val = 0 ∧ 8 ≤ s.dev.get fKlStatDepth)) ∧ (s.dev.port k.val).trains < 2)
    ∧ (∃ (s : State) (k : Fin 5) (t : KlTrain), s.dev.NoRemote ∧ s.dev.portState k.val = 3 ∧ s.dev.pairingOk k.val t = true ∧ (¬(2 ≤ k.val ∧ t.port.val = 0 ∧ 8 ≤ s.dev.get fKlStatDepth)) ∧ 2 ≤ (s.dev.port k.val).trains)
    ∧ (∃ (s : State) (k : Fin 5) (t : KlTrain), s.dev.NoRemote ∧ s.dev.portState k.val = 3 ∧ s.dev.pairingOk k.val t = false)
    ∧ (∃ (s : State) (k : Fin 5), s.dev.NoRemote ∧ s.dev.portState k.val = 4 ∧ 2 ≤ k.val)
    ∧ (∃ (s : State) (k : Fin 5), s.dev.NoRemote ∧ s.dev.portState k.val = 4 ∧ k.val < 2 ∧ 16 ≤ (s.dev.port k.val).measures ∧ s.dev.upPort = none ∧ s.dev.klMember = true)
    ∧ (∃ (s : State) (k : Fin 5), s.dev.NoRemote ∧ s.dev.portState k.val = 4 ∧ k.val < 2 ∧ 16 ≤ (s.dev.port k.val).measures ∧ s.dev.upPort.isSome = true)
    ∧ (∃ (s : State) (k : Fin 5) (cause : KlCause), s.dev.NoRemote ∧ (s.dev.portState k.val = 5 ∨ s.dev.portState k.val = 6) ∧ (¬(cause = .noTick ∧ 2 ≤ k.val)))
    ∧ (∃ (s : State) (k : Fin 5), s.dev.NoRemote ∧ 2 ≤ s.dev.portState k.val ∧ s.dev.portState k.val ≤ 4 ∧ (s.dev.port k.val).retry = false)
    ∧ (∃ (s : State) (k : Fin 5), s.dev.NoRemote ∧ s.dev.portState k.val = 7 ∧ s.dev.on (fKlPctrlEn k.val) = true)
    ∧ (∃ (s : State) (k : Fin 5), s.dev.NoRemote ∧ s.dev.portState k.val = 8) :=
  ⟨⟨st ((ported (up) 2 0 1)), 0, by decide +kernel⟩,
   ⟨st ((ported (up) 2 1 2)), 1, by decide +kernel⟩,
   ⟨st ((ported (up) 2 0 3)), 0, ktrain 1 2, by decide +kernel⟩,
   ⟨st ((ported (up) 2 0 3) |>.modPort 0 (fun t => { t with trains := 2 })), 0, ktrain 1 2, by decide +kernel⟩,
   ⟨st ((ported (up) 2 0 3)), 0, ktrain 3 2, by decide +kernel⟩,
   ⟨st ((ported (up) 1 2 4)), 2, by decide +kernel⟩,
   ⟨st ((ported (up) 2 0 4) |>.modPort 0 (fun t => { t with measures := 16 })), 0, by decide +kernel⟩,
   ⟨st ((ported (up) 2 1 4) |>.modPort 1 (fun t => { t with measures := 16 }) |>.put (fKlPstatState 0) 5), 1, by decide +kernel⟩,
   ⟨st ((ported (up) 1 2 5) |>.modPort 2 (fun t => { t with replay := [kframe 1] })), 2, .signal, by decide +kernel⟩,
   ⟨st ((ported (up) 1 2 2)), 2, by decide +kernel⟩,
   ⟨st ((ported (up) 1 2 7) |>.put (fKlPctrlEn 2) 1), 2, by decide +kernel⟩,
   ⟨st ((ported (up) 1 2 8)), 2, by decide +kernel⟩⟩

theorem test_FramesOnAPort_meets :
    (∃ (s : State) (k : Fin 5), s.dev.NoRemote ∧ s.dev.portLive k.val = true)
    ∧ (∃ (s : State) (k : Fin 5), s.dev.NoRemote ∧ s.dev.portLive k.val = true ∧ (s.dev.port k.val).replay ≠ [])
    ∧ (∃ (s : State) (k : Fin 5), s.dev.NoRemote ∧ s.dev.portLive k.val = true ∧ (s.dev.port k.val).replay ≠ [] ∧ (s.dev.port k.val).resends < 4)
    ∧ (∃ (s : State) (k : Fin 5), s.dev.NoRemote ∧ 2 ≤ k.val ∧ s.dev.portState k.val = 5 ∧ (s.dev.port k.val).replay ≠ [] ∧ 4 ≤ (s.dev.port k.val).resends)
    ∧ (∃ (s : State) (h : KlHead), s.dev.NoRemote ∧ s.dev.portLive h.port.val = true ∧ s.dev.kl.up = [] ∧ (∀ j : Fin 5, (s.dev.port j.val).queue = [])) :=
  ⟨⟨st ((ported (up) 2 0 5)), 0, by decide +kernel⟩,
   ⟨st ((ported (up) 1 2 5) |>.modPort 2 (fun t => { t with replay := [kframe 1, kframe 2] })), 2, by decide +kernel⟩,
   ⟨st ((ported (up) 1 2 5) |>.modPort 2 (fun t => { t with replay := [kframe 1, kframe 2] })), 2, by decide +kernel⟩,
   ⟨st ((ported (up) 1 2 5) |>.modPort 2 (fun t => { t with replay := [kframe 1, kframe 2], resends := 4 })), 2, by decide +kernel⟩,
   ⟨st ((ported (up) 1 2 5)), khead 2, by decide +kernel⟩⟩

theorem test_UnknownFramesAreDiscarded_meets :
    (∃ (s : State) (h : KlHead), s.dev.NoRemote ∧ s.dev.portLive h.port.val = true ∧ (s.dev.port h.port.val).rxSeq = some h.seq.toNat)
    ∧ (∃ (s : State) (h : KlHead), s.dev.NoRemote ∧ s.dev.portLive h.port.val = true ∧ (s.dev.port h.port.val).rxSeq = some h.seq.toNat ∧ s.dev.kl.up = [] ∧ (∀ j : Fin 5, (s.dev.port j.val).queue = []))
    ∧ (∃ (s : State) (h : KlHead) (x : Nat), s.dev.NoRemote ∧ s.dev.portLive h.port.val = true ∧ s.dev.kl.up = [] ∧ (∀ j : Fin 5, (s.dev.port j.val).queue = []) ∧ (s.dev.port h.port.val).rxSeq = some x ∧ x ≠ h.seq.toNat) :=
  ⟨⟨st ((ported (up) 1 2 5)), khead 2, by decide +kernel⟩,
   ⟨st ((ported (up) 1 2 5) |>.modPort 2 (fun t => { t with replay := [kframe 2, kframe 3, kframe 4] })), khead 2, by decide +kernel⟩,
   ⟨st ((ported (up) 1 2 5)), { khead 2 with seq := 8 }, 9, by decide +kernel⟩⟩

theorem test_TheCensus_meets :
    (∃ (s : State), s.dev.NoRemote ∧ s.dev.applies klCmd (fKlCmdAction.set 0 1) 0xF#4 = true ∧ s.dev.klRole = 1)
    ∧ (∃ (s : State) (h : KlHead), s.dev.NoRemote ∧ s.dev.portLive h.port.val = true ∧ (s.dev.port h.port.val).rxSeq = some h.seq.toNat ∧ s.dev.upPort = some h.port.val)
    ∧ (∃ (s : State) (h : KlHead), s.dev.NoRemote ∧ s.dev.portLive h.port.val = true ∧ (s.dev.port h.port.val).rxSeq = some h.seq.toNat ∧ s.dev.kl.up = [] ∧ (∀ j : Fin 5, (s.dev.port j.val).queue = []) ∧ 2 ≤ h.port.val ∧ s.dev.klRole = 1)
    ∧ (∃ (s : State), s.dev.NoRemote ∧ s.dev.klRole = 1 ∧ s.dev.get (fPsState 0x1C) = 1 ∧ (∀ k ∈ s.dev.downPorts, k ∈ s.dev.kl.lasts) ∧ s.dev.kl.again = false)
    ∧ (∃ (s : State) (h : KlHead), s.dev.NoRemote ∧ s.dev.portLive h.port.val = true ∧ (s.dev.port h.port.val).rxSeq = some h.seq.toNat)
    ∧ (∃ (s : State) (h : KlHead), s.dev.NoRemote ∧ s.dev.portLive h.port.val = true ∧ (s.dev.port h.port.val).rxSeq = some h.seq.toNat ∧ s.dev.downPorts = [] ∧ s.dev.kl.up = [] ∧ (∀ j : Fin 5, (s.dev.port j.val).queue = []))
    ∧ (∃ (s : State), s.dev.NoRemote ∧ s.dev.hostReady = true ∧ s.dev.pwr.phase = .awake ∧ s.dev.pageOff 0x1C = false ∧ s.dev.pageInReset 0x1C = false) :=
  ⟨⟨st (up.put fKlStatRole 1), by decide +kernel⟩,
   ⟨st ((ported (up) 2 0 5)), khead 0, by decide +kernel⟩,
   ⟨st ((ported (up) 1 2 5)), khead 2, by decide +kernel⟩,
   ⟨st ((ported (up) 1 2 5) |>.put (fPsState 0x1C) 1 |>.modKl (fun t => { t with collecting := true, lasts := [2] })), by decide +kernel⟩,
   ⟨st ((ported (up) 2 0 5)), khead 0, by decide +kernel⟩,
   ⟨st ((ported (up) 2 0 5)), khead 0, by decide +kernel⟩,
   ⟨st (up.put ⟨klCenAddr, 13, 0⟩ 16383), by decide +kernel⟩⟩

theorem test_TideAndHoldover_meets :
    (∃ (s : State) (k : Fin 5), s.dev.NoRemote ∧ k.val < 2 ∧ s.dev.klMember = true ∧ (s.dev.portState k.val = 4 ∨ s.dev.portState k.val = 5 ∨ s.dev.portState k.val = 6))
    ∧ (∃ (s : State) (k : Fin 5), s.dev.NoRemote ∧ k.val < 2 ∧ s.dev.portLive k.val = true)
    ∧ (∃ (s : State) (k : Fin 5), s.dev.NoRemote ∧ 2 ≤ k.val ∧ s.dev.portState k.val = 5 ∧ s.dev.kl.up = [] ∧ (∀ j : Fin 5, (s.dev.port j.val).queue = []) ∧ 1 ≤ (s.dev.port k.val).credits.getD 3 0 ∧ (s.dev.port k.val).replay = [])
    ∧ (∃ (s : State) (h : KlHead) (t1 : BitVec 72) (t2 : BitVec 72) (t3 : BitVec 72) (t4 : Nat), s.dev.NoRemote ∧ s.dev.portLive h.port.val = true ∧ (s.dev.port h.port.val).rxSeq = some h.seq.toNat ∧ h.port.val < 2 ∧ (s.dev.port h.port.val).t4 = some t4 ∧ s.dev.portState h.port.val = 4 ∧ (((t2.toNat : Int) - t1.toNat) + ((t3.toNat : Int) - t4)) % 2 = 0 ∧ (((t4 : Int) - t1.toNat) - ((t3.toNat : Int) - t2.toNat)) % 2 = 0)
    ∧ (∃ (s : State) (h : KlHead) (t1 : BitVec 72) (t2 : BitVec 72) (t3 : BitVec 72) (t4 : Nat), s.dev.NoRemote ∧ s.dev.portLive h.port.val = true ∧ (s.dev.port h.port.val).rxSeq = some h.seq.toNat ∧ (s.dev.port h.port.val).t4 = some t4 ∧ s.dev.portState h.port.val = 5 ∧ s.dev.upPort = some h.port.val ∧ (((t2.toNat : Int) - t1.toNat) + ((t3.toNat : Int) - t4)) % 2 = 0 ∧ (((t4 : Int) - t1.toNat) - ((t3.toNat : Int) - t2.toNat)) % 2 = 0 ∧ ((((t2.toNat : Int) - t1.toNat) + ((t3.toNat : Int) - t4)) / 2).natAbs ≤ 1024 * 256 ∧ 262 ≤ s.dev.tideFine ∧ s.dev.tideFine + 262 < 2 ^ 72)
    ∧ (∃ (s : State), s.dev.NoRemote ∧ s.dev.portState 0 = 5 ∧ s.dev.klMember = true ∧ s.dev.portState 1 = 6 ∧ s.dev.kl.altOk = true)
    ∧ (∃ (s : State), s.dev.NoRemote ∧ s.dev.portState 0 = 5 ∧ s.dev.klMember = true ∧ s.dev.kl.altOk = false ∧ s.dev.portState 1 ≠ 5)
    ∧ (∃ (s : State), s.dev.NoRemote ∧ s.dev.applies klCmd (fKlCmdAction.set 0 5) 0xF#4 = true ∧ s.dev.klMember = true ∧ s.dev.portState 0 = 6 ∧ s.dev.portState 1 = 5)
    ∧ (∃ (s : State), s.dev.NoRemote ∧ s.dev.get fKlStatSync = 3 ∧ s.dev.kl.holdSince + 1024000000 ≤ s.dev.tide)
    ∧ (∃ (s : State), s.dev.NoRemote ∧ s.dev.get fKlStatSync = 3 ∧ s.dev.tide < s.dev.kl.holdSince + 1024000000) :=
  ⟨⟨st ((ported (up) 2 0 4) |>.setTideFine 1000000), 0, by decide +kernel⟩,
   ⟨st ((ported (up) 2 0 5) |>.setTideFine 1000000), 0, by decide +kernel⟩,
   ⟨st ((ported (up) 1 2 5) |>.setTideFine 1000000 |>.modPort 2 (fun t => { t with credits := #v[0, 0, 0, 3] })), 2, by decide +kernel⟩,
   ⟨st ((ported (up) 2 0 4) |>.setTideFine 1000000 |>.modPort 0 (fun t => { t with t4 := some 1000 })), khead 0, 100, 400, 600, 1000, by decide +kernel⟩,
   ⟨st ((ported (up) 2 0 5) |>.setTideFine 1000000 |>.modPort 0 (fun t => { t with t4 := some 1000 })), khead 0, 100, 400, 600, 1000, by decide +kernel⟩,
   ⟨st ((((up.put fKlStatRole 2).put (fKlPstatState 0) 5).put (fKlPstatState 1) 6).modKl (fun t => { t with altOk := true })), by decide +kernel⟩,
   ⟨st ((ported (up) 2 0 5)), by decide +kernel⟩,
   ⟨st ((ported (up) 2 0 6) |>.put (fKlPstatState 1) 5), by decide +kernel⟩,
   ⟨st ((ported (up) 2 0 7) |>.put fKlStatSync 3 |>.setTide 2000000000), by decide +kernel⟩,
   ⟨st ((ported (up) 2 0 7) |>.put fKlStatSync 3 |>.setTide 1000), by decide +kernel⟩⟩

theorem test_TriggersAndRemoteAccess_meets :
    (∃ (s : State) (w : RegWrite), s.dev.NoRemote ∧ s.dev.applies klTrigCmd (fKlTrigCmdFire.set w.value 1) w.be = true ∧ w.be = 0xF#4 ∧ s.dev.klRole = 1 ∧ s.dev.tide < ((s.dev.rd klTrigTideHi).toNat * 2 ^ 32 + (s.dev.rd klTrigTideLo).toNat) ∧ s.dev.kl.fired.getD (bitsOf ((fKlTrigCmdFire).set w.value 1) 1 0) none ≠ some ((s.dev.rd klTrigTideHi).toNat * 2 ^ 32 + (s.dev.rd klTrigTideLo).toNat) ∧ (bitsOf ((fKlTrigCmdFire).set w.value 1) 1 0, ((s.dev.rd klTrigTideHi).toNat * 2 ^ 32 + (s.dev.rd klTrigTideLo).toNat)) ∉ s.dev.kl.armed)
    ∧ (∃ (s : State) (w : RegWrite), s.dev.NoRemote ∧ s.dev.applies klTrigCmd (fKlTrigCmdFire.set w.value 1) w.be = true ∧ w.be = 0xF#4 ∧ s.dev.klRole = 1 ∧ ((s.dev.rd klTrigTideHi).toNat * 2 ^ 32 + (s.dev.rd klTrigTideLo).toNat) ≤ s.dev.tide ∧ s.dev.kl.fired.getD (bitsOf ((fKlTrigCmdFire).set w.value 1) 1 0) none ≠ some ((s.dev.rd klTrigTideHi).toNat * 2 ^ 32 + (s.dev.rd klTrigTideLo).toNat) ∧ (bitsOf ((fKlTrigCmdFire).set w.value 1) 1 0, ((s.dev.rd klTrigTideHi).toNat * 2 ^ 32 + (s.dev.rd klTrigTideLo).toNat)) ∉ s.dev.kl.armed)
    ∧ (∃ (s : State) (k : Fin 5) (ch : Fin 4) (low : BitVec 48), s.dev.NoRemote ∧ s.dev.upPort = some k.val ∧ s.dev.tide < nearestTide s.dev.tide low.toNat ∧ s.dev.kl.fired.getD ch.val none ≠ some (nearestTide s.dev.tide low.toNat) ∧ (ch.val, nearestTide s.dev.tide low.toNat) ∉ s.dev.kl.armed)
    ∧ (∃ (s : State) (k : Fin 5), s.dev.NoRemote ∧ s.dev.upPort ≠ some k.val)
    ∧ (∃ (s : State) (ch : Nat) (t : Nat) (r : List (Nat × Nat)), s.dev.NoRemote ∧ s.dev.kl.armed = (ch, t) :: r ∧ t ≤ s.dev.tide ∧ ch < 4)
    ∧ (∃ (s : State), s.dev.NoRemote ∧ s.dev.applies klRaCmd (fKlRaCmdRead.set 0 1) 0xF#4 = true ∧ s.dev.on fKlRaDevBcast = false ∧ (s.dev.get fKlRaDevDevice = 0 ∨ s.dev.inCensus (s.dev.get fKlRaDevDevice) = false))
    ∧ (∃ (s : State), s.dev.NoRemote ∧ s.dev.applies klRaCmd (fKlRaCmdWrite.set 0 1) 0xF#4 = true ∧ s.dev.on fKlRaDevBcast = false ∧ (s.dev.get fKlRaDevDevice = 0 ∨ s.dev.inCensus (s.dev.get fKlRaDevDevice) = false))
    ∧ (∃ (s : State), s.dev.NoRemote ∧ s.dev.applies klRaCmd (fKlRaCmdRead.set 0 1) 0xF#4 = true ∧ s.dev.klRole = 1 ∧ s.dev.on fKlRaDevBcast = false ∧ s.dev.get fKlRaDevDevice ≠ 0 ∧ s.dev.inCensus (s.dev.get fKlRaDevDevice) = true)
    ∧ (∃ (s : State), s.dev.NoRemote ∧ s.dev.applies klRaCmd (fKlRaCmdWrite.set 0 1) 0xF#4 = true ∧ s.dev.klRole = 1 ∧ s.dev.on fKlRaDevBcast = false ∧ s.dev.get fKlRaDevDevice ≠ 0 ∧ s.dev.inCensus (s.dev.get fKlRaDevDevice) = true)
    ∧ (∃ (s : State) (h : KlHead) (r : RaSt) (t : List RaSt), s.dev.NoRemote ∧ s.dev.portLive h.port.val = true ∧ (s.dev.port h.port.val).rxSeq = some h.seq.toNat ∧ s.dev.kl.up = [] ∧ (∀ j : Fin 5, (s.dev.port j.val).queue = []) ∧ 2 ≤ h.port.val ∧ s.dev.klRole = 1 ∧ s.dev.kl.ra = r :: t ∧ r.left = [h.src.toNat] ∧ r.source = .ra)
    ∧ (∃ (s : State) (link : Bool) (r : RaSt) (t : List RaSt), s.dev.NoRemote ∧ link = false ∧ s.dev.kl.ra = r :: t ∧ r.source = .ra)
    ∧ (∃ (s : State) (h : KlHead) (op : BitVec 2), s.dev.NoRemote ∧ s.dev.portLive h.port.val = true ∧ (s.dev.port h.port.val).rxSeq = some h.seq.toNat ∧ s.dev.kl.up = [] ∧ (∀ j : Fin 5, (s.dev.port j.val).queue = []) ∧ s.dev.upPort = none ∧ op.toNat = 0)
    ∧ (∃ (s : State) (h : KlHead) (op : BitVec 2) (word : BitVec 24), s.dev.NoRemote ∧ s.dev.portLive h.port.val = true ∧ (s.dev.port h.port.val).rxSeq = some h.seq.toNat ∧ s.dev.kl.up = [] ∧ (∀ j : Fin 5, (s.dev.port j.val).queue = []) ∧ s.dev.upPort = none ∧ op.toNat = 1 ∧ 4 * word.toNat < 0x0100000 ∧ s.dev.post.length < 31 ∧ s.dev.pwr.phase = .awake ∧ s.dev.pageOff (pageOfWord word.toNat) = false)
    ∧ (∃ (s : State) (j : Fin 3), s.dev.NoRemote ∧ s.dev.applies klCmd (fKlCmdAction.set 0 2) 0xF#4 = true ∧ s.dev.get fKlRaDevDevice ≠ 0 ∧ s.dev.inCensus (s.dev.get fKlRaDevDevice) = true ∧ recLe (s.dev.censusEntry (s.dev.get fKlRaDevDevice)) 10 2 % 4 = j.val ∧ s.dev.kl.up = [] ∧ (∀ j : Fin 5, (s.dev.port j.val).queue = []) ∧ s.dev.portState (2 + j.val) = 5 ∧ (s.dev.port (2 + j.val)).replay = [] ∧ 1 ≤ (s.dev.port (2 + j.val)).credits.getD 0 0)
    ∧ (∃ (s : State), s.dev.NoRemote ∧ s.dev.applies klCmd (fKlCmdAction.set 0 2) 0xF#4 = true ∧ (s.dev.get fKlRaDevDevice = 0 ∨ s.dev.inCensus (s.dev.get fKlRaDevDevice) = false))
    ∧ (∃ (s : State) (j : Fin 3), s.dev.NoRemote ∧ s.dev.applies klCmd (fKlCmdAction.set 0 3) 0xF#4 = true ∧ s.dev.get fKlRaDevDevice ≠ 0 ∧ s.dev.inCensus (s.dev.get fKlRaDevDevice) = true ∧ recLe (s.dev.censusEntry (s.dev.get fKlRaDevDevice)) 10 2 % 4 = j.val ∧ s.dev.kl.up = [] ∧ (∀ j : Fin 5, (s.dev.port j.val).queue = []) ∧ s.dev.portState (2 + j.val) = 5 ∧ (s.dev.port (2 + j.val)).replay = [] ∧ 1 ≤ (s.dev.port (2 + j.val)).credits.getD 0 0)
    ∧ (∃ (s : State), s.dev.NoRemote ∧ s.dev.applies klCmd (fKlCmdAction.set 0 3) 0xF#4 = true ∧ (s.dev.get fKlRaDevDevice = 0 ∨ s.dev.inCensus (s.dev.get fKlRaDevDevice) = false))
    ∧ (∃ (s : State) (h : KlHead), s.dev.NoRemote ∧ s.dev.portLive h.port.val = true ∧ (s.dev.port h.port.val).rxSeq = some h.seq.toNat) :=
  ⟨⟨st ((up.put fKlStatRole 1).wr klTrigTideLo 500), full 3, by decide +kernel⟩,
   ⟨st (((up.put fKlStatRole 1).wr klTrigTideLo 500).setTide 500), full 3, by decide +kernel⟩,
   ⟨st ((ported (up) 2 0 5).setTide 100), 0, 3, 500, by decide +kernel⟩,
   ⟨st ((ported (up) 1 2 5)), 2, by decide +kernel⟩,
   ⟨st ((up.setTide 100).modKl (fun t => { t with armed := [(3, 100), (1, 200)] })), 3, 100, [(1, 200)], by decide +kernel⟩,
   ⟨st (up.put fKlStatRole 1), by decide +kernel⟩,
   ⟨st (up.put fKlStatRole 1), by decide +kernel⟩,
   ⟨st (((up.put fKlStatRole 1).put fKlRaDevDevice 5).modKl (fun t => { t with table := (List.range 32).map (fun i => (160 + i, (1 : Byte))) })), by decide +kernel⟩,
   ⟨st (((up.put fKlStatRole 1).put fKlRaDevDevice 5).modKl (fun t => { t with table := (List.range 32).map (fun i => (160 + i, (1 : Byte))) })), by decide +kernel⟩,
   ⟨st ((ported (up) 1 2 5).modKl (fun t => { t with ra := [{ source := .ra, op := 0, addr := 0, data := 0, left := [7] }] })), khead 2, { source := .ra, op := 0, addr := 0, data := 0, left := [7] }, [], by decide +kernel⟩,
   ⟨st (up.modKl (fun t => { t with ra := [{ source := .ra, op := 0, addr := 0, data := 0, left := [7] }] })), false, { source := .ra, op := 0, addr := 0, data := 0, left := [7] }, [], by decide +kernel⟩,
   ⟨st ((ported (up) 1 2 5)), khead 2, 0, by decide +kernel⟩,
   ⟨st ((ported (up) 1 2 5)), khead 2, 1, 0x123, by decide +kernel⟩,
   ⟨st (((((up.put fKlStatRole 1).put fKlRaDevDevice 5).modKl (fun t => { t with table := (List.range 32).map (fun i => (160 + i, (1 : Byte))) })).put (fKlPstatState 3) 5).modPort 3 (fun t => { t with credits := #v[1, 0, 0, 0] })), 1, by decide +kernel⟩,
   ⟨st (up.put fKlStatRole 1), by decide +kernel⟩,
   ⟨st (((((up.put fKlStatRole 1).put fKlRaDevDevice 5).modKl (fun t => { t with table := (List.range 32).map (fun i => (160 + i, (1 : Byte))) })).put (fKlPstatState 3) 5).modPort 3 (fun t => { t with credits := #v[1, 0, 0, 0] })), 1, by decide +kernel⟩,
   ⟨st (up.put fKlStatRole 1), by decide +kernel⟩,
   ⟨st ((ported (up) 2 0 5)), khead 0, by decide +kernel⟩⟩

theorem test_MessagesGoUp_meets :
    (∃ (s : State) (n : Fin 16), s.dev.NoRemote ∧ s.dev.klMember = true ∧ s.dev.on ⟨klCtrl, 16 + n.val, 16 + n.val⟩ = true ∧ s.dev.on fKlStatNumbered = true ∧ 3 ≤ s.dev.kl.hostFormat ∧ (s.dev.nextMsgs n.val 512 8) ≠ [] ∧ s.dev.kl.unacked = [] ∧ s.dev.upPort = none)
    ∧ (∃ (s : State) (n : Fin 16), s.dev.NoRemote ∧ (s.dev.klMember = false ∨ s.dev.on ⟨klCtrl, 16 + n.val, 16 + n.val⟩ = false ∨ s.dev.on fKlStatNumbered = false ∨ s.dev.kl.hostFormat < 3))
    ∧ (∃ (s : State) (h : KlHead) (next : BitVec 32) (n : Fin 16) (q : Nat) (slots : Nat) (f : KlFrame), s.dev.NoRemote ∧ s.dev.portLive h.port.val = true ∧ (s.dev.port h.port.val).rxSeq = some h.seq.toNat ∧ s.dev.kl.unacked = [(q, n.val, slots, f)] ∧ q < 2 ^ 32 - 1 ∧ next.toNat = q + 1 ∧ slots ≤ 65535 ∧ s.dev.man.queue = [] ∧ (s.dev.sess n.val).waiting = [])
    ∧ (∃ (s : State), s.dev.NoRemote ∧ s.dev.kl.unacked ≠ [] ∧ s.dev.upPort = none ∧ s.dev.kl.up = [])
    ∧ (∃ (s : State) (h : KlHead) (origin : BitVec 16) (oseq : BitVec 32), s.dev.NoRemote ∧ s.dev.portLive h.port.val = true ∧ (s.dev.port h.port.val).rxSeq = some h.seq.toNat ∧ s.dev.kl.up = [] ∧ (∀ j : Fin 5, (s.dev.port j.val).queue = []) ∧ 2 ≤ h.port.val ∧ s.dev.klRole = 1 ∧ oseq.toNat = (((s.dev.kl.expect.find? (fun e => e.1 = origin.toNat)).map (·.2)).getD 0))
    ∧ (∃ (s : State) (h : KlHead) (origin : BitVec 16) (oseq : BitVec 32), s.dev.NoRemote ∧ s.dev.portLive h.port.val = true ∧ (s.dev.port h.port.val).rxSeq = some h.seq.toNat ∧ s.dev.kl.up = [] ∧ (∀ j : Fin 5, (s.dev.port j.val).queue = []) ∧ 2 ≤ h.port.val ∧ s.dev.klRole = 1 ∧ oseq.toNat ≠ (((s.dev.kl.expect.find? (fun e => e.1 = origin.toNat)).map (·.2)).getD 0))
    ∧ (∃ (s : State) (h : KlHead), s.dev.NoRemote ∧ s.dev.portLive h.port.val = true ∧ (s.dev.port h.port.val).rxSeq = some h.seq.toNat ∧ s.dev.kl.up = [] ∧ (∀ j : Fin 5, (s.dev.port j.val).queue = []) ∧ 2 ≤ h.port.val ∧ s.dev.klRole = 2 ∧ s.dev.upPort = none)
    ∧ (∃ (s : State) (h : KlHead), s.dev.NoRemote ∧ s.dev.portLive h.port.val = true ∧ (s.dev.port h.port.val).rxSeq = some h.seq.toNat ∧ s.dev.kl.up = [] ∧ (∀ j : Fin 5, (s.dev.port j.val).queue = []) ∧ 2 ≤ h.port.val ∧ s.dev.klRole = 1 ∧ s.dev.on fKlCtrlCensusAuto = false)
    ∧ (∃ (s : State), s.dev.NoRemote ∧ s.dev.klMember = false) :=
  ⟨⟨st ((ported (msged up 3) 2 2 0) |>.put fKlStatNumbered 1 |>.put fKlStatNumber 5 |>.put ⟨klCtrl, 19, 19⟩ 1), 3, by decide +kernel⟩,
   ⟨st ((ported (up) 1 2 5)), 3, by decide +kernel⟩,
   ⟨st ((ported (up) 2 0 5) |>.modKl (fun t => { t with unacked := [(9, 3, 1, kframe 0)] }) |>.wr (ringMtail 3) 2), khead 0, 10, 3, 9, 1, kframe 0, by decide +kernel⟩,
   ⟨st ((ported (up) 2 2 0) |>.modKl (fun t => { t with unacked := [(9, 3, 1, kframe 0)] })), by decide +kernel⟩,
   ⟨st ((ported (up) 1 2 5)), khead 2, 9, 0, by decide +kernel⟩,
   ⟨st ((ported (up) 1 2 5)), khead 2, 9, 1, by decide +kernel⟩,
   ⟨st ((ported (up) 2 2 5)), khead 2, by decide +kernel⟩,
   ⟨st ((ported (up) 1 2 5)), khead 2, by decide +kernel⟩,
   ⟨st ((ported (up) 1 2 5) |>.modKl (fun t => { t with acks := [9], expect := [(9, 7)] })), by decide +kernel⟩⟩

theorem test_CoherentGroups_meets :
    (∃ (s : State) (w : RegWrite) (finds : KlGroupFinds), s.dev.NoRemote ∧ s.dev.applies klCmd (fKlCmdAction.set w.value 4) w.be = true ∧ w.be = 0xF#4 ∧ s.dev.klRole = 1 ∧ s.dev.kl.table = [] ∧ finds.notIdle = [] ∧ finds.noProfile = [] ∧ finds.noPaths = [] ∧ s.dev.get fKlGroupId ≠ bitsOf ((fKlCmdAction).set w.value 4) 13 8)
    ∧ (∃ (s : State) (w : RegWrite) (finds : KlGroupFinds) (r : Fin 64) (t : List (Fin 64)), s.dev.NoRemote ∧ s.dev.applies klCmd (fKlCmdAction.set w.value 4) w.be = true ∧ w.be = 0xF#4 ∧ s.dev.klRole = 1 ∧ s.dev.kl.table = [] ∧ finds.notIdle = r :: t ∧ s.dev.on fCalStatBusy = false ∧ s.dev.get fKlGroupId ≠ bitsOf ((fKlCmdAction).set w.value 4) 13 8 ∧ s.dev.kl.again = false)
    ∧ (∃ (s : State) (m : KlGroupMeas), s.dev.NoRemote ∧ s.dev.on fCalStatBusy = false ∧ s.dev.klRole = 1 ∧ s.dev.get (fPsState 0x1C) = 2 ∧ s.dev.kl.again = false ∧ s.dev.kl.table = [] ∧ m.busy = none ∧ m.lost = none ∧ m.temp = none ∧ (∀ x ∈ m.diffs, (signedOf 16 x.2.toNat).natAbs ≤ 100))
    ∧ (∃ (s : State) (m : KlGroupMeas) (r : Fin 64), s.dev.NoRemote ∧ s.dev.on fCalStatBusy = false ∧ s.dev.klRole = 1 ∧ s.dev.get (fPsState 0x1C) = 2 ∧ s.dev.kl.again = false ∧ s.dev.kl.table = [] ∧ m.busy = some r)
    ∧ (∃ (s : State) (m : KlGroupMeas) (x : Fin 64 × BitVec 16) (t : List (Fin 64 × BitVec 16)), s.dev.NoRemote ∧ s.dev.on fCalStatBusy = false ∧ s.dev.klRole = 1 ∧ s.dev.get (fPsState 0x1C) = 2 ∧ s.dev.kl.again = false ∧ s.dev.kl.table = [] ∧ m.busy = none ∧ m.lost = none ∧ m.diffs = x :: t ∧ 100 < (signedOf 16 x.2.toNat).natAbs)
    ∧ (∃ (s : State), s.dev.NoRemote ∧ s.dev.applies klCmd (fKlCmdAction.set 0 6) 0xF#4 = true ∧ s.dev.get (fPsState 0x1C) = 2 ∧ s.dev.kl.again = false ∧ s.dev.on fCalStatBusy = false)
    ∧ (∃ (s : State), s.dev.NoRemote ∧ s.dev.applies klCmd (fKlCmdAction.set 0 6) 0xF#4 = true ∧ s.dev.get (fPsState 0x1C) ≠ 2)
    ∧ (∃ (s : State) (h : KlHead), s.dev.NoRemote ∧ s.dev.portLive h.port.val = true ∧ (s.dev.port h.port.val).rxSeq = some h.seq.toNat ∧ h.port.val < 2 ∧ s.dev.get fKlGroupId ≠ 0 ∧ s.dev.downPorts = [] ∧ s.dev.kl.up = [] ∧ (∀ j : Fin 5, (s.dev.port j.val).queue = []))
    ∧ (∃ (s : State) (h : KlHead), s.dev.NoRemote ∧ s.dev.portLive h.port.val = true ∧ (s.dev.port h.port.val).rxSeq = some h.seq.toNat ∧ h.port.val < 2 ∧ s.dev.get fKlGroupId ≠ 0 ∧ s.dev.downPorts = [] ∧ s.dev.kl.up = [] ∧ (∀ j : Fin 5, (s.dev.port j.val).queue = []) ∧ s.dev.carriersOff = true ∧ s.dev.cal.waits = [])
    ∧ (∃ (s : State), s.dev.NoRemote ∧ (s.dev.get fKlGroupStatState = 1 ∨ s.dev.get fKlGroupStatState = 2) ∧ (s.dev.get fKlStatSync = 4 ∨ (s.dev.get fKlStatSync = 3 ∧ s.dev.kl.holdSince + 102400 < s.dev.tide))) :=
  ⟨⟨st (up.put fKlStatRole 1), full 0x900, { notIdle := [], noProfile := [], noPaths := [] }, by decide +kernel⟩,
   ⟨st (up.put fKlStatRole 1), full 0x900, { notIdle := [5, 6], noProfile := [], noPaths := [] }, 5, [6], by decide +kernel⟩,
   ⟨st ((up.put fKlStatRole 1).put (fPsState 0x1C) 2), { diffs := [(3, 100)], temp := none, busy := none, lost := none, corr := 5, slope := 6 }, ⟨by decide +kernel, by decide +kernel, by decide +kernel, by decide +kernel, by decide +kernel, by decide +kernel, by decide +kernel, by decide +kernel, by decide +kernel, by simp [signedOf]⟩⟩,
   ⟨st ((up.put fKlStatRole 1).put (fPsState 0x1C) 2), { diffs := [(3, 100)], temp := none, busy := some 63, lost := none, corr := 5, slope := 6 }, 63, by decide +kernel⟩,
   ⟨st ((up.put fKlStatRole 1).put (fPsState 0x1C) 2), { diffs := [(3, 101), (4, 5)], temp := none, busy := none, lost := none, corr := 5, slope := 6 }, (3, 101), [(4, 5)], by decide +kernel⟩,
   ⟨st ((up.put fKlStatRole 1).put (fPsState 0x1C) 2), by decide +kernel⟩,
   ⟨st (up.put fKlStatRole 1), by decide +kernel⟩,
   ⟨st ((ported (up) 2 0 5) |>.put fKlGroupId 9), khead 0, by decide +kernel⟩,
   ⟨st ((ported (up) 2 0 5) |>.put fKlGroupId 9), khead 0, by decide +kernel⟩,
   ⟨st ((ported (up) 2 0 7) |>.put fKlGroupId 9 |>.put fKlGroupStatState 1 |>.put fKlStatSync 4), by decide +kernel⟩⟩

theorem test_LinkLanes_meets :
    (∃ (s : State) (l : Fin 5), s.dev.NoRemote ∧ s.dev.laneState l.val = 1)
    ∧ (∃ (s : State) (l : Fin 5), s.dev.NoRemote ∧ s.dev.laneState l.val = 2)
    ∧ (∃ (s : State) (l : Fin 5) (k : Fin 4), s.dev.NoRemote ∧ s.dev.laneState l.val = 3 ∧ l.val < 4 ∧ k.val ≠ l.val ∧ (s.dev.laneState k.val = 2 ∨ s.dev.laneState k.val = 3) ∧ s.dev.linkState = 1 ∧ s.dev.pl.retrain = false ∧ s.dev.laneAt l.val = 7)
    ∧ (∃ (s : State) (l : Fin 5), s.dev.NoRemote ∧ s.dev.laneState l.val = 3 ∧ l.val < 4 ∧ (∀ q : Fin 4, q.val ≠ l.val → s.dev.laneAt q.val = q.val ∧ s.dev.laneState q.val = 4) ∧ s.dev.linkState = 1 ∧ s.dev.pl.retrain = false ∧ s.dev.laneAt l.val = 7)
    ∧ (∃ (s : State) (l : Fin 5), s.dev.NoRemote ∧ s.dev.laneState l.val = 3 ∧ 2 ≤ s.dev.linkState ∧ (l.val < 4 ∨ s.dev.on fPlCtrlSpareEn = true))
    ∧ (∃ (s : State) (l : Fin 5) (pos : Fin 5), s.dev.NoRemote ∧ (s.dev.laneState l.val = 3 ∨ (s.dev.laneState l.val = 4 ∧ pos.val = s.dev.get (fPlLstatPos l.val))))
    ∧ (∃ (s : State) (l : Fin 5) (t : Fin 5) (p : Fin 4), s.dev.NoRemote ∧ s.dev.laneState l.val = 4 ∧ s.dev.standby = some t.val ∧ (∀ q : Fin 4, s.dev.laneAt q.val = l.val ↔ q = p))
    ∧ (∃ (s : State) (l : Fin 5) (p : Fin 4) (r : Fin 4), s.dev.NoRemote ∧ s.dev.laneState l.val = 4 ∧ s.dev.standby = none ∧ (∀ q : Fin 4, s.dev.laneAt q.val = l.val ↔ q = p) ∧ r ≠ p ∧ s.dev.laneAt r.val ≠ 7 ∧ 2 ≤ s.dev.linkState)
    ∧ (∃ (s : State) (l : Fin 5) (p : Fin 4) (now : Fin 5), s.dev.NoRemote ∧ s.dev.laneState l.val = 5 ∧ s.dev.laneAt p.val = now.val ∧ now ≠ l ∧ (∀ q : Fin 4, s.dev.laneAt q.val = now.val ↔ q = p))
    ∧ (∃ (s : State), s.dev.NoRemote ∧ s.dev.pl.retrain = true ∧ s.dev.pl.adm = [] ∧ s.dev.pl.queue = [])
    ∧ (∃ (s : State) (l : Fin 5), s.dev.NoRemote ∧ s.dev.laneState l.val = 6 ∧ s.dev.on (fPlLctrlEn l.val) = true ∧ s.dev.pl.recorded.getLsbD l.val = false ∧ s.dev.linkState ≠ 0)
    ∧ (∃ (s : State) (l : Fin 5) (k : Fin 5), s.dev.NoRemote ∧ s.dev.laneState l.val = 7 ∧ k ≠ l ∧ s.dev.laneState k.val ≠ 0 ∧ s.dev.linkState ≠ 0) :=
  ⟨⟨st ((((up.put (fPsState 0x1B) 1).wr plMap 1911).put (fPlLstatState 4) 1)), 4, by decide +kernel⟩,
   ⟨st ((((up.put (fPsState 0x1B) 1).wr plMap 1911).put (fPlLstatState 4) 2)), 4, by decide +kernel⟩,
   ⟨st (((((up.put (fPsState 0x1B) 1).wr plMap 4095).put (fPlLstatState 3) 3).put (fPlLstatState 1) 2)), 3, 1, by decide +kernel⟩,
   ⟨st (((((((up.put (fPsState 0x1B) 1).wr plMap 3720).put (fPlLstatState 3) 3).put (fPlLstatState 0) 4).put (fPlLstatState 1) 4).put (fPlLstatState 2) 4)), 3, by decide +kernel⟩,
   ⟨st (linked up 100 |>.put (fPlLstatState 4) 3 |>.put fPlCtrlSpareEn 1), 4, by decide +kernel⟩,
   ⟨st ((((up.put (fPsState 0x1B) 1).wr plMap 1911).put (fPlLstatState 4) 3)), 4, 2, by decide +kernel⟩,
   ⟨st (linked up 100), 2, 4, 2, by decide +kernel⟩,
   ⟨st (linked up 100 |>.put (fPlLstatState 4) 0), 2, 2, 3, by decide +kernel⟩,
   ⟨st (linked up 100), 4, 1, 1, by decide +kernel⟩,
   ⟨st (((((((up.put (fPsState 0x1B) 1).wr plMap 3720).put (fPlLstatState 0) 4).put (fPlLstatState 1) 4).put (fPlLstatState 2) 4).put (fPlLstatState 3) 6) |>.modPl (fun t => { t with retrain := true })), by decide +kernel⟩,
   ⟨st (linked up 100 |>.put (fPlLstatState 1) 6 |>.put (fPlLctrlEn 1) 1), 1, by decide +kernel⟩,
   ⟨st (linked up 100 |>.put (fPlLstatState 4) 7), 4, 0, by decide +kernel⟩⟩

theorem test_LinkTransfers_meets :
    (∃ (s : State) (seq : BitVec 16) (n : Fin 16) (slots : Nat) (x : PlPacket) (t : List PlPacket), s.dev.NoRemote ∧ s.dev.linkUp = true ∧ s.dev.pl.queue = [] ∧ s.dev.pl.replay = x :: t ∧ x.seq = seq.toNat ∧ x.ring = some (n.val, slots) ∧ x.relay = [] ∧ slots ≤ 65535 ∧ s.dev.man.queue = [] ∧ (s.dev.sess n.val).waiting = [])
    ∧ (∃ (s : State), s.dev.NoRemote ∧ s.dev.linkUp = true ∧ s.dev.pl.replay ≠ [])
    ∧ (∃ (s : State), s.dev.NoRemote ∧ s.dev.linkUp = true ∧ s.dev.pl.ackDue = true)
    ∧ (∃ (s : State), s.dev.NoRemote ∧ s.dev.linkUp = true ∧ s.dev.pl.creditDue = true)
    ∧ (∃ (s : State), s.dev.NoRemote ∧ s.dev.linkUp = true ∧ s.dev.pl.queue = [])
    ∧ (∃ (s : State) (v : Fin 4) (x : PlPacket), s.dev.NoRemote ∧ s.dev.linkUp = true ∧ s.dev.vcFront v.val = some x ∧ s.dev.get (fTxCred v.val) < plCost x.blocks ∧ x.since + 102400 ≤ s.dev.stamp)
    ∧ (∃ (s : State), s.dev.NoRemote ∧ s.dev.linkUp = true)
    ∧ (∃ (s : State) (seq : BitVec 16) (word : BitVec 24), s.dev.NoRemote ∧ s.dev.linkUp = true ∧ s.dev.pl.queue = [] ∧ s.dev.get (fTxCred 0) = 0 ∧ seq.toNat = s.dev.pl.rxSeq ∧ (4 * word.toNat) < 0x0100000)
    ∧ (∃ (s : State) (seq : BitVec 16), (s.dev.linkUp = false ∨ seq.toNat ≠ s.dev.pl.rxSeq))
    ∧ (∃ (s : State) (r : PlReq) (x : PlEntry), s.dev.kl.reqs = [] ∧ s.dev.linkUp = true ∧ s.dev.pl.queue = [] ∧ s.dev.get (fTxCred 0) = 0 ∧ s.dev.pl.reqs = [r] ∧ r.wait = .wpend ∧ r.entries = [x] ∧ r.done = [] ∧ r.device = 0)
    ∧ (∃ (s : State) (n : Fin 16), s.dev.NoRemote ∧ s.dev.linkUp = true ∧ s.dev.pl.queue = [] ∧ s.dev.get (fTxCred 2) = 0 ∧ s.dev.on ⟨plMsgCfg, n.val, n.val⟩ = true ∧ (s.dev.nextMsgs n.val 8192 128) ≠ [])
    ∧ (∃ (s : State) (m : Nat × List Byte × Nat × Nat), s.dev.NoRemote ∧ s.dev.linkUp = true ∧ s.dev.pl.queue = [] ∧ s.dev.get (fTxCred 2) = 0 ∧ s.dev.kl.accepted = [m] ∧ m.2.1.length ≤ 8192)
    ∧ (∃ (s : State), s.dev.NoRemote ∧ s.dev.linkUp = true ∧ s.dev.pl.adm.contains .path = true)
    ∧ (∃ (s : State), s.dev.NoRemote ∧ s.dev.linkUp = true ∧ s.dev.pl.queue = [] ∧ s.dev.get (fTxCred 3) = 0 ∧ s.dev.pl.adm.contains .path = true)
    ∧ (∃ (s : State) (w : RegWrite), s.dev.NoRemote ∧ s.dev.applies plStreamCtrl w.value w.be = true ∧ w.be = 0xF#4 ∧ w.value.getLsbD 0 = true ∧ w.value.getLsbD 4 = false ∧ s.dev.on fPlStreamCtrlPathEn = false ∧ s.dev.on fPlStreamCtrlBeamEn = false ∧ s.dev.pl.adm = [] ∧ 49344 ≤ s.dev.plBudget)
    ∧ (∃ (s : State) (w : RegWrite), s.dev.NoRemote ∧ s.dev.applies plStreamCtrl w.value w.be = true ∧ w.be = 0xF#4 ∧ w.value.getLsbD 0 = true ∧ w.value.getLsbD 4 = false ∧ s.dev.on fPlStreamCtrlPathEn = false ∧ s.dev.on fPlStreamCtrlBeamEn = false ∧ s.dev.pl.adm = [] ∧ s.dev.plBudget < 49344)
    ∧ (∃ (s : State), s.dev.NoRemote ∧ s.dev.linkUp = true ∧ s.dev.pl.queue = [] ∧ s.dev.get (fTxCred 1) = 0 ∧ s.dev.linkNew ≠ 0 ∧ s.dev.pl.lastInt = none) :=
  ⟨⟨st (linked up 100 |>.modPl (fun t => { t with replay := [{ packet 9 with ring := some (3, 1) }, packet 10] }) |>.wr (ringMtail 3) 2), 9, 3, 1, { packet 9 with ring := some (3, 1) }, [packet 10], by decide +kernel⟩,
   ⟨st (linked up 100 |>.modPl (fun t => { t with replay := [packet 9, packet 10] })), by decide +kernel⟩,
   ⟨st (linked up 100 |>.modPl (fun t => { t with ackDue := true, rxSeq := 0 })), by decide +kernel⟩,
   ⟨st (linked up 100 |>.modPl (fun t => { t with creditDue := true, given := #v[1, 2, 3, 4] })), by decide +kernel⟩,
   ⟨st (linked up 100), by decide +kernel⟩,
   ⟨st (linked up 100 |>.modPl (fun t => { t with queue := [{ packet 9 with since := 0 }] }) |>.setTide 102400 |>.put (fTxCred 2) 0), 2, { packet 9 with since := 0 }, by decide +kernel⟩,
   ⟨st (linked up 100), by decide +kernel⟩,
   ⟨st (linked up 0), 0, 0x123, by decide +kernel⟩,
   ⟨st (linked up 100), 1, by decide +kernel⟩,
   ⟨st (linked up 0 |>.modPl (fun t => { t with reqs := [{ tag := 5, device := 0, entries := [{ op := 1, addr := 0x123, data := 7 }], wait := .wpend }] })), { tag := 5, device := 0, entries := [{ op := 1, addr := 0x123, data := 7 }], wait := .wpend }, { op := 1, addr := 0x123, data := 7 }, by decide +kernel⟩,
   ⟨st (linked (msged up 3) 0 |>.wr plMsgCfg 0xFFFF), 3, by decide +kernel⟩,
   ⟨st (linked up 0 |>.modKl (fun t => { t with accepted := [(9, List.replicate 64 1, 2, 10)] })), (9, List.replicate 64 1, 2, 10), by decide +kernel⟩,
   ⟨st (linked up 100 |>.modPl (fun t => { t with adm := [.path] })), by decide +kernel⟩,
   ⟨st (linked up 0 |>.modPl (fun t => { t with adm := [.beam, .path] })), by decide +kernel⟩,
   ⟨st (linked up 100), full 0x1, by decide +kernel⟩,
   ⟨st (linked up 100 |>.put fPlCapCap 1000), full 0x1, by decide +kernel⟩,
   ⟨st { linked up 0 with linkNew := 5 }, by decide +kernel⟩⟩

theorem test_ResetReaches_meets :
    (∃ (s : State), s.dev.NoRemote ∧ s.dev.rst.asserted = [])
    ∧ (∃ (s : State), s.dev.NoRemote ∧ s.dev.rst.asserted = [] ∧ s.dev.on fRstWdogCfgEn = true ∧ s.dev.frozen = false ∧ s.dev.rst.step = .done ∧ s.dev.optRun = 0)
    ∧ (∃ (s : State), s.dev.NoRemote ∧ s.dev.on fRstWdogCfgEn = false)
    ∧ (∃ (s : State), s.dev.NoRemote ∧ s.dev.on fRstWdogCfgEn = true ∧ s.dev.frozen = false)
    ∧ (∃ (s : State), s.dev.NoRemote ∧ s.dev.applies sysCtrl (fSysCtrlChipRst.set 0 1) 0xF#4 = true ∧ s.dev.rst.asserted = [] ∧ s.dev.rst.step = .done ∧ s.dev.optRun = 0)
    ∧ (∃ (s : State) (h : KlHead), s.dev.NoRemote ∧ s.dev.rst.asserted = [] ∧ s.dev.rst.step = .done ∧ s.dev.optRun = 0 ∧ s.dev.portLive h.port.val = true ∧ (s.dev.port h.port.val).rxSeq = some h.seq.toNat)
    ∧ (∃ (s : State), s.dev.NoRemote ∧ s.dev.rst.asserted ≠ [] ∧ s.dev.rst.full = true ∧ s.dev.rst.asserted.contains .aonPor = false ∧ s.dev.pwr.phase ≠ .laidUp)
    ∧ (∃ (s : State), s.dev.NoRemote ∧ s.dev.rst.asserted ≠ [] ∧ s.dev.rst.full = false ∧ s.dev.rst.asserted.contains .aonPor = false ∧ s.dev.pwr.phase ≠ .laidUp)
    ∧ (∃ (s : State), s.dev.NoRemote ∧ s.dev.rst.past100 = false) :=
  ⟨⟨st (up), by decide +kernel⟩,
   ⟨st (up.put fRstWdogCfgEn 1 |>.put fRstWdogCfgPeriod 0xFFFF), by decide +kernel⟩,
   ⟨st (up), by decide +kernel⟩,
   ⟨st (up.put fRstWdogCfgEn 1 |>.put fRstWdogCfgPeriod 0xFFFF), by decide +kernel⟩,
   ⟨st (up), by decide +kernel⟩,
   ⟨st ((ported (up) 2 0 5)), khead 0, by decide +kernel⟩,
   ⟨st (reset up (fun t => { t with asserted := [.rstPin], full := true, step := .inReset })), by decide +kernel⟩,
   ⟨st (reset up (fun t => { t with asserted := [.chipRst], full := false, step := .inReset })), by decide +kernel⟩,
   ⟨st (reset up (fun t => { t with past100 := false, rstoutHigh := false })), by decide +kernel⟩⟩

theorem test_StartUp_meets :
    (∃ (s : State), s.dev.NoRemote ∧ s.dev.rst.step = .straps)
    ∧ (∃ (s : State), s.dev.NoRemote ∧ s.dev.rst.asserted = [] ∧ s.dev.rst.step = .synthP ∧ bitsOf (s.dev.rd rstStraps) 19 16 < 4 ∧ s.dev.on fSynStatPLock = false ∧ s.dev.pwr.phase = .awake ∧ (s.dev.island 1).held = true)
    ∧ (∃ (s : State), s.dev.NoRemote ∧ s.dev.on fSynStatPLock = true)
    ∧ (∃ (s : State), s.dev.NoRemote ∧ (s.dev.island 1).held = true ∧ (s.dev.island 1).pending = true ∧ s.dev.clockGood 1 = true ∧ s.dev.pwr.phase ≠ .exiting ∧ s.dev.pwr.bridging = false)
    ∧ (∃ (s : State), s.dev.NoRemote ∧ (s.dev.island 0).held = true ∧ (s.dev.island 0).pending = true ∧ s.dev.clockGood 0 = true ∧ s.dev.pwr.phase ≠ .exiting ∧ s.dev.pwr.bridging = false)
    ∧ (∃ (s : State) (k : Fin 4), s.dev.NoRemote ∧ (s.dev.island k.val).held = true ∧ s.dev.clockGood k.val = false)
    ∧ (∃ (s : State), s.dev.NoRemote ∧ (s.dev.island 2).held = true ∧ (s.dev.island 2).pending = true ∧ s.dev.clockGood 2 = true ∧ s.dev.pwr.phase ≠ .exiting ∧ s.dev.pwr.bridging = false)
    ∧ (∃ (s : State) (p : Fin 256), s.dev.NoRemote ∧ s.dev.on (fPsReleasePending p.val) = true ∧ s.dev.pageClock p.val = true ∧ (s.dev.island (islandOf p.val)).held = false ∧ s.dev.on (fPcEn p.val) = false)
    ∧ (∃ (s : State) (k : Fin 5) (good : Bool), s.dev.NoRemote ∧ 2 ≤ k.val ∧ k.val ≤ 3 ∧ (s.dev.rst.sLockedOnce = true ∨ good = false))
    ∧ (∃ (s : State), s.dev.NoRemote ∧ s.dev.rst.step = .optionLoad ∧ s.dev.rst.full = true ∧ s.dev.klRole = 0 ∧ (s.dev.island 0).held = true ∧ (s.dev.island 2).held = true ∧ (s.dev.island 3).held = true)
    ∧ (∃ (s : State) (a : List Byte), s.dev.NoRemote ∧ s.dev.get fSysStatBoot = 0 ∧ s.dev.rst.step = .done ∧ (s.dev.island 1).held = false ∧ s.dev.get fSysStatSource < 2 ∧ s.dev.wornCheck ((padTo 65536 a).take 65536) 1 65536 = 1 ∧ s.dev.get fSysStatSource = 0 ∧ (∀ p : Fin 20, s.dev.pilState p.val = 0))
    ∧ (∃ (s : State) (a : List Byte) (b : List Byte), s.dev.NoRemote ∧ s.dev.get fSysStatBoot = 0 ∧ s.dev.rst.step = .done ∧ (s.dev.island 1).held = false ∧ s.dev.get fSysStatSource < 2 ∧ s.dev.wornCheck ((padTo 65536 a).take 65536) 1 65536 ≠ 1 ∧ s.dev.wornCheck ((padTo 65536 b).take 65536) 1 65536 ≠ 1) :=
  ⟨⟨st (booting .straps true), by decide +kernel⟩,
   ⟨st (booting .synthP true), by decide +kernel⟩,
   ⟨st (up.put fSynStatPLock 1 |>.put fSynStatSLock 1), by decide +kernel⟩,
   ⟨st (reset ({ up with isl := up.isl.setIfInBounds 1 { held := true, pending := true } }) (fun t => { t with step := .pilotRelease })), by decide +kernel⟩,
   ⟨st ({ up with isl := up.isl.setIfInBounds 0 { held := true, pending := true } }), by decide +kernel⟩,
   ⟨st ({ { up with isl := up.isl.setIfInBounds 3 { held := true, pending := true } } with free := 3 } |>.put ⟨clkGood, 3, 3⟩ 0), 3, by decide +kernel⟩,
   ⟨st ({ up with isl := up.isl.setIfInBounds 2 { held := true, pending := true } } |>.setTide 500), by decide +kernel⟩,
   ⟨st (up.put (fPsReleasePending 0x8F) 1), 0x8F, by decide +kernel⟩,
   ⟨st (up), 3, false, by decide +kernel⟩,
   ⟨st (booting .optionLoad true), by decide +kernel⟩,
   ⟨st ({ up with bootCfg := { keyHash := some bootKeyHash } }), bootImage, by decide +kernel⟩,
   ⟨st (up), [1, 2], [], by decide +kernel⟩⟩

theorem test_OptionMemory_meets :
    (∃ (s : State), s.dev.NoRemote ∧ s.dev.applies optCmd (fOptCmdAction.set 0 1) 0xF#4 = true)
    ∧ (∃ (s : State), s.dev.NoRemote ∧ s.dev.optRun = 1)
    ∧ (∃ (s : State), s.dev.NoRemote ∧ s.dev.applies optCmd (fOptCmdAction.set 0 2) 0xF#4 = true ∧ s.dev.optCheck ≠ 1)
    ∧ (∃ (s : State), s.dev.NoRemote ∧ s.dev.applies optCmd (fOptCmdAction.set 0 2) 0xF#4 = true ∧ s.dev.optCheck = 1)
    ∧ (∃ (s : State), s.dev.NoRemote ∧ s.dev.optRun = 2)
    ∧ (∃ (s : State), s.dev.NoRemote ∧ s.dev.hostReady = true ∧ s.dev.pwr.phase = .awake ∧ s.dev.pageOff 0x07 = false ∧ s.dev.pageInReset 0x07 = false ∧ s.dev.optRun = 0)
    ∧ (∃ (s : State) (w : RegWrite), s.dev.NoRemote ∧ s.dev.applies optImgData w.value w.be = true ∧ w.be = 0xF#4)
    ∧ (∃ (s : State), s.dev.NoRemote ∧ s.dev.applies rstWdogKick (fRstWdogKickKey.set 0 0xA5) 0xF#4 = true) :=
  ⟨⟨st (up.wr optSector 64), by decide +kernel⟩,
   ⟨st ({ up with optRun := 1 } |>.wr optSector 127), by decide +kernel⟩,
   ⟨st (up), by decide +kernel⟩,
   ⟨st ({ up with optStage := writeBytes zeroByte up.optStage 0 optionImage, bootCfg := { keyHash := some optionKeyHash } }), by decide +kernel⟩,
   ⟨st ({ ({ up with optStage := writeBytes zeroByte up.optStage 0 optionImage, bootCfg := { keyHash := some optionKeyHash } } : Device) with optRun := 2 }), by decide +kernel⟩,
   ⟨st (up.wr optAddr 8188), by decide +kernel⟩,
   ⟨st (up.wr optImgAddr 8188), full 0x12345678, by decide +kernel⟩,
   ⟨st (up.put fRstWdogCfgPeriod 77), by decide +kernel⟩⟩

theorem test_SleepAndWake_meets :
    (∃ (s : State), s.dev.NoRemote ∧ s.dev.applies pwrCmd (fPwrCmdAction.set 0 1) 0xF#4 = true)
    ∧ (∃ (s : State), s.dev.NoRemote ∧ s.dev.applies pwrCmd (fPwrCmdAction.set 0 2) 0xF#4 = true)
    ∧ (∃ (s : State), s.dev.NoRemote ∧ s.dev.pwr.phase = .prepare)
    ∧ (∃ (s : State), s.dev.NoRemote ∧ s.dev.pwr.phase = .prepared)
    ∧ (∃ (s : State), s.dev.NoRemote ∧ s.dev.pwr.phase = .window ∧ s.dev.pwr.layUp = false ∧ s.dev.pwr.latched = 0 ∧ s.dev.wakeLevels = 0)
    ∧ (∃ (s : State), s.dev.NoRemote ∧ s.dev.pwr.phase = .window ∧ s.dev.pwr.layUp = false ∧ s.dev.pwr.latched ≠ 0)
    ∧ (∃ (s : State), s.dev.NoRemote ∧ s.dev.pwr.phase = .window ∧ s.dev.pwr.layUp = true)
    ∧ (∃ (s : State), s.dev.NoRemote ∧ (s.dev.rd pwrWakeEn).getLsbD 8 = true ∧ (s.dev.pwr.phase = .prepare ∨ s.dev.pwr.phase = .prepared))
    ∧ (∃ (s : State), s.dev.NoRemote ∧ (s.dev.rd pwrWakeEn).getLsbD 9 = true ∧ s.dev.pwr.phase = .window)
    ∧ (∃ (s : State) (k : Fin 4) (high : Bool), s.dev.NoRemote ∧ (s.dev.rd pwrWakeEn).getLsbD k.val = true ∧ s.dev.pwr.phase = .moored ∧ s.dev.wakePin k.val ≠ high ∧ s.dev.wakeMode k.val = (if high then 2 else 3))
    ∧ (∃ (s : State), s.dev.NoRemote ∧ s.dev.pwr.phase = .moored ∧ (s.dev.rd pwrSleepTimer).toNat % 2 ^ 24 ≠ 0 ∧ (s.dev.rd pwrWakeEn).getLsbD 5 = true)
    ∧ (∃ (s : State), s.dev.NoRemote ∧ s.dev.pwr.phase = .moored ∧ (s.dev.pwr.edges ||| s.dev.wakeLevels) ≠ 0 ∧ (∀ i : Fin 4, (s.dev.island i.val).held = true))
    ∧ (∃ (s : State), s.dev.NoRemote ∧ s.dev.pwr.phase ≠ .moored) :=
  ⟨⟨st (up.wr pwrWakeEn 1), by decide +kernel⟩,
   ⟨st (up), by decide +kernel⟩,
   ⟨st (asleep up .prepare |>.setTide 77), by decide +kernel⟩,
   ⟨st (asleep up .prepared), by decide +kernel⟩,
   ⟨st (asleep up .window), by decide +kernel⟩,
   ⟨st ({ up with pwr := { phase := .window, latched := 0x20 } }), by decide +kernel⟩,
   ⟨st ({ up with pwr := { phase := .window, layUp := true } }), by decide +kernel⟩,
   ⟨st (asleep up .prepare |>.wr pwrWakeEn 0x100), by decide +kernel⟩,
   ⟨st (asleep up .window |>.wr pwrWakeEn 0x200), by decide +kernel⟩,
   ⟨st (asleep up .moored |>.wr pwrWakeEn 0x8 |>.put ⟨pwrWakeCfg, 7, 6⟩ 2), 3, true, by decide +kernel⟩,
   ⟨st (asleep up .moored |>.wr pwrWakeEn 0x20 |>.wr pwrSleepTimer 5), by decide +kernel⟩,
   ⟨st ({ up with isl := Vector.replicate 5 { held := true }, pwr := { phase := .moored, edges := 0x20 } }), by decide +kernel⟩,
   ⟨st (up), by decide +kernel⟩⟩

theorem test_HarbourWatch_meets :
    (∃ (s : State), s.dev.NoRemote ∧ s.dev.applies (Fld.reg fWatchCtrlEn) (fWatchCtrlEn.set (s.dev.mirrored (Fld.reg fWatchCtrlEn)) 1) 0xF#4 = true ∧ s.dev.watchState = 0 ∧ s.dev.watchBarred = false)
    ∧ (∃ (s : State), s.dev.NoRemote ∧ s.dev.applies (Fld.reg fWatchCtrlEn) (fWatchCtrlEn.set (s.dev.mirrored (Fld.reg fWatchCtrlEn)) 0) 0xF#4 = true ∧ s.dev.on fWatchCtrlEn = true ∧ s.dev.watch.looking = false ∧ s.dev.watchBarred = false)
    ∧ (∃ (s : State), s.dev.NoRemote ∧ s.dev.applies (Fld.reg fWatchCtrlEn) (fWatchCtrlEn.set (s.dev.mirrored (Fld.reg fWatchCtrlEn)) 0) 0xF#4 = true ∧ s.dev.on fWatchCtrlEn = true ∧ s.dev.watch.looking = true ∧ 1 ≤ s.dev.watchState ∧ s.dev.watchState ≤ 3 ∧ s.dev.watchBarred = false)
    ∧ (∃ (s : State), s.dev.NoRemote ∧ 1 ≤ s.dev.watchState ∧ s.dev.watchState ≤ 3 ∧ s.dev.watch.looking = false ∧ s.dev.pwr.phase ≠ .laidUp ∧ s.dev.watchBarred = false)
    ∧ (∃ (s : State), s.dev.NoRemote ∧ s.dev.watch.looking = true ∧ s.dev.watch.stopDue = false ∧ s.dev.watchBarred = false ∧ s.dev.watchState = 1 ∧ s.dev.watch.looks + 1 < s.dev.get fWatchDetLearn)
    ∧ (∃ (s : State) (r : Word) (m : Int) (n : Int), s.dev.NoRemote ∧ s.dev.watch.looking = true ∧ s.dev.watch.stopDue = false ∧ s.dev.watchBarred = false ∧ s.dev.watchState = 1 ∧ s.dev.watch.looks + 1 = s.dev.get fWatchDetLearn ∧ s.dev.watch.sumI + (r.extractLsb' 0 16).toInt = m * (s.dev.watch.looks + 1) ∧ s.dev.watch.sumQ + (r.extractLsb' 16 16).toInt = n * (s.dev.watch.looks + 1) ∧ m.natAbs < 32768 ∧ n.natAbs < 32768)
    ∧ (∃ (s : State) (r : Word), s.dev.NoRemote ∧ s.dev.watch.looking = true ∧ s.dev.watch.stopDue = false ∧ s.dev.watchBarred = false ∧ s.dev.watchState = 2 ∧ (s.dev.changeOf ((((r.extractLsb' 0 16).toInt - s.dev.getS fWatchBaseI) * ((r.extractLsb' 0 16).toInt - s.dev.getS fWatchBaseI) + ((r.extractLsb' 16 16).toInt - s.dev.getS fWatchBaseQ) * ((r.extractLsb' 16 16).toInt - s.dev.getS fWatchBaseQ)).toNat) ((s.dev.getS fWatchBaseI * s.dev.getS fWatchBaseI + s.dev.getS fWatchBaseQ * s.dev.getS fWatchBaseQ).toNat)).1 ≤ fxOf (25 * (s.dev.get fWatchDetThr : Int)) + fxEps ∧ s.dev.get fWatchStatRun + 1 < s.dev.get fWatchDetConfirm)
    ∧ (∃ (s : State) (r : Word), s.dev.NoRemote ∧ s.dev.watch.looking = true ∧ s.dev.watch.stopDue = false ∧ s.dev.watchBarred = false ∧ s.dev.watchState = 2 ∧ (s.dev.changeOf ((((r.extractLsb' 0 16).toInt - s.dev.getS fWatchBaseI) * ((r.extractLsb' 0 16).toInt - s.dev.getS fWatchBaseI) + ((r.extractLsb' 16 16).toInt - s.dev.getS fWatchBaseQ) * ((r.extractLsb' 16 16).toInt - s.dev.getS fWatchBaseQ)).toNat) ((s.dev.getS fWatchBaseI * s.dev.getS fWatchBaseI + s.dev.getS fWatchBaseQ * s.dev.getS fWatchBaseQ).toNat)).1 ≤ fxOf (25 * (s.dev.get fWatchDetThr : Int)) + fxEps ∧ s.dev.get fWatchStatRun + 1 = s.dev.get fWatchDetConfirm)
    ∧ (∃ (s : State) (r : Word), s.dev.NoRemote ∧ s.dev.watch.looking = true ∧ s.dev.watch.stopDue = false ∧ s.dev.watchBarred = false ∧ s.dev.watchState = 3 ∧ fxOf (25 * (s.dev.get fWatchDetThr : Int) + 300) - fxEps ≤ (s.dev.changeOf ((((r.extractLsb' 0 16).toInt - s.dev.getS fWatchBaseI) * ((r.extractLsb' 0 16).toInt - s.dev.getS fWatchBaseI) + ((r.extractLsb' 16 16).toInt - s.dev.getS fWatchBaseQ) * ((r.extractLsb' 16 16).toInt - s.dev.getS fWatchBaseQ)).toNat) ((s.dev.getS fWatchBaseI * s.dev.getS fWatchBaseI + s.dev.getS fWatchBaseQ * s.dev.getS fWatchBaseQ).toNat)).1 ∧ s.dev.get fWatchStatRun + 1 = s.dev.get fWatchDetQuiet) :=
  ⟨⟨st ((ruled (up.put fWatchCtrlCh 57)).mirrorAll), by decide +kernel⟩,
   ⟨st ({ up with watch := { } } |>.put fWatchStatState 2 |>.put fWatchCtrlEn 1), by decide +kernel⟩,
   ⟨st ({ up with watch := { looking := true } } |>.put fWatchStatState 3 |>.put fWatchCtrlEn 1), by decide +kernel⟩,
   ⟨st ({ up with watch := { } } |>.put fWatchStatState 1 |>.put fWatchCtrlEn 1), by decide +kernel⟩,
   ⟨st ({ up with watch := { looking := true } } |>.put fWatchStatState 1 |>.put fWatchCtrlEn 1 |>.put fWatchDetLearn 4 |>.put fWatchDetConfirm 2 |>.put fWatchDetQuiet 2 |>.put fWatchDetThr 10), by decide +kernel⟩,
   ⟨st ({ up with watch := { looking := true, looks := 3, sumI := 1, sumQ := -8 } } |>.put fWatchStatState 1 |>.put fWatchCtrlEn 1 |>.put fWatchDetLearn 4 |>.put fWatchDetConfirm 2 |>.put fWatchDetQuiet 2 |>.put fWatchDetThr 10), 0x00000003, 1, -2, by decide +kernel⟩,
   ⟨st ({ up with watch := { looking := true } } |>.put fWatchStatState 2 |>.put fWatchCtrlEn 1 |>.put fWatchDetLearn 4 |>.put fWatchDetConfirm 2 |>.put fWatchDetQuiet 2 |>.put fWatchDetThr 10 |>.putS fWatchBaseI 100 |>.putS fWatchBaseQ (-100)), 0, by decide +kernel⟩,
   ⟨st ({ up with watch := { looking := true } } |>.put fWatchStatState 2 |>.put fWatchCtrlEn 1 |>.put fWatchDetLearn 4 |>.put fWatchDetConfirm 2 |>.put fWatchDetQuiet 2 |>.put fWatchDetThr 10 |>.putS fWatchBaseI 100 |>.putS fWatchBaseQ (-100) |>.put fWatchStatRun 1), 0x7FFF7FFF, by decide +kernel⟩,
   ⟨st ({ up with watch := { looking := true } } |>.put fWatchStatState 3 |>.put fWatchCtrlEn 1 |>.put fWatchDetLearn 4 |>.put fWatchDetConfirm 2 |>.put fWatchDetQuiet 2 |>.put fWatchDetThr 10 |>.putS fWatchBaseI 100 |>.putS fWatchBaseQ (-100) |>.put fWatchStatRun 1), 0xFF9C0064, by decide +kernel⟩⟩

theorem test_RealTimeClock_meets :
    (∃ (s : State), s.dev.NoRemote ∧ s.dev.rtcCounts = true)
    ∧ (∃ (s : State), s.dev.NoRemote ∧ s.dev.rtcCounts = true ∧ 1 ≤ s.dev.get fRtcWakePeriod ∧ s.dev.get fRtcWakePeriod ≤ s.dev.rtc.wakeCount + 1 ∧ s.dev.rtc.wakeRestart = false)
    ∧ (∃ (s : State), s.dev.NoRemote ∧ s.dev.rtcCounts = true ∧ s.dev.rtc.wakeCount + 1 < s.dev.get fRtcWakePeriod ∧ s.dev.rtc.wakeRestart = false)
    ∧ (∃ (s : State), s.dev.NoRemote ∧ s.dev.rtcCounts = false)
    ∧ (∃ (s : State), s.dev.NoRemote ∧ s.dev.applies (Fld.reg fRtcCtrlHalt) (fRtcCtrlHalt.set (s.dev.mirrored (Fld.reg fRtcCtrlHalt)) 1) 0xF#4 = true)
    ∧ (∃ (s : State), s.dev.NoRemote ∧ s.dev.applies (Fld.reg fRtcCtrlHalt) (fRtcCtrlHalt.set (s.dev.mirrored (Fld.reg fRtcCtrlHalt)) 0) 0xF#4 = true ∧ s.dev.on fRtcCtrlHalt = true)
    ∧ (∃ (s : State) (w : RegWrite), s.dev.NoRemote ∧ s.dev.applies rtcTime w.value w.be = true ∧ w.be = 0xF#4)
    ∧ (∃ (s : State) (w : RegWrite), s.dev.NoRemote ∧ s.dev.applies rtcDate w.value w.be = true ∧ w.be = 0xF#4)
    ∧ (∃ (s : State) (w : RegWrite), s.dev.NoRemote ∧ s.dev.applies rtcWake w.value w.be = true ∧ w.be = 0xF#4)
    ∧ (∃ (s : State), s.dev.NoRemote ∧ s.dev.hostReady = true ∧ s.dev.pwr.phase = .awake ∧ s.dev.pageOff 0x08 = false ∧ s.dev.pageInReset 0x08 = false)
    ∧ (∃ (s : State) (t : BitVec 16), s.dev.NoRemote ∧ s.dev.rtc.curve = [] ∧ s.dev.frozen = false ∧ -128 ≤ t.toInt ∧ t.toInt ≤ 127 ∧ s.dev.rtc.trimNow.natAbs ≤ 20000)
    ∧ (∃ (s : State), s.dev.NoRemote)
    ∧ (∃ (s : State), s.dev.NoRemote ∧ s.dev.on fRtcStatOnBackup = true)
    ∧ (∃ (s : State), s.dev.NoRemote ∧ s.dev.on fRtcStatOnBackup = false) :=
  ⟨⟨st (up.wr rtcTime 0x235959 |>.wr rtcDate 0x20991231), by decide +kernel⟩,
   ⟨st ({ up with rtc := { wakeCount := 59 } } |>.put fRtcWakePeriod 60), by decide +kernel⟩,
   ⟨st ({ up with rtc := { wakeCount := 58 } } |>.put fRtcWakePeriod 60), by decide +kernel⟩,
   ⟨st (up.put fRtcCtrlHalt 1), by decide +kernel⟩,
   ⟨st (up), by decide +kernel⟩,
   ⟨st ((up.put fRtcCtrlHalt 1).mirrorAll |>.put fRtcSubsecCount 99), by decide +kernel⟩,
   ⟨st (up.put fRtcCtrlHalt 1), full 0x06235959, by decide +kernel⟩,
   ⟨st (up.put fRtcCtrlHalt 1), full 0x20240229, by decide +kernel⟩,
   ⟨st (up), full 0xFFFF, by decide +kernel⟩,
   ⟨st (up.wr rtcTime 0x06235959), by decide +kernel⟩,
   ⟨st ({ up with rtc := { trimNow := -20000 } }), 0xFF80, by decide +kernel⟩,
   ⟨st (up), by decide +kernel⟩,
   ⟨st (up.put fRtcStatOnBackup 1), by decide +kernel⟩,
   ⟨st (up.put fRtcStatLockout 1), by decide +kernel⟩⟩

theorem test_TimersCount_meets :
    (∃ (s : State) (k : Fin 16) (w : RegWrite), s.dev.NoRemote ∧ s.dev.applies (Fld.reg (tmF fTmCtrlEn k.val)) (Fld.set (tmF fTmCtrlEn k.val) w.value 1) w.be = true ∧ w.be = 0xF#4 ∧ s.dev.on (tmF fTmCtrlEn k.val) = false)
    ∧ (∃ (s : State) (k : Fin 16) (w : RegWrite), s.dev.NoRemote ∧ s.dev.applies (Fld.reg (tmF fTmCtrlEn k.val)) (Fld.set (tmF fTmCtrlEn k.val) w.value 0) w.be = true ∧ w.be = 0xF#4 ∧ s.dev.on (tmF fTmCtrlEn k.val) = true)
    ∧ (∃ (s : State) (k : Fin 16) (pg : Fin 2) (w : RegWrite), s.dev.NoRemote ∧ s.dev.applies (tmStart pg.val) w.value w.be = true ∧ w.be = 0xF#4 ∧ pg.val = 0 ∧ w.value.getLsbD k.val = true ∧ s.dev.on (tmF fTmCtrlEn k.val) = false)
    ∧ (∃ (s : State) (k : Fin 16) (pg : Fin 2) (w : RegWrite), s.dev.NoRemote ∧ s.dev.applies (tmStop pg.val) w.value w.be = true ∧ w.be = 0xF#4 ∧ pg.val = 0 ∧ w.value.getLsbD k.val = true)
    ∧ (∃ (s : State) (k : Fin 16), s.dev.NoRemote ∧ s.dev.on (tmF fTmCtrlEn k.val) = true ∧ s.dev.get (tmF fTmCtrlSrc k.val) = 0 ∧ s.dev.on (tmF fTmStatGated k.val) = false ∧ s.dev.frozen = false ∧ s.dev.pageLive (0x0A + tmPage k.val) = true ∧ 2 ^ s.dev.get (tmF fTmCtrlPre k.val) ≤ (s.dev.timer k.val).pre + 1 ∧ 1 ≤ s.dev.tmCnt k.val ∧ s.dev.tmCnt k.val < (s.dev.rd (tmW tmPeriod k.val)).toNat ∧ s.dev.on (tmF fTmStatDir k.val) = false ∧ k.val < 8 ∧ (s.dev.timer k.val).matched = true)
    ∧ (∃ (s : State) (k : Fin 16), s.dev.NoRemote ∧ s.dev.on (tmF fTmCtrlEn k.val) = true ∧ s.dev.get (tmF fTmCtrlSrc k.val) = 0 ∧ s.dev.on (tmF fTmStatGated k.val) = false ∧ s.dev.frozen = false ∧ s.dev.pageLive (0x0A + tmPage k.val) = true ∧ 2 ^ s.dev.get (tmF fTmCtrlPre k.val) ≤ (s.dev.timer k.val).pre + 1 ∧ 1 ≤ s.dev.tmCnt k.val ∧ 8 ≤ k.val ∧ (s.dev.timer k.val).matched = true)
    ∧ (∃ (s : State) (k : Fin 16), s.dev.NoRemote ∧ s.dev.on (tmF fTmCtrlEn k.val) = true ∧ s.dev.get (tmF fTmCtrlSrc k.val) = 0 ∧ s.dev.on (tmF fTmStatGated k.val) = true ∧ (s.dev.timer k.val).matched = true ∧ 1 ≤ s.dev.tmCnt k.val ∧ (s.dev.tmCnt k.val < (s.dev.rd (tmW tmPeriod k.val)).toNat ∨ 8 ≤ k.val))
    ∧ (∃ (s : State) (k : Fin 16), s.dev.NoRemote ∧ s.dev.on (tmF fTmCtrlEn k.val) = true ∧ k.val < 8 ∧ s.dev.on (tmF fTmStatDir k.val) = false ∧ (s.dev.rd (tmW tmPeriod k.val)).toNat ≤ s.dev.tmCnt k.val ∧ (s.dev.timer k.val).matched = true)
    ∧ (∃ (s : State) (k : Fin 16), s.dev.NoRemote ∧ s.dev.on (tmF fTmCtrlEn k.val) = true ∧ 8 ≤ k.val ∧ s.dev.tmCnt k.val = 0 ∧ (s.dev.timer k.val).matched = true ∧ (s.dev.timer k.val).turned = false ∧ tmInst k.val = 7)
    ∧ (∃ (s : State) (k : Fin 16), s.dev.NoRemote ∧ s.dev.on (tmF fTmCtrlEn k.val) = true ∧ k.val < 8 ∧ s.dev.tmCnt k.val = 0 ∧ s.dev.on (tmF fTmStatDir k.val) = true ∧ (s.dev.timer k.val).matched = true ∧ (s.dev.timer k.val).turned = false ∧ tmInst k.val = 7)
    ∧ (∃ (s : State) (k : Fin 16), s.dev.NoRemote ∧ s.dev.on (tmF fTmCtrlEn k.val) = true ∧ (s.dev.timer k.val).matched = false ∧ s.dev.tmCnt k.val = (s.dev.rd (tmW tmCmp k.val)).toNat)
    ∧ (∃ (s : State) (k : Fin 16) (high : Bool), s.dev.NoRemote ∧ s.dev.tmIo.getLsbD k.val ≠ high ∧ s.dev.get (tmF fTmCtrlIoMode k.val) = 3 ∧ (s.dev.get (tmF fTmCtrlCapEdge k.val) = 2 ∨ s.dev.get (tmF fTmCtrlCapEdge k.val) = (if high then 0 else 1)) ∧ s.dev.pageLive (0x0A + tmPage k.val) = true)
    ∧ (∃ (s : State) (k : Fin 16), s.dev.NoRemote ∧ s.dev.get (tmF fTmCtrlIoMode k.val) = 2 ∧ s.dev.pageLive (0x0A + tmPage k.val) = true)
    ∧ (∃ (s : State) (k : Fin 16) (w : RegWrite), s.dev.NoRemote ∧ s.dev.applies (tmW tmTop k.val) w.value w.be = true ∧ w.be = 0xF#4 ∧ (s.dev.on (tmF fTmCtrlTopNow k.val) = false ∨ 8 ≤ k.val))
    ∧ (∃ (s : State) (k : Fin 16) (w : RegWrite), s.dev.NoRemote ∧ s.dev.applies (tmW tmCmp k.val) w.value w.be = true ∧ w.be = 0xF#4 ∧ s.dev.on (tmF fTmCtrlEn k.val) = true ∧ (s.dev.timer k.val).matched = false ∧ (s.dev.timer k.val).phaseStart ≤ w.value.toNat ∧ w.value.toNat ≤ s.dev.tmCnt k.val)
    ∧ (∃ (s : State) (k : Fin 16), s.dev.NoRemote ∧ s.dev.hostReady = true ∧ s.dev.pwr.phase = .awake ∧ s.dev.pageOff (0x0A + tmPage k.val) = false ∧ s.dev.pageInReset (0x0A + tmPage k.val) = false)
    ∧ (∃ (s : State), s.dev.NoRemote ∧ s.dev.applies tideCntClr (fTideCntClrSteps.set 0 1) 0xF#4 = true) :=
  ⟨⟨st ({ (up.put (tmF fTmCtrlEn 9) 0 |>.wr (tmW tmTop 9) 100 |>.wr (tmW tmPeriod 9) 100 |>.wr (tmW tmCount 9) 50 : Device) with timers := Vector.replicate 16 { matched := true } }), 9, full 0x0, by decide +kernel⟩,
   ⟨st ({ (up.put (tmF fTmCtrlEn 9) 1 |>.wr (tmW tmTop 9) 100 |>.wr (tmW tmPeriod 9) 100 |>.wr (tmW tmCount 9) 50 : Device) with timers := Vector.replicate 16 { matched := true } }), 9, full 0, by decide +kernel⟩,
   ⟨st ({ (up.put (tmF fTmCtrlEn 5) 0 |>.wr (tmW tmTop 5) 100 |>.wr (tmW tmPeriod 5) 100 |>.wr (tmW tmCount 5) 50 : Device) with timers := Vector.replicate 16 { matched := true } }), 5, 0, full 0x20, by decide +kernel⟩,
   ⟨st ({ (up.put (tmF fTmCtrlEn 5) 1 |>.wr (tmW tmTop 5) 100 |>.wr (tmW tmPeriod 5) 100 |>.wr (tmW tmCount 5) 50 : Device) with timers := Vector.replicate 16 { matched := true } }), 5, 0, full 0x20, by decide +kernel⟩,
   ⟨st ({ (up.put (tmF fTmCtrlEn 7) 1 |>.wr (tmW tmTop 7) 100 |>.wr (tmW tmPeriod 7) 100 |>.wr (tmW tmCount 7) 99 : Device) with timers := Vector.replicate 16 { matched := true } }), 7, by decide +kernel⟩,
   ⟨st ({ (up.put (tmF fTmCtrlEn 15) 1 |>.wr (tmW tmTop 15) 100 |>.wr (tmW tmPeriod 15) 100 |>.wr (tmW tmCount 15) 1 : Device) with timers := Vector.replicate 16 { matched := true } }), 15, by decide +kernel⟩,
   ⟨st ({ (up.put (tmF fTmCtrlEn 5) 1 |>.wr (tmW tmTop 5) 100 |>.wr (tmW tmPeriod 5) 100 |>.wr (tmW tmCount 5) 50 |>.put (tmF fTmStatGated 5) 1 : Device) with timers := Vector.replicate 16 { matched := true } }), 5, by decide +kernel⟩,
   ⟨st ({ (up.put (tmF fTmCtrlEn 7) 1 |>.wr (tmW tmTop 7) 100 |>.wr (tmW tmPeriod 7) 100 |>.wr (tmW tmCount 7) 100 : Device) with timers := Vector.replicate 16 { matched := true } }), 7, by decide +kernel⟩,
   ⟨st ({ (up.put (tmF fTmCtrlEn 15) 1 |>.wr (tmW tmTop 15) 100 |>.wr (tmW tmPeriod 15) 100 |>.wr (tmW tmCount 15) 0 : Device) with timers := Vector.replicate 16 { matched := true } }), 15, by decide +kernel⟩,
   ⟨st ({ (up.put (tmF fTmCtrlEn 7) 1 |>.wr (tmW tmTop 7) 100 |>.wr (tmW tmPeriod 7) 100 |>.wr (tmW tmCount 7) 0 |>.put (tmF fTmStatDir 7) 1 : Device) with timers := Vector.replicate 16 { matched := true } }), 7, by decide +kernel⟩,
   ⟨st ({ (up.put (tmF fTmCtrlEn 7) 1 |>.wr (tmW tmTop 7) 100 |>.wr (tmW tmPeriod 7) 100 |>.wr (tmW tmCount 7) 50 |>.wr (tmW tmCmp 7) 50 : Device) with timers := Vector.replicate 16 { matched := false } }), 7, by decide +kernel⟩,
   ⟨st ({ (up.put (tmF fTmCtrlEn 7) 1 |>.wr (tmW tmTop 7) 100 |>.wr (tmW tmPeriod 7) 100 |>.wr (tmW tmCount 7) 50 |>.put (tmF fTmCtrlIoMode 7) 3 |>.put (tmF fTmCtrlCapEdge 7) 2 : Device) with timers := Vector.replicate 16 { matched := true } }), 7, true, by decide +kernel⟩,
   ⟨st ({ (up.put (tmF fTmCtrlEn 7) 1 |>.wr (tmW tmTop 7) 100 |>.wr (tmW tmPeriod 7) 100 |>.wr (tmW tmCount 7) 50 |>.put (tmF fTmCtrlIoMode 7) 2 : Device) with timers := Vector.replicate 16 { matched := true } }), 7, by decide +kernel⟩,
   ⟨st ({ (up.put (tmF fTmCtrlEn 7) 1 |>.wr (tmW tmTop 7) 100 |>.wr (tmW tmPeriod 7) 100 |>.wr (tmW tmCount 7) 50 : Device) with timers := Vector.replicate 16 { matched := true } }), 7, full 77, by decide +kernel⟩,
   ⟨st ({ (up.put (tmF fTmCtrlEn 7) 1 |>.wr (tmW tmTop 7) 100 |>.wr (tmW tmPeriod 7) 100 |>.wr (tmW tmCount 7) 50 : Device) with timers := Vector.replicate 16 { } }), 7, full 50, by decide +kernel⟩,
   ⟨st ({ (up.put (tmF fTmCtrlEn 7) 1 |>.wr (tmW tmTop 7) 100 |>.wr (tmW tmPeriod 7) 100 |>.wr (tmW tmCount 7) 50 |>.put (tmF fTmStatCapNew 7) 1 |>.wr (tmW tmCap 7) 5 : Device) with timers := Vector.replicate 16 { matched := true } }), 7, by decide +kernel⟩,
   ⟨st (up.put (fHalf tideSteps) 7 |>.put fTideStatStepped 1), by decide +kernel⟩⟩

theorem test_HousekeepingConverter_meets :
    (∃ (s : State), s.dev.NoRemote ∧ s.dev.applies hkCmd (fHkCmdStart.set 0 1) 0xF#4 = true ∧ s.dev.on (fPcEn 0x0C) = true ∧ s.dev.pageInReset 0x0C = false ∧ s.dev.on fHkStatSyscalBusy = false ∧ s.dev.on fHkStatBusy = false ∧ s.dev.on fHkStatPending = false)
    ∧ (∃ (s : State), s.dev.NoRemote ∧ s.dev.applies hkCmd (fHkCmdStart.set 0 1) 0xF#4 = true ∧ s.dev.on (fPcEn 0x0C) = true ∧ s.dev.pageInReset 0x0C = false ∧ s.dev.on fHkStatBusy = true ∧ s.dev.on fHkStatPending = false)
    ∧ (∃ (s : State), s.dev.NoRemote ∧ s.dev.applies hkCmd (fHkCmdStop.set 0 1) 0xF#4 = true)
    ∧ (∃ (s : State) (raws : List (BitVec 12)), s.dev.NoRemote ∧ s.dev.on fHkStatBusy = true ∧ s.dev.pageLive 0x0C = true ∧ raws.length = 2 ^ s.dev.get (fHkEntryAvg (s.dev.get fHkStatEntry)) ∧ s.dev.get fHkStatEntry < s.dev.get fHkCtrlSeqLen)
    ∧ (∃ (s : State) (raws : List (BitVec 12)), s.dev.NoRemote ∧ s.dev.on fHkStatBusy = true ∧ s.dev.pageLive 0x0C = true ∧ raws.length = 2 ^ s.dev.get (fHkEntryAvg (s.dev.get fHkStatEntry)) ∧ s.dev.get fHkStatEntry = s.dev.get fHkCtrlSeqLen ∧ s.dev.on fHkStatPending = false ∧ s.dev.on fHkCtrlCont = false)
    ∧ (∃ (s : State), s.dev.NoRemote ∧ s.dev.on fHkStatBusy = false)
    ∧ (∃ (s : State), s.dev.NoRemote ∧ s.dev.clockGood 1 = true ∧ (s.dev.island 1).held = false ∧ s.dev.hk.supNext < 15)
    ∧ (∃ (s : State), s.dev.NoRemote ∧ s.dev.clockGood 1 = true ∧ (s.dev.island 1).held = false ∧ s.dev.hk.supNext = 15 ∧ -32768 ≤ s.dev.hk.rotMax ∧ s.dev.hk.rotMax ≤ 32767)
    ∧ (∃ (s : State) (w : RegWrite), s.dev.NoRemote ∧ s.dev.applies hkUrgCmd (fHkUrgCmdGo.set w.value 1) w.be = true ∧ w.be = 0xF#4 ∧ s.dev.on (fPcEn 0x0C) = true)
    ∧ (∃ (s : State), s.dev.NoRemote ∧ s.dev.on fHkStatUrgBusy = true ∧ s.dev.pageLive 0x0C = true ∧ hkCalibrated s.dev.hk.urgInput = false ∧ s.dev.hk.urgInput ≤ 47)
    ∧ (∃ (s : State), s.dev.NoRemote ∧ s.dev.applies hkCmd (fHkCmdSyscalZero.set 0 1) 0xF#4 = true)
    ∧ (∃ (s : State), s.dev.NoRemote ∧ s.dev.applies hkCmd (fHkCmdSyscalFull.set 0 1) 0xF#4 = true)
    ∧ (∃ (s : State) (s1 : BitVec 32) (s2 : BitVec 32), s.dev.NoRemote ∧ s.dev.on fHkStatSyscalBusy = true ∧ s.dev.pageLive 0x0C = true ∧ 128 < (s1.toInt - s2.toInt).natAbs ∧ s.dev.on fHkStatPending = false)
    ∧ (∃ (s : State) (s1 : BitVec 32) (s2 : BitVec 32) (m : Int), s.dev.NoRemote ∧ s.dev.on fHkStatSyscalBusy = true ∧ s.dev.pageLive 0x0C = true ∧ (s1.toInt - s2.toInt).natAbs ≤ 128 ∧ s.dev.on fHkSyscalStatStep = false ∧ s1.toInt + s2.toInt = 128 * m ∧ -128 ≤ m ∧ m ≤ 127 ∧ s.dev.on fHkStatPending = false) :=
  ⟨⟨st (up.put (fPcEn 0x0C) 1), by decide +kernel⟩,
   ⟨st (up.put (fPcEn 0x0C) 1 |>.put fHkStatBusy 1), by decide +kernel⟩,
   ⟨st (up.put (fPcEn 0x0C) 1 |>.put fHkStatBusy 1 |>.put fHkStatPending 1), by decide +kernel⟩,
   ⟨st (up.put (fPcEn 0x0C) 1 |>.put fHkStatBusy 1 |>.put fHkCtrlSeqLen 3 |>.put (fHkEntryAvg 0) 1), [100, 200], by decide +kernel⟩,
   ⟨st (up.put (fPcEn 0x0C) 1 |>.put fHkStatBusy 1 |>.put fHkStatEntry 15 |>.put fHkCtrlSeqLen 15), [100], by decide +kernel⟩,
   ⟨st (up.put (fPcEn 0x0C) 1), by decide +kernel⟩,
   ⟨st (up.put (fPcEn 0x0C) 1), by decide +kernel⟩,
   ⟨st ({ up with hk := { supNext := 15, rotMax := 40 } }), by decide +kernel⟩,
   ⟨st (up.put (fPcEn 0x0C) 1), full 0x2F00, by decide +kernel⟩,
   ⟨st ({ up.put (fPcEn 0x0C) 1 |>.put fHkStatUrgBusy 1 with hk := { urgInput := 47, urgPath := 0 } }), by decide +kernel⟩,
   ⟨st (up.put (fPcEn 0x0C) 1), by decide +kernel⟩,
   ⟨st (up.put (fPcEn 0x0C) 1), by decide +kernel⟩,
   ⟨st (up.put (fPcEn 0x0C) 1 |>.put fHkStatSyscalBusy 1), 129, 0, by decide +kernel⟩,
   ⟨st (up.put (fPcEn 0x0C) 1 |>.put fHkStatSyscalBusy 1), 192, 64, 2, by decide +kernel⟩⟩

theorem test_SerialPorts_meets :
    (∃ (s : State), s.dev.NoRemote ∧ s.dev.applies sspmCmd (fSspmCmdGo.set 0 1) 0xF#4 = true ∧ s.dev.sspm.page = none)
    ∧ (∃ (s : State), s.dev.NoRemote ∧ s.dev.applies sspmCmd (fSspmCmdSfdp.set 0 1) 0xF#4 = true ∧ s.dev.sspm.page = none)
    ∧ (∃ (s : State), s.dev.NoRemote ∧ s.dev.bus = none ∧ s.dev.pageOff 0x0D = false ∧ s.dev.pageLive 0x0D = true ∧ s.dev.sspm.resetDue = false ∧ s.dev.sspm.jobs = [.transfer] ∧ s.dev.sspm.polling = false ∧ s.dev.on fSspmXferWrite = true ∧ s.dev.on fSspmXferPoll = false)
    ∧ (∃ (s : State) (rx : List Byte), s.dev.NoRemote ∧ s.dev.bus = none ∧ s.dev.pageOff 0x0D = false ∧ s.dev.pageLive 0x0D = true ∧ s.dev.sspm.resetDue = false ∧ s.dev.sspm.jobs = [.transfer] ∧ s.dev.sspm.polling = false ∧ s.dev.on fSspmXferWrite = false ∧ s.dev.on fSspmXferPoll = false ∧ (s.dev.rd sspmLen).toNat = 32 ∧ rx.length = 4)
    ∧ (∃ (s : State), s.dev.NoRemote ∧ s.dev.bus = none ∧ s.dev.pageOff 0x0D = false ∧ s.dev.pageLive 0x0D = true ∧ s.dev.sspm.resetDue = false ∧ s.dev.sspm.jobs = [.transfer] ∧ s.dev.sspm.polling = false ∧ s.dev.on fSspmXferWrite = true ∧ s.dev.on fSspmXferPoll = true)
    ∧ (∃ (s : State), s.dev.NoRemote ∧ s.dev.bus = none ∧ s.dev.pageOff 0x0D = false ∧ s.dev.pageLive 0x0D = true ∧ s.dev.sspm.resetDue = false ∧ s.dev.sspm.jobs = [.transfer] ∧ s.dev.sspm.polling = true)
    ∧ (∃ (s : State) (word : BitVec 23), s.dev.NoRemote ∧ s.dev.hostReady = true ∧ s.dev.xipOn = true ∧ s.dev.sspm.page = none ∧ s.dev.sspm.jobs = [] ∧ s.dev.sspm.lineWord (0x2000000 + 4 * word.toNat) = none)
    ∧ (∃ (s : State) (word : BitVec 23) (v : Word), s.dev.NoRemote ∧ s.dev.hostReady = true ∧ s.dev.xipOn = true ∧ s.dev.sspm.page = none ∧ s.dev.sspm.jobs = [] ∧ s.dev.sspm.lineWord (0x2000000 + 4 * word.toNat) = some v)
    ∧ (∃ (s : State) (a : Nat), s.dev.NoRemote ∧ s.dev.sspm.jobs = [.fetch (a / 32)] ∧ s.dev.sspm.resetDue = false ∧ s.dev.bus = some (.xipRead a) ∧ s.dev.sspm.page = none ∧ (∀ k : Fin 4, s.dev.sspm.lines.getD k.val none = none) ∧ a % 4 = 0)
    ∧ (∃ (s : State) (w : RegWrite), s.dev.NoRemote ∧ s.dev.hostReady = true ∧ s.dev.xipOn = true ∧ s.dev.on fSspmXipCtrlWrEn = true ∧ s.dev.sspm.page = none ∧ s.dev.sspm.jobs = [] ∧ w.be = 0xF#4)
    ∧ (∃ (s : State), s.dev.NoRemote ∧ s.dev.hostReady = true ∧ s.dev.xipOn = true ∧ s.dev.on fSspmXipCtrlWrEn = false)
    ∧ (∃ (s : State) (b : PageBuf), s.dev.NoRemote ∧ s.dev.sspm.page = some b)
    ∧ (∃ (s : State), s.dev.NoRemote ∧ s.dev.frozen = false ∧ s.dev.pageLive 0x0E = true)
    ∧ (∃ (s : State) (mosi : List Bool), s.dev.NoRemote ∧ s.dev.ssps.frame = true ∧ s.dev.pageLive 0x0E = true ∧ mosi.length = 8 + s.dev.sspsBits * s.dev.get fSspsCfgFrameWords ∧ s.dev.get fSspsCfgFrameWords = 1 ∧ s.dev.get fSspsCfgWord ≤ 2 ∧ msbNat (mosi.take 8) % 4 = 1 ∧ s.dev.rxLevel < 64)
    ∧ (∃ (s : State) (w : RegWrite), s.dev.NoRemote ∧ s.dev.applies sspsRxRd w.value w.be = true ∧ w.be = 0xF#4)
    ∧ (∃ (s : State) (w : RegWrite), s.dev.NoRemote ∧ s.dev.applies sspsTxWr w.value w.be = true ∧ w.be = 0xF#4)
    ∧ (∃ (s : State) (w : RegWrite), s.dev.NoRemote ∧ s.dev.applies sspsAttn w.value w.be = true ∧ w.be = 0xF#4 ∧ w.value.getLsbD 0 = true)
    ∧ (∃ (s : State) (k : Fin 4) (w : RegWrite), s.dev.NoRemote ∧ s.dev.applies pinsTrigSw (Fld.set ⟨pinsTrigSw, k.val, k.val⟩ w.value 1) w.be = true ∧ w.be = 0xF#4 ∧ s.dev.trigSrc k.val = 3 ∧ s.dev.trigOut.getD k.val none = none)
    ∧ (∃ (s : State) (k : Fin 4) (pol : Bool), s.dev.NoRemote ∧ s.dev.trigOut.getD k.val none = some pol) :=
  ⟨⟨st (up), by decide +kernel⟩,
   ⟨st (up), by decide +kernel⟩,
   ⟨st ({ up with sspm := { jobs := [.transfer] } } |>.put fSspmXferWrite 1), by decide +kernel⟩,
   ⟨st ({ up with sspm := { jobs := [.transfer] } } |>.wr sspmLen 32), [1, 2, 3, 4], by decide +kernel⟩,
   ⟨st ({ up with sspm := { jobs := [.transfer] } } |>.put fSspmXferWrite 1 |>.put fSspmXferPoll 1), by decide +kernel⟩,
   ⟨st ({ up with sspm := { jobs := [.transfer], polling := true } } |>.put fSspmPollMask 1), by decide +kernel⟩,
   ⟨st (up.put fSspmXipCtrlEn 1), 0x7FFFFF, by decide +kernel⟩,
   ⟨st ({ up with sspm := { lines := #v[some (0x100003, List.replicate 32 0x5A), none, none, none] } } |>.put fSspmXipCtrlEn 1), 24, 0x5A5A5A5A, by decide +kernel⟩,
   ⟨st ({ up with sspm := { jobs := [.fetch ((0x2000000 + 4) / 32)] }, bus := some (.xipRead (0x2000000 + 4)) }), 0x2000000 + 4, by decide +kernel⟩,
   ⟨st (up.put fSspmXipCtrlEn 1 |>.put fSspmXipCtrlWrEn 1), full 0x01020304, by decide +kernel⟩,
   ⟨st (up.put fSspmXipCtrlEn 1), by decide +kernel⟩,
   ⟨st ({ up with sspm := { page := some { page := 5, bytes := [(0, 1)], first := 0, last := 0 } } }), { page := 5, bytes := [(0, 1)], first := 0, last := 0 }, by decide +kernel⟩,
   ⟨st (up), by decide +kernel⟩,
   ⟨st ({ up with ssps := { frame := true } } |>.put fSspsCfgFrameWords 1 |>.put fSspsCfgWord 2), natBits 8 1 ++ natBits 32 0x12345678, by decide +kernel⟩,
   ⟨st (up.wr sspsRxWr 5), full 3, by decide +kernel⟩,
   ⟨st (up), full 64, by decide +kernel⟩,
   ⟨st (up), full 1, by decide +kernel⟩,
   ⟨st (up.put ⟨pinsTrigOutCfg, 26, 24⟩ 3), 3, full 8, by decide +kernel⟩,
   ⟨st ({ up with trigOut := #v[none, none, none, some true] }), 3, true, by decide +kernel⟩⟩

theorem test_Interrupts_meets :
    (∃ (s : State) (page : Fin 256) (w : RegWrite), s.dev.NoRemote ∧ s.dev.applies (irqStat page.val) w.value w.be = true ∧ w.be = 0xF#4 ∧ page.val ≠ 0x03 ∧ page.val ≠ 0x10 ∧ page.val ≠ 0x1C ∧ page.val ≠ 0x19 ∧ page.val ≠ 0x1A ∧ page.val ≠ 0x04)
    ∧ (∃ (s : State) (page : Fin 256) (b : Fin 32) (w : RegWrite), s.dev.NoRemote ∧ s.dev.applies (irqSet page.val) w.value w.be = true ∧ w.be = 0xF#4 ∧ w.value.getLsbD b.val = true ∧ s.dev.on ⟨irqEn page.val, b.val, b.val⟩ = true ∧ (⟨irqStat page.val, b.val, b.val⟩ : Fld).settles = true ∧ (irqBits page.val).testBit b.val = true)
    ∧ (∃ (s : State), s.dev.NoRemote)
    ∧ (∃ (s : State) (which : IntcWord) (w : RegWrite), s.dev.NoRemote ∧ s.dev.applies (intcWordOf which) w.value w.be = true ∧ w.be = 0xF#4 ∧ which ≠ .outCfg)
    ∧ (∃ (s : State) (b : Fin 4), s.dev.NoRemote ∧ s.dev.ballPulses b.val = true ∧ (s.dev.ball b.val).phase = .low)
    ∧ (∃ (s : State) (b : Fin 4), s.dev.NoRemote ∧ s.dev.ballPulses b.val = true ∧ (s.dev.ball b.val).phase = .gap ∧ (s.dev.ball b.val).due = true) :=
  ⟨⟨st (up.wr (irqStat 0x0D) 0xFFFFFFFF), 0x0D, full 3, by decide +kernel⟩,
   ⟨st (up.wr (irqEn 0x1B) 0xFFFFFFFF), 0x1B, 4, full 0x10, by decide +kernel⟩,
   ⟨st (up), by decide +kernel⟩,
   ⟨st (up), .route 7, full 0x12345678, by decide +kernel⟩,
   ⟨st ({ up.put ⟨intcOutCfg, 12, 12⟩ 1 with balls := Vector.replicate 4 { phase := .low } }), 3, by decide +kernel⟩,
   ⟨st ({ up.put ⟨intcOutCfg, 12, 12⟩ 1 with balls := Vector.replicate 4 { phase := .gap, due := true } }), 3, by decide +kernel⟩⟩

theorem test_Security_meets :
    (∃ (s : State) (w : RegWrite), s.dev.NoRemote ∧ s.dev.applies secCmd (fSecCmdAction.set w.value 1) w.be = true ∧ w.be = 0xF#4 ∧ (s.dev.sec.key (fSecCmdLevel.of (fSecCmdAction.set w.value 1))) = none ∧ s.dev.sec.sealed = false)
    ∧ (∃ (s : State) (w : RegWrite), s.dev.NoRemote ∧ s.dev.applies secCmd (fSecCmdAction.set w.value 1) w.be = true ∧ w.be = 0xF#4 ∧ (s.dev.sec.key (fSecCmdLevel.of (fSecCmdAction.set w.value 1))) ≠ none)
    ∧ (∃ (s : State), s.dev.NoRemote ∧ s.dev.applies secCmd (fSecCmdAction.set 0 2) 0xF#4 = true ∧ (match s.dev.sec.key s.dev.sec.reqLevel with | some k => (s.dev.sec.resp.toList.flatMap wordBytes) == hmac k s.dev.secMessage | none => false) = true ∧ s.dev.on fSecStatLockdown = false ∧ s.dev.sec.reqLevel ≤ 3)
    ∧ (∃ (s : State), s.dev.NoRemote ∧ s.dev.applies secCmd (fSecCmdAction.set 0 2) 0xF#4 = true ∧ (match s.dev.sec.key s.dev.sec.reqLevel with | some k => (s.dev.sec.resp.toList.flatMap wordBytes) == hmac k s.dev.secMessage | none => false) = false)
    ∧ (∃ (s : State), s.dev.NoRemote ∧ s.dev.applies secCmd (fSecCmdAction.set 0 3) 0xF#4 = true)
    ∧ (∃ (s : State), s.dev.NoRemote)
    ∧ (∃ (s : State), s.dev.NoRemote ∧ s.dev.level ≠ 0)
    ∧ (∃ (s : State), s.dev.NoRemote ∧ s.dev.applies secKeyCmd (fSecKeyCmdAction.set 0 1) 0xF#4 = true)
    ∧ (∃ (s : State), s.dev.NoRemote ∧ s.dev.applies secKeyCmd (fSecKeyCmdAction.set 0 2) 0xF#4 = true)
    ∧ (∃ (s : State) (ok : Bool) (prov : Bool) (k : List Byte), s.dev.NoRemote ∧ s.dev.sec.keyRun = some (prov, k) ∧ ok = true)
    ∧ (∃ (s : State) (ok : Bool) (prov : Bool) (k : List Byte), s.dev.NoRemote ∧ s.dev.sec.keyRun = some (prov, k) ∧ ok = false)
    ∧ (∃ (s : State), s.dev.NoRemote ∧ s.dev.applies secKeyCmd (fSecKeyCmdAction.set 0 3) 0xF#4 = true)
    ∧ (∃ (s : State), s.dev.NoRemote ∧ s.dev.applies secKeyCmd (fSecKeyCmdAction.set 0 4) 0xF#4 = true)
    ∧ (∃ (s : State), s.dev.NoRemote ∧ s.dev.sec.sealing = true)
    ∧ (∃ (s : State), s.dev.NoRemote ∧ s.dev.sec.sealed = true)
    ∧ (∃ (s : State), s.dev.NoRemote ∧ s.dev.carriersOff = true) :=
  ⟨⟨st ({ up with sec := { backoff := 0 } }), full 0x11, by decide +kernel⟩,
   ⟨st ({ up with sec := { backoff := 0, kOp := some (List.replicate 32 (1 : Byte)) } }), full 0x11, by decide +kernel⟩,
   ⟨st ({ up with sec := { backoff := 0, kOp := some (List.replicate 32 (1 : Byte)), reqLevel := 1, resp := #v[0x7AB4209D, 0xEBC40277, 0x13B00E49, 0x917FBFEB, 0xEF842B02, 0xD71C8D48, 0xAF03979F, 0x7C24F3B9] } } |>.put fSecStatChalValid 1), by decide +kernel⟩,
   ⟨st ({ up with sec := { backoff := 0, kOp := some (List.replicate 32 (1 : Byte)), reqLevel := 1 } } |>.put fSecStatChalValid 1), by decide +kernel⟩,
   ⟨st ({ up with sec := { backoff := 0 } }), by decide +kernel⟩,
   ⟨st ({ up with sec := { backoff := 0 } } |>.put fSecStatChalValid 1), by decide +kernel⟩,
   ⟨st ({ up with sec := { backoff := 0 } }), by decide +kernel⟩,
   ⟨st ({ up with sec := { backoff := 0 } }), by decide +kernel⟩,
   ⟨st ({ up with sec := { backoff := 0 } }), by decide +kernel⟩,
   ⟨st ({ up with sec := { backoff := 0, keyRun := some (false, (List.replicate 32 (1 : Byte))) } }), true, false, (List.replicate 32 (1 : Byte)), by decide +kernel⟩,
   ⟨st ({ up with sec := { backoff := 0, keyRun := some (false, (List.replicate 32 (1 : Byte))) } }), false, false, (List.replicate 32 (1 : Byte)), by decide +kernel⟩,
   ⟨st ({ up with sec := { backoff := 0 } }), by decide +kernel⟩,
   ⟨st ({ up with sec := { backoff := 0, armed := true, kOp := some (List.replicate 32 (1 : Byte)) } } |>.put fOptStatProfileValid 1 |>.put fOptStatBcValid 1), by decide +kernel⟩,
   ⟨st ({ up with sec := { backoff := 0, sealing := true } }), by decide +kernel⟩,
   ⟨st ({ up with sec := { backoff := 0, sealed := true } }), by decide +kernel⟩,
   ⟨st ({ up with sec := { backoff := 0 } }), by decide +kernel⟩⟩

theorem test_StepKeepsCanonical_meets : ∃ s t : State, s.dev.Canonical ∧ step s = .next t :=
  ⟨{ State.reset with pending := [.testLogicReset] }, _, ⟨by decide +kernel, by decide +kernel, by decide +kernel, by decide +kernel⟩, rfl⟩

theorem test_InterruptOutputsFollow_meets : ∃ (c : Instr) (s t : State), exec c s = .next t := ⟨.testLogicReset, st up, _, rfl⟩

theorem test_PowerStateFollows_meets :
    ∃ (c : Instr) (s t : State), s.dev.NoRemote ∧ (∀ h way op word data, c ≠ .pageReq h way op word data) ∧
      (∀ seq tag device entries, c ≠ .regReq seq tag device entries) ∧ exec c s = .next t :=
  ⟨.testLogicReset, st up, _, by decide +kernel, fun _ _ _ _ _ h => absurd (congrArg Instr.ctorIdx h) (Nat.ne_of_beq_eq_false rfl), fun _ _ _ _ h => absurd (congrArg Instr.ctorIdx h) (Nat.ne_of_beq_eq_false rfl), rfl⟩

theorem test_SettlingFrame_meets : ∃ d : Device, d.NoRemote := ⟨up, by decide +kernel⟩

end Sys2Proof.Tests
end

namespace Sys2Proof.Machine

/-! ### Every step keeps the stores canonical -/

/-- Every command keeps every closed property that does not look at waiting remote accesses, row by row. -/
theorem exec_keeps {P : Device → Prop} (hP : Closed P) (ha : ∀ d e, P d → SameStores d e → P e) {c : Instr} {s t : State}
    (h : exec c s = .next t) (hs : P s.dev) : P t.dev := by
  cases c with
  | registerWrite => exact execRegisterWrite_keeps hP h hs
  | unmappedWrite => exact execUnmappedWrite_keeps hP h hs
  | offPageRead => exact execOffPageRead_keeps hP h hs
  | memoryWindowRead => exact execMemoryWindowRead_keeps hP h hs
  | memoryWindowWrite => exact execMemoryWindowWrite_keeps hP h hs
  | waitLimitExpiry => exact execWaitLimitExpiry_keeps hP h hs
  | postQueueEntryFreed => exact execPostQueueEntryFreed_keeps hP h hs
  | postedWriteApplied => exact execPostedWriteApplied_keeps hP h hs
  | writeAckReceived => exact execWriteAckReceived_keeps hP h hs
  | mirrorUpdate => exact execMirrorUpdate_keeps hP h hs
  | irqSetWrite => exact execIrqSetWrite_keeps hP h hs
  | irqStatClear => exact execIrqStatClear_keeps hP h hs
  | irqEnWrite => exact execIrqEnWrite_keeps hP h hs
  | pageEnable => exact execPageEnable_keeps hP h hs
  | pageDisable => exact execPageDisable_keeps hP h hs
  | shutdownComplete => exact execShutdownComplete_keeps hP h hs
  | blockResetAssert => exact execBlockResetAssert_keeps hP h hs
  | blockResetRelease => exact execBlockResetRelease_keeps hP h hs
  | clockStopRequest => exact execClockStopRequest_keeps hP h hs
  | powerRemoveRequest => exact execPowerRemoveRequest_keeps hP h hs
  | ignCountClearPage => exact execIgnCountClearPage_keeps hP h hs
  | ignCountClearAll => exact execIgnCountClearAll_keeps hP h hs
  | offCountClear => exact execOffCountClear_keeps hP h hs
  | unmappedCountClear => exact execUnmappedCountClear_keeps hP h hs
  | timeoutCountClear => exact execTimeoutCountClear_keeps hP h hs
  | sessionEnable => exact execSessionEnable_keeps hP h hs
  | sessionEnableComplete => exact execSessionEnableComplete_keeps hP h hs
  | sessionDisable => exact execSessionDisable_keeps hP h hs
  | sessionShutdownComplete => exact execSessionShutdownComplete_keeps hP h hs
  | commandCommit => exact execCommandCommit_keeps hP h hs
  | commandStart => exact execCommandStart_keeps hP h hs
  | commandEnd => exact execCommandEnd_keeps hP h hs
  | replyWindowOpen => exact execReplyWindowOpen_keeps hP h hs
  | replyWindowClose => exact execReplyWindowClose_keeps hP h hs
  | preambleDetect => exact execPreambleDetect_keeps hP h hs
  | replyDecision => exact execReplyDecision_keeps hP h hs
  | emptySlotDecision => exact execEmptySlotDecision_keeps hP h hs
  | receptionFailed => exact execReceptionFailed_keeps hP h hs
  | roundStart => exact execRoundStart_keeps hP h hs
  | roundEnd => exact execRoundEnd_keeps hP h hs
  | accessSequenceStart => exact execAccessSequenceStart_keeps hP h hs
  | accessReplyDecision => exact execAccessReplyDecision_keeps hP h hs
  | delayedReplyTimeout => exact execDelayedReplyTimeout_keeps hP h hs
  | holdEnter => exact execHoldEnter_keeps hP h hs
  | holdRelease => exact execHoldRelease_keeps hP h hs
  | slackWaterBegin => exact execSlackWaterBegin_keeps hP h hs
  | slackWaterEnd => exact execSlackWaterEnd_keeps hP h hs
  | trigInEdge => exact execTrigInEdge_keeps hP h hs
  | trigDisableWrite => exact execTrigDisableWrite_keeps hP h hs
  | berthFreezeWrite => exact execBerthFreezeWrite_keeps hP h hs
  | berthReleaseWrite => exact execBerthReleaseWrite_keeps hP h hs
  | sessionClearRounds => exact execSessionClearRounds_keeps hP h hs
  | sessionClearSings => exact execSessionClearSings_keeps hP h hs
  | sessionClearErrors => exact execSessionClearErrors_keeps hP h hs
  | sessionClearSets => exact execSessionClearSets_keeps hP h hs
  | sessionClearTrigOvf => exact execSessionClearTrigOvf_keeps hP h hs
  | ctailWrite => exact execCtailWrite_keeps hP h hs
  | mheadWrite => exact execMheadWrite_keeps hP h hs
  | ringConfigWrite => exact execRingConfigWrite_keeps hP h hs
  | messageWrite => exact execMessageWrite_keeps hP h hs
  | waitingMessageRelease => exact execWaitingMessageRelease_keeps hP h hs
  | descriptorTake => exact execDescriptorTake_keeps hP h hs
  | descriptorUrgent => exact execDescriptorUrgent_keeps hP h hs
  | descriptorStart => exact execDescriptorStart_keeps hP h hs
  | inventory => exact execInventory_keeps hP h hs
  | access => exact execAccess_keeps hP h hs
  | template => exact execTemplate_keeps hP h hs
  | beam => exact execBeam_keeps hP h hs
  | survey => exact execSurvey_keeps hP h hs
  | snapshot => exact execSnapshot_keeps hP h hs
  | snapshotCaptureStart => exact execSnapshotCaptureStart_keeps hP h hs
  | noise => exact execNoise_keeps hP h hs
  | noiseMeasureEnd => exact execNoiseMeasureEnd_keeps hP h hs
  | stop => exact execStop_keeps hP h hs
  | fence => exact execFence_keeps hP h hs
  | fenceComplete => exact execFenceComplete_keeps hP h hs
  | selectSet => exact execSelectSet_keeps hP h hs
  | turnEnd => exact execTurnEnd_keeps hP h hs
  | manifestSighting => exact execManifestSighting_keeps hP h hs
  | manifestAgeOut => exact execManifestAgeOut_keeps hP h hs
  | manifestWriteDiscard => exact execManifestWriteDiscard_keeps hP h hs
  | manPin => exact execManPin_keeps hP h hs
  | manUnpin => exact execManUnpin_keeps hP h hs
  | manRemove => exact execManRemove_keeps hP h hs
  | manClearUnpinned => exact execManClearUnpinned_keeps hP h hs
  | manClearAll => exact execManClearAll_keeps hP h hs
  | manClearDone => exact execManClearDone_keeps hP h hs
  | manThreshWrite => exact execManThreshWrite_keeps hP h hs
  | weightsTakeEffect => exact execWeightsTakeEffect_keeps hP h hs
  | groupRecompute => exact execGroupRecompute_keeps hP h hs
  | wtFetch => exact execWtFetch_keeps hP h hs
  | wtCommit => exact execWtCommit_keeps hP h hs
  | wtErase => exact execWtErase_keeps hP h hs
  | wtFetchLive => exact execWtFetchLive_keeps hP h hs
  | wtActionDone => exact execWtActionDone_keeps hP h hs
  | directionEstimate => exact execDirectionEstimate_keeps hP h hs
  | surveySector => exact execSurveySector_keeps hP h hs
  | bfClearDirCount => exact execBfClearDirCount_keeps hP h hs
  | carrierEnable => exact execCarrierEnable_keeps hP h hs
  | synthSLockAcquire => exact execSynthSLockAcquire_keeps hP h hs
  | synthWaitTimeout => exact execSynthWaitTimeout_keeps hP h hs
  | synthSLockLoss => exact execSynthSLockLoss_keeps hP h hs
  | coexGrantAssert => exact execCoexGrantAssert_keeps hP h hs
  | coexGrantWithdraw => exact execCoexGrantWithdraw_keeps hP h hs
  | listenEnd => exact execListenEnd_keeps hP h hs
  | lbtRetryExpiry => exact execLbtRetryExpiry_keeps hP h hs
  | rampUpEnd => exact execRampUpEnd_keeps hP h hs
  | settleEnd => exact execSettleEnd_keeps hP h hs
  | carrierDisable => exact execCarrierDisable_keeps hP h hs
  | hop => exact execHop_keeps hP h hs
  | autoHop => exact execAutoHop_keeps hP h hs
  | drainQuiet => exact execDrainQuiet_keeps hP h hs
  | drainCut => exact execDrainCut_keeps hP h hs
  | rampDownEnd => exact execRampDownEnd_keeps hP h hs
  | retuneEnd => exact execRetuneEnd_keeps hP h hs
  | dwellLimitDrain => exact execDwellLimitDrain_keeps hP h hs
  | occupancyLimitDrain => exact execOccupancyLimitDrain_keeps hP h hs
  | barredRelease => exact execBarredRelease_keeps hP h hs
  | bandCalDue => exact execBandCalDue_keeps hP h hs
  | bandCalStart => exact execBandCalStart_keeps hP h hs
  | bandCalForce => exact execBandCalForce_keeps hP h hs
  | bandCalComplete => exact execBandCalComplete_keeps hP h hs
  | synthRecal => exact execSynthRecal_keeps hP h hs
  | breakwaterDwellEnd => exact execBreakwaterDwellEnd_keeps hP h hs
  | bwRelease => exact execBwRelease_keeps hP h hs
  | bwClearCount => exact execBwClearCount_keeps hP h hs
  | reglReload => exact execReglReload_keeps hP h hs
  | reglClear => exact execReglClear_keeps hP h hs
  | pathEnable => exact execPathEnable_keeps hP h hs
  | pathQueueLeave => exact execPathQueueLeave_keeps hP h hs
  | poweringEnd => exact execPoweringEnd_keeps hP h hs
  | restoringEnd => exact execRestoringEnd_keeps hP h hs
  | checkingEnd => exact execCheckingEnd_keeps hP h hs
  | joinRampEnd => exact execJoinRampEnd_keeps hP h hs
  | pathDisable => exact execPathDisable_keeps hP h hs
  | pathRampDownEnd => exact execPathRampDownEnd_keeps hP h hs
  | powerDownEnd => exact execPowerDownEnd_keeps hP h hs
  | pathFault => exact execPathFault_keeps hP h hs
  | txpwrWrite => exact execTxpwrWrite_keeps hP h hs
  | agcDownStep => exact execAgcDownStep_keeps hP h hs
  | cancTrack => exact execCancTrack_keeps hP h hs
  | sliceFault => exact execSliceFault_keeps hP h hs
  | dacCellFault => exact execDacCellFault_keeps hP h hs
  | driverCellFault => exact execDriverCellFault_keeps hP h hs
  | pathClearCounts => exact execPathClearCounts_keeps hP h hs
  | pathClearFaults => exact execPathClearFaults_keeps hP h hs
  | calFreq => exact execCalFreq_keeps hP h hs
  | calPower => exact execCalPower_keeps hP h hs
  | calArrayRx => exact execCalArrayRx_keeps hP h hs
  | calArrayTx => exact execCalArrayTx_keeps hP h hs
  | calConv => exact execCalConv_keeps hP h hs
  | calCanc => exact execCalCanc_keeps hP h hs
  | calDpd => exact execCalDpd_keeps hP h hs
  | calAbort => exact execCalAbort_keeps hP h hs
  | calProcComplete => exact execCalProcComplete_keeps hP h hs
  | boundaryApply => exact execBoundaryApply_keeps hP h hs
  | slackWaterCall => exact execSlackWaterCall_keeps hP h hs
  | calDue => exact execCalDue_keeps hP h hs
  | tblDataRead => exact execTblDataRead_keeps hP h hs
  | tblDataWrite => exact execTblDataWrite_keeps hP h hs
  | tblCommit => exact execTblCommit_keeps hP h hs
  | tblInvalidate => exact execTblInvalidate_keeps hP h hs
  | calClearRejects => exact execCalClearRejects_keeps hP h hs
  | calClearSlacks => exact execCalClearSlacks_keeps hP h hs
  | pilotFault => exact execPilotFault_keeps hP h hs
  | failoverResume => exact execFailoverResume_keeps hP h hs
  | pilotTestEnd => exact execPilotTestEnd_keeps hP h hs
  | pilotMoveTo => exact execPilotMoveTo_keeps hP h hs
  | moveAtQuietPoint => exact execMoveAtQuietPoint_keeps hP h hs
  | moveComplete => exact execMoveComplete_keeps hP h hs
  | dredgerRowVisit => exact execDredgerRowVisit_keeps hP h hs
  | repairSelftest => exact execRepairSelftest_keeps hP h hs
  | selftestStepEnd => exact execSelftestStepEnd_keeps hP h hs
  | repairAbort => exact execRepairAbort_keeps hP h hs
  | markDead => exact execMarkDead_keeps hP h hs
  | revive => exact execRevive_keeps hP h hs
  | repairCompact => exact execRepairCompact_keeps hP h hs
  | repairRecordWrite => exact execRepairRecordWrite_keeps hP h hs
  | compactionEnd => exact execCompactionEnd_keeps hP h hs
  | repairClearEcc => exact execRepairClearEcc_keeps hP h hs
  | pilotEnable => exact execPilotEnable_keeps hP h hs
  | pilotDisable => exact execPilotDisable_keeps hP h hs
  | pilotCopyFrom => exact execPilotCopyFrom_keeps hP h hs
  | pilotVerify => exact execPilotVerify_keeps hP h hs
  | pilotSelftest => exact execPilotSelftest_keeps hP h hs
  | pilotImgDataWrite => exact execPilotImgDataWrite_keeps hP h hs
  | pilotImgDataRead => exact execPilotImgDataRead_keeps hP h hs
  | imageLoadIdle => exact execImageLoadIdle_keeps hP h hs
  | imageCopyDone => exact execImageCopyDone_keeps hP h hs
  | imageCheckEnd => exact execImageCheckEnd_keeps hP h hs
  | pilotClearCounts => exact execPilotClearCounts_keeps hP h hs
  | pilotClearCkpts => exact execPilotClearCkpts_keeps hP h hs
  | klPortEnable => exact execKlPortEnable_keeps hP h hs
  | klSignalDetect => exact execKlSignalDetect_keeps hP h hs
  | klBlockLock => exact execKlBlockLock_keeps hP h hs
  | klMeasureEnd => exact execKlMeasureEnd_keeps hP h hs
  | klPortDisable => exact execKlPortDisable_keeps hP h hs
  | klDrainEnd => exact execKlDrainEnd_keeps hP h hs
  | klPortFault => exact execKlPortFault_keeps hP h hs
  | klRetrainTimer => exact execKlRetrainTimer_keeps hP h hs
  | klTick => exact execKlTick_keeps hP h hs
  | klTrigBlock => exact execKlTrigBlock_keeps hP h hs
  | klDly => exact execKlDly_keeps hP h hs
  | klNak => exact execKlNak_keeps hP h hs
  | klReplayTimeout => exact execKlReplayTimeout_keeps hP h hs
  | klBadFrame => exact execKlBadFrame_keeps hP h hs
  | klNullFrame => exact execKlNullFrame_keeps hP h hs
  | klTrainFrame => exact execKlTrainFrame_keeps hP h hs
  | censusReq => exact execCensusReq_keeps hP h hs
  | censusRec => exact execCensusRec_keeps hP h hs
  | assign => exact execAssign_keeps hP h hs
  | versionFrame => exact execVersionFrame_keeps hP h hs
  | resetFrame => exact execResetFrame_keeps hP h hs
  | eventFrame => exact execEventFrame_keeps hP h hs
  | ackE2e => exact execAckE2e_keeps hP h hs
  | pageReq => exact execPageReq_keeps hP ha h hs
  | pageRsp => exact execPageRsp_keeps hP h hs
  | messageFrame => exact execMessageFrame_keeps hP h hs
  | delayFrame => exact execDelayFrame_keeps hP h hs
  | groupFrame => exact execGroupFrame_keeps hP h hs
  | unknownFrame => exact execUnknownFrame_keeps hP h hs
  | klCensusCmd => exact execKlCensusCmd_keeps hP h hs
  | censusComplete => exact execCensusComplete_keeps hP h hs
  | delayExchangeStart => exact execDelayExchangeStart_keeps hP h hs
  | holdoverLost => exact execHoldoverLost_keeps hP h hs
  | klFailback => exact execKlFailback_keeps hP h hs
  | trigFireCmd => exact execTrigFireCmd_keeps hP h hs
  | cascadeTriggerFire => exact execCascadeTriggerFire_keeps hP h hs
  | raRead => exact execRaRead_keeps hP h hs
  | raWrite => exact execRaWrite_keeps hP h hs
  | raTimeout => exact execRaTimeout_keeps hP h hs
  | klResetDev => exact execKlResetDev_keeps hP h hs
  | klResetSubtree => exact execKlResetSubtree_keeps hP h hs
  | messageFrameSend => exact execMessageFrameSend_keeps hP h hs
  | e2eResendTimeout => exact execE2eResendTimeout_keeps hP h hs
  | ackE2eSend => exact execAckE2eSend_keeps hP h hs
  | groupCal => exact execGroupCal_keeps hP h hs
  | groupCalEnd => exact execGroupCalEnd_keeps hP h hs
  | groupSuspend => exact execGroupSuspend_keeps hP h hs
  | klAbort => exact execKlAbort_keeps hP h hs
  | cenDataRead => exact execCenDataRead_keeps hP h hs
  | klClearCounts => exact execKlClearCounts_keeps hP h hs
  | klClearPerr => exact execKlClearPerr_keeps hP h hs
  | plLaneEnable => exact execPlLaneEnable_keeps hP h hs
  | plSignalDetect => exact execPlSignalDetect_keeps hP h hs
  | plBlockLock => exact execPlBlockLock_keeps hP h hs
  | plLaneAligned => exact execPlLaneAligned_keeps hP h hs
  | plLaneDisable => exact execPlLaneDisable_keeps hP h hs
  | plDrainEnd => exact execPlDrainEnd_keeps hP h hs
  | plLaneFault => exact execPlLaneFault_keeps hP h hs
  | plRetrainEnd => exact execPlRetrainEnd_keeps hP h hs
  | plLaneRetry => exact execPlLaneRetry_keeps hP h hs
  | plAlignBlock => exact execPlAlignBlock_keeps hP h hs
  | plAck => exact execPlAck_keeps hP h hs
  | plNak => exact execPlNak_keeps hP h hs
  | plCredit => exact execPlCredit_keeps hP h hs
  | plRemapBlock => exact execPlRemapBlock_keeps hP h hs
  | plRemapReq => exact execPlRemapReq_keeps hP h hs
  | plReplayTimeout => exact execPlReplayTimeout_keeps hP h hs
  | plAckSend => exact execPlAckSend_keeps hP h hs
  | plCreditSend => exact execPlCreditSend_keeps hP h hs
  | plCreditStall => exact execPlCreditStall_keeps hP h hs
  | plBadPacket => exact execPlBadPacket_keeps hP h hs
  | regReq => exact execRegReq_keeps hP ha h hs
  | regReqWaitEnd => exact execRegReqWaitEnd_keeps hP h hs
  | msgPacketSend => exact execMsgPacketSend_keeps hP h hs
  | streamCtrlWrite => exact execStreamCtrlWrite_keeps hP h hs
  | streamPacket => exact execStreamPacket_keeps hP h hs
  | interruptPacket => exact execInterruptPacket_keeps hP h hs
  | plClearDrops => exact execPlClearDrops_keeps hP h hs
  | plClearReplays => exact execPlClearReplays_keeps hP h hs
  | plClearLerr => exact execPlClearLerr_keeps hP h hs
  | aonPowerOn => exact execAonPowerOn_keeps hP h hs
  | powerOnReset => exact execPowerOnReset_keeps hP h hs
  | brownOut => exact execBrownOut_keeps hP h hs
  | rstPin => exact execRstPin_keeps hP h hs
  | thermalShutdown => exact execThermalShutdown_keeps hP h hs
  | watchdogExpiry => exact execWatchdogExpiry_keeps hP h hs
  | chipRst => exact execChipRst_keeps hP h hs
  | resetSourcesRelease => exact execResetSourcesRelease_keeps hP h hs
  | strapSampleDone => exact execStrapSampleDone_keeps hP h hs
  | synthPLock => exact execSynthPLock_keeps hP h hs
  | synthPLockLoss => exact execSynthPLockLoss_keeps hP h hs
  | optionLoadComplete => exact execOptionLoadComplete_keeps hP h hs
  | islandRelease => exact execIslandRelease_keeps hP h hs
  | clockGoodChange => exact execClockGoodChange_keeps hP h hs
  | bootImageDone => exact execBootImageDone_keeps hP h hs
  | watchdogKick => exact execWatchdogKick_keeps hP h hs
  | watchdogWarn => exact execWatchdogWarn_keeps hP h hs
  | optProgram => exact execOptProgram_keeps hP h hs
  | optProgramDone => exact execOptProgramDone_keeps hP h hs
  | optApply => exact execOptApply_keeps hP h hs
  | optApplyDone => exact execOptApplyDone_keeps hP h hs
  | optDataRead => exact execOptDataRead_keeps hP h hs
  | optImgDataAccess => exact execOptImgDataAccess_keeps hP h hs
  | pwrMoor => exact execPwrMoor_keeps hP h hs
  | pwrLayUp => exact execPwrLayUp_keeps hP h hs
  | prepareDone => exact execPrepareDone_keeps hP h hs
  | entryWindowOpen => exact execEntryWindowOpen_keeps hP h hs
  | entryWindowClose => exact execEntryWindowClose_keeps hP h hs
  | wakeInputEvent => exact execWakeInputEvent_keeps hP h hs
  | sleepTimerExpiry => exact execSleepTimerExpiry_keeps hP h hs
  | wakeRecognised => exact execWakeRecognised_keeps hP h hs
  | pwrClearCounts => exact execPwrClearCounts_keeps hP h hs
  | watchEnable => exact execWatchEnable_keeps hP h hs
  | watchDisable => exact execWatchDisable_keeps hP h hs
  | watchLookStart => exact execWatchLookStart_keeps hP h hs
  | watchLookDecision => exact execWatchLookDecision_keeps hP h hs
  | watchClearCounts => exact execWatchClearCounts_keeps hP h hs
  | rtcSecond => exact execRtcSecond_keeps hP h hs
  | rtcHalt => exact execRtcHalt_keeps hP h hs
  | rtcRun => exact execRtcRun_keeps hP h hs
  | rtcTimeWrite => exact execRtcTimeWrite_keeps hP h hs
  | rtcDateWrite => exact execRtcDateWrite_keeps hP h hs
  | rtcTimeRead => exact execRtcTimeRead_keeps hP h hs
  | rtcWakeWrite => exact execRtcWakeWrite_keeps hP h hs
  | rtcTempMeasure => exact execRtcTempMeasure_keeps hP h hs
  | vbakCheck => exact execVbakCheck_keeps hP h hs
  | vaonLoss => exact execVaonLoss_keeps hP h hs
  | backupSwitchToVbak => exact execBackupSwitchToVbak_keeps hP h hs
  | backupSwitchToAon => exact execBackupSwitchToAon_keeps hP h hs
  | chargerStart => exact execChargerStart_keeps hP h hs
  | chargerThreshold => exact execChargerThreshold_keeps hP h hs
  | lockoutEnd => exact execLockoutEnd_keeps hP h hs
  | timerEnable => exact execTimerEnable_keeps hP h hs
  | timerDisable => exact execTimerDisable_keeps hP h hs
  | tmcStart => exact execTmcStart_keeps hP h hs
  | tmcStop => exact execTmcStop_keeps hP h hs
  | timerSourceEvent => exact execTimerSourceEvent_keeps hP h hs
  | timerZero => exact execTimerZero_keeps hP h hs
  | timerTop => exact execTimerTop_keeps hP h hs
  | timerCompareMatch => exact execTimerCompareMatch_keeps hP h hs
  | timerCapture => exact execTimerCapture_keeps hP h hs
  | timerGateEdge => exact execTimerGateEdge_keeps hP h hs
  | timerTopWrite => exact execTimerTopWrite_keeps hP h hs
  | timerCmpWrite => exact execTimerCmpWrite_keeps hP h hs
  | timerCapRead => exact execTimerCapRead_keeps hP h hs
  | tideClearSteps => exact execTideClearSteps_keeps hP h hs
  | hkStart => exact execHkStart_keeps hP h hs
  | hkStop => exact execHkStop_keeps hP h hs
  | hkEntryDone => exact execHkEntryDone_keeps hP h hs
  | hkSupervisorConversion => exact execHkSupervisorConversion_keeps hP h hs
  | urgentGo => exact execUrgentGo_keeps hP h hs
  | urgentDone => exact execUrgentDone_keeps hP h hs
  | hkSyscalZero => exact execHkSyscalZero_keeps hP h hs
  | hkSyscalFull => exact execHkSyscalFull_keeps hP h hs
  | syscalStepDone => exact execSyscalStepDone_keeps hP h hs
  | hkClearTrigOvf => exact execHkClearTrigOvf_keeps hP h hs
  | sspmGo => exact execSspmGo_keeps hP h hs
  | sspmSfdp => exact execSspmSfdp_keeps hP h hs
  | sspmTransferEnd => exact execSspmTransferEnd_keeps hP h hs
  | sspmPoll => exact execSspmPoll_keeps hP h hs
  | sspmPollTimeout => exact execSspmPollTimeout_keeps hP h hs
  | xipRead => exact execXipRead_keeps hP h hs
  | xipLineFetchEnd => exact execXipLineFetchEnd_keeps hP h hs
  | xipWrite => exact execXipWrite_keeps hP h hs
  | xipProgramStart => exact execXipProgramStart_keeps hP h hs
  | sspsSelectAssert => exact execSspsSelectAssert_keeps hP h hs
  | sspsSelectRelease => exact execSspsSelectRelease_keeps hP h hs
  | sspsRxRdWrite => exact execSspsRxRdWrite_keeps hP h hs
  | sspsTxWrWrite => exact execSspsTxWrWrite_keeps hP h hs
  | sspsAttnWrite => exact execSspsAttnWrite_keeps hP h hs
  | supplyWarn => exact execSupplyWarn_keeps hP h hs
  | intcConfigWrite => exact execIntcConfigWrite_keeps hP h hs
  | irqPulseEnd => exact execIrqPulseEnd_keeps hP h hs
  | secOpenReq => exact execSecOpenReq_keeps hP h hs
  | secVerify => exact execSecVerify_keeps hP h hs
  | secClose => exact execSecClose_keeps hP h hs
  | challengeExpiry => exact execChallengeExpiry_keeps hP h hs
  | idleTimeout => exact execIdleTimeout_keeps hP h hs
  | backoffExpiry => exact execBackoffExpiry_keeps hP h hs
  | keyWriteOp => exact execKeyWriteOp_keeps hP h hs
  | keyWriteProv => exact execKeyWriteProv_keeps hP h hs
  | keyWriteDone => exact execKeyWriteDone_keeps hP h hs
  | sealArm => exact execSealArm_keeps hP h hs
  | sealArmExpiry => exact execSealArmExpiry_keeps hP h hs
  | sealDone => exact execSealDone_keeps hP h hs
  | tamperEvent => exact execTamperEvent_keeps hP h hs
  | jtagInstruction => exact execJtagInstruction_keeps hP h hs
  | testLogicReset => exact execTestLogicReset_keeps hP h hs
  | trigSw => exact execTrigSw_keeps hP h hs
  | trigOutPulseEnd => exact execTrigOutPulseEnd_keeps hP h hs
  | snapshotCaptureEnd => exact execSnapshotCaptureEnd_keeps hP h hs
  | rstoutNHigh => exact execRstoutNHigh_keeps hP h hs
  | rtcOutFall => exact execRtcOutFall_keeps hP h hs
  | vaonLossRelease => exact execVaonLossRelease_keeps hP h hs
  -- SEAL alone is left; its name is a Lean keyword.
  | _ => exact execSeal_keeps hP h hs

/-- A step keeps every such property: with an empty queue only the tide moves, otherwise the front command runs. -/
theorem step_keeps {P : Device → Prop} (hP : Closed P) (ha : ∀ d e, P d → SameStores d e → P e) {s t : State}
    (h : step s = .next t) (hs : P s.dev) : P t.dev := by
  obtain ⟨d, q⟩ := s
  cases q with
  | nil =>
    cases h
    exact Device.tideTick_closed hP hs
  | cons c rest => exact exec_keeps hP ha (s := ⟨d, rest⟩) h hs

/-- The canonical form speaks of the stores alone. -/
theorem canonical_of_sameStores {d e : Device} (h : d.Canonical) (hde : SameStores d e) : e.Canonical := by
  obtain ⟨hr, hm, hs, ho⟩ := hde
  exact ⟨hr ▸ h.regs, hm ▸ h.mirror, hs ▸ h.sram, ho ▸ h.opt⟩

/-- Settles O6: the canonical form is a closed property, and a step keeps every closed property. -/
theorem stepKeepsCanonical : Obligations.StepKeepsCanonical :=
  fun _ _ hs h => step_keeps canonical_closed (fun _ _ => canonical_of_sameStores) h hs

/-! ### The reset state -/

/-- The words an AON power-on loads stand in rising order, each other than its Reset value. -/
theorem storeWf_resetLoaded : storeWf resetWord resetLoaded = true := by decide

/-- Settles O5: the register store and the mirror list the words an AON power-on loads, and the memories are empty. -/
theorem resetIsCanonical : Obligations.ResetIsCanonical :=
  ⟨storeWf_resetLoaded, storeWf_resetLoaded, rfl, rfl⟩

/-- A register that an AON power-on does not load reads its Reset value. -/
theorem rd_reset {a : Nat} (h : a ∉ resetLoaded.map Prod.fst) : State.reset.dev.rd a = resetWord a := by
  simp only [resetLoaded, List.map, List.mem_cons, List.not_mem_nil, or_false, not_or] at h
  obtain ⟨hw, hs, hb⟩ := h
  simp [Device.rd, State.reset, resetLoaded, storeGet, hw, hs, hb]

/-- Settles O4: registers off the loaded list read their Reset value, the loaded ones what was loaded. -/
theorem resetState : Obligations.ResetState := by
  refine ⟨fun a hw hs hb => rd_reset (by simp [resetLoaded, hw, hs, hb]), rfl, rfl, rfl, fun _ => rfl, rfl, rfl, ?_, rfl, rfl⟩
  decide

/-! ### Memory windows, unmapped addresses and off pages -/

/-! #### Counters and fields -/

/-- A counter reads one more after it counts, and holds at its largest value. -/
theorem Device.get_count_same (d : Device) (f : Fld) (h : f.hi < 32) (hlo : f.lo ≤ f.hi) :
    (d.count f).get f = min (d.get f + 1) (2 ^ (f.hi + 1 - f.lo) - 1) := by
  have hpos : 0 < 2 ^ (f.hi + 1 - f.lo) := Nat.two_pow_pos _
  rw [Device.count_eq, Device.get_put_same _ _ _ h hlo, Nat.mod_eq_of_lt (by omega)]

theorem Device.rd_count_ne (d : Device) (f : Fld) (a : Nat) (h : a ≠ f.reg) : (d.count f).rd a = d.rd a := by
  rw [Device.count_eq, Device.rd_put_ne _ _ _ _ h]

/-- A page stays live as a counter off its PAGE_CTRL, its PAGE_STAT and CLK.GOOD counts. -/
theorem Device.pageLive_count (d : Device) (f : Fld) (p : Nat) (hc : pageCtrl p ≠ f.reg) (hs : pageStat p ≠ f.reg) (hg : clkGood ≠ f.reg) :
    (d.count f).pageLive p = d.pageLive p :=
  pageLive_congr (d.rd_count_ne f _ hc) (by simp [Device.on, Device.get, fPsReleasePending, Device.rd_put_ne _ _ _ _ hs])
    (d.rd_count_ne f _ hg) rfl

/-- A 16-bit counter in the low half of its word that nothing after it touches, read once the device has settled. -/
theorem get_half_settle {d e : Device} {a : Nat} (hn : e.NoRemote) (hf : (fHalf a).settles = true)
    (h : e.get (fHalf a) = (d.count (fHalf a)).get (fHalf a)) : e.settle.get (fHalf a) = min (d.get (fHalf a) + 1) 0xFFFF := by
  rw [settle_get e hn _ hf, h, Device.get_count_same _ _ (by simp [fHalf]) (by simp [fHalf])]
  rfl

/-- An access starts only with none in progress (R30). -/
theorem bus_of_hostReady {d : Device} (h : d.hostReady = true) : d.bus = none := by
  simp only [Device.hostReady, Bool.and_eq_true, Option.isNone_iff_eq_none] at h
  exact h.2

/-! #### Where an address leads (R34) -/

theorem targetOf_page {page off : Nat} (hp : page < 256) (ho : off < 1024) (hk : (pageKind page).isSome = true) :
    targetOf (4 * wordAt page off) = .page (wordAt page off) := by
  have h1 : 4 * wordAt page off < 0x0100000 := by unfold wordAt; omega
  have h2 : 4 * wordAt page off / 4096 = page := by unfold wordAt; omega
  have h3 : 4 * wordAt page off / 4 = wordAt page off := by omega
  simp [targetOf, h1, h2, h3, hk]

theorem targetOf_memory {w : Nat} (hlo : 0x0200000 ≤ 4 * w) (hhi : 4 * w < 0x0C00000) : targetOf (4 * w) = .memory (4 * w) := by
  have h1 : ¬ 4 * w < 0x0100000 := by omega
  have h2 : 4 * w / 4 * 4 = 4 * w := by omega
  simp only [targetOf, if_neg h1, if_pos (And.intro hlo hhi), h2]

theorem pageOfWord_wordAt {page off : Nat} (ho : off < 1024) : pageOfWord (wordAt page off) = page := by
  unfold pageOfWord wordAt; omega

theorem offOfWord_wordAt {page off : Nat} (ho : off < 1024) : offOfWord (wordAt page off) = off := by
  unfold offOfWord wordAt; omega

/-! #### Writes that find no window, and reads of off pages -/

theorem Device.hostUnmapped_of_ready {d : Device} (h : d.hostReady = true) : d.hostUnmapped = d.unmappedWrite := if_pos h

theorem Device.rd_unmappedWrite (d : Device) (a : Nat) (h : a ∉ [hbusUnmappedCount, irqStat 0x05]) : d.unmappedWrite.rd a = d.rd a := by
  simp only [List.mem_cons, List.not_mem_nil, or_false, not_or] at h
  exact (Device.rd_irq_ne _ _ _ _ h.2).trans (Device.rd_count_ne _ (fHalf hbusUnmappedCount) _ h.1)

/-- A write that finds no window is counted and reported (R36). -/
theorem unmappedWrite_completes {s : State} (hn : s.dev.NoRemote) (hb : s.dev.hostReady = true) :
    Completes .unmappedWrite s (fun e => e.get (fHalf hbusUnmappedCount) = min (s.dev.get (fHalf hbusUnmappedCount) + 1) 0xFFFF
      ∧ Device.raised 0x05 3 s.dev e
      ∧ e.post = s.dev.post
      ∧ e.mirror = s.dev.mirror
      ∧ Device.OnlyRegs [hbusUnmappedCount, irqStat 0x05] s.dev e) := by
  have hn' : s.dev.unmappedWrite.NoRemote := Device.unmappedWrite_closed noRemote_closed hn
  have hrd := s.dev.rd_unmappedWrite
  refine completes_act Device.hostUnmapped rfl ?_
  rw [Device.hostUnmapped_of_ready hb]
  refine ⟨get_half_settle hn' (by decide) ?_, ?_, ?_, ?_, onlyRegs_settle hn' hrd ?_ ?_⟩
  · exact Device.get_irq_ne _ _ _ _ (by decide)
  · exact raised_settle hn' (by decide) (by decide) (Device.rd_count_ne _ (fHalf hbusUnmappedCount) _ (by decide))
      (Device.pageLive_count _ (fHalf hbusUnmappedCount) _ (by decide) (by decide) (by decide))
  · rw [settle_post _ hn']; simp [Device.unmappedWrite]
  · rw [settle_mirror _ hn']; simp [Device.unmappedWrite]
  · simp [Device.unmappedWrite]
  · simp [Device.unmappedWrite]

/-- A read of an off page beyond its header is counted and gives the off value. -/
theorem Device.offRead_of_off {d : Device} {page off : Nat} (hb : d.hostReady = true) (hp : page < 256) (ho : off < 1024)
    (hk : (pageKind page).isSome = true) (hoff : d.pageOff page = true) (h4 : 4 ≤ off) :
    d.offRead page off = { d.count (fHalf hbusOffReads) with hd := offValue } := by
  have hlt : ¬ off < 4 := by omega
  have hread : d.windowRead (4 * wordAt page off) = (offValue, .off, d.count (fHalf hbusOffReads)) := by
    simp only [Device.windowRead, targetOf_page hp ho hk, pageOfWord_wordAt ho, offOfWord_wordAt ho, hoff, hlt, if_true, if_false]
    rfl
  simp [Device.offRead, Device.hostRead, hk, hoff, hb, hread]

/-- A read of an off page beyond its header (R58). -/
theorem offPageRead_completes {s : State} (hn : s.dev.NoRemote) (hb : s.dev.hostReady = true) (page : Fin 256) (off : Fin 1024)
    (hk : (pageKind page.val).isSome = true) (hoff : s.dev.pageOff page.val = true) (h4 : 4 ≤ off.val) :
    Completes (.offPageRead page off) s (fun e => e.hd = 0x0FF00FF0#32
      ∧ e.get (fHalf hbusOffReads) = min (s.dev.get (fHalf hbusOffReads) + 1) 0xFFFF
      ∧ e.bus = none
      ∧ e.mirror = s.dev.mirror
      ∧ Device.OnlyRegs [hbusOffReads] s.dev e) := by
  refine completes_act (fun d => d.offRead page.val off.val) rfl ?_
  rw [Device.offRead_of_off hb page.isLt off.isLt hk hoff h4]
  have hn' : ({ s.dev.count (fHalf hbusOffReads) with hd := offValue } : Device).NoRemote := hn
  refine ⟨?_, get_half_settle hn' (by decide) rfl, ?_, ?_, onlyRegs_settle hn' ?_ rfl rfl⟩
  · rw [settle_hd _ hn']; rfl
  · rw [settle_bus _ hn']; exact (bus_of_hostReady hb : s.dev.bus = none)
  · rw [settle_mirror _ hn']; rfl
  · intro a ha
    exact Device.rd_count_ne _ (fHalf hbusOffReads) _ (fun h => ha (List.mem_singleton.2 h))

/-! #### Writes of memory windows -/

/-- One byte of a store under byte enables. -/
theorem storeGet_putByteIf {d : Nat → Byte} (m : List (Nat × Byte)) (a b k : Nat) (v : Word) (be : BitVec 4) :
    storeGet d (if be.getLsbD k then storePut d m (a + k) (v.extractLsb' (8 * k) 8) else m) b
      = if b = a + k ∧ be.getLsbD k = true then v.extractLsb' (8 * k) 8 else storeGet d m b := by
  cases hk : be.getLsbD k
  · simp
  · simp [storeGet_put]

/-- A store under byte enables writes the enabled bytes of the word at its address, and no other byte (R29). -/
theorem storeGet_writeWordBe {d : Nat → Byte} (m : List (Nat × Byte)) (a : Nat) (v : Word) (be : BitVec 4) (b : Nat) :
    storeGet d (writeWordBe d m a v be) b
      = if a ≤ b ∧ b < a + 4 ∧ be.getLsbD (b - a) = true then v.extractLsb' (8 * (b - a)) 8 else storeGet d m b := by
  simp only [writeWordBe, storeGet_putByteIf]
  by_cases hin : a ≤ b ∧ b < a + 4
  · obtain ⟨k, rfl⟩ : ∃ k, b = a + k := ⟨b - a, by omega⟩
    have hk : k = 0 ∨ k = 1 ∨ k = 2 ∨ k = 3 := by omega
    rcases hk with rfl | rfl | rfl | rfl <;> simp
  · have h0 : b ≠ a + 0 := by omega
    have h1 : b ≠ a + 1 := by omega
    have h2 : b ≠ a + 2 := by omega
    have h3 : b ≠ a + 3 := by omega
    simp only [h0, h1, h2, h3, false_and, if_false]
    rw [if_neg (fun h => hin ⟨h.1, h.2.1⟩)]

theorem Device.memWrite_of_ready {d : Device} {w : Nat} {x : RegWrite} (hb : d.hostReady = true) (hlo : 0x0200000 ≤ 4 * w)
    (hhi : 4 * w < 0x0C00000) : d.memWrite (4 * w) x = d.sramWrite (4 * w) x.value x.be := by
  simp only [Device.memWrite, targetOf_memory hlo hhi, hb, if_true]

theorem Device.sramWrite_manifest {d : Device} {a : Nat} {v : Word} {be : BitVec 4} (h : 0x0400000 ≤ a ∧ a < 0x0800000) :
    d.sramWrite a v be = d.count (fHalf manWriteDiscard) := if_pos h

/-- A write beside the manifest window changes SRAM, and the marks of lost words where it writes a whole word. -/
theorem Device.sramWrite_eq {d : Device} {a : Nat} {v : Word} {be : BitVec 4} (h : ¬ (0x0400000 ≤ a ∧ a < 0x0800000)) :
    ∃ r, d.sramWrite a v be = { d with sram := writeWordBe zeroByte d.sram a v be, rep := r } := by
  rw [Device.sramWrite, if_neg h]
  dsimp only
  split
  · exact ⟨_, rfl⟩
  · exact ⟨d.rep, rfl⟩

/-- A write of the manifest window only counts (R155), whichever row brings it. -/
theorem manifestDiscard_completes {c : Instr} {s : State} (hn : s.dev.NoRemote) (f : Device → Device) (hc : exec c s = act f s)
    (hf : f s.dev = s.dev.count (fHalf manWriteDiscard)) :
    Completes c s (fun e => e.get (fHalf manWriteDiscard) = min (s.dev.get (fHalf manWriteDiscard) + 1) 0xFFFF
      ∧ Device.OnlyRegs [manWriteDiscard] s.dev e) := by
  have hn' : (s.dev.count (fHalf manWriteDiscard)).NoRemote := hn
  refine completes_act f hc ?_
  rw [hf]
  refine ⟨get_half_settle hn' (by decide) rfl, onlyRegs_settle hn' (fun a ha => ?_) rfl rfl⟩
  exact Device.rd_count_ne _ (fHalf manWriteDiscard) _ (fun h => ha (List.mem_singleton.2 h))

/-- A write of a memory window beside the manifest's stores the enabled bytes (R29, R37). -/
theorem memoryWindowWrite_completes {s : State} (hn : s.dev.NoRemote) (hb : s.dev.hostReady = true) (word : BitVec 24) (w : RegWrite)
    (hlo : 0x0200000 ≤ 4 * word.toNat) (hhi : 4 * word.toNat < 0x0C00000)
    (hman : 4 * word.toNat < 0x0400000 ∨ 0x0800000 ≤ 4 * word.toNat) :
    Completes (.memoryWindowWrite word w) s (fun e => (∀ b, storeGet zeroByte e.sram b =
        if 4 * word.toNat ≤ b ∧ b < 4 * word.toNat + 4 ∧ w.be.getLsbD (b - 4 * word.toNat) = true
        then w.value.extractLsb' (8 * (b - 4 * word.toNat)) 8 else storeGet zeroByte s.dev.sram b)
      ∧ (∀ f : Fld, f.settles = true → e.get f = s.dev.get f)
      ∧ e.opt = s.dev.opt
      ∧ e.mirror = s.dev.mirror) := by
  refine completes_act (fun d => d.memWrite (4 * word.toNat) w) rfl ?_
  obtain ⟨r, hr⟩ := Device.sramWrite_eq (d := s.dev) (v := w.value) (be := w.be) (a := 4 * word.toNat) (by omega)
  rw [Device.memWrite_of_ready hb hlo hhi, hr]
  have hn' : ({ s.dev with sram := writeWordBe zeroByte s.dev.sram (4 * word.toNat) w.value w.be, rep := r } : Device).NoRemote := hn
  refine ⟨fun b => ?_, fun f hf => ?_, ?_, ?_⟩
  · rw [settle_sram _ hn']; exact storeGet_writeWordBe _ _ _ _ _
  · rw [settle_get _ hn' _ hf]; rfl
  · rw [settle_opt _ hn']
  · rw [settle_mirror _ hn']

/-! #### Reads of memory windows -/

/-- Appending a byte below a word. -/
theorem shiftLeft_or_byte (x : Nat) (b : Byte) : x <<< 8 ||| b.toNat = 256 * x + b.toNat := by
  rw [← Nat.shiftLeft_add_eq_or_of_lt b.isLt, Nat.shiftLeft_eq]
  omega

/-- Four bytes appended are the number they hold, the last one least significant. -/
theorem toNat_append_bytes (b0 b1 b2 b3 : Byte) : (b3 ++ b2 ++ b1 ++ b0).toNat = leNat [b0, b1, b2, b3] := by
  simp only [BitVec.toNat_append, shiftLeft_or_byte, leNat]
  omega

/-- The word at an address holds its four bytes, the lowest address least significant (R6). -/
theorem Device.sramWord_eq (d : Device) (a : Nat) :
    d.sramWord a = storeGet zeroByte d.sram (a + 3) ++ storeGet zeroByte d.sram (a + 2) ++ storeGet zeroByte d.sram (a + 1)
      ++ storeGet zeroByte d.sram a := by
  apply BitVec.eq_of_toNat_eq
  have happ := toNat_append_bytes (storeGet zeroByte d.sram a) (storeGet zeroByte d.sram (a + 1)) (storeGet zeroByte d.sram (a + 2))
    (storeGet zeroByte d.sram (a + 3))
  have hlt : leNat (readBytes zeroByte d.sram a 4) < 2 ^ 32 := happ ▸ BitVec.isLt _
  rw [Device.sramWord, readLe, BitVec.toNat_ofNat, Nat.mod_eq_of_lt hlt]
  exact happ.symm

section
variable {d : Device} {w : Nat} (find : WordFind) (hb : d.hostReady = true) (hlo : 0x0200000 ≤ 4 * w) (hhi : 4 * w < 0x0C00000)
include hb hlo hhi

/-- With no write of the direct-execute window left to program, a read of a memory window ends with the stored word on HD, and what the
check of the word finds is taken up (R38, R302). -/
theorem Device.memRead_ends (hw : d.sspm.writesPending = false) :
    d.memRead (4 * w) find = (d.busEnd (d.sramWord (4 * w))).readFound (4 * w) find := by
  simp only [Device.memRead, targetOf_memory hlo hhi, hb, if_true, Device.serveBus, hw, Bool.false_eq_true, if_false]
  rfl

/-- While one is left, the read waits (R38). -/
theorem Device.memRead_waits (hw : d.sspm.writesPending = true) :
    d.memRead (4 * w) find = ({ d with bus := some (.memRead (4 * w)) } : Device).readFound (4 * w) find := by
  simp only [Device.memRead, targetOf_memory hlo hhi, hb, if_true, Device.serveBus, hw]
end

section
variable {d : Device} {addr : Nat} (hbad : d.badAt (addr / 8 * 8) = false)
include hbad

theorem Device.readFound_clean : d.readFound addr .clean = d := by
  simp [Device.readFound, hbad]

theorem Device.readFound_corrected : d.readFound addr .corrected = d.eccCorrected ((addr - 0x0200000) / 2 ^ 20) := by
  simp [Device.readFound, hbad]

/-- An uncorrectable word of ring memory is counted and marked (R302). -/
theorem Device.readFound_uncorrectable (hlo : 0x0200000 ≤ addr) (hhi : addr < 0x0400000) :
    d.readFound addr .uncorrectable
      = (d.eccUncorrected ((addr - 0x0200000) / 2 ^ 20) ((addr - 0x0200000) % 2 ^ 20 / 8 * 8)).markBad (addr / 8 * 8) := by
  have h1 : (addr - 0x0200000) / 2 ^ 20 ≤ 1 := by omega
  have h5 : (addr - 0x0200000) / 2 ^ 20 ≤ 5 := by omega
  have ha : 0x0200000 + 0x100000 * ((addr - 0x0200000) / 2 ^ 20) + (addr - 0x0200000) % 2 ^ 20 / 8 * 8 = addr / 8 * 8 := by omega
  simp only [Device.readFound, hbad, Bool.false_eq_true, if_false, if_pos h5, Device.badWord, if_pos h1, ha]
end

theorem Device.badAt_markBad (d : Device) (a : Nat) : (d.markBad a).badAt a = true := by
  simp [Device.badAt, Device.markBad]

theorem Device.rd_markBad (d : Device) (a b : Nat) : (d.markBad a).rd b = d.rd b := Device.rd_congr rfl b

theorem Device.get_markBad (d : Device) (a : Nat) (f : Fld) : (d.markBad a).get f = d.get f := Device.get_congr rfl f

theorem Device.get_busEnd (d : Device) (v : Word) (f : Fld) : (d.busEnd v).get f = d.get f := Device.get_congr rfl f

/-! What counting an error of an SRAM word changes (R302). -/

theorem Device.rd_eccCorrected (d : Device) (bank a : Nat) (h : a ∉ [repEccCount, repRows bank, irqStat 0x11]) :
    (d.eccCorrected bank).rd a = d.rd a := by
  simp only [List.mem_cons, List.not_mem_nil, or_false, not_or] at h
  obtain ⟨hc, hr, hi⟩ := h
  rw [Device.eccCorrected, Device.rd_irq_ne _ _ _ _ hi, Device.rd_count_ne _ _ _ hr, Device.rd_count_ne _ _ _ hc]

theorem Device.get_eccCorrected (d : Device) (bank : Nat) :
    (d.eccCorrected bank).get fRepEccCountCorrected = min (d.get fRepEccCountCorrected + 1) 0xFFFF := by
  have hr : repEccCount ≠ repRows bank := by unfold repEccCount repRows; omega
  rw [Device.eccCorrected, Device.get_irq_ne _ _ _ _ (by decide), Device.count_eq _ (fRepRowsCorrected bank),
    Device.get_put_ne _ _ _ _ hr, Device.get_count_same _ _ (by decide) (by decide)]
  rfl

theorem Device.rd_eccUncorrected (d : Device) (bank off a : Nat) (h : a ∉ [repEccCount, repEccAddr, irqStat 0x11]) :
    (d.eccUncorrected bank off).rd a = d.rd a := by
  simp only [List.mem_cons, List.not_mem_nil, or_false, not_or] at h
  obtain ⟨hc, ha, hi⟩ := h
  rw [Device.eccUncorrected, Device.rd_irq_ne _ _ _ _ hi, Device.rd_wr, if_neg ha, Device.rd_count_ne _ _ _ hc]

theorem Device.get_eccUncorrected (d : Device) (bank off : Nat) :
    (d.eccUncorrected bank off).get fRepEccCountUncorrected = min (d.get fRepEccCountUncorrected + 1) 0xFFFF := by
  rw [Device.eccUncorrected, Device.get_irq_ne _ _ _ _ (by decide), Device.get_wr_ne _ _ _ _ (by decide),
    Device.get_count_same _ _ (by decide) (by decide)]
  rfl

/-- A lost word is counted and stays marked as the device settles. -/
theorem Device.lostWord_settle {d : Device} (hn : d.NoRemote) (bank off a : Nat) :
    ((d.eccUncorrected bank off).markBad a).settle.get fRepEccCountUncorrected = min (d.get fRepEccCountUncorrected + 1) 0xFFFF
      ∧ ((d.eccUncorrected bank off).markBad a).settle.badAt a = true
      ∧ Device.OnlyRegs [repEccCount, repEccAddr, irqStat 0x11] d ((d.eccUncorrected bank off).markBad a).settle := by
  have hn' : ((d.eccUncorrected bank off).markBad a).NoRemote :=
    Device.markBad_closed noRemote_closed (Device.eccUncorrected_closed noRemote_closed hn)
  refine ⟨?_, ?_, onlyRegs_settle hn' (fun b hb => ?_) ?_ ?_⟩
  · rw [settle_get _ hn' _ (by decide), Device.get_markBad, Device.get_eccUncorrected]
  · rw [Device.badAt, settle_rep _ hn']; exact Device.badAt_markBad _ _
  · rw [Device.rd_markBad, Device.rd_eccUncorrected _ _ _ _ hb]
  · simp [Device.markBad, Device.eccUncorrected]
  · simp [Device.markBad, Device.eccUncorrected]

/-! Reads of a memory window, by what the check of the word finds. -/

section
variable {s : State} (hn : s.dev.NoRemote) (hb : s.dev.hostReady = true) (word : BitVec 24) (hlo : 0x0200000 ≤ 4 * word.toNat)
  (hhi : 4 * word.toNat < 0x0C00000) (hbad : s.dev.badAt (4 * word.toNat / 8 * 8) = false)
include hn hb hlo hhi hbad

theorem memoryWindowRead_clean_completes (hw : s.dev.sspm.writesPending = false) :
    Completes (.memoryWindowRead word .clean) s (fun e =>
      e.hd = storeGet zeroByte s.dev.sram (4 * word.toNat + 3) ++ storeGet zeroByte s.dev.sram (4 * word.toNat + 2)
        ++ storeGet zeroByte s.dev.sram (4 * word.toNat + 1) ++ storeGet zeroByte s.dev.sram (4 * word.toNat)
      ∧ e.bus = none
      ∧ Device.OnlyRegs [] s.dev e) := by
  refine completes_act (fun d => d.memRead (4 * word.toNat) .clean) rfl ?_
  have hn' : (s.dev.busEnd (s.dev.sramWord (4 * word.toNat))).NoRemote := hn
  rw [Device.memRead_ends _ hb hlo hhi hw, Device.readFound_clean (d := s.dev.busEnd _) hbad]
  refine ⟨?_, ?_, onlyRegs_settle hn' (fun _ _ => rfl) rfl rfl⟩
  · rw [settle_hd _ hn', ← Device.sramWord_eq]; rfl
  · rw [settle_bus _ hn']; rfl

theorem memoryWindowRead_corrected_completes (hw : s.dev.sspm.writesPending = false) :
    Completes (.memoryWindowRead word .corrected) s (fun e =>
      e.hd = storeGet zeroByte s.dev.sram (4 * word.toNat + 3) ++ storeGet zeroByte s.dev.sram (4 * word.toNat + 2)
        ++ storeGet zeroByte s.dev.sram (4 * word.toNat + 1) ++ storeGet zeroByte s.dev.sram (4 * word.toNat)
      ∧ e.get fRepEccCountCorrected = min (s.dev.get fRepEccCountCorrected + 1) 0xFFFF
      ∧ Device.OnlyRegs [repEccCount, repRows ((4 * word.toNat - 0x0200000) / 2 ^ 20), irqStat 0x11] s.dev e) := by
  refine completes_act (fun d => d.memRead (4 * word.toNat) .corrected) rfl ?_
  have hn' : ((s.dev.busEnd (s.dev.sramWord (4 * word.toNat))).eccCorrected ((4 * word.toNat - 0x0200000) / 2 ^ 20)).NoRemote :=
    Device.eccCorrected_closed noRemote_closed hn
  rw [Device.memRead_ends _ hb hlo hhi hw, Device.readFound_corrected (d := s.dev.busEnd _) hbad]
  refine ⟨?_, ?_, onlyRegs_settle hn' (fun a ha => ?_) ?_ ?_⟩
  · rw [settle_hd _ hn', ← Device.sramWord_eq]; simp [Device.eccCorrected, Device.busEnd]
  · rw [settle_get _ hn' _ (by decide), Device.get_eccCorrected, Device.get_busEnd]
  · rw [Device.rd_eccCorrected _ _ _ ha]; rfl
  · simp [Device.eccCorrected, Device.busEnd]
  · simp [Device.eccCorrected, Device.busEnd]

omit hhi in
theorem memoryWindowRead_uncorrectable_completes (hw : s.dev.sspm.writesPending = false) (hring : 4 * word.toNat < 0x0400000) :
    Completes (.memoryWindowRead word .uncorrectable) s (fun e =>
      e.get fRepEccCountUncorrected = min (s.dev.get fRepEccCountUncorrected + 1) 0xFFFF
      ∧ e.badAt (4 * word.toNat / 8 * 8) = true
      ∧ Device.OnlyRegs [repEccCount, repEccAddr, irqStat 0x11] s.dev e) := by
  refine completes_act (fun d => d.memRead (4 * word.toNat) .uncorrectable) rfl ?_
  rw [Device.memRead_ends _ hb hlo (by omega) hw, Device.readFound_uncorrectable (d := s.dev.busEnd _) hbad hlo hring]
  obtain ⟨hget, hmark, hregs⟩ := Device.lostWord_settle (d := s.dev.busEnd (s.dev.sramWord (4 * word.toNat))) hn
    ((4 * word.toNat - 0x0200000) / 2 ^ 20) ((4 * word.toNat - 0x0200000) % 2 ^ 20 / 8 * 8) (4 * word.toNat / 8 * 8)
  rw [Device.get_busEnd] at hget
  exact ⟨hget, hmark, hregs.regs, hregs.sram, hregs.opt⟩

theorem memoryWindowRead_waits_completes (hw : s.dev.sspm.writesPending = true) :
    Completes (.memoryWindowRead word .clean) s (fun e => e.bus = some (.memRead (4 * word.toNat))
      ∧ e.hd = s.dev.hd
      ∧ Device.OnlyRegs [] s.dev e) := by
  refine completes_act (fun d => d.memRead (4 * word.toNat) .clean) rfl ?_
  have hn' : ({ s.dev with bus := some (.memRead (4 * word.toNat)) } : Device).NoRemote := hn
  rw [Device.memRead_waits _ hb hlo hhi hw, Device.readFound_clean (d := { s.dev with bus := some (.memRead (4 * word.toNat)) }) hbad]
  refine ⟨?_, ?_, onlyRegs_settle hn' (fun _ _ => rfl) rfl rfl⟩
  · rw [settle_bus _ hn']
  · rw [settle_hd _ hn']
end

/-- Settles O14, clause by clause: writes that find no window and reads of off pages, writes of memory windows, reads of memory windows. -/
theorem windowsAndUnmapped : Obligations.WindowsAndUnmapped := by
  intro s hn
  refine ⟨fun hb => ⟨unmappedWrite_completes hn hb, offPageRead_completes hn hb⟩, fun hb => ⟨?_, ?_, ?_⟩,
    fun word hb hlo hhi hbad => ⟨?_, ?_, ?_, ?_⟩⟩
  · exact memoryWindowWrite_completes hn hb
  · intro word w hlo hhi
    exact manifestDiscard_completes hn (fun d => d.memWrite (4 * word.toNat) w) rfl
      ((Device.memWrite_of_ready hb (by omega) (by omega)).trans (Device.sramWrite_manifest ⟨hlo, hhi⟩))
  · exact manifestDiscard_completes hn Device.manifestDiscard rfl (if_pos hb)
  · exact memoryWindowRead_clean_completes hn hb word hlo hhi hbad
  · exact memoryWindowRead_corrected_completes hn hb word hlo hhi hbad
  · exact memoryWindowRead_uncorrectable_completes hn hb word hlo hbad
  · exact memoryWindowRead_waits_completes hn hb word hlo hhi hbad

end Sys2Proof.Machine


namespace Sys2Proof.Machine

/-! ### The host bus: waiting accesses, off pages, ignored writes and the post queue -/

/-! #### What one word of the mirror reads after another is set -/

/-- Setting the mirror's copy of a word changes that word, and RTC.STAT where TIME or DATE moves (R432). -/
theorem Device.mirrored_setMirror (d : Device) (a : Nat) (v : Word) {b : Nat} (hb : b ≠ rtcStat) :
    (d.setMirror a v).mirrored b = if b = a then v else d.mirrored b := by
  have hput : ∀ (m : List (Nat × Word)) (c : Nat) (w : Word),
      storeGet resetWord (storePut resetWord m c w) b = if b = c then w else storeGet resetWord m b :=
    fun m c w => storeGet_put m c b w
  simp only [Device.setMirror]
  split
  · rename_i ha
    simp [Device.mirrored, hput, ha, hb]
  · split <;> simp [Device.mirrored, hput, hb]

/-! #### Posting a write (R43, R44, R46) -/

section
variable (d : Device) (x : Posted)

/-- A write that is posted moves the queue's level and its page's WPEND. -/
theorem Device.rd_enqueue {a : Nat} (h : a ∉ [hbusStat, pageStat (pageOfWord x.addr)]) : (d.enqueue x).rd a = d.rd a := by
  simp only [List.mem_cons, List.not_mem_nil, or_false, not_or] at h
  obtain ⟨hq, hw⟩ := h
  simp [Device.enqueue, Device.showQueue, Device.rd_put, Device.mirrorWritten, fHbusStatQlevel, fHbusStatQpeak, fPsWpend, hq, hw]

@[simp] theorem Device.enqueue_bus : (d.enqueue x).bus = d.bus := by simp [Device.enqueue, Device.showQueue, Device.mirrorWritten]
@[simp] theorem Device.enqueue_sram : (d.enqueue x).sram = d.sram := by simp [Device.enqueue, Device.showQueue, Device.mirrorWritten]
@[simp] theorem Device.enqueue_opt : (d.enqueue x).opt = d.opt := by simp [Device.enqueue, Device.showQueue, Device.mirrorWritten]

/-- WPEND of the page is 1 (R46). -/
theorem Device.on_wpend_enqueue : (d.enqueue x).on (fPsWpend (pageOfWord x.addr)) = true := by
  simp only [Device.enqueue, Device.on]
  rw [Device.get_put_same _ _ _ (by simp [fPsWpend]) (by simp [fPsWpend])]
  simp [fPsWpend]

/-- QLEVEL shows the entries of the queue. -/
theorem Device.get_qlevel_enqueue (h : d.post.length < 32) : (d.enqueue x).get fHbusStatQlevel = d.post.length + 1 := by
  have hw : fHbusStatQlevel.reg ≠ (fPsWpend (pageOfWord x.addr)).reg := by
    simp only [fHbusStatQlevel, fPsWpend, hbusStat, pageStat, wordAt]; omega
  simp only [Device.enqueue, Device.showQueue]
  rw [Device.get_put_ne _ _ _ _ hw, Device.get_put_apart _ _ _ _ (by decide) (by decide) (by decide),
    Device.get_put_same _ _ _ (by decide) (by decide)]
  simp [Device.mirrorWritten, fHbusStatQlevel]
  omega

end

/-- Bit by bit, a written word's RW and RWL bits are the new ones and its W1C bits written with 1 are 0 (R44). -/
theorem getLsbD_mirrorWritten (d : Device) (a : Nat) (v : Word) (ha : a ≠ rtcStat) (i : Fin 32) :
    ((d.mirrorWritten a v).mirrored a).getLsbD i.val
      = ((if (rwBits (pageOfWord a) (offOfWord a)).testBit i.val then v.getLsbD i.val else (d.mirrored a).getLsbD i.val)
        && !((w1cBits (pageOfWord a) (offOfWord a)).testBit i.val && v.getLsbD i.val)) := by
  rw [Device.mirrorWritten, Device.mirrored_setMirror _ _ _ ha, if_pos rfl]
  have hi := i.isLt
  simp only [BitVec.getLsbD_and, BitVec.getLsbD_or, BitVec.getLsbD_not, BitVec.getLsbD_ofNat, hi, decide_true, Bool.true_and]
  cases (rwBits (pageOfWord a) (offOfWord a)).testBit i.val <;> cases (w1cBits (pageOfWord a) (offOfWord a)).testBit i.val
    <;> cases v.getLsbD i.val <;> simp

theorem mirrored_mirrorWritten_ne (d : Device) (a : Nat) (v : Word) {b : Nat} (hb : b ≠ a) (hr : b ≠ rtcStat) :
    (d.mirrorWritten a v).mirrored b = d.mirrored b := by
  rw [Device.mirrorWritten, Device.mirrored_setMirror _ _ _ hr, if_neg hb]

/-- A write that the bus takes and the queue has room for is posted. -/
theorem Device.pageWrite_posts {d : Device} {a : Nat} (v : Word) (be : BitVec 4) (hp : d.pwr.phase = .awake)
    (hon : d.pageOff (pageOfWord a) = false ∨ offOfWord a = 2) (hroom : d.post.length < 32) :
    d.pageWrite a v be = some (.ok, d.enqueue (d.posted a v be)) := by
  have hoff : (d.pageOff (pageOfWord a) && offOfWord a != 2) = false := by
    rcases hon with h | h <;> simp [h]
  simp [Device.pageWrite, hp, hoff, Device.postRoom, hroom, Device.posted]

/-- One that finds the queue full waits (R43). -/
theorem Device.pageWrite_waits {d : Device} {a : Nat} (v : Word) (be : BitVec 4) (hp : d.pwr.phase = .awake)
    (hon : d.pageOff (pageOfWord a) = false ∨ offOfWord a = 2) (hfull : d.post.length = 32) : d.pageWrite a v be = none := by
  have hoff : (d.pageOff (pageOfWord a) && offOfWord a != 2) = false := by
    rcases hon with h | h <;> simp [h]
  simp [Device.pageWrite, hp, hoff, Device.postRoom, hfull]

/-- One of an off page, but at its PAGE_CTRL, is discarded (R59). -/
theorem Device.pageWrite_off {d : Device} {a : Nat} (v : Word) (be : BitVec 4) (hoff : d.pageOff (pageOfWord a) = true)
    (ha : offOfWord a ≠ 2) : d.pageWrite a v be = some (.off, d.offWrite (pageOfWord a)) := by
  simp [Device.pageWrite, hoff, ha]

/-- A REGISTER_WRITE that is posted. -/
theorem Device.registerWrite_posts {d : Device} {page off : Nat} (w : RegWrite) (ho : off < 1024) (hb : d.hostReady = true)
    (hp : d.pwr.phase = .awake) (hk : (pageKind page).isSome = true) (hon : d.pageOff page = false ∨ off = 2)
    (hroom : d.post.length < 32) :
    d.registerWrite page off w = d.enqueue (d.posted (wordAt page off) w.value w.be) := by
  rw [← pageOfWord_wordAt (page := page) ho] at hon
  have hon' : d.pageOff (pageOfWord (wordAt page off)) = false ∨ offOfWord (wordAt page off) = 2 := by
    rwa [offOfWord_wordAt ho]
  simp [Device.registerWrite, hk, Device.hostWrite, hb, Device.pageWrite_posts w.value w.be hp hon' hroom]

/-! #### The limit on HRDY_N (R39) -/

/-- The device after the limit has ended the waiting access, with `v` on HD. -/
def Device.timedOut (d : Device) (v : Word) : Device := ({ d with bus := none, hd := v }.count (fHalf hbusTimeoutCount)).irq 0x05 1

/-- HD takes no part in an event. -/
theorem Device.irq_with_hd (d : Device) (v : Word) (p b : Nat) :
    { d.irq p b with hd := v } = ({ d with hd := v } : Device).irq p b := by
  have hon : ({ d with hd := v } : Device).on ⟨irqEn p, b, b⟩ = d.on ⟨irqEn p, b, b⟩ := rfl
  have hlive : ({ d with hd := v } : Device).pageLive p = d.pageLive p := rfl
  simp only [Device.irq, hon, hlive]
  split <;> rfl

theorem Device.rd_timedOut (d : Device) (v : Word) {a : Nat} (h : a ∉ [hbusTimeoutCount, irqStat 0x05]) : (d.timedOut v).rd a = d.rd a := by
  simp only [List.mem_cons, List.not_mem_nil, or_false, not_or] at h
  exact (Device.rd_irq_ne _ _ _ _ h.2).trans (Device.rd_count_ne { d with bus := none, hd := v } (fHalf hbusTimeoutCount) a h.1)

/-- What the end of a waiting access leaves, whatever data it gives. -/
theorem timedOut_completes {s : State} (hn : s.dev.NoRemote) (v : Word) (h : s.dev.waitLimit false = s.dev.timedOut v) :
    Completes (.waitLimitExpiry false) s (fun e => e.bus = none
      ∧ e.get (fHalf hbusTimeoutCount) = min (s.dev.get (fHalf hbusTimeoutCount) + 1) 0xFFFF
      ∧ Device.raised 0x05 1 s.dev e
      ∧ e.hd = v
      ∧ e.post = s.dev.post
      ∧ e.sspm = s.dev.sspm
      ∧ Device.OnlyRegs [hbusTimeoutCount, irqStat 0x05] s.dev e) := by
  refine completes_act (fun d => d.waitLimit false) rfl ?_
  have hn' : (s.dev.timedOut v).NoRemote := Device.irq_closed noRemote_closed hn
  rw [h]
  refine ⟨?_, get_half_settle hn' (by decide) ?_, ?_, ?_, ?_, ?_, onlyRegs_settle hn' (fun a ha => s.dev.rd_timedOut v ha) ?_ ?_⟩
  · rw [settle_bus _ hn']; simp [Device.timedOut]
  · exact Device.get_irq_ne _ _ _ _ (by decide)
  · exact raised_settle hn' (by decide) (by decide)
      (Device.rd_count_ne { s.dev with bus := none, hd := v } (fHalf hbusTimeoutCount) _ (by decide))
      (Device.pageLive_count { s.dev with bus := none, hd := v } (fHalf hbusTimeoutCount) _ (by decide) (by decide) (by decide))
  · rw [settle_hd _ hn']; simp [Device.timedOut]
  · rw [settle_post _ hn']; simp [Device.timedOut]
  · rw [settle_sspm _ hn']; simp [Device.timedOut]
  · simp [Device.timedOut]
  · simp [Device.timedOut]

section
variable {d : Device} (hl : d.get fHbusCtrlWaitLim ≠ 0)
include hl

/-- A read that is ended gives 0x0FF0_0FF0. -/
theorem Device.waitLimit_read {x : BusAccess} (hb : d.bus = some x) (hx : (∃ a, x = .memRead a) ∨ ∃ a, x = .xipRead a) :
    d.waitLimit false = d.timedOut 0x0FF00FF0#32 := by
  rcases hx with ⟨a, rfl⟩ | ⟨a, rfl⟩ <;> simp only [Device.waitLimit, hl, hb, if_false, Bool.false_eq_true] <;>
    exact Device.irq_with_hd _ _ _ _

/-- A write that is ended is discarded. -/
theorem Device.waitLimit_write {x : BusAccess} (hb : d.bus = some x) (hx : (∃ p, x = .posted p) ∨ ∃ a v be, x = .xipWrite a v be) :
    d.waitLimit false = d.timedOut d.hd := by
  rcases hx with ⟨p, rfl⟩ | ⟨a, v, be, rfl⟩ <;> simp only [Device.waitLimit, hl, hb, if_false, Bool.false_eq_true] <;> rfl

end

/-- Settles O15: each kind of waiting access ends in `timedOut`, and a limit of 0 leaves the device as it is. -/
theorem waitLimitEndsAccess : Obligations.WaitLimitEndsAccess := by
  intro s x hn hb
  refine ⟨fun hl => ?_, fun hl => ?_⟩
  · cases x with
    | posted p => exact timedOut_completes hn _ (Device.waitLimit_write hl hb (.inl ⟨p, rfl⟩))
    | memRead a => exact timedOut_completes hn _ (Device.waitLimit_read hl hb (.inl ⟨a, rfl⟩))
    | xipRead a => exact timedOut_completes hn _ (Device.waitLimit_read hl hb (.inr ⟨a, rfl⟩))
    | xipWrite a v be => exact timedOut_completes hn _ (Device.waitLimit_write hl hb (.inr ⟨a, v, be, rfl⟩))
  · have hsame : s.dev.waitLimit false = s.dev := by simp [Device.waitLimit, hl]
    calc exec (.waitLimitExpiry false) s = act (fun d => d.waitLimit false) s := rfl
      _ = .next { s with dev := s.dev.settle } := by rw [act_next, hsame]

/-- Settles O10: a row that is a register write is that write (`exec_hostRow`), and the write is applied at once. -/
theorem hostWriteTakesEffect : Obligations.HostWriteTakesEffect :=
  fun s c a v be finds => exec_applies c s a v be finds

/-! #### Writes of off pages (R59) -/

theorem Device.rd_offWrite (d : Device) (p : Nat) {a : Nat} (h : a ∉ [hbusOffCount, irqStat 0x05]) : (d.offWrite p).rd a = d.rd a := by
  simp only [List.mem_cons, List.not_mem_nil, or_false, not_or] at h
  obtain ⟨hc, hi⟩ := h
  rw [Device.offWrite, Device.rd_irq_ne _ _ _ _ hi, Device.rd_put_ne _ _ _ _ hc, Device.rd_count_ne _ _ _ hc]

/-- A write of page `p` that is off leaves its count, its record and its event. -/
theorem offWrite_completes {c : Instr} {s : State} (hn : s.dev.NoRemote) (p : Nat)
    (h : exec c s = .next { s with dev := (s.dev.offWrite p).settle }) :
    Completes c s (fun e => e.get fHbusOffCountCount = min (s.dev.get fHbusOffCountCount + 1) 0xFFFF
      ∧ e.get fHbusOffCountLastPage = p % 256
      ∧ Device.raised 0x05 0 s.dev e
      ∧ e.mirror = s.dev.mirror
      ∧ e.post = s.dev.post
      ∧ e.bus = s.dev.bus
      ∧ Device.OnlyRegs [hbusOffCount, irqStat 0x05] s.dev e) := by
  have hn' : (s.dev.offWrite p).NoRemote := Device.offWrite_closed noRemote_closed hn
  refine ⟨_, h, rfl, ?_, ?_, ?_, ?_, ?_, ?_, onlyRegs_settle hn' (fun a ha => s.dev.rd_offWrite p ha) ?_ ?_⟩
  · rw [settle_get _ hn' _ (by decide), Device.offWrite, Device.get_irq_ne _ _ _ _ (by decide),
      Device.get_put_apart _ _ _ _ (by decide) (by decide) (by decide), Device.get_count_same _ _ (by decide) (by decide)]
    rfl
  · rw [settle_get _ hn' _ (by decide), Device.offWrite, Device.get_irq_ne _ _ _ _ (by decide),
      Device.get_put_same _ _ _ (by decide) (by decide)]
    rfl
  · have hrd : ∀ a, a ≠ hbusOffCount → ((s.dev.count fHbusOffCountCount).put fHbusOffCountLastPage p).rd a = s.dev.rd a :=
      fun a ha => (Device.rd_put_ne _ _ _ _ ha).trans (Device.rd_count_ne _ _ _ ha)
    refine raised_settle hn' (by decide) (by decide) (hrd _ (by decide)) (pageLive_congr (hrd _ (by decide)) ?_ (hrd _ (by decide)) rfl)
    simp only [Device.on, Device.get, hrd _ (show (fPsReleasePending 0x05).reg ≠ hbusOffCount by decide)]
  · rw [settle_mirror _ hn']; simp [Device.offWrite]
  · rw [settle_post _ hn']; simp [Device.offWrite]
  · rw [settle_bus _ hn']; simp [Device.offWrite]
  · simp [Device.offWrite]
  · simp [Device.offWrite]

/-- A write of PAGE_CTRL that is posted. -/
theorem registerWrite_posts_completes {s : State} (hn : s.dev.NoRemote) (page : Fin 256) (off : Fin 1024) (w : RegWrite)
    (hb : s.dev.hostReady = true) (hp : s.dev.pwr.phase = .awake) (hk : (pageKind page.val).isSome = true)
    (hon : s.dev.pageOff page.val = false ∨ off.val = 2) (hroom : s.dev.post.length < 32) :
    ∃ e : Device, (e = s.dev.enqueue (s.dev.posted (wordAt page.val off.val) w.value w.be)) ∧ e.NoRemote
      ∧ exec (.registerWrite page off w) s = .next { s with dev := e.settle }
      ∧ Device.OnlyRegs [hbusStat, pageStat page.val] s.dev e.settle := by
  refine ⟨_, rfl, Device.enqueue_closed noRemote_closed hn, ?_, ?_⟩
  · have h := s.dev.registerWrite_posts w off.isLt hb hp hk hon hroom
    calc exec (.registerWrite page off w) s = act (fun d => d.registerWrite page.val off.val w) s := rfl
      _ = _ := by rw [act_next, h]
  · refine onlyRegs_settle (Device.enqueue_closed noRemote_closed hn) (fun a ha => Device.rd_enqueue _ _ ?_) (by simp) (by simp)
    rwa [show pageOfWord (s.dev.posted (wordAt page.val off.val) w.value w.be).addr = page.val from pageOfWord_wordAt off.isLt]

/-- Settles O12: off PAGE_CTRL both kinds of write end in `offWrite`, at PAGE_CTRL the write is posted. -/
theorem hostWriteOfOffPage : Obligations.HostWriteOfOffPage := by
  intro s hn hb
  refine ⟨fun c a v be finds hc hoff ha => ?_, fun page off w hk hoff ho => ?_, fun page w hk hoff hp hroom => ?_⟩
  · refine offWrite_completes hn _ ?_
    rw [exec_hostRow c s a v be finds hc]
    simp [Device.ownWrite, hb, Device.pageWrite_off v be hoff ha]
  · have hword := pageOfWord_wordAt (page := page.val) off.isLt
    have hwrite : s.dev.registerWrite page.val off.val w = s.dev.offWrite page.val := by
      have hpw := Device.pageWrite_off w.value w.be (hword.symm ▸ hoff) ((offOfWord_wordAt (page := page.val) off.isLt).symm ▸ ho)
      rw [hword] at hpw
      simp [Device.registerWrite, hk, Device.hostWrite, hb, hpw]
    have h : exec (.registerWrite page off w) s = .next { s with dev := (s.dev.offWrite page.val).settle } := by
      calc exec (.registerWrite page off w) s = act (fun d => d.registerWrite page.val off.val w) s := rfl
        _ = _ := by rw [act_next, hwrite]
    simpa [Nat.mod_eq_of_lt page.isLt] using offWrite_completes hn page.val h
  · obtain ⟨e, he, hn', hexec, hregs⟩ := registerWrite_posts_completes hn page 2 w hb hp hk (.inr rfl) hroom
    refine ⟨_, hexec, rfl, ?_, ?_, hregs⟩
    · rw [settle_post _ hn', he, enqueue_post]; rfl
    · rw [settle_bus _ hn', he, Device.enqueue_bus]

/-! #### Words sent to the mirror (R41, R47) -/

/-- A plain word shows its register. -/
theorem Device.shown_plain (d : Device) {a : Nat} (h : plainWord a = true) : d.shown a = (d.rd a, d) := by
  simp only [plainWord, Bool.and_eq_true, Bool.not_eq_true', List.contains_eq_mem, List.mem_cons, List.not_mem_nil,
    decide_eq_false_iff_not, Bool.and_eq_false_iff, or_false, not_or] at h
  obtain ⟨⟨hocc, hvisit⟩, hports⟩ := h
  have h1 : ¬(pageOfWord a = 0x12 ∧ 0x40 ≤ offOfWord a ∧ offOfWord a < 0x80) := by tauto
  have h2 : ¬(pageOfWord a = 0x14 ∧ 0x40 ≤ offOfWord a ∧ offOfWord a < 0x60 ∧ offOfWord a % 8 = 7) := by tauto
  simp [Device.shown, h1, h2, hports]

theorem plainWord_ne_rtcStat {a : Nat} (h : plainWord a = true) : a ≠ rtcStat := by
  rintro rfl
  exact absurd h (by decide)

/-- The mirror is all that setting it changes. -/
theorem Device.setMirror_same (d : Device) (a : Nat) (v : Word) : d.setMirror a v = { d with mirror := (d.setMirror a v).mirror } := by
  simp only [Device.setMirror]
  split
  · rfl
  · split <;> rfl

/-- From `d` to `e` a free value may have been taken, and nothing else changes. -/
def FreeOnly (d e : Device) : Prop := e = { d with free := e.free }

theorem freeOnly_divOpen (d : Device) (num : Int) (den : Nat) : FreeOnly d (d.divOpen num den).2 := by
  unfold Device.divOpen
  split <;> rfl

theorem freeOnly_ite {c : Prop} [Decidable c] {d : Device} {x y : Word × Device} (hx : FreeOnly d x.2) (hy : FreeOnly d y.2) :
    FreeOnly d (if c then x else y).2 := by split <;> assumption

/-- Of the words that show the device's state, only OCC_h with its open rounding takes a free value. -/
theorem freeOnly_shown (d : Device) (a : Nat) : FreeOnly d (d.shown a).2 := by
  unfold Device.shown
  refine freeOnly_ite ?_ ?_
  · cases d.profile with
    | none => rfl
    | some pr =>
      dsimp only
      cases pr.channels[offOfWord a - 0x40]? with
      | none => rfl
      | some ch => exact freeOnly_divOpen _ _ _
  · iterate 12 refine freeOnly_ite rfl ?_
    rfl

section
variable (d : Device) (a : Nat)

/-- Sending a word changes the mirror, takes a free value where its rounding is open, and marks a capture as sent. -/
theorem Device.sync_same :
    d.sync a = { d with mirror := (d.sync a).mirror, free := (d.sync a).free, timers := (d.sync a).timers } := by
  have h := freeOnly_shown d a
  simp only [FreeOnly] at h
  simp only [Device.sync]
  rw [h, Device.setMirror_same]
  split <;> rfl

theorem Device.rd_sync (b : Nat) : (d.sync a).rd b = d.rd b := by rw [d.sync_same a]; rfl

theorem Device.get_sync (f : Fld) : (d.sync a).get f = d.get f := by rw [d.sync_same a]; rfl

/-- A plain word to which no write is pending shows its register in the mirror then. -/
theorem Device.mirrored_sync (h : plainWord a = true) (hpost : ∀ x ∈ d.post, x.addr ≠ a) {b : Nat} (hb : b ≠ rtcStat) :
    (d.sync a).mirrored b = if b = a then d.rd a else d.mirrored b := by
  have hany : d.post.any (fun x => x.addr = a) = false := by simpa using hpost
  simp only [Device.sync, d.shown_plain h, hany]
  split <;> exact d.mirrored_setMirror a _ hb

end

/-- The oldest posted write of an island stands behind those of other islands. -/
theorem takePosted_append {i : Nat} {before : List Posted} (x : Posted) (after : List Posted) (hx : islandOf (pageOfWord x.addr) = i)
    (hbefore : ∀ y ∈ before, islandOf (pageOfWord y.addr) ≠ i) : takePosted i (before ++ x :: after) = some (x, before ++ after) := by
  induction before with
  | nil => simp [takePosted, hx]
  | cons y t ih =>
    have hy := hbefore y (by simp)
    simp [takePosted, hy, ih (fun z hz => hbefore z (by simp [hz]))]

/-! #### Fields that settling does not reach -/

theorem settles_of {f : Fld} (h : ∀ g ∈ settleFields, g.reg = f.reg → f.hi < g.lo ∨ g.hi < f.lo) : f.settles = true := by
  simp only [Fld.settles, List.all_eq_true, Bool.or_eq_true, bne_iff_ne, ne_eq, decide_eq_true_eq, or_assoc]
  exact fun g hg => or_iff_not_imp_left.2 (fun hr => h g hg (not_not.1 hr))

/-- ENQ, SHUTTING_DOWN and WPEND of a page are out of reach of settling, which moves BUSY and STATE alone. -/
theorem settles_pageStat (p : Nat) {hi lo : Nat} (hlo : 5 ≤ lo) (hhi : hi ≤ 7) : (⟨pageStat p, hi, lo⟩ : Fld).settles = true := by
  refine settles_of (fun g hg hr => ?_)
  have hoff : g.reg % 1024 = 3 := by rw [hr]; simp only [pageStat, wordAt]; omega
  have hg' := (by decide : ∀ g ∈ settleFields, g.reg % 1024 = 3 → g.hi < 5 ∨ 7 < g.lo) g hg hoff
  dsimp only
  omega

theorem settles_wpend (p : Nat) : (fPsWpend p).settles = true := settles_pageStat p (by decide) (by decide)

/-- So is every word of the pages from PILOT_0 on: PILOT, PATH and SESSION pages. -/
theorem settles_of_page {f : Fld} (h : 0x20 * 1024 ≤ f.reg) : f.settles = true :=
  settles_of (fun g hg hr => absurd ((by decide : ∀ g ∈ settleFields, g.reg < 0x20 * 1024) g hg) (by omega))

section
variable {s : State} (hn : s.dev.NoRemote)
include hn

/-- A freed entry of the post queue takes the write that waited (R43). -/
theorem postQueueEntryFreed_completes {x : Posted} (hb : s.dev.bus = some (.posted x)) (hroom : s.dev.post.length < 32) :
    Completes .postQueueEntryFreed s (fun e => e.bus = none
      ∧ e.post = s.dev.post ++ [{ x with level := s.dev.level }]
      ∧ e.on (fPsWpend (pageOfWord x.addr)) = true
      ∧ Device.OnlyRegs [hbusStat, pageStat (pageOfWord x.addr)] s.dev e) := by
  let y : Posted := { x with level := s.dev.level }
  let b : Device := { s.dev with bus := none }
  have hn' : (b.enqueue y).NoRemote := Device.enqueue_closed noRemote_closed (d := b) hn
  have heq : s.dev.queueFreed = b.enqueue y := by simp [Device.queueFreed, hb, Device.postRoom, hroom, b, y]
  refine completes_act Device.queueFreed rfl ?_
  rw [heq]
  refine ⟨?_, ?_, ?_, onlyRegs_settle hn' (fun a ha => b.rd_enqueue y ha) (b.enqueue_sram y) (b.enqueue_opt y)⟩
  · rw [settle_bus _ hn', Device.enqueue_bus]
  · rw [settle_post _ hn', enqueue_post]
  · rw [settle_on _ hn' _ (settles_wpend _)]
    exact b.on_wpend_enqueue y

/-- An acknowledgement clears WPEND when no write to the page is left (R46). -/
theorem writeAckReceived_completes (page : Fin 256) (hpost : ∀ x ∈ s.dev.post, pageOfWord x.addr ≠ page.val) :
    Completes (.writeAckReceived page) s (fun e => e.on (fPsWpend page.val) = false
      ∧ e.post = s.dev.post
      ∧ Device.OnlyRegs [pageStat page.val] s.dev e) := by
  have heq : s.dev.writeAck page.val = s.dev.put (fPsWpend page.val) 0 := by
    have hany : s.dev.post.any (fun x => pageOfWord x.addr = page.val) = false := by simpa using hpost
    simp [Device.writeAck, hany]
  have hn' : (s.dev.put (fPsWpend page.val) 0).NoRemote := hn
  refine completes_act (fun d => d.writeAck page.val) rfl ?_
  rw [heq]
  refine ⟨?_, ?_, onlyRegs_settle hn' (fun a ha => Device.rd_put_ne _ _ _ _ (List.mem_singleton.not.1 ha)) rfl rfl⟩
  · rw [settle_on _ hn' _ (settles_wpend _), Device.on,
      Device.get_put_same _ _ _ (by simp [fPsWpend]) (by simp [fPsWpend])]
    simp
  · rw [settle_post _ hn']; rfl

/-- A word sent to the mirror shows there (R41, R47). -/
theorem mirrorUpdate_completes (page : Fin 256) (off : Fin 1024) (noise : Word) (hk : (pageKind page.val).isSome = true)
    (hpost : ∀ x ∈ s.dev.post, x.addr ≠ wordAt page.val off.val) (hplain : plainWord (wordAt page.val off.val) = true)
    (hnoise : isPath page.val = true → ¬ (0x24 ≤ off.val ∧ off.val < 0x28)) :
    Completes (.mirrorUpdate page [off] noise) s (fun e =>
      e.mirrored (wordAt page.val off.val) = s.dev.rd (wordAt page.val off.val)
      ∧ (∀ b, b ≠ wordAt page.val off.val → b ≠ rtcStat → e.mirrored b = s.dev.mirrored b)
      ∧ Device.OnlyRegs [] s.dev e) := by
  have heq : s.dev.mirrorSend page.val [off] noise = s.dev.sync (wordAt page.val off.val) := by
    have h : ¬(isPath page.val = true ∧ 0x24 ≤ off.val ∧ off.val < 0x28) := fun h => hnoise h.1 h.2
    simp [Device.mirrorSend, h, hk]
  have hsame := s.dev.sync_same (wordAt page.val off.val)
  have hn' : (s.dev.sync (wordAt page.val off.val)).NoRemote := by rw [hsame]; exact hn
  have hmir : ∀ b, (s.dev.sync (wordAt page.val off.val)).settle.mirrored b = (s.dev.sync (wordAt page.val off.val)).mirrored b :=
    fun b => by simp only [Device.mirrored, settle_mirror _ hn']
  refine completes_act (fun d => d.mirrorSend page.val [off] noise) rfl ?_
  rw [heq]
  refine ⟨?_, fun b hb hr => ?_, onlyRegs_settle hn' (fun a _ => s.dev.rd_sync _ a) ?_ ?_⟩
  · rw [hmir, s.dev.mirrored_sync _ hplain hpost (plainWord_ne_rtcStat hplain), if_pos rfl]
  · rw [hmir, s.dev.mirrored_sync _ hplain hpost hr, if_neg hb]
  · rw [hsame]
  · rw [hsame]

end

/-- Settles O13, clause by clause: REGISTER_WRITE, a freed entry, an applied write, an acknowledgement, a word sent to the mirror. -/
theorem postedWritesMove : Obligations.PostedWritesMove := by
  intro s hn
  refine ⟨fun page off w hb hp hk hon hroom => ?_, fun x => postQueueEntryFreed_completes hn, ?_, writeAckReceived_completes hn,
    mirrorUpdate_completes hn⟩
  · obtain ⟨e, he, hn', hexec, hregs⟩ := registerWrite_posts_completes hn page off w hb hp hk hon hroom
    have hword : pageOfWord (wordAt page.val off.val) = page.val := pageOfWord_wordAt off.isLt
    have hmir : ∀ b, e.settle.mirrored b = (s.dev.mirrorWritten (wordAt page.val off.val) w.value).mirrored b := fun b => by
      rw [Device.mirrored, settle_mirror _ hn', he]; rfl
    refine ⟨_, hexec, rfl, ?_, ?_, ?_, fun hr i => ?_, fun b hb hr => ?_, hregs⟩
    · rw [settle_post _ hn', he, enqueue_post]
    · rw [settle_on _ hn' _ (settles_wpend _), he]
      simpa only [Device.posted, hword] using s.dev.on_wpend_enqueue (s.dev.posted (wordAt page.val off.val) w.value w.be)
    · rw [settle_get _ hn' _ (by decide), he, Device.get_qlevel_enqueue _ _ hroom]
    · rw [hmir, getLsbD_mirrorWritten _ _ _ hr, hword, offOfWord_wordAt off.isLt]
    · rw [hmir, mirrored_mirrorWritten_ne _ _ _ hb hr]
  · intro isl finds before after x htakes hpost hx hbefore
    have happly : s.dev.applyNext isl.val finds = ({ s.dev with post := before ++ after }.showQueue).applyWord x finds := by
      simp [Device.applyNext, htakes, hpost, takePosted_append x after hx hbefore]
    calc exec (.postedWriteApplied isl finds) s = act (fun d => d.applyNext isl.val finds) s := rfl
      _ = _ := by rw [act_next, happly]

/-! #### Ignored and waiting writes (R30, R43, R62, R63) -/

/-- An ignored write before its word is sent to the mirror: the count with its offset, LAST_IGN and the event. -/
def Device.ignoredMark (d : Device) (a : Nat) : Device :=
  (((((d.count (fIgnCountCount (pageOfWord a))).put (fIgnCountLastOffset (pageOfWord a)) (offOfWord a)).put fHbusLastIgnPage
    (pageOfWord a)).put fHbusLastIgnOffset (offOfWord a))).irq 0x05 2

theorem Device.ignored_eq (d : Device) (a : Nat) : d.ignored a = (d.ignoredMark a).sync a := rfl

/-- The words an ignored write of `a` leaves other. -/
def ignoredRegs (a : Nat) : List Nat := [ignCount (pageOfWord a), hbusLastIgn, irqStat 0x05]

section
variable (d : Device) (a : Nat)

theorem ignCount_apart (p : Nat) : ignCount p ≠ hbusLastIgn ∧ ignCount p ≠ irqStat 0x05 ∧ ignCount p ≠ hbusStat
    ∧ ∀ q, ignCount p ≠ pageStat q := by
  refine ⟨?_, ?_, ?_, fun q => ?_⟩ <;> simp only [ignCount, hbusLastIgn, irqStat, hbusStat, pageStat, wordAt] <;> omega

theorem Device.rd_ignoredMark {b : Nat} (h : b ∉ ignoredRegs a) : (d.ignoredMark a).rd b = d.rd b := by
  simp only [ignoredRegs, List.mem_cons, List.not_mem_nil, or_false, not_or] at h
  obtain ⟨hc, hl, hi⟩ := h
  rw [Device.ignoredMark, Device.rd_irq_ne _ _ _ _ hi, Device.rd_put_ne _ _ _ _ hl, Device.rd_put_ne _ _ _ _ hl,
    Device.rd_put_ne _ _ _ _ hc, Device.rd_count_ne _ _ _ hc]

/-- IGN_COUNT of the page counts the write and holds its offset. -/
theorem Device.get_ignCount_ignoredMark :
    (d.ignoredMark a).get (fIgnCountCount (pageOfWord a)) = min (d.get (fIgnCountCount (pageOfWord a)) + 1) 0xFFFF
      ∧ (d.ignoredMark a).get (fIgnCountLastOffset (pageOfWord a)) = offOfWord a := by
  obtain ⟨hl, hi, -, -⟩ := ignCount_apart (pageOfWord a)
  have ho : offOfWord a < 1024 := Nat.mod_lt _ (by decide)
  refine ⟨?_, ?_⟩
  · rw [Device.ignoredMark, Device.get_irq_ne _ _ _ _ hi, Device.get_put_ne _ _ _ _ hl, Device.get_put_ne _ _ _ _ hl,
      Device.get_put_apart _ _ _ _ (by simp [fIgnCountLastOffset]) (by simp [fIgnCountLastOffset]) (by simp [fIgnCountLastOffset, fIgnCountCount]),
      Device.get_count_same _ _ (by simp [fIgnCountCount]) (by simp [fIgnCountCount])]
    rfl
  · rw [Device.ignoredMark, Device.get_irq_ne _ _ _ _ hi, Device.get_put_ne _ _ _ _ hl, Device.get_put_ne _ _ _ _ hl,
      Device.get_put_same _ _ _ (by simp [fIgnCountLastOffset]) (by simp [fIgnCountLastOffset])]
    simp only [fIgnCountLastOffset]
    omega

/-- LAST_IGN names the page and the offset. -/
theorem Device.get_lastIgn_ignoredMark :
    (d.ignoredMark a).get fHbusLastIgnPage = pageOfWord a % 256 ∧ (d.ignoredMark a).get fHbusLastIgnOffset = offOfWord a := by
  have ho : offOfWord a < 1024 := Nat.mod_lt _ (by decide)
  refine ⟨?_, ?_⟩
  · rw [Device.ignoredMark, Device.get_irq_ne _ _ _ _ (by decide), Device.get_put_apart _ _ _ _ (by decide) (by decide) (by decide),
      Device.get_put_same _ _ _ (by decide) (by decide)]
    rfl
  · rw [Device.ignoredMark, Device.get_irq_ne _ _ _ _ (by decide), Device.get_put_same _ _ _ (by decide) (by decide)]
    simp only [fHbusLastIgnOffset]
    omega

/-- IGNORED is recorded. -/
theorem Device.on_irqStat_ignoredMark (h : d.on ⟨irqEn 0x05, 2, 2⟩ = true) (hl : d.pageLive 0x05 = true) :
    (d.ignoredMark a).on ⟨irqStat 0x05, 2, 2⟩ = true := by
  have hrd : ∀ b, b ∉ ignoredRegs a → ((((d.count (fIgnCountCount (pageOfWord a))).put (fIgnCountLastOffset (pageOfWord a)) (offOfWord a)).put
      fHbusLastIgnPage (pageOfWord a)).put fHbusLastIgnOffset (offOfWord a)).rd b = d.rd b := fun b hb => by
    simp only [ignoredRegs, List.mem_cons, List.not_mem_nil, or_false, not_or] at hb
    rw [Device.rd_put_ne _ _ _ _ hb.2.1, Device.rd_put_ne _ _ _ _ hb.2.1, Device.rd_put_ne _ _ _ _ hb.1, Device.rd_count_ne _ _ _ hb.1]
  have hapart : ∀ b, b % 1024 ≠ 8 → b ≠ hbusLastIgn → b ≠ irqStat 0x05 → b ∉ ignoredRegs a := fun b h8 hl hi => by
    simp only [ignoredRegs, List.mem_cons, List.not_mem_nil, or_false, not_or]
    refine ⟨?_, hl, hi⟩
    rintro rfl
    exact h8 (by simp only [ignCount, wordAt]; omega)
  refine on_irq (by decide) ?_ ((pageLive_congr (hrd _ (hapart _ (by decide) (by decide) (by decide))) ?_
    (hrd _ (hapart _ (by decide) (by decide) (by decide))) (by simp)).trans hl)
  · rw [Device.on, Device.get, hrd _ (hapart _ (by decide) (by decide) (by decide))]
    exact h
  · rw [Device.on, Device.get, hrd _ (hapart _ (by decide) (by decide) (by decide))]
    rfl

@[simp] theorem Device.ignoredMark_post : (d.ignoredMark a).post = d.post := by simp [Device.ignoredMark]
@[simp] theorem Device.ignoredMark_sram : (d.ignoredMark a).sram = d.sram := by simp [Device.ignoredMark]
@[simp] theorem Device.ignoredMark_opt : (d.ignoredMark a).opt = d.opt := by simp [Device.ignoredMark]

end

section
variable {d : Device} {a : Nat} {v : Word} {be : BitVec 4}

@[simp] theorem Device.arrived_post : (d.arrived a v be).post = [] := by simp [Device.arrived, Device.showQueue]
@[simp] theorem Device.arrived_sram : (d.arrived a v be).sram = d.sram := by simp [Device.arrived, Device.showQueue]
@[simp] theorem Device.arrived_opt : (d.arrived a v be).opt = d.opt := by simp [Device.arrived, Device.showQueue]
@[simp] theorem Device.arrived_isl : (d.arrived a v be).isl = d.isl := by
  simp [Device.arrived, Device.showQueue, Device.enqueue, Device.mirrorWritten]

/-- A write that arrives moves WPEND of its page and the queue's level only. -/
theorem Device.get_arrived {f : Fld} (hq : f.reg ≠ hbusStat) (hp : 7 < f.lo ∨ f.hi < 7) : (d.arrived a v be).get f = d.get f := by
  have hshow : ∀ e : Device, e.showQueue.get f = e.get f := fun e => by
    rw [Device.showQueue, Device.get_put_ne _ _ _ _ hq, Device.get_put_ne _ _ _ _ hq]
  have hpost : ∀ (e : Device) (l : List Posted), ({ e with post := l } : Device).get f = e.get f := fun _ _ => rfl
  have hmir : (d.mirrorWritten a v).get f = d.get f := by simp [Device.get, Device.mirrorWritten]
  rw [Device.arrived, hshow, hpost, Device.enqueue, Device.get_put_apart _ (fPsWpend _) f 1 (by simp [fPsWpend]) (by simp [fPsWpend]) hp.symm,
    hshow, hpost]
  exact hmir

/-- A write that arrives leaves each page on or off, and in reset or not. -/
theorem Device.pageLive_arrived (p : Nat) : (d.arrived a v be).pageLive p = d.pageLive p := by
  have hne : ∀ q, pageCtrl q ≠ hbusStat ∧ (∀ r, pageCtrl q ≠ pageStat r) := fun q => by
    constructor
    · simp only [pageCtrl, hbusStat, wordAt]; omega
    · intro r; simp only [pageCtrl, pageStat, wordAt]; omega
  refine pageLive_congr (rd_arrived _ _ _ _ _ (hne p).1 ((hne p).2 _)) ?_ (rd_arrived _ _ _ _ _ (by decide) ?_) Device.arrived_isl
  · simp only [Device.on]
    rw [Device.get_arrived]
    · simp only [fPsReleasePending, pageStat, hbusStat, wordAt]; omega
    · simp [fPsReleasePending]
  · simp only [clkGood, pageStat, wordAt]; omega

end

theorem settles_ignCount (p hi lo : Nat) : (⟨ignCount p, hi, lo⟩ : Fld).settles = true := by
  refine settles_of (fun g hg hr => absurd (?_ : g.reg % 1024 = 8) ((by decide : ∀ g ∈ settleFields, g.reg % 1024 ≠ 8) g hg))
  rw [hr]
  simp only [ignCount, wordAt]
  omega

/-- What an ignored write leaves, its word sent to the mirror again. -/
theorem ignoredWrite_completes {c : Instr} {s : State} {a : Nat} {v : Word} {be : BitVec 4} {finds : KlGroupFinds} (hn : s.dev.NoRemote)
    (hc : hostRow s.dev c = some (a, v, be, finds)) (hr : s.dev.ready a = true)
    (hw : (s.dev.arrived a v be).writeOk (s.dev.posted a v be) = false) :
    Completes c s (fun e => e.get (fIgnCountCount (pageOfWord a)) = min (s.dev.get (fIgnCountCount (pageOfWord a)) + 1) 0xFFFF
      ∧ e.get (fIgnCountLastOffset (pageOfWord a)) = offOfWord a
      ∧ e.get fHbusLastIgnPage = pageOfWord a % 256
      ∧ e.get fHbusLastIgnOffset = offOfWord a
      ∧ Device.raised 0x05 2 s.dev e
      ∧ (plainWord a = true → ∀ f : Fld, f.reg = a → f.settles = true → f.lo ≤ f.hi → f.hi < 32 → bitsOf (e.mirrored a) f.hi f.lo = e.get f)
      ∧ Device.OnlyRegs [ignCount (pageOfWord a), hbusLastIgn, irqStat 0x05, hbusStat, pageStat (pageOfWord a)] s.dev e) := by
  obtain ⟨-, -, hq, hps⟩ := ignCount_apart (pageOfWord a)
  set e := (s.dev.arrived a v be).ignoredMark a with he
  have hown : s.dev.ownWrite a v be finds = e.sync a := by
    rw [ownWrite_ready _ _ _ _ _ hr, Device.applyWord, if_neg (by simp [hw])]
    exact Device.ignored_eq _ _
  have hn' : (e.sync a).NoRemote := hown ▸ Device.ownWrite_closed noRemote_closed hn
  have hget : ∀ f : Fld, f.settles = true → (e.sync a).settle.get f = e.get f := fun f hf => by rw [settle_get _ hn' f hf, Device.get_sync]
  obtain ⟨hcount, hoff⟩ := (s.dev.arrived a v be).get_ignCount_ignoredMark a
  obtain ⟨hpage, hword⟩ := (s.dev.arrived a v be).get_lastIgn_ignoredMark a
  have hexec : exec c s = .next { s with dev := (e.sync a).settle } := (exec_hostRow c s a v be finds hc).trans (by rw [hown])
  refine ⟨_, hexec, rfl, ?_, ?_, ?_, ?_, fun hon hlive => ?_, fun hp f hf hs _ _ => ?_, onlyRegs_settle hn' (fun b hb => ?_) ?_ ?_⟩
  · have hold : (s.dev.arrived a v be).get (fIgnCountCount (pageOfWord a)) = s.dev.get (fIgnCountCount (pageOfWord a)) :=
      congrArg (fun w => bitsOf w 15 0) (rd_arrived _ _ _ _ _ hq (hps _))
    rw [hget (fIgnCountCount _) (settles_ignCount _ _ _), hcount, hold]
  · rw [hget (fIgnCountLastOffset _) (settles_ignCount _ _ _), hoff]
  · rw [hget _ (by decide), hpage]
  · rw [hget _ (by decide), hword]
  · have hrec := Device.on_irqStat_ignoredMark (d := s.dev.arrived a v be) (a := a) ?_ ((s.dev.pageLive_arrived _).trans hlive)
    · simpa [Device.on, hget ⟨irqStat 0x05, 2, 2⟩ (by decide)] using hrec
    · rw [Device.on, Device.get_arrived (by decide) (by decide)]
      exact hon
  · have hmir : (e.sync a).settle.mirrored a = (e.sync a).mirrored a := by rw [Device.mirrored, settle_mirror _ hn']; rfl
    have hpost : e.post = [] := by simp [he]
    rw [hget f hs, hmir, e.mirrored_sync a hp (by simp [hpost]) (plainWord_ne_rtcStat hp), if_pos rfl, Device.get, hf]
  · simp only [List.mem_cons, List.not_mem_nil, or_false, not_or] at hb
    obtain ⟨h1, h2, h3, h4, h5⟩ := hb
    rw [Device.rd_sync, he, Device.rd_ignoredMark _ _ (by simp [ignoredRegs, h1, h2, h3]), rd_arrived _ _ _ _ _ h4 h5]
  · rw [e.sync_same a, he]; simp
  · rw [e.sync_same a, he]; simp

/-- Settles O11: an ignored write leaves `ignoredMark` and its word shown again; without the bus, or with a full queue, nothing reaches the page. -/
theorem hostWritesIgnoredOrWaiting : Obligations.HostWritesIgnoredOrWaiting := by
  intro s
  refine ⟨fun c a v be finds hn hc hr hw => ignoredWrite_completes hn hc hr hw, fun c a v be finds hc => ⟨fun hb => ?_, fun hb hp hon hfull => ?_⟩⟩
  · rw [exec_hostRow c s a v be finds hc]
    simp [Device.ownWrite, hb]
  · rw [exec_hostRow c s a v be finds hc]
    simp [Device.ownWrite, hb, Device.pageWrite_waits v be hp hon hfull, Device.posted]

end Sys2Proof.Machine


namespace Sys2Proof.Machine

/-! ### Carriers: LAST of the REGL page after a refused start (R204, R229, R232) -/

/-- A running device with no profile and every carrier OFF, whose path 0 stands at a level though none of its driver cells works any more. -/
def deadCellsDevice : Device :=
  ((({ isl := Vector.replicate 5 { held := false }, rst := { full := false, step := .done, rstoutHigh := true, sLockedOnce := true } } : Device).wr
    clkGood 0x1F |>.put fSecStatLevel 2).put (fPathTxpwrNowLevel 0) 0).modPath 0 (fun p => { p with cells := 0 })

/-- The write that enables carrier 3. -/
def enableWrite : RegWrite := { value := 0x05DC1400, be := 0xF#4 }

/-- The device once CARRIER_ENABLE of carrier 3 has been refused for want of a profile, before it settles. -/
def refusedDevice : Device :=
  deadCellsDevice.written (carCtrl 3) ((fCarCtrlEn 3).set enableWrite.value 1) enableWrite.be noFinds

theorem deadCells_applies : deadCellsDevice.applies (carCtrl 3) ((fCarCtrlEn 3).set enableWrite.value 1) enableWrite.be = true := by
  decide +kernel

/-- The start is refused with reason 1: there is no profile. -/
theorem deadCells_carReason : (deadCellsDevice.wr (carCtrl 3) ((fCarCtrlEn 3).set enableWrite.value 1)).carReason 3
    (freqWordHz (deadCellsDevice.rd (carFreq 3))) = 1 := by decide +kernel

theorem refusedDevice_noRemote : refusedDevice.NoRemote := by decide +kernel

/-- Path 0's level is clipped after the refusal, and LAST names that clip's limit: the conducted one. -/
theorem refusedDevice_lastReason : refusedDevice.get fReglLastReason = 8 := by decide +kernel

/-- Refutes O28: the refused carrier goes to OFF, which computes the path levels again (R204, R229), and a clip found there is the last event that LAST shows. -/
theorem not_carriersRun : ¬ Obligations.CarriersRun := by
  intro h
  have hn : deadCellsDevice.NoRemote := by decide +kernel
  obtain ⟨hclauses, -⟩ := h { dev := deadCellsDevice, pending := [] } hn
  obtain ⟨hrefused, -⟩ := hclauses 3 enableWrite
  obtain ⟨t, ht, -, -, -, -, -, -, -, hlast⟩ := hrefused 1 deadCells_applies rfl (by decide +kernel) (by decide +kernel) (by decide +kernel)
    deadCells_carReason (by decide)
  have hexec := exec_applies (.carrierEnable 3 enableWrite) { dev := deadCellsDevice, pending := [] } (carCtrl 3)
    ((fCarCtrlEn 3).set enableWrite.value 1) enableWrite.be noFinds rfl deadCells_applies
  rw [← refusedDevice, ht, Host.Outcome.next.injEq] at hexec
  rw [hexec] at hlast
  have hone : refusedDevice.settle.get fReglLastReason = 1 := hlast
  rw [settle_get _ refusedDevice_noRemote _ (by decide), refusedDevice_lastReason] at hone
  exact absurd hone (by decide)

end Sys2Proof.Machine


namespace Sys2Proof.Machine

/-! ### What admission, path levels, figures and turns can change (R140, R171, R228 … R232) -/

/-- The words that admission and the turns leave alone: the front ends' (page 0x17) and those of the SESSION pages but STAT. -/
def AdmitKept (a : Nat) : Prop := (a / 1024 = 0x17 ∨ 0x80 * 1024 ≤ a) ∧ ∀ m, a ≠ sesStat m

/-- From `d` to `e` the words of `AdmitKept` stay, and of the sessions only the refusals, holds and slots of the turn change. -/
structure Admits (d e : Device) : Prop where
  regs : ∀ a, AdmitKept a → e.rd a = d.rd a
  sess : ∀ m, e.sess m = { d.sess m with refused := (e.sess m).refused, holds := (e.sess m).holds, turnSlots := (e.sess m).turnSlots }

theorem Admits.refl (d : Device) : Admits d d := ⟨fun _ _ => rfl, fun _ => rfl⟩

theorem Admits.trans {d e f : Device} (h : Admits d e) (g : Admits e f) : Admits d f :=
  ⟨fun a ha => (g.regs a ha).trans (h.regs a ha), fun m => by rw [g.sess m, h.sess m]⟩

theorem Admits.get {d e : Device} (h : Admits d e) (f : Fld) (hf : AdmitKept f.reg) : e.get f = d.get f := by
  simp [Device.get, h.regs _ hf]

/-- A change that reaches neither the kept words nor the sessions. -/
theorem Admits.of_apart {d e : Device} (hr : ∀ a, AdmitKept a → e.rd a = d.rd a) (hs : e.ses = d.ses) : Admits d e :=
  ⟨hr, fun m => by simp [Device.sess, hs]⟩

theorem admits_when {d : Device} {c : Bool} {f : Device → Device} (h : Admits d (f d)) : Admits d (d.when c f) := by
  cases c
  · exact .refl d
  · exact h

theorem admits_forAll {α : Type} {l : List α} {f : Device → α → Device} (h : ∀ d, ∀ x ∈ l, Admits d (f d x)) (d : Device) :
    Admits d (d.forAll l f) := by
  induction l generalizing d with
  | nil => exact .refl d
  | cons x t ih => exact (h d x (by simp)).trans (ih (fun d y hy => h d y (by simp [hy])) _)

section
variable (d : Device)

theorem admits_wr {a : Nat} (v : Word) (h : ¬ AdmitKept a) : Admits d (d.wr a v) :=
  .of_apart (fun b hb => by rw [Device.rd_wr, if_neg (fun hab : b = a => h (hab ▸ hb))]) rfl

theorem admits_put {f : Fld} (v : Nat) (h : ¬ AdmitKept f.reg) : Admits d (d.put f v) := admits_wr d _ h

theorem admits_irq {p : Nat} (b : Nat) (h : ¬ AdmitKept (irqStat p)) : Admits d (d.irq p b) := by
  unfold Device.irq
  split
  · exact admits_put d _ h
  · exact .refl d

theorem admits_modSes (n : Nat) {f : SesSt → SesSt}
    (hf : ∀ s, f s = { s with refused := (f s).refused, holds := (f s).holds, turnSlots := (f s).turnSlots }) : Admits d (d.modSes n f) := by
  refine ⟨fun _ _ => rfl, fun m => ?_⟩
  rw [Device.sess_modSes]
  split
  · next h =>
    rw [h.1]
    exact hf _
  · rfl

theorem FreeOnly.admits {d e : Device} (h : FreeOnly d e) : Admits d e := by
  rw [FreeOnly] at h
  exact .of_apart (fun _ _ => by rw [h]; rfl) (by rw [h])

/-! #### Path levels and figures -/

theorem not_admitKept_low {a : Nat} (h : a < 0x80 * 1024) (h17 : a / 1024 ≠ 0x17) : ¬ AdmitKept a := by
  rintro ⟨hpage, -⟩
  omega

theorem admits_reglRecord (reason n c : Nat) (clip noStream : Bool) (factor : Nat) : Admits d (d.reglRecord reason n c clip noStream factor) := by
  have hput : ∀ (e : Device) (f : Fld) (v : Nat), f.reg = reglLast → Admits e (e.put f v) :=
    fun e f v hf => admits_put e v (hf ▸ not_admitKept_low (by decide) (by decide))
  exact (((((hput _ _ _ rfl).trans (hput _ _ _ rfl)).trans (hput _ _ _ rfl)).trans (hput _ _ _ rfl)).trans (hput _ _ _ rfl)).trans
    (hput _ _ _ rfl)

theorem admits_reglRefuse (reason n c : Nat) (noStream : Bool) : Admits d (d.reglRefuse reason n c noStream) :=
  ((admits_reglRecord d _ _ _ _ _ _).trans (admits_put _ _ (not_admitKept_low (by decide) (by decide)))).trans
    (admits_irq _ _ (not_admitKept_low (by decide) (by decide)))

theorem admits_reglClip (reason n c : Nat) (noStream : Bool) (factor : Nat) : Admits d (d.reglClip reason n c noStream factor) :=
  ((admits_reglRecord d _ _ _ _ _ _).trans (admits_put _ _ (not_admitKept_low (by decide) (by decide)))).trans
    (admits_irq _ _ (not_admitKept_low (by decide) (by decide)))

theorem admits_await (c : Change) : Admits d (d.await c) := by
  refine Admits.trans ?_ (admits_put _ _ (not_admitKept_low (by decide) (by decide)))
  exact .of_apart (fun _ _ => rfl) rfl

theorem admits_modPath (p : Nat) (f : PathSt → PathSt) : Admits d (d.modPath p f) := .of_apart (fun _ _ => rfl) rfl

theorem not_admitKept_path {p a : Nat} (hp : p < 64) (h : a / 1024 = 0x40 + p) : ¬ AdmitKept a := not_admitKept_low (by omega) (by omega)

theorem admits_levelAsk {p : Nat} (hp : p < 64) (l : Int) : Admits d (d.levelAsk p l) := by
  refine ((admits_modPath d p _).trans (admits_put _ _ (not_admitKept_path hp ?_))).trans (admits_await _ _)
  simp only [fPathTxpwrNowPending, pathTxpwrNow]
  omega

theorem admits_levelAgain {p : Nat} (hp : p < 64) : Admits d (d.levelAgain p) := by
  unfold Device.levelAgain
  split
  · exact .refl d
  · dsimp only
    split
    · exact .refl d
    · split
      · refine Admits.trans (Admits.trans (admits_put _ _ (not_admitKept_path hp ?_)) (admits_reglClip _ _ _ _ _ _)) (admits_levelAsk _ hp _)
        simp only [fPathTxpwrLevel, pathTxpwr]
        omega
      · exact admits_levelAsk _ hp _

theorem freeOnly_figureCode (f : Option Int) : FreeOnly d (d.figureCode f).2 := by
  cases f <;> rfl

theorem admits_showFigures : Admits d d.showFigures := by
  have hstream : ∀ (e : Device) (v : Word), ∀ n ∈ List.range 16, Admits e (e.wr (reglStreamFig n) v) := fun e v n hn =>
    admits_wr e v (not_admitKept_low (by simp only [reglStreamFig, List.mem_range] at *; omega) (by simp only [reglStreamFig, List.mem_range] at *; omega))
  have hcar : ∀ (e : Device) (v : Word), ∀ c ∈ List.range 4, Admits e (e.wr (reglCarFig c) v) := fun e v c hc =>
    admits_wr e v (not_admitKept_low (by simp only [reglCarFig, List.mem_range] at *; omega) (by simp only [reglCarFig, List.mem_range] at *; omega))
  unfold Device.showFigures
  split
  · exact (admits_forAll (fun e c hc => hcar e _ c hc) d).trans (admits_forAll (fun e n hn => hstream e _ n hn) _)
  · refine (admits_forAll (fun e n hn => ?_) d).trans (admits_forAll (fun e c hc => ?_) _)
    · split
      · exact hstream e _ n hn
      · exact (freeOnly_figureCode e _).admits.trans (hstream _ _ n hn)
    · split
      · exact hcar e _ c hc
      · exact ((freeOnly_figureCode e _).admits.trans (freeOnly_figureCode _ _).admits).trans (hcar _ _ c hc)

theorem admits_reglChanged : Admits d d.reglChanged :=
  (admits_forAll (fun e _ hp => admits_levelAgain e (List.mem_range.1 hp)) d).trans (admits_showFigures _)

/-! #### Streams -/

theorem admits_modStream (n : Nat) (f : StreamSt → StreamSt) : Admits d (d.modStream n f) := .of_apart (fun _ _ => rfl) rfl

theorem admits_groupsStale : Admits d d.groupsStale := .of_apart (fun _ _ => rfl) rfl

theorem admits_setWeight (set p : Nat) (w : Word) : Admits d (d.setWeight set p w) := .of_apart (fun _ _ => rfl) rfl

theorem admits_setWeights (n : Nat) (ws : List Word) : Admits d (d.setWeights n ws) :=
  admits_forAll (fun e p _ => admits_setWeight e n p _) d

theorem admits_admitTx (n : Nat) (form : Steer) (w : List Word) (nulled : Bool) (az el : Int) : Admits d (d.admitTx n form w nulled az el).2 := by
  unfold Device.admitTx
  dsimp only
  split
  · exact admits_reglRefuse d _ _ _ _
  · split
    · exact admits_reglRefuse d _ _ _ _
    · split
      · dsimp only
        exact (admits_modStream d n _).trans (admits_reglChanged _)
      · split
        · exact admits_reglRefuse d _ _ _ _
        · split
          · exact admits_reglRefuse d _ _ _ _
          · dsimp only
            exact ((admits_reglClip d _ _ _ _ _).trans (admits_modStream _ n _)).trans (admits_reglChanged _)

theorem admits_txEffect {n : Nat} (hn : n < 16) : Admits d (d.txEffect n) := by
  have hbf : ¬ AdmitKept (bfStream n) := not_admitKept_low (by simp only [bfStream]; omega) (by simp only [bfStream]; omega)
  unfold Device.txEffect
  split
  · exact .refl d
  · exact (((((admits_setWeights d _ _).trans (admits_modStream _ _ _)).trans (admits_put _ _ hbf)).trans (admits_put _ _ hbf)).trans
      (admits_groupsStale _)).trans (admits_reglChanged _)

theorem admits_askSteered (n : Nat) (az el : Int) : Admits d (d.askSteered n az el).2 :=
  (admits_modStream d _ _).trans (admits_admitTx _ _ _ _ _ _ _)

/-! #### Holds and turns -/

theorem not_admitKept_sesStat (n : Nat) : ¬ AdmitKept (sesStat n) := fun h => h.2 n rfl

theorem admits_holdEnd (n why : Nat) : Admits d (d.holdEnd n why) :=
  (admits_modSes d n (fun _ => rfl)).trans (admits_put _ _ (not_admitKept_sesStat n))

theorem admits_freeRefused {n : Nat} (hn : n < 16) : Admits d (d.freeRefused n) := by
  unfold Device.freeRefused
  split
  · exact ((admits_modSes d n (fun _ => rfl)).trans (admits_txEffect _ hn)).trans (admits_when (admits_holdEnd _ n 5))
  · exact .refl d

theorem lt_of_mem_onCarrier {c n : Nat} (h : n ∈ d.onCarrier c) : n < 16 := by
  simp only [Device.onCarrier, List.mem_filter, List.mem_range] at h
  exact h.1

theorem admits_zonesChanged (c n : Nat) : Admits d (d.zonesChanged c n) := by
  refine admits_forAll (fun e t ht => (admits_askSteered e t _ _).trans (admits_when (admits_freeRefused _ ?_))) d
  exact lt_of_mem_onCarrier d (List.mem_filter.1 ht).1

theorem admits_showStreams : Admits d d.showStreams := by
  refine admits_forAll (fun e c hc => admits_put e _ ?_) d
  have := List.mem_range.1 hc
  exact not_admitKept_low (by simp only [fCarStatStreams, carStat]; omega) (by simp only [fCarStatStreams, carStat]; omega)

theorem admits_releaseStream (n : Nat) : Admits d (d.releaseStream n) := by
  unfold Device.releaseStream
  dsimp only
  split
  · exact ((((admits_modStream d _ _).trans (admits_showStreams _)).trans (admits_groupsStale _)).trans (admits_reglChanged _)).trans
      (admits_zonesChanged _ _ _)
  · exact .refl d

theorem admits_admitStart {n : Nat} (hn : n < 16) : Admits d (d.admitStart n).2 := by
  have htake : ∀ x : Bool × Device, Admits d x.2 → Admits d (if x.1 then x.2.txEffect n else x.2) := fun x hx => by
    split
    · exact hx.trans (admits_txEffect _ hn)
    · exact hx
  unfold Device.admitStart
  refine htake _ ?_
  split
  · exact admits_askSteered d _ _ _
  · exact admits_admitTx d _ _ _ _ _ _

theorem admits_setTurn (n : Nat) (b : Bool) : Admits d (d.setTurn n b) :=
  admits_put d _ (not_admitKept_low (show schedTurn < 0x80 * 1024 by decide) (show schedTurn / 1024 ≠ 0x17 by decide))

theorem admits_turnPass (n : Nat) : Admits d (d.turnPass n) := by
  unfold Device.turnPass
  split
  · exact .refl d
  · exact ((admits_setTurn d _ _).trans (admits_modSes _ _ (fun _ => rfl))).trans (admits_holdEnd _ _ _)

theorem admits_turnLeave (n : Nat) : Admits d (d.turnLeave n) := by
  unfold Device.turnLeave
  refine Admits.trans ?_ (admits_setTurn _ n true)
  split
  · exact (admits_setTurn d n false).trans (admits_turnPass _ n)
  · exact .refl d

end

end Sys2Proof.Machine


namespace Sys2Proof.Machine

/-! ### A session's state, page and holds -/

/-! #### PAGE_STAT and the session's record through a change of state -/

/-- What a session runs and holds of descriptors, its phase and its link settings. -/
def SesSt.work (s : SesSt) : Option Desc × List Desc × List Desc × Option (Desc × Nat) × AirPhase × Word :=
  (s.run, s.descs, s.chain, s.fence, s.phase, s.link)

theorem Posts.work {l : List Nat} {n : Nat} {d e : Device} (h : Posts l n d e) : (e.sess n).work = (d.sess n).work := by
  rw [h.sess]
  rfl

theorem Admits.work {d e : Device} (h : Admits d e) (m : Nat) : (e.sess m).work = (d.sess m).work := by
  rw [h.sess]
  rfl

theorem posts_forAll {α : Type} {l : List Nat} {n : Nat} {f : Device → α → Device} (h : ∀ d x, Posts l n d (f d x)) (xs : List α)
    (d : Device) : Posts l n d (d.forAll xs f) := by
  induction xs generalizing d with
  | nil => exact .refl l n d
  | cons x t ih => exact (h d x).then (ih _)

/-- A change of state moves no other field of PAGE_STAT. -/
theorem get_sesGo_pageStat (n : Nat) (d : Device) (st code : Nat) {f : Fld} (hr : f.reg = pageStat (0x80 + n)) (hf : f.hi < 8) :
    (d.sesGo n st code).get f = d.get f := by
  unfold Device.sesGo
  dsimp only
  split
  · rfl
  · have hmsg : f.reg ∉ msgRegs n := by
      simp only [hr, msgRegs, List.mem_cons, List.not_mem_nil, or_false, not_or, pageStat, ringMtail, irqRaw, irqStat, wordAt]
      omega
    have hhold : f.reg ≠ (fSesStatHoldWhy n).reg := by
      simp only [hr, fSesStatHoldWhy, sesStat, pageStat, wordAt]
      omega
    rw [(posts_postMsg n _ _).get f hmsg, Device.showHold, Device.get_put_ne _ _ _ _ hhold]
    exact Device.get_put_apart _ _ _ _ (by simp [fPsState]) (by simp [fPsState]) (.inl hf)

/-- PAGE_CTRL stands through a change of state. -/
theorem pageCtrl_not_mem_stateRegs (n : Nat) : pageCtrl (0x80 + n) ∉ stateRegs n := by
  simp only [stateRegs, msgRegs, List.mem_cons, List.not_mem_nil, or_false, not_or, pageCtrl, pageStat, sesStat, ringMtail, irqRaw, irqStat, wordAt]
  omega

/-! #### Holds are only added by a message -/

theorem Device.mem_holds_holdAsk {d : Device} {n m why x : Nat} (h : x ∈ (d.sess m).holds) : x ∈ ((d.holdAsk n why).sess m).holds := by
  unfold Device.holdAsk
  split
  · exact h
  · rw [Device.sess_modSes]
    split
    · next hm => simp [← hm.1, h]
    · exact h

/-- A hold that is asked for stands. -/
theorem Device.holdAsk_mem {d : Device} {n : Nat} (hn : n < 16) (why : Nat) : why ∈ ((d.holdAsk n why).sess n).holds := by
  unfold Device.holdAsk
  split
  · next h => simpa using h
  · simp [Device.sess_modSes, hn]

theorem Device.sess_writeMsg (d : Device) (n : Nat) (msg : List Byte) (m : Nat) : (d.writeMsg n msg).sess m = d.sess m := by
  have hslots : ∀ (k i : Nat) (bs : List Byte) (e : Device), (e.putSlots n i k bs).ses = e.ses := by
    intro k
    induction k with
    | zero => intro _ _ _; rfl
    | succ k ih => intro i bs e; rw [Device.putSlots, ih]
  have hlevel : ∀ e : Device, (e.ringLevel n).ses = e.ses := fun e => by simp [Device.ringLevel]
  have hwhen : ∀ (e : Device) (c : Bool), (e.when c (fun d => d.irq 0x19 n)).ses = e.ses := fun e c => by cases c <;> simp [Device.when]
  simp [Device.sess, Device.writeMsg, hslots, hlevel, hwhen]

theorem Device.mem_holds_postMsg {d : Device} {n m x : Nat} {msg : List Byte} (h : x ∈ (d.sess m).holds) :
    x ∈ ((d.postMsg n msg).sess m).holds := by
  unfold Device.postMsg
  dsimp only
  split
  · exact h
  · unfold Device.emit
    split
    · rwa [Device.sess_writeMsg]
    · refine Device.mem_holds_holdAsk ?_
      rw [Device.sess_modSes]
      split
      · next hm => simpa [← hm.1] using h
      · exact h

theorem Device.mem_holds_sesGo {d : Device} {n m x st code : Nat} (h : x ∈ (d.sess m).holds) : x ∈ ((d.sesGo n st code).sess m).holds := by
  unfold Device.sesGo
  dsimp only
  split
  · exact h
  · refine Device.mem_holds_postMsg ?_
    simpa [Device.sess, Device.showHold] using h

end Sys2Proof.Machine


namespace Sys2Proof.Machine

/-! ### A session's shutdown (R66, R81) -/

/-- The words a session that goes OFF moves before its stream is released: those of its ring, its STAT and its trigger. -/
def offRegs (n : Nat) : List Nat := [ringHolds n, ringInflight, sesStat n, sesTrig n] ++ msgRegs n

theorem posts_emitLast_off (n : Nat) (d : Device) (msg : List Byte) : Posts (offRegs n) n d (d.emitLast n msg) :=
  (posts_emitLast n d msg).mono (by simp +contextual [offRegs])

theorem posts_showFlight_off (n : Nat) (d : Device) : Posts (offRegs n) n d (d.showFlight n) :=
  ((posts_put n d _ _ (by simp [offRegs, fSesStatInflight])).then (posts_put n _ _ _ (by simp [offRegs, fRingInflightCount]))).then
    (posts_put n _ _ _ (by simp [offRegs, fRingInflightPeak]))

/-- PAGE_STAT and the front ends' words are none of them. -/
theorem not_mem_offRegs {n a : Nat} (h : a = pageStat (0x80 + n) ∨ a / 1024 = 0x17) (hn : n < 16) : a ∉ offRegs n := by
  simp only [offRegs, msgRegs, List.cons_append, List.nil_append, List.mem_cons, List.not_mem_nil, or_false, not_or, ringHolds, ringInflight, sesStat,
    sesTrig, ringMtail, irqRaw, irqStat, wordAt]
  simp only [pageStat, wordAt] at h
  omega

/-- The session with its descriptors retired and what it holds cleared, before its stream is released (R81). -/
def Device.sesEmptied (d : Device) (n : Nat) : Device :=
  let s := d.sess n
  let ds := (match s.run with | some x => [x] | none => []) ++ s.chain ++ s.descs ++ (match s.fence with | some f => [f.1] | none => [])
  let d := (d.forAll s.waiting (fun d m => d.emitLast n m)).modSes n SesSt.off
  ((d.forAll ds (fun d x => d.emitLast n (d.cmdErrorMsg n x 4 0))).put (fSesTrigPending n) 0).showFlight n

theorem Device.sesOff_eq (d : Device) (n : Nat) : d.sesOff n
    = ((((((d.sesEmptied n).releaseStream n).put (fRxfNoiseA n) 0x8000).put (fRxfNoiseB n) 0x8000).turnLeave n).groupsStale) := rfl

section
variable {n : Nat} (hn : n < 16) (d : Device)
include hn

theorem sesEmptied_keeps {a : Nat} (ha : a = pageStat (0x80 + n) ∨ a / 1024 = 0x17) : (d.sesEmptied n).rd a = d.rd a := by
  have hoff := not_mem_offRegs ha hn
  refine Eq.trans (((posts_forAll (fun e x => posts_emitLast_off n e _) _ _).then (posts_put n _ _ _ ?_)).then
    (posts_showFlight_off n _) |>.regs a hoff) ?_
  · simp [offRegs, fSesTrigPending]
  · exact (posts_forAll (fun e m => posts_emitLast_off n e m) _ d).regs a hoff

/-- Nothing of a session's descriptors is left. -/
theorem sesEmptied_work : ((d.sesEmptied n).sess n).work = ({} : SesSt).work := by
  refine Eq.trans (((posts_forAll (fun e x => posts_emitLast_off n e _) _ _).then (posts_put n _ _ _ ?_)).then
    (posts_showFlight_off n _)).work ?_
  · simp [offRegs, fSesTrigPending]
  · rw [Device.sess_modSes, if_pos ⟨rfl, hn⟩]
    rfl

/-- What stands of a session that has gone OFF. -/
theorem sesOff_leaves : ((d.sesOff n).sess n).work = ({} : SesSt).work ∧ (d.sesOff n).rd (pageStat (0x80 + n)) = d.rd (pageStat (0x80 + n))
    ∧ (d.sesOff n).get (fRxfNoiseA n) = 0x8000 ∧ (d.sesOff n).get (fRxfNoiseB n) = 0x8000 := by
  have hrelease := admits_releaseStream (d.sesEmptied n) n
  have hstat : AdmitKept (pageStat (0x80 + n)) := by
    refine ⟨.inr (by simp only [pageStat, wordAt]; omega), fun m => ?_⟩
    simp only [pageStat, sesStat, wordAt]
    omega
  have hnoise : AdmitKept (rxfNoise n) := by
    refine ⟨.inl (by simp only [rxfNoise]; omega), fun m => ?_⟩
    simp only [rxfNoise, sesStat]
    omega
  have hne : pageStat (0x80 + n) ≠ rxfNoise n := by
    simp only [pageStat, rxfNoise, wordAt]
    omega
  have hleave : Admits ((((d.sesEmptied n).releaseStream n).put (fRxfNoiseA n) 0x8000).put (fRxfNoiseB n) 0x8000) (d.sesOff n) := by
    rw [d.sesOff_eq]
    exact (admits_turnLeave _ n).trans (admits_groupsStale _)
  refine ⟨?_, ?_, ?_, ?_⟩
  · exact (hleave.work n).trans ((hrelease.work n).trans (sesEmptied_work hn d))
  · rw [hleave.regs _ hstat, Device.rd_put_ne _ _ _ _ hne, Device.rd_put_ne _ _ _ _ hne, hrelease.regs _ hstat,
      sesEmptied_keeps hn d (.inl rfl)]
  · rw [hleave.get _ hnoise, Device.get_put_apart _ _ _ _ (by simp [fRxfNoiseB]) (by simp [fRxfNoiseB]) (by simp [fRxfNoiseB, fRxfNoiseA]),
      Device.get_put_same _ _ _ (by simp [fRxfNoiseA]) (by simp [fRxfNoiseA])]
    simp [fRxfNoiseA]
  · rw [hleave.get _ hnoise, Device.get_put_same _ _ _ (by simp [fRxfNoiseB]) (by simp [fRxfNoiseB])]
    simp [fRxfNoiseB]

theorem rxfNoise_not_mem_stateRegs : rxfNoise n ∉ stateRegs n := by
  simp only [stateRegs, msgRegs, List.mem_cons, List.not_mem_nil, or_false, not_or, rxfNoise, pageStat, sesStat, ringMtail, irqRaw, irqStat, wordAt]
  omega

/-- The session in OFF, its shutdown ended and a queued re-enable not yet followed. -/
def Device.sesGone (d : Device) (n : Nat) : Device := ((d.sesOff n).put (fPsShuttingDown (0x80 + n)) 0).sesGo n 0 0

theorem sesGone_shutdownEnds : (d.sesGone n).sesState n = 0 ∧ (d.sesGone n).on (fPsShuttingDown (0x80 + n)) = false
    ∧ (d.sesGone n).on (fPsEnq (0x80 + n)) = d.on (fPsEnq (0x80 + n)) := by
  obtain ⟨-, hstat, -, -⟩ := sesOff_leaves hn d
  refine ⟨sesState_sesGo _ _ _ _ (by decide), ?_, ?_⟩
  · rw [Device.on, Device.sesGone, get_sesGo_pageStat _ _ _ _ rfl (by simp [fPsShuttingDown]),
      Device.get_put_same _ _ _ (by simp [fPsShuttingDown]) (by simp [fPsShuttingDown])]
    simp
  · rw [Device.on, Device.sesGone, get_sesGo_pageStat _ _ _ _ rfl (by simp [fPsEnq]),
      Device.get_put_apart _ _ _ _ (by simp [fPsShuttingDown]) (by simp [fPsShuttingDown]) (by simp [fPsEnq, fPsShuttingDown])]
    simp only [Device.on, Device.get, fPsEnq, hstat]

/-- What `sesOff` has cleared stays cleared as the state changes. -/
theorem sesGone_leaves : ((d.sesGone n).sess n).work = ({} : SesSt).work ∧ (d.sesGone n).rd (rxfNoise n) = (d.sesOff n).rd (rxfNoise n) := by
  obtain ⟨hwork, -, -, -⟩ := sesOff_leaves hn d
  have hgo := posts_sesGo n ((d.sesOff n).put (fPsShuttingDown (0x80 + n)) 0) 0 0
  refine ⟨hgo.work.trans hwork, (hgo.regs _ (rxfNoise_not_mem_stateRegs hn)).trans (Device.rd_put_ne _ _ _ _ ?_)⟩
  simp only [fPsShuttingDown, rxfNoise, pageStat, wordAt]
  omega

omit hn in
/-- A start moves PAGE_STAT's BUSY and STATE alone of that word, and nothing of the session's work. -/
theorem sesStart_moves : (d.sesStart n).sesState n = 1 ∧ (d.sesStart n).on (fPsBusy (0x80 + n)) = true ∧ ((d.sesStart n).sess n).work = (d.sess n).work
    ∧ (∀ f : Fld, f.reg = pageStat (0x80 + n) → 5 ≤ f.lo → f.hi < 8 → (d.sesStart n).get f = d.get f)
    ∧ ∀ a, a ∉ stateRegs n → (d.sesStart n).rd a = d.rd a := by
  have hgo := posts_sesGo n (d.put (fPsBusy (0x80 + n)) 1) 1 0
  refine ⟨sesState_sesGo _ _ _ _ (by decide), ?_, hgo.work, fun f hr hlo hhi => ?_, fun a ha => ?_⟩
  · rw [Device.on, Device.sesStart, get_sesGo_pageStat _ _ _ _ rfl (by simp [fPsBusy]),
      Device.get_put_same _ _ _ (by simp [fPsBusy]) (by simp [fPsBusy])]
    simp [fPsBusy]
  · rw [Device.sesStart, get_sesGo_pageStat _ _ _ _ hr hhi,
      Device.get_put_apart _ _ _ _ (by simp [fPsBusy]) (by simp [fPsBusy]) (.inr (show 4 < f.lo by omega))]
  · refine (hgo.regs a ha).trans (Device.rd_put_ne _ _ _ _ (fun h => ha ?_))
    simp [stateRegs, h, fPsBusy]

/-- The shutdown with what follows it. -/
def Device.sesEnded (d : Device) (n : Nat) : Device :=
  if (d.sesGone n).on (fPsEnq (0x80 + n)) then ((d.sesGone n).put (fPsEnq (0x80 + n)) 0).sesStart n else d.sesGone n

theorem sesEnded_page : (d.sesEnded n).on (fPsShuttingDown (0x80 + n)) = false ∧ (d.sesEnded n).on (fPsEnq (0x80 + n)) = false
    ∧ (d.sesEnded n).sesState n = (if d.on (fPsEnq (0x80 + n)) then 1 else 0) := by
  obtain ⟨hoff, hshut, henq⟩ := sesGone_shutdownEnds hn d
  rw [Device.sesEnded, henq]
  split
  · obtain ⟨hone, -, -, hstat, -⟩ := sesStart_moves (n := n) ((d.sesGone n).put (fPsEnq (0x80 + n)) 0)
    refine ⟨?_, ?_, hone⟩
    · rw [Device.on, hstat _ rfl (by simp [fPsShuttingDown]) (by simp [fPsShuttingDown]),
        Device.get_put_apart _ _ _ _ (by simp [fPsEnq]) (by simp [fPsEnq]) (by simp [fPsEnq, fPsShuttingDown])]
      exact hshut
    · rw [Device.on, hstat _ rfl (by simp [fPsEnq]) (by simp [fPsEnq]), Device.get_put_same _ _ _ (by simp [fPsEnq]) (by simp [fPsEnq])]
      simp
  · next h => exact ⟨hshut, by simpa [henq] using h, hoff⟩

theorem sesEnded_leaves : ((d.sesEnded n).sess n).work = ({} : SesSt).work
    ∧ (d.sesEnded n).get (fRxfNoiseA n) = 0x8000 ∧ (d.sesEnded n).get (fRxfNoiseB n) = 0x8000 := by
  obtain ⟨-, -, ha, hb⟩ := sesOff_leaves hn d
  obtain ⟨hwork, hnoise⟩ := sesGone_leaves hn d
  obtain ⟨-, -, hstart, -, hregs⟩ := sesStart_moves (n := n) ((d.sesGone n).put (fPsEnq (0x80 + n)) 0)
  have hend : ((d.sesEnded n).sess n).work = ({} : SesSt).work ∧ (d.sesEnded n).rd (rxfNoise n) = (d.sesOff n).rd (rxfNoise n) := by
    rw [Device.sesEnded]
    split
    · refine ⟨hstart.trans hwork, (hregs _ (rxfNoise_not_mem_stateRegs hn)).trans ((Device.rd_put_ne _ _ _ _ ?_).trans hnoise)⟩
      simp only [fPsEnq, rxfNoise, pageStat, wordAt]
      omega
    · exact ⟨hwork, hnoise⟩
  refine ⟨hend.1, ?_, ?_⟩
  · rw [← ha]
    simp only [Device.get, fRxfNoiseA, hend.2]
  · rw [← hb]
    simp only [Device.get, fRxfNoiseB, hend.2]

end

/-- At a quiet point, with no message of the session held up, the shutdown ends. -/
theorem sessionShutdownComplete_eq {n : Nat} {d : Device} (hst : d.sesState n = 10) (hacc : (d.sess n).acc.running = false)
    (hq : d.sesQuiet n = true) (hman : d.man.queue = []) : sessionShutdownComplete n d = d.sesEnded n := by
  unfold sessionShutdownComplete
  rw [if_neg (by simp [hst, hacc, hq, hman])]
  rfl

theorem settles_rxfNoise {n : Nat} (hn : n < 16) {f : Fld} (hf : f.reg = rxfNoise n) : f.settles = true := by
  refine settles_of (fun g hg hr => absurd (?_ : g.reg / 1024 = 0x17) ((by decide : ∀ g ∈ settleFields, g.reg / 1024 ≠ 0x17) g hg))
  rw [hr, hf, rxfNoise]
  omega

/-- The end of a shutdown, whichever command brings it. -/
theorem sessionShutdown_completes {s : State} (hn : s.dev.NoRemote) (n : Fin 16) {c : Instr}
    (hc : c = .sessionShutdownComplete n ∨ c = .shutdownComplete (.session n)) (hst : s.dev.sesState n.val = 10)
    (hacc : (s.dev.sess n.val).acc.running = false) (hq : s.dev.sesQuiet n.val = true) (hman : s.dev.man.queue = []) :
    Completes c s (fun e => e.on (fPsShuttingDown (0x80 + n.val)) = false
      ∧ e.on (fPsEnq (0x80 + n.val)) = false
      ∧ (s.dev.on (fPsEnq (0x80 + n.val)) = false → e.sesState n.val = 0)
      ∧ (s.dev.on (fPsEnq (0x80 + n.val)) = true → e.sesState n.val = 1)
      ∧ (e.sess n.val).run = none
      ∧ (e.sess n.val).descs = []
      ∧ (e.sess n.val).chain = []
      ∧ (e.sess n.val).fence = none
      ∧ e.get (fRxfNoiseA n.val) = 0x8000
      ∧ e.get (fRxfNoiseB n.val) = 0x8000) := by
  have hexec : exec c s = act (sessionShutdownComplete n.val) s := by rcases hc with rfl | rfl <;> rfl
  refine completes_act _ hexec ?_
  have hn' : (s.dev.sesEnded n.val).NoRemote :=
    sessionShutdownComplete_eq hst hacc hq hman ▸ sessionShutdownComplete_closed noRemote_closed hn
  obtain ⟨hshut, henq, hstate⟩ := sesEnded_page n.isLt s.dev
  obtain ⟨hwork, ha, hb⟩ := sesEnded_leaves n.isLt s.dev
  simp only [SesSt.work, Prod.mk.injEq] at hwork
  obtain ⟨hrun, hdescs, hchain, hfence, -, -⟩ := hwork
  rw [sessionShutdownComplete_eq hst hacc hq hman]
  have hnoise : ∀ f : Fld, f.reg = rxfNoise n.val → (s.dev.sesEnded n.val).settle.get f = (s.dev.sesEnded n.val).get f := fun f hf =>
    settle_get _ hn' _ (settles_rxfNoise n.isLt hf)
  have hpage : ∀ f : Fld, f.reg = pageStat (0x80 + n.val) → (s.dev.sesEnded n.val).settle.get f = (s.dev.sesEnded n.val).get f := fun f hf =>
    settle_get _ hn' _ (settles_of_page (by rw [hf, pageStat, wordAt]; omega))
  have hst' : (s.dev.sesEnded n.val).settle.sesState n.val = (if s.dev.on (fPsEnq (0x80 + n.val)) then 1 else 0) := (hpage _ rfl).trans hstate
  refine ⟨?_, ?_, fun h => ?_, fun h => ?_, ?_, ?_, ?_, ?_, ?_, ?_⟩
  · rw [Device.on, hpage _ rfl]; exact hshut
  · rw [Device.on, hpage _ rfl]; exact henq
  · rw [hst', h]; rfl
  · rw [hst', h]; rfl
  · rw [Device.sess_settle _ hn']; exact hrun
  · rw [Device.sess_settle _ hn']; exact hdescs
  · rw [Device.sess_settle _ hn']; exact hchain
  · rw [Device.sess_settle _ hn']; exact hfence
  · rw [hnoise _ rfl]; exact ha
  · rw [hnoise _ rfl]; exact hb

end Sys2Proof.Machine


namespace Sys2Proof.Machine

/-! ### The end of a session's enable sequence (R80) -/

section
variable (n : Nat) (d : Device)

/-- A refused enable leaves the session in OFF with EN = 0 and BUSY = 0. -/
theorem sesRefuse_page (code : Nat) : (d.sesRefuse n code).sesState n = 0 ∧ (d.sesRefuse n code).on (fPcEn (0x80 + n)) = false
    ∧ (d.sesRefuse n code).on (fPsBusy (0x80 + n)) = false := by
  have hmirror : ∀ (e : Device) (m : List (Nat × Word)) (f : Fld), ({ e with mirror := m } : Device).get f = e.get f := fun _ _ _ => rfl
  refine ⟨sesState_sesGo _ _ _ _ (by decide), ?_, ?_⟩
  · have hne : (fPcEn (0x80 + n)).reg ≠ (fPsBusy (0x80 + n)).reg := by
      simp only [fPcEn, fPsBusy, pageCtrl, pageStat, wordAt]
      omega
    rw [Device.on, Device.sesRefuse, (posts_sesGo n _ _ _).get _ (pageCtrl_not_mem_stateRegs n), hmirror, Device.get_modSes,
      Device.get_put_ne _ _ _ _ hne, Device.get_put_same _ _ _ (by simp [fPcEn]) (by simp [fPcEn])]
    simp
  · rw [Device.on, Device.sesRefuse, get_sesGo_pageStat _ _ _ _ rfl (by simp [fPsBusy]), hmirror, Device.get_modSes,
      Device.get_put_same _ _ _ (by simp [fPsBusy]) (by simp [fPsBusy])]
    simp

/-- The session as its enable ends well, before the holds that stand are looked at. -/
def Device.sesReady (d : Device) (n : Nat) : Device :=
  (d.put (fPsBusy (0x80 + n)) 0).modSes n (fun s => { s with link := d.rd (sesLink n), inv := d.rd (sesInv n), qctrl := d.rd (sesQctrl n), phase := .quiet })

/-- The holds that a carrier not in ON and slack water ask for. -/
def Device.sesEnableHolds (d : Device) (n c : Nat) : Device :=
  let e := d.when (d.carState c != 6) (fun d => d.holdAsk n 5)
  e.when (e.cal.slack != .none) (fun d => d.holdAsk n 2)

/-- The enabled session in IDLE, or in HOLD where a hold is asked for. -/
def Device.sesEnters (d : Device) (n : Nat) : Device :=
  if (d.sess n).holds.isEmpty then d.sesGo n 2 0 else (d.modSes n (fun s => { s with prev := 1 })).sesGo n 8 0

theorem posts_sesEnableHolds (c : Nat) : Posts [] n d (d.sesEnableHolds n c) :=
  (posts_when d _ _ (fun e => posts_holdAsk [] n e 5)).then (posts_when _ _ _ (fun e => posts_holdAsk [] n e 2))

theorem sesEnters_page : ((d.sesEnters n).sesState n = 2 ∨ (d.sesEnters n).sesState n = 8)
    ∧ (d.sesEnters n).on (fPsBusy (0x80 + n)) = d.on (fPsBusy (0x80 + n)) ∧ ((d.sesEnters n).sess n).work = (d.sess n).work := by
  rw [Device.sesEnters]
  split
  · refine ⟨.inl (sesState_sesGo _ _ _ _ (by decide)), ?_, (posts_sesGo n d 2 0).work⟩
    rw [Device.on, get_sesGo_pageStat _ _ _ _ rfl (by simp [fPsBusy]), ← Device.on]
  · refine ⟨.inr (sesState_sesGo _ _ _ _ (by decide)), ?_, (posts_sesGo n _ 8 0).work.trans ?_⟩
    · rw [Device.on, get_sesGo_pageStat _ _ _ _ rfl (by simp [fPsBusy]), Device.get_modSes, ← Device.on]
    · rw [Device.sess_modSes]
      split <;> rfl

/-- Restarted noise estimates move the front ends' words alone. -/
theorem rd_noiseRestart (a b : Bool) {x : Nat} (hx : x ≠ rxfNoise n) : (d.noiseRestart n a b).rd x = d.rd x := by
  unfold Device.noiseRestart
  split
  · rfl
  · cases a <;> cases b <;> simp [Device.rd_put, fRxfNoiseA, fRxfNoiseB, hx]

end

section
variable {n : Nat} {s : Device} (hst : s.sesState n = 1)
include hst

/-- With its carrier OFF the session is refused. -/
theorem sessionEnableComplete_refused (hcar : s.carState (s.sesCar n) = 0) : sessionEnableComplete n s = s.sesRefuse n 9 := by
  unfold sessionEnableComplete
  rw [if_neg (by simp [hst])]
  dsimp only
  rw [if_pos (by simp [hcar])]

/-- Admitted and served, it is enabled. -/
theorem sessionEnableComplete_admitted {d : Device} (hcar : s.carState (s.sesCar n) ≠ 0) (hroom : (s.onCarrier (s.sesCar n)).length < 4)
    (hadmit : ((s.modStream n (fun t => { t with assigned := true })).showStreams.noiseRestart n true true).admitStart n = (true, d))
    (hserves : ((d.zonesChanged (s.sesCar n) n).groupsStale).get
      (fPsState (0x20 + ((d.zonesChanged (s.sesCar n) n).groupsStale).get (fSesStatPilot n))) = 5) :
    sessionEnableComplete n s = (((d.zonesChanged (s.sesCar n) n).groupsStale.sesReady n).sesEnableHolds n (s.sesCar n)).sesEnters n := by
  unfold sessionEnableComplete
  rw [if_neg (by simp [hst])]
  dsimp only
  rw [if_neg (by simp [hcar]; omega), hadmit]
  dsimp only
  rw [if_neg (by simp), if_neg (by simp [hserves])]
  rfl

end

/-- LINK of a session is read as the host left it, whatever the admission has moved. -/
theorem admits_link {n : Nat} (hn : n < 16) {s d : Device}
    (hadmit : ((s.modStream n (fun t => { t with assigned := true })).showStreams.noiseRestart n true true).admitStart n = (true, d)) :
    ((d.zonesChanged (s.sesCar n) n).groupsStale).rd (sesLink n) = s.rd (sesLink n) := by
  have hkept : AdmitKept (sesLink n) := by
    refine ⟨.inr (by simp only [sesLink]; omega), fun m => ?_⟩
    simp only [sesLink, sesStat]
    omega
  have hne : sesLink n ≠ rxfNoise n := by
    simp only [sesLink, rxfNoise]
    omega
  have hstart := admits_admitStart ((s.modStream n (fun t => { t with assigned := true })).showStreams.noiseRestart n true true) hn
  rw [hadmit] at hstart
  calc ((d.zonesChanged (s.sesCar n) n).groupsStale).rd (sesLink n) = d.rd (sesLink n) :=
        ((admits_zonesChanged d _ _).trans (admits_groupsStale _)).regs _ hkept
    _ = (s.modStream n (fun t => { t with assigned := true })).showStreams.rd (sesLink n) :=
        (hstart.regs _ hkept).trans (rd_noiseRestart _ _ _ _ hne)
    _ = s.rd (sesLink n) := ((admits_modStream s _ _).trans (admits_showStreams _)).regs _ hkept

/-- The fields of a settled session page. -/
theorem get_sessionPage_settle {d : Device} (hd : d.NoRemote) {f : Fld} (hf : 0x80 * 1024 ≤ f.reg) : d.settle.get f = d.get f :=
  settle_get _ hd _ (settles_of_page (by omega))

section
variable {s : State} (hn : s.dev.NoRemote) (n : Fin 16) (hst : s.dev.sesState n.val = 1)
include hn hst

/-- The end of the enable sequence where the carrier is OFF. -/
theorem sessionEnableComplete_refused_completes (hcar : s.dev.carState (s.dev.sesCar n.val) = 0) :
    Completes (.sessionEnableComplete n) s (fun e => e.sesState n.val = 0
      ∧ e.on (fPcEn (0x80 + n.val)) = false
      ∧ e.on (fPsBusy (0x80 + n.val)) = false) := by
  refine completes_act (sessionEnableComplete n.val) rfl ?_
  have hn' : (sessionEnableComplete n.val s.dev).NoRemote := sessionEnableComplete_closed noRemote_closed hn
  rw [sessionEnableComplete_refused hst hcar] at hn' ⊢
  obtain ⟨hstate, hen, hbusy⟩ := sesRefuse_page n.val s.dev 9
  have hpage : ∀ f : Fld, 0x80 * 1024 ≤ f.reg → (s.dev.sesRefuse n.val 9).settle.get f = (s.dev.sesRefuse n.val 9).get f :=
    fun f hf => get_sessionPage_settle hn' hf
  refine ⟨(hpage _ ?_).trans hstate, ?_, ?_⟩
  · simp only [fPsState, pageStat, wordAt]
    omega
  · rw [Device.on, hpage _ (by simp only [fPcEn, pageCtrl, wordAt]; omega)]
    exact hen
  · rw [Device.on, hpage _ (by simp only [fPsBusy, pageStat, wordAt]; omega)]
    exact hbusy

/-- The end of the enable sequence where the weights are admitted and the pilot serves. -/
theorem sessionEnableComplete_admitted_completes {d : Device} (hcar : s.dev.carState (s.dev.sesCar n.val) ≠ 0)
    (hroom : (s.dev.onCarrier (s.dev.sesCar n.val)).length < 4)
    (hadmit : ((s.dev.modStream n.val (fun t => { t with assigned := true })).showStreams.noiseRestart n.val true true).admitStart n.val = (true, d))
    (hserves : ((d.zonesChanged (s.dev.sesCar n.val) n.val).groupsStale).get
      (fPsState (0x20 + ((d.zonesChanged (s.dev.sesCar n.val) n.val).groupsStale).get (fSesStatPilot n.val))) = 5) :
    Completes (.sessionEnableComplete n) s (fun e => (e.sesState n.val = 2 ∨ e.sesState n.val = 8)
      ∧ e.on (fPsBusy (0x80 + n.val)) = false
      ∧ (e.sess n.val).phase = .quiet
      ∧ (e.sess n.val).link = s.dev.rd (sesLink n.val)) := by
  refine completes_act (sessionEnableComplete n.val) rfl ?_
  have hn' : (sessionEnableComplete n.val s.dev).NoRemote := sessionEnableComplete_closed noRemote_closed hn
  rw [sessionEnableComplete_admitted hst hcar hroom hadmit hserves] at hn' ⊢
  generalize hz : (d.zonesChanged (s.dev.sesCar n.val) n.val).groupsStale = z at hn' ⊢
  have hlink : z.rd (sesLink n.val) = s.dev.rd (sesLink n.val) := hz ▸ admits_link n.isLt hadmit
  have hheld := posts_sesEnableHolds n.val (z.sesReady n.val) (s.dev.sesCar n.val)
  obtain ⟨hstate, hbusy, hwork⟩ := sesEnters_page n.val ((z.sesReady n.val).sesEnableHolds n.val (s.dev.sesCar n.val))
  rw [hheld.work, Device.sesReady, Device.sess_modSes, if_pos ⟨rfl, n.isLt⟩] at hwork
  simp only [SesSt.work, Prod.mk.injEq] at hwork
  obtain ⟨-, -, -, -, hphase, hlinked⟩ := hwork
  refine ⟨?_, ?_, ?_, ?_⟩
  · rw [Device.sesState, get_sessionPage_settle hn' (by simp only [fPsState, pageStat, wordAt]; omega)]
    exact hstate
  · rw [Device.on, get_sessionPage_settle hn' (by simp only [fPsBusy, pageStat, wordAt]; omega), ← Device.on, hbusy, Device.on,
      hheld.get _ (by simp), Device.sesReady, Device.get_modSes, Device.get_put_same _ _ _ (by simp [fPsBusy]) (by simp [fPsBusy])]
    simp
  · rw [Device.sess_settle _ hn']
    exact hphase
  · rw [Device.sess_settle _ hn']
    exact hlinked.trans hlink

end

end Sys2Proof.Machine


namespace Sys2Proof.Machine

/-! ### EN of a session is written (R65, R66, R79) -/

/-- The device as a write of a session's PAGE_CTRL has arrived and its word is stored, before EN takes effect. -/
def Device.ctrlStored (d : Device) (n : Nat) (v : Word) (be : BitVec 4) : Device :=
  (d.arrived (pageCtrl (0x80 + n)) v be).wr (pageCtrl (0x80 + n)) (v &&& 0xF)

/-- EN as written takes effect. -/
def Device.ctrlTakes (d : Device) (n : Nat) (v : Word) (be : BitVec 4) : Device :=
  if v.getLsbD 0 then (d.ctrlStored n v be).enableStart (0x80 + n) else (d.ctrlStored n v be).enableStop (0x80 + n) (d.on (fPcEn (0x80 + n)))

section
variable (n : Nat) (d : Device) (v : Word) (be : BitVec 4)

theorem pageOfWord_pageCtrl (p : Nat) : pageOfWord (pageCtrl p) = p := by simp only [pageOfWord, pageCtrl, wordAt]; omega

theorem pageCtrl_ne_stat (p q : Nat) : pageCtrl p ≠ pageStat q ∧ pageCtrl p ≠ hbusStat := by
  constructor <;> simp only [pageCtrl, pageStat, hbusStat, wordAt] <;> omega

/-- The stored word is the written one. -/
theorem rd_ctrlStored_ctrl : (d.ctrlStored n v be).rd (pageCtrl (0x80 + n)) = v &&& 0xF := by
  simp [Device.ctrlStored]

/-- PAGE_STAT but WPEND is as before the write. -/
theorem get_ctrlStored_stat {f : Fld} (hr : f.reg = pageStat (0x80 + n)) (hf : 7 < f.lo ∨ f.hi < 7) : (d.ctrlStored n v be).get f = d.get f := by
  have hne : f.reg ≠ pageCtrl (0x80 + n) := hr ▸ (pageCtrl_ne_stat _ _).1.symm
  have hq : f.reg ≠ hbusStat := by simp only [hr, pageStat, hbusStat, wordAt]; omega
  rw [← Device.get_arrived (d := d) (a := pageCtrl (0x80 + n)) (v := v) (be := be) hq hf, Device.ctrlStored]
  simp [Device.get, Device.rd_wr, hne]

omit d v be n in
/-- A field of one bit is on where the word's bit is 1. -/
theorem Device.on_bit (d : Device) (a b : Nat) : d.on ⟨a, b, b⟩ = (d.rd a).getLsbD b := by
  have hbit : (bitsOf (d.rd a) b b).testBit 0 = (d.rd a).getLsbD b := by rw [testBit_bitsOf]; simp
  have hlt : bitsOf (d.rd a) b b < 2 := by simpa using bitsOf_lt (d.rd a) b b
  rw [← hbit, Device.on, Device.get]
  interval_cases bitsOf (d.rd a) b b <;> rfl

variable {n d v be}

/-- The block of a session that is not in reset stays so where BLK_RST is written 0. -/
theorem ctrlStored_pageInReset (hn : n < 16) (hv : v.getLsbD 1 = false) (hr : d.pageInReset (0x80 + n) = false) :
    (d.ctrlStored n v be).pageInReset (0x80 + n) = false ∧ d.on (fPcBlkRst (0x80 + n)) = false := by
  have hres : pageResettable (0x80 + n) = true := by simp [pageResettable]; omega
  have hisl : (d.ctrlStored n v be).island (islandOf (0x80 + n)) = d.island (islandOf (0x80 + n)) := by
    simp [Device.island, Device.ctrlStored]
  have hrst : (d.ctrlStored n v be).on (fPcBlkRst (0x80 + n)) = false := by
    rw [fPcBlkRst, Device.on_bit, rd_ctrlStored_ctrl, BitVec.getLsbD_and, hv, Bool.false_and]
  have hrel : (d.ctrlStored n v be).on (fPsReleasePending (0x80 + n)) = d.on (fPsReleasePending (0x80 + n)) := by
    rw [Device.on, get_ctrlStored_stat _ _ _ _ rfl (by simp [fPsReleasePending]), ← Device.on]
  simp only [Device.pageInReset, hres, Bool.true_and, Bool.or_eq_false_iff] at hr ⊢
  obtain ⟨hheld, hblk, hpend⟩ := hr
  exact ⟨⟨by rw [hisl, hheld], hrst, by rw [hrel, hpend]⟩, hblk⟩

/-- A write of a session's PAGE_CTRL that leaves BLK_RST at 0 is EN taking effect. -/
theorem pageCtrlWrite_session (hn : n < 16) (hv : v.getLsbD 1 = false) (hr : d.pageInReset (0x80 + n) = false) :
    (d.arrived (pageCtrl (0x80 + n)) v be).pageCtrlWrite (0x80 + n) v = d.ctrlTakes n v be := by
  obtain ⟨hlive, hblk⟩ := ctrlStored_pageInReset (be := be) hn hv hr
  have hpath : isPath (0x80 + n) = false := by simp [isPath]
  have hold : (d.arrived (pageCtrl (0x80 + n)) v be).rd (pageCtrl (0x80 + n)) = d.rd (pageCtrl (0x80 + n)) :=
    rd_arrived _ _ _ _ _ (pageCtrl_ne_stat _ 0).2 (pageCtrl_ne_stat _ _).1
  have hrst : (d.rd (pageCtrl (0x80 + n))).getLsbD 1 = false := by rw [← Device.on_bit]; exact hblk
  have hen : (d.rd (pageCtrl (0x80 + n))).getLsbD 0 = d.on (fPcEn (0x80 + n)) := (Device.on_bit d _ 0).symm
  have hwhen : ∀ (e : Device) (f : Device → Device), e.when false f = e := fun _ _ => rfl
  simp only [Device.pageCtrlWrite, hold, hv, hrst, hpath, hwhen, Bool.false_and, Bool.false_eq_true, if_false, hen]
  rw [Device.ctrlStored] at hlive
  simp only [hlive, Bool.false_eq_true, if_false, Device.ctrlTakes, Device.ctrlStored]

/-- EN = 1 starts a session in OFF and is queued behind a shutdown (R66, R79). -/
theorem enableStart_session (hn : n < 16) : d.enableStart (0x80 + n)
    = if d.sesState n = 0 then d.sesStart n else if d.on (fPsShuttingDown (0x80 + n)) then d.put (fPsEnq (0x80 + n)) 1 else d := by
  have hpath : isPath (0x80 + n) = false := by simp [isPath]
  have hses : isSes (0x80 + n) = true := by simp [isSes]; omega
  simp only [Device.enableStart, hpath, hses, Nat.add_sub_cancel_left, Device.sesState, if_true, Bool.false_eq_true, if_false]
  rfl

/-- EN = 0 cancels a queued re-enable, or starts the shutdown of a session that runs (R66, R79). -/
theorem enableStop_session (hn : n < 16) (was : Bool) : d.enableStop (0x80 + n) was
    = if d.on (fPsEnq (0x80 + n)) then d.put (fPsEnq (0x80 + n)) 0
      else if !was || d.on (fPsShuttingDown (0x80 + n)) || d.sesState n = 0 then d else d.sesStop n := by
  have hpath : isPath (0x80 + n) = false := by simp [isPath]
  have hpil : isPil (0x80 + n) = false := by simp [isPil]; omega
  have hses : isSes (0x80 + n) = true := by simp [isSes]; omega
  simp only [Device.enableStop, hpath, hpil, hses, Nat.add_sub_cancel_left, Device.sesState, if_true, Bool.false_eq_true, if_false]
  rfl

end

/-- An applied write of a session's PAGE_CTRL leaves the session's page and record as EN taking effect leaves them. -/
theorem sessionCtrl_completes {c : Instr} {s : State} {n : Nat} {v : Word} {be : BitVec 4} {finds : KlGroupFinds} {Q : Device → Prop}
    (hn : s.dev.NoRemote) (hc : hostRow s.dev c = some (pageCtrl (0x80 + n), v, be, finds)) (ha : s.dev.applies (pageCtrl (0x80 + n)) v be = true)
    (hlt : n < 16) (hv : v.getLsbD 1 = false) (hr : s.dev.pageInReset (0x80 + n) = false)
    (hq : ∀ e : Device, (∀ f : Fld, 0x80 * 1024 ≤ f.reg → e.get f = (s.dev.ctrlTakes n v be).get f) →
      (∀ m, e.sess m = (s.dev.ctrlTakes n v be).sess m) → Q e) : Completes c s Q := by
  have hoff : offOfWord (pageCtrl (0x80 + n)) = 2 := by simp only [offOfWord, pageCtrl, wordAt]; omega
  have heffect : (s.dev.arrived (pageCtrl (0x80 + n)) v be).writeEffect (s.dev.posted (pageCtrl (0x80 + n)) v be) finds = s.dev.ctrlTakes n v be := by
    rw [← pageCtrlWrite_session hlt hv hr]
    simp only [Device.writeEffect, Device.posted, hoff, pageOfWord_pageCtrl]
  have hn' : (s.dev.written (pageCtrl (0x80 + n)) v be finds).NoRemote :=
    ownWrite_applies _ _ _ _ finds ha ▸ Device.ownWrite_closed noRemote_closed hn
  have hidle : ∀ (e : Device) (b : Bool), (∀ f : Fld, 0x80 * 1024 ≤ f.reg → (e.when b Device.idleRestart).get f = e.get f)
      ∧ ∀ m, (e.when b Device.idleRestart).sess m = e.sess m := fun e b => by
    cases b
    · exact ⟨fun _ _ => rfl, fun _ => rfl⟩
    · refine ⟨fun f hf => ?_, fun _ => rfl⟩
      have hne : f.reg ≠ secIdleLeft := by
        rw [secIdleLeft]
        omega
      simp [Device.when, Device.idleRestart, Device.get, Device.rd_wr, hne]
  refine ⟨_, exec_applies c s _ v be finds hc ha, rfl, hq _ (fun f hf => ?_) (fun m => ?_)⟩
  · rw [get_sessionPage_settle hn' hf, Device.written, heffect, Device.get_sync, (hidle _ _).1 f hf]
  · rw [Device.sess_settle _ hn', Device.written, heffect, Device.sync_same]
    exact (hidle _ _).2 m

end Sys2Proof.Machine


namespace Sys2Proof.Machine

theorem on_of_get {d e : Device} {f : Fld} (h : e.get f = d.get f) : e.on f = d.on f := by simp only [Device.on, h]

theorem on_of_rd {d e : Device} {f : Fld} (h : e.rd f.reg = d.rd f.reg) : e.on f = d.on f :=
  on_of_get (by simp only [Device.get, h])

section
variable {n : Nat} {d : Device} {v : Word} {be : BitVec 4}

/-- EN reads as it was written. -/
theorem ctrlStored_en : (d.ctrlStored n v be).on (fPcEn (0x80 + n)) = v.getLsbD 0 := by
  rw [fPcEn, Device.on_bit, rd_ctrlStored_ctrl, BitVec.getLsbD_and]
  simp

/-- The shutdown of a session begins: DRAINING with the hold for it. -/
theorem sesStop_moves (hn : n < 16) : (d.sesStop n).sesState n = 10 ∧ (d.sesStop n).on (fPsShuttingDown (0x80 + n)) = true
    ∧ 6 ∈ ((d.sesStop n).sess n).holds ∧ ∀ a, a ∉ stateRegs n → (d.sesStop n).rd a = d.rd a := by
  have hask := posts_holdAsk (stateRegs n) n ((d.put (fPsBusy (0x80 + n)) 0).put (fPsShuttingDown (0x80 + n)) 1) 6
  refine ⟨sesState_sesGo _ _ _ _ (by decide), ?_, Device.mem_holds_sesGo (Device.holdAsk_mem hn 6), fun a ha => ?_⟩
  · rw [Device.on, Device.sesStop, get_sesGo_pageStat _ _ _ _ rfl (by simp [fPsShuttingDown]),
      (posts_holdAsk [] n _ 6).get _ (by simp), Device.get_put_same _ _ _ (by simp [fPsShuttingDown]) (by simp [fPsShuttingDown])]
    simp [fPsShuttingDown]
  · have hne : a ≠ pageStat (0x80 + n) := fun h => ha (by simp [stateRegs, h])
    rw [Device.sesStop, (posts_sesGo n _ 10 0).regs a ha, hask.regs a ha, Device.rd_put_ne _ _ _ _ hne, Device.rd_put_ne _ _ _ _ hne]

/-- EN = 1 takes effect on a session. -/
theorem ctrlTakes_enable (hn : n < 16) (hv : v.getLsbD 0 = true) : (d.ctrlTakes n v be).on (fPcEn (0x80 + n)) = true
    ∧ (d.sesState n = 0 → (d.ctrlTakes n v be).sesState n = 1 ∧ (d.ctrlTakes n v be).on (fPsBusy (0x80 + n)) = true)
    ∧ (d.sesState n ≠ 0 → d.on (fPsShuttingDown (0x80 + n)) = true →
      (d.ctrlTakes n v be).sesState n = d.sesState n ∧ (d.ctrlTakes n v be).on (fPsEnq (0x80 + n)) = true) := by
  have hstate : (d.ctrlStored n v be).sesState n = d.sesState n := get_ctrlStored_stat _ _ _ _ rfl (.inl (by simp [fPsState]))
  have hshut : (d.ctrlStored n v be).on (fPsShuttingDown (0x80 + n)) = d.on (fPsShuttingDown (0x80 + n)) := by
    rw [Device.on, get_ctrlStored_stat _ _ _ _ rfl (.inr (by simp [fPsShuttingDown])), ← Device.on]
  have hen : (d.ctrlStored n v be).on (fPcEn (0x80 + n)) = true := ctrlStored_en.trans hv
  have hput : (fPcEn (0x80 + n)).reg ≠ (fPsEnq (0x80 + n)).reg := (pageCtrl_ne_stat _ _).1
  obtain ⟨hone, hbusy, -, -, hregs⟩ := sesStart_moves (n := n) (d.ctrlStored n v be)
  rw [Device.ctrlTakes, if_pos hv, enableStart_session hn, hstate, hshut]
  refine ⟨?_, fun h0 => ?_, fun h0 hs => ?_⟩
  · split
    · exact (on_of_rd (hregs _ (pageCtrl_not_mem_stateRegs n))).trans hen
    · split
      · rw [Device.on, Device.get_put_ne _ _ _ _ hput]
        exact hen
      · exact hen
  · rw [if_pos h0]
    exact ⟨hone, hbusy⟩
  · rw [if_neg h0, if_pos hs]
    refine ⟨?_, ?_⟩
    · rw [← hstate]
      exact Device.get_put_apart _ _ _ _ (by simp [fPsEnq]) (by simp [fPsEnq]) (by simp [fPsEnq, fPsState])
    · rw [Device.on, Device.get_put_same _ _ _ (by simp [fPsEnq]) (by simp [fPsEnq])]
      simp [fPsEnq]

/-- EN = 0 takes effect on a session. -/
theorem ctrlTakes_disable (hn : n < 16) (hv : v.getLsbD 0 = false) : (d.ctrlTakes n v be).on (fPcEn (0x80 + n)) = false
    ∧ (d.on (fPsEnq (0x80 + n)) = true →
      (d.ctrlTakes n v be).sesState n = d.sesState n ∧ (d.ctrlTakes n v be).on (fPsEnq (0x80 + n)) = false)
    ∧ (d.on (fPsEnq (0x80 + n)) = false → d.on (fPcEn (0x80 + n)) = true → d.sesState n ≠ 0 → d.on (fPsShuttingDown (0x80 + n)) = false →
      (d.ctrlTakes n v be).sesState n = 10 ∧ (d.ctrlTakes n v be).on (fPsShuttingDown (0x80 + n)) = true
        ∧ 6 ∈ ((d.ctrlTakes n v be).sess n).holds) := by
  have hstat : ∀ f : Fld, f.reg = pageStat (0x80 + n) → 7 < f.lo ∨ f.hi < 7 → (d.ctrlStored n v be).on f = d.on f := fun f hr hf => by
    rw [Device.on, get_ctrlStored_stat _ _ _ _ hr hf, ← Device.on]
  have hstate : (d.ctrlStored n v be).sesState n = d.sesState n := get_ctrlStored_stat _ _ _ _ rfl (.inl (by simp [fPsState]))
  have hen : (d.ctrlStored n v be).on (fPcEn (0x80 + n)) = false := ctrlStored_en.trans hv
  have hput : (fPcEn (0x80 + n)).reg ≠ (fPsEnq (0x80 + n)).reg := (pageCtrl_ne_stat _ _).1
  obtain ⟨hten, hshut, hhold, hregs⟩ := sesStop_moves (d := d.ctrlStored n v be) hn
  rw [Device.ctrlTakes, if_neg (by simp only [hv, Bool.false_eq_true, not_false_eq_true]), enableStop_session hn, hstate,
    hstat _ rfl (.inr (by simp [fPsEnq])), hstat _ rfl (.inr (by simp [fPsShuttingDown]))]
  refine ⟨?_, fun hq => ?_, fun hq hwas h0 hs => ?_⟩
  · split
    · rw [Device.on, Device.get_put_ne _ _ _ _ hput]
      exact hen
    · split
      · exact hen
      · exact (on_of_rd (hregs _ (pageCtrl_not_mem_stateRegs n))).trans hen
  · rw [if_pos hq]
    refine ⟨?_, ?_⟩
    · rw [← hstate]
      exact Device.get_put_apart _ _ _ _ (by simp [fPsEnq]) (by simp [fPsEnq]) (by simp [fPsEnq, fPsState])
    · rw [Device.on, Device.get_put_same _ _ _ (by simp [fPsEnq]) (by simp [fPsEnq])]
      simp
  · rw [if_neg (by simp [hq]), if_neg (by simp [hwas, hs, h0])]
    exact ⟨hten, hshut, hhold⟩

end

/-- EN of a written PAGE_CTRL, and BLK_RST beside it. -/
theorem getLsbD_setEn (p : Nat) (w : Word) (b : Nat) : ((fPcEn p).set w b).getLsbD 0 = b.testBit 0 ∧ ((fPcEn p).set w b).getLsbD 1 = w.getLsbD 1 := by
  simp only [Fld.set, fPcEn, getLsbD_setBits w 0 0 b _ (by decide) (Nat.le_refl 0)]
  simp

/-- Settles O16: a write of EN, the end of the enable sequence and the end of the shutdown, each from its own lemma. -/
theorem sessionEnableAndShutdown : Obligations.SessionEnableAndShutdown := by
  intro s hn
  refine ⟨fun n w hrst hlive => ?_, fun n hst => ⟨sessionEnableComplete_refused_completes hn n hst,
    fun d => sessionEnableComplete_admitted_completes hn n hst⟩, fun n c => sessionShutdown_completes hn n⟩
  have hctrl : 0x80 * 1024 ≤ pageCtrl (0x80 + n.val) := by simp only [pageCtrl, wordAt]; omega
  have hstat : 0x80 * 1024 ≤ pageStat (0x80 + n.val) := by simp only [pageStat, wordAt]; omega
  obtain ⟨hone, hone'⟩ := getLsbD_setEn (0x80 + n.val) w.value 1
  obtain ⟨hzero, hzero'⟩ := getLsbD_setEn (0x80 + n.val) w.value 0
  obtain ⟨hon, hstart, hqueue⟩ := ctrlTakes_enable (d := s.dev) (be := w.be) n.isLt hone
  obtain ⟨hoff, hcancel, hstop⟩ := ctrlTakes_disable (d := s.dev) (be := w.be) n.isLt hzero
  refine ⟨fun ha => ?_, fun ha hst hshut => ?_, fun ha hq => ?_, fun ha hq hen hst hshut => ?_⟩
  · refine sessionCtrl_completes hn rfl ha n.isLt (hone'.trans hrst) hlive (fun e hget _ => ⟨?_, fun h0 => ?_, fun h0 hshut => ?_⟩)
    · exact (on_of_get (hget _ hctrl)).trans hon
    · exact ⟨(hget _ hstat).trans (hstart h0).1, (on_of_get (hget _ hstat)).trans (hstart h0).2⟩
    · exact ⟨(hget _ hstat).trans (hqueue h0 hshut).1, (on_of_get (hget _ hstat)).trans (hqueue h0 hshut).2⟩
  · refine sessionCtrl_completes hn rfl ha n.isLt (hone'.trans hrst) hlive (fun e hget _ => ?_)
    obtain ⟨hstate, henq⟩ := hqueue (by simp [hst]) hshut
    exact ⟨(on_of_get (hget _ hstat)).trans henq, (hget _ hstat).trans (hstate.trans hst)⟩
  · refine sessionCtrl_completes hn rfl ha n.isLt (hzero'.trans hrst) hlive (fun e hget _ => ?_)
    obtain ⟨hstate, henq⟩ := hcancel hq
    exact ⟨(on_of_get (hget _ hctrl)).trans hoff, (hget _ hstat).trans hstate, (on_of_get (hget _ hstat)).trans henq⟩
  · refine sessionCtrl_completes hn rfl ha n.isLt (hzero'.trans hrst) hlive (fun e hget hsess => ?_)
    obtain ⟨hstate, hdown, hhold⟩ := hstop hq hen hst hshut
    exact ⟨(on_of_get (hget _ hctrl)).trans hoff, (hget _ hstat).trans hstate, (on_of_get (hget _ hstat)).trans hdown, by rwa [hsess]⟩

end Sys2Proof.Machine


namespace Sys2Proof.Machine

/-! ### Frames on their way (R327 … R330, R346) -/

/-- The words that frames on their way move: credits shown, the census's generation and state, and whether KL_1 is a spare. -/
def klWorkRegs : List Nat := [klCensus, pageStat 0x1C, repPools] ++ (List.range 5).map klPcred

/-- Does port `k` carry frames: in MEASURE, UP or STANDBY (R333)? -/
def Device.carries (d : Device) (k : Nat) : Prop := d.portState k = 4 ∨ d.portState k = 5 ∨ d.portState k = 6

/-- From `d` to `e` frames are queued and sent: only the words of `klWorkRegs` move, and a port that carries none keeps its replay buffer. -/
structure KlWorks (d e : Device) : Prop where
  regs : ∀ a, a ∉ klWorkRegs → e.rd a = d.rd a
  train : ∀ k, (e.port k).trains = (d.port k).trains ∧ (e.port k).retry = (d.port k).retry
  idle : ∀ k, ¬ d.carries k → (e.port k).replay = (d.port k).replay

theorem klPstat_not_mem_klWorkRegs (k : Nat) : klPstat k ∉ klWorkRegs := by
  simp only [klWorkRegs, List.mem_append, List.mem_cons, List.not_mem_nil, or_false, List.mem_map, List.mem_range, klPstat, klCensus, klPcred,
    pageStat, repPools, wordAt]
  omega

theorem KlWorks.get {d e : Device} (h : KlWorks d e) (f : Fld) (hf : f.reg ∉ klWorkRegs) : e.get f = d.get f := by
  simp only [Device.get, h.regs _ hf]

theorem KlWorks.portState {d e : Device} (h : KlWorks d e) (k : Nat) : e.portState k = d.portState k :=
  h.get _ (klPstat_not_mem_klWorkRegs k)

theorem KlWorks.refl (d : Device) : KlWorks d d := ⟨fun _ _ => rfl, fun _ => ⟨rfl, rfl⟩, fun _ _ => rfl⟩

theorem KlWorks.trans {d e f : Device} (h : KlWorks d e) (g : KlWorks e f) : KlWorks d f where
  regs a ha := (g.regs a ha).trans (h.regs a ha)
  train k := ⟨(g.train k).1.trans (h.train k).1, (g.train k).2.trans (h.train k).2⟩
  idle k hk := (g.idle k (by simpa only [Device.carries, h.portState] using hk)).trans (h.idle k hk)

theorem klWorks_forAll {α : Type} {l : List α} {f : Device → α → Device} (h : ∀ d, ∀ x ∈ l, KlWorks d (f d x)) (d : Device) :
    KlWorks d (d.forAll l f) := by
  induction l generalizing d with
  | nil => exact .refl d
  | cons x t ih => exact (h d x (by simp)).trans (ih (fun d y hy => h d y (by simp [hy])) _)

theorem Device.port_modPort (d : Device) (n m : Nat) (f : KlPortSt → KlPortSt) :
    (d.modPort n f).port m = if m = n ∧ n < 5 then f (d.port n) else d.port m := by
  by_cases hn : n < 5
  · by_cases hm : m = n
    · subst hm
      rw [if_pos ⟨rfl, hn⟩, Device.port_modPort_self _ _ _ hn]
    · by_cases hm5 : m < 5
      · simp [Device.modPort, Device.modKl, Device.port, Vector.getD, hm, hm5, Ne.symm hm]
      · simp [Device.modPort, Device.modKl, Device.port, Vector.getD, hm5, hm]
  · simp [Device.modPort, Device.modKl, Device.port, hn, Vector.setIfInBounds_eq_of_size_le (by omega : 5 ≤ n)]

section
variable (d : Device)

/-- A change of the cascade's queues and records that leaves the ports. -/
theorem klWorks_modKl {f : KlSt → KlSt} (hf : ∀ s, (f s).ports = s.ports) : KlWorks d (d.modKl f) := by
  have hport : ∀ k, (d.modKl f).port k = d.port k := fun k => by simp only [Device.port, Device.modKl, hf]
  exact ⟨fun _ _ => rfl, fun k => by simp [hport], fun k _ => by simp [hport]⟩

theorem klWorks_modPort (k : Nat) {f : KlPortSt → KlPortSt}
    (hf : ∀ p, (f p).trains = p.trains ∧ (f p).retry = p.retry ∧ (f p).replay = p.replay) : KlWorks d (d.modPort k f) := by
  refine ⟨fun _ _ => rfl, fun m => ?_, fun m _ => ?_⟩
  · rw [Device.port_modPort]
    split
    · next h => exact h.1 ▸ ⟨(hf _).1, (hf _).2.1⟩
    · exact ⟨rfl, rfl⟩
  · rw [Device.port_modPort]
    split
    · next h => exact h.1 ▸ (hf _).2.2
    · rfl

theorem klWorks_put {f : Fld} (v : Nat) (hf : f.reg ∈ klWorkRegs) : KlWorks d (d.put f v) :=
  ⟨fun _ ha => Device.rd_put_ne _ _ _ _ (fun h => ha (h ▸ hf)), fun _ => ⟨rfl, rfl⟩, fun _ _ => rfl⟩

variable {d}

theorem klPcred_mem_klWorkRegs {k : Nat} (hk : k < 5) : klPcred k ∈ klWorkRegs := by
  simp only [klWorkRegs, List.mem_append, List.mem_map, List.mem_range]
  exact .inr ⟨k, hk, rfl⟩

theorem klWorks_showCredits {k : Nat} (hk : k < 5) : KlWorks d (d.showCredits k) :=
  (klWorks_put d _ (klPcred_mem_klWorkRegs hk)).trans (klWorks_put _ _ (klPcred_mem_klWorkRegs hk))

/-- A frame goes out only on a port that carries frames. -/
theorem carries_of_frameOk {k : Nat} {f : KlFrame} (h : d.frameOk k f = true) : d.carries k := by
  simp only [Device.frameOk, Bool.and_eq_true, Bool.or_eq_true, decide_eq_true_eq] at h
  obtain ⟨⟨h5 | ⟨-, h46⟩, -⟩, -⟩ := h
  · exact .inr (.inl h5)
  · exact h46.elim .inl (fun h6 => .inr (.inr h6))

/-- A port as a frame goes out on it (R328, R329). -/
def KlPortSt.sent (f : KlFrame) (p : KlPortSt) : KlPortSt :=
  { p with
    credits := p.credits.setIfInBounds f.cls (p.credits.getD f.cls 0 - klCost f.words)
    replay := p.replay ++ [{ f with seq := p.txSeq % 256 }]
    txSeq := (p.txSeq + 1) % 256 }

theorem Device.frameSend_eq (d : Device) (k : Nat) (f : KlFrame) : d.frameSend k f = (d.modPort k (KlPortSt.sent f)).showCredits k := rfl

theorem klWorks_frameSend {k : Nat} (hk : k < 5) (f : KlFrame) (hc : d.carries k) : KlWorks d (d.frameSend k f) := by
  rw [Device.frameSend_eq]
  refine KlWorks.trans (e := d.modPort k (KlPortSt.sent f)) ⟨fun _ _ => rfl, fun m => ?_, fun m hm => ?_⟩ (klWorks_showCredits hk)
  · rw [Device.port_modPort]
    split
    · next h => exact h.1 ▸ ⟨rfl, rfl⟩
    · exact ⟨rfl, rfl⟩
  · rw [Device.port_modPort, if_neg (fun h : m = k ∧ k < 5 => hm (h.1 ▸ hc))]

theorem lt_of_upPort {k : Nat} (h : d.upPort = some k) : k < 2 ∧ d.portUp k = true := by
  unfold Device.upPort at h
  split at h
  · cases h
  · have hmem := List.mem_of_find?_eq_some h
    have hup := List.find?_some h
    simp only [List.mem_cons, List.not_mem_nil, or_false] at hmem
    exact ⟨by omega, hup⟩

theorem frameOk_of_upNext {k : Nat} {x : Nat × KlFrame} (h : d.upNext k = some x) : d.frameOk k x.2 = true := by
  obtain ⟨c, -, hc⟩ := List.exists_of_findSome?_eq_some h
  obtain ⟨src, -, hsrc⟩ := List.exists_of_findSome?_eq_some hc
  split at hsrc
  · split at hsrc
    · next hok => exact Option.some.inj hsrc ▸ hok
    · cases hsrc
  · cases hsrc

theorem klWorks_bufferFree (k c n : Nat) : KlWorks d (d.bufferFree k c n) := klWorks_modPort d k (fun _ => ⟨rfl, rfl, rfl⟩)

/-- A frame that has left returns the buffer space it held. -/
theorem klWorks_returned (x : Nat × KlFrame) : KlWorks d (if x.1 < 5 then d.bufferFree x.1 x.2.cls (klCost x.2.words) else d) := by
  split
  · exact klWorks_bufferFree _ _ _
  · exact .refl d

theorem klWorks_pumpUp (fuel : Nat) : KlWorks d (d.pumpUp fuel) := by
  induction fuel generalizing d with
  | zero => exact .refl d
  | succ fuel ih =>
    unfold Device.pumpUp
    split
    · exact .refl d
    · next k hk =>
      split
      · exact .refl d
      · next x hx =>
        have hq := klWorks_modKl d (f := fun s => { s with up := s.up.erase x, served := s.served.setIfInBounds x.2.cls x.1 }) (fun _ => rfl)
        have hc : (d.modKl (fun s => { s with up := s.up.erase x, served := s.served.setIfInBounds x.2.cls x.1 })).carries k :=
          carries_of_frameOk (d := d) (frameOk_of_upNext hx)
        exact ((hq.trans (klWorks_frameSend (by have := (lt_of_upPort hk).1; omega) _ hc)).trans (klWorks_returned x)).trans ih

theorem klWorks_pumpDown {k : Nat} (hk : k < 5) (fuel : Nat) : KlWorks d (d.pumpDown k fuel) := by
  induction fuel generalizing d with
  | zero => exact .refl d
  | succ fuel ih =>
    unfold Device.pumpDown
    split
    · exact .refl d
    · next x hx =>
      have hok : d.frameOk k x.2 = true := by
        obtain ⟨c, -, hc⟩ := List.exists_of_findSome?_eq_some hx
        split at hc
        · split at hc
          · next hok => exact Option.some.inj hc ▸ hok
          · cases hc
        · cases hc
      have hq := klWorks_modPort d k (f := fun p => { p with queue := p.queue.erase x }) (fun _ => ⟨rfl, rfl, rfl⟩)
      have hc : (d.modPort k (fun p => { p with queue := p.queue.erase x })).carries k := carries_of_frameOk (d := d) hok
      exact ((hq.trans (klWorks_frameSend hk _ hc)).trans (klWorks_returned x)).trans ih

variable (d)

theorem klWorks_pump : KlWorks d d.pump := by
  refine (klWorks_pumpUp d.kl.up.length).trans (klWorks_forAll (fun e k hk => klWorks_pumpDown ?_ _) _)
  simp only [List.mem_cons, List.not_mem_nil, or_false] at hk
  omega

theorem klWorks_sendUp (src : Nat) (f : KlFrame) : KlWorks d (d.sendUp src f) := by
  unfold Device.sendUp
  refine KlWorks.trans (klWorks_modKl d ?_) (klWorks_pump _)
  exact fun _ => rfl

theorem klWorks_sendDown (src k : Nat) (f : KlFrame) : KlWorks d (d.sendDown src k f) := by
  unfold Device.sendDown
  refine KlWorks.trans (klWorks_modPort d k ?_) (klWorks_pump _)
  exact fun _ => ⟨rfl, rfl, rfl⟩

/-! #### Events and the census (R336, R347) -/

theorem klWorks_klEvent (x port other detail : Nat) : KlWorks d (d.klEvent x port other detail) := by
  unfold Device.klEvent
  dsimp only
  split
  · exact klWorks_modKl d (fun _ => rfl)
  · split
    · exact klWorks_sendUp d _ _
    · exact .refl d

theorem klWorks_censusStart : KlWorks d d.censusStart := by
  unfold Device.censusStart
  split
  · exact .refl d
  · split
    · exact klWorks_modKl d (fun _ => rfl)
    · dsimp only
      refine KlWorks.trans (KlWorks.trans ((klWorks_put d _ ?_).trans (klWorks_put _ _ ?_)) (klWorks_modKl _ ?_))
        (klWorks_forAll (fun e k _ => klWorks_sendDown e _ _ _) _)
      · decide
      · decide
      · exact fun _ => rfl

theorem klWorks_censusAuto : KlWorks d d.censusAuto := by
  unfold Device.censusAuto
  split
  · exact klWorks_censusStart d
  · exact .refl d

theorem klWorks_censusCheck : KlWorks d d.censusCheck := by
  unfold Device.censusCheck
  split
  · refine KlWorks.trans (klWorks_modKl d ?_) (klWorks_sendUp _ _ _)
    exact fun _ => rfl
  · exact .refl d

theorem klWorks_showAlt : KlWorks d d.showAlt := klWorks_put d _ (by decide)

theorem klWorks_e2eResend : KlWorks d d.e2eResend := by
  unfold Device.e2eResend
  refine KlWorks.trans (klWorks_modKl d ?_) (klWorks_pump _)
  exact fun _ => rfl

end

end Sys2Proof.Machine


namespace Sys2Proof.Machine

/-! ### A cascade port enters a state (R332, R333) -/

/-- The port in its new state, before what a port that enters or leaves UP or STANDBY reports. -/
def Device.portEnter (d : Device) (k s : Nat) : Device :=
  let d := ((d.put (fKlPstatState k) s).putB (fKlPstatBusy k) (1 ≤ s && s ≤ 4 : Bool)).putB (fKlPstatShuttingDown k) (s = 8)
  let d := d.putB ⟨clkGood, 10 + k, 10 + k⟩ (s = 3 || s = 4 || s = 5 || s = 6 || s = 8)
  d.when (s = 5 || s = 6 || s = 7) (fun d => d.irq 0x1C 0)

/-- Is a state UP or STANDBY? -/
def klLive (x : Nat) : Bool := x = 5 || x = 6

/-- A port that neither enters nor leaves UP and STANDBY reports nothing. -/
theorem portGo_plain {d : Device} {k s : Nat} (h : klLive (d.portState k) = klLive s) : d.portGo k s = d.portEnter k s := by
  have h' : (decide (d.portState k = 5) || decide (d.portState k = 6)) = (decide (s = 5) || decide (s = 6)) := h
  unfold Device.portGo
  dsimp only
  rw [if_pos h']
  rfl

/-- One that does sends an event and may ask for a census. -/
theorem klWorks_portGo (d : Device) (k s : Nat) : KlWorks (d.portEnter k s) (d.portGo k s) := by
  unfold Device.portGo
  dsimp only
  split
  · exact .refl _
  · exact (klWorks_klEvent _ _ _ _ _).trans (klWorks_censusAuto _)

/-- The words a port's state moves. -/
def portRegs (k : Nat) : List Nat := [klPstat k, clkGood, irqStat 0x1C]

/-- A bit reads as it was set. -/
theorem Device.on_putB (d : Device) {f : Fld} (b : Bool) (hf : f.hi = f.lo) (h : f.hi < 32) : (d.putB f b).on f = b := by
  rw [Device.on, Device.putB, Device.get_put_same _ _ _ h hf.ge, hf]
  cases b <;> simp

section
variable (d : Device) (k s : Nat)

/-- The first part: PSTAT and CLK.GOOD, without the event PORT. -/
def Device.portShown (d : Device) (k s : Nat) : Device :=
  (((d.put (fKlPstatState k) s).putB (fKlPstatBusy k) (1 ≤ s && s ≤ 4 : Bool)).putB (fKlPstatShuttingDown k) (s = 8)).putB
    ⟨clkGood, 10 + k, 10 + k⟩ (s = 3 || s = 4 || s = 5 || s = 6 || s = 8)

theorem Device.portEnter_eq : d.portEnter k s = (d.portShown k s).when (s = 5 || s = 6 || s = 7) (fun d => d.irq 0x1C 0) := rfl

theorem klPstat_apart : klPstat k ≠ clkGood ∧ klPstat k ≠ irqStat 0x1C := by
  simp only [klPstat, clkGood, irqStat, wordAt]
  omega

theorem rd_portShown {a : Nat} (hp : a ≠ klPstat k) (hc : a ≠ clkGood) : (d.portShown k s).rd a = d.rd a := by
  rw [Device.portShown, Device.putB, Device.rd_put_ne _ _ _ _ hc, Device.putB, Device.rd_put_ne _ _ _ _ hp, Device.putB, Device.rd_put_ne _ _ _ _ hp,
    Device.rd_put_ne _ _ _ _ hp]

/-- PSTAT shows the state, whether the port is busy, and whether it drains; its other fields stay. -/
theorem get_portShown : (s < 16 → (d.portShown k s).portState k = s)
    ∧ (d.portShown k s).on (fKlPstatBusy k) = (decide (1 ≤ s) && decide (s ≤ 4))
    ∧ (d.portShown k s).on (fKlPstatShuttingDown k) = decide (s = 8)
    ∧ ∀ f : Fld, f.reg = klPstat k → (f = fKlPstatEnq k ∨ 7 < f.lo) → (d.portShown k s).get f = d.get f := by
  have hcg : ∀ (e : Device) (b : Bool) (f : Fld), f.reg = klPstat k → (e.putB ⟨clkGood, 10 + k, 10 + k⟩ b).get f = e.get f :=
    fun e b f hf => Device.get_put_ne _ _ _ _ (hf ▸ (klPstat_apart k).1)
  have hapart : ∀ (e : Device) (f g : Fld) (v : Nat), f.hi < 32 → f.lo ≤ f.hi → (g.hi < f.lo ∨ f.hi < g.lo) → (e.put f v).get g = e.get g :=
    fun e f g v h hlo hd => Device.get_put_apart e f g v h hlo hd
  refine ⟨fun hs => ?_, ?_, ?_, fun f hr hf => ?_⟩
  · rw [Device.portShown, Device.portState, hcg _ _ _ rfl, Device.putB, hapart _ _ _ _ (by simp [fKlPstatShuttingDown]) (by simp [fKlPstatShuttingDown])
      (by simp [fKlPstatShuttingDown, fKlPstatState]), Device.putB, hapart _ _ _ _ (by simp [fKlPstatBusy]) (by simp [fKlPstatBusy])
      (by simp [fKlPstatBusy, fKlPstatState]), Device.get_put_same _ _ _ (by simp [fKlPstatState]) (by simp [fKlPstatState])]
    simp [fKlPstatState]
    omega
  · rw [Device.on, Device.portShown, hcg _ _ _ rfl, Device.putB, hapart _ _ _ _ (by simp [fKlPstatShuttingDown]) (by simp [fKlPstatShuttingDown])
      (by simp [fKlPstatShuttingDown, fKlPstatBusy]), ← Device.on]
    exact Device.on_putB _ _ rfl (by simp [fKlPstatBusy])
  · rw [Device.on, Device.portShown, hcg _ _ _ rfl, ← Device.on]
    exact Device.on_putB _ _ rfl (by simp [fKlPstatShuttingDown])
  · have hout : 7 ≤ f.lo ∨ f.lo = 5 ∧ f.hi = 5 := by
      rcases hf with rfl | h
      · exact .inr ⟨rfl, rfl⟩
      · exact .inl (by omega)
    rw [Device.portShown, hcg _ _ _ hr, Device.putB, hapart _ _ _ _ (by simp [fKlPstatShuttingDown]) (by simp [fKlPstatShuttingDown])
      (by simp only [fKlPstatShuttingDown]; omega), Device.putB, hapart _ _ _ _ (by simp [fKlPstatBusy]) (by simp [fKlPstatBusy])
      (by simp only [fKlPstatBusy]; omega), hapart _ _ _ _ (by simp [fKlPstatState]) (by simp [fKlPstatState])
      (by simp only [fKlPstatState]; omega)]

/-- CLK.GOOD of the port's lane follows; the islands' bits stay. -/
theorem on_clkGood_portShown (hk : k < 5) : (d.portShown k s).on ⟨clkGood, 10 + k, 10 + k⟩ = (s = 3 || s = 4 || s = 5 || s = 6 || s = 8)
    ∧ (d.portShown k s).clockGood 1 = d.clockGood 1 := by
  refine ⟨Device.on_putB _ _ rfl (by dsimp only; omega), ?_⟩
  have hne : (⟨clkGood, 1, 1⟩ : Fld).reg ≠ klPstat k := (klPstat_apart k).1.symm
  rw [Device.clockGood, Device.on, Device.portShown, Device.putB,
    Device.get_put_apart _ _ _ _ (by dsimp only; omega) (Nat.le_refl _) (.inl (by dsimp only; omega)), Device.putB, Device.get_put_ne _ _ _ _ hne,
    Device.putB, Device.get_put_ne _ _ _ _ hne, Device.get_put_ne _ _ _ _ hne]
  rfl

/-- A port's state leaves page KLOIT live or not. -/
theorem pageLive_portShown (hk : k < 5) : (d.portShown k s).pageLive 0x1C = d.pageLive 0x1C := by
  have hrd : ∀ a, a / 1024 = 0x1C → a % 1024 < 0x40 → (d.portShown k s).rd a = d.rd a := fun a hp ho => by
    refine rd_portShown d k s ?_ ?_
    · simp only [klPstat]
      omega
    · simp only [clkGood]
      omega
  have hctrl : (d.portShown k s).rd (pageCtrl 0x1C) = d.rd (pageCtrl 0x1C) := hrd _ (by decide) (by decide)
  have hstat : (d.portShown k s).rd (pageStat 0x1C) = d.rd (pageStat 0x1C) := hrd _ (by decide) (by decide)
  have hisl : ∀ i, (d.portShown k s).island i = d.island i := fun i => rfl
  have hclk := (on_clkGood_portShown d k s hk).2
  have hpow : (d.portShown k s).pagePowered 0x1C = d.pagePowered 0x1C := by
    simp only [Device.pagePowered, on_of_rd (f := fPcPwrReq 0x1C) hctrl]
  have hclock : (d.portShown k s).pageClock 0x1C = d.pageClock 0x1C := by
    have hi : islandOf 0x1C = 1 := by decide
    simp only [Device.pageClock, hi, hclk, on_of_rd (f := fPcClkReq 0x1C) hctrl]
  simp only [Device.pageLive, Device.pageOff, hpow, hclock, Device.pageInReset, hisl, on_of_rd (f := fPcBlkRst 0x1C) hctrl,
    on_of_rd (f := fPsReleasePending 0x1C) hstat]

/-- A state that is neither live nor FAILED brings no event. -/
theorem portEnter_quiet (h : s ≠ 5 ∧ s ≠ 6 ∧ s ≠ 7) : d.portEnter k s = d.portShown k s := by
  rw [Device.portEnter_eq, show (decide (s = 5) || decide (s = 6) || decide (s = 7)) = false by simp [h]]
  rfl

theorem rd_portEnter_ne_irqStat {a : Nat} (ha : a ≠ irqStat 0x1C) : (d.portEnter k s).rd a = (d.portShown k s).rd a := by
  rw [Device.portEnter_eq]
  cases (decide (s = 5) || decide (s = 6) || decide (s = 7))
  · rfl
  · exact Device.rd_irq_ne _ _ _ _ ha

theorem rd_portEnter {a : Nat} (ha : a ∉ portRegs k) : (d.portEnter k s).rd a = d.rd a := by
  simp only [portRegs, List.mem_cons, List.not_mem_nil, or_false, not_or] at ha
  obtain ⟨hp, hc, hi⟩ := ha
  rw [rd_portEnter_ne_irqStat d k s hi, rd_portShown d k s hp hc]

/-- Entering a state changes registers alone. -/
theorem portEnter_same : d.portEnter k s = { d with regs := (d.portEnter k s).regs } := by
  rw [Device.portEnter_eq]
  cases (decide (s = 5) || decide (s = 6) || decide (s = 7))
  · rfl
  · rw [Device.when, if_pos rfl, Device.irq]
    split <;> rfl

theorem port_portEnter (m : Nat) : (d.portEnter k s).port m = d.port m := by
  rw [portEnter_same]
  rfl

theorem get_portEnter : (s < 16 → (d.portEnter k s).portState k = s)
    ∧ (d.portEnter k s).on (fKlPstatBusy k) = (decide (1 ≤ s) && decide (s ≤ 4))
    ∧ (d.portEnter k s).on (fKlPstatShuttingDown k) = decide (s = 8)
    ∧ ∀ f : Fld, f.reg = klPstat k → (f = fKlPstatEnq k ∨ 7 < f.lo) → (d.portEnter k s).get f = d.get f := by
  have hrd : ∀ f : Fld, f.reg = klPstat k → (d.portEnter k s).get f = (d.portShown k s).get f := fun f hf => by
    simp only [Device.get, hf, rd_portEnter_ne_irqStat d k s (klPstat_apart k).2]
  obtain ⟨hstate, hbusy, hshut, hrest⟩ := get_portShown d k s
  exact ⟨fun hs => (hrd _ rfl).trans (hstate hs), (on_of_get (hrd _ rfl)).trans hbusy, (on_of_get (hrd _ rfl)).trans hshut,
    fun f hr hf => (hrd f hr).trans (hrest f hr hf)⟩

/-- A port that enters UP, STANDBY or FAILED records PORT. -/
theorem raised_portEnter (hk : k < 5) (hs : s = 5 ∨ s = 6 ∨ s = 7) (hon : d.on ⟨irqEn 0x1C, 0, 0⟩ = true) (hl : d.pageLive 0x1C = true) :
    (d.portEnter k s).on ⟨irqStat 0x1C, 0, 0⟩ = true := by
  rw [Device.portEnter_eq, show (decide (s = 5) || decide (s = 6) || decide (s = 7)) = true by simpa [or_assoc] using hs]
  refine on_irq (by decide) ?_ ((pageLive_portShown d k s hk).trans hl)
  rw [on_of_rd (d := d) (rd_portShown d k s ?_ (by decide))]
  · exact hon
  · simp only [klPstat, irqEn, wordAt]
    omega

end

/-! #### Fields that settling leaves -/

/-- PCTRL, PSTAT and PCRED of the ports are out of settling's reach. -/
theorem settles_klPort {f : Fld} (hlo : klPctrl 0 ≤ f.reg) (hhi : f.reg < klPctrl 5) : f.settles = true :=
  settles_of (fun g hg hr => absurd (by rw [hr]; exact ⟨hlo, hhi⟩ : klPctrl 0 ≤ g.reg ∧ g.reg < klPctrl 5)
    ((by decide : ∀ g ∈ settleFields, ¬(klPctrl 0 ≤ g.reg ∧ g.reg < klPctrl 5)) g hg))

theorem get_klPort_settle {d : Device} (hd : d.NoRemote) {k : Nat} (hk : k < 5) {f : Fld} (hf : f.reg = klPstat k ∨ f.reg = klPcred k) :
    d.settle.get f = d.get f := by
  refine settle_get _ hd _ (settles_klPort ?_ ?_) <;> rcases hf with h | h <;> simp only [h, klPctrl, klPstat, klPcred] <;> omega

theorem portState_settle {d : Device} (hd : d.NoRemote) {k : Nat} (hk : k < 5) : d.settle.portState k = d.portState k :=
  get_klPort_settle hd hk (.inl rfl)

end Sys2Proof.Machine


namespace Sys2Proof.Machine

/-! ### Bring-up, retraining and drain of a port (R332 … R334, R66) -/

/-- A port as its blocks lock: fresh buffers on both sides, and the SEQ its link starts with. -/
def KlPortSt.locked (seq : Nat) (p : KlPortSt) : KlPortSt :=
  { ctl := p.ctl, retry := p.retry, txSeq := seq, credits := ⟨#[64, 64, 512, 64], rfl⟩ }

/-- The device with port `k`'s blocks locked, before the port's new state shows. -/
def Device.portLocked (d : Device) (k : Nat) : Device :=
  (d.takeFree.2.modPort k (KlPortSt.locked (d.takeFree.1.toNat % 256))).showCredits k

theorem klPcred_apart (k : Nat) : klPcred k ≠ klPstat k ∧ klPcred k ≠ clkGood := by
  simp only [klPcred, klPstat, clkGood]
  omega

section
variable (d : Device) (k : Nat)

theorem rd_showCredits {a : Nat} (ha : a ≠ klPcred k) : (d.showCredits k).rd a = d.rd a := by
  rw [Device.showCredits, Device.rd_put_ne _ _ _ _ ha, Device.rd_put_ne _ _ _ _ ha]

theorem get_c2_showCredits : (d.showCredits k).get (fKlPcredC2 k) = (d.port k).credits.getD 2 0 % 1024 := by
  rw [Device.showCredits, Device.get_put_apart _ _ _ _ (by simp [fKlPcredReplay]) (by simp [fKlPcredReplay]) (by simp [fKlPcredReplay, fKlPcredC2]),
    Device.get_put_same _ _ _ (by simp [fKlPcredC2]) (by simp [fKlPcredC2])]
  simp [fKlPcredC2]

theorem portState_showCredits (m : Nat) : (d.showCredits k).portState m = d.portState m := by
  have hne : klPstat m ≠ klPcred k := by
    simp only [klPstat, klPcred]
    omega
  simp only [Device.portState, Device.get, fKlPstatState, rd_showCredits d k hne]

end

/-- What a port keeps when its link ends. -/
def KlPortSt.cleared (p : KlPortSt) : KlPortSt := { ctl := p.ctl, retry := p.retry }

/-- The port in OFF, a queued re-enable not yet followed. -/
def Device.portDrained (d : Device) (k : Nat) : Device := (d.linkClear k).portShown k 0

section
variable (d : Device) (k : Nat)

theorem rd_linkClear {a : Nat} (ha : a ≠ klPcred k) : (d.linkClear k).rd a = d.rd a := rd_showCredits _ k ha

theorem get_pstat_linkClear {f : Fld} (hf : ∃ m, f.reg = klPstat m) : (d.linkClear k).get f = d.get f := by
  obtain ⟨m, hm⟩ := hf
  have hne : klPstat m ≠ klPcred k := by
    simp only [klPstat, klPcred]
    omega
  simp only [Device.get, hm, rd_linkClear d k hne]

theorem portState_linkClear (m : Nat) : (d.linkClear k).portState m = d.portState m := get_pstat_linkClear d k ⟨m, rfl⟩

theorem port_linkClear (hk : k < 5) : (d.linkClear k).port k = (d.port k).cleared := Device.port_modPort_self d k KlPortSt.cleared hk

theorem port_portShown (st m : Nat) : (d.portShown k st).port m = d.port m := rfl

theorem portDrained_page : (d.portDrained k).portState k = 0 ∧ (d.portDrained k).on (fKlPstatShuttingDown k) = false
    ∧ (d.portDrained k).on (fKlPstatEnq k) = d.on (fKlPstatEnq k) := by
  obtain ⟨hstate, -, hshut, hrest⟩ := get_portShown (d.linkClear k) k 0
  refine ⟨hstate (by decide), hshut, ?_⟩
  exact on_of_get ((hrest _ rfl (.inl rfl)).trans (get_pstat_linkClear d k ⟨k, rfl⟩))

end

section
variable {s : State} (hn : s.dev.NoRemote) (k : Fin 5)
include hn

/-- A signal is found. -/
theorem klSignalDetect_completes (hst : s.dev.portState k.val = 1) :
    Completes (.klSignalDetect k) s (fun e => e.portState k.val = 2
      ∧ e.on (fKlPstatBusy k.val) = true
      ∧ Device.OnlyRegs [klPstat k.val, clkGood] s.dev e) := by
  refine completes_act (klSignalDetect k.val) rfl ?_
  have hn' : (klSignalDetect k.val s.dev).NoRemote := klSignalDetect_closed noRemote_closed hn
  have heq : klSignalDetect k.val s.dev = s.dev.portShown k.val 2 := by
    rw [klSignalDetect, if_pos hst, portGo_plain (by rw [hst]; rfl), portEnter_quiet _ _ _ (by decide)]
  rw [heq] at hn' ⊢
  obtain ⟨hstate, hbusy, -, -⟩ := get_portShown s.dev k.val 2
  refine ⟨(portState_settle hn' k.isLt).trans (hstate (by decide)), (on_of_get (get_klPort_settle hn' k.isLt (.inl rfl))).trans hbusy,
    onlyRegs_settle hn' (fun a ha => ?_) rfl rfl⟩
  simp only [List.mem_cons, List.not_mem_nil, or_false, not_or] at ha
  exact rd_portShown _ _ _ ha.1 ha.2

/-- The blocks lock. -/
theorem klBlockLock_completes (hst : s.dev.portState k.val = 2) :
    Completes (.klBlockLock k) s (fun e => e.portState k.val = 3
      ∧ e.on ⟨clkGood, 10 + k.val, 10 + k.val⟩ = true
      ∧ (e.port k.val).credits.toList = [64, 64, 512, 64]
      ∧ (e.port k.val).replay = []
      ∧ (e.port k.val).trains = 0
      ∧ e.get (fKlPcredC2 k.val) = 512
      ∧ Device.OnlyRegs [klPstat k.val, clkGood, klPcred k.val] s.dev e) := by
  refine completes_act (klBlockLock k.val) rfl ?_
  have hn' : (klBlockLock k.val s.dev).NoRemote := klBlockLock_closed noRemote_closed hn
  have hold : (s.dev.portLocked k.val).portState k.val = 2 := (portState_showCredits _ _ _).trans hst
  have heq : klBlockLock k.val s.dev = (s.dev.portLocked k.val).portShown k.val 3 := by
    rw [klBlockLock, if_neg (by simp [hst])]
    exact (portGo_plain (d := s.dev.portLocked k.val) (by rw [hold]; rfl)).trans (portEnter_quiet _ _ _ (by decide))
  rw [heq] at hn' ⊢
  obtain ⟨hstate, -, -, -⟩ := get_portShown (s.dev.portLocked k.val) k.val 3
  have hport : ((s.dev.portLocked k.val).portShown k.val 3).settle.port k.val
      = KlPortSt.locked (s.dev.takeFree.1.toNat % 256) (s.dev.port k.val) :=
    (Device.port_settle _ hn' _).trans (Device.port_modPort_self s.dev.takeFree.2 _ _ k.isLt)
  have hclk : (⟨clkGood, 10 + k.val, 10 + k.val⟩ : Fld).settles = true := by
    refine settles_of (fun g hg hr => .inr ?_)
    have := (by decide : ∀ g ∈ settleFields, g.reg = clkGood → g.hi < 10) g hg hr
    dsimp only
    omega
  refine ⟨(portState_settle hn' k.isLt).trans (hstate (by decide)), ?_, ?_, ?_, ?_, ?_, onlyRegs_settle hn' (fun a ha => ?_) rfl rfl⟩
  · rw [settle_on _ hn' _ hclk, (on_clkGood_portShown _ _ _ k.isLt).1]
    rfl
  · rw [hport]
    rfl
  · rw [hport]
    rfl
  · rw [hport]
    rfl
  · have hc2 : ((s.dev.portLocked k.val).portShown k.val 3).get (fKlPcredC2 k.val) = (s.dev.portLocked k.val).get (fKlPcredC2 k.val) := by
      simp only [Device.get, rd_portShown (s.dev.portLocked k.val) k.val 3 (a := (fKlPcredC2 k.val).reg) (klPcred_apart _).1 (klPcred_apart _).2]
    rw [get_klPort_settle hn' k.isLt (.inr rfl), hc2, Device.portLocked, get_c2_showCredits, Device.port_modPort_self _ _ _ k.isLt]
    rfl
  · simp only [List.mem_cons, List.not_mem_nil, or_false, not_or] at ha
    obtain ⟨hp, hc, hcred⟩ := ha
    rw [rd_portShown _ _ _ hp hc, Device.portLocked, rd_showCredits _ _ hcred]
    rfl

/-- FAILED is left for another training while EN is 1. -/
theorem klRetrainTimer_completes (hst : s.dev.portState k.val = 7) (hen : s.dev.on (fKlPctrlEn k.val) = true) :
    Completes (.klRetrainTimer k) s (fun e => e.portState k.val = 1
      ∧ (e.port k.val).retry = true
      ∧ Device.OnlyRegs [klPstat k.val, clkGood] s.dev e) := by
  refine completes_act (klRetrainTimer k.val) rfl ?_
  have hn' : (klRetrainTimer k.val s.dev).NoRemote := klRetrainTimer_closed noRemote_closed hn
  have hold : (s.dev.modPort k.val (fun (p : KlPortSt) => { p with retry := true })).portState k.val = 7 := hst
  have heq : klRetrainTimer k.val s.dev = (s.dev.modPort k.val (fun (p : KlPortSt) => { p with retry := true })).portShown k.val 1 := by
    rw [klRetrainTimer, if_pos (by simp [hst, hen]), portGo_plain (by rw [hold]; rfl), portEnter_quiet _ _ _ (by decide)]
  rw [heq] at hn' ⊢
  obtain ⟨hstate, -, -, -⟩ := get_portShown (s.dev.modPort k.val (fun (p : KlPortSt) => { p with retry := true })) k.val 1
  refine ⟨(portState_settle hn' k.isLt).trans (hstate (by decide)), ?_, onlyRegs_settle hn' (fun a ha => ?_) rfl rfl⟩
  · rw [Device.port_settle _ hn']
    show ((s.dev.modPort k.val (fun (p : KlPortSt) => { p with retry := true })).port k.val).retry = true
    rw [Device.port_modPort_self _ _ _ k.isLt]
  · simp only [List.mem_cons, List.not_mem_nil, or_false, not_or] at ha
    exact rd_portShown _ _ _ ha.1 ha.2

/-- A drained port is OFF, or trains again where its enable was queued. -/
theorem klDrainEnd_completes (hst : s.dev.portState k.val = 8) :
    Completes (.klDrainEnd k) s (fun e => e.portState k.val = (if s.dev.on (fKlPstatEnq k.val) then 1 else 0)
      ∧ e.on (fKlPstatEnq k.val) = false
      ∧ e.on (fKlPstatShuttingDown k.val) = false
      ∧ (e.port k.val).replay = []
      ∧ Device.OnlyRegs [klPstat k.val, clkGood, klPcred k.val] s.dev e) := by
  refine completes_act (klDrainEnd k.val) rfl ?_
  have hn' : (klDrainEnd k.val s.dev).NoRemote := klDrainEnd_closed noRemote_closed hn
  obtain ⟨hoff, hshut, henq⟩ := portDrained_page s.dev k.val
  have hgo : (s.dev.linkClear k.val).portGo k.val 0 = s.dev.portDrained k.val :=
    (portGo_plain (by rw [portState_linkClear, hst]; rfl)).trans (portEnter_quiet _ _ _ (by decide))
  have heq : klDrainEnd k.val s.dev = if s.dev.on (fKlPstatEnq k.val) then ((s.dev.portDrained k.val).put (fKlPstatEnq k.val) 0).portShown k.val 1
      else s.dev.portDrained k.val := by
    have hold : ((s.dev.portDrained k.val).put (fKlPstatEnq k.val) 0).portState k.val = 0 :=
      (Device.get_put_apart _ _ _ _ (by simp [fKlPstatEnq]) (by simp [fKlPstatEnq]) (by simp [fKlPstatEnq, fKlPstatState])).trans hoff
    rw [klDrainEnd, if_neg (by simp [hst])]
    dsimp only
    rw [hgo, henq, Device.portStart, portGo_plain (by rw [hold]; rfl), portEnter_quiet _ _ _ (by decide)]
  have hrd : ∀ a, a ∉ [klPstat k.val, clkGood, klPcred k.val] → (klDrainEnd k.val s.dev).rd a = s.dev.rd a := fun a ha => by
    simp only [List.mem_cons, List.not_mem_nil, or_false, not_or] at ha
    obtain ⟨hp, hc, hcred⟩ := ha
    have hdrained : (s.dev.portDrained k.val).rd a = s.dev.rd a := (rd_portShown _ _ _ hp hc).trans (rd_linkClear _ _ hcred)
    rw [heq]
    split
    · rw [rd_portShown _ _ _ hp hc, Device.rd_put_ne _ _ _ _ hp, hdrained]
    · exact hdrained
  have hport : (klDrainEnd k.val s.dev).port k.val = (s.dev.port k.val).cleared := by
    rw [heq]
    split
    · rw [port_portShown, Device.port_put, Device.portDrained, port_portShown, port_linkClear _ _ k.isLt]
    · rw [Device.portDrained, port_portShown, port_linkClear _ _ k.isLt]
  have hpage : (klDrainEnd k.val s.dev).portState k.val = (if s.dev.on (fKlPstatEnq k.val) then 1 else 0)
      ∧ (klDrainEnd k.val s.dev).on (fKlPstatEnq k.val) = false ∧ (klDrainEnd k.val s.dev).on (fKlPstatShuttingDown k.val) = false := by
    rw [heq]
    split
    · obtain ⟨hstate, -, hshut', hrest⟩ := get_portShown ((s.dev.portDrained k.val).put (fKlPstatEnq k.val) 0) k.val 1
      refine ⟨hstate (by decide), ?_, hshut'⟩
      rw [Device.on, hrest _ rfl (.inl rfl), Device.get_put_same _ _ _ (by simp [fKlPstatEnq]) (by simp [fKlPstatEnq])]
      simp
    · next h => exact ⟨hoff, by simpa [henq] using h, hshut⟩
  obtain ⟨hstate, hqueued, hdown⟩ := hpage
  refine ⟨(portState_settle hn' k.isLt).trans hstate, (on_of_get (get_klPort_settle hn' k.isLt (.inl rfl))).trans hqueued,
    (on_of_get (get_klPort_settle hn' k.isLt (.inl rfl))).trans hdown, ?_, onlyRegs_settle hn' hrd ?_ ?_⟩
  · rw [Device.port_settle _ hn', hport]
    rfl
  · rw [heq]
    split <;> simp [Device.portDrained, Device.portShown, Device.linkClear, Device.showCredits]
  · rw [heq]
    split <;> simp [Device.portDrained, Device.portShown, Device.linkClear, Device.showCredits]

end

end Sys2Proof.Machine


namespace Sys2Proof.Machine

/-! ### TRAIN frames (R322, R323, R333, R339) -/

/-- PSTAT shows the partner that a TRAIN frame names. -/
def Device.partnerShown (d : Device) (k : Nat) (t : KlTrain) : Device :=
  (((d.put (fKlPstatPartner k) t.number.toNat).putB (fKlPstatPartnerNumbered k) (decide (t.number.toNat < 2048))).put (fKlPstatPartnerPort k)
    t.port.val).put (fKlPstatPartnerLink k) t.link.toNat

section
variable (d : Device) (k : Nat) (t : KlTrain)

theorem rd_partnerShown {a : Nat} (ha : a ≠ klPstat k) : (d.partnerShown k t).rd a = d.rd a := by
  rw [Device.partnerShown, Device.rd_put_ne _ _ _ _ ha, Device.rd_put_ne _ _ _ _ ha, Device.putB, Device.rd_put_ne _ _ _ _ ha,
    Device.rd_put_ne _ _ _ _ ha]

/-- The partner's fields stand above the port's own. -/
theorem get_partnerShown_own {f : Fld} (hf : f.hi < 8) : (d.partnerShown k t).get f = d.get f := by
  rw [Device.partnerShown, Device.get_put_apart _ _ _ _ (by simp [fKlPstatPartnerLink]) (by simp [fKlPstatPartnerLink])
      (.inl (by simp only [fKlPstatPartnerLink]; omega)),
    Device.get_put_apart _ _ _ _ (by simp [fKlPstatPartnerPort]) (by simp [fKlPstatPartnerPort])
      (.inl (by simp only [fKlPstatPartnerPort]; omega)),
    Device.putB, Device.get_put_apart _ _ _ _ (by simp [fKlPstatPartnerNumbered]) (by simp [fKlPstatPartnerNumbered])
      (.inl (by simp only [fKlPstatPartnerNumbered]; omega)),
    Device.get_put_apart _ _ _ _ (by simp [fKlPstatPartner]) (by simp [fKlPstatPartner])
      (.inl (by simp only [fKlPstatPartner]; omega))]

theorem portState_partnerShown (m : Nat) : (d.partnerShown k t).portState m = d.portState m := get_partnerShown_own d k t (by simp [fKlPstatState])

/-- The partner as it named itself. -/
theorem get_partnerShown : (d.partnerShown k t).get (fKlPstatPartner k) = t.number.toNat % 2048
    ∧ (d.partnerShown k t).on (fKlPstatPartnerNumbered k) = decide (t.number.toNat < 2048)
    ∧ (d.partnerShown k t).get (fKlPstatPartnerPort k) = t.port.val
    ∧ (d.partnerShown k t).get (fKlPstatPartnerLink k) = t.link.toNat := by
  have hlink : ∀ (e : Device) (v : Nat) (g : Fld), g.hi < 24 → (e.put (fKlPstatPartnerLink k) v).get g = e.get g := fun e v g hg =>
    Device.get_put_apart _ _ _ _ (by simp [fKlPstatPartnerLink]) (by simp [fKlPstatPartnerLink]) (.inl hg)
  have hport : ∀ (e : Device) (v : Nat) (g : Fld), g.hi < 20 → (e.put (fKlPstatPartnerPort k) v).get g = e.get g := fun e v g hg =>
    Device.get_put_apart _ _ _ _ (by simp [fKlPstatPartnerPort]) (by simp [fKlPstatPartnerPort]) (.inl hg)
  refine ⟨?_, ?_, ?_, ?_⟩
  · rw [Device.partnerShown, hlink _ _ _ (by simp [fKlPstatPartner]), hport _ _ _ (by simp [fKlPstatPartner]), Device.putB,
      Device.get_put_apart _ _ _ _ (by simp [fKlPstatPartnerNumbered]) (by simp [fKlPstatPartnerNumbered]) (by simp [fKlPstatPartnerNumbered, fKlPstatPartner]),
      Device.get_put_same _ _ _ (by simp [fKlPstatPartner]) (by simp [fKlPstatPartner])]
    simp [fKlPstatPartner]
  · rw [Device.on, Device.partnerShown, hlink _ _ _ (by simp [fKlPstatPartnerNumbered]), hport _ _ _ (by simp [fKlPstatPartnerNumbered]), ← Device.on]
    exact Device.on_putB _ _ rfl (by simp [fKlPstatPartnerNumbered])
  · rw [Device.partnerShown, hlink _ _ _ (by simp [fKlPstatPartnerPort]),
      Device.get_put_same _ _ _ (by simp [fKlPstatPartnerPort]) (by simp [fKlPstatPartnerPort])]
    have := t.port.isLt
    simp only [fKlPstatPartnerPort]
    omega
  · rw [Device.partnerShown, Device.get_put_same _ _ _ (by simp [fKlPstatPartnerLink]) (by simp [fKlPstatPartnerLink])]
    have := t.link.isLt
    simp only [fKlPstatPartnerLink]
    omega

theorem pairingOk_partnerShown : (d.partnerShown k t).pairingOk k t = d.pairingOk k t := by
  have hne : sysIdentHi ≠ klPstat k ∧ sysIdentLo ≠ klPstat k := by
    simp only [sysIdentHi, sysIdentLo, klPstat]
    omega
  simp only [Device.pairingOk, rd_partnerShown d k t hne.1, rd_partnerShown d k t hne.2]

theorem klStat_ne_klPstat (m : Nat) : klStat ≠ klPstat m := by
  simp only [klStat, klPstat]
  omega

/-- The up-port in use depends on the role and on the ports' states. -/
theorem upPort_congr {d e : Device} (hrole : e.klRole = d.klRole) (hstate : ∀ m, m < 2 → (e.portState m = 5 ↔ d.portState m = 5)) :
    e.upPort = d.upPort := by
  have h0 : e.portUp 0 = d.portUp 0 := by simp [Device.portUp, hstate 0 (by decide)]
  have h1 : e.portUp 1 = d.portUp 1 := by simp [Device.portUp, hstate 1 (by decide)]
  have hfind : [0, 1].find? e.portUp = [0, 1].find? d.portUp := by simp only [List.find?_cons, h0, h1, List.find?_nil]
  have hmember : e.klMember = d.klMember := by simp only [Device.klMember, hrole]
  simp only [Device.upPort, hmember, hfind]

theorem port_partnerShown (m : Nat) : (d.partnerShown k t).port m = d.port m := by simp [Device.partnerShown]

omit t in
theorem upPort_modPort (f : KlPortSt → KlPortSt) : (d.modPort k f).upPort = d.upPort := rfl

theorem upPort_partnerShown : (d.partnerShown k t).upPort = d.upPort :=
  upPort_congr (by simp only [Device.klRole, Device.get, fKlStatRole, rd_partnerShown d k t (klStat_ne_klPstat k)])
    (fun m _ => by rw [portState_partnerShown])

/-- One more valid TRAIN frame. -/
def KlPortSt.trained (p : KlPortSt) : KlPortSt := { p with trains := p.trains + 1 }

/-- The first up-port from MEASURE on gives SYNTH_S its reference (R339). -/
def Device.refTaken (d : Device) (k : Nat) : Device :=
  d.when (k < 2 && d.upPort.isNone && !d.on fSynStatSRef) (fun d => (d.put fSynStatSRef 1).showRatio)

omit k t in
/-- RATIO follows the reference: its word and a free value for the rounding change. -/
theorem showRatio_moves : (∀ a, a ≠ synRatio → d.showRatio.rd a = d.rd a) ∧ d.showRatio.sram = d.sram ∧ d.showRatio.opt = d.opt := by
  unfold Device.showRatio
  generalize (if d.on fSynStatSRef then 156250 else [10000, 19200, 40000, 100000].getD (d.get fClkRefRefSel) 10000) = khz
  have hfree : (d.divOpen (3072000 * 2 ^ 20) khz).2 = { d with free := (d.divOpen (3072000 * 2 ^ 20) khz).2.free } := freeOnly_divOpen d _ khz
  refine ⟨fun a ha => ?_, ?_, ?_⟩
  · rw [Device.rd_wr, if_neg ha, hfree]
    rfl
  · rw [Device.wr_sram, hfree]
  · rw [Device.wr_opt, hfree]

omit t in
theorem refTaken_moves : (∀ a, a ≠ synStat → a ≠ synRatio → (d.refTaken k).rd a = d.rd a) ∧ (d.refTaken k).sram = d.sram
    ∧ (d.refTaken k).opt = d.opt ∧ (k < 2 → d.upPort = none → (d.refTaken k).on fSynStatSRef = true) := by
  obtain ⟨hrd, hsram, hopt⟩ := showRatio_moves (d.put fSynStatSRef 1)
  rw [Device.refTaken, Device.when]
  split
  · refine ⟨fun a hs hr => (hrd a hr).trans (Device.rd_put_ne _ _ _ _ hs), hsram, hopt, fun _ _ => ?_⟩
    rw [on_of_rd (hrd synStat (by decide)), Device.on, Device.get_put_same _ _ _ (by decide) (by decide)]
    decide
  · next h =>
    refine ⟨fun _ _ _ => rfl, rfl, rfl, fun hk hup => ?_⟩
    simpa [hk, hup] using h

variable {d k t}

theorem klTrainFrame_valid (hst : d.portState k = 3) (hpair : d.pairingOk k t = true)
    (hdepth : ¬(2 ≤ k ∧ t.port.val = 0 ∧ 8 ≤ d.get fKlStatDepth)) :
    klTrainFrame k t d = if (((d.partnerShown k t).modPort k KlPortSt.trained).port k).trains < 3 then (d.partnerShown k t).modPort k KlPortSt.trained
      else (((d.partnerShown k t).modPort k KlPortSt.trained).refTaken k).portGo k 4 := by
  have hdepth' : ¬(2 ≤ k ∧ t.port.val = 0 ∧ 8 ≤ (d.partnerShown k t).get fKlStatDepth) := by
    rwa [show (d.partnerShown k t).get fKlStatDepth = d.get fKlStatDepth by
      simp only [Device.get, fKlStatDepth, rd_partnerShown d k t (klStat_ne_klPstat k)]]
  rw [klTrainFrame, if_neg (by simp [hst])]
  refine (if_neg ?_).trans ((if_neg hdepth').trans rfl)
  rw [Bool.not_eq_true', Bool.not_eq_false]
  exact (pairingOk_partnerShown d k t).trans hpair

theorem klTrainFrame_bad (hst : d.portState k = 3) (hpair : d.pairingOk k t = false) :
    klTrainFrame k t d = ((d.partnerShown k t).portStop k 7).klEvent 12 k t.number.toNat 0 := by
  rw [klTrainFrame, if_neg (by simp [hst])]
  refine if_pos ?_
  rw [Bool.not_eq_true']
  exact (pairingOk_partnerShown d k t).trans hpair

end

section
variable {s : State} (hn : s.dev.NoRemote) (k : Fin 5) (t : KlTrain)
include hn

/-- A TRAIN frame before the third. -/
theorem klTrainFrame_counts (hst : s.dev.portState k.val = 3) (hpair : s.dev.pairingOk k.val t = true)
    (hdepth : ¬(2 ≤ k.val ∧ t.port.val = 0 ∧ 8 ≤ s.dev.get fKlStatDepth)) (htr : (s.dev.port k.val).trains < 2) :
    Completes (.klTrainFrame k t) s (fun e => e.portState k.val = 3
      ∧ (e.port k.val).trains = (s.dev.port k.val).trains + 1
      ∧ e.get (fKlPstatPartner k.val) = t.number.toNat % 2048
      ∧ e.on (fKlPstatPartnerNumbered k.val) = decide (t.number.toNat < 2048)
      ∧ e.get (fKlPstatPartnerPort k.val) = t.port.val
      ∧ e.get (fKlPstatPartnerLink k.val) = t.link.toNat
      ∧ Device.OnlyRegs [klPstat k.val] s.dev e) := by
  refine completes_act (klTrainFrame k.val t) rfl ?_
  have hn' : (klTrainFrame k.val t s.dev).NoRemote := klTrainFrame_closed noRemote_closed hn
  have hport : ((s.dev.partnerShown k.val t).modPort k.val KlPortSt.trained).port k.val = (s.dev.port k.val).trained := by
    rw [Device.port_modPort_self _ _ _ k.isLt, port_partnerShown]
  have hless : (((s.dev.partnerShown k.val t).modPort k.val KlPortSt.trained).port k.val).trains < 3 := by
    rw [hport]
    exact Nat.succ_lt_succ htr
  rw [klTrainFrame_valid hst hpair hdepth, if_pos hless] at hn' ⊢
  obtain ⟨hnum, hnumbered, hpp, hlink⟩ := get_partnerShown s.dev k.val t
  have hget : ∀ f : Fld, f.reg = klPstat k.val → ((s.dev.partnerShown k.val t).modPort k.val KlPortSt.trained).settle.get f
      = (s.dev.partnerShown k.val t).get f := fun f hf => by
    rw [get_klPort_settle hn' k.isLt (.inl hf), Device.get_modPort]
  refine ⟨(hget _ rfl).trans ((portState_partnerShown _ _ _ _).trans hst), ?_, (hget _ rfl).trans hnum, (on_of_get (hget _ rfl)).trans hnumbered,
    (hget _ rfl).trans hpp, (hget _ rfl).trans hlink, onlyRegs_settle hn' (fun a ha => ?_) ?_ ?_⟩
  · rw [Device.port_settle _ hn', hport]
    rfl
  · rw [Device.rd_modPort]
    exact rd_partnerShown _ _ _ (by simpa using ha)
  · simp [Device.partnerShown]
  · simp [Device.partnerShown]

/-- The third TRAIN frame takes the port to MEASURE. -/
theorem klTrainFrame_third (hst : s.dev.portState k.val = 3) (hpair : s.dev.pairingOk k.val t = true)
    (hdepth : ¬(2 ≤ k.val ∧ t.port.val = 0 ∧ 8 ≤ s.dev.get fKlStatDepth)) (htr : 2 ≤ (s.dev.port k.val).trains) :
    Completes (.klTrainFrame k t) s (fun e => e.portState k.val = 4
      ∧ e.get (fKlPstatPartner k.val) = t.number.toNat % 2048
      ∧ (k.val < 2 → s.dev.upPort = none → e.on fSynStatSRef = true)
      ∧ Device.OnlyRegs [klPstat k.val, clkGood, synStat, synRatio] s.dev e) := by
  refine completes_act (klTrainFrame k.val t) rfl ?_
  have hn' : (klTrainFrame k.val t s.dev).NoRemote := klTrainFrame_closed noRemote_closed hn
  have hmore : ¬(((s.dev.partnerShown k.val t).modPort k.val KlPortSt.trained).port k.val).trains < 3 := by
    rw [Device.port_modPort_self _ _ _ k.isLt, port_partnerShown]
    exact Nat.not_lt.2 (Nat.succ_le_succ htr)
  rw [klTrainFrame_valid hst hpair hdepth, if_neg hmore] at hn' ⊢
  obtain ⟨hnum, -, -, -⟩ := get_partnerShown s.dev k.val t
  obtain ⟨hrd, hsram, hopt, href⟩ := refTaken_moves ((s.dev.partnerShown k.val t).modPort k.val KlPortSt.trained) k.val
  have hsyn : klPstat k.val ≠ synStat ∧ klPstat k.val ≠ synRatio := by
    simp only [klPstat, synStat, synRatio]
    omega
  generalize he : ((s.dev.partnerShown k.val t).modPort k.val KlPortSt.trained).refTaken k.val = e at hn' hrd hsram hopt href ⊢
  have hpstat : ∀ f : Fld, f.reg = klPstat k.val → e.get f = (s.dev.partnerShown k.val t).get f := fun f hf => by
    simp only [Device.get, hf, hrd _ hsyn.1 hsyn.2, Device.rd_modPort]
  have hold : e.portState k.val = 3 := (hpstat _ rfl).trans ((portState_partnerShown _ _ _ _).trans hst)
  rw [portGo_plain (by rw [hold]; rfl), portEnter_quiet _ _ _ (by decide)] at hn' ⊢
  obtain ⟨hstate, -, -, hrest⟩ := get_portShown e k.val 4
  refine ⟨(portState_settle hn' k.isLt).trans (hstate (by decide)), ?_, fun hk hup => ?_, onlyRegs_settle hn' (fun a ha => ?_) ?_ ?_⟩
  · rw [get_klPort_settle hn' k.isLt (.inl rfl), hrest _ rfl (.inr (by simp [fKlPstatPartner])), hpstat _ rfl, hnum]
  · have hne : synStat ≠ klPstat k.val := hsyn.1.symm
    rw [settle_on _ hn' _ (by decide), on_of_rd (rd_portShown e k.val 4 hne (by decide))]
    exact href hk (by rw [upPort_modPort, upPort_partnerShown, hup])
  · simp only [List.mem_cons, List.not_mem_nil, or_false, not_or] at ha
    obtain ⟨hp, hc, hs, hr⟩ := ha
    rw [rd_portShown _ _ _ hp hc, hrd a hs hr, Device.rd_modPort, rd_partnerShown _ _ _ hp]
  · simpa [Device.portShown, Device.partnerShown] using hsram
  · simpa [Device.portShown, Device.partnerShown] using hopt

end

end Sys2Proof.Machine


namespace Sys2Proof.Machine

/-! ### Ports that stop (R334, R336) -/

theorem not_mem_klWorkRegs {a : Nat} (h : a = klStat ∨ a = irqStat 0x1C ∨ a = tideCountHi ∨ a = tideCountLo) : a ∉ klWorkRegs := by
  rcases h with rfl | rfl | rfl | rfl <;> decide

section
variable {d : Device} {k s : Nat}

/-- A port that is not UP and neither enters nor leaves STANDBY stops without another taking over. -/
theorem portStop_plain (hup : d.portState k ≠ 5) (h : klLive (d.portState k) = klLive s) :
    d.portStop k s = ((d.linkClear k).portEnter k s).censusCheck.showAlt := by
  have hused : d.upPort ≠ some k := fun hk => hup (by simpa [Device.portUp] using (lt_of_upPort hk).2)
  rw [Device.portStop, portGo_plain (by rw [portState_linkClear, h])]
  simp only [hused, decide_false]
  rfl

/-- The end of a link leaves page KLOIT live or not. -/
theorem pageLive_linkClear : (d.linkClear k).pageLive 0x1C = d.pageLive 0x1C := by
  have hrd : ∀ a, a < klPctrl 0 → (d.linkClear k).rd a = d.rd a := fun a ha => by
    refine rd_linkClear d k ?_
    simp only [klPctrl, klPcred] at *
    omega
  exact pageLive_congr (hrd _ (by decide)) (on_of_rd (hrd _ (by decide))) (hrd _ (by decide)) rfl

theorem pageLive_partnerShown {t : KlTrain} : (d.partnerShown k t).pageLive 0x1C = d.pageLive 0x1C := by
  have hrd : ∀ a, a < klPctrl 0 → (d.partnerShown k t).rd a = d.rd a := fun a ha => by
    refine rd_partnerShown d k t ?_
    simp only [klPctrl, klPstat] at *
    omega
  exact pageLive_congr (hrd _ (by decide)) (on_of_rd (hrd _ (by decide))) (hrd _ (by decide)) rfl

/-- What the port itself is left with, whatever frames then go out. -/
theorem portFailed_leaves (hk : k < 5) {e : Device} (h : KlWorks ((d.linkClear k).portEnter k 7) e) : e.portState k = 7
    ∧ (e.port k).replay = [] ∧ (e.port k).trains = 0 ∧ (e.port k).retry = (d.port k).retry := by
  obtain ⟨hstate, -, -, -⟩ := get_portEnter (d.linkClear k) k 7
  have hfailed := hstate (by decide)
  have hidle : ¬((d.linkClear k).portEnter k 7).carries k := by simp [Device.carries, hfailed]
  have hport : ((d.linkClear k).portEnter k 7).port k = (d.port k).cleared := by rw [port_portEnter, port_linkClear d k hk]
  refine ⟨(h.portState k).trans hfailed, ?_, ?_, ?_⟩
  · rw [h.idle k hidle, hport]
    rfl
  · rw [(h.train k).1, hport]
    rfl
  · rw [(h.train k).2, hport]
    rfl

/-- PORT is recorded as the port fails. -/
theorem portFailed_raised (hk : k < 5) {e : Device} (h : KlWorks ((d.linkClear k).portEnter k 7) e) (hon : d.on ⟨irqEn 0x1C, 0, 0⟩ = true)
    (hl : d.pageLive 0x1C = true) : e.on ⟨irqStat 0x1C, 0, 0⟩ = true := by
  rw [on_of_rd (h.regs _ (not_mem_klWorkRegs (.inr (.inl rfl))))]
  refine raised_portEnter _ _ _ hk (.inr (.inr rfl)) ?_ (pageLive_linkClear.trans hl)
  rw [on_of_rd (d := d) (rd_linkClear d k ?_), hon]
  simp only [irqEn, klPcred, wordAt]
  omega

end

section
variable (d : Device) (k s : Nat)

/-- The harbourmaster keeps each event of its own (R347). -/
theorem klEvent_accepted (x other detail : Nat) (h : d.klRole = 1) :
    (d.klEvent x k other detail).kl.accepted.length = d.kl.accepted.length + 1 := by
  unfold Device.klEvent
  rw [if_pos (by simp [Device.klMaster, h])]
  simp [Device.modKl]

theorem censusCheck_master (h : d.klRole = 1) : d.censusCheck = d := by
  unfold Device.censusCheck
  rw [if_neg (by simp [Device.klMember, h])]

theorem klRole_portEnter : ((d.linkClear k).portEnter k s).klRole = d.klRole := by
  have hport : klStat ∉ portRegs k := by
    simp only [portRegs, List.mem_cons, List.not_mem_nil, or_false, not_or, klStat, klPstat, clkGood, irqStat, wordAt]
    omega
  have hclear : klStat ≠ klPcred k := by
    simp only [klStat, klPcred]
    omega
  simp only [Device.klRole, Device.get, fKlStatRole, rd_portEnter _ k s hport, rd_linkClear d k hclear]

theorem kl_portEnter : (d.portEnter k s).kl = d.kl := by rw [portEnter_same]

theorem accepted_linkClear : (d.linkClear k).kl.accepted = d.kl.accepted := rfl

end

section
variable {s : State} (hn : s.dev.NoRemote) (k : Fin 5)
include hn

/-- A bad pairing fails the port (R322). -/
theorem klTrainFrame_bad_completes (t : KlTrain) (hst : s.dev.portState k.val = 3) (hpair : s.dev.pairingOk k.val t = false) :
    Completes (.klTrainFrame k t) s (fun e => e.portState k.val = 7
      ∧ (e.port k.val).trains = 0
      ∧ (s.dev.klRole = 1 → e.kl.accepted.length = s.dev.kl.accepted.length + 1)
      ∧ Device.raised 0x1C 0 s.dev e) := by
  refine completes_act (klTrainFrame k.val t) rfl ?_
  have hn' : (klTrainFrame k.val t s.dev).NoRemote := klTrainFrame_closed noRemote_closed hn
  have hold : (s.dev.partnerShown k.val t).portState k.val = 3 := (portState_partnerShown _ _ _ _).trans hst
  rw [klTrainFrame_bad hst hpair, portStop_plain (by rw [hold]; decide) (by rw [hold]; rfl)] at hn' ⊢
  have hstop := (klWorks_censusCheck (((s.dev.partnerShown k.val t).linkClear k.val).portEnter k.val 7)).trans (klWorks_showAlt _)
  have hworks := hstop.trans (klWorks_klEvent _ 12 k.val t.number.toNat 0)
  obtain ⟨hstate, -, htrains, -⟩ := portFailed_leaves k.isLt hworks
  refine ⟨(portState_settle hn' k.isLt).trans hstate, ?_, fun hrole => ?_, fun hon hl => ?_⟩
  · rw [Device.port_settle _ hn', htrains]
  · have hp : (s.dev.partnerShown k.val t).klRole = 1 := by
      rw [← hrole]
      simp only [Device.klRole, Device.get, fKlStatRole, rd_partnerShown _ _ t (klStat_ne_klPstat k.val)]
    have hrole' := (klRole_portEnter (s.dev.partnerShown k.val t) k.val 7).trans hp
    have hacc : (((s.dev.partnerShown k.val t).linkClear k.val).portEnter k.val 7).showAlt.kl.accepted = s.dev.kl.accepted := by
      rw [Device.showAlt, Device.putB, Device.put_kl, kl_portEnter, accepted_linkClear]
      simp [Device.partnerShown]
    have halt : ((((s.dev.partnerShown k.val t).linkClear k.val).portEnter k.val 7).showAlt).klRole = 1 :=
      ((klWorks_showAlt _).get _ (not_mem_klWorkRegs (.inl rfl))).trans hrole'
    rw [settle_kl _ hn', censusCheck_master _ hrole', klEvent_accepted _ _ _ _ _ halt, hacc]
  · rw [settle_on _ hn' _ (by decide)]
    refine portFailed_raised k.isLt hworks ?_ (pageLive_partnerShown.trans hl)
    rw [on_of_rd (d := s.dev) (rd_partnerShown _ _ _ ?_), hon]
    simp only [irqEn, klPstat, wordAt]
    omega

end

end Sys2Proof.Machine


namespace Sys2Proof.Machine

/-! ### Faults (R334, R342) -/

/-- Port `k` stands FAILED with nothing to send again. -/
def Device.portDead (k : Nat) (d : Device) : Prop := d.portState k = 7 ∧ (d.port k).replay = []

section
variable {k : Nat} {d e : Device}

/-- Frames on their way leave a failed port alone. -/
theorem KlWorks.portDead (h : KlWorks d e) (hd : d.portDead k) : e.portDead k := by
  obtain ⟨hstate, hreplay⟩ := hd
  refine ⟨(h.portState k).trans hstate, (h.idle k ?_).trans hreplay⟩
  simp [Device.carries, hstate]

theorem Device.portDead.of_apart (hd : d.portDead k) (hr : e.rd (klPstat k) = d.rd (klPstat k)) (hp : e.kl.ports = d.kl.ports) : e.portDead k := by
  obtain ⟨hstate, hreplay⟩ := hd
  refine ⟨?_, ?_⟩
  · rw [← hstate]
    simp only [Device.portState, Device.get, fKlPstatState, hr]
  · rw [← hreplay]
    simp only [Device.port, hp]

theorem Device.portDead.put (hd : d.portDead k) {f : Fld} (v : Nat) (hf : klPstat k ≠ f.reg) : (d.put f v).portDead k :=
  hd.of_apart (Device.rd_put_ne _ _ _ _ hf) rfl

theorem Device.portDead.irq (hd : d.portDead k) {p : Nat} (b : Nat) (hp : klPstat k ≠ irqStat p) : (d.irq p b).portDead k :=
  hd.of_apart (Device.rd_irq_ne _ _ _ _ hp) (by simp)

theorem Device.portDead.count (hd : d.portDead k) {f : Fld} (hf : klPstat k ≠ f.reg) : (d.count f).portDead k :=
  hd.of_apart (Device.rd_count_ne _ _ _ hf) rfl

/-- The words of page KLOIT before the ports' are none of them. -/
theorem klPstat_ne_of_lt {a : Nat} (ha : a < klPctrl 0) : klPstat k ≠ a := by
  simp only [klPctrl, klPstat] at *
  omega

theorem Device.portDead.syncGo (hd : d.portDead k) (x : Nat) : (d.syncGo x).portDead k := by
  unfold Device.syncGo
  split
  · exact hd
  · exact (klWorks_klEvent _ _ _ _ _).portDead ((hd.put _ (klPstat_ne_of_lt (by decide))).irq _ (klPstat_ne_of_lt (by decide)))

theorem Device.portDead.groupGo (hd : d.portDead k) (x : Nat) : (d.groupGo x).portDead k := by
  unfold Device.groupGo
  split
  · exact hd
  · dsimp only
    refine (klWorks_klEvent _ _ _ _ _).portDead ?_
    split
    · exact hd.put _ (klPstat_ne_of_lt (by decide))
    · exact ((hd.put _ (klPstat_ne_of_lt (by decide))).put _ (klPstat_ne_of_lt (by decide))).of_apart rfl rfl

theorem Device.portDead.aligned (hd : d.portDead k) : d.aligned.portDead k := by
  unfold Device.aligned
  dsimp only
  split
  · exact (hd.syncGo 2).groupGo 1
  · exact hd.syncGo 2

theorem Device.portDead.useUpPort (hd : d.portDead k) (m : Nat) : (d.useUpPort m).portDead k := by
  refine (klWorks_e2eResend _).portDead ?_
  refine (hd.put (f := fKlStatUpAlt) (decide (m = 1)).toNat (klPstat_ne_of_lt (by decide))).of_apart ?_ rfl
  rw [Device.rd_wr, if_neg (klPstat_ne_of_lt (by decide)), Device.putB]

/-- Another port's state is its own. -/
theorem Device.portDead.portGo_other (hd : d.portDead k) {m : Nat} (hm : k ≠ m) (x : Nat) : (d.portGo m x).portDead k := by
  have hne : klPstat k ∉ portRegs m := by
    simp only [portRegs, List.mem_cons, List.not_mem_nil, or_false, not_or, klPstat, clkGood, irqStat, wordAt]
    omega
  exact (klWorks_portGo d m x).portDead (hd.of_apart (rd_portEnter d m x hne) (by rw [kl_portEnter]))

theorem Device.portDead.groupDue (hd : d.portDead k) : d.groupDue.portDead k := by
  unfold Device.groupDue
  split
  · exact hd
  · exact hd.put _ (klPstat_ne_of_lt (by decide))

theorem Device.portDead.upLost (hd : d.portDead k) : (d.upLost k).portDead k := by
  have hsync : ((d.modKl (fun s => { s with holdSince := d.tide })).syncGo 3).portDead k :=
    Device.portDead.syncGo (d := d.modKl (fun s => { s with holdSince := d.tide })) (hd.of_apart rfl rfl) 3
  unfold Device.upLost
  dsimp only
  split
  · next h =>
    have hk : k ≠ 1 := fun hk => by simp [hk] at h
    refine ((klWorks_klEvent _ _ _ _ _).portDead ?_).groupDue.aligned
    exact ((hsync.portGo_other hk 5).useUpPort 1).count (klPstat_ne_of_lt (by decide))
  · have hcount := hsync.count (f := fKlCountsHoldovers) (klPstat_ne_of_lt (by decide))
    rw [Device.when]
    split
    · exact hcount.irq 1 (klPstat_ne_of_lt (by decide))
    · exact hcount

/-- A port that stops for a fault is dead, whoever takes over. -/
theorem portStop_portDead (hk : k < 5) : (d.portStop k 7).portDead k := by
  obtain ⟨hstate, hreplay, -, -⟩ := portFailed_leaves hk (klWorks_portGo (d.linkClear k) k 7)
  have hgo : ((d.linkClear k).portGo k 7).portDead k := ⟨hstate, hreplay⟩
  unfold Device.portStop
  dsimp only
  refine (klWorks_showAlt _).portDead ((klWorks_censusCheck _).portDead ?_)
  rw [Device.when]
  split
  · exact hgo.upLost
  · exact hgo

end

section
variable {s : State} (hn : s.dev.NoRemote) (k : Fin 5) (c : KlCause)
include hn

/-- A fault of a port that is UP or STANDBY. -/
theorem klPortFault_live_completes (hst : s.dev.portState k.val = 5 ∨ s.dev.portState k.val = 6) (hcause : ¬(c = .noTick ∧ 2 ≤ k.val)) :
    Completes (.klPortFault k c) s (fun e => (k.val ≠ 1 → e.portState k.val = 7)
      ∧ (e.port k.val).replay = []
      ∧ (e.portUp k.val = false ∨ k.val = 1)) := by
  refine completes_act (klPortFault k.val c) rfl ?_
  have hn' : (klPortFault k.val c s.dev).NoRemote := klPortFault_closed noRemote_closed hn
  have heq : klPortFault k.val c s.dev = s.dev.portStop k.val 7 := by
    rw [klPortFault]
    exact (if_pos hst).trans (if_neg hcause)
  rw [heq] at hn' ⊢
  obtain ⟨hstate, hreplay⟩ := portStop_portDead (d := s.dev) k.isLt
  have hfailed := (portState_settle hn' k.isLt).trans hstate
  refine ⟨fun _ => hfailed, ?_, .inl ?_⟩
  · rw [Device.port_settle _ hn', hreplay]
  · simp [Device.portUp, hfailed]

/-- A fault of a port in its first bring-up. -/
theorem klPortFault_training_completes (hlo : 2 ≤ s.dev.portState k.val) (hhi : s.dev.portState k.val ≤ 4)
    (hretry : (s.dev.port k.val).retry = false) : Completes (.klPortFault k c) s (fun e => e.portState k.val = 7
      ∧ (e.port k.val).replay = []) := by
  refine completes_act (klPortFault k.val c) rfl ?_
  have hn' : (klPortFault k.val c s.dev).NoRemote := klPortFault_closed noRemote_closed hn
  have heq : klPortFault k.val c s.dev = (s.dev.modPort k.val (fun (p : KlPortSt) => { p with retry := false })).portStop k.val 7 := by
    rw [klPortFault]
    refine (if_neg (by omega)).trans ((if_pos ⟨hlo, hhi⟩).trans ?_)
    dsimp only
    rw [hretry]
    rfl
  rw [heq] at hn' ⊢
  obtain ⟨hstate, hreplay⟩ := portStop_portDead (d := s.dev.modPort k.val (fun (p : KlPortSt) => { p with retry := false })) k.isLt
  refine ⟨(portState_settle hn' k.isLt).trans hstate, ?_⟩
  rw [Device.port_settle _ hn', hreplay]

end

end Sys2Proof.Machine


namespace Sys2Proof.Machine

/-! ### The end of MEASURE (R333, R340, R342) -/

/-- A port whose retraining has ended well. -/
def KlPortSt.settled (p : KlPortSt) : KlPortSt := { p with retry := false }

/-- Words outside the ports', but CLK.GOOD and the page's IRQ_STAT, are none that a port's state moves; nor is another port's PSTAT. -/
theorem not_mem_portRegs {a k : Nat} (h : (a < klPctrl 0 ∧ a ≠ clkGood ∧ a ≠ irqStat 0x1C) ∨ ∃ m, m ≠ k ∧ a = klPstat m) : a ∉ portRegs k := by
  simp only [portRegs, List.mem_cons, List.not_mem_nil, or_false, not_or]
  rcases h with ⟨hlt, hc, hi⟩ | ⟨m, hm, rfl⟩
  · exact ⟨(klPstat_ne_of_lt hlt).symm, hc, hi⟩
  · refine ⟨?_, klPstat_apart m⟩
    simp only [klPstat]
    omega

section
variable {s : State} (hn : s.dev.NoRemote) (k : Fin 5) (hst : s.dev.portState k.val = 4)
include hn hst

/-- A down-port is UP. -/
theorem klMeasureEnd_down_completes (hk : 2 ≤ k.val) : Completes (.klMeasureEnd k) s (fun e => e.portState k.val = 5
      ∧ e.on (fKlPstatBusy k.val) = false
      ∧ (e.port k.val).retry = false
      ∧ Device.raised 0x1C 0 s.dev e) := by
  refine completes_act (klMeasureEnd k.val) rfl ?_
  have hn' : (klMeasureEnd k.val s.dev).NoRemote := klMeasureEnd_closed noRemote_closed hn
  have heq : klMeasureEnd k.val s.dev = (s.dev.modPort k.val KlPortSt.settled).portGo k.val 5 := by
    rw [klMeasureEnd, if_neg (by simp [hst])]
    exact if_pos hk
  rw [heq] at hn' ⊢
  have hworks := klWorks_portGo (s.dev.modPort k.val KlPortSt.settled) k.val 5
  obtain ⟨hstate, hbusy, -, -⟩ := get_portEnter (s.dev.modPort k.val KlPortSt.settled) k.val 5
  refine ⟨(portState_settle hn' k.isLt).trans ((hworks.portState _).trans (hstate (by decide))), ?_, ?_, fun hon hl => ?_⟩
  · rw [on_of_get (get_klPort_settle hn' k.isLt (.inl rfl)), on_of_rd (hworks.regs _ (klPstat_not_mem_klWorkRegs _)), hbusy]
    rfl
  · rw [Device.port_settle _ hn', (hworks.train _).2, port_portEnter, Device.port_modPort_self _ _ _ k.isLt]
    rfl
  · rw [settle_on _ hn' _ (by decide), on_of_rd (hworks.regs _ (not_mem_klWorkRegs (.inr (.inl rfl))))]
    exact raised_portEnter _ _ _ k.isLt (.inl rfl) hon hl

/-- An up-port is STANDBY where another is in use, and neither the tide nor the port in use changes. -/
theorem klMeasureEnd_standby_completes (hk : k.val < 2) (hm : 16 ≤ (s.dev.port k.val).measures) (hup : s.dev.upPort.isSome = true) :
    Completes (.klMeasureEnd k) s (fun e => e.portState k.val = 6
      ∧ e.upPort = s.dev.upPort
      ∧ e.tide = s.dev.tide) := by
  refine completes_act (klMeasureEnd k.val) rfl ?_
  have hn' : (klMeasureEnd k.val s.dev).NoRemote := klMeasureEnd_closed noRemote_closed hn
  have heq : klMeasureEnd k.val s.dev = ((s.dev.modPort k.val KlPortSt.settled).portGo k.val 6).showAlt := by
    rw [klMeasureEnd, if_neg (by simp [hst])]
    exact (if_neg (by omega)).trans ((if_neg (by omega)).trans (if_pos hup))
  rw [heq] at hn' ⊢
  have hworks := (klWorks_portGo (s.dev.modPort k.val KlPortSt.settled) k.val 6).trans (klWorks_showAlt _)
  generalize he : ((s.dev.modPort k.val KlPortSt.settled).portGo k.val 6).showAlt = e at hn' hworks ⊢
  have hrd : ∀ a, a ∉ portRegs k.val → a ∉ klWorkRegs → e.rd a = s.dev.rd a := fun a hp hw => by
    rw [hworks.regs a hw, rd_portEnter _ _ _ hp, Device.rd_modPort]
  have hsix : e.portState k.val = 6 := (hworks.portState _).trans ((get_portEnter _ _ _).1 (by decide))
  have hrole : e.klRole = s.dev.klRole := by
    have := hrd klStat (not_mem_portRegs (.inl (by decide))) (not_mem_klWorkRegs (.inl rfl))
    simp only [Device.klRole, Device.get, fKlStatRole, this]
  have hother : ∀ m, m ≠ k.val → e.portState m = s.dev.portState m := fun m hm => by
    have := hrd (klPstat m) (not_mem_portRegs (.inr ⟨m, hm, rfl⟩)) (klPstat_not_mem_klWorkRegs m)
    simp only [Device.portState, Device.get, fKlPstatState, this]
  refine ⟨(portState_settle hn' k.isLt).trans hsix, ?_, ?_⟩
  · refine (upPort_congr ?_ (fun m hm => ?_)).trans (upPort_congr hrole (fun m hm => ?_))
    · exact settle_get _ hn' _ (by decide)
    · rw [portState_settle hn' (by omega)]
    · by_cases hmk : m = k.val
      · simp [hmk, hsix, hst]
      · rw [hother m hmk]
  · have hhi := hrd tideCountHi (not_mem_portRegs (.inl (by decide))) (not_mem_klWorkRegs (.inr (.inr (.inl rfl))))
    have hlo := hrd tideCountLo (not_mem_portRegs (.inl (by decide))) (not_mem_klWorkRegs (.inr (.inr (.inr rfl))))
    simp only [Device.tide, settle_rd _ hn' tideCountHi (by decide), settle_rd _ hn' tideCountLo (by decide), hhi, hlo]

end

/-! #### The up-port in use (R342) -/

/-- The words that the up-port in use and SYNC move beside frames. -/
def upRegs : List Nat := [klStat, klDelay, irqStat 0x1C, klGroupStat] ++ klWorkRegs

/-- The words a step of the tide moves (R456). -/
def stepRegs : List Nat := [tideCountLo, tideCountHi, tideFrac, tideStat, tideStep, tideSteps]

theorem klPstat_not_mem_upRegs (m : Nat) : klPstat m ∉ upRegs := by
  simp only [upRegs, List.mem_append, not_or]
  refine ⟨fun h => ?_, klPstat_not_mem_klWorkRegs m⟩
  exact absurd rfl (klPstat_ne_of_lt (k := m) ((by decide : ∀ a ∈ [klStat, klDelay, irqStat 0x1C, klGroupStat], a < klPctrl 0) _ h))

theorem klPstat_not_mem_stepRegs (m : Nat) : klPstat m ∉ stepRegs := fun h =>
  absurd rfl (klPstat_ne_of_lt (k := m) ((by decide : ∀ a ∈ stepRegs, a < klPctrl 0) _ h))

section
variable (d : Device)

theorem rd_stepTide (off : Int) {a : Nat} (ha : a ∉ stepRegs) : (d.stepTide off).rd a = d.rd a := by
  simp only [stepRegs, List.mem_cons, List.not_mem_nil, or_false, not_or] at ha
  obtain ⟨hlo, hhi, hfrac, hstat, hstep, hsteps⟩ := ha
  have hfree : (d.divOpen off 256).2 = { d with free := (d.divOpen off 256).2.free } := freeOnly_divOpen d off 256
  rw [Device.stepTide]
  dsimp only
  rw [Device.tideStepped, Device.rd_count_ne _ _ _ hsteps, Device.rd_wr, if_neg hstep, Device.rd_put_ne _ _ _ _ hstat, Device.setTideFine,
    Device.rd_wr, if_neg hfrac, Device.setTide, Device.rd_wr, if_neg hhi, Device.rd_wr, if_neg hlo, hfree]
  rfl

theorem rd_klEvent (x k other detail : Nat) {a : Nat} (ha : a ∉ klWorkRegs) : (d.klEvent x k other detail).rd a = d.rd a :=
  (klWorks_klEvent d x k other detail).regs a ha

/-- SYNC becomes `x`; of STAT nothing else moves. -/
theorem syncGo_moves (x : Nat) : (∀ a, a ∉ upRegs → (d.syncGo x).rd a = d.rd a) ∧ (x < 8 → (d.syncGo x).get fKlStatSync = x)
    ∧ ∀ f : Fld, f.reg = klStat → (f.hi < 19 ∨ 21 < f.lo) → (d.syncGo x).get f = d.get f := by
  have hstat : klStat ∉ klWorkRegs := not_mem_klWorkRegs (.inl rfl)
  unfold Device.syncGo
  split
  · next h => exact ⟨fun _ _ => rfl, fun _ => h, fun _ _ _ => rfl⟩
  · refine ⟨fun a ha => ?_, fun hx => ?_, fun f hf hd => ?_⟩
    · simp only [upRegs, List.mem_append, List.mem_cons, List.not_mem_nil, or_false, not_or] at ha
      obtain ⟨⟨hs, -, hi, -⟩, hw⟩ := ha
      rw [rd_klEvent _ _ _ _ _ hw, Device.rd_irq_ne _ _ _ _ hi, Device.rd_put_ne _ _ _ _ hs]
    · rw [(klWorks_klEvent _ _ _ _ _).get _ hstat, Device.get_irq_ne _ _ _ _ (by decide), Device.get_put_same _ _ _ (by decide) (by decide)]
      exact Nat.mod_eq_of_lt hx
    · rw [(klWorks_klEvent _ _ _ _ _).get _ (hf ▸ hstat), Device.get_irq_ne _ _ _ _ (by rw [hf]; decide)]
      exact Device.get_put_apart _ _ _ _ (by decide) (by decide) hd

theorem rd_groupGo (x : Nat) {a : Nat} (hg : a ≠ klGroupStat) (hw : a ∉ klWorkRegs) : (d.groupGo x).rd a = d.rd a := by
  unfold Device.groupGo
  split
  · rfl
  · dsimp only
    rw [rd_klEvent _ _ _ _ _ hw]
    split
    · exact Device.rd_put_ne _ _ _ _ hg
    · rw [Device.rd_modKl, Device.rd_put_ne _ _ _ _ hg, Device.rd_put_ne _ _ _ _ hg]

/-- A tide that is aligned shows SYNC ALIGNED; of STAT nothing else moves. -/
theorem aligned_moves : (∀ a, a ∉ upRegs → d.aligned.rd a = d.rd a) ∧ d.aligned.get fKlStatSync = 2
    ∧ ∀ f : Fld, f.reg = klStat → (f.hi < 19 ∨ 21 < f.lo) → d.aligned.get f = d.get f := by
  obtain ⟨hrd, hsync, hrest⟩ := syncGo_moves d 2
  have hgroup : ∀ f : Fld, f.reg = klStat → ((d.syncGo 2).groupGo 1).get f = (d.syncGo 2).get f := fun f hf => by
    simp only [Device.get, hf, rd_groupGo (d.syncGo 2) 1 (a := klStat) (by decide) (not_mem_klWorkRegs (.inl rfl))]
  unfold Device.aligned
  dsimp only
  split
  · refine ⟨fun a ha => ?_, (hgroup _ rfl).trans (hsync (by decide)), fun f hf hd => (hgroup f hf).trans (hrest f hf hd)⟩
    have ha' := ha
    simp only [upRegs, List.mem_append, List.mem_cons, List.not_mem_nil, or_false, not_or] at ha'
    exact (rd_groupGo _ _ ha'.1.2.2.2 ha'.2).trans (hrd a ha)
  · exact ⟨hrd, hsync (by decide), hrest⟩

/-- UP_ALT names the up-port in use; of STAT nothing else moves. -/
theorem useUpPort_moves (k : Nat) : (∀ a, a ∉ upRegs → (d.useUpPort k).rd a = d.rd a)
    ∧ (d.useUpPort k).on fKlStatUpAlt = decide (k = 1)
    ∧ ∀ f : Fld, f.reg = klStat → (f.hi < 18 ∨ 18 < f.lo) → (d.useUpPort k).get f = d.get f := by
  have hstat : klStat ∉ klWorkRegs := not_mem_klWorkRegs (.inl rfl)
  have hworks := klWorks_e2eResend ((d.putB fKlStatUpAlt (k = 1)).wr klDelay (BitVec.ofNat 32 (d.port k).delay))
  have hwr : ∀ f : Fld, f.reg = klStat → ((d.putB fKlStatUpAlt (k = 1)).wr klDelay (BitVec.ofNat 32 (d.port k).delay)).get f
      = (d.putB fKlStatUpAlt (k = 1)).get f := fun f hf => by
    simp only [Device.get, Device.rd_wr, hf]
    rfl
  rw [Device.useUpPort]
  refine ⟨fun a ha => ?_, ?_, fun f hf hd => ?_⟩
  · simp only [upRegs, List.mem_append, List.mem_cons, List.not_mem_nil, or_false, not_or] at ha
    obtain ⟨⟨hs, hdel, -, -⟩, hw⟩ := ha
    rw [hworks.regs a hw, Device.rd_wr, if_neg hdel]
    exact Device.rd_put_ne _ _ _ _ hs
  · rw [on_of_get (hworks.get _ hstat), on_of_get (hwr _ rfl)]
    exact Device.on_putB _ _ rfl (by decide)
  · rw [hworks.get _ (hf ▸ hstat), hwr f hf]
    exact Device.get_put_apart _ _ _ _ (by decide) (by decide) hd

end

/-- A member's up-port in use, from the states of its two. -/
theorem upPort_eq_some {d : Device} {k : Nat} (hk : k < 2) (hm : d.klMember = true) (hup : d.portUp k = true)
    (hother : ∀ m, m < 2 → m ≠ k → d.portUp m = false) : d.upPort = some k := by
  have hcase : k = 0 ∨ k = 1 := by omega
  rcases hcase with rfl | rfl
  · simp [Device.upPort, hm, hup]
  · simp [Device.upPort, hm, hup, hother 0 (by decide) (by decide)]

/-- With none in use neither up-port of a member is UP. -/
theorem portUp_of_upPort_none {d : Device} (hm : d.klMember = true) (h : d.upPort = none) {m : Nat} (hlt : m < 2) : d.portUp m = false := by
  simp only [Device.upPort, hm, Bool.not_true, Bool.false_eq_true, if_false, List.find?_eq_none] at h
  have := h m (by simp only [List.mem_cons, List.not_mem_nil, or_false]; omega)
  simpa using this

/-- The port UP with its tide stepped, before it is taken into use. -/
def Device.measured (d : Device) (k : Nat) : Device :=
  let m := (d.modPort k KlPortSt.settled).divOpen ((d.modPort k KlPortSt.settled).port k).offsets 16
  (m.2.stepTide m.1).portGo k 5

/-- What MEASURE has moved when the port is UP: the tide's words, the port's and those of frames. -/
theorem rd_measured (d : Device) (k : Nat) : KlWorks ((((d.modPort k KlPortSt.settled).divOpen ((d.modPort k KlPortSt.settled).port k).offsets 16).2.stepTide
      ((d.modPort k KlPortSt.settled).divOpen ((d.modPort k KlPortSt.settled).port k).offsets 16).1).portEnter k 5) (d.measured k)
    ∧ ∀ a, a ∉ stepRegs → a ∉ portRegs k → a ∉ klWorkRegs → (d.measured k).rd a = d.rd a := by
  have hfree := freeOnly_divOpen (d.modPort k KlPortSt.settled) ((d.modPort k KlPortSt.settled).port k).offsets 16
  refine ⟨klWorks_portGo _ k 5, fun a ht hp hw => ?_⟩
  rw [Device.measured, (klWorks_portGo _ k 5).regs a hw, rd_portEnter _ _ _ hp, rd_stepTide _ _ ht, hfree]
  rfl

section
variable {s : State} (hn : s.dev.NoRemote) (k : Fin 5)
include hn

/-- The first up-port is UP and in use, the tide aligned to it. -/
theorem klMeasureEnd_up_completes (hst : s.dev.portState k.val = 4) (hk : k.val < 2) (hm : 16 ≤ (s.dev.port k.val).measures)
    (hup : s.dev.upPort = none) (hmember : s.dev.klMember = true) : Completes (.klMeasureEnd k) s (fun e => e.portState k.val = 5
      ∧ e.upPort = some k.val
      ∧ e.get fKlStatSync = 2
      ∧ e.on fKlStatUpAlt = decide (k.val = 1)) := by
  refine completes_act (klMeasureEnd k.val) rfl ?_
  have hn' : (klMeasureEnd k.val s.dev).NoRemote := klMeasureEnd_closed noRemote_closed hn
  have heq : klMeasureEnd k.val s.dev = (((s.dev.measured k.val).useUpPort k.val).aligned).showAlt := by
    rw [klMeasureEnd, if_neg (by simp [hst])]
    refine (if_neg (by omega)).trans ((if_neg (by omega)).trans ((if_neg ?_).trans rfl))
    show ¬(s.dev.upPort.isSome = true)
    simp [hup]
  rw [heq] at hn' ⊢
  obtain ⟨hworks, hrd⟩ := rd_measured s.dev k.val
  obtain ⟨huse, halt, hstat⟩ := useUpPort_moves (s.dev.measured k.val) k.val
  obtain ⟨halign, hsync, hstat'⟩ := aligned_moves ((s.dev.measured k.val).useUpPort k.val)
  have hshow := klWorks_showAlt ((s.dev.measured k.val).useUpPort k.val).aligned
  generalize he : ((s.dev.measured k.val).useUpPort k.val).aligned.showAlt = e at hn' hshow ⊢
  have hklStat : klStat ∉ klWorkRegs := not_mem_klWorkRegs (.inl rfl)
  have hpstat : ∀ m, e.portState m = (s.dev.measured k.val).portState m := fun m => by
    have hm := klPstat_not_mem_upRegs m
    rw [hshow.portState]
    simp only [Device.portState, Device.get, fKlPstatState, halign _ hm, huse _ hm]
  have hfive : e.portState k.val = 5 := (hpstat _).trans ((hworks.portState _).trans ((get_portEnter _ _ _).1 (by decide)))
  have hother : ∀ m, m < 2 → m ≠ k.val → e.portUp m = false := fun m hm hne => by
    have hrdm := hrd (klPstat m) (klPstat_not_mem_stepRegs m) (not_mem_portRegs (.inr ⟨m, hne, rfl⟩)) (klPstat_not_mem_klWorkRegs m)
    have hstate : e.portState m = s.dev.portState m := by
      rw [hpstat]
      simp only [Device.portState, Device.get, fKlPstatState, hrdm]
    have hnone := portUp_of_upPort_none hmember hup hm
    simpa only [Device.portUp, hstate] using hnone
  have hrole : e.klRole = s.dev.klRole := by
    have hrdm := hrd klStat (by decide) (not_mem_portRegs (.inl (by decide))) hklStat
    calc e.klRole = ((s.dev.measured k.val).useUpPort k.val).aligned.klRole := hshow.get _ hklStat
      _ = ((s.dev.measured k.val).useUpPort k.val).klRole := hstat' _ rfl (by decide)
      _ = (s.dev.measured k.val).klRole := hstat _ rfl (by decide)
      _ = s.dev.klRole := by simp only [Device.klRole, Device.get, fKlStatRole, hrdm]
  have hupPort : e.upPort = some k.val := by
    refine upPort_eq_some hk ?_ (by simp [Device.portUp, hfive]) hother
    rw [Device.klMember, hrole]
    exact hmember
  refine ⟨(portState_settle hn' k.isLt).trans hfive, (upPort_congr ?_ (fun m hm => ?_)).trans hupPort, ?_, ?_⟩
  · exact settle_get _ hn' _ (by decide)
  · rw [portState_settle hn' (by omega)]
  · rw [settle_get _ hn' _ (by decide), hshow.get _ hklStat, hsync]
  · rw [settle_on _ hn' _ (by decide), on_of_get (hshow.get _ hklStat), on_of_get (hstat' _ rfl (by decide)), halt]

end

/-- Settles O39: each step of a port from its own lemma. -/
theorem cascadePorts : Obligations.CascadePorts := by
  intro s k hn
  exact ⟨klSignalDetect_completes hn k, klBlockLock_completes hn k, klTrainFrame_counts hn k, klTrainFrame_third hn k,
    klTrainFrame_bad_completes hn k, klMeasureEnd_down_completes hn k, klMeasureEnd_up_completes hn k,
    fun hst => klMeasureEnd_standby_completes hn k hst, klPortFault_live_completes hn k, klPortFault_training_completes hn k,
    klRetrainTimer_completes hn k, klDrainEnd_completes hn k⟩

end Sys2Proof.Machine


namespace Sys2Proof.Machine

/-! ### The air exchange of a session: what its operations share -/

/-! #### Which registers are out of the way of a session's messages -/

/-- The words that show a session's state and its descriptors lie on its own page and on that of the rings. -/
theorem not_mem_flightRegs {n a : Nat} (hn : n < 16) (hring : a / 1024 ≠ 0x19) (hstat : a ≠ sesStat n) (hpage : a ≠ pageStat (0x80 + n)) :
    a ∉ flightRegs n := by
  simp only [flightRegs, stateRegs, msgRegs, List.mem_cons, List.not_mem_nil, or_false, not_or, ringInflight, ringMtail, irqRaw, irqStat, wordAt]
  omega

theorem not_mem_stateRegs {n a : Nat} (hn : n < 16) (hring : a / 1024 ≠ 0x19) (hstat : a ≠ sesStat n) (hpage : a ≠ pageStat (0x80 + n)) :
    a ∉ stateRegs n := fun h => not_mem_flightRegs hn hring hstat hpage (by simp [flightRegs, h])

theorem not_mem_msgRegs {n a : Nat} (hn : n < 16) (hring : a / 1024 ≠ 0x19) : a ∉ msgRegs n := by
  simp only [msgRegs, List.mem_cons, List.not_mem_nil, or_false, not_or, ringMtail, irqRaw, irqStat, wordAt]
  omega

/-- What no message, hold or slot count touches of a session's record is as before. -/
theorem Posts.keeps {α : Type} {l : List Nat} {n : Nat} {d e : Device} (h : Posts l n d e) (g : SesSt → α)
    (hg : ∀ s w o k, g { s with waiting := w, holds := o, opens := k } = g s) : g (e.sess n) = g (d.sess n) := by
  rw [h.sess, hg]

theorem Posts.stream {l : List Nat} {n : Nat} {d e : Device} (h : Posts l n d e) (m : Nat) : e.stream m = d.stream m := by
  rw [h.same]
  rfl

theorem Posts.pil {l : List Nat} {n : Nat} {d e : Device} (h : Posts l n d e) (p : Nat) : e.pil p = d.pil p := by
  rw [h.same]
  rfl

/-! #### A session's descriptor is over -/

/-- A session with no descriptor running. -/
def SesSt.done (s : SesSt) : SesSt := { s with run := none, chain := [], stop := none, plan := [], round := {}, acc := {} }

/-- The session goes on after its descriptor (R79): beside the end of its work only its state, its holds and its messages move. -/
theorem posts_sesDone (n : Nat) (d : Device) : Posts (flightRegs n) n (d.modSes n SesSt.done) (d.sesDone n) := by
  have hstate : ∀ a, a ∈ stateRegs n → a ∈ flightRegs n := fun a h => by simp [flightRegs, h]
  have hend : Posts (flightRegs n) n (d.modSes n SesSt.done)
      ((((d.modSes n SesSt.done).holdEnd n 6).showFlight n).when (!(((d.modSes n SesSt.done).holdEnd n 6).showFlight n).needsAir n)
        (fun d => d.holdEnd n 1)) :=
    (((posts_holdEnd n _ 6).mono hstate).then (posts_showFlight n _)).then
      (posts_when _ _ _ (fun e => (posts_holdEnd n e 1).mono hstate))
  unfold Device.sesDone
  dsimp only
  split
  · exact hend
  · split
    · exact hend.then ((posts_sesGo n _ 2 0).mono hstate)
    · exact hend

/-! #### The checkpoint (R82, R296) -/

/-- The checkpoint a session writes. -/
def Device.ckptNow (d : Device) (n : Nat) : Ckpt :=
  let s := d.sess n
  { seq := max s.ckA.seq s.ckB.seq + 1, state := if d.sesState n = 8 then s.prev else d.sesState n, run := s.run, waiting := s.descs, chain := s.chain,
    q := d.get (fSesStatQ n), qfp := s.qfp, slots := s.slots, round := s.round, acc := s.acc, plan := s.plan, single := s.single }

/-- A session with a checkpoint in the older of its two copies. -/
def SesSt.keep (k : Ckpt) (s : SesSt) : SesSt := if s.ckA.seq ≤ s.ckB.seq then { s with ckA := k } else { s with ckB := k }

theorem Device.checkpoint_eq (d : Device) (n : Nat) : d.checkpoint n
    = (d.modSes n (SesSt.keep (d.ckptNow n))).addWrap (fWord (pilCkpts (d.get (fSesStatPilot n)))) 1 := rfl

theorem Device.rd_checkpoint (d : Device) (n a : Nat) (h : a ≠ pilCkpts (d.get (fSesStatPilot n))) : (d.checkpoint n).rd a = d.rd a := by
  rw [d.checkpoint_eq, Device.addWrap_eq, Device.rd_put_ne _ _ _ _ h, Device.rd_modSes]

theorem Device.get_checkpoint (d : Device) (n : Nat) (f : Fld) (h : f.reg ≠ pilCkpts (d.get (fSesStatPilot n))) : (d.checkpoint n).get f = d.get f := by
  simp only [Device.get, d.rd_checkpoint n _ h]

theorem Device.sess_checkpoint (d : Device) {n : Nat} (hn : n < 16) : (d.checkpoint n).sess n = (d.sess n).keep (d.ckptNow n) := by
  rw [d.checkpoint_eq, Device.addWrap_eq, Device.sess_put, Device.sess_modSes_self _ _ _ hn]

/-- A checkpoint changes nothing of the session but the copy it is written to. -/
theorem SesSt.keep_keeps {α : Type} (s : SesSt) (k : Ckpt) (g : SesSt → α) (ha : ∀ s c, g { s with ckA := c } = g s)
    (hb : ∀ s c, g { s with ckB := c } = g s) : g (s.keep k) = g s := by
  unfold SesSt.keep
  split
  · exact ha s k
  · exact hb s k

theorem pilCkpts_ne_page (p : Nat) {a : Nat} (h : a / 1024 < 0x20 ∨ 0x80 ≤ a / 1024) (hp : p < 32) : a ≠ pilCkpts p := by
  rw [pilCkpts]
  omega

theorem get_fSesStatPilot_lt (d : Device) (n : Nat) : d.get (fSesStatPilot n) < 32 := bitsOf_lt _ _ _

end Sys2Proof.Machine


namespace Sys2Proof.Machine

/-! ### Committing, sending and ending a command (R82, R98, R99) -/

/-- Q after the command is committed: a QueryAdjust moves it by one (R90). -/
def Device.adjustQ (d : Device) (n : Nat) : AirCmd → Device
  | .queryAdjust 6 => d.put (fSesStatQ n) (d.get (fSesStatQ n) + 1)
  | .queryAdjust _ => d.put (fSesStatQ n) (d.get (fSesStatQ n) - 1)
  | _ => d

/-- Is the command other than a Query? -/
def AirCmd.plain : AirCmd → Bool
  | .query .. => false
  | _ => true

/-- What a committed command makes of Q. -/
def AirCmd.adjusts (q : Nat) : AirCmd → Nat
  | .queryAdjust 6 => (q + 1) % 16
  | .queryAdjust _ => q - 1
  | _ => q

/-- A session that has fixed its next command. -/
def SesSt.commit (c : AirCmd) (s : SesSt) : SesSt := { s with cmd := c, plan := s.plan.drop 1, phase := .committed }

/-- A session whose command opens a slot. -/
def SesSt.openSlot (c : AirCmd) (s : SesSt) : SesSt :=
  { s with slots := (match c with | .queryRep => s.slots + 1 | _ => 1)
           opens := if s.holds.isEmpty then 0 else s.opens + 1
           turnSlots := s.turnSlots + 1
           single := false
           retry := 0
           round := if s.acc.ending then s.round else { s.round with opened := s.round.opened + 1 } }

/-- The device with a command committed, and its checkpoint where it opens a slot. -/
def Device.commits (d : Device) (n : Nat) (c : AirCmd) : Device :=
  if c.opens then (((d.adjustQ n c).modSes n (SesSt.commit c)).modSes n (SesSt.openSlot c)).checkpoint n
  else (d.adjustQ n c).modSes n (SesSt.commit c)

theorem commandCommit_eq {n : Nat} {d : Device} {c : AirCmd} (hc : d.nextCmd n = some c) (hok : d.commitOk n c = true)
    (hq : c.plain = true) : commandCommit n d = d.commits n c := by
  unfold commandCommit
  rw [hc]
  simp only [hok, Bool.not_true, Bool.false_eq_true, if_false]
  cases c with
  | query => exact absurd hq (by simp [AirCmd.plain])
  | queryAdjust k => rfl
  | _ => rfl

theorem commandCommit_query {n : Nat} {d : Device} {sel se t q dr m tr : Nat} (hc : d.nextCmd n = some (.query sel se t q dr m tr))
    (hok : d.commitOk n (.query sel se t q dr m tr) = true) :
    commandCommit n d = (d.fillQuery n sel).2.commits n (d.fillQuery n sel).1 := by
  unfold commandCommit
  rw [hc]
  simp only [hok, Bool.not_true, Bool.false_eq_true, if_false]
  rcases hfill : d.fillQuery n sel with ⟨c, e⟩
  obtain ⟨k, i, t, q, dr, m, tr, rfl⟩ : ∃ k i t q dr m tr, c = .query k i t q dr m tr :=
    ⟨_, _, _, _, _, _, _, (congrArg Prod.fst hfill).symm⟩
  rfl

section
variable (d : Device) (n : Nat) (c : AirCmd)

theorem Device.rd_adjustQ (a : Nat) (h : a ≠ sesStat n) : (d.adjustQ n c).rd a = d.rd a := by
  unfold Device.adjustQ
  split
  · exact d.rd_put_ne _ _ _ h
  · exact d.rd_put_ne _ _ _ h
  · rfl

theorem Device.sess_adjustQ (m : Nat) : (d.adjustQ n c).sess m = d.sess m := by
  unfold Device.adjustQ
  split <;> rfl

theorem Device.sram_adjustQ : (d.adjustQ n c).sram = d.sram := by
  unfold Device.adjustQ
  split <;> rfl

theorem Device.opt_adjustQ : (d.adjustQ n c).opt = d.opt := by
  unfold Device.adjustQ
  split <;> rfl

/-- No other field of STAT moves with Q. -/
theorem Device.get_adjustQ_pilot : (d.adjustQ n c).get (fSesStatPilot n) = d.get (fSesStatPilot n) := by
  have hput : ∀ v, (d.put (fSesStatQ n) v).get (fSesStatPilot n) = d.get (fSesStatPilot n) := fun v =>
    Device.get_put_apart _ _ _ _ (by simp [fSesStatQ]) (by simp [fSesStatQ]) (by simp [fSesStatQ, fSesStatPilot])
  unfold Device.adjustQ
  split
  · exact hput _
  · exact hput _
  · rfl

/-- Q moves up by one, down by one, or not at all. -/
theorem Device.get_adjustQ : (d.adjustQ n c).get (fSesStatQ n) = c.adjusts (d.get (fSesStatQ n)) := by
  have hput : ∀ v, (d.put (fSesStatQ n) v).get (fSesStatQ n) = v % 16 := fun v =>
    Device.get_put_same _ _ _ (by simp [fSesStatQ]) (by simp [fSesStatQ])
  have hlt : d.get (fSesStatQ n) < 16 := bitsOf_lt _ _ _
  unfold Device.adjustQ AirCmd.adjusts
  split
  · exact hput _
  · rw [hput]
    omega
  · rfl

theorem sesStat_ne_pilCkpts (p : Nat) (hp : p < 32) : sesStat n ≠ pilCkpts p :=
  pilCkpts_ne_page p (.inr (by rw [sesStat]; omega)) hp

/-- A commit moves STAT, and the serving pilot's count of checkpoints. -/
theorem Device.rd_commits (a : Nat) (h : a ∉ [sesStat n, pilCkpts (d.get (fSesStatPilot n))]) : (d.commits n c).rd a = d.rd a := by
  simp only [List.mem_cons, List.not_mem_nil, or_false, not_or] at h
  obtain ⟨hstat, hckpt⟩ := h
  unfold Device.commits
  split
  · rw [Device.rd_checkpoint, Device.rd_modSes, Device.rd_modSes, d.rd_adjustQ n c a hstat]
    simpa [d.get_adjustQ_pilot n c] using hckpt
  · rw [Device.rd_modSes, d.rd_adjustQ n c a hstat]

theorem Device.get_commits_q : (d.commits n c).get (fSesStatQ n) = (d.adjustQ n c).get (fSesStatQ n) := by
  unfold Device.commits
  split
  · rw [Device.get_checkpoint, Device.get_modSes, Device.get_modSes]
    exact sesStat_ne_pilCkpts n _ (get_fSesStatPilot_lt _ n)
  · rfl

theorem Device.sram_commits : (d.commits n c).sram = d.sram := by
  unfold Device.commits
  split <;> simp [Device.checkpoint_eq, d.sram_adjustQ n c]

theorem Device.opt_commits : (d.commits n c).opt = d.opt := by
  unfold Device.commits
  split <;> simp [Device.checkpoint_eq, d.opt_adjustQ n c]

variable {n}

/-- What a commit leaves of the session's record, its two checkpoints aside. -/
theorem Device.sess_commits {α : Type} (hn : n < 16) (g : SesSt → α) (ha : ∀ s c, g { s with ckA := c } = g s) (hb : ∀ s c, g { s with ckB := c } = g s) :
    g ((d.commits n c).sess n) = g (if c.opens then ((d.sess n).commit c).openSlot c else (d.sess n).commit c) := by
  unfold Device.commits
  split
  · rw [Device.sess_checkpoint _ hn, SesSt.keep_keeps _ _ g ha hb, Device.sess_modSes_self _ _ _ hn, Device.sess_modSes_self _ _ _ hn,
      d.sess_adjustQ n c]
  · rw [Device.sess_modSes_self _ _ _ hn, d.sess_adjustQ n c]

end

/-- A command other than Query is committed (R82). -/
theorem commandCommit_completes {s : State} (hn : s.dev.NoRemote) (n : Fin 16) (c : AirCmd) (hc : s.dev.nextCmd n.val = some c)
    (hok : s.dev.commitOk n.val c = true) (hq : c.plain = true) :
    Completes (.commandCommit n) s (fun e => (e.sess n.val).phase = .committed
      ∧ (e.sess n.val).cmd = c
      ∧ (e.sess n.val).plan = (s.dev.sess n.val).plan.drop 1
      ∧ (c = .queryRep → (e.sess n.val).slots = (s.dev.sess n.val).slots + 1)
      ∧ (c.opens = true → (e.sess n.val).turnSlots = (s.dev.sess n.val).turnSlots + 1)
      ∧ (c.opens = false → (e.sess n.val).slots = (s.dev.sess n.val).slots ∧ (e.sess n.val).turnSlots = (s.dev.sess n.val).turnSlots)
      ∧ e.get (fSesStatQ n.val) = c.adjusts (s.dev.get (fSesStatQ n.val))
      ∧ Device.OnlyRegs [sesStat n.val, pilCkpts (s.dev.get (fSesStatPilot n.val))] s.dev e) := by
  have hn' : (commandCommit n.val s.dev).NoRemote := commandCommit_closed noRemote_closed hn
  refine completes_act (commandCommit n.val) rfl ?_
  rw [commandCommit_eq hc hok hq] at hn' ⊢
  have hkeeps := fun {α : Type} => s.dev.sess_commits (α := α) c n.isLt
  rw [Device.sess_settle _ hn']
  refine ⟨?_, ?_, ?_, fun h => ?_, fun h => ?_, fun h => ?_, ?_, onlyRegs_settle hn' (s.dev.rd_commits n.val c) (s.dev.sram_commits n.val c)
    (s.dev.opt_commits n.val c)⟩
  · rw [hkeeps SesSt.phase (fun _ _ => rfl) (fun _ _ => rfl)]
    split <;> rfl
  · rw [hkeeps SesSt.cmd (fun _ _ => rfl) (fun _ _ => rfl)]
    split <;> rfl
  · rw [hkeeps SesSt.plan (fun _ _ => rfl) (fun _ _ => rfl)]
    split <;> rfl
  · subst h
    exact hkeeps SesSt.slots (fun _ _ => rfl) (fun _ _ => rfl)
  · rw [hkeeps SesSt.turnSlots (fun _ _ => rfl) (fun _ _ => rfl), if_pos h]
    rfl
  · rw [hkeeps SesSt.slots (fun _ _ => rfl) (fun _ _ => rfl), hkeeps SesSt.turnSlots (fun _ _ => rfl) (fun _ _ => rfl), h]
    exact ⟨rfl, rfl⟩
  · rw [settle_get _ hn' _ (settles_of_page (by simp only [fSesStatQ, sesStat]; omega)), s.dev.get_commits_q, s.dev.get_adjustQ]

/-- A Query is committed with the settings in force at it (R75, R88). -/
theorem queryCommit_completes {s : State} (hn : s.dev.NoRemote) (n : Fin 16) (sel se t q dr m tr : Nat)
    (hc : s.dev.nextCmd n.val = some (.query sel se t q dr m tr)) (hok : s.dev.commitOk n.val (.query sel se t q dr m tr) = true) :
    Completes (.commandCommit n) s (fun e => (e.sess n.val).phase = .committed
      ∧ (e.sess n.val).slots = 1
      ∧ (e.sess n.val).link = s.dev.rd (sesLink n.val)
      ∧ (e.sess n.val).inv = s.dev.rd (sesInv n.val)
      ∧ (e.sess n.val).qctrl = s.dev.rd (sesQctrl n.val)
      ∧ e.get (fSesStatQ n.val)
        = min (max (s.dev.get (fSesInvQInit n.val)) (s.dev.get (fSesQctrlQMin n.val))) (s.dev.get (fSesQctrlQMax n.val))
      ∧ Device.OnlyRegs [sesStat n.val, pilCkpts (s.dev.get (fSesStatPilot n.val))] s.dev e) := by
  have hn' : (commandCommit n.val s.dev).NoRemote := commandCommit_closed noRemote_closed hn
  refine completes_act (commandCommit n.val) rfl ?_
  rw [commandCommit_query hc hok] at hn' ⊢
  have hkeeps := fun {α : Type} => (s.dev.fillQuery n.val sel).2.sess_commits (α := α) (s.dev.fillQuery n.val sel).1 n.isLt
  have hopens : (s.dev.fillQuery n.val sel).1.opens = true := rfl
  rw [hopens] at hkeeps
  have hfill : (s.dev.fillQuery n.val sel).2.sess n.val = _ := Device.sess_modSes_self _ _ _ n.isLt
  have hpilot : (s.dev.fillQuery n.val sel).2.get (fSesStatPilot n.val) = s.dev.get (fSesStatPilot n.val) :=
    Device.get_put_apart _ _ _ _ (by simp [fSesStatQ]) (by simp [fSesStatQ]) (by simp [fSesStatQ, fSesStatPilot])
  have hmax : s.dev.get (fSesQctrlQMax n.val) < 16 := bitsOf_lt _ _ _
  rw [Device.sess_settle _ hn']
  refine ⟨?_, ?_, ?_, ?_, ?_, ?_, onlyRegs_settle hn' (fun a ha => ?_) (Device.sram_commits _ _ _) (Device.opt_commits _ _ _)⟩
  · exact hkeeps SesSt.phase (fun _ _ => rfl) (fun _ _ => rfl)
  · exact hkeeps SesSt.slots (fun _ _ => rfl) (fun _ _ => rfl)
  · exact (hkeeps SesSt.link (fun _ _ => rfl) (fun _ _ => rfl)).trans (congrArg SesSt.link hfill)
  · exact (hkeeps SesSt.inv (fun _ _ => rfl) (fun _ _ => rfl)).trans (congrArg SesSt.inv hfill)
  · exact (hkeeps SesSt.qctrl (fun _ _ => rfl) (fun _ _ => rfl)).trans (congrArg SesSt.qctrl hfill)
  · rw [settle_get _ hn' _ (settles_of_page (by simp only [fSesStatQ, sesStat]; omega)), Device.get_commits_q]
    refine (Device.get_put_same s.dev (fSesStatQ n.val) _ (by simp [fSesStatQ]) (by simp [fSesStatQ])).trans (Nat.mod_eq_of_lt ?_)
    exact lt_of_le_of_lt (Nat.min_le_right _ _) hmax
  · refine (Device.rd_commits _ _ _ a (hpilot ▸ ha)).trans ?_
    exact Device.rd_put_ne _ _ _ _ (fun h => ha (by simp [h, fSesStatQ]))

/-- The noise estimates stand at what the quiet interval gave, unless they are held (R109). -/
def Device.noiseStands (d : Device) (n a b : Nat) : Device :=
  if d.on fRxfCfgNoiseHold then d else (d.put (fRxfNoiseA n) a).put (fRxfNoiseB n) b

/-- The session and STAT as the delimiter starts. -/
def Device.sends (d : Device) (n : Nat) (c : AirCmd) : Device :=
  (d.put (fSesStatLastCmd n) c.code).modSes n (fun s => { s with
    phase := .sending
    round := if s.round.active && !s.round.begun && s.cmd.beginsRound then { s.round with begun := true, startTide := d.stamp } else s.round })

theorem AirCmd.code_lt (c : AirCmd) : c.code < 32 := by cases c <;> simp [AirCmd.code]

section
variable (d : Device) (n a b : Nat)

theorem Device.rd_noiseStands (x : Nat) (h : x ≠ rxfNoise n) : (d.noiseStands n a b).rd x = d.rd x := by
  unfold Device.noiseStands
  split
  · rfl
  · rw [Device.rd_put_ne _ _ _ _ h, Device.rd_put_ne _ _ _ _ h]

theorem Device.noiseStands_held (h : d.on fRxfCfgNoiseHold = true) : d.noiseStands n a b = d := if_pos h

theorem Device.get_noiseStands (h : d.on fRxfCfgNoiseHold = false) (ha : a < 65536) (hb : b < 65536) :
    (d.noiseStands n a b).get (fRxfNoiseA n) = a ∧ (d.noiseStands n a b).get (fRxfNoiseB n) = b := by
  rw [Device.noiseStands, if_neg (by simp [h])]
  constructor
  · rw [Device.get_put_apart _ _ _ _ (by simp [fRxfNoiseB]) (by simp [fRxfNoiseB]) (by simp [fRxfNoiseA, fRxfNoiseB]),
      Device.get_put_same _ _ _ (by simp [fRxfNoiseA]) (by simp [fRxfNoiseA])]
    exact Nat.mod_eq_of_lt ha
  · rw [Device.get_put_same _ _ _ (by simp [fRxfNoiseB]) (by simp [fRxfNoiseB])]
    exact Nat.mod_eq_of_lt hb

theorem Device.sram_noiseStands : (d.noiseStands n a b).sram = d.sram := by
  unfold Device.noiseStands
  split <;> rfl

theorem Device.opt_noiseStands : (d.noiseStands n a b).opt = d.opt := by
  unfold Device.noiseStands
  split <;> rfl

end

theorem commandStart_eq {n a b : Nat} {d : Device} (hp : (d.sess n).phase = .committed) :
    commandStart n a b d = (d.noiseStands n a b).sends n (d.sess n).cmd := by
  unfold commandStart
  simp only [hp, bne_self_eq_false, Bool.false_eq_true, if_false]
  rfl

theorem rxfNoise_ne_sesStat {n m : Nat} (hn : n < 16) : rxfNoise n ≠ sesStat m := by
  simp only [rxfNoise, sesStat]
  omega

/-- The delimiter starts (R98, R109). -/
theorem commandStart_completes {s : State} (hn : s.dev.NoRemote) (n : Fin 16) (a b : BitVec 16) (hp : (s.dev.sess n.val).phase = .committed) :
    Completes (.commandStart n a b) s (fun e => (e.sess n.val).phase = .sending
      ∧ e.get (fSesStatLastCmd n.val) = (s.dev.sess n.val).cmd.code
      ∧ (s.dev.on fRxfCfgNoiseHold = false → e.get (fRxfNoiseA n.val) = a.toNat ∧ e.get (fRxfNoiseB n.val) = b.toNat)
      ∧ (s.dev.on fRxfCfgNoiseHold = true → e.rd (rxfNoise n.val) = s.dev.rd (rxfNoise n.val))
      ∧ Device.OnlyRegs [sesStat n.val, rxfNoise n.val] s.dev e) := by
  have hn' : (commandStart n.val a.toNat b.toNat s.dev).NoRemote := commandStart_closed noRemote_closed hn
  refine completes_act (commandStart n.val a.toNat b.toNat) rfl ?_
  rw [commandStart_eq hp] at hn' ⊢
  let d := s.dev.noiseStands n.val a.toNat b.toNat
  have hnoise : ∀ f : Fld, f.reg = rxfNoise n.val → (d.sends n.val (s.dev.sess n.val).cmd).settle.get f = d.get f := fun f hf => by
    rw [settle_get _ hn' _ (settles_rxfNoise n.isLt hf)]
    exact Device.get_put_ne _ _ _ _ (hf ▸ rxfNoise_ne_sesStat n.isLt)
  refine ⟨?_, ?_, fun h => ?_, fun h => ?_, onlyRegs_settle hn' (fun x hx => ?_) (s.dev.sram_noiseStands _ _ _) (s.dev.opt_noiseStands _ _ _)⟩
  · rw [Device.sess_settle _ hn', Device.sends, Device.sess_modSes_self _ _ _ n.isLt]
  · rw [settle_get _ hn' _ (settles_of_page (by simp only [fSesStatLastCmd, sesStat]; omega))]
    refine (Device.get_put_same d (fSesStatLastCmd n.val) _ (by simp [fSesStatLastCmd]) (by simp [fSesStatLastCmd])).trans ?_
    exact Nat.mod_eq_of_lt (AirCmd.code_lt _)
  · rw [hnoise _ rfl, hnoise _ rfl]
    exact s.dev.get_noiseStands _ _ _ h a.isLt b.isLt
  · rw [settle_rd _ hn' _ (fun g hg hr => ?_)]
    · refine (Device.rd_put_ne _ _ _ _ (rxfNoise_ne_sesStat n.isLt)).trans ?_
      exact congrArg (fun e : Device => e.rd (rxfNoise n.val)) (s.dev.noiseStands_held _ _ _ h)
    · have hnot := (by decide : ∀ g ∈ settleFields, g.reg / 16 ≠ rxfNoise 0 / 16) g hg
      simp only [hr, rxfNoise] at hnot
      omega
  · simp only [List.mem_cons, List.not_mem_nil, or_false, not_or] at hx
    refine (Device.rd_put_ne _ _ _ _ hx.1).trans ?_
    exact s.dev.rd_noiseStands _ _ _ _ hx.2

section
variable {s : State} (hn : s.dev.NoRemote) (n : Fin 16) (hp : (s.dev.sess n.val).phase = .sending)
include hn hp

/-- The last symbol of a command ends and a reply is expected (R98). -/
theorem commandEnd_expects_completes (he : s.dev.expects n.val = true) :
    Completes (.commandEnd n) s (fun e => (e.sess n.val).phase = .waiting ∧ Device.OnlyRegs [] s.dev e) := by
  have hn' : (commandEnd n.val s.dev).NoRemote := commandEnd_closed noRemote_closed hn
  have heq : commandEnd n.val s.dev = s.dev.modSes n.val (fun s => { s with phase := .waiting }) := by
    simp [commandEnd, hp, he]
  refine completes_act (commandEnd n.val) rfl ?_
  rw [heq] at hn' ⊢
  refine ⟨?_, onlyRegs_settle hn' (fun _ _ => rfl) rfl rfl⟩
  rw [Device.sess_settle _ hn', Device.sess_modSes_self _ _ _ n.isLt]

/-- The last symbol of a command ends, no reply is expected and no access sequence ends with it. -/
theorem commandEnd_quiet_completes (he : s.dev.expects n.val = false) (hacc : (s.dev.sess n.val).acc.ending = false)
    (hrun : (s.dev.sess n.val).run = none ∨ (s.dev.sess n.val).cmd = .nak) :
    Completes (.commandEnd n) s (fun e => (e.sess n.val).phase = .quiet ∧ Device.OnlyRegs [] s.dev e) := by
  have hn' : (commandEnd n.val s.dev).NoRemote := commandEnd_closed noRemote_closed hn
  have heq : commandEnd n.val s.dev = s.dev.modSes n.val (fun s => { s with phase := .quiet }) := by
    unfold commandEnd
    simp only [hp, he, hacc, bne_self_eq_false, Bool.false_eq_true, if_false]
    rcases hrun with h | h
    · rw [h]
      cases (s.dev.sess n.val).cmd <;> rfl
    · rw [h]
  refine completes_act (commandEnd n.val) rfl ?_
  rw [heq] at hn' ⊢
  refine ⟨?_, onlyRegs_settle hn' (fun _ _ => rfl) rfl rfl⟩
  rw [Device.sess_settle _ hn', Device.sess_modSes_self _ _ _ n.isLt]

/-- The command that ends an access sequence has gone out, and its descriptor is over (R94). -/
theorem commandEnd_ending_completes (he : s.dev.expects n.val = false) (hacc : (s.dev.sess n.val).acc.ending = true) :
    Completes (.commandEnd n) s (fun e => (e.sess n.val).phase = .quiet
      ∧ (e.sess n.val).run = none
      ∧ (e.sess n.val).plan = []
      ∧ (e.sess n.val).round.active = false) := by
  have hn' : (commandEnd n.val s.dev).NoRemote := commandEnd_closed noRemote_closed hn
  have heq : commandEnd n.val s.dev = (s.dev.modSes n.val (fun s => { s with phase := .quiet })).accessOver n.val := by
    simp [commandEnd, hp, he, hacc]
  refine completes_act (commandEnd n.val) rfl ?_
  rw [heq] at hn' ⊢
  rw [Device.sess_settle _ hn', Device.accessOver]
  have hdone := posts_sesDone n.val ((s.dev.modSes n.val (fun s => { s with phase := .quiet })).modSes n.val (fun s => { s with run := none }))
  refine ⟨?_, ?_, ?_, ?_⟩
  · rw [hdone.keeps SesSt.phase (fun _ _ _ _ => rfl)]
    simp [Device.sess_modSes_self _ _ _ n.isLt, SesSt.done]
  · rw [hdone.keeps SesSt.run (fun _ _ _ _ => rfl), Device.sess_modSes_self _ _ _ n.isLt]
    rfl
  · rw [hdone.keeps SesSt.plan (fun _ _ _ _ => rfl), Device.sess_modSes_self _ _ _ n.isLt]
    rfl
  · rw [hdone.keeps (fun s => s.round.active) (fun _ _ _ _ => rfl), Device.sess_modSes_self _ _ _ n.isLt]
    rfl

end

/-- Settles O17: commit, delimiter and end of a command, each from its own lemma. -/
theorem commandsOnTheAir : Obligations.CommandsOnTheAir := by
  intro s n hn
  exact ⟨fun c hc hok hq => commandCommit_completes hn n c hc hok hq, queryCommit_completes hn n, commandStart_completes hn n, commandEnd_expects_completes hn n,
    commandEnd_quiet_completes hn n, commandEnd_ending_completes hn n⟩

end Sys2Proof.Machine


namespace Sys2Proof.Machine

/-! ### What the end of a reception, of a round and of a descriptor leave -/

/-! #### Changes of a session's record one after the other -/

/-- Two changes of a session's record are one. -/
theorem Device.modSes_modSes (d : Device) {n : Nat} (hn : n < 16) (f g : SesSt → SesSt) :
    (d.modSes n f).modSes n g = d.modSes n (fun s => g (f s)) := by
  have hf := d.sess_modSes_self n f hn
  unfold Device.modSes at hf ⊢
  dsimp only at hf ⊢
  rw [hf, Vector.setIfInBounds_setIfInBounds]

/-- A change that looks at no message, hold or slot count goes past what a message does. -/
theorem Posts.modSes {l : List Nat} {n : Nat} {d e : Device} (h : Posts l n d e) (hn : n < 16) (f : SesSt → SesSt)
    (hf : ∀ s w o k, f { s with waiting := w, holds := o, opens := k }
      = { f s with waiting := (f { s with waiting := w, holds := o, opens := k }).waiting
                   holds := (f { s with waiting := w, holds := o, opens := k }).holds
                   opens := (f { s with waiting := w, holds := o, opens := k }).opens }) :
    Posts l n (d.modSes n f) (e.modSes n f) := by
  refine ⟨h.regs, fun m hm => ?_, ?_, ?_⟩
  · rw [Device.sess_modSes, Device.sess_modSes, if_neg (fun c => hm c.1), if_neg (fun c => hm c.1), h.others m hm]
  · rw [Device.sess_modSes_self _ _ _ hn, Device.sess_modSes_self _ _ _ hn, h.sess]
    exact hf _ _ _ _
  · rw [h.same]
    rfl

theorem Device.sram_checkpoint (d : Device) (n : Nat) : (d.checkpoint n).sram = d.sram := by simp [Device.checkpoint_eq]

theorem Device.opt_checkpoint (d : Device) (n : Nat) : (d.checkpoint n).opt = d.opt := by simp [Device.checkpoint_eq]

/-! #### Shown measurements -/

/-- From `d` to `e` only the registers of `l` change, and free values may have been taken. -/
structure Shows (l : List Nat) (d e : Device) : Prop where
  regs : ∀ a, a ∉ l → e.rd a = d.rd a
  same : e = { d with regs := e.regs, free := e.free }

theorem Shows.trans {l : List Nat} {d e f : Device} (h : Shows l d e) (g : Shows l e f) : Shows l d f :=
  ⟨fun a ha => (g.regs a ha).trans (h.regs a ha), by rw [g.same, h.same]⟩

theorem Shows.get {l : List Nat} {d e : Device} (h : Shows l d e) (f : Fld) (hf : f.reg ∉ l) : e.get f = d.get f := by
  simp only [Device.get, h.regs _ hf]

theorem Shows.sess {l : List Nat} {d e : Device} (h : Shows l d e) (m : Nat) : e.sess m = d.sess m := by
  rw [h.same]
  rfl

theorem Shows.sram {l : List Nat} {d e : Device} (h : Shows l d e) : e.sram = d.sram := by
  rw [h.same]

theorem Shows.opt {l : List Nat} {d e : Device} (h : Shows l d e) : e.opt = d.opt := by
  rw [h.same]

theorem FreeOnly.shows {d e : Device} (h : FreeOnly d e) (l : List Nat) : Shows l d e := by
  rw [FreeOnly] at h
  refine ⟨fun a _ => ?_, ?_⟩
  · rw [h]
    rfl
  · rw [h]

theorem shows_wr {l : List Nat} (d : Device) {a : Nat} (v : Word) (h : a ∈ l) : Shows l d (d.wr a v) := by
  refine ⟨fun b hb => ?_, rfl⟩
  have hne : b ≠ a := fun hab => hb (hab ▸ h)
  simp [hne]

theorem shows_put {l : List Nat} (d : Device) (f : Fld) (v : Nat) (h : f.reg ∈ l) : Shows l d (d.put f v) := shows_wr d _ h

theorem freeOnly_divNearest (d : Device) (num : Int) (den : Nat) : FreeOnly d (d.divNearest num den).2 := by
  unfold Device.divNearest
  dsimp only
  split
  · rfl
  · split <;> rfl

/-- The measurements of a reception enter RXF.DET and TPRI of the session (R108). -/
theorem shows_rxShow (d : Device) (n tpri : Nat) : Shows [rxfDet n, rxfTpri n] d (d.rxShow n tpri) := by
  have hdet : rxfDet n ∈ [rxfDet n, rxfTpri n] := by simp
  have htpri : rxfTpri n ∈ [rxfDet n, rxfTpri n] := by simp
  unfold Device.rxShow
  dsimp only
  refine Shows.trans ?_ (shows_put _ (fRxfTpriErr n) _ htpri)
  refine Shows.trans ?_ (shows_put _ (fRxfTpriTpri n) _ htpri)
  refine Shows.trans ?_ ((freeOnly_divOpen _ _ _).shows _)
  refine Shows.trans ?_ ((freeOnly_divNearest _ _ _).shows _)
  refine Shows.trans ?_ (shows_wr _ _ hdet)
  exact Shows.trans ((freeOnly_divOpen _ _ _).shows _) ((freeOnly_divOpen _ _ _).shows _)

/-! #### A reception that ends with a reply (R107 … R112) -/

/-- A session that has received a reply of these levels. -/
def SesSt.received (a b : Nat) (s : SesSt) : SesSt := { s with phase := .decided, rx := { s.rx with rssiA := a, rssiB := b } }

theorem posts_sram (l : List Nat) (n : Nat) (d : Device) (m : List (Nat × Byte)) : Posts l n d { d with sram := m } :=
  ⟨fun _ _ => rfl, fun _ _ => rfl, rfl, rfl⟩

/-- A complete reply enters the berth, where the berth's hold may be asked for. -/
theorem posts_berthFill (d : Device) (n : Nat) (r : Reply) : Posts [sesBerth n] n d (d.berthFill n r) := by
  have hput : ∀ (e : Device) (f : Fld) (v : Nat), f.reg = sesBerth n → Posts [sesBerth n] n e (e.put f v) := fun e f v h =>
    posts_put n e f v (by simp [h])
  unfold Device.berthFill
  dsimp only
  split
  · exact .refl _ n d
  · split
    · refine Posts.then ?_ (posts_holdAsk _ n _ 4)
      refine Posts.then ?_ (hput _ (fSesBerthFrozen n) _ rfl)
      refine Posts.then ?_ (hput _ (fSesBerthSet n) _ rfl)
      exact (posts_sram _ n d _).then (hput _ (fSesBerthLen n) _ rfl)
    · refine Posts.then ?_ (hput _ (fSesBerthSet n) _ rfl)
      exact (posts_sram _ n d _).then (hput _ (fSesBerthLen n) _ rfl)

/-- With no freeze asked for, no hold follows. -/
theorem sess_berthFill {d : Device} {n : Nat} (r : Reply) (h : d.on (fSesBerthFreeze n) = false) (m : Nat) : (d.berthFill n r).sess m = d.sess m := by
  have hkept : ∀ (e : Device) (v w : Nat), ((e.put (fSesBerthLen n) v).put (fSesBerthSet n) w).on (fSesBerthFreeze n) = e.on (fSesBerthFreeze n) :=
    fun e v w => on_of_get ((Device.get_put_apart _ _ _ _ (by simp [fSesBerthSet]) (by simp [fSesBerthSet])
      (by simp [fSesBerthSet, fSesBerthFreeze])).trans (Device.get_put_apart _ _ _ _ (by simp [fSesBerthLen]) (by simp [fSesBerthLen])
        (by simp [fSesBerthLen, fSesBerthFreeze])))
  unfold Device.berthFill
  dsimp only
  split
  · rfl
  · rw [Device.putB_eq, if_neg]
    · rfl
    · rw [hkept]
      exact Bool.eq_false_iff.1 h

/-- The device with the reply's measurements shown and its levels taken, before its berth. -/
def Device.rxShown (d : Device) (n : Nat) (r : Reply) : Device :=
  let e := d.rxShow n r.tpri.toNat
  e.modSes n (SesSt.received (replyLevel r.powerA (e.weights (16 + n))) (replyLevel r.powerB (e.weights (32 + n))))

theorem Device.rxEnd_eq (d : Device) (n : Nat) (r : Reply) : d.rxEnd n r = if r.coded then (d.rxShown n r).berthFill n r else d.rxShown n r := rfl

section
variable (d : Device) (n : Nat) (r : Reply)

theorem Device.rd_rxShown (a : Nat) (h : a ∉ [rxfDet n, rxfTpri n]) : (d.rxShown n r).rd a = d.rd a := by
  unfold Device.rxShown
  dsimp only
  rw [Device.rd_modSes, (shows_rxShow d n _).regs a h]

theorem Device.sram_rxShown : (d.rxShown n r).sram = d.sram := by
  unfold Device.rxShown
  dsimp only
  rw [Device.modSes_sram, (shows_rxShow d n _).sram]

theorem Device.opt_rxShown : (d.rxShown n r).opt = d.opt := by
  unfold Device.rxShown
  dsimp only
  rw [Device.modSes_opt, (shows_rxShow d n _).opt]

theorem posts_rxEnd : Posts [sesBerth n] n (d.rxShown n r) (d.rxEnd n r) := by
  rw [d.rxEnd_eq]
  split
  · exact posts_berthFill _ n r
  · exact .refl _ n _

/-- The words a reply is shown in. -/
theorem Device.rd_rxEnd (a : Nat) (h : a ∉ [rxfDet n, rxfTpri n, sesBerth n]) : (d.rxEnd n r).rd a = d.rd a := by
  simp only [List.mem_cons, List.not_mem_nil, or_false, not_or] at h
  obtain ⟨hdet, htpri, hberth⟩ := h
  rw [(posts_rxEnd d n r).regs a (by simp [hberth]), d.rd_rxShown n r a (by simp [hdet, htpri])]

theorem Device.get_rxEnd (f : Fld) (h : f.reg ∉ [rxfDet n, rxfTpri n, sesBerth n]) : (d.rxEnd n r).get f = d.get f := by
  simp only [Device.get, d.rd_rxEnd n r _ h]

variable {n}

theorem Device.sess_rxShown (hn : n < 16) : ∃ a b, (d.rxShown n r).sess n = (d.sess n).received a b := by
  unfold Device.rxShown
  dsimp only
  rw [Device.sess_modSes_self _ _ _ hn, (shows_rxShow d n _).sess]
  exact ⟨_, _, rfl⟩

/-- What the end of a reception leaves of the session's record. -/
theorem Device.sess_rxEnd {α : Type} (hn : n < 16) (g : SesSt → α) (hp : ∀ s w o k, g { s with waiting := w, holds := o, opens := k } = g s)
    (hr : ∀ a b, g ((d.sess n).received a b) = g (d.sess n)) : g ((d.rxEnd n r).sess n) = g (d.sess n) := by
  obtain ⟨a, b, hshown⟩ := d.sess_rxShown r hn
  rw [(posts_rxEnd d n r).keeps g hp, hshown, hr]

theorem Device.phase_rxEnd (hn : n < 16) : ((d.rxEnd n r).sess n).phase = .decided := by
  obtain ⟨a, b, hshown⟩ := d.sess_rxShown r hn
  rw [(posts_rxEnd d n r).keeps SesSt.phase (fun _ _ _ _ => rfl), hshown]
  rfl

/-- A reply that breaks the coding rules does not enter the berth. -/
theorem Device.rxEnd_uncoded (h : r.coded = false) : d.rxEnd n r = d.rxShown n r := by
  rw [d.rxEnd_eq, if_neg (by simp [h])]

end

/-! #### Rounds and descriptors that end -/

/-- A session whose round has ended. -/
def SesSt.roundEnded (s : SesSt) : SesSt := { s with round := {}, plan := [], single := false }

/-- A round in progress ends: counted, and reported in a message (R91). -/
theorem posts_endRound {d : Device} {n : Nat} (h : (d.sess n).round.active = true) (i p l : Bool) :
    Posts (msgRegs n) n ((d.addWrap (fWord (sesRounds n)) 1).modSes n SesSt.roundEnded) (d.endRound n i p l) := by
  unfold Device.endRound
  simp only [h, Bool.not_true, Bool.false_eq_true, if_false]
  exact posts_postMsg n _ _

theorem endRound_idle {d : Device} {n : Nat} (h : (d.sess n).round.active = false) (i p l : Bool) : d.endRound n i p l = d := by
  simp [Device.endRound, h]

/-- The running descriptor retires with those chained to it, and the session goes on (R144). -/
theorem posts_retireRun {d : Device} {n : Nat} (hn : n < 16) {x : Desc} (h : (d.sess n).run = some x) (code detail : Nat) :
    Posts (flightRegs n) n (d.modSes n SesSt.done) (d.retireRun n code detail) := by
  have hchain := posts_forAll (l := flightRegs n) (n := n) (fun e (y : Desc) => posts_retire n e y (if code = 5 then 5 else 0x15) 0) (d.sess n).chain
    ((d.modSes n (fun s => { s with run := none, chain := [] })).retire n x code detail)
  have hdone := ((posts_retire n (d.modSes n (fun s => { s with run := none, chain := [] })) x code detail).then hchain).modSes hn SesSt.done
    (fun _ _ _ _ => rfl)
  rw [Device.modSes_modSes _ hn] at hdone
  have hrun := hdone.then (posts_sesDone n _)
  unfold Device.retireRun
  dsimp only
  rw [h]
  exact hrun

end Sys2Proof.Machine


namespace Sys2Proof.Machine

/-! ### Rounds and access sequences (R88, R91, R94, R95) -/

/-! #### The round -/

/-- From `d` to `e` the round of session `n` has ended and is counted. -/
structure RoundCounted (n : Nat) (d e : Device) : Prop where
  counted : e.get (fWord (sesRounds n)) = (d.get (fWord (sesRounds n)) + 1) % 2 ^ 32
  idle : (e.sess n).round.active = false
  plan : (e.sess n).plan = []

/-- A change of the session's record that starts no round and plans no command. -/
theorem RoundCounted.modSes {n : Nat} {d e : Device} (h : RoundCounted n d e) (hn : n < 16) (f : SesSt → SesSt)
    (hr : (f (e.sess n)).round.active = (e.sess n).round.active) (hp : (f (e.sess n)).plan = (e.sess n).plan) : RoundCounted n d (e.modSes n f) := by
  refine ⟨h.counted, ?_, ?_⟩
  · rw [Device.sess_modSes_self _ _ _ hn, hr, h.idle]
  · rw [Device.sess_modSes_self _ _ _ hn, hp, h.plan]

theorem RoundCounted.posts {l : List Nat} {n : Nat} {d e f : Device} (h : RoundCounted n d e) (g : Posts l n e f) (hl : sesRounds n ∉ l) :
    RoundCounted n d f := by
  refine ⟨?_, ?_, ?_⟩
  · rw [g.get (fWord (sesRounds n)) hl, h.counted]
  · rw [g.keeps (fun s => s.round.active) (fun _ _ _ _ => rfl), h.idle]
  · rw [g.keeps SesSt.plan (fun _ _ _ _ => rfl), h.plan]

theorem sesRounds_not_mem_flightRegs {n : Nat} (hn : n < 16) : sesRounds n ∉ flightRegs n := by
  refine not_mem_flightRegs hn ?_ ?_ ?_ <;> simp only [sesRounds, sesStat, pageStat, wordAt] <;> omega

section
variable {n : Nat} (hn : n < 16) {d e : Device}
include hn

/-- The end of the descriptor leaves the round as it ended. -/
theorem RoundCounted.done (h : RoundCounted n d e) : RoundCounted n d (e.modSes n SesSt.done) := by
  refine ⟨h.counted, ?_, ?_⟩ <;> rw [Device.sess_modSes_self _ _ _ hn] <;> rfl

theorem RoundCounted.sesDone (h : RoundCounted n d e) : RoundCounted n d (e.sesDone n) :=
  (h.done hn).posts (posts_sesDone n e) (sesRounds_not_mem_flightRegs hn)

theorem RoundCounted.retireRun (h : RoundCounted n d e) (code detail : Nat) : RoundCounted n d (e.retireRun n code detail) := by
  cases hrun : (e.sess n).run with
  | none =>
    have heq : e.retireRun n code detail = e := by simp [Device.retireRun, hrun]
    rwa [heq]
  | some x => exact (h.done hn).posts (posts_retireRun hn hrun code detail) (sesRounds_not_mem_flightRegs hn)

/-- So does the start of the next round's wait. -/
theorem RoundCounted.nextRound (h : RoundCounted n d e) : RoundCounted n d (e.nextRound n) := by
  have hstate : sesRounds n ∉ stateRegs n := fun hm => sesRounds_not_mem_flightRegs hn (by simp [flightRegs, hm])
  have hne : (fWord (sesRounds n)).reg ≠ (fSesTrigPending n).reg := by
    simp only [fWord, fSesTrigPending, sesRounds, sesTrig]
    omega
  unfold Device.nextRound
  split
  · exact h
  · split
    · have hput : RoundCounted n d (e.put (fSesTrigPending n) 0) := by
        refine ⟨?_, h.idle, h.plan⟩
        rw [Device.get_put_ne _ _ _ _ hne, h.counted]
      exact hput.modSes hn _ rfl rfl
    · exact h.posts (posts_sesGo n e 3 0) hstate

/-- The end of a round counts it (R91). -/
theorem roundCounted_endRound (h : (d.sess n).round.active = true) (i p l : Bool) : RoundCounted n d (d.endRound n i p l) := by
  have hcount : RoundCounted n d ((d.addWrap (fWord (sesRounds n)) 1).modSes n SesSt.roundEnded) := by
    refine ⟨Device.get_put_same d (fWord (sesRounds n)) _ (by simp [fWord]) (by simp [fWord]), ?_, ?_⟩ <;>
      rw [Device.sess_modSes_self _ _ _ hn] <;> rfl
  refine hcount.posts (posts_endRound h i p l) (not_mem_msgRegs hn ?_)
  rw [sesRounds]
  omega

/-- A whole round ends (R91), whichever descriptor runs it. -/
theorem roundCounted_finishRound (h : (d.sess n).round.active = true) (x : Desc) : RoundCounted n d (d.finishRound n x) := by
  unfold Device.finishRound
  dsimp only
  generalize hflip : d.when ((d.sess n).inv.getLsbD 10 && decide ((d.sess n).round.singles = 0))
    (fun d => d.putB (fSesInvTarget n) (!d.on (fSesInvTarget n))) = e
  have hne : (fWord (sesRounds n)).reg ≠ (fSesInvTarget n).reg := by
    simp only [fWord, fSesInvTarget, sesRounds, sesInv]
    omega
  obtain ⟨hactive, hrounds⟩ : (e.sess n).round.active = true ∧ e.get (fWord (sesRounds n)) = d.get (fWord (sesRounds n)) := by
    rw [← hflip]
    unfold Device.when
    split
    · exact ⟨h, Device.get_put_ne _ _ _ _ hne⟩
    · exact ⟨h, rfl⟩
  suffices hcount : RoundCounted n e _ from ⟨hcount.counted.trans (by rw [hrounds]), hcount.idle, hcount.plan⟩
  have hend := fun l => roundCounted_endRound hn hactive false false l
  clear hflip
  split
  · split
    · exact RoundCounted.sesDone hn (RoundCounted.modSes (hend _) hn _ rfl rfl)
    · split
      · exact RoundCounted.modSes (RoundCounted.modSes (hend _) hn _ rfl rfl) hn _ rfl rfl
      · exact RoundCounted.nextRound hn (RoundCounted.modSes (hend _) hn _ rfl rfl)
  · exact RoundCounted.modSes (hend _) hn _ rfl rfl
  · split
    · exact RoundCounted.retireRun hn (RoundCounted.modSes (hend _) hn _ rfl rfl) _ _
    · exact RoundCounted.modSes (hend _) hn _ rfl rfl

end

section
variable {s : State} (hn : s.dev.NoRemote) (n : Fin 16) {x : Desc} (hrun : (s.dev.sess n.val).run = some x)
include hn hrun

/-- A due round begins with its Selects and Query planned and no slot opened (R88). -/
theorem roundStart_completes (plan : List AirCmd) (hidle : (s.dev.sess n.val).round.active = false) (hholds : (s.dev.sess n.val).holds = [])
    (hdue : s.dev.roundDue n.val x = true) (hquiet : s.dev.sesQuiet n.val = true) (hcar : s.dev.carState (s.dev.sesCar n.val) = 6)
    (hturn : s.dev.hasTurn n.val = true ∨ s.dev.alone n.val = true) (hplan : s.dev.roundPlan n.val x = some plan)
    (hstate : s.dev.sesState n.val ≠ 3) :
    Completes (.roundStart n) s (fun e => (e.sess n.val).round.active = true
      ∧ (e.sess n.val).plan = plan
      ∧ (e.sess n.val).slots = 0
      ∧ (e.sess n.val).round.opened = 0
      ∧ (e.sess n.val).round.singles = 0
      ∧ Device.OnlyRegs [] s.dev e) := by
  have hn' : (roundStart n.val s.dev).NoRemote := roundStart_closed noRemote_closed hn
  have hclaim : s.dev.claimTurn n.val = s.dev := by
    rcases hturn with h | h <;> simp [Device.claimTurn, h]
  have heq : roundStart n.val s.dev = s.dev.modSes n.val (fun t => { t with
      plan := plan, slots := 0, single := false, phase := .quiet
      round := { active := true, triggered := (s.dev.sess n.val).round.triggered } }) := by
    unfold roundStart
    simp only [hrun, hidle, hholds, hdue, hquiet, hcar, hclaim, hplan, hstate, List.isEmpty_nil, Bool.not_true, Bool.or_false, bne_self_eq_false,
      Bool.false_eq_true, if_false, decide_false, Device.when_false]
    rfl
  refine completes_act (roundStart n.val) rfl ?_
  rw [heq] at hn' ⊢
  rw [Device.sess_settle _ hn', Device.sess_modSes_self _ _ _ n.isLt]
  exact ⟨rfl, rfl, rfl, rfl, rfl, onlyRegs_settle hn' (fun _ _ => rfl) rfl rfl⟩

/-- The first quiet point after a round's 2^Q slots ends it (R91). -/
theorem roundEnd_completes (hover : s.dev.roundOver n.val = true) (hquiet : s.dev.sesQuiet n.val = true)
    (hacc : (s.dev.sess n.val).acc.running = false) (hready : (s.dev.sess n.val).acc.ready = false) (hlo : 4 ≤ s.dev.sesState n.val)
    (hhi : s.dev.sesState n.val ≤ 8) :
    Completes (.roundEnd n) s (fun e => e.get (fWord (sesRounds n.val)) = (s.dev.get (fWord (sesRounds n.val)) + 1) % 2 ^ 32
      ∧ (e.sess n.val).round.active = false
      ∧ (e.sess n.val).plan = []) := by
  have hn' : (roundEnd n.val s.dev).NoRemote := roundEnd_closed noRemote_closed hn
  have heq : roundEnd n.val s.dev = s.dev.finishRound n.val x := by
    simp [roundEnd, hrun, hover, hquiet, hacc, hready, hlo, hhi]
  have hactive : (s.dev.sess n.val).round.active = true := by
    simp only [Device.roundOver, Bool.and_eq_true] at hover
    exact hover.1.1.1.1
  refine completes_act (roundEnd n.val) rfl ?_
  rw [heq] at hn' ⊢
  obtain ⟨hcount, hidle, hplan⟩ := roundCounted_finishRound n.isLt hactive x
  rw [Device.sess_settle _ hn', settle_get _ hn' _ (settles_of_page (by simp only [fWord, sesRounds]; omega))]
  exact ⟨hcount, hidle, hplan⟩

end

/-! #### The access sequence -/

/-- The command of the present step is planned. -/
theorem planStep_eq {d : Device} {n : Nat} {x : Desc} {st : AccStep} {rest : List AccStep} (hrun : (d.sess n).run = some x)
    (hsteps : (d.sess n).acc.steps = st :: rest) : d.planStep n = d.modSes n (fun s => { s with plan := [d.stepCmd n x st] }) := by
  unfold Device.planStep
  simp only [hrun, hsteps]

/-- The session's record where a failed step is to be repeated, with its cover asked for afresh (R95). -/
def SesSt.retried (x : Desc) (st : AccStep) (rest : List AccStep) (s : SesSt) : SesSt :=
  { s with acc := { s.acc with tries := s.acc.tries + 1, steps := if st.covered x then .cover :: st :: rest else st :: rest } }

/-- A failed step is repeated while tries are left. -/
theorem accFail_retries {d : Device} {n : Nat} (hn : n < 16) {x : Desc} {st : AccStep} {rest : List AccStep} (hrun : (d.sess n).run = some x)
    (hsteps : (d.sess n).acc.steps = st :: rest) (htries : (d.sess n).acc.tries < bitsOf (d.sess n).rxcfg 5 4) :
    ∃ plan, d.accFail n = d.modSes n (fun s => { s.retried x st rest with plan := plan }) := by
  have heq : d.accFail n = (d.modSes n (SesSt.retried x st rest)).planStep n := by
    unfold Device.accFail
    simp only [hrun, hsteps, htries, if_true]
    rfl
  obtain ⟨st', rest', hcons⟩ : ∃ st' rest', (if st.covered x then AccStep.cover :: st :: rest else st :: rest) = st' :: rest' := by
    split <;> exact ⟨_, _, rfl⟩
  have hplan := planStep_eq (d := d.modSes n (SesSt.retried x st rest)) (n := n) (x := x) (st := st') (rest := rest')
    (by rw [Device.sess_modSes_self _ _ _ hn]; exact hrun) (by rw [Device.sess_modSes_self _ _ _ hn]; exact hcons)
  exact ⟨_, heq.trans (hplan.trans (Device.modSes_modSes _ hn _ _))⟩

/-- The session's record with a handle just received and the first step next. -/
def SesSt.handled (v : Nat) (steps : List AccStep) (s : SesSt) : SesSt :=
  { s with acc := { s.acc with handle := some v, steps := steps, tries := 0 } }

/-- A valid handle is taken, and the first step is planned (R94). -/
theorem accJudge_handle {d : Device} {n : Nat} (hn : n < 16) {x : Desc} {st : AccStep} {rest : List AccStep} {bits : List Bool}
    (hrun : (d.sess n).run = some x) (hsteps : (d.sess n).acc.steps = .handle :: st :: rest) (hlen : bits.length = 32) (hcrc : crcHolds bits = true) :
    ∃ plan, d.accJudge n true bits = d.modSes n (fun s => { s.handled (bitNat (bits.take 16)) (st :: rest) with plan := plan }) := by
  let e := d.modSes n (fun s => { s with acc := { s.acc with handle := some (bitNat (bits.take 16)) } })
  have hsess : e.sess n = _ := Device.sess_modSes_self _ _ _ hn
  have heq : d.accJudge n true bits = e.accStepDone n x [] := by
    unfold Device.accJudge
    simp only [hrun, hsteps, hlen, hcrc, Bool.not_true, Bool.false_eq_true, if_false, bne_self_eq_false, if_true]
    rfl
  have hdone : e.accStepDone n x [] = (d.modSes n (SesSt.handled (bitNat (bits.take 16)) (st :: rest))).planStep n := by
    unfold Device.accStepDone
    simp only [hsess, hsteps, List.isEmpty_cons, Bool.false_eq_true, if_false, e, Device.modSes_modSes _ hn]
    rfl
  have hplan := planStep_eq (d := d.modSes n (SesSt.handled (bitNat (bits.take 16)) (st :: rest))) (n := n) (x := x) (st := st) (rest := rest)
    (by rw [Device.sess_modSes_self _ _ _ hn]; exact hrun) (by rw [Device.sess_modSes_self _ _ _ hn]; rfl)
  exact ⟨_, heq.trans (hdone.trans (hplan.trans (Device.modSes_modSes _ hn _ _)))⟩

section
variable {s : State} (hn : s.dev.NoRemote) (n : Fin 16) {x : Desc} (hrun : (s.dev.sess n.val).run = some x)
include hn hrun

/-- The sequence begins with its Req_RN once the target is singulated (R94). -/
theorem accessSequenceStart_completes (hready : (s.dev.sess n.val).acc.ready = true) (hholds : (s.dev.sess n.val).holds = [])
    (hman : s.dev.man.queue = []) :
    Completes (.accessSequenceStart n) s (fun e => (e.sess n.val).acc.running = true
      ∧ (e.sess n.val).acc.ready = false
      ∧ (e.sess n.val).acc.steps = .handle :: x.opSteps
      ∧ (e.sess n.val).acc.tries = 0
      ∧ (e.sess n.val).plan = [.reqRn (s.dev.sess n.val).rn16]
      ∧ Device.OnlyRegs [] s.dev e) := by
  have hn' : (accessSequenceStart n.val s.dev).NoRemote := accessSequenceStart_closed noRemote_closed hn
  let d := s.dev.modSes n.val (fun s => { s with acc := { s.acc with ready := false, running := true, steps := .handle :: x.opSteps, tries := 0 } })
  have hsess : d.sess n.val = _ := Device.sess_modSes_self _ _ _ n.isLt
  have heq : accessSequenceStart n.val s.dev = d.planStep n.val := by
    unfold accessSequenceStart
    simp only [hrun, hready, hholds, hman, List.any_nil, List.isEmpty_nil, Bool.not_true, Bool.or_false, Bool.false_eq_true, if_false]
    rfl
  refine completes_act (accessSequenceStart n.val) rfl ?_
  rw [heq, planStep_eq (x := x) (st := .handle) (rest := x.opSteps) (by rw [hsess]; exact hrun) (by rw [hsess])] at hn' ⊢
  rw [Device.sess_settle _ hn', Device.sess_modSes_self _ _ _ n.isLt, hsess]
  refine ⟨rfl, rfl, rfl, rfl, ?_, onlyRegs_settle hn' (fun _ _ => rfl) rfl rfl⟩
  simp only [Device.stepCmd, hsess]

section
variable {r : Reply} {st : AccStep} {rest : List AccStep} (hphase : (s.dev.sess n.val).phase = .receiving)
  (hrunning : (s.dev.sess n.val).acc.running = true)
include hphase hrunning

omit hn hrun in
theorem accessReplyDecision_eq : accessReplyDecision n.val r s.dev
    = ((s.dev.rxEnd n.val r).accJudge n.val r.coded r.bits).checkpoint n.val := by
  simp [accessReplyDecision, hphase, hrunning]

/-- A valid handle takes the sequence to its first step (R94). -/
theorem accessReply_handle_completes (hsteps : (s.dev.sess n.val).acc.steps = .handle :: st :: rest) (hcoded : r.coded = true)
    (hlen : r.bits.length = 32) (hcrc : crcHolds r.bits = true) :
    Completes (.accessReplyDecision n r) s (fun e => (e.sess n.val).acc.handle = some (bitNat (r.bits.take 16))
      ∧ (e.sess n.val).acc.steps = st :: rest
      ∧ (e.sess n.val).phase = .decided) := by
  have hn' : (accessReplyDecision n.val r s.dev).NoRemote := accessReplyDecision_closed noRemote_closed hn
  refine completes_act (accessReplyDecision n.val r) rfl ?_
  have hrun' := (s.dev.sess_rxEnd r n.isLt SesSt.run (fun _ _ _ _ => rfl) (fun _ _ => rfl)).trans hrun
  have hsteps' := (s.dev.sess_rxEnd r n.isLt (fun t => t.acc.steps) (fun _ _ _ _ => rfl) (fun _ _ => rfl)).trans hsteps
  obtain ⟨plan, hjudge⟩ := accJudge_handle n.isLt hrun' hsteps' hlen hcrc
  rw [accessReplyDecision_eq n hphase hrunning, hcoded, hjudge] at hn' ⊢
  have hkeep := fun {α : Type} => SesSt.keep_keeps (α := α)
  rw [Device.sess_settle _ hn', Device.sess_checkpoint _ n.isLt, hkeep _ _ (fun t => t.acc.handle) (fun _ _ => rfl) (fun _ _ => rfl),
    hkeep _ _ (fun t => t.acc.steps) (fun _ _ => rfl) (fun _ _ => rfl), hkeep _ _ SesSt.phase (fun _ _ => rfl) (fun _ _ => rfl),
    Device.sess_modSes_self _ _ _ n.isLt]
  exact ⟨rfl, rfl, s.dev.phase_rxEnd r n.isLt⟩

/-- A failed reply repeats the step while tries are left (R95). -/
theorem accessReply_failed_completes (hsteps : (s.dev.sess n.val).acc.steps = st :: rest) (hcoded : r.coded = false)
    (htries : (s.dev.sess n.val).acc.tries < bitsOf (s.dev.sess n.val).rxcfg 5 4) :
    Completes (.accessReplyDecision n r) s (fun e => (e.sess n.val).acc.tries = (s.dev.sess n.val).acc.tries + 1
      ∧ (e.sess n.val).phase = .decided
      ∧ (e.sess n.val).acc.steps = (if st.covered x then .cover :: st :: rest else st :: rest)
      ∧ Device.OnlyRegs [rxfDet n.val, rxfTpri n.val, pilCkpts (s.dev.get (fSesStatPilot n.val))] s.dev e) := by
  have hn' : (accessReplyDecision n.val r s.dev).NoRemote := accessReplyDecision_closed noRemote_closed hn
  refine completes_act (accessReplyDecision n.val r) rfl ?_
  have hkeeps := fun {α : Type} => s.dev.sess_rxEnd (α := α) r n.isLt
  have hrun' := (hkeeps SesSt.run (fun _ _ _ _ => rfl) (fun _ _ => rfl)).trans hrun
  have hsteps' := (hkeeps (fun t => t.acc.steps) (fun _ _ _ _ => rfl) (fun _ _ => rfl)).trans hsteps
  have htries' := hkeeps (fun t => t.acc.tries) (fun _ _ _ _ => rfl) (fun _ _ => rfl)
  have hrxcfg' := hkeeps SesSt.rxcfg (fun _ _ _ _ => rfl) (fun _ _ => rfl)
  obtain ⟨plan, hfail⟩ := accFail_retries n.isLt hrun' hsteps' (by rw [htries', hrxcfg']; exact htries)
  have hjudge : (s.dev.rxEnd n.val r).accJudge n.val r.coded r.bits = (s.dev.rxEnd n.val r).accFail n.val := by
    unfold Device.accJudge
    simp only [hrun', hsteps', hcoded, Bool.not_false, if_true]
  have hpilot : (s.dev.rxEnd n.val r).get (fSesStatPilot n.val) = s.dev.get (fSesStatPilot n.val) := by
    refine s.dev.get_rxEnd n.val r _ ?_
    simp only [fSesStatPilot, List.mem_cons, List.not_mem_nil, or_false, not_or, sesStat, rxfDet, rxfTpri, sesBerth]
    omega
  rw [accessReplyDecision_eq n hphase hrunning, hjudge, hfail] at hn' ⊢
  have hkeep := fun {α : Type} => SesSt.keep_keeps (α := α)
  rw [Device.sess_settle _ hn', Device.sess_checkpoint _ n.isLt, hkeep _ _ (fun t => t.acc.tries) (fun _ _ => rfl) (fun _ _ => rfl),
    hkeep _ _ (fun t => t.acc.steps) (fun _ _ => rfl) (fun _ _ => rfl), hkeep _ _ SesSt.phase (fun _ _ => rfl) (fun _ _ => rfl),
    Device.sess_modSes_self _ _ _ n.isLt]
  refine ⟨congrArg (· + 1) htries', s.dev.phase_rxEnd r n.isLt, rfl, onlyRegs_settle hn' (fun a ha => ?_) ?_ ?_⟩
  · simp only [List.mem_cons, List.not_mem_nil, or_false, not_or] at ha
    rw [Device.rd_checkpoint, Device.rd_modSes, s.dev.rxEnd_uncoded r hcoded, s.dev.rd_rxShown n.val r a (by simp [ha])]
    rw [Device.get_modSes, hpilot]
    exact ha.2.2
  · rw [Device.sram_checkpoint, Device.modSes_sram, s.dev.rxEnd_uncoded r hcoded, s.dev.sram_rxShown]
  · rw [Device.opt_checkpoint, Device.modSes_opt, s.dev.rxEnd_uncoded r hcoded, s.dev.opt_rxShown]

end

end

/-- Settles O20: the start and end of a round, and of an access sequence its start and the replies to its steps, each from its own lemma. -/
theorem roundsAndAccessSequences : Obligations.RoundsAndAccessSequences := by
  intro s hn
  refine ⟨fun n x hrun => ⟨roundStart_completes hn n hrun, roundEnd_completes hn n hrun⟩, fun n x hrun => ⟨?_, fun r st rest => ?_, fun r st rest => ?_⟩⟩
  · exact accessSequenceStart_completes hn n hrun
  · exact accessReply_handle_completes hn n hrun
  · exact accessReply_failed_completes hn n hrun

end Sys2Proof.Machine


namespace Sys2Proof.Machine

/-! ### The slots of a round (R89, R90, R102, R107, R148) -/

/-! #### How a slot counts -/

/-- A session with an empty slot decided: Qfp falls (R90). -/
def SesSt.emptySlot (s : SesSt) : SesSt :=
  { s with qfp := max (16 * bitsOf s.qctrl 11 8) (s.qfp - bitsOf s.qctrl 3 0), round := { s.round with empties := s.round.empties + 1 } }

/-- A session with a collided slot decided: Qfp rises (R90). -/
def SesSt.collidedSlot (s : SesSt) : SesSt :=
  { s with qfp := min (16 * bitsOf s.qctrl 15 12) (s.qfp + bitsOf s.qctrl 7 4), round := { s.round with collisions := s.round.collisions + 1 } }

theorem slotDecided_empty (d : Device) (n : Nat) : d.slotDecided n .empty = (d.count (fHalf (sesEmpty n))).modSes n SesSt.emptySlot := rfl

theorem slotDecided_collided (d : Device) (n : Nat) :
    d.slotDecided n .collided = (d.count (fHalf (sesCollided n))).modSes n SesSt.collidedSlot := rfl

/-- No valid reply to a command that opened a slot decides the slot. -/
theorem noReply_opens {d : Device} {n : Nat} (hacc : (d.sess n).acc.running = false) (hopens : (d.sess n).cmd.opens = true) (empty : Bool) :
    d.noReply n empty = d.slotDecided n (if empty then .empty else .collided) := by
  unfold Device.noReply
  dsimp only
  rw [if_neg (by simp [hacc])]
  split
  · next h => simp [h, AirCmd.opens] at hopens
  · rw [if_pos hopens]

/-- The room in a ring is told by the words of its page. -/
theorem mFree_congr {d e : Device} {n : Nat} (hn : n < 16) (h : ∀ a, a / 1024 = 0x19 → e.rd a = d.rd a) : e.mFree n = d.mFree n := by
  have hcfg := h (ringCfg n) (by rw [ringCfg]; omega)
  have htail := h (ringMtail n) (by rw [ringMtail]; omega)
  have hhead := h (ringMhead n) (by rw [ringMhead]; omega)
  simp only [Device.mFree, Device.mDepth, Device.mUsed, Device.index, Device.get, fRingCfgMdepth, hcfg, htail, hhead]

/-- An RN16 is acknowledged where the ring has room and no hold stands. -/
theorem rn16Decided_acks {d : Device} {n : Nat} (hn : n < 16) (rn : Nat) (hroom : 8 ≤ d.mFree n) (hholds : (d.sess n).holds = []) :
    d.rn16Decided n rn = d.modSes n (fun s => { s with rn16 := rn, retry := 0, plan := [.ack rn] }) := by
  have hfree : (d.modSes n (fun s => { s with rn16 := rn, retry := 0 })).mFree n = d.mFree n := rfl
  unfold Device.rn16Decided
  dsimp only
  rw [hfree, if_neg (by omega), hholds, if_neg (by simp), Device.modSes_modSes _ hn]

/-- A counter of a session's page lies beyond what settling reaches. -/
theorem settles_sesHalf {a : Nat} (h : 0x80 * 1024 ≤ a) : (fHalf a).settles = true := settles_of_page (by simp only [fHalf]; omega)

section
variable {s : State} (hn : s.dev.NoRemote) (n : Fin 16) (hacc : (s.dev.sess n.val).acc.running = false)
include hn hacc

section
variable (hopens : (s.dev.sess n.val).cmd.opens = true)
include hopens

/-- An empty slot is decided (R89, R102). -/
theorem emptySlotDecision_completes (hphase : (s.dev.sess n.val).phase = .closed) (hstate : s.dev.sesState n.val ≠ 8) :
    Completes (.emptySlotDecision n) s (fun e => e.get (fHalf (sesEmpty n.val)) = min (s.dev.get (fHalf (sesEmpty n.val)) + 1) 0xFFFF
      ∧ (e.sess n.val).phase = .quiet
      ∧ (e.sess n.val).qfp = max (16 * bitsOf (s.dev.sess n.val).qctrl 11 8) ((s.dev.sess n.val).qfp - bitsOf (s.dev.sess n.val).qctrl 3 0)
      ∧ (e.sess n.val).round.empties = (s.dev.sess n.val).round.empties + 1
      ∧ Device.OnlyRegs [sesEmpty n.val] s.dev e) := by
  have hn' : (emptySlotDecision n.val s.dev).NoRemote := emptySlotDecision_closed noRemote_closed hn
  let d := s.dev.modSes n.val (fun s => { s with phase := .quiet })
  have hsess : d.sess n.val = _ := Device.sess_modSes_self _ _ _ n.isLt
  have hreply : d.noReply n.val true = (d.count (fHalf (sesEmpty n.val))).modSes n.val SesSt.emptySlot :=
    (noReply_opens (by rw [hsess]; exact hacc) (by rw [hsess]; exact hopens) true).trans (slotDecided_empty d n.val)
  have hkept : ((d.count (fHalf (sesEmpty n.val))).modSes n.val SesSt.emptySlot).sesState n.val = s.dev.sesState n.val := by
    refine Device.get_put_ne _ _ _ _ ?_
    simp only [fPsState, fHalf, pageStat, sesEmpty, wordAt]
    omega
  have heq : emptySlotDecision n.val s.dev = (d.count (fHalf (sesEmpty n.val))).modSes n.val SesSt.emptySlot := by
    unfold emptySlotDecision
    rw [if_neg (by simp [hphase])]
    change (d.noReply n.val true).when _ _ = _
    rw [hreply, hkept]
    simp [hstate]
  refine completes_act (emptySlotDecision n.val) rfl ?_
  rw [heq] at hn' ⊢
  rw [Device.sess_settle _ hn', Device.sess_modSes_self _ _ _ n.isLt, Device.count_eq, Device.sess_put, hsess]
  refine ⟨get_half_settle hn' (settles_sesHalf (by rw [sesEmpty]; omega)) rfl, rfl, rfl, rfl, onlyRegs_settle hn' (fun a ha => ?_) rfl rfl⟩
  exact d.rd_count_ne (fHalf (sesEmpty n.val)) a (fun h => ha (List.mem_singleton.2 h))

/-- A reception that is lost is a collided slot (R107). -/
theorem receptionFailed_completes (tpri : BitVec 32) (hphase : (s.dev.sess n.val).phase = .receiving) :
    Completes (.receptionFailed n tpri) s (fun e =>
      e.get (fHalf (sesCollided n.val)) = min (s.dev.get (fHalf (sesCollided n.val)) + 1) 0xFFFF
      ∧ (e.sess n.val).phase = .decided
      ∧ (e.sess n.val).round.collisions = (s.dev.sess n.val).round.collisions + 1
      ∧ (e.sess n.val).qfp = min (16 * bitsOf (s.dev.sess n.val).qctrl 15 12) ((s.dev.sess n.val).qfp + bitsOf (s.dev.sess n.val).qctrl 7 4)
      ∧ Device.OnlyRegs [sesCollided n.val, rxfDet n.val, rxfTpri n.val] s.dev e) := by
  have hn' : (receptionFailed n.val tpri.toNat s.dev).NoRemote := receptionFailed_closed noRemote_closed hn
  have hshow := shows_rxShow s.dev n.val tpri.toNat
  obtain ⟨d, hd⟩ : ∃ d, (s.dev.rxShow n.val tpri.toNat).modSes n.val (fun s => { s with phase := .decided }) = d := ⟨_, rfl⟩
  have hsess : d.sess n.val = { s.dev.sess n.val with phase := .decided } := by
    rw [← hd, Device.sess_modSes_self _ _ _ n.isLt, hshow.sess]
  have hregs : ∀ a, a ∉ [rxfDet n.val, rxfTpri n.val] → d.rd a = s.dev.rd a := fun a ha => by
    rw [← hd, Device.rd_modSes, hshow.regs a ha]
  have hreply : d.noReply n.val false = (d.count (fHalf (sesCollided n.val))).modSes n.val SesSt.collidedSlot :=
    (noReply_opens (by rw [hsess]; exact hacc) (by rw [hsess]; exact hopens) false).trans (slotDecided_collided d n.val)
  have heq : receptionFailed n.val tpri.toNat s.dev = (d.count (fHalf (sesCollided n.val))).modSes n.val SesSt.collidedSlot := by
    unfold receptionFailed
    rw [if_neg (by simp [hphase]), hd, hreply]
  have hget : d.get (fHalf (sesCollided n.val)) = s.dev.get (fHalf (sesCollided n.val)) := by
    simp only [Device.get, fHalf]
    rw [hregs]
    simp only [List.mem_cons, List.not_mem_nil, or_false, not_or, sesCollided, rxfDet, rxfTpri]
    omega
  refine completes_act (receptionFailed n.val tpri.toNat) rfl ?_
  rw [heq] at hn' ⊢
  rw [Device.sess_settle _ hn', Device.sess_modSes_self _ _ _ n.isLt, Device.count_eq, Device.sess_put, hsess, ← hget]
  refine ⟨get_half_settle hn' (settles_sesHalf (by rw [sesCollided]; omega)) rfl, rfl, rfl, rfl, onlyRegs_settle hn' (fun a ha => ?_) ?_ ?_⟩
  · simp only [List.mem_cons, List.not_mem_nil, or_false, not_or] at ha
    obtain ⟨hcoll, hdet, htpri⟩ := ha
    exact (d.rd_count_ne (fHalf (sesCollided n.val)) a hcoll).trans (hregs a (by simp [hdet, htpri]))
  · rw [Device.modSes_sram, Device.put_sram, ← hd, Device.modSes_sram, hshow.sram]
  · rw [Device.modSes_opt, Device.put_opt, ← hd, Device.modSes_opt, hshow.opt]

section
variable {r : Reply} (hphase : (s.dev.sess n.val).phase = .receiving)
include hphase

omit hn in
/-- A reply in a slot just opened is an RN16 or a collision (R89). -/
theorem replyDecision_slot : replyDecision n.val r s.dev
    = if r.coded && r.bits.length = 16 then (s.dev.rxEnd n.val r).rn16Decided n.val (bitNat r.bits)
      else (s.dev.rxEnd n.val r).slotDecided n.val .collided := by
  unfold replyDecision
  dsimp only
  rw [if_neg (by simp [hphase, hacc])]
  split
  · next h => simp [h, AirCmd.opens] at hopens
  · rw [if_neg (by simp [hopens])]

/-- A reply that is no RN16 is a collided slot. -/
theorem replyDecision_collided_completes (hnot : (r.coded && r.bits.length = 16) = false) :
    Completes (.replyDecision n r) s (fun e => e.get (fHalf (sesCollided n.val)) = min (s.dev.get (fHalf (sesCollided n.val)) + 1) 0xFFFF
      ∧ (e.sess n.val).phase = .decided
      ∧ (e.sess n.val).round.collisions = (s.dev.sess n.val).round.collisions + 1) := by
  have hn' : (replyDecision n.val r s.dev).NoRemote := replyDecision_closed noRemote_closed hn
  let d := s.dev.rxEnd n.val r
  have hget : d.get (fHalf (sesCollided n.val)) = s.dev.get (fHalf (sesCollided n.val)) := by
    refine s.dev.get_rxEnd n.val r _ ?_
    simp only [fHalf, List.mem_cons, List.not_mem_nil, or_false, not_or, sesCollided, rxfDet, rxfTpri, sesBerth]
    omega
  refine completes_act (replyDecision n.val r) rfl ?_
  rw [replyDecision_slot n hacc hopens hphase, if_neg (by simp [hnot]), slotDecided_collided] at hn' ⊢
  rw [Device.sess_settle _ hn', Device.sess_modSes_self _ _ _ n.isLt, Device.count_eq, Device.sess_put, ← hget]
  refine ⟨get_half_settle hn' (settles_sesHalf (by rw [sesCollided]; omega)) rfl, s.dev.phase_rxEnd r n.isLt, congrArg (· + 1) ?_⟩
  exact s.dev.sess_rxEnd r n.isLt (fun t => t.round.collisions) (fun _ _ _ _ => rfl) (fun _ _ => rfl)

/-- An RN16 is acknowledged where the ring has room and no hold stands (R84, R148). -/
theorem replyDecision_rn16_completes (hcoded : r.coded = true) (hlen : r.bits.length = 16) (hroom : 8 ≤ s.dev.mFree n.val)
    (hholds : (s.dev.sess n.val).holds = []) (hfreeze : s.dev.on (fSesBerthFreeze n.val) = false) :
    Completes (.replyDecision n r) s (fun e => (e.sess n.val).rn16 = bitNat r.bits
      ∧ (e.sess n.val).plan = [.ack (bitNat r.bits)]
      ∧ (e.sess n.val).phase = .decided
      ∧ (∀ f : Fld, f.settles = true → f.reg ∉ [rxfDet n.val, rxfTpri n.val, sesBerth n.val] → e.get f = s.dev.get f)) := by
  have hn' : (replyDecision n.val r s.dev).NoRemote := replyDecision_closed noRemote_closed hn
  let d := s.dev.rxEnd n.val r
  have hfree : d.mFree n.val = s.dev.mFree n.val := by
    refine mFree_congr n.isLt (fun a ha => s.dev.rd_rxEnd n.val r a ?_)
    simp only [List.mem_cons, List.not_mem_nil, or_false, not_or, rxfDet, rxfTpri, sesBerth]
    omega
  have hfreeze' : (s.dev.rxShown n.val r).on (fSesBerthFreeze n.val) = false := by
    rw [← hfreeze]
    refine on_of_rd (s.dev.rd_rxShown n.val r _ ?_)
    simp only [fSesBerthFreeze, List.mem_cons, List.not_mem_nil, or_false, not_or, rxfDet, rxfTpri, sesBerth]
    omega
  have hnone : (d.sess n.val).holds = [] := by
    obtain ⟨a, b, hshown⟩ := s.dev.sess_rxShown r n.isLt
    change ((s.dev.rxEnd n.val r).sess n.val).holds = []
    rw [s.dev.rxEnd_eq, if_pos hcoded, sess_berthFill r hfreeze', hshown]
    exact hholds
  refine completes_act (replyDecision n.val r) rfl ?_
  rw [replyDecision_slot n hacc hopens hphase, if_pos (by simp [hcoded, hlen]),
    rn16Decided_acks n.isLt _ (hfree ▸ hroom) hnone] at hn' ⊢
  rw [Device.sess_settle _ hn', Device.sess_modSes_self _ _ _ n.isLt]
  refine ⟨rfl, rfl, s.dev.phase_rxEnd r n.isLt, fun f hf hl => ?_⟩
  rw [settle_get _ hn' _ hf, Device.get_modSes, s.dev.get_rxEnd n.val r f hl]

end

end

/-! #### The reply to ACK (R89, R92) -/

end

/-- From `d` to `e` the slot of session `n` has singulated a tag, which is counted. -/
structure TagCounted (n : Nat) (d e : Device) : Prop where
  counted : e.get (fWord (sesSings n)) = (d.get (fWord (sesSings n)) + 1) % 2 ^ 32
  single : (e.sess n).single = true
  singles : (e.sess n).round.singles = (d.sess n).round.singles + 1

theorem TagCounted.modSes {n : Nat} {d e : Device} (h : TagCounted n d e) (hn : n < 16) (f : SesSt → SesSt)
    (hs : (f (e.sess n)).single = (e.sess n).single) (hr : (f (e.sess n)).round = (e.sess n).round) : TagCounted n d (e.modSes n f) := by
  refine ⟨h.counted, ?_, ?_⟩
  · rw [Device.sess_modSes_self _ _ _ hn, hs, h.single]
  · rw [Device.sess_modSes_self _ _ _ hn, hr, h.singles]

theorem TagCounted.posts {l : List Nat} {n : Nat} {d e f : Device} (h : TagCounted n d e) (g : Posts l n e f) (hl : sesSings n ∉ l) :
    TagCounted n d f := by
  refine ⟨?_, ?_, ?_⟩
  · rw [g.get (fWord (sesSings n)) hl, h.counted]
  · rw [g.keeps SesSt.single (fun _ _ _ _ => rfl), h.single]
  · rw [g.keeps (fun s => s.round.singles) (fun _ _ _ _ => rfl), h.singles]

theorem sesSings_not_mem_msgRegs {n : Nat} (hn : n < 16) : sesSings n ∉ msgRegs n :=
  not_mem_msgRegs hn (by rw [sesSings]; omega)

/-- A singulation counts the tag and hands it to the manifest engine, or reports it only (R89). -/
theorem tagCounted_singulated {d : Device} {n : Nat} (hn : n < 16) (pc x1 x2 : Nat) (epc : List Byte) : TagCounted n d (d.singulated n pc x1 x2 epc) := by
  have hslot : TagCounted n d (d.slotDecided n .single) := by
    refine ⟨Device.get_put_same d (fWord (sesSings n)) _ (by simp [fWord]) (by simp [fWord]), ?_, ?_⟩ <;> simp [Device.slotDecided, Device.sess_modSes_self _ _ _ hn]
  have hseen : ∀ (c : Bool) (g : Sighting), g.session = n →
      TagCounted n d (if c then (d.slotDecided n .single).sightedOnly g else (d.slotDecided n .single).sighted g) := fun c g hg => by
    cases c
    · exact ⟨hslot.counted, hslot.single, hslot.singles⟩
    · subst hg
      rw [if_pos rfl, Device.sightedOnly]
      exact (hslot.modSes hn _ rfl rfl).posts (posts_postMsg _ _ _) (sesSings_not_mem_msgRegs hn)
  have hready : ∀ (e : Device) (c : Bool), TagCounted n d e →
      TagCounted n d (if c then e.modSes n (fun s => { s with acc := { s.acc with ready := true } }) else e) := fun e c he => by
    split
    · exact he.modSes hn _ rfl rfl
    · exact he
  unfold Device.singulated
  dsimp only
  cases (d.sess n).run with
  | none =>
    refine hseen _ _ ?_
    rfl
  | some x =>
    refine hready _ _ (hseen _ _ ?_)
    rfl

section
variable {s : State} (hn : s.dev.NoRemote) (n : Fin 16) {r : Reply} {rn : Nat} (hacc : (s.dev.sess n.val).acc.running = false)
  (hcmd : (s.dev.sess n.val).cmd = .ack rn) (hphase : (s.dev.sess n.val).phase = .receiving)
include hn hacc hcmd hphase

/-- A valid EPC makes the slot a singulation (R89). -/
theorem replyDecision_singulated_completes (hcoded : r.coded = true) (hepc : (parseEpc r.bits).isSome = true) (hcrc : crcHolds r.bits = true) :
    Completes (.replyDecision n r) s (fun e => e.get (fWord (sesSings n.val)) = (s.dev.get (fWord (sesSings n.val)) + 1) % 2 ^ 32
      ∧ (e.sess n.val).single = true
      ∧ (e.sess n.val).round.singles = (s.dev.sess n.val).round.singles + 1) := by
  have hn' : (replyDecision n.val r s.dev).NoRemote := replyDecision_closed noRemote_closed hn
  obtain ⟨⟨pc, x1, x2, epc⟩, hparse⟩ := Option.isSome_iff_exists.1 hepc
  have heq : replyDecision n.val r s.dev = (s.dev.rxEnd n.val r).singulated n.val pc x1 x2 epc := by
    simp [replyDecision, hphase, hacc, hcmd, hcoded, hparse, hcrc]
  refine completes_act (replyDecision n.val r) rfl ?_
  rw [heq] at hn' ⊢
  obtain ⟨hcount, hsingle, hsingles⟩ := tagCounted_singulated (d := s.dev.rxEnd n.val r) n.isLt pc x1 x2 epc
  have hget : (s.dev.rxEnd n.val r).get (fWord (sesSings n.val)) = s.dev.get (fWord (sesSings n.val)) := by
    refine s.dev.get_rxEnd n.val r _ ?_
    simp only [fWord, List.mem_cons, List.not_mem_nil, or_false, not_or, sesSings, rxfDet, rxfTpri, sesBerth]
    omega
  have hround := s.dev.sess_rxEnd r n.isLt (fun t => t.round.singles) (fun _ _ _ _ => rfl) (fun _ _ => rfl)
  rw [Device.sess_settle _ hn', settle_get _ hn' _ (settles_of_page (by simp only [fWord, sesSings]; omega))]
  exact ⟨hcount.trans (by rw [hget]), hsingle, hsingles.trans (congrArg (· + 1) hround)⟩

/-- A bad reply to ACK repeats it while tries are left (R89). -/
theorem replyDecision_ackRepeats_completes (hcoded : r.coded = false)
    (hretry : (s.dev.sess n.val).retry < bitsOf (s.dev.sess n.val).rxcfg 5 4) (hstate : s.dev.sesState n.val ≠ 8) :
    Completes (.replyDecision n r) s (fun e => (e.sess n.val).retry = (s.dev.sess n.val).retry + 1
      ∧ (e.sess n.val).plan = [.ack (s.dev.sess n.val).rn16]
      ∧ Device.OnlyRegs [rxfDet n.val, rxfTpri n.val] s.dev e) := by
  have hn' : (replyDecision n.val r s.dev).NoRemote := replyDecision_closed noRemote_closed hn
  obtain ⟨a, b, hsess⟩ := s.dev.sess_rxShown r n.isLt
  have hstate' : (s.dev.rxShown n.val r).sesState n.val = s.dev.sesState n.val := by
    simp only [Device.sesState, Device.get]
    rw [s.dev.rd_rxShown n.val r]
    simp only [fPsState, List.mem_cons, List.not_mem_nil, or_false, not_or, pageStat, rxfDet, rxfTpri, wordAt]
    omega
  have heq : replyDecision n.val r s.dev
      = (s.dev.rxShown n.val r).modSes n.val (fun s => { s with retry := s.retry + 1, plan := [.ack s.rn16] }) := by
    have hfail : (s.dev.rxShown n.val r).ackFail n.val
        = (s.dev.rxShown n.val r).modSes n.val (fun s => { s with retry := s.retry + 1, plan := [.ack s.rn16] }) := by
      unfold Device.ackFail
      dsimp only
      rw [hsess, hstate', if_pos]
      simp [SesSt.received, hretry, hstate]
    rw [← hfail, ← s.dev.rxEnd_uncoded r hcoded]
    simp [replyDecision, hphase, hacc, hcmd, hcoded]
  refine completes_act (replyDecision n.val r) rfl ?_
  rw [heq] at hn' ⊢
  rw [Device.sess_settle _ hn', Device.sess_modSes_self _ _ _ n.isLt, hsess]
  refine ⟨rfl, rfl, onlyRegs_settle hn' (fun x hx => ?_) ?_ ?_⟩
  · rw [Device.rd_modSes, s.dev.rd_rxShown n.val r x hx]
  · rw [Device.modSes_sram, s.dev.sram_rxShown]
  · rw [Device.modSes_opt, s.dev.opt_rxShown]

end

/-- Settles O19: the slots by what ends them, and the reply to ACK by whether it holds, each from its own lemma. -/
theorem slotsAndAcknowledgedTags : Obligations.SlotsAndAcknowledgedTags := by
  intro s hn
  refine ⟨fun n hacc hopens => ⟨?_, ?_, fun r hphase => ?_, fun r hphase => ?_⟩, fun n r rn hacc hcmd hphase => ⟨?_, ?_⟩⟩
  · exact emptySlotDecision_completes hn n hacc hopens
  · exact receptionFailed_completes hn n hacc hopens
  · exact replyDecision_collided_completes hn n hacc hopens hphase
  · exact replyDecision_rn16_completes hn n hacc hopens hphase
  · exact replyDecision_singulated_completes hn n hacc hcmd hphase
  · exact replyDecision_ackRepeats_completes hn n hacc hcmd hphase

end Sys2Proof.Machine


namespace Sys2Proof.Machine

/-! ### Reply windows and preambles (R75, R95, R96, R99, R103 … R105, R133) -/

/-! #### A reply window opens -/

theorem Device.sess_noiseRestart (d : Device) (n m : Nat) (a b : Bool) : (d.noiseRestart n a b).sess m = d.sess m := by
  unfold Device.noiseRestart
  split
  · rfl
  · cases a <;> cases b <;> rfl

theorem Device.ses_setWeights (d : Device) (k : Nat) (ws : List Word) : (d.setWeights k ws).ses = d.ses :=
  Device.forAll_keeps Device.ses (List.range 64) (fun e p => e.setWeight k p (ws.getD p 0)) (fun _ _ => rfl) d

theorem Device.sess_putRx (d : Device) (n m : Nat) (b : Bool) (f : Steer) (ws : List Word) : (d.putRx n b f ws).sess m = d.sess m := by
  unfold Device.putRx
  rw [Device.sess_modStream, Device.sess, Device.ses_setWeights, Device.sess]

/-- Waiting receive weights that take effect leave the sessions as they are. -/
theorem Device.sess_rxTake (d : Device) (n m : Nat) : (d.rxTake n).sess m = d.sess m := by
  unfold Device.rxTake
  dsimp only
  rw [Device.sess_modStream]
  cases (d.stream n).pendA <;> cases (d.stream n).pendB <;> simp only [Device.sess_noiseRestart, Device.sess_putRx]

/-- No receive weights wait any more. -/
theorem Device.stream_rxTake (d : Device) {n : Nat} (hn : n < 16) : ((d.rxTake n).stream n).pendA = none ∧ ((d.rxTake n).stream n).pendB = none := by
  unfold Device.rxTake
  dsimp only
  rw [Device.stream_modStream_self _ _ _ hn]
  exact ⟨rfl, rfl⟩

/-! #### A delayed reply that does not come (R96) -/

/-- A session whose reply gave no level. -/
def SesSt.levelFree (v : BitVec 64) (s : SesSt) : SesSt :=
  { s with rx := { s.rx with rssiA := v.toNat % 65536, rssiB := v.toNat % 65536, setB := v.getLsbD 32 } }

theorem noLevel_modSes (d : Device) {n : Nat} (hn : n < 16) (f : SesSt → SesSt) :
    (d.modSes n f).noLevel n = d.takeFree.2.modSes n (fun s => (f s).levelFree d.takeFree.1) :=
  Device.modSes_modSes d.takeFree.2 hn f (SesSt.levelFree d.takeFree.1)

theorem posts_accessResult (n : Nat) (d : Device) (x : Desc) (code tag checks : Nat) (bits : List Bool) :
    Posts (flightRegs n) n d (d.accessResult n x code tag checks bits) := by
  unfold Device.accessResult
  dsimp only
  refine Posts.then ?_ (posts_showFlight n _)
  exact posts_forAll (fun e p => (posts_postMsg n e _).mono (by simp +contextual [flightRegs, stateRegs])) _ d

/-- Nothing is left of an access sequence that ends. -/
theorem accNext_nil {d : Device} {n : Nat} (hn : n < 16) : ((d.accNext n []).sess n).run = none ∧ ((d.accNext n []).sess n).chain = [] := by
  unfold Device.accNext
  dsimp only
  split
  · have hdone := posts_sesDone n ((d.modSes n (fun s => { s with
      run := none, chain := [], acc := { s.acc with steps := [], ending := true }, plan := [.queryRep] })).modSes n (fun s => { s with run := none }))
    unfold Device.accessOver
    rw [hdone.keeps SesSt.run (fun _ _ _ _ => rfl), hdone.keeps SesSt.chain (fun _ _ _ _ => rfl), Device.sess_modSes_self _ _ _ hn]
    exact ⟨rfl, rfl⟩
  · have hflight := posts_showFlight n (d.modSes n (fun s => { s with
      run := none, chain := [], acc := { s.acc with steps := [], ending := true }, plan := [.queryRep] }))
    rw [hflight.keeps SesSt.run (fun _ _ _ _ => rfl), hflight.keeps SesSt.chain (fun _ _ _ _ => rfl), Device.sess_modSes_self _ _ _ hn]
    exact ⟨rfl, rfl⟩

/-- With no try left the operation and what is chained to it are over (R95). -/
theorem accFail_ends {d : Device} {n : Nat} (hn : n < 16) {x : Desc} {st : AccStep} {rest : List AccStep} (hrun : (d.sess n).run = some x)
    (hsteps : (d.sess n).acc.steps = st :: rest) (htries : bitsOf (d.sess n).rxcfg 5 4 ≤ (d.sess n).acc.tries) :
    ((d.accFail n).sess n).run = none ∧ ((d.accFail n).sess n).chain = [] := by
  have heq : d.accFail n = (d.accessResult n x 0x0B 0 0 []).accBreak n := by
    unfold Device.accFail
    simp only [hrun, hsteps, if_neg (Nat.not_lt.2 htries)]
  rw [heq]
  exact accNext_nil hn

section
variable {s : State} (hn : s.dev.NoRemote) (n : Fin 16)
include hn

/-- A reply window opens with RXCFG as it stands and with waiting receive weights in effect (R75, R99, R133). -/
theorem replyWindowOpen_completes (hphase : (s.dev.sess n.val).phase = .waiting) :
    Completes (.replyWindowOpen n) s (fun e => (e.sess n.val).phase = .window
      ∧ (e.sess n.val).rxcfg = s.dev.rd (sesRxcfg n.val)
      ∧ (e.stream n.val).pendA = none
      ∧ (e.stream n.val).pendB = none) := by
  have hn' : (replyWindowOpen n.val s.dev).NoRemote := replyWindowOpen_closed noRemote_closed hn
  have heq : replyWindowOpen n.val s.dev
      = (s.dev.modSes n.val (fun t => { t with phase := .window, rxcfg := s.dev.rd (sesRxcfg n.val) })).rxTake n.val := by
    simp [replyWindowOpen, hphase]
  refine completes_act (replyWindowOpen n.val) rfl ?_
  rw [heq] at hn' ⊢
  rw [Device.sess_settle _ hn', Device.stream_settle _ hn', Device.sess_rxTake, Device.sess_modSes_self _ _ _ n.isLt]
  exact ⟨rfl, rfl, Device.stream_rxTake _ n.isLt⟩

section
variable (hphase : (s.dev.sess n.val).phase = .window)
include hphase

/-- A reply window closes where no preamble has begun (R99). -/
theorem replyWindowClose_completes (hdelayed : s.dev.delayedNow n.val = false) :
    Completes (.replyWindowClose n) s (fun e => (e.sess n.val).phase = .closed ∧ Device.OnlyRegs [] s.dev e) := by
  have hn' : (replyWindowClose n.val s.dev).NoRemote := replyWindowClose_closed noRemote_closed hn
  have heq : replyWindowClose n.val s.dev = s.dev.modSes n.val (fun s => { s with phase := .closed }) := by
    simp [replyWindowClose, hphase, hdelayed]
  refine completes_act (replyWindowClose n.val) rfl ?_
  rw [heq] at hn' ⊢
  rw [Device.sess_settle _ hn', Device.sess_modSes_self _ _ _ n.isLt]
  exact ⟨rfl, onlyRegs_settle hn' (fun _ _ => rfl) rfl rfl⟩

omit hn hphase in
/-- A window for a delayed reply stays open (R96). -/
theorem replyWindowClose_delayed (hdelayed : s.dev.delayedNow n.val = true) :
    exec (.replyWindowClose n) s = .next { s with dev := s.dev.settle } := by
  have heq : replyWindowClose n.val s.dev = s.dev := by simp [replyWindowClose, hdelayed]
  have hexec : exec (.replyWindowClose n) s = .next { s with dev := (replyWindowClose n.val s.dev).settle } := act_next _ _
  rw [hexec, heq]

section
variable {x : Desc} {st : AccStep} {rest : List AccStep} (hdelayed : s.dev.delayedNow n.val = true) (hrun : (s.dev.sess n.val).run = some x)
  (hsteps : (s.dev.sess n.val).acc.steps = st :: rest)
include hdelayed hrun hsteps

omit hn hsteps hrun in
/-- The end of the wait for a delayed reply is a failed reply that gives no level. -/
theorem delayedReplyTimeout_eq : delayedReplyTimeout n.val s.dev
    = (s.dev.takeFree.2.modSes n.val (fun t => ({ t with phase := .quiet } : SesSt).levelFree s.dev.takeFree.1)).accFail n.val := by
  unfold delayedReplyTimeout
  rw [if_pos (by simp [hphase, hdelayed]), noLevel_modSes _ n.isLt]

omit hn in
/-- A delayed reply that does not come repeats its step while tries are left (R95, R96). -/
theorem delayedReplyTimeout_retries (htries : (s.dev.sess n.val).acc.tries < bitsOf (s.dev.sess n.val).rxcfg 5 4) :
    ∃ plan, delayedReplyTimeout n.val s.dev = s.dev.takeFree.2.modSes n.val (fun t =>
      { (({ t with phase := .quiet } : SesSt).levelFree s.dev.takeFree.1).retried x st rest with plan := plan }) := by
  let d := s.dev.takeFree.2.modSes n.val (fun t => ({ t with phase := .quiet } : SesSt).levelFree s.dev.takeFree.1)
  have hsess : d.sess n.val = _ := Device.sess_modSes_self _ _ _ n.isLt
  obtain ⟨plan, hfail⟩ := accFail_retries (d := d) n.isLt (by rw [hsess]; exact hrun) (by rw [hsess]; exact hsteps) (by rw [hsess]; exact htries)
  refine ⟨plan, ?_⟩
  rw [delayedReplyTimeout_eq n hphase hdelayed]
  exact hfail.trans (Device.modSes_modSes _ n.isLt _ _)

/-- A delayed reply that does not come repeats its step while tries are left (R95, R96). -/
theorem delayedReplyTimeout_retries_completes (htries : (s.dev.sess n.val).acc.tries < bitsOf (s.dev.sess n.val).rxcfg 5 4) :
    Completes (.delayedReplyTimeout n) s (fun e => (e.sess n.val).phase = .quiet
      ∧ (e.sess n.val).acc.tries = (s.dev.sess n.val).acc.tries + 1
      ∧ (e.sess n.val).acc.steps = (if st.covered x then .cover :: st :: rest else st :: rest)
      ∧ (e.sess n.val).run = some x
      ∧ Device.OnlyRegs [] s.dev e) := by
  have hn' : (delayedReplyTimeout n.val s.dev).NoRemote := delayedReplyTimeout_closed noRemote_closed hn
  obtain ⟨plan, heq⟩ := delayedReplyTimeout_retries n hphase hdelayed hrun hsteps htries
  refine completes_act (delayedReplyTimeout n.val) rfl ?_
  rw [heq] at hn' ⊢
  rw [Device.sess_settle _ hn', Device.sess_modSes_self _ _ _ n.isLt]
  exact ⟨rfl, rfl, rfl, hrun, onlyRegs_settle hn' (fun _ _ => rfl) rfl rfl⟩

/-- With no try left the operation is over (R95, R96). -/
theorem delayedReplyTimeout_ends_completes (htries : bitsOf (s.dev.sess n.val).rxcfg 5 4 ≤ (s.dev.sess n.val).acc.tries) :
    Completes (.delayedReplyTimeout n) s (fun e => (e.sess n.val).run = none ∧ (e.sess n.val).chain = []) := by
  have hn' : (delayedReplyTimeout n.val s.dev).NoRemote := delayedReplyTimeout_closed noRemote_closed hn
  refine completes_act (delayedReplyTimeout n.val) rfl ?_
  rw [Device.sess_settle _ hn']
  rw [delayedReplyTimeout_eq n hphase hdelayed]
  have hsess : (s.dev.takeFree.2.modSes n.val (fun t => ({ t with phase := .quiet } : SesSt).levelFree s.dev.takeFree.1)).sess n.val = _ :=
    Device.sess_modSes_self _ _ _ n.isLt
  exact accFail_ends n.isLt (by rw [hsess]; exact hrun) (by rw [hsess]; exact hsteps) (by rw [hsess]; exact htries)

end

end

end

/-! #### A preamble is detected (R103 … R106) -/

/-- A session that receives with the chosen set. -/
def SesSt.receives (setB : Bool) (a b : Int) (tide : Nat) (s : SesSt) : SesSt :=
  { s with phase := .receiving, rx := { s.rx with setB := setB, dA := a, dB := b, tide := tide, restarted := false } }

/-- The device with a reception begun and the chosen set shown and counted. -/
def Device.receives (d : Device) (n : Nat) (setB : Bool) (a b : Int) : Device :=
  ((d.modSes n (SesSt.receives setB a b d.stamp)).putB (fSesStatLastSet n) setB).count (if setB then fSesSetWinsB n else fSesSetWinsA n)

/-- From `d` to `e` a direction estimate of session `n` may have been asked for: BF.STAT moves, and of the sessions the estimate of this one alone. -/
structure EstimateAsked (n : Nat) (d e : Device) : Prop where
  regs : ∀ a, a ≠ bfStat → e.rd a = d.rd a
  sess : ∃ dir, e.sess n = { d.sess n with dir := dir }
  sram : e.sram = d.sram
  opt : e.opt = d.opt

theorem estimateAsked_estAsk (d : Device) {n : Nat} (hn : n < 16) : EstimateAsked n d (d.estAsk n) := by
  unfold Device.estAsk
  dsimp only
  refine iteInduction (motive := EstimateAsked n d) (fun _ => ?_) (fun _ => ?_)
  · exact ⟨fun _ _ => rfl, ⟨_, rfl⟩, rfl, rfl⟩
  · refine ⟨fun a ha => Device.rd_put_ne _ _ _ _ ha, ⟨none, ?_⟩, rfl, rfl⟩
    exact Device.sess_modSes_self d n (fun s => { s with dir := none }) hn

/-- The correlators that SETSEL allows reach DET_THR. -/
def Device.heard (d : Device) (n : Nat) (a b : Int) : Prop :=
  (bitsOf (d.sess n).rxcfg 3 2 ≠ 2 ∧ 25 * (bitsOf (d.sess n).rxcfg 15 8 : Nat) ≤ a)
    ∨ (bitsOf (d.sess n).rxcfg 3 2 ≠ 1 ∧ 25 * (bitsOf (d.sess n).rxcfg 15 8 : Nat) ≤ b)

/-- The stronger of the sets compared is set B. -/
def Device.prefersB (d : Device) (n : Nat) (a b : Int) : Bool :=
  bitsOf (d.sess n).rxcfg 3 2 = 2 || (bitsOf (d.sess n).rxcfg 3 2 != 1 && decide (a < b))

/-- Below the threshold nothing happens (R103). -/
theorem preambleDetect_unheard {d : Device} {n : Nat} {a b : Int} (early : Bool) (h : ¬ d.heard n a b) : preambleDetect n a b early d = d := by
  unfold preambleDetect
  dsimp only
  rw [if_pos]
  simp only [Device.heard, not_or, not_and, not_le] at h
  simpa [imp_iff_not_or] using h

/-- In an open window the stronger of the sets compared is taken (R104, R105). -/
theorem preambleDetect_heard {d : Device} {n : Nat} {a b : Int} (early : Bool) (h : d.heard n a b) (hphase : (d.sess n).phase = .window) :
    preambleDetect n a b early d = (d.receives n (d.prefersB n a b) a b).estAsk n := by
  unfold preambleDetect
  dsimp only
  rw [if_neg, if_pos hphase]
  · rfl
  · simp only [Device.heard] at h
    simpa [imp_iff_not_or, not_and_or] using h

section
variable (d : Device) (n : Nat) (setB : Bool) (a b : Int)

/-- The counter of the chosen set is a half of SET_WINS. -/
theorem chosenWins_reg : (if setB then fSesSetWinsB n else fSesSetWinsA n).reg = sesSetWins n := by
  split <;> rfl

theorem Device.rd_receives (x : Nat) (h : x ∉ [sesStat n, sesSetWins n]) : (d.receives n setB a b).rd x = d.rd x := by
  simp only [List.mem_cons, List.not_mem_nil, or_false, not_or] at h
  unfold Device.receives
  rw [Device.rd_count_ne _ _ _ (chosenWins_reg n setB ▸ h.2), Device.putB_eq, Device.rd_put_ne _ _ _ _ h.1, Device.rd_modSes]

/-- LAST_SET shows the chosen set. -/
theorem Device.on_receives_lastSet : (d.receives n setB a b).on (fSesStatLastSet n) = setB := by
  have hne : (fSesStatLastSet n).reg ≠ (if setB then fSesSetWinsB n else fSesSetWinsA n).reg := by
    rw [chosenWins_reg]
    simp only [fSesStatLastSet, sesStat, sesSetWins]
    omega
  unfold Device.receives
  rw [Device.on, Device.count_eq, Device.get_put_ne _ _ _ _ hne, Device.putB_eq,
    Device.get_put_same _ _ _ (by simp [fSesStatLastSet]) (by simp [fSesStatLastSet])]
  cases setB <;> rfl

/-- A count of one set leaves that of the other. -/
theorem get_setWins_count (e : Device) :
    (e.count (if setB then fSesSetWinsB n else fSesSetWinsA n)).get (fSesSetWinsA n)
      = (if setB then e.get (fSesSetWinsA n) else min (e.get (fSesSetWinsA n) + 1) 0xFFFF)
    ∧ (e.count (if setB then fSesSetWinsB n else fSesSetWinsA n)).get (fSesSetWinsB n)
      = (if setB then min (e.get (fSesSetWinsB n) + 1) 0xFFFF else e.get (fSesSetWinsB n)) := by
  cases setB
  · exact ⟨Device.get_count_same e (fSesSetWinsA n) (by simp [fSesSetWinsA]) (by simp [fSesSetWinsA]),
      Device.get_put_apart e (fSesSetWinsA n) (fSesSetWinsB n) _ (by simp [fSesSetWinsA]) (by simp [fSesSetWinsA]) (by simp [fSesSetWinsA, fSesSetWinsB])⟩
  · exact ⟨Device.get_put_apart e (fSesSetWinsB n) (fSesSetWinsA n) _ (by simp [fSesSetWinsB]) (by simp [fSesSetWinsB]) (by simp [fSesSetWinsA, fSesSetWinsB]),
      Device.get_count_same e (fSesSetWinsB n) (by simp [fSesSetWinsB]) (by simp [fSesSetWinsB])⟩

theorem Device.get_receives_setWins {f : Fld} (h : f.reg = sesSetWins n) :
    ((d.modSes n (SesSt.receives setB a b d.stamp)).putB (fSesStatLastSet n) setB).get f = d.get f := by
  refine Device.get_put_ne _ _ _ _ ?_
  simp only [h, fSesStatLastSet, sesStat, sesSetWins]
  omega

end

section
variable {s : State} (hn : s.dev.NoRemote) (n : Fin 16) (a b : BitVec 16) (early : Bool)
include hn

/-- A preamble is detected (R103 … R105). -/
theorem preambleDetect_completes (hphase : (s.dev.sess n.val).phase = .window) (hheard : s.dev.heard n.val a.toInt b.toInt) (setB : Bool)
    (hset : setB = s.dev.prefersB n.val a.toInt b.toInt) :
    Completes (.preambleDetect n a b early) s (fun e => (e.sess n.val).phase = .receiving
      ∧ (e.sess n.val).rx.setB = setB
      ∧ (e.sess n.val).rx.tide = s.dev.stamp
      ∧ e.on (fSesStatLastSet n.val) = setB
      ∧ e.get (fSesSetWinsA n.val) = (if setB then s.dev.get (fSesSetWinsA n.val) else min (s.dev.get (fSesSetWinsA n.val) + 1) 0xFFFF)
      ∧ e.get (fSesSetWinsB n.val) = (if setB then min (s.dev.get (fSesSetWinsB n.val) + 1) 0xFFFF else s.dev.get (fSesSetWinsB n.val))
      ∧ Device.OnlyRegs [sesStat n.val, sesSetWins n.val, bfStat] s.dev e) := by
  have hn' : (preambleDetect n.val a.toInt b.toInt early s.dev).NoRemote := preambleDetect_closed noRemote_closed hn
  let d := s.dev.receives n.val setB a.toInt b.toInt
  have hsess : d.sess n.val = (s.dev.sess n.val).receives setB a.toInt b.toInt s.dev.stamp := Device.sess_modSes_self _ _ _ n.isLt
  obtain ⟨hregs, ⟨dir, hdir⟩, hsram, hopt⟩ := estimateAsked_estAsk d n.isLt
  have hget : ∀ f : Fld, 0x80 * 1024 ≤ f.reg → (d.estAsk n.val).settle.get f = d.get f := fun f hf => by
    rw [get_sessionPage_settle (Device.estAsk_closed noRemote_closed ?_) hf]
    · simp only [Device.get]
      rw [hregs]
      rw [bfStat]
      omega
    · exact hn
  have hstat : 0x80 * 1024 ≤ sesStat n.val := by rw [sesStat]; omega
  have hwins : 0x80 * 1024 ≤ sesSetWins n.val := by rw [sesSetWins]; omega
  have hcount := get_setWins_count n.val setB ((s.dev.modSes n.val (SesSt.receives setB a.toInt b.toInt s.dev.stamp)).putB (fSesStatLastSet n.val) setB)
  refine completes_act (preambleDetect n.val a.toInt b.toInt early) rfl ?_
  rw [preambleDetect_heard early hheard hphase, ← hset] at hn' ⊢
  rw [Device.sess_settle _ hn', hdir, hsess]
  refine ⟨rfl, rfl, rfl, ?_, ?_, ?_, onlyRegs_settle hn' (fun x hx => ?_) hsram hopt⟩
  · exact (on_of_get (hget (fSesStatLastSet n.val) hstat)).trans (s.dev.on_receives_lastSet n.val setB _ _)
  · rw [hget (fSesSetWinsA n.val) hwins]
    exact hcount.1.trans (by rw [s.dev.get_receives_setWins n.val setB _ _ rfl])
  · rw [hget (fSesSetWinsB n.val) hwins]
    exact hcount.2.trans (by rw [s.dev.get_receives_setWins n.val setB _ _ rfl])
  · simp only [List.mem_cons, List.not_mem_nil, or_false, not_or] at hx
    obtain ⟨hx1, hx2, hx3⟩ := hx
    exact (hregs x hx3).trans (s.dev.rd_receives n.val setB _ _ x (by simp [hx1, hx2]))

omit hn in
/-- Below the threshold nothing happens (R103). -/
theorem preambleDetect_nothing (h : ¬ s.dev.heard n.val a.toInt b.toInt) :
    exec (.preambleDetect n a b early) s = .next { s with dev := s.dev.settle } := by
  have hexec : exec (.preambleDetect n a b early) s = .next { s with dev := (preambleDetect n.val a.toInt b.toInt early s.dev).settle } := act_next _ _
  rw [hexec, preambleDetect_unheard early h]

end

/-- Settles O18: the reply window by what it comes to, and a preamble by whether a correlator reaches DET_THR, each from its own lemma. -/
theorem replyWindowsAndDetection : Obligations.ReplyWindowsAndDetection := by
  intro s hn
  refine ⟨fun n => ⟨replyWindowOpen_completes hn n, replyWindowClose_completes hn n, fun _ => replyWindowClose_delayed n, ?_, ?_⟩, ?_⟩
  · exact fun x st rest hphase hdelayed hrun hsteps => delayedReplyTimeout_retries_completes hn n hphase hdelayed hrun hsteps
  · exact fun x st rest hphase hdelayed hrun hsteps => delayedReplyTimeout_ends_completes hn n hphase hdelayed hrun hsteps
  · rintro n a b early sel thr hphase rfl rfl
    exact ⟨fun setB hheard hset => preambleDetect_completes hn n a b early hphase hheard setB hset, preambleDetect_nothing n a b early⟩

end Sys2Proof.Machine


namespace Sys2Proof.Machine

/-! ### What each descriptor does as it starts (R79, R133, R134, R137) -/

/-! #### The descriptor that has begun -/

/-- The descriptor as it runs: with its priority, and with its start taken where it starts at once. -/
def Device.runs (d : Device) (x : Desc) : Desc :=
  { x with prio := d.effPrio x, urgent := d.effPrio x = 7, startTide := if x.started then x.startTide else d.stamp,
           started := x.started || (x.byte 0 != 0x14 && x.byte 0 != 0x15) }

section
variable (d : Device) (x : Desc)

theorem Device.bytes_runs : (d.runs x).bytes = x.bytes := by rw [Device.runs]

theorem Device.byte_runs (k : Nat) : (d.runs x).byte k = x.byte k := by rw [Desc.byte, d.bytes_runs, Desc.byte]

theorem Device.le_runs (k m : Nat) : (d.runs x).le k m = x.le k m := by rw [Desc.le, d.bytes_runs, Desc.le]

theorem Device.chained_runs : (d.runs x).chained = x.chained := by rw [Desc.chained, d.byte_runs, Desc.chained]

theorem Device.isTemplate_runs : (d.runs x).isTemplate = x.isTemplate := by simp only [Desc.isTemplate, d.byte_runs]

theorem Device.record_runs : (d.runs x).record = x.record := by rw [Desc.record, d.byte_runs, Desc.record]

omit d in
/-- The checks of a descriptor look at its bytes alone. -/
theorem precheck_of_bytes (e : Device) (n : Nat) {y : Desc} (h : y.bytes = x.bytes) : e.precheck n y = e.precheck n x := by
  cases x
  cases y
  cases h
  rfl

theorem Device.precheck_runs (e : Device) (n : Nat) : e.precheck n (d.runs x) = e.precheck n x := precheck_of_bytes x e n (d.bytes_runs x)

end

/-- The descriptors that start with one, chained to it. -/
def Device.startsWith (d : Device) (n : Nat) (x : Desc) : List Desc :=
  if x.accessLike then chainOf (((d.sess n).descs.dropWhile (fun y => y.index != x.index)).drop 1) else []

/-- A session whose descriptor has begun. -/
def SesSt.begun (x : Desc) (index : Nat) (chain : List Desc) (s : SesSt) : SesSt :=
  { s with run := some x, chain := chain
           descs := (s.descs.filter (fun y => y.index != index)).filter (fun y => !chain.any (fun c => c.index = y.index))
           acc := {}, round := {}, plan := [], slots := 0 }

/-- The device with the descriptor running, before what its opcode does. -/
def Device.begun (d : Device) (n : Nat) (x : Desc) : Device := d.modSes n (SesSt.begun (d.runs x) x.index (d.startsWith n x))

/-- What a descriptor's opcode does once it has begun. -/
def Device.acts (d : Device) (n : Nat) (x y : Desc) (op : Nat) : Device :=
  match op with
  | 0x10 => d.inventoryBegin n
  | 0x11 => d.accessBegin n y
  | 0x12 => d.accessBegin n y
  | 0x13 => if x.byte 4 = 0 then d.beamTx n y else d.beamRx n y
  | 0x14 => if y.started then d.sesGo n 7 0 else (d.sesGo n 7 0).surveyStart n y
  | 0x15 => (d.sesGo n 7 0).snapStart n y
  | _ => d.sesGo n 7 0

theorem begin_eq (d : Device) (n : Nat) (x : Desc) : d.begin_ n x = (d.begun n x).acts n x (d.runs x) (x.byte 0) := rfl

section
variable (d : Device) (n : Nat) {x : Desc}

theorem begin_inventory (h : x.byte 0 = 0x10) : d.begin_ n x = (d.begun n x).inventoryBegin n := by
  rw [begin_eq, h, Device.acts]

theorem begin_access (h : x.byte 0 = 0x11 ∨ x.byte 0 = 0x12) : d.begin_ n x = (d.begun n x).accessBegin n (d.runs x) := by
  rcases h with h | h <;> rw [begin_eq, h, Device.acts]

theorem begin_beamRx (h : x.byte 0 = 0x13) (hrx : x.byte 4 ≠ 0) : d.begin_ n x = (d.begun n x).beamRx n (d.runs x) := by
  rw [begin_eq, h, Device.acts, if_neg hrx]

theorem begin_beamTx (h : x.byte 0 = 0x13) (htx : x.byte 4 = 0) : d.begin_ n x = (d.begun n x).beamTx n (d.runs x) := by
  rw [begin_eq, h, Device.acts, if_pos htx]

theorem begin_survey (h : x.byte 0 = 0x14) (hs : x.started = true) : d.begin_ n x = (d.begun n x).sesGo n 7 0 := by
  rw [begin_eq, h, Device.acts, if_pos (by simp [Device.runs, hs])]

theorem begin_snapshot (h : x.byte 0 = 0x15) : d.begin_ n x = ((d.begun n x).sesGo n 7 0).snapStart n (d.runs x) := by
  rw [begin_eq, h, Device.acts]

theorem begin_noise (h : x.byte 0 = 0x16) : d.begin_ n x = (d.begun n x).sesGo n 7 0 := by
  rw [begin_eq, h]
  rfl

end

section
variable {n : Nat} (hn : n < 16) (d : Device) (x : Desc)
include hn

theorem Device.sess_begun : (d.begun n x).sess n = (d.sess n).begun (d.runs x) x.index (d.startsWith n x) := Device.sess_modSes_self _ _ _ hn

/-- A descriptor that has begun waits no longer. -/
theorem Device.descs_begun : ∀ y ∈ ((d.begun n x).sess n).descs, y.index ≠ x.index := by
  intro y hy
  rw [d.sess_begun hn] at hy
  simp only [SesSt.begun, List.mem_filter, bne_iff_ne, ne_eq] at hy
  exact hy.1.2

end

/-! #### From a row to the start -/

/-- A row that starts a descriptor of its opcode, and DESCRIPTOR_START, start the one that is due. -/
theorem begin_completes {s : State} {n : Nat} {c : Instr} {op : Nat} {x : Desc} {Q : Device → Prop} (hn : s.dev.NoRemote)
    (hrun : (s.dev.sess n).run = none) (hnext : s.dev.startNext n = some x) (hop : x.byte 0 = op)
    (hc : exec c s = act (startOp op n) s ∨ exec c s = act (descriptorStart n) s)
    (hq : (s.dev.begin_ n x).NoRemote → Q (s.dev.begin_ n x).settle) : Completes c s Q := by
  have hstart : descriptorStart n s.dev = s.dev.begin_ n x := by
    simp [descriptorStart, hnext, hrun]
  have hop' : startOp op n s.dev = s.dev.begin_ n x := by
    simp [startOp, hnext, hop, hstart]
  have hn' : (s.dev.begin_ n x).NoRemote := Device.begin_closed noRemote_closed hn
  rcases hc with h | h
  · exact completes_act _ h (by rw [hop']; exact hq hn')
  · exact completes_act _ h (by rw [hstart]; exact hq hn')

/-- What a descriptor that runs on leaves: it is the running one, it waits no longer, and the session is in its state. -/
structure Started (n state : Nat) (x : Desc) (e : Device) : Prop where
  state : e.sesState n = state
  run : (e.sess n).run.map (·.bytes) = some x.bytes
  left : ∀ y ∈ (e.sess n).descs, y.index ≠ x.index

/-- A change of state from a device in which the descriptor has begun. -/
theorem started_sesGo {n : Nat} {x : Desc} {e : Device} {st : Nat} (hst : st < 256) (hrun : (e.sess n).run.map (·.bytes) = some x.bytes)
    (hleft : ∀ y ∈ (e.sess n).descs, y.index ≠ x.index) : Started n st x (e.sesGo n st 0) := by
  have hgo := posts_sesGo n e st 0
  exact ⟨sesState_sesGo _ _ _ _ hst, by rw [hgo.keeps SesSt.run (fun _ _ _ _ => rfl), hrun], by rwa [hgo.keeps SesSt.descs (fun _ _ _ _ => rfl)]⟩

theorem started_begun {n : Nat} (hn : n < 16) (d : Device) (x : Desc) {st : Nat} (hst : st < 256) : Started n st x ((d.begun n x).sesGo n st 0) := by
  refine started_sesGo hst ?_ (d.descs_begun hn x)
  rw [d.sess_begun hn, SesSt.begun, Option.map_some, d.bytes_runs]

theorem Started.settle {n state : Nat} {x : Desc} {e : Device} (h : Started n state x e) (he : e.NoRemote) : Started n state x e.settle := by
  refine ⟨?_, ?_, ?_⟩
  · rw [Device.sesState, get_sessionPage_settle he (by simp only [fPsState, pageStat, wordAt]; omega)]
    exact h.state
  · rw [Device.sess_settle _ he, h.run]
  · rw [Device.sess_settle _ he]
    exact h.left

/-- A change of the session's record that leaves its descriptors. -/
theorem Started.modSes {n state : Nat} {x : Desc} {e : Device} (h : Started n state x e) (hn : n < 16) (f : SesSt → SesSt)
    (hr : (f (e.sess n)).run = (e.sess n).run) (hd : (f (e.sess n)).descs = (e.sess n).descs) : Started n state x (e.modSes n f) := by
  refine ⟨h.state, ?_, ?_⟩
  · rw [Device.sess_modSes_self _ _ _ hn, hr, h.run]
  · rw [Device.sess_modSes_self _ _ _ hn, hd]
    exact h.left

theorem Started.posts {n state : Nat} {x : Desc} {e f : Device} (h : Started n state x e) (g : Posts [] n e f) : Started n state x f := by
  refine ⟨?_, ?_, ?_⟩
  · rw [Device.sesState, g.get _ (by simp)]
    exact h.state
  · rw [g.keeps SesSt.run (fun _ _ _ _ => rfl), h.run]
  · rw [g.keeps SesSt.descs (fun _ _ _ _ => rfl)]
    exact h.left

/-! #### What the opcodes do -/

section
variable {n : Nat} (hn : n < 16) (d : Device) {x : Desc}
include hn

/-- An INVENTORY goes to ROUND, or waits for its trigger in ARMED (R79). -/
theorem started_inventory :
    (d.on (fSesTrigEn n) = false → Started n 4 x ((d.begun n x).inventoryBegin n) ∧ (((d.begun n x).inventoryBegin n).sess n).round.active = false)
    ∧ (d.on (fSesTrigEn n) = true → (d.on (fSesTrigPending n) = false ∨ d.sesState n = 2) → Started n 3 x ((d.begun n x).inventoryBegin n)) := by
  have hen : (d.begun n x).on (fSesTrigEn n) = d.on (fSesTrigEn n) := rfl
  have hpend : (d.begun n x).on (fSesTrigPending n) = d.on (fSesTrigPending n) := rfl
  have hstate : (d.begun n x).sesState n = d.sesState n := rfl
  unfold Device.inventoryBegin
  refine ⟨fun h => ?_, fun h hp => ?_⟩
  · rw [if_pos (by simp [hen, h])]
    refine ⟨started_begun hn d x (by decide), ?_⟩
    rw [(posts_sesGo n _ 4 0).keeps (fun s => s.round.active) (fun _ _ _ _ => rfl), d.sess_begun hn]
    rfl
  · rw [if_neg (by simp [hen, h]), if_neg]
    · exact started_begun hn d x (by decide)
    · rcases hp with hp | hp <;> simp [hpend, hstate, hp]

omit hn in
/-- What a descriptor is checked against stands while the session changes its state. -/
theorem precheck_congr {e f : Device} {n : Nat} (hregs : ∀ a, a ∉ stateRegs n → f.rd a = e.rd a) (hn : n < 16) (x : Desc) :
    f.precheck n x = e.precheck n x ∧ ∀ t k, f.tplByte n t k = e.tplByte n t k := by
  have hlink : f.rd (sesLink n) = e.rd (sesLink n) := by
    refine hregs _ (not_mem_stateRegs hn ?_ ?_ ?_) <;> simp only [sesLink, sesStat, pageStat, wordAt] <;> omega
  have htpl : ∀ i, f.rd (sesTpl n i) = e.rd (sesTpl n i) := fun i => by
    refine hregs _ (not_mem_stateRegs hn ?_ ?_ ?_) <;> simp only [sesTpl, sesStat, pageStat, wordAt] <;> omega
  have hcfg : f.rd (ringCfg n) = e.rd (ringCfg n) := by
    refine hregs _ ?_
    simp only [stateRegs, msgRegs, List.mem_cons, List.not_mem_nil, or_false, not_or, ringCfg, ringMtail, sesStat, pageStat, irqRaw, irqStat, wordAt]
    omega
  have hbyte : ∀ t k, f.tplByte n t k = e.tplByte n t k := fun t k => by simp only [Device.tplByte, htpl]
  have hle : ∀ t k, f.tplLe n t k = e.tplLe n t k := fun t k => by simp only [Device.tplLe, hbyte]
  have hflag : ∀ t b, f.tplFlag n t b = e.tplFlag n t b := fun t b => by simp only [Device.tplFlag, hbyte]
  have hreply : ∀ t, f.tplReply n t = e.tplReply n t := fun t => by simp only [Device.tplReply, hflag, hle]
  have hbad : ∀ t, f.tplBad n t = e.tplBad n t := fun t => by simp only [Device.tplBad, hflag, hle, hbyte]
  have hneed : f.resultNeed n x = e.resultNeed n x := by simp only [Device.resultNeed, hflag, hle, hreply, hlink]
  have hdepth : f.mDepth n = e.mDepth n := by simp only [Device.mDepth, Device.get, fRingCfgMdepth, hcfg]
  refine ⟨?_, hbyte⟩
  simp only [Device.precheck, hflag, hle, hreply, hbad, hneed, hdepth, hlink]

end

/-! #### Descriptors that are over at once -/

theorem posts_notice (n : Nat) (d : Device) (x : Desc) : Posts (flightRegs n) n d (d.notice n x) := by
  unfold Device.notice
  refine Posts.then ?_ (posts_showFlight n _)
  split
  · exact (posts_postMsg n d _).mono (by simp +contextual [flightRegs, stateRegs])
  · exact .refl _ n d

/-- The running descriptor completes with no message of its own, and the session goes on (R130). -/
theorem posts_completeRun {d : Device} {n : Nat} (hn : n < 16) {x : Desc} (h : (d.sess n).run = some x) :
    Posts (flightRegs n) n (d.modSes n SesSt.done) (d.completeRun n) := by
  have hdone := (posts_notice n (d.modSes n (fun s => { s with run := none })) x).modSes hn SesSt.done (fun _ _ _ _ => rfl)
  rw [Device.modSes_modSes _ hn] at hdone
  have hrun := hdone.then (posts_sesDone n _)
  unfold Device.completeRun
  rw [h]
  exact hrun

/-- What a descriptor that is over leaves: nothing runs, it waits no longer, and the stream is as it was. -/
structure Over (n : Nat) (x : Desc) (d e : Device) : Prop where
  run : (e.sess n).run = none
  left : ∀ y ∈ (e.sess n).descs, y.index ≠ x.index
  stream : e.stream n = d.stream n

theorem Posts.over {l : List Nat} {n : Nat} (hn : n < 16) {x : Desc} {d e : Device} (h : Posts l n (d.modSes n SesSt.done) e)
    (hleft : ∀ y ∈ (d.sess n).descs, y.index ≠ x.index) : Over n x d e := by
  refine ⟨?_, ?_, h.stream n⟩
  · rw [h.keeps SesSt.run (fun _ _ _ _ => rfl), Device.sess_modSes_self _ _ _ hn]
    rfl
  · rw [h.keeps SesSt.descs (fun _ _ _ _ => rfl), Device.sess_modSes_self _ _ _ hn]
    exact hleft

theorem Over.settle {n : Nat} {x : Desc} {d e : Device} (h : Over n x d e) (he : e.NoRemote) : Over n x d e.settle := by
  refine ⟨?_, ?_, ?_⟩
  · rw [Device.sess_settle _ he, h.run]
  · rw [Device.sess_settle _ he]
    exact h.left
  · rw [Device.stream_settle _ he, h.stream]

section
variable {n : Nat} (hn : n < 16) (d : Device) {x : Desc}
include hn

/-- The descriptor that has begun is the running one. -/
theorem Device.run_begun : ((d.begun n x).sess n).run = some (d.runs x) := by
  rw [d.sess_begun hn, SesSt.begun]

/-! #### ACCESS and TEMPLATE -/

/-- The state an ACCESS or TEMPLATE takes the session to. -/
def Desc.accessState (x : Desc) : Nat := if x.isTemplate then 6 else 5

omit hn in
theorem accessState_lt : x.accessState < 256 := by
  unfold Desc.accessState
  split <;> decide

end

/-- The ring space for the largest results of a descriptor and those chained to it is waited for where it is not free (R149). -/
def Device.asksSpace (d : Device) (n : Nat) (y : Desc) : Device :=
  let need := 8 + (y :: (d.sess n).chain).foldl (fun m z => max m (d.resultNeed n z)) 0
  if d.mFree n < need then (d.modSes n (fun s => { s with need := max s.need need })).holdAsk n 3 else d

/-- A template for any tag is sent at once. -/
def Device.sendsTemplate (d : Device) (n : Nat) (y : Desc) : Device :=
  if y.isTemplate && d.tplByte n y.record 1 = 0 then
    (d.modSes n (fun s => { s with acc := { s.acc with running := true, steps := [.exchange], tries := 0 } })).planStep n
  else d

section
variable {e : Device} {n : Nat} {y : Desc}

theorem accessBegin_chained (h : y.chained = true) : e.accessBegin n y = (e.sesGo n y.accessState 0).retireRun n 0x15 0 := by
  unfold Device.accessBegin
  rw [if_pos h]
  rfl

theorem accessBegin_unfit (h : y.chained = false) (hp : (e.sesGo n y.accessState 0).precheck n y ≠ 0) :
    e.accessBegin n y = (e.sesGo n y.accessState 0).retireRun n ((e.sesGo n y.accessState 0).precheck n y) 0 := by
  unfold Device.accessBegin
  rw [if_neg (by simp [h])]
  split
  · next h0 => exact absurd h0 hp
  · rfl

theorem accessBegin_fit (h : y.chained = false) (hp : (e.sesGo n y.accessState 0).precheck n y = 0) :
    e.accessBegin n y = ((e.sesGo n y.accessState 0).asksSpace n y).sendsTemplate n y := by
  unfold Device.accessBegin
  rw [if_neg (by simp [h])]
  split
  · rfl
  · next h0 => exact absurd hp h0

end

section
variable {n : Nat} (hn : n < 16) (d : Device) {x : Desc}
include hn

/-- The descriptor's checks come out alike once the session is in its state. -/
theorem precheck_begun (st : Nat) : ((d.begun n x).sesGo n st 0).precheck n (d.runs x) = d.precheck n x
    ∧ ∀ t k, ((d.begun n x).sesGo n st 0).tplByte n t k = d.tplByte n t k := by
  have hregs : ∀ a, a ∉ stateRegs n → ((d.begun n x).sesGo n st 0).rd a = d.rd a := fun a ha => by
    rw [(posts_sesGo n (d.begun n x) st 0).regs a ha, Device.begun, Device.rd_modSes]
  have hgo := precheck_congr hregs hn x
  rw [Device.precheck_runs]
  exact hgo

/-- An ACCESS or TEMPLATE that is chained to none that runs, or fails its checks, is over at once (R130, R137). -/
theorem over_access (h : x.chained = true ∨ d.precheck n x ≠ 0) : Over n x d ((d.begun n x).accessBegin n (d.runs x)) := by
  have hgo := posts_sesGo n (d.begun n x) (d.runs x).accessState 0
  have hrun : (((d.begun n x).sesGo n (d.runs x).accessState 0).sess n).run = some (d.runs x) :=
    (hgo.keeps SesSt.run (fun _ _ _ _ => rfl)).trans (d.run_begun hn)
  have hover : ∀ code, Over n x d (((d.begun n x).sesGo n (d.runs x).accessState 0).retireRun n code 0) := fun code => by
    obtain ⟨hnone, hleft, hstream⟩ := (posts_retireRun hn hrun code 0).over hn (x := x) (by
      rw [hgo.keeps SesSt.descs (fun _ _ _ _ => rfl)]
      exact d.descs_begun hn x)
    exact ⟨hnone, hleft, hstream.trans (hgo.stream n)⟩
  rw [← d.chained_runs] at h
  cases hc : (d.runs x).chained with
  | true =>
    rw [accessBegin_chained hc]
    exact hover _
  | false =>
    have hp := (precheck_begun (x := x) hn d (d.runs x).accessState).1.trans_ne (h.resolve_left (by simp [hc]))
    rw [accessBegin_unfit hc hp]
    exact hover _

/-- Asking for ring space moves no register and no descriptor. -/
theorem asksSpace_leaves (e : Device) (y : Desc) : (∀ a, (e.asksSpace n y).rd a = e.rd a)
    ∧ ((e.asksSpace n y).sess n).run = (e.sess n).run ∧ ((e.asksSpace n y).sess n).descs = (e.sess n).descs := by
  unfold Device.asksSpace
  dsimp only
  split
  · refine ⟨fun a => (posts_holdAsk [] n _ 3).regs a (by simp), ?_, ?_⟩
    · rw [(posts_holdAsk [] n _ 3).keeps SesSt.run (fun _ _ _ _ => rfl), Device.sess_modSes_self _ _ _ hn]
    · rw [(posts_holdAsk [] n _ 3).keeps SesSt.descs (fun _ _ _ _ => rfl), Device.sess_modSes_self _ _ _ hn]
  · exact ⟨fun _ => rfl, rfl, rfl⟩

/-- An ACCESS or TEMPLATE that passes its checks runs, in its state (R79, R130). -/
theorem started_access (hc : x.chained = false) (hp : d.precheck n x = 0) : Started n x.accessState x ((d.begun n x).accessBegin n (d.runs x))
    ∧ (x.isTemplate = true → d.tplByte n x.record 1 = 0 → (((d.begun n x).accessBegin n (d.runs x)).sess n).acc.running = true
      ∧ (((d.begun n x).accessBegin n (d.runs x)).sess n).acc.steps = [.exchange] ∧ (((d.begun n x).accessBegin n (d.runs x)).sess n).plan.length = 1) := by
  obtain ⟨hcheck, hbyte⟩ := precheck_begun (x := x) hn d (d.runs x).accessState
  have hstate : (d.runs x).accessState = x.accessState := by rw [Desc.accessState, d.isTemplate_runs, Desc.accessState]
  rw [accessBegin_fit ((d.chained_runs x).trans hc) (hcheck.trans hp)]
  rw [hstate] at hbyte ⊢
  obtain ⟨hregs, hask, hdescs⟩ := asksSpace_leaves hn ((d.begun n x).sesGo n x.accessState 0) (d.runs x)
  have hstarted : Started n x.accessState x (((d.begun n x).sesGo n x.accessState 0).asksSpace n (d.runs x)) := by
    obtain ⟨hst, hr, hl⟩ := started_begun hn d x (accessState_lt (x := x))
    refine ⟨?_, by rw [hask, hr], by rwa [hdescs]⟩
    refine Eq.trans ?_ hst
    simp only [Device.sesState, Device.get, hregs]
  have hrun : ((((d.begun n x).sesGo n x.accessState 0).asksSpace n (d.runs x)).sess n).run = some (d.runs x) := by
    rw [hask, (posts_sesGo n (d.begun n x) x.accessState 0).keeps SesSt.run (fun _ _ _ _ => rfl), d.run_begun hn]
  have htpl : (((d.begun n x).sesGo n x.accessState 0).asksSpace n (d.runs x)).tplByte n x.record 1 = d.tplByte n x.record 1 := by
    rw [← hbyte]
    simp only [Device.tplByte, hregs]
  generalize ((d.begun n x).sesGo n x.accessState 0).asksSpace n (d.runs x) = e at *
  unfold Device.sendsTemplate
  rw [d.isTemplate_runs, d.record_runs, htpl]
  split
  · next h =>
    have hplan := planStep_eq (d := e.modSes n (fun s => { s with acc := { s.acc with running := true, steps := [.exchange], tries := 0 } })) (n := n)
      (x := d.runs x) (st := .exchange) (rest := []) (by rw [Device.sess_modSes_self _ _ _ hn]; exact hrun) (by rw [Device.sess_modSes_self _ _ _ hn])
    rw [hplan]
    refine ⟨(hstarted.modSes hn _ rfl rfl).modSes hn _ rfl rfl, fun _ _ => ?_⟩
    rw [Device.sess_modSes_self _ _ _ hn, Device.sess_modSes_self _ _ _ hn]
    exact ⟨rfl, rfl, rfl⟩
  · next h => exact ⟨hstarted, fun ht h0 => absurd (by simp [ht, h0]) h⟩

/-! #### BEAM, SURVEY, SNAPSHOT and NOISE -/

/-- A BEAM without a usable table entry retires (R133). -/
theorem over_beamBad (hop : x.byte 0 = 0x13) (htable : x.byte 5 = 0) (hbad : (entryFlags (d.wtEntry (x.le 6 2))).testBit 7 = false) :
    Over n x d (d.begin_ n x) := by
  have hentry : ∀ i, (d.begun n x).wtEntry i = d.wtEntry i := fun _ => rfl
  have hover : Over n x d ((d.begun n x).retireRun n 0x14 0) := by
    obtain ⟨hnone, hleft, hstream⟩ := (posts_retireRun hn (d.run_begun hn) 0x14 0).over hn (d.descs_begun hn x)
    exact ⟨hnone, hleft, hstream⟩
  by_cases htx : x.byte 4 = 0
  · rw [begin_beamTx d n hop htx]
    unfold Device.beamTx
    dsimp only
    rw [if_pos]
    · exact hover
    · simp [d.byte_runs, d.le_runs, hentry, htable, hbad]
  · rw [begin_beamRx d n hop htx]
    unfold Device.beamRx
    dsimp only
    rw [if_pos (by rw [d.byte_runs, htable]), if_pos]
    · exact hover
    · simp [d.le_runs, hentry, hbad]

/-- A BEAM for receive sets from a table entry gives the weights that wait for the next reply window, and completes (R133). -/
theorem beamRx_waits (hop : x.byte 0 = 0x13) (hrx : x.byte 4 ≠ 0) (htable : x.byte 5 = 0)
    (hvalid : (entryFlags (d.wtEntry (x.le 6 2))).testBit 7 = true) (hset : (entryFlags (d.wtEntry (x.le 6 2))).testBit 1 = true) :
    ∃ e, Over n x e (d.begin_ n x)
      ∧ (x.byte 4 ≠ 2 → (e.stream n).pendA = some (.table, d.loadRx (entryWeights (d.wtEntry (x.le 6 2)))))
      ∧ (x.byte 4 ≠ 1 → (e.stream n).pendB = some (.table, d.loadRx (entryWeights (d.wtEntry (x.le 6 2))))) := by
  have hentry : ∀ i, (d.begun n x).wtEntry i = d.wtEntry i := fun _ => rfl
  have hload : ∀ ws, (d.begun n x).loadRx ws = d.loadRx ws := fun _ => rfl
  let e := (d.begun n x).modStream n (fun s => { s with
    pendA := if x.byte 4 = 2 then s.pendA else some (.table, d.loadRx (entryWeights (d.wtEntry (x.le 6 2))))
    pendB := if x.byte 4 = 1 then s.pendB else some (.table, d.loadRx (entryWeights (d.wtEntry (x.le 6 2)))) })
  have heq : d.begin_ n x = e.completeRun n := by
    rw [begin_beamRx d n hop hrx]
    unfold Device.beamRx
    dsimp only
    rw [if_pos (by rw [d.byte_runs, htable]), if_neg (by simp [d.le_runs, hentry, hvalid, hset]), d.byte_runs, d.le_runs, hentry, hload]
  have hstream : e.stream n = _ := Device.stream_modStream_self _ _ _ hn
  refine ⟨e, ?_, fun h => ?_, fun h => ?_⟩
  · rw [heq]
    exact (posts_completeRun (d := e) hn (d.run_begun hn)).over hn (d.descs_begun hn x)
  · rw [hstream]
    exact if_neg h
  · rw [hstream]
    exact if_neg h

/-- A SURVEY that has started before goes on where it was (R137, R187). -/
theorem survey_resumes (hop : x.byte 0 = 0x14) (hs : x.started = true) : (d.begin_ n x).sesState n = 7
    ∧ ((d.begin_ n x).sess n).run.map (fun y => (y.bytes, y.sector, y.rounds)) = some (x.bytes, x.sector, x.rounds)
    ∧ ∀ y ∈ ((d.begin_ n x).sess n).descs, y.index ≠ x.index := by
  rw [begin_survey d n hop hs]
  obtain ⟨hst, -, hl⟩ := started_begun hn d x (st := 7) (by decide)
  refine ⟨hst, ?_, hl⟩
  rw [(posts_sesGo n (d.begun n x) 7 0).keeps SesSt.run (fun _ _ _ _ => rfl), d.run_begun hn, Option.map_some, d.bytes_runs, Device.runs]

omit hn in
/-- A SNAPSHOT to the berth asks the packet link for nothing. -/
theorem snapStart_berth (e : Device) (y : Desc) (h : y.byte 4 = 0) :
    e.snapStart n y = if y.le 8 8 ≤ e.stamp then e.captureBegin n else e := by
  unfold Device.snapStart
  rw [if_neg (by simp [h])]
  rfl

/-- A SNAPSHOT to the berth runs; its capture begins where START has passed (R134). -/
theorem snapshot_runs (hop : x.byte 0 = 0x15) (hberth : x.byte 4 = 0) : Started n 7 x (d.begin_ n x)
    ∧ ((d.begin_ n x).sess n).run.map (·.started) = some (x.started || decide (x.le 8 8 ≤ d.stamp)) := by
  have hgo := posts_sesGo n (d.begun n x) 7 0
  have hstamp : ((d.begun n x).sesGo n 7 0).stamp = d.stamp := by
    have htide : ∀ a, a / 1024 = 9 → ((d.begun n x).sesGo n 7 0).rd a = d.rd a := fun a ha => by
      rw [hgo.regs, Device.begun, Device.rd_modSes]
      exact not_mem_stateRegs hn (by omega) (by rw [sesStat]; omega) (by rw [pageStat, wordAt]; omega)
    simp only [Device.stamp, htide tideCountHi (by decide), htide tideCountLo (by decide)]
  have hrun : (((d.begun n x).sesGo n 7 0).sess n).run = some (d.runs x) :=
    (hgo.keeps SesSt.run (fun _ _ _ _ => rfl)).trans (d.run_begun hn)
  have hstarted : (d.runs x).started = x.started := by simp [Device.runs, hop]
  have hat := started_begun hn d x (st := 7) (by decide)
  rw [begin_snapshot d n hop, snapStart_berth _ _ ((d.byte_runs x 4).trans hberth), d.le_runs, hstamp]
  split
  · next h =>
    have hcapture : ((((d.begun n x).sesGo n 7 0).captureBegin n).sess n).run
        = some { d.runs x with started := true, startTide := ((d.begun n x).sesGo n 7 0).stamp } := by
      rw [Device.captureBegin, Device.sess_modSes_self _ _ _ hn, hrun, Option.map_some]
    refine ⟨⟨hat.state, ?_, ?_⟩, ?_⟩
    · rw [hcapture, Option.map_some, d.bytes_runs]
    · rw [Device.captureBegin, Device.sess_modSes_self _ _ _ hn]
      exact hat.left
    · rw [hcapture, Option.map_some, decide_eq_true h, Bool.or_true]
  · next h =>
    refine ⟨hat, ?_⟩
    rw [hrun, Option.map_some, hstarted, decide_eq_false h, Bool.or_false]

end

/-- A row of an opcode, or DESCRIPTOR_START, as the statements name them. -/
theorem exec_starts {c : Instr} {s : State} {n : Fin 16} {row : Instr} {op : Nat} (hrow : exec row s = act (startOp op n.val) s)
    (hc : c = row ∨ c = .descriptorStart n) : exec c s = act (startOp op n.val) s ∨ exec c s = act (descriptorStart n.val) s := by
  rcases hc with rfl | rfl
  · exact .inl hrow
  · exact .inr rfl

section
variable {s : State} (hn : s.dev.NoRemote) (n : Fin 16) {c : Instr} {x : Desc} (hrun : (s.dev.sess n.val).run = none)
  (hnext : s.dev.startNext n.val = some x)
include hn hrun hnext

/-- A start whose descriptor runs on. -/
theorem started_completes {op st : Nat} (hop : x.byte 0 = op)
    (hc : exec c s = act (startOp op n.val) s ∨ exec c s = act (descriptorStart n.val) s) (h : Started n.val st x (s.dev.begin_ n.val x)) :
    Completes c s (fun e => e.sesState n.val = st ∧ (e.sess n.val).run.map (·.bytes) = some x.bytes
      ∧ (∀ y ∈ (e.sess n.val).descs, y.index ≠ x.index)
      ∧ ∀ m, e.sess m = (s.dev.begin_ n.val x).sess m) :=
  begin_completes hn hrun hnext hop hc (fun hn' => ⟨(h.settle hn').state, (h.settle hn').run, (h.settle hn').left, Device.sess_settle _ hn'⟩)

/-- A start whose descriptor is over at once. -/
theorem over_completes {op : Nat} {d : Device} (hop : x.byte 0 = op)
    (hc : exec c s = act (startOp op n.val) s ∨ exec c s = act (descriptorStart n.val) s) (h : Over n.val x d (s.dev.begin_ n.val x)) :
    Completes c s (fun e => (e.sess n.val).run = none ∧ (∀ y ∈ (e.sess n.val).descs, y.index ≠ x.index) ∧ e.stream n.val = d.stream n.val) :=
  begin_completes hn hrun hnext hop hc (fun hn' => ⟨(h.settle hn').run, (h.settle hn').left, (h.settle hn').stream⟩)

end

/-- What completes with one outcome completes with what follows from it. -/
theorem Completes.imp {c : Instr} {s : State} {P Q : Device → Prop} (h : Completes c s P) (hpq : ∀ e, P e → Q e) : Completes c s Q := by
  obtain ⟨nx, hexec, hpend, hp⟩ := h
  exact ⟨nx, hexec, hpend, hpq _ hp⟩

/-- Settles O24: for each opcode what its start comes to, from the lemmas about what has begun. -/
theorem descriptorsStart : Obligations.DescriptorsStart := by
  intro s n c x hn hrun hnext
  refine ⟨fun hc hop hen => ?_, fun hc hop hen hp => ?_, fun hc hop hch hpre => ?_, fun hc hop hbad => ?_, fun hc hop hch hpre => ?_,
    fun hc hop hrx htable hvalid hset => ?_, fun hc hop htable hinvalid => ?_, fun hc hop hs => ?_, fun hc hop hberth => ?_, fun hc hop => ?_⟩
  · obtain ⟨hst, hround⟩ := (started_inventory n.isLt s.dev (x := x)).1 hen
    rw [← begin_inventory s.dev n.val hop] at hst hround
    refine (started_completes hn n hrun hnext hop (exec_starts rfl hc) hst).imp (fun e he => ?_)
    obtain ⟨h1, h2, h3, h4⟩ := he
    exact ⟨h1, h2, h3, by rw [h4, hround]⟩
  · have hst := (started_inventory n.isLt s.dev (x := x)).2 hen hp
    rw [← begin_inventory s.dev n.val hop] at hst
    exact (started_completes hn n hrun hnext hop (exec_starts rfl hc) hst).imp (fun e he => ⟨he.1, he.2.1, he.2.2.1⟩)
  · have hst := (started_access n.isLt s.dev hch hpre).1
    rw [← begin_access s.dev n.val (.inl hop), Desc.accessState, if_neg (by simp [Desc.isTemplate, hop])] at hst
    exact (started_completes hn n hrun hnext hop (exec_starts rfl hc) hst).imp (fun e he => ⟨he.1, he.2.1, he.2.2.1⟩)
  · have hover : (x.byte 0 = 0x11 ∨ x.byte 0 = 0x12) → Over n.val x s.dev (s.dev.begin_ n.val x) := fun hop => by
      rw [begin_access s.dev n.val hop]
      exact over_access n.isLt s.dev hbad
    have hends : ∀ {op : Nat}, x.byte 0 = op → (op = 0x11 ∨ op = 0x12) →
        (exec c s = act (startOp op n.val) s ∨ exec c s = act (descriptorStart n.val) s) →
        Completes c s (fun e => (e.sess n.val).run = none ∧ ∀ y ∈ (e.sess n.val).descs, y.index ≠ x.index) := fun hb hop hexec =>
      (over_completes hn n hrun hnext hb hexec (hover (hb ▸ hop))).imp (fun e he => ⟨he.1, he.2.1⟩)
    rcases hop with ⟨hrow, hb⟩ | ⟨hrow, hb⟩ | ⟨hrow, hb⟩
    · exact hends hb (.inl rfl) (exec_starts (row := .access n) rfl (.inl hrow))
    · exact hends hb (.inr rfl) (exec_starts (row := .template n) rfl (.inl hrow))
    · exact hends rfl (by simpa [Desc.accessLike] using hb) (.inr (by rw [hrow]; rfl))
  · obtain ⟨hst, hsent⟩ := started_access n.isLt s.dev hch hpre
    have ht : x.isTemplate = true := by simp [Desc.isTemplate, hop]
    rw [← begin_access s.dev n.val (.inr hop)] at hst hsent
    rw [Desc.accessState, if_pos ht] at hst
    refine (started_completes hn n hrun hnext hop (exec_starts rfl hc) hst).imp (fun e he => ?_)
    obtain ⟨h1, h2, h3, h4⟩ := he
    refine ⟨h1, h2, h3, fun h0 => ?_⟩
    rw [h4]
    exact hsent ht h0
  · obtain ⟨e, hover, ha, hb⟩ := beamRx_waits n.isLt s.dev hop hrx htable hvalid hset
    refine (over_completes hn n hrun hnext hop (exec_starts rfl hc) hover).imp (fun f hf => ?_)
    obtain ⟨h1, h2, h3⟩ := hf
    exact ⟨h1, h2, fun h => by rw [h3, ha h], fun h => by rw [h3, hb h]⟩
  · exact over_completes hn n hrun hnext hop (exec_starts rfl hc) (over_beamBad n.isLt s.dev hop htable hinvalid)
  · obtain ⟨hst, hmap, hleft⟩ := survey_resumes n.isLt s.dev hop hs
    refine begin_completes hn hrun hnext hop (exec_starts rfl hc) (fun hn' => ?_)
    rw [Device.sess_settle _ hn', Device.sesState, get_sessionPage_settle hn' (by simp only [fPsState, pageStat, wordAt]; omega)]
    exact ⟨hst, hmap, hleft⟩
  · obtain ⟨hst, hmap⟩ := snapshot_runs n.isLt s.dev hop hberth
    refine (started_completes hn n hrun hnext hop (exec_starts rfl hc) hst).imp (fun e he => ?_)
    obtain ⟨h1, h2, h3, h4⟩ := he
    exact ⟨h1, h2, h3, by rw [h4, hmap]⟩
  · have hst := started_begun n.isLt s.dev x (st := 7) (by decide)
    rw [← begin_noise s.dev n.val hop] at hst
    exact (started_completes hn n hrun hnext hop (exec_starts rfl hc) hst).imp (fun e he => ⟨he.1, he.2.1, he.2.2.1⟩)

end Sys2Proof.Machine


namespace Sys2Proof.Machine

/-! ### Pilots fail over and move (R87, R296 … R300, R318) -/

/-! #### The words of the pilots -/

/-- A field put in another word than this one. -/
theorem Shows.then_put {l : List Nat} {d e : Device} (h : Shows l d e) (f : Fld) (v : Nat) (hf : f.reg ∈ l) : Shows l d (e.put f v) :=
  h.trans (shows_put e f v hf)

theorem Shows.pil {l : List Nat} {d e : Device} (h : Shows l d e) (p : Nat) : e.pil p = d.pil p := by
  rw [h.same]
  rfl

theorem Shows.rep {l : List Nat} {d e : Device} (h : Shows l d e) : e.rep = d.rep := by
  rw [h.same]

theorem Shows.mono {l k : List Nat} {d e : Device} (h : Shows l d e) (hl : ∀ a ∈ l, a ∈ k) : Shows k d e :=
  ⟨fun a ha => h.regs a (fun hm => ha (hl a hm)), h.same⟩

/-- What the pages of the pilots hold lies in none of the words that follow a session's state. -/
theorem not_mem_stateRegs_pilot {n a : Nat} (hn : n < 16) (hlo : 0x20 * 1024 ≤ a) (hhi : a < 0x40 * 1024) : a ∉ stateRegs n := by
  refine not_mem_stateRegs hn (by omega) ?_ ?_
  · rw [sesStat]
    omega
  · rw [pageStat, wordAt]
    omega

section
variable (d : Device) (p st : Nat)

/-- A pilot's state shows in its own page and in POOLS. -/
theorem shows_pilGo : Shows [pageStat (0x20 + p), repPools] d (d.pilGo p st) := by
  unfold Device.pilGo
  simp only [Device.putB_eq]
  exact ((shows_put d (fPsState (0x20 + p)) st (by simp [fPsState])).then_put _ _ (by simp [fPsBusy])).then_put _ _ (by simp [fRepPoolsPilotSpares])

/-- Of its page's PAGE_STAT a pilot's state is STATE and BUSY alone. -/
theorem get_pilGo_pageStat {f : Fld} (hr : f.reg = pageStat (0x20 + p)) (hf : f.hi < 4 ∨ (4 < f.lo ∧ f.hi < 8)) : (d.pilGo p st).get f = d.get f := by
  unfold Device.pilGo
  simp only [Device.putB_eq]
  rw [Device.get_put_ne _ _ _ _ (by simp only [hr, fRepPoolsPilotSpares, pageStat, repPools, wordAt]; omega),
    Device.get_put_apart _ _ _ _ (by simp [fPsBusy]) (by simp [fPsBusy]) (by simp only [fPsBusy]; omega),
    Device.get_put_apart _ _ _ _ (by simp [fPsState]) (by simp [fPsState]) (by simp only [fPsState]; omega)]

variable {st}

theorem pilState_pilGo (h : st < 256) : (d.pilGo p st).pilState p = st := by
  unfold Device.pilGo Device.pilState
  simp only [Device.putB_eq]
  rw [Device.get_put_ne _ _ _ _ (by simp only [fPsState, fRepPoolsPilotSpares, pageStat, repPools, wordAt]; omega),
    Device.get_put_apart _ _ _ _ (by simp [fPsBusy]) (by simp [fPsBusy]) (by simp [fPsBusy, fPsState]),
    Device.get_put_same _ _ _ (by simp [fPsState]) (by simp [fPsState])]
  simp only [fPsState]
  omega

end

/-- The lowest spare is found alike where the pilots' states and formats stand. -/
theorem spareFor_congr {d e : Device} (hs : ∀ q, e.pilState q = d.pilState q) (hf : ∀ q, e.pilFmt q = d.pilFmt q) (fmt : Nat) :
    e.spareFor fmt = d.spareFor fmt := by
  simp only [Device.spareFor, hs, hf]

/-- A spare that is found is one. -/
theorem pilState_of_spareFor {d : Device} {fmt q : Nat} (h : d.spareFor fmt = some q) : d.pilState q = 4 := by
  have hfound := List.find?_some h
  simp only [Bool.and_eq_true, decide_eq_true_eq] at hfound
  exact hfound.1

section
variable {q n : Nat} (d : Device) (planned : Bool)

/-- The two records that say a pilot takes a session over. -/
def Device.taken (d : Device) (q n : Nat) (planned : Bool) : Device :=
  (d.modPil q (fun s => { s with takes := some n, planned := planned })).modSes n (fun s => { s with spare := some q })

theorem shows_takeOver : Shows [pageStat (0x20 + q), repPools] (d.taken q n planned) (d.takeOver q n planned) := shows_pilGo _ q 6

theorem pil_takeOver_self (hq : q < 20) : (d.takeOver q n planned).pil q = { d.pil q with takes := some n, planned := planned } := by
  rw [(shows_takeOver d planned).pil, Device.taken, Device.pil_modSes, Device.pil_modPil_self _ _ _ hq]

theorem sess_takeOver_self (hn : n < 16) : (d.takeOver q n planned).sess n = { d.sess n with spare := some q } := by
  rw [(shows_takeOver d planned).sess, Device.taken, Device.sess_modSes_self _ _ _ hn, Device.sess_modPil]

theorem get_takeOver {f : Fld} (h : f.reg ∉ [pageStat (0x20 + q), repPools]) : (d.takeOver q n planned).get f = d.get f :=
  ((shows_takeOver d planned).get f h).trans (Device.get_modSes _ _ _ _)

end

/-! #### A fault of a serving pilot (R87, R297, R298) -/

/-- The fault is counted with its cause. -/
def Device.faultNoted (d : Device) (p cause : Nat) : Device := (d.count (fPilCountsFaults p)).put (fPilStatCause p) cause

/-- The session in FAILOVER, taken over by the spare `q`, with pilot `p` that has failed told apart from it. -/
def Device.cutOver (d : Device) (p q n : Nat) : Device :=
  (((d.cutSession n q).takeOver q n false).irq (0x20 + p) 0).modPil p (fun s => { s with moveTo := none, moveOff := false, faulted := some q })

/-- The failed pilot serves no session and tests itself. -/
def Device.retired (d : Device) (p : Nat) : Device := ((d.put (fPilStatSession p) 31).put (fPsShuttingDown (0x20 + p)) 0).pilGo p 3

section
variable (d : Device) (p cause : Nat)

theorem shows_faultNoted : Shows [pilCounts p, pilStat p] d (d.faultNoted p cause) := by
  unfold Device.faultNoted
  rw [Device.count_eq]
  exact (shows_put d (fPilCountsFaults p) _ (by simp [fPilCountsFaults])).then_put _ _ (by simp [fPilStatCause])

theorem get_faultNoted_faults : (d.faultNoted p cause).get (fPilCountsFaults p) = min (d.get (fPilCountsFaults p) + 1) 0xFF := by
  unfold Device.faultNoted
  rw [Device.get_put_ne _ _ _ _ (by simp [fPilCountsFaults, fPilStatCause, pilCounts, pilStat]),
    Device.get_count_same _ _ (by simp [fPilCountsFaults]) (by simp [fPilCountsFaults])]
  rfl

theorem get_faultNoted_cause (h : cause < 16) : (d.faultNoted p cause).get (fPilStatCause p) = cause := by
  unfold Device.faultNoted
  rw [Device.get_put_same _ _ _ (by simp [fPilStatCause]) (by simp [fPilStatCause])]
  simp only [fPilStatCause]
  omega

theorem pilState_faultNoted (q : Nat) : (d.faultNoted p cause).pilState q = d.pilState q := by
  refine (shows_faultNoted d p cause).get _ ?_
  simp only [List.mem_cons, List.not_mem_nil, or_false, not_or, fPsState, pageStat, pilCounts, pilStat, wordAt]
  omega

theorem pilFmt_faultNoted (q : Nat) : (d.faultNoted p cause).pilFmt q = d.pilFmt q := by
  refine (shows_faultNoted d p cause).get _ ?_
  simp only [List.mem_cons, List.not_mem_nil, or_false, not_or, fPilImgFmtCkptFormat, pilImgFmt, pilCounts, pilStat]
  omega

theorem spareFor_faultNoted (fmt : Nat) : (d.faultNoted p cause).spareFor fmt = d.spareFor fmt :=
  spareFor_congr (pilState_faultNoted d p cause) (pilFmt_faultNoted d p cause) fmt

variable {d p}

theorem servingFault_spare {q : Nat} (hmove : (d.pil p).moveTo = none) (hspare : d.spareFor (d.pilFmt p) = some q) :
    d.servingFault p cause = ((d.faultNoted p cause).cutOver p q (d.pilSes p)).retired p := by
  have hmove' : ((d.faultNoted p cause).pil p).moveTo = none := by rw [(shows_faultNoted d p cause).pil, hmove]
  have hspare' : (d.faultNoted p cause).spareFor ((d.faultNoted p cause).pilFmt p) = some q := by
    rw [spareFor_faultNoted, pilFmt_faultNoted, hspare]
  rw [Device.faultNoted] at hmove' hspare'
  unfold Device.servingFault
  dsimp only
  rw [hmove']
  dsimp only
  rw [hspare']
  rfl

theorem servingFault_alone (hmove : (d.pil p).moveTo = none) (hspare : d.spareFor (d.pilFmt p) = none) :
    d.servingFault p cause = (d.faultNoted p cause).noSpare (d.pilSes p) := by
  have hmove' : ((d.faultNoted p cause).pil p).moveTo = none := by rw [(shows_faultNoted d p cause).pil, hmove]
  have hspare' : (d.faultNoted p cause).spareFor ((d.faultNoted p cause).pilFmt p) = none := by
    rw [spareFor_faultNoted, pilFmt_faultNoted, hspare]
  rw [Device.faultNoted] at hmove' hspare'
  unfold Device.servingFault
  dsimp only
  rw [hmove']
  dsimp only
  rw [hspare']
  rfl

end

/-- What a fault leaves of a session's record: no exchange, and where it goes back to. -/
def SesSt.cutBy (open_ : Bool) (q st : Nat) (s : SesSt) : SesSt :=
  { s with cut := open_, phase := .quiet, spare := some q, prev := if st = 8 then s.prev else st }

section
variable {n : Nat} (d : Device) (q : Nat)

theorem posts_cutSession :
    Posts (stateRegs n) n (d.modSes n (SesSt.cutBy (d.exchangeOpen n) q (d.sesState n))) (d.cutSession n q) := by
  unfold Device.cutSession
  dsimp only
  split
  · exact posts_sesGo n _ 9 0
  · exact .refl _ n _

variable {d}

theorem sesState_cutSession (hlo : 1 ≤ d.sesState n) (hhi : d.sesState n ≤ 8) : (d.cutSession n q).sesState n = 9 := by
  unfold Device.cutSession
  dsimp only
  rw [if_pos (by simp [hlo, hhi])]
  exact sesState_sesGo n _ 9 0 (by decide)

end

section
variable {p q n : Nat} (d : Device)

theorem cutOver_eq : d.cutOver p q n = (((d.cutSession n q).takeOver q n false).irq (0x20 + p) 0).modPil p
    (fun s => { s with moveTo := none, moveOff := false, faulted := some q }) := rfl

/-- The words a handover moves beside those of the failed pilot's PAGE_STAT and STAT. -/
theorem rd_takeOver_cut {a : Nat} (h : a ∉ stateRegs n) (hq : a ∉ [pageStat (0x20 + q), repPools]) :
    ((d.cutSession n q).takeOver q n false).rd a = d.rd a := by
  rw [(shows_takeOver _ false).regs a hq, Device.taken, Device.rd_modSes, Device.rd_modPil, (posts_cutSession d q).regs a h, Device.rd_modSes]

theorem rd_cutOver {a : Nat} (h : a ∉ stateRegs n) (hq : a ∉ [pageStat (0x20 + q), repPools]) (hi : a ≠ irqStat (0x20 + p)) :
    (d.cutOver p q n).rd a = d.rd a := by
  rw [cutOver_eq, Device.rd_modPil, Device.rd_irq_ne _ _ _ _ hi, rd_takeOver_cut d h hq]

theorem sess_cutOver (hn : n < 16) {α : Type} (g : SesSt → α) (hg : ∀ s w o k, g { s with waiting := w, holds := o, opens := k } = g s)
    (hs : ∀ s x, g { s with spare := x } = g s) :
    g ((d.cutOver p q n).sess n) = g ((d.sess n).cutBy (d.exchangeOpen n) q (d.sesState n)) := by
  rw [cutOver_eq, Device.sess_modPil, Device.sess_irq, sess_takeOver_self _ _ hn, hs, (posts_cutSession d q).keeps g hg,
    Device.sess_modSes_self _ _ _ hn]

theorem spare_cutOver (hn : n < 16) : ((d.cutOver p q n).sess n).spare = some q := by
  rw [cutOver_eq, Device.sess_modPil, Device.sess_irq, sess_takeOver_self _ _ hn]

theorem takes_cutOver (hq : q < 20) (hpq : q ≠ p) : ((d.cutOver p q n).pil q).takes = some n := by
  rw [cutOver_eq, Device.pil_modPil, if_neg (fun h => hpq h.1), Device.pil_irq, pil_takeOver_self _ _ hq]

theorem pilState_cutOver : (d.cutOver p q n).pilState q = 6 := by
  rw [cutOver_eq, Device.pilState, Device.get_modPil, Device.get_irq_ne]
  · exact pilState_pilGo _ q (by decide)
  · simp only [fPsState, pageStat, irqStat, wordAt]
    omega

variable {d}

theorem sesState_cutOver (hq : q < 20) (hlo : 1 ≤ d.sesState n) (hhi : d.sesState n ≤ 8) : (d.cutOver p q n).sesState n = 9 := by
  rw [cutOver_eq, Device.sesState, Device.get_modPil, Device.get_irq_ne, get_takeOver]
  · exact sesState_cutSession q hlo hhi
  · simp only [List.mem_cons, List.not_mem_nil, or_false, not_or, fPsState, pageStat, repPools, wordAt]
    omega
  · simp only [fPsState, pageStat, irqStat, wordAt]
    omega

end

section
variable (d : Device) (p : Nat)

theorem shows_retired : Shows [pilStat p, pageStat (0x20 + p), repPools] d (d.retired p) :=
  ((shows_put d (fPilStatSession p) 31 (by simp [fPilStatSession])).then_put _ _ (by simp [fPsShuttingDown])).trans
    ((shows_pilGo _ p 3).mono (by simp))

theorem pilState_retired : (d.retired p).pilState p = 3 := pilState_pilGo _ p (by decide)

theorem get_retired_pilStat {f : Fld} (hr : f.reg = pilStat p) : (d.retired p).get f = (d.put (fPilStatSession p) 31).get f := by
  rw [Device.retired, (shows_pilGo _ p 3).get f, Device.get_put_ne]
  · simp only [hr, fPsShuttingDown, pilStat, pageStat, wordAt]
    omega
  · simp only [hr, List.mem_cons, List.not_mem_nil, or_false, not_or, pilStat, pageStat, repPools, wordAt]
    omega

theorem pilSes_retired : (d.retired p).pilSes p = 31 := by
  rw [Device.pilSes, get_retired_pilStat d p rfl, Device.get_put_same _ _ _ (by simp [fPilStatSession]) (by simp [fPilStatSession])]
  rfl

theorem cause_retired : (d.retired p).get (fPilStatCause p) = d.get (fPilStatCause p) := by
  rw [get_retired_pilStat d p rfl, Device.get_put_apart _ _ _ _ (by simp [fPilStatSession]) (by simp [fPilStatSession])]
  simp [fPilStatSession, fPilStatCause]

end

/-- What a serving pilot that fails leaves with a spare at hand. -/
structure HandedOver (p q n code : Nat) (d e : Device) : Prop where
  failed : e.pilState p = 3
  spare : e.pilState q = 6
  takes : (e.pil q).takes = some n
  named : (e.sess n).spare = some q
  state : e.sesState n = 9
  cut : (e.sess n).cut = d.exchangeOpen n
  faults : e.get (fPilCountsFaults p) = min (d.get (fPilCountsFaults p) + 1) 0xFF
  cause : e.get (fPilStatCause p) = code
  serves : e.pilSes p = 31
  event : Device.raised (0x20 + p) 0 d e

section
variable {p q n code : Nat} {d : Device} (hp : p < 20) (hq : q < 20) (hn : n < 16) (hpq : q ≠ p)
theorem sesState_faultNoted : (d.faultNoted p code).sesState n = d.sesState n := by
  refine (shows_faultNoted d p code).get _ ?_
  simp only [List.mem_cons, List.not_mem_nil, or_false, not_or, fPsState, pageStat, pilCounts, pilStat, wordAt]
  omega

include hp hq hn hpq

/-- The fault's event is recorded as the session is handed over. -/
theorem raised_handedOver : Device.raised (0x20 + p) 0 d (((d.faultNoted p code).cutOver p q n).retired p) := by
  have hregs : ∀ a, a ∉ stateRegs n → a ∉ [pilCounts p, pilStat p, pageStat (0x20 + q), repPools] →
      (((d.faultNoted p code).cutSession n q).takeOver q n false).rd a = d.rd a := fun a hs h => by
    simp only [List.mem_cons, List.not_mem_nil, or_false, not_or] at h
    obtain ⟨hc, ht, hg, hr⟩ := h
    rw [rd_takeOver_cut _ hs (by simp [hg, hr]), (shows_faultNoted d p code).regs a (by simp [hc, ht])]
  have hpage : ∀ o, o < 16 → wordAt (0x20 + p) o ∉ stateRegs n ∧ wordAt (0x20 + p) o ∉ [pilCounts p, pilStat p, pageStat (0x20 + q), repPools] := fun o ho => by
    refine ⟨not_mem_stateRegs_pilot hn (by rw [wordAt]; omega) (by rw [wordAt]; omega), ?_⟩
    simp only [List.mem_cons, List.not_mem_nil, or_false, not_or, pageStat, pilCounts, pilStat, repPools, wordAt]
    omega
  intro hon hlive
  have hstat : irqStat (0x20 + p) ∉ [pilStat p, pageStat (0x20 + p), repPools] := by
    simp only [List.mem_cons, List.not_mem_nil, or_false, not_or, pageStat, pilStat, irqStat, repPools, wordAt]
    omega
  rw [on_of_get ((shows_retired _ p).get _ hstat), cutOver_eq, on_of_get (Device.get_modPil _ _ _ _)]
  refine on_irq (by decide) ?_ ?_
  · rw [on_of_rd (hregs _ (hpage _ (by decide)).1 (hpage _ (by decide)).2), hon]
  · rw [← hlive]
    refine pageLive_congr (hregs _ (hpage _ (by decide)).1 (hpage _ (by decide)).2) (on_of_rd (hregs _ (hpage _ (by decide)).1 (hpage _ (by decide)).2))
      (hregs _ (not_mem_stateRegs hn ?_ ?_ ?_) ?_) ?_
    · decide
    · rw [sesStat, clkGood]
      omega
    · rw [pageStat, wordAt, clkGood]
      omega
    · simp only [List.mem_cons, List.not_mem_nil, or_false, not_or, pageStat, pilCounts, pilStat, repPools, wordAt, clkGood]
      omega
    · rw [(shows_takeOver _ false).same, Device.taken, (posts_cutSession _ q).same, (shows_faultNoted d p code).same]
      rfl

theorem handedOver (hlo : 1 ≤ d.sesState n) (hhi : d.sesState n ≤ 8) (hcode : code < 16) :
    HandedOver p q n code d (((d.faultNoted p code).cutOver p q n).retired p) := by
  have hstate : (d.faultNoted p code).sesState n = d.sesState n := sesState_faultNoted
  have hpil : ∀ o, o < 32 → (0x20 + p) * 1024 + o ∉ stateRegs n := fun o ho => not_mem_stateRegs_pilot hn (by omega) (by omega)
  refine ⟨pilState_retired _ p, ?_, ?_, ?_, ?_, ?_, ?_, ?_, pilSes_retired _ p, raised_handedOver hp hq hn hpq⟩
  · refine ((shows_retired _ p).get (fPsState (0x20 + q)) ?_).trans (pilState_cutOver _)
    simp only [List.mem_cons, List.not_mem_nil, or_false, not_or, fPsState, pageStat, pilStat, repPools, wordAt]
    omega
  · rw [(shows_retired _ p).pil, takes_cutOver _ hq hpq]
  · rw [(shows_retired _ p).sess, spare_cutOver _ hn]
  · refine ((shows_retired _ p).get (fPsState (0x80 + n)) ?_).trans (sesState_cutOver hq (hstate ▸ hlo) (hstate ▸ hhi))
    simp only [List.mem_cons, List.not_mem_nil, or_false, not_or, fPsState, pageStat, pilStat, repPools, wordAt]
    omega
  · rw [(shows_retired _ p).sess, sess_cutOver _ hn SesSt.cut (fun _ _ _ _ => rfl) (fun _ _ => rfl), SesSt.cutBy]
    simp only [Device.exchangeOpen, (shows_faultNoted d p code).sess]
  · rw [(shows_retired _ p).get, Device.get, rd_cutOver, ← Device.get, get_faultNoted_faults]
    · exact hpil 0x16 (by decide)
    · simp only [List.mem_cons, List.not_mem_nil, or_false, not_or, fPilCountsFaults, pilCounts, pageStat, repPools, wordAt]
      omega
    · simp only [fPilCountsFaults, pilCounts, irqStat, wordAt]
      omega
    · simp only [List.mem_cons, List.not_mem_nil, or_false, not_or, fPilCountsFaults, pilCounts, pilStat, pageStat, repPools, wordAt]
      omega
  · rw [cause_retired, Device.get, rd_cutOver, ← Device.get, get_faultNoted_cause _ _ _ hcode]
    · exact hpil 0x11 (by decide)
    · simp only [List.mem_cons, List.not_mem_nil, or_false, not_or, fPilStatCause, pilStat, pageStat, repPools, wordAt]
      omega
    · simp only [fPilStatCause, pilStat, irqStat, wordAt]
      omega

end

/-- A field of a page of a pilot or a session reads as it stood once the device has settled. -/
theorem get_pilotPage_settle {d : Device} (hd : d.NoRemote) {f : Fld} (hf : 0x20 * 1024 ≤ f.reg) : d.settle.get f = d.get f :=
  settle_get _ hd _ (settles_of_page hf)

theorem pilState_settle {d : Device} (hd : d.NoRemote) (p : Nat) : d.settle.pilState p = d.pilState p :=
  get_pilotPage_settle hd (by simp only [fPsState, pageStat, wordAt]; omega)

theorem pilSes_settle {d : Device} (hd : d.NoRemote) (p : Nat) : d.settle.pilSes p = d.pilSes p :=
  get_pilotPage_settle hd (by simp only [fPilStatSession, pilStat]; omega)

theorem sesState_settle {d : Device} (hd : d.NoRemote) (n : Nat) : d.settle.sesState n = d.sesState n :=
  get_pilotPage_settle hd (by simp only [fPsState, pageStat, wordAt]; omega)

theorem HandedOver.settle {p q n code : Nat} {d e : Device} (h : HandedOver p q n code d e) (he : e.NoRemote) : HandedOver p q n code d e.settle := by
  obtain ⟨hfailed, hspare, htakes, hnamed, hstate, hcut, hfaults, hcause, hserves, hevent⟩ := h
  refine ⟨?_, ?_, ?_, ?_, ?_, ?_, ?_, ?_, ?_, fun hon hlive => ?_⟩
  · rw [pilState_settle he, hfailed]
  · rw [pilState_settle he, hspare]
  · rw [Device.pil_settle _ he, htakes]
  · rw [Device.sess_settle _ he, hnamed]
  · rw [sesState_settle he, hstate]
  · rw [Device.sess_settle _ he, hcut]
  · rw [get_pilotPage_settle he (by simp only [fPilCountsFaults, pilCounts]; omega), hfaults]
  · rw [get_pilotPage_settle he (by simp only [fPilStatCause, pilStat]; omega), hcause]
  · rw [pilSes_settle he, hserves]
  · rw [settle_on _ he _ (settles_of_page (by simp only [irqStat, wordAt]; omega))]
    exact hevent hon hlive

/-! #### A session that no spare takes over (R298) -/

/-- What the end of a session's work leaves of the pilots and of the repair's finding that a pool is empty. -/
structure PilotsKept (d e : Device) : Prop where
  regs : ∀ a, 0x20 * 1024 ≤ a → a < 0x34 * 1024 → e.rd a = d.rd a
  ranOut : e.rep.ranOut = d.rep.ranOut

theorem PilotsKept.refl (d : Device) : PilotsKept d d := ⟨fun _ _ _ => rfl, rfl⟩

theorem PilotsKept.trans {d e f : Device} (h : PilotsKept d e) (g : PilotsKept e f) : PilotsKept d f :=
  ⟨fun a hlo hhi => (g.regs a hlo hhi).trans (h.regs a hlo hhi), g.ranOut.trans h.ranOut⟩

theorem Posts.pilotsKept {n : Nat} {d e : Device} (hn : n < 16) (h : Posts (flightRegs n) n d e) : PilotsKept d e := by
  refine ⟨fun a hlo hhi => h.regs a (not_mem_flightRegs hn (by omega) ?_ ?_), ?_⟩
  · rw [sesStat]
    omega
  · rw [pageStat, wordAt]
    omega
  · rw [h.same]

theorem pilotsKept_modSes (d : Device) (n : Nat) (f : SesSt → SesSt) : PilotsKept d (d.modSes n f) := ⟨fun _ _ _ => rfl, rfl⟩

theorem pilotsKept_forAll {α : Type} {f : Device → α → Device} (hf : ∀ d x, PilotsKept d (f d x)) (l : List α) (d : Device) :
    PilotsKept d (d.forAll l f) := by
  induction l generalizing d with
  | nil => exact .refl d
  | cons x xs ih => exact (hf d x).trans (ih (f d x))

theorem pilotsKept_accessCut {n : Nat} (hn : n < 16) (d : Device) (code : Nat) : PilotsKept d (d.accessCut n code) := by
  unfold Device.accessCut
  dsimp only
  split
  · exact pilotsKept_modSes d n _
  · refine PilotsKept.trans ?_ (((pilotsKept_modSes _ n _)).trans ((posts_sesDone n _).pilotsKept hn))
    refine PilotsKept.trans ?_ (pilotsKept_forAll (fun e y => (posts_accessResult n e y code 0 0 []).pilotsKept hn) _ _)
    exact ⟨fun _ _ _ => rfl, rfl⟩

/-- The session whose exchange has been reported: it is disabled, and its shutdown begins. -/
def Device.disabled (d : Device) (n : Nat) : Device :=
  let d := d.put (fPcEn (0x80 + n)) 0
  { d with mirror := storePut resetWord d.mirror (pageCtrl (0x80 + n)) (d.rd (pageCtrl (0x80 + n))) }.sesStop n

/-- The exchange of a session that no spare takes over is reported before it is disabled. -/
def Device.reported (d : Device) (n : Nat) : Device :=
  let d := d.poolEmpty.modSes n (fun s => { s with phase := .quiet })
  if (d.sess n).acc.running then d.accessCut n 0x11 else d

theorem noSpare_eq {d : Device} {n : Nat} (hlo : 1 ≤ d.sesState n) (hhi : d.sesState n ≤ 9) : d.noSpare n = (d.reported n).disabled n := by
  unfold Device.noSpare
  dsimp only
  rw [if_neg (by omega)]
  rfl

theorem posts_sesStop (n : Nat) (d : Device) : Posts (stateRegs n) n d (d.sesStop n) :=
  (((posts_put n d (fPsBusy (0x80 + n)) 0 (by simp [stateRegs, fPsBusy])).then (posts_put n _ (fPsShuttingDown (0x80 + n)) 1 (by simp [stateRegs, fPsShuttingDown]))).then
    (posts_holdAsk _ n _ 6)).then (posts_sesGo n _ 10 0)

/-- A session that is shut down as no spare takes it over. -/
structure ShutDown (p n : Nat) (d e : Device) : Prop where
  state : e.sesState n = 10
  enable : e.on (fPcEn (0x80 + n)) = false
  shutting : e.on (fPsShuttingDown (0x80 + n)) = true
  ranOut : e.rep.ranOut = true
  faults : e.get (fPilCountsFaults p) = min (d.get (fPilCountsFaults p) + 1) 0xFF

section
variable {n : Nat} (hn : n < 16) (d : Device)
include hn

theorem reported_keeps : (∀ a, 0x20 * 1024 ≤ a → a < 0x34 * 1024 → (d.reported n).rd a = d.rd a) ∧ (d.reported n).rep.ranOut = true := by
  have hempty : ∀ a, 0x20 * 1024 ≤ a → (d.poolEmpty.modSes n (fun s => { s with phase := .quiet })).rd a = d.rd a := fun a ha => by
    rw [Device.rd_modSes, Device.poolEmpty, Device.rd_modRep, Device.rd_irq_ne _ _ _ _ (by rw [irqStat, wordAt]; omega)]
  unfold Device.reported
  dsimp only
  split
  · have hcut := pilotsKept_accessCut hn (d.poolEmpty.modSes n (fun s => { s with phase := .quiet })) 0x11
    exact ⟨fun a hlo hhi => (hcut.regs a hlo hhi).trans (hempty a hlo), hcut.ranOut⟩
  · exact ⟨fun a hlo _ => hempty a hlo, rfl⟩

theorem disabled_moves : (d.disabled n).sesState n = 10 ∧ (d.disabled n).on (fPsShuttingDown (0x80 + n)) = true
    ∧ (d.disabled n).on (fPcEn (0x80 + n)) = false := by
  unfold Device.disabled
  dsimp only
  obtain ⟨hstate, hshut, -, hregs⟩ := sesStop_moves (d := { d.put (fPcEn (0x80 + n)) 0 with
    mirror := storePut resetWord (d.put (fPcEn (0x80 + n)) 0).mirror (pageCtrl (0x80 + n)) ((d.put (fPcEn (0x80 + n)) 0).rd (pageCtrl (0x80 + n))) }) hn
  refine ⟨hstate, hshut, ?_⟩
  rw [on_of_rd (hregs _ (pageCtrl_not_mem_stateRegs n))]
  exact (on_of_get (e := d.put (fPcEn (0x80 + n)) 0) rfl).trans (by
    rw [Device.on, Device.get_put_same _ _ _ (by simp [fPcEn]) (by simp [fPcEn])]
    simp)

theorem disabled_keeps : (∀ a, 0x20 * 1024 ≤ a → a < 0x34 * 1024 → (d.disabled n).rd a = d.rd a) ∧ (d.disabled n).rep.ranOut = d.rep.ranOut := by
  unfold Device.disabled
  dsimp only
  refine ⟨fun a hlo hhi => ?_, ?_⟩
  · rw [(posts_sesStop n _).regs a (not_mem_stateRegs_pilot hn hlo (by omega))]
    exact Device.rd_put_ne _ _ _ _ (by simp only [fPcEn, pageCtrl, wordAt]; omega)
  · rw [(posts_sesStop n _).same]
    rfl

theorem shutDown {p code : Nat} (hp : p < 20) (hlo : 1 ≤ d.sesState n) (hhi : d.sesState n ≤ 9) : ShutDown p n d ((d.faultNoted p code).noSpare n) := by
  have hstate : (d.faultNoted p code).sesState n = d.sesState n := sesState_faultNoted
  rw [noSpare_eq (hstate ▸ hlo) (hstate ▸ hhi)]
  obtain ⟨hten, hshut, hen⟩ := disabled_moves hn ((d.faultNoted p code).reported n)
  obtain ⟨hregs, hran⟩ := disabled_keeps hn ((d.faultNoted p code).reported n)
  obtain ⟨hregs', hran'⟩ := reported_keeps hn (d.faultNoted p code)
  refine ⟨hten, hen, hshut, hran.trans hran', ?_⟩
  have hcounts : 0x20 * 1024 ≤ pilCounts p ∧ pilCounts p < 0x34 * 1024 := by
    rw [pilCounts]
    omega
  rw [Device.get, show (fPilCountsFaults p).reg = pilCounts p from rfl, hregs _ hcounts.1 hcounts.2, hregs' _ hcounts.1 hcounts.2]
  exact get_faultNoted_faults d p code

end

theorem ShutDown.settle {p n : Nat} {d e : Device} (h : ShutDown p n d e) (he : e.NoRemote) : ShutDown p n d e.settle := by
  obtain ⟨hstate, hen, hshut, hran, hfaults⟩ := h
  have hon : ∀ {f : Fld}, 0x20 * 1024 ≤ f.reg → e.settle.on f = e.on f := fun hf => on_of_get (get_pilotPage_settle he hf)
  refine ⟨?_, ?_, ?_, ?_, ?_⟩
  · rw [sesState_settle he, hstate]
  · rw [hon (by simp only [fPcEn, pageCtrl, wordAt]; omega), hen]
  · rw [hon (by simp only [fPsShuttingDown, pageStat, wordAt]; omega), hshut]
  · rw [settle_rep _ he, hran]
  · rw [get_pilotPage_settle he (by simp only [fPilCountsFaults, pilCounts]; omega), hfaults]

/-! #### PILOT_FAULT -/

theorem pilotCauseCode_lt (cause : PilotCause) : pilotCauseCode cause < 16 := by cases cause <;> decide

theorem pilotFault_serving {d : Device} {p : Nat} (h : d.pilState p = 5) (cause : Nat) : pilotFault p cause d = d.servingFault p cause := by
  simp [pilotFault, h]

theorem pilotFault_idle {d : Device} {p : Nat} (h : d.pilState p = 3 ∨ d.pilState p = 4) (cause : Nat) : pilotFault p cause d = d.faultNoted p cause := by
  rcases h with h | h <;> simp only [pilotFault, h, Device.faultNoted]

section
variable {s : State} (hn : s.dev.NoRemote) (p q : Fin 20) (n : Fin 16) (cause : PilotCause)
include hn

theorem pilotFault_handsOver (hstate : s.dev.pilState p.val = 5) (hses : s.dev.pilSes p.val = n.val) (hmove : (s.dev.pil p.val).moveTo = none)
    (hspare : s.dev.spareFor (s.dev.pilFmt p.val) = some q.val) (hlo : 1 ≤ s.dev.sesState n.val) (hhi : s.dev.sesState n.val ≤ 8) :
    Completes (.pilotFault p cause) s (HandedOver p.val q.val n.val (pilotCauseCode cause) s.dev) := by
  have hpq : q.val ≠ p.val := fun h => by
    have hfour := pilState_of_spareFor hspare
    rw [h, hstate] at hfour
    omega
  have hn' : (pilotFault p.val (pilotCauseCode cause) s.dev).NoRemote := pilotFault_closed noRemote_closed hn
  refine completes_act _ rfl (HandedOver.settle ?_ hn')
  rw [pilotFault_serving hstate, servingFault_spare _ hmove hspare, hses]
  exact handedOver p.isLt q.isLt n.isLt hpq hlo hhi (pilotCauseCode_lt cause)

theorem pilotFault_shutsDown (hstate : s.dev.pilState p.val = 5) (hses : s.dev.pilSes p.val = n.val) (hmove : (s.dev.pil p.val).moveTo = none)
    (hspare : s.dev.spareFor (s.dev.pilFmt p.val) = none) (hlo : 1 ≤ s.dev.sesState n.val) (hhi : s.dev.sesState n.val ≤ 9) :
    Completes (.pilotFault p cause) s (ShutDown p.val n.val s.dev) := by
  have hn' : (pilotFault p.val (pilotCauseCode cause) s.dev).NoRemote := pilotFault_closed noRemote_closed hn
  refine completes_act _ rfl (ShutDown.settle ?_ hn')
  rw [pilotFault_serving hstate, servingFault_alone _ hmove hspare, hses]
  exact shutDown n.isLt _ p.isLt hlo hhi

theorem pilotFault_counts (hstate : s.dev.pilState p.val = 3 ∨ s.dev.pilState p.val = 4) :
    Completes (.pilotFault p cause) s (fun e => e.pilState p.val = s.dev.pilState p.val
      ∧ e.get (fPilCountsFaults p.val) = min (s.dev.get (fPilCountsFaults p.val) + 1) 0xFF
      ∧ e.get (fPilStatCause p.val) = pilotCauseCode cause
      ∧ Device.OnlyRegs [pilCounts p.val, pilStat p.val] s.dev e) := by
  have hn' : (pilotFault p.val (pilotCauseCode cause) s.dev).NoRemote := pilotFault_closed noRemote_closed hn
  refine completes_act _ rfl ?_
  rw [pilotFault_idle hstate] at hn' ⊢
  have hshows := shows_faultNoted s.dev p.val (pilotCauseCode cause)
  refine ⟨?_, ?_, ?_, onlyRegs_settle hn' hshows.regs hshows.sram hshows.opt⟩
  · rw [pilState_settle hn', pilState_faultNoted]
  · rw [get_pilotPage_settle hn' (by simp only [fPilCountsFaults, pilCounts]; omega), get_faultNoted_faults]
  · rw [get_pilotPage_settle hn' (by simp only [fPilStatCause, pilStat]; omega), get_faultNoted_cause _ _ _ (pilotCauseCode_lt cause)]

end

end Sys2Proof.Machine


namespace Sys2Proof.Machine

/-! ### Sessions that a pilot resumes, and planned moves (R87, R297 … R300) -/

/-! #### A pilot serves a session -/

/-- A pilot that serves a session, taken over before. -/
def PilSt.serving (s : PilSt) : PilSt := { s with takes := none, planned := false }

/-- The words that show a pilot serves a session. -/
def Device.showsServed (d : Device) (q n : Nat) : Device :=
  ((d.put (fPilStatSession q) n).count (fPilCountsTakeovers q)).put (fSesStatPilot n) q

/-- The pilot serves the session, before its state follows. -/
def Device.served (d : Device) (q n : Nat) : Device :=
  ((d.modPil q PilSt.serving).showsServed q n).modSes n (fun s => { s with spare := none })

section
variable {q n : Nat} (d : Device)

theorem serve_eq : d.serve q n = (d.served q n).pilGo q 5 := rfl

theorem shows_showsServed : Shows [pilStat q, pilCounts q, sesStat n] d (d.showsServed q n) := by
  unfold Device.showsServed
  rw [Device.count_eq]
  exact ((shows_put d (fPilStatSession q) n (by simp [fPilStatSession])).then_put _ _ (by simp [fPilCountsTakeovers])).then_put _ _ (by simp [fSesStatPilot])

theorem get_serve {f : Fld} (h : f.reg ∉ [pilStat q, pilCounts q, sesStat n, pageStat (0x20 + q), repPools]) : (d.serve q n).get f = d.get f := by
  simp only [List.mem_cons, List.not_mem_nil, or_false, not_or] at h
  obtain ⟨hstat, hcounts, hses, hpage, hpools⟩ := h
  rw [serve_eq, (shows_pilGo _ q 5).get f (by simp [hpage, hpools]), Device.served, Device.get_modSes,
    (shows_showsServed _).get f (by simp [hstat, hcounts, hses]), Device.get_modPil]

theorem sess_serve_self (hn : n < 16) : (d.serve q n).sess n = { d.sess n with spare := none } := by
  rw [serve_eq, (shows_pilGo _ q 5).sess, Device.served, Device.sess_modSes_self _ _ _ hn, (shows_showsServed _).sess, Device.sess_modPil]

theorem pilState_serve : (d.serve q n).pilState q = 5 := pilState_pilGo _ q (by decide)

/-- What shows a session served stands as the pilot's state changes. -/
theorem get_serve_shown {f : Fld} (hlo : f.reg ≠ pageStat (0x20 + q)) (hr : f.reg ≠ repPools) :
    (d.serve q n).get f = ((d.modPil q PilSt.serving).showsServed q n).get f := by
  rw [serve_eq, (shows_pilGo _ q 5).get f (by simp [hlo, hr]), Device.served, Device.get_modSes]

variable (hq : q < 20) (hn : n < 16)
include hq hn

theorem pilSes_serve : (d.serve q n).pilSes q = n := by
  rw [Device.pilSes, get_serve_shown _ (by simp only [fPilStatSession, pilStat, pageStat, wordAt]; omega) (by simp only [fPilStatSession, pilStat, repPools]; omega),
    Device.showsServed, Device.get_put_ne _ _ _ _ (by simp only [fPilStatSession, fSesStatPilot, pilStat, sesStat]; omega), Device.count_eq,
    Device.get_put_ne _ _ _ _ (by simp only [fPilStatSession, fPilCountsTakeovers, pilStat, pilCounts]; omega),
    Device.get_put_same _ _ _ (by simp [fPilStatSession]) (by simp [fPilStatSession])]
  simp only [fPilStatSession]
  omega

theorem get_serve_pilot : (d.serve q n).get (fSesStatPilot n) = q := by
  rw [get_serve_shown _ (by simp only [fSesStatPilot, sesStat, pageStat, wordAt]; omega) (by simp only [fSesStatPilot, sesStat, repPools]; omega),
    Device.showsServed, Device.get_put_same _ _ _ (by simp [fSesStatPilot]) (by simp [fSesStatPilot])]
  simp only [fSesStatPilot]
  omega

theorem get_serve_takeovers : (d.serve q n).get (fPilCountsTakeovers q) = min (d.get (fPilCountsTakeovers q) + 1) 0xFF := by
  rw [get_serve_shown _ (by simp only [fPilCountsTakeovers, pilCounts, pageStat, wordAt]; omega) (by simp only [fPilCountsTakeovers, pilCounts, repPools]; omega),
    Device.showsServed, Device.get_put_ne _ _ _ _ (by simp only [fPilCountsTakeovers, fSesStatPilot, pilCounts, sesStat]; omega),
    Device.get_count_same _ _ (by simp [fPilCountsTakeovers]) (by simp [fPilCountsTakeovers]),
    Device.get_put_ne _ _ _ _ (by simp only [fPilStatSession, fPilCountsTakeovers, pilStat, pilCounts]; omega)]
  rfl

end

/-- What a pilot that serves a session shows. -/
structure Serves (q n : Nat) (d e : Device) : Prop where
  state : e.pilState q = 5
  session : e.pilSes q = n
  pilot : e.get (fSesStatPilot n) = q
  takeovers : e.get (fPilCountsTakeovers q) = min (d.get (fPilCountsTakeovers q) + 1) 0xFF
  spare : (e.sess n).spare = none

theorem serves_serve {q n : Nat} (d : Device) (hq : q < 20) (hn : n < 16) : Serves q n d (d.serve q n) :=
  ⟨pilState_serve d, pilSes_serve d hq hn, get_serve_pilot d hq hn, get_serve_takeovers d hq hn, by rw [sess_serve_self d hn]⟩

theorem Serves.congr {q n : Nat} {d e f : Device} (h : Serves q n d e)
    (hg : ∀ g ∈ [fPsState (0x20 + q), fPilStatSession q, fSesStatPilot n, fPilCountsTakeovers q], f.get g = e.get g)
    (hs : (f.sess n).spare = (e.sess n).spare) : Serves q n d f := by
  obtain ⟨hstate, hses, hpilot, htake, hspare⟩ := h
  simp only [List.forall_mem_cons, List.not_mem_nil, false_imp_iff, implies_true, and_true] at hg
  obtain ⟨hgstate, hgses, hgpilot, hgtake⟩ := hg
  exact ⟨hgstate.trans hstate, hgses.trans hses, hgpilot.trans hpilot, hgtake.trans htake, hs.trans hspare⟩

theorem Serves.settle {q n : Nat} {d e : Device} (h : Serves q n d e) (he : e.NoRemote) : Serves q n d e.settle := by
  refine h.congr (fun g hg => get_pilotPage_settle he ?_) (by rw [Device.sess_settle _ he])
  simp only [List.mem_cons, List.not_mem_nil, or_false] at hg
  rcases hg with rfl | rfl | rfl | rfl <;> simp only [fPsState, fPilStatSession, fSesStatPilot, fPilCountsTakeovers, pageStat, pilStat, sesStat, pilCounts, wordAt] <;> omega

end Sys2Proof.Machine


namespace Sys2Proof.Machine

/-! #### The session goes on from its checkpoint (R87) -/

/-- The session's record as its checkpoint has it in the same round. -/
def SesSt.rewound (k : Ckpt) (s : SesSt) : SesSt :=
  { s with qfp := k.qfp, slots := k.slots, round := { k.round with begun := s.round.begun, startTide := s.round.startTide }, single := false, plan := [] }

/-- The round of the checkpoint stands where it is the round that was in progress. -/
def Device.rewinds (d : Device) (n : Nat) (k : Ckpt) (s : SesSt) : Device :=
  if (s.run.map Desc.index) = (k.run.map Desc.index) && s.round.active && k.round.active then (d.put (fSesStatQ n) k.q).modSes n (SesSt.rewound k)
  else d.modSes n (fun s => { s with single := false, plan := [] })

/-- A session that resumes, with NAK first where an exchange was cut. -/
def SesSt.resumed (nak : Bool) (s : SesSt) : SesSt := { s with cut := false, plan := if nak then [.nak] else s.plan }

/-- The device with the session ready to resume from checkpoint `k`, in FAILOVER still. -/
def Device.resumes (d : Device) (n : Nat) (k : Ckpt) : Device :=
  let s := d.sess n
  ((d.when s.cut (fun d => d.count (fHalf (sesLostSlots n)))).rewinds n k s).modSes n (SesSt.resumed (s.cut || s.round.active || s.acc.running))

theorem sesBack_ready (d : Device) (n : Nat) {st : Nat} (h : st < 3) : d.sesBack n st = d.sesGo n st 0 := by
  unfold Device.sesBack
  dsimp only
  rw [if_pos h]

section
variable {n : Nat} (hn : n < 16) (d : Device) (k : Ckpt)

theorem resumeFrom_eq {d : Device} (hacc : (d.sess n).acc.running = false) : d.resumeFrom n k
    = if (d.resumes n k).sesState n = 9 then (d.resumes n k).sesBack n ((d.resumes n k).sess n).prev else d.resumes n k := by
  unfold Device.resumeFrom
  dsimp only
  rw [if_neg (c := (d.sess n).acc.running = true) (by simp [hacc])]
  rfl

theorem rd_rewinds (s : SesSt) {a : Nat} (h : a ≠ sesStat n) : (d.rewinds n k s).rd a = d.rd a := by
  unfold Device.rewinds
  split
  · rw [Device.rd_modSes, Device.rd_put_ne _ _ _ _ h]
  · rw [Device.rd_modSes]

theorem get_rewinds_pilot (s : SesSt) : (d.rewinds n k s).get (fSesStatPilot n) = d.get (fSesStatPilot n) := by
  unfold Device.rewinds
  split
  · rw [Device.get_modSes, Device.get_put_apart _ _ _ _ (by simp [fSesStatQ]) (by simp [fSesStatQ]) (by simp [fSesStatQ, fSesStatPilot])]
  · rw [Device.get_modSes]

theorem when_count_keeps (c : Bool) {g : Fld} (hg : g.reg ≠ sesLostSlots n) : (d.when c (fun d => d.count (fHalf (sesLostSlots n)))).get g = d.get g := by
  cases c
  · rfl
  · exact (congrArg (fun w => bitsOf w g.hi g.lo) (d.rd_count_ne (fHalf (sesLostSlots n)) _ hg))

theorem get_resumes {g : Fld} (hs : g.reg ≠ sesStat n) (hl : g.reg ≠ sesLostSlots n) : (d.resumes n k).get g = d.get g := by
  unfold Device.resumes
  dsimp only
  rw [Device.get_modSes, Device.get, rd_rewinds _ _ _ hs, ← Device.get, when_count_keeps d _ hl]

theorem get_resumes_pilot : (d.resumes n k).get (fSesStatPilot n) = d.get (fSesStatPilot n) := by
  unfold Device.resumes
  dsimp only
  rw [Device.get_modSes, get_rewinds_pilot, when_count_keeps]
  simp only [fSesStatPilot, sesStat, sesLostSlots]
  omega

theorem get_resumes_lost : (d.resumes n k).get (fHalf (sesLostSlots n))
    = if (d.sess n).cut then min (d.get (fHalf (sesLostSlots n)) + 1) 0xFFFF else d.get (fHalf (sesLostSlots n)) := by
  unfold Device.resumes
  dsimp only
  rw [Device.get_modSes, Device.get, rd_rewinds _ _ _ (by simp only [fHalf, sesLostSlots, sesStat]; omega), ← Device.get]
  cases (d.sess n).cut
  · rfl
  · exact Device.get_count_same _ _ (by simp [fHalf]) (by simp [fHalf])

include hn

theorem sess_resumes : ((d.resumes n k).sess n).prev = (d.sess n).prev ∧ ((d.resumes n k).sess n).spare = (d.sess n).spare
    ∧ (((d.sess n).cut || (d.sess n).round.active || (d.sess n).acc.running) = true → ((d.resumes n k).sess n).plan = [.nak]) := by
  have hwhen : ∀ c, (d.when c (fun d => d.count (fHalf (sesLostSlots n)))).sess n = d.sess n := fun c => by cases c <;> rfl
  have hrewound : ∀ (e : Device) (s : SesSt), e.sess n = d.sess n →
      ((e.rewinds n k s).sess n).prev = (d.sess n).prev ∧ ((e.rewinds n k s).sess n).spare = (d.sess n).spare := fun e s he => by
    unfold Device.rewinds
    split
    · rw [Device.sess_modSes_self _ _ _ hn, Device.sess_put, he]
      exact ⟨rfl, rfl⟩
    · rw [Device.sess_modSes_self _ _ _ hn, he]
      exact ⟨rfl, rfl⟩
  unfold Device.resumes
  dsimp only
  obtain ⟨hprev, hspare⟩ := hrewound _ (d.sess n) (hwhen (d.sess n).cut)
  rw [Device.sess_modSes_self _ _ _ hn, SesSt.resumed]
  refine ⟨hprev, hspare, fun h => ?_⟩
  dsimp only
  rw [if_pos h]

omit hn in
/-- Of a session's STAT a change of its state is HOLD_WHY alone. -/
theorem get_sesGo_pilot (st code : Nat) : (d.sesGo n st code).get (fSesStatPilot n) = d.get (fSesStatPilot n) := by
  unfold Device.sesGo
  dsimp only
  split
  · rfl
  · rw [(posts_postMsg n _ _).get, Device.showHold,
      Device.get_put_apart _ _ _ _ (by simp [fSesStatHoldWhy]) (by simp [fSesStatHoldWhy]) (by simp [fSesStatHoldWhy, fSesStatPilot]), Device.get_put_ne]
    · simp only [fSesStatPilot, fPsState, sesStat, pageStat, wordAt]
      omega
    · simp only [msgRegs, List.mem_cons, List.not_mem_nil, or_false, not_or, fSesStatPilot, sesStat, ringMtail, irqRaw, irqStat, wordAt]
      omega

/-- What FAILOVER_RESUME leaves of a session with no access sequence. -/
theorem resumeFrom_ready (hacc : (d.sess n).acc.running = false) (hprev : (d.sess n).prev = 2) (hstate : d.sesState n = 9) :
    d.resumeFrom n k = (d.resumes n k).sesGo n 2 0 := by
  have hstays : (d.resumes n k).sesState n = 9 := by
    rw [← hstate]
    exact get_resumes d k (by simp only [fPsState, pageStat, sesStat, wordAt]; omega) (by simp only [fPsState, pageStat, sesLostSlots, wordAt]; omega)
  rw [resumeFrom_eq k hacc, if_pos hstays, (sess_resumes hn d k).1, hprev, sesBack_ready _ _ (by decide)]

theorem resumed_keeps {q : Nat} (hq : q < 20) {g : Fld} (hg : g.reg / 1024 = 0x20 + q) :
    ((d.resumes n k).sesGo n 2 0).get g = d.get g := by
  have hout : g.reg ∉ stateRegs n := by
    refine not_mem_stateRegs_pilot hn ?_ ?_ <;> omega
  rw [(posts_sesGo n _ 2 0).get g hout, get_resumes]
  · rw [sesStat]
    omega
  · rw [sesLostSlots]
    omega

end

section
variable {s : State} (hn : s.dev.NoRemote) (q : Fin 20) (n : Fin 16)

theorem failoverResume_eq {d : Device} {q n : Nat} {k : Ckpt} (hspare : (d.sess n).spare = some q) (hstate : d.pilState q = 6) (hplan : (d.pil q).planned = false)
    (hre : (d.pil q).refault = none) (hck : (d.sess n).checkpoint = some k) (hn : n < 16) :
    failoverResume n d = ((d.serve q n).modPil q (fun s => { s with refault := none })).resumeFrom n k := by
  have hck' : (((d.serve q n).modPil q (fun s => { s with refault := none })).sess n).checkpoint = some k := by
    rw [Device.sess_modPil, sess_serve_self d hn, ← hck]
    rfl
  unfold failoverResume
  rw [hspare]
  dsimp only
  rw [if_neg (by simp [hstate, hplan]), hck', hre]

include hn

theorem failoverResume_completes (k : Ckpt) (hspare : (s.dev.sess n.val).spare = some q.val) (hstate : s.dev.pilState q.val = 6)
    (hplan : (s.dev.pil q.val).planned = false) (hre : (s.dev.pil q.val).refault = none) (hck : (s.dev.sess n.val).checkpoint = some k)
    (hacc : (s.dev.sess n.val).acc.running = false) (hprev : (s.dev.sess n.val).prev = 2) (hses : s.dev.sesState n.val = 9) :
    Completes (.failoverResume n) s (fun e => Serves q.val n.val s.dev e ∧ e.sesState n.val = 2
      ∧ (((s.dev.sess n.val).cut || (s.dev.sess n.val).round.active) = true → (e.sess n.val).plan = [.nak])
      ∧ e.get (fHalf (sesLostSlots n.val)) = (if (s.dev.sess n.val).cut then min (s.dev.get (fHalf (sesLostSlots n.val)) + 1) 0xFFFF
          else s.dev.get (fHalf (sesLostSlots n.val)))) := by
  have hn' : (failoverResume n.val s.dev).NoRemote := failoverResume_closed noRemote_closed hn
  refine completes_act _ rfl ?_
  rw [failoverResume_eq hspare hstate hplan hre hck n.isLt] at hn' ⊢
  obtain ⟨d, hd⟩ : ∃ d, d = (s.dev.serve q.val n.val).modPil q.val (fun s => { s with refault := none }) := ⟨_, rfl⟩
  rw [← hd] at hn' ⊢
  have hsess : d.sess n.val = { s.dev.sess n.val with spare := none } := by rw [hd, Device.sess_modPil, sess_serve_self _ n.isLt]
  have hget : ∀ f, d.get f = (s.dev.serve q.val n.val).get f := fun f => by rw [hd, Device.get_modPil]
  have hserves : Serves q.val n.val s.dev d := (serves_serve s.dev q.isLt n.isLt).congr (fun g _ => hget g) (by rw [hd, Device.sess_modPil])
  have hstate9 : d.sesState n.val = 9 := by
    rw [← hses, Device.sesState, hget, get_serve]
    · rfl
    · have hq := q.isLt
      simp only [List.mem_cons, List.not_mem_nil, or_false, not_or, fPsState, pageStat, pilStat, pilCounts, sesStat, repPools, wordAt]
      omega
  have hlost : d.get (fHalf (sesLostSlots n.val)) = s.dev.get (fHalf (sesLostSlots n.val)) := by
    rw [hget, get_serve]
    have hq := q.isLt
    simp only [List.mem_cons, List.not_mem_nil, or_false, not_or, fHalf, sesLostSlots, pageStat, pilStat, pilCounts, sesStat, repPools, wordAt]
    omega
  rw [resumeFrom_ready n.isLt d k (by rw [hsess, ← hacc]) (by rw [hsess, ← hprev]) hstate9] at hn' ⊢
  have hgo := posts_sesGo n.val (d.resumes n.val k) 2 0
  have hlostReg : sesLostSlots n.val ∉ stateRegs n.val := by
    refine not_mem_stateRegs n.isLt ?_ ?_ ?_ <;> simp only [sesLostSlots, sesStat, pageStat, wordAt] <;> omega
  obtain ⟨-, hspareR, hplanR⟩ := sess_resumes n.isLt d k
  have hserves' : Serves q.val n.val s.dev ((d.resumes n.val k).sesGo n.val 2 0) := by
    refine hserves.congr (fun g hg => ?_) ?_
    · simp only [List.mem_cons, List.not_mem_nil, or_false] at hg
      rcases hg with rfl | rfl | rfl | rfl
      · exact resumed_keeps n.isLt d k q.isLt (by simp only [fPsState, pageStat, wordAt]; omega)
      · exact resumed_keeps n.isLt d k q.isLt (by simp only [fPilStatSession, pilStat]; omega)
      · rw [get_sesGo_pilot, get_resumes_pilot]
      · exact resumed_keeps n.isLt d k q.isLt (by simp only [fPilCountsTakeovers, pilCounts]; omega)
    · rw [hgo.keeps SesSt.spare (fun _ _ _ _ => rfl), hspareR]
  refine ⟨hserves'.settle hn', ?_, fun hcut => ?_, ?_⟩
  · rw [sesState_settle hn', sesState_sesGo _ _ _ _ (by decide)]
  · rw [Device.sess_settle _ hn', hgo.keeps SesSt.plan (fun _ _ _ _ => rfl), hplanR (by simp only [hsess, hcut, Bool.true_or])]
  · rw [get_pilotPage_settle hn' (by simp only [fHalf, sesLostSlots]; omega), hgo.get _ hlostReg, get_resumes_lost, hlost, hsess]

end

end Sys2Proof.Machine


namespace Sys2Proof.Machine

/-! #### The end of a built-in test (R299, R318) -/

section
variable {p : Nat} (d : Device) (r : List Byte)

/-- A record that joins the queue or is dropped moves REP.MAP alone. -/
theorem rd_queueRecord {a : Nat} (h : a ≠ repMap) : (d.queueRecord r).rd a = d.rd a := by
  unfold Device.queueRecord
  split
  · rfl
  · exact d.rd_count_ne fRepMapDropped a h

theorem sram_queueRecord : (d.queueRecord r).sram = d.sram := by
  unfold Device.queueRecord
  split
  · rfl
  · rw [Device.count_eq, Device.put_sram]

theorem opt_queueRecord : (d.queueRecord r).opt = d.opt := by
  unfold Device.queueRecord
  split
  · rfl
  · rw [Device.count_eq, Device.put_opt]

theorem queue_queueRecord (h : d.rep.queue.length < 32) : (d.queueRecord r).rep.queue = d.rep.queue ++ [r] := by
  unfold Device.queueRecord
  rw [if_pos h]
  rfl

end

/-- A pilot whose test has failed: its cause is BIST, it is dead, and a record says so. -/
def Device.testFailed (d : Device) (p : Nat) : Device :=
  ((d.put (fPilStatCause p) 4).pilGo p 8).queueRecord (mapRecord 5 p 0 0xFF d.origin)

/-- A pilot whose test has passed: a spare where it is enabled, tested again where its enable is queued, else OFF. -/
def Device.testPassed (d : Device) (p : Nat) : Device :=
  if d.on (fPcEn (0x20 + p)) then (d.put (fPsEnq (0x20 + p)) 0).pilGo p 4
  else if d.on (fPsEnq (0x20 + p)) then (d.put (fPsEnq (0x20 + p)) 0).pilGo p 3
  else d.pilGo p 0

section
variable {d : Device} {p : Nat}

theorem pilotTestEnd_failed (hs : d.pilState p = 3) (hf : (d.pil p).faulted = none) : pilotTestEnd p false d = d.testFailed p := by
  have horigin : (d.put (fPilStatCause p) 4).origin = d.origin := by
    unfold Device.origin
    rw [Device.get_put_ne _ _ _ _ (by simp only [fPsState, fPilStatCause, pageStat, pilStat, wordAt]; omega)]
  unfold pilotTestEnd
  rw [if_neg (by simp [hs])]
  simp only [hf, Device.faultCopied, Bool.not_false, Bool.true_or, if_true, Device.when_true, Device.pilotDead, horigin]
  rfl

theorem pilotTestEnd_passed (hs : d.pilState p = 3) (hf : (d.pil p).faulted = none) : pilotTestEnd p true d = d.testPassed p := by
  unfold pilotTestEnd
  rw [if_neg (by simp [hs])]
  simp only [hf, Device.faultCopied, Bool.not_true, Bool.false_or, Option.isSome_none, Bool.false_and, Bool.false_eq_true, if_false]
  rfl

variable (d p)

theorem shows_testFailed : ∃ e, Shows [pageStat (0x20 + p), repPools, pilStat p] d e ∧ e.pilState p = 8 ∧ e.get (fPilStatCause p) = 4
    ∧ d.testFailed p = e.queueRecord (mapRecord 5 p 0 0xFF d.origin) := by
  refine ⟨(d.put (fPilStatCause p) 4).pilGo p 8, (shows_put d (fPilStatCause p) 4 (by simp [fPilStatCause])).trans ((shows_pilGo _ p 8).mono (by simp +contextual)),
    pilState_pilGo _ p (by decide), ?_, rfl⟩
  rw [(shows_pilGo _ p 8).get, Device.get_put_same _ _ _ (by simp [fPilStatCause]) (by simp [fPilStatCause])]
  · rfl
  · simp only [List.mem_cons, List.not_mem_nil, or_false, not_or, fPilStatCause, pageStat, pilStat, repPools, wordAt]
    omega

theorem shows_testPassed : Shows [pageStat (0x20 + p), repPools] d (d.testPassed p) := by
  have hput : Shows [pageStat (0x20 + p), repPools] d (d.put (fPsEnq (0x20 + p)) 0) := shows_put d _ 0 (by simp [fPsEnq])
  unfold Device.testPassed
  split
  · exact hput.trans (shows_pilGo _ p 4)
  · split
    · exact hput.trans (shows_pilGo _ p 3)
    · exact shows_pilGo d p 0

theorem pilState_testPassed : (d.testPassed p).pilState p = if d.on (fPcEn (0x20 + p)) then 4 else if d.on (fPsEnq (0x20 + p)) then 3 else 0 := by
  unfold Device.testPassed
  split
  · exact pilState_pilGo _ p (by decide)
  · split
    · exact pilState_pilGo _ p (by decide)
    · exact pilState_pilGo _ p (by decide)

end

section
variable {s : State} (hn : s.dev.NoRemote) (p : Fin 20)
include hn

theorem pilotTestEnd_completes (pass : Bool) (hstate : s.dev.pilState p.val = 3) (hfault : (s.dev.pil p.val).faulted = none) :
    Completes (.pilotTestEnd p pass) s (fun e =>
      e.pilState p.val = (if !pass then 8 else if s.dev.on (fPcEn (0x20 + p.val)) then 4 else if s.dev.on (fPsEnq (0x20 + p.val)) then 3 else 0)
      ∧ (pass = false → e.get (fPilStatCause p.val) = 4)
      ∧ (pass = false → s.dev.rep.queue.length < 32 → e.rep.queue = s.dev.rep.queue ++ [mapRecord 5 p.val 0 0xFF s.dev.origin])
      ∧ Device.OnlyRegs [pageStat (0x20 + p.val), repPools, pilStat p.val, repMap] s.dev e) := by
  have hn' : (pilotTestEnd p.val pass s.dev).NoRemote := pilotTestEnd_closed noRemote_closed hn
  refine completes_act _ rfl ?_
  cases pass
  case true =>
    rw [pilotTestEnd_passed hstate hfault] at hn' ⊢
    have hshows := shows_testPassed s.dev p.val
    refine ⟨?_, nofun, nofun, onlyRegs_settle hn' (fun a ha => hshows.regs a ?_) hshows.sram hshows.opt⟩
    · rw [pilState_settle hn', pilState_testPassed]
      rfl
    · simp only [List.mem_cons, List.not_mem_nil, or_false, not_or] at ha ⊢
      exact ⟨ha.1, ha.2.1⟩
  case false =>
    rw [pilotTestEnd_failed hstate hfault] at hn' ⊢
    obtain ⟨e, hshows, hdead, hcause, heq⟩ := shows_testFailed s.dev p.val
    have hout : ∀ f : Fld, f.reg / 1024 = 0x20 + p.val → (e.queueRecord (mapRecord 5 p.val 0 0xFF s.dev.origin)).get f = e.get f := fun f hf => by
      rw [Device.get, rd_queueRecord e _ (by rw [repMap]; omega), ← Device.get]
    rw [heq] at hn' ⊢
    refine ⟨?_, fun _ => ?_, fun _ hlen => ?_, onlyRegs_settle hn' (fun a ha => ?_) ((sram_queueRecord e _).trans hshows.sram) ((opt_queueRecord e _).trans hshows.opt)⟩
    · rw [pilState_settle hn', Device.pilState, hout _ (by simp only [fPsState, pageStat, wordAt]; omega)]
      exact hdead
    · rw [get_pilotPage_settle hn' (by simp only [fPilStatCause, pilStat]; omega), hout _ (by simp only [fPilStatCause, pilStat]; omega), hcause]
    · rw [settle_rep _ hn', queue_queueRecord e _ (by rw [hshows.rep]; exact hlen), hshows.rep]
    · simp only [List.mem_cons, List.not_mem_nil, or_false, not_or] at ha
      rw [rd_queueRecord e _ ha.2.2.2, hshows.regs a (by simp [ha])]

end

/-! #### Planned moves (R300, R318) -/

theorem moveStart_moves (d : Device) {p : Nat} (q : Nat) (off : Bool) (hp : p < 20) : (d.moveStart p q off).pilState p = 7
    ∧ ((d.moveStart p q off).pil p).moveTo = some q ∧ ((d.moveStart p q off).pil p).moveOff = off := by
  unfold Device.moveStart
  refine ⟨pilState_pilGo _ p (by decide), ?_, ?_⟩
  · rw [(shows_pilGo _ p 7).pil, Device.pil_modPil_self _ _ _ hp]
  · rw [(shows_pilGo _ p 7).pil, Device.pil_modPil_self _ _ _ hp]

/-- An applied MOVE_TO begins the move to the pilot it names. -/
theorem writeEffect_moveTo (e : Device) {p q : Nat} {x : Posted} {finds : KlGroupFinds} (hp : p < 20) (ha : x.addr = pilCmd p)
    (hact : bitsOf x.value 2 0 = 1) (hq : bitsOf x.value 12 8 = q) : e.writeEffect x finds = (e.store (pilCmd p) x.value).moveStart p q false := by
  have hpage : pageOfWord (pilCmd p) = 0x20 + p := by simp only [pageOfWord, pilCmd]; omega
  have hoff : offOfWord (pilCmd p) = 0x10 := by simp only [offOfWord, pilCmd]; omega
  simp only [Device.writeEffect, ha, hpage, hoff, Device.blockWritten]
  rw [if_pos (by omega), Nat.add_sub_cancel_left]
  simp only [pilWritten, hact, hq]

/-- What follows an applied write leaves the pilots' pages and records. -/
theorem written_pilots {d : Device} {a : Nat} {v : Word} {be : BitVec 4} {finds : KlGroupFinds} {e : Device}
    (he : (d.arrived a v be).writeEffect (d.posted a v be) finds = e) :
    (∀ f : Fld, 0x20 * 1024 ≤ f.reg → (d.written a v be finds).get f = e.get f) ∧ ∀ p, (d.written a v be finds).pil p = e.pil p := by
  have hidle : ∀ b, (∀ f : Fld, 0x20 * 1024 ≤ f.reg → (e.when b Device.idleRestart).get f = e.get f) ∧ ∀ p, (e.when b Device.idleRestart).pil p = e.pil p := fun b => by
    cases b
    · exact ⟨fun _ _ => rfl, fun _ => rfl⟩
    · refine ⟨fun f hf => ?_, fun _ => rfl⟩
      have hne : f.reg ≠ secIdleLeft := by
        rw [secIdleLeft]
        omega
      exact Device.get_wr_ne e secIdleLeft _ f hne
  unfold Device.written
  dsimp only
  rw [he]
  refine ⟨fun f hf => ?_, fun p => ?_⟩
  · rw [Device.get_sync, (hidle _).1 f hf]
  · rw [Device.sync_same]
    exact (hidle _).2 p

theorem pilotMoveTo_completes {s : State} (hn : s.dev.NoRemote) (p q : Fin 20) (w : RegWrite)
    (ha : s.dev.applies (pilCmd p.val) ((fPilCmdAction p.val).set w.value 1) w.be = true) (hq : bitsOf w.value 12 8 = q.val) :
    Completes (.pilotMoveTo p w) s (fun e => e.pilState p.val = 7 ∧ (e.pil p.val).moveTo = some q.val ∧ (e.pil p.val).moveOff = false) := by
  have hact : bitsOf ((fPilCmdAction p.val).set w.value 1) 2 0 = 1 := bitsOf_setBits_same w.value 2 0 1 (by decide) (by decide)
  have htarget : bitsOf ((fPilCmdAction p.val).set w.value 1) 12 8 = q.val := by
    rw [← hq]
    exact bitsOf_setBits_other w.value 2 0 1 12 8 (by decide) (by decide) (by decide)
  have hn' : (s.dev.written (pilCmd p.val) ((fPilCmdAction p.val).set w.value 1) w.be noFinds).NoRemote :=
    ownWrite_applies _ _ _ _ noFinds ha ▸ Device.ownWrite_closed noRemote_closed hn
  obtain ⟨hget, hpil⟩ := written_pilots (finds := noFinds) (writeEffect_moveTo
    (s.dev.arrived (pilCmd p.val) ((fPilCmdAction p.val).set w.value 1) w.be) (x := s.dev.posted (pilCmd p.val) ((fPilCmdAction p.val).set w.value 1) w.be)
    p.isLt rfl hact htarget)
  obtain ⟨hstate, hto, hoff⟩ := moveStart_moves ((s.dev.arrived (pilCmd p.val) ((fPilCmdAction p.val).set w.value 1) w.be).store (pilCmd p.val)
    (s.dev.posted (pilCmd p.val) ((fPilCmdAction p.val).set w.value 1) w.be).value) q.val false p.isLt
  refine ⟨_, exec_applies (.pilotMoveTo p w) s (pilCmd p.val) ((fPilCmdAction p.val).set w.value 1) w.be noFinds rfl ha, rfl, ?_, ?_, ?_⟩
  · exact (pilState_settle hn' _).trans ((hget _ (by simp only [fPsState, pageStat, wordAt]; omega)).trans hstate)
  · dsimp only
    rw [Device.pil_settle _ hn', hpil, hto]
  · dsimp only
    rw [Device.pil_settle _ hn', hpil, hoff]

/-! #### MOVE_AT_QUIET_POINT -/

/-- The newer valid copy is the one just kept. -/
theorem checkpoint_keep (s : SesSt) {k : Ckpt} (hseq : k.seq = max s.ckA.seq s.ckB.seq + 1) (hbad : k.bad = false) : (s.keep k).checkpoint = some k := by
  unfold SesSt.keep
  split
  · have hnew : ¬ k.seq < s.ckB.seq := by omega
    cases hB : s.ckB.bad <;> simp [SesSt.checkpoint, hbad, hB, hnew]
  · have hnew : s.ckA.seq < k.seq := by omega
    cases hA : s.ckA.bad <;> simp [SesSt.checkpoint, hbad, hA, hnew]

/-- The checkpoint a session writes is the one it would resume from, with its plan. -/
theorem checkpoint_checkpoint (d : Device) {n : Nat} (hn : n < 16) : ((d.checkpoint n).sess n).checkpoint = some (d.ckptNow n) := by
  rw [d.sess_checkpoint hn]
  exact checkpoint_keep _ rfl rfl

section
variable {s : State} (hn : s.dev.NoRemote) (p q : Fin 20) (n : Fin 16)

theorem moveAtQuietPoint_eq {d : Device} {n p q : Nat} (hserv : d.servingPilot n = p) (hto : (d.pil p).moveTo = some q) (hstate : d.pilState p = 7)
    (hacc : (d.sess n).acc.running = false) (hquiet : d.sesQuiet n = true) (hspare : d.pilState q = 4) :
    moveAtQuietPoint n d = ((d.modPil p (fun s => { s with moveTo := some q })).checkpoint n).takeOver q n true := by
  unfold moveAtQuietPoint
  dsimp only
  rw [hserv, hto]
  dsimp only
  rw [if_neg (by simp [hstate, hacc, hquiet]), if_pos hspare]

include hn

theorem moveAtQuietPoint_completes (hserv : s.dev.servingPilot n.val = p.val) (hto : (s.dev.pil p.val).moveTo = some q.val)
    (hstate : s.dev.pilState p.val = 7) (hacc : (s.dev.sess n.val).acc.running = false) (hquiet : s.dev.sesQuiet n.val = true)
    (hspare : s.dev.pilState q.val = 4) :
    Completes (.moveAtQuietPoint n) s (fun e => e.pilState q.val = 6 ∧ (e.pil q.val).takes = some n.val ∧ (e.pil q.val).planned = true
      ∧ (e.sess n.val).spare = some q.val
      ∧ (e.sess n.val).checkpoint.map (·.plan) = some (s.dev.sess n.val).plan
      ∧ e.get (fWord (pilCkpts (s.dev.get (fSesStatPilot n.val)))) = (s.dev.get (fWord (pilCkpts (s.dev.get (fSesStatPilot n.val)))) + 1) % 2 ^ 32
      ∧ Device.OnlyRegs [pilCkpts (s.dev.get (fSesStatPilot n.val)), pageStat (0x20 + q.val), repPools] s.dev e) := by
  have hn' : (moveAtQuietPoint n.val s.dev).NoRemote := moveAtQuietPoint_closed noRemote_closed hn
  refine completes_act _ rfl ?_
  rw [moveAtQuietPoint_eq hserv hto hstate hacc hquiet hspare] at hn' ⊢
  obtain ⟨d, hd⟩ : ∃ d, d = s.dev.modPil p.val (fun s => { s with moveTo := some q.val }) := ⟨_, rfl⟩
  rw [← hd] at hn' ⊢
  have hsess : ∀ m, d.sess m = s.dev.sess m := fun m => by rw [hd, Device.sess_modPil]
  have hrd : ∀ a, d.rd a = s.dev.rd a := fun a => by rw [hd, Device.rd_modPil]
  have hpilot : d.get (fSesStatPilot n.val) = s.dev.get (fSesStatPilot n.val) := by simp only [Device.get, hrd]
  have hckpt : ∀ a, a ≠ pilCkpts (s.dev.get (fSesStatPilot n.val)) → (d.checkpoint n.val).rd a = s.dev.rd a := fun a ha => by
    rw [Device.rd_checkpoint _ _ _ (hpilot ▸ ha), hrd]
  have htakes : ∀ a, a ∉ [pilCkpts (s.dev.get (fSesStatPilot n.val)), pageStat (0x20 + q.val), repPools] →
      ((d.checkpoint n.val).takeOver q.val n.val true).rd a = s.dev.rd a := fun a ha => by
    simp only [List.mem_cons, List.not_mem_nil, or_false, not_or] at ha
    rw [(shows_takeOver _ true).regs a (by simp [ha]), Device.taken, Device.rd_modSes, Device.rd_modPil, hckpt a ha.1]
  refine ⟨?_, ?_, ?_, ?_, ?_, ?_, onlyRegs_settle hn' htakes ?_ ?_⟩
  · rw [pilState_settle hn']
    exact pilState_pilGo _ q.val (by decide)
  · rw [Device.pil_settle _ hn', pil_takeOver_self _ _ q.isLt]
  · rw [Device.pil_settle _ hn', pil_takeOver_self _ _ q.isLt]
  · rw [Device.sess_settle _ hn', sess_takeOver_self _ _ n.isLt]
  · have hkept : (((d.checkpoint n.val).takeOver q.val n.val true).sess n.val).checkpoint = some (d.ckptNow n.val) := by
      rw [sess_takeOver_self _ _ n.isLt, ← checkpoint_checkpoint d n.isLt]
      rfl
    rw [Device.sess_settle _ hn', hkept, Option.map_some, Device.ckptNow, hsess]
  · rw [get_pilotPage_settle hn' (by simp only [fWord, pilCkpts]; omega), get_takeOver, d.checkpoint_eq, Device.addWrap_eq, hpilot,
      Device.get_put_same _ _ _ (by simp [fWord]) (by simp [fWord]), Device.get_modSes]
    · simp only [Device.get, hrd]
      rfl
    · simp only [List.mem_cons, List.not_mem_nil, or_false, not_or, fWord, pilCkpts, pageStat, repPools, wordAt]
      omega
  · rw [(shows_takeOver _ true).sram, Device.taken, Device.modSes_sram, Device.modPil_sram, d.sram_checkpoint, hd, Device.modPil_sram]
  · rw [(shows_takeOver _ true).opt, Device.taken, Device.modSes_opt, Device.modPil_opt, d.opt_checkpoint, hd, Device.modPil_opt]

end

/-! #### MOVE_COMPLETE -/

/-- The old pilot serves no session. -/
def Device.unserves (d : Device) (p : Nat) : Device := (d.put (fPilStatSession p) 31).modPil p (fun s => { s with moveTo := none, moveOff := false })

/-- The old pilot is a spare again, or OFF after EN = 0 and tested again where its enable is queued. -/
def Device.leaves (d : Device) (p : Nat) (off : Bool) : Device :=
  if !off then d.pilGo p 4
  else
    let d := (d.put (fPsShuttingDown (0x20 + p)) 0).pilGo p 0
    if d.on (fPsEnq (0x20 + p)) then (d.put (fPsEnq (0x20 + p)) 0).pilGo p 3 else d

theorem moveComplete_eq {d : Device} {n p q : Nat} (hspare : (d.sess n).spare = some q) (hstate : d.pilState q = 6) (hplan : (d.pil q).planned = true)
    (hre : (d.pil q).refault = none) (hserv : d.servingPilot n = p) : moveComplete n d
      = (((d.unserves p).serve q n).modPil q (fun s => { s with refault := none })).leaves p (d.pil p).moveOff := by
  unfold moveComplete
  rw [hspare]
  dsimp only
  rw [if_neg (by simp [hstate, hplan]), hre, hserv]
  rfl

section
variable (d : Device) (p : Nat) (off : Bool)

theorem shows_leaves : Shows [pageStat (0x20 + p), repPools] d (d.leaves p off) := by
  have hshut : Shows [pageStat (0x20 + p), repPools] d ((d.put (fPsShuttingDown (0x20 + p)) 0).pilGo p 0) :=
    (shows_put d (fPsShuttingDown (0x20 + p)) 0 (by simp [fPsShuttingDown])).trans (shows_pilGo _ p 0)
  unfold Device.leaves
  dsimp only
  split
  · exact shows_pilGo d p 4
  · split
    · exact (hshut.then_put (fPsEnq (0x20 + p)) 0 (by simp [fPsEnq])).trans (shows_pilGo _ p 3)
    · exact hshut

theorem pilState_leaves : (d.leaves p off).pilState p = if off then (if d.on (fPsEnq (0x20 + p)) then 3 else 0) else 4 := by
  have hqueued : ((d.put (fPsShuttingDown (0x20 + p)) 0).pilGo p 0).on (fPsEnq (0x20 + p)) = d.on (fPsEnq (0x20 + p)) := by
    refine on_of_get ((get_pilGo_pageStat _ p 0 rfl (by simp [fPsEnq])).trans ?_)
    exact Device.get_put_apart _ _ _ _ (by simp [fPsShuttingDown]) (by simp [fPsShuttingDown]) (by simp [fPsShuttingDown, fPsEnq])
  unfold Device.leaves
  dsimp only
  rw [hqueued]
  cases off
  · exact pilState_pilGo d p (by decide)
  · simp only [Bool.not_true, Bool.false_eq_true, if_false, if_true]
    split
    · exact pilState_pilGo _ p (by decide)
    · exact pilState_pilGo _ p (by decide)

end

section
variable {s : State} (hn : s.dev.NoRemote) (p q : Fin 20) (n : Fin 16)

/-- MOVE_COMPLETE, and the end of the shutdown of a pilot that EN = 0 sent on its way, complete the move. -/
theorem moveEnd_exec {i : Instr} (hi : i = .moveComplete n ∨ (i = .shutdownComplete (.pilot p) ∧ (s.dev.pil p.val).moveOff = true ∧ s.dev.pilSes p.val = n.val)) :
    exec i s = act (moveComplete n.val) s := by
  rcases hi with rfl | ⟨rfl, hoff, hses⟩
  · rfl
  · have hend : s.dev.shutdownEnd (.pilot p) = moveComplete n.val s.dev := by
      simp only [Device.shutdownEnd]
      rw [if_pos hoff, hses]
    have hexec : exec (.shutdownComplete (.pilot p)) s = act (fun d => d.shutdownEnd (.pilot p)) s := rfl
    rw [hexec, act_next, act_next, hend]

include hn

theorem moveEnd_completes {i : Instr}
    (hi : i = .moveComplete n ∨ (i = .shutdownComplete (.pilot p) ∧ (s.dev.pil p.val).moveOff = true ∧ s.dev.pilSes p.val = n.val))
    (hspare : (s.dev.sess n.val).spare = some q.val) (hstate : s.dev.pilState q.val = 6) (hplan : (s.dev.pil q.val).planned = true)
    (hre : (s.dev.pil q.val).refault = none) (hserv : s.dev.servingPilot n.val = p.val) (hpq : p ≠ q) :
    Completes i s (fun e => Serves q.val n.val s.dev e ∧ e.pilSes p.val = 31
      ∧ e.pilState p.val = (if (s.dev.pil p.val).moveOff then (if s.dev.on (fPsEnq (0x20 + p.val)) then 3 else 0) else 4)) := by
  have hne : p.val ≠ q.val := fun h => hpq (Fin.ext h)
  have hn' : (moveComplete n.val s.dev).NoRemote := moveComplete_closed noRemote_closed hn
  refine completes_act _ (moveEnd_exec p n hi) ?_
  rw [moveComplete_eq hspare hstate hplan hre hserv] at hn' ⊢
  have hget : ∀ f : Fld, f.reg ≠ pilStat p.val → (s.dev.unserves p.val).get f = s.dev.get f := fun f hf => by
    rw [Device.unserves, Device.get_modPil, Device.get_put_ne _ _ _ _ hf]
  obtain ⟨u, hu⟩ : ∃ u, u = s.dev.unserves p.val := ⟨_, rfl⟩
  rw [← hu] at hn' hget ⊢
  obtain ⟨e, he⟩ : ∃ e, e = (u.serve q.val n.val).modPil q.val (fun s => { s with refault := none }) := ⟨_, rfl⟩
  rw [← he] at hn' ⊢
  have hleaves := shows_leaves e p.val (s.dev.pil p.val).moveOff
  have hstays : ∀ f : Fld, f.reg ≠ pageStat (0x20 + p.val) → f.reg ≠ repPools → (e.leaves p.val (s.dev.pil p.val).moveOff).get f = (u.serve q.val n.val).get f :=
    fun f hf hr => by rw [hleaves.get f (by simp [hf, hr]), he, Device.get_modPil]
  have hserves : Serves q.val n.val s.dev (e.leaves p.val (s.dev.pil p.val).moveOff) := by
    have hbase := serves_serve u q.isLt n.isLt
    have hcount : u.get (fPilCountsTakeovers q.val) = s.dev.get (fPilCountsTakeovers q.val) := hget _ (by simp only [fPilCountsTakeovers, pilCounts, pilStat]; omega)
    refine Serves.congr ⟨hbase.state, hbase.session, hbase.pilot, hcount ▸ hbase.takeovers, hbase.spare⟩ (fun g hg => ?_) ?_
    · simp only [List.mem_cons, List.not_mem_nil, or_false] at hg
      rcases hg with rfl | rfl | rfl | rfl <;> refine hstays _ ?_ ?_ <;>
        simp only [fPsState, fPilStatSession, fSesStatPilot, fPilCountsTakeovers, pageStat, pilStat, sesStat, pilCounts, repPools, wordAt] <;> omega
    · rw [hleaves.sess, he, Device.sess_modPil]
  refine ⟨hserves.settle hn', ?_, ?_⟩
  · rw [pilSes_settle hn', Device.pilSes, hstays _ (by simp only [fPilStatSession, pilStat, pageStat, wordAt]; omega)
      (by simp only [fPilStatSession, pilStat, repPools]; omega), get_serve, hu, Device.unserves, Device.get_modPil,
      Device.get_put_same _ _ _ (by simp [fPilStatSession]) (by simp [fPilStatSession])]
    · rfl
    · simp only [List.mem_cons, List.not_mem_nil, or_false, not_or, fPilStatSession, pilStat, pilCounts, sesStat, pageStat, repPools, wordAt]
      omega
  · have hqueued : e.on (fPsEnq (0x20 + p.val)) = s.dev.on (fPsEnq (0x20 + p.val)) := by
      refine on_of_get ?_
      rw [he, Device.get_modPil, get_serve, hget]
      · simp only [fPsEnq, pageStat, pilStat, wordAt]
        omega
      · simp only [List.mem_cons, List.not_mem_nil, or_false, not_or, fPsEnq, pilStat, pilCounts, sesStat, pageStat, repPools, wordAt]
        omega
    rw [pilState_settle hn', pilState_leaves, hqueued]

end

/-- Settles O36: each clause by the rows' own lemma; a handover and a takeover are followed word by word. -/
theorem pilotsMove : Obligations.PilotsMove := by
  intro s hn
  refine ⟨fun p q n => ⟨fun cause h1 h2 h3 h4 h5 h6 => ?_, fun cause h1 h2 h3 h4 h5 h6 => ?_, fun cause h => pilotFault_counts hn p cause h,
    fun k h1 h2 h3 h4 h5 h6 h7 h8 => ?_, fun pass h1 h2 => pilotTestEnd_completes hn p pass h1 h2⟩,
    fun p q n => ⟨fun w ha _ hq => pilotMoveTo_completes hn p q w ha hq, fun h1 h2 h3 h4 h5 h6 => moveAtQuietPoint_completes hn p q n h1 h2 h3 h4 h5 h6,
      fun i hi h1 h2 h3 h4 h5 h6 => ?_⟩⟩
  · refine (pilotFault_handsOver hn p q n cause h1 h2 h3 h4 h5 h6).imp fun e h => ?_
    exact ⟨h.failed, h.spare, h.takes, h.named, h.state, h.cut, h.faults, h.cause, h.serves, h.event⟩
  · refine (pilotFault_shutsDown hn p n cause h1 h2 h3 h4 h5 h6).imp fun e h => ?_
    exact ⟨h.state, h.enable, h.shutting, h.ranOut, h.faults⟩
  · refine (failoverResume_completes hn q n k h1 h2 h3 h4 h5 h6 h7 h8).imp fun e h => ?_
    obtain ⟨hs, hstate, hplan, hlost⟩ := h
    refine ⟨hs.state, hs.session, hs.pilot, hs.takeovers, hs.spare, hstate, ?_, hlost⟩
    split
    · next hcut => exact hplan hcut
    · rfl
  · refine (moveEnd_completes hn p q n hi h1 h2 h3 h4 h5 h6).imp fun e h => ?_
    obtain ⟨hs, hses, hstate⟩ := h
    exact ⟨hs.state, hs.session, hs.pilot, hs.spare, hses, hstate, hs.takeovers⟩

end Sys2Proof.Machine


namespace Sys2Proof.Machine

/-! ### Holds, slack water and the trigger inputs (R79, R84 … R86, R118, R119, R274) -/

/-! #### What leaves slack water as it is -/

/-- From `d` to `e` slack water neither begins nor ends: its state and STAT.SLACK stay. -/
structure SlackKept (d e : Device) : Prop where
  slack : e.cal.slack = d.cal.slack
  shown : e.get fCalStatSlack = d.get fCalStatSlack

theorem SlackKept.refl (d : Device) : SlackKept d d := ⟨rfl, rfl⟩

theorem SlackKept.trans {d e f : Device} (h : SlackKept d e) (g : SlackKept e f) : SlackKept d f :=
  ⟨g.slack.trans h.slack, g.shown.trans h.shown⟩

/-- A change that reaches neither calibration nor the registers. -/
theorem SlackKept.of_apart {d e : Device} (hr : e.regs = d.regs) (hc : e.cal.slack = d.cal.slack) : SlackKept d e :=
  ⟨hc, by simp only [Device.get, Device.rd, hr]⟩

theorem FreeOnly.slackKept {d e : Device} (h : FreeOnly d e) : SlackKept d e := by
  rw [FreeOnly] at h
  exact .of_apart (by rw [h]) (by rw [h])

theorem slackKept_forAll {α : Type} {l : List α} {f : Device → α → Device} (h : ∀ d, ∀ x ∈ l, SlackKept d (f d x)) (d : Device) :
    SlackKept d (d.forAll l f) := by
  induction l generalizing d with
  | nil => exact .refl d
  | cons x t ih => exact (h d x (by simp)).trans (ih (fun d y hy => h d y (by simp [hy])) _)

section
variable (d : Device)

theorem slackKept_when {c : Bool} {f : Device → Device} (h : SlackKept d (f d)) : SlackKept d (d.when c f) := by
  cases c
  · exact .refl d
  · exact h

theorem slackKept_wr {a : Nat} (v : Word) (h : calStat ≠ a) : SlackKept d (d.wr a v) := ⟨rfl, Device.get_wr_ne d a v fCalStatSlack h⟩

theorem slackKept_put {f : Fld} (v : Nat) (h : calStat ≠ f.reg) : SlackKept d (d.put f v) := slackKept_wr d _ h

/-- Bits set at `lo` and above leave those below. -/
theorem getLsbD_setBits_below (w : Word) {hi lo i : Nat} (v : Nat) (h : i < lo) : (setBits w hi lo v).getLsbD i = w.getLsbD i := by
  by_cases hi32 : i < 32
  · simp only [setBits, BitVec.getLsbD_or, BitVec.getLsbD_and, BitVec.getLsbD_not, BitVec.getLsbD_ofNat, Nat.testBit_shiftLeft]
    simp [hi32, Nat.not_le.2 h]
  · rw [BitVec.getLsbD_of_ge _ _ (by omega), BitVec.getLsbD_of_ge _ _ (by omega)]

/-- A field above SLACK in the same word. -/
theorem slackKept_put_above {f : Fld} (v : Nat) (h : 7 ≤ f.lo) : SlackKept d (d.put f v) := by
  refine ⟨rfl, ?_⟩
  by_cases hr : calStat = f.reg
  · have hbit : ∀ w : Word, bitsOf (setBits w f.hi f.lo v) 6 6 = bitsOf w 6 6 := fun w => by
      apply Nat.eq_of_testBit_eq
      intro j
      rw [testBit_bitsOf, testBit_bitsOf]
      by_cases hj : j < 6 + 1 - 6
      · rw [getLsbD_setBits_below w v (by omega)]
      · simp [hj]
    simp only [Device.get, Device.rd_put, fCalStatSlack, hr, if_true, hbit]
  · exact Device.get_put_ne d f fCalStatSlack v hr

theorem slackKept_irq {p : Nat} (b : Nat) : SlackKept d (d.irq p b) := by
  unfold Device.irq
  split
  · exact slackKept_put d _ (by simp only [calStat, irqStat, wordAt]; omega)
  · exact .refl d

theorem slackKept_modCal {f : CalSt → CalSt} (h : ∀ s, (f s).slack = s.slack) : SlackKept d (d.modCal f) := .of_apart rfl (h _)

theorem slackKept_modPath (p : Nat) (f : PathSt → PathSt) : SlackKept d (d.modPath p f) := .of_apart rfl rfl

theorem slackKept_modStream (n : Nat) (f : StreamSt → StreamSt) : SlackKept d (d.modStream n f) := .of_apart rfl rfl

theorem slackKept_modKl (f : KlSt → KlSt) : SlackKept d (d.modKl f) := .of_apart rfl rfl

/-! #### Waiting changes, levels and figures -/

theorem slackKept_showWaits : SlackKept d d.showWaits :=
  ⟨rfl, Device.get_put_apart d fCalStatPending fCalStatSlack _ (by decide) (by decide) (by decide)⟩

theorem slackKept_await (c : Change) : SlackKept d (d.await c) := by
  unfold Device.await
  dsimp only
  refine SlackKept.trans ?_ (slackKept_showWaits _)
  exact .of_apart rfl rfl

theorem slackKept_dropWaits (f : Change → Bool) : SlackKept d (d.dropWaits f) := by
  unfold Device.dropWaits
  refine SlackKept.trans ?_ (slackKept_showWaits _)
  exact .of_apart rfl rfl

theorem slackKept_reglRecord (reason n c : Nat) (clip noStream : Bool) (factor : Nat) : SlackKept d (d.reglRecord reason n c clip noStream factor) := by
  have hput : ∀ (e : Device) (f : Fld) (v : Nat), f.reg = reglLast → SlackKept e (e.put f v) := fun e f v h => slackKept_put e v (by rw [h]; decide)
  exact (((((hput _ _ _ rfl).trans (hput _ _ _ rfl)).trans (hput _ _ _ rfl)).trans (hput _ _ _ rfl)).trans (hput _ _ _ rfl)).trans (hput _ _ _ rfl)

theorem slackKept_reglRefuse (reason n c : Nat) (noStream : Bool) : SlackKept d (d.reglRefuse reason n c noStream) :=
  ((slackKept_reglRecord d _ _ _ _ _ _).trans (slackKept_put _ _ (by decide))).trans (slackKept_irq _ _)

theorem slackKept_reglClip (reason n c : Nat) (noStream : Bool) (factor : Nat) : SlackKept d (d.reglClip reason n c noStream factor) :=
  ((slackKept_reglRecord d _ _ _ _ _ _).trans (slackKept_put _ _ (by decide))).trans (slackKept_irq _ _)

theorem slackKept_levelAsk (p : Nat) (l : Int) : SlackKept d (d.levelAsk p l) :=
  ((slackKept_modPath d p _).trans (slackKept_put _ _ (by simp only [calStat, fPathTxpwrNowPending, pathTxpwrNow]; omega))).trans (slackKept_await _ _)

theorem slackKept_levelAgain (p : Nat) : SlackKept d (d.levelAgain p) := by
  unfold Device.levelAgain
  split
  · exact .refl d
  · dsimp only
    split
    · exact .refl d
    · split
      · refine ((slackKept_put d _ ?_).trans (slackKept_reglClip _ _ _ _ _ _)).trans (slackKept_levelAsk _ p _)
        simp only [calStat, fPathTxpwrLevel, pathTxpwr]
        omega
      · exact slackKept_levelAsk d p _

theorem slackKept_showFigures : SlackKept d d.showFigures := by
  have hstream : ∀ (e : Device) (v : Word) (n : Nat), SlackKept e (e.wr (reglStreamFig n) v) := fun e v n => slackKept_wr e v (by rw [calStat, reglStreamFig]; omega)
  have hcar : ∀ (e : Device) (v : Word) (c : Nat), SlackKept e (e.wr (reglCarFig c) v) := fun e v c => slackKept_wr e v (by rw [calStat, reglCarFig]; omega)
  unfold Device.showFigures
  split
  · exact (slackKept_forAll (fun e c _ => hcar e _ c) d).trans (slackKept_forAll (fun e n _ => hstream e _ n) _)
  · refine (slackKept_forAll (fun e n _ => ?_) d).trans (slackKept_forAll (fun e c _ => ?_) _)
    · split
      · exact hstream e _ n
      · exact (freeOnly_figureCode e _).slackKept.trans (hstream _ _ n)
    · split
      · exact hcar e _ c
      · exact ((freeOnly_figureCode e _).slackKept.trans (freeOnly_figureCode _ _).slackKept).trans (hcar _ _ c)

theorem slackKept_reglChanged : SlackKept d d.reglChanged := (slackKept_forAll (fun e p _ => slackKept_levelAgain e p) d).trans (slackKept_showFigures _)

/-! #### Weights -/

theorem slackKept_setWeight (set p : Nat) (w : Word) : SlackKept d (d.setWeight set p w) := .of_apart rfl rfl

theorem slackKept_setWeights (set : Nat) (ws : List Word) : SlackKept d (d.setWeights set ws) := by
  unfold Device.setWeights
  exact slackKept_forAll (fun e p _ => slackKept_setWeight e set p _) d

theorem slackKept_putRx (n : Nat) (b : Bool) (form : Steer) (ws : List Word) : SlackKept d (d.putRx n b form ws) :=
  (slackKept_setWeights d _ _).trans (slackKept_modStream _ n _)

theorem slackKept_resteerRx (n : Nat) : SlackKept d (d.resteerRx n) := by
  have hgo : ∀ (e : Device) (b : Bool) (f : Steer), SlackKept e (if f = .table then e else e.putRx n b f (e.rxSteer n b f)) := fun e b f => by
    split
    · exact .refl e
    · exact slackKept_putRx e n b f _
  exact (hgo d false _).trans (hgo _ true _)

theorem slackKept_admitTx (n : Nat) (form : Steer) (w : List Word) (nulled : Bool) (az el : Int) : SlackKept d (d.admitTx n form w nulled az el).2 := by
  unfold Device.admitTx
  dsimp only
  split
  · exact slackKept_reglRefuse d _ _ _ _
  · split
    · exact slackKept_reglRefuse d _ _ _ _
    · split
      · dsimp only
        exact (slackKept_modStream d n _).trans (slackKept_reglChanged _)
      · split
        · exact slackKept_reglRefuse d _ _ _ _
        · split
          · exact slackKept_reglRefuse d _ _ _ _
          · dsimp only
            exact ((slackKept_reglClip d _ _ _ _ _).trans (slackKept_modStream _ n _)).trans (slackKept_reglChanged _)

theorem slackKept_askSteered (n : Nat) (az el : Int) : SlackKept d (d.askSteered n az el).2 :=
  (slackKept_modStream d _ _).trans (slackKept_admitTx _ _ _ _ _ _ _)

theorem slackKept_groupsStale : SlackKept d d.groupsStale := .of_apart rfl rfl

theorem slackKept_renormRx (n : Nat) (b : Bool) : SlackKept d (d.renormRx n b) := by
  unfold Device.renormRx
  dsimp only
  exact iteInduction (motive := SlackKept d) (fun _ => .refl d) (fun _ => (slackKept_setWeights d _ _).trans (slackKept_modStream _ n _))

theorem slackKept_renormalise : SlackKept d d.renormalise := by
  have hses : ∀ (e : Device) (n : Nat), SlackKept e (if !e.sesEnabled n then e else (e.setWeights n (e.renormTx n)).modStream n (fun s => { s with lostTx := 0 })) := fun e n => by
    split
    · exact .refl e
    · exact (slackKept_setWeights e _ _).trans (slackKept_modStream _ n _)
  unfold Device.renormalise
  dsimp only
  refine SlackKept.trans ?_ (slackKept_reglChanged _)
  refine SlackKept.trans ?_ (slackKept_groupsStale _)
  refine SlackKept.trans ?_ (slackKept_put _ _ (by decide))
  exact slackKept_forAll (fun e n _ => ((slackKept_renormRx e n false).trans (slackKept_renormRx _ n true)).trans (hses _ n)) d

/-! #### Paths -/

variable (p : Nat)

theorem slackKept_setMuted (b : Bool) : SlackKept d (d.setMuted p b) := by
  unfold Device.setMuted
  dsimp only
  refine SlackKept.trans ?_ (slackKept_put _ _ (by decide))
  split
  · exact slackKept_put d _ (by simp [calStat, bfMutedLo])
  · exact slackKept_put d _ (by simp [calStat, bfMutedHi])

theorem slackKept_dropWeight (set : Nat) : SlackKept d (d.dropWeight set p) := by
  unfold Device.dropWeight
  dsimp only
  exact (slackKept_setWeight d set p 0).trans (slackKept_modStream _ _ _)

theorem slackKept_dropPath : SlackKept d (d.dropPath p) := by
  unfold Device.dropPath
  exact (slackKept_forAll (fun e set _ => slackKept_dropWeight e p set) d).trans (slackKept_setMuted _ p true)

theorem slackKept_endContribution : SlackKept d (d.endContribution p) := by
  have hput : ∀ (e : Device) (f : Fld) (v : Nat), f.reg = pathTxpwrNow p → SlackKept e (e.put f v) := fun e f v h =>
    slackKept_put e v (by rw [h, calStat, pathTxpwrNow]; omega)
  unfold Device.endContribution
  exact ((((hput _ _ _ rfl).trans (hput _ _ _ rfl)).trans (hput _ _ _ rfl)).trans (hput _ _ _ rfl)).trans (slackKept_modPath _ p _)

theorem slackKept_dropPathWaits : SlackKept d (d.dropPathWaits p) := by
  unfold Device.dropPathWaits
  dsimp only
  refine SlackKept.trans ?_ (slackKept_put _ _ (by simp only [calStat, fPathGainUpPending, pathGain]; omega))
  refine SlackKept.trans ?_ (slackKept_put _ _ (by simp only [calStat, fPathDpdStatPending, pathDpdStat]; omega))
  exact (slackKept_dropWaits d _).trans (.of_apart rfl rfl)

theorem slackKept_pathGo (st : Nat) : SlackKept d (d.pathGo p st) := slackKept_put d _ (by simp only [calStat, fPsState, pageStat, wordAt]; omega)

theorem slackKept_drainPath : SlackKept d (d.drainPath p) :=
  (((((slackKept_dropPathWaits d p).trans (slackKept_dropPath _ p)).trans (slackKept_endContribution _ p)).trans (slackKept_renormalise _)).trans
    (slackKept_dropWaits _ _)).trans (slackKept_pathGo _ p 9)

theorem slackKept_setLevel (l : Int) : SlackKept d (d.setLevel p l) := by
  have hput : ∀ (e : Device) (f : Fld) (v : Nat), f.reg = pathTxpwrNow p → SlackKept e (e.put f v) := fun e f v h =>
    slackKept_put e v (by rw [h, calStat, pathTxpwrNow]; omega)
  exact ((((hput _ _ _ rfl).trans (hput _ _ _ rfl)).trans (hput _ _ _ rfl)).trans (slackKept_modPath _ p _)).trans (hput _ _ _ rfl)

theorem slackKept_levelTake : SlackKept d (d.levelTake p).2 := by
  unfold Device.levelTake
  dsimp only
  split
  · exact (slackKept_put d _ (by simp only [calStat, fPathTxpwrLevel, pathTxpwr]; omega)).trans (slackKept_reglClip _ _ _ _ _ _)
  · exact .refl d

theorem slackKept_rejoinStream (n : Nat) : SlackKept d (d.rejoinStream p n) := by
  unfold Device.rejoinStream
  dsimp only
  refine SlackKept.trans (slackKept_resteerRx d n) ?_
  split
  · exact .refl _
  · split
    · exact slackKept_admitTx _ n _ _ _ _ _
    · exact slackKept_setWeights _ n _
  · split
    · exact slackKept_askSteered _ n _ _
    · exact (slackKept_setWeights _ n _).trans (slackKept_put _ _ (by simp only [calStat, fBfStreamNulled, bfStream]; omega))

theorem slackKept_joinPath : SlackKept d (d.joinPath p) := by
  unfold Device.joinPath
  dsimp only
  refine SlackKept.trans ?_ (slackKept_reglChanged _)
  refine SlackKept.trans ?_ (slackKept_groupsStale _)
  refine SlackKept.trans ?_ (slackKept_forAll (fun e n _ => slackKept_rejoinStream e p n) _)
  refine SlackKept.trans ?_ (slackKept_when _ (slackKept_put _ _ (by simp only [calStat, fPathGainStep, pathGain]; omega)))
  refine SlackKept.trans ?_ (slackKept_put _ _ (by simp only [calStat, fPathDpdStatActive, pathDpdStat]; omega))
  refine SlackKept.trans ?_ (slackKept_setLevel _ p _)
  refine SlackKept.trans ?_ (slackKept_levelTake _ p)
  exact (slackKept_modPath d p _).trans (slackKept_setMuted _ p false)

/-! #### The cascade's group (R274) -/

theorem slackKept_showCredits (k : Nat) : SlackKept d (d.showCredits k) := by
  unfold Device.showCredits
  exact (slackKept_put d _ (by simp only [calStat, fKlPcredC2, klPcred]; omega)).trans (slackKept_put _ _ (by simp only [calStat, fKlPcredReplay, klPcred]; omega))

theorem slackKept_frameSend (k : Nat) (f : KlFrame) : SlackKept d (d.frameSend k f) := by
  rw [Device.frameSend_eq]
  refine SlackKept.trans ?_ (slackKept_showCredits _ k)
  exact .of_apart rfl rfl

theorem slackKept_returned (x : Nat × KlFrame) : SlackKept d (if x.1 < 5 then d.bufferFree x.1 x.2.cls (klCost x.2.words) else d) := by
  split
  · exact .of_apart rfl rfl
  · exact .refl d

omit d in
theorem slackKept_pumpUp (fuel : Nat) (d : Device) : SlackKept d (d.pumpUp fuel) := by
  induction fuel generalizing d with
  | zero => exact .refl d
  | succ fuel ih =>
    unfold Device.pumpUp
    split
    · exact .refl d
    · split
      · exact .refl d
      · refine SlackKept.trans ?_ (ih _)
        refine SlackKept.trans ?_ (slackKept_returned _ _)
        refine SlackKept.trans ?_ (slackKept_frameSend _ _ _)
        exact slackKept_modKl d _

omit d in
theorem slackKept_pumpDown (k fuel : Nat) (d : Device) : SlackKept d (d.pumpDown k fuel) := by
  induction fuel generalizing d with
  | zero => exact .refl d
  | succ fuel ih =>
    unfold Device.pumpDown
    split
    · exact .refl d
    · refine SlackKept.trans ?_ (ih _)
      refine SlackKept.trans ?_ (slackKept_returned _ _)
      refine SlackKept.trans ?_ (slackKept_frameSend _ _ _)
      exact .of_apart rfl rfl

theorem slackKept_pump : SlackKept d d.pump := by
  unfold Device.pump
  exact (slackKept_pumpUp _ d).trans (slackKept_forAll (fun e k _ => slackKept_pumpDown k _ e) _)

theorem slackKept_klEvent (x port other detail : Nat) : SlackKept d (d.klEvent x port other detail) := by
  unfold Device.klEvent
  dsimp only
  split
  · exact slackKept_modKl d _
  · split
    · unfold Device.sendUp
      exact (slackKept_modKl d _).trans (slackKept_pump _)
    · exact .refl d

theorem slackKept_groupGo (st : Nat) : SlackKept d (d.groupGo st) := by
  unfold Device.groupGo
  dsimp only
  split
  · exact .refl d
  · refine SlackKept.trans ?_ (slackKept_klEvent _ _ _ _ _)
    have hstate : SlackKept d (d.put fKlGroupStatState st) := slackKept_put d _ (by decide)
    split
    · exact hstate
    · exact (hstate.trans (slackKept_put _ _ (by decide))).trans (slackKept_modKl _ _)

theorem slackKept_groupApply (corr slope : Int) : SlackKept d (d.groupApply corr slope) := by
  unfold Device.groupApply
  dsimp only
  exact ((slackKept_modKl d _).trans (slackKept_put _ _ (by decide))).trans (slackKept_groupGo _ 2)

theorem slackKept_groupLeave : SlackKept d d.groupLeave := by
  unfold Device.groupLeave
  exact ((slackKept_put d _ (by decide)).trans (slackKept_groupGo _ 3)).trans (slackKept_irq _ 2)

/-! #### Changes that take effect -/

theorem slackKept_showDpd : SlackKept d (d.showDpd p) := slackKept_put d _ (by simp only [calStat, fPathDpdStatActive, pathDpdStat]; omega)

theorem slackKept_keepsDpd (b : Nat → Bool) :
    SlackKept d (d.forAll (List.range 64) (fun d p => (d.modPath p (fun s => { s with dpdKept := b p })).showDpd p)) :=
  slackKept_forAll (fun e p _ => (slackKept_modPath e p _).trans (slackKept_showDpd _ p)) d

theorem slackKept_clearBackoff (q : Option Nat) : SlackKept d (d.clearBackoff q) := by
  unfold Device.clearBackoff
  split
  · exact slackKept_put d _ (by simp only [calStat, fBackoff, txsBwBackoff]; omega)
  · exact slackKept_forAll (fun e w _ => slackKept_wr e 0 (by rw [calStat, txsBwBackoff]; omega)) d

theorem slackKept_dpdSet (temp : Nat) (ws : List CalWord) : SlackKept d (d.applyChange (.dpdSet p temp ws)) := by
  unfold Device.applyChange
  dsimp only
  refine SlackKept.trans ?_ (slackKept_showDpd _ p)
  refine SlackKept.trans ?_ (slackKept_clearBackoff _ _)
  refine SlackKept.trans ?_ (slackKept_put _ _ (by simp only [calStat, fPathDpdStatPending, pathDpdStat]; omega))
  refine SlackKept.trans ?_ (slackKept_put _ _ (by simp only [calStat, fPathDpdStatGen, pathDpdStat]; omega))
  refine SlackKept.trans ?_ (slackKept_modPath _ p _)
  exact slackKept_modCal d (fun _ => rfl)

theorem slackKept_inEffect (proc : Nat) (ws : List CalWord) : SlackKept d (d.inEffect proc ws) := by
  unfold Device.inEffect
  exact slackKept_modCal d (fun _ => rfl)

theorem slackKept_lost (proc : Nat) : SlackKept d (d.applyChange (.lost proc)) := by
  have hend : ∀ e : Device, SlackKept e (if e.on ⟨calStat, 15 + proc, 15 + proc⟩ then e else (e.put ⟨calStat, 15 + proc, 15 + proc⟩ 1).irq 0x10 2) := fun e => by
    split
    · exact .refl e
    · exact (slackKept_put_above e 1 (by dsimp only; omega)).trans (slackKept_irq _ 2)
  unfold Device.applyChange
  dsimp only
  refine SlackKept.trans ?_ (hend _)
  refine SlackKept.trans ?_ (slackKept_put_above _ 0 (by dsimp only; omega))
  refine SlackKept.trans ?_ (slackKept_when _ (slackKept_keepsDpd _ (fun _ => false)))
  exact slackKept_modCal d (fun _ => rfl)

theorem slackKept_gain : SlackKept d (d.applyChange (.gain p)) := by
  unfold Device.applyChange
  dsimp only
  split
  · refine SlackKept.trans ?_ (slackKept_when _ (slackKept_put _ _ (by simp only [calStat, fPathCountsUp, pathCounts]; omega)))
    refine SlackKept.trans ?_ (slackKept_modPath _ p _)
    exact (slackKept_put d _ (by simp only [calStat, fPathGainStep, pathGain]; omega)).trans
      (slackKept_put _ _ (by simp only [calStat, fPathGainUpPending, pathGain]; omega))
  · exact .refl d

theorem slackKept_applyChange (c : Change) : SlackKept d (d.applyChange c) := by
  cases c with
  | rxCal proc ws => exact slackKept_inEffect d proc ws
  | txCal proc ws => exact slackKept_inEffect d proc ws
  | dpdSet p temp ws => exact slackKept_dpdSet d p temp ws
  | table img dpd =>
    unfold Device.applyChange
    dsimp only
    refine SlackKept.trans ?_ (slackKept_keepsDpd _ (fun p => dpd.getLsbD p))
    exact slackKept_modCal d (fun _ => rfl)
  | invalidate =>
    unfold Device.applyChange
    dsimp only
    refine SlackKept.trans ?_ (slackKept_keepsDpd _ (fun _ => false))
    refine SlackKept.trans ?_ (slackKept_put_above _ 0 (by decide))
    exact slackKept_modCal d (fun _ => rfl)
  | lost proc => exact slackKept_lost d proc
  | renorm => exact slackKept_renormalise d
  | join p => exact slackKept_joinPath d p
  | drain p => exact slackKept_drainPath d p
  | level p =>
    unfold Device.applyChange
    dsimp only
    split
    · exact (slackKept_setLevel d p _).trans (slackKept_reglChanged _)
    · exact .refl d
  | dpdEn p =>
    exact ((slackKept_modPath d p _).trans (slackKept_put _ _ (by simp only [calStat, fPathDpdStatPending, pathDpdStat]; omega))).trans (slackKept_showDpd _ p)
  | backoff p => exact slackKept_clearBackoff d p
  | canc p c coef k =>
    unfold Device.applyChange
    exact slackKept_modPath d p _
  | gain p => exact slackKept_gain d p
  | cancEn p =>
    unfold Device.applyChange
    exact slackKept_modPath d p _
  | group corr slope => exact slackKept_groupApply d corr slope
  | groupOut => exact slackKept_groupLeave d

theorem slackKept_applyWaits (f : Change → Bool) : SlackKept d (d.applyWaits f) := by
  unfold Device.applyWaits
  dsimp only
  refine SlackKept.trans ?_ (slackKept_showWaits _)
  refine SlackKept.trans (slackKept_dropWaits d f) ?_
  exact slackKept_forAll (fun e _ _ => slackKept_forAll (fun e c _ => slackKept_applyChange e c) e) _

end

/-- The hold of one reason ends in one session and stays away from every other. -/
theorem holdEnd_holds {d : Device} {n : Nat} (hlt : n < 16) (why m : Nat) : ((d.holdEnd n why).sess m).holds
    = if m = n then (d.sess n).holds.filter (· != why) else (d.sess m).holds := by
  unfold Device.holdEnd Device.showHold
  rw [Device.sess_put, Device.sess_modSes]
  by_cases h : m = n
  · rw [if_pos ⟨h, hlt⟩, if_pos h]
  · rw [if_neg (fun c => h c.1), if_neg h]

/-- A reason that ends in every session of a list stands in none of them. -/
theorem not_mem_holds_forAll (why : Nat) {l : List Nat} (hl : ∀ n ∈ l, n < 16) (d : Device) {m : Nat} (h : m ∈ l ∨ why ∉ (d.sess m).holds) :
    why ∉ ((d.forAll l (fun d n => d.holdEnd n why)).sess m).holds := by
  induction l generalizing d with
  | nil => exact h.resolve_left (List.not_mem_nil)
  | cons x t ih =>
    refine ih (fun n hn => hl n (List.mem_cons_of_mem x hn)) (d.holdEnd x why) ?_
    rw [holdEnd_holds (hl x List.mem_cons_self)]
    by_cases hx : m = x
    · rw [if_pos hx]
      exact .inr (by simp)
    · rw [if_neg hx]
      exact h.imp_left (fun hm => (List.mem_cons.1 hm).resolve_left hx)

theorem slackKept_holdEnd (d : Device) (n why : Nat) : SlackKept d (d.holdEnd n why) := by
  unfold Device.holdEnd Device.showHold
  refine SlackKept.trans ?_ (slackKept_put _ _ (by simp only [calStat, fSesStatHoldWhy, sesStat]; omega))
  exact .of_apart rfl rfl

theorem slack_settle {d : Device} (h : d.NoRemote) : d.settle.cal.slack = d.cal.slack := by
  have hcal := (settled_settle d h).calq
  rw [hcal]

section
variable {s : State} (hn : s.dev.NoRemote)
include hn

/-- Slack water begins: every waiting change takes effect, and none of them ends it. -/
theorem slackWaterBegin_completes (hcalled : s.dev.cal.slack = .called) (hheld : s.dev.enabledSes.all s.dev.sesHeld = true) :
    Completes .slackWaterBegin s (fun e => e.cal.slack = .running ∧ e.on fCalStatSlack = true) := by
  have hn' : (slackWaterBegin s.dev).NoRemote := slackWaterBegin_closed noRemote_closed hn
  have heq : slackWaterBegin s.dev = ((s.dev.modCal (fun t => { t with slack := .running })).put fCalStatSlack 1).applyWaits (fun _ => true) := by
    unfold slackWaterBegin
    rw [if_neg (by simp [hcalled, hheld])]
  refine completes_act _ rfl ?_
  have hkept := slackKept_applyWaits ((s.dev.modCal (fun t => { t with slack := .running })).put fCalStatSlack 1) (fun _ => true)
  rw [← heq] at hkept
  refine ⟨?_, ?_⟩
  · exact (slack_settle hn').trans hkept.slack
  · rw [settle_on _ hn' _ (by decide), on_of_get hkept.shown, Device.on, Device.get_put_same _ _ _ (by decide) (by decide)]
    rfl

/-- Slack water ends: its reason is taken from every session. -/
theorem slackWaterEnd_completes (hrun : s.dev.cal.slack = .running) :
    Completes .slackWaterEnd s (fun e => e.cal.slack = .none ∧ e.on fCalStatSlack = false ∧ ∀ n : Fin 16, 2 ∉ (e.sess n.val).holds) := by
  have hn' : (slackWaterEnd s.dev).NoRemote := slackWaterEnd_closed noRemote_closed hn
  have heq : slackWaterEnd s.dev = ((s.dev.modCal (fun t => { t with slack := .none })).put fCalStatSlack 0).forAll (List.range 16) (fun d n => d.holdEnd n 2) := by
    unfold slackWaterEnd
    rw [if_neg (by simp [hrun])]
  refine completes_act _ rfl ?_
  have hkept := slackKept_forAll (l := List.range 16) (fun e n _ => slackKept_holdEnd e n 2) ((s.dev.modCal (fun t => { t with slack := .none })).put fCalStatSlack 0)
  rw [← heq] at hkept
  refine ⟨?_, ?_, fun n => ?_⟩
  · exact (slack_settle hn').trans hkept.slack
  · rw [settle_on _ hn' _ (by decide), on_of_get hkept.shown, Device.on, Device.get_put_same _ _ _ (by decide) (by decide)]
    rfl
  · rw [Device.sess_settle _ hn', heq]
    exact not_mem_holds_forAll 2 (fun n => List.mem_range.1) _ (.inl (List.mem_range.2 n.isLt))

end

end Sys2Proof.Machine


namespace Sys2Proof.Machine

/-! #### A session enters HOLD and leaves it (R79, R84, R86) -/

section
variable {n : Nat} (d : Device)

/-- HOLD_WHY follows the state and the holds a session changes with (R78). -/
theorem get_sesGo_holdWhy {st code : Nat} (hst : st < 256) (hold : d.sesState n ≠ st) :
    (d.sesGo n st code).get (fSesStatHoldWhy n) = (if st = 8 then (d.sess n).holds.headD 0 % 8 else 0) := by
  have hstate : (d.put (fPsState (0x80 + n)) st).sesState n = st := by
    rw [Device.sesState, Device.get_put_same _ _ _ (by simp [fPsState]) (by simp [fPsState])]
    simp only [fPsState]
    omega
  unfold Device.sesGo
  dsimp only
  rw [if_neg hold, (posts_postMsg n _ _).get, Device.showHold, Device.get_put_same _ _ _ (by simp [fSesStatHoldWhy]) (by simp [fSesStatHoldWhy]), hstate,
    Device.sess_put]
  · split
    · rfl
    · rfl
  · simp only [msgRegs, List.mem_cons, List.not_mem_nil, or_false, not_or, fSesStatHoldWhy, sesStat, ringMtail, irqRaw, irqStat, wordAt]
    omega

/-- A session that stands in HOLD, with where it goes back to. -/
def SesSt.held (prev : Nat) (s : SesSt) : SesSt := { s with prev := prev, acc := { s.acc with ready := false } }

/-- The session in HOLD, before its round ends. -/
def Device.held (d : Device) (n : Nat) : Device := (d.modSes n (SesSt.held (d.sesState n))).sesGo n 8 0

/-- A round in progress ends incomplete for a carrier event. -/
def Device.roundCut (d : Device) (n : Nat) : Device :=
  d.when ((d.sess n).holds.contains 5 && (d.sess n).phase != .closed) (fun d => d.endRound n true false false)

/-- A round's end moves ROUNDS and its message's words. -/
theorem get_endRound {f : Fld} (h : f.reg ∉ sesRounds n :: msgRegs n) (i p l : Bool) : (d.endRound n i p l).get f = d.get f := by
  simp only [List.mem_cons, not_or] at h
  cases ha : (d.sess n).round.active
  · rw [endRound_idle ha]
  · rw [(posts_endRound ha i p l).get f h.2, Device.get_modSes, Device.addWrap_eq, Device.get_put_ne _ _ _ _ h.1]

theorem get_roundCut {f : Fld} (h : f.reg ∉ sesRounds n :: msgRegs n) : (d.roundCut n).get f = d.get f := by
  unfold Device.roundCut
  cases ((d.sess n).holds.contains 5 && (d.sess n).phase != .closed)
  · rfl
  · exact get_endRound d h true false false

/-- A round that has ended is not in progress; the rest of the record that it does not reset stays. -/
theorem sess_endRound (hn : n < 16) (i p l : Bool) : ((d.endRound n i p l).sess n).round.active = false
    ∧ ((d.endRound n i p l).sess n).prev = (d.sess n).prev ∧ ((d.endRound n i p l).sess n).stop = (d.sess n).stop := by
  cases ha : (d.sess n).round.active
  · rw [endRound_idle ha]
    exact ⟨ha, rfl, rfl⟩
  · have hend := posts_endRound ha i p l
    rw [hend.keeps (fun s => s.round.active) (fun _ _ _ _ => rfl), hend.keeps SesSt.prev (fun _ _ _ _ => rfl), hend.keeps SesSt.stop (fun _ _ _ _ => rfl),
      Device.sess_modSes_self _ _ _ hn]
    exact ⟨rfl, rfl, rfl⟩

theorem sess_roundCut (hn : n < 16) : (5 ∈ (d.sess n).holds → (d.sess n).phase ≠ .closed → ((d.roundCut n).sess n).round.active = false)
    ∧ ((d.roundCut n).sess n).prev = (d.sess n).prev ∧ ((d.roundCut n).sess n).stop = (d.sess n).stop := by
  obtain ⟨hactive, hprev, hstop⟩ := sess_endRound d hn true false false
  unfold Device.roundCut
  cases hc : ((d.sess n).holds.contains 5 && (d.sess n).phase != .closed)
  · refine ⟨fun h5 hp => ?_, rfl, rfl⟩
    simp [h5, hp] at hc
  · exact ⟨fun _ _ => hactive, hprev, hstop⟩

variable {d}

theorem holdEnter_eq (hn : n < 16) (hdue : d.holdDue n = true) (hstop : (d.sess n).stop = none) : holdEnter n d = (d.held n).roundCut n := by
  have hnone : (((d.held n).roundCut n).sess n).stop = none := by
    rw [(sess_roundCut _ hn).2.2, Device.held, (posts_sesGo n _ 8 0).keeps SesSt.stop (fun _ _ _ _ => rfl), Device.sess_modSes_self _ _ _ hn]
    exact hstop
  unfold holdEnter
  rw [if_neg (by simp [hdue])]
  exact (by rw [Device.stopNow, hnone] : ((d.held n).roundCut n).stopNow n = (d.held n).roundCut n)

end

section
variable {s : State} (hn : s.dev.NoRemote) (n : Fin 16)
include hn

theorem holdEnter_completes (hdue : s.dev.holdDue n.val = true) (hstop : (s.dev.sess n.val).stop = none) :
    Completes (.holdEnter n) s (fun e => e.sesState n.val = 8
      ∧ (e.sess n.val).prev = s.dev.sesState n.val
      ∧ e.get (fSesStatHoldWhy n.val) = (s.dev.sess n.val).holds.headD 0 % 8
      ∧ (5 ∈ (s.dev.sess n.val).holds → (s.dev.sess n.val).phase ≠ .closed → (e.sess n.val).round.active = false)) := by
  have hn' : (holdEnter n.val s.dev).NoRemote := holdEnter_closed noRemote_closed hn
  have hold : s.dev.sesState n.val ≠ 8 := fun h => by
    simp [Device.holdDue, h] at hdue
  have hlt := n.isLt
  refine completes_act _ rfl ?_
  rw [holdEnter_eq n.isLt hdue hstop] at hn' ⊢
  obtain ⟨m, hm⟩ : ∃ m, m = s.dev.modSes n.val (SesSt.held (s.dev.sesState n.val)) := ⟨_, rfl⟩
  have hsess : m.sess n.val = (s.dev.sess n.val).held (s.dev.sesState n.val) := by rw [hm, Device.sess_modSes_self _ _ _ n.isLt]
  have hheld : s.dev.held n.val = m.sesGo n.val 8 0 := by rw [hm, Device.held]
  have hgo := posts_sesGo n.val m 8 0
  have hnot : m.sesState n.val ≠ 8 := by
    rw [hm, Device.sesState, Device.get_modSes]
    exact hold
  rw [hheld] at hn' ⊢
  obtain ⟨hround, hprev, -⟩ := sess_roundCut (m.sesGo n.val 8 0) n.isLt
  refine ⟨?_, ?_, ?_, fun h5 hphase => ?_⟩
  · rw [sesState_settle hn', Device.sesState, get_roundCut]
    · exact sesState_sesGo n.val m 8 0 (by decide)
    · simp only [msgRegs, List.mem_cons, List.not_mem_nil, or_false, not_or, fPsState, pageStat, sesRounds, ringMtail, irqRaw, irqStat, wordAt]
      omega
  · rw [Device.sess_settle _ hn', hprev, hgo.keeps SesSt.prev (fun _ _ _ _ => rfl), hsess]
    rfl
  · rw [get_pilotPage_settle hn' (by simp only [fSesStatHoldWhy, sesStat]; omega), get_roundCut, get_sesGo_holdWhy m (by decide) hnot, hsess]
    · rfl
    · simp only [msgRegs, List.mem_cons, List.not_mem_nil, or_false, not_or, fSesStatHoldWhy, sesStat, sesRounds, ringMtail, irqRaw, irqStat, wordAt]
      omega
  · rw [Device.sess_settle _ hn']
    refine hround (Device.mem_holds_sesGo ?_) ?_
    · rw [hsess]
      exact h5
    · rw [hgo.keeps SesSt.phase (fun _ _ _ _ => rfl), hsess]
      exact hphase

omit hn in
theorem holdRelease_eq {d : Device} {n : Nat} (hstate : d.sesState n = 8) (hholds : (d.sess n).holds = []) :
    holdRelease n d = d.sesBack n (if (d.sess n).prev = 1 then 2 else (d.sess n).prev) := by
  unfold holdRelease
  dsimp only
  rw [if_pos (by simp [hstate, hholds])]

omit hn in
/-- A session that leaves HOLD for a state it stays in. -/
theorem released_completes {c : Instr} {f : Device → Device} {st : Nat} (hc : exec c s = act f s) (hf : f s.dev = s.dev.sesGo n.val st 0)
    (hf' : (f s.dev).NoRemote) (hst : st < 8) (hstate : s.dev.sesState n.val = 8) :
    Completes c s (fun e => e.sesState n.val = st ∧ e.get (fSesStatHoldWhy n.val) = 0 ∧ (e.sess n.val).run = (s.dev.sess n.val).run) := by
  refine completes_act _ hc ?_
  rw [hf] at hf' ⊢
  refine ⟨?_, ?_, ?_⟩
  · rw [sesState_settle hf', sesState_sesGo _ _ _ _ (by omega)]
  · rw [get_pilotPage_settle hf' (by simp only [fSesStatHoldWhy, sesStat]; omega), get_sesGo_holdWhy _ (by omega) (by omega), if_neg (by omega)]
  · rw [Device.sess_settle _ hf', (posts_sesGo n.val s.dev st 0).keeps SesSt.run (fun _ _ _ _ => rfl)]

theorem holdRelease_idle_completes (hstate : s.dev.sesState n.val = 8) (hholds : (s.dev.sess n.val).holds = [])
    (hprev : (s.dev.sess n.val).prev = 1 ∨ (s.dev.sess n.val).prev = 2) :
    Completes (.holdRelease n) s (fun e => e.sesState n.val = 2 ∧ e.get (fSesStatHoldWhy n.val) = 0) := by
  have hback : (if (s.dev.sess n.val).prev = 1 then 2 else (s.dev.sess n.val).prev) = 2 := by
    rcases hprev with h | h <;> simp [h]
  have hgo : holdRelease n.val s.dev = s.dev.sesGo n.val 2 0 := by rw [holdRelease_eq hstate hholds, hback, sesBack_ready _ _ (by decide)]
  exact (released_completes n (f := fun d => holdRelease n.val d) rfl hgo (holdRelease_closed noRemote_closed hn) (by decide) hstate).imp
    (fun e h => ⟨h.1, h.2.1⟩)

theorem holdRelease_running_completes {x : Desc} (hstate : s.dev.sesState n.val = 8) (hholds : (s.dev.sess n.val).holds = [])
    (hlo : 3 ≤ (s.dev.sess n.val).prev) (hhi : (s.dev.sess n.val).prev < 8) (hrun : (s.dev.sess n.val).run = some x)
    (hwaits : (s.dev.sess n.val).round.waits = false) :
    Completes (.holdRelease n) s (fun e => e.sesState n.val = (s.dev.sess n.val).prev ∧ e.get (fSesStatHoldWhy n.val) = 0 ∧ (e.sess n.val).run = some x) := by
  have hpost := posts_sesGo n.val s.dev (s.dev.sess n.val).prev 0
  have hgo : holdRelease n.val s.dev = s.dev.sesGo n.val (s.dev.sess n.val).prev 0 := by
    rw [holdRelease_eq hstate hholds, if_neg (by omega), Device.sesBack]
    dsimp only
    rw [if_neg (by omega), if_neg, if_neg]
    · rw [hpost.keeps (fun t => t.round.waits) (fun _ _ _ _ => rfl)]
      simp [hwaits]
    · rw [hpost.keeps SesSt.run (fun _ _ _ _ => rfl), hrun]
      simp
  exact (released_completes n (f := fun d => holdRelease n.val d) rfl hgo (holdRelease_closed noRemote_closed hn) hhi hstate).imp
    (fun e h => ⟨h.1, h.2.1, h.2.2.trans hrun⟩)

end

end Sys2Proof.Machine


namespace Sys2Proof.Machine

/-! #### A trigger edge at the sessions (R118, R119) -/

/-- A trigger moves its session's TRIG word and the words of a message. -/
theorem posts_trigger (n : Nat) (d : Device) : Posts (sesTrig n :: msgRegs n) n d (d.trigger n) := by
  unfold Device.trigger
  dsimp only
  split
  · exact .refl _ n d
  · split
    · exact (posts_put n d (fSesTrigOvf n) _ (by simp [fSesTrigOvf])).then ((posts_postMsg n _ _).mono (by simp +contextual))
    · exact posts_put n d _ 1 (by simp [fSesTrigPending])

section
variable {n : Nat} (hn : n < 16) (d : Device)
include hn

theorem sesTrig_not_mem_msgRegs (m : Nat) : sesTrig m ∉ msgRegs n := not_mem_msgRegs hn (by rw [sesTrig]; omega)

/-- Where TRIG.EN is 0 a trigger changes nothing; where it is 1 one is pending then. -/
theorem on_trigger_pending : (d.trigger n).on (fSesTrigPending n) = (d.on (fSesTrigPending n) || d.on (fSesTrigEn n)) := by
  unfold Device.trigger
  dsimp only
  cases hen : d.on (fSesTrigEn n)
  · simp
  · simp only [Bool.not_true, Bool.false_eq_true, if_false, Bool.or_true]
    split
    · next h =>
      rw [on_of_get ((posts_postMsg n _ _).get _ (sesTrig_not_mem_msgRegs hn n)), ← h, Device.count_eq]
      exact on_of_get (Device.get_put_apart _ _ _ _ (by simp [fSesTrigOvf]) (by simp [fSesTrigOvf]) (by simp [fSesTrigOvf, fSesTrigPending]))
    · rw [Device.on, Device.get_put_same _ _ _ (by simp [fSesTrigPending]) (by simp [fSesTrigPending])]
      simp [fSesTrigPending]

end

/-- Does session `n` select an edge of source `src`? -/
def Device.takesEdge (d : Device) (src : Nat) (high : Bool) (n : Nat) : Bool :=
  d.get (fSesTrigSrc n) = src && (d.get (fSesTrigEdge n) = 2 || (if high then d.get (fSesTrigEdge n) = 0 else d.get (fSesTrigEdge n) = 1))

theorem takesEdge_congr {d e : Device} {n : Nat} (h : e.rd (sesTrig n) = d.rd (sesTrig n)) (src : Nat) (high : Bool) :
    e.takesEdge src high n = d.takesEdge src high n := by
  have hget : ∀ f : Fld, f.reg = sesTrig n → e.get f = d.get f := fun f hf => by rw [Device.get, hf, h, ← hf, ← Device.get]
  unfold Device.takesEdge
  rw [hget (fSesTrigSrc n) rfl, hget (fSesTrigEdge n) rfl]

/-- The edge at one session. -/
def Device.edgeAt (src : Nat) (high : Bool) (d : Device) (n : Nat) : Device := d.when (d.takesEdge src high n) (fun d => d.trigger n)

theorem triggerEdge_eq (d : Device) (src : Nat) (high : Bool) : d.triggerEdge src high = d.forAll (List.range 16) (Device.edgeAt src high) := rfl

section
variable (src : Nat) (high : Bool)

theorem posts_edgeAt (d : Device) (n : Nat) : Posts (sesTrig n :: msgRegs n) n d (d.edgeAt src high n) := posts_when d _ _ (posts_trigger n)

theorem on_edgeAt_pending {n : Nat} (hn : n < 16) (d : Device) :
    (d.edgeAt src high n).on (fSesTrigPending n) = (d.on (fSesTrigPending n) || (d.takesEdge src high n && d.on (fSesTrigEn n))) := by
  unfold Device.edgeAt
  cases d.takesEdge src high n
  · simp
  · simp [on_trigger_pending hn]

/-- A session's TRIG word changes only at that session's turn. -/
theorem rd_edges_other {l : List Nat} (hl : ∀ n ∈ l, n < 16) {m : Nat} (hm : m ∉ l) (d : Device) :
    (d.forAll l (Device.edgeAt src high)).rd (sesTrig m) = d.rd (sesTrig m) := by
  induction l generalizing d with
  | nil => rfl
  | cons x t ih =>
    simp only [List.mem_cons, not_or] at hm
    refine (ih (fun n hn => hl n (List.mem_cons_of_mem x hn)) hm.2 (d.edgeAt src high x)).trans ?_
    refine (posts_edgeAt src high d x).regs _ ?_
    have hne : sesTrig m ≠ sesTrig x := by
      simp only [sesTrig]
      omega
    simp [hne, sesTrig_not_mem_msgRegs (hl x List.mem_cons_self) m]

/-- The edge at a session of a list is decided by its TRIG word as it stood before. -/
theorem on_edges_pending {l : List Nat} (hl : ∀ n ∈ l, n < 16) (hd : l.Nodup) {m : Nat} (hm : m ∈ l) (d : Device) :
    (d.forAll l (Device.edgeAt src high)).on (fSesTrigPending m) = (d.on (fSesTrigPending m) || (d.takesEdge src high m && d.on (fSesTrigEn m))) := by
  induction l generalizing d with
  | nil => cases hm
  | cons x t ih =>
    have ht : ∀ n ∈ t, n < 16 := fun n hn => hl n (List.mem_cons_of_mem x hn)
    obtain ⟨hx, htd⟩ := List.nodup_cons.1 hd
    rcases List.mem_cons.1 hm with rfl | hm
    · refine (on_of_rd (rd_edges_other src high ht hx (d.edgeAt src high m))).trans ?_
      exact on_edgeAt_pending src high (hl m List.mem_cons_self) d
    · have hne : m ∉ [x] := fun h => hx (List.mem_singleton.1 h ▸ hm)
      have hstays : (d.edgeAt src high x).rd (sesTrig m) = d.rd (sesTrig m) :=
        rd_edges_other src high (l := [x]) (fun n hn => List.mem_singleton.1 hn ▸ hl x List.mem_cons_self) hne d
      refine (ih ht htd hm (d.edgeAt src high x)).trans ?_
      rw [takesEdge_congr hstays, on_of_rd (f := fSesTrigPending m) hstays, on_of_rd (f := fSesTrigEn m) hstays]

/-- After an edge a trigger is pending at the sessions that had one and at those that select it with TRIG.EN = 1. -/
theorem on_triggerEdge_pending {n : Nat} (hn : n < 16) (d : Device) :
    (d.triggerEdge src high).on (fSesTrigPending n) = (d.on (fSesTrigPending n) || (d.takesEdge src high n && d.on (fSesTrigEn n))) := by
  rw [triggerEdge_eq]
  exact on_edges_pending src high (fun _ => List.mem_range.1) List.nodup_range (List.mem_range.2 hn) d

/-- The words off the SESSION pages and the rings' page stay. -/
theorem rd_triggerEdge {a : Nat} (d : Device) (hlo : a < 0x80 * 1024) (hring : a / 1024 ≠ 0x19) : (d.triggerEdge src high).rd a = d.rd a := by
  have hat : ∀ (e : Device), ∀ n ∈ List.range 16, (e.edgeAt src high n).rd a = e.rd a := fun e n hn => by
    refine (posts_edgeAt src high e n).regs a ?_
    have hne : a ≠ sesTrig n := by
      rw [sesTrig]
      omega
    simp [hne, not_mem_msgRegs (List.mem_range.1 hn) hring]
  have hall : ∀ (l : List Nat), (∀ n ∈ l, n ∈ List.range 16) → ∀ e : Device, (e.forAll l (Device.edgeAt src high)).rd a = e.rd a := fun l hl => by
    induction l with
    | nil => exact fun _ => rfl
    | cons x t ih => exact fun e => (ih (fun n hn => hl n (List.mem_cons_of_mem x hn)) _).trans (hat e x (hl x List.mem_cons_self))
  rw [triggerEdge_eq]
  exact hall _ (fun _ h => h) d

end

/-! #### What an edge starts beside (R343, R479, R547) -/

/-- From `d` to `e` no session's TRIG word, no cascade trigger's setting and not the level of ball `k` changes. -/
structure TrigKept (k : Nat) (d e : Device) : Prop where
  trig : ∀ n, e.rd (sesTrig n) = d.rd (sesTrig n)
  cfg : e.rd klTrigCfg = d.rd klTrigCfg
  level : e.on ⟨pinsLevels, k, k⟩ = d.on ⟨pinsLevels, k, k⟩

theorem TrigKept.refl (k : Nat) (d : Device) : TrigKept k d d := ⟨fun _ => rfl, rfl, rfl⟩

theorem TrigKept.trans {k : Nat} {d e f : Device} (h : TrigKept k d e) (g : TrigKept k e f) : TrigKept k d f :=
  ⟨fun n => (g.trig n).trans (h.trig n), g.cfg.trans h.cfg, g.level.trans h.level⟩

section
variable (k : Nat) (d : Device)

theorem trigKept_put {f : Fld} (v : Nat) (hlo : f.reg < 0x80 * 1024) (hk : f.reg ≠ klTrigCfg) (hp : f.reg ≠ pinsLevels) : TrigKept k d (d.put f v) := by
  refine ⟨fun n => Device.rd_put_ne _ _ _ _ ?_, Device.rd_put_ne _ _ _ _ (Ne.symm hk), on_of_get (Device.get_put_ne _ _ _ _ (Ne.symm hp))⟩
  rw [sesTrig]
  omega

theorem trigKept_irq {p : Nat} (b : Nat) (hp : p < 0x80) : TrigKept k d (d.irq p b) := by
  unfold Device.irq
  split
  · refine trigKept_put k d 1 ?_ ?_ ?_ <;> simp only [irqStat, wordAt, klTrigCfg, pinsLevels] <;> omega
  · exact .refl k d

theorem trigKept_hkBegin : TrigKept k d d.hkBegin := by
  have hput : ∀ (e : Device) (f : Fld) (v : Nat), f.reg = hkStat ∨ f.reg = pageStat 0x0C → TrigKept k e (e.put f v) := fun e f v h => by
    refine trigKept_put k e v ?_ ?_ ?_ <;> rcases h with h | h <;> rw [h] <;> decide
  have hstart : TrigKept k d (((d.put fHkStatBusy 1).put fHkStatEntry 0).put (fPsBusy 0x0C) 1) :=
    ((hput _ _ _ (.inl rfl)).trans (hput _ _ _ (.inl rfl))).trans (hput _ _ _ (.inr rfl))
  unfold Device.hkBegin Device.hkShow
  dsimp only
  refine TrigKept.trans (hstart.trans ?_) (hput _ _ _ (.inr rfl))
  exact ⟨fun _ => rfl, rfl, rfl⟩

theorem trigKept_hkTrigger : TrigKept k d d.hkTrigger := by
  unfold Device.hkTrigger
  split
  · exact .refl k d
  · split
    · rw [Device.count_eq]
      exact (trigKept_put k d _ (by decide) (by decide) (by decide)).trans (trigKept_irq k _ 2 (by decide))
    · split
      · exact trigKept_put k d 1 (by decide) (by decide) (by decide)
      · exact trigKept_hkBegin k d

theorem trigKept_hkTriggerFrom (src : Nat) : TrigKept k d (d.hkTriggerFrom src) := by
  unfold Device.hkTriggerFrom
  split
  · exact trigKept_hkTrigger k d
  · exact .refl k d

/-- A trigger output moves the levels of the outputs alone. -/
theorem trigKept_trigOutFrom {k : Nat} (hk : k < 4) (j src : Nat) : TrigKept k d (d.trigOutFrom j src) := by
  have hput : ∀ v, TrigKept k d (d.put ⟨pinsLevels, 4 + j, 4 + j⟩ v) := fun v => by
    refine ⟨fun n => Device.rd_put_ne _ _ _ _ ?_, Device.rd_put_ne _ _ _ _ (show klTrigCfg ≠ pinsLevels by decide), ?_⟩
    · dsimp only
      rw [sesTrig, pinsLevels]
      omega
    · rw [Device.on_bit, Device.on_bit, Device.rd_put, if_pos rfl, getLsbD_setBits_below _ _ (by dsimp only; omega)]
  have hevent : TrigKept k d (d.trigOutEvent j) := by
    unfold Device.trigOutEvent
    split
    · exact .refl k d
    · exact (hput _).trans ⟨fun _ => rfl, rfl, rfl⟩
  unfold Device.trigOutFrom
  split
  · exact hevent
  · exact .refl k d

end

/-! #### An edge forwarded into the cascade (R343) -/

/-- From `d` to `e` no pending trigger is lost and the level of ball `k` stays. -/
structure EdgeKept (k : Nat) (d e : Device) : Prop where
  pending : ∀ n, n < 16 → d.on (fSesTrigPending n) = true → e.on (fSesTrigPending n) = true
  level : e.on ⟨pinsLevels, k, k⟩ = d.on ⟨pinsLevels, k, k⟩

theorem EdgeKept.trans {k : Nat} {d e f : Device} (h : EdgeKept k d e) (g : EdgeKept k e f) : EdgeKept k d f :=
  ⟨fun n hn hp => g.pending n hn (h.pending n hn hp), g.level.trans h.level⟩

theorem TrigKept.edgeKept {k : Nat} {d e : Device} (h : TrigKept k d e) : EdgeKept k d e :=
  ⟨fun n _ hp => (on_of_rd (h.trig n)).trans hp, h.level⟩

section
variable {k : Nat} (hk : k < 4) (d : Device)

theorem trigKept_of_regs {d e : Device} (h : e.regs = d.regs) : TrigKept k d e := by
  have hrd : ∀ a, e.rd a = d.rd a := fun a => by simp only [Device.rd, h]
  exact ⟨fun n => hrd _, hrd _, on_of_rd (hrd _)⟩

theorem edgeKept_cascadeTrigger (ch : Nat) : EdgeKept k d (d.cascadeTrigger ch) := by
  refine ⟨fun n hn hp => ?_, on_of_rd (rd_triggerEdge _ _ d (show pinsLevels < 0x80 * 1024 by decide) (show pinsLevels / 1024 ≠ 0x19 by decide))⟩
  rw [Device.cascadeTrigger, on_triggerEdge_pending _ _ hn, hp, Bool.true_or]

include hk

theorem edgeKept_fireChannel (ch t : Nat) : EdgeKept k d (d.fireChannel ch t) := by
  unfold Device.fireChannel
  refine EdgeKept.trans (EdgeKept.trans ?_ (edgeKept_cascadeTrigger _ ch)) (trigKept_trigOutFrom _ hk ch 1).edgeKept
  refine TrigKept.edgeKept (trigKept_of_regs ?_)
  rfl

theorem edgeKept_armTrigger (ch t : Nat) : EdgeKept k d (d.armTrigger ch t) := by
  unfold Device.armTrigger
  split
  · exact (TrigKept.refl k d).edgeKept
  · split
    · refine ((edgeKept_fireChannel hk d ch t).trans ?_).trans (trigKept_irq k _ 3 (by decide)).edgeKept
      rw [Device.count_eq]
      exact (trigKept_put k _ _ (by decide) (by decide) (by decide)).edgeKept
    · refine TrigKept.edgeKept (trigKept_of_regs ?_)
      rfl

theorem edgeKept_masterTrig (ch t : Nat) : EdgeKept k d (d.masterTrig ch t) := by
  have hsend : (d.sendTrig ch t).regs = d.regs := by
    have hall : ∀ (l : List Nat) (e : Device), (e.forAll l (fun d k => d.modPort k (fun (p : KlPortSt) => { p with ctl := some (.trig ch (t % 2 ^ 48)) }))).regs = e.regs := fun l => by
      induction l with
      | nil => exact fun _ => rfl
      | cons x r ih => exact fun e => ih _
    exact hall _ d
  unfold Device.masterTrig
  split
  · exact (trigKept_of_regs hsend).edgeKept.trans (edgeKept_armTrigger hk _ ch t)
  · exact (TrigKept.refl k d).edgeKept

theorem edgeKept_trigInForward (j : Nat) : EdgeKept k d (d.trigInForward j) := by
  unfold Device.trigInForward
  split
  · exact (TrigKept.refl k d).edgeKept
  · dsimp only
    refine EdgeKept.trans ?_ (edgeKept_masterTrig hk _ j _)
    exact (trigKept_of_regs (by have hfree := freeOnly_divOpen d (1024 * d.get fKlTrigCfgLead) 10; rw [FreeOnly] at hfree; rw [hfree])).edgeKept

end

theorem trigInForward_off {d : Device} {k : Nat} (h : (d.rd klTrigCfg).getLsbD k = false) : d.trigInForward k = d := by
  unfold Device.trigInForward
  rw [if_pos (by simp [h])]

/-! #### TRIG_IN_EDGE -/

/-- The edge at the pin, the sessions and, where it rises, the housekeeping converter and the trigger output. -/
def Device.edgeIn (d : Device) (k : Nat) (high : Bool) : Device := (d.putB ⟨pinsLevels, k, k⟩ high).triggerEdge k high

/-- What a rising edge starts beside the sessions: a housekeeping sequence and an output that follows the ball. -/
def Device.edgeStarts (d : Device) (k : Nat) : Device := (d.hkTriggerFrom (k + 1)).trigOutFrom k 2

section
variable {d : Device} {k : Nat} {high : Bool}

theorem trigIn_eq (h : d.on ⟨pinsLevels, k, k⟩ ≠ high) :
    d.trigIn k high = (d.edgeIn k high).when high (fun d => (d.edgeStarts k).trigInForward k) := by
  unfold Device.trigIn
  rw [if_neg h]
  rfl

theorem trigKept_edgeStarts (d : Device) (hk : k < 4) : TrigKept k d (d.edgeStarts k) :=
  (trigKept_hkTriggerFrom k d (k + 1)).trans (trigKept_trigOutFrom _ hk k 2)

/-- After the edge the ball has its level, and a trigger is pending at the sessions that select it. -/
theorem on_edgeIn (hk : k < 4) : (d.edgeIn k high).on ⟨pinsLevels, k, k⟩ = high ∧ (d.edgeIn k high).rd klTrigCfg = d.rd klTrigCfg
    ∧ ∀ n, n < 16 → (d.edgeIn k high).on (fSesTrigPending n) = (d.on (fSesTrigPending n) || (d.takesEdge k high n && d.on (fSesTrigEn n))) := by
  have htrig : ∀ n, (d.putB ⟨pinsLevels, k, k⟩ high).rd (sesTrig n) = d.rd (sesTrig n) := fun n => by
    refine Device.rd_put_ne _ _ _ _ ?_
    dsimp only
    rw [sesTrig, pinsLevels]
    omega
  unfold Device.edgeIn
  refine ⟨?_, ?_, fun n hn => ?_⟩
  · rw [on_of_rd (rd_triggerEdge _ _ _ (show pinsLevels < 0x80 * 1024 by decide) (show pinsLevels / 1024 ≠ 0x19 by decide)), Device.putB_eq, Device.on,
      Device.get_put_same _ _ _ (by dsimp only; omega) (Nat.le_refl k)]
    cases high <;> simp
  · rw [rd_triggerEdge _ _ _ (by decide) (by decide)]
    exact Device.rd_put_ne _ _ _ _ (show klTrigCfg ≠ pinsLevels by decide)
  · rw [on_triggerEdge_pending _ _ hn, takesEdge_congr (htrig n), on_of_rd (f := fSesTrigPending n) (htrig n), on_of_rd (f := fSesTrigEn n) (htrig n)]

theorem edgeKept_trigIn (hk : k < 4) (h : d.on ⟨pinsLevels, k, k⟩ ≠ high) : EdgeKept k (d.edgeIn k high) (d.trigIn k high) := by
  rw [trigIn_eq h]
  cases high
  · exact (TrigKept.refl k _).edgeKept
  · exact (trigKept_edgeStarts _ hk).edgeKept.trans (edgeKept_trigInForward hk _ k)

/-- An edge that is not forwarded reaches the TRIG words of the sessions that take it alone. -/
theorem trigKept_trigIn (hk : k < 4) (h : d.on ⟨pinsLevels, k, k⟩ ≠ high) (hcfg : (d.rd klTrigCfg).getLsbD k = false) :
    TrigKept k (d.edgeIn k high) (d.trigIn k high) := by
  rw [trigIn_eq h]
  cases high
  · exact .refl k _
  · have hstarts := trigKept_edgeStarts (d.edgeIn k true) hk
    rw [Device.when_true, trigInForward_off (by rw [hstarts.cfg, (on_edgeIn hk).2.1, hcfg])]
    exact hstarts

end

section
variable {s : State} (hn : s.dev.NoRemote) (k : Fin 4) (high : Bool)
include hn

theorem trigInEdge_completes (hedge : s.dev.on ⟨pinsLevels, k.val, k.val⟩ ≠ high) :
    Completes (.trigInEdge k high) s (fun e => e.on ⟨pinsLevels, k.val, k.val⟩ = high
      ∧ (∀ n : Fin 16, s.dev.on (fSesTrigEn n.val) = true → s.dev.takesEdge k.val high n.val = true → e.on (fSesTrigPending n.val) = true)
      ∧ ((s.dev.rd klTrigCfg).getLsbD k.val = false → ∀ n : Fin 16, (s.dev.on (fSesTrigEn n.val) = false ∨ s.dev.get (fSesTrigSrc n.val) ≠ k.val) →
        e.on (fSesTrigPending n.val) = s.dev.on (fSesTrigPending n.val))) := by
  have hn' : (s.dev.trigIn k.val high).NoRemote := Device.trigIn_closed noRemote_closed hn
  have hsettles : ∀ j : Fin 4, (⟨pinsLevels, j.val, j.val⟩ : Fld).settles = true := by decide
  obtain ⟨hlevel, -, hpending⟩ := on_edgeIn (d := s.dev) (high := high) k.isLt
  have hkept := edgeKept_trigIn k.isLt hedge
  have hsettle : ∀ n, (s.dev.trigIn k.val high).settle.on (fSesTrigPending n) = (s.dev.trigIn k.val high).on (fSesTrigPending n) := fun n =>
    settle_on _ hn' _ (settles_of_page (by simp only [fSesTrigPending, sesTrig]; omega))
  refine completes_act (fun d => d.trigIn k.val high) rfl ?_
  refine ⟨?_, fun n hen htakes => ?_, fun hcfg n hnot => ?_⟩
  · rw [settle_on _ hn' _ (hsettles k), hkept.level, hlevel]
  · rw [hsettle]
    refine hkept.pending n.val n.isLt ?_
    rw [hpending n.val n.isLt, htakes, hen, Bool.and_self, Bool.or_true]
  · rw [hsettle, on_of_rd (f := fSesTrigPending n.val) ((trigKept_trigIn k.isLt hedge hcfg).trig n.val), hpending n.val n.isLt]
    rcases hnot with h | h
    · simp [h]
    · simp [Device.takesEdge, h]

end

/-- Settles O21: each clause by its row's own lemma. -/
theorem holdsAndTriggers : Obligations.HoldsAndTriggers := by
  intro s hn
  refine ⟨fun n h1 h2 => holdEnter_completes hn n h1 h2, fun n h1 h2 h3 => holdRelease_idle_completes hn n h1 h2 h3,
    fun n x h1 h2 h3 h4 h5 h6 => holdRelease_running_completes hn n h1 h2 h3 h4 h5 h6, fun h1 h2 => slackWaterBegin_completes hn h1 h2,
    fun h => slackWaterEnd_completes hn h, fun k high hedge => ?_⟩
  refine (trigInEdge_completes hn k high hedge).imp fun e h => ?_
  obtain ⟨hlevel, htakes, hstays⟩ := h
  refine ⟨hlevel, fun n hen hsrc hsel _ => htakes n hen ?_, hstays⟩
  simp only [Device.takesEdge, hsrc, decide_true, Bool.true_and, Bool.or_eq_true, decide_eq_true_eq]
  refine hsel.imp_right fun h => ?_
  cases high <;> simpa using h

end Sys2Proof.Machine


namespace Sys2Proof.Machine

/-! ### A FENCE of priority 7 (R126, R136, R138) -/

/-- A FENCE descriptor with PRIO 7 and DRAIN = 1. -/
def urgentFence : List Byte := [0x18, 7, 0, 0, 1] ++ List.replicate 27 0

/-- A device that has started up, its SESSION_0 in IDLE with that FENCE at CHEAD of its command ring and one message slot in use. -/
def fenceDevice : Device :=
  (((({ isl := Vector.replicate 5 { held := false }, rst := { full := false, step := .done, rstoutHigh := true, sLockedOnce := true },
        sram := writeBytes zeroByte [] 0x0200000 urgentFence } : Device).wr clkGood 0x1F).put (fPsState 0x80) 2).wr (ringCtail 0) 1).wr
    (ringMtail 0) 1

/-- That device once it has taken the FENCE, before it settles. -/
def fencedDevice : Device := takeOp 0x18 0 { corrected := 0, lost := 0 } fenceDevice

/-- The descriptor that the session keeps is marked urgent. -/
theorem fencedDevice_urgent : (fencedDevice.sess 0).fence.map (fun f => f.1.urgent) = some true := by decide +kernel

theorem fencedDevice_noRemote : fencedDevice.NoRemote := by decide +kernel

/-- Refutes O23: a FENCE of PRIO 7 is urgent from its taking (R136), so the descriptor that the session keeps until MHEAD reaches the MTAIL found is
not the one at CHEAD, which carries no such mark. -/
theorem not_descriptorsAreTakenAndAct : ¬ Obligations.DescriptorsAreTakenAndAct := by
  intro h
  have hn : fenceDevice.NoRemote := by decide +kernel
  obtain ⟨-, hact, -⟩ := h { dev := fenceDevice, pending := [] } hn
  obtain ⟨-, -, hdrain, -⟩ := hact 0 { corrected := 0, lost := 0 } (fenceDevice.headDesc 0) (by decide +kernel) rfl rfl (by decide +kernel) rfl
    (by decide +kernel) (by decide +kernel)
  obtain ⟨t, ht, -, -, hfence, -⟩ := hdrain (by decide +kernel) (by decide +kernel) (by decide +kernel)
  have hexec : exec (.fence 0 { corrected := 0, lost := 0 }) { dev := fenceDevice, pending := [] }
      = .next { dev := fencedDevice.settle, pending := [] } := rfl
  rw [hexec, Host.Outcome.next.injEq] at ht
  have hfenced : (fencedDevice.settle.sess 0).fence = some (fenceDevice.headDesc 0, fenceDevice.index (ringMtail 0)) := by
    subst ht
    exact hfence
  rw [Device.sess, settle_ses _ fencedDevice_noRemote] at hfenced
  have hkept := fencedDevice_urgent
  rw [Device.sess, hfenced] at hkept
  exact absurd hkept (by decide)

end Sys2Proof.Machine


namespace Sys2Proof.Machine

/-! ### Bytes of a memory -/

theorem storeGet_writeBytes {dflt : Nat → Byte} (m : List (Nat × Byte)) (a : Nat) (bs : List Byte) (b : Nat) :
    storeGet dflt (writeBytes dflt m a bs) b = if a ≤ b ∧ b < a + bs.length then bs.getD (b - a) 0 else storeGet dflt m b := by
  induction bs generalizing m a with
  | nil => simp [writeBytes, show ¬ (a ≤ b ∧ b < a) by omega]
  | cons x t ih =>
    rw [writeBytes, ih, storeGet_put]
    rcases lt_trichotomy b a with h | rfl | h
    · rw [if_neg (by omega), if_neg (by omega), if_neg (by omega)]
    · simp
    · obtain ⟨c, rfl⟩ : ∃ c, b = a + 1 + c := ⟨b - (a + 1), by omega⟩
      have hsub : a + 1 + c - a = c + 1 := by omega
      simp only [List.length_cons, hsub, List.getD_cons_succ, Nat.add_sub_cancel_left]
      by_cases hc : c < t.length
      · rw [if_pos (by omega), if_pos (by omega)]
      · rw [if_neg (by omega), if_neg (by omega), if_neg (by omega)]

theorem length_readBytes (dflt : Nat → Byte) (m : List (Nat × Byte)) (a n : Nat) : (readBytes dflt m a n).length = n := by
  induction n generalizing a with
  | zero => rfl
  | succ n ih => simp [readBytes, ih]

theorem getD_readBytes (dflt : Nat → Byte) (m : List (Nat × Byte)) (a n k : Nat) (hk : k < n) :
    (readBytes dflt m a n).getD k 0 = storeGet dflt m (a + k) := by
  induction n generalizing a k with
  | zero => omega
  | succ n ih =>
    cases k with
    | zero => simp [readBytes]
    | succ k =>
      rw [readBytes, List.getD_cons_succ, ih _ _ (by omega)]
      congr 1
      omega

/-- Bytes read alike where every one of them reads alike. -/
theorem readBytes_congr {dflt : Nat → Byte} {m m' : List (Nat × Byte)} {a n : Nat}
    (h : ∀ k, k < n → storeGet dflt m (a + k) = storeGet dflt m' (a + k)) : readBytes dflt m a n = readBytes dflt m' a n := by
  induction n generalizing a with
  | zero => rfl
  | succ n ih =>
    rw [readBytes, readBytes, show storeGet dflt m a = storeGet dflt m' a from h 0 (by omega),
      ih (fun k hk => by rw [Nat.add_assoc, Nat.add_comm 1]; exact h (k + 1) (by omega))]

/-! ### The frame that the bits settling keeps up to date are left out of -/

/-- From `d` to `e` no bit of a register word changes but those of the words of `l` and those that settling keeps up to date. -/
def Device.KeepsBits (l : List Nat) (d e : Device) : Prop :=
  ∀ a i, a ∉ l → ¬ SettleBit a i → (e.rd a).getLsbD i = (d.rd a).getLsbD i

theorem Device.KeepsBits.of_rd {l : List Nat} {d e : Device} (h : ∀ a, a ∉ l → e.rd a = d.rd a) : Device.KeepsBits l d e :=
  fun a _ ha _ => by rw [h a ha]

theorem Device.KeepsBits.refl (l : List Nat) (d : Device) : Device.KeepsBits l d d := .of_rd (fun _ _ => rfl)

theorem Device.KeepsBits.trans {l : List Nat} {d e f : Device} (h : Device.KeepsBits l d e) (g : Device.KeepsBits l e f) :
    Device.KeepsBits l d f := fun a i ha hi => (g a i ha hi).trans (h a i ha hi)

theorem Device.KeepsBits.mono {l k : List Nat} {d e : Device} (h : Device.KeepsBits l d e) (hl : ∀ a, a ∈ l → a ∈ k) :
    Device.KeepsBits k d e := fun a i ha => h a i (fun hm => ha (hl a hm))

theorem Device.KeepsBits.of_settled {d e : Device} (h : Settled d e) (l : List Nat) : Device.KeepsBits l d e := fun a i _ => h.bit a i

theorem Device.keepsBits_wr {l : List Nat} (d : Device) (a : Nat) (v : Word) (ha : a ∈ l) : Device.KeepsBits l d (d.wr a v) :=
  .of_rd (fun b hb => by
    have hne : b ≠ a := fun h => hb (h ▸ ha)
    rw [Device.rd_wr, if_neg hne])

theorem Device.keepsBits_put {l : List Nat} (d : Device) (f : Fld) (v : Nat) (hf : f.reg ∈ l) : Device.KeepsBits l d (d.put f v) :=
  d.keepsBits_wr _ _ hf

theorem Device.keepsBits_irq {l : List Nat} (d : Device) (p b : Nat) (hp : irqStat p ∈ l) : Device.KeepsBits l d (d.irq p b) :=
  .of_rd (fun _ ha => d.rd_irq_ne p b _ (fun h => ha (h ▸ hp)))

/-- Two words whose bits outside settling's reach agree read alike in every field that is out of that reach. -/
theorem get_of_bits {d e : Device} {f : Fld} (hf : f.settles = true)
    (h : ∀ i, ¬ SettleBit f.reg i → (e.rd f.reg).getLsbD i = (d.rd f.reg).getLsbD i) : e.get f = d.get f := by
  apply Nat.eq_of_testBit_eq
  intro j
  rw [Device.get, Device.get, testBit_bitsOf, testBit_bitsOf]
  by_cases hj : j < f.hi + 1 - f.lo
  · have hb : ¬ SettleBit f.reg (f.lo + j) := by
      rintro ⟨g, hg, hr, hlo, hhi⟩
      simp only [Fld.settles, List.all_eq_true, Bool.or_eq_true, bne_iff_ne, ne_eq, decide_eq_true_eq] at hf
      rcases hf g hg with (h1 | h1) | h1
      · exact h1 hr
      · omega
      · omega
    rw [h _ hb]
  · simp [hj]

/-- The frame after settling, from the frame before it. -/
theorem Device.KeepsBits.onlyFields {l : List Nat} {d e : Device} (h : Device.KeepsBits l d e) (hn : e.NoRemote) :
    Device.OnlyFields l d e.settle := fun f hf hl => by
  rw [settle_get e hn f hf]
  exact get_of_bits hf (fun i hi => h f.reg i hl hi)

/-! ### Message slots (R122, R125) -/

theorem mDepth_dvd (d : Device) (n : Nat) : d.mDepth n ∣ 65536 := by
  have h : d.get (fRingCfgMdepth n) < 2 ^ 4 := bitsOf_lt _ _ _
  exact Nat.pow_dvd_pow 2 (show _ ≤ 16 by omega)

theorem mDepth_pos (d : Device) (n : Nat) : 0 < d.mDepth n := Nat.two_pow_pos _

theorem mFree_le (d : Device) (n : Nat) : d.mFree n ≤ d.mDepth n := Nat.sub_le _ _

/-- A slot's address wraps with the ring, so an index may be reduced to its 16 bits first. -/
theorem mSlotAddr_mod (d : Device) (n i j : Nat) : d.mSlotAddr n (i % 65536 + j) = d.mSlotAddr n (i + j) := by
  unfold Device.mSlotAddr
  rw [Nat.add_mod (i % 65536), Nat.mod_mod_of_dvd _ (mDepth_dvd d n), ← Nat.add_mod]

/-- Slot addresses depend on the ring's base and depth alone. -/
theorem mSlotAddr_congr {d e : Device} {n : Nat} (hb : e.rd (ringMbase n) = d.rd (ringMbase n)) (hc : e.rd (ringCfg n) = d.rd (ringCfg n))
    (i : Nat) : e.mSlotAddr n i = d.mSlotAddr n i := by
  simp only [Device.mSlotAddr, Device.mDepth, Device.get, fRingCfgMdepth, hb, hc]

theorem inSlots_congr {d e : Device} {n : Nat} (hb : e.rd (ringMbase n) = d.rd (ringMbase n)) (hc : e.rd (ringCfg n) = d.rd (ringCfg n))
    (i k b : Nat) : e.inSlots n i k b = d.inSlots n i k b := by
  simp only [Device.inSlots, mSlotAddr_congr hb hc]

theorem inSlots_iff (d : Device) (n i k b : Nat) :
    d.inSlots n i k b = true ↔ ∃ j, j < k ∧ d.mSlotAddr n (i + j) ≤ b ∧ b < d.mSlotAddr n (i + j) + 64 := by
  simp [Device.inSlots]

theorem inSlots_false_iff (d : Device) (n i k b : Nat) :
    d.inSlots n i k b = false ↔ ∀ j, j < k → ¬ (d.mSlotAddr n (i + j) ≤ b ∧ b < d.mSlotAddr n (i + j) + 64) := by
  rw [← Bool.not_eq_true, inSlots_iff]
  simp only [not_exists, not_and]

theorem inSlots_mono {d : Device} {n i k k' b : Nat} (h : d.inSlots n i k b = false) (hk : k' ≤ k) : d.inSlots n i k' b = false := by
  rw [inSlots_false_iff] at h ⊢
  exact fun j hj => h j (by omega)

/-- Two slots of one lap of a ring do not overlap. -/
theorem mSlotAddr_apart (d : Device) (n i : Nat) {j k c : Nat} (hj : j < d.mDepth n) (hk : k < d.mDepth n) (hne : j ≠ k) (hc : c < 64) :
    ¬ (d.mSlotAddr n (i + k) ≤ d.mSlotAddr n (i + j) + c ∧ d.mSlotAddr n (i + j) + c < d.mSlotAddr n (i + k) + 64) := by
  have hmod : (i + j) % d.mDepth n ≠ (i + k) % d.mDepth n := by
    intro h
    have h' : j % d.mDepth n = k % d.mDepth n := Nat.ModEq.add_left_cancel' i h
    rw [Nat.mod_eq_of_lt hj, Nat.mod_eq_of_lt hk] at h'
    exact hne h'
  unfold Device.mSlotAddr
  omega

/-- The words of a ring pair are out of settling's reach. -/
theorem ringWord_settle {d : Device} (hd : d.NoRemote) {a : Nat} (hpage : a / 1024 = 0x19) (hoff : 0x40 ≤ a % 1024) : d.settle.rd a = d.rd a :=
  settle_rd d hd a (fun g hg hr =>
    (by decide : ∀ g ∈ settleFields, ¬ (g.reg / 1024 = 0x19 ∧ 0x40 ≤ g.reg % 1024)) g hg (by rw [hr]; exact ⟨hpage, hoff⟩))

theorem index_settle {d : Device} (hd : d.NoRemote) {n : Nat} (hn : n < 16) : d.settle.index (ringMtail n) = d.index (ringMtail n) := by
  rw [Device.index, ringWord_settle hd (by rw [ringMtail]; omega) (by rw [ringMtail]; omega), Device.index]

theorem rd_putSlots (d : Device) (n i k : Nat) (bs : List Byte) (a : Nat) : (d.putSlots n i k bs).rd a = d.rd a :=
  (posts_putSlots [] n d i k bs).regs a (by simp)

/-- The ring's memory after the first slot of a message. -/
def Device.putSlot (d : Device) (n i : Nat) (bs : List Byte) : Device :=
  { d with
    sram := writeBytes zeroByte d.sram (d.mSlotAddr n i) (bs.take 64)
    rep := { d.rep with bad := d.rep.bad.filter (fun b => b < d.mSlotAddr n i || d.mSlotAddr n i + 64 ≤ b) } }

theorem putSlots_succ (d : Device) (n i k : Nat) (bs : List Byte) :
    d.putSlots n i (k + 1) bs = (d.putSlot n i bs).putSlots n (i + 1) k (bs.drop 64) := rfl

theorem mSlotAddr_putSlot (d : Device) (n i : Nat) (bs : List Byte) (j : Nat) : (d.putSlot n i bs).mSlotAddr n j = d.mSlotAddr n j := rfl

/-- No byte outside a message's slots changes as it is written. -/
theorem storeGet_putSlots_outside (d : Device) (n i k : Nat) (bs : List Byte) {b : Nat} (h : d.inSlots n i k b = false) :
    storeGet zeroByte (d.putSlots n i k bs).sram b = storeGet zeroByte d.sram b := by
  induction k generalizing d i bs with
  | zero => rfl
  | succ k ih =>
    rw [inSlots_false_iff] at h
    have hrest : (d.putSlot n i bs).inSlots n (i + 1) k b = false := by
      rw [inSlots_false_iff]
      intro j hj
      rw [mSlotAddr_putSlot, Nat.add_assoc, Nat.add_comm 1]
      exact h (j + 1) (by omega)
    have hfirst := h 0 (by omega)
    have htake : (bs.take 64).length ≤ 64 := List.length_take_le _ _
    rw [putSlots_succ, ih _ _ _ hrest, Device.putSlot, storeGet_writeBytes, if_neg]
    rw [Nat.add_zero] at hfirst
    omega

/-- A message's bytes lie in its slots, 64 a slot. -/
theorem storeGet_putSlots (d : Device) (n i k : Nat) (bs : List Byte) (hl : bs.length = 64 * k) (hk : k ≤ d.mDepth n) {j c : Nat}
    (hj : j < k) (hc : c < 64) : storeGet zeroByte (d.putSlots n i k bs).sram (d.mSlotAddr n (i + j) + c) = bs.getD (64 * j + c) 0 := by
  induction k generalizing d i bs j with
  | zero => omega
  | succ k ih =>
    rw [putSlots_succ]
    cases j with
    | zero =>
      have hout : (d.putSlot n i bs).inSlots n (i + 1) k (d.mSlotAddr n i + c) = false := by
        rw [inSlots_false_iff]
        intro j hj
        rw [mSlotAddr_putSlot, Nat.add_assoc, Nat.add_comm 1]
        exact mSlotAddr_apart d n i (j := 0) (by omega) (by omega) (by omega) hc
      have htake : (bs.take 64).length = 64 := by rw [List.length_take]; omega
      rw [Nat.add_zero i, storeGet_putSlots_outside _ _ _ _ _ hout, Device.putSlot, storeGet_writeBytes, if_pos (by omega)]
      simp [List.getD_eq_getElem?_getD, hc]
    | succ j =>
      have hih := ih (d.putSlot n i bs) (i + 1) (bs.drop 64) (by rw [List.length_drop]; omega)
        (show k ≤ d.mDepth n by omega) (j := j) (by omega)
      rw [mSlotAddr_putSlot, Nat.add_assoc, Nat.add_comm 1 j] at hih
      rw [hih]
      simp only [List.getD_eq_getElem?_getD, List.getElem?_drop]
      congr 2
      omega

/-! ### Writing a message (R125, R129) -/

theorem settled_ringLevel (d : Device) {n : Nat} (hn : n < 16) : Settled d (d.ringLevel n) :=
  (Settled.refl d).irqLevel 0x19 n _ ((by decide +kernel : ∀ n < 16, settleCovers ⟨irqStat 0x19, n, n⟩ = true) n hn)
    ((by decide +kernel : ∀ n < 16, settleCovers ⟨irqRaw 0x19, n, n⟩ = true) n hn)

/-- The ring's memory with a message in it and MTAIL past it. -/
def Device.withMsg (d : Device) (n : Nat) (msg : List Byte) : Device :=
  (d.putSlots n (d.index (ringMtail n)) (msg.length / 64) msg).wr (ringMtail n)
    (BitVec.ofNat 32 ((d.index (ringMtail n) + msg.length / 64) % 65536))

/-- What follows a message's slots is the ring's interrupt alone. -/
theorem settled_writeMsg (d : Device) {n : Nat} (hn : n < 16) (msg : List Byte) : Settled (d.withMsg n msg) (d.writeMsg n msg) :=
  (settled_ringLevel (d.withMsg n msg) hn).when _ (fun d => d.irq 0x19 n) (fun x => (Settled.refl x).irq 0x19 n
    ((by decide +kernel : ∀ n < 16, settleCovers ⟨irqStat 0x19, n, n⟩ = true) n hn))

section
variable (d : Device) {n : Nat} (hn : n < 16) (msg : List Byte)
include hn

theorem keepsBits_writeMsg : Device.KeepsBits [ringMtail n] d (d.writeMsg n msg) :=
  Device.KeepsBits.trans (.of_rd (fun a ha => by
    rw [Device.withMsg, Device.rd_wr, if_neg (by simpa using ha), rd_putSlots])) (.of_settled (settled_writeMsg d hn msg) _)

theorem sram_writeMsg : (d.writeMsg n msg).sram = (d.putSlots n (d.index (ringMtail n)) (msg.length / 64) msg).sram := by
  rw [(settled_writeMsg d hn msg).same]
  rfl

omit hn in
theorem rd_writeMsg {a : Nat} (ha : a ∉ msgRegs n) : (d.writeMsg n msg).rd a = d.rd a := (posts_writeMsg n d msg).regs a ha

theorem index_writeMsg : (d.writeMsg n msg).index (ringMtail n) = (d.index (ringMtail n) + msg.length / 64) % 65536 := by
  have hsettle : ∀ i, ¬ SettleBit (ringMtail n) i := fun i ⟨g, hg, hr, _⟩ => by
    have hoff : g.reg / 1024 = 0x19 ∧ 0x40 ≤ g.reg % 1024 := by rw [hr, ringMtail]; omega
    exact (by decide : ∀ g ∈ settleFields, ¬ (g.reg / 1024 = 0x19 ∧ 0x40 ≤ g.reg % 1024)) g hg hoff
  have htail : (d.writeMsg n msg).rd (ringMtail n) = (d.withMsg n msg).rd (ringMtail n) :=
    BitVec.eq_of_getLsbD_eq (fun i _ => (settled_writeMsg d hn msg).bit _ i (hsettle i))
  rw [Device.index, htail, Device.withMsg, Device.rd_wr, if_pos rfl, BitVec.toNat_ofNat]
  omega

theorem ringCfg_writeMsg : (d.writeMsg n msg).rd (ringCfg n) = d.rd (ringCfg n) := by
  refine rd_writeMsg d msg ?_
  simp only [msgRegs, List.mem_cons, List.not_mem_nil, or_false, not_or, ringCfg, ringMtail, irqRaw, irqStat, wordAt]
  omega

theorem ringMbase_writeMsg : (d.writeMsg n msg).rd (ringMbase n) = d.rd (ringMbase n) := by
  refine rd_writeMsg d msg ?_
  simp only [msgRegs, List.mem_cons, List.not_mem_nil, or_false, not_or, ringMbase, ringMtail, irqRaw, irqStat, wordAt]
  omega

/-- No byte outside a message's slots changes (R125). -/
theorem sramOutside_writeMsg {k : Nat} (hk : msg.length = 64 * k) :
    Device.SramOutside (d.inSlots n (d.index (ringMtail n)) k) d (d.writeMsg n msg) := fun b hb => by
  rw [sram_writeMsg d hn msg]
  exact storeGet_putSlots_outside d n _ _ _ (by rwa [show msg.length / 64 = k by omega])

/-- The slots of a message that fits hold it (R125). -/
theorem storeGet_writeMsg {k : Nat} (hk : msg.length = 64 * k) (hfree : k ≤ d.mFree n) {c : Nat} (hc : c < 64 * k) :
    storeGet zeroByte (d.writeMsg n msg).sram (d.mSlotAddr n (d.index (ringMtail n) + c / 64) + c % 64) = msg.getD c 0 := by
  have hlen : msg.length / 64 = k := by omega
  rw [sram_writeMsg d hn msg, hlen,
    storeGet_putSlots d n _ k msg hk (hfree.trans (mFree_le d n)) (by omega) (Nat.mod_lt _ (by decide)), Nat.div_add_mod]

end

end Sys2Proof.Machine


namespace Sys2Proof.Machine

/-! ### Waiting messages (R125, R147) -/

/-- A session with its first waiting message gone. -/
def SesSt.sent (rest : List (List Byte)) (s : SesSt) : SesSt := { s with waiting := rest }

/-- A session that asks for the ordinary eight free slots again. -/
def SesSt.eased (s : SesSt) : SesSt := { s with need := 8 }

theorem release_nil {d : Device} {n : Nat} (h : (d.sess n).waiting = []) (k : Nat) : d.release n k = d := by
  cases k with
  | zero => rfl
  | succ k => rw [Device.release, h]

theorem release_one {d : Device} {n : Nat} {m : List Byte} {rest : List (List Byte)} (h : (d.sess n).waiting = m :: rest)
    (hfits : m.length / 64 ≤ d.mFree n) : d.release n 1 = (d.modSes n (SesSt.sent rest)).writeMsg n m := by
  rw [Device.release, h]
  dsimp only
  rw [if_pos hfits, Device.release]
  rfl

theorem release_blocked {d : Device} {n : Nat} {m : List Byte} {rest : List (List Byte)} (h : (d.sess n).waiting = m :: rest)
    (hfull : d.mFree n < m.length / 64) (k : Nat) : d.release n k = d := by
  cases k with
  | zero => rfl
  | succ k =>
    rw [Device.release, h]
    dsimp only
    rw [if_neg (by omega)]

theorem spaceCheck_waits {d : Device} {n : Nat} (h : (d.sess n).waiting ≠ []) : d.spaceCheck n = d := by
  rw [Device.spaceCheck, if_neg]
  simp [h]

theorem spaceCheck_ends {d : Device} {n : Nat} (h : (d.sess n).waiting = []) (hneed : (d.sess n).need ≤ d.mFree n) :
    d.spaceCheck n = (d.holdEnd n 3).modSes n SesSt.eased := by
  rw [Device.spaceCheck, if_pos]
  · rfl
  · simp [h, hneed]

/-- A hold that ends changes STAT.HOLD_WHY and no other word. -/
theorem rd_holdEnd (d : Device) (n why : Nat) {a : Nat} (ha : a ≠ sesStat n) : (d.holdEnd n why).rd a = d.rd a := by
  rw [Device.holdEnd, Device.showHold, Device.rd_put_ne _ _ _ _ ha, Device.rd_modSes]

theorem rd_spaceCheck (d : Device) (n : Nat) {a : Nat} (ha : a ≠ sesStat n) : (d.spaceCheck n).rd a = d.rd a := by
  unfold Device.spaceCheck
  split
  · rw [Device.rd_modSes, rd_holdEnd d n 3 ha]
  · rfl

theorem sram_spaceCheck (d : Device) (n : Nat) : (d.spaceCheck n).sram = d.sram := by
  unfold Device.spaceCheck
  split <;> rfl

theorem waiting_spaceCheck (d : Device) (n : Nat) (hn : n < 16) : ((d.spaceCheck n).sess n).waiting = (d.sess n).waiting := by
  unfold Device.spaceCheck
  split
  · rw [Device.sess_modSes_self _ _ _ hn]
    simp only [Device.holdEnd, Device.showHold, Device.sess_put, Device.sess_modSes_self _ _ _ hn]
  · rfl

/-- What a message's transfer from the waiting ones to the ring shows: the next one waits, MTAIL is past it, its slots hold it, and beside them only STAT of the session may move (R125, R147). -/
structure Device.Delivered (n : Nat) (m : List Byte) (rest : List (List Byte)) (k : Nat) (d e : Device) : Prop where
  waiting : (e.sess n).waiting = rest
  tail : e.index (ringMtail n) = (d.index (ringMtail n) + k) % 65536
  held : e.holdsMsg n (d.index (ringMtail n)) m
  fields : Device.OnlyFields [ringMtail n, sesStat n] d e
  bytes : Device.SramOutside (fun b => d.inSlots n (d.index (ringMtail n)) k b) d e

section
variable {s : State} (hn : s.dev.NoRemote) (n : Fin 16) {m : List Byte} {rest : List (List Byte)} {k : Nat}
  (hw : (s.dev.sess n.val).waiting = m :: rest) (hlen : m.length = 64 * k) (hfree : k ≤ s.dev.mFree n.val)
include hn hw hlen hfree

/-- A waiting message that fits is delivered. -/
theorem release_spaceCheck_delivers : Device.Delivered n.val m rest k s.dev ((s.dev.release n.val 1).spaceCheck n.val).settle := by
  have hlt := n.isLt
  have hn' : ((s.dev.release n.val 1).spaceCheck n.val).NoRemote :=
    Device.spaceCheck_closed noRemote_closed (Device.release_closed noRemote_closed hn)
  have hk : m.length / 64 = k := by omega
  have heq := release_one hw (hk.symm ▸ hfree)
  rw [heq] at hn' ⊢
  have hkeeps : Device.KeepsBits [ringMtail n.val, sesStat n.val] s.dev
      (((s.dev.modSes n.val (SesSt.sent rest)).writeMsg n.val m).spaceCheck n.val) :=
    ((keepsBits_writeMsg (s.dev.modSes n.val (SesSt.sent rest)) hlt m).mono (by simp)).trans
      (.of_rd (fun a ha => rd_spaceCheck _ _ (by simp at ha; exact ha.2)))
  have hring : ∀ a, a / 1024 = 0x19 →
      (((s.dev.modSes n.val (SesSt.sent rest)).writeMsg n.val m).spaceCheck n.val).rd a
        = ((s.dev.modSes n.val (SesSt.sent rest)).writeMsg n.val m).rd a :=
    fun a ha => rd_spaceCheck _ _ (by simp only [sesStat]; omega)
  have hslot : ∀ i, (((s.dev.modSes n.val (SesSt.sent rest)).writeMsg n.val m).spaceCheck n.val).settle.mSlotAddr n.val i
      = s.dev.mSlotAddr n.val i := by
    refine mSlotAddr_congr ?_ ?_
    · rw [ringWord_settle hn' (by rw [ringMbase]; omega) (by rw [ringMbase]; omega), hring _ (by rw [ringMbase]; omega)]
      exact ringMbase_writeMsg _ hlt m
    · rw [ringWord_settle hn' (by rw [ringCfg]; omega) (by rw [ringCfg]; omega), hring _ (by rw [ringCfg]; omega)]
      exact ringCfg_writeMsg _ hlt m
  refine ⟨?_, ?_, ?_, hkeeps.onlyFields hn', ?_⟩
  · rw [Device.sess_settle _ hn', waiting_spaceCheck _ _ hlt, Device.sess_writeMsg, Device.sess_modSes_self _ _ _ hlt]
    rfl
  · rw [index_settle hn' hlt, Device.index, hring _ (by rw [ringMtail]; omega)]
    exact (index_writeMsg _ hlt m).trans (by rw [hk]; rfl)
  · intro c hc
    rw [hslot, settle_sram _ hn', sram_spaceCheck]
    exact storeGet_writeMsg (s.dev.modSes n.val (SesSt.sent rest)) hlt m hlen hfree (by omega)
  · intro b hb
    rw [settle_sram _ hn', sram_spaceCheck]
    exact sramOutside_writeMsg (s.dev.modSes n.val (SesSt.sent rest)) hlt m hlen b hb

/-- While a message still waits, the holds stand as they were. -/
theorem release_spaceCheck_holds (hrest : rest ≠ []) :
    (((s.dev.release n.val 1).spaceCheck n.val).settle.sess n.val).holds = (s.dev.sess n.val).holds := by
  have hn' : ((s.dev.release n.val 1).spaceCheck n.val).NoRemote :=
    Device.spaceCheck_closed noRemote_closed (Device.release_closed noRemote_closed hn)
  have heq := release_one hw (show m.length / 64 ≤ s.dev.mFree n.val by omega)
  have hsess : ((s.dev.release n.val 1).sess n.val) = (s.dev.sess n.val).sent rest := by
    rw [heq, Device.sess_writeMsg, Device.sess_modSes_self _ _ _ n.isLt]
  have hwaits : ((s.dev.release n.val 1).sess n.val).waiting ≠ [] := by
    rw [hsess]
    exact hrest
  rw [Device.sess_settle _ hn', spaceCheck_waits hwaits, hsess]
  rfl

end

/-- The ring-space hold that ends: nothing waits and the slots asked for are free (R147, R149). -/
structure Device.SpaceThere (n : Nat) (d e : Device) : Prop where
  holds : (e.sess n).holds = (d.sess n).holds.filter (· != 3)
  need : (e.sess n).need = 8
  why : e.sesState n = 8 → e.get (fSesStatHoldWhy n) = (e.sess n).holds.headD 0 % 8
  regs : Device.OnlyRegs [sesStat n] d e

theorem spaceCheck_spaceThere {d : Device} (hd : d.NoRemote) {n : Nat} (hlt : n < 16) (hw : (d.sess n).waiting = [])
    (hneed : (d.sess n).need ≤ d.mFree n) : Device.SpaceThere n d (d.spaceCheck n).settle := by
  have hn' : (d.spaceCheck n).NoRemote := Device.spaceCheck_closed noRemote_closed hd
  have hsess : (d.spaceCheck n).sess n = ((d.holdEnd n 3).sess n).eased := by
    rw [spaceCheck_ends hw hneed, Device.sess_modSes_self _ _ _ hlt]
  have hholds : ((d.spaceCheck n).sess n).holds = (d.sess n).holds.filter (· != 3) := by
    rw [hsess]
    exact (holdEnd_holds hlt 3 n).trans (if_pos rfl)
  refine ⟨?_, ?_, ?_, ?_⟩
  · rw [Device.sess_settle _ hn', hholds]
  · rw [Device.sess_settle _ hn', hsess]
    rfl
  · intro hst
    have hne : (fPsState (0x80 + n)).reg ≠ sesStat n := by simp only [fPsState, pageStat, sesStat, wordAt]; omega
    rw [sesState_settle hn', Device.sesState, Device.get, rd_spaceCheck d n hne] at hst
    rw [get_pilotPage_settle hn' (by simp only [fSesStatHoldWhy, sesStat]; omega), Device.sess_settle _ hn', hholds, spaceCheck_ends hw hneed,
      Device.get_modSes, Device.holdEnd, Device.showHold, Device.get_put_same _ _ _ (by simp [fSesStatHoldWhy]) (by simp [fSesStatHoldWhy]),
      if_pos (show (d.modSes n _).sesState n = 8 from hst), Device.sess_modSes_self _ _ _ hlt]
    rfl
  · refine onlyRegs_settle hn' (fun a ha => rd_spaceCheck d n (by simpa using ha)) (sram_spaceCheck d n) ?_
    rw [spaceCheck_ends hw hneed]
    rfl

section
variable {s : State} (hn : s.dev.NoRemote) (n : Fin 16)
include hn

theorem messageWrite_delivers (m : List Byte) (rest : List (List Byte)) (k : Nat) (hw : (s.dev.sess n.val).waiting = m :: rest)
    (hlen : m.length = 64 * k) (hfree : k ≤ s.dev.mFree n.val) :
    Completes (.messageWrite n) s (fun e => Device.Delivered n.val m rest k s.dev e ∧ (rest ≠ [] → (e.sess n.val).holds = (s.dev.sess n.val).holds)) :=
  completes_act (fun d => (d.release n.val 1).spaceCheck n.val) rfl
    ⟨release_spaceCheck_delivers hn n hw hlen hfree, release_spaceCheck_holds hn n hw hlen hfree⟩

omit hn in
/-- A message too long for the free slots goes on waiting. -/
theorem messageWrite_waits (m : List Byte) (rest : List (List Byte)) (hw : (s.dev.sess n.val).waiting = m :: rest)
    (hfull : s.dev.mFree n.val < m.length / 64) : exec (.messageWrite n) s = .next { s with dev := s.dev.settle } := by
  have hsame : (s.dev.release n.val 1).spaceCheck n.val = s.dev := by
    rw [release_blocked hw hfull, spaceCheck_waits (by simp [hw])]
  exact (act_next (fun d => (d.release n.val 1).spaceCheck n.val) s).trans (by rw [hsame])

theorem waitingMessageRelease_delivers (m : List Byte) (k : Nat) (hw : (s.dev.sess n.val).waiting = [m]) (hlen : m.length = 64 * k)
    (hfree : k ≤ s.dev.mFree n.val) : Completes (.waitingMessageRelease n) s (Device.Delivered n.val m [] k s.dev) := by
  refine completes_act (waitingRelease n.val) rfl ?_
  have heq : waitingRelease n.val s.dev = (s.dev.release n.val 1).spaceCheck n.val := by
    rw [waitingRelease, Device.ringFreed, hw]
    rfl
  rw [heq]
  exact release_spaceCheck_delivers hn n hw hlen hfree

theorem ringSpace_completes (c : Instr) (hc : c = .messageWrite n ∨ c = .waitingMessageRelease n) (hw : (s.dev.sess n.val).waiting = [])
    (hneed : (s.dev.sess n.val).need ≤ s.dev.mFree n.val) : Completes c s (Device.SpaceThere n.val s.dev) := by
  have hthere := spaceCheck_spaceThere hn n.isLt hw hneed
  rcases hc with rfl | rfl
  · refine completes_act (fun d => (d.release n.val 1).spaceCheck n.val) rfl ?_
    rwa [release_nil hw]
  · refine completes_act (waitingRelease n.val) rfl ?_
    rwa [waitingRelease, Device.ringFreed, release_nil hw]

end

/-- Settles O22: a message that fits is delivered, one that does not goes on waiting, and the space asked for ends the hold. -/
theorem waitingMessagesEnterTheRing : Obligations.WaitingMessagesEnterTheRing := by
  intro s n hn
  refine ⟨fun m rest k hw hlen hfree => ?_, messageWrite_waits n, fun m k hw hlen hfree => ?_, fun c hc hw hneed => ?_⟩
  · exact (messageWrite_delivers hn n m rest k hw hlen hfree).imp (fun e h => ⟨h.1.waiting, h.1.tail, h.1.held, h.2, h.1.fields, h.1.bytes⟩)
  · exact (waitingMessageRelease_delivers hn n m k hw hlen hfree).imp (fun e h => ⟨h.waiting, h.tail, h.held, h.fields, h.bytes⟩)
  · exact (ringSpace_completes hn n c hc hw hneed).imp (fun e h => ⟨h.holds, h.need, h.why, h.regs⟩)

end Sys2Proof.Machine


namespace Sys2Proof.Machine

/-! ### A command word that the host writes (R7, R46) -/

/-- Does a register word keep nothing of what is written to it (R7)? -/
def storesNothing (a : Nat) : Bool := (regInfo (pageOfWord a) (offOfWord a)).all (fun r => decide (r.rw ||| r.rwl = 0) && decide (r.w1c = 0))

theorem Device.store_same (d : Device) (a : Nat) (v : Word) : d.store a v = { d with regs := (d.store a v).regs } := by
  unfold Device.store
  split <;> rfl

theorem Device.rd_store_nothing (d : Device) {a : Nat} (v : Word) (h : storesNothing a = true) (b : Nat) : (d.store a v).rd b = d.rd b := by
  unfold Device.store
  unfold storesNothing at h
  split
  · rfl
  · rename_i r hr
    rw [hr] at h
    simp only [Option.all_some, Bool.and_eq_true, decide_eq_true_eq] at h
    dsimp only
    rw [h.1, h.2, Device.rd_wr]
    split
    · rename_i hb
      subst hb
      have hall : ∀ w : Word, w &&& 4294967295#32 = w := fun w => BitVec.and_allOnes
      simp [hall]
    · rfl

/-- From `d` to `e` registers and mirror words alone may change, and the post queue is `p`. -/
def Device.BusOnly (p : List Posted) (d e : Device) : Prop := e = { d with regs := e.regs, mirror := e.mirror, post := p }

theorem Device.BusOnly.wr {p : List Posted} {d e : Device} (h : Device.BusOnly p d e) (a : Nat) (v : Word) : Device.BusOnly p d (e.wr a v) := by
  unfold Device.BusOnly at h ⊢
  rw [h]
  rfl

theorem Device.BusOnly.queue {p : List Posted} {d e : Device} (h : Device.BusOnly p d e) (q : List Posted) :
    Device.BusOnly q d { e with post := q } := by
  unfold Device.BusOnly at h ⊢
  rw [h]

theorem Device.BusOnly.showQueue {p : List Posted} {d e : Device} (h : Device.BusOnly p d e) : Device.BusOnly p d e.showQueue :=
  (h.wr _ _).wr _ _

theorem Device.busOnly_mirrorWritten (d : Device) (a : Nat) (v : Word) : Device.BusOnly d.post d (d.mirrorWritten a v) := by
  unfold Device.BusOnly Device.mirrorWritten
  dsimp only
  rw [Device.setMirror_same]

theorem Device.busOnly_arrived (d : Device) (a : Nat) (v : Word) (be : BitVec 4) : Device.BusOnly [] d (d.arrived a v be) :=
  (((((d.busOnly_mirrorWritten a v).queue _).showQueue).wr _ _).queue []).showQueue

/-- The device as a command word's write reaches its block. -/
def Device.commanded (d : Device) (a : Nat) (v : Word) (be : BitVec 4) : Device := (d.arrived a v be).store a v

section
variable (d : Device) (a : Nat) (v : Word) (be : BitVec 4)

/-- The write's way to its block moves the host bus's own words alone. -/
theorem Device.commanded_same :
    d.commanded a v be = { d with regs := (d.commanded a v be).regs, mirror := (d.commanded a v be).mirror, post := [] } := by
  have h := d.busOnly_arrived a v be
  unfold Device.BusOnly at h
  rw [Device.commanded, Device.store_same, h]

theorem Device.rd_commanded (h : storesNothing a = true) {b : Nat} (h1 : b ≠ hbusStat) (h2 : b ≠ pageStat (pageOfWord a)) :
    (d.commanded a v be).rd b = d.rd b := by
  rw [Device.commanded, Device.rd_store_nothing _ _ h, rd_arrived _ _ _ _ _ h1 h2]

theorem Device.when_idleRestart_same (e : Device) (c : Bool) :
    e.when c Device.idleRestart = { e with regs := (e.when c Device.idleRestart).regs } := by
  cases c <;> rfl

theorem Device.rd_when_idleRestart (e : Device) (c : Bool) {b : Nat} (hb : b ≠ secIdleLeft) : (e.when c Device.idleRestart).rd b = e.rd b := by
  cases c
  · rfl
  · exact (Device.rd_wr _ _ _ _).trans (if_neg hb)

variable {d a v be} {finds : KlGroupFinds} {e : Device} (he : (d.arrived a v be).writeEffect (d.posted a v be) finds = e)
include he

/-- After its effect a write only restarts the idle limit and sends its word to the mirror (R41, R522). -/
theorem rd_written {b : Nat} (hb : b ≠ secIdleLeft) : (d.written a v be finds).rd b = e.rd b := by
  rw [Device.written, he, Device.rd_sync, Device.rd_when_idleRestart _ _ hb]

theorem written_same : d.written a v be finds
    = { e with regs := (d.written a v be finds).regs, mirror := (d.written a v be finds).mirror, free := (d.written a v be finds).free,
               timers := (d.written a v be finds).timers } := by
  rw [Device.written, he, Device.sync_same, Device.when_idleRestart_same]

end

theorem noRemote_written {d : Device} {a : Nat} {v : Word} {be : BitVec 4} {finds : KlGroupFinds} (hd : d.NoRemote)
    (ha : d.applies a v be = true) : (d.written a v be finds).NoRemote :=
  ownWrite_applies _ _ _ _ finds ha ▸ Device.ownWrite_closed noRemote_closed hd

end Sys2Proof.Machine


namespace Sys2Proof.Machine

/-! ### Messages that go straight into the ring (R142, R144) -/

/-- A message fills its slots. -/
theorem length_message (d : Device) (type n cookie tide : Nat) (body : List Byte) :
    (d.message type n cookie tide body).length = 64 * ((16 + body.length + 63) / 64) := by
  have hle : 16 + body.length ≤ 64 * ((16 + body.length + 63) / 64) := by omega
  have h16 : ∀ i, (le16 i).length = 2 := fun _ => rfl
  have h8 : ∀ i, (leBytes 8 i).length = 8 := fun _ => rfl
  simp only [Device.message, padTo, List.length_append, List.length_replicate, List.length_cons, List.length_nil, h16, h8]
  omega

theorem emit_eq {d : Device} {n : Nat} {msg : List Byte} (hw : (d.sess n).waiting = []) (hfree : msg.length / 64 ≤ d.mFree n) :
    d.emit n msg = d.writeMsg n msg := by
  rw [Device.emit, if_pos]
  simp [hw, hfree]

/-- The message takes as many slots as its tag's EPC asks for (R144, R145). -/
theorem length_tagSeenMsg (d : Device) (g : Sighting) (idx : Option Nat) (new : Bool) :
    (d.tagSeenMsg g idx new).length = 64 * ((48 + g.epc.length + 63) / 64) := by
  have h16 : ∀ i, (le16 i).length = 2 := fun _ => rfl
  have hs16 : ∀ i, (leS16 i).length = 2 := fun _ => rfl
  have h4 : ∀ i, (leBytes 4 i).length = 4 := fun _ => rfl
  simp only [Device.tagSeenMsg, length_message, List.length_append, List.length_replicate, List.length_cons, List.length_nil, h16, hs16, h4]
  omega

/-! ### An entry of the manifest (R151, R156) -/

theorem length_entry (d : Device) (i : Nat) : (d.entry i).length = 64 := length_readBytes _ _ _ _

theorem getD_entry (d : Device) (i : Nat) {k : Nat} (hk : k < 64) : (d.entry i).getD k 0 = storeGet zeroByte d.sram (manAddr i + k) :=
  getD_readBytes _ _ _ _ _ hk

theorem entry_congr {d e : Device} {i : Nat}
    (h : ∀ k, k < 64 → storeGet zeroByte e.sram (manAddr i + k) = storeGet zeroByte d.sram (manAddr i + k)) : e.entry i = d.entry i :=
  readBytes_congr h

/-- Does byte address `b` lie in entry `i`? -/
def inEntry (i b : Nat) : Bool := decide (manAddr i ≤ b) && decide (b < manAddr i + 64)

theorem inEntry_false_iff (i b : Nat) : inEntry i b = false ↔ b < manAddr i ∨ manAddr i + 64 ≤ b := by
  simp only [inEntry, Bool.and_eq_false_iff, decide_eq_false_iff_not]
  omega

/-- A byte of an entry lies in no other. -/
theorem inEntry_other {i j k : Nat} (h : j ≠ i) (hk : k < 64) : inEntry j (manAddr i + k) = false := by
  rw [inEntry_false_iff, manAddr, manAddr]
  omega

/-- What an entry holds once it is stored: the bytes given, GEN one above what it was (R156). -/
theorem storeGet_putEntry (d : Device) (i : Nat) (bs : List Byte) (hl : bs.length = 64) {k : Nat} (hk : k < 64) :
    storeGet zeroByte (d.putEntry i bs).sram (manAddr i + k) = (bs.set 2 (storeGet zeroByte d.sram (manAddr i + 2) + 1)).getD k 0 := by
  rw [Device.putEntry, storeGet_writeBytes, if_pos (by rw [List.length_set]; omega), Nat.add_sub_cancel_left]

theorem storeGet_putEntry_outside (d : Device) (i : Nat) (bs : List Byte) (hl : bs.length = 64) {b : Nat} (h : inEntry i b = false) :
    storeGet zeroByte (d.putEntry i bs).sram b = storeGet zeroByte d.sram b := by
  rw [inEntry_false_iff] at h
  rw [Device.putEntry, storeGet_writeBytes, if_neg (by rw [List.length_set]; omega)]

/-- Storing an entry changes the manifest's bytes and nothing else. -/
theorem putEntry_same (d : Device) (i : Nat) (bs : List Byte) : d.putEntry i bs = { d with sram := (d.putEntry i bs).sram } := rfl

theorem rd_putEntry (d : Device) (i : Nat) (bs : List Byte) (a : Nat) : (d.putEntry i bs).rd a = d.rd a := by rw [putEntry_same]; rfl

theorem length_seenEntry (e : List Byte) (g : Sighting) (he : e.length = 64) : (seenEntry e g).length = 64 := by
  have h16 : ∀ i, (le16 i).length = 2 := fun _ => rfl
  have hs16 : ∀ i, (leS16 i).length = 2 := fun _ => rfl
  have h8 : ∀ i, (leBytes 8 i).length = 8 := fun _ => rfl
  cases hd : g.dir.isSome <;>
    simp [seenEntry, hd, h16, hs16, h8, he]

theorem length_newEntry (g : Sighting) : (newEntry g).length = 64 := by
  have h16 : ∀ i, (le16 i).length = 2 := fun _ => rfl
  have hs16 : ∀ i, (leS16 i).length = 2 := fun _ => rfl
  have h8 : ∀ i, (leBytes 8 i).length = 8 := fun _ => rfl
  simp only [newEntry, padTo, storedEpc, List.length_append, List.length_replicate, List.length_cons, List.length_nil, h16, hs16, h8,
    List.length_take]
  omega

/-! ### COUNT and its threshold (R159) -/

theorem settled_manLevel (d : Device) : Settled d d.manLevel :=
  (Settled.refl d).irqLevel 0x1A 0 _ (by decide) (by decide)

theorem rd_manLevel (d : Device) {a : Nat} (h : a ≠ irqStat 0x1A) (hr : a ≠ irqRaw 0x1A) : d.manLevel.rd a = d.rd a :=
  d.rd_irqLevel_ne _ _ _ _ h hr

theorem manCountTo_same (d : Device) (n : Nat) : d.manCountTo n = { d with regs := (d.manCountTo n).regs } := by
  unfold Device.manCountTo Device.manLevel Device.irqLevel Device.irq
  split
  · split <;> rfl
  · rfl

theorem keepsBits_manCountTo (d : Device) (n : Nat) : Device.KeepsBits [manCount] d (d.manCountTo n) :=
  (d.keepsBits_wr manCount _ (by simp)).trans (.of_settled (settled_manLevel _) _)

theorem rd_manCountTo (d : Device) (n : Nat) {a : Nat} (h : a ≠ irqStat 0x1A) (hr : a ≠ irqRaw 0x1A) :
    (d.manCountTo n).rd a = if a = manCount then BitVec.ofNat 32 n else d.rd a := by
  rw [Device.manCountTo, rd_manLevel _ h hr, Device.rd_wr]

/-! ### An entry that is removed (R154) -/

/-- From `d` to `e` entry `i` is cleared but for GEN, which increments (R154). -/
def Device.EntryCleared (i : Nat) (d e : Device) : Prop :=
  ∀ k, k < 64 → storeGet zeroByte e.sram (manAddr i + k) = if k = 2 then storeGet zeroByte d.sram (manAddr i + 2) + 1 else 0

theorem manRemove_valid {d : Device} {i : Nat} (h : entryValid (d.entry i) = true) :
    d.manRemove i = (d.putEntry i (List.replicate 64 0)).manCountTo ((d.rd manCount).toNat - 1) := by
  rw [Device.manRemove, if_pos h]

theorem manRemove_invalid {d : Device} {i : Nat} (h : entryValid (d.entry i) = false) : d.manRemove i = d := by
  rw [Device.manRemove, if_neg (by simp [h])]

theorem keepsBits_manRemove (d : Device) (i : Nat) : Device.KeepsBits [manCount] d (d.manRemove i) := by
  unfold Device.manRemove
  split
  · exact (Device.KeepsBits.of_rd (fun a _ => rd_putEntry d i _ a)).trans (keepsBits_manCountTo _ _)
  · exact .refl _ d

theorem sram_manRemove_valid {d : Device} {i : Nat} (h : entryValid (d.entry i) = true) :
    (d.manRemove i).sram = (d.putEntry i (List.replicate 64 0)).sram := by
  rw [manRemove_valid h, manCountTo_same]

theorem storeGet_manRemove_outside (d : Device) (i : Nat) {b : Nat} (h : inEntry i b = false) :
    storeGet zeroByte (d.manRemove i).sram b = storeGet zeroByte d.sram b := by
  by_cases hv : entryValid (d.entry i) = true
  · rw [sram_manRemove_valid hv, storeGet_putEntry_outside _ _ _ (List.length_replicate) h]
  · rw [manRemove_invalid (by simpa using hv)]

theorem manRemove_clears {d : Device} {i : Nat} (h : entryValid (d.entry i) = true) : Device.EntryCleared i d (d.manRemove i) := by
  intro k hk
  rw [sram_manRemove_valid h, storeGet_putEntry _ _ _ (List.length_replicate) hk]
  by_cases h2 : k = 2
  · subst h2
    simp [List.getD_eq_getElem?_getD]
  · rw [if_neg h2, List.getD_eq_getElem?_getD, List.getElem?_set_ne (by omega), List.getElem?_replicate, if_pos hk]
    rfl

theorem count_manRemove {d : Device} {i : Nat} (h : entryValid (d.entry i) = true) :
    ((d.manRemove i).rd manCount).toNat = (d.rd manCount).toNat - 1 := by
  rw [manRemove_valid h, rd_manCountTo _ _ (by decide) (by decide), if_pos rfl, BitVec.toNat_ofNat]
  exact Nat.mod_eq_of_lt (by have := (d.rd manCount).isLt; omega)

/-- An entry that is cleared is no longer valid. -/
theorem entryValid_cleared {d e : Device} {i : Nat} (h : Device.EntryCleared i d e) : entryValid (e.entry i) = false := by
  have h0 : (e.entry i).getD 0 0 = 0 := by rw [getD_entry e i (by decide), h 0 (by decide), if_neg (by decide)]
  rw [entryValid, entryByte, h0]
  rfl

end Sys2Proof.Machine


namespace Sys2Proof.Machine

/-! ### A sighting served (R145, R151 … R153) -/

/-- The queue served of its one sighting. -/
def Device.unqueued (d : Device) : Device := { d with man := { d.man with queue := [] } }

/-- The engine serves the one sighting that waits. -/
theorem manSighting_one {d : Device} {g : Sighting} (hc : d.man.clear = none) (hq : d.man.queue = [.inl g])
    (hman : (d.unqueued.manServe g).man.queue = []) : manSighting d = d.unqueued.manServe g := by
  have h : manSighting d = (d.unqueued.manServe g).manFlush (d.unqueued.manServe g).man.queue.length := by
    unfold manSighting
    rw [hc, hq]
    rfl
  rw [h, hman]
  rfl

/-- A session that has learned the entry of the tag it reads. -/
def SesSt.learns (idx : Option Nat) (x : SesSt) : SesSt := { x with acc := { x.acc with manIndex := idx } }

/-- The session of a sighting learns its entry. -/
def Device.learns (d : Device) (g : Sighting) (idx : Option Nat) : Device := d.modSes g.session (SesSt.learns idx)

theorem rd_learns (d : Device) (g : Sighting) (idx : Option Nat) (a : Nat) : (d.learns g idx).rd a = d.rd a := Device.rd_modSes _ _ _ _

theorem sess_learns (d : Device) {g : Sighting} (h : g.session < 16) (idx : Option Nat) :
    (d.learns g idx).sess g.session = (d.sess g.session).learns idx := Device.sess_modSes_self _ _ _ h

theorem man_putSlots (d : Device) (n i k : Nat) (bs : List Byte) : (d.putSlots n i k bs).man = d.man := by
  induction k generalizing d i bs with
  | zero => rfl
  | succ k ih => rw [putSlots_succ, ih, Device.putSlot]

theorem man_writeMsg (d : Device) {n : Nat} (hn : n < 16) (msg : List Byte) : (d.writeMsg n msg).man = d.man := by
  rw [(settled_writeMsg d hn msg).same]
  exact man_putSlots d n _ _ msg

/-- What the manifest's part of a sighting changes: from `d` to `e` the words of `l`, the bytes `p` names, and neither the sessions' records nor the engine's. -/
structure Device.Sights (l : List Nat) (p : Nat → Bool) (d e : Device) : Prop where
  bits : Device.KeepsBits l d e
  ring : ∀ a, a / 1024 = 0x19 → e.rd a = d.rd a
  ses : e.ses = d.ses
  man : e.man = d.man
  bytes : Device.SramOutside p d e

/-- What is shown of a sighting that is served: the manifest's part `e`, the entry learned, and a message of at most two slots beside it. -/
structure Device.Served (g : Sighting) (l : List Nat) (p : Nat → Bool) (idx : Option Nat) (d e f : Device) : Prop where
  bytes : ∀ b, d.inSlots g.session (d.index (ringMtail g.session)) 2 b = false → storeGet zeroByte f.sram b = storeGet zeroByte e.sram b
  regs : ∀ a, a ∉ msgRegs g.session → f.rd a = e.rd a
  isl : f.isl = e.isl
  learned : (f.sess g.session).acc.manIndex = idx
  queue : f.man.queue = d.man.queue
  fields : Device.KeepsBits (ringMtail g.session :: l) d f
  outside : Device.SramOutside (fun b => p b || d.inSlots g.session (d.index (ringMtail g.session)) 2 b) d f

section
variable {d e : Device} {g : Sighting} {l : List Nat} {p : Nat → Bool} {idx : Option Nat} {new : Bool} (hs : Device.Sights l p d e)
  (hlt : g.session < 16) (hw : (d.sess g.session).waiting = []) (hfree : 2 ≤ d.mFree g.session) (hepc : g.epc.length ≤ 62)
include hs hlt hw hfree hepc

theorem manServe_writes (hm : d.manSight g = (idx, new, e)) :
    d.manServe g = (e.learns g idx).writeMsg g.session ((e.learns g idx).tagSeenMsg g idx new) := by
  have hsess : e.sess g.session = d.sess g.session := by simp only [Device.sess, hs.ses]
  have hfree' : (e.learns g idx).mFree g.session = d.mFree g.session := mFree_congr hlt (fun a ha => by rw [rd_learns, hs.ring a ha])
  have heq : d.manServe g = (e.learns g idx).emit g.session ((e.learns g idx).tagSeenMsg g idx new) := by
    unfold Device.manServe
    rw [hm]
    rfl
  rw [heq, emit_eq]
  · rw [sess_learns _ hlt, hsess]
    exact hw
  · rw [hfree', length_tagSeenMsg]
    omega

/-- A sighting's message goes straight into the ring behind the manifest's part. -/
theorem served_of_sights (hm : d.manSight g = (idx, new, e)) : Device.Served g l p idx d e (d.manServe g) := by
  have hserve := manServe_writes hs hlt hw hfree hepc hm
  have hlen := length_tagSeenMsg (e.learns g idx) g idx new
  generalize (e.learns g idx).tagSeenMsg g idx new = m at hserve hlen
  rw [hserve]
  have hring : ∀ a, a / 1024 = 0x19 → (e.learns g idx).rd a = d.rd a := fun a ha => by rw [rd_learns, hs.ring a ha]
  have hidx : (e.learns g idx).index (ringMtail g.session) = d.index (ringMtail g.session) := by
    rw [Device.index, hring _ (by rw [ringMtail]; omega), Device.index]
  have hslots : ∀ b, d.inSlots g.session (d.index (ringMtail g.session)) 2 b = false →
      (e.learns g idx).inSlots g.session ((e.learns g idx).index (ringMtail g.session))
        ((48 + g.epc.length + 63) / 64) b = false := fun b hb => by
    rw [hidx, inSlots_congr (hring _ (by rw [ringMbase]; omega)) (hring _ (by rw [ringCfg]; omega))]
    exact inSlots_mono hb (by omega)
  have hout : ∀ b, d.inSlots g.session (d.index (ringMtail g.session)) 2 b = false →
      storeGet zeroByte ((e.learns g idx).writeMsg g.session m).sram b = storeGet zeroByte e.sram b :=
    fun b hb => sramOutside_writeMsg (e.learns g idx) hlt m hlen b (hslots b hb)
  have hsame := (posts_writeMsg g.session (e.learns g idx) m).same
  refine ⟨hout, fun a ha => rd_writeMsg _ m ha, ?_, ?_, ?_, ?_, fun b hb => ?_⟩
  · rw [hsame]
    rfl
  · rw [Device.sess_writeMsg, sess_learns _ hlt]
    rfl
  · rw [man_writeMsg _ hlt, Device.learns, Device.modSes_man, hs.man]
  · have hkeep : Device.KeepsBits (ringMtail g.session :: l) e (e.learns g idx) := .of_rd (fun _ _ => rd_learns _ _ _ _)
    exact ((hs.bits.mono (by simp +contextual)).trans hkeep).trans ((keepsBits_writeMsg _ hlt m).mono (by simp))
  · simp only [Bool.or_eq_false_iff] at hb
    rw [hout b hb.2, hs.bytes b hb.1]

end

end Sys2Proof.Machine


namespace Sys2Proof.Machine

section
variable {d : Device} {g : Sighting}

theorem manSight_seen {i : Nat} (h : (d.manWindow g.epc).find? (fun j => entryMatches (d.entry j) g.epc) = some i) :
    d.manSight g = (some i, false, d.putEntry i (seenEntry (d.entry i) g)) := by
  unfold Device.manSight
  dsimp only
  rw [h]

/-- The device with a new tag's entry stored and counted (R153). -/
def Device.created (d : Device) (i : Nat) (g : Sighting) : Device :=
  ((d.putEntry i (newEntry g)).addWrap (fWord manNewCount) 1).manCountTo ((d.rd manCount).toNat + 1)

theorem manSight_new {i : Nat} (h : (d.manWindow g.epc).find? (fun j => entryMatches (d.entry j) g.epc) = none)
    (hfree : (d.manWindow g.epc).find? (fun j => !entryValid (d.entry j)) = some i) :
    d.manSight g = (some i, true, (d.created i g).irq 0x1A 1) := by
  unfold Device.manSight
  dsimp only
  rw [h, hfree]
  rfl

theorem manSight_miss (h : (d.manWindow g.epc).find? (fun j => entryMatches (d.entry j) g.epc) = none)
    (hfree : (d.manWindow g.epc).find? (fun j => !entryValid (d.entry j)) = none) (hevict : d.on fManCtrlEvict = false) :
    d.manSight g = (none, false, d.count (fHalf manMisses)) := by
  unfold Device.manSight
  dsimp only
  rw [h, hfree, hevict]
  rfl

theorem sights_putEntry (i : Nat) (bs : List Byte) (hl : bs.length = 64) : Device.Sights [] (inEntry i) d (d.putEntry i bs) where
  bits := .of_rd (fun a _ => rd_putEntry d i bs a)
  ring a _ := rd_putEntry d i bs a
  ses := by rw [putEntry_same]
  man := by rw [putEntry_same]
  bytes := fun _ hb => storeGet_putEntry_outside d i bs hl hb

theorem created_same (d : Device) (i : Nat) (g : Sighting) :
    d.created i g = { d with regs := (d.created i g).regs, sram := (d.putEntry i (newEntry g)).sram } := by
  rw [Device.created, manCountTo_same, putEntry_same]
  rfl

theorem rd_created (d : Device) (i : Nat) (g : Sighting) {a : Nat} (h : a ∉ [manCount, manNewCount, irqStat 0x1A, irqRaw 0x1A]) :
    (d.created i g).rd a = d.rd a := by
  simp only [List.mem_cons, List.not_mem_nil, or_false, not_or] at h
  obtain ⟨hcount, hnew, hstat, hraw⟩ := h
  rw [Device.created, rd_manCountTo _ _ hstat hraw, if_neg hcount, Device.addWrap_eq, Device.rd_put_ne _ _ _ _ hnew, rd_putEntry]

theorem keepsBits_created (d : Device) (i : Nat) (g : Sighting) : Device.KeepsBits [manCount, manNewCount] d (d.created i g) :=
  ((Device.KeepsBits.of_rd (fun a _ => rd_putEntry d i _ a)).trans (Device.keepsBits_put _ (fWord manNewCount) _ (by simp [fWord]))).trans
    ((keepsBits_manCountTo _ _).mono (by simp))

theorem count_created (d : Device) (i : Nat) (g : Sighting) (h : (d.rd manCount).toNat < 65536) :
    ((d.created i g).rd manCount).toNat = (d.rd manCount).toNat + 1 := by
  rw [Device.created, rd_manCountTo _ _ (by decide) (by decide), if_pos rfl, BitVec.toNat_ofNat]
  omega

theorem newCount_created (d : Device) (i : Nat) (g : Sighting) :
    (d.created i g).get (fWord manNewCount) = (d.get (fWord manNewCount) + 1) % 2 ^ 32 := by
  have hreg : (d.created i g).rd manNewCount = (((d.putEntry i (newEntry g)).addWrap (fWord manNewCount) 1)).rd manNewCount := by
    rw [Device.created, rd_manCountTo _ _ (by decide) (by decide), if_neg (by decide)]
  have hget : (d.created i g).get (fWord manNewCount) = (((d.putEntry i (newEntry g)).addWrap (fWord manNewCount) 1)).get (fWord manNewCount) := by
    simp only [Device.get, fWord, hreg]
  rw [hget, Device.addWrap_eq, Device.get_put_same _ _ _ (by simp [fWord]) (by simp [fWord])]
  simp only [Device.get, rd_putEntry, fWord]

theorem created_ring (d : Device) (i : Nat) (g : Sighting) {a : Nat} (h : a / 1024 ≠ 0x1A) : (d.created i g).rd a = d.rd a := by
  refine rd_created d i g ?_
  simp only [List.mem_cons, List.not_mem_nil, or_false, not_or, manCount, manNewCount, irqStat, irqRaw, wordAt]
  omega

theorem irq_same (d : Device) (p b : Nat) : d.irq p b = { d with regs := (d.irq p b).regs } := by
  unfold Device.irq
  split <;> rfl

theorem sram_irq_created (d : Device) (i : Nat) (g : Sighting) :
    ((d.created i g).irq 0x1A 1).sram = (d.putEntry i (newEntry g)).sram := by
  rw [irq_same, created_same]

theorem sights_new (i : Nat) : Device.Sights [manCount, manNewCount, irqStat 0x1A] (inEntry i) d ((d.created i g).irq 0x1A 1) where
  bits := ((keepsBits_created d i g).mono (by simp +contextual)).trans (Device.keepsBits_irq _ _ _ (by simp))
  ring a ha := by
    rw [Device.rd_irq_ne _ _ _ _ (by simp only [irqStat, wordAt]; omega), created_ring d i g (by omega)]
  ses := by rw [irq_same, created_same]
  man := by rw [irq_same, created_same]
  bytes b hb := by
    rw [sram_irq_created]
    exact storeGet_putEntry_outside d i _ (length_newEntry g) hb

/-- A new tag is an event (R153). -/
theorem on_created (hen : d.on ⟨irqEn 0x1A, 1, 1⟩ = true) (hlive : d.pageLive 0x1A = true) (i : Nat) :
    ((d.created i g).irq 0x1A 1).on ⟨irqStat 0x1A, 1, 1⟩ = true := by
  refine on_irq (by decide) ?_ ?_
  · simpa only [Device.on, Device.get, rd_created d i g (a := irqEn 0x1A) (by decide)] using hen
  · refine (pageLive_congr (rd_created d i g (by decide)) ?_ (rd_created d i g (by decide)) (by rw [created_same])).trans hlive
    simp only [Device.on, Device.get, fPsReleasePending, rd_created d i g (a := pageStat 0x1A) (by decide)]

theorem sights_miss : Device.Sights [manMisses] (fun _ => false) d (d.count (fHalf manMisses)) where
  bits := Device.keepsBits_put _ _ _ (by simp [fHalf])
  ring a ha := Device.rd_put_ne _ _ _ _ (by simp only [fHalf, manMisses]; omega)
  ses := rfl
  man := rfl
  bytes _ _ := rfl

end

section
variable {s : State} (hn : s.dev.NoRemote) {g : Sighting} (hclear : s.dev.man.clear = none) (hqueue : s.dev.man.queue = [.inl g])
  (hw : (s.dev.sess g.session).waiting = []) (hfree : 2 ≤ s.dev.mFree g.session) (hlt : g.session < 16) (hepc : g.epc.length ≤ 62)
include hn hclear hqueue hw hfree hlt hepc

/-- What a sighting's service completes with, from the manifest's part of it. -/
theorem manifestSighting_served {idx : Option Nat} {new : Bool} {e : Device} {l : List Nat} {p : Nat → Bool}
    (hs : Device.Sights l p s.dev.unqueued e) (hm : s.dev.unqueued.manSight g = (idx, new, e)) :
    ∃ f : Device, f.NoRemote ∧ Device.Served g l p idx s.dev.unqueued e f
      ∧ exec .manifestSighting s = .next { s with dev := f.settle } := by
  have hserved := served_of_sights hs hlt hw hfree hepc hm
  have heq : manSighting s.dev = s.dev.unqueued.manServe g := manSighting_one hclear hqueue hserved.queue
  refine ⟨manSighting s.dev, manSighting_closed noRemote_closed hn, heq ▸ hserved, act_next manSighting s⟩

theorem sighting_updates (i : Fin 65536) (hfind : (s.dev.manWindow g.epc).find? (fun j => entryMatches (s.dev.entry j) g.epc) = some i.val) :
    Completes .manifestSighting s (fun e => (∀ k : Fin 64, s.dev.inSlots g.session (s.dev.index (ringMtail g.session)) 2 (manAddr i.val + k.val) = false
          → storeGet zeroByte e.sram (manAddr i.val + k.val)
            = ((seenEntry (s.dev.entry i.val) g).set 2 (storeGet zeroByte s.dev.sram (manAddr i.val + 2) + 1)).getD k.val 0)
        ∧ (e.sess g.session).acc.manIndex = some i.val ∧ e.man.queue = [] ∧ Device.OnlyFields [ringMtail g.session] s.dev e
        ∧ Device.SramOutside (fun b => inEntry i.val b || s.dev.inSlots g.session (s.dev.index (ringMtail g.session)) 2 b) s.dev e) := by
  have hl : (seenEntry (s.dev.unqueued.entry i.val) g).length = 64 := length_seenEntry _ g (length_entry _ _)
  obtain ⟨f, hf, hserved, hexec⟩ := manifestSighting_served hn hclear hqueue hw hfree hlt hepc (sights_putEntry i.val _ hl) (manSight_seen hfind)
  refine ⟨_, hexec, rfl, fun k hk => ?_, ?_, ?_, hserved.fields.onlyFields hf, fun b hb => ?_⟩
  · rw [settle_sram f hf, hserved.bytes _ hk]
    exact storeGet_putEntry s.dev.unqueued _ _ hl k.isLt
  · rw [Device.sess_settle f hf, hserved.learned]
  · rw [settle_man f hf, hserved.queue]
    rfl
  · rw [settle_sram f hf]
    exact hserved.outside b hb

theorem sighting_creates (i : Fin 65536) (hnone : (s.dev.manWindow g.epc).find? (fun j => entryMatches (s.dev.entry j) g.epc) = none)
    (hfind : (s.dev.manWindow g.epc).find? (fun j => !entryValid (s.dev.entry j)) = some i.val) (hcount : (s.dev.rd manCount).toNat < 65536) :
    Completes .manifestSighting s (fun e => (∀ k : Fin 64, s.dev.inSlots g.session (s.dev.index (ringMtail g.session)) 2 (manAddr i.val + k.val) = false
          → storeGet zeroByte e.sram (manAddr i.val + k.val)
            = ((newEntry g).set 2 (storeGet zeroByte s.dev.sram (manAddr i.val + 2) + 1)).getD k.val 0)
        ∧ (e.rd manCount).toNat = (s.dev.rd manCount).toNat + 1
        ∧ e.get (fWord manNewCount) = (s.dev.get (fWord manNewCount) + 1) % 2 ^ 32
        ∧ (e.sess g.session).acc.manIndex = some i.val
        ∧ Device.raised 0x1A 1 s.dev e
        ∧ Device.OnlyFields [ringMtail g.session, manCount, manNewCount, irqStat 0x1A] s.dev e
        ∧ Device.SramOutside (fun b => inEntry i.val b || s.dev.inSlots g.session (s.dev.index (ringMtail g.session)) 2 b) s.dev e) := by
  obtain ⟨f, hf, hserved, hexec⟩ := manifestSighting_served hn hclear hqueue hw hfree hlt hepc (sights_new i.val) (manSight_new hnone hfind)
  have hpage : ∀ a, a / 1024 = 0x1A → f.rd a = ((s.dev.unqueued.created i.val g).irq 0x1A 1).rd a :=
    fun a ha => hserved.regs a (not_mem_msgRegs hlt (by omega))
  have hcounts : ∀ a, a = manCount ∨ a = manNewCount → f.rd a = (s.dev.unqueued.created i.val g).rd a := fun a ha => by
    rw [hpage a (by rcases ha with rfl | rfl <;> decide), Device.rd_irq_ne _ _ _ _ (by rcases ha with rfl | rfl <;> decide)]
  refine ⟨_, hexec, rfl, fun k hk => ?_, ?_, ?_, ?_, fun hen hlive => ?_, hserved.fields.onlyFields hf, fun b hb => ?_⟩
  · rw [settle_sram f hf, hserved.bytes _ hk, sram_irq_created]
    exact storeGet_putEntry s.dev.unqueued _ _ (length_newEntry g) k.isLt
  · rw [settle_rd f hf _ (by decide), hcounts _ (.inl rfl)]
    exact count_created s.dev.unqueued _ _ hcount
  · rw [settle_get f hf _ (by decide), Device.get, show (fWord manNewCount).reg = manNewCount from rfl, hcounts _ (.inr rfl)]
    exact newCount_created s.dev.unqueued i.val g
  · rw [Device.sess_settle f hf, hserved.learned]
  · rw [settle_on f hf _ (by decide), Device.on, Device.get, hpage _ (by decide)]
    exact on_created (d := s.dev.unqueued) hen hlive i.val
  · rw [settle_sram f hf]
    exact hserved.outside b hb

theorem sighting_misses (hnone : (s.dev.manWindow g.epc).find? (fun j => entryMatches (s.dev.entry j) g.epc) = none)
    (hfull : (s.dev.manWindow g.epc).find? (fun j => !entryValid (s.dev.entry j)) = none) (hevict : s.dev.on fManCtrlEvict = false) :
    Completes .manifestSighting s (fun e => e.get (fHalf manMisses) = min (s.dev.get (fHalf manMisses) + 1) 0xFFFF
        ∧ (e.sess g.session).acc.manIndex = none
        ∧ Device.OnlyFields [ringMtail g.session, manMisses] s.dev e
        ∧ Device.SramOutside (fun b => s.dev.inSlots g.session (s.dev.index (ringMtail g.session)) 2 b) s.dev e) := by
  obtain ⟨f, hf, hserved, hexec⟩ := manifestSighting_served hn hclear hqueue hw hfree hlt hepc sights_miss (manSight_miss hnone hfull hevict)
  refine ⟨_, hexec, rfl, ?_, ?_, hserved.fields.onlyFields hf, fun b hb => ?_⟩
  · rw [settle_get f hf _ (by decide), Device.get, hserved.regs _ (not_mem_msgRegs hlt (by decide)), ← Device.get, Device.count_eq,
      Device.get_put_same _ _ _ (by decide) (by decide)]
    exact Nat.mod_eq_of_lt (by simp [fHalf])
  · rw [Device.sess_settle f hf, hserved.learned]
  · rw [settle_sram f hf]
    exact hserved.outside b ((Bool.false_or _).trans hb)

end

end Sys2Proof.Machine


namespace Sys2Proof.Machine

/-! ### Entries removed, pinned and cleared (R154, R157, R158) -/

/-- The effect of a manifest command on its block. -/
theorem writeEffect_manCmd (d : Device) {v : Word} {be : BitVec 4} :
    (d.arrived manCmd v be).writeEffect (d.posted manCmd v be) noFinds = manWritten 0x16 v (d.commanded manCmd v be) := by
  have hpage : pageOfWord manCmd = 0x1A := by decide
  have hoff : offOfWord manCmd = 0x16 := by decide
  simp only [Device.writeEffect, Device.posted, hpage, hoff, Device.blockWritten]
  rfl

theorem manWritten_pin (d : Device) {v : Word} (h : fManCmdAction.of v = 1) : manWritten 0x16 v d = d.manPin (fManCmdIndex.of v) true := by
  unfold manWritten
  simp [h]

theorem manWritten_unpin (d : Device) {v : Word} (h : fManCmdAction.of v = 2) : manWritten 0x16 v d = d.manPin (fManCmdIndex.of v) false := by
  unfold manWritten
  simp [h]

theorem manWritten_remove (d : Device) {v : Word} (h : fManCmdAction.of v = 3) : manWritten 0x16 v d = d.manRemove (fManCmdIndex.of v) := by
  unfold manWritten
  simp [h]

theorem manWritten_clear (d : Device) {v : Word} (all : Bool) (h : fManCmdAction.of v = 4 + all.toNat) :
    manWritten 0x16 v d = d.manClear all := by
  unfold manWritten
  cases all <;> simp [h]

theorem busy_manClear (d : Device) (all : Bool) : (d.manClear all).get fManCmdStatBusy = 1 := by
  have hput : (d.put fManCmdStatBusy 1).get fManCmdStatBusy = 1 := d.get_put_same fManCmdStatBusy 1 (by decide) (by decide)
  exact hput

theorem clear_manClear (d : Device) (all : Bool) : (d.manClear all).man.clear = some all := id rfl

theorem sram_manClear (d : Device) (all : Bool) : (d.manClear all).sram = d.sram := id rfl

theorem action_manCmd (w : Word) {k : Nat} (hk : k < 8) : fManCmdAction.of (fManCmdAction.set w k) = k :=
  (bitsOf_setBits_same w 18 16 k (by decide) (by decide)).trans (Nat.mod_eq_of_lt hk)

theorem sram_commanded (d : Device) (a : Nat) (v : Word) (be : BitVec 4) : (d.commanded a v be).sram = d.sram := by rw [Device.commanded_same]

theorem entry_of_sram {d e : Device} (h : e.sram = d.sram) (i : Nat) : e.entry i = d.entry i := by rw [Device.entry, h, Device.entry]

section
variable {s : State} (hn : s.dev.NoRemote)
include hn

/-- A manifest command has its action's effect on the device its write reaches. -/
theorem manCommand_done {c : Instr} {v : Word} {be : BitVec 4} {e : Device} (hrow : hostRow s.dev c = some (manCmd, v, be, noFinds))
    (ha : s.dev.applies manCmd v be = true) (he : manWritten 0x16 v (s.dev.commanded manCmd v be) = e) :
    ∃ f : Device, f.NoRemote ∧ (∀ b, b ≠ secIdleLeft → f.rd b = e.rd b) ∧ f.sram = e.sram ∧ f.man = e.man
      ∧ exec c s = .next { s with dev := f.settle } := by
  have heff := (writeEffect_manCmd s.dev).trans he
  refine ⟨_, noRemote_written hn ha, fun b hb => rd_written heff hb, ?_, ?_, exec_applies c s manCmd v be noFinds hrow ha⟩
  · rw [written_same heff]
  · rw [written_same heff]

theorem manifestAgeOut_clears (i : Fin 65536) (hage : s.dev.get fManCtrlAgeOut ≠ 0) (hlive : s.dev.pageLive 0x1A = true)
    (hvalid : entryValid (s.dev.entry i.val) = true) (hpin : entryPinned (s.dev.entry i.val) = false)
    (hold : entryLe (s.dev.entry i.val) 16 8 + s.dev.get fManCtrlAgeOut * 1024000000 < s.dev.stamp) :
    Completes (.manifestAgeOut i) s (fun e => Device.EntryCleared i.val s.dev e ∧ (e.rd manCount).toNat = (s.dev.rd manCount).toNat - 1
      ∧ Device.OnlyFields [manCount] s.dev e ∧ Device.SramOutside (inEntry i.val) s.dev e) := by
  have heq : manAgeOut i.val s.dev = s.dev.manRemove i.val := by
    unfold manAgeOut
    dsimp only
    rw [if_pos (by simp [hage, hvalid, hpin, hold, hlive])]
  have hn' : (manAgeOut i.val s.dev).NoRemote := manAgeOut_closed noRemote_closed hn
  refine completes_act (manAgeOut i.val) rfl ?_
  rw [heq] at hn' ⊢
  refine ⟨fun k hk => ?_, ?_, (keepsBits_manRemove _ _).onlyFields hn', fun b hb => ?_⟩
  · rw [settle_sram _ hn']
    exact manRemove_clears hvalid k hk
  · rw [settle_rd _ hn' _ (by decide), count_manRemove hvalid]
  · rw [settle_sram _ hn', storeGet_manRemove_outside _ _ hb]

theorem manRemove_completes (w : RegWrite) (i : Fin 65536) (ha : s.dev.applies manCmd (fManCmdAction.set w.value 3) w.be = true)
    (hi : fManCmdIndex.of (fManCmdAction.set w.value 3) = i.val) (hvalid : entryValid (s.dev.entry i.val) = true) :
    Completes (.manRemove w) s (fun e => Device.EntryCleared i.val s.dev e ∧ (e.rd manCount).toNat = (s.dev.rd manCount).toNat - 1
      ∧ Device.SramOutside (inEntry i.val) s.dev e) := by
  obtain ⟨f, hf, hrd, hsram, -, hexec⟩ := manCommand_done hn (c := .manRemove w) rfl ha
    ((manWritten_remove _ (action_manCmd w.value (by decide))).trans (by rw [hi]))
  have hmem := sram_commanded s.dev manCmd (fManCmdAction.set w.value 3) w.be
  have hvalid' : entryValid ((s.dev.commanded manCmd (fManCmdAction.set w.value 3) w.be).entry i.val) = true := by
    rwa [entry_of_sram hmem]
  refine ⟨_, hexec, rfl, fun k hk => ?_, ?_, fun b hb => ?_⟩
  · rw [settle_sram f hf, hsram, manRemove_clears hvalid' k hk, hmem]
  · rw [settle_rd f hf _ (by decide), hrd _ (by decide), count_manRemove hvalid', Device.rd_commanded _ _ _ _ (by decide) (by decide) (by decide)]
  · rw [settle_sram f hf, hsram, storeGet_manRemove_outside _ _ hb, hmem]

end

/-- FLAGS of an entry that is stored is the byte given for it. -/
theorem flags_putEntry (d : Device) (i : Nat) (bs : List Byte) (hl : bs.length = 64) :
    entryByte ((d.putEntry i bs).entry i) 0 = (bs.getD 0 0).toNat := by
  rw [entryByte, getD_entry _ _ (by decide), storeGet_putEntry d i bs hl (by decide), List.getD_eq_getElem?_getD,
    List.getElem?_set_ne (by decide), ← List.getD_eq_getElem?_getD]

theorem flags_manPin {d : Device} {i : Nat} {on : Bool} (hv : entryValid (d.entry i) = true) (hp : entryPinned (d.entry i) ≠ on) :
    entryByte ((d.manPin i on).entry i) 0 = if on then entryByte (d.entry i) 0 + 2 else entryByte (d.entry i) 0 - 2 := by
  have hlt : entryByte (d.entry i) 0 < 256 := BitVec.isLt _
  have hlen := length_entry d i
  have hpin : entryByte (d.entry i) 0 / 2 % 2 = 1 ↔ entryPinned (d.entry i) = true := by simp [entryPinned]
  have heq : d.manPin i on = d.putEntry i ((d.entry i).set 0 (BitVec.ofNat 8 (if on then entryByte (d.entry i) 0 + 2 else entryByte (d.entry i) 0 - 2))) := by
    unfold Device.manPin
    dsimp only
    rw [if_pos (by simp [hv, hp])]
  have hsum : (if on then entryByte (d.entry i) 0 + 2 else entryByte (d.entry i) 0 - 2) < 256 := by
    cases on
    · simp only [Bool.false_eq_true, if_false]
      omega
    · simp only [if_true]
      have : ¬ entryByte (d.entry i) 0 / 2 % 2 = 1 := fun h => hp (hpin.1 h)
      omega
  rw [heq, flags_putEntry _ _ _ (by rw [List.length_set, hlen]), List.getD_eq_getElem?_getD, List.getElem?_set_self (by omega)]
  simp only [Option.getD_some, BitVec.toNat_ofNat]
  exact Nat.mod_eq_of_lt hsum

/-- A pin or its end leaves the entry valid, with PINNED as asked (R158). -/
theorem manPin_pins {d : Device} {i : Nat} (on : Bool) (hv : entryValid (d.entry i) = true) :
    entryPinned ((d.manPin i on).entry i) = on ∧ entryValid ((d.manPin i on).entry i) = true := by
  by_cases hp : entryPinned (d.entry i) = on
  · have heq : d.manPin i on = d := by
      unfold Device.manPin
      dsimp only
      rw [if_neg (by simp [hp])]
    rw [heq]
    exact ⟨hp, hv⟩
  · have hflags := flags_manPin hv hp
    simp only [entryPinned, entryValid, decide_eq_true_eq] at hp hv ⊢
    rw [hflags]
    cases on
    · simp only [decide_eq_false_iff_not, not_not, Bool.false_eq_true, if_false] at hp ⊢
      omega
    · simp only [decide_eq_true_eq, if_true] at hp ⊢
      omega

theorem storeGet_manPin_outside (d : Device) (i : Nat) (on : Bool) {b : Nat} (h : inEntry i b = false) :
    storeGet zeroByte (d.manPin i on).sram b = storeGet zeroByte d.sram b := by
  unfold Device.manPin
  dsimp only
  split
  · exact storeGet_putEntry_outside d i _ (by rw [List.length_set, length_entry]) h
  · rfl

section
variable {s : State} (hn : s.dev.NoRemote)
include hn

/-- PIN and UNPIN, whichever of the two. -/
theorem pin_completes {c : Instr} (w : RegWrite) (i : Fin 65536) (on : Bool) {k : Nat}
    (hrow : hostRow s.dev c = some (manCmd, fManCmdAction.set w.value k, w.be, noFinds))
    (hact : ∀ d : Device, manWritten 0x16 (fManCmdAction.set w.value k) d = d.manPin (fManCmdIndex.of (fManCmdAction.set w.value k)) on)
    (ha : s.dev.applies manCmd (fManCmdAction.set w.value k) w.be = true) (hi : fManCmdIndex.of (fManCmdAction.set w.value k) = i.val)
    (hvalid : entryValid (s.dev.entry i.val) = true) :
    Completes c s (fun e => entryPinned (e.entry i.val) = on ∧ entryValid (e.entry i.val) = true ∧ Device.SramOutside (inEntry i.val) s.dev e) := by
  obtain ⟨f, hf, -, hsram, -, hexec⟩ := manCommand_done hn hrow ha ((hact _).trans (by rw [hi]))
  have hmem := sram_commanded s.dev manCmd (fManCmdAction.set w.value k) w.be
  have hpins := manPin_pins (d := s.dev.commanded manCmd (fManCmdAction.set w.value k) w.be) on
    (show entryValid (Device.entry _ i.val) = true by rwa [entry_of_sram hmem])
  have hentry : f.settle.entry i.val = ((s.dev.commanded manCmd (fManCmdAction.set w.value k) w.be).manPin i.val on).entry i.val :=
    entry_of_sram ((settle_sram f hf).trans hsram) _
  refine ⟨_, hexec, rfl, ?_, ?_, fun b hb => ?_⟩
  · rw [hentry]
    exact hpins.1
  · rw [hentry]
    exact hpins.2
  · rw [settle_sram f hf, hsram, storeGet_manPin_outside _ _ _ hb, hmem]

theorem manClear_begins (c : Instr) (all : Bool) (hc : c = if all then .manClearAll else .manClearUnpinned)
    (ha : s.dev.applies manCmd (fManCmdAction.set 0 (4 + all.toNat)) 0xF#4 = true) :
    Completes c s (fun e => e.on fManCmdStatBusy = true ∧ e.man.clear = some all ∧ Device.SramOutside (fun _ => false) s.dev e) := by
  have hrow : hostRow s.dev c = some (manCmd, fManCmdAction.set 0 (4 + all.toNat), 0xF#4, noFinds) := by
    subst hc
    cases all <;> rfl
  obtain ⟨f, hf, hrd, hsram, hman, hexec⟩ := manCommand_done hn hrow ha
    (manWritten_clear _ all (action_manCmd 0 (by cases all <;> decide)))
  refine ⟨_, hexec, rfl, ?_, ?_, fun b _ => ?_⟩
  · rw [settle_on f hf _ (by decide), Device.on, Device.get, hrd _ (by decide), ← Device.get, busy_manClear]
    rfl
  · rw [settle_man f hf, hman, clear_manClear]
  · rw [settle_sram f hf, hsram, sram_manClear, sram_commanded]

end

/-! #### The end of a clear (R157) -/

/-- A byte that does not read as its default is listed. -/
theorem mem_of_storeGet_ne {dflt : Nat → Byte} {l : List (Nat × Byte)} {a : Nat} (h : storeGet dflt l a ≠ dflt a) : (a, storeGet dflt l a) ∈ l := by
  induction l with
  | nil => exact absurd rfl h
  | cons x t ih =>
    obtain ⟨b, v⟩ := x
    by_cases hab : a = b
    · subst hab
      simp [storeGet]
    · simp only [storeGet, if_neg hab] at h ⊢
      exact List.mem_cons_of_mem _ (ih h)

/-- Every valid entry is among those a clear looks at. -/
theorem mem_manValid {d : Device} {i : Nat} (hi : i < 65536) (h : entryValid (d.entry i) = true) : i ∈ d.manValid := by
  have hodd : (storeGet zeroByte d.sram (manAddr i)).toNat % 2 = 1 := by
    have h0 := getD_entry d i (show 0 < 64 by decide)
    rw [Nat.add_zero] at h0
    rw [entryValid, entryByte, h0] at h
    exact of_decide_eq_true h
  have hmem : (manAddr i, storeGet zeroByte d.sram (manAddr i)) ∈ d.sram := mem_of_storeGet_ne (fun h0 => by
    rw [h0] at hodd
    simp [zeroByte] at hodd)
  have hbit : (storeGet zeroByte d.sram (manAddr i)).getLsbD 0 = true := by
    rw [BitVec.getLsbD, Nat.testBit_zero]
    simpa using hodd
  refine List.mem_map.2 ⟨_, List.mem_filter.2 ⟨hmem, ?_⟩, ?_⟩
  · rw [hbit, Bool.and_true, manAddr]
    simp only [Bool.and_eq_true, decide_eq_true_eq]
    omega
  · simp only [manAddr]
    omega

/-- What a clear looks at lies in the manifest. -/
theorem manValid_lt {d : Device} {i : Nat} (h : i ∈ d.manValid) : i < 65536 := by
  obtain ⟨x, hx, rfl⟩ := List.mem_map.1 h
  have hrange := (List.mem_filter.1 hx).2
  simp only [Bool.and_eq_true, decide_eq_true_eq] at hrange
  omega

/-- A clear's look at one entry: it is removed unless its pin keeps it. -/
def Device.clearOne (all : Bool) (d : Device) (i : Nat) : Device := if all || !entryPinned (d.entry i) then d.manRemove i else d

theorem manClearNow_eq (d : Device) (all : Bool) : d.manClearNow all = d.forAll d.manValid (Device.clearOne all) := rfl

section
variable (all : Bool) (d : Device)

theorem clearOne_cases (i : Nat) : d.clearOne all i = d.manRemove i ∨ d.clearOne all i = d := by
  unfold Device.clearOne
  split
  · exact .inl rfl
  · exact .inr rfl

theorem storeGet_clearOne_outside (i : Nat) {b : Nat} (h : inEntry i b = false) :
    storeGet zeroByte (d.clearOne all i).sram b = storeGet zeroByte d.sram b := by
  rcases clearOne_cases all d i with he | he
  · rw [he, storeGet_manRemove_outside d i h]
  · rw [he]

theorem entry_clearOne_other {i j : Nat} (h : j ≠ i) : (d.clearOne all j).entry i = d.entry i :=
  entry_congr (fun _ hk => storeGet_clearOne_outside all d j (inEntry_other h hk))

theorem entry_clearOne_pinned {i : Nat} (h : entryPinned (d.entry i) = true) (hall : all = false) (j : Nat) :
    (d.clearOne all j).entry i = d.entry i := by
  by_cases hj : j = i
  · subst hj
    rw [Device.clearOne, if_neg (by simp [h, hall])]
  · exact entry_clearOne_other all d hj

theorem keepsBits_clearOne (i : Nat) : Device.KeepsBits [manCount] d (d.clearOne all i) := by
  rcases clearOne_cases all d i with he | he
  · rw [he]
    exact keepsBits_manRemove d i
  · rw [he]
    exact .refl _ d

/-- An entry already cleared stays as it is. -/
theorem cleared_clearOne {d₀ : Device} {i : Nat} (h : Device.EntryCleared i d₀ d) (j : Nat) : Device.EntryCleared i d₀ (d.clearOne all j) := by
  intro k hk
  by_cases hj : j = i
  · subst hj
    rcases clearOne_cases all d j with he | he
    · rw [he, manRemove_invalid (entryValid_cleared h)]
      exact h k hk
    · rw [he]
      exact h k hk
  · rw [storeGet_clearOne_outside all d j (inEntry_other hj hk)]
    exact h k hk

/-- A valid entry that nothing keeps is cleared once a clear has looked at it. -/
theorem cleared_forAll {i : Nat} {l : List Nat} (hmem : i ∈ l) (hvalid : entryValid (d.entry i) = true)
    (hgo : (all || !entryPinned (d.entry i)) = true) : Device.EntryCleared i d (d.forAll l (Device.clearOne all)) := by
  suffices h : ∀ e : Device, (∀ k, k < 64 → storeGet zeroByte e.sram (manAddr i + k) = storeGet zeroByte d.sram (manAddr i + k)) →
      Device.EntryCleared i d (e.forAll l (Device.clearOne all)) from h d (fun _ _ => rfl)
  induction l with
  | nil => exact absurd hmem (List.not_mem_nil)
  | cons j t ih =>
    intro e he
    rw [Device.forAll_cons]
    by_cases hj : j = i
    · subst hj
      have hentry : e.entry j = d.entry j := entry_congr he
      have hone : e.clearOne all j = e.manRemove j := by rw [Device.clearOne, hentry, if_pos hgo]
      have hfirst : Device.EntryCleared j d (e.clearOne all j) := fun k hk => by
        rw [hone, manRemove_clears (hentry ▸ hvalid) k hk, he 2 (by decide)]
      exact Device.forAll_induct (Device.EntryCleared j d) t _ (fun x y hx => cleared_clearOne all x hx y) _ hfirst
    · refine ih ((List.mem_cons.1 hmem).resolve_left (fun h => hj h.symm)) _ (fun k hk => ?_)
      rw [storeGet_clearOne_outside all e j (inEntry_other hj hk), he k hk]

theorem entry_forAll_pinned {i : Nat} (h : entryPinned (d.entry i) = true) (hall : all = false) (l : List Nat) :
    (d.forAll l (Device.clearOne all)).entry i = d.entry i := by
  refine Device.forAll_induct (fun e => e.entry i = d.entry i) l _ (fun e j he => ?_) d rfl
  rw [entry_clearOne_pinned all e (he ▸ h) hall j, he]

theorem keepsBits_manClearNow : Device.KeepsBits [manCount] d (d.manClearNow all) :=
  Device.forAll_induct (Device.KeepsBits [manCount] d) _ _ (fun e i he => he.trans (keepsBits_clearOne all e i)) d (.refl _ d)

/-- A clear changes no byte outside the manifest. -/
theorem sramOutside_manClearNow : Device.SramOutside (fun b => decide (0x0400000 ≤ b) && decide (b < 0x0800000)) d (d.manClearNow all) := by
  rw [manClearNow_eq]
  have hlt : ∀ i ∈ d.manValid, i < 65536 := fun i hi => manValid_lt hi
  generalize d.manValid = l at hlt
  suffices h : ∀ e : Device, Device.SramOutside (fun b => decide (0x0400000 ≤ b) && decide (b < 0x0800000)) e (e.forAll l (Device.clearOne all)) from h d
  induction l with
  | nil => exact fun e _ _ => rfl
  | cons j t ih =>
    intro e b hb
    rw [Device.forAll_cons, ih (fun i hi => hlt i (List.mem_cons_of_mem j hi)) _ b hb, storeGet_clearOne_outside]
    have hj := hlt j List.mem_cons_self
    simp only [Bool.and_eq_false_iff, decide_eq_false_iff_not] at hb
    rw [inEntry_false_iff, manAddr]
    omega

end

/-- The clear's removals are complete and BUSY is 0 (R157). -/
def Device.clearEnded (d : Device) (all : Bool) : Device := { (d.manClearNow all).put fManCmdStatBusy 0 with man := {} }

theorem manClearDone_eq {d : Device} {all : Bool} (hc : d.man.clear = some all) (hq : d.man.queue = []) : manClearDone d = d.clearEnded all := by
  unfold manClearDone
  rw [hc, hq]
  rfl

theorem manClearDone_completes {s : State} (hn : s.dev.NoRemote) (i : Fin 65536) (all : Bool) (hc : s.dev.man.clear = some all)
    (hq : s.dev.man.queue = []) : Completes .manClearDone s (fun e => e.on fManCmdStatBusy = false ∧ e.man.clear = none
      ∧ (entryValid (s.dev.entry i.val) = true → (all || !entryPinned (s.dev.entry i.val)) = true → Device.EntryCleared i.val s.dev e)
      ∧ (entryPinned (s.dev.entry i.val) = true → all = false → e.entry i.val = s.dev.entry i.val)
      ∧ Device.OnlyFields [manCount, manCmdStat] s.dev e
      ∧ Device.SramOutside (fun b => decide (0x0400000 ≤ b) && decide (b < 0x0800000)) s.dev e) := by
  have hn' : (manClearDone s.dev).NoRemote := manClearDone_closed noRemote_closed hn
  refine completes_act manClearDone rfl ?_
  rw [manClearDone_eq hc hq] at hn' ⊢
  have hsram : (s.dev.clearEnded all).settle.sram = (s.dev.manClearNow all).sram := settle_sram _ hn'
  have hkeeps : Device.KeepsBits [manCount, manCmdStat] s.dev (s.dev.clearEnded all) :=
    ((keepsBits_manClearNow all s.dev).mono (by simp)).trans (Device.keepsBits_put _ fManCmdStatBusy 0 (by simp [fManCmdStatBusy]))
  refine ⟨?_, ?_, fun hvalid hgo k hk => ?_, fun hpin hall => ?_, hkeeps.onlyFields hn', fun b hb => ?_⟩
  · have hbusy : (s.dev.clearEnded all).get fManCmdStatBusy = 0 := Device.get_put_same (s.dev.manClearNow all) fManCmdStatBusy 0 (by decide) (by decide)
    rw [settle_on _ hn' _ (by decide), Device.on, hbusy]
    rfl
  · rw [settle_man _ hn']
    rfl
  · rw [hsram]
    exact cleared_forAll all s.dev (mem_manValid i.isLt hvalid) hvalid hgo k hk
  · rw [entry_of_sram hsram]
    exact entry_forAll_pinned all s.dev hpin hall _
  · rw [hsram]
    exact sramOutside_manClearNow all s.dev b hb

/-- Settles O26: a sighting's service is the manifest's part and a message behind it; a clear is the removal of every entry it looks at. -/
theorem manifestEntries : Obligations.ManifestEntries := by
  intro s hn
  refine ⟨fun g hclear hqueue hw hfree hlt hepc => ⟨?_, ?_, ?_⟩, fun w i => ⟨?_, ?_, ?_, ?_, ?_, ?_⟩⟩
  · exact sighting_updates hn hclear hqueue hw hfree hlt hepc
  · exact sighting_creates hn hclear hqueue hw hfree hlt hepc
  · exact sighting_misses hn hclear hqueue hw hfree hlt hepc
  · intro hage hlive hvalid hpin hold
    exact (manifestAgeOut_clears hn i hage hlive hvalid hpin hold).imp (fun e h => ⟨fun k => h.1 k.val k.isLt, h.2⟩)
  · intro ha hi hvalid
    exact (manRemove_completes hn w i ha hi hvalid).imp (fun e h => ⟨fun k => h.1 k.val k.isLt, h.2⟩)
  · exact pin_completes hn w i true rfl (fun d => manWritten_pin d (action_manCmd w.value (by decide)))
  · exact pin_completes hn w i false rfl (fun d => manWritten_unpin d (action_manCmd w.value (by decide)))
  · exact manClear_begins hn
  · intro all hc hq
    exact (manClearDone_completes hn i all hc hq).imp
      (fun e h => ⟨h.1, h.2.1, fun hvalid hgo k => h.2.2.1 hvalid hgo k.val k.isLt, h.2.2.2⟩)

end Sys2Proof.Machine


namespace Sys2Proof.Machine

/-! ### What a session's messages write of ring memory (R125, R144) -/

/-- The ring of session `n` lies alike in `d` and `e`: base, depth and MTAIL. -/
structure Device.SameRing (n : Nat) (d e : Device) : Prop where
  base : e.rd (ringMbase n) = d.rd (ringMbase n)
  depth : e.rd (ringCfg n) = d.rd (ringCfg n)
  tail : e.rd (ringMtail n) = d.rd (ringMtail n)

theorem Device.SameRing.of_rd {n : Nat} {d e : Device} (hn : n < 16) (h : ∀ a, a / 1024 = 0x19 → 0x40 ≤ a % 1024 → e.rd a = d.rd a) :
    Device.SameRing n d e where
  base := h _ (by rw [ringMbase]; omega) (by rw [ringMbase]; omega)
  depth := h _ (by rw [ringCfg]; omega) (by rw [ringCfg]; omega)
  tail := h _ (by rw [ringMtail]; omega) (by rw [ringMtail]; omega)

theorem Device.SameRing.refl (n : Nat) (d : Device) : Device.SameRing n d d := ⟨rfl, rfl, rfl⟩

theorem Device.SameRing.trans {n : Nat} {d e f : Device} (h : Device.SameRing n d e) (g : Device.SameRing n e f) : Device.SameRing n d f :=
  ⟨g.base.trans h.base, g.depth.trans h.depth, g.tail.trans h.tail⟩

theorem Device.SameRing.index {n : Nat} {d e : Device} (h : Device.SameRing n d e) : e.index (ringMtail n) = d.index (ringMtail n) := by
  rw [Device.index, h.tail, Device.index]

theorem Device.SameRing.inSlots {n : Nat} {d e : Device} (h : Device.SameRing n d e) (i k b : Nat) : e.inSlots n i k b = d.inSlots n i k b :=
  inSlots_congr h.base h.depth i k b

theorem Device.SameRing.mSlotAddr {n : Nat} {d e : Device} (h : Device.SameRing n d e) (i : Nat) : e.mSlotAddr n i = d.mSlotAddr n i :=
  mSlotAddr_congr h.base h.depth i

theorem sramOutside_emit (d : Device) {n : Nat} (hn : n < 16) (msg : List Byte) {k : Nat} (hk : msg.length = 64 * k) :
    Device.SramOutside (d.inSlots n (d.index (ringMtail n)) k) d (d.emit n msg) := by
  unfold Device.emit
  split
  · exact sramOutside_writeMsg d hn msg hk
  · intro b _
    unfold Device.holdAsk
    split <;> rfl

/-- A message that is posted changes no byte but those of the slots at MTAIL, whether it enters the ring or waits. -/
theorem sramOutside_postMsg (d : Device) {n : Nat} (hn : n < 16) (msg : List Byte) {k : Nat} (hk : msg.length = 64 * k) :
    Device.SramOutside (d.inSlots n (d.index (ringMtail n)) k) d (d.postMsg n msg) := by
  unfold Device.postMsg
  dsimp only
  split
  · exact fun _ _ => rfl
  · exact sramOutside_emit d hn msg hk

theorem postMsg_eq {d : Device} {n : Nat} {msg : List Byte} (hq : d.man.queue = []) (hw : (d.sess n).waiting = [])
    (hfree : msg.length / 64 ≤ d.mFree n) : d.postMsg n msg = d.writeMsg n msg := by
  rw [Device.postMsg]
  dsimp only
  rw [if_neg (by simp [hq]), emit_eq hw hfree]

theorem length_sesStateMsg (d : Device) (n old code : Nat) : (d.sesStateMsg n old code).length = 64 * 1 := by
  have h16 : ∀ i, (le16 i).length = 2 := fun _ => rfl
  simp only [Device.sesStateMsg, length_message, List.length_append, List.length_cons, List.length_nil, h16]

theorem sameRing_put (d : Device) {n : Nat} (hn : n < 16) (f : Fld) (v : Nat) (hf : ¬ (f.reg / 1024 = 0x19 ∧ 0x40 ≤ f.reg % 1024)) :
    Device.SameRing n d (d.put f v) :=
  .of_rd hn (fun _ hpage hoff => Device.rd_put_ne _ _ _ _ (fun h => hf (h ▸ ⟨hpage, hoff⟩)))

theorem sameRing_showHold (d : Device) {n : Nat} (hn : n < 16) : Device.SameRing n d (d.showHold n) :=
  sameRing_put d hn _ _ (by simp only [fSesStatHoldWhy, sesStat]; omega)

theorem sameRing_modSes (d : Device) (n m : Nat) (f : SesSt → SesSt) : Device.SameRing n d (d.modSes m f) :=
  ⟨Device.rd_modSes _ _ _ _, Device.rd_modSes _ _ _ _, Device.rd_modSes _ _ _ _⟩

theorem sameRing_holdEnd (d : Device) {n : Nat} (hn : n < 16) (why : Nat) : Device.SameRing n d (d.holdEnd n why) :=
  (sameRing_modSes d n n _).trans (sameRing_showHold _ hn)

theorem sameRing_showFlight (d : Device) {n : Nat} (hn : n < 16) : Device.SameRing n d (d.showFlight n) := by
  unfold Device.showFlight Device.showInflight
  dsimp only
  refine ((sameRing_put d hn _ _ ?_).trans (sameRing_put _ hn _ _ ?_)).trans (sameRing_put _ hn _ _ ?_)
  · simp only [fSesStatInflight, sesStat]; omega
  · decide
  · decide

/-- A change of state writes at most one slot: that of SESSION_STATE (R77). -/
theorem sramOutside_sesGo (d : Device) {n : Nat} (hn : n < 16) (st code : Nat) :
    Device.SramOutside (d.inSlots n (d.index (ringMtail n)) 1) d (d.sesGo n st code) := by
  unfold Device.sesGo
  dsimp only
  split
  · exact fun _ _ => rfl
  · have hring : Device.SameRing n d ((d.put (fPsState (0x80 + n)) st).showHold n) :=
      (sameRing_put d hn _ _ (by simp only [fPsState, pageStat, wordAt]; omega)).trans (sameRing_showHold _ hn)
    intro b hb
    rw [sramOutside_postMsg _ hn _ (length_sesStateMsg _ n _ code) b (by rwa [hring.index, hring.inSlots])]
    rfl

/-- The session as its descriptor is over, before it goes to another state. -/
def Device.doneHere (d : Device) (n : Nat) : Device :=
  (((d.modSes n SesSt.done).holdEnd n 6).showFlight n).when (!(((d.modSes n SesSt.done).holdEnd n 6).showFlight n).needsAir n)
    (fun d => d.holdEnd n 1)

theorem sesDone_cases (d : Device) (n : Nat) : d.sesDone n = d.doneHere n ∨ d.sesDone n = (d.doneHere n).sesGo n 2 0 := by
  have heq : d.sesDone n = if 8 ≤ (d.doneHere n).sesState n ∨ (d.doneHere n).sesState n = 0 then d.doneHere n
      else if ((d.doneHere n).sess n).descs.isEmpty then (d.doneHere n).sesGo n 2 0 else d.doneHere n := rfl
  rw [heq]
  split
  · exact .inl rfl
  · split
    · exact .inr rfl
    · exact .inl rfl

theorem sram_doneHere (d : Device) (n : Nat) : (d.doneHere n).sram = d.sram := by
  unfold Device.doneHere
  generalize (!(((d.modSes n SesSt.done).holdEnd n 6).showFlight n).needsAir n) = c
  cases c <;> rfl

theorem sameRing_doneHere (d : Device) {n : Nat} (hn : n < 16) : Device.SameRing n d (d.doneHere n) := by
  have hflight : Device.SameRing n d (((d.modSes n SesSt.done).holdEnd n 6).showFlight n) :=
    ((sameRing_modSes d n n _).trans (sameRing_holdEnd (d.modSes n SesSt.done) hn 6)).trans (sameRing_showFlight _ hn)
  unfold Device.doneHere
  generalize (!(((d.modSes n SesSt.done).holdEnd n 6).showFlight n).needsAir n) = c
  cases c
  · exact hflight
  · exact hflight.trans (sameRing_holdEnd _ hn 1)

/-- The end of a descriptor writes at most one slot. -/
theorem sramOutside_sesDone (d : Device) {n : Nat} (hn : n < 16) :
    Device.SramOutside (d.inSlots n (d.index (ringMtail n)) 1) d (d.sesDone n) := by
  have hring := sameRing_doneHere d hn
  intro b hb
  rcases sesDone_cases d n with h | h
  · rw [h, sram_doneHere]
  · rw [h, sramOutside_sesGo (d.doneHere n) hn 2 0 b (by rwa [hring.index, hring.inSlots]), sram_doneHere]

theorem sess_showFlight (d : Device) (n m : Nat) : (d.showFlight n).sess m = d.sess m := by
  unfold Device.showFlight Device.showInflight
  simp only [Device.sess_put]

/-- Of a session's holds the end of its descriptor takes only the STOP's and the turn's (R79, R140). -/
theorem mem_holds_sesDone {d : Device} {n why : Nat} (hn : n < 16) (h : why ∈ (d.sess n).holds) (h6 : why ≠ 6) (h1 : why ≠ 1) :
    why ∈ ((d.sesDone n).sess n).holds := by
  have hend : why ∈ (((d.modSes n SesSt.done).holdEnd n 6).sess n).holds := by
    rw [holdEnd_holds hn, if_pos rfl, Device.sess_modSes_self _ _ _ hn]
    exact List.mem_filter.2 ⟨h, by simpa using h6⟩
  have hflight : why ∈ ((((d.modSes n SesSt.done).holdEnd n 6).showFlight n).sess n).holds := by rwa [sess_showFlight]
  have hhere : why ∈ ((d.doneHere n).sess n).holds := by
    unfold Device.doneHere
    generalize (!(((d.modSes n SesSt.done).holdEnd n 6).showFlight n).needsAir n) = c
    cases c
    · exact hflight
    · refine (holdEnd_holds hn 1 n).symm ▸ ?_
      rw [if_pos rfl]
      exact List.mem_filter.2 ⟨hflight, by simpa using h1⟩
  rcases sesDone_cases d n with he | he
  · rwa [he]
  · rw [he]
    exact Device.mem_holds_sesGo hhere

/-! #### A message, and the session's next state behind it -/

section
variable (d : Device) {n : Nat} (hn : n < 16) (msg : List Byte) {k : Nat} (hk : msg.length = 64 * k) (hq : d.man.queue = [])
  (hw : (d.sess n).waiting = []) (hfree : k ≤ d.mFree n)
include hn hk hq hw hfree

/-- A descriptor's own message goes into the slots at MTAIL, and what follows it into the next. -/
theorem storeGet_posted_sesDone {b : Nat} (hb : d.inSlots n (d.index (ringMtail n) + k) 1 b = false) :
    storeGet zeroByte ((d.postMsg n msg).sesDone n).sram b = storeGet zeroByte (d.writeMsg n msg).sram b := by
  have hpost : d.postMsg n msg = d.writeMsg n msg := postMsg_eq hq hw (by omega)
  rw [hpost]
  refine sramOutside_sesDone (d.writeMsg n msg) hn b ?_
  rw [inSlots_congr (ringMbase_writeMsg d hn msg) (ringCfg_writeMsg d hn msg), index_writeMsg d hn msg, show msg.length / 64 = k by omega]
  rw [inSlots_false_iff] at hb ⊢
  intro j hj
  rw [mSlotAddr_mod]
  exact hb j hj

/-- The message itself stands in its slots where the ring has a slot beside them. -/
theorem storeGet_posted_sesDone_held (hdepth : k < d.mDepth n) {c : Nat} (hc : c < 64) (hk0 : 0 < k) :
    storeGet zeroByte ((d.postMsg n msg).sesDone n).sram (d.mSlotAddr n (d.index (ringMtail n)) + c) = msg.getD c 0 := by
  have hout : d.inSlots n (d.index (ringMtail n) + k) 1 (d.mSlotAddr n (d.index (ringMtail n)) + c) = false := by
    rw [inSlots_false_iff]
    intro j hj
    rw [show d.index (ringMtail n) + k + j = d.index (ringMtail n) + k by omega]
    exact mSlotAddr_apart d n _ (j := 0) (mDepth_pos d n) hdepth (by omega) hc
  rw [storeGet_posted_sesDone d hn msg hk hq hw hfree hout]
  have hheld := storeGet_writeMsg d hn msg hk hfree (c := c) (by omega)
  rwa [Nat.div_eq_of_lt hc, Nat.mod_eq_of_lt hc, Nat.add_zero] at hheld

/-- Nothing else of ring memory changes. -/
theorem sramOutside_posted_sesDone : Device.SramOutside (d.inSlots n (d.index (ringMtail n)) (k + 1)) d ((d.postMsg n msg).sesDone n) := by
  intro b hb
  have hnext : d.inSlots n (d.index (ringMtail n) + k) 1 b = false := by
    rw [inSlots_false_iff] at hb ⊢
    intro j hj
    rw [Nat.add_assoc]
    exact hb (k + j) (by omega)
  rw [storeGet_posted_sesDone d hn msg hk hq hw hfree hnext, sramOutside_writeMsg d hn msg hk b (inSlots_mono hb (by omega))]

end

end Sys2Proof.Machine


namespace Sys2Proof.Machine

/-! ### SNAPSHOT and NOISE (R134, R258) -/

section
variable {s : State} (hn : s.dev.NoRemote) (n : Fin 16)
include hn

/-- A capture begins as the tide reaches START. -/
theorem snapshotCaptureStart_completes (x : Desc) (hrun : (s.dev.sess n.val).run = some x) (hop : x.byte 0 = 0x15)
    (hst : s.dev.sesState n.val = 7) (hstart : x.started = false) (htide : x.le 8 8 ≤ s.dev.stamp) :
    Completes (.snapshotCaptureStart n) s (fun e => (e.sess n.val).run = some { x with started := true, startTide := s.dev.stamp }
      ∧ Device.OnlyRegs [] s.dev e) := by
  have heq : snapshotCaptureStart n.val s.dev = s.dev.captureBegin n.val := by
    unfold snapshotCaptureStart
    rw [hrun]
    dsimp only
    rw [if_pos (by simp [hop, hst, hstart, htide])]
  have hn' : (s.dev.captureBegin n.val).NoRemote := heq ▸ snapshotCaptureStart_closed noRemote_closed hn
  refine completes_act (snapshotCaptureStart n.val) rfl ?_
  rw [heq]
  refine ⟨?_, onlyRegs_settle hn' (fun a _ => Device.rd_modSes _ _ _ a) rfl rfl⟩
  rw [Device.sess_settle _ hn', Device.captureBegin, Device.sess_modSes_self _ _ _ n.isLt]
  dsimp only
  rw [hrun]
  rfl

end

/-- Where sample `i` of a capture lies in the berth of session `n`: sample `i / 64` of PATH_(i mod 64) (R134). -/
def berthAddr (n i : Nat) : Nat := 0x0800000 + 0x40000 * n + 4 * (1024 * (i % 64) + i / 64)

theorem berthAddr_sample (n k : Nat) {p : Nat} (hp : p < 64) : berthAddr n (64 * k + p) = 0x0800000 + 0x40000 * n + 4 * (1024 * p + k) := by
  unfold berthAddr
  omega

/-- One sample stored in the berth. -/
def Device.putSample (n : Nat) (d : Device) (x : Nat × Word) : Device :=
  { d with sram := writeBytes zeroByte d.sram (berthAddr n x.1) (leBytes 4 x.2.toNat) }

theorem putSample_same (n : Nat) (d : Device) (x : Nat × Word) : Device.putSample n d x = { d with sram := (Device.putSample n d x).sram } := rfl

theorem getD_leBytes4 (w : Word) {c : Nat} (hc : c < 4) : (leBytes 4 w.toNat).getD c 0 = w.extractLsb' (8 * c) 8 := by
  have hval : ∀ k, BitVec.ofNat 8 (w.toNat / 256 ^ k) = w.extractLsb' (8 * k) 8 := fun k => by
    apply BitVec.eq_of_toNat_eq
    rw [BitVec.toNat_ofNat, BitVec.extractLsb'_toNat, Nat.shiftRight_eq_div_pow, Nat.pow_mul]
  match c, hc with
  | 0, _ => simpa [leBytes] using hval 0
  | 1, _ => simpa [leBytes] using hval 1
  | 2, _ => simpa [leBytes, Nat.div_div_eq_div_mul] using hval 2
  | 3, _ => simpa [leBytes, Nat.div_div_eq_div_mul] using hval 3

theorem storeGet_putSample (n : Nat) (d : Device) (x : Nat × Word) {c : Nat} (hc : c < 4) :
    storeGet zeroByte (Device.putSample n d x).sram (berthAddr n x.1 + c) = x.2.extractLsb' (8 * c) 8 := by
  have hlen : (leBytes 4 x.2.toNat).length = 4 := rfl
  rw [Device.putSample, storeGet_writeBytes, if_pos (by rw [hlen]; omega), Nat.add_sub_cancel_left, getD_leBytes4 _ hc]

theorem storeGet_putSample_outside (n : Nat) (d : Device) (x : Nat × Word) {b : Nat} (h : b < berthAddr n x.1 ∨ berthAddr n x.1 + 4 ≤ b) :
    storeGet zeroByte (Device.putSample n d x).sram b = storeGet zeroByte d.sram b := by
  have hlen : (leBytes 4 x.2.toNat).length = 4 := rfl
  rw [Device.putSample, storeGet_writeBytes, if_neg (by rw [hlen]; omega)]

/-- Samples of one capture do not overlap. -/
theorem berthAddr_apart (n : Nat) {i j c : Nat} (hi : i < 65536) (hj : j < 65536) (h : i ≠ j) (hc : c < 4) :
    berthAddr n i + c < berthAddr n j ∨ berthAddr n j + 4 ≤ berthAddr n i + c := by
  unfold berthAddr
  omega

section
variable (n : Nat) (ws : List Word)

theorem storeGet_samples_outside (i : Nat) (d : Device) {b : Nat} (h : ∀ j, i ≤ j → j < i + ws.length → b < berthAddr n j ∨ berthAddr n j + 4 ≤ b) :
    storeGet zeroByte (d.forAll ((List.range' i ws.length).zip ws) (Device.putSample n)).sram b = storeGet zeroByte d.sram b := by
  induction ws generalizing i d with
  | nil => rfl
  | cons w t ih =>
    rw [List.length_cons, List.range'_succ, List.zip_cons_cons, Device.forAll_cons,
      ih (i + 1) _ (fun j h1 h2 => h j (by omega) (by rw [List.length_cons]; omega))]
    exact storeGet_putSample_outside n d (i, w) (h i (by omega) (by rw [List.length_cons]; omega))

/-- Each sample of a capture stands at its place in the berth. -/
theorem storeGet_samples (i : Nat) (d : Device) (hlen : i + ws.length ≤ 65536) {j c : Nat} (hj : j < ws.length) (hc : c < 4) :
    storeGet zeroByte (d.forAll ((List.range' i ws.length).zip ws) (Device.putSample n)).sram (berthAddr n (i + j) + c)
      = (ws.getD j 0).extractLsb' (8 * c) 8 := by
  induction ws generalizing i d j with
  | nil => exact absurd hj (by simp)
  | cons w t ih =>
    simp only [List.length_cons] at hlen hj
    rw [List.length_cons, List.range'_succ, List.zip_cons_cons, Device.forAll_cons]
    cases j with
    | zero =>
      rw [storeGet_samples_outside n t (i + 1) _ (fun j h1 h2 => berthAddr_apart n (by omega) (by omega) (by omega) hc)]
      exact storeGet_putSample n d (i, w) hc
    | succ j =>
      have hrest := ih (i + 1) (Device.putSample n d (i, w)) (by omega) (show j < t.length by omega)
      rwa [List.getD_cons_succ, show i + (j + 1) = i + 1 + j by omega]

theorem samples_same (l : List (Nat × Word)) (d : Device) :
    d.forAll l (Device.putSample n) = { d with sram := (d.forAll l (Device.putSample n)).sram } := by
  induction l generalizing d with
  | nil => rfl
  | cons x t ih => rw [Device.forAll_cons, ih, putSample_same]

end

/-- A path's sample is kept where the path streams and is ON, and is 0 elsewhere (R258). -/
theorem getD_pathSamples (d : Device) (samples : List Word) {i : Nat} (hi : i < samples.length) : (d.pathSamples samples).getD i 0
    = if d.on (fPathCfgStreamInc (i % 64)) && d.get (fPsState (0x40 + i % 64)) = 6 then samples.getD i 0 else 0 := by
  simp [Device.pathSamples, List.getD_eq_getElem?_getD, hi]

theorem length_pathSamples (d : Device) (samples : List Word) : (d.pathSamples samples).length = samples.length := by
  simp [Device.pathSamples]

/-- The device with a capture in the berth, which is frozen with it. -/
def Device.captured (d : Device) (n : Nat) (ws : List Word) : Device :=
  ((((d.forAll ((List.range' 0 ws.length).zip ws) (Device.putSample n)).put (fSesBerthFreeze n) 1).put (fSesBerthFrozen n) 1).holdAsk n 4)

/-- The body of SNAPSHOT_READY (R144). -/
def snapBody (x : Desc) : List Byte :=
  [BitVec.ofNat 8 (x.byte 4), BitVec.ofNat 8 (x.byte 5)] ++ le16 (x.le 6 2) ++ leBytes 4 (256 * x.le 6 2)

/-- A session whose descriptor no longer runs. -/
def SesSt.idle (s : SesSt) : SesSt := { s with run := none }

theorem snapshotDone_eq {d : Device} {n : Nat} {x : Desc} (h : (d.sess n).run = some x) : d.snapshotDone n
    = (((d.modSes n SesSt.idle)).postMsg n ((d.modSes n SesSt.idle).message 0x05 n x.cookie x.startTide (snapBody x))).sesDone n := by
  unfold Device.snapshotDone
  rw [h]
  rfl

theorem holdAsk_same (d : Device) (n why : Nat) : d.holdAsk n why = { d with ses := (d.holdAsk n why).ses } := by
  unfold Device.holdAsk
  split <;> rfl

theorem run_holdAsk (d : Device) (n why m : Nat) : ((d.holdAsk n why).sess m).run = (d.sess m).run := by
  by_cases h : m = n
  · subst h
    exact (posts_holdAsk [] m d why).keeps SesSt.run (fun _ _ _ _ => rfl)
  · rw [(posts_holdAsk [] n d why).others m h]

theorem waiting_holdAsk (d : Device) (n why : Nat) (hn : n < 16) : ((d.holdAsk n why).sess n).waiting = (d.sess n).waiting := by
  unfold Device.holdAsk
  split
  · rfl
  · rw [Device.sess_modSes_self _ _ _ hn]

section
variable (d : Device) {n : Nat} (hn : n < 16) (ws : List Word)
include hn

omit hn in
theorem captured_same : d.captured n ws
    = { d with regs := (d.captured n ws).regs, ses := (d.captured n ws).ses,
               sram := (d.forAll ((List.range' 0 ws.length).zip ws) (Device.putSample n)).sram } := by
  rw [Device.captured, holdAsk_same, samples_same]
  rfl

omit hn in
theorem rd_captured {a : Nat} (h : a ≠ sesBerth n) : (d.captured n ws).rd a = d.rd a := by
  have hsamples : ∀ (l : List (Nat × Word)), (d.forAll l (Device.putSample n)).rd a = d.rd a := fun l => by
    rw [samples_same]
    rfl
  rw [Device.captured, (posts_holdAsk [] n _ 4).regs a (by simp), Device.rd_put_ne _ _ _ _ h, Device.rd_put_ne _ _ _ _ h, hsamples]

theorem sess_captured : ((d.captured n ws).sess n).run = (d.sess n).run ∧ ((d.captured n ws).sess n).waiting = (d.sess n).waiting
    ∧ 4 ∈ ((d.captured n ws).sess n).holds := by
  have hsess : ∀ (l : List (Nat × Word)), (d.forAll l (Device.putSample n)).sess n = d.sess n := fun l => by
    rw [samples_same]
    rfl
  unfold Device.captured
  refine ⟨?_, ?_, Device.holdAsk_mem hn 4⟩
  · rw [run_holdAsk, Device.sess_put, Device.sess_put, hsess]
  · rw [waiting_holdAsk _ _ _ hn, Device.sess_put, Device.sess_put, hsess]

omit hn in
theorem frozen_captured : (d.captured n ws).get (fSesBerthFreeze n) = 1 ∧ (d.captured n ws).get (fSesBerthFrozen n) = 1 := by
  unfold Device.captured
  rw [(posts_holdAsk [] n _ 4).get _ (by simp), (posts_holdAsk [] n _ 4).get _ (by simp)]
  constructor
  · rw [Device.get_put_apart _ _ _ _ (by simp [fSesBerthFrozen]) (by simp [fSesBerthFrozen]) (by simp [fSesBerthFreeze, fSesBerthFrozen]),
      Device.get_put_same _ _ _ (by simp [fSesBerthFreeze]) (by simp [fSesBerthFreeze])]
    rfl
  · rw [Device.get_put_same _ _ _ (by simp [fSesBerthFrozen]) (by simp [fSesBerthFrozen])]
    rfl

end

end Sys2Proof.Machine


namespace Sys2Proof.Machine

theorem snapshotCaptureEnd_eq {d : Device} {n : Nat} {x : Desc} {samples : List Word} (hrun : (d.sess n).run = some x) (hop : x.byte 0 = 0x15)
    (hdest : x.byte 4 = 0) (hstart : x.started = true) (hst : d.sesState n = 7) (hlen : samples.length = 64 * x.le 6 2) :
    snapshotCaptureEnd n samples d = (d.captured n (d.pathSamples samples)).snapshotDone n := by
  have htake : (d.pathSamples samples).take (64 * x.le 6 2) = d.pathSamples samples :=
    List.take_of_length_le (by rw [length_pathSamples, hlen])
  unfold snapshotCaptureEnd
  rw [hrun]
  dsimp only
  rw [if_pos (by simp [hop, hdest, hstart, hst]), htake, List.range_eq_range']
  rfl

theorem man_captured (d : Device) (n : Nat) (ws : List Word) : (d.captured n ws).man = d.man := by rw [captured_same]

theorem sram_captured (d : Device) (n : Nat) (ws : List Word) :
    (d.captured n ws).sram = (d.forAll ((List.range' 0 ws.length).zip ws) (Device.putSample n)).sram := by rw [captured_same]

theorem length_snapBody (x : Desc) : (snapBody x).length = 8 := by
  have h16 : ∀ i, (le16 i).length = 2 := fun _ => rfl
  have h4 : ∀ i, (leBytes 4 i).length = 4 := fun _ => rfl
  simp only [snapBody, List.length_append, List.length_cons, List.length_nil, h16, h4]

theorem waiting_idle (s : SesSt) : s.idle.waiting = s.waiting := rfl

theorem holds_idle (s : SesSt) : s.idle.holds = s.holds := rfl

theorem sess_idle (d : Device) {n : Nat} (hn : n < 16) : (d.modSes n SesSt.idle).sess n = (d.sess n).idle := Device.sess_modSes_self _ _ _ hn

theorem run_sesDone (d : Device) {n : Nat} (hn : n < 16) : ((d.sesDone n).sess n).run = none := by
  rw [(posts_sesDone n d).keeps SesSt.run (fun _ _ _ _ => rfl), Device.sess_modSes_self _ _ _ hn]
  rfl

theorem rd_sesDone (d : Device) {n a : Nat} (ha : a ∉ flightRegs n) : (d.sesDone n).rd a = d.rd a := by
  rw [(posts_sesDone n d).regs a ha, Device.rd_modSes]

theorem rd_posted_sesDone (d : Device) {n a : Nat} (msg : List Byte) (ha : a ∉ flightRegs n) : ((d.postMsg n msg).sesDone n).rd a = d.rd a := by
  rw [rd_sesDone _ ha, (posts_postMsg n d msg).regs a (fun h => ha (by simp [flightRegs, stateRegs, h]))]

section
variable {s : State} (hn : s.dev.NoRemote) (n : Fin 16)
include hn

theorem snapshotCaptureEnd_completes (x : Desc) (samples : List Word) (hrun : (s.dev.sess n.val).run = some x) (hop : x.byte 0 = 0x15)
    (hdest : x.byte 4 = 0) (hstart : x.started = true) (hst : s.dev.sesState n.val = 7) (hlen : samples.length = 64 * x.le 6 2)
    (hmax : x.le 6 2 ≤ 1024) (htakes : s.dev.takesMsg n.val 1) :
    Completes (.snapshotCaptureEnd n samples) s (fun e => (e.sess n.val).run = none ∧ e.on (fSesBerthFreeze n.val) = true
      ∧ e.on (fSesBerthFrozen n.val) = true ∧ 4 ∈ (e.sess n.val).holds
      ∧ (∀ p : Fin 64, ∀ k, k < x.le 6 2 → ∀ i : Fin 4,
          s.dev.inSlots n.val (s.dev.index (ringMtail n.val)) 2 (0x0800000 + 0x40000 * n.val + 4 * (1024 * p.val + k) + i.val) = false →
            storeGet zeroByte e.sram (0x0800000 + 0x40000 * n.val + 4 * (1024 * p.val + k) + i.val)
              = (if s.dev.on (fPathCfgStreamInc p.val) && s.dev.get (fPsState (0x40 + p.val)) = 6 then (samples.getD (64 * k + p.val) 0).extractLsb' (8 * i.val) 8 else 0))
      ∧ Device.SramOutside (fun b => (decide (0x0800000 + 0x40000 * n.val ≤ b) && decide (b < 0x0840000 + 0x40000 * n.val))
          || s.dev.inSlots n.val (s.dev.index (ringMtail n.val)) 2 b) s.dev e) := by
  have hlt := n.isLt
  obtain ⟨hq, hw, hfree⟩ := htakes
  have heq := snapshotCaptureEnd_eq hrun hop hdest hstart hst hlen
  have hws := length_pathSamples s.dev samples
  have hval := fun i (hi : i < samples.length) => getD_pathSamples s.dev samples hi
  generalize s.dev.pathSamples samples = ws at heq hws hval
  obtain ⟨hrun', hw', hhold⟩ := sess_captured s.dev hlt ws
  rw [snapshotDone_eq (hrun'.trans hrun)] at heq
  have hmsg : (((s.dev.captured n.val ws).modSes n.val SesSt.idle).message 0x05 n.val x.cookie x.startTide (snapBody x)).length = 64 * 1 := by
    rw [length_message, length_snapBody]
  generalize ((s.dev.captured n.val ws).modSes n.val SesSt.idle).message 0x05 n.val x.cookie x.startTide (snapBody x) = msg at heq hmsg
  have hrd : ∀ a, a ≠ sesBerth n.val → ((s.dev.captured n.val ws).modSes n.val SesSt.idle).rd a = s.dev.rd a :=
    fun a ha => (Device.rd_modSes _ _ _ _).trans (rd_captured s.dev ws ha)
  have hfrozen : ∀ f : Fld, ((s.dev.captured n.val ws).modSes n.val SesSt.idle).get f = (s.dev.captured n.val ws).get f := fun f => Device.get_modSes _ _ _ _
  have hsess := sess_idle (s.dev.captured n.val ws) hlt
  have hman : ((s.dev.captured n.val ws).modSes n.val SesSt.idle).man.queue = [] := by rw [Device.modSes_man, man_captured, hq]
  have hmem := (Device.modSes_sram (s.dev.captured n.val ws) n.val SesSt.idle).trans (sram_captured s.dev n.val ws)
  have hn' : (snapshotCaptureEnd n.val samples s.dev).NoRemote := snapshotCaptureEnd_closed noRemote_closed hn
  refine completes_act (snapshotCaptureEnd n.val samples) rfl ?_
  rw [heq] at hn' ⊢
  generalize (s.dev.captured n.val ws).modSes n.val SesSt.idle = c at hrd hfrozen hsess hman hmem hn' ⊢
  have hring : Device.SameRing n.val s.dev c := .of_rd hlt (fun a hpage _ => hrd a (by rw [sesBerth]; omega))
  have hfree' : 1 ≤ c.mFree n.val := by rwa [mFree_congr hlt (fun a ha => hrd a (by rw [sesBerth]; omega))]
  have hsram : ∀ b, s.dev.inSlots n.val (s.dev.index (ringMtail n.val)) 2 b = false → storeGet zeroByte ((c.postMsg n.val msg).sesDone n.val).settle.sram b
      = storeGet zeroByte (s.dev.forAll ((List.range' 0 ws.length).zip ws) (Device.putSample n.val)).sram b := fun b hb => by
    rw [settle_sram _ hn', ← hmem]
    exact sramOutside_posted_sesDone c hlt msg hmsg hman (by rw [hsess, waiting_idle, hw', hw]) hfree' b (by rwa [hring.index, hring.inSlots])
  have hberth : ∀ f : Fld, f.reg = sesBerth n.val →
      ((c.postMsg n.val msg).sesDone n.val).settle.get f = (s.dev.captured n.val ws).get f := fun f hf => by
    rw [get_pilotPage_settle hn' (by rw [hf, sesBerth]; omega), ← hfrozen, Device.get, rd_posted_sesDone, ← Device.get]
    rw [hf]
    exact not_mem_flightRegs hlt (by rw [sesBerth]; omega) (by simp only [sesBerth, sesStat]; omega) (by simp only [sesBerth, pageStat, wordAt]; omega)
  refine ⟨?_, ?_, ?_, ?_, fun p k hk i hout => ?_, fun b hb => ?_⟩
  · rw [Device.sess_settle _ hn', run_sesDone _ hlt]
  · rw [Device.on, hberth _ rfl, (frozen_captured s.dev ws).1]
    rfl
  · rw [Device.on, hberth _ rfl, (frozen_captured s.dev ws).2]
    rfl
  · rw [Device.sess_settle _ hn']
    refine mem_holds_sesDone hlt (Device.mem_holds_postMsg ?_) (by decide) (by decide)
    rwa [hsess, holds_idle]
  · have hi : 64 * k + p.val < samples.length := by
      have := p.isLt
      omega
    have hmod : (64 * k + p.val) % 64 = p.val := by
      have := p.isLt
      omega
    have hsample := storeGet_samples n.val ws 0 s.dev (by omega) (j := 64 * k + p.val) (by omega) i.isLt
    rw [Nat.zero_add, hval _ hi, hmod] at hsample
    rw [hsram _ hout, ← berthAddr_sample n.val k p.isLt, hsample]
    split
    · rfl
    · simp
  · simp only [Bool.or_eq_false_iff] at hb
    rw [hsram b hb.2, storeGet_samples_outside]
    intro j _ hj
    have hout := hb.1
    simp only [Bool.and_eq_false_iff, decide_eq_false_iff_not] at hout
    unfold berthAddr
    omega

end

/-- The body of NOISE_REPORT (R144). -/
def Device.noiseBody (d : Device) (n : Nat) (x : Desc) (a b : BitVec 16) (levels : List (BitVec 16)) : List Byte :=
  let head := [BitVec.ofNat 8 (x.byte 6), BitVec.ofNat 8 (d.sesCar n)] ++ le16 (x.le 4 2)
  if x.byte 6 = 0 then head ++ le16 a.toNat ++ le16 b.toNat
  else head ++ le16 0x8000 ++ le16 0x8000 ++ (List.range 64).flatMap (fun p => le16 (if d.mutedPath p then 0x8000 else (levels.getD p 0x8000).toNat))

theorem noiseMeasureEnd_eq {d : Device} {n : Nat} {x : Desc} {a b : BitVec 16} {levels : List (BitVec 16)} (hrun : (d.sess n).run = some x)
    (hop : x.byte 0 = 0x16) (hst : d.sesState n = 7) : noiseMeasureEnd n a b levels d
      = ((d.modSes n SesSt.idle).postMsg n ((d.modSes n SesSt.idle).message 0x04 n x.cookie d.stamp (d.noiseBody n x a b levels))).sesDone n := by
  unfold noiseMeasureEnd
  rw [hrun]
  dsimp only
  rw [if_pos (by simp [hop, hst])]
  rfl

theorem length_flatMap_le16 (f : Nat → Nat) (l : List Nat) : (l.flatMap (fun p => le16 (f p))).length = 2 * l.length := by
  induction l with
  | nil => rfl
  | cons x t ih =>
    have h16 : (le16 (f x)).length = 2 := rfl
    rw [List.flatMap_cons, List.length_append, ih, h16, List.length_cons]
    omega

/-- NOISE_REPORT takes one slot, or three with the levels of every path. -/
theorem length_noiseBody (d : Device) (n : Nat) (x : Desc) (a b : BitVec 16) (levels : List (BitVec 16)) :
    (d.noiseBody n x a b levels).length = if x.byte 6 = 0 then 8 else 136 := by
  have h16 : ∀ i, (le16 i).length = 2 := fun _ => rfl
  unfold Device.noiseBody
  dsimp only
  split
  · simp only [List.length_append, List.length_cons, List.length_nil, h16]
  · simp only [List.length_append, List.length_cons, List.length_nil, h16, length_flatMap_le16, List.length_range]

/-- A message's bytes: its header first, its body from byte 16 on. -/
theorem getD_message_body (d : Device) (type n cookie tide : Nat) (body : List Byte) {k : Nat} (hk : k < body.length) :
    (d.message type n cookie tide body).getD (16 + k) 0 = body.getD k 0 := by
  have h16 : ∀ i, (le16 i).length = 2 := fun _ => rfl
  have h8 : ∀ i, (leBytes 8 i).length = 8 := fun _ => rfl
  have hhead : ([BitVec.ofNat 8 type, 3, BitVec.ofNat 8 n, BitVec.ofNat 8 ((16 + body.length + 63) / 64)]
      ++ le16 d.deviceNumber ++ le16 cookie ++ leBytes 8 tide).length = 16 := by
    simp only [List.length_append, List.length_cons, List.length_nil, h16, h8]
  unfold Device.message padTo
  rw [List.getD_append _ _ _ _ (by rw [List.length_append, hhead]; omega), List.getD_append_right _ _ _ _ (by rw [hhead]; omega), hhead,
    Nat.add_sub_cancel_left]

theorem getD_message_type (d : Device) (type n cookie tide : Nat) (body : List Byte) :
    (d.message type n cookie tide body).getD 0 0 = BitVec.ofNat 8 type := by
  simp [Device.message, padTo]

theorem getD_le16 (a : BitVec 16) {k : Nat} (hk : k < 2) : (le16 a.toNat).getD k 0 = a.extractLsb' (8 * k) 8 := by
  have hval : ∀ k, BitVec.ofNat 8 (a.toNat / 256 ^ k) = a.extractLsb' (8 * k) 8 := fun k => by
    apply BitVec.eq_of_toNat_eq
    rw [BitVec.toNat_ofNat, BitVec.extractLsb'_toNat, Nat.shiftRight_eq_div_pow, Nat.pow_mul]
  match k, hk with
  | 0, _ => simpa [le16, leBytes] using hval 0
  | 1, _ => simpa [le16, leBytes] using hval 1

theorem getD_noiseBody (d : Device) (n : Nat) (x : Desc) (a b : BitVec 16) (levels : List (BitVec 16)) (h0 : x.byte 6 = 0) {k : Nat} (hk : k < 2) :
    (d.noiseBody n x a b levels).getD (4 + k) 0 = a.extractLsb' (8 * k) 8 := by
  rw [← getD_le16 a hk, Device.noiseBody, if_pos h0]
  match k, hk with
  | 0, _ => rfl
  | 1, _ => rfl

section
variable {s : State} (hn : s.dev.NoRemote) (n : Fin 16)
include hn

theorem noiseMeasureEnd_completes (x : Desc) (a b : BitVec 16) (levels : List (BitVec 16)) (hrun : (s.dev.sess n.val).run = some x)
    (hop : x.byte 0 = 0x16) (hst : s.dev.sesState n.val = 7) (htakes : s.dev.takesMsg n.val 4) :
    Completes (.noiseMeasureEnd n a b levels) s (fun e => (e.sess n.val).run = none
      ∧ storeGet zeroByte e.sram (s.dev.mSlotAddr n.val (s.dev.index (ringMtail n.val))) = 0x04#8
      ∧ (x.byte 6 = 0 → ∀ k : Fin 2, storeGet zeroByte e.sram (s.dev.mSlotAddr n.val (s.dev.index (ringMtail n.val)) + 20 + k.val) = a.extractLsb' (8 * k.val) 8)) := by
  have hlt := n.isLt
  obtain ⟨hq, hw, hfree⟩ := htakes
  have heq := noiseMeasureEnd_eq (a := a) (b := b) (levels := levels) hrun hop hst
  have hbody := length_noiseBody s.dev n.val x a b levels
  have hfirst := getD_message_type (s.dev.modSes n.val SesSt.idle) 0x04 n.val x.cookie s.dev.stamp (s.dev.noiseBody n.val x a b levels)
  have hrest := fun k => getD_message_body (s.dev.modSes n.val SesSt.idle) 0x04 n.val x.cookie s.dev.stamp (s.dev.noiseBody n.val x a b levels) (k := k)
  have hlen := length_message (s.dev.modSes n.val SesSt.idle) 0x04 n.val x.cookie s.dev.stamp (s.dev.noiseBody n.val x a b levels)
  generalize (s.dev.modSes n.val SesSt.idle).message 0x04 n.val x.cookie s.dev.stamp (s.dev.noiseBody n.val x a b levels) = msg at heq hfirst hrest hlen
  obtain ⟨k, hk0, hk4, hk⟩ : ∃ k, 0 < k ∧ k < 4 ∧ msg.length = 64 * k := by
    rw [hlen, hbody]
    split
    · exact ⟨1, by decide, by decide, rfl⟩
    · exact ⟨3, by decide, by decide, rfl⟩
  have hring := sameRing_modSes s.dev n.val n.val SesSt.idle
  have hsess := sess_idle s.dev hlt
  have hman : (s.dev.modSes n.val SesSt.idle).man.queue = [] := by rw [Device.modSes_man, hq]
  have hfree' : (s.dev.modSes n.val SesSt.idle).mFree n.val = s.dev.mFree n.val := mFree_congr hlt (fun a _ => Device.rd_modSes _ _ _ a)
  have hn' : (noiseMeasureEnd n.val a b levels s.dev).NoRemote := noiseMeasureEnd_closed noRemote_closed hn
  refine completes_act (noiseMeasureEnd n.val a b levels) rfl ?_
  rw [heq] at hn' ⊢
  generalize s.dev.modSes n.val SesSt.idle = e at hring hsess hman hfree' hn' ⊢
  have hheld : ∀ c, c < 64 → storeGet zeroByte ((e.postMsg n.val msg).sesDone n.val).settle.sram (s.dev.mSlotAddr n.val (s.dev.index (ringMtail n.val)) + c)
      = msg.getD c 0 := fun c hc => by
    have hdepth : k < e.mDepth n.val := by
      have := mFree_le e n.val
      omega
    rw [settle_sram _ hn', ← hring.mSlotAddr, ← hring.index]
    exact storeGet_posted_sesDone_held e hlt msg hk hman (by rw [hsess, waiting_idle, hw]) (by omega) hdepth hc hk0
  refine ⟨?_, ?_, fun h0 c => ?_⟩
  · rw [Device.sess_settle _ hn', run_sesDone _ hlt]
  · have h := hheld 0 (by decide)
    rwa [Nat.add_zero, hfirst] at h
  · have hc := c.isLt
    rw [h0, if_pos rfl] at hbody
    rw [Nat.add_assoc, hheld (20 + c.val) (by omega), show 20 + c.val = 16 + (4 + c.val) by omega, hrest _ (by omega),
      getD_noiseBody _ _ _ _ _ _ h0 hc]

end

end Sys2Proof.Machine


namespace Sys2Proof.Machine

/-! ### What stays of the beamformer while levels, figures and sessions move -/

/-- From `d` to `e` what the beamformer holds, and the BF page, stay. -/
structure Device.BfKept (d e : Device) : Prop where
  bf : e.bf = d.bf
  regs : ∀ a, a / 1024 = 0x16 → e.rd a = d.rd a

theorem Device.BfKept.refl (d : Device) : Device.BfKept d d := ⟨rfl, fun _ _ => rfl⟩

theorem Device.BfKept.trans {d e f : Device} (h : Device.BfKept d e) (g : Device.BfKept e f) : Device.BfKept d f :=
  ⟨g.bf.trans h.bf, fun a ha => (g.regs a ha).trans (h.regs a ha)⟩

theorem bfKept_forAll {α : Type} {l : List α} {f : Device → α → Device} (h : ∀ d, ∀ x ∈ l, Device.BfKept d (f d x)) (d : Device) :
    Device.BfKept d (d.forAll l f) := by
  induction l generalizing d with
  | nil => exact .refl d
  | cons x t ih => exact (h d x (by simp)).trans (ih (fun d y hy => h d y (by simp [hy])) _)

theorem Posts.bfKept {l : List Nat} {n : Nat} {d e : Device} (h : Posts l n d e) (hl : ∀ a ∈ l, a / 1024 ≠ 0x16) : Device.BfKept d e where
  bf := by rw [h.same]
  regs a ha := h.regs a (fun hm => hl a hm ha)

theorem FreeOnly.bfKept {d e : Device} (h : FreeOnly d e) : Device.BfKept d e := by
  rw [FreeOnly] at h
  exact ⟨by rw [h], fun _ _ => by rw [h]; rfl⟩

section
variable (d : Device)

theorem bfKept_wr {a : Nat} (v : Word) (h : a / 1024 ≠ 0x16) : Device.BfKept d (d.wr a v) where
  bf := rfl
  regs b hb := by rw [Device.rd_wr, if_neg (fun hab : b = a => h (hab ▸ hb))]

theorem bfKept_put {f : Fld} (v : Nat) (h : f.reg / 1024 ≠ 0x16) : Device.BfKept d (d.put f v) := bfKept_wr d _ h

theorem bfKept_irq (p b : Nat) (h : p ≠ 0x16) : Device.BfKept d (d.irq p b) where
  bf := by rw [irq_same]
  regs a ha := d.rd_irq_ne p b a (by simp only [irqStat, wordAt]; omega)

theorem bfKept_modSes (n : Nat) (f : SesSt → SesSt) : Device.BfKept d (d.modSes n f) := ⟨rfl, fun a _ => Device.rd_modSes _ _ _ a⟩

theorem bfKept_modPath (p : Nat) (f : PathSt → PathSt) : Device.BfKept d (d.modPath p f) := ⟨rfl, fun a _ => Device.rd_modPath _ _ _ a⟩

theorem bfKept_reglRecord (reason n c : Nat) (clip noStream : Bool) (factor : Nat) :
    Device.BfKept d (d.reglRecord reason n c clip noStream factor) := by
  have hput : ∀ (e : Device) (f : Fld) (v : Nat), f.reg = reglLast → Device.BfKept e (e.put f v) :=
    fun e f v hf => bfKept_put e v (hf ▸ (by decide))
  exact (((((hput _ _ _ rfl).trans (hput _ _ _ rfl)).trans (hput _ _ _ rfl)).trans (hput _ _ _ rfl)).trans (hput _ _ _ rfl)).trans
    (hput _ _ _ rfl)

theorem bfKept_reglRefuse (reason n c : Nat) (noStream : Bool) : Device.BfKept d (d.reglRefuse reason n c noStream) :=
  ((bfKept_reglRecord d _ _ _ _ _ _).trans (bfKept_put _ _ (show reglCounts / 1024 ≠ 0x16 by decide))).trans (bfKept_irq _ _ _ (by decide))

theorem bfKept_reglClip (reason n c : Nat) (noStream : Bool) (factor : Nat) : Device.BfKept d (d.reglClip reason n c noStream factor) :=
  ((bfKept_reglRecord d _ _ _ _ _ _).trans (bfKept_put _ _ (show reglCounts / 1024 ≠ 0x16 by decide))).trans (bfKept_irq _ _ _ (by decide))

theorem bfKept_await (c : Change) : Device.BfKept d (d.await c) := by
  refine Device.BfKept.trans ?_ (bfKept_put _ _ (show calStat / 1024 ≠ 0x16 by decide))
  exact ⟨rfl, fun _ _ => rfl⟩

theorem bfKept_levelAsk {p : Nat} (hp : p < 64) (l : Int) : Device.BfKept d (d.levelAsk p l) := by
  refine ((bfKept_modPath d p _).trans (bfKept_put _ _ ?_)).trans (bfKept_await _ _)
  simp only [fPathTxpwrNowPending, pathTxpwrNow]
  omega

theorem bfKept_levelAgain {p : Nat} (hp : p < 64) : Device.BfKept d (d.levelAgain p) := by
  unfold Device.levelAgain
  split
  · exact .refl d
  · dsimp only
    split
    · exact .refl d
    · split
      · refine ((bfKept_put d _ ?_).trans (bfKept_reglClip _ _ _ _ _ _)).trans (bfKept_levelAsk _ hp _)
        simp only [fPathTxpwrLevel, pathTxpwr]
        omega
      · exact bfKept_levelAsk d hp _

theorem bfKept_showFigures : Device.BfKept d d.showFigures := by
  have hstream : ∀ (e : Device) (v : Word), ∀ n ∈ List.range 16, Device.BfKept e (e.wr (reglStreamFig n) v) := fun e v n hn =>
    bfKept_wr e v (by simp only [reglStreamFig, List.mem_range] at *; omega)
  have hcar : ∀ (e : Device) (v : Word), ∀ c ∈ List.range 4, Device.BfKept e (e.wr (reglCarFig c) v) := fun e v c hc =>
    bfKept_wr e v (by simp only [reglCarFig, List.mem_range] at *; omega)
  unfold Device.showFigures
  split
  · exact (bfKept_forAll (fun e c hc => hcar e _ c hc) d).trans (bfKept_forAll (fun e n hn => hstream e _ n hn) _)
  · refine (bfKept_forAll (fun e n hn => ?_) d).trans (bfKept_forAll (fun e c hc => ?_) _)
    · split
      · exact hstream e _ n hn
      · exact (freeOnly_figureCode e _).bfKept.trans (hstream _ _ n hn)
    · split
      · exact hcar e _ c hc
      · exact ((freeOnly_figureCode e _).bfKept.trans (freeOnly_figureCode _ _).bfKept).trans (hcar _ _ c hc)

/-- Levels and figures computed again leave the beamformer alone. -/
theorem bfKept_reglChanged : Device.BfKept d d.reglChanged :=
  (bfKept_forAll (fun e _ hp => bfKept_levelAgain e (List.mem_range.1 hp)) d).trans (bfKept_showFigures _)

theorem flightRegs_page {n : Nat} (hn : n < 16) : ∀ a ∈ flightRegs n, a / 1024 ≠ 0x16 := by
  simp only [flightRegs, stateRegs, msgRegs, List.mem_cons, List.not_mem_nil, or_false, ringInflight, pageStat, sesStat, ringMtail, irqRaw, irqStat,
    wordAt]
  omega

theorem bfKept_holdEnd (n why : Nat) : Device.BfKept d (d.holdEnd n why) :=
  (bfKept_modSes d n _).trans (bfKept_put _ _ (by simp only [fSesStatHoldWhy, sesStat]; omega))

theorem bfKept_noiseRestart {n : Nat} (hn : n < 16) (a b : Bool) : Device.BfKept d (d.noiseRestart n a b) where
  bf := by
    unfold Device.noiseRestart
    cases a <;> cases b <;> split <;> rfl
  regs r hr := rd_noiseRestart n d a b (by rw [rxfNoise]; omega)

end

/-! #### One stream -/

/-- From `d` to `e` stream `n`, its transmit weights and its word of the BF page stay. -/
structure Device.BeamKept (n : Nat) (d e : Device) : Prop where
  stream : e.stream n = d.stream n
  live : ∀ p, p < 64 → e.weight n p = d.weight n p
  reg : e.rd (bfStream n) = d.rd (bfStream n)

theorem Device.BeamKept.refl (n : Nat) (d : Device) : Device.BeamKept n d d := ⟨rfl, fun _ _ => rfl, rfl⟩

theorem Device.BeamKept.trans {n : Nat} {d e f : Device} (h : Device.BeamKept n d e) (g : Device.BeamKept n e f) : Device.BeamKept n d f :=
  ⟨g.stream.trans h.stream, fun p hp => (g.live p hp).trans (h.live p hp), g.reg.trans h.reg⟩

theorem Device.BeamKept.weights {n : Nat} {d e : Device} (h : Device.BeamKept n d e) : e.weights n = d.weights n :=
  List.map_congr_left (fun p hp => h.live p (List.mem_range.1 hp))

theorem Device.BfKept.beamKept {d e : Device} (h : Device.BfKept d e) {n : Nat} (hn : n < 16) : Device.BeamKept n d e where
  stream := by rw [Device.stream, h.bf, Device.stream]
  live p _ := by rw [Device.weight, h.bf, Device.weight]
  reg := h.regs _ (by rw [bfStream]; omega)

theorem beamKept_when {n : Nat} {d : Device} {c : Bool} {f : Device → Device} (h : Device.BeamKept n d (f d)) : Device.BeamKept n d (d.when c f) := by
  cases c
  · exact .refl n d
  · exact h

theorem beamKept_forAll {α : Type} {n : Nat} {l : List α} {f : Device → α → Device} (h : ∀ d, ∀ x ∈ l, Device.BeamKept n d (f d x)) (d : Device) :
    Device.BeamKept n d (d.forAll l f) := by
  induction l generalizing d with
  | nil => exact .refl n d
  | cons x t ih => exact (h d x (by simp)).trans (ih (fun d y hy => h d y (by simp [hy])) _)

section
variable (d : Device) {n : Nat}

theorem Device.stream_modStream_ne (t : Nat) (f : StreamSt → StreamSt) (h : t ≠ n) : (d.modStream t f).stream n = d.stream n := by
  simp [Device.modStream, Device.stream, Vector.getD, h]

theorem Device.weight_put (f : Fld) (v set p : Nat) : (d.put f v).weight set p = d.weight set p := id rfl

theorem Device.weight_modStream (t : Nat) (f : StreamSt → StreamSt) (set p : Nat) : (d.modStream t f).weight set p = d.weight set p := id rfl

theorem beamKept_modStream (t : Nat) (f : StreamSt → StreamSt) (h : t ≠ n) : Device.BeamKept n d (d.modStream t f) :=
  ⟨d.stream_modStream_ne t f h, fun _ _ => d.weight_modStream t f n _, Device.rd_modStream _ _ _ _⟩

theorem Device.weight_setWeight (set t p q : Nat) (w : Word) (hp : p < 64) (hq : q < 64) :
    (d.setWeight t q w).weight set p = if set = t ∧ p = q then w else d.weight set p := by
  rw [Device.weight, Device.setWeight, storeGet_put, Device.weight]
  by_cases h : set = t ∧ p = q
  · rw [if_pos (by omega), if_pos h]
  · rw [if_neg (by omega), if_neg h]

theorem Device.stream_setWeight (t q : Nat) (w : Word) (m : Nat) : (d.setWeight t q w).stream m = d.stream m := id rfl

theorem Device.rd_setWeight (t q : Nat) (w : Word) (a : Nat) : (d.setWeight t q w).rd a = d.rd a := id rfl

theorem beamKept_setWeights (t : Nat) (ws : List Word) (h : t ≠ n) : Device.BeamKept n d (d.setWeights t ws) := by
  refine beamKept_forAll (fun e q hq => ⟨e.stream_setWeight t q _ n, fun p hp => ?_, e.rd_setWeight t q _ _⟩) d
  rw [Device.weight_setWeight e n t p q _ hp (List.mem_range.1 hq), if_neg (fun hh => h hh.1.symm)]

theorem beamKept_put {f : Fld} (v : Nat) (h : f.reg ≠ bfStream n) : Device.BeamKept n d (d.put f v) :=
  ⟨Device.stream_put _ _ _ _, fun _ _ => Device.weight_put _ _ _ _ _, Device.rd_put_ne _ _ _ _ (fun hh => h hh.symm)⟩

theorem beamKept_groupsStale : Device.BeamKept n d d.groupsStale where
  stream := rfl
  live _ _ := by simp only [Device.weight, Device.groupsStale]
  reg := rfl

variable (hn : n < 16)
include hn

theorem beamKept_admitTx (t : Nat) (form : Steer) (w : List Word) (nulled : Bool) (az el : Int) (h : t ≠ n) :
    Device.BeamKept n d (d.admitTx t form w nulled az el).2 := by
  unfold Device.admitTx
  dsimp only
  split
  · exact (bfKept_reglRefuse d _ _ _ _).beamKept hn
  · split
    · exact (bfKept_reglRefuse d _ _ _ _).beamKept hn
    · split
      · dsimp only
        exact (beamKept_modStream d t _ h).trans ((bfKept_reglChanged _).beamKept hn)
      · split
        · exact (bfKept_reglRefuse d _ _ _ _).beamKept hn
        · split
          · exact (bfKept_reglRefuse d _ _ _ _).beamKept hn
          · dsimp only
            exact (((bfKept_reglClip d _ _ _ _ _).beamKept hn).trans (beamKept_modStream _ t _ h)).trans ((bfKept_reglChanged _).beamKept hn)

theorem beamKept_askSteered (t : Nat) (az el : Int) (h : t ≠ n) : Device.BeamKept n d (d.askSteered t az el).2 :=
  (beamKept_modStream d t _ h).trans (beamKept_admitTx _ hn t _ _ _ _ _ h)

theorem beamKept_txEffect (t : Nat) (h : t ≠ n) : Device.BeamKept n d (d.txEffect t) := by
  have hreg : bfStream t ≠ bfStream n := by simp only [bfStream]; omega
  unfold Device.txEffect
  split
  · exact .refl n d
  · exact (((((beamKept_setWeights d t _ h).trans (beamKept_modStream _ t _ h)).trans (beamKept_put _ _ hreg)).trans (beamKept_put _ _ hreg)).trans
      (beamKept_groupsStale _)).trans ((bfKept_reglChanged _).beamKept hn)

theorem beamKept_freeRefused (t : Nat) (h : t ≠ n) : Device.BeamKept n d (d.freeRefused t) := by
  unfold Device.freeRefused
  split
  · exact (((bfKept_modSes d t _).beamKept hn).trans (beamKept_txEffect _ hn t h)).trans (beamKept_when ((bfKept_holdEnd _ t 5).beamKept hn))
  · exact .refl n d

/-- A changed set of zones asks the carrier's other streams again, never the stream that changed it (R171). -/
theorem beamKept_zonesChanged (c : Nat) : Device.BeamKept n d (d.zonesChanged c n) := by
  refine beamKept_forAll (fun e t ht => ?_) d
  have hne : t ≠ n := by
    have := (List.mem_filter.1 ht).2
    simp only [Bool.and_eq_true, bne_iff_ne] at this
    exact this.1
  exact (beamKept_askSteered e hn t _ _ hne).trans (beamKept_when (beamKept_freeRefused _ hn t hne))

theorem beamKept_sesDone (m : Nat) (hm : m < 16) : Device.BeamKept n d (d.sesDone m) :=
  ((bfKept_modSes d m SesSt.done).trans ((posts_sesDone m d).bfKept (flightRegs_page hm))).beamKept hn

end

/-! #### An admission (R228) -/

/-- The transmit weights an admission leaves waiting. -/
def Device.waitsTx (n : Nat) (form : Steer) (nulled : Bool) (az el : Int) (w : List Word) (e : Device) : Prop :=
  (e.stream n).admitted = true ∧ ∃ old, (e.stream n).pend = some { w := w, form := form, nulled := nulled, az := az, el := el, old := old }

theorem admitTx_waits {d e : Device} {n : Nat} (hn : n < 16) {form : Steer} {w : List Word} {nulled : Bool} {az el : Int}
    (h : d.admitTx n form w nulled az el = (true, e)) : ∃ w', e.waitsTx n form nulled az el w' ∧ (form = .table → w' = w) := by
  have htake : ∀ (x : Device) (u : List Word), ((x.modStream n (fun s => { s with admitted := true, pend := some { w := u, form := form, nulled := nulled, az := az, el := el, old := s.admitted && s.pend.all (·.old) } })).reglChanged).waitsTx n form nulled az el u := fun x u => by
    unfold Device.waitsTx
    rw [((bfKept_reglChanged _).beamKept hn).stream, Device.stream_modStream_self _ _ _ hn]
    exact ⟨rfl, _, rfl⟩
  unfold Device.admitTx at h
  dsimp only at h
  split at h
  · exact absurd (congrArg Prod.fst h) (by simp)
  · split at h
    · exact absurd (congrArg Prod.fst h) (by simp)
    · split at h
      · have he := congrArg Prod.snd h
        dsimp only at he
        exact ⟨w, he ▸ htake d w, fun _ => rfl⟩
      · split at h
        · exact absurd (congrArg Prod.fst h) (by simp)
        · next hform =>
          split at h
          · exact absurd (congrArg Prod.fst h) (by simp)
          · have he := congrArg Prod.snd h
            dsimp only at he
            exact ⟨_, he ▸ htake _ _, fun hh => absurd hh hform⟩

theorem askSteered_waits {d e : Device} {n : Nat} (hn : n < 16) {az el : Int} (h : d.askSteered n az el = (true, e)) :
    ∃ w nulled, e.waitsTx n (.toward az el) nulled az el w := by
  obtain ⟨w, hw, -⟩ := admitTx_waits hn (show (d.modStream n _).admitTx n (.toward az el) (d.txSteer n az el).1 (d.txSteer n az el).2 az el = (true, e) from h)
  exact ⟨w, _, hw⟩

end Sys2Proof.Machine


namespace Sys2Proof.Machine

/-! ### SURVEY (R187, R188) -/

/-- A stream whose waiting transmit weights have taken effect (R133). -/
def StreamSt.takes (t : PendTx) (s : StreamSt) : StreamSt :=
  { s with pend := none, tx := t.form, az := t.az, el := t.el, lostTx := t.lost, fresh := true }

theorem Device.stream_setWeights (d : Device) (set : Nat) (ws : List Word) (m : Nat) : (d.setWeights set ws).stream m = d.stream m :=
  Device.forAll_keeps (fun e => e.stream m) _ _ (fun e p => e.stream_setWeight set p _ m) d

/-- The device as a stream's waiting weights take effect, before levels and figures follow. -/
def Device.txTaken (d : Device) (n : Nat) (t : PendTx) : Device :=
  ((((d.setWeights n t.w).modStream n (StreamSt.takes t)).putB (fBfStreamSrc n) (t.form != .table)).putB (fBfStreamNulled n) t.nulled).groupsStale

theorem txEffect_eq {d : Device} {n : Nat} {t : PendTx} (h : (d.stream n).pend = some t) : d.txEffect n = (d.txTaken n t).reglChanged := by
  unfold Device.txEffect
  rw [h]
  rfl

theorem stream_txEffect {d : Device} {n : Nat} {t : PendTx} (hn : n < 16) (h : (d.stream n).pend = some t) :
    (d.txEffect n).stream n = (d.stream n).takes t := by
  rw [txEffect_eq h, ((bfKept_reglChanged _).beamKept hn).stream, Device.txTaken, (beamKept_groupsStale _).stream, Device.putB_eq, Device.putB_eq,
    Device.stream_put, Device.stream_put, Device.stream_modStream_self _ _ _ hn, Device.stream_setWeights]

/-- A stream with a receive set steered anew (R172). -/
def StreamSt.steered (b : Bool) (form : Steer) (s : StreamSt) : StreamSt :=
  if b then { s with setB := form, lostB := 0 } else { s with setA := form, lostA := 0 }

theorem stream_putRx (d : Device) {n : Nat} (hn : n < 16) (b : Bool) (form : Steer) (ws : List Word) :
    (d.putRx n b form ws).stream n = (d.stream n).steered b form := by
  rw [Device.putRx, Device.stream_modStream_self _ _ _ hn, Device.stream_setWeights]
  rfl

theorem stream_steerRx_both (d : Device) {n : Nat} (hn : n < 16) (az el : Int) :
    (d.steerRx n 3 az el).stream n = ((d.stream n).steered false (.toward az el)).steered true (.toward az el) := by
  have heq : d.steerRx n 3 az el = (d.putRx n false (.toward az el) (d.rxSteer n false (.toward az el))).putRx n true (.toward az el)
      ((d.putRx n false (.toward az el) (d.rxSteer n false (.toward az el))).rxSteer n true (.toward az el)) := rfl
  rw [heq, stream_putRx _ hn, stream_putRx _ hn]

/-- A SURVEY at a sector. -/
def SesSt.atSector (x : Desc) (m : Nat) (s : SesSt) : SesSt := { s with run := some { x with started := true, rounds := 0, sector := m } }

/-- A sector whose weights are admitted is steered to at once. -/
theorem surveyGo_admitted {d d1 d2 d3 : Device} {n : Nat} {x : Desc} {az el : Int} {m : Nat} (k : Nat) (hm : m < x.byte 12 * x.byte 13)
    (haz : d.sectorAngle (x.s16 4) (x.s16 6) (x.byte 12) (m % max 1 (x.byte 12)) = (az, d1))
    (hel : d1.sectorAngle (x.s16 8) (x.s16 10) (x.byte 13) (m / max 1 (x.byte 12)) = (el, d2)) (hask : d2.askSteered n az el = (true, d3)) :
    d.surveyGo n x (k + 1) m
      = ((((d3.txEffect n).steerRx n 3 az el).zonesChanged (d3.sesCar n) n).noiseRestart n true true).modSes n (SesSt.atSector x m) := by
  unfold Device.surveyGo
  dsimp only
  rw [if_neg (by omega), haz]
  dsimp only
  rw [hel]
  dsimp only
  rw [hask]
  rfl

/-- A SURVEY past its last sector ends. -/
theorem surveyGo_over {d : Device} {n : Nat} {x : Desc} {m : Nat} (k : Nat) (hm : x.byte 12 * x.byte 13 ≤ m) : d.surveyGo n x k m = d.surveyEnd n := by
  cases k with
  | zero => rfl
  | succ k =>
    unfold Device.surveyGo
    dsimp only
    rw [if_pos hm]

/-- A session whose SURVEY has visited its sectors. -/
def SesSt.surveyed (s : SesSt) : SesSt := { s with sectorsOver := true }

theorem surveyEnd_plain {d : Device} {n : Nat} (hn : n < 16) (h : (d.sess n).prior = none) :
    d.surveyEnd n = ((d.modSes n SesSt.surveyed).modSes n SesSt.idle).sesDone n := by
  have hprior : ((d.modSes n SesSt.surveyed).sess n).prior = none := by
    rw [Device.sess_modSes_self _ _ _ hn]
    exact h
  have heq : d.surveyEnd n = match ((d.modSes n SesSt.surveyed).sess n).prior with
    | none => ((d.modSes n SesSt.surveyed).modSes n SesSt.idle).sesDone n
    | some t =>
      let (ok, d) := (d.modSes n SesSt.surveyed).admitTx n t.form ((d.modSes n SesSt.surveyed).unmuted t.w) t.nulled t.az t.el
      if ok then d else d.regRefused n := rfl
  rw [heq, hprior]

section
variable {s : State} (n : Fin 16) {x : Desc} (hrun : (s.dev.sess n.val).run = some x) (hop : x.byte 0 = 0x14) (hst : s.dev.sesState n.val = 7)
  (hstart : x.started = true) (hround : (s.dev.sess n.val).round.active = false) (hrounds : x.le 14 2 ≤ x.rounds)
  (hover : (s.dev.sess n.val).sectorsOver = false) (hholds : (s.dev.sess n.val).holds = []) (hquiet : s.dev.sesQuiet n.val = true)
include hrun hop hst hstart hround hrounds hover hholds hquiet

theorem surveySector_goes : surveySector n.val s.dev = s.dev.surveyGo n.val x (x.byte 12 * x.byte 13) (x.sector + 1) := by
  unfold surveySector
  dsimp only
  rw [hrun]
  dsimp only
  rw [if_pos (by simp [hop, hst, hstart, hround, hrounds, hover, hholds, hquiet])]

variable (hn : s.dev.NoRemote)
include hn

theorem surveySector_steers (az el : Int) (d1 d2 d3 : Device) (hleft : x.sector + 1 < x.byte 12 * x.byte 13)
    (haz : s.dev.sectorAngle (x.s16 4) (x.s16 6) (x.byte 12) ((x.sector + 1) % max 1 (x.byte 12)) = (az, d1))
    (hel : d1.sectorAngle (x.s16 8) (x.s16 10) (x.byte 13) ((x.sector + 1) / max 1 (x.byte 12)) = (el, d2))
    (hask : d2.askSteered n.val az el = (true, d3)) :
    Completes (.surveySector n) s (fun e => (e.sess n.val).run = some { x with started := true, rounds := 0, sector := x.sector + 1 }
      ∧ (e.stream n.val).az = az ∧ (e.stream n.val).el = el ∧ (e.stream n.val).pend = none ∧ (e.stream n.val).setA = .toward az el
      ∧ (e.stream n.val).setB = .toward az el) := by
  have hlt := n.isLt
  obtain ⟨k, hk⟩ : ∃ k, x.byte 12 * x.byte 13 = k + 1 := ⟨x.byte 12 * x.byte 13 - 1, by omega⟩
  have heq := surveySector_goes n hrun hop hst hstart hround hrounds hover hholds hquiet
  rw [hk, surveyGo_admitted k hleft haz hel hask] at heq
  obtain ⟨w, nulled, -, old, hpend⟩ := askSteered_waits hlt hask
  have hstream : (surveySector n.val s.dev).stream n.val
      = ((((d3.stream n.val).takes { w := w, form := .toward az el, nulled := nulled, az := az, el := el, old := old }).steered false
          (.toward az el)).steered true (.toward az el)) := by
    rw [heq, Device.stream_modSes, ((bfKept_noiseRestart _ hlt true true).beamKept hlt).stream, (beamKept_zonesChanged _ hlt _).stream,
      stream_steerRx_both _ hlt, stream_txEffect hlt hpend]
  have hsess : ((surveySector n.val s.dev).sess n.val).run = some { x with started := true, rounds := 0, sector := x.sector + 1 } := by
    rw [heq, Device.sess_modSes_self _ _ _ hlt]
    rfl
  have hn' : (surveySector n.val s.dev).NoRemote := surveySector_closed noRemote_closed hn
  refine completes_act (surveySector n.val) rfl ?_
  rw [Device.stream_settle _ hn', Device.sess_settle _ hn', hstream, hsess]
  exact ⟨rfl, rfl, rfl, rfl, rfl, rfl⟩

theorem surveySector_ends (hlast : x.byte 12 * x.byte 13 ≤ x.sector + 1) (hprior : (s.dev.sess n.val).prior = none) :
    Completes (.surveySector n) s (fun e => (e.sess n.val).run = none) := by
  have heq := surveySector_goes n hrun hop hst hstart hround hrounds hover hholds hquiet
  rw [surveyGo_over _ hlast, surveyEnd_plain n.isLt hprior] at heq
  have hn' : (surveySector n.val s.dev).NoRemote := surveySector_closed noRemote_closed hn
  refine completes_act (surveySector n.val) rfl ?_
  rw [Device.sess_settle _ hn', heq, run_sesDone _ n.isLt]

end

/-! ### The end of a turn (R139, R140) -/

theorem hasTurn_setTurn (d : Device) {m : Nat} (hm : m < 16) (b : Bool) (k : Nat) : (d.setTurn m b).hasTurn k = if k = m then b else d.hasTurn k := by
  have hrd : (d.setTurn m b).rd schedTurn = setBits (d.rd schedTurn) m m b.toNat := Device.rd_put_self d ⟨schedTurn, m, m⟩ b.toNat
  rw [Device.hasTurn, hrd, getLsbD_setBits _ _ _ _ _ (by omega) (Nat.le_refl m)]
  by_cases h : k = m
  · subst h
    rw [if_pos ⟨Nat.le_refl k, Nat.le_refl k⟩, if_pos rfl, Nat.sub_self]
    cases b <;> rfl
  · rw [if_neg (by omega), if_neg h, Device.hasTurn]

/-- What the claims of the turn rest on stays from `d` to `e`: every word but SCHED.TURN and the sessions' STAT, and what the sessions run and wait with. -/
structure Device.ClaimsKept (d e : Device) : Prop where
  regs : ∀ a, a ≠ schedTurn → (∀ k, a ≠ sesStat k) → e.rd a = d.rd a
  run : ∀ m, (e.sess m).run = (d.sess m).run
  descs : ∀ m, (e.sess m).descs = (d.sess m).descs

section
variable {d e : Device} (h : Device.ClaimsKept d e)
include h

theorem Device.ClaimsKept.get (f : Fld) (hf : f.reg ≠ schedTurn) (hs : ∀ k, f.reg ≠ sesStat k) : e.get f = d.get f := by
  rw [Device.get, h.regs _ hf hs, Device.get]

theorem Device.ClaimsKept.sesState (m : Nat) : e.sesState m = d.sesState m :=
  h.get _ (by simp only [fPsState, pageStat, wordAt, schedTurn]; omega) (by simp only [fPsState, pageStat, wordAt, sesStat]; omega)

theorem Device.ClaimsKept.needsAir (m : Nat) : e.needsAir m = d.needsAir m := by
  have htrig : e.on (fSesTrigPending m) = d.on (fSesTrigPending m) := by
    rw [Device.on, h.get _ (by simp only [fSesTrigPending, sesTrig, schedTurn]; omega) (by simp only [fSesTrigPending, sesTrig, sesStat]; omega), Device.on]
  simp only [Device.needsAir, h.run, h.descs, h.sesState, htrig]

theorem Device.ClaimsKept.group (m : Nat) : e.group m = d.group m := by
  have hlow : ∀ a, a / 1024 = 0x18 → ∀ k, a ≠ sesStat k := fun a ha k => by rw [sesStat]; omega
  unfold Device.group
  rw [h.get _ (show schedGroupLo ≠ schedTurn by decide) (hlow schedGroupLo (by decide)),
    h.get _ (show schedGroupHi ≠ schedTurn by decide) (hlow schedGroupHi (by decide))]

theorem Device.ClaimsKept.turnClaims (n : Nat) : e.turnClaims n = d.turnClaims n := by
  simp only [Device.turnClaims, h.group, h.needsAir, h.sesState]

variable (hend : ∀ m, (e.sess m).turnEnd = (d.sess m).turnEnd)
include hend

theorem Device.ClaimsKept.claim (m : Nat) : e.claim m = d.claim m := by
  have hlow : ∀ a, a < 0x80 * 1024 → ∀ k, a ≠ sesStat k := fun a ha k => by rw [sesStat]; omega
  simp only [Device.claim, Device.aging, Device.stamp, h.run, h.descs, hend, h.get fSchedCtrlAgeStep (by decide) (hlow _ (by decide)),
    h.regs tideCountHi (by decide) (hlow _ (by decide)), h.regs tideCountLo (by decide) (hlow _ (by decide))]

theorem Device.ClaimsKept.nextTurn (l : List Nat) : e.nextTurn l = d.nextTurn l := by
  simp only [Device.nextTurn, h.claim hend, hend]

end

/-- A session that has given its turn back. -/
def SesSt.turned (at_ : Nat) (s : SesSt) : SesSt := { s with turnEnd := at_, turnSlots := 0, acc := { s.acc with ready := false } }

/-- A session whose turn begins. -/
def SesSt.turning (s : SesSt) : SesSt := { s with turnSlots := 0 }

/-- The turn's holder has given it back. -/
def Device.turnGiven (d : Device) (n : Nat) : Device := (d.setTurn n false).modSes n (SesSt.turned d.stamp)

section
variable (d : Device) {n : Nat} (hn : n < 16)

theorem claimsKept_turnGiven : Device.ClaimsKept d (d.turnGiven n) where
  regs a ha _ := by rw [Device.turnGiven, Device.rd_modSes, Device.setTurn, Device.putB_eq, Device.rd_put_ne _ _ _ _ ha]
  run m := by
    rw [Device.turnGiven, Device.sess_modSes]
    split
    · next h => rw [h.1]; rfl
    · rfl
  descs m := by
    rw [Device.turnGiven, Device.sess_modSes]
    split
    · next h => rw [h.1]; rfl
    · rfl

theorem nextTurn_turnGiven : (d.turnGiven n).nextTurn ((d.turnGiven n).turnClaims n)
    = (d.modSes n (fun t => { t with turnEnd := d.stamp })).nextTurn (d.turnClaims n) := by
  have hkept : Device.ClaimsKept (d.modSes n (fun t => { t with turnEnd := d.stamp })) (d.turnGiven n) := by
    have hgiven := claimsKept_turnGiven d (n := n)
    refine ⟨fun a ha hs => (hgiven.regs a ha hs).trans (Device.rd_modSes _ _ _ _).symm, fun m => ?_, fun m => ?_⟩
    · rw [hgiven.run, Device.sess_modSes]
      split
      · next h => rw [h.1]
      · rfl
    · rw [hgiven.descs, Device.sess_modSes]
      split
      · next h => rw [h.1]
      · rfl
  rw [(claimsKept_turnGiven d).turnClaims, hkept.nextTurn (fun m => ?_)]
  rw [Device.turnGiven, Device.sess_modSes, Device.sess_modSes]
  split <;> rfl

/-- The turn given to the best claim. -/
def Device.turnTo (d : Device) (m : Nat) : Device := ((d.setTurn m true).modSes m SesSt.turning).holdEnd m 1

theorem turnPass_some {m : Nat} (h : d.nextTurn (d.turnClaims n) = some m) : d.turnPass n = d.turnTo m := by
  unfold Device.turnPass
  rw [h]
  rfl

theorem hasTurn_turnTo {m : Nat} (hm : m < 16) (k : Nat) : (d.turnTo m).hasTurn k = if k = m then true else d.hasTurn k := by
  have hrd : (d.turnTo m).rd schedTurn = (d.setTurn m true).rd schedTurn := by
    rw [Device.turnTo, rd_holdEnd _ _ _ (by rw [schedTurn, sesStat]; omega), Device.rd_modSes]
  rw [← hasTurn_setTurn d hm true k, Device.hasTurn, hrd, Device.hasTurn]

theorem sess_turnTo_holds {m : Nat} (hm : m < 16) : 1 ∉ ((d.turnTo m).sess m).holds := by
  rw [Device.turnTo, holdEnd_holds hm, if_pos rfl]
  simp

theorem sess_turnTo_other {m k : Nat} (h : k ≠ m) : (d.turnTo m).sess k = d.sess k := by
  rw [Device.turnTo, (posts_holdEnd m _ 1).others k h, Device.sess_modSes, if_neg (fun hh => h hh.1)]
  rfl

theorem sess_turnTo_kept (m k : Nat) : ((d.turnTo m).sess k).run = (d.sess k).run ∧ ((d.turnTo m).sess k).descs = (d.sess k).descs := by
  have hadmits : Admits d (d.turnTo m) := ((admits_setTurn d m true).trans (admits_modSes _ m (fun _ => rfl))).trans (admits_holdEnd _ m 1)
  rw [hadmits.sess k]
  exact ⟨rfl, rfl⟩

theorem claimsKept_turnTo (m : Nat) : Device.ClaimsKept d (d.turnTo m) where
  regs a ha hs := by
    rw [Device.turnTo, rd_holdEnd _ _ _ (hs m), Device.rd_modSes, Device.setTurn, Device.putB_eq, Device.rd_put_ne _ _ _ _ ha]
  run k := (sess_turnTo_kept d m k).1
  descs k := (sess_turnTo_kept d m k).2

end

theorem turnEnd_eq {d : Device} {n m : Nat} (halone : d.alone n = false) (hturn : d.hasTurn n = true)
    (hslots : d.get fSchedCtrlTurnSlots ≤ (d.sess n).turnSlots) (hacc : (d.sess n).acc.running = false) (hquiet : d.sesQuiet n = true)
    (hnext : (d.modSes n (fun t => { t with turnEnd := d.stamp })).nextTurn (d.turnClaims n) = some m) :
    turnEnd n d = if ((d.turnGiven n).turnTo m).hasTurn n then (d.turnGiven n).turnTo m
      else ((d.turnGiven n).turnTo m).when (((d.turnGiven n).turnTo m).needsAir n) (fun d => d.holdAsk n 1) := by
  have heq : turnEnd n d = if d.alone n || !d.hasTurn n || (d.sess n).turnSlots < d.get fSchedCtrlTurnSlots || (d.sess n).acc.running || !d.sesQuiet n then d
      else if ((d.turnGiven n).turnPass n).hasTurn n then (d.turnGiven n).turnPass n
      else ((d.turnGiven n).turnPass n).when (((d.turnGiven n).turnPass n).needsAir n) (fun d => d.holdAsk n 1) := rfl
  rw [heq, if_neg (by simp [halone, hturn, hslots, hacc, hquiet]), turnPass_some _ ((nextTurn_turnGiven d).trans hnext)]

/-- What the end of a turn shows: its taker has it, and a holder that loses it waits where it needs the air. -/
structure Device.TurnTaken (n m : Nat) (d e : Device) : Prop where
  taker : e.hasTurn m = true
  giver : m ≠ n → e.hasTurn n = false
  waits : m ≠ n → d.needsAir n = true → 1 ∈ (e.sess n).holds
  ended : m ≠ n → (e.sess n).turnEnd = d.stamp
  free : 1 ∉ (e.sess m).holds

theorem turnTaken_turnEnd {d : Device} {n m : Nat} (hn : n < 16) (hm : m < 16) (halone : d.alone n = false) (hturn : d.hasTurn n = true)
    (hslots : d.get fSchedCtrlTurnSlots ≤ (d.sess n).turnSlots) (hacc : (d.sess n).acc.running = false) (hquiet : d.sesQuiet n = true)
    (hnext : (d.modSes n (fun t => { t with turnEnd := d.stamp })).nextTurn (d.turnClaims n) = some m) : Device.TurnTaken n m d (turnEnd n d) := by
  have heq := turnEnd_eq halone hturn hslots hacc hquiet hnext
  have hgiven : (d.turnGiven n).hasTurn n = false := by
    have hset := hasTurn_setTurn d hn false n
    rw [if_pos rfl] at hset
    exact hset
  have htaker : ((d.turnGiven n).turnTo m).hasTurn m = true := by rw [hasTurn_turnTo _ hm, if_pos rfl]
  by_cases h : m = n
  · subst h
    rw [if_pos htaker] at heq
    rw [heq]
    exact ⟨htaker, fun hne => absurd rfl hne, fun hne => absurd rfl hne, fun hne => absurd rfl hne, sess_turnTo_holds _ hm⟩
  · have hgiver : ((d.turnGiven n).turnTo m).hasTurn n = false := by rw [hasTurn_turnTo _ hm, if_neg (fun hh => h hh.symm), hgiven]
    have hair : ((d.turnGiven n).turnTo m).needsAir n = d.needsAir n :=
      ((claimsKept_turnTo _ m).needsAir n).trans ((claimsKept_turnGiven d).needsAir n)
    have hended : ((d.turnGiven n).turnTo m).sess n = (d.sess n).turned d.stamp := by
      rw [sess_turnTo_other _ (fun hh => h hh.symm), Device.turnGiven, Device.sess_modSes_self _ _ _ hn]
      rfl
    rw [if_neg (by simp [hgiver]), hair] at heq
    have hposts : Posts [] n ((d.turnGiven n).turnTo m) (turnEnd n d) := heq ▸ posts_when _ _ _ (fun e => posts_holdAsk [] n e 1)
    refine ⟨?_, fun _ => ?_, fun _ hneeds => ?_, fun _ => ?_, ?_⟩
    · rw [Device.hasTurn, hposts.regs _ (by simp)]
      exact htaker
    · rw [Device.hasTurn, hposts.regs _ (by simp)]
      exact hgiver
    · rw [heq, hneeds]
      exact Device.holdAsk_mem hn 1
    · rw [hposts.keeps SesSt.turnEnd (fun _ _ _ _ => rfl), hended]
      rfl
    · rw [hposts.others m h]
      exact sess_turnTo_holds _ hm

theorem hasTurn_settle {d : Device} (hd : d.NoRemote) (k : Nat) : d.settle.hasTurn k = d.hasTurn k := by
  rw [Device.hasTurn, settle_rd d hd _ (by decide), Device.hasTurn]

theorem turnEnd_completes {s : State} (hn : s.dev.NoRemote) (n m : Fin 16) (halone : s.dev.alone n.val = false) (hturn : s.dev.hasTurn n.val = true)
    (hslots : s.dev.get fSchedCtrlTurnSlots ≤ (s.dev.sess n.val).turnSlots) (hacc : (s.dev.sess n.val).acc.running = false)
    (hquiet : s.dev.sesQuiet n.val = true)
    (hnext : (s.dev.modSes n.val (fun t => { t with turnEnd := s.dev.stamp })).nextTurn (s.dev.turnClaims n.val) = some m.val) :
    Completes (.turnEnd n) s (Device.TurnTaken n.val m.val s.dev) := by
  have htaken := turnTaken_turnEnd n.isLt m.isLt halone hturn hslots hacc hquiet hnext
  have hn' : (turnEnd n.val s.dev).NoRemote := turnEnd_closed noRemote_closed hn
  refine completes_act (turnEnd n.val) rfl ⟨?_, fun h => ?_, fun h hneeds => ?_, fun h => ?_, ?_⟩
  · rw [hasTurn_settle hn', htaken.taker]
  · rw [hasTurn_settle hn', htaken.giver h]
  · rw [Device.sess_settle _ hn']
    exact htaken.waits h hneeds
  · rw [Device.sess_settle _ hn', htaken.ended h]
  · rw [Device.sess_settle _ hn']
    exact htaken.free

/-- Settles O25: each clause is the completion of its own command. -/
theorem measuringDescriptors : Obligations.MeasuringDescriptors := by
  intro s n hn
  refine ⟨snapshotCaptureStart_completes hn n, snapshotCaptureEnd_completes hn n, noiseMeasureEnd_completes hn n, ?_, ?_, ?_⟩
  · intro x az el d1 d2 d3 hrun hop hst hstart hround hrounds hover hholds hquiet hleft haz hel hask
    exact surveySector_steers n hrun hop hst hstart hround hrounds hover hholds hquiet hn az el d1 d2 d3 hleft haz hel hask
  · intro x hrun hop hst hstart hround hrounds hover hholds hquiet hlast hprior
    exact surveySector_ends n hrun hop hst hstart hround hrounds hover hholds hquiet hn hlast hprior
  · intro m halone hturn hslots hacc hquiet hnext
    have hne : m ≠ n → m.val ≠ n.val := fun h hh => h (Fin.ext hh)
    exact (turnEnd_completes hn n m halone hturn hslots hacc hquiet hnext).imp
      (fun e h => ⟨h.taker, fun hm => h.giver (hne hm), fun hm => h.waits (hne hm), fun hm => h.ended (hne hm), h.free⟩)

end Sys2Proof.Machine


namespace Sys2Proof.Machine

/-! ### The weight table's actions (R165 … R167) -/

/-- What one update of a sequence establishes and the others keep holds after the sequence. -/
theorem Device.forAll_establishes {α : Type} {P : Device → Prop} {l : List α} {f : Device → α → Device} {a : α} (ha : a ∈ l)
    (hown : ∀ d, P (f d a)) (hkeep : ∀ d, ∀ x ∈ l, x ≠ a → P d → P (f d x)) (d : Device) : P (d.forAll l f) := by
  suffices h : ∀ e, a ∈ l ∨ P e → P (e.forAll l f) from h d (.inl ha)
  clear ha
  induction l with
  | nil => exact fun e h => h.resolve_left (by simp)
  | cons x t ih =>
    intro e h
    refine ih (fun d y hy => hkeep d y (List.mem_cons_of_mem x hy)) _ ?_
    by_cases hx : x = a
    · exact .inr (hx ▸ hown e)
    · exact h.imp (fun hm => (List.mem_cons.1 hm).resolve_left (fun hh => hx hh.symm)) (hkeep e x List.mem_cons_self hx)

/-- Bytes that were stored are read back. -/
theorem readBytes_writeBytes {dflt : Nat → Byte} (m : List (Nat × Byte)) (a : Nat) (bs : List Byte) :
    readBytes dflt (writeBytes dflt m a bs) a bs.length = bs := by
  refine List.ext_getElem (length_readBytes _ _ _ _) (fun k hk hk' => ?_)
  have h := getD_readBytes dflt (writeBytes dflt m a bs) a bs.length k hk'
  rw [storeGet_writeBytes, if_pos (by omega), Nat.add_sub_cancel_left] at h
  simpa [List.getD_eq_getElem?_getD, List.getElem?_eq_getElem hk, List.getElem?_eq_getElem hk'] using h

theorem wtEntry_putEntryWt (d : Device) (i : Nat) {bs : List Byte} (h : bs.length = 272) : (d.putEntryWt i bs).wtEntry i = bs := by
  have hread := readBytes_writeBytes (dflt := zeroByte) d.bf.table (272 * i) bs
  rw [h] at hread
  exact hread

theorem storeGet_putEntryWt_outside (d : Device) (i : Nat) {bs : List Byte} (h : bs.length = 272) {j : Nat}
    (hj : 272 * i + 272 ≤ j ∨ j < 272 * i) :
    storeGet zeroByte (d.putEntryWt i bs).bf.table j = storeGet zeroByte d.bf.table j :=
  (storeGet_writeBytes d.bf.table (272 * i) bs j).trans (if_neg (by omega))

theorem length_wtStage (d : Device) : d.wtStage.length = 272 := by
  simp [Device.wtStage, List.length_flatMap, leBytes]

theorem length_wtEntry (d : Device) (i : Nat) : (d.wtEntry i).length = 272 := length_readBytes _ _ _ _

theorem length_withValid {bs : List Byte} (v : Bool) (h : bs.length = 272) : (withValid bs v).length = 272 := by
  simp [withValid, h]

/-! #### The stage -/

theorem stage_injective {j k : Nat} (h : bfWtStage j = bfWtStage k) : j = k := Nat.add_left_cancel h

section
variable (g : Nat → Word) (l : List Nat) (d : Device)

theorem rd_forAll_stage {k : Nat} (h : k ∈ l) : (d.forAll l (fun d k => d.wr (bfWtStage k) (g k))).rd (bfWtStage k) = g k :=
  Device.forAll_establishes (P := fun e => e.rd (bfWtStage k) = g k) h (fun e => by rw [Device.rd_wr, if_pos rfl])
    (fun e j _ hj he => by rw [Device.rd_wr, if_neg (fun hh => hj (stage_injective hh).symm), he]) d

theorem rd_forAll_stage_other {a : Nat} (h : a ∉ l.map bfWtStage) :
    (d.forAll l (fun d k => d.wr (bfWtStage k) (g k))).rd a = d.rd a := by
  induction l generalizing d with
  | nil => rfl
  | cons j t ih =>
    rw [List.map_cons, List.mem_cons, not_or] at h
    rw [Device.forAll_cons, ih _ h.2, Device.rd_wr, if_neg h.1]

theorem forAll_stage_same : d.forAll l (fun d k => d.wr (bfWtStage k) (g k))
    = { d with regs := (d.forAll l (fun d k => d.wr (bfWtStage k) (g k))).regs } :=
  Device.forAll_induct (fun e => e = { d with regs := e.regs }) l _ (fun e k he => by rw [he]; rfl) d rfl

end

/-- The words a stage filled with `bs` holds. -/
def stageWord (bs : List Byte) (k : Nat) : Word := BitVec.ofNat 32 (leNat ((bs.drop (4 * k)).take 4))

theorem putStage_eq (d : Device) (bs : List Byte) :
    d.putStage bs = d.forAll (List.range 68) (fun d k => d.wr (bfWtStage k) (stageWord bs k)) := rfl

/-! #### What each action does -/

/-- A weight-table action begins: BUSY is 1 (R166). -/
def Device.wtBegun (d : Device) (action : Nat) : Device := { d with bf := { d.bf with action := action } }.put fBfWtStatBusy 1

section
variable (d : Device)

theorem rd_wtBegun (k : Nat) {a : Nat} (h : a ≠ bfWtStat) : (d.wtBegun k).rd a = d.rd a := Device.rd_put_ne _ _ _ _ h

theorem get_wtBegun (k : Nat) (f : Fld) (h : f.reg ≠ bfWtStat) : (d.wtBegun k).get f = d.get f := by rw [Device.get, rd_wtBegun d k h, Device.get]

theorem wtStage_congr {d e : Device} (h : ∀ k, k < 68 → e.rd (bfWtStage k) = d.rd (bfWtStage k)) : e.wtStage = d.wtStage := by
  unfold Device.wtStage
  refine List.flatMap_congr (fun k hk => ?_)
  rw [h k (List.mem_range.1 hk)]

theorem stage_ne_wtStat (k : Nat) : bfWtStage k ≠ bfWtStat := by
  unfold bfWtStage bfWtStat
  omega

theorem wtStage_wtBegun (k : Nat) : (d.wtBegun k).wtStage = d.wtStage := wtStage_congr (fun _ _ => rd_wtBegun d k (stage_ne_wtStat _))

theorem wtLive_congr {d e : Device} (hs : e.get fBfWtSelSession = d.get fBfWtSelSession) (hw : e.get fBfWtSelWhich = d.get fBfWtSelWhich)
    (hlive : e.bf.live = d.bf.live) (hstream : e.bf.streams = d.bf.streams) : e.wtLive = d.wtLive := by
  unfold Device.wtLive Device.weights Device.weight Device.stream
  rw [hs, hw, hlive, hstream]

theorem wtAction_fetch : d.wtAction 1 = (d.wtBegun 1).putStage (d.wtEntry (d.get fBfWtSelIndex)) := id rfl

theorem wtAction_fetchLive : d.wtAction 4 = (d.wtBegun 4).putStage d.wtLive := by
  have hlive : (d.wtBegun 4).wtLive = d.wtLive :=
    wtLive_congr (get_wtBegun d 4 _ (by decide)) (get_wtBegun d 4 _ (by decide)) rfl rfl
  rw [← hlive]
  exact id rfl

theorem wtAction_commit_malformed (h : wtMalformed d.wtStage = true) : d.wtAction 2 = (d.wtBegun 2).put fBfWtStatMalformed 1 := by
  have hif : d.wtAction 2 = if wtMalformed (d.wtBegun 2).wtStage then (d.wtBegun 2).put fBfWtStatMalformed 1
      else ((d.wtBegun 2).putEntryWt (d.get fBfWtSelIndex) (withValid (d.wtBegun 2).wtStage true)).put fBfWtStatMalformed 0 := id rfl
  rw [hif, wtStage_wtBegun, if_pos h]

theorem wtAction_commit (h : wtMalformed d.wtStage = false) :
    d.wtAction 2 = ((d.wtBegun 2).putEntryWt (d.get fBfWtSelIndex) (withValid d.wtStage true)).put fBfWtStatMalformed 0 := by
  have hif : d.wtAction 2 = if wtMalformed (d.wtBegun 2).wtStage then (d.wtBegun 2).put fBfWtStatMalformed 1
      else ((d.wtBegun 2).putEntryWt (d.get fBfWtSelIndex) (withValid (d.wtBegun 2).wtStage true)).put fBfWtStatMalformed 0 := id rfl
  rw [hif, wtStage_wtBegun, h]
  exact if_neg Bool.false_ne_true

theorem wtAction_erase : d.wtAction 3 = (d.wtBegun 3).putEntryWt (d.get fBfWtSelIndex) (withValid (d.wtEntry (d.get fBfWtSelIndex)) false) := id rfl

/-- The begun action leaves BUSY 1 through a field of the status word that lies above it. -/
theorem busy_wtBegun (k : Nat) : (d.wtBegun k).get fBfWtStatBusy = 1 := Device.get_put_same _ fBfWtStatBusy 1 (by decide) (by decide)

end

end Sys2Proof.Machine


namespace Sys2Proof.Machine

/-! #### The commands, as the host writes them -/

/-- The effect of a command of the BF page on its block. -/
theorem writeEffect_wtCmd (d : Device) {v : Word} {be : BitVec 4} :
    (d.arrived bfWtCmd v be).writeEffect (d.posted bfWtCmd v be) noFinds = (d.commanded bfWtCmd v be).wtAction (fBfWtCmdAction.of v) := by
  have hpage : pageOfWord bfWtCmd = 0x16 := by decide
  have hoff : offOfWord bfWtCmd = 0x14 := by decide
  simp only [Device.writeEffect, Device.posted, hpage, hoff, Device.blockWritten]
  rfl

theorem writeEffect_bfCntClr (d : Device) {v : Word} {be : BitVec 4} (h : fBfCntClrDir.on v = true) :
    (d.arrived bfCntClr v be).writeEffect (d.posted bfCntClr v be) noFinds = (d.commanded bfCntClr v be).wr bfDirCount 0 := by
  have hpage : pageOfWord bfCntClr = 0x16 := by decide
  have hoff : offOfWord bfCntClr = 0x1B := by decide
  have hblock : bfWritten 0x1B v (d.commanded bfCntClr v be) = (d.commanded bfCntClr v be).wr bfDirCount 0 := by
    unfold bfWritten
    rw [if_neg (by decide), if_pos rfl, if_pos h]
  rw [← hblock]
  simp only [Device.writeEffect, Device.posted, hpage, hoff, Device.blockWritten]
  rfl

/-- From `d` to `e` the host bus's own words of the page may have moved, and the beamformer's record stands. -/
def Device.WtReached (d e : Device) : Prop := (∀ b, b ≠ hbusStat → b ≠ pageStat 0x16 → e.rd b = d.rd b) ∧ e.bf = d.bf

section
variable {d e : Device} (h : Device.WtReached d e)

theorem wtEntry_congr {d e : Device} (h : e.bf.table = d.bf.table) (i : Nat) : e.wtEntry i = d.wtEntry i := by
  rw [Device.wtEntry, h, Device.wtEntry]

theorem stage_ne_host (j : Nat) : bfWtStage j ≠ hbusStat ∧ bfWtStage j ≠ pageStat 0x16 := by
  have hhost : hbusStat < 0x16 * 1024 + 0x100 := by decide
  have hpage : pageStat 0x16 < 0x16 * 1024 + 0x100 := by decide
  unfold bfWtStage
  omega

include h

theorem Device.WtReached.get (f : Fld) (h1 : f.reg ≠ hbusStat) (h2 : f.reg ≠ pageStat 0x16) : e.get f = d.get f := by
  rw [Device.get, h.1 _ h1 h2, Device.get]

theorem Device.WtReached.index : e.get fBfWtSelIndex = d.get fBfWtSelIndex := h.get _ (by decide) (by decide)

theorem Device.WtReached.wtStage : e.wtStage = d.wtStage :=
  wtStage_congr (fun j _ => h.1 _ (stage_ne_host j).1 (stage_ne_host j).2)

theorem Device.WtReached.wtLive : e.wtLive = d.wtLive := by
  refine wtLive_congr (h.get _ (by decide) (by decide)) (h.get _ (by decide) (by decide)) ?_ ?_ <;> rw [h.2]

theorem Device.WtReached.wtEntry (i : Nat) : e.wtEntry i = d.wtEntry i := wtEntry_congr (by rw [h.2]) i

end

/-- From `d` to `e` no register word outside `l` changes, nor the memory or the options. -/
def Device.WordsOnly (l : List Nat) (d e : Device) : Prop := (∀ a, a ∉ l → e.rd a = d.rd a) ∧ e.sram = d.sram ∧ e.opt = d.opt

theorem wordsOnly_put (l : List Nat) (d : Device) (f : Fld) (n : Nat) (h : f.reg ∈ l) : Device.WordsOnly l d (d.put f n) :=
  ⟨fun a ha => Device.rd_put_ne _ _ _ _ (fun he => ha (by rw [he]; exact h)), rfl, rfl⟩

theorem Device.WordsOnly.trans {l : List Nat} {d e f : Device} (h : Device.WordsOnly l d e) (h' : Device.WordsOnly l e f) : Device.WordsOnly l d f :=
  ⟨fun a ha => (h'.1 a ha).trans (h.1 a ha), h'.2.1.trans h.2.1, h'.2.2.trans h.2.2⟩

theorem wordsOnly_wtBegun {l : List Nat} (d : Device) (k : Nat) (h : bfWtStat ∈ l) : Device.WordsOnly l d (d.wtBegun k) :=
  ⟨fun a ha => rd_wtBegun d k (fun he => ha (by rw [he]; exact h)), rfl, rfl⟩

theorem wordsOnly_putEntryWt {l : List Nat} (d : Device) (i : Nat) (bs : List Byte) (h : bfWtStat ∈ l) :
    Device.WordsOnly l d (d.putEntryWt i bs) :=
  ⟨fun _ ha => Device.rd_put_ne _ _ _ _ (fun he => ha (by rw [he]; exact h)), rfl, rfl⟩

theorem wordsOnly_putStage {l : List Nat} (d : Device) (bs : List Byte) (h : ∀ a ∈ (List.range 68).map bfWtStage, a ∈ l) :
    Device.WordsOnly l d (d.putStage bs) := by
  have hsame : d.putStage bs = { d with regs := (d.putStage bs).regs } := forAll_stage_same (stageWord bs) (List.range 68) d
  exact ⟨fun a ha => rd_forAll_stage_other (stageWord bs) _ d (fun hm => ha (h a hm)), by rw [hsame], by rw [hsame]⟩

section
variable {s : State} (hn : s.dev.NoRemote)
include hn

/-- A weight-table command has its action's effect on the device its write reaches. -/
theorem wtCommand_done {c : Instr} {k : Nat} (hk : k < 8) (hrow : hostRow s.dev c = some (bfWtCmd, fBfWtCmdAction.set 0 k, 0xF#4, noFinds))
    (ha : s.dev.applies bfWtCmd (fBfWtCmdAction.set 0 k) 0xF#4 = true) :
    ∃ d : Device, Device.WtReached s.dev d ∧ ∀ {e : Device} {l : List Nat}, d.wtAction k = e →
      (∀ a ∈ [hbusStat, pageStat 0x16, secIdleLeft], a ∈ l) → Device.WordsOnly l d e →
      Completes c s (fun f => (∀ b, (∀ g ∈ settleFields, g.reg ≠ b) → b ≠ secIdleLeft → f.rd b = e.rd b) ∧ f.bf = e.bf ∧ Device.OnlyRegs l s.dev f) := by
  have hact : fBfWtCmdAction.of (fBfWtCmdAction.set 0 k) = k :=
    (bitsOf_setBits_same (0 : Word) 2 0 k (by decide) (by decide)).trans (Nat.mod_eq_of_lt hk)
  have hcmd := s.dev.commanded_same bfWtCmd (fBfWtCmdAction.set 0 k) 0xF#4
  have hword := fun b => Device.rd_commanded s.dev bfWtCmd (fBfWtCmdAction.set 0 k) 0xF#4 (b := b) (by decide)
  have heff := (writeEffect_wtCmd s.dev (v := fBfWtCmdAction.set 0 k) (be := 0xF#4)).trans (congrArg _ hact)
  have hN := noRemote_written (finds := noFinds) hn ha
  have hexec := exec_applies c s bfWtCmd (fBfWtCmdAction.set 0 k) 0xF#4 noFinds hrow ha
  have hsame := written_same heff
  have hrd := fun b hb => rd_written heff (b := b) hb
  generalize s.dev.written bfWtCmd (fBfWtCmdAction.set 0 k) 0xF#4 noFinds = f at hN hsame hrd hexec
  generalize s.dev.commanded bfWtCmd (fBfWtCmdAction.set 0 k) 0xF#4 = d at hcmd hword hsame hrd
  refine ⟨d, ⟨hword, by rw [hcmd]⟩, fun {e l} he hl hw => ?_⟩
  rw [he] at hsame hrd
  obtain ⟨hwrd, hwsram, hwopt⟩ := hw
  refine ⟨_, hexec, rfl, fun b hb hsec => ?_, ?_, onlyRegs_settle hN (fun a hm => ?_) ?_ ?_⟩
  · rw [settle_rd f hN b hb, hrd b hsec]
  · rw [settle_bf f hN, hsame]
  · rw [hrd a (fun h => hm (hl a (by simp [h]))), hwrd a hm,
      hword _ (fun h => hm (hl a (by simp [h]))) (fun h => hm (hl a (by rw [h]; decide)))]
  · rw [hsame]
    exact hwsram.trans (by rw [hcmd])
  · rw [hsame]
    exact hwopt.trans (by rw [hcmd])

end

/-- The words a weight-table action moves beside the stage. -/
def wtWords : List Nat := [hbusStat, pageStat 0x16, secIdleLeft, bfWtStat]

theorem stage_not_settled {k : Nat} (hk : k < 68) : ∀ g ∈ settleFields, g.reg ≠ bfWtStage k := by
  have h : ∀ g ∈ settleFields, g.reg < bfWtStage 0 ∨ bfWtStage 67 < g.reg := by decide
  intro g hg he
  have hr := h g hg
  unfold bfWtStage at hr he
  omega

theorem stage_ne_wtWord (k : Nat) : bfWtStage k ≠ secIdleLeft := by
  have h : secIdleLeft < 0x16 * 1024 + 0x100 := by decide
  unfold bfWtStage
  omega

end Sys2Proof.Machine


namespace Sys2Proof.Machine

/-! #### The clauses of the weight table -/

theorem on_of_eq {d : Device} {f : Fld} {n : Nat} (h : d.get f = n) : d.on f = (n != 0) := by rw [Device.on, h]

theorem busy_put_malformed (d : Device) (n : Nat) : (d.put fBfWtStatMalformed n).get fBfWtStatBusy = d.get fBfWtStatBusy :=
  Device.get_put_apart d fBfWtStatMalformed fBfWtStatBusy n (by decide) (by decide) (by decide)

theorem busy_putEntryWt (d : Device) (i : Nat) (bs : List Byte) : (d.putEntryWt i bs).get fBfWtStatBusy = d.get fBfWtStatBusy :=
  Device.get_put_apart _ fBfWtStatEntries fBfWtStatBusy _ (by decide) (by decide) (by decide)

theorem malformed_put (d : Device) (n : Nat) (h : n < 2) : (d.put fBfWtStatMalformed n).get fBfWtStatMalformed = n :=
  (Device.get_put_same d fBfWtStatMalformed n (by decide) (by decide)).trans (Nat.mod_eq_of_lt h)

theorem bf_putStage (d : Device) (bs : List Byte) : (d.putStage bs).bf = d.bf := by
  rw [putStage_eq, forAll_stage_same]

theorem table_wtBegun (d : Device) (k : Nat) : (d.wtBegun k).bf.table = d.bf.table := id rfl

/-- Storing an entry touches the words of the table's status alone. -/
theorem wordsOnly_stored (d : Device) (k i : Nat) (bs : List Byte) : Device.WordsOnly wtWords d ((d.wtBegun k).putEntryWt i bs) :=
  (wordsOnly_wtBegun d k (by decide)).trans (wordsOnly_putEntryWt _ _ _ (by decide))

theorem wtEntry_stored (d : Device) (k i : Nat) {bs : List Byte} (h : bs.length = 272) {e : Device}
    (he : e.bf = ((d.wtBegun k).putEntryWt i bs).bf) :
    e.wtEntry i = bs ∧ ∀ j, 272 * i + 272 ≤ j ∨ j < 272 * i → storeGet zeroByte e.bf.table j = storeGet zeroByte d.bf.table j := by
  refine ⟨(wtEntry_congr (congrArg (·.table) he) i).trans (wtEntry_putEntryWt _ _ h), fun j hj => ?_⟩
  rw [he, storeGet_putEntryWt_outside _ _ h hj, table_wtBegun]

section
variable {s : State} (hn : s.dev.NoRemote)
include hn

/-- A fetch fills the stage with the bytes `bs` (R166). -/
theorem fetch_completes {c : Instr} {k : Nat} (hk : k < 8) (hrow : hostRow s.dev c = some (bfWtCmd, fBfWtCmdAction.set 0 k, 0xF#4, noFinds))
    (ha : s.dev.applies bfWtCmd (fBfWtCmdAction.set 0 k) 0xF#4 = true) {bs : List Byte}
    (he : ∀ d, Device.WtReached s.dev d → d.wtAction k = (d.wtBegun k).putStage bs) :
    Completes c s (fun e => e.on fBfWtStatBusy = true ∧ (∀ j : Fin 68, e.rd (bfWtStage j.val) = stageWord bs j.val)
      ∧ e.bf.table = s.dev.bf.table ∧ Device.OnlyRegs (wtWords ++ (List.range 68).map bfWtStage) s.dev e) := by
  obtain ⟨d, hd, hdone⟩ := wtCommand_done hn hk hrow ha
  obtain ⟨e, hexec, hq, hrd, hbf, hreg⟩ := hdone (l := wtWords ++ (List.range 68).map bfWtStage) (he d hd) (by simp [wtWords])
    ((wordsOnly_wtBegun d k (by simp [wtWords])).trans (wordsOnly_putStage _ bs (fun a h => List.mem_append_right _ h)))
  refine ⟨e, hexec, hq, ?_, fun j => ?_, ?_, hreg⟩
  · have hstat : e.dev.rd bfWtStat = (d.wtBegun k).rd bfWtStat :=
      (hrd _ (by decide) (by decide)).trans (rd_forAll_stage_other (stageWord bs) _ _ (by decide))
    rw [on_of_rd (f := fBfWtStatBusy) hstat, on_of_eq (busy_wtBegun d k)]
    rfl
  · rw [hrd _ (stage_not_settled j.isLt) (stage_ne_wtWord _)]
    exact rd_forAll_stage (stageWord bs) _ _ (List.mem_range.2 j.isLt)
  · rw [hbf, bf_putStage, table_wtBegun, hd.2]

/-- A COMMIT of a well-formed stage stores it with VALID = 1 (R166, R167). -/
theorem wtCommit_completes (ha : s.dev.applies bfWtCmd (fBfWtCmdAction.set 0 2) 0xF#4 = true) (hm : wtMalformed s.dev.wtStage = false) :
    Completes .wtCommit s (fun e => e.on fBfWtStatBusy = true ∧ e.on fBfWtStatMalformed = false
      ∧ e.wtEntry (s.dev.get fBfWtSelIndex) = withValid s.dev.wtStage true
      ∧ (∀ j, 272 * (s.dev.get fBfWtSelIndex) + 272 ≤ j ∨ j < 272 * (s.dev.get fBfWtSelIndex) → storeGet zeroByte e.bf.table j = storeGet zeroByte s.dev.bf.table j)
      ∧ Device.OnlyRegs wtWords s.dev e) := by
  obtain ⟨d, hd, hdone⟩ := wtCommand_done hn (c := .wtCommit) (k := 2) (by decide) rfl ha
  have heq := wtAction_commit d (hd.wtStage ▸ hm)
  rw [hd.index, hd.wtStage] at heq
  obtain ⟨e, hexec, hq, hrd, hbf, hreg⟩ := hdone (l := wtWords) heq (by simp [wtWords])
    ((wordsOnly_stored d 2 _ _).trans (wordsOnly_put _ _ fBfWtStatMalformed 0 (by decide)))
  have hstat := hrd bfWtStat (by decide) (by decide)
  obtain ⟨hentry, hother⟩ := wtEntry_stored d 2 _ (length_withValid true (length_wtStage s.dev)) hbf
  refine ⟨e, hexec, hq, ?_, ?_, hentry, fun j hj => (hother j hj).trans (by rw [hd.2]), hreg⟩
  · rw [on_of_rd (f := fBfWtStatBusy) hstat, on_of_eq ((busy_put_malformed _ 0).trans ((busy_putEntryWt _ _ _).trans (busy_wtBegun d 2)))]
    rfl
  · rw [on_of_rd (f := fBfWtStatMalformed) hstat, on_of_eq (malformed_put _ 0 (by decide))]
    rfl

/-- A COMMIT of a malformed stage says so and leaves the table alone (R167). -/
theorem wtCommit_malformed_completes (ha : s.dev.applies bfWtCmd (fBfWtCmdAction.set 0 2) 0xF#4 = true) (hm : wtMalformed s.dev.wtStage = true) :
    Completes .wtCommit s (fun e => e.on fBfWtStatBusy = true ∧ e.on fBfWtStatMalformed = true ∧ e.bf.table = s.dev.bf.table
      ∧ Device.OnlyRegs wtWords s.dev e) := by
  obtain ⟨d, hd, hdone⟩ := wtCommand_done hn (c := .wtCommit) (k := 2) (by decide) rfl ha
  obtain ⟨e, hexec, hq, hrd, hbf, hreg⟩ := hdone (l := wtWords) (wtAction_commit_malformed d (hd.wtStage ▸ hm)) (by simp [wtWords])
    ((wordsOnly_wtBegun d 2 (by decide)).trans (wordsOnly_put _ _ fBfWtStatMalformed 1 (by decide)))
  have hstat := hrd bfWtStat (by decide) (by decide)
  have htable : ((d.wtBegun 2).put fBfWtStatMalformed 1).bf.table = d.bf.table := id rfl
  refine ⟨e, hexec, hq, ?_, ?_, ?_, hreg⟩
  · rw [on_of_rd (f := fBfWtStatBusy) hstat, on_of_eq ((busy_put_malformed _ 1).trans (busy_wtBegun d 2))]
    rfl
  · rw [on_of_rd (f := fBfWtStatMalformed) hstat, on_of_eq (malformed_put _ 1 (by decide))]
    rfl
  · rw [hbf, htable, hd.2]

/-- An ERASE clears VALID of the entry (R166). -/
theorem wtErase_completes (ha : s.dev.applies bfWtCmd (fBfWtCmdAction.set 0 3) 0xF#4 = true) :
    Completes .wtErase s (fun e => e.on fBfWtStatBusy = true
      ∧ e.wtEntry (s.dev.get fBfWtSelIndex) = withValid (s.dev.wtEntry (s.dev.get fBfWtSelIndex)) false
      ∧ (∀ j, 272 * (s.dev.get fBfWtSelIndex) + 272 ≤ j ∨ j < 272 * (s.dev.get fBfWtSelIndex) → storeGet zeroByte e.bf.table j = storeGet zeroByte s.dev.bf.table j)
      ∧ Device.OnlyRegs wtWords s.dev e) := by
  obtain ⟨d, hd, hdone⟩ := wtCommand_done hn (c := .wtErase) (k := 3) (by decide) rfl ha
  have heq := wtAction_erase d
  rw [hd.index, hd.wtEntry] at heq
  obtain ⟨e, hexec, hq, hrd, hbf, hreg⟩ := hdone (l := wtWords) heq (by simp [wtWords]) (wordsOnly_stored d 3 _ _)
  have hstat := hrd bfWtStat (by decide) (by decide)
  obtain ⟨hentry, hother⟩ := wtEntry_stored d 3 _ (length_withValid false (length_wtEntry s.dev _)) hbf
  refine ⟨e, hexec, hq, ?_, hentry, fun j hj => (hother j hj).trans (by rw [hd.2]), hreg⟩
  rw [on_of_rd (f := fBfWtStatBusy) hstat, on_of_eq ((busy_putEntryWt _ _ _).trans (busy_wtBegun d 3))]
  rfl

theorem wtActionDone_completes : Completes .wtActionDone s (fun e => e.on fBfWtStatBusy = false ∧ e.bf.action = 0
    ∧ e.bf.table = s.dev.bf.table ∧ Device.OnlyRegs [bfWtStat] s.dev e) := by
  have hN : (wtActionDone s.dev).NoRemote := hn
  have hbusy : (wtActionDone s.dev).get fBfWtStatBusy = 0 := Device.get_put_same _ fBfWtStatBusy 0 (by decide) (by decide)
  refine completes_act wtActionDone rfl ⟨?_, ?_, ?_, onlyRegs_settle hN (fun a ha => ?_) rfl rfl⟩
  · rw [settle_on _ hN _ (by decide), on_of_eq hbusy]
    rfl
  · rw [settle_bf _ hN]
    rfl
  · rw [settle_bf _ hN]
    rfl
  · exact Device.rd_put_ne _ _ _ _ (fun h => ha (h ▸ List.mem_singleton.2 rfl))

/-- The direction counts clear (R192). -/
theorem bfClearDirCount_completes (ha : s.dev.applies bfCntClr (fBfCntClrDir.set 0 1) 0xF#4 = true) :
    Completes .bfClearDirCount s (fun e => e.rd bfDirCount = 0 ∧ Device.OnlyRegs [hbusStat, pageStat 0x16, secIdleLeft, bfDirCount] s.dev e) := by
  have heff := writeEffect_bfCntClr s.dev (v := fBfCntClrDir.set 0 1) (be := 0xF#4) (by decide)
  have hN := noRemote_written (finds := noFinds) hn ha
  have hrd := fun b hb => rd_written heff (b := b) hb
  have hsame := written_same heff
  have hexec := exec_applies .bfClearDirCount s bfCntClr _ _ noFinds rfl ha
  have hcmd := s.dev.commanded_same bfCntClr (fBfCntClrDir.set 0 1) 0xF#4
  have hword := fun b => Device.rd_commanded s.dev bfCntClr (fBfCntClrDir.set 0 1) 0xF#4 (b := b) (by decide)
  generalize s.dev.written bfCntClr (fBfCntClrDir.set 0 1) 0xF#4 noFinds = f at hN hsame hrd hexec
  generalize s.dev.commanded bfCntClr (fBfCntClrDir.set 0 1) 0xF#4 = d at hcmd hword hsame hrd
  refine ⟨_, hexec, rfl, ?_, onlyRegs_settle hN (fun a hm => ?_) ?_ ?_⟩
  · rw [settle_rd _ hN _ (by decide), hrd _ (by decide), Device.rd_wr, if_pos rfl]
  · simp only [List.mem_cons, List.not_mem_nil, or_false, not_or] at hm
    obtain ⟨h1, h2, h3, h4⟩ := hm
    rw [hrd _ h3, Device.rd_wr, if_neg h4, hword _ h1 h2]
  · rw [hsame, hcmd]
    rfl
  · rw [hsame, hcmd]
    rfl

end

end Sys2Proof.Machine


namespace Sys2Proof.Machine

/-! ### Waiting weights take effect (R133, R171, R174) -/

theorem weight_setWeights (d : Device) (n : Nat) (ws : List Word) {p : Nat} (hp : p < 64) : (d.setWeights n ws).weight n p = ws.getD p 0 :=
  Device.forAll_establishes (P := fun e => e.weight n p = ws.getD p 0) (List.mem_range.2 hp)
    (fun e => by rw [Device.weight_setWeight _ _ _ _ _ _ hp hp, if_pos ⟨rfl, rfl⟩])
    (fun e q hq hne he => by rw [Device.weight_setWeight _ _ _ _ _ _ hp (List.mem_range.1 hq), if_neg (fun hh => hne hh.2.symm), he]) d

theorem weights_setWeights (d : Device) (n : Nat) {ws : List Word} (h : ws.length = 64) : (d.setWeights n ws).weights n = ws := by
  refine List.ext_getElem (by simp [Device.weights, h]) (fun p hp hp' => ?_)
  simp only [Device.weights, List.getElem_map, List.getElem_range]
  rw [weight_setWeights d n ws (h ▸ hp'), List.getD_eq_getElem?_getD, List.getElem?_eq_getElem hp', Option.getD_some]

theorem Device.putB_putB_ne (d : Device) {f g : Fld} (b c : Bool) (hf : f.hi = f.lo) (h : f.hi < 32) (hne : f.lo ≠ g.lo) (hg : g.hi = g.lo) (hg' : g.hi < 32) :
    ((d.putB f b).putB g c).on f = b := by
  have happart : ((d.putB f b).putB g c).get f = (d.putB f b).get f := by
    rw [Device.putB_eq (d.putB f b)]
    exact Device.get_put_apart _ g f _ hg' (by omega) (by omega)
  rw [on_of_get happart, Device.on_putB _ _ hf h]

/-- SRC and NULLED of a stream tell of the weights in effect (R133, R174). -/
def Device.marked (d : Device) (n : Nat) (t : PendTx) : Device := (d.putB (fBfStreamSrc n) (t.form != .table)).putB (fBfStreamNulled n) t.nulled

theorem txTaken_eq (d : Device) (n : Nat) (t : PendTx) :
    d.txTaken n t = (((d.setWeights n t.w).modStream n (StreamSt.takes t)).marked n t).groupsStale := rfl

theorem src_marked (d : Device) (n : Nat) (t : PendTx) : (d.marked n t).on (fBfStreamSrc n) = (t.form != .table) :=
  Device.putB_putB_ne d (t.form != .table) t.nulled rfl (by simp [fBfStreamSrc]) (by simp [fBfStreamSrc, fBfStreamNulled]) rfl
    (by simp [fBfStreamNulled])

theorem nulled_marked (d : Device) (n : Nat) (t : PendTx) : (d.marked n t).on (fBfStreamNulled n) = t.nulled :=
  Device.on_putB _ _ rfl (by simp [fBfStreamNulled])

theorem weights_marked (d : Device) (n : Nat) (t : PendTx) (m : Nat) : (d.marked n t).weights m = d.weights m := by
  rw [Device.marked, Device.putB_eq, Device.putB_eq]
  exact List.map_congr_left (fun p _ => (Device.weight_put _ _ _ m p).trans (Device.weight_put _ _ _ m p))

theorem weights_modStream (d : Device) (n : Nat) (f : StreamSt → StreamSt) (m : Nat) : (d.modStream n f).weights m = d.weights m :=
  List.map_congr_left (fun p _ => Device.weight_modStream _ _ _ m p)

/-- What takes effect for stream `n` (R171). -/
structure Device.Taken (n : Nat) (t : PendTx) (d e : Device) : Prop where
  weights : e.weights n = t.w
  stream : e.stream n = (d.stream n).takes t
  src : e.on (fBfStreamSrc n) = (t.form != .table)
  nulled : e.on (fBfStreamNulled n) = t.nulled

theorem taken_txEffect {d : Device} {n : Nat} (hn : n < 16) {t : PendTx} (hp : (d.stream n).pend = some t) (hl : t.w.length = 64) :
    Device.Taken n t d (d.txEffect n) := by
  have hstream := stream_txEffect hn hp
  have hkept : Device.BeamKept n (((d.setWeights n t.w).modStream n (StreamSt.takes t)).marked n t) (d.txEffect n) := by
    rw [txEffect_eq hp, txTaken_eq]
    exact (beamKept_groupsStale _).trans ((bfKept_reglChanged _).beamKept hn)
  generalize d.txEffect n = e at hkept hstream
  refine ⟨?_, hstream, (on_of_rd (f := fBfStreamSrc n) hkept.reg).trans (src_marked _ n t),
    (on_of_rd (f := fBfStreamNulled n) hkept.reg).trans (nulled_marked _ n t)⟩
  rw [hkept.weights, weights_marked, weights_modStream, weights_setWeights d n hl]

theorem Device.Taken.kept {n : Nat} {t : PendTx} {d e f : Device} (h : Device.Taken n t d e) (g : Device.BeamKept n e f) : Device.Taken n t d f :=
  ⟨g.weights.trans h.weights, g.stream.trans h.stream, (on_of_rd (f := fBfStreamSrc n) g.reg).trans h.src,
    (on_of_rd (f := fBfStreamNulled n) g.reg).trans h.nulled⟩

/-- From `d` to `e` stream `n`'s weights stay, and session `n`'s run. -/
theorem beamKept_completeRun {d : Device} {n : Nat} (hn : n < 16) {x : Desc} (h : (d.sess n).run = some x) : Device.BeamKept n d (d.completeRun n) :=
  ((bfKept_modSes d n SesSt.done).trans ((posts_completeRun hn h).bfKept (flightRegs_page hn))).beamKept hn

theorem run_completeRun {d : Device} {n : Nat} (hn : n < 16) : ((d.completeRun n).sess n).run = none := by
  unfold Device.completeRun
  split
  · next h => exact h
  · exact run_sesDone _ hn

/-- The device as the waiting weights of stream `n` have taken effect and the zones follow (R174). -/
def Device.weightsIn (d : Device) (n : Nat) : Device :=
  (d.txEffect n).when ((((d.txEffect n).stream n).az, ((d.txEffect n).stream n).el) != ((d.stream n).az, (d.stream n).el))
    (fun e => e.zonesChanged (e.sesCar n) n)

/-- A SURVEY whose earlier weights are in effect again is over (R187). -/
def SesSt.restored (s : SesSt) : SesSt := { s with run := none, prior := none }

theorem weightsTakeEffect_eq {d : Device} {n : Nat} {t : PendTx} (hp : (d.stream n).pend = some t) (hq : d.sesQuiet n = true)
    (ha : (d.sess n).acc.running = false) :
    weightsTakeEffect n d = match ((d.weightsIn n).sess n).run with
      | some x =>
        if x.byte 0 = 0x13 then (d.weightsIn n).completeRun n
        else if x.byte 0 = 0x14 && ((d.weightsIn n).sess n).sectorsOver then ((d.weightsIn n).modSes n SesSt.restored).sesDone n
        else d.weightsIn n
      | none => d.weightsIn n := by
  have hgo : ((d.stream n).pend.isNone || !d.sesQuiet n || (d.sess n).acc.running) = false := by simp [hp, hq, ha]
  unfold weightsTakeEffect Device.weightsIn
  rw [hgo, if_neg Bool.false_ne_true]
  rfl

section
variable {d : Device} {n : Nat} (hn : n < 16) {t : PendTx} (hp : (d.stream n).pend = some t)
include hn hp

theorem taken_weightsIn (hl : t.w.length = 64) : Device.Taken n t d (d.weightsIn n) :=
  (taken_txEffect hn hp hl).kept (beamKept_when (beamKept_zonesChanged _ hn _))

omit hp in
theorem run_weightsIn : ((d.weightsIn n).sess n).run = (d.sess n).run := by
  have hadmits : Admits d (d.weightsIn n) := (admits_txEffect d hn).trans (admits_when (admits_zonesChanged _ _ n))
  rw [hadmits.sess n]

theorem taken_weightsTakeEffect (hl : t.w.length = 64) (hq : d.sesQuiet n = true) (ha : (d.sess n).acc.running = false) :
    Device.Taken n t d (weightsTakeEffect n d)
      ∧ ((d.sess n).run.map (fun x => x.byte 0) = some 0x13 → ((weightsTakeEffect n d).sess n).run = none) := by
  have htaken := taken_weightsIn hn hp hl
  have hrun := run_weightsIn (d := d) hn
  rw [weightsTakeEffect_eq hp hq ha, ← hrun]
  generalize d.weightsIn n = e at htaken
  split
  · next x hx =>
    split
    · exact ⟨htaken.kept (beamKept_completeRun hn hx), fun _ => run_completeRun hn⟩
    · next hop =>
      refine ⟨?_, fun hbeam => absurd (by simpa [hx] using hbeam) hop⟩
      split
      · exact htaken.kept (((bfKept_modSes e n _).beamKept hn).trans (beamKept_sesDone _ hn n hn))
      · exact htaken
  · next hx => exact ⟨htaken, fun _ => hx⟩

end

theorem bfStream_not_settled {n : Nat} (hn : n < 16) : ∀ g ∈ settleFields, g.reg ≠ bfStream n := by
  have h : ∀ g ∈ settleFields, g.reg < bfStream 0 ∨ bfStream 15 < g.reg := by decide
  intro g hg he
  have hr := h g hg
  unfold bfStream at hr he
  omega

theorem settle_weights {d : Device} (h : d.NoRemote) (n : Nat) : d.settle.weights n = d.weights n := by
  refine List.map_congr_left (fun p _ => ?_)
  rw [Device.weight, settle_bf d h, Device.weight]

theorem settle_stream {d : Device} (h : d.NoRemote) (n : Nat) : d.settle.stream n = d.stream n := by
  rw [Device.stream, settle_bf d h, Device.stream]

theorem Device.Taken.settle {n : Nat} (hn : n < 16) {t : PendTx} {d e : Device} (h : Device.Taken n t d e) (hN : e.NoRemote) :
    Device.Taken n t d e.settle :=
  ⟨(settle_weights hN n).trans h.weights, (settle_stream hN n).trans h.stream,
    (on_of_rd (f := fBfStreamSrc n) (settle_rd e hN _ (bfStream_not_settled hn))).trans h.src,
    (on_of_rd (f := fBfStreamNulled n) (settle_rd e hN _ (bfStream_not_settled hn))).trans h.nulled⟩

theorem weightsTakeEffect_completes {s : State} (hN : s.dev.NoRemote) (n : Fin 16) (t : PendTx) (hp : (s.dev.stream n.val).pend = some t)
    (hl : t.w.length = 64) (hq : s.dev.sesQuiet n.val = true) (ha : (s.dev.sess n.val).acc.running = false) :
    Completes (.weightsTakeEffect n) s (fun e => Device.Taken n.val t s.dev e
      ∧ ((s.dev.sess n.val).run.map (fun x => x.byte 0) = some 0x13 → (e.sess n.val).run = none)) := by
  have hN' : (weightsTakeEffect n.val s.dev).NoRemote := weightsTakeEffect_closed noRemote_closed hN
  obtain ⟨htaken, hdone⟩ := taken_weightsTakeEffect n.isLt hp hl hq ha
  refine completes_act (weightsTakeEffect n.val) rfl ?_
  generalize weightsTakeEffect n.val s.dev = e at hN' htaken hdone
  refine ⟨htaken.settle n.isLt hN', fun h => ?_⟩
  rw [Device.sess_settle _ hN']
  exact hdone h

end Sys2Proof.Machine


namespace Sys2Proof.Machine

/-! ### A BEAM from a table entry for the transmit stream (R133, R190, R228) -/

/-! #### Levels and figures touch no session -/

section
variable (d : Device)

theorem ses_irq (p b : Nat) : (d.irq p b).ses = d.ses := by rw [irq_same]

theorem ses_reglClip (reason n c : Nat) (noStream : Bool) (factor : Nat) : (d.reglClip reason n c noStream factor).ses = d.ses := ses_irq _ _ _

theorem ses_levelAsk (p : Nat) (l : Int) : (d.levelAsk p l).ses = d.ses := id rfl

theorem ses_levelAgain (p : Nat) : (d.levelAgain p).ses = d.ses := by
  unfold Device.levelAgain
  split
  · rfl
  · dsimp only
    split
    · rfl
    · split
      · rw [ses_levelAsk, ses_reglClip]
        rfl
      · exact ses_levelAsk d p _

theorem ses_figureCode (f : Option Int) : (d.figureCode f).2.ses = d.ses := by
  unfold Device.figureCode
  split <;> rfl

theorem ses_showFigures : d.showFigures.ses = d.ses := by
  unfold Device.showFigures
  split
  · have hwr : ∀ (e : Device) (l : List Nat) (f : Nat → Nat) (v : Word), (e.forAll l (fun d n => d.wr (f n) v)).ses = e.ses :=
      fun e l f v => Device.forAll_keeps (·.ses) l (fun d n => d.wr (f n) v) (fun _ _ => rfl) e
    exact (hwr _ _ reglStreamFig _).trans (hwr _ _ reglCarFig _)
  · dsimp only
    rw [Device.forAll_keeps (·.ses), Device.forAll_keeps (·.ses)]
    · intro e n
      split
      · rfl
      · exact ses_figureCode e _
    · intro e c
      split
      · rfl
      · exact (ses_figureCode _ _).trans (ses_figureCode e _)

theorem ses_reglChanged : d.reglChanged.ses = d.ses := by
  rw [Device.reglChanged, ses_showFigures, Device.forAll_keeps (·.ses) _ _ (fun e p => ses_levelAgain e p)]

end

/-! #### The admission of weights from the table -/

/-- Are weights that are not to be scaled admitted (R228)? -/
def Device.admitsTable (d : Device) (n : Nat) (w : List Word) : Bool :=
  d.profile.any (fun p => d.headroom n w
    && decide (d.limitReason p (d.sesCar n) (d.figAmps none) (((d.admittedOn (d.sesCar n)).filter (· != n)).map d.figWeights ++ [w]) = 0))

/-- A stream whose new weights are admitted and wait (R133, R181). -/
def StreamSt.admits (w : List Word) (form : Steer) (nulled : Bool) (az el : Int) (s : StreamSt) : StreamSt :=
  { s with admitted := true, pend := some { w := w, form := form, nulled := nulled, az := az, el := el, old := s.admitted && s.pend.all (·.old) } }

/-- The device as weights of stream `n` are admitted and wait. -/
def Device.admitsTx (d : Device) (n : Nat) (w : List Word) (form : Steer) (nulled : Bool) (az el : Int) : Device :=
  (d.modStream n (StreamSt.admits w form nulled az el)).reglChanged

theorem admitTx_table (d : Device) (n : Nat) (w : List Word) (nulled : Bool) (az el : Int) :
    (d.admitTx n .table w nulled az el).1 = d.admitsTable n w
      ∧ (d.admitsTable n w = true → d.admitTx n .table w nulled az el = (true, d.admitsTx n w .table nulled az el)) := by
  unfold Device.admitTx Device.admitsTable
  dsimp only
  split
  · next h => exact ⟨by simp [h], fun hh => absurd hh (by simp [h])⟩
  · next p h =>
    rw [h, Option.any_some]
    split
    · next hroom => exact ⟨by simp_all, fun hh => absurd hh (by simp_all)⟩
    · next hroom =>
      split
      · next hr => exact ⟨by simp_all, fun _ => rfl⟩
      · next hr => exact ⟨by simp_all, fun hh => absurd hh (by simp_all)⟩

/-! #### The BEAM -/

section
variable (d : Device) (n : Nat)

theorem loadTx_begun (x : Desc) (ws : List Word) : (d.begun n x).loadTx n ws = d.loadTx n ws := id rfl

theorem admitsTable_begun (x : Desc) (w : List Word) : (d.begun n x).admitsTable n w = d.admitsTable n w := id rfl

theorem wtEntry_begun (x : Desc) (i : Nat) : (d.begun n x).wtEntry i = d.wtEntry i := id rfl

theorem weights_begun (x : Desc) : (d.begun n x).weights n = d.weights n := id rfl

variable {n} (hn : n < 16) (w : List Word) (form : Steer) (nulled : Bool) (az el : Int)

theorem sess_admitsTx (m : Nat) : (d.admitsTx n w form nulled az el).sess m = d.sess m := by
  rw [Device.sess, Device.admitsTx, ses_reglChanged]
  rfl

include hn

theorem stream_admitsTx : (d.admitsTx n w form nulled az el).stream n = (d.stream n).admits w form nulled az el := by
  rw [Device.admitsTx, ((bfKept_reglChanged _).beamKept hn).stream, Device.stream_modStream_self _ _ _ hn]

theorem weights_admitsTx : (d.admitsTx n w form nulled az el).weights n = d.weights n := by
  rw [Device.admitsTx, ((bfKept_reglChanged _).beamKept hn).weights, weights_modStream]

end

/-- A BEAM from a usable table entry, without EXCL, comes to its admission (R133). -/
theorem beamTx_admits {d : Device} {n : Nat} (hn : n < 16) {y : Desc} (htable : y.byte 5 = 0) (hexcl : (y.byte 12).testBit 0 = false)
    (hvalid : (entryFlags (d.wtEntry (y.le 6 2))).testBit 7 = true) (htx : (entryFlags (d.wtEntry (y.le 6 2))).testBit 0 = true)
    (hfree : (d.sess n).refused = false) {w : List Word} (hw : d.loadTx n (entryWeights (d.wtEntry (y.le 6 2))) = w)
    (hadmit : d.admitsTable n w = true) :
    d.beamTx n y = d.admitsTx n w .table false (entryZone (d.wtEntry (y.le 6 2))).1 (entryZone (d.wtEntry (y.le 6 2))).2 := by
  have hask := (admitTx_table d n w false (entryZone (d.wtEntry (y.le 6 2))).1 (entryZone (d.wtEntry (y.le 6 2))).2).2 hadmit
  have hrefused := (congrArg SesSt.refused (sess_admitsTx d (n := n) w .table false (entryZone (d.wtEntry (y.le 6 2))).1
    (entryZone (d.wtEntry (y.le 6 2))).2 n)).trans hfree
  have hpend := congrArg (fun s => s.pend.isNone) (stream_admitsTx d hn w .table false (entryZone (d.wtEntry (y.le 6 2))).1
    (entryZone (d.wtEntry (y.le 6 2))).2)
  unfold Device.beamTx
  dsimp only
  rw [if_neg (by simp [htable, hvalid, htx])]
  simp only [htable, if_true, hexcl, Bool.false_and, Bool.false_eq_true, if_false, hw, hask, Bool.not_true]
  generalize d.admitsTx n w .table false (entryZone (d.wtEntry (y.le 6 2))).1 (entryZone (d.wtEntry (y.le 6 2))).2 = e at hrefused hpend
  have hkept : e.freeRefused n = e := by
    unfold Device.freeRefused
    rw [if_neg (by simp [hrefused])]
  have hwaits : (e.stream n).pend.isNone = false := hpend
  rw [hkept]
  unfold Device.beamDone
  split
  · rw [if_neg (by simp [hwaits])]
  · rfl

theorem beam_completes {s : State} (hN : s.dev.NoRemote) (n : Fin 16) (x : Desc) (hrun : (s.dev.sess n.val).run = none)
    (hnext : s.dev.startNext n.val = some x) (hop : x.byte 0 = 0x13) (htx : x.byte 4 = 0) (htable : x.byte 5 = 0)
    (hexcl : (x.byte 12).testBit 0 = false) (hvalid : (entryFlags (s.dev.wtEntry (x.le 6 2))).testBit 7 = true)
    (hset : (entryFlags (s.dev.wtEntry (x.le 6 2))).testBit 0 = true) (hfree : (s.dev.sess n.val).refused = false)
    {w : List Word} (hw : s.dev.loadTx n.val (entryWeights (s.dev.wtEntry (x.le 6 2))) = w) {az el : Int}
    (hadmit : (s.dev.admitTx n.val .table w false az el).1 = true) :
    Completes (.beam n) s (fun e => (e.stream n.val).pend.map (·.w) = some w ∧ (e.stream n.val).admitted = true
      ∧ (e.sess n.val).run.map (·.bytes) = some x.bytes ∧ e.weights n.val = s.dev.weights n.val) := by
  rw [(admitTx_table _ _ _ _ _ _).1] at hadmit
  have hbegun := s.dev.sess_begun n.isLt x
  have hrunning := s.dev.run_begun n.isLt (x := x)
  have heq : s.dev.begin_ n.val x = (s.dev.begun n.val x).admitsTx n.val w .table false
      (entryZone (s.dev.wtEntry (x.le 6 2))).1 (entryZone (s.dev.wtEntry (x.le 6 2))).2 := by
    rw [begin_beamTx _ _ hop htx, beamTx_admits n.isLt (w := w) (by rwa [Device.byte_runs]) (by rwa [Device.byte_runs])
      (by rwa [Device.le_runs, wtEntry_begun]) (by rwa [Device.le_runs, wtEntry_begun]) (by rw [hbegun]; exact hfree)
      (by rwa [Device.le_runs, wtEntry_begun, loadTx_begun]) (by rwa [admitsTable_begun]), Device.le_runs, wtEntry_begun]
  refine begin_completes hN hrun hnext hop (.inl rfl) (fun hN' => ?_)
  rw [settle_stream hN', Device.sess_settle _ hN', settle_weights hN', heq, sess_admitsTx, stream_admitsTx _ n.isLt, weights_admitsTx _ n.isLt,
    weights_begun, hrunning]
  exact ⟨rfl, rfl, congrArg some (s.dev.bytes_runs x), rfl⟩

end Sys2Proof.Machine


namespace Sys2Proof.Machine

/-! ### The overlap groups are computed again (R177, R178) -/

/-! #### Links and their groups -/

theorem spread_congr {link link' : Nat → Nat → Bool} (h : ∀ s t, s < 16 → t < 16 → link s t = link' s t) (k : Nat) (g : List Nat) :
    spread link k g = spread link' k g := by
  induction k generalizing g with
  | zero => rfl
  | succ k ih =>
    rw [spread, spread, ih]
    congr 1
    refine List.map_congr_left (fun s hs => ?_)
    refine List.foldl_ext _ _ _ (fun m t ht => ?_)
    rw [h s t (List.mem_range.1 hs) (List.mem_range.1 ht)]

theorem foldl_min_le (link : Nat → Bool) (g : Nat → Nat) (l : List Nat) (m : Nat) :
    l.foldl (fun m t => if link t then min m (g t) else m) m ≤ m := by
  induction l generalizing m with
  | nil => exact Nat.le_refl m
  | cons t l ih =>
    rw [List.foldl_cons]
    refine (ih _).trans ?_
    split
    · exact Nat.min_le_left m _
    · exact Nat.le_refl m

theorem spread_lt (link : Nat → Nat → Bool) (k : Nat) {g : List Nat} (h : ∀ n, n < 16 → g.getD n n < 16) {n : Nat} (hn : n < 16) :
    (spread link k g).getD n n < 16 := by
  induction k generalizing g with
  | zero => exact h n hn
  | succ k ih =>
    refine ih (fun m hm => ?_)
    rw [List.getD_eq_getElem?_getD, List.getElem?_map, List.getElem?_range hm, Option.map_some, Option.getD_some]
    exact Nat.lt_of_le_of_lt (foldl_min_le (link m) (fun t => g.getD t t) _ _) (h m hm)

/-- A group's number is a session's. -/
theorem groupsOf_lt (link : Nat → Nat → Bool) {n : Nat} (hn : n < 16) : (groupsOf link).getD n n < 16 :=
  spread_lt link 16 (fun m hm => by rw [List.getD_eq_getElem?_getD, List.getElem?_range hm]; exact hm) hn

/-- The isolation of two sessions as the recomputation notes it: that of the assigned streams of one carrier. -/
def Device.isoNoted (d : Device) (s t : Nat) : Nat :=
  (((List.range 16).map (fun s => (List.range 16).map (fun t =>
    if s != t && (d.stream s).assigned && (d.stream t).assigned && d.sesCar s = d.sesCar t then d.iso s t else 255))).getD s []).getD t 255

theorem isoNoted_eq (d : Device) {s t : Nat} (hs : s < 16) (ht : t < 16) : d.isoNoted s t
    = if s != t && (d.stream s).assigned && (d.stream t).assigned && d.sesCar s = d.sesCar t then d.iso s t else 255 := by
  simp only [Device.isoNoted, List.getD_eq_getElem?_getD, List.getElem?_map, List.getElem?_range hs, List.getElem?_range ht, Option.map_some,
    Option.getD_some]

theorem linked_isoNoted (d : Device) {s t : Nat} (hs : s < 16) (ht : t < 16) : d.linked d.isoNoted s t = d.linked d.iso s t := by
  unfold Device.linked
  rw [isoNoted_eq d hs ht]
  by_cases h : (s != t && (d.stream s).assigned && (d.stream t).assigned && decide (d.sesCar s = d.sesCar t)) = true
  · rw [if_pos h]
  · rw [Bool.not_eq_true] at h
    rw [h, Bool.false_and, Bool.false_and]

theorem groupsOf_isoNoted (d : Device) : groupsOf (d.linked d.isoNoted) = groupsOf (d.linked d.iso) :=
  spread_congr (fun _ _ hs ht => linked_isoNoted d hs ht) _ _

/-! #### The groups' words -/

/-- From `d` to `e` the words SCHED.GROUP stay. -/
def Device.GroupsKept (d e : Device) : Prop := e.rd schedGroupLo = d.rd schedGroupLo ∧ e.rd schedGroupHi = d.rd schedGroupHi

theorem Device.GroupsKept.group {d e : Device} (h : Device.GroupsKept d e) (m : Nat) : e.group m = d.group m := by
  unfold Device.group Device.get
  rw [h.1, h.2]

theorem Device.GroupsKept.of_rd {d e : Device} (h : ∀ a, a = schedGroupLo ∨ a = schedGroupHi → e.rd a = d.rd a) : Device.GroupsKept d e :=
  ⟨h _ (.inl rfl), h _ (.inr rfl)⟩

section
variable (d : Device)

theorem Device.GroupsKept.trans {d e f : Device} (h : Device.GroupsKept d e) (g : Device.GroupsKept e f) : Device.GroupsKept d f :=
  ⟨g.1.trans h.1, g.2.trans h.2⟩

theorem groupsKept_setTurn (n : Nat) (b : Bool) : Device.GroupsKept d (d.setTurn n b) := .of_rd (fun a ha => by
  rw [Device.setTurn, Device.putB_eq]
  have hturn : schedGroupLo ≠ schedTurn ∧ schedGroupHi ≠ schedTurn := by decide
  exact Device.rd_put_ne _ _ _ _ (by rcases ha with rfl | rfl <;> simp [hturn]))

theorem groupsKept_holdEnd (n why : Nat) : Device.GroupsKept d (d.holdEnd n why) := .of_rd (fun a ha => rd_holdEnd d n why (by
  rcases ha with rfl | rfl <;> simp only [sesStat, schedGroupLo, schedGroupHi] <;> omega))

theorem rd_holdAsk (n why a : Nat) : (d.holdAsk n why).rd a = d.rd a := by
  rw [holdAsk_same]
  rfl

theorem rd_when_holdAsk (c : Bool) (n why a : Nat) : (d.when c (fun d => d.holdAsk n why)).rd a = d.rd a := by
  cases c
  · rfl
  · exact rd_holdAsk d n why a

theorem groupsKept_regroup (old new : List Nat) (n : Nat) : Device.GroupsKept d (d.regroup old new n) := by
  unfold Device.regroup
  split
  · exact (groupsKept_setTurn d n true).trans (groupsKept_holdEnd _ n 1)
  · split
    · exact .of_rd (fun _ _ => rfl)
    · dsimp only
      split
      · exact (groupsKept_setTurn d n false).trans (.of_rd (fun a _ => rd_when_holdAsk _ _ n 1 a))
      · exact .of_rd (fun _ _ => rfl)

theorem groupsKept_turnPass (n : Nat) : Device.GroupsKept d (d.turnPass n) := by
  cases h : d.nextTurn (d.turnClaims n) with
  | none =>
    unfold Device.turnPass
    rw [h]
    exact .of_rd (fun _ _ => rfl)
  | some m =>
    rw [turnPass_some d h]
    have hturning : Device.GroupsKept (d.setTurn m true) ((d.setTurn m true).modSes m SesSt.turning) := .of_rd (fun _ _ => Device.rd_modSes _ _ _ _)
    exact ((groupsKept_setTurn d m true).trans hturning).trans (groupsKept_holdEnd _ m 1)

theorem groupsKept_wr {a : Nat} (v : Word) (h : a / 1024 ≠ 0x18) : Device.GroupsKept d (d.wr a v) := .of_rd (fun b hb => by
  rw [Device.rd_wr, if_neg]
  rintro rfl
  exact h (by rcases hb with rfl | rfl <;> decide))

theorem groupsKept_showIso (iso : Nat → Nat → Nat) {n : Nat} (hn : n < 16) : Device.GroupsKept d (d.showIso iso n) := by
  have hpage : bfIso n / 1024 ≠ 0x18 := by rw [bfIso]; omega
  unfold Device.showIso
  dsimp only
  split
  · exact groupsKept_wr d _ hpage
  · exact ((groupsKept_wr d _ hpage).trans (groupsKept_wr _ _ hpage)).trans (groupsKept_wr _ _ hpage)

theorem group_setGroup {n m : Nat} (hn : n < 16) (hm : m < 16) (g : Nat) : (d.setGroup n g).group m = if m = n then g % 16 else d.group m := by
  have hword : schedGroupLo ≠ schedGroupHi := by decide
  unfold Device.setGroup Device.group
  by_cases hmn : m = n
  · subst hmn
    rw [if_pos rfl]
    split
    · rw [Device.get_put_same _ _ _ (by dsimp only; omega) (by dsimp only; omega)]
      rw [show 4 * m + 3 + 1 - 4 * m = 4 by omega]
      rfl
    · rw [Device.get_put_same _ _ _ (by dsimp only; omega) (by dsimp only; omega)]
      rw [show 4 * (m - 8) + 3 + 1 - 4 * (m - 8) = 4 by omega]
      rfl
  · rw [if_neg hmn]
    by_cases h8 : n < 8 <;> by_cases h8' : m < 8
    · rw [if_pos h8, if_pos h8', if_pos h8', Device.get_put_apart _ _ _ _ (by dsimp only; omega) (by dsimp only; omega) (by dsimp only; omega)]
    · rw [if_pos h8, if_neg h8', if_neg h8', Device.get_put_ne _ _ _ _ (fun h => hword h.symm)]
    · rw [if_neg h8, if_pos h8', if_pos h8', Device.get_put_ne _ _ _ _ hword]
    · rw [if_neg h8, if_neg h8', if_neg h8', Device.get_put_apart _ _ _ _ (by dsimp only; omega) (by dsimp only; omega) (by dsimp only; omega)]

/-! #### The turns -/

theorem hasTurn_congr {d e : Device} (h : e.rd schedTurn = d.rd schedTurn) (m : Nat) : e.hasTurn m = d.hasTurn m := by
  rw [Device.hasTurn, h, Device.hasTurn]

theorem turn_ne_stat (n : Nat) : schedTurn ≠ sesStat n := by
  simp only [schedTurn, sesStat]
  omega

/-- Who is alone in its group holds its turn (R178). -/
theorem hasTurn_regroup_alone {old new : List Nat} {n : Nat} (hn : n < 16) (h : aloneIn new n = true) : (d.regroup old new n).hasTurn n = true := by
  unfold Device.regroup
  rw [if_pos h, hasTurn_congr (rd_holdEnd _ n 1 (turn_ne_stat n)), hasTurn_setTurn _ hn, if_pos rfl]

theorem hasTurn_regroup_other (old new : List Nat) {n m : Nat} (hn : n < 16) (hm : m ≠ n) : (d.regroup old new n).hasTurn m = d.hasTurn m := by
  unfold Device.regroup
  split
  · rw [hasTurn_congr (rd_holdEnd _ n 1 (turn_ne_stat n)), hasTurn_setTurn _ hn, if_neg hm]
  · split
    · rfl
    · dsimp only
      split
      · rw [hasTurn_congr (rd_when_holdAsk _ _ n 1 _), hasTurn_setTurn _ hn, if_neg hm]
      · rfl

theorem nextTurn_mem {l : List Nat} {m : Nat} (h : d.nextTurn l = some m) : m ∈ l := by
  suffices hfold : ∀ (l t : List Nat) (b : Option Nat), (∀ k, b = some k → k ∈ t) → ∀ k, l.foldl (fun b m => match b with
      | none => some m
      | some k => if d.claim k < d.claim m || (d.claim k = d.claim m && decide ((d.sess m).turnEnd < (d.sess k).turnEnd)) then some m else some k) b = some k →
      k ∈ t ++ l by
    simpa using hfold l [] none (by simp) m h
  intro l
  induction l with
  | nil => exact fun t b hb k hk => by simpa using hb k hk
  | cons x l ih =>
    intro t b hb k hk
    rw [List.foldl_cons] at hk
    have := ih (t ++ [x]) _ (fun j hj => ?_) k hk
    · simpa using this
    · cases b with
      | none => simp_all
      | some i =>
        have hi := hb i rfl
        dsimp only at hj
        split at hj <;> simp_all

/-- A turn that is passed on takes nobody's. -/
theorem hasTurn_turnPass (n : Nat) {m : Nat} (h : d.hasTurn m = true) : (d.turnPass n).hasTurn m = true := by
  cases hnext : d.nextTurn (d.turnClaims n) with
  | none =>
    unfold Device.turnPass
    rw [hnext]
    exact h
  | some k =>
    have hk : k < 16 := by
      have := nextTurn_mem d hnext
      simp only [Device.turnClaims, List.mem_filter, List.mem_range] at this
      exact this.1
    rw [turnPass_some d hnext, hasTurn_turnTo d hk, h]
    simp

end

end Sys2Proof.Machine


namespace Sys2Proof.Machine

/-! #### GROUP_RECOMPUTE, part by part -/

section
variable (d : Device) (iso : Nat → Nat → Nat) (old new : List Nat)

/-- BF.ISO and SCHED.GROUP of every session show what was found (R177). -/
def Device.groupsShown : Device := d.forAll (List.range 16) (fun d n => (d.showIso iso n).setGroup n (new.getD n n))

/-- The turns follow the new groups (R178). -/
def Device.turnsRegrouped : Device := d.forAll (List.range 16) (fun d n => d.regroup old new n)

/-- No transmit weights are newer than the groups. -/
def Device.unfresh : Device := d.forAll (List.range 16) (fun d n => d.modStream n (fun s => { s with fresh := false }))

/-- A group that a split has left without a turn gives it to its best claim (R140). -/
def Device.turnFilled (n : Nat) : Device :=
  if 2 ≤ ((List.range 16).filter (fun m => new.getD m m = n)).length ∧ ((List.range 16).filter (fun m => new.getD m m = n)).all (fun m => !d.hasTurn m)
  then d.turnPass n else d

/-- The groups stand for the weights in effect. -/
def Device.groupsFound : Device := { d with bf := { d.bf with groupsDue := false } }

/-- The groups `new` enter for the groups `old`, with the figures `iso`. -/
def Device.regrouped : Device :=
  (((d.groupsShown iso new).turnsRegrouped old new).unfresh.forAll (List.range 16) (fun d n => d.turnFilled new n)).groupsFound

theorem groupRecompute_eq : groupRecompute d = d.regrouped d.isoNoted ((List.range 16).map d.group) (groupsOf (d.linked d.isoNoted)) := by
  unfold groupRecompute Device.regrouped
  extract_lets tab iso old new shown regrouped unfresh filled
  have hnew : new = groupsOf (d.linked d.isoNoted) := rfl
  have hshown : shown = d.groupsShown d.isoNoted new := rfl
  have hregrouped : regrouped = shown.turnsRegrouped ((List.range 16).map d.group) new := rfl
  have hunfresh : unfresh = regrouped.unfresh := rfl
  have hfilled : filled = unfresh.forAll (List.range 16) (fun d n => d.turnFilled new n) := rfl
  rw [← hnew, ← hshown, ← hregrouped, ← hunfresh, ← hfilled]
  rfl

theorem groupsKept_groupsFound : Device.GroupsKept d d.groupsFound := ⟨rfl, rfl⟩

theorem hasTurn_groupsFound (m : Nat) : d.groupsFound.hasTurn m = d.hasTurn m := hasTurn_congr rfl m

theorem group_groupsShown (h : ∀ n, n < 16 → new.getD n n < 16) {m : Nat} (hm : m < 16) : (d.groupsShown iso new).group m = new.getD m m := by
  have hshown : ∀ (e : Device) (n : Nat), n < 16 → ((e.showIso iso n).setGroup n (new.getD n n)).group m = if m = n then new.getD n n else e.group m :=
    fun e n hn => by rw [group_setGroup _ hn hm, (groupsKept_showIso e iso hn).group, Nat.mod_eq_of_lt (h n hn)]
  refine Device.forAll_establishes (P := fun e => e.group m = new.getD m m) (List.mem_range.2 hm) (fun e => ?_) (fun e n hn hne he => ?_) d
  · rw [hshown e m hm, if_pos rfl]
  · rw [hshown e n (List.mem_range.1 hn), if_neg (fun hh => hne hh.symm), he]

theorem groupsKept_turnsRegrouped : Device.GroupsKept d (d.turnsRegrouped old new) :=
  Device.forAll_induct (Device.GroupsKept d) _ _ (fun e _ he => he.trans (groupsKept_regroup e old new _)) d ⟨rfl, rfl⟩

theorem rd_unfresh (a : Nat) : d.unfresh.rd a = d.rd a := Device.forAll_keeps (fun e => e.rd a) _ _ (fun _ _ => Device.rd_modStream _ _ _ _) d

theorem turnFilled_cases (n : Nat) : d.turnFilled new n = d.turnPass n ∨ d.turnFilled new n = d := by
  unfold Device.turnFilled
  split
  · exact .inl rfl
  · exact .inr rfl

theorem groupsKept_turnFilled (n : Nat) : Device.GroupsKept d (d.turnFilled new n) := by
  rcases turnFilled_cases d new n with h | h
  · rw [h]
    exact groupsKept_turnPass d n
  · rw [h]
    exact ⟨rfl, rfl⟩

theorem hasTurn_turnFilled (n : Nat) {m : Nat} (hm : d.hasTurn m = true) : (d.turnFilled new n).hasTurn m = true := by
  rcases turnFilled_cases d new n with h | h
  · rw [h]
    exact hasTurn_turnPass d n hm
  · rwa [h]

theorem hasTurn_turnsRegrouped {m : Nat} (hm : m < 16) (h : aloneIn new m = true) : (d.turnsRegrouped old new).hasTurn m = true :=
  Device.forAll_establishes (P := fun e => e.hasTurn m = true) (List.mem_range.2 hm) (fun e => hasTurn_regroup_alone e hm h)
    (fun e _ hn hne he => (hasTurn_regroup_other e old new (List.mem_range.1 hn) (fun hh => hne hh.symm)).trans he) d

end

/-- What the recomputation leaves: each session's group, and its turn where it is alone (R177, R178). -/
theorem groups_groupRecompute (d : Device) {m : Nat} (hm : m < 16) : (groupRecompute d).group m = (groupsOf (d.linked d.iso)).getD m m
    ∧ (aloneIn (groupsOf (d.linked d.iso)) m = true → (groupRecompute d).hasTurn m = true) ∧ (groupRecompute d).bf.groupsDue = false := by
  have hlt : ∀ n, n < 16 → (groupsOf (d.linked d.iso)).getD n n < 16 := fun n hn => groupsOf_lt _ hn
  rw [groupRecompute_eq, groupsOf_isoNoted, Device.regrouped]
  generalize groupsOf (d.linked d.iso) = new at hlt
  generalize (List.range 16).map d.group = old
  have hshown := group_groupsShown d d.isoNoted new hlt hm
  generalize d.groupsShown d.isoNoted new = e at hshown
  have hkept : Device.GroupsKept e (((e.turnsRegrouped old new).unfresh).forAll (List.range 16) (fun d n => d.turnFilled new n)) :=
    ((groupsKept_turnsRegrouped e old new).trans (.of_rd (fun a _ => rd_unfresh _ a))).trans
      (Device.forAll_induct (Device.GroupsKept _) _ _ (fun f _ hf => hf.trans (groupsKept_turnFilled f new _)) _ ⟨rfl, rfl⟩)
  have hturn : aloneIn new m = true → (((e.turnsRegrouped old new).unfresh).forAll (List.range 16) (fun d n => d.turnFilled new n)).hasTurn m = true :=
    fun h => Device.forAll_induct (fun f => f.hasTurn m = true) _ _ (fun f _ hf => hasTurn_turnFilled f new _ hf) _
      ((hasTurn_congr (rd_unfresh _ _) m).trans (hasTurn_turnsRegrouped e old new hm h))
  generalize ((e.turnsRegrouped old new).unfresh).forAll (List.range 16) (fun d n => d.turnFilled new n) = f at hkept hturn
  exact ⟨((groupsKept_groupsFound f).group m).trans ((hkept.group m).trans hshown), fun h => (hasTurn_groupsFound f m).trans (hturn h), rfl⟩

theorem groupRecompute_completes {s : State} (hN : s.dev.NoRemote) :
    Completes .groupRecompute s (fun e => (∀ m : Fin 16, e.group m.val = (groupsOf (s.dev.linked s.dev.iso)).getD m.val m.val)
      ∧ (∀ m : Fin 16, aloneIn (groupsOf (s.dev.linked s.dev.iso)) m.val = true → e.hasTurn m.val = true) ∧ e.bf.groupsDue = false) := by
  have hN' : (groupRecompute s.dev).NoRemote := groupRecompute_closed noRemote_closed hN
  have hfacts := fun (m : Nat) (hm : m < 16) => groups_groupRecompute s.dev hm
  refine completes_act groupRecompute rfl ?_
  generalize groupRecompute s.dev = e at hN' hfacts
  have hsettled : Device.GroupsKept e e.settle := ⟨settle_rd e hN' _ (by decide), settle_rd e hN' _ (by decide)⟩
  refine ⟨fun m => ?_, fun m hm => ?_, ?_⟩
  · rw [hsettled.group, (hfacts m m.isLt).1]
  · rw [hasTurn_settle hN']
    exact (hfacts m m.isLt).2.1 hm
  · rw [settle_bf e hN']
    exact (hfacts 0 (by decide)).2.2

end Sys2Proof.Machine


namespace Sys2Proof.Machine

/-! ### Direction estimates (R182 … R185) -/

/-- From `d` to `e` no word but BF.STAT changes, and what a direction estimate needs beside the words stays. -/
structure Device.EstKept (d e : Device) : Prop where
  rd : ∀ a, a ≠ bfStat → e.rd a = d.rd a
  cal : e.cal = d.cal
  cars : e.cars = d.cars

theorem pos_ne_bfStat (p : Nat) : bfPos p ≠ bfStat := by
  unfold bfPos bfStat
  omega

section
variable {d e : Device} (h : Device.EstKept d e)
include h

theorem Device.EstKept.get (f : Fld) (hf : f.reg ≠ bfStat) : e.get f = d.get f := by rw [Device.get, h.rd _ hf, Device.get]

theorem Device.EstKept.getS (f : Fld) (hf : f.reg ≠ bfStat) : e.getS f = d.getS f := by rw [Device.getS, h.get f hf, Device.getS]

theorem Device.EstKept.posX (p : Nat) : e.getS (fBfPosX p) = d.getS (fBfPosX p) := h.getS _ (pos_ne_bfStat p)

theorem Device.EstKept.posY (p : Nat) : e.getS (fBfPosY p) = d.getS (fBfPosY p) := h.getS _ (pos_ne_bfStat p)

theorem Device.EstKept.mutedPath (p : Nat) : e.mutedPath p = d.mutedPath p := by
  rw [Device.mutedPath, h.rd _ (show bfMutedLo ≠ bfStat by decide), h.rd _ (show bfMutedHi ≠ bfStat by decide), Device.mutedPath]

theorem Device.EstKept.halfB (p : Nat) : e.halfB p = d.halfB p := by
  rw [Device.halfB, h.rd _ (show bfPolLo ≠ bfStat by decide), h.rd _ (show bfPolHi ≠ bfStat by decide), Device.halfB]

theorem Device.EstKept.livePaths : e.livePaths = d.livePaths := by simp only [Device.livePaths, h.mutedPath]

theorem Device.EstKept.dirPower : e.dirPower = d.dirPower := by
  funext hz z az el
  simp only [Device.dirPower, Device.array, Device.phase, h.mutedPath, h.halfB, h.posX, h.posY]

theorem Device.EstKept.linearArray : e.linearArray = d.linearArray := by
  simp only [Device.linearArray, h.livePaths, h.posY]

theorem Device.EstKept.dirErr : e.dirErr = d.dirErr := by
  funext hz z noise az el
  simp only [Device.dirErr, h.livePaths, h.linearArray, h.posX, h.posY]

/-- What a direction estimate gives depends on neither the queue nor the counts. -/
theorem Device.EstKept.dirFind (hz : Nat) (z : List Cx) (noise : Nat) : e.dirFind hz z noise = d.dirFind hz z noise := by
  simp only [Device.dirFind, h.dirPower, h.linearArray, h.livePaths, h.dirErr, h.cal, h.get fBfDirCfgDirLimit (by decide),
    h.get fBfDirCfgAmbig (by decide), h.get fBfDirCfgMinPaths (by decide), h.get fBfDirCfgErrMax (by decide)]

theorem Device.EstKept.carHz (n : Nat) : e.carHz (e.sesCar n) = d.carHz (d.sesCar n) := by
  have hcar : e.sesCar n = d.sesCar n := h.get (fSesRxcfgCarrier n) (by simp only [fSesRxcfgCarrier, sesRxcfg, bfStat]; omega)
  have hfreq : e.rd (carFreq (d.sesCar n)) = d.rd (carFreq (d.sesCar n)) := h.rd _ (by simp only [carFreq, bfStat]; omega)
  rw [hcar, Device.carHz, Device.carHz, Device.carState, Device.carState, Device.car, Device.car, h.cars, hfreq,
    h.get (fCarStatState (d.sesCar n)) (by simp only [fCarStatState, carStat, bfStat]; omega)]

end

/-- The first request has left the queue, and STAT shows how many wait (R185). -/
def Device.estTaken (d : Device) (t : List EstReq) : Device := { d with bf := { d.bf with est := t } }.put fBfStatEstQueue (min 16 t.length)

/-- A session with a direction found, or none (R184). -/
def SesSt.directed (r : Option (Int × Int × Nat)) (s : SesSt) : SesSt := { s with dir := r }

/-- The count a direction falls in (R185). -/
def dirCount (r : Option (Int × Int × Nat)) : Fld := if r.isSome then fBfDirCountValid else fBfDirCountInvalid

/-- The direction of session `n` has been found, or not, and is counted. -/
def Device.directed (d : Device) (n : Nat) (t : List EstReq) (r : Option (Int × Int × Nat)) : Device :=
  ((d.estTaken t).modSes n (SesSt.directed r)).count (dirCount r)

section
variable (d : Device) (t : List EstReq)

theorem estKept_estTaken : Device.EstKept d (d.estTaken t) := ⟨fun _ ha => Device.rd_put_ne _ _ _ _ ha, rfl, rfl⟩

theorem directionEstimate_eq {q : EstReq} (h : d.bf.est = q :: t) (z : List (BitVec 32 × BitVec 32)) (noise : BitVec 64) :
    directionEstimate z noise d = d.directed q.session t
      (d.dirFind (d.carHz (d.sesCar q.session)) (z.map (fun v => ⟨fxOf v.1.toInt, fxOf v.2.toInt⟩)) noise.toNat) := by
  have hkept := estKept_estTaken d t
  rw [← hkept.dirFind, ← hkept.carHz]
  unfold directionEstimate
  rw [h]
  rfl

variable {t} (n : Nat) (r : Option (Int × Int × Nat))

theorem reg_dirCount : (dirCount r).reg = bfDirCount := by
  unfold dirCount
  split <;> rfl

theorem rd_directed {a : Nat} (ha : a ≠ bfDirCount) : (d.directed n t r).rd a = (d.estTaken t).rd a := by
  rw [Device.directed, Device.rd_count_ne _ _ _ (by rwa [reg_dirCount]), Device.rd_modSes]

theorem est_directed : (d.directed n t r).bf.est = t := id rfl

theorem dir_directed (hn : n < 16) : ((d.directed n t r).sess n).dir = r := by
  have hsess : (d.directed n t r).sess n = ((d.estTaken t).modSes n (SesSt.directed r)).sess n := id rfl
  rw [hsess, Device.sess_modSes_self _ _ _ hn, SesSt.directed]

theorem queue_directed : (d.directed n t r).get fBfStatEstQueue = min 16 t.length := by
  rw [Device.get, rd_directed d n r (by decide), ← Device.get]
  refine (Device.get_put_same _ fBfStatEstQueue _ (by decide) (by decide)).trans (Nat.mod_eq_of_lt ?_)
  exact Nat.lt_of_le_of_lt (Nat.min_le_left _ _) (by decide)

/-- The direction is counted as valid or as invalid (R185). -/
theorem counts_directed : (d.directed n t r).get fBfDirCountValid = (if r.isSome then min (d.get fBfDirCountValid + 1) 0xFFFF else d.get fBfDirCountValid)
    ∧ (d.directed n t r).get fBfDirCountInvalid = (if r.isSome then d.get fBfDirCountInvalid else min (d.get fBfDirCountInvalid + 1) 0xFFFF) := by
  have hold : ∀ f : Fld, f.reg = bfDirCount → ((d.estTaken t).modSes n (SesSt.directed r)).get f = d.get f := fun f hf => by
    rw [Device.get_modSes]
    exact Device.get_put_ne _ _ _ _ (by rw [hf]; decide)
  have hv := hold fBfDirCountValid rfl
  have hi := hold fBfDirCountInvalid rfl
  unfold Device.directed dirCount
  generalize (d.estTaken t).modSes n (SesSt.directed r) = e at hv hi
  rw [← hv, ← hi]
  cases r.isSome
  · exact ⟨Device.get_put_apart _ fBfDirCountInvalid fBfDirCountValid _ (by decide) (by decide) (by decide),
      Device.get_count_same e fBfDirCountInvalid (by decide) (by decide)⟩
  · exact ⟨Device.get_count_same e fBfDirCountValid (by decide) (by decide),
      Device.get_put_apart _ fBfDirCountValid fBfDirCountInvalid _ (by decide) (by decide) (by decide)⟩

end

theorem directionEstimate_completes {s : State} (hN : s.dev.NoRemote) (n : Fin 16) (z : List (BitVec 32 × BitVec 32)) (noise : BitVec 64)
    {q : EstReq} {t : List EstReq} (h : s.dev.bf.est = q :: t) (hq : q.session = n.val) :
    Completes (.directionEstimate z noise) s (fun e => e.bf.est = t
      ∧ e.get fBfStatEstQueue = min 16 t.length
      ∧ (e.sess n.val).dir = s.dev.dirFind (s.dev.carHz (s.dev.sesCar n.val)) (z.map (fun v => ⟨fxOf v.1.toInt, fxOf v.2.toInt⟩)) noise.toNat
      ∧ e.get fBfDirCountValid = (if (e.sess n.val).dir.isSome then min (s.dev.get fBfDirCountValid + 1) 0xFFFF else s.dev.get fBfDirCountValid)
      ∧ e.get fBfDirCountInvalid = (if (e.sess n.val).dir.isSome then s.dev.get fBfDirCountInvalid else min (s.dev.get fBfDirCountInvalid + 1) 0xFFFF)
      ∧ Device.OnlyRegs [bfStat, bfDirCount] s.dev e) := by
  have hN' : (directionEstimate z noise s.dev).NoRemote := directionEstimate_closed noRemote_closed hN
  refine completes_act (directionEstimate z noise) rfl ?_
  rw [directionEstimate_eq s.dev t h, hq] at hN' ⊢
  generalize s.dev.dirFind (s.dev.carHz (s.dev.sesCar n.val)) _ _ = r at hN' ⊢
  obtain ⟨hvalid, hinvalid⟩ := counts_directed s.dev (t := t) n r
  have hdir := dir_directed s.dev (t := t) n r n.isLt
  have hqueue := queue_directed s.dev (t := t) n r
  have hest := est_directed s.dev (t := t) n r
  have hrd : ∀ a, a ∉ [bfStat, bfDirCount] → (s.dev.directed n t r).rd a = s.dev.rd a := fun a ha => by
    simp only [List.mem_cons, List.not_mem_nil, or_false, not_or] at ha
    rw [rd_directed _ _ _ ha.2, (estKept_estTaken s.dev t).rd a ha.1]
  have hregs := onlyRegs_settle hN' hrd rfl rfl
  generalize s.dev.directed n t r = e at *
  rw [Device.sess_settle _ hN', settle_bf _ hN', settle_get _ hN' _ (by decide), settle_get _ hN' _ (by decide), settle_get _ hN' _ (by decide), hdir]
  exact ⟨hest, hqueue, rfl, hvalid, hinvalid, hregs⟩

end Sys2Proof.Machine


namespace Sys2Proof.Machine

section
variable {s : State} (hN : s.dev.NoRemote)
include hN

theorem wtFetch_completes (ha : s.dev.applies bfWtCmd (fBfWtCmdAction.set 0 1) 0xF#4 = true) :
    Completes .wtFetch s (fun e => e.on fBfWtStatBusy = true
      ∧ (∀ k : Fin 68, e.rd (bfWtStage k.val) = stageWord (s.dev.wtEntry (s.dev.get fBfWtSelIndex)) k.val)
      ∧ e.bf.table = s.dev.bf.table ∧ Device.OnlyRegs (wtWords ++ (List.range 68).map bfWtStage) s.dev e) :=
  fetch_completes hN (by decide) rfl ha (fun d hd => by rw [wtAction_fetch, hd.index, hd.wtEntry])

theorem wtFetchLive_completes (ha : s.dev.applies bfWtCmd (fBfWtCmdAction.set 0 4) 0xF#4 = true) :
    Completes .wtFetchLive s (fun e => e.on fBfWtStatBusy = true ∧ (∀ k : Fin 68, e.rd (bfWtStage k.val) = stageWord s.dev.wtLive k.val)
      ∧ e.bf.table = s.dev.bf.table ∧ Device.OnlyRegs (wtWords ++ (List.range 68).map bfWtStage) s.dev e) :=
  fetch_completes hN (by decide) rfl ha (fun d hd => by rw [wtAction_fetchLive, hd.wtLive])

/-- The clause of the weights that take effect, each part of the stream named. -/
theorem weightsTakeEffect_shows (n : Fin 16) (t : PendTx) (hp : (s.dev.stream n.val).pend = some t) (hl : t.w.length = 64)
    (hq : s.dev.sesQuiet n.val = true) (ha : (s.dev.sess n.val).acc.running = false) :
    Completes (.weightsTakeEffect n) s (fun e => e.weights n.val = t.w ∧ (e.stream n.val).pend = none ∧ (e.stream n.val).az = t.az
      ∧ (e.stream n.val).el = t.el ∧ (e.stream n.val).tx = t.form ∧ e.on (fBfStreamSrc n.val) = (t.form != .table)
      ∧ e.on (fBfStreamNulled n.val) = t.nulled
      ∧ ((s.dev.sess n.val).run.map (fun x => x.byte 0) = some 0x13 → (e.sess n.val).run = none)) := by
  refine (weightsTakeEffect_completes hN n t hp hl hq ha).imp (fun e he => ?_)
  obtain ⟨⟨hw, hstream, hsrc, hnulled⟩, hrun⟩ := he
  rw [hstream]
  exact ⟨hw, rfl, rfl, rfl, rfl, hsrc, hnulled, hrun⟩

end

/-- Settles O27: the weight table's commands on the device their writes reach, the waiting weights, the BEAM, the groups and the estimates, each from its own lemma. -/
theorem weightsAndBeams : Obligations.WeightsAndBeams := by
  intro s hN
  refine ⟨wtFetch_completes hN, wtFetchLive_completes hN, wtCommit_completes hN, wtCommit_malformed_completes hN, wtErase_completes hN,
    wtActionDone_completes hN, bfClearDirCount_completes hN, fun n => ⟨weightsTakeEffect_shows hN n, ?_, groupRecompute_completes hN, ?_⟩⟩
  · intro x hrun hnext hop htx htable hexcl hvalid hset hfree hadmit
    exact beam_completes hN n x hrun hnext hop htx htable hexcl hvalid hset hfree rfl hadmit
  · intro z noise q t hest hq
    exact directionEstimate_completes hN n z noise hest hq

end Sys2Proof.Machine


namespace Sys2Proof.Machine

/-! ### The paths' pages while levels, figures and weights are computed again (R189, R190, R229, R250) -/

/-- The words of the PATH pages that neither levels nor weights move: the page header, FAULT and IDLE_NF. -/
def PathWord (a : Nat) : Prop := (0x40 * 1024 ≤ a ∧ a < 0x80 * 1024) ∧ (a % 1024 < 0x10 ∨ a % 1024 = 0x16 ∨ a % 1024 = 0x1C)

/-- From `d` to `e` the words of `PathWord` and MUTED stay, and every path stays joined or out. -/
structure Device.PathsKept (d e : Device) : Prop where
  words : ∀ a, PathWord a ∨ a = bfMutedLo ∨ a = bfMutedHi → e.rd a = d.rd a
  joined : ∀ q, (e.path q).joined = (d.path q).joined

/-- From `d` to `e` no path's level in effect moves either. -/
structure Device.LevelsKept (d e : Device) : Prop extends Device.PathsKept d e where
  level : ∀ q, e.get (fPathTxpwrNowLevel q) = d.get (fPathTxpwrNowLevel q)

/-- A word apart from those that `LevelsKept` speaks of. -/
def LevelApart (a : Nat) : Prop := ¬ (PathWord a ∨ a = bfMutedLo ∨ a = bfMutedHi) ∧ ∀ q, a ≠ pathTxpwrNow q

theorem Device.PathsKept.refl (d : Device) : Device.PathsKept d d := ⟨fun _ _ => rfl, fun _ => rfl⟩

theorem Device.PathsKept.trans {d e f : Device} (h : Device.PathsKept d e) (g : Device.PathsKept e f) : Device.PathsKept d f :=
  ⟨fun a ha => (g.words a ha).trans (h.words a ha), fun q => (g.joined q).trans (h.joined q)⟩

theorem Device.PathsKept.word {d e : Device} (h : Device.PathsKept d e) {a : Nat} (ha : PathWord a) : e.rd a = d.rd a := h.words a (.inl ha)

theorem Device.PathsKept.muted {d e : Device} (h : Device.PathsKept d e) (q : Nat) : e.mutedPath q = d.mutedPath q := by
  rw [Device.mutedPath, h.words _ (.inr (.inl rfl)), h.words _ (.inr (.inr rfl)), Device.mutedPath]

theorem Device.LevelsKept.refl (d : Device) : Device.LevelsKept d d := ⟨.refl d, fun _ => rfl⟩

theorem Device.LevelsKept.trans {d e f : Device} (h : Device.LevelsKept d e) (g : Device.LevelsKept e f) : Device.LevelsKept d f :=
  ⟨h.toPathsKept.trans g.toPathsKept, fun q => (g.level q).trans (h.level q)⟩

/-- A change that reaches neither the registers nor the paths. -/
theorem Device.LevelsKept.of_apart {d e : Device} (hr : e.regs = d.regs) (hp : e.paths = d.paths) : Device.LevelsKept d e where
  words a _ := by simp only [Device.rd, hr]
  joined q := by simp only [Device.path, hp]
  level q := Device.get_congr hr _

theorem FreeOnly.levelsKept {d e : Device} (h : FreeOnly d e) : Device.LevelsKept d e := by
  rw [FreeOnly] at h
  exact .of_apart (by rw [h]) (by rw [h])

/-- Updates along a list, each of which keeps a property, keep it. -/
theorem Device.forAll_preserves {α : Type} {P : Device → Prop} {l : List α} {f : Device → α → Device} (h : ∀ d, ∀ x ∈ l, P d → P (f d x))
    {d : Device} (hd : P d) : P (d.forAll l f) := by
  induction l generalizing d with
  | nil => exact hd
  | cons x t ih => exact ih (fun e y hy => h e y (List.mem_cons_of_mem x hy)) (h d x List.mem_cons_self hd)

theorem levelsKept_forAll {α : Type} {l : List α} {f : Device → α → Device} (h : ∀ d, ∀ x ∈ l, Device.LevelsKept d (f d x)) (d : Device) :
    Device.LevelsKept d (d.forAll l f) :=
  Device.forAll_preserves (fun e x hx he => he.trans (h e x hx)) (.refl d)

theorem levelsKept_when {d : Device} {c : Bool} {f : Device → Device} (h : Device.LevelsKept d (f d)) : Device.LevelsKept d (d.when c f) := by
  cases c
  · exact .refl d
  · exact h

theorem levelApart_low {a : Nat} (h : a < 0x40 * 1024) (hlo : a ≠ bfMutedLo) (hhi : a ≠ bfMutedHi) : LevelApart a := by
  refine ⟨?_, fun q => ?_⟩
  · simp only [PathWord]
    omega
  · rw [pathTxpwrNow]
    omega

theorem levelApart_page {a : Nat} (h : a < 0x40 * 1024) (h16 : a / 1024 ≠ 0x16) : LevelApart a :=
  levelApart_low h (fun ha => h16 (ha ▸ by decide)) (fun ha => h16 (ha ▸ by decide))

/-- TXPWR, GAIN and DPD_STAT of a path move with its levels and its figures. -/
theorem levelApart_path {a : Nat} (h : 0x40 * 1024 ≤ a) (ho : a % 1024 = 0x11 ∨ a % 1024 = 0x13 ∨ a % 1024 = 0x1B) : LevelApart a := by
  refine ⟨?_, fun q => ?_⟩
  · simp only [PathWord, bfMutedLo, bfMutedHi]
    omega
  · rw [pathTxpwrNow]
    omega

theorem not_pathWord_now (q : Nat) : ¬ (PathWord (pathTxpwrNow q) ∨ pathTxpwrNow q = bfMutedLo ∨ pathTxpwrNow q = bfMutedHi) := by
  simp only [PathWord, pathTxpwrNow, bfMutedLo, bfMutedHi]
  omega

section
variable (d : Device)

theorem pathsKept_put {f : Fld} (v : Nat) (h : ¬ (PathWord f.reg ∨ f.reg = bfMutedLo ∨ f.reg = bfMutedHi)) : Device.PathsKept d (d.put f v) where
  words _ ha := Device.rd_put_ne _ _ _ _ (fun hf => h (hf ▸ ha))
  joined _ := rfl

theorem levelsKept_wr {a : Nat} (v : Word) (h : LevelApart a) : Device.LevelsKept d (d.wr a v) where
  words b hb := by rw [Device.rd_wr, if_neg (fun hf : b = a => h.1 (hf ▸ hb))]
  joined _ := rfl
  level q := Device.get_wr_ne _ _ _ _ (fun hf => h.2 q hf.symm)

theorem levelsKept_put {f : Fld} (v : Nat) (h : LevelApart f.reg) : Device.LevelsKept d (d.put f v) := levelsKept_wr d _ h

theorem levelsKept_irq {p : Nat} (b : Nat) (h : LevelApart (irqStat p)) : Device.LevelsKept d (d.irq p b) := by
  unfold Device.irq
  split
  · exact levelsKept_put d _ h
  · exact .refl d

theorem pathsKept_modPath (p : Nat) (f : PathSt → PathSt) (hf : ∀ s, (f s).joined = s.joined) : Device.PathsKept d (d.modPath p f) where
  words a _ := Device.rd_modPath _ _ _ a
  joined q := by
    rw [Device.path_modPath]
    split
    · next h => rw [h.1, hf]
    · rfl

theorem levelsKept_modPath (p : Nat) (f : PathSt → PathSt) (hf : ∀ s, (f s).joined = s.joined) : Device.LevelsKept d (d.modPath p f) :=
  ⟨pathsKept_modPath d p f hf, fun _ => Device.get_modPath _ _ _ _⟩

theorem levelsKept_modStream (n : Nat) (f : StreamSt → StreamSt) : Device.LevelsKept d (d.modStream n f) := .of_apart rfl rfl

theorem levelsKept_groupsStale : Device.LevelsKept d d.groupsStale := .of_apart rfl rfl

/-! #### Waiting changes, levels and figures -/

theorem levelsKept_showWaits : Device.LevelsKept d d.showWaits := levelsKept_put d _ (levelApart_page (by decide) (by decide))

theorem levelsKept_await (c : Change) : Device.LevelsKept d (d.await c) := by
  refine Device.LevelsKept.trans ?_ (levelsKept_showWaits _)
  exact .of_apart rfl rfl

theorem levelsKept_dropWaits (f : Change → Bool) : Device.LevelsKept d (d.dropWaits f) := by
  refine Device.LevelsKept.trans ?_ (levelsKept_showWaits _)
  exact .of_apart rfl rfl

theorem levelsKept_reglRecord (reason n c : Nat) (clip noStream : Bool) (factor : Nat) :
    Device.LevelsKept d (d.reglRecord reason n c clip noStream factor) := by
  have hput : ∀ (e : Device) (f : Fld) (v : Nat), f.reg = reglLast → Device.LevelsKept e (e.put f v) :=
    fun e f v hf => levelsKept_put e v (hf ▸ levelApart_page (by decide) (by decide))
  exact (((((hput _ _ _ rfl).trans (hput _ _ _ rfl)).trans (hput _ _ _ rfl)).trans (hput _ _ _ rfl)).trans (hput _ _ _ rfl)).trans
    (hput _ _ _ rfl)

theorem levelsKept_reglRefuse (reason n c : Nat) (noStream : Bool) : Device.LevelsKept d (d.reglRefuse reason n c noStream) :=
  ((levelsKept_reglRecord d _ _ _ _ _ _).trans (levelsKept_put _ _ (levelApart_page (by decide) (by decide)))).trans
    (levelsKept_irq _ _ (levelApart_page (by decide) (by decide)))

theorem levelsKept_reglClip (reason n c : Nat) (noStream : Bool) (factor : Nat) : Device.LevelsKept d (d.reglClip reason n c noStream factor) :=
  ((levelsKept_reglRecord d _ _ _ _ _ _).trans (levelsKept_put _ _ (levelApart_page (by decide) (by decide)))).trans
    (levelsKept_irq _ _ (levelApart_page (by decide) (by decide)))

/-- TXPWR_NOW.PENDING moves beside the level it tells of. -/
theorem levelsKept_nowPending (p v : Nat) : Device.LevelsKept d (d.put (fPathTxpwrNowPending p) v) where
  toPathsKept := pathsKept_put d v (not_pathWord_now p)
  level q := Device.get_put_apart _ _ _ _ (by simp [fPathTxpwrNowPending]) (by simp [fPathTxpwrNowPending])
    (.inl (by simp [fPathTxpwrNowPending, fPathTxpwrNowLevel]))

theorem levelsKept_levelAsk (p : Nat) (l : Int) : Device.LevelsKept d (d.levelAsk p l) := by
  refine Device.LevelsKept.trans ?_ (levelsKept_await _ _)
  refine Device.LevelsKept.trans ?_ (levelsKept_nowPending _ p 1)
  exact levelsKept_modPath d p _ (fun _ => rfl)

theorem levelsKept_level (p v : Nat) : Device.LevelsKept d (d.put (fPathTxpwrLevel p) v) :=
  levelsKept_put d v (levelApart_path (by simp only [fPathTxpwrLevel, pathTxpwr]; omega) (.inl (by simp only [fPathTxpwrLevel, pathTxpwr]; omega)))

theorem levelsKept_levelAgain (p : Nat) : Device.LevelsKept d (d.levelAgain p) := by
  unfold Device.levelAgain
  split
  · exact .refl d
  · dsimp only
    split
    · exact .refl d
    · split
      · exact ((levelsKept_level d p _).trans (levelsKept_reglClip _ _ _ _ _ _)).trans (levelsKept_levelAsk _ p _)
      · exact levelsKept_levelAsk d p _

theorem levelsKept_levelTake (p : Nat) : Device.LevelsKept d (d.levelTake p).2 := by
  unfold Device.levelTake
  dsimp only
  split
  · exact (levelsKept_level d p _).trans (levelsKept_reglClip _ _ _ _ _ _)
  · exact .refl d

theorem levelsKept_showFigures : Device.LevelsKept d d.showFigures := by
  have hstream : ∀ (e : Device) (v : Word), ∀ n ∈ List.range 16, Device.LevelsKept e (e.wr (reglStreamFig n) v) := fun e v n hn => by
    have hlt := List.mem_range.1 hn
    exact levelsKept_wr e v (levelApart_page (by rw [reglStreamFig]; omega) (by rw [reglStreamFig]; omega))
  have hcar : ∀ (e : Device) (v : Word), ∀ c ∈ List.range 4, Device.LevelsKept e (e.wr (reglCarFig c) v) := fun e v c hc => by
    have hlt := List.mem_range.1 hc
    exact levelsKept_wr e v (levelApart_page (by rw [reglCarFig]; omega) (by rw [reglCarFig]; omega))
  unfold Device.showFigures
  split
  · exact (levelsKept_forAll (fun e c hc => hcar e _ c hc) d).trans (levelsKept_forAll (fun e n hn => hstream e _ n hn) _)
  · refine (levelsKept_forAll (fun e n hn => ?_) d).trans (levelsKept_forAll (fun e c hc => ?_) _)
    · split
      · exact hstream e _ n hn
      · exact (freeOnly_figureCode e _).levelsKept.trans (hstream _ _ n hn)
    · split
      · exact hcar e _ c hc
      · exact ((freeOnly_figureCode e _).levelsKept.trans (freeOnly_figureCode _ _).levelsKept).trans (hcar _ _ c hc)

theorem levelsKept_reglChanged : Device.LevelsKept d d.reglChanged :=
  (levelsKept_forAll (fun e p _ => levelsKept_levelAgain e p) d).trans (levelsKept_showFigures _)

/-! #### Streams and their weights -/

theorem levelsKept_setWeight (set p : Nat) (w : Word) : Device.LevelsKept d (d.setWeight set p w) := .of_apart rfl rfl

theorem levelsKept_setWeights (set : Nat) (ws : List Word) : Device.LevelsKept d (d.setWeights set ws) :=
  levelsKept_forAll (fun e p _ => levelsKept_setWeight e set p _) d

theorem levelsKept_admitTx (n : Nat) (form : Steer) (w : List Word) (nulled : Bool) (az el : Int) :
    Device.LevelsKept d (d.admitTx n form w nulled az el).2 := by
  unfold Device.admitTx
  dsimp only
  split
  · exact levelsKept_reglRefuse d _ _ _ _
  · split
    · exact levelsKept_reglRefuse d _ _ _ _
    · split
      · dsimp only
        exact (levelsKept_modStream d n _).trans (levelsKept_reglChanged _)
      · split
        · exact levelsKept_reglRefuse d _ _ _ _
        · split
          · exact levelsKept_reglRefuse d _ _ _ _
          · dsimp only
            exact ((levelsKept_reglClip d _ _ _ _ _).trans (levelsKept_modStream _ n _)).trans (levelsKept_reglChanged _)

theorem levelsKept_resteerRx (n : Nat) : Device.LevelsKept d (d.resteerRx n) := by
  have hgo : ∀ (e : Device) (b : Bool) (f : Steer), Device.LevelsKept e (if f = .table then e else e.putRx n b f (e.rxSteer n b f)) :=
    fun e b f => by
      split
      · exact .refl e
      · exact (levelsKept_setWeights e _ _).trans (levelsKept_modStream _ n _)
  exact (hgo d false _).trans (hgo _ true _)

theorem levelsKept_rejoinStream (p n : Nat) (hn : n < 16) : Device.LevelsKept d (d.rejoinStream p n) := by
  have hbf : LevelApart (bfStream n) := levelApart_low (by rw [bfStream]; omega) (by rw [bfStream, bfMutedLo]; omega) (by rw [bfStream, bfMutedHi]; omega)
  unfold Device.rejoinStream
  dsimp only
  refine Device.LevelsKept.trans (levelsKept_resteerRx d n) ?_
  split
  · exact .refl _
  · split
    · exact levelsKept_admitTx _ n _ _ _ _ _
    · exact levelsKept_setWeights _ n _
  · split
    · exact (levelsKept_modStream _ _ _).trans (levelsKept_admitTx _ n _ _ _ _ _)
    · exact (levelsKept_setWeights _ n _).trans (levelsKept_put _ _ hbf)

theorem levelsKept_renormRx (n : Nat) (b : Bool) : Device.LevelsKept d (d.renormRx n b) := by
  unfold Device.renormRx
  dsimp only
  exact iteInduction (motive := Device.LevelsKept d) (fun _ => .refl d) (fun _ => (levelsKept_setWeights d _ _).trans (levelsKept_modStream _ n _))

/-- The transmit scaling of one stream (R190). -/
def Device.renormStream (d : Device) (n : Nat) : Device :=
  if !d.sesEnabled n then d else (d.setWeights n (d.renormTx n)).modStream n (fun s => { s with lostTx := 0 })

theorem renormalise_eq : d.renormalise
    = ((d.forAll (List.range 16) (fun d n => ((d.renormRx n false).renormRx n true).renormStream n)).put fBfStatRenormPending 0).groupsStale.reglChanged := rfl

theorem levelsKept_renormStream (n : Nat) : Device.LevelsKept d (d.renormStream n) := by
  unfold Device.renormStream
  split
  · exact .refl d
  · exact (levelsKept_setWeights d _ _).trans (levelsKept_modStream _ n _)

theorem levelApart_bfStat : LevelApart bfStat := levelApart_low (by decide) (by decide) (by decide)

theorem levelsKept_renormalise : Device.LevelsKept d d.renormalise := by
  rw [renormalise_eq]
  refine Device.LevelsKept.trans ?_ (levelsKept_reglChanged _)
  refine Device.LevelsKept.trans ?_ (levelsKept_groupsStale _)
  refine Device.LevelsKept.trans ?_ (levelsKept_put _ _ levelApart_bfStat)
  exact levelsKept_forAll (fun e n _ => ((levelsKept_renormRx e n false).trans (levelsKept_renormRx _ n true)).trans (levelsKept_renormStream _ n)) d

end

end Sys2Proof.Machine


namespace Sys2Proof.Machine

/-! ### A path without weight (R189, R190) -/

/-- Path `p` has no weight: it is 0 in every stream and set. -/
def Device.Silent (d : Device) (p : Nat) : Prop := ∀ set, set < 48 → d.weight set p = 0

theorem Device.Silent.of_bf {d e : Device} {p : Nat} (h : d.Silent p) (hb : e.bf.live = d.bf.live) : e.Silent p := fun set hset => by
  rw [Device.weight, hb]
  exact h set hset

theorem Device.BfKept.silent {d e : Device} (h : Device.BfKept d e) {p : Nat} (hs : d.Silent p) : e.Silent p := hs.of_bf (by rw [h.bf])

theorem Device.Silent.modStream {d : Device} {p : Nat} (h : d.Silent p) (n : Nat) (f : StreamSt → StreamSt) : (d.modStream n f).Silent p :=
  fun set hset => (Device.weight_modStream d n f set p).trans (h set hset)

theorem Device.Silent.put {d : Device} {p : Nat} (h : d.Silent p) (f : Fld) (v : Nat) : (d.put f v).Silent p :=
  fun set hset => (Device.weight_put d f v set p).trans (h set hset)

theorem Device.Silent.modPath {d : Device} {p : Nat} (h : d.Silent p) (q : Nat) (f : PathSt → PathSt) : (d.modPath q f).Silent p := h.of_bf rfl

theorem Device.Silent.groupsStale {d : Device} {p : Nat} (h : d.Silent p) : d.groupsStale.Silent p := h.of_bf rfl

theorem fxMul_zero (s : Int) : fxMul 0 s = 0 := by simp [fxMul]

theorem fxDiv_zero (m : Int) : fxDiv 0 m = 0 := by simp [fxDiv]

theorem roundWeight_zero : roundWeight ⟨0, 0⟩ = 0 := by
  have hround : fxRound 0 = 0 := by
    unfold fxRound
    dsimp only
    rw [if_neg (by decide), if_neg (by decide)]
    rfl
  rw [roundWeight, hround]
  decide

/-- A receive weight of 0 stays 0 at every scale. -/
theorem scaleRx_zero (s : Int) : scaleRx s 0 = 0 := by
  have hi : fxMul (fxOf (wI 0)) s = 0 := fxMul_zero s
  have hq : fxMul (fxOf (wQ 0)) s = 0 := fxMul_zero s
  unfold scaleRx
  dsimp only
  rw [hi, hq, Int.zero_mul, fxDiv_zero, roundWeight_zero, ite_self]

/-- A transmit weight of 0 stays 0 at every scale. -/
theorem scaleUp_zero (f : Nat) : scaleUp f 0 = 0 := by
  have hpart : scalePart f 0 = 0 := by simp [scalePart]
  have hi : scalePart f (wI 0) = 0 := hpart
  have hq : scalePart f (wQ 0) = 0 := hpart
  rw [scaleUp, hi, hq]
  decide

section
variable {d : Device} {p : Nat} (hp : p < 64)
include hp

theorem weights_getD (set : Nat) : (d.weights set).getD p 0 = d.weight set p := by
  simp [Device.weights, List.getD_eq_getElem?_getD, hp]

/-- Weights scaled one by one. -/
theorem getD_scaled (f : Word → Word) (set : Nat) : ((d.weights set).map f).getD p 0 = f (d.weight set p) := by
  simp [Device.weights, List.getD_eq_getElem?_getD, hp]

/-- Loading one set leaves the path silent where its own weight of that set is 0. -/
theorem Device.Silent.setWeights (h : d.Silent p) (set : Nat) {ws : List Word} (hw : ws.getD p 0 = 0) : (d.setWeights set ws).Silent p := by
  refine Device.forAll_preserves (P := fun e => e.Silent p) (fun e q hq he k hk => ?_) h
  rw [Device.weight_setWeight e k set p q _ hp (List.mem_range.1 hq)]
  split
  · next hself => rw [← hself.2, hw]
  · exact he k hk

theorem Device.Silent.renormRx (h : d.Silent p) {n : Nat} (hn : n < 16) (b : Bool) : (d.renormRx n b).Silent p := by
  unfold Device.renormRx
  dsimp only
  refine iteInduction (motive := fun e : Device => e.Silent p) (fun _ => h) (fun _ => ?_)
  have hset : (if b then 32 else 16) + n < 48 := by split <;> omega
  exact (h.setWeights hp _ (by rw [getD_scaled hp _, h _ hset, scaleRx_zero])).modStream n _

theorem Device.Silent.renormStream (h : d.Silent p) {n : Nat} (hn : n < 16) : (d.renormStream n).Silent p := by
  have hzero : (d.renormTx n).getD p 0 = 0 := by
    have hweight := h n (by omega)
    unfold Device.renormTx
    dsimp only
    split
    · rw [weights_getD hp, hweight]
    · split
      · rw [weights_getD hp, hweight]
      · rw [getD_scaled hp _, hweight, scaleUp_zero]
  unfold Device.renormStream
  split
  · exact h
  · exact (h.setWeights hp n hzero).modStream n _

/-- Renormalising gives a silent path no weight. -/
theorem Device.Silent.renormalise (h : d.Silent p) : d.renormalise.Silent p := by
  have hset := Device.forAll_preserves (P := fun e => e.Silent p) (l := List.range 16)
    (f := fun d n => ((d.renormRx n false).renormRx n true).renormStream n)
    (fun e n hn he => ((he.renormRx hp (List.mem_range.1 hn) false).renormRx hp (List.mem_range.1 hn) true).renormStream hp (List.mem_range.1 hn)) h
  rw [renormalise_eq]
  exact (bfKept_reglChanged _).silent (hset.put _ 0).groupsStale

end

end Sys2Proof.Machine


namespace Sys2Proof.Machine

/-! ### A path taken out of service, and one that joins (R189, R251, R252) -/

/-- A word of PATH_pp's page header, FAULT or IDLE_NF. -/
theorem pathWord_of {p a : Nat} (hp : p < 64) (h : a / 1024 = 0x40 + p) (ho : a % 1024 < 0x10 ∨ a % 1024 = 0x16 ∨ a % 1024 = 0x1C) : PathWord a := by
  refine ⟨?_, ho⟩
  omega

theorem pathWord_stat {p : Nat} (hp : p < 64) : PathWord (pageStat (0x40 + p)) :=
  pathWord_of hp (by simp only [pageStat, wordAt]; omega) (.inl (by simp only [pageStat, wordAt]; omega))

theorem pathWord_ctrl {p : Nat} (hp : p < 64) : PathWord (pageCtrl (0x40 + p)) :=
  pathWord_of hp (by simp only [pageCtrl, wordAt]; omega) (.inl (by simp only [pageCtrl, wordAt]; omega))

theorem pathWord_irqStat {p : Nat} (hp : p < 64) : PathWord (irqStat (0x40 + p)) :=
  pathWord_of hp (by simp only [irqStat, wordAt]; omega) (.inl (by simp only [irqStat, wordAt]; omega))

theorem pathWord_fault {p : Nat} (hp : p < 64) : PathWord (pathFault p) :=
  pathWord_of hp (by simp only [pathFault]; omega) (.inr (.inl (by simp only [pathFault]; omega)))

theorem pathWord_idleNf {p : Nat} (hp : p < 64) : PathWord (pathIdleNf p) :=
  pathWord_of hp (by simp only [pathIdleNf]; omega) (.inr (.inr (by simp only [pathIdleNf]; omega)))

theorem pathWord_ne_muted {a : Nat} (h : PathWord a) : a ≠ bfMutedLo ∧ a ≠ bfMutedHi ∧ a ≠ bfStat := by
  obtain ⟨⟨hlo, -⟩, -⟩ := h
  simp only [bfMutedLo, bfMutedHi, bfStat]
  omega

section
variable (d : Device) (p : Nat)

/-! #### MUTED (R189) -/

/-- The MUTED bit of a path with the bit as given, before ACTIVE_PATHS follows. -/
def Device.mutedBit (d : Device) (p : Nat) (b : Bool) : Device :=
  if p < 32 then d.putB ⟨bfMutedLo, p, p⟩ b else d.putB ⟨bfMutedHi, p - 32, p - 32⟩ b

theorem setMuted_eq (b : Bool) : d.setMuted p b = (d.mutedBit p b).put fBfStatActivePaths (d.mutedBit p b).livePaths.length := rfl

theorem mutedPath_mutedBit (hp : p < 64) (b : Bool) : (d.mutedBit p b).mutedPath p = b := by
  unfold Device.mutedBit Device.mutedPath
  by_cases h : p < 32
  · rw [if_pos h, if_pos h, ← Device.on_bit, Device.on_putB _ _ rfl h]
  · rw [if_neg h, if_neg h, ← Device.on_bit, Device.on_putB _ _ rfl (show p - 32 < 32 by omega)]

theorem mutedPath_setMuted (hp : p < 64) (b : Bool) : (d.setMuted p b).mutedPath p = b := by
  rw [setMuted_eq, Device.mutedPath, Device.rd_put_ne _ _ _ _ (show bfMutedLo ≠ bfStat by decide),
    Device.rd_put_ne _ _ _ _ (show bfMutedHi ≠ bfStat by decide), ← Device.mutedPath]
  exact mutedPath_mutedBit d p hp b

theorem rd_setMuted (b : Bool) {a : Nat} (h : PathWord a) : (d.setMuted p b).rd a = d.rd a := by
  obtain ⟨hlo, hhi, hstat⟩ := pathWord_ne_muted h
  rw [setMuted_eq, Device.rd_put_ne _ _ _ _ hstat, Device.mutedBit]
  split
  · exact Device.rd_put_ne _ _ _ _ hlo
  · exact Device.rd_put_ne _ _ _ _ hhi

theorem setMuted_same (b : Bool) : d.setMuted p b = { d with regs := (d.setMuted p b).regs } := by
  unfold Device.setMuted
  dsimp only
  split <;> rfl

theorem mutedPath_modPath (q : Nat) (f : PathSt → PathSt) : (d.modPath q f).mutedPath p = d.mutedPath p := id rfl

/-! #### A path loses its weights -/

theorem dropWeight_silences {set : Nat} (hp : p < 64) : (d.dropWeight set p).weight set p = 0
    ∧ ∀ k, d.weight k p = 0 → (d.dropWeight set p).weight k p = 0 := by
  have hweight : ∀ k, (d.dropWeight set p).weight k p = if k = set ∧ p = p then 0 else d.weight k p := fun k =>
    (Device.weight_modStream _ _ _ k p).trans (Device.weight_setWeight d k set p p 0 hp hp)
  refine ⟨by rw [hweight, if_pos ⟨rfl, rfl⟩], fun k hk => ?_⟩
  rw [hweight, hk, ite_self]

theorem silent_dropPath (hp : p < 64) : (d.dropPath p).Silent p := fun k hk => by
  have hdropped : (d.forAll (List.range 48) (fun d set => d.dropWeight set p)).weight k p = 0 :=
    Device.forAll_establishes (P := fun e => e.weight k p = 0) (List.mem_range.2 hk) (fun e => (dropWeight_silences e p hp).1)
      (fun e set _ _ he => (dropWeight_silences e p hp).2 k he) d
  rw [Device.dropPath, setMuted_same]
  exact hdropped

theorem levelsKept_dropWeight (set : Nat) : Device.LevelsKept d (d.dropWeight set p) := by
  unfold Device.dropWeight
  dsimp only
  exact (levelsKept_setWeight d set p 0).trans (levelsKept_modStream _ _ _)

theorem levelsKept_dropWeights : Device.LevelsKept d (d.forAll (List.range 48) (fun d set => d.dropWeight set p)) :=
  levelsKept_forAll (fun e set _ => levelsKept_dropWeight e p set) d

theorem levelsKept_dropPathWaits : Device.LevelsKept d (d.dropPathWaits p) := by
  have hdpd : LevelApart (pathDpdStat p) := levelApart_path (by rw [pathDpdStat]; omega) (.inr (.inr (by rw [pathDpdStat]; omega)))
  have hgain : LevelApart (pathGain p) := levelApart_path (by rw [pathGain]; omega) (.inr (.inl (by rw [pathGain]; omega)))
  unfold Device.dropPathWaits
  dsimp only
  refine Device.LevelsKept.trans ?_ (levelsKept_put _ _ hgain)
  refine Device.LevelsKept.trans ?_ (levelsKept_put _ _ hdpd)
  exact (levelsKept_dropWaits d _).trans (.of_apart rfl rfl)

/-- What a path that is out of service has come to: no weight, MUTED, not joined, and no level in effect (R189, R238). -/
structure Device.OutOfService (p : Nat) (d e : Device) : Prop where
  words : ∀ a, PathWord a → e.rd a = d.rd a
  silent : e.Silent p
  muted : e.mutedPath p = true
  joined : (e.path p).joined = false
  level : e.get (fPathTxpwrNowLevel p) = 0x80

theorem Device.OutOfService.kept {d e f : Device} {p : Nat} (h : Device.OutOfService p d e) (g : Device.LevelsKept e f) (hs : f.Silent p) :
    Device.OutOfService p d f where
  words a ha := (g.word ha).trans (h.words a ha)
  silent := hs
  muted := (g.muted p).trans h.muted
  joined := (g.joined p).trans h.joined
  level := (g.level p).trans h.level

/-- TXPWR_NOW of a path that contributes no longer (R238). -/
def Device.nowCleared (d : Device) (p : Nat) : Device :=
  (((d.put (fPathTxpwrNowLevel p) 0x80).put (fPathTxpwrNowPending p) 0).put (fPathTxpwrNowZero p) 0).put (fPathTxpwrNowCells p) 0

theorem endContribution_eq : d.endContribution p
    = (d.nowCleared p).modPath p (fun s => { s with pend := none, joined := false, gainPend := none }) := rfl

theorem level_nowCleared : (d.nowCleared p).get (fPathTxpwrNowLevel p) = 0x80 := by
  have hpart : ∀ (e : Device) (f : Fld) (v : Nat), f.hi < 32 → f.lo ≤ f.hi → 7 < f.lo → (e.put f v).get (fPathTxpwrNowLevel p) = e.get (fPathTxpwrNowLevel p) :=
    fun e f v h hlo ha => Device.get_put_apart e f _ v h hlo (.inl ha)
  rw [Device.nowCleared, hpart _ _ _ (by simp [fPathTxpwrNowCells]) (by simp [fPathTxpwrNowCells]) (by simp [fPathTxpwrNowCells]),
    hpart _ _ _ (by simp [fPathTxpwrNowZero]) (by simp [fPathTxpwrNowZero]) (by simp [fPathTxpwrNowZero]),
    hpart _ _ _ (by simp [fPathTxpwrNowPending]) (by simp [fPathTxpwrNowPending]) (by simp [fPathTxpwrNowPending]),
    Device.get_put_same _ _ _ (by simp [fPathTxpwrNowLevel]) (by simp [fPathTxpwrNowLevel])]
  simp [fPathTxpwrNowLevel]

theorem pathsKept_nowCleared : Device.PathsKept d (d.nowCleared p) :=
  (((pathsKept_put d _ (not_pathWord_now p)).trans (pathsKept_put _ _ (not_pathWord_now p))).trans (pathsKept_put _ _ (not_pathWord_now p))).trans
    (pathsKept_put _ _ (not_pathWord_now p))

/-- What waits for the path is discarded, its weights are 0 and it contributes no longer. -/
def Device.pathDropped (d : Device) (p : Nat) : Device := ((d.dropPathWaits p).dropPath p).endContribution p

omit d in
/-- A path without weight, MUTED, is out of service as its contribution ends. -/
theorem outOfService_endContribution (hp : p < 64) {d e : Device} (hw : ∀ a, PathWord a → e.rd a = d.rd a) (hs : e.Silent p)
    (hm : e.mutedPath p = true) : Device.OutOfService p d (e.endContribution p) := by
  have hcleared := pathsKept_nowCleared e p
  have hsilent : (e.nowCleared p).Silent p := (((hs.put _ _).put _ _).put _ _).put _ _
  rw [endContribution_eq]
  refine ⟨fun a ha => ?_, hsilent.modPath p _, ?_, ?_, ?_⟩
  · rw [Device.rd_modPath, hcleared.word ha, hw a ha]
  · rw [mutedPath_modPath, hcleared.muted, hm]
  · rw [Device.path_modPath_self _ _ _ hp]
  · rw [Device.get_modPath, level_nowCleared]

theorem outOfService_pathDropped (hp : p < 64) : Device.OutOfService p d (d.pathDropped p) := by
  refine outOfService_endContribution p hp (fun a ha => ?_) (silent_dropPath _ p hp) (mutedPath_setMuted _ p hp true)
  rw [Device.dropPath, rd_setMuted _ _ _ ha, (levelsKept_dropWeights _ p).word ha, (levelsKept_dropPathWaits d p).word ha]

theorem Device.Silent.dropWaits {d : Device} {p : Nat} (h : d.Silent p) (f : Change → Bool) : (d.dropWaits f).Silent p := h.of_bf rfl

theorem levelsKept_awaitRenorm : Device.LevelsKept d d.awaitRenorm := (levelsKept_put d _ levelApart_bfStat).trans (levelsKept_await _ _)

theorem Device.Silent.awaitRenorm {d : Device} {p : Nat} (h : d.Silent p) : d.awaitRenorm.Silent p := h.of_bf rfl

/-- The path's weights lost, the renormalisation waits where the path had been in MUTED before (R189). -/
def Device.renormDue (d : Device) (p : Nat) : Device := (d.pathDropped p).when (!d.mutedPath p) Device.awaitRenorm

theorem cutPath_eq : d.cutPath p = (d.renormDue p).groupsStale.reglChanged := rfl

/-- A cut leaves the path out of service; a renormalisation may wait. -/
theorem outOfService_cutPath (hp : p < 64) : Device.OutOfService p d (d.cutPath p) := by
  have hout := outOfService_pathDropped d p hp
  have hkept : Device.LevelsKept (d.pathDropped p) (d.renormDue p) := levelsKept_when (levelsKept_awaitRenorm _)
  have hsilent : (d.renormDue p).Silent p := by
    unfold Device.renormDue
    cases !d.mutedPath p
    · exact hout.silent
    · exact hout.silent.awaitRenorm
  rw [cutPath_eq]
  exact hout.kept ((hkept.trans (levelsKept_groupsStale _)).trans (levelsKept_reglChanged _))
    ((bfKept_reglChanged _).silent hsilent.groupsStale)

/-- A drain leaves it out of service, the weights renormalised at once. -/
def Device.pathDrained (d : Device) (p : Nat) : Device := (d.pathDropped p).renormalise.dropWaits (fun c => c = .renorm)

theorem drainPath_eq : d.drainPath p = (d.pathDrained p).pathGo p 9 := rfl

theorem outOfService_pathDrained (hp : p < 64) : Device.OutOfService p d (d.pathDrained p) := by
  have hout := outOfService_pathDropped d p hp
  exact hout.kept ((levelsKept_renormalise _).trans (levelsKept_dropWaits _ _)) ((hout.silent.renormalise hp).dropWaits _)

/-! #### A path joins (R251) -/

theorem pathsKept_setLevel (l : Int) : Device.PathsKept d (d.setLevel p l) := by
  unfold Device.setLevel Device.showCells
  dsimp only
  refine Device.PathsKept.trans ?_ (pathsKept_put _ _ (not_pathWord_now p))
  refine Device.PathsKept.trans ?_ (pathsKept_modPath _ p _ (fun _ => rfl))
  exact ((pathsKept_put d _ (not_pathWord_now p)).trans (pathsKept_put _ _ (not_pathWord_now p))).trans (pathsKept_put _ _ (not_pathWord_now p))

/-- The path is in service, before its level and its settings take effect. -/
def Device.pathIn (d : Device) (p : Nat) : Device :=
  (d.modPath p (fun s => { s with joined := true, cancEn := d.on (fPathCfgCancEn p), dpdEn := d.on (fPathCfgDpdEn p) })).setMuted p false

theorem pathIn_joins (hp : p < 64) : ((d.pathIn p).path p).joined = true ∧ (d.pathIn p).mutedPath p = false
    ∧ ∀ a, PathWord a → (d.pathIn p).rd a = d.rd a := by
  refine ⟨?_, mutedPath_setMuted _ p hp false, fun a ha => ?_⟩
  · have hjoined : ((d.modPath p (fun s => { s with joined := true, cancEn := d.on (fPathCfgCancEn p), dpdEn := d.on (fPathCfgDpdEn p) })).path p).joined
        = true := by rw [Device.path_modPath_self _ _ _ hp]
    rw [Device.pathIn, setMuted_same]
    exact hjoined
  · exact (rd_setMuted _ p false ha).trans (Device.rd_modPath _ _ _ a)

/-- The level, the settings and the weights that follow a join move neither MUTED nor who has joined. -/
theorem pathsKept_joinPath : Device.PathsKept (d.pathIn p) (d.joinPath p) := by
  have hdpd : LevelApart (fPathDpdStatActive p).reg := levelApart_path (by simp only [fPathDpdStatActive, pathDpdStat]; omega)
    (.inr (.inr (by simp only [fPathDpdStatActive, pathDpdStat]; omega)))
  have hgain : LevelApart (fPathGainStep p).reg := levelApart_path (by simp only [fPathGainStep, pathGain]; omega)
    (.inr (.inl (by simp only [fPathGainStep, pathGain]; omega)))
  unfold Device.joinPath
  dsimp only
  refine Device.PathsKept.trans ?_ (levelsKept_reglChanged _).toPathsKept
  refine Device.PathsKept.trans ?_ (levelsKept_groupsStale _).toPathsKept
  refine Device.PathsKept.trans ?_ (levelsKept_forAll (fun e n hn => levelsKept_rejoinStream e p n (List.mem_range.1 hn)) _).toPathsKept
  refine Device.PathsKept.trans ?_ (levelsKept_when (levelsKept_put _ _ hgain)).toPathsKept
  refine Device.PathsKept.trans ?_ (levelsKept_put _ _ hdpd).toPathsKept
  exact (levelsKept_levelTake _ p).toPathsKept.trans (pathsKept_setLevel _ p _)

end

end Sys2Proof.Machine


namespace Sys2Proof.Machine

/-! ### EN of a path is written (R65, R251, R252) -/

/-- The device as a write of PAGE_CTRL has arrived and its word is stored, before EN takes effect. -/
def Device.pageStored (d : Device) (q : Nat) (v : Word) (be : BitVec 4) : Device := (d.arrived (pageCtrl q) v be).wr (pageCtrl q) (v &&& 0xF)

/-- EN as written takes effect. -/
def Device.pageTakes (d : Device) (q : Nat) (v : Word) (be : BitVec 4) : Device :=
  if v.getLsbD 0 then (d.pageStored q v be).enableStart q else (d.pageStored q v be).enableStop q (d.on (fPcEn q))

section
variable {d : Device} {q : Nat} {v : Word} {be : BitVec 4}

theorem rd_pageStored {a : Nat} (hq : a ≠ hbusStat) (hs : a ≠ pageStat q) (hc : a ≠ pageCtrl q) : (d.pageStored q v be).rd a = d.rd a := by
  have hs' : a ≠ pageStat (pageOfWord (pageCtrl q)) := by rw [pageOfWord_pageCtrl]; exact hs
  rw [Device.pageStored, Device.rd_wr, if_neg hc, rd_arrived _ _ _ _ _ hq hs']

/-- PAGE_STAT but WPEND is as before the write. -/
theorem get_pageStored_stat {f : Fld} (hr : f.reg = pageStat q) (hf : 7 < f.lo ∨ f.hi < 7) : (d.pageStored q v be).get f = d.get f := by
  have hq : f.reg ≠ hbusStat := by simp only [hr, pageStat, hbusStat, wordAt]; omega
  rw [Device.pageStored, Device.get_wr_ne _ _ _ _ (hr ▸ (pageCtrl_ne_stat q q).1.symm), Device.get_arrived hq hf]

theorem on_pageStored_stat {f : Fld} (hr : f.reg = pageStat q) (hf : 7 < f.lo ∨ f.hi < 7) : (d.pageStored q v be).on f = d.on f :=
  on_of_get (get_pageStored_stat hr hf)

theorem on_pageStored_ctrl {b : Nat} : (d.pageStored q v be).on ⟨pageCtrl q, b, b⟩ = (v &&& 0xF).getLsbD b := by
  rw [Device.on_bit, Device.pageStored, Device.rd_wr, if_pos rfl]

/-- A block that is not in reset stays so where BLK_RST is written 0. -/
theorem pageStored_pageInReset (hres : pageResettable q = true) (hv : v.getLsbD 1 = false) (hr : d.pageInReset q = false) :
    (d.pageStored q v be).pageInReset q = false ∧ d.on (fPcBlkRst q) = false := by
  have hisl : (d.pageStored q v be).island (islandOf q) = d.island (islandOf q) := by simp [Device.island, Device.pageStored]
  have hrst : (d.pageStored q v be).on (fPcBlkRst q) = false := by rw [fPcBlkRst, on_pageStored_ctrl, BitVec.getLsbD_and, hv, Bool.false_and]
  have hrel : (d.pageStored q v be).on (fPsReleasePending q) = d.on (fPsReleasePending q) := on_pageStored_stat rfl (.inr (by simp [fPsReleasePending]))
  simp only [Device.pageInReset, hres, Bool.true_and, Bool.or_eq_false_iff] at hr ⊢
  obtain ⟨hheld, hblk, hpend⟩ := hr
  exact ⟨⟨by rw [hisl, hheld], hrst, by rw [hrel, hpend]⟩, hblk⟩

/-- An applied write of PAGE_CTRL with EN = 1, or to a page that is enabled, keeps the power requested (R54). -/
theorem powerRequested_of_applies (ha : d.applies (pageCtrl q) v be = true) (hen : v.getLsbD 0 = true ∨ d.on (fPcEn q) = true) : v.getLsbD 3 = true := by
  have hon : (d.arrived (pageCtrl q) v be).on (fPcEn q) = d.on (fPcEn q) :=
    on_of_rd (rd_arrived _ _ _ _ _ (pageCtrl_ne_stat q q).2 (by rw [pageOfWord_pageCtrl]; exact (pageCtrl_ne_stat q q).1))
  have hoff : offOfWord (pageCtrl q) = 2 := by simp only [offOfWord, pageCtrl, wordAt]; omega
  simp only [Device.applies, Device.writeOk, Device.posted, hoff, if_true, pageOfWord_pageCtrl, Device.pageCtrlOk, hon, Bool.and_eq_true] at ha
  obtain ⟨-, -, ⟨⟨⟨⟨⟨hfed, hleft⟩, -⟩, -⟩, -⟩, -⟩, -⟩ := ha
  rcases hen with h | h
  · rw [h] at hfed
    have hboth : v.getLsbD 2 = true ∧ v.getLsbD 3 = true := by simpa using hfed
    exact hboth.2
  · rw [h] at hleft
    have hboth : v.getLsbD 2 = true ∧ v.getLsbD 3 = true := by simpa using hleft
    exact hboth.2

/-- A write of a path's PAGE_CTRL that leaves BLK_RST at 0 and the power requested is EN taking effect. -/
theorem pageCtrlWrite_path {p : Nat} (hp : p < 64) (hv : v.getLsbD 1 = false) (hpower : v.getLsbD 3 = true) (hr : d.pageInReset (0x40 + p) = false) :
    (d.arrived (pageCtrl (0x40 + p)) v be).pageCtrlWrite (0x40 + p) v = d.pageTakes (0x40 + p) v be := by
  have hres : pageResettable (0x40 + p) = true := by simp [pageResettable]; omega
  obtain ⟨hlive, hblk⟩ := pageStored_pageInReset (be := be) hres hv hr
  have hold : (d.arrived (pageCtrl (0x40 + p)) v be).rd (pageCtrl (0x40 + p)) = d.rd (pageCtrl (0x40 + p)) :=
    rd_arrived _ _ _ _ _ (pageCtrl_ne_stat _ 0).2 (by rw [pageOfWord_pageCtrl]; exact (pageCtrl_ne_stat _ _).1)
  have hrst : (d.rd (pageCtrl (0x40 + p))).getLsbD 1 = false := by rw [← Device.on_bit]; exact hblk
  have hen : (d.rd (pageCtrl (0x40 + p))).getLsbD 0 = d.on (fPcEn (0x40 + p)) := (Device.on_bit d _ 0).symm
  rw [Device.pageStored] at hlive
  simp only [Device.pageCtrlWrite, hold, hv, hrst, hpower, Bool.not_true, Bool.and_false, Device.when_false, Bool.false_eq_true, if_false, hlive, hen,
    Device.pageTakes, Device.pageStored]

/-- EN = 1 starts a path in OFF (R251). -/
theorem enableStart_path {p : Nat} (hp : p < 64) (hst : d.pathState p = 0) : d.enableStart (0x40 + p) = d.pathStart p := by
  have hpath : isPath (0x40 + p) = true := by simp [isPath]; omega
  have hoff : d.get (fPsState (0x40 + p)) = 0 := hst
  simp only [Device.enableStart, hpath, if_true, hoff, Nat.add_sub_cancel_left]

/-- EN = 0 stops a path that runs, with neither a re-enable queued nor a shutdown under way (R252). -/
theorem enableStop_path {p : Nat} (hp : p < 64) (henq : d.on (fPsEnq (0x40 + p)) = false) (hshut : d.on (fPsShuttingDown (0x40 + p)) = false)
    (hst : d.pathState p ≠ 0) : d.enableStop (0x40 + p) true = d.pathStop p := by
  have hpath : isPath (0x40 + p) = true := by simp [isPath]; omega
  have hpil : isPil (0x40 + p) = false := by simp [isPil]; omega
  have hrun : ¬ d.get (fPsState (0x40 + p)) = 0 := hst
  simp [Device.enableStop, hpath, hpil, henq, hshut, hrun]

theorem waits_settle (h : d.NoRemote) : d.settle.cal.waits = d.cal.waits := by rw [(settled_settle d h).calq]

/-- An applied write of a path's PAGE_CTRL leaves the paths' pages, the weights, the queue for power and what waits as EN taking effect leaves them. -/
theorem pathCtrl_completes {c : Instr} {s : State} {p : Nat} {finds : KlGroupFinds} {Q : Device → Prop}
    (hn : s.dev.NoRemote) (hc : hostRow s.dev c = some (pageCtrl (0x40 + p), v, be, finds)) (ha : s.dev.applies (pageCtrl (0x40 + p)) v be = true)
    (hp : p < 64) (hv : v.getLsbD 1 = false) (hr : s.dev.pageInReset (0x40 + p) = false)
    (hen : v.getLsbD 0 = true ∨ s.dev.on (fPcEn (0x40 + p)) = true)
    (hq : ∀ e : Device, (∀ f : Fld, 0x20 * 1024 ≤ f.reg → e.get f = (s.dev.pageTakes (0x40 + p) v be).get f) →
      e.bf = (s.dev.pageTakes (0x40 + p) v be).bf → e.pathQueue = (s.dev.pageTakes (0x40 + p) v be).pathQueue →
      e.cal.waits = (s.dev.pageTakes (0x40 + p) v be).cal.waits → Q e) : Completes c s Q := by
  have hoff : offOfWord (pageCtrl (0x40 + p)) = 2 := by simp only [offOfWord, pageCtrl, wordAt]; omega
  have heffect : (s.dev.arrived (pageCtrl (0x40 + p)) v be).writeEffect (s.dev.posted (pageCtrl (0x40 + p)) v be) finds
      = s.dev.pageTakes (0x40 + p) v be := by
    rw [← pageCtrlWrite_path hp hv (powerRequested_of_applies ha hen) hr]
    simp only [Device.writeEffect, Device.posted, hoff, pageOfWord_pageCtrl]
  have hn' : (s.dev.written (pageCtrl (0x40 + p)) v be finds).NoRemote :=
    ownWrite_applies _ _ _ _ finds ha ▸ Device.ownWrite_closed noRemote_closed hn
  have hidle : ∀ (e : Device) (b : Bool), (∀ f : Fld, 0x20 * 1024 ≤ f.reg → (e.when b Device.idleRestart).get f = e.get f)
      ∧ (e.when b Device.idleRestart).bf = e.bf ∧ (e.when b Device.idleRestart).pathQueue = e.pathQueue
      ∧ (e.when b Device.idleRestart).cal.waits = e.cal.waits := fun e b => by
    cases b
    · exact ⟨fun _ _ => rfl, rfl, rfl, rfl⟩
    · refine ⟨fun f hf => Device.get_wr_ne e _ _ f ?_, rfl, rfl, rfl⟩
      rw [secIdleLeft]
      omega
  refine ⟨_, exec_applies c s _ v be finds hc ha, rfl, hq _ (fun f hf => ?_) ?_ ?_ ?_⟩
  · rw [settle_get _ hn' _ (settles_of_page hf), Device.written, heffect, Device.get_sync, (hidle _ _).1 f hf]
  · rw [settle_bf _ hn', Device.written, heffect, Device.sync_same]
    exact (hidle _ _).2.1
  · rw [settle_pathQueue _ hn', Device.written, heffect, Device.sync_same]
    exact (hidle _ _).2.2.1
  · rw [waits_settle hn', Device.written, heffect, Device.sync_same]
    exact (hidle _ _).2.2.2

end

end Sys2Proof.Machine


namespace Sys2Proof.Machine

/-! ### The steps of a path's enable and shutdown (R251, R252) -/

section
variable (d : Device) (p : Nat)

/-! #### PAGE_STAT of a path -/

theorem pathState_pathGo {st : Nat} (hst : st < 256) : (d.pathGo p st).pathState p = st := by
  rw [Device.pathState, Device.pathGo, Device.get_put_same _ _ _ (by simp [fPsState]) (by simp [fPsState])]
  simp only [fPsState]
  omega

theorem rd_pathGo (st : Nat) {a : Nat} (h : a ≠ pageStat (0x40 + p)) : (d.pathGo p st).rd a = d.rd a := Device.rd_put_ne _ _ _ _ h

/-- A change of state moves no other field of PAGE_STAT. -/
theorem get_pathGo (st : Nat) {f : Fld} (hf : f.hi < 8) : (d.pathGo p st).get f = d.get f :=
  Device.get_put_apart _ _ _ _ (by simp [fPsState]) (by simp [fPsState]) (.inl hf)

theorem on_pathGo (st : Nat) {f : Fld} (hf : f.hi < 8) : (d.pathGo p st).on f = d.on f := on_of_get (get_pathGo d p st hf)

/-- A field of one bit that is put. -/
theorem on_put_bit (a b v : Nat) (h : b < 32) : (d.put ⟨a, b, b⟩ v).on ⟨a, b, b⟩ = v.testBit 0 := by
  have hv : v % 2 = 0 ∨ v % 2 = 1 := by omega
  rw [Device.on, Device.get_put_same _ (⟨a, b, b⟩ : Fld) _ h (Nat.le_refl b), Nat.testBit_zero]
  simp only [Nat.add_sub_cancel_left, Nat.pow_one]
  rcases hv with hv | hv <;> simp [hv]

/-- A path that starts is QUEUED and BUSY, last in the queue for power; ENQ and SHUTTING_DOWN stay. -/
theorem pathStart_moves : (d.pathStart p).pathState p = 1 ∧ (d.pathStart p).on (fPsBusy (0x40 + p)) = true
    ∧ (d.pathStart p).pathQueue = d.pathQueue ++ [p]
    ∧ (∀ f : Fld, 5 ≤ f.lo → f.hi < 8 → (d.pathStart p).on f = d.on f)
    ∧ ∀ a, a ≠ pageStat (0x40 + p) → (d.pathStart p).rd a = d.rd a := by
  have hregs : (d.pathStart p).regs = ((d.put (fPsBusy (0x40 + p)) 1).pathGo p 1).regs := by rw [Device.pathStart]
  have hsame : ∀ f : Fld, (d.pathStart p).get f = ((d.put (fPsBusy (0x40 + p)) 1).pathGo p 1).get f := Device.get_congr hregs
  have hbusy := on_put_bit d (pageStat (0x40 + p)) 4 1 (by decide)
  refine ⟨(hsame _).trans (pathState_pathGo _ p (by decide)), ?_, rfl, fun f hlo hhi => ?_, fun a ha => ?_⟩
  · rw [on_of_get (hsame _), on_pathGo _ _ _ (by simp [fPsBusy])]
    exact hbusy
  · rw [on_of_get (hsame f), on_pathGo _ _ _ hhi, on_of_get (Device.get_put_apart _ _ _ _ (by simp [fPsBusy]) (by simp [fPsBusy])
      (.inr (show 4 < f.lo by omega)))]
  · rw [Device.rd_congr hregs, rd_pathGo _ p 1 ha, Device.rd_put_ne _ _ _ _ ha]

/-- What is discarded with a path moves CAL's STAT and the path's DPD_STAT and GAIN alone. -/
theorem rd_dropPathWaits {a : Nat} (hc : a ≠ calStat) (hdpd : a ≠ pathDpdStat p) (hg : a ≠ pathGain p) : (d.dropPathWaits p).rd a = d.rd a := by
  have hwaits : (d.dropWaits (Change.ofPath p)).rd a = d.rd a := Device.rd_put_ne _ _ _ _ hc
  unfold Device.dropPathWaits
  dsimp only
  rw [Device.rd_put_ne _ _ _ _ hg, Device.rd_put_ne _ _ _ _ hdpd]
  exact hwaits

/-- POWERING_DOWN begins. -/
theorem pathPowerDown_moves : (d.pathPowerDown p).pathState p = 10
    ∧ ∀ a, a ∉ [pageStat (0x40 + p), pathDpdStat p, pathGain p, calStat] → (d.pathPowerDown p).rd a = d.rd a := by
  refine ⟨pathState_pathGo _ p (by decide), fun a ha => ?_⟩
  simp only [List.mem_cons, List.not_mem_nil, or_false, not_or] at ha
  obtain ⟨hstat, hdpd, hgain, hcal⟩ := ha
  exact (rd_pathGo _ p 10 hstat).trans (rd_dropPathWaits d p hcal hdpd hgain)

/-! #### A change that waits -/

/-- A change that is asked for waits. -/
theorem any_waits_await (c : Change) : (d.await c).cal.waits.any (fun x => x.change = c) = true := by
  have hwaits : (d.await c).cal.waits = if d.cal.waits.any (fun w => w.change.same c)
      then d.cal.waits.map (fun w => if w.change.same c then { w with change := c } else w)
      else d.cal.waits ++ [{ change := c, since := d.stamp }] := rfl
  rw [hwaits]
  split
  · next h =>
    obtain ⟨w, hw, hs⟩ := List.any_eq_true.1 h
    exact List.any_eq_true.2 ⟨_, List.mem_map_of_mem hw, by simp [hs]⟩
  · simp

theorem on_pending_await {c : Change} (hc : c.pending = true) : (d.await c).on fCalStatPending = true := by
  obtain ⟨x, hx, hxc⟩ := List.any_eq_true.1 (any_waits_await d c)
  have hany : (d.await c).cal.waits.any (fun w => w.change.pending) = true :=
    List.any_eq_true.2 ⟨x, hx, by rw [of_decide_eq_true hxc, hc]⟩
  exact (Device.on_putB _ _ rfl (by decide)).trans hany

/-- Whether a change of the paths must wait is read from the carriers' states. -/
theorem mustWait_congr {e : Device} (h : ∀ c, c < 4 → e.rd (carStat c) = d.rd (carStat c)) : e.mustWait = d.mustWait := by
  have hcar : ∀ c, c < 4 → e.carState c = d.carState c := fun c hc => by simp only [Device.carState, Device.get, fCarStatState, h c hc]
  simp only [Device.mustWait, show List.range 4 = [0, 1, 2, 3] from rfl, List.any_cons, hcar 0 (by decide), hcar 1 (by decide), hcar 2 (by decide),
    hcar 3 (by decide)]
  rfl

/-! #### A fault is recorded (R254) -/

variable (causes : BitVec 7)

theorem rd_faultRecord {a : Nat} (hf : a ≠ pathFault p) (hi : a ≠ irqStat (0x40 + p)) : (d.faultRecord p causes).rd a = d.rd a := by
  rw [Device.faultRecord, Device.rd_irq_ne _ _ _ _ hi, Device.count_eq, Device.rd_put_ne _ _ _ _ hf, Device.rd_put_ne _ _ _ _ hf]

theorem faultRecord_same : d.faultRecord p causes = { d with regs := (d.faultRecord p causes).regs } := by
  rw [Device.faultRecord, irq_same]
  rfl

theorem fault_ne_irqStat : pathFault p ≠ irqStat (0x40 + p) := by simp only [pathFault, irqStat, wordAt]; omega

/-- The causes found join those that are recorded. -/
theorem or_causes_lt : d.get (fPathFaultCause p) ||| causes.toNat < 128 :=
  Nat.or_lt_two_pow (n := 7) (bitsOf_lt _ 6 0) causes.isLt

theorem get_cause_put : (d.put (fPathFaultCause p) (d.get (fPathFaultCause p) ||| causes.toNat)).get (fPathFaultCause p)
    = d.get (fPathFaultCause p) ||| causes.toNat := by
  rw [Device.get_put_same _ _ _ (by simp [fPathFaultCause]) (by simp [fPathFaultCause])]
  exact Nat.mod_eq_of_lt (or_causes_lt d p causes)

theorem get_cause_faultRecord : (d.faultRecord p causes).get (fPathFaultCause p) = d.get (fPathFaultCause p) ||| causes.toNat := by
  rw [Device.faultRecord, Device.get_irq_ne _ _ _ _ (fault_ne_irqStat p), Device.count_eq,
    Device.get_put_apart _ _ _ _ (by simp [fPathFaultCount]) (by simp [fPathFaultCount]) (.inl (by simp [fPathFaultCause, fPathFaultCount])), get_cause_put]

theorem get_count_faultRecord : (d.faultRecord p causes).get (fPathFaultCount p) = min (d.get (fPathFaultCount p) + 1) 0xFF := by
  have hcount : ∀ v, (d.put (fPathFaultCause p) v).get (fPathFaultCount p) = d.get (fPathFaultCount p) := fun v =>
    Device.get_put_apart _ _ _ _ (by simp [fPathFaultCause]) (by simp [fPathFaultCause]) (.inr (by simp [fPathFaultCause, fPathFaultCount]))
  rw [Device.faultRecord, Device.get_irq_ne _ _ _ _ (fault_ne_irqStat p), Device.count_eq,
    Device.get_put_same _ _ _ (by simp [fPathFaultCount]) (by simp [fPathFaultCount]), hcount]
  simp only [fPathFaultCount]
  omega

/-- A fault records its event on a live page whose IRQ_EN bit is 1. -/
theorem on_irqStat_faultRecord (hon : d.on ⟨irqEn (0x40 + p), 0, 0⟩ = true) (hl : d.pageLive (0x40 + p) = true) :
    (d.faultRecord p causes).on ⟨irqStat (0x40 + p), 0, 0⟩ = true := by
  have hrd : ∀ (e : Device) (f : Fld) (v a : Nat), f.reg = pathFault p → a ≠ pathFault p → (e.put f v).rd a = e.rd a :=
    fun e f v a hf ha => Device.rd_put_ne _ _ _ _ (hf ▸ ha)
  have hkept : ∀ a, a ≠ pathFault p → ((d.put (fPathFaultCause p) (d.get (fPathFaultCause p) ||| causes.toNat)).count (fPathFaultCount p)).rd a = d.rd a :=
    fun a ha => by rw [Device.count_eq, hrd _ _ _ _ rfl ha, hrd _ _ _ _ rfl ha]
  refine on_irq (by decide) ((on_of_rd (hkept _ ?_)).trans hon) ((pageLive_congr (hkept _ ?_) (on_of_rd (hkept _ ?_)) (hkept _ ?_) rfl).trans hl)
  · simp only [irqEn, pathFault, wordAt]; omega
  · simp only [pageCtrl, pathFault, wordAt]; omega
  · simp only [fPsReleasePending, pageStat, pathFault, wordAt]; omega
  · simp only [clkGood, pathFault]; omega

end

end Sys2Proof.Machine


namespace Sys2Proof.Machine

/-! ### A path comes on (R251) -/

theorem pathState_settle {d : Device} (hd : d.NoRemote) (p : Nat) : d.settle.pathState p = d.pathState p :=
  get_pilotPage_settle hd (by simp only [fPsState, pageStat, wordAt]; omega)

theorem on_pathPage_settle {d : Device} (hd : d.NoRemote) {f : Fld} (hf : 0x20 * 1024 ≤ f.reg) : d.settle.on f = d.on f :=
  on_of_get (get_pilotPage_settle hd hf)

theorem muted_settle {d : Device} (hd : d.NoRemote) (p : Nat) : d.settle.mutedPath p = d.mutedPath p := by
  rw [Device.mutedPath, settle_rd d hd _ (by decide), settle_rd d hd _ (by decide), Device.mutedPath]

theorem dead_settle {d : Device} (hd : d.NoRemote) (p : Nat) : d.settle.pathDead p = d.pathDead p := by
  rw [Device.pathDead, settle_rd d hd _ (by decide), settle_rd d hd _ (by decide), Device.pathDead]

theorem Device.Silent.settle {d : Device} {p : Nat} (h : d.Silent p) (hd : d.NoRemote) : d.settle.Silent p := h.of_bf (by rw [settle_bf d hd])

/-- The words of the PATH pages are out of reach of settling. -/
theorem path_page_le {p a : Nat} (h : a / 1024 = 0x40 + p) : 0x20 * 1024 ≤ a := by omega

theorem pageStat_page (p : Nat) : pageStat (0x40 + p) / 1024 = 0x40 + p := by simp only [pageStat, wordAt]; omega

theorem pageCtrl_page (p : Nat) : pageCtrl (0x40 + p) / 1024 = 0x40 + p := by simp only [pageCtrl, wordAt]; omega

theorem irqStat_page (p : Nat) : irqStat (0x40 + p) / 1024 = 0x40 + p := by simp only [irqStat, wordAt]; omega

section
variable {s : State} (hn : s.dev.NoRemote) (p : Fin 64)
include hn

theorem pathEnable_completes {w : RegWrite} (hlive : s.dev.pageInReset (0x40 + p.val) = false) (hrst : w.value.getLsbD 1 = false)
    (ha : s.dev.applies (pageCtrl (0x40 + p.val)) ((fPcEn (0x40 + p.val)).set w.value 1) w.be = true) (hst : s.dev.pathState p.val = 0) :
    Completes (.pathEnable p w) s (fun e => e.pathState p.val = 1 ∧ e.on (fPcEn (0x40 + p.val)) = true ∧ e.on (fPsBusy (0x40 + p.val)) = true
      ∧ e.pathQueue = s.dev.pathQueue ++ [p.val]) := by
  have hone : ((fPcEn (0x40 + p.val)).set w.value 1).getLsbD 0 = true := (getLsbD_setEn (0x40 + p.val) w.value 1).1
  have hone' := (getLsbD_setEn (0x40 + p.val) w.value 1).2
  refine pathCtrl_completes hn rfl ha p.isLt (hone'.trans hrst) hlive (.inl hone) (fun e hget _ hqueue _ => ?_)
  obtain ⟨v, hv⟩ : ∃ v, v = (fPcEn (0x40 + p.val)).set w.value 1 := ⟨_, rfl⟩
  rw [← hv] at hone hget hqueue
  have hoff : (s.dev.pageStored (0x40 + p.val) v w.be).pathState p.val = 0 := (get_pageStored_stat rfl (.inl (by simp [fPsState]))).trans hst
  have hen : (s.dev.pageStored (0x40 + p.val) v w.be).on (fPcEn (0x40 + p.val)) = true := by
    rw [fPcEn, on_pageStored_ctrl, BitVec.getLsbD_and, hone]
    rfl
  have hq : (s.dev.pageStored (0x40 + p.val) v w.be).pathQueue = s.dev.pathQueue := by
    simp [Device.pageStored, Device.arrived, Device.enqueue, Device.showQueue, Device.mirrorWritten]
  have htakes : s.dev.pageTakes (0x40 + p.val) v w.be = (s.dev.pageStored (0x40 + p.val) v w.be).pathStart p.val := by
    rw [Device.pageTakes, if_pos hone, enableStart_path p.isLt hoff]
  rw [htakes] at hget hqueue
  obtain ⟨hstate, hbusy, hlast, -, hregs⟩ := pathStart_moves (s.dev.pageStored (0x40 + p.val) v w.be) p.val
  refine ⟨(hget _ (path_page_le (pageStat_page p.val))).trans hstate, ?_, (on_of_get (hget _ (path_page_le (pageStat_page p.val)))).trans hbusy, ?_⟩
  · exact (on_of_get (hget _ (path_page_le (pageCtrl_page p.val)))).trans ((on_of_rd (hregs _ (pageCtrl_ne_stat _ _).1)).trans hen)
  · rw [hqueue, hlast, hq]

theorem pathQueueLeave_completes {q : List Nat} (hqueue : s.dev.pathQueue = p.val :: q)
    (hroom : ((List.range 64).filter (fun r => s.dev.pathState r = 2)).length < 8) :
    Completes .pathQueueLeave s (fun e => e.pathState p.val = 2 ∧ e.pathQueue = q ∧ e.get (fPathFaultCause p.val) = 0
      ∧ Device.OnlyRegs [pageStat (0x40 + p.val), pathFault p.val] s.dev e) := by
  have hn' : (pathQueueLeave s.dev).NoRemote := pathQueueLeave_closed noRemote_closed hn
  have heq : pathQueueLeave s.dev = { (s.dev.put (fPathFaultCause p.val) 0).pathGo p.val 2 with pathQueue := q } := by
    unfold pathQueueLeave
    rw [hqueue]
    dsimp only
    rw [if_pos hroom]
  have hregs : (pathQueueLeave s.dev).regs = ((s.dev.put (fPathFaultCause p.val) 0).pathGo p.val 2).regs := by rw [heq]
  have hfault : pathFault p.val ≠ pageStat (0x40 + p.val) := by simp only [pathFault, pageStat, wordAt]; omega
  refine completes_act _ rfl ⟨?_, ?_, ?_, onlyRegs_settle hn' (fun a ha => ?_) (by rw [heq]; rfl) (by rw [heq]; rfl)⟩
  · rw [pathState_settle hn']
    exact (Device.get_congr hregs _).trans (pathState_pathGo _ _ (by decide))
  · rw [settle_pathQueue _ hn', heq]
  · rw [get_pilotPage_settle hn' (by simp only [fPathFaultCause, pathFault]; omega), Device.get_congr hregs, Device.pathGo,
      Device.get_put_ne _ _ _ _ hfault, Device.get_put_same _ _ _ (by simp [fPathFaultCause]) (by simp [fPathFaultCause])]
    exact Nat.zero_mod _
  · simp only [List.mem_cons, List.not_mem_nil, or_false, not_or] at ha
    rw [Device.rd_congr hregs, rd_pathGo _ _ _ ha.1, Device.rd_put_ne _ _ _ _ ha.2]

theorem poweringEnd_completes (hst : s.dev.pathState p.val = 2) (hshut : s.dev.on (fPsShuttingDown (0x40 + p.val)) = false) :
    Completes (.poweringEnd p) s (fun e => e.pathState p.val = 3 ∧ Device.OnlyRegs [pageStat (0x40 + p.val)] s.dev e) := by
  have hn' : (poweringEnd p.val s.dev).NoRemote := poweringEnd_closed noRemote_closed hn
  have heq : poweringEnd p.val s.dev = s.dev.pathGo p.val 3 := by
    unfold poweringEnd
    rw [if_neg (by simp [hst]), if_neg (by simp [Device.pathStopping, hshut])]
  refine completes_act (poweringEnd p.val) rfl ?_
  rw [heq] at hn' ⊢
  refine ⟨(pathState_settle hn' _).trans (pathState_pathGo _ _ (by decide)), onlyRegs_settle hn' (fun a ha => ?_) rfl rfl⟩
  exact rd_pathGo _ _ _ (fun h => ha (List.mem_singleton.2 h))

/-- The kept correction as DPD_STAT shows it. -/
theorem restoringEnd_completes (hst : s.dev.pathState p.val = 3) (hshut : s.dev.on (fPsShuttingDown (0x40 + p.val)) = false) :
    Completes (.restoringEnd p) s (fun e => e.pathState p.val = 4
      ∧ e.get (fPathDpdStatTemp p.val) = (s.dev.path p.val).dpdTemp % 256
      ∧ e.get (fPathDpdStatGen p.val) = (s.dev.path p.val).dpdGen % 65536
      ∧ Device.OnlyRegs [pageStat (0x40 + p.val), pathDpdStat p.val, pathSpares p.val] s.dev e) := by
  have hn' : (restoringEnd p.val s.dev).NoRemote := restoringEnd_closed noRemote_closed hn
  obtain ⟨d, hd⟩ : ∃ d, d = (s.dev.put (fPathDpdStatTemp p.val) (s.dev.path p.val).dpdTemp).put (fPathDpdStatGen p.val) (s.dev.path p.val).dpdGen := ⟨_, rfl⟩
  have hspares : ∀ a, a ≠ pathSpares p.val → (d.showSpares p.val).rd a = d.rd a := fun a ha => by
    unfold Device.showSpares
    dsimp only
    rw [Device.rd_put_ne _ _ _ _ ha, Device.rd_put_ne _ _ _ _ ha, Device.putB_eq, Device.rd_put_ne _ _ _ _ ha, Device.rd_put_ne _ _ _ _ ha]
  have hdpd : ∀ a, a ≠ pathDpdStat p.val → d.rd a = s.dev.rd a := fun a ha => by
    rw [hd, Device.rd_put_ne _ _ _ _ ha, Device.rd_put_ne _ _ _ _ ha]
  have happart : pathDpdStat p.val ≠ pageStat (0x40 + p.val) ∧ pathDpdStat p.val ≠ pathSpares p.val ∧ pageStat (0x40 + p.val) ≠ pathSpares p.val := by
    simp only [pathDpdStat, pathSpares, pageStat, wordAt]
    omega
  obtain ⟨hdpdStat, hdpdSpares, hstatSpares⟩ := happart
  have hrun : (d.showSpares p.val).pathStopping p.val = false :=
    (on_of_rd ((hspares _ hstatSpares).trans (hdpd _ hdpdStat.symm))).trans hshut
  have heq : restoringEnd p.val s.dev = (d.showSpares p.val).pathGo p.val 4 := by
    unfold restoringEnd
    dsimp only
    rw [if_neg (by simp [hst]), ← hd, if_neg (by simp [hrun])]
  have hshown : ∀ f : Fld, f.reg = pathDpdStat p.val → ((d.showSpares p.val).pathGo p.val 4).settle.get f = d.get f := fun f hf => by
    rw [heq] at hn'
    rw [get_pilotPage_settle hn' (by rw [hf, pathDpdStat]; omega), Device.get, rd_pathGo _ _ _ (hf ▸ hdpdStat), hspares _ (hf ▸ hdpdSpares), Device.get]
  refine completes_act (restoringEnd p.val) rfl ?_
  rw [heq] at hn' ⊢
  refine ⟨(pathState_settle hn' _).trans (pathState_pathGo _ _ (by decide)), ?_, ?_, onlyRegs_settle hn' (fun a ha => ?_) (by rw [hd]; rfl) (by rw [hd]; rfl)⟩
  · rw [hshown _ rfl, hd, Device.get_put_apart _ _ _ _ (by simp [fPathDpdStatGen]) (by simp [fPathDpdStatGen])
      (.inl (by simp [fPathDpdStatGen, fPathDpdStatTemp])), Device.get_put_same _ _ _ (by simp [fPathDpdStatTemp]) (by simp [fPathDpdStatTemp])]
    simp [fPathDpdStatTemp]
  · rw [hshown _ rfl, hd, Device.get_put_same _ _ _ (by simp [fPathDpdStatGen]) (by simp [fPathDpdStatGen])]
    simp [fPathDpdStatGen]
  · simp only [List.mem_cons, List.not_mem_nil, or_false, not_or] at ha
    obtain ⟨hstat, hdpdA, hsparesA⟩ := ha
    rw [rd_pathGo _ _ _ hstat, hspares _ hsparesA, hdpd _ hdpdA]

theorem joinRampEnd_completes (hst : s.dev.pathState p.val = 5) (hjoined : (s.dev.path p.val).joined = true) :
    Completes (.joinRampEnd p) s (fun e => e.pathState p.val = 6 ∧ e.on (fPsBusy (0x40 + p.val)) = false
      ∧ Device.OnlyRegs [pageStat (0x40 + p.val)] s.dev e) := by
  have hn' : (joinRampEnd p.val s.dev).NoRemote := joinRampEnd_closed noRemote_closed hn
  have heq : joinRampEnd p.val s.dev = (s.dev.put (fPsBusy (0x40 + p.val)) 0).pathGo p.val 6 := by
    unfold joinRampEnd
    rw [if_pos (by simp [hst, hjoined])]
  have hbusy := on_put_bit s.dev (pageStat (0x40 + p.val)) 4 0 (by decide)
  refine completes_act (joinRampEnd p.val) rfl ?_
  rw [heq] at hn' ⊢
  refine ⟨(pathState_settle hn' _).trans (pathState_pathGo _ _ (by decide)), ?_, onlyRegs_settle hn' (fun a ha => ?_) rfl rfl⟩
  · rw [on_pathPage_settle hn' (path_page_le (pageStat_page p.val)), on_pathGo _ _ _ (by simp [fPsBusy])]
    exact hbusy
  · have hstat : a ≠ pageStat (0x40 + p.val) := fun h => ha (List.mem_singleton.2 h)
    rw [rd_pathGo _ _ _ hstat, Device.rd_put_ne _ _ _ _ hstat]

end

end Sys2Proof.Machine


namespace Sys2Proof.Machine

/-! #### The self-test ends (R251, R254) -/

section
variable (d : Device) (p : Nat)

/-- A path that waits to join, or joins at once where no carrier holds it up. -/
theorem pathJoin_moves (hp : p < 64) : (d.pathJoin p).pathState p = 5 ∧ (d.pathJoin p).rd (pathIdleNf p) = d.rd (pathIdleNf p)
    ∧ (d.mustWait = true → (d.pathJoin p).cal.waits.any (fun x => x.change = .join p) = true ∧ (d.pathJoin p).on fCalStatPending = true
      ∧ ((d.pathJoin p).path p).joined = (d.path p).joined)
    ∧ (d.mustWait = false → ((d.pathJoin p).path p).joined = true ∧ (d.pathJoin p).mutedPath p = false) := by
  have hgo : (d.pathGo p 5).mustWait = d.mustWait := mustWait_congr d (fun c hc => rd_pathGo _ _ _ (by
    simp only [carStat, pageStat, wordAt]
    omega))
  have hidle : (d.pathGo p 5).rd (pathIdleNf p) = d.rd (pathIdleNf p) := rd_pathGo _ _ _ (by
    simp only [pathIdleNf, pageStat, wordAt]
    omega)
  have hstate := pathState_pathGo d p (st := 5) (by decide)
  have heq : d.pathJoin p = if d.mustWait then (d.pathGo p 5).await (.join p) else (d.pathGo p 5).joinPath p := by rw [← hgo]; rfl
  have hwords : ∀ e : Device, (∀ a, PathWord a → e.rd a = (d.pathGo p 5).rd a) → e.pathState p = 5 ∧ e.rd (pathIdleNf p) = d.rd (pathIdleNf p) :=
    fun e he => ⟨(show e.pathState p = (d.pathGo p 5).pathState p by simp only [Device.pathState, Device.get, fPsState, he _ (pathWord_stat hp)]).trans hstate,
      (he _ (pathWord_idleNf hp)).trans hidle⟩
  rw [heq]
  cases hwait : d.mustWait
  · obtain ⟨hjoined, hmuted, hin⟩ := pathIn_joins (d.pathGo p 5) p hp
    have hkept := pathsKept_joinPath (d.pathGo p 5) p
    obtain ⟨hst, hnf⟩ := hwords ((d.pathGo p 5).joinPath p) (fun a ha => (hkept.word ha).trans (hin a ha))
    rw [if_neg Bool.false_ne_true]
    exact ⟨hst, hnf, nofun, fun _ => ⟨(hkept.joined p).trans hjoined, (hkept.muted p).trans hmuted⟩⟩
  · have hkept := levelsKept_await (d.pathGo p 5) (.join p)
    obtain ⟨hst, hnf⟩ := hwords ((d.pathGo p 5).await (.join p)) (fun a ha => hkept.word ha)
    rw [if_pos rfl]
    exact ⟨hst, hnf, fun _ => ⟨any_waits_await _ _, on_pending_await _ rfl, hkept.joined p⟩, nofun⟩

/-- The path whose enable is refused, before it powers down: EN and BUSY are 0, and the mirror shows it. -/
def Device.pathRefused (d : Device) (p : Nat) : Device :=
  let e := ((d.put (fPcEn (0x40 + p)) 0).put (fPsBusy (0x40 + p)) 0).put (fPsShuttingDown (0x40 + p)) 1
  { e with mirror := storePut resetWord e.mirror (pageCtrl (0x40 + p)) (e.rd (pageCtrl (0x40 + p))) }

theorem pathRefuse_eq (causes : BitVec 7) : d.pathRefuse p causes = ((d.faultRecord p causes).pathRefused p).pathPowerDown p := rfl

theorem pathRefused_moves : (d.pathRefused p).on (fPcEn (0x40 + p)) = false
    ∧ ∀ a, a ≠ pageCtrl (0x40 + p) → a ≠ pageStat (0x40 + p) → (d.pathRefused p).rd a = d.rd a := by
  have hregs : (d.pathRefused p).regs = (((d.put (fPcEn (0x40 + p)) 0).put (fPsBusy (0x40 + p)) 0).put (fPsShuttingDown (0x40 + p)) 1).regs := by
    rw [Device.pathRefused]
  have hne : pageCtrl (0x40 + p) ≠ pageStat (0x40 + p) := (pageCtrl_ne_stat _ _).1
  have hen := on_put_bit d (pageCtrl (0x40 + p)) 0 0 (by decide)
  refine ⟨?_, fun a hc hs => ?_⟩
  · rw [on_of_get (Device.get_congr hregs _), on_of_get (Device.get_put_ne _ _ _ _ hne), on_of_get (Device.get_put_ne _ _ _ _ hne)]
    exact hen
  · rw [Device.rd_congr hregs, Device.rd_put_ne _ _ _ _ hs, Device.rd_put_ne _ _ _ _ hs, Device.rd_put_ne _ _ _ _ hc]

theorem refused_memory (causes : BitVec 7) : (((d.faultRecord p causes).pathRefused p).pathPowerDown p).sram = d.sram
    ∧ (((d.faultRecord p causes).pathRefused p).pathPowerDown p).opt = d.opt := by
  have hpower : ∀ e : Device, ((e.pathRefused p).pathPowerDown p).sram = e.sram ∧ ((e.pathRefused p).pathPowerDown p).opt = e.opt := fun _ => ⟨rfl, rfl⟩
  rw [(hpower _).1, (hpower _).2, faultRecord_same]
  exact ⟨rfl, rfl⟩

theorem rd_idleNf_settle {d : Device} {p : Nat} (h : d.NoRemote) : d.settle.rd (pathIdleNf p) = d.rd (pathIdleNf p) :=
  settle_rd d h _ (fun g hg hr => absurd ((by decide : ∀ g ∈ settleFields, g.reg < 0x20 * 1024) g hg) (by rw [hr, pathIdleNf]; omega))

end

section
variable {s : State} (hn : s.dev.NoRemote) (p : Fin 64) (nf : BitVec 16) (hst : s.dev.pathState p.val = 4)
  (hshut : s.dev.on (fPsShuttingDown (0x40 + p.val)) = false)
include hst hshut

theorem checkingEnd_eq (ok : Bool) : checkingEnd p.val nf ok s.dev
    = if ok then (s.dev.wr (pathIdleNf p.val) (nf.setWidth 32)).pathJoin p.val else (s.dev.wr (pathIdleNf p.val) (nf.setWidth 32)).pathRefuse p.val 0x40 := by
  have hrun : (s.dev.wr (pathIdleNf p.val) (nf.setWidth 32)).pathStopping p.val = false :=
    (on_of_get (Device.get_wr_ne _ _ _ _ (by simp only [fPsShuttingDown, pageStat, pathIdleNf, wordAt]; omega))).trans hshut
  unfold checkingEnd
  dsimp only
  rw [if_neg (by simp [hst]), hrun]
  cases ok <;> rfl

include hn

theorem checkingEnd_good_completes : Completes (.checkingEnd p nf true) s (fun e => e.pathState p.val = 5
    ∧ e.rd (pathIdleNf p.val) = nf.setWidth 32
    ∧ (s.dev.mustWait = true → e.cal.waits.any (fun x => x.change = .join p.val) = true ∧ e.on fCalStatPending = true
      ∧ (e.path p.val).joined = (s.dev.path p.val).joined)
    ∧ (s.dev.mustWait = false → (e.path p.val).joined = true ∧ e.mutedPath p.val = false)) := by
  have hn' : (checkingEnd p.val nf true s.dev).NoRemote := checkingEnd_closed noRemote_closed hn
  have heq := checkingEnd_eq p nf hst hshut true
  obtain ⟨d, hd⟩ : ∃ d, d = s.dev.wr (pathIdleNf p.val) (nf.setWidth 32) := ⟨_, rfl⟩
  have hnf : d.rd (pathIdleNf p.val) = nf.setWidth 32 := by rw [hd, Device.rd_wr, if_pos rfl]
  have hjoined : (d.path p.val).joined = (s.dev.path p.val).joined := by rw [hd, Device.path_wr]
  have hwait : d.mustWait = s.dev.mustWait := mustWait_congr s.dev (fun c hc => by
    rw [hd, Device.rd_wr, if_neg (by simp only [carStat, pathIdleNf]; omega)])
  rw [if_pos rfl, ← hd] at heq
  obtain ⟨hstate, hidle, hwaits, hjoins⟩ := pathJoin_moves d p.val p.isLt
  refine completes_act (checkingEnd p.val nf true) rfl ?_
  rw [heq] at hn' ⊢
  rw [hwait] at hwaits hjoins
  refine ⟨(pathState_settle hn' _).trans hstate, ?_, fun h => ?_, fun h => ?_⟩
  · rw [rd_idleNf_settle hn', hidle, hnf]
  · obtain ⟨hany, hpending, hkept⟩ := hwaits h
    refine ⟨?_, ?_, ?_⟩
    · rw [waits_settle hn', hany]
    · rw [settle_on _ hn' _ (by decide), hpending]
    · rw [Device.path_settle _ hn', hkept, hjoined]
  · rw [Device.path_settle _ hn', muted_settle hn']
    exact hjoins h

theorem checkingEnd_bad_completes : Completes (.checkingEnd p nf false) s (fun e => e.pathState p.val = 10
    ∧ e.rd (pathIdleNf p.val) = nf.setWidth 32
    ∧ e.on (fPcEn (0x40 + p.val)) = false
    ∧ (e.get (fPathFaultCause p.val)).testBit 6 = true
    ∧ e.get (fPathFaultCount p.val) = min (s.dev.get (fPathFaultCount p.val) + 1) 0xFF
    ∧ Device.raised (0x40 + p.val) 0 s.dev e
    ∧ Device.OnlyRegs [pageStat (0x40 + p.val), pathIdleNf p.val, pathFault p.val, pageCtrl (0x40 + p.val), irqStat (0x40 + p.val), pathDpdStat p.val,
        pathGain p.val, calStat] s.dev e) := by
  have hn' : (checkingEnd p.val nf false s.dev).NoRemote := checkingEnd_closed noRemote_closed hn
  have heq := checkingEnd_eq p nf hst hshut false
  obtain ⟨d, hd⟩ : ∃ d, d = s.dev.wr (pathIdleNf p.val) (nf.setWidth 32) := ⟨_, rfl⟩
  have hidle : ∀ a, a ≠ pathIdleNf p.val → d.rd a = s.dev.rd a := fun a ha => by rw [hd, Device.rd_wr, if_neg ha]
  have hmem : d.sram = s.dev.sram ∧ d.opt = s.dev.opt ∧ d.isl = s.dev.isl := by
    rw [hd]
    exact ⟨rfl, rfl, rfl⟩
  rw [if_neg Bool.false_ne_true, ← hd, pathRefuse_eq] at heq
  obtain ⟨hstate, hpower⟩ := pathPowerDown_moves ((d.faultRecord p.val 0x40).pathRefused p.val) p.val
  obtain ⟨hen, hrefused⟩ := pathRefused_moves (d.faultRecord p.val 0x40) p.val
  obtain ⟨hsram, hopt⟩ := refused_memory d p.val 0x40
  have hfault : (((d.faultRecord p.val 0x40).pathRefused p.val).pathPowerDown p.val).rd (pathFault p.val) = (d.faultRecord p.val 0x40).rd (pathFault p.val) := by
    rw [hpower, hrefused] <;>
      simp only [pathFault, pageStat, pageCtrl, pathDpdStat, pathGain, calStat, wordAt, List.mem_cons, List.not_mem_nil, or_false] <;> omega
  have hcause : ∀ f : Fld, f.reg = pathFault p.val →
      (((d.faultRecord p.val 0x40).pathRefused p.val).pathPowerDown p.val).get f = (d.faultRecord p.val 0x40).get f := fun f hf => by
    rw [Device.get, hf, hfault, Device.get, hf]
  have hpage : ∀ f : Fld, f.reg = pathFault p.val → 0x20 * 1024 ≤ f.reg := fun f hf => by
    rw [hf, pathFault]
    omega
  refine completes_act (checkingEnd p.val nf false) rfl ?_
  rw [heq] at hn' ⊢
  refine ⟨(pathState_settle hn' _).trans hstate, ?_, ?_, ?_, ?_, fun hon hl => ?_, onlyRegs_settle hn' (fun a ha => ?_) (hsram.trans hmem.1) (hopt.trans hmem.2.1)⟩
  · rw [rd_idleNf_settle hn', hpower, hrefused, rd_faultRecord, hd, Device.rd_wr, if_pos rfl] <;>
      simp only [pathFault, pageStat, pageCtrl, pathIdleNf, irqStat, pathDpdStat, pathGain, calStat, wordAt, List.mem_cons, List.not_mem_nil, or_false] <;> omega
  · rw [on_pathPage_settle hn' (path_page_le (pageCtrl_page p.val)), on_of_rd (hpower _ ?_), hen]
    simp only [fPcEn, pageStat, pageCtrl, pathDpdStat, pathGain, calStat, wordAt, List.mem_cons, List.not_mem_nil, or_false]
    omega
  · rw [get_pilotPage_settle hn' (hpage _ rfl), hcause _ rfl, get_cause_faultRecord, Nat.testBit_or]
    exact Bool.or_true _
  · rw [get_pilotPage_settle hn' (hpage _ rfl), hcause _ rfl, get_count_faultRecord, Device.get, hidle _ (by simp only [fPathFaultCount, pathFault, pathIdleNf]; omega),
      ← Device.get]
  · rw [on_pathPage_settle hn' (path_page_le (irqStat_page p.val)), on_of_rd (f := ⟨irqStat (0x40 + p.val), 0, 0⟩)
      ((hpower _ ?_).trans (hrefused _ ?_ ?_))]
    · refine on_irqStat_faultRecord _ _ _ ((on_of_rd (hidle _ ?_)).trans hon) ((pageLive_congr (hidle _ ?_) (on_of_rd (hidle _ ?_)) (hidle _ ?_) hmem.2.2).trans hl)
      all_goals
        simp only [irqEn, pageCtrl, fPsReleasePending, pageStat, clkGood, pathIdleNf, wordAt]
        omega
    all_goals
      simp only [irqStat, pageStat, pageCtrl, pathDpdStat, pathGain, calStat, wordAt, List.mem_cons, List.not_mem_nil, or_false]
      omega
  · simp only [List.mem_cons, List.not_mem_nil, or_false, not_or] at ha
    obtain ⟨hstat, hnf, hflt, hctrl, hirq, hdpd, hgain, hcal⟩ := ha
    rw [hpower _ (by simp [hstat, hdpd, hgain, hcal]), hrefused _ hctrl hstat, rd_faultRecord _ _ _ hflt hirq, hidle _ hnf]

end

end Sys2Proof.Machine


namespace Sys2Proof.Machine

/-! ### A path goes off or is muted (R189, R252, R254) -/

section
variable {d : Device} {p : Nat}

/-- A path that serves drains: it waits for a boundary, or is out of service at once and ramps down. -/
theorem pathStop_serving (hp : p < 64) (hst : d.pathState p = 6) : (d.pathStop p).pathState p = (if d.mustWait then 8 else 9)
    ∧ (d.pathStop p).on (fPsShuttingDown (0x40 + p)) = true ∧ (d.pathStop p).rd (pageCtrl (0x40 + p)) = d.rd (pageCtrl (0x40 + p))
    ∧ (d.mustWait = true → (d.pathStop p).cal.waits.any (fun x => x.change = .drain p) = true)
    ∧ (d.mustWait = false → (d.pathStop p).Silent p) := by
  obtain ⟨y, hy⟩ : ∃ y, y = ((d.put (fPsBusy (0x40 + p)) 0).put (fPsShuttingDown (0x40 + p)) 1).pathGo p 8 := ⟨_, rfl⟩
  have hregs : ∀ a, a ≠ pageStat (0x40 + p) → y.rd a = d.rd a := fun a ha => by
    rw [hy, rd_pathGo _ _ _ ha, Device.rd_put_ne _ _ _ _ ha, Device.rd_put_ne _ _ _ _ ha]
  have hwait : y.mustWait = d.mustWait := mustWait_congr d (fun c hc => hregs _ (by simp only [carStat, pageStat, wordAt]; omega))
  have hshut : y.on (fPsShuttingDown (0x40 + p)) = true := by
    rw [hy, on_pathGo _ _ _ (by simp [fPsShuttingDown])]
    exact on_put_bit _ _ 6 1 (by decide)
  have hstate : y.pathState p = 8 := by rw [hy, pathState_pathGo _ _ (by decide)]
  have hctrl : y.rd (pageCtrl (0x40 + p)) = d.rd (pageCtrl (0x40 + p)) := hregs _ (pageCtrl_ne_stat _ _).1
  have heq : d.pathStop p = if d.mustWait then y.await (.drain p) else (y.pathDrained p).pathGo p 9 := by
    rw [← hwait, hy, ← drainPath_eq]
    unfold Device.pathStop
    rw [hst]
    rfl
  rw [heq]
  cases hmust : d.mustWait
  · have hout := outOfService_pathDrained y p hp
    rw [if_neg Bool.false_ne_true]
    refine ⟨pathState_pathGo _ _ (by decide), ?_, ?_, nofun, fun _ => hout.silent.put _ _⟩
    · rw [on_pathGo _ _ _ (by simp [fPsShuttingDown]), on_of_rd (hout.words _ (pathWord_stat hp)), hshut]
    · rw [rd_pathGo _ _ _ (pageCtrl_ne_stat _ _).1, hout.words _ (pathWord_ctrl hp), hctrl]
  · have hkept := levelsKept_await y (.drain p)
    rw [if_pos rfl]
    refine ⟨?_, (on_of_rd (hkept.word (pathWord_stat hp))).trans hshut, (hkept.word (pathWord_ctrl hp)).trans hctrl, fun _ => any_waits_await _ _, nofun⟩
    rw [if_pos rfl, ← hstate]
    simp only [Device.pathState, Device.get, fPsState, hkept.word (pathWord_stat hp)]

end

section
variable {s : State} (hn : s.dev.NoRemote) (p : Fin 64)
include hn

theorem pathDisable_completes {w : RegWrite} (hlive : s.dev.pageInReset (0x40 + p.val) = false) (hrst : w.value.getLsbD 1 = false)
    (ha : s.dev.applies (pageCtrl (0x40 + p.val)) ((fPcEn (0x40 + p.val)).set w.value 0) w.be = true)
    (henq : s.dev.on (fPsEnq (0x40 + p.val)) = false) (hshut : s.dev.on (fPsShuttingDown (0x40 + p.val)) = false)
    (hen : s.dev.on (fPcEn (0x40 + p.val)) = true) (hst : s.dev.pathState p.val = 6) :
    Completes (.pathDisable p w) s (fun e => e.pathState p.val = (if s.dev.mustWait then 8 else 9)
      ∧ e.on (fPsShuttingDown (0x40 + p.val)) = true
      ∧ e.on (fPcEn (0x40 + p.val)) = false
      ∧ (s.dev.mustWait = true → e.cal.waits.any (fun x => x.change = .drain p.val) = true)
      ∧ (s.dev.mustWait = false → ∀ k : Fin 48, e.weight k.val p.val = 0)) := by
  have hzero : ((fPcEn (0x40 + p.val)).set w.value 0).getLsbD 0 = false := (getLsbD_setEn (0x40 + p.val) w.value 0).1
  have hzero' := (getLsbD_setEn (0x40 + p.val) w.value 0).2
  refine pathCtrl_completes hn rfl ha p.isLt (hzero'.trans hrst) hlive (.inr hen) (fun e hget hbf _ hwaits => ?_)
  obtain ⟨v, hv⟩ : ∃ v, v = (fPcEn (0x40 + p.val)).set w.value 0 := ⟨_, rfl⟩
  rw [← hv] at hzero hget hbf hwaits
  obtain ⟨d, hd⟩ : ∃ d, d = s.dev.pageStored (0x40 + p.val) v w.be := ⟨_, rfl⟩
  have hserves : d.pathState p.val = 6 := by rw [hd]; exact (get_pageStored_stat rfl (.inl (by simp [fPsState]))).trans hst
  have henq' : d.on (fPsEnq (0x40 + p.val)) = false := by rw [hd, on_pageStored_stat rfl (.inr (by simp [fPsEnq])), henq]
  have hshut' : d.on (fPsShuttingDown (0x40 + p.val)) = false := by rw [hd, on_pageStored_stat rfl (.inr (by simp [fPsShuttingDown])), hshut]
  have hoff : d.on (fPcEn (0x40 + p.val)) = false := by
    rw [hd, fPcEn, on_pageStored_ctrl, BitVec.getLsbD_and, hzero, Bool.false_and]
  have hwait : d.mustWait = s.dev.mustWait := mustWait_congr s.dev (fun c hc => by
    rw [hd, rd_pageStored] <;> simp only [carStat, hbusStat, pageStat, pageCtrl, wordAt] <;> omega)
  have htakes : s.dev.pageTakes (0x40 + p.val) v w.be = d.pathStop p.val := by
    rw [Device.pageTakes, if_neg (by rw [hzero]; exact Bool.false_ne_true), hen, ← hd, enableStop_path p.isLt henq' hshut' (by rw [hserves]; decide)]
  rw [htakes] at hget hbf hwaits
  obtain ⟨hstate, hdown, hctrl, hdrain, hsilent⟩ := pathStop_serving p.isLt hserves
  rw [hwait] at hstate hdrain hsilent
  refine ⟨(hget _ (path_page_le (pageStat_page p.val))).trans hstate, ?_, ?_, fun h => ?_, fun h k => ?_⟩
  · exact (on_of_get (hget _ (path_page_le (pageStat_page p.val)))).trans hdown
  · exact (on_of_get (hget _ (path_page_le (pageCtrl_page p.val)))).trans ((on_of_rd hctrl).trans hoff)
  · rw [hwaits]
    exact hdrain h
  · exact (hsilent h).of_bf (by rw [hbf]) k.val k.isLt

theorem pathRampDownEnd_completes (hst : s.dev.pathState p.val = 9) : Completes (.pathRampDownEnd p) s (fun e => e.pathState p.val = 10
    ∧ Device.OnlyRegs [pageStat (0x40 + p.val), pathDpdStat p.val, pathGain p.val, calStat] s.dev e) := by
  have hn' : (pathRampDownEnd p.val s.dev).NoRemote := pathRampDownEnd_closed noRemote_closed hn
  have heq : pathRampDownEnd p.val s.dev = s.dev.pathPowerDown p.val := by rw [pathRampDownEnd, if_pos hst]
  obtain ⟨hstate, hregs⟩ := pathPowerDown_moves s.dev p.val
  refine completes_act (pathRampDownEnd p.val) rfl ?_
  rw [heq] at hn' ⊢
  exact ⟨(pathState_settle hn' _).trans hstate, onlyRegs_settle hn' hregs rfl rfl⟩

omit hn in
/-- The end of POWERING_DOWN, with the re-enable that a queued EN brings (R66). -/
theorem powerDownEnd_moves {d : Device} {p : Nat} (hst : d.pathState p = 10) :
    (powerDownEnd p d).pathState p = (d.on (fPsEnq (0x40 + p))).toNat
    ∧ (powerDownEnd p d).on (fPsShuttingDown (0x40 + p)) = false ∧ (powerDownEnd p d).on (fPsEnq (0x40 + p)) = false
    ∧ (∀ a, a ≠ pageStat (0x40 + p) → (powerDownEnd p d).rd a = d.rd a)
    ∧ (powerDownEnd p d).sram = d.sram ∧ (powerDownEnd p d).opt = d.opt := by
  obtain ⟨g, hg⟩ : ∃ g, g = (d.put (fPsShuttingDown (0x40 + p)) 0).pathGo p 0 := ⟨_, rfl⟩
  have hshut : g.on (fPsShuttingDown (0x40 + p)) = false := by
    rw [hg, on_pathGo _ _ _ (by simp [fPsShuttingDown])]
    exact on_put_bit _ _ 6 0 (by decide)
  have henq : g.on (fPsEnq (0x40 + p)) = d.on (fPsEnq (0x40 + p)) := by
    rw [hg, on_pathGo _ _ _ (by simp [fPsEnq]), on_of_get (Device.get_put_apart _ _ _ _ (by simp [fPsShuttingDown]) (by simp [fPsShuttingDown])
      (.inl (by simp [fPsEnq, fPsShuttingDown])))]
  have hregs : ∀ a, a ≠ pageStat (0x40 + p) → g.rd a = d.rd a := fun a ha => by rw [hg, rd_pathGo _ _ _ ha, Device.rd_put_ne _ _ _ _ ha]
  have hmem : g.sram = d.sram ∧ g.opt = d.opt := by
    rw [hg]
    exact ⟨rfl, rfl⟩
  have heq : powerDownEnd p d = if d.on (fPsEnq (0x40 + p)) then (g.put (fPsEnq (0x40 + p)) 0).pathStart p else g := by
    rw [← henq, hg]
    unfold powerDownEnd
    rw [if_neg (by simp [hst])]
  rw [heq]
  cases hq : d.on (fPsEnq (0x40 + p))
  · rw [if_neg Bool.false_ne_true]
    exact ⟨by rw [hg, pathState_pathGo _ _ (by decide)]; rfl, hshut, henq.trans hq, hregs, hmem⟩
  · obtain ⟨hone, -, -, hstat, hstart⟩ := pathStart_moves (g.put (fPsEnq (0x40 + p)) 0) p
    rw [if_pos rfl]
    refine ⟨hone, ?_, ?_, fun a ha => ?_, hmem⟩
    · rw [hstat _ (by simp [fPsShuttingDown]) (by simp [fPsShuttingDown]), on_of_get (Device.get_put_apart _ _ _ _ (by simp [fPsEnq]) (by simp [fPsEnq])
        (.inr (by simp [fPsEnq, fPsShuttingDown]))), hshut]
    · rw [hstat _ (by simp [fPsEnq]) (by simp [fPsEnq])]
      exact on_put_bit _ _ 5 0 (by decide)
    · rw [hstart a ha, Device.rd_put_ne _ _ _ _ ha, hregs a ha]

theorem powerDownEnd_completes {c : Instr} (hc : c = .powerDownEnd p ∨ c = .shutdownComplete (.path p)) (hst : s.dev.pathState p.val = 10) :
    Completes c s (fun e => e.pathState p.val = (s.dev.on (fPsEnq (0x40 + p.val))).toNat
      ∧ e.on (fPsShuttingDown (0x40 + p.val)) = false
      ∧ e.on (fPsEnq (0x40 + p.val)) = false
      ∧ Device.OnlyRegs [pageStat (0x40 + p.val)] s.dev e) := by
  have hexec : exec c s = act (powerDownEnd p.val) s := by rcases hc with rfl | rfl <;> rfl
  have hn' : (powerDownEnd p.val s.dev).NoRemote := powerDownEnd_closed noRemote_closed hn
  obtain ⟨hstate, hshut, henq, hregs, hsram, hopt⟩ := powerDownEnd_moves hst
  refine completes_act _ hexec ⟨(pathState_settle hn' _).trans hstate, ?_, ?_,
    onlyRegs_settle hn' (fun a ha => hregs a (fun h => ha (List.mem_singleton.2 h))) hsram hopt⟩
  · rw [on_pathPage_settle hn' (path_page_le (pageStat_page p.val)), hshut]
  · rw [on_pathPage_settle hn' (path_page_le (pageStat_page p.val)), henq]

end

end Sys2Proof.Machine


namespace Sys2Proof.Machine

/-! #### A fault mutes the path (R189, R254, R305) -/

section
variable (d : Device) (p : Nat)

/-- A path's DEAD bit as given, before the count of dead paths follows. -/
def Device.deadBit (d : Device) (p : Nat) (b : Bool) : Device :=
  if p < 32 then d.putB ⟨repDeadLo, p, p⟩ b else d.putB ⟨repDeadHi, p - 32, p - 32⟩ b

theorem setDead_eq (b : Bool) : d.setDead p b = (d.deadBit p b).put fRepPoolsDeadPaths ((List.range 64).filter (d.deadBit p b).pathDead).length := rfl

theorem pathDead_congr {e : Device} (hlo : e.rd repDeadLo = d.rd repDeadLo) (hhi : e.rd repDeadHi = d.rd repDeadHi) : e.pathDead p = d.pathDead p := by
  rw [Device.pathDead, hlo, hhi, Device.pathDead]

theorem pathDead_setDead (hp : p < 64) (b : Bool) : (d.setDead p b).pathDead p = b := by
  have hbit : (d.deadBit p b).pathDead p = b := by
    unfold Device.deadBit Device.pathDead
    by_cases h : p < 32
    · rw [if_pos h, if_pos h, ← Device.on_bit, Device.on_putB _ _ rfl h]
    · rw [if_neg h, if_neg h, ← Device.on_bit, Device.on_putB _ _ rfl (show p - 32 < 32 by omega)]
  rw [setDead_eq, pathDead_congr _ _ (Device.rd_put_ne _ _ _ _ (by decide)) (Device.rd_put_ne _ _ _ _ (by decide)), hbit]

theorem levelsKept_setDead (b : Bool) : Device.LevelsKept d (d.setDead p b) := by
  rw [setDead_eq]
  refine Device.LevelsKept.trans ?_ (levelsKept_put _ _ (levelApart_page (by decide) (by decide)))
  unfold Device.deadBit
  split
  · exact levelsKept_put d _ (levelApart_page (show repDeadLo < 0x40 * 1024 by decide) (show repDeadLo / 1024 ≠ 0x16 by decide))
  · exact levelsKept_put d _ (levelApart_page (show repDeadHi < 0x40 * 1024 by decide) (show repDeadHi / 1024 ≠ 0x16 by decide))

theorem levelsKept_queueRecord (r : List Byte) : Device.LevelsKept d (d.queueRecord r) := by
  unfold Device.queueRecord
  split
  · exact .of_apart rfl rfl
  · exact levelsKept_put d _ (levelApart_page (by decide) (by decide))

theorem pathDead_queueRecord (r : List Byte) : (d.queueRecord r).pathDead p = d.pathDead p := by
  unfold Device.queueRecord
  split
  · exact pathDead_congr d p (Device.rd_modRep _ _ _) (Device.rd_modRep _ _ _)
  · rw [Device.count_eq]
    exact pathDead_congr d p (Device.rd_put_ne _ _ _ _ (by decide)) (Device.rd_put_ne _ _ _ _ (by decide))

variable {d p}

theorem Device.Silent.setDead (h : d.Silent p) (b : Bool) : (d.setDead p b).Silent p := by
  rw [setDead_eq]
  refine Device.Silent.put ?_ _ _
  unfold Device.deadBit
  split
  · exact h.put _ _
  · exact h.put _ _

theorem Device.Silent.queueRecord (h : d.Silent p) (r : List Byte) : (d.queueRecord r).Silent p := by
  unfold Device.queueRecord
  split
  · exact h.of_bf rfl
  · exact h.put _ _

/-- A path whose spares are used up is dead from its mute on, with a record that waits to be written (R305). -/
def Device.deadRecorded (d : Device) (p : Nat) (causes : BitVec 7) : Device :=
  if causes &&& 0x18 != 0 && !d.pathDead p then (d.setDead p true).queueRecord (mapRecord 4 p 0 0xFF d.origin) else d

theorem deadRecorded_keeps (hp : p < 64) (causes : BitVec 7) : Device.LevelsKept d (d.deadRecorded p causes)
    ∧ (d.Silent p → (d.deadRecorded p causes).Silent p) ∧ (causes &&& 0x18 ≠ 0 → (d.deadRecorded p causes).pathDead p = true) := by
  unfold Device.deadRecorded
  split
  · exact ⟨(levelsKept_setDead d p true).trans (levelsKept_queueRecord _ _), fun h => (h.setDead true).queueRecord _,
      fun _ => by rw [pathDead_queueRecord, pathDead_setDead d p hp]⟩
  · next h =>
    have hdead : ¬ causes &&& 0x18 = 0 → d.pathDead p = true := by simpa using h
    exact ⟨.refl d, id, hdead⟩

theorem mutePath_eq (causes : BitVec 7) : d.mutePath p causes
    = ((((d.faultRecord p causes).put (fPsBusy (0x40 + p)) 0).cutPath p).pathGo p 7).deadRecorded p causes := rfl

theorem mutedPath_pathGo (q st : Nat) : (d.pathGo q st).mutedPath p = d.mutedPath p := by
  have hlo : bfMutedLo ≠ pageStat (0x40 + q) := by simp only [bfMutedLo, pageStat, wordAt]; omega
  have hhi : bfMutedHi ≠ pageStat (0x40 + q) := by simp only [bfMutedHi, pageStat, wordAt]; omega
  rw [Device.mutedPath, rd_pathGo _ _ _ hlo, rd_pathGo _ _ _ hhi, Device.mutedPath]

/-- MUTED begins: the path is out of service, and only PAGE_STAT moves beside the fault's record. -/
theorem mutePath_moves (hp : p < 64) (causes : BitVec 7) : (d.mutePath p causes).pathState p = 7
    ∧ (∀ a, PathWord a → a ≠ pageStat (0x40 + p) → (d.mutePath p causes).rd a = (d.faultRecord p causes).rd a)
    ∧ (d.mutePath p causes).Silent p ∧ (d.mutePath p causes).mutedPath p = true ∧ ((d.mutePath p causes).path p).joined = false
    ∧ (d.mutePath p causes).get (fPathTxpwrNowLevel p) = 0x80
    ∧ (causes &&& 0x18 ≠ 0 → (d.mutePath p causes).pathDead p = true) := by
  obtain ⟨f, hf⟩ : ∃ f, f = (d.faultRecord p causes).put (fPsBusy (0x40 + p)) 0 := ⟨_, rfl⟩
  have hbusy : ∀ a, a ≠ pageStat (0x40 + p) → f.rd a = (d.faultRecord p causes).rd a := fun a ha => by rw [hf, Device.rd_put_ne _ _ _ _ ha]
  have hcut := outOfService_cutPath f p hp
  obtain ⟨hkept, hsilent, hdead⟩ := deadRecorded_keeps (d := (f.cutPath p).pathGo p 7) hp causes
  rw [mutePath_eq, ← hf]
  refine ⟨?_, fun a ha hs => ?_, hsilent (hcut.silent.put _ _), ?_, ?_, ?_, hdead⟩
  · rw [Device.pathState, Device.get, fPsState, hkept.word (pathWord_stat hp)]
    exact pathState_pathGo _ p (by decide)
  · rw [hkept.word ha, rd_pathGo _ _ _ hs, hcut.words a ha, hbusy a hs]
  · rw [hkept.muted, mutedPath_pathGo, hcut.muted]
  · rw [hkept.joined, Device.pathGo, Device.path_put, hcut.joined]
  · rw [hkept.level, Device.pathGo, Device.get_put_ne _ _ _ _ (by simp only [fPathTxpwrNowLevel, fPsState, pathTxpwrNow, pageStat, wordAt]; omega), hcut.level]

end

section
variable {s : State} (hn : s.dev.NoRemote) (p : Fin 64) {causes : BitVec 7} (hc : causes ≠ 0)
include hn hc

theorem pathFault_mutes_completes (hst : s.dev.pathState p.val = 5 ∨ s.dev.pathState p.val = 6) :
    Completes (.pathFault p causes) s (fun e => e.pathState p.val = 7
      ∧ e.get (fPathFaultCause p.val) = s.dev.get (fPathFaultCause p.val) ||| causes.toNat
      ∧ e.get (fPathFaultCount p.val) = min (s.dev.get (fPathFaultCount p.val) + 1) 0xFF
      ∧ (∀ k : Fin 48, e.weight k.val p.val = 0)
      ∧ e.mutedPath p.val = true
      ∧ (e.path p.val).joined = false
      ∧ e.get (fPathTxpwrNowLevel p.val) = 0x80
      ∧ Device.raised (0x40 + p.val) 0 s.dev e
      ∧ (causes &&& 0x18 ≠ 0 → e.pathDead p.val = true)) := by
  have hn' : (s.dev.pathFails p.val causes).NoRemote := Device.pathFails_closed noRemote_closed hn
  have heq : s.dev.pathFails p.val causes = s.dev.mutePath p.val causes := by
    unfold Device.pathFails
    rw [if_neg hc]
    rcases hst with h | h <;> rw [h] <;> rfl
  have hfault : pathFault p.val ≠ pageStat (0x40 + p.val) := by simp only [pathFault, pageStat, wordAt]; omega
  have hirq : irqStat (0x40 + p.val) ≠ pageStat (0x40 + p.val) := by simp only [irqStat, pageStat, wordAt]; omega
  obtain ⟨hstate, hwords, hsilent, hmuted, hjoined, hlevel, hdead⟩ := mutePath_moves (d := s.dev) p.isLt causes
  have hrecord : ∀ f : Fld, f.reg = pathFault p.val → (s.dev.mutePath p.val causes).get f = (s.dev.faultRecord p.val causes).get f := fun f hf => by
    rw [Device.get, hf, hwords _ (pathWord_fault p.isLt) hfault, Device.get, hf]
  refine completes_act (fun d => d.pathFails p.val causes) rfl ?_
  rw [heq] at hn' ⊢
  refine ⟨(pathState_settle hn' _).trans hstate, ?_, ?_, fun k => hsilent.settle hn' k.val k.isLt, ?_, ?_, ?_, fun hon hl => ?_, fun h => ?_⟩
  · rw [get_pilotPage_settle hn' (by simp only [fPathFaultCause, pathFault]; omega), hrecord _ rfl, get_cause_faultRecord]
  · rw [get_pilotPage_settle hn' (by simp only [fPathFaultCount, pathFault]; omega), hrecord _ rfl, get_count_faultRecord]
  · rw [muted_settle hn', hmuted]
  · rw [Device.path_settle _ hn', hjoined]
  · rw [get_pilotPage_settle hn' (by simp only [fPathTxpwrNowLevel, pathTxpwrNow]; omega), hlevel]
  · rw [on_pathPage_settle hn' (path_page_le (irqStat_page p.val)),
      on_of_rd (f := ⟨irqStat (0x40 + p.val), 0, 0⟩) (hwords _ (pathWord_irqStat p.isLt) hirq)]
    exact on_irqStat_faultRecord _ _ _ hon hl
  · rw [dead_settle hn', hdead h]

/-- A path that is MUTED only gathers the causes. -/
theorem pathFault_muted_completes (hst : s.dev.pathState p.val = 7) : Completes (.pathFault p causes) s (fun e => e.pathState p.val = 7
    ∧ e.get (fPathFaultCause p.val) = s.dev.get (fPathFaultCause p.val) ||| causes.toNat
    ∧ Device.OnlyRegs [pathFault p.val] s.dev e) := by
  have hn' : (s.dev.pathFails p.val causes).NoRemote := Device.pathFails_closed noRemote_closed hn
  have heq : s.dev.pathFails p.val causes
      = s.dev.put (fPathFaultCause p.val) (s.dev.get (fPathFaultCause p.val) ||| causes.toNat) := by
    unfold Device.pathFails
    rw [if_neg hc, hst]
    rfl
  have hfault : pageStat (0x40 + p.val) ≠ pathFault p.val := by simp only [pathFault, pageStat, wordAt]; omega
  refine completes_act (fun d => d.pathFails p.val causes) rfl ?_
  rw [heq] at hn' ⊢
  refine ⟨?_, ?_, onlyRegs_settle hn' (fun a ha => Device.rd_put_ne _ _ _ _ (fun h => ha (List.mem_singleton.2 h))) rfl rfl⟩
  · exact (pathState_settle hn' _).trans ((Device.get_put_ne _ _ _ _ hfault).trans hst)
  · rw [get_pilotPage_settle hn' (by simp only [fPathFaultCause, pathFault]; omega), get_cause_put]

end

/-- Settles O31: each row of a path's way to service and out of it, from its own lemma. -/
theorem pathsJoinAndStop : Obligations.PathsJoinAndStop := by
  intro s hn
  refine ⟨fun p w => ⟨?_, ?_, ?_, ?_, ?_, ?_, ?_⟩, fun p w => ⟨?_, ?_, ?_, ?_, ?_⟩⟩
  · exact fun hlive hrst ha hst => pathEnable_completes hn p hlive hrst ha hst
  · exact fun q hqueue hroom => pathQueueLeave_completes hn p hqueue hroom
  · exact poweringEnd_completes hn p
  · exact restoringEnd_completes hn p
  · exact fun nf hst hshut => checkingEnd_good_completes hn p nf hst hshut
  · exact fun nf hst hshut => checkingEnd_bad_completes hn p nf hst hshut
  · exact joinRampEnd_completes hn p
  · exact fun hlive hrst ha henq hshut hen hst => pathDisable_completes hn p hlive hrst ha henq hshut hen hst
  · exact pathRampDownEnd_completes hn p
  · exact fun i hi hst => powerDownEnd_completes hn p hi hst
  · exact fun causes hc hst => pathFault_mutes_completes hn p hc hst
  · exact fun causes hc hst => pathFault_muted_completes hn p hc hst

end Sys2Proof.Machine
